-- ==== Sys2Proof/Word.lean ====
section
/-! DEFINITION. The data types every chapter uses: the 18-bit word of registers and data space (the chapter on
conventions, "Registers"), and the byte of frames and cryptographic values. -/

namespace Sys2Proof

/-- An 18-bit word, bits 17 down to 0. -/
abbrev Word := BitVec 18

/-- A byte of a frame, a key or a chain node. -/
abbrev Byte := BitVec 8

end Sys2Proof
end

