-- ==== Sys2Proof/Syntax.lean ====
section
/-! DEFINITION. The commands of the block, one constructor for each row of the command table. A store or load that a core makes
names the core (`c`); a step of an engine names its unit; what an outside party decides (a frame, a measurement, an outcome)
is an operand. `r` and `slot` name a ring and the slot of the descriptor whose action a command carries out. -/

namespace Sys2Proof

/-- The three Raloa-18 cores. -/
inductive CoreId where
  | a0 | a1 | s
  deriving DecidableEq, Repr

/-- The number of a core (CID). -/
def CoreId.num : CoreId → Nat
  | .a0 => 0
  | .a1 => 1
  | .s => 2

/-- The core of a number. -/
def CoreId.ofNum : Nat → CoreId
  | 0 => .a0
  | 1 => .a1
  | _ => .s

/-- A bus frame in the fields of R330: `fmt` 0 Classical, 1 FD, 2 XL, 3 LIN; `b15` IDE; `b14` RTR or RRS; `b13` BRS, SEC or
classic checksum; `b12` ESI; the identifier; SDT, VCID and AF of an XL frame; the data. -/
structure BusFrame where
  fmt : Fin 4
  b15 : Bool := false
  b14 : Bool := false
  b13 : Bool := false
  b12 : Bool := false
  ident : BitVec 29
  sdt : Byte := 0
  vcid : Byte := 0
  af : BitVec 32 := 0
  data : List Byte
  deriving DecidableEq, Repr

/-- A slow-channel message that a SENT frame completes (R298, R303): whether its CRC and framing pass, its kind 1 short,
2 enhanced 12/8, 3 enhanced 16/4, its identifier and its data. -/
structure SlowMsg where
  ok : Bool
  kind : Fin 4
  sid : Byte
  data : BitVec 16
  deriving DecidableEq, Repr

/-- The voltages of an input's land (signed) and of KL30_A in mV (R285). -/
structure LandVolts where
  land : Word
  kl30 : Word
  deriving DecidableEq, Repr

/-- An attempt to hold a target's bootstrap (R203), and whether the current reaches 15 mA in it. -/
structure HoldPulse where
  target : Fin 28
  cut : Bool
  deriving DecidableEq, Repr

/-- A port that sends (R403), and whether its frame collides on a PLCA segment. -/
structure EgressSend where
  port : Fin 10
  coll : Bool
  deriving DecidableEq, Repr

/-- The commands. -/
inductive Instr where
  /-- REGISTER_WRITE (R9): A store to an I/O register that has no row of its own takes effect as its access codes allow; a
  refused write sets WRREF and a reserved encoding sets ENCREF. -/
  | registerWrite (c : CoreId) (a : BitVec 16) (v : Word)
  /-- RC_COUNTER_READ (R9): A read of an RC field returns the count and then clears it. -/
  | rcCounterRead (c : CoreId) (a : BitVec 16)
  /-- SNAPSHOT_READ (R12): A read of the first register of a snapshot group latches the values of the whole group. -/
  | snapshotRead (c : CoreId) (a : BitVec 16)
  /-- POR (R494): KL30_A rises through the release threshold; FAWN POR, rails, trims and clocks start, RAM is cleared and S
  is released into the boot ROM. -/
  | por
  /-- RSTN_RESET (R8): A low level on RSTn makes a MOD reset. -/
  | rstnReset
  /-- MODULE_SOFTWARE_RESET (R8): A module software reset makes a MOD reset. -/
  | moduleSoftwareReset
  /-- FABRIC_LIVE (R496): The glue fabric goes live after its start-up time. -/
  | fabricLive
  /-- ACTUATION_READY (R497): ACT ends its start-up calibration; the engines then serve their latched doorbells. -/
  | actuationReady
  /-- BOOT_ROM (R498): S runs the boot ROM: it checks the candidate banks, writes ATTEMPT, REJECTED or CONFIRMED rows and
  chooses a bank. -/
  | bootRom
  /-- HANDOVER (R505): The boot ROM stops the transparent engine, writes the boot report, maps the chosen bank and jumps to
  the entry point. -/
  | handover
  /-- MIGRATION_DONE (R533): The agent's settings WRITE for a migration ends. -/
  | migrationDone
  /-- PLL0_LOST (R15): The clock monitor stops CORE-A, CORE-S and FABRIC, moves PLL0 to the precision RC and restarts them.
  -/
  | pll0Lost
  /-- CRYSTAL_LOSS (R466): No crystal edge for 0.4 µs; PLL0 moves to the precision RC, ZSW and NET are held in reset, and
  XTALLOSS is recorded. -/
  | crystalLoss
  /-- PLL0_TO_CRYSTAL (R466): Once the crystal has been stable for 1 ms, PLL0 moves phase-continuously back to the crystal
  and XTALR is set. -/
  | pll0ToCrystal
  /-- ACTOSC_LOST (R314): ACTOSC is lost; outputs hold while PLL3 coasts, then drop to the DC map as an L4 of class CLOCK.
  -/
  | actoscLost
  /-- ACT_DRIFT_CHECK (R467): Every 1 ms ACT compares ACTOSC with the crystal and records ACTDRIFT above ±2 %. -/
  | actDriftCheck (off : Bool)
  /-- RAIL_FAULT (R464): A rail outside its window for 10 µs records RAILFLT at L4. -/
  | railFault (rail : Fin 4)
  /-- L4_RESET (R477): The time selected by L4RST passes after an L4, and a MOD reset takes place. -/
  | l4Reset
  /-- ECC_WRITEBACK (R38): A corrected single-bit error is written back at the bank's next idle cycle. -/
  | eccWriteback (unit : Fin 14) (a : BitVec 21)
  /-- MARCH_START (R41): A write of MEM_MCTL.START starts March C− on a parked bank, or completes BUSY at once. -/
  | marchStart (c : CoreId) (bank : Fin 8) (preserve : Bool)
  /-- MARCH_DONE (R45): A march run ends with pass or fail; a failure fences the bank and sets MDONE. -/
  | marchDone (fails : BitVec 14) (ofs : BitVec 13) (chk : Bool)
  /-- TSWEEP_REGION (R47): The transparent engine finishes a 64-word region and writes it back; a failure fences the bank or
  TCM. -/
  | tsweepRegion (fail : Bool)
  /-- PERMIT_EXPIRY (R47): PERMIT falls 1 s after FABRIC restarts from an L3 fault. -/
  | permitExpiry
  /-- NVM_READ_ROW (R49): The READ row command reads a row of the inactive code bank. -/
  | nvmReadRow (c : CoreId)
  /-- PROGROW (R49): PROGROW programs and verifies the pushed row in the inactive bank. -/
  | progrow (c : CoreId)
  /-- ERASESECT (R49): ERASESECT erases a sector of the inactive code bank. -/
  | erasesect (c : CoreId)
  /-- ERASEBANK (R49): ERASEBANK erases the inactive code bank. -/
  | erasebank (c : CoreId)
  /-- BLANKCHK (R49): BLANKCHK checks that the inactive bank is blank. -/
  | blankchk (c : CoreId)
  /-- NVM_COMMAND_DONE (R50): A code NVM command ends, writes RESULT and sets NDONE. -/
  | nvmCommandDone (bad : Bool)
  /-- NDATA_PUSH (R49): A write of MEM_NDATA pushes one row parcel. -/
  | ndataPush (c : CoreId) (v : Word)
  /-- NDATA_POP (R49): A read of MEM_NDATA pops one parcel of a READ. -/
  | ndataPop (c : CoreId)
  /-- SS_WRITE (R54): The settings WRITE command erases the other bank and programs a new record, marker row last. -/
  | ssWrite (c : CoreId)
  /-- SS_LOAD (R56): The settings LOAD command copies the valid record's payload into the buffer. -/
  | ssLoad (c : CoreId)
  /-- SS_COMMAND_DONE (R56): A settings WRITE or LOAD ends, writes RESULT and sets SSDONE. -/
  | ssCommandDone (bad : Bool)
  /-- OTP_PROG (R59): An OTP PROG command programs and verifies one OTP word under the presence and lock conditions. -/
  | otpProg (c : CoreId) (o : BitVec 11)
  /-- OTP_DONE (R59): An OTP program ends, writes RESULT and sets OTPDONE. -/
  | otpDone (bad : Bool)
  /-- RING_ENABLE (R68): A write of RNG_RCFG.EN from 0 to 1 runs the five checks and starts the ring at slot 0. -/
  | ringEnable (c : CoreId) (r : Fin 64)
  /-- RING_DISABLE (R80): Clearing EN stops fetching, and accepted descriptors whose action has not started complete
  ABORTED. -/
  | ringDisable (c : CoreId) (r : Fin 64)
  /-- DOORBELL (R69): A store to RNG_DB from the ring's owner sets PIDX after the store buffer drains; other doorbells set
  DBREF. -/
  | doorbell (c : CoreId) (r : Fin 64) (v : BitVec 10)
  /-- DESCRIPTOR_FETCH (R77): An engine fetches and judges the next owned descriptor of a ring in its turn. -/
  | descriptorFetch (e : Fin 9)
  /-- DESCRIPTOR_NOP (R72): A NOP observes FENCE and TIMED and then completes DONE. -/
  | descriptorNop (r : Fin 64) (slot : Fin 1024)
  /-- BEGIN (R84): BEGIN claims blocks, loads their shadows and starts the transaction timeout. -/
  | begin (r : Fin 64) (slot : Fin 1024)
  /-- TXWRITE (R91): TXWRITE writes masked TX bits into a claimed block's shadow. -/
  | txwrite (r : Fin 64) (slot : Fin 1024)
  /-- COMMIT (R86): COMMIT is judged and, when accepted, asks every claimed agent to prepare. -/
  | commit (r : Fin 64) (slot : Fin 1024)
  /-- COMMIT_POINT (R87): At the commit point every claimed block applies its shadow, and COMMIT completes DONE. -/
  | commitPoint (o : Fin 8) (late : Bool)
  /-- ROLLBACK (R89): ROLLBACK discards the shadows and releases the claims. -/
  | rollback (r : Fin 64) (slot : Fin 1024)
  /-- TX_TIMEOUT (R85): A transaction whose timeout expires is rolled back and sets TXEXP. -/
  | txTimeout (o : Fin 8)
  /-- REMOTE_REQUEST (R95): A 0x88B5 request frame is checked and either discarded, answered or accepted into the slot's
  ring. -/
  | remoteRequest
  /-- COMPLETION_RESPONSE (R97): The agent sends a completion response when 8 completions are gathered or COAL has passed.
  -/
  | completionResponse (k : Fin 4)
  /-- FRAME_BOUNDARY (R104): A group's frame counter wraps to 0, and pending PWM, RAMP and WAITF steps act on it. -/
  | frameBoundary (g : Fin 16)
  /-- THREAD_WAIT_END (R110): A thread's wait ends; the pipe resumes it and applies its changes at the apply time. -/
  | threadWaitEnd (n : Fin 128)
  /-- SEQ_END (R111): END sets D to 0, completes the open descriptor DONE and stops the thread. -/
  | seqEnd (n : Fin 128)
  /-- SEQ_HOLD (R111): HOLD keeps D, completes the open descriptor DONE and stops the thread. -/
  | seqHold (n : Fin 128)
  /-- SEQ_SETD (R111): SETD sets D to the immediate. -/
  | seqSetd (n : Fin 128)
  /-- SEQ_SETDQ (R111): SETDQ sets D to Qq. -/
  | seqSetdq (n : Fin 128)
  /-- SEQ_RAMP (R111): RAMP moves D linearly to the immediate over n frames. -/
  | seqRamp (n : Fin 128)
  /-- SEQ_WAITF (R111): WAITF waits for the n-th frame boundary. -/
  | seqWaitf (n : Fin 128)
  /-- SEQ_WAITT (R111): WAITT waits a count of time units from the nominal time. -/
  | seqWaitt (n : Fin 128)
  /-- SEQ_WAITE (R111): WAITE waits for an event or a timeout and sets E. -/
  | seqWaite (n : Fin 128)
  /-- SEQ_SETC (R111): SETC loads counter C0 or C1. -/
  | seqSetc (n : Fin 128)
  /-- SEQ_DJNZ0 (R111): DJNZ0 decrements C0 and jumps if it is not zero. -/
  | seqDjnz0 (n : Fin 128)
  /-- SEQ_DJNZ1 (R111): DJNZ1 decrements C1 and jumps if it is not zero. -/
  | seqDjnz1 (n : Fin 128)
  /-- SEQ_JMP (R111): JMP jumps within the slot or the library. -/
  | seqJmp (n : Fin 128)
  /-- SEQ_CALL (R111): CALL saves the return address and jumps. -/
  | seqCall (n : Fin 128)
  /-- SEQ_RET (R111): RET jumps to the return address. -/
  | seqRet (n : Fin 128)
  /-- SEQ_SKE (R111): SKE skips the next instruction if E = 1. -/
  | seqSke (n : Fin 128)
  /-- SEQ_SETP (R111): SETP sets an engine parameter of the output. -/
  | seqSetp (n : Fin 128)
  /-- SEQ_STATUS (R111): STATUS completes the open descriptor with a status, and the thread continues. -/
  | seqStatus (n : Fin 128)
  /-- SEQ_SETT (R111): SETT loads THR. -/
  | seqSett (n : Fin 128)
  /-- SEQ_PHASE (R111): PHASE sets the output's phase from the next frame boundary. -/
  | seqPhase (n : Fin 128)
  /-- SEQ_UNDEFINED (R111): An undefined sequencer opcode is a program fault. -/
  | seqUndefined (n : Fin 128)
  /-- SEQ_RESUME (R113): A write of SEQ_GCTL.RESUME unfreezes a group and continues its suspended threads. -/
  | seqResume (c : CoreId) (g : Fin 16)
  /-- SEQ_MDATA_WRITE (R109): A write of SEQ_MDATA stores a sequencer memory word at ADDR, or discards it, and raises ADDR.
  -/
  | seqMdataWrite (c : CoreId) (v : Word)
  /-- SEQ_MDATA_READ (R635): A read of SEQ_MDATA returns the word at ADDR and raises ADDR. -/
  | seqMdataRead (c : CoreId)
  /-- ZT_SAMPLE (R114): A zone time sample reaches ACT, which corrects its rate or steps its copy. -/
  | ztSample (t : BitVec 64)
  /-- ZT_HOLDOVER (R114): No sample for 8 µs puts ACT zone time into holdover. -/
  | ztHoldover
  /-- DEADLINE (R116): A TIMED descriptor's deadline is reached, and its first change applies. -/
  | deadline (r : Fin 64) (slot : Fin 1024) (late : Bool) (held : Bool)
  /-- TPROV_EXPIRY (R120): tPROV runs out; the preparation is undone and the provisional completes REVERTED. -/
  | tprovExpiry (r : Fin 64) (slot : Fin 1024)
  /-- PROVLEAK (R122): A provisional exceeds its limit; it is undone, the target is fenced and PROVLEAK is recorded. -/
  | provleak (r : Fin 64) (slot : Fin 1024)
  /-- HSC_SET (R151): SET starts entry 0 or applies D, with an optional ramp. -/
  | hscSet (r : Fin 64) (slot : Fin 1024) (held : Bool)
  /-- HSC_OFF (R151): OFF stops the thread and applies D = 0. -/
  | hscOff (r : Fin 64) (slot : Fin 1024)
  /-- HSC_RUN (R151): RUN starts the named entry of the channel's slot. -/
  | hscRun (r : Fin 64) (slot : Fin 1024)
  /-- HSC_DIAG (R153): DIAG takes one open-load result and completes with it. -/
  | hscDiag (r : Fin 64) (slot : Fin 1024)
  /-- HSC_CLEAR (R154): CLEAR ends a short or overload latch and may ask the wire model to reset. -/
  | hscClear (r : Fin 64) (slot : Fin 1024)
  /-- HS_LIMIT_REACHED (R148): A channel's current reaches its active limit, and the channel enters LIMIT. -/
  | hsLimitReached (n : Fin 64)
  /-- HS_SHORT_EVENT (R136): A short event (limit with high VDS at tBLANK, or fast trip) turns the stage off toward RETRY or
  LATCHED. -/
  | hsShortEvent (n : Fin 64)
  /-- HS_OVERLOAD_EVENT (R137): The current stays at the limit for tOVL, and the stage turns off toward RETRY or LATCHED. -/
  | hsOverloadEvent (n : Fin 64)
  /-- HS_RESTART (R148): tRETRY elapses, and the channel restarts and consumes a budget. -/
  | hsRestart (n : Fin 64) (held : Bool)
  /-- HS_UNDERVOLTAGE (R140): The group voltage falls below VUV, and the channel enters UVOFF. -/
  | hsUndervoltage (n : Fin 64)
  /-- HS_UV_RELEASE (R140): The group has stayed above VUV + 0.5 V for tUVR, and the channel restarts. -/
  | hsUvRelease (n : Fin 64) (held : Bool)
  /-- WARM_UP_END (R135): The warm-up window ends, and the active limit becomes ILIML. -/
  | warmUpEnd (n : Fin 64)
  /-- SCNT_RESTORE (R139): After 1 s in ON or LIMIT without a short, SCNT returns to 2. -/
  | scntRestore (n : Fin 64)
  /-- VALID_MEASUREMENT (R134): A valid current measurement updates IMEAS and the on-state open-load count. -/
  | validMeasurement (n : Fin 64) (imm : Word)
  /-- OFF_STATE_CHECK (R143): The off-state pull-up check near the end of an off-time gives open, short to battery or
  present. -/
  | offStateCheck (n : Fin 64) (high : Bool) (still : Bool)
  /-- HS_OL_UNKNOWN (R144): No open-load result for 64 periods makes OL unknown and sets OLU. -/
  | hsOlUnknown (n : Fin 64)
  /-- DIAGNOSTIC_PULSE (R145): Once per DIAGP interval a filament channel lengthens one on-time to tOLMIN. -/
  | diagnosticPulse (n : Fin 64)
  /-- PREHEAT_PULSE (R149): During PREP a filament channel applies one pre-heat pulse each 1 ms. -/
  | preheatPulse (n : Fin 64)
  /-- DT_LATCH (R165): ΔT exceeds DTL, a ΔT latch sets and the output turns off. -/
  | dtLatch (o : Fin 124) (t : Word) (cs : Word)
  /-- DT_RELEASE (R165): ΔT falls to DTL − DTHYS, the latch releases and the next state is decided. -/
  | dtRelease (o : Fin 124) (t : Word) (cs : Word) (held : Bool)
  /-- TJ_LATCH (R166): The channel exceeds 175 °C, a junction latch sets and the output turns off. -/
  | tjLatch (o : Fin 124) (t : Word)
  /-- TJ_RELEASE (R166): The channel falls to 175 °C − TJHYS, and the junction latch releases. -/
  | tjRelease (o : Fin 124) (t : Word) (held : Bool)
  /-- WIRE_MODEL_UPDATE (R172): Every 1 ms each wire model updates θ and trips at TWMAX. -/
  | wireModelUpdate (o : Fin 84) (ons : List (Nat × List Word))
  /-- CHANNEL_SENSOR_FAIL (R163): A channel sensor out of range for 1 ms fences its output. -/
  | channelSensorFail (o : Fin 128)
  /-- CASE_REFERENCE_FAIL (R163): A case reference differing from the median for 100 ms fails, and its outputs use a
  fallback. -/
  | caseReferenceFail (k : Fin 12)
  /-- DIEHOT (R164): A logic die exceeds 140 °C, and DIEHOT is recorded at L1. -/
  | diehot (d : Fin 2) (t : Word)
  /-- DIEOVER (R164): A logic die exceeds 160 °C, and DIEOVER is recorded at L4. -/
  | dieover (d : Fin 2) (t : Word)
  /-- PEST_UPDATE (R179): Every 1 ms THM computes PEST and sets PBUD above PLIM. -/
  | pestUpdate (sides : List (Fin 100 × List (Nat × List Word)))
  /-- MOT_DRIVE (R208): DRIVE starts entry 0 or drives the target in DIR for a duration. -/
  | motDrive (r : Fin 64) (slot : Fin 1024)
  /-- MOT_GOTO (R208): GOTO drives a gate driver toward a ripple position. -/
  | motGoto (r : Fin 64) (slot : Fin 1024)
  /-- MOT_STOP (R208): STOP ends the drive through BRAKE or coasting. -/
  | motStop (r : Fin 64) (slot : Fin 1024)
  /-- MOT_RUN (R208): RUN starts the named entry of the target's slot. -/
  | motRun (r : Fin 64) (slot : Fin 1024)
  /-- MOT_DIAG (R209): DIAG applies the source and pull-down to an IDLE target. -/
  | motDiag (r : Fin 64) (slot : Fin 1024)
  /-- MOT_DIAG_DONE (R209): After 6 ms DIAG completes with short, open or present. -/
  | motDiagDone (t : Fin 28) (top : Bool) (bottom : Bool) (apart : Bool)
  /-- MOT_CLEAR (R210): CLEAR ends a short or gate latch. -/
  | motClear (r : Fin 64) (slot : Fin 1024)
  /-- SETPOS (R198): SETPOS writes MOT_POS and sets POSV. -/
  | setpos (r : Fin 64) (slot : Fin 1024)
  /-- PRECH_END (R190): 200 µs of pre-charge end; the drive starts, or completes BOOT_FAIL. -/
  | prechEnd (t : Fin 28) (boot : Bool)
  /-- MOT_CURRENT_LIMIT (R191): The current reaches ILIM, and the switching side chops. -/
  | motCurrentLimit (t : Fin 28)
  /-- MOT_SHORT (R191): A short on a half-bridge or external FET turns every side off and latches. -/
  | motShort (t : Fin 28) (side : Fin 4)
  /-- MOT_OVERLOAD (R191): 200 ms above 6 A ends the drive with OVERLOAD. -/
  | motOverload (t : Fin 28)
  /-- MOT_STALL (R191): The stall condition holds for TSTALL, and the drive ends. -/
  | motStall (t : Fin 28)
  /-- MOT_OPEN (R191): The current stays below 30 mA for 20 ms, and the drive ends OPEN. -/
  | motOpen (t : Fin 28)
  /-- GATE_FAULT (R195): A gate misses its level within 4 µs, and the bridge latches. -/
  | gateFault (g : Fin 4)
  /-- CHARGE_PUMP_LOW (R195): The charge pump falls below VCPUV, and every gate driver enters SUPPLY. -/
  | chargePumpLow (v : Fin 131072)
  /-- CHARGE_PUMP_RELEASE (R195): The charge pump stays above VCPUV for 1 ms, and the gate drivers are released. -/
  | chargePumpRelease (v : Fin 131072)
  /-- DRIVE_DURATION_END (R208): The drive duration runs out, and the drive completes DONE and brakes. -/
  | driveDurationEnd (t : Fin 28)
  /-- BRAKE_END (R205): TBRK elapses, and the target goes to IDLE or drives in the waiting direction. -/
  | brakeEnd (t : Fin 28)
  /-- MOT_SUPPLY_ENTER (R196): The group leaves its limits, and the target enters SUPPLY. -/
  | motSupplyEnter (t : Fin 28) (past : Bool)
  /-- MOT_SUPPLY_RELEASE (R196): After 1 ms back within its limits the target leaves SUPPLY and resumes or goes to IDLE. -/
  | motSupplyRelease (t : Fin 28)
  /-- RIPPLE_CANDIDATE (R197): The ripple detector marks a candidate, which is counted or discarded and updates MOT_POS. -/
  | rippleCandidate (g : Fin 4) (dt : Nat)
  /-- RIPPLE_INSERT (R197): No candidate within 1.8 × the interval inserts one ripple; a fifth insertion clears POSV. -/
  | rippleInsert (g : Fin 4)
  /-- PINCH_VIOLATION (R200): A pinch criterion holds in a checked zone; the descriptor completes PINCH and the bridge
  brakes. -/
  | pinchViolation (g : Fin 4) (v : Word) (dt : Nat)
  /-- PINCH_REVERSE_START (R201): After PBRK and the dead time the bridge drives in the opening direction. -/
  | pinchReverseStart (g : Fin 4)
  /-- REVERSAL_END (R201): The reversal ends after REVR ripples or REVT, REVDONE is set and PLOCK starts. -/
  | reversalEnd (g : Fin 4)
  /-- PLOCK_END (R201): PLOCK expires, and closing drives are accepted again. -/
  | plockEnd (g : Fin 4)
  /-- BOOTSTRAP_HOLD_PULSE (R203): During PREP the low sides turn on for 20 µs each 1 ms to hold the bootstrap. -/
  | bootstrapHoldPulse (t : HoldPulse)
  /-- VLV_ENERGISE (R238): ENERGISE requests a peak-and-hold or proportional energise under the bank rules. -/
  | vlvEnergise (r : Fin 64) (slot : Fin 1024)
  /-- VLV_RELEASE (R238): RELEASE de-energises a valve into DECAY. -/
  | vlvRelease (r : Fin 64) (slot : Fin 1024)
  /-- SETI (R224): SETI ramps the setpoint of a valve in HOLD. -/
  | seti (r : Fin 64) (slot : Fin 1024)
  /-- VLV_RUN (R238): RUN starts the named entry of the valve's slot. -/
  | vlvRun (r : Fin 64) (slot : Fin 1024)
  /-- VLV_DIAG (R239): DIAG closes VH for 2 ms with the VL off. -/
  | vlvDiag (r : Fin 64) (slot : Fin 1024)
  /-- VLV_DIAG_DONE (R239): After 2 ms DIAG completes with drain short, open or present. -/
  | vlvDiagDone (n : Fin 16) (low : Bool) (cur : Bool)
  /-- VLV_CLEAR (R240): CLEAR ends a valve or bank latch and may reset the wire model. -/
  | vlvClear (r : Fin 64) (slot : Fin 1024)
  /-- BANK_NODE_READY (R220): VH's VDS falls below 0.5 V, and waiting valves may turn on. -/
  | bankNodeReady (m : Fin 4)
  /-- VH_OPEN_DELAY_END (R220): TVHOFF after the last valve reached OFF, VH opens. -/
  | vhOpenDelayEnd (m : Fin 4)
  /-- IPK_REACHED (R222): The coil current first reaches IPK, and tPK is recorded and judged. -/
  | ipkReached (n : Fin 16) (us : Nat)
  /-- PEAK_HOLD_END (R222): PKH ends, and the valve enters HOLD. -/
  | peakHoldEnd (n : Fin 16)
  /-- TPKMAX_EXPIRY (R227): IPK is not reached at tPKMAX; the valve goes to DECAY and completes PK_SLOW. -/
  | tpkmaxExpiry (n : Fin 16) (low : Bool) (weak : Bool)
  /-- DECAY_END (R225): The current falls below 30 mA, and the valve reaches OFF. -/
  | decayEnd (n : Fin 16)
  /-- PEAK_SLOT_FREE (R228): The peak slot frees at PEAK exit or tPEAKGAP, and waiting requests are taken. -/
  | peakSlotFree (n : Fin 16)
  /-- WAIT_DEADLINE (R229): A waiting request's deadline arrives; it starts overlapping or completes OVERLAP_REFUSED. -/
  | waitDeadline (n : Fin 16)
  /-- DUTY_LIMIT (R226): The energised time reaches MAXF, and the valve is de-energised with DUTY_LIMIT. -/
  | dutyLimit (n : Fin 16)
  /-- DFULL_CLEAR (R226): The energised time falls to (MAXF − 1)/64, and DFULL clears. -/
  | dfullClear (n : Fin 16)
  /-- VALVE_DURATION_END (R238): An ENERGISE duration runs out, and the valve enters DECAY. -/
  | valveDurationEnd (n : Fin 16)
  /-- SETI_RAMP_END (R224): A SETI ramp ends, SETI completes and the dither resumes. -/
  | setiRampEnd (n : Fin 16)
  /-- VALVE_OPEN (R227): A proportional valve below 30 mA for 20 ms goes to OFF with OPEN. -/
  | valveOpen (n : Fin 16)
  /-- VL_SHORT (R231): A VL short turns the valve off through the clamp and latches it. -/
  | vlShort (n : Fin 16)
  /-- VH_SHORT (R231): A VH short opens the bank, decays its valves and latches the bank. -/
  | vhShort (m : Fin 4)
  /-- BANK_OVERLOAD (R231): The bank current exceeds 1.25 × BLIM for 10 ms, and the bank latches. -/
  | bankOverload (m : Fin 4)
  /-- BANK_UVOFF (R233): The bank group falls below VUV; the valves go to SUPPLY and VH opens. -/
  | bankUvoff (m : Fin 4)
  /-- BANK_UV_RELEASE (R233): After tUVR above VUV + 0.5 V the bank leaves UVOFF, and its valves wait again. -/
  | bankUvRelease (m : Fin 4)
  /-- LUX_SET (R277): SET applies D to a sink, with an optional ramp. -/
  | luxSet (r : Fin 64) (slot : Fin 1024)
  /-- LUX_OFF (R277): OFF turns a sink or colour loop off. -/
  | luxOff (r : Fin 64) (slot : Fin 1024)
  /-- LUX_RUN (R277): RUN starts the named entry of a sink's slot. -/
  | luxRun (r : Fin 64) (slot : Fin 1024)
  /-- LUX_DIAG (R277): DIAG reports the sink's open-load result. -/
  | luxDiag (r : Fin 64) (slot : Fin 1024)
  /-- LUX_CLEAR (R277): CLEAR ends an STB latch. -/
  | luxClear (r : Fin 64) (slot : Fin 1024)
  /-- COLOUR (R262): COLOUR starts or ramps a colour loop to a colour table entry. -/
  | colour (r : Fin 64) (slot : Fin 1024)
  /-- PXWRITE (R277): PXWRITE copies its buffer and sends STREAM frames, optionally followed by a LATCH. -/
  | pxwrite (r : Fin 64) (slot : Fin 1024)
  /-- PXLATCH (R277): PXLATCH sends a LATCH frame. -/
  | pxlatch (r : Fin 64) (slot : Fin 1024)
  /-- PXENUM (R268): PXENUM sends RESET and ENUM and waits for ENUM_END. -/
  | pxenum (r : Fin 64) (slot : Fin 1024)
  /-- PXREAD (R277): PXREAD reads node registers into a buffer. -/
  | pxread (r : Fin 64) (slot : Fin 1024)
  /-- PXREG (R277): PXREG sends WRITE with the buffer's bytes. -/
  | pxreg (r : Fin 64) (slot : Fin 1024)
  /-- SINK_SHORT_TO_BATTERY (R254): A sink's voltage stays near the supply for 10 µs, and it latches with cause STB. -/
  | sinkShortToBattery (n : Fin 24)
  /-- DERATING_UPDATE (R255): Every 256 µs the derating factor of each sink is computed. -/
  | deratingUpdate
  /-- LOOP_PERIOD (R260): Each loop period a colour loop starts its sensor read. -/
  | loopPeriod (k : Fin 8)
  /-- COLOUR_SENSOR_READ_DONE (R261): The sensor read ends or fails; the loop updates its duties or counts the failure. `p0` to `p2`: the
  bytes read, two and two, the first one high. -/
  | colourSensorReadDone (k : Fin 8) (why : Fin 4) (p0 p1 p2 : BitVec 16)
  /-- CHAIN_FRAME_SENT (R273): A chain frame ends, and the chain chooses its next frame. -/
  | chainFrameSent (c : Fin 2)
  /-- CHAIN_REPLY (R271): A reply frame arrives from a node. -/
  | chainReply (c : Fin 2) (frame : List Byte)
  /-- CHAIN_REPLY_TIMEOUT (R271): No reply within 300 µs; the request is retried or ends CHAIN_TIMEOUT. -/
  | chainReplyTimeout (c : Fin 2)
  /-- ENUM_END (R268): ENUM_END arrives with N, and PXENUM completes. -/
  | enumEnd (c : Fin 2) (frame : List Byte)
  /-- STATUS_SCAN (R272): Once per SCAN ms the chain sends STATUS to every node. -/
  | statusScan (c : Fin 2)
  /-- TIMED_LATCH_START (R269): The start instant of a TIMED LATCH arrives, and the LATCH frame starts. -/
  | timedLatchStart (r : Fin 64) (slot : Fin 1024)
  /-- SWITCH_POLL (R286): A polling period's sample of a polled input is taken and debounced. -/
  | switchPoll (n : Fin 48) (v : LandVolts)
  /-- STATIC_FILTER_END (R287): A static input's level holds for STFLT, and its debounced state changes. -/
  | staticFilterEnd (n : Fin 48) (v : LandVolts)
  /-- ADC_SCAN (R290): A general ADC starts a scan of its enabled inputs. -/
  | adcScan (a : Fin 2)
  /-- ADC_RESULT (R289): A general ADC result is ready and judged against its window. Its 16 conversions. -/
  | adcResult (a : Fin 2) (conv : List (BitVec 16))
  /-- SENSE_CONVERSION (R293): A sense ADC slot converts the held sample of its output. -/
  | senseConversion (o : Fin 128) (v : Word)
  /-- SENSE_ADC_CALIBRATION (R295): A sense ADC calibrates in its reserved slot; a failure fences it. -/
  | senseAdcCalibration (a : Fin 10) (ok : Bool)
  /-- SS_OVERCURRENT (R292): A sensor supply in limit for 1 ms turns off. -/
  | ssOvercurrent (k : Fin 2)
  /-- SS_DRIVEN (R292): A sensor supply land held above 5.5 V turns the supply off. -/
  | ssDriven (k : Fin 2)
  /-- SENT_FRAME (R299): A SENT frame ends and is accepted or discarded with an error. -/
  | sentFrame (k : Fin 8) (cal : BitVec 32) (nibs : List (BitVec 32)) (slow : Option SlowMsg)
  /-- SENT_TIMEOUT (R299): No accepted frame for TOUT ms clears VALID and reports a timeout. -/
  | sentTimeout (k : Fin 8)
  /-- PSI5_SYNC (R301): A PSI5-P channel sends its sync pulse. -/
  | psi5Sync (k : Fin 4)
  /-- PSI5_FRAME (R300): A PSI5 frame is received and accepted or discarded. -/
  | psi5Frame (k : Fin 4) (j : Fin 4) (coding : Bool) (check : Bool) (data : BitVec 28)
  /-- PSI5_SLOT_CLOSE (R301): A slot closes without a frame, and a missing-frame error is reported. -/
  | psi5SlotClose (k : Fin 4) (j : Fin 4)
  /-- PSI5_BUS_LIMIT (R300): The PSI5 bus is in limit for 1 ms, and its supply turns off. -/
  | psi5BusLimit (k : Fin 4)
  /-- SENSOR_MESSAGE (R304): A sensor message is routed to a ring FIFO, a stream or both. -/
  | sensorMessage
  /-- SENSRX (R305): SENSRX waits for a sensor message and writes it into its descriptor. -/
  | sensrx (r : Fin 64) (slot : Fin 1024)
  /-- FABRIC_STEP (R308): Each 100 ns step the glue fabric evaluates cells 0 to 31. -/
  | fabricStep
  /-- FABRIC_TIMER (R309): A fabric timer's period or one-shot length elapses. -/
  | fabricTimer (t : Fin 4)
  /-- LIMP_HOME_ENGAGE (R312): An engage condition holds, and the limp-home map takes over the mapped outputs. -/
  | limpHomeEngage
  /-- LIMP_HOME_FORCE (R312): A write of INP_LHCMD.FORCE engages the map. -/
  | limpHomeForce (c : CoreId)
  /-- LIMP_HOME_RELEASE (R312): A write of INP_LHCMD.REL by S disengages the map when no condition holds. -/
  | limpHomeRelease (c : CoreId)
  /-- BUS_TX (R335): TX loads a CAN, LIN or slave frame for transmission. -/
  | busTx (r : Fin 64) (slot : Fin 1024)
  /-- RXBUF (R335): RXBUF offers a buffer for a received frame. -/
  | rxbuf (r : Fin 64) (slot : Fin 1024)
  /-- HDR (R335): HDR sends a LIN header and receives another node's response. -/
  | hdr (r : Fin 64) (slot : Fin 1024)
  /-- LINWAKE (R335): LINWAKE sends a dominant wake pulse. -/
  | linwake (r : Fin 64) (slot : Fin 1024)
  /-- CAN_FRAME_SENT (R335): A CAN frame is sent or retried, and its TX completes. -/
  | canFrameSent (c : Fin 6) (lec : BitVec 3)
  /-- CAN_FRAME_RECEIVED (R331): A received frame is filtered and stored for a ring, sent to a stream or discarded. -/
  | canFrameReceived (c : Fin 6) (lec : BitVec 3) (f : BusFrame)
  /-- LIN_FRAME_RECEIVED (R335): A LIN frame or header ends on a channel. -/
  | linFrameReceived (k : Fin 4) (e : BitVec 3) (f : BusFrame)
  /-- STORED_FRAME_DELIVER (R332): A stored frame is written into the oldest waiting RXBUF. -/
  | storedFrameDeliver (r : Fin 8)
  /-- CAN_BUS_OFF (R335): A channel enters bus-off, and its loaded frames complete BUS_OFF. -/
  | canBusOff (c : Fin 6)
  /-- BUSOFF_RECOVERY (R320): A write of NET_CTC.RECOV starts bus-off recovery. -/
  | busoffRecovery (c : CoreId) (n : Fin 6)
  /-- TRANSCEIVER_REQUEST (R324): A write of REQ changes a transceiver state, guarded for STANDBY or SLEEP. -/
  | transceiverRequest (c : CoreId) (n : Fin 10) (v : BitVec 2)
  /-- GUARDED_ENTRY_DONE (R324): After 11 idle bit times the transceiver enters STANDBY or SLEEP. -/
  | guardedEntryDone (w : Fin 10)
  /-- CAN_WUP (R326): A WUP, or in BEDDED the CAN0 receiver, wakes the channel. -/
  | canWup (c : Fin 6)
  /-- CAN_WUF (R326): A matching wake-up frame or the frame error count wakes the channel. -/
  | canWuf (c : Fin 6) (ok : Bool) (f : BusFrame)
  /-- LIN_BUS_WAKE (R326): A long dominant phase with a recessive edge wakes a LIN channel. -/
  | linBusWake (k : Fin 4)
  /-- VALIDATION_WINDOW_END (R328): A wake validation window closes valid or false, and FWCNT is updated. -/
  | validationWindowEnd (w : Fin 10)
  /-- DEAF_END (R329): The RTC counts DEAFT, and deafening ends. -/
  | deafEnd (w : Fin 10)
  /-- UNDEAF (R329): A write of UNDEAF ends deafening. -/
  | undeaf (c : CoreId) (n : Fin 10)
  /-- CAN_TXD_TIMEOUT (R343): TXD dominant too long holds the transmitter recessive. -/
  | canTxdTimeout (c : Fin 6)
  /-- CAN_BUS_DOMINANT (R343): The bus dominant beyond tBUSDOM makes wake detection ignore it. -/
  | canBusDominant (c : Fin 6)
  /-- LIN_BUS_SHORT (R343): The LIN bus dominant beyond tLINDOM turns the driver off. -/
  | linBusShort (k : Fin 4)
  /-- TALKER_PACK_TIMEOUT (R339): PACKT passes, and the talker frame closes and enters P9. -/
  | talkerPackTimeout (t : Fin 8)
  /-- LISTENER_FRAME (R340): An AVTP frame for a listener stream is unpacked into transmit buffers. -/
  | listenerFrame
  /-- HERD_ENABLE (R350): Setting NET_HCFG.EN enters ALIVE. -/
  | herdEnable
  /-- HERD_DISABLE (R354): Clearing EN sends LEAVE and enters OFF. -/
  | herdDisable
  /-- HERD_JOIN (R350): A write of JOIN enters ALIVE. -/
  | herdJoin (c : CoreId)
  /-- HERD_CONS_WITHDRAW (R355): CONS written 0 in PREP sends a RING with CONS 0 and cancels. -/
  | herdConsWithdraw (c : CoreId)
  /-- HERD_RING_RECEIVED (R351): A RING message is heard; it restarts tRLOST, may cancel, and is taken when addressed. -/
  | herdRingReceived
  /-- HERD_PREP_RECEIVED (R355): A PREP message is heard, and the node enters PREP. -/
  | herdPrepReceived
  /-- HERD_ALIVE_RECEIVED (R350): An ALIVE message is heard and rebuilds the map. -/
  | herdAliveReceived
  /-- HERD_LEAVE_RECEIVED (R354): A LEAVE message removes its source and may pass the ring. -/
  | herdLeaveReceived
  /-- HERD_FORWARD (R351): tFWD after receiving the ring, the node forwards it or the lead closes the round. -/
  | herdForward
  /-- HERD_SETTLE_END (R350): tSETTLE passes without an ALIVE, and the node enters RING. -/
  | herdSettleEnd
  /-- HERD_RING_LOST (R353): tRLOST expires, and the node enters ALIVE. -/
  | herdRingLost
  /-- HERD_PREP_END (R356): tPREP ends, and the node enters SLEEP and may command its transceivers. -/
  | herdPrepEnd
  /-- ZSW_FRAME_RECEIVED (R368): A frame received on a port is stored, forwarded and admitted to its egress queues. -/
  | zswFrameReceived (p : Fin 8) (b : List Byte) (bad : Bool) (stomped : Bool)
  /-- ZSW_EGRESS_SEND (R403): An egress port starts the head frame of its highest eligible queue. -/
  | zswEgressSend (p : EgressSend)
  /-- PORT_LINK_UP (R378): A port's link comes up, and it enters UP. -/
  | portLinkUp (p : Fin 8) (sqi : BitVec 3)
  /-- PORT_LINK_LOST (R378): A port's link is lost; it enters HOLD or FLUSH. -/
  | portLinkLost (p : Fin 8)
  /-- PORT_HOLD_END (R378): tHOLD elapses, and the port enters FLUSH. -/
  | portHoldEnd (p : Fin 10)
  /-- FLUSH_DONE (R379): Every queue of the port is emptied; the port enters DOWN or UP. -/
  | flushDone (p : Fin 10)
  /-- BUCKET_RETURN (R373): A bucket returns home or moves after reconfiguration once its count is 0. -/
  | bucketReturn (g : Fin 4) (b : Fin 16)
  /-- MAC_AGEING (R370): A learned entry not refreshed for AGE × 10 s is removed. -/
  | macAgeing (v : BitVec 12) (m : BitVec 48)
  /-- LOOKUP (R370): The MAC LOOKUP command finds an entry and loads MRES. -/
  | lookup (c : CoreId)
  /-- INSERT (R370): The MAC INSERT command enters an entry. -/
  | insert (c : CoreId)
  /-- DELETE (R370): The MAC DELETE command removes an entry. -/
  | delete (c : CoreId)
  /-- FLUSH_LEARNED (R370): The command removes every learned entry. -/
  | flushLearned (c : CoreId)
  /-- FLUSH_LEARNED_OF_PORT (R370): The command removes the learned entries of one port. -/
  | flushLearnedOfPort (c : CoreId)
  /-- TXFRAME (R383): TXFRAME enters a frame from system RAM into P8 ingress. -/
  | txframe (r : Fin 64) (slot : Fin 1024)
  /-- RXCOPY (R383): RXCOPY copies a P8 queue's head frame into a buffer. -/
  | rxcopy (r : Fin 64) (slot : Fin 1024)
  /-- RXBIND (R383): RXBIND binds a frame's cells to packed frame window slots. -/
  | rxbind (r : Fin 64) (slot : Fin 1024)
  /-- RXFREE (R383): RXFREE ends a binding. -/
  | rxfree (r : Fin 64) (slot : Fin 1024)
  /-- BINDING_EXPIRY (R384): A binding older than BTO ends and its cells are freed. -/
  | bindingExpiry (imm : Fin 128)
  /-- CENSUS_START (R386): A write of ZSW_AUDCTL.START starts a buffer census. -/
  | censusStart (c : CoreId)
  /-- CENSUS_TIMER (R386): Every PER seconds the auditor starts a census. -/
  | censusTimer
  /-- CENSUS_DONE (R387): A census ends, reports LEAK and DUP, and may reclaim or reset. -/
  | censusDone
  /-- PHY_FAULT (R396): A PHY self-check fails, and the port is fenced. -/
  | phyFault (p : Fin 8)
  /-- PLCA_BEACON_LOSS (R397): No BEACON for 4 × COUNT × TO bit times; the port falls back to CSMA/CD. -/
  | plcaBeaconLoss (p : Fin 2)
  /-- PLCA_BEACON (R397): A BEACON returns the port to PLCA. -/
  | plcaBeacon (p : Fin 2)
  /-- TC10_SLEEP_REQUEST (R399): A write of ETH_TCTL.SLEEP starts the sleep handshake. -/
  | tc10SleepRequest (c : CoreId) (p : Fin 6)
  /-- LPS_ACK_RECEIVED (R399): The partner acknowledges LPS, and the port enters SLEEP. -/
  | lpsAckReceived (p : Fin 6)
  /-- SLEEP_HANDSHAKE_TIMEOUT (R399): No acknowledgement within SLPTO returns the port to ACTIVE. -/
  | sleepHandshakeTimeout (p : Fin 6)
  /-- REMOTE_SLEEP_REQUEST (R399): A partner's sleep request is acknowledged or not according to ACCEPT. -/
  | remoteSleepRequest (p : Fin 6)
  /-- TC10_WUP (R400): A WUP on a sleeping pair wakes the port and requests a module wake. -/
  | tc10Wup (p : Fin 6)
  /-- TC10_WAKE (R400): A write of WAKE sends WUP. -/
  | tc10Wake (c : CoreId) (p : Fin 6)
  /-- TC10_WUR (R400): A WUR received sets WAKE, or aborts a sleep handshake. -/
  | tc10Wur (p : Fin 6)
  /-- SYNC_FOLLOW_UP (R408): A Sync and Follow_Up pair on the slave port corrects or steps zone time and is forwarded. -/
  | syncFollowUp (p : Fin 6) (ofs : BitVec 64)
  /-- GPTP_HOLDOVER (R408): No valid pair for 3 × ti puts zone time into holdover. -/
  | gptpHoldover
  /-- PEER_DELAY_EXCHANGE (R405): A peer-delay exchange measures the link delay and judges asCapable. -/
  | peerDelayExchange (p : Fin 6) (answered : Bool) (d : BitVec 32)
  /-- ZONE_TIME_SET (R408): A write of ETH_ASCTL.SET loads ETH_ZSET with GM = 1. -/
  | zoneTimeSet (c : CoreId)
  /-- SEARCH (R438): SEARCH wakes, arbitrates and authenticates a key on an LF channel. -/
  | search (r : Fin 64) (slot : Fin 1024)
  /-- READPG (R438): READPG reads a key page in the open session. -/
  | readpg (r : Fin 64) (slot : Fin 1024)
  /-- WRITEPG (R438): WRITEPG writes a key page in the open session. -/
  | writepg (r : Fin 64) (slot : Fin 1024)
  /-- LEARN (R428): LEARN personalises the key in the field into the lowest EMPTY slot. -/
  | learn (r : Fin 64) (slot : Fin 1024)
  /-- LF_DIAG (R438): DIAG tunes and applies the carrier for 1 ms. -/
  | lfDiag (r : Fin 64) (slot : Fin 1024)
  /-- LF_CLEAR (R438): CLEAR ends an antenna short latch. -/
  | lfClear (r : Fin 64) (slot : Fin 1024)
  /-- LF_END (R438): END sends SLEEP and switches the carrier off. -/
  | lfEnd (r : Fin 64) (slot : Fin 1024)
  /-- IDREP (R423): A key's IDREP arrives; a violation starts arbitration. -/
  | idrep (c : Fin 4) (id : BitVec 32) (viol : BitVec 32) (crc : Byte) (ofs : BitVec 32)
  /-- AUTHREP (R422): A key's AUTHREP arrives, and TK is checked. -/
  | authrep (c : Fin 4) (rk : BitVec 64) (tk : BitVec 64) (crc : Byte) (ofs : BitVec 32)
  /-- KEY_ACK (R422): A key's ACK arrives and completes an authentication or a write. -/
  | keyAck (c : Fin 4) (status : Byte) (crc : Byte) (ofs : BitVec 32)
  /-- KEY_DATA (R438): A key's DATA frame answers READPG. -/
  | keyData (c : Fin 4) (data : BitVec 32) (mac : BitVec 32) (crc : Byte) (ofs : BitVec 32)
  /-- KEY_NO_ANSWER (R438): No key answers the first WAKE, and the search completes NO_KEY. -/
  | keyNoAnswer (c : Fin 4)
  /-- SESSION_HOLD_END (R438): The hold time after a search ends and the session closes. -/
  | sessionHoldEnd (c : Fin 4)
  /-- SESSION_TIMEOUT (R438): A SEARCH or LEARN exceeds its session limit and completes TIMEOUT. -/
  | sessionTimeout (c : Fin 4)
  /-- LF_ANTENNA_SHORT (R417): Coil current above 2 A turns the bridge off and latches. -/
  | lfAntennaShort (c : Fin 4)
  /-- LF_ANTENNA_OPEN (R417): Coil current below 10 % of IPK after 200 µs stops the carrier. -/
  | lfAntennaOpen (c : Fin 4)
  /-- LF_DRIVER_HOT (R417): The LF driver above 165 °C stops the carrier until it cools. -/
  | lfDriverHot (c : Fin 4)
  /-- LEARN_K (R428): LEARN_K opens a learn session under key authority. -/
  | learnK (c : CoreId)
  /-- LEARN_T (R428): LEARN_T opens a learn session under token authority. -/
  | learnT (c : CoreId)
  /-- REVOKE_K (R429): REVOKE_K revokes a slot under key authority. -/
  | revokeK (c : CoreId) (k : Fin 8)
  /-- REVOKE_T (R429): REVOKE_T revokes a slot under token authority. -/
  | revokeT (c : CoreId) (k : Fin 8)
  /-- LEARN_CLOSE (R428): CLOSE ends the learn session and destroys the shadow. -/
  | learnClose (c : CoreId)
  /-- LEARN_SESSION_END (R428): A learn session ends after 120 s or with the presence window. -/
  | learnSessionEnd
  /-- OWNER_SET (R433): OWNER_SET sets the owner lock. -/
  | ownerSet (c : CoreId)
  /-- OWNER_CLR (R433): OWNER_CLR clears the owner lock. -/
  | ownerClr (c : CoreId)
  /-- NONCE (R430): NONCE issues a new token nonce. -/
  | nonce (c : CoreId)
  /-- DBG_UNLOCK (R433): DBG_UNLOCK unlocks the debug port until the next MOD reset. -/
  | dbgUnlock (c : CoreId)
  /-- SVCN_AT_POWER_UP (R431): SVCn low at POR release opens a presence window. -/
  | svcnAtPowerUp
  /-- SVCN_HELD (R431): SVCn low for 3 s in RUN opens a presence window. -/
  | svcnHeld
  /-- BUTTON_PATTERN (R431): COUNT closings of INPUT within TWIN open a presence window. -/
  | buttonPattern
  /-- SEAL_LOOP_BREAK (R431): The seal loop found open for 10 ms opens a presence window. -/
  | sealLoopBreak
  /-- PRESENCE_EXPIRY (R432): The presence window's 60 s end and it closes. -/
  | presenceExpiry
  /-- PRESENCE_CLOSE (R432): A write of ACC_PRES.CLOSE closes the presence window. -/
  | presenceClose (c : CoreId)
  /-- KEY_LOAD (R436): LOAD writes a key store entry inside a presence window. -/
  | keyLoad (c : CoreId) (e : BitVec 4)
  /-- ROTATE (R436): ROTATE unwraps a new remote slot key under the present key. -/
  | rotate (c : CoreId) (e : BitVec 4)
  /-- LOADTR (R436): LOADTR loads the transport root once. -/
  | loadtr (c : CoreId)
  /-- AESENC (R434): AESENC encrypts a buffer in ECB mode. -/
  | aesenc (c : CoreId) (long : Bool)
  /-- AESDEC (R434): AESDEC decrypts a buffer in ECB mode. -/
  | aesdec (c : CoreId) (long : Bool)
  /-- CMAC (R434): CMAC computes an AES-CMAC. -/
  | cmac (c : CoreId)
  /-- SHA256 (R434): SHA256 hashes a buffer. -/
  | sha256 (c : CoreId)
  /-- ECDSAVER (R434): ECDSAVER verifies a P-256 signature. -/
  | ecdsaver (c : CoreId)
  /-- RANDOM (R434): RANDOM writes TRNG bytes. -/
  | random (c : CoreId)
  /-- CRYPTO_DONE (R434): A crypto or key store command ends and writes RESULT. -/
  | cryptoDone
  /-- TRNG_HEALTH_FAIL (R435): A TRNG health test fails, and the TRNG is fenced. -/
  | trngHealthFail
  /-- REQUEST_RUN (R447): A request for RUN restores the clocks of A0 and A1. -/
  | requestRun (c : CoreId)
  /-- REQUEST_BROWSE (R447): A request for BROWSE divides or gates A0 and A1. -/
  | requestBrowse (c : CoreId)
  /-- ENTRY_REQ (R448): S requests REST or BEDDED, and ENTRY_REQ goes to every agent. -/
  | entryReq (c : CoreId) (bedded : Bool)
  /-- FORCED_ENTRY (R452): S forces an entry, and every agent cuts its work and completes DOMAIN_LOST. -/
  | forcedEntry (c : CoreId) (bedded : Bool)
  /-- AGENT_ANSWER (R448): An agent answers ACK, DELAY or REFUSE to ENTRY_REQ. -/
  | agentAnswer (b : Fin 16)
  /-- DELAY_BOUND_EXPIRY (R449): A delaying agent reaches 200 µs and refuses BUSY_TRANSFER. -/
  | delayBoundExpiry (b : Fin 16)
  /-- ENTRY_COMMIT (R451): Every agent has acknowledged, and the commit to REST or BEDDED runs. -/
  | entryCommit
  /-- COMMIT_COMPLETE (R451): The commit ends, and the module is in REST or BEDDED. -/
  | commitComplete
  /-- WAKE_LATCH (R453): An armed wake source latches into FAWN. -/
  | wakeLatch (code : BitVec 6) (detail : Byte)
  /-- REST_EXIT (R455): The REST exit runs from the first wake and releases the cores with their state. -/
  | restExit
  /-- BEDDED_EXIT (R455): The BEDDED exit raises the rails, clears RAM and releases S into the boot ROM. -/
  | beddedExit
  /-- NET_RETENTION_EXIT (R455): After a REST exit NET leaves retention once the crystal has been stable for 1 ms. -/
  | netRetentionExit
  /-- ZSW_ON (R455): A write of PCR_DOMCTL.ZSWON starts ZSW and loads its master counter. -/
  | zswOn (c : CoreId) (on : Bool)
  /-- REST_COMPLETION_WAKE (R456): A completion in REST with IRQ on a wake ring group latches wake 0o12. -/
  | restCompletionWake
  /-- HOST_FRAME_WAKE (R456): A frame for P8 on the kept port latches wake 0o06. -/
  | hostFrameWake
  /-- BROWN_OUT (R465): KL30_A below VFORCE for 20 µs forces BEDDED. -/
  | brownOut
  /-- KL30_RESTORE (R465): KL30_A above 5.5 V for 1 ms exits BEDDED with wake 0o15. -/
  | kl30Restore
  /-- KL30_LOW (R465): KL30_A below 6 V sets KL30LO. -/
  | kl30Low (low : Bool)
  /-- KL15_CHANGE (R465): KL15 changes after its 1 ms debounce. -/
  | kl15Change (on : Bool)
  /-- RTC_ALARM (R453): The RTC reaches the alarm second. -/
  | rtcAlarm
  /-- PAD_RELEASE (R459): A write of PCR_PAD.REL releases latched pad groups whose domain runs. -/
  | padRelease (c : CoreId) (rel : BitVec 5)
  /-- FAULT_ACK (R478): A write of FLT_FACK acknowledges classes and clears their pending bits. -/
  | faultAck (c : CoreId) (b : Fin 16) (m : Word)
  /-- LOG_RELEASE (R479): A write of FLT_FREL.REL releases the oldest log entries. -/
  | logRelease (c : CoreId) (b : Fin 16) (n : Fin 16)
  /-- CLRSTK (R480): A write of FLT_FREL.CLRSTK clears the sticky bits, OVF and the first-fault table. -/
  | clrstk (c : CoreId) (b : Fin 16)
  /-- UNFENCE (R482): UNFENCE by S releases a fence or reports why not. -/
  | unfence (c : CoreId) (b : Fin 16) (imm : Byte)
  /-- CLR4 (R483): A write of CLR4 by S clears L4S. -/
  | clr4 (c : CoreId)
  /-- FLTN_MIN_END (R483): The 100 µs minimum low of FLTn ends. -/
  | fltnMinEnd
  /-- SPOOR_RECORD_SEND (R484): The trace port sends the next record, or IDLE. -/
  | spoorRecordSend
  /-- SPOOR_SUMMARY (R488): Every 1 ms FLT queues a SUMMARY for each block that shed. -/
  | spoorSummary
  /-- MIRROR_FRAME_SEND (R489): A mirror frame is sent when full or 100 µs after its first record. -/
  | mirrorFrameSend
  /-- SOFT_TRACE (R485): A write of FLT_SWTRC emits a SOFT record. -/
  | softTrace (c : CoreId) (v : Word)
  /-- LBIST_START (R509): A write of ICU_LBCTL.START queues LBIST of A0 or A1. -/
  | lbistStart (c : CoreId) (t : BitVec 2)
  /-- LBIST_CANCEL (R509): A write of CANCEL ends a queued LBIST request. -/
  | lbistCancel (c : CoreId) (t : BitVec 2)
  /-- LBIST_RUN (R509): The target core halts or is fenced, and LBIST runs. -/
  | lbistRun (c : Fin 2)
  /-- LBIST_DONE (R509): LBIST ends; the core restarts on a pass or stays fenced on a fail. -/
  | lbistDone (c : Fin 2) (fail : Bool)
  /-- OFFER (R520): An image OFFER is checked and answered or takes the session. -/
  | offer (svc : Option (List Byte)) (mv : BitVec 16)
  /-- BLOCK (R522): A BLOCK fragment arrives; a complete block is checked, stored and forwarded. -/
  | block (svc : Option (List Byte))
  /-- IMAGE_CLOSE_RECEIVED (R521): A CLOSE message ends the session. -/
  | imageCloseReceived (svc : Option (List Byte))
  /-- DOWNSTREAM_ANSWER (R526): A downstream ANSWER accepts or drops that downstream. -/
  | downstreamAnswer
  /-- DOWNSTREAM_BACK (R526): A downstream BACK acknowledges blocks. -/
  | downstreamBack
  /-- DOWNSTREAM_TIMEOUT (R526): A downstream misses its ANSWER or BACK in time and is dropped or re-offered. -/
  | downstreamTimeout (e : Fin 8)
  /-- IMAGE_SESSION_TIMEOUT (R522): No message from the holder for 2 s closes the session with TIMEOUT. -/
  | imageSessionTimeout
  /-- INACTIVE_BANK_ERASED (R528): The erase of the inactive bank ends and header programming starts. -/
  | inactiveBankErased (bad : Bool)
  /-- IMAGE_VERIFY_DONE (R528): The read-back hash ends; a match writes INSTALLED. -/
  | imageVerifyDone (bad : Bool)
  /-- VEHICLE_MOVES (R524): The vehicle moves, and an installation session closes with MOVING. -/
  | vehicleMoves
  /-- IMAGE_LOWV (R524): KL30_A below the threshold for 1 s closes the session with LOWV. -/
  | imageLowv
  /-- IMCMD_CLOSE (R521): A write of FLT_IMCMD.CLOSE closes the session with CANCEL. -/
  | imcmdClose (c : CoreId)
  /-- CONFINACT (R530): CONFINACT programs the CONFIRMED row of a TRIAL inactive bank. -/
  | confinact (c : CoreId)
  /-- CONFIRM_REQUEST (R529): A write of FLT_IMCONF.REQ sets or withdraws the confirm request for the active bank. -/
  | confirmRequest (c : CoreId) (req : Bool)
  /-- BRACE_HEART_SEND (R539): Every 1 ms the brace link sends HEART. -/
  | braceHeartSend
  /-- HEART (R540): A HEART frame arrives and drives the link state and partner status. -/
  | heart (b : List Byte) (crc : BitVec 16) (code : Bool) (pid : BitVec 48)
  /-- BRACE_STATE_FRAME (R543): A STATE frame updates the follower's last committed state. -/
  | braceStateFrame (b : List Byte) (crc : BitVec 16) (code : Bool)
  /-- TABLE (R542): A TABLE frame validates the mirror entries. -/
  | table (b : List Byte) (crc : BitVec 16) (code : Bool) (par : BitVec 16)
  /-- YIELD (R545): A YIELD frame makes the follower take over every valid entry. -/
  | yield (b : List Byte) (crc : BitVec 16) (code : Bool)
  /-- HANDBACK (R548): A HANDBACK frame makes the leader resume the named entries. -/
  | handback (b : List Byte) (crc : BitVec 16) (code : Bool)
  /-- QUIET (R549): A QUIET request or accept frame puts the link into QUIET. -/
  | quiet (b : List Byte) (crc : BitVec 16) (code : Bool)
  /-- BRACE_COMMA_ALIGN (R540): Comma alignment on BRACE_RX takes the link to SYNC. -/
  | braceCommaAlign
  /-- BRACE_MISS (R540): No valid HEART for the miss time takes the link DOWN, with a takeover if permitted. -/
  | braceMiss
  /-- BRACE_FSW_OPEN (R545): FSW reads open while a takeover waits, and the takeover happens. -/
  | braceFswOpen
  /-- BRC_YIELD (R546): A write of BRC_CMD.YIELD sends YIELD. -/
  | brcYield (c : CoreId)
  /-- BRC_HANDBACK (R548): A write of BRC_CMD.HANDBACK sends HANDBACK. -/
  | brcHandback (c : CoreId)
  /-- BRC_QUIET (R549): A write of BRC_CMD.QUIET sends a QUIET request. -/
  | brcQuiet (c : CoreId)
  /-- BRC_WAKE (R549): A write of BRC_CMD.WAKE sends a 100 µs wake burst. -/
  | brcWake (c : CoreId)
  /-- NOP (R593): NOP does nothing. -/
  | nop (c : CoreId)
  /-- ADD (R593): ADD adds rs to rd. -/
  | add (c : CoreId) (rd : Fin 32) (rs : Fin 32)
  /-- ADC (R593): ADC adds rs and C to rd. -/
  | adc (c : CoreId) (rd : Fin 32) (rs : Fin 32)
  /-- SUB (R593): SUB subtracts rs from rd. -/
  | sub (c : CoreId) (rd : Fin 32) (rs : Fin 32)
  /-- SBC (R593): SBC subtracts rs and C from rd. -/
  | sbc (c : CoreId) (rd : Fin 32) (rs : Fin 32)
  /-- AND (R593): AND ands rs into rd. -/
  | and (c : CoreId) (rd : Fin 32) (rs : Fin 32)
  /-- OR (R593): OR ors rs into rd. -/
  | or (c : CoreId) (rd : Fin 32) (rs : Fin 32)
  /-- XOR (R593): XOR exclusive-ors rs into rd. -/
  | xor (c : CoreId) (rd : Fin 32) (rs : Fin 32)
  /-- ANDN (R593): ANDN ands the complement of rs into rd. -/
  | andn (c : CoreId) (rd : Fin 32) (rs : Fin 32)
  /-- MOV (R593): MOV copies rs to rd. -/
  | mov (c : CoreId) (rd : Fin 32) (rs : Fin 32)
  /-- NEG (R593): NEG negates rs into rd. -/
  | neg (c : CoreId) (rd : Fin 32) (rs : Fin 32)
  /-- NEGS (R593): NEGS negates rs with saturation. -/
  | negs (c : CoreId) (rd : Fin 32) (rs : Fin 32)
  /-- NOT (R593): NOT complements rs into rd. -/
  | not (c : CoreId) (rd : Fin 32) (rs : Fin 32)
  /-- CMP (R593): CMP sets flags from rd − rs. -/
  | cmp (c : CoreId) (rd : Fin 32) (rs : Fin 32)
  /-- TST (R593): TST sets flags from rd and rs. -/
  | tst (c : CoreId) (rd : Fin 32) (rs : Fin 32)
  /-- ADDS (R593): ADDS adds with signed saturation. -/
  | adds (c : CoreId) (rd : Fin 32) (rs : Fin 32)
  /-- SUBS (R593): SUBS subtracts with signed saturation. -/
  | subs (c : CoreId) (rd : Fin 32) (rs : Fin 32)
  /-- SHL (R594): SHL shifts rd left by rs. -/
  | shl (c : CoreId) (rd : Fin 32) (rs : Fin 32)
  /-- SHR (R594): SHR shifts rd right with zero fill. -/
  | shr (c : CoreId) (rd : Fin 32) (rs : Fin 32)
  /-- SAR (R594): SAR shifts rd right with sign fill. -/
  | sar (c : CoreId) (rd : Fin 32) (rs : Fin 32)
  /-- ROR (R594): ROR rotates rd right. -/
  | ror (c : CoreId) (rd : Fin 32) (rs : Fin 32)
  /-- SHLI (R594): SHLI shifts rd left by N. -/
  | shli (c : CoreId) (rd : Fin 32) (n : Fin 32)
  /-- SHRI (R594): SHRI shifts rd right by N with zero fill. -/
  | shri (c : CoreId) (rd : Fin 32) (n : Fin 32)
  /-- SARI (R594): SARI shifts rd right by N with sign fill. -/
  | sari (c : CoreId) (rd : Fin 32) (n : Fin 32)
  /-- RORI (R594): RORI rotates rd right by N. -/
  | rori (c : CoreId) (rd : Fin 32) (n : Fin 32)
  /-- MULS (R595): MULS issues a signed multiply into PH:PL. -/
  | muls (c : CoreId) (rd : Fin 32) (rs : Fin 32)
  /-- MULU (R595): MULU issues an unsigned multiply into PH:PL. -/
  | mulu (c : CoreId) (rd : Fin 32) (rs : Fin 32)
  /-- MACS (R595): MACS issues a signed multiply-accumulate. -/
  | macs (c : CoreId) (rd : Fin 32) (rs : Fin 32)
  /-- MACU (R595): MACU issues an unsigned multiply-accumulate. -/
  | macu (c : CoreId) (rd : Fin 32) (rs : Fin 32)
  /-- PRODUCT_LANDING (R565): A MUL or MAC result lands in PH:PL or the accumulator at t + 3. -/
  | productLanding (c : CoreId)
  /-- DIVS (R595): DIVS issues a signed division. -/
  | divs (c : CoreId) (rd : Fin 32) (rs : Fin 32)
  /-- DIVU (R595): DIVU issues an unsigned division. -/
  | divu (c : CoreId) (rd : Fin 32) (rs : Fin 32)
  /-- DIVISION_LANDING (R601): A division lands in QT and RM at t + 10, setting V and DZ, and may take the arithmetic trap.
  -/
  | divisionLanding (c : CoreId)
  /-- MFS (R595): MFS reads a special register, CLM with its claim side effect. -/
  | mfs (c : CoreId) (r : Fin 32) (sn : Fin 64)
  /-- MTS (R595): MTS writes a special register. -/
  | mts (c : CoreId) (sn : Fin 64) (r : Fin 32)
  /-- SXB (R593): SXB sign-extends the low byte of rs. -/
  | sxb (c : CoreId) (rd : Fin 32) (rs : Fin 32)
  /-- ZXB (R593): ZXB zero-extends the low byte of rs. -/
  | zxb (c : CoreId) (rd : Fin 32) (rs : Fin 32)
  /-- SWB (R593): SWB exchanges bytes 15:8 and 7:0. -/
  | swb (c : CoreId) (rd : Fin 32) (rs : Fin 32)
  /-- CLZ (R593): CLZ counts leading zero bits of rs. -/
  | clz (c : CoreId) (rd : Fin 32) (rs : Fin 32)
  /-- ADDI (R593): ADDI adds a 7-bit immediate. -/
  | addi (c : CoreId) (rd : Fin 32) (imm : BitVec 7)
  /-- MOVI (R593): MOVI loads a 7-bit immediate. -/
  | movi (c : CoreId) (rd : Fin 32) (imm : BitVec 7)
  /-- CMPI (R593): CMPI compares with a 7-bit immediate. -/
  | cmpi (c : CoreId) (rd : Fin 32) (imm : BitVec 7)
  /-- BSET (R594): BSET sets bit N of rd. -/
  | bset (c : CoreId) (rd : Fin 32) (n : Fin 32)
  /-- BCLR (R594): BCLR clears bit N of rd. -/
  | bclr (c : CoreId) (rd : Fin 32) (n : Fin 32)
  /-- BTGL (R594): BTGL toggles bit N of rd. -/
  | btgl (c : CoreId) (rd : Fin 32) (n : Fin 32)
  /-- BTST (R594): BTST tests bit N of rd. -/
  | btst (c : CoreId) (rd : Fin 32) (n : Fin 32)
  /-- MOVL (R593): MOVL loads an 18-bit immediate. -/
  | movl (c : CoreId) (rd : Fin 32) (imm : Word)
  /-- ADDL (R593): ADDL adds an 18-bit immediate to rs. -/
  | addl (c : CoreId) (rd : Fin 32) (rs : Fin 32) (imm : Word)
  /-- ANDL (R593): ANDL ands rs with an 18-bit immediate. -/
  | andl (c : CoreId) (rd : Fin 32) (rs : Fin 32) (imm : Word)
  /-- ORL (R593): ORL ors rs with an 18-bit immediate. -/
  | orl (c : CoreId) (rd : Fin 32) (rs : Fin 32) (imm : Word)
  /-- XORL (R593): XORL exclusive-ors rs with an 18-bit immediate. -/
  | xorl (c : CoreId) (rd : Fin 32) (rs : Fin 32) (imm : Word)
  /-- SUBL (R593): SUBL subtracts an 18-bit immediate from rs. -/
  | subl (c : CoreId) (rd : Fin 32) (rs : Fin 32) (imm : Word)
  /-- CMPL (R593): CMPL compares rs with an 18-bit immediate. -/
  | cmpl (c : CoreId) (rs : Fin 32) (imm : Word)
  /-- TSTL (R593): TSTL tests rs against an 18-bit immediate. -/
  | tstl (c : CoreId) (rs : Fin 32) (imm : Word)
  /-- LD (R596): LD loads a data word addressed by rs. -/
  | ld (c : CoreId) (rd : Fin 32) (rs : Fin 32)
  /-- LD_POST_INCREMENT (R596): LD …]+ loads and then increments rs. -/
  | ldPostIncrement (c : CoreId) (rd : Fin 32) (rs : Fin 32)
  /-- LD_PRE_DECREMENT (R596): LD −[… decrements rs and then loads. -/
  | ldPreDecrement (c : CoreId) (rd : Fin 32) (rs : Fin 32)
  /-- ST (R596): ST stores rd at the address in rs. -/
  | st (c : CoreId) (rd : Fin 32) (rs : Fin 32)
  /-- ST_POST_INCREMENT (R596): ST …]+ stores and then increments rs. -/
  | stPostIncrement (c : CoreId) (rd : Fin 32) (rs : Fin 32)
  /-- ST_PRE_DECREMENT (R596): ST −[… decrements rs and then stores. -/
  | stPreDecrement (c : CoreId) (rd : Fin 32) (rs : Fin 32)
  /-- STORE_DRAIN (R579): A buffered store leaves the store buffer and reaches its memory in program order. -/
  | storeDrain (c : CoreId)
  /-- LDL (R596): LDL loads from rs + imm. -/
  | ldl (c : CoreId) (rd : Fin 32) (rs : Fin 32) (imm : Word)
  /-- STL (R596): STL stores at rs + imm. -/
  | stl (c : CoreId) (rd : Fin 32) (rs : Fin 32) (imm : Word)
  /-- LEA (R593): LEA computes rs + imm. -/
  | lea (c : CoreId) (rd : Fin 32) (rs : Fin 32) (imm : Word)
  /-- IN (R596): IN reads an I/O register after the store buffer drains. -/
  | ioIn (c : CoreId) (rd : Fin 32) (rs : Fin 32) (imm : Word)
  /-- OUT (R596): OUT writes an I/O register after the store buffer drains. -/
  | out (c : CoreId) (rd : Fin 32) (rs : Fin 32) (imm : Word)
  /-- B_COND (R597): Bcond branches by a 7-bit offset when its condition holds. -/
  | bCond (c : CoreId) (cond : BitVec 4) (h : Bool) (off : BitVec 7)
  /-- BL_COND (R597): BLcond branches by an 18-bit offset when its condition holds. -/
  | blCond (c : CoreId) (cond : BitVec 4) (h : Bool) (off : Word)
  /-- JMP (R597): JMP jumps to a 21-bit target. -/
  | jmp (c : CoreId) (t : BitVec 21)
  /-- CALL (R556): CALL slides the window and jumps. -/
  | call (c : CoreId) (t : BitVec 21)
  /-- JMPR (R562): JMPR jumps to rs × 8. -/
  | jmpr (c : CoreId) (rs : Fin 32)
  /-- CALLR (R562): CALLR slides and jumps to rs × 8. -/
  | callr (c : CoreId) (rs : Fin 32)
  /-- RET (R556): RET ends the loop levels of its depth and returns to LK. -/
  | ret (c : CoreId)
  /-- RETI (R574): RETI restores SR from the saved-status slot and returns. -/
  | reti (c : CoreId)
  /-- RETIM (R574): RETIM returns from an entry without a slide. -/
  | retim (c : CoreId)
  /-- HALT (R571): HALT stops the core until a routed source is pending above PL. -/
  | halt (c : CoreId)
  /-- HALT_RESUME (R571): A halted core continues when a routed source is pending above PL. -/
  | haltResume (c : CoreId)
  /-- SYS (R602): SYS traps to vector 6. -/
  | sys (c : CoreId) (rs : Fin 32)
  /-- BRK (R602): BRK traps to vector 7. -/
  | brk (c : CoreId) (rs : Fin 32)
  /-- CALLM (R561): CALLM saves the masked registers and jumps without a slide. -/
  | callm (c : CoreId) (p : Fin 32) (t : Fin 32) (m : BitVec 16)
  /-- RETM (R561): RETM restores the masked registers and returns. -/
  | retm (c : CoreId) (p : Fin 32) (m : BitVec 16)
  /-- LOOP (R568): LOOP opens a hardware loop level with a register count. -/
  | loop (c : CoreId) (rc : Fin 32) (e : BitVec 7)
  /-- LOOPI (R598): LOOPI opens a hardware loop level with an immediate count. -/
  | loopi (c : CoreId) (e : BitVec 7) (count : Word)
  /-- UNDEFINED_OPCODE (R589): An undefined parcel pattern traps ILL. -/
  | undefinedOpcode (c : CoreId) (w0 : Word) (w1 : Word)
  /-- INTERRUPT_ENTRY (R573): A core takes a pending routed interrupt above PL and enters its vector. -/
  | interruptEntry (c : CoreId)
  /-- ICU_CLAIM_READ (R575): A read of ICU_CLAIM returns the claimable source and clears a software source. -/
  | icuClaimRead (c : CoreId)
  /-- SWI_SET (R575): A write of ICU_SWI.SET sets software source pending bits. -/
  | swiSet (c : CoreId) (k : BitVec 4)
  /-- CORE_RELEASE (R583): HOLD written from 1 to 0 releases A0 or A1 at its reset vector. -/
  | coreRelease (c : CoreId) (a : Fin 2)
  /-- CORE_RESET (R583): HOLD written from 0 to 1 resets A0 or A1. -/
  | coreReset (c : CoreId) (a : Fin 2)
  /-- LOCKSTEP_TEST (R582): A write of ICU_LSCTL.TEST injects one mismatch into the shadow. -/
  | lockstepTest (c : CoreId)
  /-- LOCKSTEP_MISMATCH (R582): The checker detects a mismatch and records CORE at L3. -/
  | lockstepMismatch
  /-- PWM_PERIOD_START (R130): A free-running PWM period of a high-side channel, or a carrier period of a motor or valve
  driver, begins; a pending change of D and a built-in ramp step take effect there. -/
  | pwmPeriodStart (o : Fin 128)
  /-- DIMMING_PERIOD_END (R252): A sink's dimming period ends; LUX_LIMEAS is updated, the open-load count and 64-period
  unknown rule advance, and a new De takes effect. -/
  | dimmingPeriodEnd (n : Fin 24) (amp : Nat) (v : Nat) (outs : List Bool) (weak : Bool)
  /-- GATE_DRIVER_HOT (R195): A gate driver's sensor on the interface die reads above 165 °C and sets a junction latch on
  that target. -/
  | gateDriverHot (g : Fin 4)
  /-- GATE_DRIVER_COOL (R195): A hot gate driver falls to 150 °C and its latch releases. -/
  | gateDriverCool (g : Fin 4)
  /-- LF_DRIVER_COOL (R417): An LF driver in THERM falls below 150 °C and leaves THERM. -/
  | lfDriverCool (c : Fin 4)
  /-- BUS_OFF_RECOVERY_END (R320): A CAN channel completes bus-off recovery, automatic or requested, and leaves bus-off. -/
  | busOffRecoveryEnd (c : Fin 6)
  /-- LIN_RESPONSE_TIMEOUT (R335): The response space of a headed LIN frame passes without a response, and HDR completes
  NO_RESPONSE. -/
  | linResponseTimeout (k : Fin 4)
  /-- LINWAKE_DONE (R335): The dominant pulse of a LINWAKE ends, and LINWAKE completes DONE. -/
  | linwakeDone (k : Fin 4)
  /-- LF_DIAG_DONE (R438): The 1 ms carrier of an LF DIAG ends, and DIAG completes with its tuning code or an antenna
  status. -/
  | lfDiagDone (c : Fin 4) (code : Fin 32) (ant : Fin 3)
  /-- DOMINANT_TIMEOUT_END (R343): TXD or the CAN or LIN bus returns recessive after a dominant timeout, and the transmitter
  or wake detection resumes. -/
  | dominantTimeoutEnd (w : Fin 10)
  /-- PLL_LOSS_OF_LOCK (R469): PLL1 or PLL2 loses lock, and interrupt source 9 or 10 is raised. -/
  | pllLossOfLock (p : Fin 2)
  /-- ENUM_END_WAIT_EXPIRY (R268): PXENUM's 1 ms wait for ENUM_END runs out, and PXENUM completes CHAIN_TIMEOUT. -/
  | enumEndWaitExpiry (c : Fin 2)
  /-- CHAIN_APPLY_INSTANT (R277): The computed apply instant after a LATCH's last stop bit arrives, and PXLATCH or PXWRITE
  with LATCH completes DONE. -/
  | chainApplyInstant (c : Fin 2)
  /-- IMAGE_BLOCK_STORED (R522): The image agent finishes programming and verifying a block's rows, sends the BACK when
  downstreams allow, or closes the session with NVM. -/
  | imageBlockStored (bad : Bool)
  deriving DecidableEq, Repr

end Sys2Proof
end

