-- ==== Sys2Proof/Decode.lean ====
section
/-! DEFINITION. The decoder of command words. The command table gives no command any bits, so no word spells one. -/

namespace Sys2Proof

/-- The command that a word of `nbits` bits spells by the bits of the command table, which gives none. -/
def decodeTableWord (_nbits _w : Nat) : Option Instr := none

end Sys2Proof
end

