-- ==== Sys2Proof/Machine/Bits.lean ====
section
/-! DEFINITION. Bit-field, sign-extension and byte-order helpers. -/

namespace Sys2Proof.Machine

/-- Bits `hi:lo` of a number. -/
def bitsOf (w hi lo : Nat) : Nat := w / 2 ^ lo % 2 ^ (hi + 1 - lo)

/-- A number with its bits `hi:lo` replaced by `v`. -/
def putBits (w hi lo v : Nat) : Nat :=
  w % 2 ^ lo + (v % 2 ^ (hi + 1 - lo)) * 2 ^ lo + w / 2 ^ (hi + 1) * 2 ^ (hi + 1)

/-- Bit `i` of a number. -/
def bitAt (w i : Nat) : Bool := decide (w / 2 ^ i % 2 = 1)

/-- A number with bit `i` set. -/
def setBit (w i : Nat) : Nat := if w / 2 ^ i % 2 = 1 then w else w + 2 ^ i

/-- A number with bit `i` cleared. -/
def clrBit (w i : Nat) : Nat := if w / 2 ^ i % 2 = 1 then w - 2 ^ i else w

/-- A word from a number, modulo 2^18. -/
def toWord (n : Nat) : Word := BitVec.ofNat 18 n

/-- The two's complement value of the low `n` bits. -/
def sextOf (n w : Nat) : Int :=
  let v := w % 2 ^ n
  if v < 2 ^ (n - 1) then (v : Int) else (v : Int) - (2 ^ n : Nat)

/-- The low `n` bits of an integer. -/
def wrapTo (n : Nat) (i : Int) : Nat := (i % ((2 ^ n : Nat) : Int)).toNat

/-- A count that saturates. -/
def satTo (m n : Nat) : Nat := if n ≤ m then n else m

/-- The value after step `k` of a linear move from `a` to `b` in `n` steps. DESIGN CHOICE: a step between two values rounds toward
the start. -/
def rampAt (a b n k : Nat) : Nat := ((a : Int) + Int.tdiv (((b : Int) - (a : Int)) * (k : Int)) (n : Int)).toNat

/-- 1 for true, 0 for false. -/
def b2n (b : Bool) : Nat := if b then 1 else 0

/-- Big-endian number from bytes. -/
def beNat (bs : List Byte) : Nat := bs.foldl (fun a b => a * 256 + b.toNat) 0

/-- The low `n` bytes of a number, most significant first. -/
def natBe : Nat → Nat → List Byte
  | 0, _ => []
  | n + 1, v => BitVec.ofNat 8 (v / 256 ^ n) :: natBe n v

/-- The bytes that carry an 18-bit word in frames and hashes (R52, R93). -/
def wordBytes (w : Word) : List Byte := natBe 3 w.toNat

/-- The mask of bits `hi:lo`. -/
def maskOf (hi lo : Nat) : Nat := (2 ^ (hi + 1 - lo) - 1) * 2 ^ lo

/-- The positions of the one bits of a number below `n`, ascending. -/
def onesBelow (n w : Nat) : List Nat := (List.range n).filter (fun i => bitAt w i)

/-- The first `n` elements after `i`, missing ones as `d`. -/
def sliceD {α : Type} (l : List α) (i n : Nat) (d : α) : List α := (List.range n).map (fun k => l.getD (i + k) d)

end Sys2Proof.Machine
end

