-- ==== Sys2Proof/Machine/Aes.lean ====
section
/-! DEFINITION. AES as FIPS 197 gives it, AES-CMAC as NIST SP 800-38B gives it, the AES key unwrap of RFC 3394, and the CRC-8
of key frames: the operations that R418, R419, R422, R434 and R436 name. Bytes are numbers below 256 here. -/

namespace Sys2Proof.Machine

/-- The S-box, sixteen bytes to a row. -/
def aesSRows : List Nat :=
  [0x637c777bf26b6fc53001672bfed7ab76,
   0xca82c97dfa5947f0add4a2af9ca472c0,
   0xb7fd9326363ff7cc34a5e5f171d83115,
   0x04c723c31896059a071280e2eb27b275,
   0x09832c1a1b6e5aa0523bd6b329e32f84,
   0x53d100ed20fcb15b6acbbe394a4c58cf,
   0xd0efaafb434d338545f9027f503c9fa8,
   0x51a3408f929d38f5bcb6da2110fff3d2,
   0xcd0c13ec5f974417c4a77e3d645d1973,
   0x60814fdc222a908846eeb814de5e0bdb,
   0xe0323a0a4906245cc2d3ac629195e479,
   0xe7c8376d8dd54ea96c56f4ea657aae08,
   0xba78252e1ca6b4c6e8dd741f4bbd8b8a,
   0x703eb5664803f60e613557b986c11d9e,
   0xe1f8981169d98e949b1e87e9ce5528df,
   0x8ca1890dbfe6426841992d0fb054bb16]

/-- The inverse S-box, sixteen bytes to a row. -/
def aesIRows : List Nat :=
  [0x52096ad53036a538bf40a39e81f3d7fb,
   0x7ce339829b2fff87348e4344c4dee9cb,
   0x547b9432a6c2233dee4c950b42fac34e,
   0x082ea16628d924b2765ba2496d8bd125,
   0x72f8f66486689816d4a45ccc5d65b692,
   0x6c704850fdedb9da5e154657a78d9d84,
   0x90d8ab008cbcd30af7e45805b8b34506,
   0xd02c1e8fca3f0f02c1afbd0301138a6b,
   0x3a9111414f67dcea97f2cfcef0b4e673,
   0x96ac7422e7ad3585e2f937e81c75df6e,
   0x47f11a711d29c5896fb7620eaa18be1b,
   0xfc563e4bc6d279209adbc0fe78cd5af4,
   0x1fdda8338807c731b11210592780ec5f,
   0x60517fa919b54a0d2de57a9f93c99cef,
   0xa0e03b4dae2af5b0c8ebbb3c83539961,
   0x172b047eba77d626e169146355210c7d]

/-- One byte of a table of rows. -/
def aesSub (rows : List Nat) (x : Nat) : Nat := rows.getD (x / 16) 0 / 256 ^ (15 - x % 16) % 256

/-- Multiplication by x in the field of FIPS 197. -/
def aesX (a : Nat) : Nat := if a < 128 then 2 * a else (2 * a) % 256 ^^^ 0x1b

/-- Multiplication in the field by a number below 16. -/
def aesMul (a b : Nat) : Nat :=
  (if bitAt b 0 then a else 0) ^^^ (if bitAt b 1 then aesX a else 0) ^^^
    (if bitAt b 2 then aesX (aesX a) else 0) ^^^ (if bitAt b 3 then aesX (aesX (aesX a)) else 0)

/-- The exclusive or of two byte strings. -/
def xorBytes (a b : List Nat) : List Nat := a.zipWith (· ^^^ ·) b

/-- Groups of four. -/
def inFours : List Nat → List (List Nat)
  | a :: b :: c :: d :: t => [a, b, c, d] :: inFours t
  | _ => []

/-- The words of the expanded key from `i` on, latest first; `nk` words are the key, `fuel` words are left to make. -/
def aesExpand (nk : Nat) : Nat → Nat → Nat → List (List Nat) → List (List Nat)
  | 0, _, _, ws => ws
  | fuel + 1, i, rc, ws =>
    let t := ws.headD []
    let sub := fun (w : List Nat) => w.map (aesSub aesSRows)
    let rot := t.drop 1 ++ t.take 1
    let u := if i % nk = 0 then xorBytes (sub rot) [rc, 0, 0, 0] else if 6 < nk ∧ i % nk = 4 then sub t else t
    aesExpand nk fuel (i + 1) (if i % nk = 0 then aesX rc else rc) (xorBytes u (ws.getD (nk - 1) []) :: ws)

/-- The round keys of a 16-byte or 32-byte key, each of 16 bytes. -/
def aesKeys (key : List Nat) : List (List Nat) :=
  let nk := key.length / 4
  let ws := (aesExpand nk (4 * (nk + 7) - nk) nk 1 (inFours key).reverse).reverse
  (List.range (nk + 7)).map (fun r => ((ws.drop (4 * r)).take 4).flatten)

/-- The state's columns shifted: byte `r` of column `c` comes from column `c + k r`. -/
def aesShift (k : Nat) (st : List Nat) : List Nat := (List.range 16).map (fun i => st.getD ((i + k * 4 * (i % 4)) % 16) 0)

/-- One column multiplied by the circulant matrix with first row `m`. -/
def aesMixCol (m : List Nat) (c : List Nat) : List Nat :=
  (List.range 4).map (fun r => (List.range 4).foldl (fun x j => x ^^^ aesMul (c.getD j 0) (m.getD ((j + 4 - r) % 4) 0)) 0)

/-- Every column of a state multiplied. -/
def aesMix (m : List Nat) (st : List Nat) : List Nat := ((inFours st).map (aesMixCol m)).flatten

/-- One block encrypted under round keys: rounds 1 to the last but one mix columns, the last does not. -/
def aesRounds : List (List Nat) → List Nat → List Nat
  | [], st => st
  | [k], st => xorBytes (aesShift 1 (st.map (aesSub aesSRows))) k
  | k :: ks, st => aesRounds ks (xorBytes (aesMix [2, 3, 1, 1] (aesShift 1 (st.map (aesSub aesSRows)))) k)

/-- AES encryption of one block. -/
def aesEnc (key block : List Nat) : List Nat :=
  match aesKeys key with
  | [] => block
  | k :: ks => aesRounds ks (xorBytes block k)

/-- The inverse rounds, round keys latest first. -/
def aesInvRounds : List (List Nat) → List Nat → List Nat
  | [], st => st
  | [k], st => xorBytes ((aesShift 3 st).map (aesSub aesIRows)) k
  | k :: ks, st => aesInvRounds ks (aesMix [14, 11, 13, 9] (xorBytes ((aesShift 3 st).map (aesSub aesIRows)) k))

/-- AES decryption of one block. -/
def aesDec (key block : List Nat) : List Nat :=
  match (aesKeys key).reverse with
  | [] => block
  | k :: ks => aesInvRounds ks (xorBytes block k)

/-- The low `n` bytes of a number, most significant first. -/
def numBytes (n v : Nat) : List Nat := (List.range n).map (fun i => v / 256 ^ (n - 1 - i) % 256)

/-- The number that bytes spell, most significant first. -/
def bytesNum (l : List Nat) : Nat := l.foldl (fun a b => a * 256 + b) 0

/-- A number as the bytes of the machine, and back. -/
def toBytes (l : List Nat) : List Byte := l.map (BitVec.ofNat 8)
def ofBytes (l : List Byte) : List Nat := l.map BitVec.toNat

/-- A list cut into blocks of sixteen; `fuel` bounds their number. -/
def blocks16 : Nat → List Nat → List (List Nat)
  | 0, _ => []
  | fuel + 1, l => if l.isEmpty then [] else l.take 16 :: blocks16 fuel (l.drop 16)

/-- ECB over a byte string. -/
def aesEcb (f : List Nat → List Nat) (l : List Nat) : List Nat := ((blocks16 l.length l).map f).flatten

/-- Doubling in the field of SP 800-38B. -/
def cmacDouble (l : List Nat) : List Nat :=
  let n := bytesNum l
  numBytes 16 (if n < 2 ^ 127 then 2 * n else (2 * n) ^^^ 0x87)

/-- AES-CMAC: 16 bytes. -/
def aesCmac (key msg : List Nat) : List Nat :=
  let k1 := cmacDouble (aesEnc key (List.replicate 16 0))
  let bs := blocks16 msg.length msg
  let last := bs.getLastD []
  let tail := if last.length = 16 then xorBytes last k1
    else xorBytes (last ++ 0x80 :: List.replicate (15 - last.length) 0) (cmacDouble k1)
  (bs.dropLast ++ [tail]).foldl (fun x b => aesEnc key (xorBytes x b)) (List.replicate 16 0)

/-- The leftmost 8 bytes of AES-CMAC, as the remote ring agent uses them. -/
def aesCmac8 (key msg : List Nat) : List Nat := (aesCmac key msg).take 8

/-- One step of the RFC 3394 unwrap: A and R[1], R[2] for two 64-bit halves. -/
def unwrapStep (key : List Nat) (s : Nat × Nat × Nat) (j : Nat) : Nat × Nat × Nat :=
  let step := fun (a r t : Nat) =>
    let b := bytesNum (aesDec key (numBytes 16 ((a ^^^ t) * 2 ^ 64 + r)))
    (b / 2 ^ 64, b % 2 ^ 64)
  let (a, r1, r2) := s
  let x := step a r2 (2 * j + 2)
  let y := step x.1 r1 (2 * j + 1)
  (y.1, y.2, x.2)

/-- RFC 3394 key unwrap of 24 bytes under a key: the 16-byte key, none when the integrity check fails. -/
def aesUnwrap (key w : List Nat) : Option (List Nat) :=
  let (a, r1, r2) := [5, 4, 3, 2, 1, 0].foldl (unwrapStep key)
    (bytesNum (w.take 8), bytesNum ((w.drop 8).take 8), bytesNum ((w.drop 16).take 8))
  if a = 0xA6A6A6A6A6A6A6A6 then some (numBytes 16 (r1 * 2 ^ 64 + r2)) else none

/-- The CRC-8 of key frames (R418): polynomial 0x1D, initial value 0xFF. -/
def crc8Step (c b : Nat) : Nat :=
  (List.range 8).foldl (fun x _ => if x < 128 then 2 * x else (2 * x) % 256 ^^^ 0x1D) (c ^^^ b)
def keyCrc (l : List Nat) : Nat := l.foldl crc8Step 0xFF

end Sys2Proof.Machine
end

