-- ==== Sys2Proof/Machine/Ecc.lean ====
section
/-! DEFINITION. ECDSA P-256 verification as FIPS 186-4 gives it (R434). Points are in Jacobian coordinates; a point with
z = 0 is the point at infinity. -/

namespace Sys2Proof.Machine

/-- The prime, the order and the curve's b. -/
def p256 : Nat := 0xffffffff00000001000000000000000000000000ffffffffffffffffffffffff
def n256 : Nat := 0xffffffff00000000ffffffffffffffffbce6faada7179e84f3b9cac2fc632551
def b256 : Nat := 0x5ac635d8aa3a93e7b3ebbd55769886bc651d06b0cc53b0f63bce3c3e27d2604b

/-- A point of the curve. -/
structure EcPoint where
  x : Nat
  y : Nat
  z : Nat
  deriving DecidableEq, Repr

/-- The base point. -/
def ecG : EcPoint :=
  ⟨0x6b17d1f2e12c4247f8bce6e563a440f277037d812deb33a0f4a13945d898c296,
   0x4fe342e2fe1a7f9b8ee7eb4a7c0f9e162bce33576b315ececbb6406837bf51f5, 1⟩

/-- Subtraction modulo the prime of reduced numbers. -/
def pSub (a b : Nat) : Nat := (a + p256 - b % p256) % p256

/-- The double of a point. -/
def ecDouble (a : EcPoint) : EcPoint :=
  let yy := a.y * a.y % p256
  let s := 4 * a.x * yy % p256
  let zz := a.z * a.z % p256
  let m := 3 * pSub a.x zz * ((a.x + zz) % p256) % p256
  let x := pSub (m * m) (2 * s)
  ⟨x, pSub (m * pSub s x) (8 * yy * yy), 2 * a.y * a.z % p256⟩

/-- The sum of two points. -/
def ecAdd (a b : EcPoint) : EcPoint :=
  if a.z = 0 then b
  else if b.z = 0 then a
  else
    let za := a.z * a.z % p256
    let zb := b.z * b.z % p256
    let u1 := a.x * zb % p256
    let u2 := b.x * za % p256
    let s1 := a.y * zb * b.z % p256
    let s2 := b.y * za * a.z % p256
    if u1 = u2 then (if s1 = s2 then ecDouble a else ⟨1, 1, 0⟩)
    else
      let h := pSub u2 u1
      let r := pSub s2 s1
      let hh := h * h % p256
      let hhh := h * hh % p256
      let v := u1 * hh % p256
      let x := pSub (pSub (r * r) hhh) (2 * v)
      ⟨x, pSub (r * pSub v x) (s1 * hhh), h * a.z * b.z % p256⟩

/-- `u1 G + u2 Q` from the highest of `n` bits down. -/
def ecMul2 (u1 u2 : Nat) (q gq : EcPoint) : Nat → EcPoint → EcPoint
  | 0, acc => acc
  | n + 1, acc =>
    let d := ecDouble acc
    let t := match bitAt u1 n, bitAt u2 n with
      | false, false => d
      | true, false => ecAdd d ecG
      | false, true => ecAdd d q
      | true, true => ecAdd d gq
    ecMul2 u1 u2 q gq n t

/-- A power modulo `m`, from the highest of `n` bits of the exponent down. -/
def modPow (m b e : Nat) : Nat → Nat → Nat
  | 0, acc => acc
  | n + 1, acc => modPow m b e n (if bitAt e n then acc * acc % m * b % m else acc * acc % m)

/-- ECDSA verification of a 32-byte hash under the public key (x, y). -/
def ecdsaVerify (hash x y r s : Nat) : Bool :=
  if r = 0 ∨ n256 ≤ r ∨ s = 0 ∨ n256 ≤ s ∨ p256 ≤ x ∨ p256 ≤ y then false
  else if y * y % p256 ≠ (x * x * x + (p256 - 3) * x + b256) % p256 then false
  else
    let w := modPow n256 s (n256 - 2) 256 1
    let u1 := hash * w % n256
    let u2 := r * w % n256
    let q : EcPoint := ⟨x, y, 1⟩
    let a := ecMul2 u1 u2 q (ecAdd ecG q) 256 ⟨1, 1, 0⟩
    if a.z = 0 then false
    else
      let zi := modPow p256 a.z (p256 - 2) 256 1
      decide (a.x * (zi * zi % p256) % p256 % n256 = r)

/-- Verification of a signature `r ‖ s` of 64 bytes over a hash under a key `x ‖ y` of 64 bytes. -/
def ecdsaBytes (hash key sig : List Nat) : Bool :=
  ecdsaVerify (bytesNum hash) (bytesNum (key.take 32)) (bytesNum (key.drop 32)) (bytesNum (sig.take 32)) (bytesNum (sig.drop 32))

end Sys2Proof.Machine
end

