-- ==== Sys2Proof/Config.lean ====
section
/-! DEFINITION. The free values: what the manual leaves open.  Each is a constant without a body, so no proof can see
its value, and a statement that holds holds whatever it is. -/

namespace Sys2Proof.Config

/-- The next value of the free sequence: a value the manual does not state, drawn at the place `n` of the sequence. -/
opaque freeWord : Nat → Word

/-- The boot ROM constants (R633): the manual publishes none of them. -/
opaque bootConst : Nat → Word

/-- The set of the MAC table that a hash of VID and address selects (R370): the manual does not give the hash. -/
opaque macSet : Nat → Nat → Fin 512

/-- Bytes 2 and 3 of an ACF Sensor Brief header (R306): the manual names only the message type and its data. -/
opaque sensorBriefHdr : BitVec 16

/-- Pad bytes of frames (R34, R369, R383): the manual does not give their value. -/
opaque padByte : Byte

/-- The OTP words that Krafin writes (R4, R58): factory trims and the module identity, by offset. -/
opaque otpFactory : Nat → BitVec 16

/-- The output whose stage a factory trim word of the OTP trims (R58, R495), by offset: the manual does not give the layout of the
trims; 128 and above is no output. -/
opaque trimOutput : Nat → Nat

end Sys2Proof.Config
end

