-- ==== Sys2Proof/Machine/RegMap.lean ====
section
/-! DEFINITION. The I/O register map: every register of every chapter's register tables (R62, R100, R123, R157, R180,
R214, R244, R280, R315, R341, R359, R389, R411, R441, R468, R490, R510, R534, R551, R584), with its address, its domain
(R12, R17), its reset source (R8), and for every field its bits, its access code (R9), its reset value and the encodings
that are not reserved (R11); and one name per register and per field.  A register of the private ICU of a core (R584)
is kept at the key 0x10000 times (core number + 1) above its address. -/

namespace Sys2Proof.Machine

/-- The power and clock domains of R13. `core` stands for CORE-A or CORE-S: the domain of the core whose ICU it is. -/
inductive Dom where
  | coreA | coreS | core | fabric | zsw | net | act | fawn
  deriving DecidableEq, Repr

/-- The reset source of a register (R8). -/
inductive RstSrc where
  | por | mod | dom
  deriving DecidableEq, Repr

/-- The access code of a field (R9); TX, LK and PR stand beside it. -/
inductive Acc where
  | rw | ro | wo | w1c | w1s | rc
  deriving DecidableEq, Repr

/-- One field of a register table: bits `hi:lo`, its access codes, its reset value, and the ranges of values that are
not reserved encodings (R11); an empty list of ranges admits every value. -/
structure Field where
  hi : Nat
  lo : Nat
  acc : Acc
  tx : Bool
  lk : Bool
  pr : Bool
  rst : Nat
  legal : List (Nat × Nat)
  deriving DecidableEq, Repr

/-- One register of a register table, with its instances: instance `i`, sub-instance `j` lies at `base + s1 * i + s2 * j`. -/
structure RegRow where
  base : Nat
  s1 : Nat
  n1 : Nat
  s2 : Nat
  n2 : Nat
  dom : Dom
  src : RstSrc
  fields : List Field
  deriving DecidableEq, Repr

/-- A field of one register: its key in the register file and its bits. -/
structure FRef where
  addr : Nat
  hi : Nat
  lo : Nat
  deriving DecidableEq, Repr

/-- A read-write field without a condition. -/
def Field.plain (hi lo rst : Nat) : Field := ⟨hi, lo, .rw, false, false, false, rst, []⟩
/-- A read-only field. -/
def Field.ro (hi lo rst : Nat) : Field := ⟨hi, lo, .ro, false, false, false, rst, []⟩
/-- A TX field. -/
def Field.txf (hi lo rst : Nat) : Field := ⟨hi, lo, .rw, true, false, false, rst, []⟩
/-- A field that writing 1 clears. -/
def Field.w1c (hi lo rst : Nat) : Field := ⟨hi, lo, .w1c, false, false, false, rst, []⟩
/-- A field that a read clears. -/
def Field.rcf (hi lo rst : Nat) : Field := ⟨hi, lo, .rc, false, false, false, rst, []⟩
/-- A write-only field. -/
def Field.wof (hi lo rst : Nat) : Field := ⟨hi, lo, .wo, false, false, false, rst, []⟩

/-- Registers of block 0 (ICU), part 1. -/
def rowsICU1 : List RegRow := [
  -- ICU_LBCTL
  ⟨0xF00, 4096, 1, 1, 1, .core, .mod, [Field.wof 17 17 0, Field.wof 16 16 0, Field.plain 15 14 0]⟩,
  -- ICU_LBSTAT
  ⟨0xF01, 4096, 1, 1, 1, .core, .mod, [Field.ro 17 15 0, Field.ro 14 12 0]⟩,
  -- ICU_FLAG
  ⟨0x0, 4096, 1, 1, 1, .core, .dom, [Field.w1c 3 3 0, Field.w1c 2 2 0, Field.w1c 1 1 0, Field.w1c 0 0 0]⟩,
  -- ICU_RSVA
  ⟨0x1, 4096, 1, 1, 1, .core, .dom, [Field.ro 15 0 0]⟩,
  -- ICU_DOMA
  ⟨0x2, 4096, 1, 1, 1, .core, .dom, [Field.ro 15 0 0]⟩,
  -- ICU_CORE
  ⟨0x3, 4096, 1, 1, 1, .core, .dom, [Field.ro 17 16 0]⟩,
  -- ICU_CLAIM
  ⟨0x4, 4096, 1, 1, 1, .core, .dom, [Field.ro 17 17 0, Field.ro 11 8 0, Field.ro 7 0 0]⟩,
  -- ICU_CMSEL
  ⟨0x5, 4096, 1, 1, 1, .core, .dom, [Field.plain 15 0 0]⟩,
  -- ICU_SWI
  ⟨0x6, 4096, 1, 1, 1, .core, .dom, [Field.wof 7 4 0, Field.w1c 3 0 0]⟩,
  -- ICU_PEND
  ⟨0x10, 1, 16, 1, 1, .core, .dom, [Field.ro 15 0 0]⟩,
  -- ICU_MCTL
  ⟨0x20, 4096, 1, 1, 1, .fawn, .mod, [⟨17, 17, .w1s, false, false, false, 0, []⟩, ⟨16, 16, .rw, false, true, false, 1, []⟩]⟩,
  -- ICU_MBASE
  ⟨0x100, 16, 16, 1, 1, .core, .dom, [⟨17, 0, .rw, false, true, false, 0, []⟩]⟩,
  -- ICU_MLIM
  ⟨0x101, 16, 16, 1, 1, .core, .dom, [⟨17, 0, .rw, false, true, false, 0, []⟩]⟩,
  -- ICU_MATR
  ⟨0x102, 16, 16, 1, 1, .core, .dom, [⟨17, 17, .rw, false, true, false, 0, []⟩, ⟨16, 16, .rw, false, true, false, 0, []⟩, ⟨15, 15, .rw, false, true, false, 0, []⟩, ⟨14, 14, .rw, false, true, false, 0, []⟩]⟩,
  -- ICU_RT
  ⟨0x400, 1, 85, 1, 1, .core, .dom, [Field.plain 17 12 0, Field.plain 11 6 0, Field.plain 5 0 0]⟩,
  -- ICU_RT, its last register
  ⟨0x455, 4096, 1, 1, 1, .core, .dom, [Field.plain 5 0 0]⟩,
  -- ICU_ACTL
  ⟨0xE00, 16, 2, 1, 1, .fawn, .mod, [Field.plain 17 17 1, Field.ro 16 14 0, Field.plain 2 0 0]⟩,
  -- ICU_ARVL
  ⟨0xE01, 16, 2, 1, 1, .fawn, .mod, [Field.plain 17 0 128]⟩,
  -- ICU_AVBR
  ⟨0xE02, 16, 2, 1, 1, .fawn, .mod, [Field.plain 17 0 0]⟩,
  -- ICU_LSCTL
  ⟨0xE20, 4096, 1, 1, 1, .core, .dom, [Field.wof 17 17 0, Field.ro 16 16 0]⟩]

/-- The register table of block 0, ICU. -/
def rowsICU : List RegRow :=
  rowsICU1

/-- Registers of block 1 (PCR), part 1. -/
def rowsPCR1 : List RegRow := [
  -- PCR_FLAG
  ⟨0x1000, 4096, 1, 1, 1, .fabric, .mod, [Field.ro 17 17 0, Field.w1c 6 6 0, Field.w1c 5 5 0, Field.w1c 4 4 0, Field.w1c 3 3 0, Field.w1c 2 2 0, Field.w1c 1 1 0, Field.w1c 0 0 0]⟩,
  -- PCR_ENTRY
  ⟨0x1001, 4096, 1, 1, 1, .fabric, .mod, [Field.wof 17 16 0, Field.wof 15 15 0, Field.ro 14 12 0]⟩,
  -- PCR_ENTRYST
  ⟨0x1002, 4096, 1, 1, 1, .fabric, .mod, [Field.ro 17 15 0, Field.ro 14 11 0, Field.ro 10 3 0]⟩,
  -- PCR_BROWSE
  ⟨0x1003, 4096, 1, 1, 1, .fabric, .mod, [⟨17, 15, .rw, false, false, false, 0, [(0, 5)]⟩, ⟨14, 12, .rw, false, false, false, 0, [(0, 5)]⟩]⟩,
  -- PCR_DOMCTL
  ⟨0x1004, 4096, 1, 1, 1, .fabric, .mod, [Field.plain 17 17 1]⟩,
  -- PCR_CLK
  ⟨0x1005, 4096, 1, 1, 1, .fabric, .mod, [Field.ro 17 17 0, Field.ro 16 16 1, Field.ro 15 12 9]⟩,
  -- PCR_RAIL
  ⟨0x1006, 4096, 1, 1, 1, .fabric, .mod, [Field.ro 17 14 15, Field.ro 13 13 1]⟩,
  -- PCR_KL
  ⟨0x1007, 4096, 1, 1, 1, .fabric, .mod, [Field.ro 17 17 0, Field.ro 16 16 0]⟩,
  -- PCR_EVT
  ⟨0x1008, 4096, 1, 1, 1, .fabric, .mod, [Field.w1c 14 0 0]⟩,
  -- PCR_IEN
  ⟨0x1009, 4096, 1, 1, 1, .fabric, .mod, [Field.plain 14 0 0]⟩,
  -- PCR_WKEN
  ⟨0x1800, 4096, 1, 1, 1, .fawn, .por, [Field.plain 17 17 1, Field.plain 16 16 0, Field.plain 15 15 0, Field.plain 14 14 0, Field.plain 13 13 0, Field.plain 12 12 0, Field.plain 11 11 0, Field.plain 10 10 0]⟩,
  -- PCR_RWAKE
  ⟨0x1801, 4096, 1, 1, 1, .fawn, .por, [Field.plain 15 0 0]⟩,
  -- PCR_PAD
  ⟨0x1802, 4096, 1, 1, 1, .fawn, .por, [Field.ro 17 13 0, Field.wof 4 0 0]⟩,
  -- PCR_RCAUSE
  ⟨0x1803, 4096, 1, 1, 1, .fawn, .por, [Field.ro 17 15 0]⟩,
  -- PCR_RTCH
  ⟨0x1804, 4096, 1, 1, 1, .fawn, .por, [Field.plain 15 0 0]⟩,
  -- PCR_RTCL
  ⟨0x1805, 4096, 1, 1, 1, .fawn, .por, [Field.plain 15 0 0]⟩,
  -- PCR_RTCS
  ⟨0x1806, 4096, 1, 1, 1, .fawn, .por, [Field.plain 14 0 0]⟩,
  -- PCR_ALMH
  ⟨0x1807, 4096, 1, 1, 1, .fawn, .por, [Field.plain 15 0 0]⟩,
  -- PCR_ALML
  ⟨0x1808, 4096, 1, 1, 1, .fawn, .por, [Field.plain 15 0 0]⟩,
  -- PCR_LWAKE
  ⟨0x1810, 4096, 1, 1, 1, .fawn, .por, [Field.ro 17 12 0, Field.ro 11 10 0, Field.ro 9 9 0, Field.ro 8 8 0, Field.ro 7 0 0]⟩,
  -- PCR_LWRH
  ⟨0x1811, 4096, 1, 1, 1, .fawn, .por, [Field.ro 15 0 0]⟩,
  -- PCR_LWRL
  ⟨0x1812, 4096, 1, 1, 1, .fawn, .por, [Field.ro 15 0 0]⟩,
  -- PCR_LWRS
  ⟨0x1813, 4096, 1, 1, 1, .fawn, .por, [Field.ro 14 0 0]⟩,
  -- PCR_LWZ3
  ⟨0x1814, 4096, 1, 1, 1, .fawn, .por, [Field.ro 15 0 0]⟩]

/-- Registers of block 1 (PCR), part 2. -/
def rowsPCR2 : List RegRow := [
  -- PCR_LWZ2
  ⟨0x1815, 4096, 1, 1, 1, .fawn, .por, [Field.ro 15 0 0]⟩,
  -- PCR_LWZ1
  ⟨0x1816, 4096, 1, 1, 1, .fawn, .por, [Field.ro 15 0 0]⟩,
  -- PCR_LWZ0
  ⟨0x1817, 4096, 1, 1, 1, .fawn, .por, [Field.ro 15 0 0]⟩,
  -- PCR_LREF
  ⟨0x1818, 4096, 1, 1, 1, .fawn, .por, [Field.ro 17 14 0, Field.ro 13 6 0, Field.ro 5 4 0, Field.ro 3 3 0]⟩,
  -- PCR_LRFH
  ⟨0x1819, 4096, 1, 1, 1, .fawn, .por, [Field.ro 15 0 0]⟩,
  -- PCR_LRFL
  ⟨0x181A, 4096, 1, 1, 1, .fawn, .por, [Field.ro 15 0 0]⟩,
  -- PCR_LCNT0
  ⟨0x181C, 4096, 1, 1, 1, .fawn, .por, [Field.rcf 17 9 0, Field.rcf 8 0 0]⟩,
  -- PCR_LCNT1
  ⟨0x181D, 4096, 1, 1, 1, .fawn, .por, [Field.rcf 17 9 0, Field.rcf 8 0 0]⟩,
  -- PCR_LCNT2
  ⟨0x181E, 4096, 1, 1, 1, .fawn, .por, [Field.rcf 17 9 0, Field.rcf 8 0 0]⟩,
  -- PCR_LWCNT
  ⟨0x181F, 4096, 1, 1, 1, .fawn, .por, [Field.rcf 17 9 0, Field.rcf 8 0 0]⟩,
  -- PCR_WSRC
  ⟨0x1820, 4096, 1, 1, 1, .fawn, .por, [Field.w1c 15 0 0]⟩]

/-- The register table of block 1, PCR. -/
def rowsPCR : List RegRow :=
  rowsPCR1 ++ rowsPCR2

/-- Registers of block 2 (MEM), part 1. -/
def rowsMEM1 : List RegRow := [
  -- MEM_FLAG
  ⟨0x2000, 4096, 1, 1, 1, .fabric, .mod, [Field.w1c 7 7 0, Field.w1c 6 6 0, Field.w1c 5 5 0, Field.w1c 4 4 0, Field.w1c 3 3 0, Field.w1c 2 2 0, Field.w1c 1 1 0, Field.w1c 0 0 0]⟩,
  -- MEM_BANKPARK
  ⟨0x2001, 4096, 1, 1, 1, .fabric, .mod, [Field.txf 7 0 0]⟩,
  -- MEM_BANKSTAT
  ⟨0x2002, 4096, 1, 1, 1, .fabric, .mod, [Field.ro 15 0 0]⟩,
  -- MEM_MCTL
  ⟨0x2008, 4096, 1, 1, 1, .fabric, .mod, [Field.wof 17 17 0, Field.plain 13 13 0, Field.plain 12 10 0]⟩,
  -- MEM_MSTAT
  ⟨0x2009, 4096, 1, 1, 1, .fabric, .mod, [Field.ro 17 15 0, Field.ro 14 12 0, Field.ro 11 0 0]⟩,
  -- MEM_MFAIL
  ⟨0x200A, 4096, 1, 1, 1, .fabric, .mod, [Field.ro 17 17 0, Field.ro 12 0 0]⟩,
  -- MEM_TCTL
  ⟨0x2010, 4096, 1, 1, 1, .fabric, .mod, [Field.plain 17 17 1, ⟨16, 14, .rw, false, false, false, 0, [(0, 4)]⟩, Field.plain 13 10 0, Field.plain 9 0 0]⟩,
  -- MEM_TSTAT
  ⟨0x2011, 4096, 1, 1, 1, .fabric, .mod, [Field.ro 17 17 1, Field.ro 16 16 1, Field.ro 13 10 0, Field.ro 9 0 0]⟩,
  -- MEM_TFAIL
  ⟨0x2012, 4096, 1, 1, 1, .fabric, .mod, [Field.ro 12 10 0, Field.ro 9 0 0]⟩,
  -- MEM_ECC
  ⟨0x2018, 4096, 1, 1, 1, .fabric, .mod, [Field.rcf 17 9 0, Field.rcf 8 0 0]⟩,
  -- MEM_ERRADR
  ⟨0x2019, 4096, 1, 1, 1, .fabric, .mod, [Field.ro 17 0 0]⟩,
  -- MEM_ERRSRC
  ⟨0x201A, 4096, 1, 1, 1, .fabric, .mod, [Field.ro 6 4 0, Field.ro 3 0 0]⟩,
  -- MEM_AONRET
  ⟨0x2020, 4096, 1, 1, 1, .fawn, .por, [Field.plain 0 0 0]⟩,
  -- MEM_NCMD
  ⟨0x2030, 4096, 1, 1, 1, .fabric, .mod, [⟨3, 0, .wo, false, false, false, 0, [(0, 5)]⟩]⟩,
  -- MEM_NADRH
  ⟨0x2031, 4096, 1, 1, 1, .fabric, .mod, [Field.plain 1 0 0]⟩,
  -- MEM_NADRL
  ⟨0x2032, 4096, 1, 1, 1, .fabric, .mod, [Field.plain 17 0 0]⟩,
  -- MEM_NDATA
  ⟨0x2033, 4096, 1, 1, 1, .fabric, .mod, [Field.plain 17 0 0]⟩,
  -- MEM_NSTAT
  ⟨0x2034, 4096, 1, 1, 1, .fabric, .mod, [Field.ro 17 17 0, Field.ro 16 16 0, Field.ro 15 12 0, Field.ro 11 0 0]⟩,
  -- MEM_SSCTL
  ⟨0x2040, 4096, 1, 1, 1, .fabric, .mod, [⟨17, 16, .wo, false, false, false, 0, [(0, 2)]⟩, Field.plain 11 0 0]⟩,
  -- MEM_SSBUF
  ⟨0x2041, 4096, 1, 1, 1, .fabric, .mod, [Field.plain 17 0 32768]⟩,
  -- MEM_SSLEN
  ⟨0x2042, 4096, 1, 1, 1, .fabric, .mod, [Field.plain 17 0 0]⟩,
  -- MEM_SSGRP
  ⟨0x2043, 4096, 1, 1, 1, .fabric, .mod, [Field.plain 15 0 0]⟩,
  -- MEM_SSSTAT
  ⟨0x2044, 4096, 1, 1, 1, .fabric, .mod, [Field.ro 17 17 0, Field.ro 16 16 0, Field.ro 15 15 0, Field.ro 14 12 0, Field.ro 11 0 0]⟩,
  -- MEM_SSSEQH
  ⟨0x2045, 4096, 1, 1, 1, .fabric, .mod, [Field.ro 15 0 0]⟩]

/-- Registers of block 2 (MEM), part 2. -/
def rowsMEM2 : List RegRow := [
  -- MEM_SSSEQL
  ⟨0x2046, 4096, 1, 1, 1, .fabric, .mod, [Field.ro 15 0 0]⟩,
  -- MEM_SSVLEN
  ⟨0x2047, 4096, 1, 1, 1, .fabric, .mod, [Field.ro 17 0 0]⟩,
  -- MEM_OTPCMD
  ⟨0x2050, 4096, 1, 1, 1, .fabric, .mod, [⟨17, 16, .wo, false, false, true, 0, [(0, 1)]⟩, ⟨10, 0, .wo, false, false, true, 0, []⟩]⟩,
  -- MEM_OTPDATA
  ⟨0x2051, 4096, 1, 1, 1, .fabric, .mod, [Field.plain 17 0 0]⟩,
  -- MEM_OTPSTAT
  ⟨0x2052, 4096, 1, 1, 1, .fabric, .mod, [Field.ro 17 17 0, Field.ro 16 14 0]⟩]

/-- The register table of block 2, MEM. -/
def rowsMEM : List RegRow :=
  rowsMEM1 ++ rowsMEM2

/-- Registers of block 3 (RNG), part 1. -/
def rowsRNG1 : List RegRow := [
  -- RNG_RBASE
  ⟨0x3000, 16, 64, 1, 1, .fabric, .mod, [Field.plain 17 3 4096]⟩,
  -- RNG_RCFG
  ⟨0x3001, 16, 64, 1, 1, .fabric, .mod, [Field.plain 17 17 0, Field.plain 16 16 0, Field.plain 15 15 0, ⟨14, 12, .rw, false, false, false, 0, [(0, 2), (4, 7)]⟩, ⟨11, 8, .rw, false, false, false, 0, [(0, 8)]⟩, Field.plain 7 5 0]⟩,
  -- RNG_DB
  ⟨0x3002, 16, 64, 1, 1, .fabric, .mod, [Field.plain 9 0 0]⟩,
  -- RNG_RSTAT
  ⟨0x3003, 16, 64, 1, 1, .fabric, .mod, [Field.ro 17 16 0, Field.ro 15 13 0, Field.ro 12 12 0, Field.ro 9 0 0]⟩,
  -- RNG_FLAG
  ⟨0x3400, 4096, 1, 1, 1, .fabric, .mod, [Field.w1c 5 5 0, Field.w1c 4 4 0, Field.w1c 3 3 0, Field.w1c 2 2 0, Field.w1c 1 1 0, Field.w1c 0 0 0]⟩,
  -- RNG_IRQPEND
  ⟨0x3401, 1, 4, 1, 1, .fabric, .mod, [Field.w1c 15 0 0]⟩,
  -- RNG_ADROP
  ⟨0x3405, 4096, 1, 1, 1, .fabric, .mod, [Field.rcf 17 9 0, Field.rcf 8 0 0]⟩,
  -- RNG_TXSTAT
  ⟨0x3500, 16, 3, 1, 1, .fabric, .mod, [Field.ro 17 17 0, Field.ro 16 16 0, Field.ro 15 13 0]⟩,
  -- RNG_TXSTAT
  ⟨0x3540, 16, 4, 1, 1, .fabric, .mod, [Field.ro 17 17 0, Field.ro 16 16 0, Field.ro 15 13 0]⟩,
  -- RNG_TXCLAIM
  ⟨0x3501, 16, 3, 1, 1, .fabric, .mod, [Field.ro 15 0 0]⟩,
  -- RNG_TXCLAIM
  ⟨0x3541, 16, 4, 1, 1, .fabric, .mod, [Field.ro 15 0 0]⟩,
  -- RNG_TXLEFT
  ⟨0x3502, 16, 3, 1, 1, .fabric, .mod, [Field.ro 15 0 0]⟩,
  -- RNG_TXLEFT
  ⟨0x3542, 16, 4, 1, 1, .fabric, .mod, [Field.ro 15 0 0]⟩,
  -- RNG_SCTL
  ⟨0x3600, 16, 4, 1, 1, .fabric, .mod, [Field.plain 17 17 0, Field.ro 16 16 0, Field.plain 13 8 0, Field.plain 7 0 25]⟩,
  -- RNG_SCLAIM
  ⟨0x3601, 16, 4, 1, 1, .fabric, .mod, [Field.plain 15 0 0]⟩,
  -- RNG_SDROP
  ⟨0x3606, 16, 4, 1, 1, .fabric, .mod, [Field.rcf 17 9 0, Field.rcf 8 0 0]⟩,
  -- RNG_SHFH
  ⟨0x3602, 16, 4, 1, 1, .fawn, .por, [Field.plain 15 0 0]⟩,
  -- RNG_SHFL
  ⟨0x3603, 16, 4, 1, 1, .fawn, .por, [Field.plain 15 0 0]⟩,
  -- RNG_SMFH
  ⟨0x3604, 16, 4, 1, 1, .fawn, .por, [Field.plain 15 0 0]⟩,
  -- RNG_SMFL
  ⟨0x3605, 16, 4, 1, 1, .fawn, .por, [Field.plain 15 0 0]⟩]

/-- The register table of block 3, RNG. -/
def rowsRNG : List RegRow :=
  rowsRNG1

/-- Registers of block 4 (HSC), part 1. -/
def rowsHSC1 : List RegRow := [
  -- HSC_FLAG
  ⟨0x4000, 4096, 1, 1, 1, .act, .dom, [Field.w1c 1 1 0, Field.w1c 0 0 0]⟩,
  -- HSC_GCTL
  ⟨0x4001, 4096, 1, 1, 1, .act, .dom, [⟨2, 0, .rw, true, false, false, 2, [(0, 5)]⟩]⟩,
  -- HSC_KL30
  ⟨0x4004, 1, 4, 1, 1, .act, .dom, [Field.ro 17 0 54000]⟩,
  -- HSC_LSUM
  ⟨0x4008, 1, 4, 1, 1, .act, .dom, [Field.ro 15 0 0]⟩,
  -- HSC_CFG
  ⟨0x4100, 16, 64, 1, 1, .act, .dom, [⟨17, 16, .rw, true, false, false, 2, [(0, 2)]⟩, Field.txf 15 15 0, Field.txf 14 13 1, Field.txf 12 12 0, Field.txf 11 11 0, Field.txf 10 10 0, ⟨9, 8, .rw, true, false, false, 1, [(0, 2)]⟩, Field.txf 7 6 1, Field.ro 5 4 0, ⟨3, 0, .rw, true, false, false, 0, [(0, 7)]⟩]⟩,
  -- HSC_PROT
  ⟨0x4101, 16, 64, 1, 1, .act, .dom, [Field.txf 17 11 0, Field.txf 10 7 3, ⟨6, 2, .rw, true, false, false, 10, [(1, 20)]⟩, ⟨1, 0, .rw, true, false, false, 0, [(0, 2)]⟩]⟩,
  -- HSC_OLTH
  ⟨0x4102, 16, 64, 1, 1, .act, .dom, [Field.txf 17 0 0]⟩,
  -- HSC_STAT
  ⟨0x4104, 16, 64, 1, 1, .act, .dom, [Field.ro 17 14 0, Field.ro 13 12 0, Field.ro 11 8 0, Field.ro 7 6 2, Field.ro 5 3 0, Field.ro 2 2 0, Field.ro 1 1 0, Field.ro 0 0 0]⟩,
  -- HSC_IMEAS
  ⟨0x4105, 16, 64, 1, 1, .act, .dom, [Field.ro 17 0 0]⟩,
  -- HSC_VOUT
  ⟨0x4106, 16, 64, 1, 1, .act, .dom, [Field.ro 17 0 0]⟩,
  -- HSC_CNT
  ⟨0x4107, 16, 64, 1, 1, .act, .dom, [Field.rcf 17 12 0, Field.rcf 11 6 0, Field.rcf 5 0 0]⟩,
  -- HSC_EVT
  ⟨0x4108, 16, 64, 1, 1, .act, .dom, [Field.w1c 8 8 0, Field.w1c 7 7 0, Field.w1c 6 6 0, Field.w1c 5 5 0, Field.w1c 4 4 0, Field.w1c 3 3 0, Field.w1c 2 2 0, Field.w1c 1 1 0, Field.w1c 0 0 0]⟩,
  -- HSC_IEN
  ⟨0x4109, 16, 64, 1, 1, .act, .dom, [Field.plain 8 0 0]⟩]

/-- The register table of block 4, HSC. -/
def rowsHSC : List RegRow :=
  rowsHSC1

/-- Registers of block 5 (THM), part 1. -/
def rowsTHM1 : List RegRow := [
  -- THM_FLAG
  ⟨0x5000, 4096, 1, 1, 1, .act, .dom, [Field.w1c 5 5 0, Field.w1c 4 4 0, Field.w1c 3 3 0, Field.w1c 2 2 0, Field.w1c 1 1 0, Field.w1c 0 0 0]⟩,
  -- THM_GCTL
  ⟨0x5001, 4096, 1, 1, 1, .act, .dom, [⟨17, 17, .w1s, false, false, false, 0, []⟩, ⟨3, 2, .rw, true, true, false, 1, []⟩, ⟨1, 0, .rw, true, true, false, 1, []⟩]⟩,
  -- THM_AMB
  ⟨0x5002, 4096, 1, 1, 1, .act, .dom, [Field.plain 17 0 5440]⟩,
  -- THM_PBASE
  ⟨0x5003, 4096, 1, 1, 1, .act, .dom, [Field.plain 17 0 5000]⟩,
  -- THM_PEST
  ⟨0x5004, 4096, 1, 1, 1, .act, .dom, [Field.ro 17 0 0]⟩,
  -- THM_PLIM
  ⟨0x5005, 4096, 1, 1, 1, .act, .dom, [Field.plain 17 0 30000]⟩,
  -- THM_IEN
  ⟨0x5006, 4096, 1, 1, 1, .act, .dom, [Field.plain 6 0 0]⟩,
  -- THM_CASE
  ⟨0x5010, 1, 12, 1, 1, .act, .dom, [Field.ro 17 0 1600]⟩,
  -- THM_CSTAT
  ⟨0x501C, 4096, 1, 1, 1, .act, .dom, [Field.ro 11 0 0]⟩,
  -- THM_DIE0
  ⟨0x5020, 4096, 1, 1, 1, .act, .dom, [Field.ro 17 0 1600]⟩,
  -- THM_DIE1
  ⟨0x5021, 4096, 1, 1, 1, .act, .dom, [Field.ro 17 0 1600]⟩,
  -- THM_WLAT
  ⟨0x5024, 1, 4, 1, 1, .act, .por, [Field.ro 15 0 0]⟩,
  -- THM_WLATV
  ⟨0x5028, 4096, 1, 1, 1, .act, .por, [Field.ro 3 0 0]⟩,
  -- THM_ESUM
  ⟨0x5030, 1, 8, 1, 1, .act, .dom, [Field.ro 15 0 0]⟩,
  -- THM_TCFG
  ⟨0x5100, 16, 124, 1, 1, .act, .dom, [⟨6, 0, .rw, true, true, false, 60, [(40, 80)]⟩]⟩,
  -- THM_TSTAT
  ⟨0x5101, 16, 128, 1, 1, .act, .dom, [Field.ro 17 17 0, Field.ro 16 16 0, Field.ro 15 15 0, Field.ro 14 13 0, Field.ro 12 11 0]⟩,
  -- THM_TCH
  ⟨0x5102, 16, 128, 1, 1, .act, .dom, [Field.ro 17 0 1600]⟩,
  -- THM_TDT
  ⟨0x5103, 16, 128, 1, 1, .act, .dom, [Field.ro 17 0 0]⟩,
  -- THM_WCFG
  ⟨0x5104, 16, 64, 1, 1, .act, .dom, [⟨17, 17, .rw, true, true, false, 1, []⟩, ⟨16, 13, .rw, true, true, false, 0, [(0, 8)]⟩, ⟨12, 9, .rw, true, true, false, 0, []⟩, ⟨8, 4, .rw, true, true, false, 9, [(0, 18)]⟩, ⟨3, 3, .rw, true, true, false, 0, []⟩]⟩,
  -- THM_WCFG
  ⟨0x5604, 16, 4, 1, 1, .act, .dom, [⟨17, 17, .rw, true, true, false, 1, []⟩, ⟨16, 13, .rw, true, true, false, 0, [(0, 8)]⟩, ⟨12, 9, .rw, true, true, false, 0, []⟩, ⟨8, 4, .rw, true, true, false, 9, [(0, 18)]⟩, ⟨3, 3, .rw, true, true, false, 0, []⟩]⟩,
  -- THM_WSTAT
  ⟨0x5105, 16, 64, 1, 1, .act, .dom, [Field.ro 17 17 0, Field.ro 16 16 0]⟩,
  -- THM_WSTAT
  ⟨0x5605, 16, 4, 1, 1, .act, .dom, [Field.ro 17 17 0, Field.ro 16 16 0]⟩,
  -- THM_WTEMP
  ⟨0x5106, 16, 64, 1, 1, .act, .dom, [Field.ro 17 0 5440]⟩,
  -- THM_WTEMP
  ⟨0x5606, 16, 4, 1, 1, .act, .dom, [Field.ro 17 0 5440]⟩]

/-- Registers of block 5 (THM), part 2. -/
def rowsTHM2 : List RegRow := [
  -- THM_EVT
  ⟨0x5107, 16, 128, 1, 1, .act, .dom, [Field.w1c 3 3 0, Field.w1c 2 2 0, Field.w1c 1 1 0, Field.w1c 0 0 0]⟩]

/-- The register table of block 5, THM. -/
def rowsTHM : List RegRow :=
  rowsTHM1 ++ rowsTHM2

/-- Registers of block 6 (SEQ), part 1. -/
def rowsSEQ1 : List RegRow := [
  -- SEQ_FLAG
  ⟨0x6000, 4096, 1, 1, 1, .act, .dom, [Field.w1c 7 7 0, Field.w1c 6 6 0, Field.w1c 5 5 0, Field.w1c 4 4 0, Field.w1c 3 3 0, Field.w1c 2 2 0, Field.w1c 1 1 0, Field.w1c 0 0 0]⟩,
  -- SEQ_LOCK
  ⟨0x6001, 4096, 1, 1, 1, .act, .dom, [⟨0, 0, .w1s, false, false, false, 0, []⟩]⟩,
  -- SEQ_ZCTL
  ⟨0x6002, 4096, 1, 1, 1, .act, .dom, [Field.plain 1 0 1]⟩,
  -- SEQ_ZSTAT
  ⟨0x6003, 4096, 1, 1, 1, .act, .dom, [Field.ro 17 17 0, Field.ro 16 16 1, Field.ro 15 8 255, Field.ro 7 0 0]⟩,
  -- SEQ_ZT3
  ⟨0x6004, 4096, 1, 1, 1, .act, .dom, [Field.ro 15 0 0]⟩,
  -- SEQ_ZT2
  ⟨0x6005, 4096, 1, 1, 1, .act, .dom, [Field.ro 15 0 0]⟩,
  -- SEQ_ZT1
  ⟨0x6006, 4096, 1, 1, 1, .act, .dom, [Field.ro 15 0 0]⟩,
  -- SEQ_ZT0
  ⟨0x6007, 4096, 1, 1, 1, .act, .dom, [Field.ro 15 0 0]⟩,
  -- SEQ_ZOFS
  ⟨0x6008, 4096, 1, 1, 1, .act, .dom, [Field.ro 17 0 0]⟩,
  -- SEQ_MADR
  ⟨0x6010, 4096, 1, 1, 1, .act, .dom, [Field.plain 12 0 0]⟩,
  -- SEQ_MDATA
  ⟨0x6011, 4096, 1, 1, 1, .act, .dom, [Field.plain 17 0 0]⟩,
  -- SEQ_PCNT0
  ⟨0x6018, 4096, 1, 1, 1, .act, .dom, [Field.rcf 17 9 0, Field.rcf 8 0 0]⟩,
  -- SEQ_PCNT1
  ⟨0x6019, 4096, 1, 1, 1, .act, .dom, [Field.rcf 17 9 0, Field.rcf 8 0 0]⟩,
  -- SEQ_FAULT
  ⟨0x6020, 4096, 1, 1, 1, .act, .dom, [Field.ro 17 15 0, Field.ro 6 0 0]⟩,
  -- SEQ_GCFG
  ⟨0x6100, 16, 16, 1, 1, .act, .dom, [Field.txf 17 16 0, ⟨15, 0, .rw, true, false, false, 0, [(0, 0), (16, 65535)]⟩]⟩,
  -- SEQ_GCTL
  ⟨0x6101, 16, 16, 1, 1, .act, .dom, [Field.txf 17 17 0, Field.ro 16 16 0, Field.wof 15 15 0, Field.txf 12 0 0]⟩,
  -- SEQ_GSTAT
  ⟨0x6102, 16, 16, 1, 1, .act, .dom, [Field.ro 17 0 0]⟩,
  -- SEQ_OCFG
  ⟨0x6400, 16, 128, 1, 1, .act, .dom, [Field.txf 17 14 0, Field.plain 13 13 0, Field.txf 12 0 0]⟩,
  -- SEQ_OSTAT
  ⟨0x6401, 16, 128, 1, 1, .act, .dom, [Field.ro 17 15 0, Field.ro 14 14 0, Field.ro 12 0 0]⟩,
  -- SEQ_OVAL
  ⟨0x6402, 16, 128, 1, 1, .act, .dom, [Field.ro 17 0 0]⟩]

/-- The register table of block 6, SEQ. -/
def rowsSEQ : List RegRow :=
  rowsSEQ1

/-- Registers of block 7 (MOT), part 1. -/
def rowsMOT1 : List RegRow := [
  -- MOT_FLAG
  ⟨0x7000, 4096, 1, 1, 1, .act, .dom, [Field.w1c 3 3 0, Field.w1c 2 2 0, Field.w1c 1 1 0, Field.w1c 0 0 0]⟩,
  -- MOT_GCTL
  ⟨0x7001, 4096, 1, 1, 1, .act, .dom, [⟨1, 0, .rw, true, false, false, 1, [(0, 2)]⟩]⟩,
  -- MOT_CPSTAT
  ⟨0x7002, 4096, 1, 1, 1, .act, .dom, [Field.ro 17 17 1, Field.ro 16 0 44000]⟩,
  -- MOT_HCFG
  ⟨0x7100, 16, 16, 1, 1, .act, .dom, [Field.txf 17 17 0, Field.txf 16 15 2, Field.txf 14 13 1, ⟨12, 9, .rw, true, false, false, 6, [(1, 10)]⟩, Field.txf 8 8 0, Field.txf 7 7 0]⟩,
  -- MOT_HCFG2
  ⟨0x7101, 16, 16, 1, 1, .act, .dom, [Field.txf 17 10 0, ⟨9, 2, .rw, true, false, false, 10, [(1, 255)]⟩]⟩,
  -- MOT_HSTAT
  ⟨0x7102, 16, 16, 1, 1, .act, .dom, [Field.ro 17 14 0, Field.ro 13 12 0, Field.ro 11 10 0, Field.ro 9 9 0, Field.ro 8 8 0, Field.ro 7 6 0, Field.ro 5 5 0]⟩,
  -- MOT_HIMEAS
  ⟨0x7103, 16, 16, 1, 1, .act, .dom, [Field.ro 17 0 0]⟩,
  -- MOT_HEVT
  ⟨0x7104, 16, 16, 1, 1, .act, .dom, [Field.w1c 8 0 0]⟩,
  -- MOT_HIEN
  ⟨0x7105, 16, 16, 1, 1, .act, .dom, [Field.plain 8 0 0]⟩,
  -- MOT_GCFG
  ⟨0x7300, 16, 4, 1, 1, .act, .dom, [Field.txf 17 17 0, Field.txf 16 15 2, Field.txf 14 13 1, Field.txf 12 9 4, Field.txf 8 6 1, Field.txf 5 2 4, Field.txf 1 0 1]⟩,
  -- MOT_GCFG2
  ⟨0x7301, 16, 4, 1, 1, .act, .dom, [⟨17, 10, .rw, true, false, false, 32, [(16, 255)]⟩, ⟨9, 2, .rw, true, false, false, 10, [(1, 255)]⟩]⟩,
  -- MOT_RCFG
  ⟨0x7302, 16, 4, 1, 1, .act, .dom, [Field.txf 17 10 0, Field.txf 9 9 0, Field.txf 8 0 16]⟩,
  -- MOT_PINCH
  ⟨0x7303, 16, 4, 1, 1, .act, .dom, [Field.txf 17 17 0, Field.txf 16 16 0, Field.txf 15 14 2, ⟨13, 6, .rw, true, false, false, 100, [(1, 255)]⟩, Field.txf 5 0 15]⟩,
  -- MOT_PINCH2
  ⟨0x7304, 16, 4, 1, 1, .act, .dom, [⟨17, 10, .rw, true, false, false, 20, [(1, 255)]⟩, Field.txf 9 2 200]⟩,
  -- MOT_GSTAT
  ⟨0x7305, 16, 4, 1, 1, .act, .dom, [Field.ro 17 14 0, Field.ro 13 12 0, Field.ro 11 10 0, Field.ro 9 9 0, Field.ro 8 8 1, Field.ro 7 7 0, Field.ro 6 6 0, Field.ro 5 3 0, Field.ro 2 2 0, Field.ro 1 0 0]⟩,
  -- MOT_GIMEAS
  ⟨0x7306, 16, 4, 1, 1, .act, .dom, [Field.ro 17 0 0]⟩,
  -- MOT_POS
  ⟨0x7307, 16, 4, 1, 1, .act, .dom, [Field.ro 17 0 0]⟩,
  -- MOT_RPER
  ⟨0x7308, 16, 4, 1, 1, .act, .dom, [Field.ro 17 0 0]⟩,
  -- MOT_GEVT
  ⟨0x7309, 16, 4, 1, 1, .act, .dom, [Field.w1c 10 0 0]⟩,
  -- MOT_GIEN
  ⟨0x730A, 16, 4, 1, 1, .act, .dom, [Field.plain 10 0 0]⟩,
  -- MOT_RINS
  ⟨0x730B, 16, 4, 1, 1, .act, .dom, [Field.rcf 17 9 0, Field.rcf 8 0 0]⟩,
  -- MOT_PZPOS
  ⟨0x7400, 16, 4, 2, 8, .act, .dom, [Field.txf 17 0 0]⟩,
  -- MOT_PZLIM
  ⟨0x7401, 16, 4, 2, 8, .act, .dom, [Field.txf 17 17 0, Field.txf 16 8 0, Field.txf 7 0 0]⟩]

/-- The register table of block 7, MOT. -/
def rowsMOT : List RegRow :=
  rowsMOT1

/-- Registers of block 8 (VLV), part 1. -/
def rowsVLV1 : List RegRow := [
  -- VLV_FLAG
  ⟨0x8000, 4096, 1, 1, 1, .act, .dom, [Field.w1c 4 4 0, Field.w1c 3 3 0, Field.w1c 2 2 0, Field.w1c 1 1 0, Field.w1c 0 0 0]⟩,
  -- VLV_GCTL
  ⟨0x8001, 4096, 1, 1, 1, .act, .dom, [⟨4, 2, .rw, true, false, false, 2, [(0, 5)]⟩, ⟨1, 0, .rw, true, false, false, 1, [(0, 2)]⟩]⟩,
  -- VLV_BCFG
  ⟨0x8100, 16, 4, 1, 1, .act, .dom, [Field.txf 17 17 0, ⟨16, 11, .rw, true, false, false, 48, [(1, 48)]⟩, ⟨10, 3, .rw, true, false, false, 100, [(1, 255)]⟩]⟩,
  -- VLV_BCFG2
  ⟨0x8101, 16, 4, 1, 1, .act, .dom, [Field.txf 17 10 10, ⟨9, 1, .rw, true, false, false, 0, [(0, 500)]⟩]⟩,
  -- VLV_BSTAT
  ⟨0x8102, 16, 4, 1, 1, .act, .dom, [Field.ro 17 15 0, Field.ro 14 13 0, Field.ro 12 12 0, Field.ro 11 11 0, Field.ro 10 9 0, Field.ro 8 6 0]⟩,
  -- VLV_BIMEAS
  ⟨0x8103, 16, 4, 1, 1, .act, .dom, [Field.ro 17 0 0]⟩,
  -- VLV_BEVT
  ⟨0x8104, 16, 4, 1, 1, .act, .dom, [Field.w1c 7 0 0]⟩,
  -- VLV_BIEN
  ⟨0x8105, 16, 4, 1, 1, .act, .dom, [Field.plain 7 0 0]⟩,
  -- VLV_BVOLT
  ⟨0x8106, 16, 4, 1, 1, .act, .dom, [Field.ro 17 0 0]⟩,
  -- VLV_BCNT
  ⟨0x8107, 16, 4, 1, 1, .act, .dom, [Field.rcf 17 9 0, Field.rcf 8 0 0]⟩,
  -- VLV_VCFG
  ⟨0x8200, 16, 16, 1, 1, .act, .dom, [Field.txf 17 17 0, Field.txf 16 16 0, Field.txf 15 15 0, Field.txf 14 14 0, ⟨13, 9, .rw, true, false, false, 0, [(0, 16)]⟩, ⟨8, 0, .rw, true, false, false, 0, [(0, 0), (20, 500)]⟩]⟩,
  -- VLV_VPK
  ⟨0x8201, 16, 16, 1, 1, .act, .dom, [⟨17, 0, .rw, true, false, false, 65536, [(0, 196608)]⟩]⟩,
  -- VLV_VTIM
  ⟨0x8202, 16, 16, 1, 1, .act, .dom, [⟨17, 12, .rw, true, false, false, 2, [(0, 50)]⟩, Field.txf 11 6 0, ⟨5, 0, .rw, true, false, false, 50, [(1, 50)]⟩]⟩,
  -- VLV_VDUTY
  ⟨0x8203, 16, 16, 1, 1, .act, .dom, [⟨17, 12, .rw, true, false, false, 0, [(0, 60)]⟩, ⟨11, 5, .rw, true, false, false, 64, [(1, 64)]⟩]⟩,
  -- VLV_VSTAT
  ⟨0x8204, 16, 16, 1, 1, .act, .dom, [Field.ro 17 14 0, Field.ro 13 12 0, Field.ro 11 11 0, Field.ro 10 10 0, Field.ro 9 8 0, Field.ro 7 7 0]⟩,
  -- VLV_VIMEAS
  ⟨0x8205, 16, 16, 1, 1, .act, .dom, [Field.ro 17 0 0]⟩,
  -- VLV_VTPK
  ⟨0x8206, 16, 16, 1, 1, .act, .dom, [Field.ro 17 0 0]⟩,
  -- VLV_VDACC
  ⟨0x8207, 16, 16, 1, 1, .act, .dom, [Field.ro 11 0 0]⟩,
  -- VLV_VEVT
  ⟨0x8208, 16, 16, 1, 1, .act, .dom, [Field.w1c 9 0 0]⟩,
  -- VLV_VIEN
  ⟨0x8209, 16, 16, 1, 1, .act, .dom, [Field.plain 9 0 0]⟩]

/-- The register table of block 8, VLV. -/
def rowsVLV : List RegRow :=
  rowsVLV1

/-- Registers of block 9 (LUX), part 1. -/
def rowsLUX1 : List RegRow := [
  -- LUX_FLAG
  ⟨0x9000, 4096, 1, 1, 1, .act, .dom, [Field.w1c 4 4 0, Field.w1c 3 3 0, Field.w1c 2 2 0, Field.w1c 1 1 0, Field.w1c 0 0 0]⟩,
  -- LUX_GCTL
  ⟨0x9001, 4096, 1, 1, 1, .act, .dom, [⟨17, 17, .w1s, false, false, false, 0, []⟩]⟩,
  -- LUX_LCFG
  ⟨0x9100, 16, 24, 1, 1, .act, .dom, [Field.txf 17 17 0, ⟨16, 7, .rw, true, false, false, 0, [(0, 600)]⟩, Field.txf 6 6 0, Field.txf 5 5 1]⟩,
  -- LUX_LDER
  ⟨0x9101, 16, 24, 1, 1, .act, .dom, [⟨17, 12, .rw, true, true, false, 25, [(0, 40)]⟩, ⟨11, 8, .rw, true, true, false, 4, []⟩]⟩,
  -- LUX_LBRT
  ⟨0x9102, 16, 24, 1, 1, .act, .dom, [⟨12, 0, .rw, true, false, false, 4096, [(0, 4096)]⟩]⟩,
  -- LUX_LSTAT
  ⟨0x9103, 16, 24, 1, 1, .act, .dom, [Field.ro 17 15 0, Field.ro 14 13 0, Field.ro 12 11 0, Field.ro 10 10 0, Field.ro 9 9 0, Field.ro 8 8 0, Field.ro 7 0 255]⟩,
  -- LUX_LIMEAS
  ⟨0x9104, 16, 24, 1, 1, .act, .dom, [Field.ro 17 0 0]⟩,
  -- LUX_LVSNK
  ⟨0x9105, 16, 24, 1, 1, .act, .dom, [Field.ro 17 0 0]⟩,
  -- LUX_LEVT
  ⟨0x9106, 16, 24, 1, 1, .act, .dom, [Field.w1c 5 0 0]⟩,
  -- LUX_LIEN
  ⟨0x9107, 16, 24, 1, 1, .act, .dom, [Field.plain 5 0 0]⟩,
  -- LUX_CTT0
  ⟨0x9300, 16, 32, 1, 1, .act, .dom, [Field.txf 15 0 0]⟩,
  -- LUX_CTT1
  ⟨0x9301, 16, 32, 1, 1, .act, .dom, [Field.txf 15 0 0]⟩,
  -- LUX_CTT2
  ⟨0x9302, 16, 32, 1, 1, .act, .dom, [Field.txf 15 0 0]⟩,
  -- LUX_CTD0
  ⟨0x9303, 16, 32, 1, 1, .act, .dom, [Field.txf 17 0 0]⟩,
  -- LUX_CTD1
  ⟨0x9304, 16, 32, 1, 1, .act, .dom, [Field.txf 17 0 0]⟩,
  -- LUX_CTD2
  ⟨0x9305, 16, 32, 1, 1, .act, .dom, [Field.txf 17 0 0]⟩,
  -- LUX_CCFG
  ⟨0x9500, 16, 8, 1, 1, .act, .dom, [Field.txf 17 17 0, ⟨16, 12, .rw, true, false, false, 0, [(0, 23)]⟩, ⟨11, 7, .rw, true, false, false, 0, [(0, 23)]⟩, ⟨6, 2, .rw, true, false, false, 0, [(0, 23)]⟩]⟩,
  -- LUX_CSNS
  ⟨0x9501, 16, 8, 1, 1, .act, .dom, [Field.txf 17 11 0, Field.txf 10 3 0, Field.txf 2 2 0]⟩,
  -- LUX_CTIM
  ⟨0x9502, 16, 8, 1, 1, .act, .dom, [⟨17, 12, .rw, true, false, false, 10, [(2, 63)]⟩, Field.txf 11 4 8]⟩,
  -- LUX_CSTAT
  ⟨0x9503, 16, 8, 1, 1, .act, .dom, [Field.ro 17 16 0, Field.ro 15 15 0, Field.ro 14 14 0, Field.ro 13 13 0, Field.ro 12 8 0, Field.ro 7 0 0]⟩,
  -- LUX_CS0
  ⟨0x9504, 16, 8, 1, 1, .act, .dom, [Field.ro 15 0 0]⟩,
  -- LUX_CS1
  ⟨0x9505, 16, 8, 1, 1, .act, .dom, [Field.ro 15 0 0]⟩,
  -- LUX_CS2
  ⟨0x9506, 16, 8, 1, 1, .act, .dom, [Field.ro 15 0 0]⟩,
  -- LUX_CEVT
  ⟨0x9507, 16, 8, 1, 1, .act, .dom, [Field.w1c 3 0 0]⟩]

/-- Registers of block 9 (LUX), part 2. -/
def rowsLUX2 : List RegRow := [
  -- LUX_CIEN
  ⟨0x9508, 16, 8, 1, 1, .act, .dom, [Field.plain 3 0 0]⟩,
  -- LUX_CM
  ⟨0x9600, 16, 8, 1, 9, .act, .dom, [Field.txf 17 0 0]⟩,
  -- LUX_PCFG
  ⟨0x9700, 16, 2, 1, 1, .act, .dom, [Field.txf 17 17 0, ⟨16, 9, .rw, true, false, false, 0, [(1, 128)]⟩, Field.txf 8 1 0]⟩,
  -- LUX_PSTAT
  ⟨0x9701, 16, 2, 1, 1, .act, .dom, [Field.ro 17 16 0, Field.ro 15 8 0, Field.ro 7 0 0]⟩,
  -- LUX_PERR
  ⟨0x9702, 16, 2, 1, 1, .act, .dom, [Field.rcf 17 9 0, Field.rcf 8 0 0]⟩,
  -- LUX_PEVT
  ⟨0x9703, 16, 2, 1, 1, .act, .dom, [Field.w1c 4 0 0]⟩,
  -- LUX_PIEN
  ⟨0x9704, 16, 2, 1, 1, .act, .dom, [Field.plain 4 0 0]⟩,
  -- LUX_PFLT
  ⟨0x9708, 16, 2, 1, 8, .act, .dom, [Field.ro 15 0 0]⟩]

/-- The register table of block 9, LUX. -/
def rowsLUX : List RegRow :=
  rowsLUX1 ++ rowsLUX2

/-- Registers of block 10 (INP), part 1. -/
def rowsINP1 : List RegRow := [
  -- INP_FLAG
  ⟨0xA000, 4096, 1, 1, 1, .act, .dom, [Field.w1c 7 7 0, Field.w1c 6 6 0, Field.w1c 5 5 0, Field.w1c 4 4 0, Field.w1c 3 3 0, Field.w1c 2 2 0, Field.w1c 1 1 0, Field.w1c 0 0 0]⟩,
  -- INP_GCTL
  ⟨0xA001, 4096, 1, 1, 1, .act, .dom, [Field.txf 17 16 0, Field.txf 15 14 2, Field.txf 13 6 0]⟩,
  -- INP_GLOCK
  ⟨0xA002, 4096, 1, 1, 1, .act, .mod, [⟨17, 17, .w1s, false, false, false, 0, []⟩, Field.ro 16 16 0]⟩,
  -- INP_LHCTL
  ⟨0xA003, 4096, 1, 1, 1, .act, .dom, [⟨17, 17, .rw, false, true, false, 0, []⟩, ⟨16, 16, .rw, false, true, false, 0, []⟩, ⟨15, 8, .rw, false, true, false, 0, []⟩, ⟨7, 0, .rw, false, true, false, 10, [(1, 255)]⟩]⟩,
  -- INP_SWSTAT
  ⟨0xA004, 1, 3, 1, 1, .act, .dom, [Field.ro 15 0 0]⟩,
  -- INP_SWEVT
  ⟨0xA008, 1, 3, 1, 1, .act, .dom, [Field.w1c 15 0 0]⟩,
  -- INP_LHCMD
  ⟨0xA00C, 4096, 1, 1, 1, .act, .dom, [Field.plain 1 1 0, Field.wof 0 0 0]⟩,
  -- INP_LHSTAT
  ⟨0xA00D, 4096, 1, 1, 1, .act, .dom, [Field.ro 17 17 0, Field.ro 16 13 0]⟩,
  -- INP_FOUT
  ⟨0xA014, 1, 2, 1, 1, .act, .dom, [Field.ro 15 0 0]⟩,
  -- INP_SS
  ⟨0xA018, 1, 2, 1, 1, .act, .dom, [Field.txf 17 17 0, Field.txf 16 16 0, Field.ro 15 14 0, Field.ro 13 0 0]⟩,
  -- INP_I2C
  ⟨0xA01C, 4096, 1, 1, 1, .act, .dom, [Field.ro 17 17 0, Field.rcf 16 9 0, Field.rcf 8 0 0]⟩,
  -- INP_ADCST
  ⟨0xA020, 4096, 1, 1, 1, .act, .dom, [Field.ro 9 0 0]⟩,
  -- INP_ANEVT
  ⟨0xA024, 1, 2, 1, 1, .act, .dom, [Field.w1c 15 0 0]⟩,
  -- INP_BRG
  ⟨0xA030, 1, 34, 1, 1, .act, .dom, [Field.txf 17 16 0, Field.txf 15 13 0, Field.txf 12 10 0]⟩,
  -- INP_DROP
  ⟨0xA060, 1, 8, 1, 1, .act, .dom, [Field.rcf 17 0 0]⟩,
  -- INP_SWCFG
  ⟨0xA100, 16, 48, 1, 1, .act, .dom, [⟨17, 16, .rw, true, false, false, 0, [(0, 2)]⟩, Field.txf 15 14 0, Field.txf 13 13 0, ⟨12, 11, .rw, true, false, false, 0, [(0, 2)]⟩, ⟨10, 7, .rw, true, false, false, 3, [(1, 15)]⟩, Field.txf 6 5 0, Field.plain 4 4 0]⟩,
  -- INP_SWCFG2
  ⟨0xA101, 16, 48, 1, 1, .act, .dom, [⟨17, 10, .rw, true, false, false, 25, [(1, 255)]⟩, ⟨9, 8, .rw, true, false, false, 0, [(0, 2)]⟩]⟩,
  -- INP_SWRAW
  ⟨0xA102, 16, 48, 1, 1, .act, .dom, [Field.ro 17 17 0]⟩,
  -- INP_ANCFG
  ⟨0xA400, 16, 24, 1, 1, .act, .dom, [Field.txf 17 17 0, Field.txf 16 16 0, ⟨15, 14, .rw, true, false, false, 0, [(0, 2)]⟩, Field.txf 13 13 0, Field.txf 12 12 0, Field.plain 11 11 0]⟩,
  -- INP_ANLO
  ⟨0xA401, 16, 24, 1, 1, .act, .dom, [Field.txf 17 0 0]⟩,
  -- INP_ANHI
  ⟨0xA402, 16, 24, 1, 1, .act, .dom, [Field.txf 17 0 262143]⟩,
  -- INP_ANR
  ⟨0xA403, 16, 24, 1, 1, .act, .dom, [Field.ro 17 0 0]⟩,
  -- INP_ANST
  ⟨0xA404, 16, 24, 1, 1, .act, .dom, [Field.ro 17 16 0, Field.ro 15 15 0]⟩,
  -- INP_SNCFG
  ⟨0xA600, 16, 8, 1, 1, .act, .dom, [Field.txf 17 17 0, ⟨16, 9, .rw, true, false, false, 6, [(5, 180)]⟩, ⟨8, 6, .rw, true, false, false, 6, [(1, 6)]⟩, Field.txf 5 5 0, Field.txf 4 4 0, Field.txf 3 3 0, ⟨2, 1, .rw, true, false, false, 0, [(0, 2)]⟩, Field.plain 0 0 0]⟩]

/-- Registers of block 10 (INP), part 2. -/
def rowsINP2 : List RegRow := [
  -- INP_SNTO
  ⟨0xA601, 16, 8, 1, 1, .act, .dom, [Field.txf 17 10 0]⟩,
  -- INP_SNSTAT
  ⟨0xA602, 16, 8, 1, 1, .act, .dom, [Field.ro 17 17 0, Field.ro 16 13 0]⟩,
  -- INP_SNLASTH
  ⟨0xA603, 16, 8, 1, 1, .act, .dom, [Field.ro 5 0 0]⟩,
  -- INP_SNLASTL
  ⟨0xA604, 16, 8, 1, 1, .act, .dom, [Field.ro 17 0 0]⟩,
  -- INP_SNCNT
  ⟨0xA605, 16, 8, 1, 1, .act, .dom, [Field.rcf 17 9 0]⟩,
  -- INP_PSCFG
  ⟨0xA680, 16, 4, 1, 1, .act, .dom, [Field.txf 17 17 0, Field.txf 16 16 0, ⟨15, 14, .rw, true, false, false, 0, [(0, 1)]⟩, Field.txf 13 12 0, ⟨11, 7, .rw, true, false, false, 10, [(10, 28)]⟩, Field.txf 6 6 0, Field.txf 5 5 0, Field.txf 4 4 0, Field.plain 3 3 0]⟩,
  -- INP_PSSYNC
  ⟨0xA681, 16, 4, 1, 1, .act, .dom, [⟨17, 6, .rw, true, false, false, 500, [(100, 4000)]⟩]⟩,
  -- INP_PSSLOT
  ⟨0xA682, 16, 4, 1, 1, .act, .dom, [Field.txf 17 9 36, Field.txf 8 0 80]⟩,
  -- INP_PSSTAT
  ⟨0xA683, 16, 4, 1, 1, .act, .dom, [Field.ro 17 17 0, Field.ro 16 13 0, Field.ro 12 12 0]⟩,
  -- INP_PSLASTH
  ⟨0xA684, 16, 4, 1, 1, .act, .dom, [Field.ro 9 0 0]⟩,
  -- INP_PSLASTL
  ⟨0xA685, 16, 4, 1, 1, .act, .dom, [Field.ro 17 0 0]⟩,
  -- INP_FCSEL
  ⟨0xA800, 16, 32, 1, 1, .act, .dom, [⟨15, 8, .rw, false, true, false, 0, []⟩, ⟨7, 0, .rw, false, true, false, 0, []⟩]⟩,
  -- INP_FCSEL2
  ⟨0xA801, 16, 32, 1, 1, .act, .dom, [⟨15, 8, .rw, false, true, false, 0, []⟩, ⟨7, 0, .rw, false, true, false, 0, []⟩]⟩,
  -- INP_FCLUT
  ⟨0xA802, 16, 32, 1, 1, .act, .dom, [⟨15, 0, .rw, false, true, false, 0, []⟩]⟩,
  -- INP_FCMODE
  ⟨0xA803, 16, 32, 1, 1, .act, .dom, [⟨2, 2, .rw, false, true, false, 0, []⟩, ⟨1, 0, .rw, false, true, false, 0, [(0, 1)]⟩]⟩,
  -- INP_FTCFG
  ⟨0xAA00, 16, 4, 1, 1, .act, .dom, [⟨17, 16, .rw, false, true, false, 0, [(0, 2)]⟩, ⟨15, 8, .rw, false, true, false, 0, []⟩]⟩,
  -- INP_FTPER
  ⟨0xAA01, 16, 4, 1, 1, .act, .dom, [⟨11, 0, .rw, false, true, false, 1, [(1, 4095)]⟩]⟩,
  -- INP_LHM
  ⟨0xAB00, 1, 128, 1, 1, .act, .dom, [⟨17, 16, .rw, false, true, false, 0, []⟩, ⟨15, 15, .rw, false, true, false, 0, []⟩, ⟨14, 13, .rw, false, true, false, 0, []⟩, ⟨12, 8, .rw, false, true, false, 0, []⟩]⟩,
  -- INP_LHD
  ⟨0xAB80, 1, 128, 1, 1, .act, .dom, [⟨17, 0, .rw, false, true, false, 0, []⟩]⟩]

/-- The register table of block 10, INP. -/
def rowsINP : List RegRow :=
  rowsINP1 ++ rowsINP2

/-- Registers of block 11 (NET), part 1. -/
def rowsNET1 : List RegRow := [
  -- NET_FLAG
  ⟨0xB000, 4096, 1, 1, 1, .net, .dom, [Field.w1c 5 5 0, Field.w1c 4 4 0, Field.w1c 3 3 0, Field.w1c 2 2 0, Field.w1c 1 1 0, Field.w1c 0 0 0]⟩,
  -- NET_RQ
  ⟨0xB020, 1, 8, 1, 1, .net, .dom, [Field.txf 7 0 32]⟩,
  -- NET_RDROP
  ⟨0xB028, 1, 8, 1, 1, .net, .dom, [Field.rcf 17 0 0]⟩,
  -- NET_CCFG
  ⟨0xB100, 16, 6, 1, 1, .net, .dom, [Field.txf 17 17 0, ⟨16, 15, .rw, true, false, false, 1, [(0, 2)]⟩, Field.txf 14 14 0, Field.txf 13 13 1, Field.txf 12 9 0]⟩,
  -- NET_CNBT
  ⟨0xB101, 16, 6, 1, 1, .net, .dom, [Field.txf 17 13 1, Field.txf 12 5 62, Field.txf 4 0 15]⟩,
  -- NET_CDBT
  ⟨0xB102, 16, 6, 1, 1, .net, .dom, [Field.txf 17 13 0, Field.txf 12 5 28, Field.txf 4 0 9]⟩,
  -- NET_CXBT
  ⟨0xB103, 16, 6, 1, 1, .net, .dom, [Field.txf 17 13 0, Field.txf 12 5 10, Field.txf 4 0 3]⟩,
  -- NET_CSJW
  ⟨0xB104, 16, 6, 1, 1, .net, .dom, [Field.txf 17 12 15, Field.txf 11 6 9, Field.txf 5 0 3]⟩,
  -- NET_CTC
  ⟨0xB105, 16, 6, 1, 1, .net, .dom, [Field.plain 17 16 2, Field.ro 15 14 2, ⟨13, 12, .rw, true, false, false, 1, [(0, 2)]⟩, Field.txf 11 11 0, Field.txf 10 10 0, Field.ro 9 9 0, Field.ro 8 8 0, Field.wof 7 7 0]⟩,
  -- NET_CSTAT
  ⟨0xB106, 16, 6, 1, 1, .net, .dom, [Field.ro 17 16 3, Field.ro 15 8 0, Field.ro 7 0 0]⟩,
  -- NET_CERR
  ⟨0xB107, 16, 6, 1, 1, .net, .dom, [Field.ro 17 15 0, Field.rcf 14 6 0]⟩,
  -- NET_CEVT
  ⟨0xB108, 16, 6, 1, 1, .net, .dom, [Field.w1c 9 0 0]⟩,
  -- NET_CIEN
  ⟨0xB109, 16, 6, 1, 1, .net, .dom, [Field.plain 9 0 0]⟩,
  -- NET_CTDC
  ⟨0xB10A, 16, 6, 1, 1, .net, .dom, [Field.txf 17 17 1, Field.ro 16 8 0, Field.txf 7 0 8]⟩,
  -- NET_CCNT
  ⟨0xB10B, 16, 6, 1, 1, .net, .dom, [Field.rcf 17 9 0, Field.rcf 8 0 0]⟩,
  -- NET_SWIDH
  ⟨0xB200, 16, 6, 1, 1, .net, .dom, [Field.txf 12 0 0]⟩,
  -- NET_SWIDL
  ⟨0xB201, 16, 6, 1, 1, .net, .dom, [Field.txf 15 0 0]⟩,
  -- NET_SWMH
  ⟨0xB202, 16, 6, 1, 1, .net, .dom, [Field.txf 12 0 0]⟩,
  -- NET_SWML
  ⟨0xB203, 16, 6, 1, 1, .net, .dom, [Field.txf 15 0 0]⟩,
  -- NET_SWCFG
  ⟨0xB204, 16, 6, 1, 1, .net, .dom, [Field.txf 17 17 0, Field.txf 16 16 0, Field.txf 15 12 0, Field.txf 11 10 2]⟩,
  -- NET_SWD0
  ⟨0xB205, 16, 6, 1, 1, .net, .dom, [Field.txf 15 0 0]⟩,
  -- NET_SWD1
  ⟨0xB206, 16, 6, 1, 1, .net, .dom, [Field.txf 15 0 0]⟩,
  -- NET_SWD2
  ⟨0xB207, 16, 6, 1, 1, .net, .dom, [Field.txf 15 0 0]⟩,
  -- NET_SWD3
  ⟨0xB208, 16, 6, 1, 1, .net, .dom, [Field.txf 15 0 0]⟩]

/-- Registers of block 11 (NET), part 2. -/
def rowsNET2 : List RegRow := [
  -- NET_SWFEC
  ⟨0xB209, 16, 6, 1, 1, .net, .dom, [Field.ro 5 0 0]⟩,
  -- NET_FCTL
  ⟨0xB400, 16, 64, 1, 1, .net, .dom, [Field.txf 17 17 0, ⟨16, 13, .rw, true, false, false, 0, [(0, 5), (8, 11)]⟩, Field.txf 12 11 0, Field.txf 10 8 0, Field.txf 7 5 0, Field.txf 4 3 0, Field.txf 2 2 0]⟩,
  -- NET_FIDH
  ⟨0xB401, 16, 64, 1, 1, .net, .dom, [Field.txf 12 0 0]⟩,
  -- NET_FIDL
  ⟨0xB402, 16, 64, 1, 1, .net, .dom, [Field.txf 15 0 0]⟩,
  -- NET_FMH
  ⟨0xB403, 16, 64, 1, 1, .net, .dom, [Field.txf 12 0 0]⟩,
  -- NET_FML
  ⟨0xB404, 16, 64, 1, 1, .net, .dom, [Field.txf 15 0 0]⟩,
  -- NET_LCFG
  ⟨0xB800, 16, 4, 1, 1, .net, .dom, [Field.txf 17 17 0, Field.txf 16 16 0, Field.txf 15 13 0, ⟨12, 10, .rw, true, false, false, 2, [(0, 4)]⟩, Field.txf 9 9 0, Field.txf 8 8 0, ⟨7, 6, .rw, false, false, false, 3, [(0, 1), (3, 3)]⟩]⟩,
  -- NET_LBR
  ⟨0xB801, 16, 4, 1, 1, .net, .dom, [Field.txf 17 0 4167]⟩,
  -- NET_LSTAT
  ⟨0xB802, 16, 4, 1, 1, .net, .dom, [Field.ro 17 16 3, Field.ro 15 13 0, Field.ro 12 12 0]⟩,
  -- NET_LEVT
  ⟨0xB803, 16, 4, 1, 1, .net, .dom, [Field.w1c 5 0 0]⟩,
  -- NET_LIEN
  ⟨0xB804, 16, 4, 1, 1, .net, .dom, [Field.plain 5 0 0]⟩,
  -- NET_TSCFG
  ⟨0xB900, 16, 8, 1, 1, .net, .dom, [Field.txf 17 17 0, Field.txf 16 16 0, Field.txf 15 15 0, Field.txf 14 12 0, Field.txf 11 0 0]⟩,
  -- NET_TSDA0
  ⟨0xB901, 16, 8, 1, 1, .net, .dom, [Field.txf 15 0 0]⟩,
  -- NET_TSDA1
  ⟨0xB902, 16, 8, 1, 1, .net, .dom, [Field.txf 15 0 0]⟩,
  -- NET_TSDA2
  ⟨0xB903, 16, 8, 1, 1, .net, .dom, [Field.txf 15 0 0]⟩,
  -- NET_TSUID
  ⟨0xB904, 16, 8, 1, 1, .net, .dom, [Field.txf 15 0 0]⟩,
  -- NET_TSPK
  ⟨0xB905, 16, 8, 1, 1, .net, .dom, [Field.txf 17 10 0, ⟨9, 0, .rw, true, false, false, 381, [(1, 375)]⟩]⟩,
  -- NET_TSMTT
  ⟨0xB906, 16, 8, 1, 1, .net, .dom, [Field.txf 17 0 2000]⟩,
  -- NET_TSCNT
  ⟨0xB907, 16, 8, 1, 1, .net, .dom, [Field.ro 17 9 0, Field.rcf 8 0 0]⟩,
  -- NET_LSCFG
  ⟨0xBA00, 16, 8, 1, 1, .net, .dom, [Field.txf 17 17 0, Field.txf 9 0 0]⟩,
  -- NET_LSID0
  ⟨0xBA01, 16, 8, 1, 1, .net, .dom, [Field.txf 15 0 0]⟩,
  -- NET_LSID1
  ⟨0xBA02, 16, 8, 1, 1, .net, .dom, [Field.txf 15 0 0]⟩,
  -- NET_LSID2
  ⟨0xBA03, 16, 8, 1, 1, .net, .dom, [Field.txf 15 0 0]⟩,
  -- NET_LSID3
  ⟨0xBA04, 16, 8, 1, 1, .net, .dom, [Field.txf 15 0 0]⟩]

/-- Registers of block 11 (NET), part 3. -/
def rowsNET3 : List RegRow := [
  -- NET_LSCNT
  ⟨0xBA05, 16, 8, 1, 1, .net, .dom, [Field.rcf 17 9 0, Field.rcf 8 0 0]⟩,
  -- NET_WKCFG
  ⟨0xBB00, 16, 10, 1, 1, .fawn, .por, [⟨17, 13, .rw, false, false, false, 1, [(1, 31)]⟩, ⟨12, 6, .rw, false, false, false, 100, [(1, 127)]⟩, Field.plain 5 2 0, Field.plain 1 0 0]⟩,
  -- NET_WKSTAT
  ⟨0xBB01, 16, 10, 1, 1, .fawn, .por, [Field.ro 17 17 0, Field.wof 16 16 0, Field.ro 15 12 0, Field.ro 11 11 0, Field.rcf 7 0 0]⟩,
  -- NET_INH0
  ⟨0xBBC0, 4096, 1, 1, 1, .fawn, .por, [Field.plain 17 17 1, Field.ro 16 16 1, Field.plain 9 0 0]⟩,
  -- NET_INH1
  ⟨0xBBC1, 4096, 1, 1, 1, .fawn, .por, [Field.plain 17 17 1, Field.ro 16 16 1, Field.plain 9 0 0]⟩,
  -- NET_HCFG
  ⟨0xBC00, 4096, 1, 1, 1, .net, .dom, [Field.txf 17 17 0, Field.txf 16 16 0, ⟨15, 12, .rw, true, false, false, 0, [(0, 5)]⟩, Field.txf 11 7 0, Field.txf 6 6 0]⟩,
  -- NET_HTIM
  ⟨0xBC01, 4096, 1, 1, 1, .net, .dom, [⟨17, 10, .rw, true, false, false, 20, [(1, 255)]⟩, ⟨9, 0, .rw, true, false, false, 50, [(1, 1023)]⟩]⟩,
  -- NET_HTIM2
  ⟨0xBC02, 4096, 1, 1, 1, .net, .dom, [⟨17, 8, .rw, true, false, false, 100, [(1, 1023)]⟩, ⟨7, 0, .rw, true, false, false, 100, [(1, 255)]⟩]⟩,
  -- NET_HCTL
  ⟨0xBC03, 4096, 1, 1, 1, .net, .dom, [Field.plain 17 17 0, Field.wof 16 16 0]⟩,
  -- NET_HCAN
  ⟨0xBC04, 4096, 1, 1, 1, .net, .dom, [Field.txf 5 0 40]⟩,
  -- NET_HSLP
  ⟨0xBC05, 4096, 1, 1, 1, .net, .dom, [Field.txf 17 17 0, Field.txf 9 0 0]⟩,
  -- NET_HGRPH
  ⟨0xBC06, 4096, 1, 1, 1, .net, .dom, [Field.txf 15 0 0]⟩,
  -- NET_HGRPL
  ⟨0xBC07, 4096, 1, 1, 1, .net, .dom, [Field.txf 15 0 0]⟩,
  -- NET_HPORT
  ⟨0xBC08, 4096, 1, 1, 1, .net, .dom, [Field.txf 15 0 0]⟩,
  -- NET_HSRCH
  ⟨0xBC09, 4096, 1, 1, 1, .net, .dom, [Field.txf 15 0 0]⟩,
  -- NET_HSRCL
  ⟨0xBC0A, 4096, 1, 1, 1, .net, .dom, [Field.txf 15 0 0]⟩,
  -- NET_HUCFG
  ⟨0xBC0B, 4096, 1, 1, 1, .net, .dom, [Field.txf 17 12 0, Field.txf 7 0 0]⟩,
  -- NET_HVLAN
  ⟨0xBC0C, 4096, 1, 1, 1, .net, .dom, [Field.txf 14 12 0, Field.txf 11 0 0]⟩,
  -- NET_HSTAT
  ⟨0xBC10, 4096, 1, 1, 1, .net, .dom, [Field.ro 17 15 0, Field.ro 14 14 0, Field.ro 13 12 0, Field.ro 11 7 0, Field.ro 5 0 0]⟩,
  -- NET_HMAP0
  ⟨0xBC11, 4096, 1, 1, 1, .net, .dom, [Field.ro 15 0 0]⟩,
  -- NET_HMAP1
  ⟨0xBC12, 4096, 1, 1, 1, .net, .dom, [Field.ro 15 0 0]⟩,
  -- NET_HRND
  ⟨0xBC13, 4096, 1, 1, 1, .net, .dom, [Field.ro 11 8 0, Field.ro 7 0 0]⟩,
  -- NET_HEVT
  ⟨0xBC14, 4096, 1, 1, 1, .net, .dom, [Field.w1c 5 0 0]⟩,
  -- NET_HIEN
  ⟨0xBC15, 4096, 1, 1, 1, .net, .dom, [Field.plain 5 0 0]⟩]

/-- Registers of block 11 (NET), part 4. -/
def rowsNET4 : List RegRow := [
  -- NET_HCNT
  ⟨0xBC16, 4096, 1, 1, 1, .net, .dom, [Field.rcf 17 12 0, Field.rcf 11 6 0, Field.rcf 5 0 0]⟩]

/-- The register table of block 11, NET. -/
def rowsNET : List RegRow :=
  rowsNET1 ++ rowsNET2 ++ rowsNET3 ++ rowsNET4

/-- Registers of block 12 (ZSW), part 1. -/
def rowsZSW1 : List RegRow := [
  -- ZSW_FLAG
  ⟨0xC000, 4096, 1, 1, 1, .zsw, .dom, [Field.w1c 9 9 0, Field.w1c 8 8 0, Field.w1c 7 7 0, Field.w1c 6 6 0, Field.w1c 5 5 0, Field.w1c 4 4 0, Field.w1c 3 3 0, Field.w1c 2 2 0, Field.w1c 1 1 0, Field.w1c 0 0 0]⟩,
  -- ZSW_GCTL
  ⟨0xC001, 4096, 1, 1, 1, .zsw, .dom, [Field.txf 17 17 0, Field.txf 16 16 0, ⟨15, 5, .rw, true, false, false, 1522, [(64, 2000)]⟩, Field.txf 4 0 24]⟩,
  -- ZSW_GCTL2
  ⟨0xC002, 4096, 1, 1, 1, .zsw, .dom, [Field.txf 12 0 512]⟩,
  -- ZSW_FREE
  ⟨0xC003, 4096, 1, 1, 1, .zsw, .dom, [Field.ro 13 0 8192]⟩,
  -- ZSW_QENT
  ⟨0xC004, 4096, 1, 1, 1, .zsw, .dom, [Field.ro 12 0 4096]⟩,
  -- ZSW_RETIRED
  ⟨0xC005, 4096, 1, 1, 1, .zsw, .dom, [Field.ro 7 0 0]⟩,
  -- ZSW_AUDCTL
  ⟨0xC008, 4096, 1, 1, 1, .zsw, .dom, [Field.wof 17 17 0, Field.plain 16 16 1, Field.plain 15 8 60]⟩,
  -- ZSW_AUDRES
  ⟨0xC009, 4096, 1, 1, 1, .zsw, .dom, [Field.ro 17 16 0, Field.ro 13 0 0]⟩,
  -- ZSW_AUDLEAK
  ⟨0xC00A, 4096, 1, 1, 1, .zsw, .dom, [Field.ro 17 9 0, Field.ro 8 0 0]⟩,
  -- ZSW_HCFG
  ⟨0xC010, 4096, 1, 1, 1, .zsw, .dom, [Field.txf 17 10 0, Field.txf 9 7 6]⟩,
  -- ZSW_HQMAP0
  ⟨0xC011, 4096, 1, 1, 1, .zsw, .dom, [Field.txf 17 0 0]⟩,
  -- ZSW_HQMAP1
  ⟨0xC012, 4096, 1, 1, 1, .zsw, .dom, [Field.txf 5 0 0]⟩,
  -- ZSW_WBIND
  ⟨0xC018, 1, 8, 1, 1, .zsw, .dom, [Field.ro 15 0 0]⟩,
  -- ZSW_IEN
  ⟨0xC020, 4096, 1, 1, 1, .zsw, .dom, [Field.plain 6 0 0]⟩,
  -- ZSW_PCFG
  ⟨0xC100, 16, 10, 1, 1, .zsw, .dom, [Field.txf 17 17 0, Field.txf 16 16 1, Field.txf 15 15 0, ⟨14, 13, .rw, true, false, false, 0, [(0, 2)]⟩, ⟨12, 6, .rw, true, false, false, 10, [(0, 100)]⟩, Field.txf 5 3 0]⟩,
  -- ZSW_PVID
  ⟨0xC101, 16, 10, 1, 1, .zsw, .dom, [Field.txf 11 0 1]⟩,
  -- ZSW_PQMAP0
  ⟨0xC102, 16, 10, 1, 1, .zsw, .dom, [Field.txf 17 0 181896]⟩,
  -- ZSW_PQMAP1
  ⟨0xC103, 16, 10, 1, 1, .zsw, .dom, [Field.txf 5 0 62]⟩,
  -- ZSW_PSTAT
  ⟨0xC104, 16, 10, 1, 1, .zsw, .dom, [Field.ro 17 16 0, Field.ro 15 9 0]⟩,
  -- ZSW_PRXF
  ⟨0xC105, 16, 10, 1, 1, .zsw, .dom, [Field.rcf 17 0 0]⟩,
  -- ZSW_PRXD
  ⟨0xC106, 16, 10, 1, 1, .zsw, .dom, [Field.rcf 17 9 0, Field.rcf 8 0 0]⟩,
  -- ZSW_PTXF
  ⟨0xC107, 16, 10, 1, 1, .zsw, .dom, [Field.rcf 17 0 0]⟩,
  -- ZSW_PTXD
  ⟨0xC108, 16, 10, 1, 1, .zsw, .dom, [Field.rcf 17 9 0, Field.rcf 8 0 0]⟩,
  -- ZSW_PFLUSH
  ⟨0xC109, 16, 10, 1, 1, .zsw, .dom, [Field.rcf 17 9 0, Field.rcf 8 0 0]⟩]

/-- Registers of block 12 (ZSW), part 2. -/
def rowsZSW2 : List RegRow := [
  -- ZSW_PEVT
  ⟨0xC10A, 16, 10, 1, 1, .zsw, .dom, [Field.w1c 5 0 0]⟩,
  -- ZSW_PIEN
  ⟨0xC10B, 16, 10, 1, 1, .zsw, .dom, [Field.plain 5 0 0]⟩,
  -- ZSW_QCFG
  ⟨0xC200, 16, 80, 1, 1, .zsw, .dom, [Field.txf 17 16 0, Field.txf 12 0 1024]⟩,
  -- ZSW_QRES
  ⟨0xC201, 16, 80, 1, 1, .zsw, .dom, [Field.txf 15 0 0]⟩,
  -- ZSW_QSTAT
  ⟨0xC202, 16, 80, 1, 1, .zsw, .dom, [Field.ro 13 0 0]⟩,
  -- ZSW_QAVG
  ⟨0xC203, 16, 80, 1, 1, .zsw, .dom, [Field.ro 13 0 0]⟩,
  -- ZSW_QDROP
  ⟨0xC204, 16, 80, 1, 1, .zsw, .dom, [Field.rcf 17 9 0, Field.rcf 8 0 0]⟩,
  -- ZSW_QDROP2
  ⟨0xC205, 16, 80, 1, 1, .zsw, .dom, [Field.rcf 17 9 0, Field.rcf 8 0 0]⟩,
  -- ZSW_QAGED
  ⟨0xC206, 16, 80, 1, 1, .zsw, .dom, [Field.rcf 17 0 0]⟩,
  -- ZSW_RCFG
  ⟨0xC700, 16, 4, 1, 1, .zsw, .dom, [Field.txf 3 0 4]⟩,
  -- ZSW_RMIN0
  ⟨0xC701, 16, 4, 1, 1, .zsw, .dom, [Field.txf 17 5 512, Field.txf 4 0 8]⟩,
  -- ZSW_RMIN1
  ⟨0xC703, 16, 4, 1, 1, .zsw, .dom, [Field.txf 17 5 256, Field.txf 4 0 16]⟩,
  -- ZSW_RMIN2
  ⟨0xC705, 16, 4, 1, 1, .zsw, .dom, [Field.txf 17 5 128, Field.txf 4 0 31]⟩,
  -- ZSW_RMAX0
  ⟨0xC702, 16, 4, 1, 1, .zsw, .dom, [Field.txf 12 0 1024]⟩,
  -- ZSW_RMAX1
  ⟨0xC704, 16, 4, 1, 1, .zsw, .dom, [Field.txf 12 0 768]⟩,
  -- ZSW_RMAX2
  ⟨0xC706, 16, 4, 1, 1, .zsw, .dom, [Field.txf 12 0 384]⟩,
  -- ZSW_PGCFG
  ⟨0xC780, 16, 4, 1, 1, .zsw, .dom, [Field.txf 17 17 0, Field.txf 16 16 0, Field.txf 15 8 50]⟩,
  -- ZSW_PGMEM
  ⟨0xC781, 16, 4, 1, 1, .zsw, .dom, [Field.txf 15 0 65535]⟩,
  -- ZSW_PGHOME
  ⟨0xC782, 16, 4, 1, 2, .zsw, .dom, [Field.txf 15 0 0]⟩,
  -- ZSW_PGCUR
  ⟨0xC784, 16, 4, 1, 2, .zsw, .dom, [Field.ro 15 0 0]⟩,
  -- ZSW_PGSTAT
  ⟨0xC786, 16, 4, 1, 1, .zsw, .dom, [Field.ro 15 0 0]⟩,
  -- ZSW_PGMOVE
  ⟨0xC787, 16, 4, 1, 1, .zsw, .dom, [Field.rcf 17 9 0, Field.rcf 8 0 0]⟩,
  -- ZSW_VLAN
  ⟨0xC800, 16, 64, 1, 1, .zsw, .dom, [Field.txf 17 17 0, Field.txf 16 16 0, Field.txf 11 0 0]⟩,
  -- ZSW_VMEM
  ⟨0xC801, 16, 64, 1, 1, .zsw, .dom, [Field.txf 9 0 0]⟩]

/-- Registers of block 12 (ZSW), part 3. -/
def rowsZSW3 : List RegRow := [
  -- ZSW_VUNT
  ⟨0xC802, 16, 64, 1, 1, .zsw, .dom, [Field.txf 9 0 0]⟩,
  -- ZSW_MADR0
  ⟨0xCC00, 4096, 1, 1, 1, .zsw, .dom, [Field.plain 15 0 0]⟩,
  -- ZSW_MADR1
  ⟨0xCC01, 4096, 1, 1, 1, .zsw, .dom, [Field.plain 15 0 0]⟩,
  -- ZSW_MADR2
  ⟨0xCC02, 4096, 1, 1, 1, .zsw, .dom, [Field.plain 15 0 0]⟩,
  -- ZSW_MVID
  ⟨0xCC03, 4096, 1, 1, 1, .zsw, .dom, [Field.plain 11 0 0]⟩,
  -- ZSW_MRES
  ⟨0xCC04, 4096, 1, 1, 1, .zsw, .dom, [Field.plain 17 17 0, Field.plain 16 16 0, Field.plain 9 0 0]⟩,
  -- ZSW_MCMD
  ⟨0xCC05, 4096, 1, 1, 1, .zsw, .dom, [⟨17, 15, .wo, false, false, false, 0, [(0, 5)]⟩]⟩,
  -- ZSW_MSTAT
  ⟨0xCC06, 4096, 1, 1, 1, .zsw, .dom, [Field.ro 17 17 0, Field.ro 16 14 0, Field.ro 11 0 0]⟩,
  -- ZSW_MLRN
  ⟨0xCC07, 4096, 1, 1, 1, .zsw, .dom, [Field.rcf 17 9 0, Field.rcf 8 0 0]⟩]

/-- The register table of block 12, ZSW. -/
def rowsZSW : List RegRow :=
  rowsZSW1 ++ rowsZSW2 ++ rowsZSW3

/-- Registers of block 13 (ETH), part 1. -/
def rowsETH1 : List RegRow := [
  -- ETH_FLAG
  ⟨0xD000, 4096, 1, 1, 1, .zsw, .dom, [Field.w1c 6 6 0, Field.w1c 5 5 0, Field.w1c 4 4 0, Field.w1c 3 3 0, Field.w1c 2 2 0, Field.w1c 1 1 0, Field.w1c 0 0 0]⟩,
  -- ETH_GCTL
  ⟨0xD001, 4096, 1, 1, 1, .zsw, .dom, [⟨17, 15, .rw, true, false, false, 7, [(0, 5), (7, 7)]⟩]⟩,
  -- ETH_HMAC0
  ⟨0xD002, 4096, 1, 1, 1, .zsw, .dom, [Field.txf 15 0 587]⟩,
  -- ETH_HMAC1
  ⟨0xD003, 4096, 1, 1, 1, .zsw, .dom, [Field.txf 15 0 17920]⟩,
  -- ETH_HMAC2
  ⟨0xD004, 4096, 1, 1, 1, .zsw, .dom, [Field.txf 15 0 0]⟩,
  -- ETH_IEN
  ⟨0xD005, 4096, 1, 1, 1, .zsw, .dom, [Field.plain 6 0 0]⟩,
  -- ETH_PCFG
  ⟨0xD100, 16, 6, 1, 1, .zsw, .dom, [Field.txf 17 17 0, Field.txf 16 16 0]⟩,
  ⟨0xD160, 16, 4, 1, 1, .zsw, .dom, [Field.txf 17 17 0]⟩,
  -- ETH_PSTAT
  ⟨0xD101, 16, 10, 1, 1, .zsw, .dom, [Field.ro 17 17 0, Field.ro 16 16 0, Field.ro 15 13 0, Field.ro 12 12 0]⟩,
  -- ETH_TCFG
  ⟨0xD102, 16, 6, 1, 1, .fawn, .por, [Field.plain 17 17 0, Field.plain 16 16 0, Field.plain 15 10 0, ⟨9, 4, .rw, false, false, false, 16, [(1, 63)]⟩]⟩,
  -- ETH_TCTL
  ⟨0xD103, 16, 6, 1, 1, .fawn, .por, [Field.wof 17 17 0, Field.wof 16 16 0]⟩,
  -- ETH_TSTAT
  ⟨0xD104, 16, 6, 1, 1, .fawn, .por, [Field.ro 17 15 0, Field.ro 14 14 0]⟩,
  -- ETH_PEVT
  ⟨0xD105, 16, 10, 1, 1, .zsw, .dom, [Field.w1c 7 0 0]⟩,
  -- ETH_PIEN
  ⟨0xD106, 16, 10, 1, 1, .zsw, .dom, [Field.plain 7 0 0]⟩,
  -- ETH_PCNT
  ⟨0xD107, 16, 10, 1, 1, .zsw, .dom, [Field.rcf 17 9 0, Field.rcf 8 0 0]⟩,
  -- ETH_PLCA
  ⟨0xD168, 16, 2, 1, 1, .zsw, .dom, [Field.txf 17 17 0, ⟨16, 9, .rw, true, false, false, 0, [(0, 254)]⟩]⟩,
  -- ETH_PLCA2
  ⟨0xD169, 16, 2, 1, 1, .zsw, .dom, [⟨17, 10, .rw, true, false, false, 8, [(1, 255)]⟩, Field.txf 9 2 32]⟩,
  -- ETH_PLCA3
  ⟨0xD16A, 16, 2, 1, 1, .zsw, .dom, [Field.txf 17 10 0, Field.txf 9 2 128]⟩,
  -- ETH_PLCNT
  ⟨0xD16B, 16, 2, 1, 1, .zsw, .dom, [Field.rcf 17 9 0, Field.rcf 8 0 0]⟩,
  -- ETH_QSH
  ⟨0xD400, 16, 64, 1, 1, .zsw, .dom, [Field.txf 17 17 0, Field.txf 16 0 0]⟩,
  ⟨0xD880, 16, 8, 1, 1, .zsw, .dom, [Field.txf 17 17 0, Field.txf 16 0 0]⟩,
  -- ETH_QHI
  ⟨0xD401, 16, 64, 1, 1, .zsw, .dom, [Field.txf 16 0 2024]⟩,
  ⟨0xD881, 16, 8, 1, 1, .zsw, .dom, [Field.txf 16 0 2024]⟩,
  -- ETH_QLO
  ⟨0xD402, 16, 64, 1, 1, .zsw, .dom, [Field.txf 16 0 2024]⟩,
  ⟨0xD882, 16, 8, 1, 1, .zsw, .dom, [Field.txf 16 0 2024]⟩,
  -- ETH_QCRD
  ⟨0xD403, 16, 64, 1, 1, .zsw, .dom, [Field.ro 17 0 0]⟩,
  ⟨0xD883, 16, 8, 1, 1, .zsw, .dom, [Field.ro 17 0 0]⟩,
  -- ETH_MCFG
  ⟨0xD404, 16, 80, 1, 1, .zsw, .dom, [Field.txf 17 17 0, Field.txf 16 16 0, Field.txf 15 15 0, ⟨14, 0, .rw, true, false, false, 0, [(0, 31250)]⟩]⟩,
  -- ETH_MPIR
  ⟨0xD405, 16, 80, 1, 1, .zsw, .dom, [⟨14, 0, .rw, true, false, false, 0, [(0, 31250)]⟩]⟩]

/-- Registers of block 13 (ETH), part 2. -/
def rowsETH2 : List RegRow := [
  -- ETH_MBS
  ⟨0xD406, 16, 80, 1, 1, .zsw, .dom, [⟨17, 9, .rw, true, false, false, 8, [(1, 511)]⟩, ⟨8, 0, .rw, true, false, false, 16, [(1, 511)]⟩]⟩,
  -- ETH_MCNT
  ⟨0xD407, 16, 80, 1, 1, .zsw, .dom, [Field.rcf 17 9 0, Field.rcf 8 0 0]⟩,
  -- ETH_ASCTL
  ⟨0xDC00, 4096, 1, 1, 1, .zsw, .dom, [Field.txf 17 17 0, Field.txf 16 16 0, Field.txf 15 14 1, Field.wof 13 13 0, Field.txf 12 5 80]⟩,
  -- ETH_ASSTAT
  ⟨0xDC01, 4096, 1, 1, 1, .zsw, .dom, [Field.ro 17 17 0, Field.ro 16 16 1, Field.ro 15 13 7, Field.ro 12 5 0]⟩,
  -- ETH_ZT3
  ⟨0xDC02, 4096, 1, 1, 1, .zsw, .dom, [Field.ro 15 0 0]⟩,
  -- ETH_ZT2
  ⟨0xDC03, 4096, 1, 1, 1, .zsw, .dom, [Field.ro 15 0 0]⟩,
  -- ETH_ZT1
  ⟨0xDC04, 4096, 1, 1, 1, .zsw, .dom, [Field.ro 15 0 0]⟩,
  -- ETH_ZT0
  ⟨0xDC05, 4096, 1, 1, 1, .zsw, .dom, [Field.ro 15 0 0]⟩,
  -- ETH_ZSET3
  ⟨0xDC06, 4096, 1, 1, 1, .zsw, .dom, [Field.plain 15 0 0]⟩,
  -- ETH_ZSET2
  ⟨0xDC07, 4096, 1, 1, 1, .zsw, .dom, [Field.plain 15 0 0]⟩,
  -- ETH_ZSET1
  ⟨0xDC08, 4096, 1, 1, 1, .zsw, .dom, [Field.plain 15 0 0]⟩,
  -- ETH_ZSET0
  ⟨0xDC09, 4096, 1, 1, 1, .zsw, .dom, [Field.plain 15 0 0]⟩,
  -- ETH_ASOFS
  ⟨0xDC0A, 4096, 1, 1, 1, .zsw, .dom, [Field.ro 17 0 0]⟩,
  -- ETH_ASRATE
  ⟨0xDC0B, 4096, 1, 1, 1, .zsw, .dom, [Field.ro 17 0 0]⟩,
  -- ETH_ASP
  ⟨0xDD00, 16, 6, 1, 1, .zsw, .dom, [⟨17, 16, .rw, true, false, false, 0, [(0, 2)]⟩, Field.txf 15 12 13, Field.txf 11 8 0, Field.ro 7 7 0]⟩,
  -- ETH_ASPD
  ⟨0xDD01, 16, 6, 1, 1, .zsw, .dom, [Field.ro 17 0 0]⟩,
  -- ETH_ASCNT
  ⟨0xDD02, 16, 6, 1, 1, .zsw, .dom, [Field.rcf 17 9 0, Field.rcf 8 0 0]⟩]

/-- The register table of block 13, ETH. -/
def rowsETH : List RegRow :=
  rowsETH1 ++ rowsETH2

/-- Registers of block 14 (ACC), part 1. -/
def rowsACC1 : List RegRow := [
  -- ACC_FLAG
  ⟨0xE000, 4096, 1, 1, 1, .act, .dom, [Field.w1c 5 5 0, Field.w1c 4 4 0, Field.w1c 3 3 0, Field.w1c 2 2 0, Field.w1c 1 1 0, Field.w1c 0 0 0]⟩,
  -- ACC_GCTL
  ⟨0xE001, 4096, 1, 1, 1, .act, .dom, [Field.txf 15 0 0]⟩,
  -- ACC_LFCFG
  ⟨0xE100, 16, 4, 1, 1, .act, .dom, [Field.txf 17 17 0, ⟨16, 13, .rw, true, false, false, 10, [(1, 15)]⟩, Field.txf 12 12 1, Field.txf 11 7 16]⟩,
  -- ACC_LFSTAT
  ⟨0xE101, 16, 4, 1, 1, .act, .dom, [Field.ro 17 15 0, Field.ro 14 10 0]⟩,
  -- ACC_LFMEAS
  ⟨0xE102, 16, 4, 1, 1, .act, .dom, [Field.ro 17 9 0, Field.ro 8 0 0]⟩,
  -- ACC_LFRSP
  ⟨0xE103, 16, 4, 1, 1, .act, .dom, [Field.ro 17 0 0]⟩,
  -- ACC_LFEVT
  ⟨0xE104, 16, 4, 1, 1, .act, .dom, [Field.w1c 7 0 0]⟩,
  -- ACC_LFIEN
  ⟨0xE105, 16, 4, 1, 1, .act, .dom, [Field.plain 7 0 0]⟩,
  -- ACC_PRES
  ⟨0xE800, 4096, 1, 1, 1, .fabric, .mod, [Field.ro 17 17 0, Field.wof 16 16 0, Field.ro 15 10 0, Field.ro 9 8 0]⟩,
  -- ACC_PCFG
  ⟨0xE801, 4096, 1, 1, 1, .fabric, .por, [⟨17, 17, .rw, false, false, true, 1, []⟩, ⟨16, 16, .rw, false, false, true, 0, []⟩, ⟨15, 15, .rw, false, false, true, 0, []⟩]⟩,
  -- ACC_PBTN
  ⟨0xE802, 4096, 1, 1, 1, .fabric, .por, [⟨17, 12, .rw, false, false, true, 0, [(0, 47)]⟩, ⟨11, 8, .rw, false, false, true, 5, [(2, 15)]⟩, ⟨7, 3, .rw, false, false, true, 10, [(1, 31)]⟩, ⟨2, 2, .rw, false, false, true, 1, []⟩]⟩,
  -- ACC_PLOG
  ⟨0xE803, 4096, 1, 1, 1, .fabric, .mod, [Field.rcf 17 9 0]⟩,
  -- ACC_ENRCMD
  ⟨0xE810, 4096, 1, 1, 1, .fabric, .mod, [⟨17, 14, .wo, false, false, true, 0, [(0, 9)]⟩, ⟨2, 0, .wo, false, false, true, 0, []⟩]⟩,
  -- ACC_ENRSTAT
  ⟨0xE811, 4096, 1, 1, 1, .fabric, .mod, [Field.ro 17 17 0, Field.ro 16 16 0, Field.ro 15 12 0, Field.ro 11 8 0, Field.ro 7 0 0]⟩,
  -- ACC_TKADR
  ⟨0xE812, 4096, 1, 1, 1, .fabric, .mod, [Field.plain 17 0 32768]⟩,
  -- ACC_OWNER
  ⟨0xE813, 4096, 1, 1, 1, .fabric, .mod, [Field.ro 17 17 0, Field.ro 16 16 0, Field.ro 15 0 0]⟩,
  -- ACC_TNONCE
  ⟨0xE814, 1, 4, 1, 1, .fabric, .mod, [Field.ro 15 0 0]⟩,
  -- ACC_KCMD
  ⟨0xE818, 4096, 1, 1, 1, .fabric, .mod, [⟨17, 15, .wo, false, false, false, 0, [(0, 3)]⟩, ⟨3, 0, .wo, false, false, false, 0, [(8, 13)]⟩]⟩,
  -- ACC_KADR
  ⟨0xE819, 4096, 1, 1, 1, .fabric, .mod, [Field.plain 17 0 32768]⟩,
  -- ACC_KSTAT
  ⟨0xE81A, 4096, 1, 1, 1, .fabric, .mod, [Field.ro 17 17 0, Field.ro 16 14 0, Field.ro 5 0 0]⟩,
  -- ACC_CCMD
  ⟨0xE820, 4096, 1, 1, 1, .fabric, .mod, [⟨17, 14, .wo, false, false, false, 0, [(1, 6)]⟩, Field.wof 13 13 0]⟩,
  -- ACC_CSRC
  ⟨0xE821, 4096, 1, 1, 1, .fabric, .mod, [Field.plain 17 0 32768]⟩,
  -- ACC_CLEN
  ⟨0xE822, 4096, 1, 1, 1, .fabric, .mod, [Field.plain 17 0 0]⟩,
  -- ACC_CDST
  ⟨0xE823, 4096, 1, 1, 1, .fabric, .mod, [Field.plain 17 0 32768]⟩]

/-- Registers of block 14 (ACC), part 2. -/
def rowsACC2 : List RegRow := [
  -- ACC_CKEY
  ⟨0xE824, 4096, 1, 1, 1, .fabric, .mod, [Field.plain 17 0 32768]⟩,
  -- ACC_CSTAT
  ⟨0xE825, 4096, 1, 1, 1, .fabric, .mod, [Field.ro 17 17 0, Field.ro 16 14 0]⟩,
  -- ACC_SLOT
  ⟨0xE900, 16, 8, 1, 1, .fabric, .mod, [Field.ro 17 16 0]⟩,
  -- ACC_SIDH
  ⟨0xE901, 16, 8, 1, 1, .fabric, .mod, [Field.ro 15 0 0]⟩,
  -- ACC_SIDL
  ⟨0xE902, 16, 8, 1, 1, .fabric, .mod, [Field.ro 15 0 0]⟩]

/-- The register table of block 14, ACC. -/
def rowsACC : List RegRow :=
  rowsACC1 ++ rowsACC2

/-- Registers of block 15 (FLT), part 1. -/
def rowsFLT1 : List RegRow := [
  -- FLT_FST
  ⟨0xF000, 16, 16, 1, 1, .fabric, .mod, [Field.ro 17 17 0, Field.ro 16 14 0, Field.ro 13 13 0, Field.ro 12 9 0, Field.ro 8 0 0]⟩,
  -- FLT_FPEND
  ⟨0xF001, 16, 16, 1, 1, .fabric, .mod, [Field.ro 17 0 0]⟩,
  -- FLT_FSTKY
  ⟨0xF002, 16, 16, 1, 1, .fabric, .mod, [Field.ro 17 0 0]⟩,
  -- FLT_FOVF
  ⟨0xF003, 16, 16, 1, 1, .fabric, .mod, [Field.ro 17 9 0, Field.ro 8 0 0]⟩,
  -- FLT_FACK
  ⟨0xF004, 16, 16, 1, 1, .fabric, .mod, [Field.wof 17 0 0]⟩,
  -- FLT_FREL
  ⟨0xF005, 16, 16, 1, 1, .fabric, .mod, [Field.wof 17 17 0, ⟨3, 0, .wo, false, false, false, 0, [(0, 8)]⟩]⟩,
  -- FLT_FCTL
  ⟨0xF006, 16, 16, 1, 1, .fabric, .mod, [⟨17, 15, .rw, false, false, false, 1, [(0, 4)]⟩, Field.plain 14 14 0, Field.plain 13 13 0]⟩,
  -- FLT_FESC
  ⟨0xF007, 16, 16, 1, 1, .fabric, .mod, [⟨17, 0, .rw, false, true, false, 262143, []⟩]⟩,
  -- FLT_LOGA
  ⟨0xF100, 32, 16, 4, 8, .fabric, .mod, [Field.ro 17 12 0, Field.ro 11 9 0, Field.ro 8 8 0, Field.ro 7 0 0]⟩,
  -- FLT_LOGB
  ⟨0xF101, 32, 16, 4, 8, .fabric, .mod, [Field.ro 17 0 0]⟩,
  -- FLT_LOGC
  ⟨0xF102, 32, 16, 4, 8, .fabric, .mod, [Field.ro 17 0 0]⟩,
  -- FLT_LOGD
  ⟨0xF103, 32, 16, 4, 8, .fabric, .mod, [Field.ro 17 17 0, Field.ro 16 16 0]⟩,
  -- FLT_FFA
  ⟨0xF300, 64, 16, 3, 18, .fabric, .mod, [Field.ro 17 17 0, Field.ro 16 16 0, Field.ro 11 9 0, Field.ro 7 0 0]⟩,
  -- FLT_FFB
  ⟨0xF301, 64, 16, 3, 18, .fabric, .mod, [Field.ro 17 0 0]⟩,
  -- FLT_FFC
  ⟨0xF302, 64, 16, 3, 18, .fabric, .mod, [Field.ro 17 0 0]⟩,
  -- FLT_GFLAG
  ⟨0xF700, 4096, 1, 1, 1, .fabric, .mod, [Field.w1c 4 4 0, Field.w1c 3 3 0, Field.w1c 2 2 0, Field.w1c 1 1 0, Field.w1c 0 0 0]⟩,
  -- FLT_GCTL
  ⟨0xF701, 4096, 1, 1, 1, .fabric, .mod, [⟨17, 17, .w1s, false, false, false, 0, []⟩, ⟨16, 15, .rw, false, true, false, 2, []⟩]⟩,
  -- FLT_FLTN
  ⟨0xF702, 4096, 1, 1, 1, .fawn, .por, [⟨17, 16, .rw, false, false, false, 0, [(0, 2)]⟩, Field.ro 15 15 1, Field.ro 14 14 0, Field.ro 13 13 0, Field.wof 12 12 0]⟩,
  -- FLT_UFCMD
  ⟨0xF703, 4096, 1, 1, 1, .fabric, .mod, [Field.wof 17 17 0, Field.wof 11 8 0, Field.wof 7 0 0]⟩,
  -- FLT_UFSTAT
  ⟨0xF704, 4096, 1, 1, 1, .fabric, .mod, [Field.ro 17 15 0]⟩,
  -- FLT_SUM
  ⟨0xF705, 4096, 1, 1, 1, .fabric, .mod, [Field.ro 15 0 0]⟩,
  -- FLT_SUM2
  ⟨0xF706, 4096, 1, 1, 1, .fabric, .mod, [Field.ro 15 0 0]⟩,
  -- FLT_DEEP0
  ⟨0xF708, 4096, 1, 1, 1, .fawn, .por, [Field.ro 17 14 0, Field.ro 13 8 0, Field.ro 7 5 0, Field.ro 4 0 0]⟩,
  -- FLT_DEEP1
  ⟨0xF709, 4096, 1, 1, 1, .fawn, .por, [Field.ro 7 0 0]⟩]

/-- Registers of block 15 (FLT), part 2. -/
def rowsFLT2 : List RegRow := [
  -- FLT_DEEP2
  ⟨0xF70A, 4096, 1, 1, 1, .fawn, .por, [Field.ro 15 0 0]⟩,
  -- FLT_DEEP3
  ⟨0xF70B, 4096, 1, 1, 1, .fawn, .por, [Field.ro 15 0 0]⟩,
  -- FLT_SPCTL
  ⟨0xF710, 4096, 1, 1, 1, .fabric, .mod, [Field.plain 17 17 0, Field.plain 16 16 0]⟩,
  -- FLT_SPSTAT
  ⟨0xF711, 4096, 1, 1, 1, .fabric, .mod, [Field.ro 17 7 0]⟩,
  -- FLT_SPSHD
  ⟨0xF712, 4096, 1, 1, 1, .fabric, .mod, [Field.rcf 17 9 0, Field.rcf 8 0 0]⟩,
  -- FLT_SWTRC
  ⟨0xF713, 4096, 1, 1, 1, .fabric, .mod, [Field.wof 17 0 0]⟩,
  -- FLT_SPDA0
  ⟨0xF714, 4096, 1, 1, 1, .fabric, .mod, [Field.plain 15 0 0]⟩,
  -- FLT_SPDA1
  ⟨0xF715, 4096, 1, 1, 1, .fabric, .mod, [Field.plain 15 0 0]⟩,
  -- FLT_SPDA2
  ⟨0xF716, 4096, 1, 1, 1, .fabric, .mod, [Field.plain 15 0 0]⟩,
  -- FLT_SPVL
  ⟨0xF717, 4096, 1, 1, 1, .fabric, .mod, [Field.plain 14 12 0, Field.plain 11 0 0]⟩,
  -- FLT_IMCTL
  ⟨0xFC00, 4096, 1, 1, 1, .fabric, .mod, [Field.plain 17 17 0, ⟨16, 16, .rw, false, false, true, 0, []⟩, ⟨15, 15, .rw, false, false, true, 0, []⟩, ⟨14, 13, .rw, false, false, false, 0, [(0, 2)]⟩]⟩,
  -- FLT_IMSTAT
  ⟨0xFC01, 4096, 1, 1, 1, .fabric, .mod, [Field.ro 17 15 0, Field.ro 14 13 3, Field.ro 12 12 0, Field.ro 11 10 0, Field.ro 9 5 0, Field.ro 4 4 0, Field.ro 3 0 0]⟩,
  -- FLT_IMPROG
  ⟨0xFC02, 4096, 1, 1, 1, .fabric, .mod, [Field.ro 15 0 0]⟩,
  -- FLT_IMNBLK
  ⟨0xFC03, 4096, 1, 1, 1, .fabric, .mod, [Field.ro 15 0 0]⟩,
  -- FLT_IMSID
  ⟨0xFC04, 4096, 1, 1, 1, .fabric, .mod, [Field.ro 15 0 0]⟩,
  -- FLT_IMCMD
  ⟨0xFC05, 4096, 1, 1, 1, .fabric, .mod, [Field.wof 17 17 0, ⟨16, 16, .wo, false, false, true, 0, []⟩]⟩,
  -- FLT_IMSPD
  ⟨0xFC06, 4096, 1, 1, 1, .fabric, .mod, [Field.plain 15 0 0]⟩,
  -- FLT_IMVS0
  ⟨0xFC08, 4096, 1, 1, 1, .fabric, .mod, [Field.plain 17 17 0, ⟨16, 13, .rw, false, false, false, 0, [(0, 5)]⟩, Field.plain 12 0 0]⟩,
  -- FLT_IMVS1
  ⟨0xFC09, 4096, 1, 1, 1, .fabric, .mod, [Field.plain 15 0 0]⟩,
  -- FLT_IMVS2
  ⟨0xFC0A, 4096, 1, 1, 1, .fabric, .mod, [Field.plain 17 12 0, Field.plain 11 8 15]⟩,
  -- FLT_IMVS3
  ⟨0xFC0B, 4096, 1, 1, 1, .fabric, .mod, [Field.plain 15 0 0]⟩,
  -- FLT_IMDCFG
  ⟨0xFC0C, 4096, 1, 1, 1, .fabric, .mod, [Field.plain 14 12 0, Field.plain 11 0 0]⟩,
  -- FLT_IMEVT
  ⟨0xFC0D, 4096, 1, 1, 1, .fabric, .mod, [Field.w1c 5 0 0]⟩,
  -- FLT_IMIEN
  ⟨0xFC0E, 4096, 1, 1, 1, .fabric, .mod, [Field.plain 5 0 0]⟩]

/-- Registers of block 15 (FLT), part 3. -/
def rowsFLT3 : List RegRow := [
  -- FLT_IMCNT
  ⟨0xFC0F, 4096, 1, 1, 1, .fabric, .mod, [Field.rcf 17 12 0, Field.rcf 11 6 0, Field.rcf 5 0 0]⟩,
  -- FLT_IMMIG
  ⟨0xFC10, 4096, 1, 1, 1, .fabric, .mod, [Field.ro 17 15 0, Field.ro 11 0 0]⟩,
  -- FLT_IMMGRP
  ⟨0xFC11, 4096, 1, 1, 1, .fabric, .mod, [Field.ro 15 0 0]⟩,
  -- FLT_IMCONF
  ⟨0xFC20, 4096, 1, 1, 1, .fawn, .por, [Field.plain 17 17 0, Field.ro 16 16 0]⟩,
  -- FLT_IMDRV
  ⟨0xFC40, 16, 8, 1, 1, .fabric, .mod, [⟨17, 16, .rw, false, false, false, 0, [(0, 2)]⟩]⟩,
  -- FLT_IMDMAC0
  ⟨0xFC41, 16, 8, 1, 1, .fabric, .mod, [Field.plain 15 0 0]⟩,
  -- FLT_IMDMAC1
  ⟨0xFC42, 16, 8, 1, 1, .fabric, .mod, [Field.plain 15 0 0]⟩,
  -- FLT_IMDMAC2
  ⟨0xFC43, 16, 8, 1, 1, .fabric, .mod, [Field.plain 15 0 0]⟩,
  -- FLT_IMDST
  ⟨0xFC44, 16, 8, 1, 1, .fabric, .mod, [Field.ro 17 16 0, Field.ro 15 0 0]⟩,
  -- BRC_FLAG
  ⟨0xF800, 4096, 1, 1, 1, .fabric, .mod, [Field.w1c 0 0 0]⟩,
  -- BRC_CFG
  ⟨0xF801, 4096, 1, 1, 1, .fabric, .mod, [⟨17, 17, .rw, false, true, false, 0, []⟩, ⟨16, 16, .rw, false, true, false, 0, []⟩, ⟨15, 14, .rw, false, true, false, 0, [(0, 1)]⟩, ⟨13, 8, .rw, false, true, false, 0, [(0, 47)]⟩, ⟨7, 6, .rw, false, true, false, 1, [(0, 2)]⟩, Field.plain 5 5 0]⟩,
  -- BRC_CMD
  ⟨0xF802, 4096, 1, 1, 1, .fabric, .mod, [Field.wof 17 17 0, Field.wof 16 16 0, Field.wof 15 15 0, Field.wof 14 14 0]⟩,
  -- BRC_STAT
  ⟨0xF803, 4096, 1, 1, 1, .fabric, .mod, [Field.ro 17 15 0, Field.ro 14 14 0, Field.ro 13 13 0, Field.ro 12 10 0, Field.ro 9 2 0]⟩,
  -- BRC_EVT
  ⟨0xF804, 4096, 1, 1, 1, .fabric, .mod, [Field.w1c 6 0 0]⟩,
  -- BRC_IEN
  ⟨0xF805, 4096, 1, 1, 1, .fabric, .mod, [Field.plain 6 0 0]⟩,
  -- BRC_CNT
  ⟨0xF806, 4096, 1, 1, 1, .fabric, .mod, [Field.rcf 17 9 0, Field.rcf 8 0 0]⟩,
  -- BRC_MIR
  ⟨0xF810, 16, 16, 1, 1, .fabric, .mod, [⟨17, 17, .rw, false, true, false, 0, []⟩, ⟨16, 12, .rw, false, true, false, 0, []⟩, ⟨11, 7, .rw, false, true, false, 0, []⟩]⟩,
  -- BRC_MST
  ⟨0xF811, 16, 16, 1, 1, .fabric, .mod, [Field.ro 17 17 0, Field.ro 16 16 0, Field.ro 15 15 0, Field.ro 14 12 0, Field.ro 11 8 0, Field.ro 7 6 0]⟩,
  -- BRC_MD
  ⟨0xF812, 16, 16, 1, 1, .fabric, .mod, [Field.ro 17 0 0]⟩]

/-- The register table of block 15, FLT. -/
def rowsFLT : List RegRow :=
  rowsFLT1 ++ rowsFLT2 ++ rowsFLT3

/-- The register table of a block (R17). -/
def blockRows (b : Nat) : List RegRow :=
  match b with
  | 0 => rowsICU
  | 1 => rowsPCR
  | 2 => rowsMEM
  | 3 => rowsRNG
  | 4 => rowsHSC
  | 5 => rowsTHM
  | 6 => rowsSEQ
  | 7 => rowsMOT
  | 8 => rowsVLV
  | 9 => rowsLUX
  | 10 => rowsINP
  | 11 => rowsNET
  | 12 => rowsZSW
  | 13 => rowsETH
  | 14 => rowsACC
  | 15 => rowsFLT
  | _ => []

/-- An address belongs to the instances of a register row. -/
def RegRow.has (r : RegRow) (a : Nat) : Bool :=
  decide (r.base ≤ a) &&
    (let d := a - r.base
     decide (d / r.s1 < r.n1) && decide (d % r.s1 % r.s2 = 0) && decide (d % r.s1 / r.s2 < r.n2))

/-- The address of a register key: the private ICUs share the addresses of block 0. -/
def keyAddr (k : Nat) : Nat := k % 65536

/-- The row that defines a register key, if the manual defines the register (R61). -/
def rowOf (k : Nat) : Option RegRow := (blockRows (keyAddr k / 4096)).find? (fun r => r.has (keyAddr k))

/-- The register value that fields' reset values make. -/
def fieldsReset (fs : List Field) : Nat := fs.foldl (fun acc f => acc + f.rst * 2 ^ f.lo) 0

/-- The reset value of a register (R8); 0 for a reserved address (R61). -/
def regReset (k : Nat) : BitVec 18 :=
  match rowOf k with
  | some r => BitVec.ofNat 18 (fieldsReset r.fields)
  | none => 0

/-- Register MEM_FLAG. -/
def rMEM_FLAG : Nat := 0x2000
/-- MEM_FLAG.SAVEWR. -/
def MEM_FLAG_SAVEWR : FRef := ⟨rMEM_FLAG, 7, 7⟩
/-- MEM_FLAG.OTPDONE. -/
def MEM_FLAG_OTPDONE : FRef := ⟨rMEM_FLAG, 6, 6⟩
/-- MEM_FLAG.SSDONE. -/
def MEM_FLAG_SSDONE : FRef := ⟨rMEM_FLAG, 5, 5⟩
/-- MEM_FLAG.NDONE. -/
def MEM_FLAG_NDONE : FRef := ⟨rMEM_FLAG, 4, 4⟩
/-- MEM_FLAG.MDONE. -/
def MEM_FLAG_MDONE : FRef := ⟨rMEM_FLAG, 3, 3⟩
/-- MEM_FLAG.TFAIL. -/
def MEM_FLAG_TFAIL : FRef := ⟨rMEM_FLAG, 2, 2⟩
/-- MEM_FLAG.WRREF. -/
def MEM_FLAG_WRREF : FRef := ⟨rMEM_FLAG, 1, 1⟩
/-- MEM_FLAG.ENCREF. -/
def MEM_FLAG_ENCREF : FRef := ⟨rMEM_FLAG, 0, 0⟩
/-- Register MEM_BANKPARK. -/
def rMEM_BANKPARK : Nat := 0x2001
/-- MEM_BANKPARK.PARK. -/
def MEM_BANKPARK_PARK : FRef := ⟨rMEM_BANKPARK, 7, 0⟩
/-- Register MEM_BANKSTAT. -/
def rMEM_BANKSTAT : Nat := 0x2002
/-- MEM_BANKSTAT.STATE. -/
def MEM_BANKSTAT_STATE : FRef := ⟨rMEM_BANKSTAT, 15, 0⟩
/-- Register MEM_MCTL. -/
def rMEM_MCTL : Nat := 0x2008
/-- MEM_MCTL.START. -/
def MEM_MCTL_START : FRef := ⟨rMEM_MCTL, 17, 17⟩
/-- MEM_MCTL.PRESERVE. -/
def MEM_MCTL_PRESERVE : FRef := ⟨rMEM_MCTL, 13, 13⟩
/-- MEM_MCTL.BANK. -/
def MEM_MCTL_BANK : FRef := ⟨rMEM_MCTL, 12, 10⟩
/-- Register MEM_MSTAT. -/
def rMEM_MSTAT : Nat := 0x2009
/-- MEM_MSTAT.RESULT. -/
def MEM_MSTAT_RESULT : FRef := ⟨rMEM_MSTAT, 17, 15⟩
/-- MEM_MSTAT.BANK. -/
def MEM_MSTAT_BANK : FRef := ⟨rMEM_MSTAT, 14, 12⟩
/-- MEM_MSTAT.FAILCNT. -/
def MEM_MSTAT_FAILCNT : FRef := ⟨rMEM_MSTAT, 11, 0⟩
/-- Register MEM_MFAIL. -/
def rMEM_MFAIL : Nat := 0x200A
/-- MEM_MFAIL.CHK. -/
def MEM_MFAIL_CHK : FRef := ⟨rMEM_MFAIL, 17, 17⟩
/-- MEM_MFAIL.OFFSET. -/
def MEM_MFAIL_OFFSET : FRef := ⟨rMEM_MFAIL, 12, 0⟩
/-- Register MEM_TCTL. -/
def rMEM_TCTL : Nat := 0x2010
/-- MEM_TCTL.EN. -/
def MEM_TCTL_EN : FRef := ⟨rMEM_TCTL, 17, 17⟩
/-- MEM_TCTL.TARGET. -/
def MEM_TCTL_TARGET : FRef := ⟨rMEM_TCTL, 16, 14⟩
/-- MEM_TCTL.PACE. -/
def MEM_TCTL_PACE : FRef := ⟨rMEM_TCTL, 13, 10⟩
/-- MEM_TCTL.START. -/
def MEM_TCTL_START : FRef := ⟨rMEM_TCTL, 9, 0⟩
/-- Register MEM_TSTAT. -/
def rMEM_TSTAT : Nat := 0x2011
/-- MEM_TSTAT.PERMIT. -/
def MEM_TSTAT_PERMIT : FRef := ⟨rMEM_TSTAT, 17, 17⟩
/-- MEM_TSTAT.BUSY. -/
def MEM_TSTAT_BUSY : FRef := ⟨rMEM_TSTAT, 16, 16⟩
/-- MEM_TSTAT.FAILS. -/
def MEM_TSTAT_FAILS : FRef := ⟨rMEM_TSTAT, 13, 10⟩
/-- MEM_TSTAT.REGION. -/
def MEM_TSTAT_REGION : FRef := ⟨rMEM_TSTAT, 9, 0⟩
/-- Register MEM_TFAIL. -/
def rMEM_TFAIL : Nat := 0x2012
/-- MEM_TFAIL.TARGET. -/
def MEM_TFAIL_TARGET : FRef := ⟨rMEM_TFAIL, 12, 10⟩
/-- MEM_TFAIL.REGION. -/
def MEM_TFAIL_REGION : FRef := ⟨rMEM_TFAIL, 9, 0⟩
/-- Register MEM_ECC. -/
def rMEM_ECC : Nat := 0x2018
/-- MEM_ECC.CNT1. -/
def MEM_ECC_CNT1 : FRef := ⟨rMEM_ECC, 17, 9⟩
/-- MEM_ECC.CNT2. -/
def MEM_ECC_CNT2 : FRef := ⟨rMEM_ECC, 8, 0⟩
/-- Register MEM_ERRADR. -/
def rMEM_ERRADR : Nat := 0x2019
/-- MEM_ERRADR.ADDR. -/
def MEM_ERRADR_ADDR : FRef := ⟨rMEM_ERRADR, 17, 0⟩
/-- Register MEM_ERRSRC. -/
def rMEM_ERRSRC : Nat := 0x201A
/-- MEM_ERRSRC.PARH. -/
def MEM_ERRSRC_PARH : FRef := ⟨rMEM_ERRSRC, 6, 4⟩
/-- MEM_ERRSRC.UNIT. -/
def MEM_ERRSRC_UNIT : FRef := ⟨rMEM_ERRSRC, 3, 0⟩
/-- Register MEM_AONRET. -/
def rMEM_AONRET : Nat := 0x2020
/-- MEM_AONRET.RET2K. -/
def MEM_AONRET_RET2K : FRef := ⟨rMEM_AONRET, 0, 0⟩
/-- Register MEM_NCMD. -/
def rMEM_NCMD : Nat := 0x2030
/-- MEM_NCMD.CMD. -/
def MEM_NCMD_CMD : FRef := ⟨rMEM_NCMD, 3, 0⟩
/-- Register MEM_NADRH. -/
def rMEM_NADRH : Nat := 0x2031
/-- MEM_NADRH.ADRH. -/
def MEM_NADRH_ADRH : FRef := ⟨rMEM_NADRH, 1, 0⟩
/-- Register MEM_NADRL. -/
def rMEM_NADRL : Nat := 0x2032
/-- MEM_NADRL.ADRL. -/
def MEM_NADRL_ADRL : FRef := ⟨rMEM_NADRL, 17, 0⟩
/-- Register MEM_NDATA. -/
def rMEM_NDATA : Nat := 0x2033
/-- MEM_NDATA.DATA. -/
def MEM_NDATA_DATA : FRef := ⟨rMEM_NDATA, 17, 0⟩
/-- Register MEM_NSTAT. -/
def rMEM_NSTAT : Nat := 0x2034
/-- MEM_NSTAT.ACTIVE. -/
def MEM_NSTAT_ACTIVE : FRef := ⟨rMEM_NSTAT, 17, 17⟩
/-- MEM_NSTAT.BUSY. -/
def MEM_NSTAT_BUSY : FRef := ⟨rMEM_NSTAT, 16, 16⟩
/-- MEM_NSTAT.RESULT. -/
def MEM_NSTAT_RESULT : FRef := ⟨rMEM_NSTAT, 15, 12⟩
/-- MEM_NSTAT.CNT1. -/
def MEM_NSTAT_CNT1 : FRef := ⟨rMEM_NSTAT, 11, 0⟩
/-- Register MEM_SSCTL. -/
def rMEM_SSCTL : Nat := 0x2040
/-- MEM_SSCTL.CMD. -/
def MEM_SSCTL_CMD : FRef := ⟨rMEM_SSCTL, 17, 16⟩
/-- MEM_SSCTL.SCHEMA. -/
def MEM_SSCTL_SCHEMA : FRef := ⟨rMEM_SSCTL, 11, 0⟩
/-- Register MEM_SSBUF. -/
def rMEM_SSBUF : Nat := 0x2041
/-- MEM_SSBUF.BUF. -/
def MEM_SSBUF_BUF : FRef := ⟨rMEM_SSBUF, 17, 0⟩
/-- Register MEM_SSLEN. -/
def rMEM_SSLEN : Nat := 0x2042
/-- MEM_SSLEN.LEN. -/
def MEM_SSLEN_LEN : FRef := ⟨rMEM_SSLEN, 17, 0⟩
/-- Register MEM_SSGRP. -/
def rMEM_SSGRP : Nat := 0x2043
/-- MEM_SSGRP.GRP. -/
def MEM_SSGRP_GRP : FRef := ⟨rMEM_SSGRP, 15, 0⟩
/-- Register MEM_SSSTAT. -/
def rMEM_SSSTAT : Nat := 0x2044
/-- MEM_SSSTAT.BUSY. -/
def MEM_SSSTAT_BUSY : FRef := ⟨rMEM_SSSTAT, 17, 17⟩
/-- MEM_SSSTAT.VALID. -/
def MEM_SSSTAT_VALID : FRef := ⟨rMEM_SSSTAT, 16, 16⟩
/-- MEM_SSSTAT.BANK. -/
def MEM_SSSTAT_BANK : FRef := ⟨rMEM_SSSTAT, 15, 15⟩
/-- MEM_SSSTAT.RESULT. -/
def MEM_SSSTAT_RESULT : FRef := ⟨rMEM_SSSTAT, 14, 12⟩
/-- MEM_SSSTAT.SCHEMA. -/
def MEM_SSSTAT_SCHEMA : FRef := ⟨rMEM_SSSTAT, 11, 0⟩
/-- Register MEM_SSSEQH. -/
def rMEM_SSSEQH : Nat := 0x2045
/-- MEM_SSSEQH.SEQH. -/
def MEM_SSSEQH_SEQH : FRef := ⟨rMEM_SSSEQH, 15, 0⟩
/-- Register MEM_SSSEQL. -/
def rMEM_SSSEQL : Nat := 0x2046
/-- MEM_SSSEQL.SEQL. -/
def MEM_SSSEQL_SEQL : FRef := ⟨rMEM_SSSEQL, 15, 0⟩
/-- Register MEM_SSVLEN. -/
def rMEM_SSVLEN : Nat := 0x2047
/-- MEM_SSVLEN.VLEN. -/
def MEM_SSVLEN_VLEN : FRef := ⟨rMEM_SSVLEN, 17, 0⟩
/-- Register MEM_OTPCMD. -/
def rMEM_OTPCMD : Nat := 0x2050
/-- MEM_OTPCMD.CMD. -/
def MEM_OTPCMD_CMD : FRef := ⟨rMEM_OTPCMD, 17, 16⟩
/-- MEM_OTPCMD.OFFSET. -/
def MEM_OTPCMD_OFFSET : FRef := ⟨rMEM_OTPCMD, 10, 0⟩
/-- Register MEM_OTPDATA. -/
def rMEM_OTPDATA : Nat := 0x2051
/-- MEM_OTPDATA.DATA. -/
def MEM_OTPDATA_DATA : FRef := ⟨rMEM_OTPDATA, 17, 0⟩
/-- Register MEM_OTPSTAT. -/
def rMEM_OTPSTAT : Nat := 0x2052
/-- MEM_OTPSTAT.BUSY. -/
def MEM_OTPSTAT_BUSY : FRef := ⟨rMEM_OTPSTAT, 17, 17⟩
/-- MEM_OTPSTAT.RESULT. -/
def MEM_OTPSTAT_RESULT : FRef := ⟨rMEM_OTPSTAT, 16, 14⟩
/-- Register RNG_RBASE. -/
def rRNG_RBASE (n : Nat) : Nat := 0x3000 + 0x10 * n
/-- RNG_RBASE.BASE. -/
def RNG_RBASE_BASE (n : Nat) : FRef := ⟨rRNG_RBASE n, 17, 3⟩
/-- Register RNG_RCFG. -/
def rRNG_RCFG (n : Nat) : Nat := 0x3001 + 0x10 * n
/-- RNG_RCFG.EN. -/
def RNG_RCFG_EN (n : Nat) : FRef := ⟨rRNG_RCFG n, 17, 17⟩
/-- RNG_RCFG.PRIO. -/
def RNG_RCFG_PRIO (n : Nat) : FRef := ⟨rRNG_RCFG n, 16, 16⟩
/-- RNG_RCFG.IRQEN. -/
def RNG_RCFG_IRQEN (n : Nat) : FRef := ⟨rRNG_RCFG n, 15, 15⟩
/-- RNG_RCFG.OWNER. -/
def RNG_RCFG_OWNER (n : Nat) : FRef := ⟨rRNG_RCFG n, 14, 12⟩
/-- RNG_RCFG.ENGINE. -/
def RNG_RCFG_ENGINE (n : Nat) : FRef := ⟨rRNG_RCFG n, 11, 8⟩
/-- RNG_RCFG.SIZE. -/
def RNG_RCFG_SIZE (n : Nat) : FRef := ⟨rRNG_RCFG n, 7, 5⟩
/-- Register RNG_DB. -/
def rRNG_DB (n : Nat) : Nat := 0x3002 + 0x10 * n
/-- RNG_DB.PIDX. -/
def RNG_DB_PIDX (n : Nat) : FRef := ⟨rRNG_DB n, 9, 0⟩
/-- Register RNG_RSTAT. -/
def rRNG_RSTAT (n : Nat) : Nat := 0x3003 + 0x10 * n
/-- RNG_RSTAT.STATE. -/
def RNG_RSTAT_STATE (n : Nat) : FRef := ⟨rRNG_RSTAT n, 17, 16⟩
/-- RNG_RSTAT.CAUSE. -/
def RNG_RSTAT_CAUSE (n : Nat) : FRef := ⟨rRNG_RSTAT n, 15, 13⟩
/-- RNG_RSTAT.STALL. -/
def RNG_RSTAT_STALL (n : Nat) : FRef := ⟨rRNG_RSTAT n, 12, 12⟩
/-- RNG_RSTAT.FIDX. -/
def RNG_RSTAT_FIDX (n : Nat) : FRef := ⟨rRNG_RSTAT n, 9, 0⟩
/-- Register RNG_FLAG. -/
def rRNG_FLAG : Nat := 0x3400
/-- RNG_FLAG.DBREF. -/
def RNG_FLAG_DBREF : FRef := ⟨rRNG_FLAG, 5, 5⟩
/-- RNG_FLAG.CFGREF. -/
def RNG_FLAG_CFGREF : FRef := ⟨rRNG_FLAG, 4, 4⟩
/-- RNG_FLAG.TXEXP. -/
def RNG_FLAG_TXEXP : FRef := ⟨rRNG_FLAG, 3, 3⟩
/-- RNG_FLAG.RDROP. -/
def RNG_FLAG_RDROP : FRef := ⟨rRNG_FLAG, 2, 2⟩
/-- RNG_FLAG.WRREF. -/
def RNG_FLAG_WRREF : FRef := ⟨rRNG_FLAG, 1, 1⟩
/-- RNG_FLAG.ENCREF. -/
def RNG_FLAG_ENCREF : FRef := ⟨rRNG_FLAG, 0, 0⟩
/-- Register RNG_IRQPEND. -/
def rRNG_IRQPEND (n : Nat) : Nat := 0x3401 + n
/-- RNG_IRQPEND.PEND. -/
def RNG_IRQPEND_PEND (n : Nat) : FRef := ⟨rRNG_IRQPEND n, 15, 0⟩
/-- Register RNG_ADROP. -/
def rRNG_ADROP : Nat := 0x3405
/-- RNG_ADROP.FMT. -/
def RNG_ADROP_FMT : FRef := ⟨rRNG_ADROP, 17, 9⟩
/-- RNG_ADROP.NOSLOT. -/
def RNG_ADROP_NOSLOT : FRef := ⟨rRNG_ADROP, 8, 0⟩
/-- Register RNG_TXSTAT. -/
def rRNG_TXSTAT (n : Nat) : Nat := 0x3500 + 0x10 * n
/-- RNG_TXSTAT.OPEN. -/
def RNG_TXSTAT_OPEN (n : Nat) : FRef := ⟨rRNG_TXSTAT n, 17, 17⟩
/-- RNG_TXSTAT.WAIT. -/
def RNG_TXSTAT_WAIT (n : Nat) : FRef := ⟨rRNG_TXSTAT n, 16, 16⟩
/-- RNG_TXSTAT.LAST. -/
def RNG_TXSTAT_LAST (n : Nat) : FRef := ⟨rRNG_TXSTAT n, 15, 13⟩
/-- Register RNG_TXCLAIM. -/
def rRNG_TXCLAIM (n : Nat) : Nat := 0x3501 + 0x10 * n
/-- RNG_TXCLAIM.CLAIM. -/
def RNG_TXCLAIM_CLAIM (n : Nat) : FRef := ⟨rRNG_TXCLAIM n, 15, 0⟩
/-- Register RNG_TXLEFT. -/
def rRNG_TXLEFT (n : Nat) : Nat := 0x3502 + 0x10 * n
/-- RNG_TXLEFT.LEFT. -/
def RNG_TXLEFT_LEFT (n : Nat) : FRef := ⟨rRNG_TXLEFT n, 15, 0⟩
/-- Register RNG_SCTL. -/
def rRNG_SCTL (n : Nat) : Nat := 0x3600 + 0x10 * n
/-- RNG_SCTL.EN. -/
def RNG_SCTL_EN (n : Nat) : FRef := ⟨rRNG_SCTL n, 17, 17⟩
/-- RNG_SCTL.KEYV. -/
def RNG_SCTL_KEYV (n : Nat) : FRef := ⟨rRNG_SCTL n, 16, 16⟩
/-- RNG_SCTL.LIMIT. -/
def RNG_SCTL_LIMIT (n : Nat) : FRef := ⟨rRNG_SCTL n, 13, 8⟩
/-- RNG_SCTL.COAL. -/
def RNG_SCTL_COAL (n : Nat) : FRef := ⟨rRNG_SCTL n, 7, 0⟩
/-- Register RNG_SCLAIM. -/
def rRNG_SCLAIM (n : Nat) : Nat := 0x3601 + 0x10 * n
/-- RNG_SCLAIM.MASK. -/
def RNG_SCLAIM_MASK (n : Nat) : FRef := ⟨rRNG_SCLAIM n, 15, 0⟩
/-- Register RNG_SDROP. -/
def rRNG_SDROP (n : Nat) : Nat := 0x3606 + 0x10 * n
/-- RNG_SDROP.AUTH. -/
def RNG_SDROP_AUTH (n : Nat) : FRef := ⟨rRNG_SDROP n, 17, 9⟩
/-- RNG_SDROP.FRESH. -/
def RNG_SDROP_FRESH (n : Nat) : FRef := ⟨rRNG_SDROP n, 8, 0⟩
/-- Register RNG_SHFH. -/
def rRNG_SHFH (n : Nat) : Nat := 0x3602 + 0x10 * n
/-- RNG_SHFH.SHFH. -/
def RNG_SHFH_SHFH (n : Nat) : FRef := ⟨rRNG_SHFH n, 15, 0⟩
/-- Register RNG_SHFL. -/
def rRNG_SHFL (n : Nat) : Nat := 0x3603 + 0x10 * n
/-- RNG_SHFL.SHFL. -/
def RNG_SHFL_SHFL (n : Nat) : FRef := ⟨rRNG_SHFL n, 15, 0⟩
/-- Register RNG_SMFH. -/
def rRNG_SMFH (n : Nat) : Nat := 0x3604 + 0x10 * n
/-- RNG_SMFH.SMFH. -/
def RNG_SMFH_SMFH (n : Nat) : FRef := ⟨rRNG_SMFH n, 15, 0⟩
/-- Register RNG_SMFL. -/
def rRNG_SMFL (n : Nat) : Nat := 0x3605 + 0x10 * n
/-- RNG_SMFL.SMFL. -/
def RNG_SMFL_SMFL (n : Nat) : FRef := ⟨rRNG_SMFL n, 15, 0⟩
/-- Register SEQ_FLAG. -/
def rSEQ_FLAG : Nat := 0x6000
/-- SEQ_FLAG.SECC. -/
def SEQ_FLAG_SECC : FRef := ⟨rSEQ_FLAG, 7, 7⟩
/-- SEQ_FLAG.MBUSY. -/
def SEQ_FLAG_MBUSY : FRef := ⟨rSEQ_FLAG, 6, 6⟩
/-- SEQ_FLAG.STEP. -/
def SEQ_FLAG_STEP : FRef := ⟨rSEQ_FLAG, 5, 5⟩
/-- SEQ_FLAG.HOLD. -/
def SEQ_FLAG_HOLD : FRef := ⟨rSEQ_FLAG, 4, 4⟩
/-- SEQ_FLAG.PFAULT. -/
def SEQ_FLAG_PFAULT : FRef := ⟨rSEQ_FLAG, 3, 3⟩
/-- SEQ_FLAG.PLEAK. -/
def SEQ_FLAG_PLEAK : FRef := ⟨rSEQ_FLAG, 2, 2⟩
/-- SEQ_FLAG.WRREF. -/
def SEQ_FLAG_WRREF : FRef := ⟨rSEQ_FLAG, 1, 1⟩
/-- SEQ_FLAG.ENCREF. -/
def SEQ_FLAG_ENCREF : FRef := ⟨rSEQ_FLAG, 0, 0⟩
/-- Register SEQ_LOCK. -/
def rSEQ_LOCK : Nat := 0x6001
/-- SEQ_LOCK.LIB. -/
def SEQ_LOCK_LIB : FRef := ⟨rSEQ_LOCK, 0, 0⟩
/-- Register SEQ_ZCTL. -/
def rSEQ_ZCTL : Nat := 0x6002
/-- SEQ_ZCTL.STEPTHR. -/
def SEQ_ZCTL_STEPTHR : FRef := ⟨rSEQ_ZCTL, 1, 0⟩
/-- Register SEQ_ZSTAT. -/
def rSEQ_ZSTAT : Nat := 0x6003
/-- SEQ_ZSTAT.LOCK. -/
def SEQ_ZSTAT_LOCK : FRef := ⟨rSEQ_ZSTAT, 17, 17⟩
/-- SEQ_ZSTAT.HOLD. -/
def SEQ_ZSTAT_HOLD : FRef := ⟨rSEQ_ZSTAT, 16, 16⟩
/-- SEQ_ZSTAT.AGE. -/
def SEQ_ZSTAT_AGE : FRef := ⟨rSEQ_ZSTAT, 15, 8⟩
/-- SEQ_ZSTAT.STEPCNT. -/
def SEQ_ZSTAT_STEPCNT : FRef := ⟨rSEQ_ZSTAT, 7, 0⟩
/-- Register SEQ_ZT3. -/
def rSEQ_ZT3 : Nat := 0x6004
/-- SEQ_ZT3.ZT. -/
def SEQ_ZT3_ZT : FRef := ⟨rSEQ_ZT3, 15, 0⟩
/-- Register SEQ_ZT2. -/
def rSEQ_ZT2 : Nat := 0x6005
/-- SEQ_ZT2.ZT. -/
def SEQ_ZT2_ZT : FRef := ⟨rSEQ_ZT2, 15, 0⟩
/-- Register SEQ_ZT1. -/
def rSEQ_ZT1 : Nat := 0x6006
/-- SEQ_ZT1.ZT. -/
def SEQ_ZT1_ZT : FRef := ⟨rSEQ_ZT1, 15, 0⟩
/-- Register SEQ_ZT0. -/
def rSEQ_ZT0 : Nat := 0x6007
/-- SEQ_ZT0.ZT. -/
def SEQ_ZT0_ZT : FRef := ⟨rSEQ_ZT0, 15, 0⟩
/-- Register SEQ_ZOFS. -/
def rSEQ_ZOFS : Nat := 0x6008
/-- SEQ_ZOFS.OFS. -/
def SEQ_ZOFS_OFS : FRef := ⟨rSEQ_ZOFS, 17, 0⟩
/-- Register SEQ_MADR. -/
def rSEQ_MADR : Nat := 0x6010
/-- SEQ_MADR.ADDR. -/
def SEQ_MADR_ADDR : FRef := ⟨rSEQ_MADR, 12, 0⟩
/-- Register SEQ_MDATA. -/
def rSEQ_MDATA : Nat := 0x6011
/-- SEQ_MDATA.DATA. -/
def SEQ_MDATA_DATA : FRef := ⟨rSEQ_MDATA, 17, 0⟩
/-- Register SEQ_PCNT0. -/
def rSEQ_PCNT0 : Nat := 0x6018
/-- SEQ_PCNT0.PACC. -/
def SEQ_PCNT0_PACC : FRef := ⟨rSEQ_PCNT0, 17, 9⟩
/-- SEQ_PCNT0.PCONF. -/
def SEQ_PCNT0_PCONF : FRef := ⟨rSEQ_PCNT0, 8, 0⟩
/-- Register SEQ_PCNT1. -/
def rSEQ_PCNT1 : Nat := 0x6019
/-- SEQ_PCNT1.PREV. -/
def SEQ_PCNT1_PREV : FRef := ⟨rSEQ_PCNT1, 17, 9⟩
/-- SEQ_PCNT1.PSUP. -/
def SEQ_PCNT1_PSUP : FRef := ⟨rSEQ_PCNT1, 8, 0⟩
/-- Register SEQ_FAULT. -/
def rSEQ_FAULT : Nat := 0x6020
/-- SEQ_FAULT.CAUSE. -/
def SEQ_FAULT_CAUSE : FRef := ⟨rSEQ_FAULT, 17, 15⟩
/-- SEQ_FAULT.OUT. -/
def SEQ_FAULT_OUT : FRef := ⟨rSEQ_FAULT, 6, 0⟩
/-- Register SEQ_GCFG. -/
def rSEQ_GCFG (n : Nat) : Nat := 0x6100 + 0x10 * n
/-- SEQ_GCFG.PRE. -/
def SEQ_GCFG_PRE (n : Nat) : FRef := ⟨rSEQ_GCFG n, 17, 16⟩
/-- SEQ_GCFG.PER. -/
def SEQ_GCFG_PER (n : Nat) : FRef := ⟨rSEQ_GCFG n, 15, 0⟩
/-- Register SEQ_GCTL. -/
def rSEQ_GCTL (n : Nat) : Nat := 0x6101 + 0x10 * n
/-- SEQ_GCTL.ZSYNC. -/
def SEQ_GCTL_ZSYNC (n : Nat) : FRef := ⟨rSEQ_GCTL n, 17, 17⟩
/-- SEQ_GCTL.FROZEN. -/
def SEQ_GCTL_FROZEN (n : Nat) : FRef := ⟨rSEQ_GCTL n, 16, 16⟩
/-- SEQ_GCTL.RESUME. -/
def SEQ_GCTL_RESUME (n : Nat) : FRef := ⟨rSEQ_GCTL n, 15, 15⟩
/-- SEQ_GCTL.GOFS. -/
def SEQ_GCTL_GOFS (n : Nat) : FRef := ⟨rSEQ_GCTL n, 12, 0⟩
/-- Register SEQ_GSTAT. -/
def rSEQ_GSTAT (n : Nat) : Nat := 0x6102 + 0x10 * n
/-- SEQ_GSTAT.FCNT. -/
def SEQ_GSTAT_FCNT (n : Nat) : FRef := ⟨rSEQ_GSTAT n, 17, 0⟩
/-- Register SEQ_OCFG. -/
def rSEQ_OCFG (n : Nat) : Nat := 0x6400 + 0x10 * n
/-- SEQ_OCFG.GRP. -/
def SEQ_OCFG_GRP (n : Nat) : FRef := ⟨rSEQ_OCFG n, 17, 14⟩
/-- SEQ_OCFG.SAFE. -/
def SEQ_OCFG_SAFE (n : Nat) : FRef := ⟨rSEQ_OCFG n, 13, 13⟩
/-- SEQ_OCFG.PHASE. -/
def SEQ_OCFG_PHASE (n : Nat) : FRef := ⟨rSEQ_OCFG n, 12, 0⟩
/-- Register SEQ_OSTAT. -/
def rSEQ_OSTAT (n : Nat) : Nat := 0x6401 + 0x10 * n
/-- SEQ_OSTAT.STATE. -/
def SEQ_OSTAT_STATE (n : Nat) : FRef := ⟨rSEQ_OSTAT n, 17, 15⟩
/-- SEQ_OSTAT.PROVP. -/
def SEQ_OSTAT_PROVP (n : Nat) : FRef := ⟨rSEQ_OSTAT n, 14, 14⟩
/-- SEQ_OSTAT.PC. -/
def SEQ_OSTAT_PC (n : Nat) : FRef := ⟨rSEQ_OSTAT n, 12, 0⟩
/-- Register SEQ_OVAL. -/
def rSEQ_OVAL (n : Nat) : Nat := 0x6402 + 0x10 * n
/-- SEQ_OVAL.D. -/
def SEQ_OVAL_D (n : Nat) : FRef := ⟨rSEQ_OVAL n, 17, 0⟩
/-- Register HSC_FLAG. -/
def rHSC_FLAG : Nat := 0x4000
/-- HSC_FLAG.WRREF. -/
def HSC_FLAG_WRREF : FRef := ⟨rHSC_FLAG, 1, 1⟩
/-- HSC_FLAG.ENCREF. -/
def HSC_FLAG_ENCREF : FRef := ⟨rHSC_FLAG, 0, 0⟩
/-- Register HSC_GCTL. -/
def rHSC_GCTL : Nat := 0x4001
/-- HSC_GCTL.TUVR. -/
def HSC_GCTL_TUVR : FRef := ⟨rHSC_GCTL, 2, 0⟩
/-- Register HSC_KL30. -/
def rHSC_KL30 (n : Nat) : Nat := 0x4004 + n
/-- HSC_KL30.V. -/
def HSC_KL30_V (n : Nat) : FRef := ⟨rHSC_KL30 n, 17, 0⟩
/-- Register HSC_LSUM. -/
def rHSC_LSUM (n : Nat) : Nat := 0x4008 + n
/-- HSC_LSUM.LAT. -/
def HSC_LSUM_LAT (n : Nat) : FRef := ⟨rHSC_LSUM n, 15, 0⟩
/-- Register HSC_CFG. -/
def rHSC_CFG (n : Nat) : Nat := 0x4100 + 0x10 * n
/-- HSC_CFG.LOAD. -/
def HSC_CFG_LOAD (n : Nat) : FRef := ⟨rHSC_CFG n, 17, 16⟩
/-- HSC_CFG.FINE. -/
def HSC_CFG_FINE (n : Nat) : FRef := ⟨rHSC_CFG n, 15, 15⟩
/-- HSC_CFG.SLEW. -/
def HSC_CFG_SLEW (n : Nat) : FRef := ⟨rHSC_CFG n, 14, 13⟩
/-- HSC_CFG.PAR. -/
def HSC_CFG_PAR (n : Nat) : FRef := ⟨rHSC_CFG n, 12, 12⟩
/-- HSC_CFG.OLON. -/
def HSC_CFG_OLON (n : Nat) : FRef := ⟨rHSC_CFG n, 11, 11⟩
/-- HSC_CFG.OLOFF. -/
def HSC_CFG_OLOFF (n : Nat) : FRef := ⟨rHSC_CFG n, 10, 10⟩
/-- HSC_CFG.VUV. -/
def HSC_CFG_VUV (n : Nat) : FRef := ⟨rHSC_CFG n, 9, 8⟩
/-- HSC_CFG.SCTH. -/
def HSC_CFG_SCTH (n : Nat) : FRef := ⟨rHSC_CFG n, 7, 6⟩
/-- HSC_CFG.BRACE. -/
def HSC_CFG_BRACE (n : Nat) : FRef := ⟨rHSC_CFG n, 5, 4⟩
/-- HSC_CFG.DIAGP. -/
def HSC_CFG_DIAGP (n : Nat) : FRef := ⟨rHSC_CFG n, 3, 0⟩
/-- Register HSC_PROT. -/
def rHSC_PROT (n : Nat) : Nat := 0x4101 + 0x10 * n
/-- HSC_PROT.WARM. -/
def HSC_PROT_WARM (n : Nat) : FRef := ⟨rHSC_PROT n, 17, 11⟩
/-- HSC_PROT.RETRY. -/
def HSC_PROT_RETRY (n : Nat) : FRef := ⟨rHSC_PROT n, 10, 7⟩
/-- HSC_PROT.TRETRY. -/
def HSC_PROT_TRETRY (n : Nat) : FRef := ⟨rHSC_PROT n, 6, 2⟩
/-- HSC_PROT.ILSEL. -/
def HSC_PROT_ILSEL (n : Nat) : FRef := ⟨rHSC_PROT n, 1, 0⟩
/-- Register HSC_OLTH. -/
def rHSC_OLTH (n : Nat) : Nat := 0x4102 + 0x10 * n
/-- HSC_OLTH.OLTH. -/
def HSC_OLTH_OLTH (n : Nat) : FRef := ⟨rHSC_OLTH n, 17, 0⟩
/-- Register HSC_STAT. -/
def rHSC_STAT (n : Nat) : Nat := 0x4104 + 0x10 * n
/-- HSC_STAT.STATE. -/
def HSC_STAT_STATE (n : Nat) : FRef := ⟨rHSC_STAT n, 17, 14⟩
/-- HSC_STAT.LCAUSE. -/
def HSC_STAT_LCAUSE (n : Nat) : FRef := ⟨rHSC_STAT n, 13, 12⟩
/-- HSC_STAT.RCNT. -/
def HSC_STAT_RCNT (n : Nat) : FRef := ⟨rHSC_STAT n, 11, 8⟩
/-- HSC_STAT.SCNT. -/
def HSC_STAT_SCNT (n : Nat) : FRef := ⟨rHSC_STAT n, 7, 6⟩
/-- HSC_STAT.OL. -/
def HSC_STAT_OL (n : Nat) : FRef := ⟨rHSC_STAT n, 5, 3⟩
/-- HSC_STAT.UV. -/
def HSC_STAT_UV (n : Nat) : FRef := ⟨rHSC_STAT n, 2, 2⟩
/-- HSC_STAT.WARM. -/
def HSC_STAT_WARM (n : Nat) : FRef := ⟨rHSC_STAT n, 1, 1⟩
/-- HSC_STAT.IVAL. -/
def HSC_STAT_IVAL (n : Nat) : FRef := ⟨rHSC_STAT n, 0, 0⟩
/-- Register HSC_IMEAS. -/
def rHSC_IMEAS (n : Nat) : Nat := 0x4105 + 0x10 * n
/-- HSC_IMEAS.I. -/
def HSC_IMEAS_I (n : Nat) : FRef := ⟨rHSC_IMEAS n, 17, 0⟩
/-- Register HSC_VOUT. -/
def rHSC_VOUT (n : Nat) : Nat := 0x4106 + 0x10 * n
/-- HSC_VOUT.VOUT. -/
def HSC_VOUT_VOUT (n : Nat) : FRef := ⟨rHSC_VOUT n, 17, 0⟩
/-- Register HSC_CNT. -/
def rHSC_CNT (n : Nat) : Nat := 0x4107 + 0x10 * n
/-- HSC_CNT.SHORTS. -/
def HSC_CNT_SHORTS (n : Nat) : FRef := ⟨rHSC_CNT n, 17, 12⟩
/-- HSC_CNT.OVLS. -/
def HSC_CNT_OVLS (n : Nat) : FRef := ⟨rHSC_CNT n, 11, 6⟩
/-- HSC_CNT.UVS. -/
def HSC_CNT_UVS (n : Nat) : FRef := ⟨rHSC_CNT n, 5, 0⟩
/-- Register HSC_EVT. -/
def rHSC_EVT (n : Nat) : Nat := 0x4108 + 0x10 * n
/-- HSC_EVT.LATCH. -/
def HSC_EVT_LATCH (n : Nat) : FRef := ⟨rHSC_EVT n, 8, 8⟩
/-- HSC_EVT.SHORT. -/
def HSC_EVT_SHORT (n : Nat) : FRef := ⟨rHSC_EVT n, 7, 7⟩
/-- HSC_EVT.OVL. -/
def HSC_EVT_OVL (n : Nat) : FRef := ⟨rHSC_EVT n, 6, 6⟩
/-- HSC_EVT.UV. -/
def HSC_EVT_UV (n : Nat) : FRef := ⟨rHSC_EVT n, 5, 5⟩
/-- HSC_EVT.OLCHG. -/
def HSC_EVT_OLCHG (n : Nat) : FRef := ⟨rHSC_EVT n, 4, 4⟩
/-- HSC_EVT.OLU. -/
def HSC_EVT_OLU (n : Nat) : FRef := ⟨rHSC_EVT n, 3, 3⟩
/-- HSC_EVT.THERM. -/
def HSC_EVT_THERM (n : Nat) : FRef := ⟨rHSC_EVT n, 2, 2⟩
/-- HSC_EVT.RESTART. -/
def HSC_EVT_RESTART (n : Nat) : FRef := ⟨rHSC_EVT n, 1, 1⟩
/-- HSC_EVT.LIMIT. -/
def HSC_EVT_LIMIT (n : Nat) : FRef := ⟨rHSC_EVT n, 0, 0⟩
/-- Register HSC_IEN. -/
def rHSC_IEN (n : Nat) : Nat := 0x4109 + 0x10 * n
/-- HSC_IEN.IEN. -/
def HSC_IEN_IEN (n : Nat) : FRef := ⟨rHSC_IEN n, 8, 0⟩
/-- Register THM_FLAG. -/
def rTHM_FLAG : Nat := 0x5000
/-- THM_FLAG.CHSF. -/
def THM_FLAG_CHSF : FRef := ⟨rTHM_FLAG, 5, 5⟩
/-- THM_FLAG.CASEF. -/
def THM_FLAG_CASEF : FRef := ⟨rTHM_FLAG, 4, 4⟩
/-- THM_FLAG.DIEHOT. -/
def THM_FLAG_DIEHOT : FRef := ⟨rTHM_FLAG, 3, 3⟩
/-- THM_FLAG.PBUD. -/
def THM_FLAG_PBUD : FRef := ⟨rTHM_FLAG, 2, 2⟩
/-- THM_FLAG.WRREF. -/
def THM_FLAG_WRREF : FRef := ⟨rTHM_FLAG, 1, 1⟩
/-- THM_FLAG.ENCREF. -/
def THM_FLAG_ENCREF : FRef := ⟨rTHM_FLAG, 0, 0⟩
/-- Register THM_GCTL. -/
def rTHM_GCTL : Nat := 0x5001
/-- THM_GCTL.LOCK. -/
def THM_GCTL_LOCK : FRef := ⟨rTHM_GCTL, 17, 17⟩
/-- THM_GCTL.TJHYS. -/
def THM_GCTL_TJHYS : FRef := ⟨rTHM_GCTL, 3, 2⟩
/-- THM_GCTL.DTHYS. -/
def THM_GCTL_DTHYS : FRef := ⟨rTHM_GCTL, 1, 0⟩
/-- Register THM_AMB. -/
def rTHM_AMB : Nat := 0x5002
/-- THM_AMB.AMB. -/
def THM_AMB_AMB : FRef := ⟨rTHM_AMB, 17, 0⟩
/-- Register THM_PBASE. -/
def rTHM_PBASE : Nat := 0x5003
/-- THM_PBASE.PBASE. -/
def THM_PBASE_PBASE : FRef := ⟨rTHM_PBASE, 17, 0⟩
/-- Register THM_PEST. -/
def rTHM_PEST : Nat := 0x5004
/-- THM_PEST.PEST. -/
def THM_PEST_PEST : FRef := ⟨rTHM_PEST, 17, 0⟩
/-- Register THM_PLIM. -/
def rTHM_PLIM : Nat := 0x5005
/-- THM_PLIM.PLIM. -/
def THM_PLIM_PLIM : FRef := ⟨rTHM_PLIM, 17, 0⟩
/-- Register THM_IEN. -/
def rTHM_IEN : Nat := 0x5006
/-- THM_IEN.IEN. -/
def THM_IEN_IEN : FRef := ⟨rTHM_IEN, 6, 0⟩
/-- Register THM_CASE. -/
def rTHM_CASE (n : Nat) : Nat := 0x5010 + n
/-- THM_CASE.T. -/
def THM_CASE_T (n : Nat) : FRef := ⟨rTHM_CASE n, 17, 0⟩
/-- Register THM_CSTAT. -/
def rTHM_CSTAT : Nat := 0x501C
/-- THM_CSTAT.FAIL. -/
def THM_CSTAT_FAIL : FRef := ⟨rTHM_CSTAT, 11, 0⟩
/-- Register THM_DIE0. -/
def rTHM_DIE0 : Nat := 0x5020
/-- THM_DIE0.T. -/
def THM_DIE0_T : FRef := ⟨rTHM_DIE0, 17, 0⟩
/-- Register THM_DIE1. -/
def rTHM_DIE1 : Nat := 0x5021
/-- THM_DIE1.T. -/
def THM_DIE1_T : FRef := ⟨rTHM_DIE1, 17, 0⟩
/-- Register THM_WLAT. -/
def rTHM_WLAT (n : Nat) : Nat := 0x5024 + n
/-- THM_WLAT.TRIP. -/
def THM_WLAT_TRIP (n : Nat) : FRef := ⟨rTHM_WLAT n, 15, 0⟩
/-- Register THM_WLATV. -/
def rTHM_WLATV : Nat := 0x5028
/-- THM_WLATV.TRIP. -/
def THM_WLATV_TRIP : FRef := ⟨rTHM_WLATV, 3, 0⟩
/-- Register THM_ESUM. -/
def rTHM_ESUM (n : Nat) : Nat := 0x5030 + n
/-- THM_ESUM.ANY. -/
def THM_ESUM_ANY (n : Nat) : FRef := ⟨rTHM_ESUM n, 15, 0⟩
/-- Register THM_TCFG. -/
def rTHM_TCFG (n : Nat) : Nat := 0x5100 + 0x10 * n
/-- THM_TCFG.DTL. -/
def THM_TCFG_DTL (n : Nat) : FRef := ⟨rTHM_TCFG n, 6, 0⟩
/-- Register THM_TSTAT. -/
def rTHM_TSTAT (n : Nat) : Nat := 0x5101 + 0x10 * n
/-- THM_TSTAT.DTLAT. -/
def THM_TSTAT_DTLAT (n : Nat) : FRef := ⟨rTHM_TSTAT n, 17, 17⟩
/-- THM_TSTAT.TJLAT. -/
def THM_TSTAT_TJLAT (n : Nat) : FRef := ⟨rTHM_TSTAT n, 16, 16⟩
/-- THM_TSTAT.FAIL. -/
def THM_TSTAT_FAIL (n : Nat) : FRef := ⟨rTHM_TSTAT n, 15, 15⟩
/-- THM_TSTAT.DIE. -/
def THM_TSTAT_DIE (n : Nat) : FRef := ⟨rTHM_TSTAT n, 14, 13⟩
/-- THM_TSTAT.CREF. -/
def THM_TSTAT_CREF (n : Nat) : FRef := ⟨rTHM_TSTAT n, 12, 11⟩
/-- Register THM_TCH. -/
def rTHM_TCH (n : Nat) : Nat := 0x5102 + 0x10 * n
/-- THM_TCH.T. -/
def THM_TCH_T (n : Nat) : FRef := ⟨rTHM_TCH n, 17, 0⟩
/-- Register THM_TDT. -/
def rTHM_TDT (n : Nat) : Nat := 0x5103 + 0x10 * n
/-- THM_TDT.DT. -/
def THM_TDT_DT (n : Nat) : FRef := ⟨rTHM_TDT n, 17, 0⟩
/-- Register THM_WCFG. -/
def rTHM_WCFG (n : Nat) : Nat := 0x5104 + 0x10 * n
/-- THM_WCFG.WEN. -/
def THM_WCFG_WEN (n : Nat) : FRef := ⟨rTHM_WCFG n, 17, 17⟩
/-- THM_WCFG.XS. -/
def THM_WCFG_XS (n : Nat) : FRef := ⟨rTHM_WCFG n, 16, 13⟩
/-- THM_WCFG.BF. -/
def THM_WCFG_BF (n : Nat) : FRef := ⟨rTHM_WCFG n, 12, 9⟩
/-- THM_WCFG.TWMAX. -/
def THM_WCFG_TWMAX (n : Nat) : FRef := ⟨rTHM_WCFG n, 8, 4⟩
/-- THM_WCFG.AMBSRC. -/
def THM_WCFG_AMBSRC (n : Nat) : FRef := ⟨rTHM_WCFG n, 3, 3⟩
/-- Register THM_WSTAT. -/
def rTHM_WSTAT (n : Nat) : Nat := 0x5105 + 0x10 * n
/-- THM_WSTAT.TRIP. -/
def THM_WSTAT_TRIP (n : Nat) : FRef := ⟨rTHM_WSTAT n, 17, 17⟩
/-- THM_WSTAT.WARM. -/
def THM_WSTAT_WARM (n : Nat) : FRef := ⟨rTHM_WSTAT n, 16, 16⟩
/-- Register THM_WTEMP. -/
def rTHM_WTEMP (n : Nat) : Nat := 0x5106 + 0x10 * n
/-- THM_WTEMP.TW. -/
def THM_WTEMP_TW (n : Nat) : FRef := ⟨rTHM_WTEMP n, 17, 0⟩
/-- Register THM_EVT. -/
def rTHM_EVT (n : Nat) : Nat := 0x5107 + 0x10 * n
/-- THM_EVT.REL. -/
def THM_EVT_REL (n : Nat) : FRef := ⟨rTHM_EVT n, 3, 3⟩
/-- THM_EVT.WTRIP. -/
def THM_EVT_WTRIP (n : Nat) : FRef := ⟨rTHM_EVT n, 2, 2⟩
/-- THM_EVT.TJ. -/
def THM_EVT_TJ (n : Nat) : FRef := ⟨rTHM_EVT n, 1, 1⟩
/-- THM_EVT.DT. -/
def THM_EVT_DT (n : Nat) : FRef := ⟨rTHM_EVT n, 0, 0⟩
/-- Register MOT_FLAG. -/
def rMOT_FLAG : Nat := 0x7000
/-- MOT_FLAG.CPUV. -/
def MOT_FLAG_CPUV : FRef := ⟨rMOT_FLAG, 3, 3⟩
/-- MOT_FLAG.BOOTF. -/
def MOT_FLAG_BOOTF : FRef := ⟨rMOT_FLAG, 2, 2⟩
/-- MOT_FLAG.WRREF. -/
def MOT_FLAG_WRREF : FRef := ⟨rMOT_FLAG, 1, 1⟩
/-- MOT_FLAG.ENCREF. -/
def MOT_FLAG_ENCREF : FRef := ⟨rMOT_FLAG, 0, 0⟩
/-- Register MOT_GCTL. -/
def rMOT_GCTL : Nat := 0x7001
/-- MOT_GCTL.VUV. -/
def MOT_GCTL_VUV : FRef := ⟨rMOT_GCTL, 1, 0⟩
/-- Register MOT_CPSTAT. -/
def rMOT_CPSTAT : Nat := 0x7002
/-- MOT_CPSTAT.CPOK. -/
def MOT_CPSTAT_CPOK : FRef := ⟨rMOT_CPSTAT, 17, 17⟩
/-- MOT_CPSTAT.VCP. -/
def MOT_CPSTAT_VCP : FRef := ⟨rMOT_CPSTAT, 16, 0⟩
/-- Register MOT_HCFG. -/
def rMOT_HCFG (n : Nat) : Nat := 0x7100 + 0x10 * n
/-- MOT_HCFG.EN. -/
def MOT_HCFG_EN (n : Nat) : FRef := ⟨rMOT_HCFG n, 17, 17⟩
/-- MOT_HCFG.FPWM. -/
def MOT_HCFG_FPWM (n : Nat) : FRef := ⟨rMOT_HCFG n, 16, 15⟩
/-- MOT_HCFG.SLEW. -/
def MOT_HCFG_SLEW (n : Nat) : FRef := ⟨rMOT_HCFG n, 14, 13⟩
/-- MOT_HCFG.ILIM. -/
def MOT_HCFG_ILIM (n : Nat) : FRef := ⟨rMOT_HCFG n, 12, 9⟩
/-- MOT_HCFG.KEEP. -/
def MOT_HCFG_KEEP (n : Nat) : FRef := ⟨rMOT_HCFG n, 8, 8⟩
/-- MOT_HCFG.PAIR. -/
def MOT_HCFG_PAIR (n : Nat) : FRef := ⟨rMOT_HCFG n, 7, 7⟩
/-- Register MOT_HCFG2. -/
def rMOT_HCFG2 (n : Nat) : Nat := 0x7101 + 0x10 * n
/-- MOT_HCFG2.TSTALL. -/
def MOT_HCFG2_TSTALL (n : Nat) : FRef := ⟨rMOT_HCFG2 n, 17, 10⟩
/-- MOT_HCFG2.TBRK. -/
def MOT_HCFG2_TBRK (n : Nat) : FRef := ⟨rMOT_HCFG2 n, 9, 2⟩
/-- Register MOT_HSTAT. -/
def rMOT_HSTAT (n : Nat) : Nat := 0x7102 + 0x10 * n
/-- MOT_HSTAT.STATE. -/
def MOT_HSTAT_STATE (n : Nat) : FRef := ⟨rMOT_HSTAT n, 17, 14⟩
/-- MOT_HSTAT.LCAUSE. -/
def MOT_HSTAT_LCAUSE (n : Nat) : FRef := ⟨rMOT_HSTAT n, 13, 12⟩
/-- MOT_HSTAT.DIR. -/
def MOT_HSTAT_DIR (n : Nat) : FRef := ⟨rMOT_HSTAT n, 11, 10⟩
/-- MOT_HSTAT.BOOT. -/
def MOT_HSTAT_BOOT (n : Nat) : FRef := ⟨rMOT_HSTAT n, 9, 9⟩
/-- MOT_HSTAT.SUPPLY. -/
def MOT_HSTAT_SUPPLY (n : Nat) : FRef := ⟨rMOT_HSTAT n, 8, 8⟩
/-- MOT_HSTAT.DIAG. -/
def MOT_HSTAT_DIAG (n : Nat) : FRef := ⟨rMOT_HSTAT n, 7, 6⟩
/-- MOT_HSTAT.IVAL. -/
def MOT_HSTAT_IVAL (n : Nat) : FRef := ⟨rMOT_HSTAT n, 5, 5⟩
/-- Register MOT_HIMEAS. -/
def rMOT_HIMEAS (n : Nat) : Nat := 0x7103 + 0x10 * n
/-- MOT_HIMEAS.I. -/
def MOT_HIMEAS_I (n : Nat) : FRef := ⟨rMOT_HIMEAS n, 17, 0⟩
/-- Register MOT_HEVT. -/
def rMOT_HEVT (n : Nat) : Nat := 0x7104 + 0x10 * n
/-- MOT_HEVT.EVT. -/
def MOT_HEVT_EVT (n : Nat) : FRef := ⟨rMOT_HEVT n, 8, 0⟩
/-- Register MOT_HIEN. -/
def rMOT_HIEN (n : Nat) : Nat := 0x7105 + 0x10 * n
/-- MOT_HIEN.IEN. -/
def MOT_HIEN_IEN (n : Nat) : FRef := ⟨rMOT_HIEN n, 8, 0⟩
/-- Register MOT_GCFG. -/
def rMOT_GCFG (n : Nat) : Nat := 0x7300 + 0x10 * n
/-- MOT_GCFG.EN. -/
def MOT_GCFG_EN (n : Nat) : FRef := ⟨rMOT_GCFG n, 17, 17⟩
/-- MOT_GCFG.FPWM. -/
def MOT_GCFG_FPWM (n : Nat) : FRef := ⟨rMOT_GCFG n, 16, 15⟩
/-- MOT_GCFG.IGATE. -/
def MOT_GCFG_IGATE (n : Nat) : FRef := ⟨rMOT_GCFG n, 14, 13⟩
/-- MOT_GCFG.VDSTH. -/
def MOT_GCFG_VDSTH (n : Nat) : FRef := ⟨rMOT_GCFG n, 12, 9⟩
/-- MOT_GCFG.VDSBLK. -/
def MOT_GCFG_VDSBLK (n : Nat) : FRef := ⟨rMOT_GCFG n, 8, 6⟩
/-- MOT_GCFG.OCTH. -/
def MOT_GCFG_OCTH (n : Nat) : FRef := ⟨rMOT_GCFG n, 5, 2⟩
/-- MOT_GCFG.GAIN. -/
def MOT_GCFG_GAIN (n : Nat) : FRef := ⟨rMOT_GCFG n, 1, 0⟩
/-- Register MOT_GCFG2. -/
def rMOT_GCFG2 (n : Nat) : Nat := 0x7301 + 0x10 * n
/-- MOT_GCFG2.DT. -/
def MOT_GCFG2_DT (n : Nat) : FRef := ⟨rMOT_GCFG2 n, 17, 10⟩
/-- MOT_GCFG2.TBRK. -/
def MOT_GCFG2_TBRK (n : Nat) : FRef := ⟨rMOT_GCFG2 n, 9, 2⟩
/-- Register MOT_RCFG. -/
def rMOT_RCFG (n : Nat) : Nat := 0x7302 + 0x10 * n
/-- MOT_RCFG.TSTALL. -/
def MOT_RCFG_TSTALL (n : Nat) : FRef := ⟨rMOT_RCFG n, 17, 10⟩
/-- MOT_RCFG.RIPEN. -/
def MOT_RCFG_RIPEN (n : Nat) : FRef := ⟨rMOT_RCFG n, 9, 9⟩
/-- MOT_RCFG.IRIPMIN. -/
def MOT_RCFG_IRIPMIN (n : Nat) : FRef := ⟨rMOT_RCFG n, 8, 0⟩
/-- Register MOT_PINCH. -/
def rMOT_PINCH (n : Nat) : Nat := 0x7303 + 0x10 * n
/-- MOT_PINCH.PEN. -/
def MOT_PINCH_PEN (n : Nat) : FRef := ⟨rMOT_PINCH n, 17, 17⟩
/-- MOT_PINCH.CLDIR. -/
def MOT_PINCH_CLDIR (n : Nat) : FRef := ⟨rMOT_PINCH n, 16, 16⟩
/-- MOT_PINCH.PBRK. -/
def MOT_PINCH_PBRK (n : Nat) : FRef := ⟨rMOT_PINCH n, 15, 14⟩
/-- MOT_PINCH.REVR. -/
def MOT_PINCH_REVR (n : Nat) : FRef := ⟨rMOT_PINCH n, 13, 6⟩
/-- MOT_PINCH.TPSTART. -/
def MOT_PINCH_TPSTART (n : Nat) : FRef := ⟨rMOT_PINCH n, 5, 0⟩
/-- Register MOT_PINCH2. -/
def rMOT_PINCH2 (n : Nat) : Nat := 0x7304 + 0x10 * n
/-- MOT_PINCH2.REVT. -/
def MOT_PINCH2_REVT (n : Nat) : FRef := ⟨rMOT_PINCH2 n, 17, 10⟩
/-- MOT_PINCH2.PLOCK. -/
def MOT_PINCH2_PLOCK (n : Nat) : FRef := ⟨rMOT_PINCH2 n, 9, 2⟩
/-- Register MOT_GSTAT. -/
def rMOT_GSTAT (n : Nat) : Nat := 0x7305 + 0x10 * n
/-- MOT_GSTAT.STATE. -/
def MOT_GSTAT_STATE (n : Nat) : FRef := ⟨rMOT_GSTAT n, 17, 14⟩
/-- MOT_GSTAT.LCAUSE. -/
def MOT_GSTAT_LCAUSE (n : Nat) : FRef := ⟨rMOT_GSTAT n, 13, 12⟩
/-- MOT_GSTAT.DIR. -/
def MOT_GSTAT_DIR (n : Nat) : FRef := ⟨rMOT_GSTAT n, 11, 10⟩
/-- MOT_GSTAT.POSV. -/
def MOT_GSTAT_POSV (n : Nat) : FRef := ⟨rMOT_GSTAT n, 9, 9⟩
/-- MOT_GSTAT.CPOK. -/
def MOT_GSTAT_CPOK (n : Nat) : FRef := ⟨rMOT_GSTAT n, 8, 8⟩
/-- MOT_GSTAT.SUPPLY. -/
def MOT_GSTAT_SUPPLY (n : Nat) : FRef := ⟨rMOT_GSTAT n, 7, 7⟩
/-- MOT_GSTAT.PLK. -/
def MOT_GSTAT_PLK (n : Nat) : FRef := ⟨rMOT_GSTAT n, 6, 6⟩
/-- MOT_GSTAT.ZONE. -/
def MOT_GSTAT_ZONE (n : Nat) : FRef := ⟨rMOT_GSTAT n, 5, 3⟩
/-- MOT_GSTAT.INZ. -/
def MOT_GSTAT_INZ (n : Nat) : FRef := ⟨rMOT_GSTAT n, 2, 2⟩
/-- MOT_GSTAT.DIAG. -/
def MOT_GSTAT_DIAG (n : Nat) : FRef := ⟨rMOT_GSTAT n, 1, 0⟩
/-- Register MOT_GIMEAS. -/
def rMOT_GIMEAS (n : Nat) : Nat := 0x7306 + 0x10 * n
/-- MOT_GIMEAS.V. -/
def MOT_GIMEAS_V (n : Nat) : FRef := ⟨rMOT_GIMEAS n, 17, 0⟩
/-- Register MOT_POS. -/
def rMOT_POS (n : Nat) : Nat := 0x7307 + 0x10 * n
/-- MOT_POS.POS. -/
def MOT_POS_POS (n : Nat) : FRef := ⟨rMOT_POS n, 17, 0⟩
/-- Register MOT_RPER. -/
def rMOT_RPER (n : Nat) : Nat := 0x7308 + 0x10 * n
/-- MOT_RPER.PER. -/
def MOT_RPER_PER (n : Nat) : FRef := ⟨rMOT_RPER n, 17, 0⟩
/-- Register MOT_GEVT. -/
def rMOT_GEVT (n : Nat) : Nat := 0x7309 + 0x10 * n
/-- MOT_GEVT.EVT. -/
def MOT_GEVT_EVT (n : Nat) : FRef := ⟨rMOT_GEVT n, 10, 0⟩
/-- Register MOT_GIEN. -/
def rMOT_GIEN (n : Nat) : Nat := 0x730A + 0x10 * n
/-- MOT_GIEN.IEN. -/
def MOT_GIEN_IEN (n : Nat) : FRef := ⟨rMOT_GIEN n, 10, 0⟩
/-- Register MOT_RINS. -/
def rMOT_RINS (n : Nat) : Nat := 0x730B + 0x10 * n
/-- MOT_RINS.INS. -/
def MOT_RINS_INS (n : Nat) : FRef := ⟨rMOT_RINS n, 17, 9⟩
/-- MOT_RINS.DBL. -/
def MOT_RINS_DBL (n : Nat) : FRef := ⟨rMOT_RINS n, 8, 0⟩
/-- Register MOT_PZPOS. -/
def rMOT_PZPOS (n : Nat) (j : Nat) : Nat := 0x7400 + 0x10 * n + 2 * j
/-- MOT_PZPOS.POS. -/
def MOT_PZPOS_POS (n : Nat) (j : Nat) : FRef := ⟨rMOT_PZPOS n j, 17, 0⟩
/-- Register MOT_PZLIM. -/
def rMOT_PZLIM (n : Nat) (j : Nat) : Nat := 0x7401 + 0x10 * n + 2 * j
/-- MOT_PZLIM.ZEN. -/
def MOT_PZLIM_ZEN (n : Nat) (j : Nat) : FRef := ⟨rMOT_PZLIM n j, 17, 17⟩
/-- MOT_PZLIM.IMAX. -/
def MOT_PZLIM_IMAX (n : Nat) (j : Nat) : FRef := ⟨rMOT_PZLIM n j, 16, 8⟩
/-- MOT_PZLIM.RMIN. -/
def MOT_PZLIM_RMIN (n : Nat) (j : Nat) : FRef := ⟨rMOT_PZLIM n j, 7, 0⟩
/-- Register VLV_FLAG. -/
def rVLV_FLAG : Nat := 0x8000
/-- VLV_FLAG.OVLP. -/
def VLV_FLAG_OVLP : FRef := ⟨rVLV_FLAG, 4, 4⟩
/-- VLV_FLAG.OVREF. -/
def VLV_FLAG_OVREF : FRef := ⟨rVLV_FLAG, 3, 3⟩
/-- VLV_FLAG.DUTY. -/
def VLV_FLAG_DUTY : FRef := ⟨rVLV_FLAG, 2, 2⟩
/-- VLV_FLAG.WRREF. -/
def VLV_FLAG_WRREF : FRef := ⟨rVLV_FLAG, 1, 1⟩
/-- VLV_FLAG.ENCREF. -/
def VLV_FLAG_ENCREF : FRef := ⟨rVLV_FLAG, 0, 0⟩
/-- Register VLV_GCTL. -/
def rVLV_GCTL : Nat := 0x8001
/-- VLV_GCTL.TUVR. -/
def VLV_GCTL_TUVR : FRef := ⟨rVLV_GCTL, 4, 2⟩
/-- VLV_GCTL.VUV. -/
def VLV_GCTL_VUV : FRef := ⟨rVLV_GCTL, 1, 0⟩
/-- Register VLV_BCFG. -/
def rVLV_BCFG (n : Nat) : Nat := 0x8100 + 0x10 * n
/-- VLV_BCFG.EN. -/
def VLV_BCFG_EN (n : Nat) : FRef := ⟨rVLV_BCFG n, 17, 17⟩
/-- VLV_BCFG.BLIM. -/
def VLV_BCFG_BLIM (n : Nat) : FRef := ⟨rVLV_BCFG n, 16, 11⟩
/-- VLV_BCFG.PKGAP. -/
def VLV_BCFG_PKGAP (n : Nat) : FRef := ⟨rVLV_BCFG n, 10, 3⟩
/-- Register VLV_BCFG2. -/
def rVLV_BCFG2 (n : Nat) : Nat := 0x8101 + 0x10 * n
/-- VLV_BCFG2.TVHOFF. -/
def VLV_BCFG2_TVHOFF (n : Nat) : FRef := ⟨rVLV_BCFG2 n, 17, 10⟩
/-- VLV_BCFG2.TDEF. -/
def VLV_BCFG2_TDEF (n : Nat) : FRef := ⟨rVLV_BCFG2 n, 9, 1⟩
/-- Register VLV_BSTAT. -/
def rVLV_BSTAT (n : Nat) : Nat := 0x8102 + 0x10 * n
/-- VLV_BSTAT.STATE. -/
def VLV_BSTAT_STATE (n : Nat) : FRef := ⟨rVLV_BSTAT n, 17, 15⟩
/-- VLV_BSTAT.LCAUSE. -/
def VLV_BSTAT_LCAUSE (n : Nat) : FRef := ⟨rVLV_BSTAT n, 14, 13⟩
/-- VLV_BSTAT.UV. -/
def VLV_BSTAT_UV (n : Nat) : FRef := ⟨rVLV_BSTAT n, 12, 12⟩
/-- VLV_BSTAT.PKBUSY. -/
def VLV_BSTAT_PKBUSY (n : Nat) : FRef := ⟨rVLV_BSTAT n, 11, 11⟩
/-- VLV_BSTAT.PKVAL. -/
def VLV_BSTAT_PKVAL (n : Nat) : FRef := ⟨rVLV_BSTAT n, 10, 9⟩
/-- VLV_BSTAT.WAITN. -/
def VLV_BSTAT_WAITN (n : Nat) : FRef := ⟨rVLV_BSTAT n, 8, 6⟩
/-- Register VLV_BIMEAS. -/
def rVLV_BIMEAS (n : Nat) : Nat := 0x8103 + 0x10 * n
/-- VLV_BIMEAS.I. -/
def VLV_BIMEAS_I (n : Nat) : FRef := ⟨rVLV_BIMEAS n, 17, 0⟩
/-- Register VLV_BEVT. -/
def rVLV_BEVT (n : Nat) : Nat := 0x8104 + 0x10 * n
/-- VLV_BEVT.EVT. -/
def VLV_BEVT_EVT (n : Nat) : FRef := ⟨rVLV_BEVT n, 7, 0⟩
/-- Register VLV_BIEN. -/
def rVLV_BIEN (n : Nat) : Nat := 0x8105 + 0x10 * n
/-- VLV_BIEN.IEN. -/
def VLV_BIEN_IEN (n : Nat) : FRef := ⟨rVLV_BIEN n, 7, 0⟩
/-- Register VLV_BVOLT. -/
def rVLV_BVOLT (n : Nat) : Nat := 0x8106 + 0x10 * n
/-- VLV_BVOLT.V. -/
def VLV_BVOLT_V (n : Nat) : FRef := ⟨rVLV_BVOLT n, 17, 0⟩
/-- Register VLV_BCNT. -/
def rVLV_BCNT (n : Nat) : Nat := 0x8107 + 0x10 * n
/-- VLV_BCNT.OVLPS. -/
def VLV_BCNT_OVLPS (n : Nat) : FRef := ⟨rVLV_BCNT n, 17, 9⟩
/-- VLV_BCNT.OVREFS. -/
def VLV_BCNT_OVREFS (n : Nat) : FRef := ⟨rVLV_BCNT n, 8, 0⟩
/-- Register VLV_VCFG. -/
def rVLV_VCFG (n : Nat) : Nat := 0x8200 + 0x10 * n
/-- VLV_VCFG.EN. -/
def VLV_VCFG_EN (n : Nat) : FRef := ⟨rVLV_VCFG n, 17, 17⟩
/-- VLV_VCFG.MODE. -/
def VLV_VCFG_MODE (n : Nat) : FRef := ⟨rVLV_VCFG n, 16, 16⟩
/-- VLV_VCFG.QUENCH. -/
def VLV_VCFG_QUENCH (n : Nat) : FRef := ⟨rVLV_VCFG n, 15, 15⟩
/-- VLV_VCFG.DSHAPE. -/
def VLV_VCFG_DSHAPE (n : Nat) : FRef := ⟨rVLV_VCFG n, 14, 14⟩
/-- VLV_VCFG.DAMP. -/
def VLV_VCFG_DAMP (n : Nat) : FRef := ⟨rVLV_VCFG n, 13, 9⟩
/-- VLV_VCFG.DFREQ. -/
def VLV_VCFG_DFREQ (n : Nat) : FRef := ⟨rVLV_VCFG n, 8, 0⟩
/-- Register VLV_VPK. -/
def rVLV_VPK (n : Nat) : Nat := 0x8201 + 0x10 * n
/-- VLV_VPK.IPK. -/
def VLV_VPK_IPK (n : Nat) : FRef := ⟨rVLV_VPK n, 17, 0⟩
/-- Register VLV_VTIM. -/
def rVLV_VTIM (n : Nat) : Nat := 0x8202 + 0x10 * n
/-- VLV_VTIM.PKH. -/
def VLV_VTIM_PKH (n : Nat) : FRef := ⟨rVLV_VTIM n, 17, 12⟩
/-- VLV_VTIM.TPKMIN. -/
def VLV_VTIM_TPKMIN (n : Nat) : FRef := ⟨rVLV_VTIM n, 11, 6⟩
/-- VLV_VTIM.TPKMAX. -/
def VLV_VTIM_TPKMAX (n : Nat) : FRef := ⟨rVLV_VTIM n, 5, 0⟩
/-- Register VLV_VDUTY. -/
def rVLV_VDUTY (n : Nat) : Nat := 0x8203 + 0x10 * n
/-- VLV_VDUTY.WIN. -/
def VLV_VDUTY_WIN (n : Nat) : FRef := ⟨rVLV_VDUTY n, 17, 12⟩
/-- VLV_VDUTY.MAXF. -/
def VLV_VDUTY_MAXF (n : Nat) : FRef := ⟨rVLV_VDUTY n, 11, 5⟩
/-- Register VLV_VSTAT. -/
def rVLV_VSTAT (n : Nat) : Nat := 0x8204 + 0x10 * n
/-- VLV_VSTAT.STATE. -/
def VLV_VSTAT_STATE (n : Nat) : FRef := ⟨rVLV_VSTAT n, 17, 14⟩
/-- VLV_VSTAT.LCAUSE. -/
def VLV_VSTAT_LCAUSE (n : Nat) : FRef := ⟨rVLV_VSTAT n, 13, 12⟩
/-- VLV_VSTAT.PREMAG. -/
def VLV_VSTAT_PREMAG (n : Nat) : FRef := ⟨rVLV_VSTAT n, 11, 11⟩
/-- VLV_VSTAT.IVAL. -/
def VLV_VSTAT_IVAL (n : Nat) : FRef := ⟨rVLV_VSTAT n, 10, 10⟩
/-- VLV_VSTAT.DIAG. -/
def VLV_VSTAT_DIAG (n : Nat) : FRef := ⟨rVLV_VSTAT n, 9, 8⟩
/-- VLV_VSTAT.DFULL. -/
def VLV_VSTAT_DFULL (n : Nat) : FRef := ⟨rVLV_VSTAT n, 7, 7⟩
/-- Register VLV_VIMEAS. -/
def rVLV_VIMEAS (n : Nat) : Nat := 0x8205 + 0x10 * n
/-- VLV_VIMEAS.I. -/
def VLV_VIMEAS_I (n : Nat) : FRef := ⟨rVLV_VIMEAS n, 17, 0⟩
/-- Register VLV_VTPK. -/
def rVLV_VTPK (n : Nat) : Nat := 0x8206 + 0x10 * n
/-- VLV_VTPK.TPK. -/
def VLV_VTPK_TPK (n : Nat) : FRef := ⟨rVLV_VTPK n, 17, 0⟩
/-- Register VLV_VDACC. -/
def rVLV_VDACC (n : Nat) : Nat := 0x8207 + 0x10 * n
/-- VLV_VDACC.FRAC. -/
def VLV_VDACC_FRAC (n : Nat) : FRef := ⟨rVLV_VDACC n, 11, 0⟩
/-- Register VLV_VEVT. -/
def rVLV_VEVT (n : Nat) : Nat := 0x8208 + 0x10 * n
/-- VLV_VEVT.EVT. -/
def VLV_VEVT_EVT (n : Nat) : FRef := ⟨rVLV_VEVT n, 9, 0⟩
/-- Register VLV_VIEN. -/
def rVLV_VIEN (n : Nat) : Nat := 0x8209 + 0x10 * n
/-- VLV_VIEN.IEN. -/
def VLV_VIEN_IEN (n : Nat) : FRef := ⟨rVLV_VIEN n, 9, 0⟩
/-- Register LUX_FLAG. -/
def rLUX_FLAG : Nat := 0x9000
/-- LUX_FLAG.DERATE. -/
def LUX_FLAG_DERATE : FRef := ⟨rLUX_FLAG, 4, 4⟩
/-- LUX_FLAG.SLOST. -/
def LUX_FLAG_SLOST : FRef := ⟨rLUX_FLAG, 3, 3⟩
/-- LUX_FLAG.PXERR. -/
def LUX_FLAG_PXERR : FRef := ⟨rLUX_FLAG, 2, 2⟩
/-- LUX_FLAG.WRREF. -/
def LUX_FLAG_WRREF : FRef := ⟨rLUX_FLAG, 1, 1⟩
/-- LUX_FLAG.ENCREF. -/
def LUX_FLAG_ENCREF : FRef := ⟨rLUX_FLAG, 0, 0⟩
/-- Register LUX_GCTL. -/
def rLUX_GCTL : Nat := 0x9001
/-- LUX_GCTL.LOCK. -/
def LUX_GCTL_LOCK : FRef := ⟨rLUX_GCTL, 17, 17⟩
/-- Register LUX_LCFG. -/
def rLUX_LCFG (n : Nat) : Nat := 0x9100 + 0x10 * n
/-- LUX_LCFG.EN. -/
def LUX_LCFG_EN (n : Nat) : FRef := ⟨rLUX_LCFG n, 17, 17⟩
/-- LUX_LCFG.ISET. -/
def LUX_LCFG_ISET (n : Nat) : FRef := ⟨rLUX_LCFG n, 16, 7⟩
/-- LUX_LCFG.OLEN. -/
def LUX_LCFG_OLEN (n : Nat) : FRef := ⟨rLUX_LCFG n, 6, 6⟩
/-- LUX_LCFG.STBEN. -/
def LUX_LCFG_STBEN (n : Nat) : FRef := ⟨rLUX_LCFG n, 5, 5⟩
/-- Register LUX_LDER. -/
def rLUX_LDER (n : Nat) : Nat := 0x9101 + 0x10 * n
/-- LUX_LDER.KNEE. -/
def LUX_LDER_KNEE (n : Nat) : FRef := ⟨rLUX_LDER n, 17, 12⟩
/-- LUX_LDER.SLOPE. -/
def LUX_LDER_SLOPE (n : Nat) : FRef := ⟨rLUX_LDER n, 11, 8⟩
/-- Register LUX_LBRT. -/
def rLUX_LBRT (n : Nat) : Nat := 0x9102 + 0x10 * n
/-- LUX_LBRT.BRT. -/
def LUX_LBRT_BRT (n : Nat) : FRef := ⟨rLUX_LBRT n, 12, 0⟩
/-- Register LUX_LSTAT. -/
def rLUX_LSTAT (n : Nat) : Nat := 0x9103 + 0x10 * n
/-- LUX_LSTAT.STATE. -/
def LUX_LSTAT_STATE (n : Nat) : FRef := ⟨rLUX_LSTAT n, 17, 15⟩
/-- LUX_LSTAT.LCAUSE. -/
def LUX_LSTAT_LCAUSE (n : Nat) : FRef := ⟨rLUX_LSTAT n, 14, 13⟩
/-- LUX_LSTAT.OL. -/
def LUX_LSTAT_OL (n : Nat) : FRef := ⟨rLUX_LSTAT n, 12, 11⟩
/-- LUX_LSTAT.DER. -/
def LUX_LSTAT_DER (n : Nat) : FRef := ⟨rLUX_LSTAT n, 10, 10⟩
/-- LUX_LSTAT.LOOP. -/
def LUX_LSTAT_LOOP (n : Nat) : FRef := ⟨rLUX_LSTAT n, 9, 9⟩
/-- LUX_LSTAT.IVAL. -/
def LUX_LSTAT_IVAL (n : Nat) : FRef := ⟨rLUX_LSTAT n, 8, 8⟩
/-- LUX_LSTAT.FACT. -/
def LUX_LSTAT_FACT (n : Nat) : FRef := ⟨rLUX_LSTAT n, 7, 0⟩
/-- Register LUX_LIMEAS. -/
def rLUX_LIMEAS (n : Nat) : Nat := 0x9104 + 0x10 * n
/-- LUX_LIMEAS.I. -/
def LUX_LIMEAS_I (n : Nat) : FRef := ⟨rLUX_LIMEAS n, 17, 0⟩
/-- Register LUX_LVSNK. -/
def rLUX_LVSNK (n : Nat) : Nat := 0x9105 + 0x10 * n
/-- LUX_LVSNK.V. -/
def LUX_LVSNK_V (n : Nat) : FRef := ⟨rLUX_LVSNK n, 17, 0⟩
/-- Register LUX_LEVT. -/
def rLUX_LEVT (n : Nat) : Nat := 0x9106 + 0x10 * n
/-- LUX_LEVT.EVT. -/
def LUX_LEVT_EVT (n : Nat) : FRef := ⟨rLUX_LEVT n, 5, 0⟩
/-- Register LUX_LIEN. -/
def rLUX_LIEN (n : Nat) : Nat := 0x9107 + 0x10 * n
/-- LUX_LIEN.IEN. -/
def LUX_LIEN_IEN (n : Nat) : FRef := ⟨rLUX_LIEN n, 5, 0⟩
/-- Register LUX_CTT0. -/
def rLUX_CTT0 (n : Nat) : Nat := 0x9300 + 0x10 * n
/-- LUX_CTT0.T. -/
def LUX_CTT0_T (n : Nat) : FRef := ⟨rLUX_CTT0 n, 15, 0⟩
/-- Register LUX_CTT1. -/
def rLUX_CTT1 (n : Nat) : Nat := 0x9301 + 0x10 * n
/-- LUX_CTT1.T. -/
def LUX_CTT1_T (n : Nat) : FRef := ⟨rLUX_CTT1 n, 15, 0⟩
/-- Register LUX_CTT2. -/
def rLUX_CTT2 (n : Nat) : Nat := 0x9302 + 0x10 * n
/-- LUX_CTT2.T. -/
def LUX_CTT2_T (n : Nat) : FRef := ⟨rLUX_CTT2 n, 15, 0⟩
/-- Register LUX_CTD0. -/
def rLUX_CTD0 (n : Nat) : Nat := 0x9303 + 0x10 * n
/-- LUX_CTD0.D. -/
def LUX_CTD0_D (n : Nat) : FRef := ⟨rLUX_CTD0 n, 17, 0⟩
/-- Register LUX_CTD1. -/
def rLUX_CTD1 (n : Nat) : Nat := 0x9304 + 0x10 * n
/-- LUX_CTD1.D. -/
def LUX_CTD1_D (n : Nat) : FRef := ⟨rLUX_CTD1 n, 17, 0⟩
/-- Register LUX_CTD2. -/
def rLUX_CTD2 (n : Nat) : Nat := 0x9305 + 0x10 * n
/-- LUX_CTD2.D. -/
def LUX_CTD2_D (n : Nat) : FRef := ⟨rLUX_CTD2 n, 17, 0⟩
/-- Register LUX_CCFG. -/
def rLUX_CCFG (n : Nat) : Nat := 0x9500 + 0x10 * n
/-- LUX_CCFG.EN. -/
def LUX_CCFG_EN (n : Nat) : FRef := ⟨rLUX_CCFG n, 17, 17⟩
/-- LUX_CCFG.SR. -/
def LUX_CCFG_SR (n : Nat) : FRef := ⟨rLUX_CCFG n, 16, 12⟩
/-- LUX_CCFG.SG. -/
def LUX_CCFG_SG (n : Nat) : FRef := ⟨rLUX_CCFG n, 11, 7⟩
/-- LUX_CCFG.SB. -/
def LUX_CCFG_SB (n : Nat) : FRef := ⟨rLUX_CCFG n, 6, 2⟩
/-- Register LUX_CSNS. -/
def rLUX_CSNS (n : Nat) : Nat := 0x9501 + 0x10 * n
/-- LUX_CSNS.ADDR. -/
def LUX_CSNS_ADDR (n : Nat) : FRef := ⟨rLUX_CSNS n, 17, 11⟩
/-- LUX_CSNS.PTR. -/
def LUX_CSNS_PTR (n : Nat) : FRef := ⟨rLUX_CSNS n, 10, 3⟩
/-- LUX_CSNS.BO. -/
def LUX_CSNS_BO (n : Nat) : FRef := ⟨rLUX_CSNS n, 2, 2⟩
/-- Register LUX_CTIM. -/
def rLUX_CTIM (n : Nat) : Nat := 0x9502 + 0x10 * n
/-- LUX_CTIM.PER. -/
def LUX_CTIM_PER (n : Nat) : FRef := ⟨rLUX_CTIM n, 17, 12⟩
/-- LUX_CTIM.TOL. -/
def LUX_CTIM_TOL (n : Nat) : FRef := ⟨rLUX_CTIM n, 11, 4⟩
/-- Register LUX_CSTAT. -/
def rLUX_CSTAT (n : Nat) : Nat := 0x9503 + 0x10 * n
/-- LUX_CSTAT.STATE. -/
def LUX_CSTAT_STATE (n : Nat) : FRef := ⟨rLUX_CSTAT n, 17, 16⟩
/-- LUX_CSTAT.SETL. -/
def LUX_CSTAT_SETL (n : Nat) : FRef := ⟨rLUX_CSTAT n, 15, 15⟩
/-- LUX_CSTAT.FRZ. -/
def LUX_CSTAT_FRZ (n : Nat) : FRef := ⟨rLUX_CSTAT n, 14, 14⟩
/-- LUX_CSTAT.PROVP. -/
def LUX_CSTAT_PROVP (n : Nat) : FRef := ⟨rLUX_CSTAT n, 13, 13⟩
/-- LUX_CSTAT.ENT. -/
def LUX_CSTAT_ENT (n : Nat) : FRef := ⟨rLUX_CSTAT n, 12, 8⟩
/-- LUX_CSTAT.FAILS. -/
def LUX_CSTAT_FAILS (n : Nat) : FRef := ⟨rLUX_CSTAT n, 7, 0⟩
/-- Register LUX_CS0. -/
def rLUX_CS0 (n : Nat) : Nat := 0x9504 + 0x10 * n
/-- LUX_CS0.S. -/
def LUX_CS0_S (n : Nat) : FRef := ⟨rLUX_CS0 n, 15, 0⟩
/-- Register LUX_CS1. -/
def rLUX_CS1 (n : Nat) : Nat := 0x9505 + 0x10 * n
/-- LUX_CS1.S. -/
def LUX_CS1_S (n : Nat) : FRef := ⟨rLUX_CS1 n, 15, 0⟩
/-- Register LUX_CS2. -/
def rLUX_CS2 (n : Nat) : Nat := 0x9506 + 0x10 * n
/-- LUX_CS2.S. -/
def LUX_CS2_S (n : Nat) : FRef := ⟨rLUX_CS2 n, 15, 0⟩
/-- Register LUX_CEVT. -/
def rLUX_CEVT (n : Nat) : Nat := 0x9507 + 0x10 * n
/-- LUX_CEVT.EVT. -/
def LUX_CEVT_EVT (n : Nat) : FRef := ⟨rLUX_CEVT n, 3, 0⟩
/-- Register LUX_CIEN. -/
def rLUX_CIEN (n : Nat) : Nat := 0x9508 + 0x10 * n
/-- LUX_CIEN.IEN. -/
def LUX_CIEN_IEN (n : Nat) : FRef := ⟨rLUX_CIEN n, 3, 0⟩
/-- Register LUX_CM. -/
def rLUX_CM (n : Nat) (j : Nat) : Nat := 0x9600 + 0x10 * n + j
/-- LUX_CM.M. -/
def LUX_CM_M (n : Nat) (j : Nat) : FRef := ⟨rLUX_CM n j, 17, 0⟩
/-- Register LUX_PCFG. -/
def rLUX_PCFG (n : Nat) : Nat := 0x9700 + 0x10 * n
/-- LUX_PCFG.EN. -/
def LUX_PCFG_EN (n : Nat) : FRef := ⟨rLUX_PCFG n, 17, 17⟩
/-- LUX_PCFG.NCFG. -/
def LUX_PCFG_NCFG (n : Nat) : FRef := ⟨rLUX_PCFG n, 16, 9⟩
/-- LUX_PCFG.SCAN. -/
def LUX_PCFG_SCAN (n : Nat) : FRef := ⟨rLUX_PCFG n, 8, 1⟩
/-- Register LUX_PSTAT. -/
def rLUX_PSTAT (n : Nat) : Nat := 0x9701 + 0x10 * n
/-- LUX_PSTAT.STATE. -/
def LUX_PSTAT_STATE (n : Nat) : FRef := ⟨rLUX_PSTAT n, 17, 16⟩
/-- LUX_PSTAT.N. -/
def LUX_PSTAT_N (n : Nat) : FRef := ⟨rLUX_PSTAT n, 15, 8⟩
/-- LUX_PSTAT.BRK. -/
def LUX_PSTAT_BRK (n : Nat) : FRef := ⟨rLUX_PSTAT n, 7, 0⟩
/-- Register LUX_PERR. -/
def rLUX_PERR (n : Nat) : Nat := 0x9702 + 0x10 * n
/-- LUX_PERR.CRC. -/
def LUX_PERR_CRC (n : Nat) : FRef := ⟨rLUX_PERR n, 17, 9⟩
/-- LUX_PERR.TMO. -/
def LUX_PERR_TMO (n : Nat) : FRef := ⟨rLUX_PERR n, 8, 0⟩
/-- Register LUX_PEVT. -/
def rLUX_PEVT (n : Nat) : Nat := 0x9703 + 0x10 * n
/-- LUX_PEVT.EVT. -/
def LUX_PEVT_EVT (n : Nat) : FRef := ⟨rLUX_PEVT n, 4, 0⟩
/-- Register LUX_PIEN. -/
def rLUX_PIEN (n : Nat) : Nat := 0x9704 + 0x10 * n
/-- LUX_PIEN.IEN. -/
def LUX_PIEN_IEN (n : Nat) : FRef := ⟨rLUX_PIEN n, 4, 0⟩
/-- Register LUX_PFLT. -/
def rLUX_PFLT (n : Nat) (j : Nat) : Nat := 0x9708 + 0x10 * n + j
/-- LUX_PFLT.FLT. -/
def LUX_PFLT_FLT (n : Nat) (j : Nat) : FRef := ⟨rLUX_PFLT n j, 15, 0⟩
/-- Register INP_FLAG. -/
def rINP_FLAG : Nat := 0xA000
/-- INP_FLAG.LHENG. -/
def INP_FLAG_LHENG : FRef := ⟨rINP_FLAG, 7, 7⟩
/-- INP_FLAG.SSF. -/
def INP_FLAG_SSF : FRef := ⟨rINP_FLAG, 6, 6⟩
/-- INP_FLAG.SNERR. -/
def INP_FLAG_SNERR : FRef := ⟨rINP_FLAG, 5, 5⟩
/-- INP_FLAG.PSERR. -/
def INP_FLAG_PSERR : FRef := ⟨rINP_FLAG, 4, 4⟩
/-- INP_FLAG.I2CERR. -/
def INP_FLAG_I2CERR : FRef := ⟨rINP_FLAG, 3, 3⟩
/-- INP_FLAG.OVR. -/
def INP_FLAG_OVR : FRef := ⟨rINP_FLAG, 2, 2⟩
/-- INP_FLAG.WRREF. -/
def INP_FLAG_WRREF : FRef := ⟨rINP_FLAG, 1, 1⟩
/-- INP_FLAG.ENCREF. -/
def INP_FLAG_ENCREF : FRef := ⟨rINP_FLAG, 0, 0⟩
/-- Register INP_GCTL. -/
def rINP_GCTL : Nat := 0xA001
/-- INP_GCTL.PRUN. -/
def INP_GCTL_PRUN : FRef := ⟨rINP_GCTL, 17, 16⟩
/-- INP_GCTL.PREST. -/
def INP_GCTL_PREST : FRef := ⟨rINP_GCTL, 15, 14⟩
/-- INP_GCTL.ASCAN. -/
def INP_GCTL_ASCAN : FRef := ⟨rINP_GCTL, 13, 6⟩
/-- Register INP_GLOCK. -/
def rINP_GLOCK : Nat := 0xA002
/-- INP_GLOCK.LOCK. -/
def INP_GLOCK_LOCK : FRef := ⟨rINP_GLOCK, 17, 17⟩
/-- INP_GLOCK.LOADED. -/
def INP_GLOCK_LOADED : FRef := ⟨rINP_GLOCK, 16, 16⟩
/-- Register INP_LHCTL. -/
def rINP_LHCTL : Nat := 0xA003
/-- INP_LHCTL.CEN. -/
def INP_LHCTL_CEN : FRef := ⟨rINP_LHCTL, 17, 17⟩
/-- INP_LHCTL.TEN. -/
def INP_LHCTL_TEN : FRef := ⟨rINP_LHCTL, 16, 16⟩
/-- INP_LHCTL.TSIG. -/
def INP_LHCTL_TSIG : FRef := ⟨rINP_LHCTL, 15, 8⟩
/-- INP_LHCTL.CORET. -/
def INP_LHCTL_CORET : FRef := ⟨rINP_LHCTL, 7, 0⟩
/-- Register INP_SWSTAT. -/
def rINP_SWSTAT (n : Nat) : Nat := 0xA004 + n
/-- INP_SWSTAT.STATE. -/
def INP_SWSTAT_STATE (n : Nat) : FRef := ⟨rINP_SWSTAT n, 15, 0⟩
/-- Register INP_SWEVT. -/
def rINP_SWEVT (n : Nat) : Nat := 0xA008 + n
/-- INP_SWEVT.EVT. -/
def INP_SWEVT_EVT (n : Nat) : FRef := ⟨rINP_SWEVT n, 15, 0⟩
/-- Register INP_LHCMD. -/
def rINP_LHCMD : Nat := 0xA00C
/-- INP_LHCMD.FORCE. -/
def INP_LHCMD_FORCE : FRef := ⟨rINP_LHCMD, 1, 1⟩
/-- INP_LHCMD.REL. -/
def INP_LHCMD_REL : FRef := ⟨rINP_LHCMD, 0, 0⟩
/-- Register INP_LHSTAT. -/
def rINP_LHSTAT : Nat := 0xA00D
/-- INP_LHSTAT.ENG. -/
def INP_LHSTAT_ENG : FRef := ⟨rINP_LHSTAT, 17, 17⟩
/-- INP_LHSTAT.CAUSE. -/
def INP_LHSTAT_CAUSE : FRef := ⟨rINP_LHSTAT, 16, 13⟩
/-- Register INP_FOUT. -/
def rINP_FOUT (n : Nat) : Nat := 0xA014 + n
/-- INP_FOUT.OUT. -/
def INP_FOUT_OUT (n : Nat) : FRef := ⟨rINP_FOUT n, 15, 0⟩
/-- Register INP_SS. -/
def rINP_SS (n : Nat) : Nat := 0xA018 + n
/-- INP_SS.EN. -/
def INP_SS_EN (n : Nat) : FRef := ⟨rINP_SS n, 17, 17⟩
/-- INP_SS.REST. -/
def INP_SS_REST (n : Nat) : FRef := ⟨rINP_SS n, 16, 16⟩
/-- INP_SS.STATE. -/
def INP_SS_STATE (n : Nat) : FRef := ⟨rINP_SS n, 15, 14⟩
/-- INP_SS.I. -/
def INP_SS_I (n : Nat) : FRef := ⟨rINP_SS n, 13, 0⟩
/-- Register INP_I2C. -/
def rINP_I2C : Nat := 0xA01C
/-- INP_I2C.BUSY. -/
def INP_I2C_BUSY : FRef := ⟨rINP_I2C, 17, 17⟩
/-- INP_I2C.NACK. -/
def INP_I2C_NACK : FRef := ⟨rINP_I2C, 16, 9⟩
/-- INP_I2C.TMO. -/
def INP_I2C_TMO : FRef := ⟨rINP_I2C, 8, 0⟩
/-- Register INP_ADCST. -/
def rINP_ADCST : Nat := 0xA020
/-- INP_ADCST.FAIL. -/
def INP_ADCST_FAIL : FRef := ⟨rINP_ADCST, 9, 0⟩
/-- Register INP_ANEVT. -/
def rINP_ANEVT (n : Nat) : Nat := 0xA024 + n
/-- INP_ANEVT.EVT. -/
def INP_ANEVT_EVT (n : Nat) : FRef := ⟨rINP_ANEVT n, 15, 0⟩
/-- Register INP_BRG. -/
def rINP_BRG (n : Nat) : Nat := 0xA030 + n
/-- INP_BRG.DEST. -/
def INP_BRG_DEST (n : Nat) : FRef := ⟨rINP_BRG n, 17, 16⟩
/-- INP_BRG.RING. -/
def INP_BRG_RING (n : Nat) : FRef := ⟨rINP_BRG n, 15, 13⟩
/-- INP_BRG.STRM. -/
def INP_BRG_STRM (n : Nat) : FRef := ⟨rINP_BRG n, 12, 10⟩
/-- Register INP_DROP. -/
def rINP_DROP (n : Nat) : Nat := 0xA060 + n
/-- INP_DROP.DROP. -/
def INP_DROP_DROP (n : Nat) : FRef := ⟨rINP_DROP n, 17, 0⟩
/-- Register INP_SWCFG. -/
def rINP_SWCFG (n : Nat) : Nat := 0xA100 + 0x10 * n
/-- INP_SWCFG.MODE. -/
def INP_SWCFG_MODE (n : Nat) : FRef := ⟨rINP_SWCFG n, 17, 16⟩
/-- INP_SWCFG.WET. -/
def INP_SWCFG_WET (n : Nat) : FRef := ⟨rINP_SWCFG n, 15, 14⟩
/-- INP_SWCFG.DIR. -/
def INP_SWCFG_DIR (n : Nat) : FRef := ⟨rINP_SWCFG n, 13, 13⟩
/-- INP_SWCFG.THR. -/
def INP_SWCFG_THR (n : Nat) : FRef := ⟨rINP_SWCFG n, 12, 11⟩
/-- INP_SWCFG.DEB. -/
def INP_SWCFG_DEB (n : Nat) : FRef := ⟨rINP_SWCFG n, 10, 7⟩
/-- INP_SWCFG.WK. -/
def INP_SWCFG_WK (n : Nat) : FRef := ⟨rINP_SWCFG n, 6, 5⟩
/-- INP_SWCFG.IE. -/
def INP_SWCFG_IE (n : Nat) : FRef := ⟨rINP_SWCFG n, 4, 4⟩
/-- Register INP_SWCFG2. -/
def rINP_SWCFG2 (n : Nat) : Nat := 0xA101 + 0x10 * n
/-- INP_SWCFG2.STFLT. -/
def INP_SWCFG2_STFLT (n : Nat) : FRef := ⟨rINP_SWCFG2 n, 17, 10⟩
/-- INP_SWCFG2.RMODE. -/
def INP_SWCFG2_RMODE (n : Nat) : FRef := ⟨rINP_SWCFG2 n, 9, 8⟩
/-- Register INP_SWRAW. -/
def rINP_SWRAW (n : Nat) : Nat := 0xA102 + 0x10 * n
/-- INP_SWRAW.RAW. -/
def INP_SWRAW_RAW (n : Nat) : FRef := ⟨rINP_SWRAW n, 17, 17⟩
/-- Register INP_ANCFG. -/
def rINP_ANCFG (n : Nat) : Nat := 0xA400 + 0x10 * n
/-- INP_ANCFG.EN. -/
def INP_ANCFG_EN (n : Nat) : FRef := ⟨rINP_ANCFG n, 17, 17⟩
/-- INP_ANCFG.RNG. -/
def INP_ANCFG_RNG (n : Nat) : FRef := ⟨rINP_ANCFG n, 16, 16⟩
/-- INP_ANCFG.RATIO. -/
def INP_ANCFG_RATIO (n : Nat) : FRef := ⟨rINP_ANCFG n, 15, 14⟩
/-- INP_ANCFG.REST. -/
def INP_ANCFG_REST (n : Nat) : FRef := ⟨rINP_ANCFG n, 13, 13⟩
/-- INP_ANCFG.WK. -/
def INP_ANCFG_WK (n : Nat) : FRef := ⟨rINP_ANCFG n, 12, 12⟩
/-- INP_ANCFG.IE. -/
def INP_ANCFG_IE (n : Nat) : FRef := ⟨rINP_ANCFG n, 11, 11⟩
/-- Register INP_ANLO. -/
def rINP_ANLO (n : Nat) : Nat := 0xA401 + 0x10 * n
/-- INP_ANLO.LO. -/
def INP_ANLO_LO (n : Nat) : FRef := ⟨rINP_ANLO n, 17, 0⟩
/-- Register INP_ANHI. -/
def rINP_ANHI (n : Nat) : Nat := 0xA402 + 0x10 * n
/-- INP_ANHI.HI. -/
def INP_ANHI_HI (n : Nat) : FRef := ⟨rINP_ANHI n, 17, 0⟩
/-- Register INP_ANR. -/
def rINP_ANR (n : Nat) : Nat := 0xA403 + 0x10 * n
/-- INP_ANR.R. -/
def INP_ANR_R (n : Nat) : FRef := ⟨rINP_ANR n, 17, 0⟩
/-- Register INP_ANST. -/
def rINP_ANST (n : Nat) : Nat := 0xA404 + 0x10 * n
/-- INP_ANST.WIN. -/
def INP_ANST_WIN (n : Nat) : FRef := ⟨rINP_ANST n, 17, 16⟩
/-- INP_ANST.VALID. -/
def INP_ANST_VALID (n : Nat) : FRef := ⟨rINP_ANST n, 15, 15⟩
/-- Register INP_SNCFG. -/
def rINP_SNCFG (n : Nat) : Nat := 0xA600 + 0x10 * n
/-- INP_SNCFG.EN. -/
def INP_SNCFG_EN (n : Nat) : FRef := ⟨rINP_SNCFG n, 17, 17⟩
/-- INP_SNCFG.TICK. -/
def INP_SNCFG_TICK (n : Nat) : FRef := ⟨rINP_SNCFG n, 16, 9⟩
/-- INP_SNCFG.NIB. -/
def INP_SNCFG_NIB (n : Nat) : FRef := ⟨rINP_SNCFG n, 8, 6⟩
/-- INP_SNCFG.CRCM. -/
def INP_SNCFG_CRCM (n : Nat) : FRef := ⟨rINP_SNCFG n, 5, 5⟩
/-- INP_SNCFG.PAUSE. -/
def INP_SNCFG_PAUSE (n : Nat) : FRef := ⟨rINP_SNCFG n, 4, 4⟩
/-- INP_SNCFG.SCP. -/
def INP_SNCFG_SCP (n : Nat) : FRef := ⟨rINP_SNCFG n, 3, 3⟩
/-- INP_SNCFG.SLOW. -/
def INP_SNCFG_SLOW (n : Nat) : FRef := ⟨rINP_SNCFG n, 2, 1⟩
/-- INP_SNCFG.IE. -/
def INP_SNCFG_IE (n : Nat) : FRef := ⟨rINP_SNCFG n, 0, 0⟩
/-- Register INP_SNTO. -/
def rINP_SNTO (n : Nat) : Nat := 0xA601 + 0x10 * n
/-- INP_SNTO.TOUT. -/
def INP_SNTO_TOUT (n : Nat) : FRef := ⟨rINP_SNTO n, 17, 10⟩
/-- Register INP_SNSTAT. -/
def rINP_SNSTAT (n : Nat) : Nat := 0xA602 + 0x10 * n
/-- INP_SNSTAT.VALID. -/
def INP_SNSTAT_VALID (n : Nat) : FRef := ⟨rINP_SNSTAT n, 17, 17⟩
/-- INP_SNSTAT.ERR. -/
def INP_SNSTAT_ERR (n : Nat) : FRef := ⟨rINP_SNSTAT n, 16, 13⟩
/-- Register INP_SNLASTH. -/
def rINP_SNLASTH (n : Nat) : Nat := 0xA603 + 0x10 * n
/-- INP_SNLASTH.DH. -/
def INP_SNLASTH_DH (n : Nat) : FRef := ⟨rINP_SNLASTH n, 5, 0⟩
/-- Register INP_SNLASTL. -/
def rINP_SNLASTL (n : Nat) : Nat := 0xA604 + 0x10 * n
/-- INP_SNLASTL.DL. -/
def INP_SNLASTL_DL (n : Nat) : FRef := ⟨rINP_SNLASTL n, 17, 0⟩
/-- Register INP_SNCNT. -/
def rINP_SNCNT (n : Nat) : Nat := 0xA605 + 0x10 * n
/-- INP_SNCNT.ERRS. -/
def INP_SNCNT_ERRS (n : Nat) : FRef := ⟨rINP_SNCNT n, 17, 9⟩
/-- Register INP_PSCFG. -/
def rINP_PSCFG (n : Nat) : Nat := 0xA680 + 0x10 * n
/-- INP_PSCFG.EN. -/
def INP_PSCFG_EN (n : Nat) : FRef := ⟨rINP_PSCFG n, 17, 17⟩
/-- INP_PSCFG.RATE. -/
def INP_PSCFG_RATE (n : Nat) : FRef := ⟨rINP_PSCFG n, 16, 16⟩
/-- INP_PSCFG.MODE. -/
def INP_PSCFG_MODE (n : Nat) : FRef := ⟨rINP_PSCFG n, 15, 14⟩
/-- INP_PSCFG.SLOTS. -/
def INP_PSCFG_SLOTS (n : Nat) : FRef := ⟨rINP_PSCFG n, 13, 12⟩
/-- INP_PSCFG.DBITS. -/
def INP_PSCFG_DBITS (n : Nat) : FRef := ⟨rINP_PSCFG n, 11, 7⟩
/-- INP_PSCFG.CHK. -/
def INP_PSCFG_CHK (n : Nat) : FRef := ⟨rINP_PSCFG n, 6, 6⟩
/-- INP_PSCFG.SUPV. -/
def INP_PSCFG_SUPV (n : Nat) : FRef := ⟨rINP_PSCFG n, 5, 5⟩
/-- INP_PSCFG.ZSYNC. -/
def INP_PSCFG_ZSYNC (n : Nat) : FRef := ⟨rINP_PSCFG n, 4, 4⟩
/-- INP_PSCFG.IE. -/
def INP_PSCFG_IE (n : Nat) : FRef := ⟨rINP_PSCFG n, 3, 3⟩
/-- Register INP_PSSYNC. -/
def rINP_PSSYNC (n : Nat) : Nat := 0xA681 + 0x10 * n
/-- INP_PSSYNC.PER. -/
def INP_PSSYNC_PER (n : Nat) : FRef := ⟨rINP_PSSYNC n, 17, 6⟩
/-- Register INP_PSSLOT. -/
def rINP_PSSLOT (n : Nat) : Nat := 0xA682 + 0x10 * n
/-- INP_PSSLOT.SLOT0. -/
def INP_PSSLOT_SLOT0 (n : Nat) : FRef := ⟨rINP_PSSLOT n, 17, 9⟩
/-- INP_PSSLOT.SLEN. -/
def INP_PSSLOT_SLEN (n : Nat) : FRef := ⟨rINP_PSSLOT n, 8, 0⟩
/-- Register INP_PSSTAT. -/
def rINP_PSSTAT (n : Nat) : Nat := 0xA683 + 0x10 * n
/-- INP_PSSTAT.VALID. -/
def INP_PSSTAT_VALID (n : Nat) : FRef := ⟨rINP_PSSTAT n, 17, 17⟩
/-- INP_PSSTAT.ERR. -/
def INP_PSSTAT_ERR (n : Nat) : FRef := ⟨rINP_PSSTAT n, 16, 13⟩
/-- INP_PSSTAT.SUPOFF. -/
def INP_PSSTAT_SUPOFF (n : Nat) : FRef := ⟨rINP_PSSTAT n, 12, 12⟩
/-- Register INP_PSLASTH. -/
def rINP_PSLASTH (n : Nat) : Nat := 0xA684 + 0x10 * n
/-- INP_PSLASTH.DH. -/
def INP_PSLASTH_DH (n : Nat) : FRef := ⟨rINP_PSLASTH n, 9, 0⟩
/-- Register INP_PSLASTL. -/
def rINP_PSLASTL (n : Nat) : Nat := 0xA685 + 0x10 * n
/-- INP_PSLASTL.DL. -/
def INP_PSLASTL_DL (n : Nat) : FRef := ⟨rINP_PSLASTL n, 17, 0⟩
/-- Register INP_FCSEL. -/
def rINP_FCSEL (n : Nat) : Nat := 0xA800 + 0x10 * n
/-- INP_FCSEL.B. -/
def INP_FCSEL_B (n : Nat) : FRef := ⟨rINP_FCSEL n, 15, 8⟩
/-- INP_FCSEL.A. -/
def INP_FCSEL_A (n : Nat) : FRef := ⟨rINP_FCSEL n, 7, 0⟩
/-- Register INP_FCSEL2. -/
def rINP_FCSEL2 (n : Nat) : Nat := 0xA801 + 0x10 * n
/-- INP_FCSEL2.D. -/
def INP_FCSEL2_D (n : Nat) : FRef := ⟨rINP_FCSEL2 n, 15, 8⟩
/-- INP_FCSEL2.C. -/
def INP_FCSEL2_C (n : Nat) : FRef := ⟨rINP_FCSEL2 n, 7, 0⟩
/-- Register INP_FCLUT. -/
def rINP_FCLUT (n : Nat) : Nat := 0xA802 + 0x10 * n
/-- INP_FCLUT.LUT. -/
def INP_FCLUT_LUT (n : Nat) : FRef := ⟨rINP_FCLUT n, 15, 0⟩
/-- Register INP_FCMODE. -/
def rINP_FCMODE (n : Nat) : Nat := 0xA803 + 0x10 * n
/-- INP_FCMODE.INIT. -/
def INP_FCMODE_INIT (n : Nat) : FRef := ⟨rINP_FCMODE n, 2, 2⟩
/-- INP_FCMODE.MODE. -/
def INP_FCMODE_MODE (n : Nat) : FRef := ⟨rINP_FCMODE n, 1, 0⟩
/-- Register INP_FTCFG. -/
def rINP_FTCFG (n : Nat) : Nat := 0xAA00 + 0x10 * n
/-- INP_FTCFG.MODE. -/
def INP_FTCFG_MODE (n : Nat) : FRef := ⟨rINP_FTCFG n, 17, 16⟩
/-- INP_FTCFG.TRIG. -/
def INP_FTCFG_TRIG (n : Nat) : FRef := ⟨rINP_FTCFG n, 15, 8⟩
/-- Register INP_FTPER. -/
def rINP_FTPER (n : Nat) : Nat := 0xAA01 + 0x10 * n
/-- INP_FTPER.PER. -/
def INP_FTPER_PER (n : Nat) : FRef := ⟨rINP_FTPER n, 11, 0⟩
/-- Register INP_LHM. -/
def rINP_LHM (n : Nat) : Nat := 0xAB00 + n
/-- INP_LHM.MODE. -/
def INP_LHM_MODE (n : Nat) : FRef := ⟨rINP_LHM n, 17, 16⟩
/-- INP_LHM.DC. -/
def INP_LHM_DC (n : Nat) : FRef := ⟨rINP_LHM n, 15, 15⟩
/-- INP_LHM.DIR. -/
def INP_LHM_DIR (n : Nat) : FRef := ⟨rINP_LHM n, 14, 13⟩
/-- INP_LHM.CELL. -/
def INP_LHM_CELL (n : Nat) : FRef := ⟨rINP_LHM n, 12, 8⟩
/-- Register INP_LHD. -/
def rINP_LHD (n : Nat) : Nat := 0xAB80 + n
/-- INP_LHD.D. -/
def INP_LHD_D (n : Nat) : FRef := ⟨rINP_LHD n, 17, 0⟩
/-- Register NET_FLAG. -/
def rNET_FLAG : Nat := 0xB000
/-- NET_FLAG.DEAF. -/
def NET_FLAG_DEAF : FRef := ⟨rNET_FLAG, 5, 5⟩
/-- NET_FLAG.RXOVR. -/
def NET_FLAG_RXOVR : FRef := ⟨rNET_FLAG, 4, 4⟩
/-- NET_FLAG.STDROP. -/
def NET_FLAG_STDROP : FRef := ⟨rNET_FLAG, 3, 3⟩
/-- NET_FLAG.BOFF. -/
def NET_FLAG_BOFF : FRef := ⟨rNET_FLAG, 2, 2⟩
/-- NET_FLAG.WRREF. -/
def NET_FLAG_WRREF : FRef := ⟨rNET_FLAG, 1, 1⟩
/-- NET_FLAG.ENCREF. -/
def NET_FLAG_ENCREF : FRef := ⟨rNET_FLAG, 0, 0⟩
/-- Register NET_RQ. -/
def rNET_RQ (n : Nat) : Nat := 0xB020 + n
/-- NET_RQ.QUOTA. -/
def NET_RQ_QUOTA (n : Nat) : FRef := ⟨rNET_RQ n, 7, 0⟩
/-- Register NET_RDROP. -/
def rNET_RDROP (n : Nat) : Nat := 0xB028 + n
/-- NET_RDROP.DROP. -/
def NET_RDROP_DROP (n : Nat) : FRef := ⟨rNET_RDROP n, 17, 0⟩
/-- Register NET_CCFG. -/
def rNET_CCFG (n : Nat) : Nat := 0xB100 + 0x10 * n
/-- NET_CCFG.EN. -/
def NET_CCFG_EN (n : Nat) : FRef := ⟨rNET_CCFG n, 17, 17⟩
/-- NET_CCFG.PROTO. -/
def NET_CCFG_PROTO (n : Nat) : FRef := ⟨rNET_CCFG n, 16, 15⟩
/-- NET_CCFG.PEX. -/
def NET_CCFG_PEX (n : Nat) : FRef := ⟨rNET_CCFG n, 14, 14⟩
/-- NET_CCFG.ABOR. -/
def NET_CCFG_ABOR (n : Nat) : FRef := ⟨rNET_CCFG n, 13, 13⟩
/-- NET_CCFG.RTX. -/
def NET_CCFG_RTX (n : Nat) : FRef := ⟨rNET_CCFG n, 12, 9⟩
/-- Register NET_CNBT. -/
def rNET_CNBT (n : Nat) : Nat := 0xB101 + 0x10 * n
/-- NET_CNBT.BRP. -/
def NET_CNBT_BRP (n : Nat) : FRef := ⟨rNET_CNBT n, 17, 13⟩
/-- NET_CNBT.TSEG1. -/
def NET_CNBT_TSEG1 (n : Nat) : FRef := ⟨rNET_CNBT n, 12, 5⟩
/-- NET_CNBT.TSEG2. -/
def NET_CNBT_TSEG2 (n : Nat) : FRef := ⟨rNET_CNBT n, 4, 0⟩
/-- Register NET_CDBT. -/
def rNET_CDBT (n : Nat) : Nat := 0xB102 + 0x10 * n
/-- NET_CDBT.BRP. -/
def NET_CDBT_BRP (n : Nat) : FRef := ⟨rNET_CDBT n, 17, 13⟩
/-- NET_CDBT.TSEG1. -/
def NET_CDBT_TSEG1 (n : Nat) : FRef := ⟨rNET_CDBT n, 12, 5⟩
/-- NET_CDBT.TSEG2. -/
def NET_CDBT_TSEG2 (n : Nat) : FRef := ⟨rNET_CDBT n, 4, 0⟩
/-- Register NET_CXBT. -/
def rNET_CXBT (n : Nat) : Nat := 0xB103 + 0x10 * n
/-- NET_CXBT.BRP. -/
def NET_CXBT_BRP (n : Nat) : FRef := ⟨rNET_CXBT n, 17, 13⟩
/-- NET_CXBT.TSEG1. -/
def NET_CXBT_TSEG1 (n : Nat) : FRef := ⟨rNET_CXBT n, 12, 5⟩
/-- NET_CXBT.TSEG2. -/
def NET_CXBT_TSEG2 (n : Nat) : FRef := ⟨rNET_CXBT n, 4, 0⟩
/-- Register NET_CSJW. -/
def rNET_CSJW (n : Nat) : Nat := 0xB104 + 0x10 * n
/-- NET_CSJW.NSJW. -/
def NET_CSJW_NSJW (n : Nat) : FRef := ⟨rNET_CSJW n, 17, 12⟩
/-- NET_CSJW.DSJW. -/
def NET_CSJW_DSJW (n : Nat) : FRef := ⟨rNET_CSJW n, 11, 6⟩
/-- NET_CSJW.XSJW. -/
def NET_CSJW_XSJW (n : Nat) : FRef := ⟨rNET_CSJW n, 5, 0⟩
/-- Register NET_CTC. -/
def rNET_CTC (n : Nat) : Nat := 0xB105 + 0x10 * n
/-- NET_CTC.REQ. -/
def NET_CTC_REQ (n : Nat) : FRef := ⟨rNET_CTC n, 17, 16⟩
/-- NET_CTC.STATE. -/
def NET_CTC_STATE (n : Nat) : FRef := ⟨rNET_CTC n, 15, 14⟩
/-- NET_CTC.SIC. -/
def NET_CTC_SIC (n : Nat) : FRef := ⟨rNET_CTC n, 13, 12⟩
/-- NET_CTC.WKEN. -/
def NET_CTC_WKEN (n : Nat) : FRef := ⟨rNET_CTC n, 11, 11⟩
/-- NET_CTC.SWEN. -/
def NET_CTC_SWEN (n : Nat) : FRef := ⟨rNET_CTC n, 10, 10⟩
/-- NET_CTC.FENCED. -/
def NET_CTC_FENCED (n : Nat) : FRef := ⟨rNET_CTC n, 9, 9⟩
/-- NET_CTC.TXDTO. -/
def NET_CTC_TXDTO (n : Nat) : FRef := ⟨rNET_CTC n, 8, 8⟩
/-- NET_CTC.RECOV. -/
def NET_CTC_RECOV (n : Nat) : FRef := ⟨rNET_CTC n, 7, 7⟩
/-- Register NET_CSTAT. -/
def rNET_CSTAT (n : Nat) : Nat := 0xB106 + 0x10 * n
/-- NET_CSTAT.CSTATE. -/
def NET_CSTAT_CSTATE (n : Nat) : FRef := ⟨rNET_CSTAT n, 17, 16⟩
/-- NET_CSTAT.TEC. -/
def NET_CSTAT_TEC (n : Nat) : FRef := ⟨rNET_CSTAT n, 15, 8⟩
/-- NET_CSTAT.REC. -/
def NET_CSTAT_REC (n : Nat) : FRef := ⟨rNET_CSTAT n, 7, 0⟩
/-- Register NET_CERR. -/
def rNET_CERR (n : Nat) : Nat := 0xB107 + 0x10 * n
/-- NET_CERR.LEC. -/
def NET_CERR_LEC (n : Nat) : FRef := ⟨rNET_CERR n, 17, 15⟩
/-- NET_CERR.BOFFS. -/
def NET_CERR_BOFFS (n : Nat) : FRef := ⟨rNET_CERR n, 14, 6⟩
/-- Register NET_CEVT. -/
def rNET_CEVT (n : Nat) : Nat := 0xB108 + 0x10 * n
/-- NET_CEVT.EVT. -/
def NET_CEVT_EVT (n : Nat) : FRef := ⟨rNET_CEVT n, 9, 0⟩
/-- Register NET_CIEN. -/
def rNET_CIEN (n : Nat) : Nat := 0xB109 + 0x10 * n
/-- NET_CIEN.IEN. -/
def NET_CIEN_IEN (n : Nat) : FRef := ⟨rNET_CIEN n, 9, 0⟩
/-- Register NET_CTDC. -/
def rNET_CTDC (n : Nat) : Nat := 0xB10A + 0x10 * n
/-- NET_CTDC.TDCEN. -/
def NET_CTDC_TDCEN (n : Nat) : FRef := ⟨rNET_CTDC n, 17, 17⟩
/-- NET_CTDC.TDCV. -/
def NET_CTDC_TDCV (n : Nat) : FRef := ⟨rNET_CTDC n, 16, 8⟩
/-- NET_CTDC.TDCO. -/
def NET_CTDC_TDCO (n : Nat) : FRef := ⟨rNET_CTDC n, 7, 0⟩
/-- Register NET_CCNT. -/
def rNET_CCNT (n : Nat) : Nat := 0xB10B + 0x10 * n
/-- NET_CCNT.NOMATCH. -/
def NET_CCNT_NOMATCH (n : Nat) : FRef := ⟨rNET_CCNT n, 17, 9⟩
/-- NET_CCNT.XLDROP. -/
def NET_CCNT_XLDROP (n : Nat) : FRef := ⟨rNET_CCNT n, 8, 0⟩
/-- Register NET_SWIDH. -/
def rNET_SWIDH (n : Nat) : Nat := 0xB200 + 0x10 * n
/-- NET_SWIDH.IDH. -/
def NET_SWIDH_IDH (n : Nat) : FRef := ⟨rNET_SWIDH n, 12, 0⟩
/-- Register NET_SWIDL. -/
def rNET_SWIDL (n : Nat) : Nat := 0xB201 + 0x10 * n
/-- NET_SWIDL.IDL. -/
def NET_SWIDL_IDL (n : Nat) : FRef := ⟨rNET_SWIDL n, 15, 0⟩
/-- Register NET_SWMH. -/
def rNET_SWMH (n : Nat) : Nat := 0xB202 + 0x10 * n
/-- NET_SWMH.MH. -/
def NET_SWMH_MH (n : Nat) : FRef := ⟨rNET_SWMH n, 12, 0⟩
/-- Register NET_SWML. -/
def rNET_SWML (n : Nat) : Nat := 0xB203 + 0x10 * n
/-- NET_SWML.ML. -/
def NET_SWML_ML (n : Nat) : FRef := ⟨rNET_SWML n, 15, 0⟩
/-- Register NET_SWCFG. -/
def rNET_SWCFG (n : Nat) : Nat := 0xB204 + 0x10 * n
/-- NET_SWCFG.IDE. -/
def NET_SWCFG_IDE (n : Nat) : FRef := ⟨rNET_SWCFG n, 17, 17⟩
/-- NET_SWCFG.DLCEN. -/
def NET_SWCFG_DLCEN (n : Nat) : FRef := ⟨rNET_SWCFG n, 16, 16⟩
/-- NET_SWCFG.DLC. -/
def NET_SWCFG_DLC (n : Nat) : FRef := ⟨rNET_SWCFG n, 15, 12⟩
/-- NET_SWCFG.RATE. -/
def NET_SWCFG_RATE (n : Nat) : FRef := ⟨rNET_SWCFG n, 11, 10⟩
/-- Register NET_SWD0. -/
def rNET_SWD0 (n : Nat) : Nat := 0xB205 + 0x10 * n
/-- NET_SWD0.DM. -/
def NET_SWD0_DM (n : Nat) : FRef := ⟨rNET_SWD0 n, 15, 0⟩
/-- Register NET_SWD1. -/
def rNET_SWD1 (n : Nat) : Nat := 0xB206 + 0x10 * n
/-- NET_SWD1.DM. -/
def NET_SWD1_DM (n : Nat) : FRef := ⟨rNET_SWD1 n, 15, 0⟩
/-- Register NET_SWD2. -/
def rNET_SWD2 (n : Nat) : Nat := 0xB207 + 0x10 * n
/-- NET_SWD2.DM. -/
def NET_SWD2_DM (n : Nat) : FRef := ⟨rNET_SWD2 n, 15, 0⟩
/-- Register NET_SWD3. -/
def rNET_SWD3 (n : Nat) : Nat := 0xB208 + 0x10 * n
/-- NET_SWD3.DM. -/
def NET_SWD3_DM (n : Nat) : FRef := ⟨rNET_SWD3 n, 15, 0⟩
/-- Register NET_SWFEC. -/
def rNET_SWFEC (n : Nat) : Nat := 0xB209 + 0x10 * n
/-- NET_SWFEC.FEC. -/
def NET_SWFEC_FEC (n : Nat) : FRef := ⟨rNET_SWFEC n, 5, 0⟩
/-- Register NET_FCTL. -/
def rNET_FCTL (n : Nat) : Nat := 0xB400 + 0x10 * n
/-- NET_FCTL.EN. -/
def NET_FCTL_EN (n : Nat) : FRef := ⟨rNET_FCTL n, 17, 17⟩
/-- NET_FCTL.CH. -/
def NET_FCTL_CH (n : Nat) : FRef := ⟨rNET_FCTL n, 16, 13⟩
/-- NET_FCTL.DEST. -/
def NET_FCTL_DEST (n : Nat) : FRef := ⟨rNET_FCTL n, 12, 11⟩
/-- NET_FCTL.RING. -/
def NET_FCTL_RING (n : Nat) : FRef := ⟨rNET_FCTL n, 10, 8⟩
/-- NET_FCTL.STRM. -/
def NET_FCTL_STRM (n : Nat) : FRef := ⟨rNET_FCTL n, 7, 5⟩
/-- NET_FCTL.FMT. -/
def NET_FCTL_FMT (n : Nat) : FRef := ⟨rNET_FCTL n, 4, 3⟩
/-- NET_FCTL.IDE. -/
def NET_FCTL_IDE (n : Nat) : FRef := ⟨rNET_FCTL n, 2, 2⟩
/-- Register NET_FIDH. -/
def rNET_FIDH (n : Nat) : Nat := 0xB401 + 0x10 * n
/-- NET_FIDH.IDH. -/
def NET_FIDH_IDH (n : Nat) : FRef := ⟨rNET_FIDH n, 12, 0⟩
/-- Register NET_FIDL. -/
def rNET_FIDL (n : Nat) : Nat := 0xB402 + 0x10 * n
/-- NET_FIDL.IDL. -/
def NET_FIDL_IDL (n : Nat) : FRef := ⟨rNET_FIDL n, 15, 0⟩
/-- Register NET_FMH. -/
def rNET_FMH (n : Nat) : Nat := 0xB403 + 0x10 * n
/-- NET_FMH.MH. -/
def NET_FMH_MH (n : Nat) : FRef := ⟨rNET_FMH n, 12, 0⟩
/-- Register NET_FML. -/
def rNET_FML (n : Nat) : Nat := 0xB404 + 0x10 * n
/-- NET_FML.ML. -/
def NET_FML_ML (n : Nat) : FRef := ⟨rNET_FML n, 15, 0⟩
/-- Register NET_LCFG. -/
def rNET_LCFG (n : Nat) : Nat := 0xB800 + 0x10 * n
/-- NET_LCFG.EN. -/
def NET_LCFG_EN (n : Nat) : FRef := ⟨rNET_LCFG n, 17, 17⟩
/-- NET_LCFG.ROLE. -/
def NET_LCFG_ROLE (n : Nat) : FRef := ⟨rNET_LCFG n, 16, 16⟩
/-- NET_LCFG.BRK. -/
def NET_LCFG_BRK (n : Nat) : FRef := ⟨rNET_LCFG n, 15, 13⟩
/-- NET_LCFG.WKLEN. -/
def NET_LCFG_WKLEN (n : Nat) : FRef := ⟨rNET_LCFG n, 12, 10⟩
/-- NET_LCFG.WKEN. -/
def NET_LCFG_WKEN (n : Nat) : FRef := ⟨rNET_LCFG n, 9, 9⟩
/-- NET_LCFG.MTERM. -/
def NET_LCFG_MTERM (n : Nat) : FRef := ⟨rNET_LCFG n, 8, 8⟩
/-- NET_LCFG.REQ. -/
def NET_LCFG_REQ (n : Nat) : FRef := ⟨rNET_LCFG n, 7, 6⟩
/-- Register NET_LBR. -/
def rNET_LBR (n : Nat) : Nat := 0xB801 + 0x10 * n
/-- NET_LBR.BR. -/
def NET_LBR_BR (n : Nat) : FRef := ⟨rNET_LBR n, 17, 0⟩
/-- Register NET_LSTAT. -/
def rNET_LSTAT (n : Nat) : Nat := 0xB802 + 0x10 * n
/-- NET_LSTAT.STATE. -/
def NET_LSTAT_STATE (n : Nat) : FRef := ⟨rNET_LSTAT n, 17, 16⟩
/-- NET_LSTAT.LERR. -/
def NET_LSTAT_LERR (n : Nat) : FRef := ⟨rNET_LSTAT n, 15, 13⟩
/-- NET_LSTAT.FENCED. -/
def NET_LSTAT_FENCED (n : Nat) : FRef := ⟨rNET_LSTAT n, 12, 12⟩
/-- Register NET_LEVT. -/
def rNET_LEVT (n : Nat) : Nat := 0xB803 + 0x10 * n
/-- NET_LEVT.EVT. -/
def NET_LEVT_EVT (n : Nat) : FRef := ⟨rNET_LEVT n, 5, 0⟩
/-- Register NET_LIEN. -/
def rNET_LIEN (n : Nat) : Nat := 0xB804 + 0x10 * n
/-- NET_LIEN.IEN. -/
def NET_LIEN_IEN (n : Nat) : FRef := ⟨rNET_LIEN n, 5, 0⟩
/-- Register NET_TSCFG. -/
def rNET_TSCFG (n : Nat) : Nat := 0xB900 + 0x10 * n
/-- NET_TSCFG.EN. -/
def NET_TSCFG_EN (n : Nat) : FRef := ⟨rNET_TSCFG n, 17, 17⟩
/-- NET_TSCFG.TSCF. -/
def NET_TSCFG_TSCF (n : Nat) : FRef := ⟨rNET_TSCFG n, 16, 16⟩
/-- NET_TSCFG.BRIEF. -/
def NET_TSCFG_BRIEF (n : Nat) : FRef := ⟨rNET_TSCFG n, 15, 15⟩
/-- NET_TSCFG.PCP. -/
def NET_TSCFG_PCP (n : Nat) : FRef := ⟨rNET_TSCFG n, 14, 12⟩
/-- NET_TSCFG.VID. -/
def NET_TSCFG_VID (n : Nat) : FRef := ⟨rNET_TSCFG n, 11, 0⟩
/-- Register NET_TSDA0. -/
def rNET_TSDA0 (n : Nat) : Nat := 0xB901 + 0x10 * n
/-- NET_TSDA0.DA. -/
def NET_TSDA0_DA (n : Nat) : FRef := ⟨rNET_TSDA0 n, 15, 0⟩
/-- Register NET_TSDA1. -/
def rNET_TSDA1 (n : Nat) : Nat := 0xB902 + 0x10 * n
/-- NET_TSDA1.DA. -/
def NET_TSDA1_DA (n : Nat) : FRef := ⟨rNET_TSDA1 n, 15, 0⟩
/-- Register NET_TSDA2. -/
def rNET_TSDA2 (n : Nat) : Nat := 0xB903 + 0x10 * n
/-- NET_TSDA2.DA. -/
def NET_TSDA2_DA (n : Nat) : FRef := ⟨rNET_TSDA2 n, 15, 0⟩
/-- Register NET_TSUID. -/
def rNET_TSUID (n : Nat) : Nat := 0xB904 + 0x10 * n
/-- NET_TSUID.UID. -/
def NET_TSUID_UID (n : Nat) : FRef := ⟨rNET_TSUID n, 15, 0⟩
/-- Register NET_TSPK. -/
def rNET_TSPK (n : Nat) : Nat := 0xB905 + 0x10 * n
/-- NET_TSPK.PACKT. -/
def NET_TSPK_PACKT (n : Nat) : FRef := ⟨rNET_TSPK n, 17, 10⟩
/-- NET_TSPK.MAXB. -/
def NET_TSPK_MAXB (n : Nat) : FRef := ⟨rNET_TSPK n, 9, 0⟩
/-- Register NET_TSMTT. -/
def rNET_TSMTT (n : Nat) : Nat := 0xB906 + 0x10 * n
/-- NET_TSMTT.MTT. -/
def NET_TSMTT_MTT (n : Nat) : FRef := ⟨rNET_TSMTT n, 17, 0⟩
/-- Register NET_TSCNT. -/
def rNET_TSCNT (n : Nat) : Nat := 0xB907 + 0x10 * n
/-- NET_TSCNT.SEQ. -/
def NET_TSCNT_SEQ (n : Nat) : FRef := ⟨rNET_TSCNT n, 17, 9⟩
/-- NET_TSCNT.DROP. -/
def NET_TSCNT_DROP (n : Nat) : FRef := ⟨rNET_TSCNT n, 8, 0⟩
/-- Register NET_LSCFG. -/
def rNET_LSCFG (n : Nat) : Nat := 0xBA00 + 0x10 * n
/-- NET_LSCFG.EN. -/
def NET_LSCFG_EN (n : Nat) : FRef := ⟨rNET_LSCFG n, 17, 17⟩
/-- NET_LSCFG.MASK. -/
def NET_LSCFG_MASK (n : Nat) : FRef := ⟨rNET_LSCFG n, 9, 0⟩
/-- Register NET_LSID0. -/
def rNET_LSID0 (n : Nat) : Nat := 0xBA01 + 0x10 * n
/-- NET_LSID0.SID. -/
def NET_LSID0_SID (n : Nat) : FRef := ⟨rNET_LSID0 n, 15, 0⟩
/-- Register NET_LSID1. -/
def rNET_LSID1 (n : Nat) : Nat := 0xBA02 + 0x10 * n
/-- NET_LSID1.SID. -/
def NET_LSID1_SID (n : Nat) : FRef := ⟨rNET_LSID1 n, 15, 0⟩
/-- Register NET_LSID2. -/
def rNET_LSID2 (n : Nat) : Nat := 0xBA03 + 0x10 * n
/-- NET_LSID2.SID. -/
def NET_LSID2_SID (n : Nat) : FRef := ⟨rNET_LSID2 n, 15, 0⟩
/-- Register NET_LSID3. -/
def rNET_LSID3 (n : Nat) : Nat := 0xBA04 + 0x10 * n
/-- NET_LSID3.SID. -/
def NET_LSID3_SID (n : Nat) : FRef := ⟨rNET_LSID3 n, 15, 0⟩
/-- Register NET_LSCNT. -/
def rNET_LSCNT (n : Nat) : Nat := 0xBA05 + 0x10 * n
/-- NET_LSCNT.SEQGAP. -/
def NET_LSCNT_SEQGAP (n : Nat) : FRef := ⟨rNET_LSCNT n, 17, 9⟩
/-- NET_LSCNT.DROP. -/
def NET_LSCNT_DROP (n : Nat) : FRef := ⟨rNET_LSCNT n, 8, 0⟩
/-- Register NET_WKCFG. -/
def rNET_WKCFG (n : Nat) : Nat := 0xBB00 + 0x10 * n
/-- NET_WKCFG.VALN. -/
def NET_WKCFG_VALN (n : Nat) : FRef := ⟨rNET_WKCFG n, 17, 13⟩
/-- NET_WKCFG.VALT. -/
def NET_WKCFG_VALT (n : Nat) : FRef := ⟨rNET_WKCFG n, 12, 6⟩
/-- NET_WKCFG.FWTH. -/
def NET_WKCFG_FWTH (n : Nat) : FRef := ⟨rNET_WKCFG n, 5, 2⟩
/-- NET_WKCFG.DEAFT. -/
def NET_WKCFG_DEAFT (n : Nat) : FRef := ⟨rNET_WKCFG n, 1, 0⟩
/-- Register NET_WKSTAT. -/
def rNET_WKSTAT (n : Nat) : Nat := 0xBB01 + 0x10 * n
/-- NET_WKSTAT.DEAF. -/
def NET_WKSTAT_DEAF (n : Nat) : FRef := ⟨rNET_WKSTAT n, 17, 17⟩
/-- NET_WKSTAT.UNDEAF. -/
def NET_WKSTAT_UNDEAF (n : Nat) : FRef := ⟨rNET_WKSTAT n, 16, 16⟩
/-- NET_WKSTAT.FWCNT. -/
def NET_WKSTAT_FWCNT (n : Nat) : FRef := ⟨rNET_WKSTAT n, 15, 12⟩
/-- NET_WKSTAT.WOPEN. -/
def NET_WKSTAT_WOPEN (n : Nat) : FRef := ⟨rNET_WKSTAT n, 11, 11⟩
/-- NET_WKSTAT.TOTAL. -/
def NET_WKSTAT_TOTAL (n : Nat) : FRef := ⟨rNET_WKSTAT n, 7, 0⟩
/-- Register NET_INH0. -/
def rNET_INH0 : Nat := 0xBBC0
/-- NET_INH0.FORCE. -/
def NET_INH0_FORCE : FRef := ⟨rNET_INH0, 17, 17⟩
/-- NET_INH0.LEVEL. -/
def NET_INH0_LEVEL : FRef := ⟨rNET_INH0, 16, 16⟩
/-- NET_INH0.MASK. -/
def NET_INH0_MASK : FRef := ⟨rNET_INH0, 9, 0⟩
/-- Register NET_INH1. -/
def rNET_INH1 : Nat := 0xBBC1
/-- NET_INH1.FORCE. -/
def NET_INH1_FORCE : FRef := ⟨rNET_INH1, 17, 17⟩
/-- NET_INH1.LEVEL. -/
def NET_INH1_LEVEL : FRef := ⟨rNET_INH1, 16, 16⟩
/-- NET_INH1.MASK. -/
def NET_INH1_MASK : FRef := ⟨rNET_INH1, 9, 0⟩
/-- Register NET_HCFG. -/
def rNET_HCFG : Nat := 0xBC00
/-- NET_HCFG.EN. -/
def NET_HCFG_EN : FRef := ⟨rNET_HCFG, 17, 17⟩
/-- NET_HCFG.MEDIUM. -/
def NET_HCFG_MEDIUM : FRef := ⟨rNET_HCFG, 16, 16⟩
/-- NET_HCFG.CH. -/
def NET_HCFG_CH : FRef := ⟨rNET_HCFG, 15, 12⟩
/-- NET_HCFG.ID. -/
def NET_HCFG_ID : FRef := ⟨rNET_HCFG, 11, 7⟩
/-- NET_HCFG.AUTO. -/
def NET_HCFG_AUTO : FRef := ⟨rNET_HCFG, 6, 6⟩
/-- Register NET_HTIM. -/
def rNET_HTIM : Nat := 0xBC01
/-- NET_HTIM.FWD. -/
def NET_HTIM_FWD : FRef := ⟨rNET_HTIM, 17, 10⟩
/-- NET_HTIM.LOST. -/
def NET_HTIM_LOST : FRef := ⟨rNET_HTIM, 9, 0⟩
/-- Register NET_HTIM2. -/
def rNET_HTIM2 : Nat := 0xBC02
/-- NET_HTIM2.PREP. -/
def NET_HTIM2_PREP : FRef := ⟨rNET_HTIM2, 17, 8⟩
/-- NET_HTIM2.SETTLE. -/
def NET_HTIM2_SETTLE : FRef := ⟨rNET_HTIM2, 7, 0⟩
/-- Register NET_HCTL. -/
def rNET_HCTL : Nat := 0xBC03
/-- NET_HCTL.CONS. -/
def NET_HCTL_CONS : FRef := ⟨rNET_HCTL, 17, 17⟩
/-- NET_HCTL.JOIN. -/
def NET_HCTL_JOIN : FRef := ⟨rNET_HCTL, 16, 16⟩
/-- Register NET_HCAN. -/
def rNET_HCAN : Nat := 0xBC04
/-- NET_HCAN.BASE. -/
def NET_HCAN_BASE : FRef := ⟨rNET_HCAN, 5, 0⟩
/-- Register NET_HSLP. -/
def rNET_HSLP : Nat := 0xBC05
/-- NET_HSLP.STBY. -/
def NET_HSLP_STBY : FRef := ⟨rNET_HSLP, 17, 17⟩
/-- NET_HSLP.MASK. -/
def NET_HSLP_MASK : FRef := ⟨rNET_HSLP, 9, 0⟩
/-- Register NET_HGRPH. -/
def rNET_HGRPH : Nat := 0xBC06
/-- NET_HGRPH.GRP. -/
def NET_HGRPH_GRP : FRef := ⟨rNET_HGRPH, 15, 0⟩
/-- Register NET_HGRPL. -/
def rNET_HGRPL : Nat := 0xBC07
/-- NET_HGRPL.GRP. -/
def NET_HGRPL_GRP : FRef := ⟨rNET_HGRPL, 15, 0⟩
/-- Register NET_HPORT. -/
def rNET_HPORT : Nat := 0xBC08
/-- NET_HPORT.PORT. -/
def NET_HPORT_PORT : FRef := ⟨rNET_HPORT, 15, 0⟩
/-- Register NET_HSRCH. -/
def rNET_HSRCH : Nat := 0xBC09
/-- NET_HSRCH.SRC. -/
def NET_HSRCH_SRC : FRef := ⟨rNET_HSRCH, 15, 0⟩
/-- Register NET_HSRCL. -/
def rNET_HSRCL : Nat := 0xBC0A
/-- NET_HSRCL.SRC. -/
def NET_HSRCL_SRC : FRef := ⟨rNET_HSRCL, 15, 0⟩
/-- Register NET_HUCFG. -/
def rNET_HUCFG : Nat := 0xBC0B
/-- NET_HUCFG.DSCP. -/
def NET_HUCFG_DSCP : FRef := ⟨rNET_HUCFG, 17, 12⟩
/-- NET_HUCFG.PMASK. -/
def NET_HUCFG_PMASK : FRef := ⟨rNET_HUCFG, 7, 0⟩
/-- Register NET_HVLAN. -/
def rNET_HVLAN : Nat := 0xBC0C
/-- NET_HVLAN.PCP. -/
def NET_HVLAN_PCP : FRef := ⟨rNET_HVLAN, 14, 12⟩
/-- NET_HVLAN.VID. -/
def NET_HVLAN_VID : FRef := ⟨rNET_HVLAN, 11, 0⟩
/-- Register NET_HSTAT. -/
def rNET_HSTAT : Nat := 0xBC10
/-- NET_HSTAT.STATE. -/
def NET_HSTAT_STATE : FRef := ⟨rNET_HSTAT, 17, 15⟩
/-- NET_HSTAT.LEAD. -/
def NET_HSTAT_LEAD : FRef := ⟨rNET_HSTAT, 14, 14⟩
/-- NET_HSTAT.RUN. -/
def NET_HSTAT_RUN : FRef := ⟨rNET_HSTAT, 13, 12⟩
/-- NET_HSTAT.SUCC. -/
def NET_HSTAT_SUCC : FRef := ⟨rNET_HSTAT, 11, 7⟩
/-- NET_HSTAT.NMEM. -/
def NET_HSTAT_NMEM : FRef := ⟨rNET_HSTAT, 5, 0⟩
/-- Register NET_HMAP0. -/
def rNET_HMAP0 : Nat := 0xBC11
/-- NET_HMAP0.MAP. -/
def NET_HMAP0_MAP : FRef := ⟨rNET_HMAP0, 15, 0⟩
/-- Register NET_HMAP1. -/
def rNET_HMAP1 : Nat := 0xBC12
/-- NET_HMAP1.MAP. -/
def NET_HMAP1_MAP : FRef := ⟨rNET_HMAP1, 15, 0⟩
/-- Register NET_HRND. -/
def rNET_HRND : Nat := 0xBC13
/-- NET_HRND.CAUSE. -/
def NET_HRND_CAUSE : FRef := ⟨rNET_HRND, 11, 8⟩
/-- NET_HRND.ROUND. -/
def NET_HRND_ROUND : FRef := ⟨rNET_HRND, 7, 0⟩
/-- Register NET_HEVT. -/
def rNET_HEVT : Nat := 0xBC14
/-- NET_HEVT.EVT. -/
def NET_HEVT_EVT : FRef := ⟨rNET_HEVT, 5, 0⟩
/-- Register NET_HIEN. -/
def rNET_HIEN : Nat := 0xBC15
/-- NET_HIEN.IEN. -/
def NET_HIEN_IEN : FRef := ⟨rNET_HIEN, 5, 0⟩
/-- Register NET_HCNT. -/
def rNET_HCNT : Nat := 0xBC16
/-- NET_HCNT.CANCELS. -/
def NET_HCNT_CANCELS : FRef := ⟨rNET_HCNT, 17, 12⟩
/-- NET_HCNT.LOSTS. -/
def NET_HCNT_LOSTS : FRef := ⟨rNET_HCNT, 11, 6⟩
/-- NET_HCNT.BAD. -/
def NET_HCNT_BAD : FRef := ⟨rNET_HCNT, 5, 0⟩
/-- Register ZSW_FLAG. -/
def rZSW_FLAG : Nat := 0xC000
/-- ZSW_FLAG.AUDDONE. -/
def ZSW_FLAG_AUDDONE : FRef := ⟨rZSW_FLAG, 9, 9⟩
/-- ZSW_FLAG.PGMOV. -/
def ZSW_FLAG_PGMOV : FRef := ⟨rZSW_FLAG, 8, 8⟩
/-- ZSW_FLAG.STOMP. -/
def ZSW_FLAG_STOMP : FRef := ⟨rZSW_FLAG, 7, 7⟩
/-- ZSW_FLAG.NOBUF. -/
def ZSW_FLAG_NOBUF : FRef := ⟨rZSW_FLAG, 6, 6⟩
/-- ZSW_FLAG.REDDROP. -/
def ZSW_FLAG_REDDROP : FRef := ⟨rZSW_FLAG, 5, 5⟩
/-- ZSW_FLAG.AUDF. -/
def ZSW_FLAG_AUDF : FRef := ⟨rZSW_FLAG, 4, 4⟩
/-- ZSW_FLAG.BINDTO. -/
def ZSW_FLAG_BINDTO : FRef := ⟨rZSW_FLAG, 3, 3⟩
/-- ZSW_FLAG.LRNFULL. -/
def ZSW_FLAG_LRNFULL : FRef := ⟨rZSW_FLAG, 2, 2⟩
/-- ZSW_FLAG.WRREF. -/
def ZSW_FLAG_WRREF : FRef := ⟨rZSW_FLAG, 1, 1⟩
/-- ZSW_FLAG.ENCREF. -/
def ZSW_FLAG_ENCREF : FRef := ⟨rZSW_FLAG, 0, 0⟩
/-- Register ZSW_GCTL. -/
def rZSW_GCTL : Nat := 0xC001
/-- ZSW_GCTL.EN. -/
def ZSW_GCTL_EN : FRef := ⟨rZSW_GCTL, 17, 17⟩
/-- ZSW_GCTL.LLTRAP. -/
def ZSW_GCTL_LLTRAP : FRef := ⟨rZSW_GCTL, 16, 16⟩
/-- ZSW_GCTL.MAXLEN. -/
def ZSW_GCTL_MAXLEN : FRef := ⟨rZSW_GCTL, 15, 5⟩
/-- ZSW_GCTL.AGE. -/
def ZSW_GCTL_AGE : FRef := ⟨rZSW_GCTL, 4, 0⟩
/-- Register ZSW_GCTL2. -/
def rZSW_GCTL2 : Nat := 0xC002
/-- ZSW_GCTL2.FLOOR. -/
def ZSW_GCTL2_FLOOR : FRef := ⟨rZSW_GCTL2, 12, 0⟩
/-- Register ZSW_FREE. -/
def rZSW_FREE : Nat := 0xC003
/-- ZSW_FREE.FREE. -/
def ZSW_FREE_FREE : FRef := ⟨rZSW_FREE, 13, 0⟩
/-- Register ZSW_QENT. -/
def rZSW_QENT : Nat := 0xC004
/-- ZSW_QENT.QENT. -/
def ZSW_QENT_QENT : FRef := ⟨rZSW_QENT, 12, 0⟩
/-- Register ZSW_RETIRED. -/
def rZSW_RETIRED : Nat := 0xC005
/-- ZSW_RETIRED.RETIRED. -/
def ZSW_RETIRED_RETIRED : FRef := ⟨rZSW_RETIRED, 7, 0⟩
/-- Register ZSW_AUDCTL. -/
def rZSW_AUDCTL : Nat := 0xC008
/-- ZSW_AUDCTL.START. -/
def ZSW_AUDCTL_START : FRef := ⟨rZSW_AUDCTL, 17, 17⟩
/-- ZSW_AUDCTL.RECL. -/
def ZSW_AUDCTL_RECL : FRef := ⟨rZSW_AUDCTL, 16, 16⟩
/-- ZSW_AUDCTL.PER. -/
def ZSW_AUDCTL_PER : FRef := ⟨rZSW_AUDCTL, 15, 8⟩
/-- Register ZSW_AUDRES. -/
def rZSW_AUDRES : Nat := 0xC009
/-- ZSW_AUDRES.RESULT. -/
def ZSW_AUDRES_RESULT : FRef := ⟨rZSW_AUDRES, 17, 16⟩
/-- ZSW_AUDRES.FOUND. -/
def ZSW_AUDRES_FOUND : FRef := ⟨rZSW_AUDRES, 13, 0⟩
/-- Register ZSW_AUDLEAK. -/
def rZSW_AUDLEAK : Nat := 0xC00A
/-- ZSW_AUDLEAK.LEAK. -/
def ZSW_AUDLEAK_LEAK : FRef := ⟨rZSW_AUDLEAK, 17, 9⟩
/-- ZSW_AUDLEAK.DUP. -/
def ZSW_AUDLEAK_DUP : FRef := ⟨rZSW_AUDLEAK, 8, 0⟩
/-- Register ZSW_HCFG. -/
def rZSW_HCFG : Nat := 0xC010
/-- ZSW_HCFG.BTO. -/
def ZSW_HCFG_BTO : FRef := ⟨rZSW_HCFG, 17, 10⟩
/-- ZSW_HCFG.APRI. -/
def ZSW_HCFG_APRI : FRef := ⟨rZSW_HCFG, 9, 7⟩
/-- Register ZSW_HQMAP0. -/
def rZSW_HQMAP0 : Nat := 0xC011
/-- ZSW_HQMAP0.Q0_Q5. -/
def ZSW_HQMAP0_Q0_Q5 : FRef := ⟨rZSW_HQMAP0, 17, 0⟩
/-- Register ZSW_HQMAP1. -/
def rZSW_HQMAP1 : Nat := 0xC012
/-- ZSW_HQMAP1.Q6Q7. -/
def ZSW_HQMAP1_Q6Q7 : FRef := ⟨rZSW_HQMAP1, 5, 0⟩
/-- Register ZSW_WBIND. -/
def rZSW_WBIND (n : Nat) : Nat := 0xC018 + n
/-- ZSW_WBIND.BOUND. -/
def ZSW_WBIND_BOUND (n : Nat) : FRef := ⟨rZSW_WBIND n, 15, 0⟩
/-- Register ZSW_IEN. -/
def rZSW_IEN : Nat := 0xC020
/-- ZSW_IEN.IEN. -/
def ZSW_IEN_IEN : FRef := ⟨rZSW_IEN, 6, 0⟩
/-- Register ZSW_PCFG. -/
def rZSW_PCFG (n : Nat) : Nat := 0xC100 + 0x10 * n
/-- ZSW_PCFG.EN. -/
def ZSW_PCFG_EN (n : Nat) : FRef := ⟨rZSW_PCFG n, 17, 17⟩
/-- ZSW_PCFG.LRN. -/
def ZSW_PCFG_LRN (n : Nat) : FRef := ⟨rZSW_PCFG n, 16, 16⟩
/-- ZSW_PCFG.CT. -/
def ZSW_PCFG_CT (n : Nat) : FRef := ⟨rZSW_PCFG n, 15, 15⟩
/-- ZSW_PCFG.AFT. -/
def ZSW_PCFG_AFT (n : Nat) : FRef := ⟨rZSW_PCFG n, 14, 13⟩
/-- ZSW_PCFG.HOLD. -/
def ZSW_PCFG_HOLD (n : Nat) : FRef := ⟨rZSW_PCFG n, 12, 6⟩
/-- ZSW_PCFG.DPCP. -/
def ZSW_PCFG_DPCP (n : Nat) : FRef := ⟨rZSW_PCFG n, 5, 3⟩
/-- Register ZSW_PVID. -/
def rZSW_PVID (n : Nat) : Nat := 0xC101 + 0x10 * n
/-- ZSW_PVID.PVID. -/
def ZSW_PVID_PVID (n : Nat) : FRef := ⟨rZSW_PVID n, 11, 0⟩
/-- Register ZSW_PQMAP0. -/
def rZSW_PQMAP0 (n : Nat) : Nat := 0xC102 + 0x10 * n
/-- ZSW_PQMAP0.Q0_Q5. -/
def ZSW_PQMAP0_Q0_Q5 (n : Nat) : FRef := ⟨rZSW_PQMAP0 n, 17, 0⟩
/-- Register ZSW_PQMAP1. -/
def rZSW_PQMAP1 (n : Nat) : Nat := 0xC103 + 0x10 * n
/-- ZSW_PQMAP1.Q6Q7. -/
def ZSW_PQMAP1_Q6Q7 (n : Nat) : FRef := ⟨rZSW_PQMAP1 n, 5, 0⟩
/-- Register ZSW_PSTAT. -/
def rZSW_PSTAT (n : Nat) : Nat := 0xC104 + 0x10 * n
/-- ZSW_PSTAT.STATE. -/
def ZSW_PSTAT_STATE (n : Nat) : FRef := ⟨rZSW_PSTAT n, 17, 16⟩
/-- ZSW_PSTAT.LEFT. -/
def ZSW_PSTAT_LEFT (n : Nat) : FRef := ⟨rZSW_PSTAT n, 15, 9⟩
/-- Register ZSW_PRXF. -/
def rZSW_PRXF (n : Nat) : Nat := 0xC105 + 0x10 * n
/-- ZSW_PRXF.RXF. -/
def ZSW_PRXF_RXF (n : Nat) : FRef := ⟨rZSW_PRXF n, 17, 0⟩
/-- Register ZSW_PRXD. -/
def rZSW_PRXD (n : Nat) : Nat := 0xC106 + 0x10 * n
/-- ZSW_PRXD.BAD. -/
def ZSW_PRXD_BAD (n : Nat) : FRef := ⟨rZSW_PRXD n, 17, 9⟩
/-- ZSW_PRXD.VLAN. -/
def ZSW_PRXD_VLAN (n : Nat) : FRef := ⟨rZSW_PRXD n, 8, 0⟩
/-- Register ZSW_PTXF. -/
def rZSW_PTXF (n : Nat) : Nat := 0xC107 + 0x10 * n
/-- ZSW_PTXF.TXF. -/
def ZSW_PTXF_TXF (n : Nat) : FRef := ⟨rZSW_PTXF n, 17, 0⟩
/-- Register ZSW_PTXD. -/
def rZSW_PTXD (n : Nat) : Nat := 0xC108 + 0x10 * n
/-- ZSW_PTXD.STOMP. -/
def ZSW_PTXD_STOMP (n : Nat) : FRef := ⟨rZSW_PTXD n, 17, 9⟩
/-- ZSW_PTXD.ABORT. -/
def ZSW_PTXD_ABORT (n : Nat) : FRef := ⟨rZSW_PTXD n, 8, 0⟩
/-- Register ZSW_PFLUSH. -/
def rZSW_PFLUSH (n : Nat) : Nat := 0xC109 + 0x10 * n
/-- ZSW_PFLUSH.FLUSH. -/
def ZSW_PFLUSH_FLUSH (n : Nat) : FRef := ⟨rZSW_PFLUSH n, 17, 9⟩
/-- ZSW_PFLUSH.FLAPS. -/
def ZSW_PFLUSH_FLAPS (n : Nat) : FRef := ⟨rZSW_PFLUSH n, 8, 0⟩
/-- Register ZSW_PEVT. -/
def rZSW_PEVT (n : Nat) : Nat := 0xC10A + 0x10 * n
/-- ZSW_PEVT.EVT. -/
def ZSW_PEVT_EVT (n : Nat) : FRef := ⟨rZSW_PEVT n, 5, 0⟩
/-- Register ZSW_PIEN. -/
def rZSW_PIEN (n : Nat) : Nat := 0xC10B + 0x10 * n
/-- ZSW_PIEN.IEN. -/
def ZSW_PIEN_IEN (n : Nat) : FRef := ⟨rZSW_PIEN n, 5, 0⟩
/-- Register ZSW_QCFG. -/
def rZSW_QCFG (n : Nat) : Nat := 0xC200 + 0x10 * n
/-- ZSW_QCFG.PROF. -/
def ZSW_QCFG_PROF (n : Nat) : FRef := ⟨rZSW_QCFG n, 17, 16⟩
/-- ZSW_QCFG.QMAX. -/
def ZSW_QCFG_QMAX (n : Nat) : FRef := ⟨rZSW_QCFG n, 12, 0⟩
/-- Register ZSW_QRES. -/
def rZSW_QRES (n : Nat) : Nat := 0xC201 + 0x10 * n
/-- ZSW_QRES.MAXRES. -/
def ZSW_QRES_MAXRES (n : Nat) : FRef := ⟨rZSW_QRES n, 15, 0⟩
/-- Register ZSW_QSTAT. -/
def rZSW_QSTAT (n : Nat) : Nat := 0xC202 + 0x10 * n
/-- ZSW_QSTAT.DEPTH. -/
def ZSW_QSTAT_DEPTH (n : Nat) : FRef := ⟨rZSW_QSTAT n, 13, 0⟩
/-- Register ZSW_QAVG. -/
def rZSW_QAVG (n : Nat) : Nat := 0xC203 + 0x10 * n
/-- ZSW_QAVG.AVG. -/
def ZSW_QAVG_AVG (n : Nat) : FRef := ⟨rZSW_QAVG n, 13, 0⟩
/-- Register ZSW_QDROP. -/
def rZSW_QDROP (n : Nat) : Nat := 0xC204 + 0x10 * n
/-- ZSW_QDROP.GREEN. -/
def ZSW_QDROP_GREEN (n : Nat) : FRef := ⟨rZSW_QDROP n, 17, 9⟩
/-- ZSW_QDROP.YELLOW. -/
def ZSW_QDROP_YELLOW (n : Nat) : FRef := ⟨rZSW_QDROP n, 8, 0⟩
/-- Register ZSW_QDROP2. -/
def rZSW_QDROP2 (n : Nat) : Nat := 0xC205 + 0x10 * n
/-- ZSW_QDROP2.RED. -/
def ZSW_QDROP2_RED (n : Nat) : FRef := ⟨rZSW_QDROP2 n, 17, 9⟩
/-- ZSW_QDROP2.TAIL. -/
def ZSW_QDROP2_TAIL (n : Nat) : FRef := ⟨rZSW_QDROP2 n, 8, 0⟩
/-- Register ZSW_QAGED. -/
def rZSW_QAGED (n : Nat) : Nat := 0xC206 + 0x10 * n
/-- ZSW_QAGED.AGED. -/
def ZSW_QAGED_AGED (n : Nat) : FRef := ⟨rZSW_QAGED n, 17, 0⟩
/-- Register ZSW_RCFG. -/
def rZSW_RCFG (n : Nat) : Nat := 0xC700 + 0x10 * n
/-- ZSW_RCFG.W. -/
def ZSW_RCFG_W (n : Nat) : FRef := ⟨rZSW_RCFG n, 3, 0⟩
/-- Register ZSW_RMIN0. -/
def rZSW_RMIN0 (n : Nat) : Nat := 0xC701 + 0x10 * n
/-- ZSW_RMIN0.MIN. -/
def ZSW_RMIN0_MIN (n : Nat) : FRef := ⟨rZSW_RMIN0 n, 17, 5⟩
/-- ZSW_RMIN0.PMAX. -/
def ZSW_RMIN0_PMAX (n : Nat) : FRef := ⟨rZSW_RMIN0 n, 4, 0⟩
/-- Register ZSW_RMIN1. -/
def rZSW_RMIN1 (n : Nat) : Nat := 0xC703 + 0x10 * n
/-- ZSW_RMIN1.MIN. -/
def ZSW_RMIN1_MIN (n : Nat) : FRef := ⟨rZSW_RMIN1 n, 17, 5⟩
/-- ZSW_RMIN1.PMAX. -/
def ZSW_RMIN1_PMAX (n : Nat) : FRef := ⟨rZSW_RMIN1 n, 4, 0⟩
/-- Register ZSW_RMIN2. -/
def rZSW_RMIN2 (n : Nat) : Nat := 0xC705 + 0x10 * n
/-- ZSW_RMIN2.MIN. -/
def ZSW_RMIN2_MIN (n : Nat) : FRef := ⟨rZSW_RMIN2 n, 17, 5⟩
/-- ZSW_RMIN2.PMAX. -/
def ZSW_RMIN2_PMAX (n : Nat) : FRef := ⟨rZSW_RMIN2 n, 4, 0⟩
/-- Register ZSW_RMAX0. -/
def rZSW_RMAX0 (n : Nat) : Nat := 0xC702 + 0x10 * n
/-- ZSW_RMAX0.MAX. -/
def ZSW_RMAX0_MAX (n : Nat) : FRef := ⟨rZSW_RMAX0 n, 12, 0⟩
/-- Register ZSW_RMAX1. -/
def rZSW_RMAX1 (n : Nat) : Nat := 0xC704 + 0x10 * n
/-- ZSW_RMAX1.MAX. -/
def ZSW_RMAX1_MAX (n : Nat) : FRef := ⟨rZSW_RMAX1 n, 12, 0⟩
/-- Register ZSW_RMAX2. -/
def rZSW_RMAX2 (n : Nat) : Nat := 0xC706 + 0x10 * n
/-- ZSW_RMAX2.MAX. -/
def ZSW_RMAX2_MAX (n : Nat) : FRef := ⟨rZSW_RMAX2 n, 12, 0⟩
/-- Register ZSW_PGCFG. -/
def rZSW_PGCFG (n : Nat) : Nat := 0xC780 + 0x10 * n
/-- ZSW_PGCFG.EN. -/
def ZSW_PGCFG_EN (n : Nat) : FRef := ⟨rZSW_PGCFG n, 17, 17⟩
/-- ZSW_PGCFG.HSEL. -/
def ZSW_PGCFG_HSEL (n : Nat) : FRef := ⟨rZSW_PGCFG n, 16, 16⟩
/-- ZSW_PGCFG.RET. -/
def ZSW_PGCFG_RET (n : Nat) : FRef := ⟨rZSW_PGCFG n, 15, 8⟩
/-- Register ZSW_PGMEM. -/
def rZSW_PGMEM (n : Nat) : Nat := 0xC781 + 0x10 * n
/-- ZSW_PGMEM.MEM. -/
def ZSW_PGMEM_MEM (n : Nat) : FRef := ⟨rZSW_PGMEM n, 15, 0⟩
/-- Register ZSW_PGHOME. -/
def rZSW_PGHOME (n : Nat) (j : Nat) : Nat := 0xC782 + 0x10 * n + j
/-- ZSW_PGHOME.HOME. -/
def ZSW_PGHOME_HOME (n : Nat) (j : Nat) : FRef := ⟨rZSW_PGHOME n j, 15, 0⟩
/-- Register ZSW_PGCUR. -/
def rZSW_PGCUR (n : Nat) (j : Nat) : Nat := 0xC784 + 0x10 * n + j
/-- ZSW_PGCUR.CUR. -/
def ZSW_PGCUR_CUR (n : Nat) (j : Nat) : FRef := ⟨rZSW_PGCUR n j, 15, 0⟩
/-- Register ZSW_PGSTAT. -/
def rZSW_PGSTAT (n : Nat) : Nat := 0xC786 + 0x10 * n
/-- ZSW_PGSTAT.DEAD. -/
def ZSW_PGSTAT_DEAD (n : Nat) : FRef := ⟨rZSW_PGSTAT n, 15, 0⟩
/-- Register ZSW_PGMOVE. -/
def rZSW_PGMOVE (n : Nat) : Nat := 0xC787 + 0x10 * n
/-- ZSW_PGMOVE.MOVES. -/
def ZSW_PGMOVE_MOVES (n : Nat) : FRef := ⟨rZSW_PGMOVE n, 17, 9⟩
/-- ZSW_PGMOVE.DEADDROP. -/
def ZSW_PGMOVE_DEADDROP (n : Nat) : FRef := ⟨rZSW_PGMOVE n, 8, 0⟩
/-- Register ZSW_VLAN. -/
def rZSW_VLAN (n : Nat) : Nat := 0xC800 + 0x10 * n
/-- ZSW_VLAN.EN. -/
def ZSW_VLAN_EN (n : Nat) : FRef := ⟨rZSW_VLAN n, 17, 17⟩
/-- ZSW_VLAN.FLDM. -/
def ZSW_VLAN_FLDM (n : Nat) : FRef := ⟨rZSW_VLAN n, 16, 16⟩
/-- ZSW_VLAN.VID. -/
def ZSW_VLAN_VID (n : Nat) : FRef := ⟨rZSW_VLAN n, 11, 0⟩
/-- Register ZSW_VMEM. -/
def rZSW_VMEM (n : Nat) : Nat := 0xC801 + 0x10 * n
/-- ZSW_VMEM.MEM. -/
def ZSW_VMEM_MEM (n : Nat) : FRef := ⟨rZSW_VMEM n, 9, 0⟩
/-- Register ZSW_VUNT. -/
def rZSW_VUNT (n : Nat) : Nat := 0xC802 + 0x10 * n
/-- ZSW_VUNT.UNT. -/
def ZSW_VUNT_UNT (n : Nat) : FRef := ⟨rZSW_VUNT n, 9, 0⟩
/-- Register ZSW_MADR0. -/
def rZSW_MADR0 : Nat := 0xCC00
/-- ZSW_MADR0.ADDR. -/
def ZSW_MADR0_ADDR : FRef := ⟨rZSW_MADR0, 15, 0⟩
/-- Register ZSW_MADR1. -/
def rZSW_MADR1 : Nat := 0xCC01
/-- ZSW_MADR1.ADDR. -/
def ZSW_MADR1_ADDR : FRef := ⟨rZSW_MADR1, 15, 0⟩
/-- Register ZSW_MADR2. -/
def rZSW_MADR2 : Nat := 0xCC02
/-- ZSW_MADR2.ADDR. -/
def ZSW_MADR2_ADDR : FRef := ⟨rZSW_MADR2, 15, 0⟩
/-- Register ZSW_MVID. -/
def rZSW_MVID : Nat := 0xCC03
/-- ZSW_MVID.VID. -/
def ZSW_MVID_VID : FRef := ⟨rZSW_MVID, 11, 0⟩
/-- Register ZSW_MRES. -/
def rZSW_MRES : Nat := 0xCC04
/-- ZSW_MRES.STATIC. -/
def ZSW_MRES_STATIC : FRef := ⟨rZSW_MRES, 17, 17⟩
/-- ZSW_MRES.PG. -/
def ZSW_MRES_PG : FRef := ⟨rZSW_MRES, 16, 16⟩
/-- ZSW_MRES.MASK. -/
def ZSW_MRES_MASK : FRef := ⟨rZSW_MRES, 9, 0⟩
/-- Register ZSW_MCMD. -/
def rZSW_MCMD : Nat := 0xCC05
/-- ZSW_MCMD.CMD. -/
def ZSW_MCMD_CMD : FRef := ⟨rZSW_MCMD, 17, 15⟩
/-- Register ZSW_MSTAT. -/
def rZSW_MSTAT : Nat := 0xCC06
/-- ZSW_MSTAT.BUSY. -/
def ZSW_MSTAT_BUSY : FRef := ⟨rZSW_MSTAT, 17, 17⟩
/-- ZSW_MSTAT.RESULT. -/
def ZSW_MSTAT_RESULT : FRef := ⟨rZSW_MSTAT, 16, 14⟩
/-- ZSW_MSTAT.COUNT. -/
def ZSW_MSTAT_COUNT : FRef := ⟨rZSW_MSTAT, 11, 0⟩
/-- Register ZSW_MLRN. -/
def rZSW_MLRN : Nat := 0xCC07
/-- ZSW_MLRN.LFULL. -/
def ZSW_MLRN_LFULL : FRef := ⟨rZSW_MLRN, 17, 9⟩
/-- ZSW_MLRN.MOVES. -/
def ZSW_MLRN_MOVES : FRef := ⟨rZSW_MLRN, 8, 0⟩
/-- Register ETH_FLAG. -/
def rETH_FLAG : Nat := 0xD000
/-- ETH_FLAG.TSTEP. -/
def ETH_FLAG_TSTEP : FRef := ⟨rETH_FLAG, 6, 6⟩
/-- ETH_FLAG.THOLD. -/
def ETH_FLAG_THOLD : FRef := ⟨rETH_FLAG, 5, 5⟩
/-- ETH_FLAG.LOCKL. -/
def ETH_FLAG_LOCKL : FRef := ⟨rETH_FLAG, 4, 4⟩
/-- ETH_FLAG.PHYF. -/
def ETH_FLAG_PHYF : FRef := ⟨rETH_FLAG, 3, 3⟩
/-- ETH_FLAG.WAKE. -/
def ETH_FLAG_WAKE : FRef := ⟨rETH_FLAG, 2, 2⟩
/-- ETH_FLAG.WRREF. -/
def ETH_FLAG_WRREF : FRef := ⟨rETH_FLAG, 1, 1⟩
/-- ETH_FLAG.ENCREF. -/
def ETH_FLAG_ENCREF : FRef := ⟨rETH_FLAG, 0, 0⟩
/-- Register ETH_GCTL. -/
def rETH_GCTL : Nat := 0xD001
/-- ETH_GCTL.KEEP. -/
def ETH_GCTL_KEEP : FRef := ⟨rETH_GCTL, 17, 15⟩
/-- Register ETH_HMAC0. -/
def rETH_HMAC0 : Nat := 0xD002
/-- ETH_HMAC0.MAC. -/
def ETH_HMAC0_MAC : FRef := ⟨rETH_HMAC0, 15, 0⟩
/-- Register ETH_HMAC1. -/
def rETH_HMAC1 : Nat := 0xD003
/-- ETH_HMAC1.MAC. -/
def ETH_HMAC1_MAC : FRef := ⟨rETH_HMAC1, 15, 0⟩
/-- Register ETH_HMAC2. -/
def rETH_HMAC2 : Nat := 0xD004
/-- ETH_HMAC2.MAC. -/
def ETH_HMAC2_MAC : FRef := ⟨rETH_HMAC2, 15, 0⟩
/-- Register ETH_IEN. -/
def rETH_IEN : Nat := 0xD005
/-- ETH_IEN.IEN. -/
def ETH_IEN_IEN : FRef := ⟨rETH_IEN, 6, 0⟩
/-- Register ETH_PCFG. -/
def rETH_PCFG (n : Nat) : Nat := 0xD100 + 0x10 * n
/-- ETH_PCFG.EN. -/
def ETH_PCFG_EN (n : Nat) : FRef := ⟨rETH_PCFG n, 17, 17⟩
/-- ETH_PCFG.MS. -/
def ETH_PCFG_MS (n : Nat) : FRef := ⟨rETH_PCFG n, 16, 16⟩
/-- Register ETH_PSTAT. -/
def rETH_PSTAT (n : Nat) : Nat := 0xD101 + 0x10 * n
/-- ETH_PSTAT.LINK. -/
def ETH_PSTAT_LINK (n : Nat) : FRef := ⟨rETH_PSTAT n, 17, 17⟩
/-- ETH_PSTAT.FENCED. -/
def ETH_PSTAT_FENCED (n : Nat) : FRef := ⟨rETH_PSTAT n, 16, 16⟩
/-- ETH_PSTAT.SQI. -/
def ETH_PSTAT_SQI (n : Nat) : FRef := ⟨rETH_PSTAT n, 15, 13⟩
/-- ETH_PSTAT.PLCAA. -/
def ETH_PSTAT_PLCAA (n : Nat) : FRef := ⟨rETH_PSTAT n, 12, 12⟩
/-- Register ETH_TCFG. -/
def rETH_TCFG (n : Nat) : Nat := 0xD102 + 0x10 * n
/-- ETH_TCFG.WKEN. -/
def ETH_TCFG_WKEN (n : Nat) : FRef := ⟨rETH_TCFG n, 17, 17⟩
/-- ETH_TCFG.ACCEPT. -/
def ETH_TCFG_ACCEPT (n : Nat) : FRef := ⟨rETH_TCFG n, 16, 16⟩
/-- ETH_TCFG.FWD. -/
def ETH_TCFG_FWD (n : Nat) : FRef := ⟨rETH_TCFG n, 15, 10⟩
/-- ETH_TCFG.SLPTO. -/
def ETH_TCFG_SLPTO (n : Nat) : FRef := ⟨rETH_TCFG n, 9, 4⟩
/-- Register ETH_TCTL. -/
def rETH_TCTL (n : Nat) : Nat := 0xD103 + 0x10 * n
/-- ETH_TCTL.SLEEP. -/
def ETH_TCTL_SLEEP (n : Nat) : FRef := ⟨rETH_TCTL n, 17, 17⟩
/-- ETH_TCTL.WAKE. -/
def ETH_TCTL_WAKE (n : Nat) : FRef := ⟨rETH_TCTL n, 16, 16⟩
/-- Register ETH_TSTAT. -/
def rETH_TSTAT (n : Nat) : Nat := 0xD104 + 0x10 * n
/-- ETH_TSTAT.STATE. -/
def ETH_TSTAT_STATE (n : Nat) : FRef := ⟨rETH_TSTAT n, 17, 15⟩
/-- ETH_TSTAT.WKARM. -/
def ETH_TSTAT_WKARM (n : Nat) : FRef := ⟨rETH_TSTAT n, 14, 14⟩
/-- Register ETH_PEVT. -/
def rETH_PEVT (n : Nat) : Nat := 0xD105 + 0x10 * n
/-- ETH_PEVT.EVT. -/
def ETH_PEVT_EVT (n : Nat) : FRef := ⟨rETH_PEVT n, 7, 0⟩
/-- Register ETH_PIEN. -/
def rETH_PIEN (n : Nat) : Nat := 0xD106 + 0x10 * n
/-- ETH_PIEN.IEN. -/
def ETH_PIEN_IEN (n : Nat) : FRef := ⟨rETH_PIEN n, 7, 0⟩
/-- Register ETH_PCNT. -/
def rETH_PCNT (n : Nat) : Nat := 0xD107 + 0x10 * n
/-- ETH_PCNT.LOSS. -/
def ETH_PCNT_LOSS (n : Nat) : FRef := ⟨rETH_PCNT n, 17, 9⟩
/-- ETH_PCNT.WAKES. -/
def ETH_PCNT_WAKES (n : Nat) : FRef := ⟨rETH_PCNT n, 8, 0⟩
/-- Register ETH_PLCA. -/
def rETH_PLCA (n : Nat) : Nat := 0xD108 + 0x10 * n
/-- ETH_PLCA.EN. -/
def ETH_PLCA_EN (n : Nat) : FRef := ⟨rETH_PLCA n, 17, 17⟩
/-- ETH_PLCA.ID. -/
def ETH_PLCA_ID (n : Nat) : FRef := ⟨rETH_PLCA n, 16, 9⟩
/-- Register ETH_PLCA2. -/
def rETH_PLCA2 (n : Nat) : Nat := 0xD109 + 0x10 * n
/-- ETH_PLCA2.COUNT. -/
def ETH_PLCA2_COUNT (n : Nat) : FRef := ⟨rETH_PLCA2 n, 17, 10⟩
/-- ETH_PLCA2.TO. -/
def ETH_PLCA2_TO (n : Nat) : FRef := ⟨rETH_PLCA2 n, 9, 2⟩
/-- Register ETH_PLCA3. -/
def rETH_PLCA3 (n : Nat) : Nat := 0xD10A + 0x10 * n
/-- ETH_PLCA3.MAXBC. -/
def ETH_PLCA3_MAXBC (n : Nat) : FRef := ⟨rETH_PLCA3 n, 17, 10⟩
/-- ETH_PLCA3.BTMR. -/
def ETH_PLCA3_BTMR (n : Nat) : FRef := ⟨rETH_PLCA3 n, 9, 2⟩
/-- Register ETH_PLCNT. -/
def rETH_PLCNT (n : Nat) : Nat := 0xD10B + 0x10 * n
/-- ETH_PLCNT.COLL. -/
def ETH_PLCNT_COLL (n : Nat) : FRef := ⟨rETH_PLCNT n, 17, 9⟩
/-- ETH_PLCNT.BCNL. -/
def ETH_PLCNT_BCNL (n : Nat) : FRef := ⟨rETH_PLCNT n, 8, 0⟩
/-- Register ETH_QSH. -/
def rETH_QSH (n : Nat) : Nat := 0xD400 + 0x10 * n
/-- ETH_QSH.EN. -/
def ETH_QSH_EN (n : Nat) : FRef := ⟨rETH_QSH n, 17, 17⟩
/-- ETH_QSH.ISLOPE. -/
def ETH_QSH_ISLOPE (n : Nat) : FRef := ⟨rETH_QSH n, 16, 0⟩
/-- Register ETH_QHI. -/
def rETH_QHI (n : Nat) : Nat := 0xD401 + 0x10 * n
/-- ETH_QHI.HI. -/
def ETH_QHI_HI (n : Nat) : FRef := ⟨rETH_QHI n, 16, 0⟩
/-- Register ETH_QLO. -/
def rETH_QLO (n : Nat) : Nat := 0xD402 + 0x10 * n
/-- ETH_QLO.LO. -/
def ETH_QLO_LO (n : Nat) : FRef := ⟨rETH_QLO n, 16, 0⟩
/-- Register ETH_QCRD. -/
def rETH_QCRD (n : Nat) : Nat := 0xD403 + 0x10 * n
/-- ETH_QCRD.CRD. -/
def ETH_QCRD_CRD (n : Nat) : FRef := ⟨rETH_QCRD n, 17, 0⟩
/-- Register ETH_MCFG. -/
def rETH_MCFG (n : Nat) : Nat := 0xD404 + 0x10 * n
/-- ETH_MCFG.EN. -/
def ETH_MCFG_EN (n : Nat) : FRef := ⟨rETH_MCFG n, 17, 17⟩
/-- ETH_MCFG.AWARE. -/
def ETH_MCFG_AWARE (n : Nat) : FRef := ⟨rETH_MCFG n, 16, 16⟩
/-- ETH_MCFG.RDROP. -/
def ETH_MCFG_RDROP (n : Nat) : FRef := ⟨rETH_MCFG n, 15, 15⟩
/-- ETH_MCFG.CIR. -/
def ETH_MCFG_CIR (n : Nat) : FRef := ⟨rETH_MCFG n, 14, 0⟩
/-- Register ETH_MPIR. -/
def rETH_MPIR (n : Nat) : Nat := 0xD405 + 0x10 * n
/-- ETH_MPIR.PIR. -/
def ETH_MPIR_PIR (n : Nat) : FRef := ⟨rETH_MPIR n, 14, 0⟩
/-- Register ETH_MBS. -/
def rETH_MBS (n : Nat) : Nat := 0xD406 + 0x10 * n
/-- ETH_MBS.CBS. -/
def ETH_MBS_CBS (n : Nat) : FRef := ⟨rETH_MBS n, 17, 9⟩
/-- ETH_MBS.PBS. -/
def ETH_MBS_PBS (n : Nat) : FRef := ⟨rETH_MBS n, 8, 0⟩
/-- Register ETH_MCNT. -/
def rETH_MCNT (n : Nat) : Nat := 0xD407 + 0x10 * n
/-- ETH_MCNT.YELLOW. -/
def ETH_MCNT_YELLOW (n : Nat) : FRef := ⟨rETH_MCNT n, 17, 9⟩
/-- ETH_MCNT.RED. -/
def ETH_MCNT_RED (n : Nat) : FRef := ⟨rETH_MCNT n, 8, 0⟩
/-- Register ETH_ASCTL. -/
def rETH_ASCTL : Nat := 0xDC00
/-- ETH_ASCTL.EN. -/
def ETH_ASCTL_EN : FRef := ⟨rETH_ASCTL, 17, 17⟩
/-- ETH_ASCTL.GM. -/
def ETH_ASCTL_GM : FRef := ⟨rETH_ASCTL, 16, 16⟩
/-- ETH_ASCTL.STEPTHR. -/
def ETH_ASCTL_STEPTHR : FRef := ⟨rETH_ASCTL, 15, 14⟩
/-- ETH_ASCTL.SET. -/
def ETH_ASCTL_SET : FRef := ⟨rETH_ASCTL, 13, 13⟩
/-- ETH_ASCTL.PDTH. -/
def ETH_ASCTL_PDTH : FRef := ⟨rETH_ASCTL, 12, 5⟩
/-- Register ETH_ASSTAT. -/
def rETH_ASSTAT : Nat := 0xDC01
/-- ETH_ASSTAT.LOCK. -/
def ETH_ASSTAT_LOCK : FRef := ⟨rETH_ASSTAT, 17, 17⟩
/-- ETH_ASSTAT.HOLD. -/
def ETH_ASSTAT_HOLD : FRef := ⟨rETH_ASSTAT, 16, 16⟩
/-- ETH_ASSTAT.SLAVE. -/
def ETH_ASSTAT_SLAVE : FRef := ⟨rETH_ASSTAT, 15, 13⟩
/-- ETH_ASSTAT.STEPS. -/
def ETH_ASSTAT_STEPS : FRef := ⟨rETH_ASSTAT, 12, 5⟩
/-- Register ETH_ZT3. -/
def rETH_ZT3 : Nat := 0xDC02
/-- ETH_ZT3.ZT. -/
def ETH_ZT3_ZT : FRef := ⟨rETH_ZT3, 15, 0⟩
/-- Register ETH_ZT2. -/
def rETH_ZT2 : Nat := 0xDC03
/-- ETH_ZT2.ZT. -/
def ETH_ZT2_ZT : FRef := ⟨rETH_ZT2, 15, 0⟩
/-- Register ETH_ZT1. -/
def rETH_ZT1 : Nat := 0xDC04
/-- ETH_ZT1.ZT. -/
def ETH_ZT1_ZT : FRef := ⟨rETH_ZT1, 15, 0⟩
/-- Register ETH_ZT0. -/
def rETH_ZT0 : Nat := 0xDC05
/-- ETH_ZT0.ZT. -/
def ETH_ZT0_ZT : FRef := ⟨rETH_ZT0, 15, 0⟩
/-- Register ETH_ZSET3. -/
def rETH_ZSET3 : Nat := 0xDC06
/-- ETH_ZSET3.ZSET. -/
def ETH_ZSET3_ZSET : FRef := ⟨rETH_ZSET3, 15, 0⟩
/-- Register ETH_ZSET2. -/
def rETH_ZSET2 : Nat := 0xDC07
/-- ETH_ZSET2.ZSET. -/
def ETH_ZSET2_ZSET : FRef := ⟨rETH_ZSET2, 15, 0⟩
/-- Register ETH_ZSET1. -/
def rETH_ZSET1 : Nat := 0xDC08
/-- ETH_ZSET1.ZSET. -/
def ETH_ZSET1_ZSET : FRef := ⟨rETH_ZSET1, 15, 0⟩
/-- Register ETH_ZSET0. -/
def rETH_ZSET0 : Nat := 0xDC09
/-- ETH_ZSET0.ZSET. -/
def ETH_ZSET0_ZSET : FRef := ⟨rETH_ZSET0, 15, 0⟩
/-- Register ETH_ASOFS. -/
def rETH_ASOFS : Nat := 0xDC0A
/-- ETH_ASOFS.OFS. -/
def ETH_ASOFS_OFS : FRef := ⟨rETH_ASOFS, 17, 0⟩
/-- Register ETH_ASRATE. -/
def rETH_ASRATE : Nat := 0xDC0B
/-- ETH_ASRATE.RATE. -/
def ETH_ASRATE_RATE : FRef := ⟨rETH_ASRATE, 17, 0⟩
/-- Register ETH_ASP. -/
def rETH_ASP (n : Nat) : Nat := 0xDD00 + 0x10 * n
/-- ETH_ASP.ROLE. -/
def ETH_ASP_ROLE (n : Nat) : FRef := ⟨rETH_ASP n, 17, 16⟩
/-- ETH_ASP.LSYNC. -/
def ETH_ASP_LSYNC (n : Nat) : FRef := ⟨rETH_ASP n, 15, 12⟩
/-- ETH_ASP.LPDLY. -/
def ETH_ASP_LPDLY (n : Nat) : FRef := ⟨rETH_ASP n, 11, 8⟩
/-- ETH_ASP.ASCAP. -/
def ETH_ASP_ASCAP (n : Nat) : FRef := ⟨rETH_ASP n, 7, 7⟩
/-- Register ETH_ASPD. -/
def rETH_ASPD (n : Nat) : Nat := 0xDD01 + 0x10 * n
/-- ETH_ASPD.PD. -/
def ETH_ASPD_PD (n : Nat) : FRef := ⟨rETH_ASPD n, 17, 0⟩
/-- Register ETH_ASCNT. -/
def rETH_ASCNT (n : Nat) : Nat := 0xDD02 + 0x10 * n
/-- ETH_ASCNT.PDMISS. -/
def ETH_ASCNT_PDMISS (n : Nat) : FRef := ⟨rETH_ASCNT n, 17, 9⟩
/-- ETH_ASCNT.DISC. -/
def ETH_ASCNT_DISC (n : Nat) : FRef := ⟨rETH_ASCNT n, 8, 0⟩
/-- Register ACC_FLAG. -/
def rACC_FLAG : Nat := 0xE000
/-- ACC_FLAG.RELAY. -/
def ACC_FLAG_RELAY : FRef := ⟨rACC_FLAG, 5, 5⟩
/-- ACC_FLAG.COLL. -/
def ACC_FLAG_COLL : FRef := ⟨rACC_FLAG, 4, 4⟩
/-- ACC_FLAG.AUTHF. -/
def ACC_FLAG_AUTHF : FRef := ⟨rACC_FLAG, 3, 3⟩
/-- ACC_FLAG.LFHOT. -/
def ACC_FLAG_LFHOT : FRef := ⟨rACC_FLAG, 2, 2⟩
/-- ACC_FLAG.WRREF. -/
def ACC_FLAG_WRREF : FRef := ⟨rACC_FLAG, 1, 1⟩
/-- ACC_FLAG.ENCREF. -/
def ACC_FLAG_ENCREF : FRef := ⟨rACC_FLAG, 0, 0⟩
/-- Register ACC_GCTL. -/
def rACC_GCTL : Nat := 0xE001
/-- ACC_GCTL.VCODE. -/
def ACC_GCTL_VCODE : FRef := ⟨rACC_GCTL, 15, 0⟩
/-- Register ACC_LFCFG. -/
def rACC_LFCFG (n : Nat) : Nat := 0xE100 + 0x10 * n
/-- ACC_LFCFG.EN. -/
def ACC_LFCFG_EN (n : Nat) : FRef := ⟨rACC_LFCFG n, 17, 17⟩
/-- ACC_LFCFG.IPK. -/
def ACC_LFCFG_IPK (n : Nat) : FRef := ⟨rACC_LFCFG n, 16, 13⟩
/-- ACC_LFCFG.ATUNE. -/
def ACC_LFCFG_ATUNE (n : Nat) : FRef := ⟨rACC_LFCFG n, 12, 12⟩
/-- ACC_LFCFG.TCODE. -/
def ACC_LFCFG_TCODE (n : Nat) : FRef := ⟨rACC_LFCFG n, 11, 7⟩
/-- Register ACC_LFSTAT. -/
def rACC_LFSTAT (n : Nat) : Nat := 0xE101 + 0x10 * n
/-- ACC_LFSTAT.STATE. -/
def ACC_LFSTAT_STATE (n : Nat) : FRef := ⟨rACC_LFSTAT n, 17, 15⟩
/-- ACC_LFSTAT.TUNED. -/
def ACC_LFSTAT_TUNED (n : Nat) : FRef := ⟨rACC_LFSTAT n, 14, 10⟩
/-- Register ACC_LFMEAS. -/
def rACC_LFMEAS (n : Nat) : Nat := 0xE102 + 0x10 * n
/-- ACC_LFMEAS.I. -/
def ACC_LFMEAS_I (n : Nat) : FRef := ⟨rACC_LFMEAS n, 17, 9⟩
/-- ACC_LFMEAS.PH. -/
def ACC_LFMEAS_PH (n : Nat) : FRef := ⟨rACC_LFMEAS n, 8, 0⟩
/-- Register ACC_LFRSP. -/
def rACC_LFRSP (n : Nat) : Nat := 0xE103 + 0x10 * n
/-- ACC_LFRSP.RSP. -/
def ACC_LFRSP_RSP (n : Nat) : FRef := ⟨rACC_LFRSP n, 17, 0⟩
/-- Register ACC_LFEVT. -/
def rACC_LFEVT (n : Nat) : Nat := 0xE104 + 0x10 * n
/-- ACC_LFEVT.EVT. -/
def ACC_LFEVT_EVT (n : Nat) : FRef := ⟨rACC_LFEVT n, 7, 0⟩
/-- Register ACC_LFIEN. -/
def rACC_LFIEN (n : Nat) : Nat := 0xE105 + 0x10 * n
/-- ACC_LFIEN.IEN. -/
def ACC_LFIEN_IEN (n : Nat) : FRef := ⟨rACC_LFIEN n, 7, 0⟩
/-- Register ACC_PRES. -/
def rACC_PRES : Nat := 0xE800
/-- ACC_PRES.OPEN. -/
def ACC_PRES_OPEN : FRef := ⟨rACC_PRES, 17, 17⟩
/-- ACC_PRES.CLOSE. -/
def ACC_PRES_CLOSE : FRef := ⟨rACC_PRES, 16, 16⟩
/-- ACC_PRES.LEFT. -/
def ACC_PRES_LEFT : FRef := ⟨rACC_PRES, 15, 10⟩
/-- ACC_PRES.SRC. -/
def ACC_PRES_SRC : FRef := ⟨rACC_PRES, 9, 8⟩
/-- Register ACC_PCFG. -/
def rACC_PCFG : Nat := 0xE801
/-- ACC_PCFG.SVCEN. -/
def ACC_PCFG_SVCEN : FRef := ⟨rACC_PCFG, 17, 17⟩
/-- ACC_PCFG.BTNEN. -/
def ACC_PCFG_BTNEN : FRef := ⟨rACC_PCFG, 16, 16⟩
/-- ACC_PCFG.SEALEN. -/
def ACC_PCFG_SEALEN : FRef := ⟨rACC_PCFG, 15, 15⟩
/-- Register ACC_PBTN. -/
def rACC_PBTN : Nat := 0xE802
/-- ACC_PBTN.INPUT. -/
def ACC_PBTN_INPUT : FRef := ⟨rACC_PBTN, 17, 12⟩
/-- ACC_PBTN.COUNT. -/
def ACC_PBTN_COUNT : FRef := ⟨rACC_PBTN, 11, 8⟩
/-- ACC_PBTN.TWIN. -/
def ACC_PBTN_TWIN : FRef := ⟨rACC_PBTN, 7, 3⟩
/-- ACC_PBTN.KL15. -/
def ACC_PBTN_KL15 : FRef := ⟨rACC_PBTN, 2, 2⟩
/-- Register ACC_PLOG. -/
def rACC_PLOG : Nat := 0xE803
/-- ACC_PLOG.PROOFS. -/
def ACC_PLOG_PROOFS : FRef := ⟨rACC_PLOG, 17, 9⟩
/-- Register ACC_ENRCMD. -/
def rACC_ENRCMD : Nat := 0xE810
/-- ACC_ENRCMD.CMD. -/
def ACC_ENRCMD_CMD : FRef := ⟨rACC_ENRCMD, 17, 14⟩
/-- ACC_ENRCMD.SLOT. -/
def ACC_ENRCMD_SLOT : FRef := ⟨rACC_ENRCMD, 2, 0⟩
/-- Register ACC_ENRSTAT. -/
def rACC_ENRSTAT : Nat := 0xE811
/-- ACC_ENRSTAT.BUSY. -/
def ACC_ENRSTAT_BUSY : FRef := ⟨rACC_ENRSTAT, 17, 17⟩
/-- ACC_ENRSTAT.LEARN. -/
def ACC_ENRSTAT_LEARN : FRef := ⟨rACC_ENRSTAT, 16, 16⟩
/-- ACC_ENRSTAT.RESULT. -/
def ACC_ENRSTAT_RESULT : FRef := ⟨rACC_ENRSTAT, 15, 12⟩
/-- ACC_ENRSTAT.LEARNED. -/
def ACC_ENRSTAT_LEARNED : FRef := ⟨rACC_ENRSTAT, 11, 8⟩
/-- ACC_ENRSTAT.LEFT. -/
def ACC_ENRSTAT_LEFT : FRef := ⟨rACC_ENRSTAT, 7, 0⟩
/-- Register ACC_TKADR. -/
def rACC_TKADR : Nat := 0xE812
/-- ACC_TKADR.ADR. -/
def ACC_TKADR_ADR : FRef := ⟨rACC_TKADR, 17, 0⟩
/-- Register ACC_OWNER. -/
def rACC_OWNER : Nat := 0xE813
/-- ACC_OWNER.LOCK. -/
def ACC_OWNER_LOCK : FRef := ⟨rACC_OWNER, 17, 17⟩
/-- ACC_OWNER.DBGU. -/
def ACC_OWNER_DBGU : FRef := ⟨rACC_OWNER, 16, 16⟩
/-- ACC_OWNER.GEN. -/
def ACC_OWNER_GEN : FRef := ⟨rACC_OWNER, 15, 0⟩
/-- Register ACC_TNONCE. -/
def rACC_TNONCE (n : Nat) : Nat := 0xE814 + n
/-- ACC_TNONCE.NONCE. -/
def ACC_TNONCE_NONCE (n : Nat) : FRef := ⟨rACC_TNONCE n, 15, 0⟩
/-- Register ACC_KCMD. -/
def rACC_KCMD : Nat := 0xE818
/-- ACC_KCMD.CMD. -/
def ACC_KCMD_CMD : FRef := ⟨rACC_KCMD, 17, 15⟩
/-- ACC_KCMD.ENTRY. -/
def ACC_KCMD_ENTRY : FRef := ⟨rACC_KCMD, 3, 0⟩
/-- Register ACC_KADR. -/
def rACC_KADR : Nat := 0xE819
/-- ACC_KADR.ADR. -/
def ACC_KADR_ADR : FRef := ⟨rACC_KADR, 17, 0⟩
/-- Register ACC_KSTAT. -/
def rACC_KSTAT : Nat := 0xE81A
/-- ACC_KSTAT.BUSY. -/
def ACC_KSTAT_BUSY : FRef := ⟨rACC_KSTAT, 17, 17⟩
/-- ACC_KSTAT.RESULT. -/
def ACC_KSTAT_RESULT : FRef := ⟨rACC_KSTAT, 16, 14⟩
/-- ACC_KSTAT.VALID. -/
def ACC_KSTAT_VALID : FRef := ⟨rACC_KSTAT, 5, 0⟩
/-- Register ACC_CCMD. -/
def rACC_CCMD : Nat := 0xE820
/-- ACC_CCMD.OP. -/
def ACC_CCMD_OP : FRef := ⟨rACC_CCMD, 17, 14⟩
/-- ACC_CCMD.KLEN. -/
def ACC_CCMD_KLEN : FRef := ⟨rACC_CCMD, 13, 13⟩
/-- Register ACC_CSRC. -/
def rACC_CSRC : Nat := 0xE821
/-- ACC_CSRC.SRC. -/
def ACC_CSRC_SRC : FRef := ⟨rACC_CSRC, 17, 0⟩
/-- Register ACC_CLEN. -/
def rACC_CLEN : Nat := 0xE822
/-- ACC_CLEN.LEN. -/
def ACC_CLEN_LEN : FRef := ⟨rACC_CLEN, 17, 0⟩
/-- Register ACC_CDST. -/
def rACC_CDST : Nat := 0xE823
/-- ACC_CDST.DST. -/
def ACC_CDST_DST : FRef := ⟨rACC_CDST, 17, 0⟩
/-- Register ACC_CKEY. -/
def rACC_CKEY : Nat := 0xE824
/-- ACC_CKEY.KEY. -/
def ACC_CKEY_KEY : FRef := ⟨rACC_CKEY, 17, 0⟩
/-- Register ACC_CSTAT. -/
def rACC_CSTAT : Nat := 0xE825
/-- ACC_CSTAT.BUSY. -/
def ACC_CSTAT_BUSY : FRef := ⟨rACC_CSTAT, 17, 17⟩
/-- ACC_CSTAT.RESULT. -/
def ACC_CSTAT_RESULT : FRef := ⟨rACC_CSTAT, 16, 14⟩
/-- Register ACC_SLOT. -/
def rACC_SLOT (n : Nat) : Nat := 0xE900 + 0x10 * n
/-- ACC_SLOT.STATE. -/
def ACC_SLOT_STATE (n : Nat) : FRef := ⟨rACC_SLOT n, 17, 16⟩
/-- Register ACC_SIDH. -/
def rACC_SIDH (n : Nat) : Nat := 0xE901 + 0x10 * n
/-- ACC_SIDH.ID. -/
def ACC_SIDH_ID (n : Nat) : FRef := ⟨rACC_SIDH n, 15, 0⟩
/-- Register ACC_SIDL. -/
def rACC_SIDL (n : Nat) : Nat := 0xE902 + 0x10 * n
/-- ACC_SIDL.ID. -/
def ACC_SIDL_ID (n : Nat) : FRef := ⟨rACC_SIDL n, 15, 0⟩
/-- Register PCR_FLAG. -/
def rPCR_FLAG : Nat := 0x1000
/-- PCR_FLAG.WPEND. -/
def PCR_FLAG_WPEND : FRef := ⟨rPCR_FLAG, 17, 17⟩
/-- PCR_FLAG.XTALR. -/
def PCR_FLAG_XTALR : FRef := ⟨rPCR_FLAG, 6, 6⟩
/-- PCR_FLAG.CLKSW. -/
def PCR_FLAG_CLKSW : FRef := ⟨rPCR_FLAG, 5, 5⟩
/-- PCR_FLAG.KL30LO. -/
def PCR_FLAG_KL30LO : FRef := ⟨rPCR_FLAG, 4, 4⟩
/-- PCR_FLAG.FORCED. -/
def PCR_FLAG_FORCED : FRef := ⟨rPCR_FLAG, 3, 3⟩
/-- PCR_FLAG.REFD. -/
def PCR_FLAG_REFD : FRef := ⟨rPCR_FLAG, 2, 2⟩
/-- PCR_FLAG.WRREF. -/
def PCR_FLAG_WRREF : FRef := ⟨rPCR_FLAG, 1, 1⟩
/-- PCR_FLAG.ENCREF. -/
def PCR_FLAG_ENCREF : FRef := ⟨rPCR_FLAG, 0, 0⟩
/-- Register PCR_ENTRY. -/
def rPCR_ENTRY : Nat := 0x1001
/-- PCR_ENTRY.REQ. -/
def PCR_ENTRY_REQ : FRef := ⟨rPCR_ENTRY, 17, 16⟩
/-- PCR_ENTRY.FORCE. -/
def PCR_ENTRY_FORCE : FRef := ⟨rPCR_ENTRY, 15, 15⟩
/-- PCR_ENTRY.PHASE. -/
def PCR_ENTRY_PHASE : FRef := ⟨rPCR_ENTRY, 14, 12⟩
/-- Register PCR_ENTRYST. -/
def rPCR_ENTRYST : Nat := 0x1002
/-- PCR_ENTRYST.RESULT. -/
def PCR_ENTRYST_RESULT : FRef := ⟨rPCR_ENTRYST, 17, 15⟩
/-- PCR_ENTRYST.BLOCK. -/
def PCR_ENTRYST_BLOCK : FRef := ⟨rPCR_ENTRYST, 14, 11⟩
/-- PCR_ENTRYST.CAUSE. -/
def PCR_ENTRYST_CAUSE : FRef := ⟨rPCR_ENTRYST, 10, 3⟩
/-- Register PCR_BROWSE. -/
def rPCR_BROWSE : Nat := 0x1003
/-- PCR_BROWSE.A0DIV. -/
def PCR_BROWSE_A0DIV : FRef := ⟨rPCR_BROWSE, 17, 15⟩
/-- PCR_BROWSE.A1DIV. -/
def PCR_BROWSE_A1DIV : FRef := ⟨rPCR_BROWSE, 14, 12⟩
/-- Register PCR_DOMCTL. -/
def rPCR_DOMCTL : Nat := 0x1004
/-- PCR_DOMCTL.ZSWON. -/
def PCR_DOMCTL_ZSWON : FRef := ⟨rPCR_DOMCTL, 17, 17⟩
/-- Register PCR_CLK. -/
def rPCR_CLK : Nat := 0x1005
/-- PCR_CLK.XTALOK. -/
def PCR_CLK_XTALOK : FRef := ⟨rPCR_CLK, 17, 17⟩
/-- PCR_CLK.P0SRC. -/
def PCR_CLK_P0SRC : FRef := ⟨rPCR_CLK, 16, 16⟩
/-- PCR_CLK.LOCK. -/
def PCR_CLK_LOCK : FRef := ⟨rPCR_CLK, 15, 12⟩
/-- Register PCR_RAIL. -/
def rPCR_RAIL : Nat := 0x1006
/-- PCR_RAIL.OK. -/
def PCR_RAIL_OK : FRef := ⟨rPCR_RAIL, 17, 14⟩
/-- PCR_RAIL.INH. -/
def PCR_RAIL_INH : FRef := ⟨rPCR_RAIL, 13, 13⟩
/-- Register PCR_KL. -/
def rPCR_KL : Nat := 0x1007
/-- PCR_KL.KL15. -/
def PCR_KL_KL15 : FRef := ⟨rPCR_KL, 17, 17⟩
/-- PCR_KL.KL30LO. -/
def PCR_KL_KL30LO : FRef := ⟨rPCR_KL, 16, 16⟩
/-- Register PCR_EVT. -/
def rPCR_EVT : Nat := 0x1008
/-- PCR_EVT.EVT. -/
def PCR_EVT_EVT : FRef := ⟨rPCR_EVT, 14, 0⟩
/-- Register PCR_IEN. -/
def rPCR_IEN : Nat := 0x1009
/-- PCR_IEN.IEN. -/
def PCR_IEN_IEN : FRef := ⟨rPCR_IEN, 14, 0⟩
/-- Register PCR_WKEN. -/
def rPCR_WKEN : Nat := 0x1800
/-- PCR_WKEN.KL15ON. -/
def PCR_WKEN_KL15ON : FRef := ⟨rPCR_WKEN, 17, 17⟩
/-- PCR_WKEN.KL15OFF. -/
def PCR_WKEN_KL15OFF : FRef := ⟨rPCR_WKEN, 16, 16⟩
/-- PCR_WKEN.RTC. -/
def PCR_WKEN_RTC : FRef := ⟨rPCR_WKEN, 15, 15⟩
/-- PCR_WKEN.RING. -/
def PCR_WKEN_RING : FRef := ⟨rPCR_WKEN, 14, 14⟩
/-- PCR_WKEN.ACTF. -/
def PCR_WKEN_ACTF : FRef := ⟨rPCR_WKEN, 13, 13⟩
/-- PCR_WKEN.HOSTF. -/
def PCR_WKEN_HOSTF : FRef := ⟨rPCR_WKEN, 12, 12⟩
/-- PCR_WKEN.SVC. -/
def PCR_WKEN_SVC : FRef := ⟨rPCR_WKEN, 11, 11⟩
/-- PCR_WKEN.BRACE. -/
def PCR_WKEN_BRACE : FRef := ⟨rPCR_WKEN, 10, 10⟩
/-- Register PCR_RWAKE. -/
def rPCR_RWAKE : Nat := 0x1801
/-- PCR_RWAKE.GRP. -/
def PCR_RWAKE_GRP : FRef := ⟨rPCR_RWAKE, 15, 0⟩
/-- Register PCR_PAD. -/
def rPCR_PAD : Nat := 0x1802
/-- PCR_PAD.LAT. -/
def PCR_PAD_LAT : FRef := ⟨rPCR_PAD, 17, 13⟩
/-- PCR_PAD.REL. -/
def PCR_PAD_REL : FRef := ⟨rPCR_PAD, 4, 0⟩
/-- Register PCR_RCAUSE. -/
def rPCR_RCAUSE : Nat := 0x1803
/-- PCR_RCAUSE.CAUSE. -/
def PCR_RCAUSE_CAUSE : FRef := ⟨rPCR_RCAUSE, 17, 15⟩
/-- Register PCR_RTCH. -/
def rPCR_RTCH : Nat := 0x1804
/-- PCR_RTCH.SEC. -/
def PCR_RTCH_SEC : FRef := ⟨rPCR_RTCH, 15, 0⟩
/-- Register PCR_RTCL. -/
def rPCR_RTCL : Nat := 0x1805
/-- PCR_RTCL.SEC. -/
def PCR_RTCL_SEC : FRef := ⟨rPCR_RTCL, 15, 0⟩
/-- Register PCR_RTCS. -/
def rPCR_RTCS : Nat := 0x1806
/-- PCR_RTCS.SUB. -/
def PCR_RTCS_SUB : FRef := ⟨rPCR_RTCS, 14, 0⟩
/-- Register PCR_ALMH. -/
def rPCR_ALMH : Nat := 0x1807
/-- PCR_ALMH.ALM. -/
def PCR_ALMH_ALM : FRef := ⟨rPCR_ALMH, 15, 0⟩
/-- Register PCR_ALML. -/
def rPCR_ALML : Nat := 0x1808
/-- PCR_ALML.ALM. -/
def PCR_ALML_ALM : FRef := ⟨rPCR_ALML, 15, 0⟩
/-- Register PCR_LWAKE. -/
def rPCR_LWAKE : Nat := 0x1810
/-- PCR_LWAKE.SRC. -/
def PCR_LWAKE_SRC : FRef := ⟨rPCR_LWAKE, 17, 12⟩
/-- PCR_LWAKE.FROM. -/
def PCR_LWAKE_FROM : FRef := ⟨rPCR_LWAKE, 11, 10⟩
/-- PCR_LWAKE.DUR. -/
def PCR_LWAKE_DUR : FRef := ⟨rPCR_LWAKE, 9, 9⟩
/-- PCR_LWAKE.ZV. -/
def PCR_LWAKE_ZV : FRef := ⟨rPCR_LWAKE, 8, 8⟩
/-- PCR_LWAKE.DETAIL. -/
def PCR_LWAKE_DETAIL : FRef := ⟨rPCR_LWAKE, 7, 0⟩
/-- Register PCR_LWRH. -/
def rPCR_LWRH : Nat := 0x1811
/-- PCR_LWRH.SEC. -/
def PCR_LWRH_SEC : FRef := ⟨rPCR_LWRH, 15, 0⟩
/-- Register PCR_LWRL. -/
def rPCR_LWRL : Nat := 0x1812
/-- PCR_LWRL.SEC. -/
def PCR_LWRL_SEC : FRef := ⟨rPCR_LWRL, 15, 0⟩
/-- Register PCR_LWRS. -/
def rPCR_LWRS : Nat := 0x1813
/-- PCR_LWRS.SUB. -/
def PCR_LWRS_SUB : FRef := ⟨rPCR_LWRS, 14, 0⟩
/-- Register PCR_LWZ3. -/
def rPCR_LWZ3 : Nat := 0x1814
/-- PCR_LWZ3.ZT. -/
def PCR_LWZ3_ZT : FRef := ⟨rPCR_LWZ3, 15, 0⟩
/-- Register PCR_LWZ2. -/
def rPCR_LWZ2 : Nat := 0x1815
/-- PCR_LWZ2.ZT. -/
def PCR_LWZ2_ZT : FRef := ⟨rPCR_LWZ2, 15, 0⟩
/-- Register PCR_LWZ1. -/
def rPCR_LWZ1 : Nat := 0x1816
/-- PCR_LWZ1.ZT. -/
def PCR_LWZ1_ZT : FRef := ⟨rPCR_LWZ1, 15, 0⟩
/-- Register PCR_LWZ0. -/
def rPCR_LWZ0 : Nat := 0x1817
/-- PCR_LWZ0.ZT. -/
def PCR_LWZ0_ZT : FRef := ⟨rPCR_LWZ0, 15, 0⟩
/-- Register PCR_LREF. -/
def rPCR_LREF : Nat := 0x1818
/-- PCR_LREF.BLOCK. -/
def PCR_LREF_BLOCK : FRef := ⟨rPCR_LREF, 17, 14⟩
/-- PCR_LREF.CAUSE. -/
def PCR_LREF_CAUSE : FRef := ⟨rPCR_LREF, 13, 6⟩
/-- PCR_LREF.REQ. -/
def PCR_LREF_REQ : FRef := ⟨rPCR_LREF, 5, 4⟩
/-- PCR_LREF.ABORT. -/
def PCR_LREF_ABORT : FRef := ⟨rPCR_LREF, 3, 3⟩
/-- Register PCR_LRFH. -/
def rPCR_LRFH : Nat := 0x1819
/-- PCR_LRFH.SEC. -/
def PCR_LRFH_SEC : FRef := ⟨rPCR_LRFH, 15, 0⟩
/-- Register PCR_LRFL. -/
def rPCR_LRFL : Nat := 0x181A
/-- PCR_LRFL.SEC. -/
def PCR_LRFL_SEC : FRef := ⟨rPCR_LRFL, 15, 0⟩
/-- Register PCR_LCNT0. -/
def rPCR_LCNT0 : Nat := 0x181C
/-- PCR_LCNT0.CNTA. -/
def PCR_LCNT0_CNTA : FRef := ⟨rPCR_LCNT0, 17, 9⟩
/-- PCR_LCNT0.CNTB. -/
def PCR_LCNT0_CNTB : FRef := ⟨rPCR_LCNT0, 8, 0⟩
/-- Register PCR_LCNT1. -/
def rPCR_LCNT1 : Nat := 0x181D
/-- PCR_LCNT1.CNTA. -/
def PCR_LCNT1_CNTA : FRef := ⟨rPCR_LCNT1, 17, 9⟩
/-- PCR_LCNT1.CNTB. -/
def PCR_LCNT1_CNTB : FRef := ⟨rPCR_LCNT1, 8, 0⟩
/-- Register PCR_LCNT2. -/
def rPCR_LCNT2 : Nat := 0x181E
/-- PCR_LCNT2.CNTA. -/
def PCR_LCNT2_CNTA : FRef := ⟨rPCR_LCNT2, 17, 9⟩
/-- PCR_LCNT2.CNTB. -/
def PCR_LCNT2_CNTB : FRef := ⟨rPCR_LCNT2, 8, 0⟩
/-- Register PCR_LWCNT. -/
def rPCR_LWCNT : Nat := 0x181F
/-- PCR_LWCNT.WAKES. -/
def PCR_LWCNT_WAKES : FRef := ⟨rPCR_LWCNT, 17, 9⟩
/-- PCR_LWCNT.DURING. -/
def PCR_LWCNT_DURING : FRef := ⟨rPCR_LWCNT, 8, 0⟩
/-- Register PCR_WSRC. -/
def rPCR_WSRC : Nat := 0x1820
/-- PCR_WSRC.SRC. -/
def PCR_WSRC_SRC : FRef := ⟨rPCR_WSRC, 15, 0⟩
/-- Register FLT_FST. -/
def rFLT_FST (n : Nat) : Nat := 0xF000 + 0x10 * n
/-- FLT_FST.ANY. -/
def FLT_FST_ANY (n : Nat) : FRef := ⟨rFLT_FST n, 17, 17⟩
/-- FLT_FST.LEVEL. -/
def FLT_FST_LEVEL (n : Nat) : FRef := ⟨rFLT_FST n, 16, 14⟩
/-- FLT_FST.STALE. -/
def FLT_FST_STALE (n : Nat) : FRef := ⟨rFLT_FST n, 13, 13⟩
/-- FLT_FST.LOGN. -/
def FLT_FST_LOGN (n : Nat) : FRef := ⟨rFLT_FST n, 12, 9⟩
/-- FLT_FST.FENCED. -/
def FLT_FST_FENCED (n : Nat) : FRef := ⟨rFLT_FST n, 8, 0⟩
/-- Register FLT_FPEND. -/
def rFLT_FPEND (n : Nat) : Nat := 0xF001 + 0x10 * n
/-- FLT_FPEND.PEND. -/
def FLT_FPEND_PEND (n : Nat) : FRef := ⟨rFLT_FPEND n, 17, 0⟩
/-- Register FLT_FSTKY. -/
def rFLT_FSTKY (n : Nat) : Nat := 0xF002 + 0x10 * n
/-- FLT_FSTKY.STICKY. -/
def FLT_FSTKY_STICKY (n : Nat) : FRef := ⟨rFLT_FSTKY n, 17, 0⟩
/-- Register FLT_FOVF. -/
def rFLT_FOVF (n : Nat) : Nat := 0xF003 + 0x10 * n
/-- FLT_FOVF.OVF. -/
def FLT_FOVF_OVF (n : Nat) : FRef := ⟨rFLT_FOVF n, 17, 9⟩
/-- FLT_FOVF.ESCN. -/
def FLT_FOVF_ESCN (n : Nat) : FRef := ⟨rFLT_FOVF n, 8, 0⟩
/-- Register FLT_FACK. -/
def rFLT_FACK (n : Nat) : Nat := 0xF004 + 0x10 * n
/-- FLT_FACK.ACK. -/
def FLT_FACK_ACK (n : Nat) : FRef := ⟨rFLT_FACK n, 17, 0⟩
/-- Register FLT_FREL. -/
def rFLT_FREL (n : Nat) : Nat := 0xF005 + 0x10 * n
/-- FLT_FREL.CLRSTK. -/
def FLT_FREL_CLRSTK (n : Nat) : FRef := ⟨rFLT_FREL n, 17, 17⟩
/-- FLT_FREL.REL. -/
def FLT_FREL_REL (n : Nat) : FRef := ⟨rFLT_FREL n, 3, 0⟩
/-- Register FLT_FCTL. -/
def rFLT_FCTL (n : Nat) : Nat := 0xF006 + 0x10 * n
/-- FLT_FCTL.ILVL. -/
def FLT_FCTL_ILVL (n : Nat) : FRef := ⟨rFLT_FCTL n, 17, 15⟩
/-- FLT_FCTL.TRB. -/
def FLT_FCTL_TRB (n : Nat) : FRef := ⟨rFLT_FCTL n, 14, 14⟩
/-- FLT_FCTL.TRC. -/
def FLT_FCTL_TRC (n : Nat) : FRef := ⟨rFLT_FCTL n, 13, 13⟩
/-- Register FLT_FESC. -/
def rFLT_FESC (n : Nat) : Nat := 0xF007 + 0x10 * n
/-- FLT_FESC.ESCEN. -/
def FLT_FESC_ESCEN (n : Nat) : FRef := ⟨rFLT_FESC n, 17, 0⟩
/-- Register FLT_LOGA. -/
def rFLT_LOGA (n : Nat) (j : Nat) : Nat := 0xF100 + 32 * n + 4 * j
/-- FLT_LOGA.CLASS. -/
def FLT_LOGA_CLASS (n : Nat) (j : Nat) : FRef := ⟨rFLT_LOGA n j, 17, 12⟩
/-- FLT_LOGA.LEVEL. -/
def FLT_LOGA_LEVEL (n : Nat) (j : Nat) : FRef := ⟨rFLT_LOGA n j, 11, 9⟩
/-- FLT_LOGA.ESC. -/
def FLT_LOGA_ESC (n : Nat) (j : Nat) : FRef := ⟨rFLT_LOGA n j, 8, 8⟩
/-- FLT_LOGA.INST. -/
def FLT_LOGA_INST (n : Nat) (j : Nat) : FRef := ⟨rFLT_LOGA n j, 7, 0⟩
/-- Register FLT_LOGB. -/
def rFLT_LOGB (n : Nat) (j : Nat) : Nat := 0xF101 + 32 * n + 4 * j
/-- FLT_LOGB.TH. -/
def FLT_LOGB_TH (n : Nat) (j : Nat) : FRef := ⟨rFLT_LOGB n j, 17, 0⟩
/-- Register FLT_LOGC. -/
def rFLT_LOGC (n : Nat) (j : Nat) : Nat := 0xF102 + 32 * n + 4 * j
/-- FLT_LOGC.TL. -/
def FLT_LOGC_TL (n : Nat) (j : Nat) : FRef := ⟨rFLT_LOGC n j, 17, 0⟩
/-- Register FLT_LOGD. -/
def rFLT_LOGD (n : Nat) (j : Nat) : Nat := 0xF103 + 32 * n + 4 * j
/-- FLT_LOGD.TV. -/
def FLT_LOGD_TV (n : Nat) (j : Nat) : FRef := ⟨rFLT_LOGD n j, 17, 17⟩
/-- FLT_LOGD.FNC. -/
def FLT_LOGD_FNC (n : Nat) (j : Nat) : FRef := ⟨rFLT_LOGD n j, 16, 16⟩
/-- Register FLT_FFA. -/
def rFLT_FFA (n : Nat) (j : Nat) : Nat := 0xF300 + 64 * n + 3 * j
/-- FLT_FFA.VALID. -/
def FLT_FFA_VALID (n : Nat) (j : Nat) : FRef := ⟨rFLT_FFA n j, 17, 17⟩
/-- FLT_FFA.TV. -/
def FLT_FFA_TV (n : Nat) (j : Nat) : FRef := ⟨rFLT_FFA n j, 16, 16⟩
/-- FLT_FFA.LEVEL. -/
def FLT_FFA_LEVEL (n : Nat) (j : Nat) : FRef := ⟨rFLT_FFA n j, 11, 9⟩
/-- FLT_FFA.INST. -/
def FLT_FFA_INST (n : Nat) (j : Nat) : FRef := ⟨rFLT_FFA n j, 7, 0⟩
/-- Register FLT_FFB. -/
def rFLT_FFB (n : Nat) (j : Nat) : Nat := 0xF301 + 64 * n + 3 * j
/-- FLT_FFB.TH. -/
def FLT_FFB_TH (n : Nat) (j : Nat) : FRef := ⟨rFLT_FFB n j, 17, 0⟩
/-- Register FLT_FFC. -/
def rFLT_FFC (n : Nat) (j : Nat) : Nat := 0xF302 + 64 * n + 3 * j
/-- FLT_FFC.TL. -/
def FLT_FFC_TL (n : Nat) (j : Nat) : FRef := ⟨rFLT_FFC n j, 17, 0⟩
/-- Register FLT_GFLAG. -/
def rFLT_GFLAG : Nat := 0xF700
/-- FLT_GFLAG.OFFW. -/
def FLT_GFLAG_OFFW : FRef := ⟨rFLT_GFLAG, 4, 4⟩
/-- FLT_GFLAG.SHED. -/
def FLT_GFLAG_SHED : FRef := ⟨rFLT_GFLAG, 3, 3⟩
/-- FLT_GFLAG.MDROP. -/
def FLT_GFLAG_MDROP : FRef := ⟨rFLT_GFLAG, 2, 2⟩
/-- FLT_GFLAG.WRREF. -/
def FLT_GFLAG_WRREF : FRef := ⟨rFLT_GFLAG, 1, 1⟩
/-- FLT_GFLAG.ENCREF. -/
def FLT_GFLAG_ENCREF : FRef := ⟨rFLT_GFLAG, 0, 0⟩
/-- Register FLT_GCTL. -/
def rFLT_GCTL : Nat := 0xF701
/-- FLT_GCTL.LOCK. -/
def FLT_GCTL_LOCK : FRef := ⟨rFLT_GCTL, 17, 17⟩
/-- FLT_GCTL.L4RST. -/
def FLT_GCTL_L4RST : FRef := ⟨rFLT_GCTL, 16, 15⟩
/-- Register FLT_FLTN. -/
def rFLT_FLTN : Nat := 0xF702
/-- FLT_FLTN.MODE. -/
def FLT_FLTN_MODE : FRef := ⟨rFLT_FLTN, 17, 16⟩
/-- FLT_FLTN.LEVEL. -/
def FLT_FLTN_LEVEL : FRef := ⟨rFLT_FLTN, 15, 15⟩
/-- FLT_FLTN.MIN. -/
def FLT_FLTN_MIN : FRef := ⟨rFLT_FLTN, 14, 14⟩
/-- FLT_FLTN.L4S. -/
def FLT_FLTN_L4S : FRef := ⟨rFLT_FLTN, 13, 13⟩
/-- FLT_FLTN.CLR4. -/
def FLT_FLTN_CLR4 : FRef := ⟨rFLT_FLTN, 12, 12⟩
/-- Register FLT_UFCMD. -/
def rFLT_UFCMD : Nat := 0xF703
/-- FLT_UFCMD.GO. -/
def FLT_UFCMD_GO : FRef := ⟨rFLT_UFCMD, 17, 17⟩
/-- FLT_UFCMD.BLOCK. -/
def FLT_UFCMD_BLOCK : FRef := ⟨rFLT_UFCMD, 11, 8⟩
/-- FLT_UFCMD.INST. -/
def FLT_UFCMD_INST : FRef := ⟨rFLT_UFCMD, 7, 0⟩
/-- Register FLT_UFSTAT. -/
def rFLT_UFSTAT : Nat := 0xF704
/-- FLT_UFSTAT.RESULT. -/
def FLT_UFSTAT_RESULT : FRef := ⟨rFLT_UFSTAT, 17, 15⟩
/-- Register FLT_SUM. -/
def rFLT_SUM : Nat := 0xF705
/-- FLT_SUM.BLK. -/
def FLT_SUM_BLK : FRef := ⟨rFLT_SUM, 15, 0⟩
/-- Register FLT_SUM2. -/
def rFLT_SUM2 : Nat := 0xF706
/-- FLT_SUM2.BLK. -/
def FLT_SUM2_BLK : FRef := ⟨rFLT_SUM2, 15, 0⟩
/-- Register FLT_DEEP0. -/
def rFLT_DEEP0 : Nat := 0xF708
/-- FLT_DEEP0.BLOCK. -/
def FLT_DEEP0_BLOCK : FRef := ⟨rFLT_DEEP0, 17, 14⟩
/-- FLT_DEEP0.CLASS. -/
def FLT_DEEP0_CLASS : FRef := ⟨rFLT_DEEP0, 13, 8⟩
/-- FLT_DEEP0.LEVEL. -/
def FLT_DEEP0_LEVEL : FRef := ⟨rFLT_DEEP0, 7, 5⟩
/-- FLT_DEEP0.CNT. -/
def FLT_DEEP0_CNT : FRef := ⟨rFLT_DEEP0, 4, 0⟩
/-- Register FLT_DEEP1. -/
def rFLT_DEEP1 : Nat := 0xF709
/-- FLT_DEEP1.INST. -/
def FLT_DEEP1_INST : FRef := ⟨rFLT_DEEP1, 7, 0⟩
/-- Register FLT_DEEP2. -/
def rFLT_DEEP2 : Nat := 0xF70A
/-- FLT_DEEP2.SEC. -/
def FLT_DEEP2_SEC : FRef := ⟨rFLT_DEEP2, 15, 0⟩
/-- Register FLT_DEEP3. -/
def rFLT_DEEP3 : Nat := 0xF70B
/-- FLT_DEEP3.SEC. -/
def FLT_DEEP3_SEC : FRef := ⟨rFLT_DEEP3, 15, 0⟩
/-- Register FLT_SPCTL. -/
def rFLT_SPCTL : Nat := 0xF710
/-- FLT_SPCTL.EN. -/
def FLT_SPCTL_EN : FRef := ⟨rFLT_SPCTL, 17, 17⟩
/-- FLT_SPCTL.MIR. -/
def FLT_SPCTL_MIR : FRef := ⟨rFLT_SPCTL, 16, 16⟩
/-- Register FLT_SPSTAT. -/
def rFLT_SPSTAT : Nat := 0xF711
/-- FLT_SPSTAT.FILL. -/
def FLT_SPSTAT_FILL : FRef := ⟨rFLT_SPSTAT, 17, 7⟩
/-- Register FLT_SPSHD. -/
def rFLT_SPSHD : Nat := 0xF712
/-- FLT_SPSHD.SHED. -/
def FLT_SPSHD_SHED : FRef := ⟨rFLT_SPSHD, 17, 9⟩
/-- FLT_SPSHD.MDROP. -/
def FLT_SPSHD_MDROP : FRef := ⟨rFLT_SPSHD, 8, 0⟩
/-- Register FLT_SWTRC. -/
def rFLT_SWTRC : Nat := 0xF713
/-- FLT_SWTRC.DATA. -/
def FLT_SWTRC_DATA : FRef := ⟨rFLT_SWTRC, 17, 0⟩
/-- Register FLT_SPDA0. -/
def rFLT_SPDA0 : Nat := 0xF714
/-- FLT_SPDA0.DA. -/
def FLT_SPDA0_DA : FRef := ⟨rFLT_SPDA0, 15, 0⟩
/-- Register FLT_SPDA1. -/
def rFLT_SPDA1 : Nat := 0xF715
/-- FLT_SPDA1.DA. -/
def FLT_SPDA1_DA : FRef := ⟨rFLT_SPDA1, 15, 0⟩
/-- Register FLT_SPDA2. -/
def rFLT_SPDA2 : Nat := 0xF716
/-- FLT_SPDA2.DA. -/
def FLT_SPDA2_DA : FRef := ⟨rFLT_SPDA2, 15, 0⟩
/-- Register FLT_SPVL. -/
def rFLT_SPVL : Nat := 0xF717
/-- FLT_SPVL.PCP. -/
def FLT_SPVL_PCP : FRef := ⟨rFLT_SPVL, 14, 12⟩
/-- FLT_SPVL.VID. -/
def FLT_SPVL_VID : FRef := ⟨rFLT_SPVL, 11, 0⟩
/-- Register ICU_LBCTL. -/
def rICU_LBCTL : Nat := 0x30000 + 0xF00
/-- ICU_LBCTL.START. -/
def ICU_LBCTL_START : FRef := ⟨rICU_LBCTL, 17, 17⟩
/-- ICU_LBCTL.CANCEL. -/
def ICU_LBCTL_CANCEL : FRef := ⟨rICU_LBCTL, 16, 16⟩
/-- ICU_LBCTL.TGT. -/
def ICU_LBCTL_TGT : FRef := ⟨rICU_LBCTL, 15, 14⟩
/-- Register ICU_LBSTAT. -/
def rICU_LBSTAT : Nat := 0x30000 + 0xF01
/-- ICU_LBSTAT.A0. -/
def ICU_LBSTAT_A0 : FRef := ⟨rICU_LBSTAT, 17, 15⟩
/-- ICU_LBSTAT.A1. -/
def ICU_LBSTAT_A1 : FRef := ⟨rICU_LBSTAT, 14, 12⟩
/-- Register FLT_IMCTL. -/
def rFLT_IMCTL : Nat := 0xFC00
/-- FLT_IMCTL.EN. -/
def FLT_IMCTL_EN : FRef := ⟨rFLT_IMCTL, 17, 17⟩
/-- FLT_IMCTL.DNGR. -/
def FLT_IMCTL_DNGR : FRef := ⟨rFLT_IMCTL, 16, 16⟩
/-- FLT_IMCTL.LVOVR. -/
def FLT_IMCTL_LVOVR : FRef := ⟨rFLT_IMCTL, 15, 15⟩
/-- FLT_IMCTL.VMODE. -/
def FLT_IMCTL_VMODE : FRef := ⟨rFLT_IMCTL, 14, 13⟩
/-- Register FLT_IMSTAT. -/
def rFLT_IMSTAT : Nat := 0xFC01
/-- FLT_IMSTAT.STATE. -/
def FLT_IMSTAT_STATE : FRef := ⟨rFLT_IMSTAT, 17, 15⟩
/-- FLT_IMSTAT.SRC. -/
def FLT_IMSTAT_SRC : FRef := ⟨rFLT_IMSTAT, 14, 13⟩
/-- FLT_IMSTAT.PASS. -/
def FLT_IMSTAT_PASS : FRef := ⟨rFLT_IMSTAT, 12, 12⟩
/-- FLT_IMSTAT.SLOT. -/
def FLT_IMSTAT_SLOT : FRef := ⟨rFLT_IMSTAT, 11, 10⟩
/-- FLT_IMSTAT.LAST. -/
def FLT_IMSTAT_LAST : FRef := ⟨rFLT_IMSTAT, 9, 5⟩
/-- FLT_IMSTAT.BANK. -/
def FLT_IMSTAT_BANK : FRef := ⟨rFLT_IMSTAT, 4, 4⟩
/-- FLT_IMSTAT.NDOWN. -/
def FLT_IMSTAT_NDOWN : FRef := ⟨rFLT_IMSTAT, 3, 0⟩
/-- Register FLT_IMPROG. -/
def rFLT_IMPROG : Nat := 0xFC02
/-- FLT_IMPROG.NEXT. -/
def FLT_IMPROG_NEXT : FRef := ⟨rFLT_IMPROG, 15, 0⟩
/-- Register FLT_IMNBLK. -/
def rFLT_IMNBLK : Nat := 0xFC03
/-- FLT_IMNBLK.N. -/
def FLT_IMNBLK_N : FRef := ⟨rFLT_IMNBLK, 15, 0⟩
/-- Register FLT_IMSID. -/
def rFLT_IMSID : Nat := 0xFC04
/-- FLT_IMSID.SID. -/
def FLT_IMSID_SID : FRef := ⟨rFLT_IMSID, 15, 0⟩
/-- Register FLT_IMCMD. -/
def rFLT_IMCMD : Nat := 0xFC05
/-- FLT_IMCMD.CLOSE. -/
def FLT_IMCMD_CLOSE : FRef := ⟨rFLT_IMCMD, 17, 17⟩
/-- FLT_IMCMD.CONFINACT. -/
def FLT_IMCMD_CONFINACT : FRef := ⟨rFLT_IMCMD, 16, 16⟩
/-- Register FLT_IMSPD. -/
def rFLT_IMSPD : Nat := 0xFC06
/-- FLT_IMSPD.SPD. -/
def FLT_IMSPD_SPD : FRef := ⟨rFLT_IMSPD, 15, 0⟩
/-- Register FLT_IMVS0. -/
def rFLT_IMVS0 : Nat := 0xFC08
/-- FLT_IMVS0.IDE. -/
def FLT_IMVS0_IDE : FRef := ⟨rFLT_IMVS0, 17, 17⟩
/-- FLT_IMVS0.CH. -/
def FLT_IMVS0_CH : FRef := ⟨rFLT_IMVS0, 16, 13⟩
/-- FLT_IMVS0.IDH. -/
def FLT_IMVS0_IDH : FRef := ⟨rFLT_IMVS0, 12, 0⟩
/-- Register FLT_IMVS1. -/
def rFLT_IMVS1 : Nat := 0xFC09
/-- FLT_IMVS1.IDL. -/
def FLT_IMVS1_IDL : FRef := ⟨rFLT_IMVS1, 15, 0⟩
/-- Register FLT_IMVS2. -/
def rFLT_IMVS2 : Nat := 0xFC0A
/-- FLT_IMVS2.BYTE. -/
def FLT_IMVS2_BYTE : FRef := ⟨rFLT_IMVS2, 17, 12⟩
/-- FLT_IMVS2.LEN. -/
def FLT_IMVS2_LEN : FRef := ⟨rFLT_IMVS2, 11, 8⟩
/-- Register FLT_IMVS3. -/
def rFLT_IMVS3 : Nat := 0xFC0B
/-- FLT_IMVS3.THR. -/
def FLT_IMVS3_THR : FRef := ⟨rFLT_IMVS3, 15, 0⟩
/-- Register FLT_IMDCFG. -/
def rFLT_IMDCFG : Nat := 0xFC0C
/-- FLT_IMDCFG.PCP. -/
def FLT_IMDCFG_PCP : FRef := ⟨rFLT_IMDCFG, 14, 12⟩
/-- FLT_IMDCFG.VID. -/
def FLT_IMDCFG_VID : FRef := ⟨rFLT_IMDCFG, 11, 0⟩
/-- Register FLT_IMEVT. -/
def rFLT_IMEVT : Nat := 0xFC0D
/-- FLT_IMEVT.EVT. -/
def FLT_IMEVT_EVT : FRef := ⟨rFLT_IMEVT, 5, 0⟩
/-- Register FLT_IMIEN. -/
def rFLT_IMIEN : Nat := 0xFC0E
/-- FLT_IMIEN.IEN. -/
def FLT_IMIEN_IEN : FRef := ⟨rFLT_IMIEN, 5, 0⟩
/-- Register FLT_IMCNT. -/
def rFLT_IMCNT : Nat := 0xFC0F
/-- FLT_IMCNT.DISC. -/
def FLT_IMCNT_DISC : FRef := ⟨rFLT_IMCNT, 17, 12⟩
/-- FLT_IMCNT.BFAIL. -/
def FLT_IMCNT_BFAIL : FRef := ⟨rFLT_IMCNT, 11, 6⟩
/-- FLT_IMCNT.DROP. -/
def FLT_IMCNT_DROP : FRef := ⟨rFLT_IMCNT, 5, 0⟩
/-- Register FLT_IMMIG. -/
def rFLT_IMMIG : Nat := 0xFC10
/-- FLT_IMMIG.RESULT. -/
def FLT_IMMIG_RESULT : FRef := ⟨rFLT_IMMIG, 17, 15⟩
/-- FLT_IMMIG.FROM. -/
def FLT_IMMIG_FROM : FRef := ⟨rFLT_IMMIG, 11, 0⟩
/-- Register FLT_IMMGRP. -/
def rFLT_IMMGRP : Nat := 0xFC11
/-- FLT_IMMGRP.GRP. -/
def FLT_IMMGRP_GRP : FRef := ⟨rFLT_IMMGRP, 15, 0⟩
/-- Register FLT_IMCONF. -/
def rFLT_IMCONF : Nat := 0xFC20
/-- FLT_IMCONF.REQ. -/
def FLT_IMCONF_REQ : FRef := ⟨rFLT_IMCONF, 17, 17⟩
/-- FLT_IMCONF.BANK. -/
def FLT_IMCONF_BANK : FRef := ⟨rFLT_IMCONF, 16, 16⟩
/-- Register FLT_IMDRV. -/
def rFLT_IMDRV (n : Nat) : Nat := 0xFC40 + 0x10 * n
/-- FLT_IMDRV.DIR. -/
def FLT_IMDRV_DIR (n : Nat) : FRef := ⟨rFLT_IMDRV n, 17, 16⟩
/-- Register FLT_IMDMAC0. -/
def rFLT_IMDMAC0 (n : Nat) : Nat := 0xFC41 + 0x10 * n
/-- FLT_IMDMAC0.MAC. -/
def FLT_IMDMAC0_MAC (n : Nat) : FRef := ⟨rFLT_IMDMAC0 n, 15, 0⟩
/-- Register FLT_IMDMAC1. -/
def rFLT_IMDMAC1 (n : Nat) : Nat := 0xFC42 + 0x10 * n
/-- FLT_IMDMAC1.MAC. -/
def FLT_IMDMAC1_MAC (n : Nat) : FRef := ⟨rFLT_IMDMAC1 n, 15, 0⟩
/-- Register FLT_IMDMAC2. -/
def rFLT_IMDMAC2 (n : Nat) : Nat := 0xFC43 + 0x10 * n
/-- FLT_IMDMAC2.MAC. -/
def FLT_IMDMAC2_MAC (n : Nat) : FRef := ⟨rFLT_IMDMAC2 n, 15, 0⟩
/-- Register FLT_IMDST. -/
def rFLT_IMDST (n : Nat) : Nat := 0xFC44 + 0x10 * n
/-- FLT_IMDST.STATE. -/
def FLT_IMDST_STATE (n : Nat) : FRef := ⟨rFLT_IMDST n, 17, 16⟩
/-- FLT_IMDST.NEXT. -/
def FLT_IMDST_NEXT (n : Nat) : FRef := ⟨rFLT_IMDST n, 15, 0⟩
/-- Register BRC_FLAG. -/
def rBRC_FLAG : Nat := 0xF800
/-- BRC_FLAG.ENCREF. -/
def BRC_FLAG_ENCREF : FRef := ⟨rBRC_FLAG, 0, 0⟩
/-- Register BRC_CFG. -/
def rBRC_CFG : Nat := 0xF801
/-- BRC_CFG.EN. -/
def BRC_CFG_EN : FRef := ⟨rBRC_CFG, 17, 17⟩
/-- BRC_CFG.ROLE. -/
def BRC_CFG_ROLE : FRef := ⟨rBRC_CFG, 16, 16⟩
/-- BRC_CFG.TKSRC. -/
def BRC_CFG_TKSRC : FRef := ⟨rBRC_CFG, 15, 14⟩
/-- BRC_CFG.FSW. -/
def BRC_CFG_FSW : FRef := ⟨rBRC_CFG, 13, 8⟩
/-- BRC_CFG.TMISS. -/
def BRC_CFG_TMISS : FRef := ⟨rBRC_CFG, 7, 6⟩
/-- BRC_CFG.QOK. -/
def BRC_CFG_QOK : FRef := ⟨rBRC_CFG, 5, 5⟩
/-- Register BRC_CMD. -/
def rBRC_CMD : Nat := 0xF802
/-- BRC_CMD.YIELD. -/
def BRC_CMD_YIELD : FRef := ⟨rBRC_CMD, 17, 17⟩
/-- BRC_CMD.HANDBACK. -/
def BRC_CMD_HANDBACK : FRef := ⟨rBRC_CMD, 16, 16⟩
/-- BRC_CMD.QUIET. -/
def BRC_CMD_QUIET : FRef := ⟨rBRC_CMD, 15, 15⟩
/-- BRC_CMD.WAKE. -/
def BRC_CMD_WAKE : FRef := ⟨rBRC_CMD, 14, 14⟩
/-- Register BRC_STAT. -/
def rBRC_STAT : Nat := 0xF803
/-- BRC_STAT.STATE. -/
def BRC_STAT_STATE : FRef := ⟨rBRC_STAT, 17, 15⟩
/-- BRC_STAT.ACT. -/
def BRC_STAT_ACT : FRef := ⟨rBRC_STAT, 14, 14⟩
/-- BRC_STAT.EROLE. -/
def BRC_STAT_EROLE : FRef := ⟨rBRC_STAT, 13, 13⟩
/-- BRC_STAT.PLVL. -/
def BRC_STAT_PLVL : FRef := ⟨rBRC_STAT, 12, 10⟩
/-- BRC_STAT.RXSEQ. -/
def BRC_STAT_RXSEQ : FRef := ⟨rBRC_STAT, 9, 2⟩
/-- Register BRC_EVT. -/
def rBRC_EVT : Nat := 0xF804
/-- BRC_EVT.EVT. -/
def BRC_EVT_EVT : FRef := ⟨rBRC_EVT, 6, 0⟩
/-- Register BRC_IEN. -/
def rBRC_IEN : Nat := 0xF805
/-- BRC_IEN.IEN. -/
def BRC_IEN_IEN : FRef := ⟨rBRC_IEN, 6, 0⟩
/-- Register BRC_CNT. -/
def rBRC_CNT : Nat := 0xF806
/-- BRC_CNT.CRC. -/
def BRC_CNT_CRC : FRef := ⟨rBRC_CNT, 17, 9⟩
/-- BRC_CNT.MISS. -/
def BRC_CNT_MISS : FRef := ⟨rBRC_CNT, 8, 0⟩
/-- Register BRC_MIR. -/
def rBRC_MIR (n : Nat) : Nat := 0xF810 + 0x10 * n
/-- BRC_MIR.EN. -/
def BRC_MIR_EN (n : Nat) : FRef := ⟨rBRC_MIR n, 17, 17⟩
/-- BRC_MIR.LOCAL. -/
def BRC_MIR_LOCAL (n : Nat) : FRef := ⟨rBRC_MIR n, 16, 12⟩
/-- BRC_MIR.PART. -/
def BRC_MIR_PART (n : Nat) : FRef := ⟨rBRC_MIR n, 11, 7⟩
/-- Register BRC_MST. -/
def rBRC_MST (n : Nat) : Nat := 0xF811 + 0x10 * n
/-- BRC_MST.VALID. -/
def BRC_MST_VALID (n : Nat) : FRef := ⟨rBRC_MST n, 17, 17⟩
/-- BRC_MST.TAKEN. -/
def BRC_MST_TAKEN (n : Nat) : FRef := ⟨rBRC_MST n, 16, 16⟩
/-- BRC_MST.LOST. -/
def BRC_MST_LOST (n : Nat) : FRef := ⟨rBRC_MST n, 15, 15⟩
/-- BRC_MST.OL. -/
def BRC_MST_OL (n : Nat) : FRef := ⟨rBRC_MST n, 14, 12⟩
/-- BRC_MST.PSTATE. -/
def BRC_MST_PSTATE (n : Nat) : FRef := ⟨rBRC_MST n, 11, 8⟩
/-- BRC_MST.PLCAUSE. -/
def BRC_MST_PLCAUSE (n : Nat) : FRef := ⟨rBRC_MST n, 7, 6⟩
/-- Register BRC_MD. -/
def rBRC_MD (n : Nat) : Nat := 0xF812 + 0x10 * n
/-- BRC_MD.D. -/
def BRC_MD_D (n : Nat) : FRef := ⟨rBRC_MD n, 17, 0⟩
/-- Register ICU_FLAG. -/
def rICU_FLAG (c : Nat) : Nat := 0x10000 * (c + 1) + 0x0
/-- ICU_FLAG.DOMOFF. -/
def ICU_FLAG_DOMOFF (c : Nat) : FRef := ⟨rICU_FLAG c, 3, 3⟩
/-- ICU_FLAG.RSVACC. -/
def ICU_FLAG_RSVACC (c : Nat) : FRef := ⟨rICU_FLAG c, 2, 2⟩
/-- ICU_FLAG.WRREF. -/
def ICU_FLAG_WRREF (c : Nat) : FRef := ⟨rICU_FLAG c, 1, 1⟩
/-- ICU_FLAG.ENCREF. -/
def ICU_FLAG_ENCREF (c : Nat) : FRef := ⟨rICU_FLAG c, 0, 0⟩
/-- Register ICU_RSVA. -/
def rICU_RSVA (c : Nat) : Nat := 0x10000 * (c + 1) + 0x1
/-- ICU_RSVA.ADDR. -/
def ICU_RSVA_ADDR (c : Nat) : FRef := ⟨rICU_RSVA c, 15, 0⟩
/-- Register ICU_DOMA. -/
def rICU_DOMA (c : Nat) : Nat := 0x10000 * (c + 1) + 0x2
/-- ICU_DOMA.ADDR. -/
def ICU_DOMA_ADDR (c : Nat) : FRef := ⟨rICU_DOMA c, 15, 0⟩
/-- Register ICU_CORE. -/
def rICU_CORE (c : Nat) : Nat := 0x10000 * (c + 1) + 0x3
/-- ICU_CORE.CID. -/
def ICU_CORE_CID (c : Nat) : FRef := ⟨rICU_CORE c, 17, 16⟩
/-- Register ICU_CLAIM. -/
def rICU_CLAIM (c : Nat) : Nat := 0x10000 * (c + 1) + 0x4
/-- ICU_CLAIM.VALID. -/
def ICU_CLAIM_VALID (c : Nat) : FRef := ⟨rICU_CLAIM c, 17, 17⟩
/-- ICU_CLAIM.LEVEL. -/
def ICU_CLAIM_LEVEL (c : Nat) : FRef := ⟨rICU_CLAIM c, 11, 8⟩
/-- ICU_CLAIM.SRC. -/
def ICU_CLAIM_SRC (c : Nat) : FRef := ⟨rICU_CLAIM c, 7, 0⟩
/-- Register ICU_CMSEL. -/
def rICU_CMSEL (c : Nat) : Nat := 0x10000 * (c + 1) + 0x5
/-- ICU_CMSEL.CMSEL. -/
def ICU_CMSEL_CMSEL (c : Nat) : FRef := ⟨rICU_CMSEL c, 15, 0⟩
/-- Register ICU_SWI. -/
def rICU_SWI (c : Nat) : Nat := 0x10000 * (c + 1) + 0x6
/-- ICU_SWI.SET. -/
def ICU_SWI_SET (c : Nat) : FRef := ⟨rICU_SWI c, 7, 4⟩
/-- ICU_SWI.PEND. -/
def ICU_SWI_PEND (c : Nat) : FRef := ⟨rICU_SWI c, 3, 0⟩
/-- Register ICU_PEND. -/
def rICU_PEND (c : Nat) (n : Nat) : Nat := 0x10000 * (c + 1) + 0x10 + n
/-- ICU_PEND.PEND. -/
def ICU_PEND_PEND (c : Nat) (n : Nat) : FRef := ⟨rICU_PEND c n, 15, 0⟩
/-- Register ICU_MCTL. -/
def rICU_MCTL (c : Nat) : Nat := 0x10000 * (c + 1) + 0x20
/-- ICU_MCTL.LOCK. -/
def ICU_MCTL_LOCK (c : Nat) : FRef := ⟨rICU_MCTL c, 17, 17⟩
/-- ICU_MCTL.DEF. -/
def ICU_MCTL_DEF (c : Nat) : FRef := ⟨rICU_MCTL c, 16, 16⟩
/-- Register ICU_MBASE. -/
def rICU_MBASE (c : Nat) (n : Nat) : Nat := 0x10000 * (c + 1) + 0x100 + 0x10 * n
/-- ICU_MBASE.BASE. -/
def ICU_MBASE_BASE (c : Nat) (n : Nat) : FRef := ⟨rICU_MBASE c n, 17, 0⟩
/-- Register ICU_MLIM. -/
def rICU_MLIM (c : Nat) (n : Nat) : Nat := 0x10000 * (c + 1) + 0x101 + 0x10 * n
/-- ICU_MLIM.LIM. -/
def ICU_MLIM_LIM (c : Nat) (n : Nat) : FRef := ⟨rICU_MLIM c n, 17, 0⟩
/-- Register ICU_MATR. -/
def rICU_MATR (c : Nat) (n : Nat) : Nat := 0x10000 * (c + 1) + 0x102 + 0x10 * n
/-- ICU_MATR.EN. -/
def ICU_MATR_EN (c : Nat) (n : Nat) : FRef := ⟨rICU_MATR c n, 17, 17⟩
/-- ICU_MATR.SP. -/
def ICU_MATR_SP (c : Nat) (n : Nat) : FRef := ⟨rICU_MATR c n, 16, 16⟩
/-- ICU_MATR.R. -/
def ICU_MATR_R (c : Nat) (n : Nat) : FRef := ⟨rICU_MATR c n, 15, 15⟩
/-- ICU_MATR.W. -/
def ICU_MATR_W (c : Nat) (n : Nat) : FRef := ⟨rICU_MATR c n, 14, 14⟩
/-- Register ICU_RT. -/
def rICU_RT (n : Nat) : Nat := 0x30000 + 0x400 + n
/-- ICU_RT.RT2. -/
def ICU_RT_RT2 (n : Nat) : FRef := ⟨rICU_RT n, 17, 12⟩
/-- ICU_RT.RT1. -/
def ICU_RT_RT1 (n : Nat) : FRef := ⟨rICU_RT n, 11, 6⟩
/-- ICU_RT.RT0. -/
def ICU_RT_RT0 (n : Nat) : FRef := ⟨rICU_RT n, 5, 0⟩
/-- Register ICU_ACTL. -/
def rICU_ACTL (n : Nat) : Nat := 0x30000 + 0xE00 + 0x10 * n
/-- ICU_ACTL.HOLD. -/
def ICU_ACTL_HOLD (n : Nat) : FRef := ⟨rICU_ACTL n, 17, 17⟩
/-- ICU_ACTL.STATE. -/
def ICU_ACTL_STATE (n : Nat) : FRef := ⟨rICU_ACTL n, 16, 14⟩
/-- ICU_ACTL.RVH. -/
def ICU_ACTL_RVH (n : Nat) : FRef := ⟨rICU_ACTL n, 2, 0⟩
/-- Register ICU_ARVL. -/
def rICU_ARVL (n : Nat) : Nat := 0x30000 + 0xE01 + 0x10 * n
/-- ICU_ARVL.RVL. -/
def ICU_ARVL_RVL (n : Nat) : FRef := ⟨rICU_ARVL n, 17, 0⟩
/-- Register ICU_AVBR. -/
def rICU_AVBR (n : Nat) : Nat := 0x30000 + 0xE02 + 0x10 * n
/-- ICU_AVBR.AVBR. -/
def ICU_AVBR_AVBR (n : Nat) : FRef := ⟨rICU_AVBR n, 17, 0⟩
/-- Register ICU_LSCTL. -/
def rICU_LSCTL : Nat := 0x30000 + 0xE20
/-- ICU_LSCTL.TEST. -/
def ICU_LSCTL_TEST : FRef := ⟨rICU_LSCTL, 17, 17⟩
/-- ICU_LSCTL.TOK. -/
def ICU_LSCTL_TOK : FRef := ⟨rICU_LSCTL, 16, 16⟩

end Sys2Proof.Machine
end

