-- ==== Sys2Proof/Machine/SMap.lean ====
section
/-! DEFINITION. Sparse storage in one canonical form: a list of key and value pairs with strictly rising keys and no
entry equal to what an unlisted key reads as. Every memory, register file and table of the machine is kept so, and equal
contents are equal lists. -/

namespace Sys2Proof.Machine

/-- Sparse storage keyed by numbers. -/
abbrev SMap (α : Type) := List (Nat × α)

/-- The listed value of a key. -/
def smFind {α : Type} (m : SMap α) (k : Nat) : Option α :=
  match m with
  | [] => none
  | (a, v) :: t => if a = k then some v else smFind t k

/-- What a key reads as: its listed value, or the default of its key. -/
def smGet {α : Type} (d : Nat → α) (m : SMap α) (k : Nat) : α := (smFind m k).getD (d k)

/-- The storage without a key. -/
def smErase {α : Type} (m : SMap α) (k : Nat) : SMap α :=
  match m with
  | [] => []
  | (a, v) :: t => if a = k then smErase t k else (a, v) :: smErase t k

/-- A key listed at its place in the rising order. -/
def smInsert {α : Type} (m : SMap α) (k : Nat) (v : α) : SMap α :=
  match m with
  | [] => [(k, v)]
  | (a, w) :: t => if k < a then (k, v) :: (a, w) :: t else (a, w) :: smInsert t k v

/-- A write: the default removes the entry. -/
def smPut {α : Type} [DecidableEq α] (d : Nat → α) (m : SMap α) (k : Nat) (v : α) : SMap α :=
  if v = d k then smErase m k else smInsert (smErase m k) k v

/-- The storage with only the keys that satisfy a test. -/
def smKeep {α : Type} (p : Nat → Bool) (m : SMap α) : SMap α := m.filter (fun e => p e.1)

/-- The canonical form, as a test. -/
def smWf {α : Type} [DecidableEq α] (d : Nat → α) (m : SMap α) : Bool :=
  decide (m.Pairwise (fun x y => x.1 < y.1)) && m.all (fun e => decide (e.2 ≠ d e.1))

end Sys2Proof.Machine
end

