-- ==== Sys2Proof/Machine/StateAcc.lean ====
section
/-! DEFINITION. What the access block keeps outside its registers: the LF channels, the key slots and the key store, the
learn session, the presence window and the running commands (R415 to R438). -/

namespace Sys2Proof.Machine

/-- What an LF channel's field waits for (R422 to R428, R438). -/
inductive LfStep where
  /-- no carrier -/
  | idle
  /-- a key's answer to WAKE or SELECT -/
  | wake
  /-- AUTHREP -/
  | challenge
  /-- the ACK of CONFIRM -/
  | confirm
  /-- the ACK of PERSONALISE -/
  | personalise
  /-- an open session without an access -/
  | session
  /-- DATA, or an ACK that refuses the page -/
  | read
  /-- the ACK of WRITE -/
  | write
  /-- the 1 ms carrier of DIAG -/
  | diag
  deriving DecidableEq, Repr

/-- An LF channel (R415 to R440). -/
structure LfCh where
  step : LfStep := .idle
  /-- the latch of a short, and THERM -/
  latched : Bool := false
  therm : Bool := false
  /-- the descriptor whose field it is -/
  own : Option Nat := none
  /-- downlink frames sent in this field, oldest first, each with its CRC (R418) -/
  down : List (List Byte) := []
  /-- SELECT's prefix in bits from bit 31 down, and its value -/
  preLen : Nat := 0
  preVal : Nat := 0
  /-- failed attempts and the IDs quieted in this session (R424) -/
  attempts : Nat := 0
  quieted : List Nat := []
  collided : Bool := false
  waited : Bool := false
  /-- a key has answered in this field -/
  heard : Bool := false
  /-- the winner: its ID, its slot, its secret and its session key -/
  id : Nat := 0
  slot : Nat := 0
  key : Nat := 0
  rb : Nat := 0
  rk : Nat := 0
  sk : Nat := 0
  /-- the session counter of R419 -/
  ctr : Nat := 0
  /-- the winner's slot changed after it won (R425) -/
  stale : Bool := false
  /-- the secret that PERSONALISE carries -/
  fresh : Nat := 0
  deriving DecidableEq, Repr

/-- The state of a key slot (R426). -/
inductive KeySt where
  | empty | enrolled | revoked
  deriving DecidableEq, Repr

/-- A key slot. -/
structure KeySlot where
  id : Nat := 0
  secret : Nat := 0
  st : KeySt := .empty
  deriving DecidableEq, Repr

/-- The access block's state outside its registers. -/
structure Immo where
  lf : SMap LfCh := []
  /-- the channel that carries a field (R416) -/
  field : Option Nat := none
  /-- the key store: key slots, entries 8 to 13, owner lock and enrolment generation (R436) -/
  slots : SMap KeySlot := []
  store : SMap Nat := []
  lock : Bool := false
  gen : Nat := 0
  /-- the presence window: 1/32768 s left while it is open (R431) -/
  pres : Option Nat := none
  /-- 1/32768 s for which the last SEARCH still gives key authority (R427) -/
  auth : Nat := 0
  /-- the learn session: the old slots, and 1/32768 s left (R428) -/
  shadow : Option (SMap KeySlot) := none
  learnLeft : Nat := 0
  /-- the nonce that NONCE issued and no token command has used, and 1/32768 s left (R430) -/
  nonce : Option Nat := none
  nonceLeft : Nat := 0
  /-- results of a running crypto command and a running key store command -/
  crypto : Option Nat := none
  kstore : Option Nat := none
  /-- causes of interrupt sources 236 to 238 (R442) -/
  evPres : Bool := false
  evEnrol : Bool := false
  evCrypto : Bool := false
  deriving DecidableEq, Repr

end Sys2Proof.Machine
end

