-- ==== Sys2Proof/Machine/StateNet.lean ====
section
/-! DEFINITION. The parts of the state that the switch core, the Ethernet ports, the bus frame engine, the herd ring and
the input block keep outside their registers. -/

namespace Sys2Proof.Machine

/-! ### The switch core (R363 to R388) and the ports -/

/-- A frame in the switch buffer (R366): its stored bytes, its cells in chain order and its header. -/
structure ZFrame where
  bytes : List Byte := []
  cells : List Nat := []
  port : Nat := 0
  /-- 0 green, 1 yellow, 2 red -/
  colour : Nat := 0
  pri : Nat := 0
  vid : Nat := 0
  /-- arrival instant in ns of the master counter -/
  arrival : Nat := 0
  deriving DecidableEq, Repr

/-- An entry of an egress queue: its frame, and its path group bucket as group * 16 + bucket. -/
structure ZEntry where
  frame : Nat
  bucket : Option Nat := none
  deriving DecidableEq, Repr

/-- The frame that an egress port is sending. -/
structure ZSend where
  frame : Nat
  queue : Nat
  bucket : Option Nat := none
  /-- bytes on the wire, with FCS, preamble and gap (R404) -/
  wire : Nat := 0
  deriving DecidableEq, Repr

/-- An entry of the MAC table (R370). -/
structure ZMac where
  vid : Nat
  mac : Nat
  static : Bool
  pg : Bool
  mask : Nat
  deriving DecidableEq, Repr

/-- A binding of a frame's cells to packed frame window slots (R383, R384). -/
structure ZBind where
  ring : Nat
  slot : Nat
  n : Nat
  frame : Nat
  deriving DecidableEq, Repr

/-- The census in progress (R386): what it found at its start instant. -/
structure ZCensus where
  found : Nat
  leak : List Nat
  dup : Nat
  /-- the second census of R387, with the cells that the first left unreached -/
  first : Option (List Nat) := none
  deriving DecidableEq, Repr

/-- The switch core. -/
structure Zsw where
  /-- cells that are not on the free list, ascending -/
  out : List Nat := []
  /-- retired cells, and the rows of the buffer, 8 a cell, that hold an uncorrectable error (R363, R388) -/
  retired : List Nat := []
  badRows : List Nat := []
  frames : SMap ZFrame := []
  nextId : Nat := 0
  /-- egress queues by port * 8 + queue, head first -/
  queues : SMap (List ZEntry) := []
  /-- frames being sent, by port -/
  sending : SMap ZSend := []
  /-- the bytes last sent on a port's wire, without FCS -/
  line : SMap (List Byte) := []
  /-- whether that frame ended with an inverted FCS (R377) -/
  lineBad : SMap Bool := []
  /-- average depths of R375 in 1/65536 cell -/
  avg : SMap Nat := []
  macs : List ZMac := []
  /-- the random early drop shift register -/
  lfsr : Nat := 0
  /-- master counter at the start of a port's HOLD -/
  holdAt : SMap Nat := []
  /-- ports whose FLUSH came from HOLD -/
  fromHold : List Nat := []
  binds : List ZBind := []
  census : Option ZCensus := none
  /-- buckets whose home changed by a COMMIT, as group * 16 + bucket -/
  moveDue : List Nat := []
  /-- frames for the remote ring agent, oldest first -/
  agentIn : List (Nat × List Byte) := []
  /-- AVTP frames handed to the bus bridge, oldest first -/
  p9in : List (List Byte) := []
  /-- an application frame of cause 0011 was delivered to P8 or P9 (R355) -/
  appFrame : Bool := false
  deriving DecidableEq, Repr

/-- A marker's buckets in 1/8000000 byte and the time of their last filling in 1/64 ns (R402). -/
structure Marker where
  c : Nat := 0
  p : Nat := 0
  at64 : Nat := 0
  deriving DecidableEq, Repr

/-- Ethernet ports and zone time outside their registers. -/
structure Eth where
  /-- zone time, the ZSW master counter, in 1/64 ns (R407) -/
  mc : Nat := 0
  /-- rate correction and slew rate in 10^-12, and the time in 1/64 ns that the slew has left -/
  rate : Int := 0
  slew : Int := 0
  slewLeft : Nat := 0
  /-- what the corrections have left below 1/64 ns, in 10^-12 of it -/
  frac : Int := 0
  /-- consecutive offsets within ±100 ns and outside ±500 ns -/
  inN : Nat := 0
  outN : Nat := 0
  markers : SMap Marker := []
  /-- credits in 1/62500 byte (R404) -/
  credit : SMap Int := []
  /-- consecutive peer-delay exchanges that passed and that missed, by port -/
  pdOk : SMap Nat := []
  pdMiss : SMap Nat := []
  /-- TC10 wakes that wait for ZSW to run (R400) -/
  wakes : List Nat := []
  /-- master ports on which the last Sync was forwarded (R406) -/
  sync : List Nat := []
  deriving DecidableEq, Repr

/-! ### Buses (R319 to R340) -/

/-- A frame loaded in a CAN transmit buffer (R333), with the descriptor it belongs to. -/
structure CanTx where
  f : BusFrame
  own : Option Nat := none
  retx : Nat := 0
  deriving DecidableEq, Repr

/-- A CAN or LIN channel outside its registers. -/
structure NetCh where
  /-- loaded transmit buffers in the order of loading; on LIN the frames waiting to be sent -/
  tx : List CanTx := []
  /-- slave responses armed, by frame identifier -/
  armed : List CanTx := []
  /-- the state a guarded entry waits to enter -/
  guard : Option Nat := none
  /-- a wake is pending (R324, R325) -/
  wake : Bool := false
  /-- the bus has been dominant too long -/
  dom : Bool := false
  /-- the LIN driver is off -/
  short : Bool := false
  /-- bus-off recovery has been requested (R320) -/
  recov : Bool := false
  deriving DecidableEq, Repr

/-- A received frame in the receive memory (R332). -/
structure Stored where
  ch : Nat
  f : BusFrame
  t : Nat
  deriving DecidableEq, Repr

/-- A talker stream's current frame: its ACF bytes and the reception instant of its first message in ns (R339). -/
structure Talker where
  acf : List Byte := []
  t0 : Nat := 0
  n : Nat := 0
  deriving DecidableEq, Repr

/-- The bus frame engine. -/
structure Net where
  ch : SMap NetCh := []
  /-- stored frames by ring 0-7 -/
  rx : SMap (List Stored) := []
  talkers : SMap Talker := []
  /-- last sequence number of a listener stream, by stream -/
  lseq : SMap (Option Nat) := []
  /-- valid frames seen in an open validation window, by wake source -/
  valid : SMap Nat := []
  /-- RTC second at which a source was deafened (FAWN) -/
  deafAt : SMap Nat := []
  /-- WKEN of CAN0 as the nano-power receiver keeps it in BEDDED (R327) -/
  can0 : Bool := false
  deriving DecidableEq, Repr

/-- The ring as a node received it (R351): ALLC, RUN, round, and whether it came in a LEAVE of the lead (R354). -/
structure HRing where
  allc : Bool := false
  run : Nat := 0
  round : Nat := 0
  fromLead : Bool := false
  deriving DecidableEq, Repr

/-- The herd ring engine (R345 to R358). -/
structure Herd where
  /-- the ring received and not yet forwarded -/
  held : Option HRing := none
  /-- the last RING received -/
  last : HRing := {}
  /-- the map changed since the round started -/
  changed : Bool := false
  /-- EN was set or cleared, and the engine has not acted on it -/
  edge : Option Bool := none
  /-- messages heard and not yet taken, oldest first -/
  inbox : List (List Byte) := []
  /-- messages that wait for the CAN channel, oldest first -/
  out : List (List Byte) := []
  /-- the last message sent -/
  sent : List Byte := []
  deriving DecidableEq, Repr

/-! ### Inputs (R284 to R314) -/

/-- A sensor message (R305): source, kind, sequence count, slow-channel identifier, data and reception instant in ns. -/
structure SMsg where
  src : Nat
  kind : Nat
  seq : Nat
  sid : Nat
  data : Nat
  t : Nat
  deriving DecidableEq, Repr

/-- The held samples of an output since its last measurement, and that measurement's age (R192, R221, R294). -/
structure SenseAcc where
  sum : Int := 0
  n : Nat := 0
  /-- 1/64 ns since the last mean -/
  since : Nat := 0
  /-- periods of the 32.768 kHz clock since the last measurement -/
  age : Nat := 0
  deriving DecidableEq, Repr

/-- The input block outside its registers. -/
structure Inp where
  /-- consecutive differing samples of a polled input -/
  deb : SMap Nat := []
  /-- sequence counts by source -/
  seq : SMap Nat := []
  /-- messages produced and not yet routed, oldest first -/
  made : List SMsg := []
  /-- FIFOs of rings 40 to 47 -/
  fifo : SMap (List SMsg) := []
  /-- messages dropped on the ring since its last completion -/
  lost : SMap Nat := []
  /-- inputs a general ADC has left in its scan -/
  scan : SMap (List Nat) := []
  /-- last calibration pulse of a SENT receiver in ns -/
  cal : SMap Nat := []
  /-- the timeout of a SENT receiver has been reported since its last accepted frame -/
  timedOut : SMap Bool := []
  /-- open time slots of a PSI5 channel, by channel * 4 + slot -/
  slots : SMap Bool := []
  /-- the fabric is live (R496) -/
  live : Bool := false
  /-- timers' triggers at the last step, and their outputs -/
  trig : SMap Bool := []
  tout : SMap Bool := []
  /-- the loops whose I2C transaction runs or waits, the running one first, and the bytes that it writes (R261, R302) -/
  i2c : List Nat := []
  i2cOut : List Byte := []
  /-- D that the map holds in mode 11, by output -/
  mapHold : SMap Nat := []
  /-- ACTOSC is lost: the stages hold the DC map (R314) -/
  dcMap : Bool := false
  /-- samples and measurements of the outputs of the motor and valve drivers -/
  means : SMap SenseAcc := []
  /-- the channels that a short or the junction limit has turned off since ACTOSC was lost (R314) -/
  dcOff : SMap Bool := []
  deriving DecidableEq, Repr

end Sys2Proof.Machine
end

