-- ==== Sys2Proof/Machine/StateSys.lean ====
section
/-! DEFINITION. The parts of the state that the cores, and the blocks of the system side, keep outside the I/O registers. -/

namespace Sys2Proof.Machine

/-! ### The cores (R555 to R586) -/

/-- What a core does: held in reset, running, halted, fenced or in LBIST (R583, R571, R509). -/
inductive CoreRun where
  | reset | running | halted | fenced | lbist
  deriving DecidableEq, Repr

/-- A product in flight (R565): `mac` adds to the accumulator, else it goes to PH:PL. -/
structure Flight where
  mac : Bool
  value : Nat
  deriving DecidableEq, Repr

/-- A division in flight (R566, R601): its results, its flags, and the parcel address of its instruction. -/
structure DivFlight where
  q : Word
  r : Word
  v : Bool
  dz : Bool
  pc : Nat
  deriving DecidableEq, Repr

/-- A buffered store (R579): its address as the core gave it, and its value. -/
structure BufStore where
  addr : Nat
  value : Word
  deriving DecidableEq, Repr

/-- One Raloa-18 core. -/
structure Core where
  run : CoreRun := .reset
  /-- parcel address of the next instruction -/
  pc : Nat := 0
  /-- globals 0-7, relay registers 8-15, and windowed registers at 16 + 16 * window + i (R555) -/
  r : SMap Word := []
  /-- LK and the saved-status slot, by window -/
  lk : SMap Nat := []
  slot : SMap Word := []
  /-- the current window and the resident windows (R557) -/
  win : Nat := 0
  res : Nat := 1
  sr : Word := 0
  ph : Word := 0
  pl : Word := 0
  ah : Word := 0
  am : Word := 0
  al : Word := 0
  qt : Word := 0
  rm : Word := 0
  spb : Word := 0
  spr : Word := 0
  spl : Word := 0
  isp : Word := 0
  vbr : Word := 0
  ctl : Word := 0
  tca : Word := 0
  tad : Word := 0
  lst : Word := 0
  /-- loop starts, ends and counts, by level -/
  lps : SMap Nat := []
  lpe : SMap Nat := []
  lpc : SMap Word := []
  /-- products in flight in issue order, and the division in flight -/
  mul : List Flight := []
  div : Option DivFlight := none
  /-- buffered stores, oldest first -/
  buf : List BufStore := []
  deriving DecidableEq, Repr

/-! ### Memories (R41 to R59) -/

/-- A running settings store command (R54 to R56): its parameters as the command found them. -/
structure SsRun where
  load : Bool
  buf : Nat
  len : Nat
  schema : Nat
  grp : Nat
  /-- the target bank and sequence number of a WRITE -/
  bank : Nat
  seq : Nat
  deriving DecidableEq, Repr

/-- The MEM block outside its registers. -/
structure Mem where
  /-- result of the running code NVM command -/
  nrun : Option Nat := none
  /-- key of the row that it programs -/
  nrow : Option Nat := none
  /-- parcels of MEM_NDATA: pushed for a PROGROW, or left of a READ -/
  nfifo : List Word := []
  ss : Option SsRun := none
  /-- result of the running OTP program -/
  otp : Option Nat := none
  /-- OTP words programmed after delivery -/
  otpW : SMap Bool := []
  /-- code rows programmed with the erased value since their last erase, by key -/
  ones : SMap Bool := []
  /-- handover has taken place since the last MOD reset (R47) -/
  handed : Bool := false
  /-- the running march keeps the contents -/
  marchKeep : Bool := false
  /-- FABRIC restarted from an L3 fault less than 1 s ago (R47) -/
  l3Permit : Bool := false
  /-- system RAM regions swept since the MOD reset (R507) -/
  swept : Nat := 0
  deriving DecidableEq, Repr

/-! ### The image agent (R512 to R533) -/

/-- The session held (R521). -/
structure ImgSess where
  /-- 0 service port, 1 drove upstream, 2 remote diagnostics -/
  src : Nat
  slot : Nat
  sid : Nat
  /-- the holder's MAC address, on Ethernet -/
  mac : Nat
  pass : Bool
  /-- the bank being installed -/
  bank : Nat
  hdr : List Word
  /-- wire blocks of the image, the next block index and its hash -/
  n : Nat
  next : Nat
  hash : Nat
  /-- fragments received, by block: offset and bytes -/
  frags : SMap (List (Nat × List Byte))
  /-- failures of the next block -/
  fails : Nat
  /-- the next block has passed -/
  cur : Option (List Byte)
  /-- and has been stored -/
  stored : Bool
  /-- the bank has been erased and the header programmed -/
  erased : Bool
  /-- body rows programmed, and bytes that wait for the rest of their row -/
  rows : Nat
  tail : List Byte
  /-- INSTALLED has been programmed -/
  done : Bool
  deriving DecidableEq, Repr

/-- A downstream entry in the session: OFFERs sent, and whether it closed with DONE. -/
structure ImgDown where
  offers : Nat := 0
  done : Bool := false
  deriving DecidableEq, Repr

/-- The image agent outside its registers. -/
structure Img where
  sess : Option ImgSess := none
  downs : SMap ImgDown := []
  /-- frames for the agent that the switch delivered, oldest first -/
  inbox : List (Nat × List Byte) := []
  /-- the messages that the last image command sent on the service port, oldest first -/
  svcOut : List (List Byte) := []
  /-- the action of R532 whose WRITE runs: 1 migrated record, 2 and 3 defaults -/
  mig : Option Nat := none
  /-- the movement signal of the last matching frame, and its age and that of FLT_IMSPD in 1/32768 s -/
  sig : Option Nat := none
  sigAge : Nat := 0
  spdAge : Nat := 32768
  deriving DecidableEq, Repr

/-! ### The brace link (R538 to R549) -/

/-- The brace link outside its registers. -/
structure Brc where
  /-- sequence number of the next frame -/
  seq : Nat := 0
  /-- consecutive valid HEART frames in SYNC, and whether a TABLE frame was received and sent -/
  hearts : Nat := 0
  tableIn : Bool := false
  tableOut : Bool := false
  /-- the partner has the higher module identity in a role conflict: the role in effect once it is fixed -/
  erole : Option Bool := none
  /-- a takeover waits for FSW -/
  waits : Bool := false
  /-- a QUIET request waits for its answer -/
  asked : Bool := false
  /-- entries resumed since the last HEART sent -/
  resumed : Nat := 0
  /-- entries that passed the last TABLE exchange -/
  passed : List Nat := []
  /-- the states and D last sent, by entry -/
  told : SMap Nat := []
  /-- the frames sent by the last command that sent any, oldest first; a wake burst has no bytes -/
  line : List (List Byte) := []
  deriving DecidableEq, Repr

end Sys2Proof.Machine
end

