-- ==== Sys2Proof/Machine/State.lean ====
section
/-! DEFINITION. The state of the module: every register, memory, queue, counter and latch the manual gives it, as plain
data, and the queue of waiting commands. -/

namespace Sys2Proof.Machine

/-- The reasons the machine stops with a fault. -/
inductive Fault where
  /-- Raised by no meaning: the manual gives every command an effect. Safe. -/
  | none
  deriving DecidableEq, Repr

/-- The reasons a command is refused. -/
inductive Refusal where
  /-- Raised by the dispatch for a command that has no meaning yet. Safe. -/
  | notModelled (mnemonic : String)
  deriving DecidableEq, Repr

/-- The outcome of a command. -/
abbrev Out (σ : Type) : Type := Host.Outcome σ Fault Refusal

/-! ### Power -/

/-- The power states of the module (R445). -/
inductive PMode where
  | run | browse | rest | bedded
  deriving DecidableEq, Repr

/-- The state of one domain: on, off or in retention. -/
inductive DomSt where
  | on | off | ret
  deriving DecidableEq, Repr

/-- A completion that waits for FABRIC (R456): engine, ring, slot, status, detail, and the IRQ bit of its descriptor. -/
structure HeldC where
  eng : Nat
  ring : Nat
  slot : Nat
  st : Nat
  detail : Nat
  irq : Bool
  owner : Nat := 0
  req : Nat × Nat := (0, 0)
  deriving DecidableEq, Repr

/-- A wake latched in FAWN (R453, R454): its code and detail, whether it latched during an entry, and its stamps. -/
structure Wake where
  code : Nat
  detail : Nat
  during : Bool
  sec : Nat
  sub : Nat
  zt : Option Nat
  deriving DecidableEq, Repr

/-- Where S stands between its release and the application (R498, R505): in the boot ROM, with a bank chosen, in the
service loader, or in the application. -/
inductive BootSt where
  | rom
  /-- `fast` marks the fast path, `other` a candidate that failed or was rejected; `chk` is word 2 of the boot report -/
  | chosen (bank : Nat) (fast other : Bool) (chk : Nat)
  /-- the result of the boot report -/
  | loader (res : Nat)
  | app
  deriving DecidableEq, Repr

/-- The power controller's state outside its registers. -/
structure Pw where
  mode : PMode := .run
  coreA : DomSt := .on
  coreS : DomSt := .on
  fabric : DomSt := .on
  zsw : DomSt := .off
  net : DomSt := .off
  act : DomSt := .on
  /-- the state to which a REST exit returns -/
  back : PMode := .run
  /-- the state that the entry in progress asks for, and whether it is forced -/
  entry : Option PMode := none
  forced : Bool := false
  /-- the forced entry follows a brown-out -/
  brown : Bool := false
  /-- blocks whose agents have acknowledged, bit by block (R448) -/
  acks : Nat := 0
  /-- blocks whose agents have answered DELAY -/
  delays : Nat := 0
  /-- the wake that the next exit starts from -/
  wake : Option Wake := none
  /-- ZSWON has been written, and ZSW waits for the crystal -/
  zswAsked : Bool := false
  /-- completions held while FABRIC does not run -/
  held : List HeldC := []
  /-- the start-up calibration of ACT has ended (R497) -/
  ready : Bool := false
  boot : BootSt := .rom
  /-- the bank that the verified latch names (R504) -/
  verified : Option Nat := none
  /-- cores whose spill failed at a forced entry to REST (R586) -/
  badSpill : List Nat := []
  /-- SVCn was low when POR was released -/
  svcPor : Bool := false
  deriving DecidableEq, Repr

/-! ### Rings and descriptors -/

/-- Where an accepted descriptor stands between its acceptance and its completion. -/
inductive DPhase where
  /-- accepted; its action has not started -/
  | ready
  /-- waits for its deadline -/
  | timed
  /-- a pending provisional whose preparation has not started -/
  | provWait
  /-- a pending provisional whose preparation has started -/
  | prov
  /-- its action has started -/
  | running
  deriving DecidableEq, Repr

/-- A descriptor that an engine has accepted and not completed (R78). -/
structure Desc where
  /-- the place of its acceptance among all acceptances -/
  id : Nat := 0
  ring : Nat
  slot : Nat
  eng : Nat
  owner : Nat
  w0 : Word
  w1 : Word
  w2 : Word
  w3 : Word
  w4 : Word
  w5 : Word
  w6 : Word
  phase : DPhase
  /-- conditions of its first change, bits 11:9 of R117 as a number 0-7 -/
  cond : Nat := 0
  /-- it was a TIMED descriptor -/
  wasTimed : Bool := false
  /-- its deadline fell due at a step of zone time or at the resume of its group: it acts late, together with the others that did (R113, R117) -/
  due : Bool := false
  /-- it confirmed a provisional (R119) -/
  conf : Bool := false
  /-- request identifier and position of a remote slot's descriptor (R97) -/
  req : Nat × Nat := (0, 0)
  /-- engine-specific count -/
  aux : Nat := 0
  /-- the provisional it confirms was prepared -/
  warm : Bool := false
  /-- its ring was stopped, or not enabled at a reset of FABRIC: its completion is not written (R80, R476) -/
  mute : Bool := false
  deriving DecidableEq, Repr

/-- One completion waiting in a remote slot's completion response (R97). -/
structure Gathered where
  ring : Nat
  slot : Nat
  req : Nat
  pos : Nat
  w1 : Word
  w7 : Word
  deriving DecidableEq, Repr

/-- The waiting COMMIT of a transaction owner (R86). -/
structure CommitWait where
  /-- its descriptor -/
  id : Nat
  /-- 0 at once, 1 zone time, 2 frame boundary -/
  point : Nat
  group : Nat
  deriving DecidableEq, Repr

/-- Where responses of a remote slot go (R95): the request's source MAC address, VLAN and priority. -/
structure ReplyAddr where
  mac : Nat := 0
  vid : Nat := 0
  pri : Nat := 0
  deriving DecidableEq, Repr

/-- The ring engine's and the remote ring agent's state outside their registers. -/
structure Rng where
  /-- shadows of TX registers, by register key (R83) -/
  shadow : SMap Word := []
  /-- waiting COMMIT by owner -/
  commits : SMap CommitWait := []
  /-- the ring last served, by engine * 2 + priority (R70) -/
  served : SMap Nat := []
  /-- request identifier and position of posted and not fetched remote descriptors, by ring * 1024 + slot -/
  reqs : SMap (Nat × Nat) := []
  /-- gathered completions by remote slot -/
  gather : SMap (List Gathered) := []
  /-- reply address by remote slot -/
  reply : SMap ReplyAddr := []
  /-- descriptors accepted since reset -/
  nextId : Nat := 0
  /-- what the timeout has left in 1/32768 s, by owner (R85) -/
  left : SMap Nat := []
  /-- units fenced since the waiting COMMIT's agents answered, by owner (R87) -/
  fencedSince : SMap (List Nat) := []
  /-- the frames that the remote ring agent last sent, oldest first -/
  sent : List (List Byte) := []
  deriving DecidableEq, Repr

/-! ### Sequencer -/

/-- A sequencer thread (R111) beside its SEQ_OSTAT and SEQ_OVAL registers. -/
structure Thread where
  /-- the thread's D, applied at the apply time (R110) -/
  d : Nat := 0
  /-- D changed since the last wait -/
  dirty : Bool := false
  q0 : Nat := 0
  q1 : Nat := 0
  q2 : Nat := 0
  c0 : Nat := 0
  c1 : Nat := 0
  thr : Nat := 0
  e : Bool := false
  ret : Option Nat := none
  /-- instructions since the last wait -/
  icnt : Nat := 0
  /-- boundaries or time units the wait has left; 0 in an event wait without timeout -/
  waitN : Nat := 0
  /-- event of an event wait (R111) -/
  evKind : Nat := 0
  /-- the event has occurred -/
  ev : Bool := false
  /-- the wait fell due while the group was frozen -/
  due : Bool := false
  rampFrom : Nat := 0
  rampTo : Nat := 0
  rampN : Nat := 0
  rampLeft : Nat := 0
  /-- the SEQ_OSTAT.STATE that a freeze suspended -/
  susp : Nat := 0
  /-- D applied at the group's last frame boundary (R113) -/
  dEdge : Nat := 0
  /-- the phase that the next boundary takes up -/
  phaseNew : Option Nat := none
  deriving DecidableEq, Repr

/-- ACT's copy of zone time beside its registers (R114, R115). -/
structure ZoneT where
  /-- consecutive samples within ±20 ns and outside ±40 ns -/
  inN : Nat := 0
  outN : Nat := 0
  /-- the rate correction, in 1/64 ns over a period of the 32.768 kHz clock -/
  rate : Int := 0
  /-- the offset in ns that is left to remove by slewing -/
  slew : Int := 0
  /-- time since the last sample in 1/64 ns -/
  age : Nat := 0
  deriving DecidableEq, Repr

/-! ### Faults -/

/-- A spoor record (R485): its class and words 0 to 3, and the instance and repeat count of a class A record. -/
structure Spoor where
  w0 : Word
  w1 : Word
  w2 : Word
  w3 : Word
  deriving DecidableEq, Repr

/-- The fault logic's state outside its registers. -/
structure Flt where
  /-- unacknowledged records by block * 32 + class (R478) -/
  unack : SMap Nat := []
  /-- effective level of the last record of the class, by block * 32 + class -/
  last : SMap Nat := []
  /-- fenced units by block * 256 + instance -/
  fenced : SMap Bool := []
  /-- class A spool by block (R487), oldest first -/
  spool : SMap (List Spoor) := []
  /-- the trace FIFO (R486), oldest first -/
  fifo : List Spoor := []
  /-- shed B and C records since the last summary, by block * 2 (B) and block * 2 + 1 (C) -/
  shed : SMap Nat := []
  /-- records sent since the last SYNC -/
  sinceSync : Nat := 0
  /-- the ten bytes last sent on the trace port -/
  sent : List Byte := []
  /-- records waiting in the mirror frame (R489) -/
  mirror : List Spoor := []
  mirSeq : Nat := 0
  /-- in the L4 safe state (R477) -/
  safe : Bool := false
  deriving DecidableEq, Repr

/-! ### High-side channels and thermal protection -/

/-- A high-side channel's state outside its registers. -/
structure HscCh where
  /-- the value of D that the next PWM period takes up (R106) -/
  dNext : Option Nat := none
  /-- a built-in ramp: its start, end, number of steps and remaining steps (R151) -/
  rampFrom : Nat := 0
  rampTo : Nat := 0
  rampN : Nat := 0
  rampLeft : Nat := 0
  /-- a restart is pending; its budget is the short budget (R139) -/
  pend : Bool := false
  shortBudget : Bool := false
  /-- tRETRY since the turn-off has elapsed -/
  retryOver : Bool := false
  /-- the current held at the limit since the turn-on edge, so the edge has not finished (R152) -/
  held : Bool := false
  /-- the open descriptor completes once the channel is in ON or LIMIT with its final D applied (R152) -/
  want : Bool := false
  /-- restarts consumed and under-voltage seen while the descriptor is open (R156) -/
  rUsed : Nat := 0
  sUsed : Nat := 0
  uvSeen : Bool := false
  /-- consecutive valid measurements below, and at or above, the open-load threshold (R142) -/
  olLow : Nat := 0
  olHigh : Nat := 0
  /-- PWM periods, and periods of the 32.768 kHz clock, since the last valid measurement (R134) -/
  age : Nat := 0
  ageT : Nat := 0
  /-- PWM periods since the last result of the off-state detection (R144) -/
  offAge : Nat := 64
  /-- the ILSEL that the channel's limits use (R148) -/
  ilsel : Nat := 0
  /-- a diagnostic pulse lengthens the running period (R145) -/
  pulse : Bool := false
  /-- pre-heat pulses of the preparation (R149) -/
  preheat : Nat := 0
  deriving DecidableEq, Repr

/-- A motor target's state outside its registers. -/
structure MotT where
  /-- D that the next carrier period takes up (R188) -/
  dNext : Option Nat := none
  /-- the direction and D of a drive that waits for the end of BRAKE (R205) -/
  waiting : Option (Nat × Nat) := none
  /-- the ripple position that a GOTO drives toward, as a two's complement word -/
  goTo : Option Nat := none
  /-- the duration has run out while the target was in SUPPLY -/
  past : Bool := false
  /-- the drive went through PRECH (R190) -/
  deferred : Bool := false
  /-- SUPPLY seen and current limit acted during the open drive (R212) -/
  supSeen : Bool := false
  limSeen : Bool := false
  /-- the direction last driven (R197) -/
  lastDir : Nat := 0
  /-- consecutive insertions -/
  inserted : Nat := 0
  /-- the reversal is driving, and the ripples it has counted; its length in ripples and whether the position was valid, as they stood
  at the violation (R201, R202) -/
  reversing : Bool := false
  revCount : Nat := 0
  revN : Nat := 0
  revPos : Bool := false
  /-- ripples are counted: from the start of a drive until the shunt voltage falls below IRIPMIN after its end (R197) -/
  counting : Bool := false
  /-- the group is above 20.0 V and not below VUV (R196) -/
  high : Bool := false
  /-- the open drive carries OVERRIDE from S (R201) -/
  exempt : Bool := false
  /-- a SUPPLY entered from PINCH: PLOCK runs from the release -/
  lockDue : Bool := false
  /-- engine parameters that SETP set (R213) -/
  dirP : Nat := 0
  limP : Option Nat := none
  brkP : Option Nat := none
  deriving DecidableEq, Repr

/-- A valve's state outside its registers. -/
structure VlvT where
  /-- the setpoint of HOLD -/
  hold : Nat := 0
  /-- a request of R229 waits: its valve's start, or a SETI -/
  wait : Bool := false
  setiWait : Bool := false
  /-- the request's apply time in ns and its tDEFER in units of 4 µs -/
  since : Nat := 0
  tdef : Nat := 0
  must : Bool := false
  /-- the request is for a peak -/
  peak : Bool := false
  /-- the wait has no deadline (R233) -/
  noLimit : Bool := false
  /-- the request is a thread's (R230) -/
  byThread : Bool := false
  /-- µs that the start came after the apply time -/
  late : Option Nat := none
  /-- IPK has been reached in this peak; tPK in units of 100 µs -/
  ran : Bool := false
  tpk : Nat := 0
  /-- the peak started with a current above 30 mA (R227) -/
  hot : Bool := false
  /-- the open request has started; its duration has run out -/
  begun : Bool := false
  past : Bool := false
  /-- a change of setpoint in HOLD (R224): its start and end, its ramp in ms, the carrier periods gone, and its lateness -/
  setiFrom : Nat := 0
  setiTo : Nat := 0
  setiMs : Nat := 0
  setiN : Nat := 0
  setiLate : Option Nat := none
  ramping : Bool := false
  /-- the change that waits is the open request's and no SETI's; it is a thread's peak (R230) -/
  own : Bool := false
  rise : Bool := false
  /-- the open request runs a program; the program has stopped at HOLD before its start (R238) -/
  threaded : Bool := false
  want : Bool := false
  /-- the dither in force (R223): amplitude in 1/64, frequency in Hz, phase in 1/40000 of a cycle; and the setpoint with it -/
  dAmp : Nat := 0
  dFreq : Nat := 0
  dPh : Nat := 0
  loop : Nat := 0
  /-- the energised time in periods of the 32.768 kHz clock by bucket, the newest first, and the age of the newest (R226) -/
  duty : List Nat := []
  dutyT : Nat := 0
  /-- the present decay is through the clamp (R225) -/
  clamp : Bool := false
  /-- the pre-magnetisation that the preparation asks for -/
  premag : Bool := false
  /-- the open descriptor completes when the valve reaches OFF (R238) -/
  ends : Bool := false
  /-- a thread's setpoint that the next carrier period takes up (R106) -/
  dNext : Option Nat := none
  /-- engine parameters that SETP set (R243) -/
  damp : Option Nat := none
  dfreq : Option Nat := none
  quench : Option Nat := none
  deriving DecidableEq, Repr

/-- A valve bank's state outside its registers. -/
structure VlvB where
  /-- the bank node is ready (R220) -/
  ready : Bool := false
  /-- the valves whose peaks hold the slot busy, in the order of their peaks (R228) -/
  slots : List Nat := []
  deriving DecidableEq, Repr

/-- A sink's state outside its registers. -/
structure LuxT where
  /-- D that the next dimming period takes up (R251) -/
  dNext : Option Nat := none
  /-- a built-in ramp: its start, end, number of steps and remaining steps -/
  rampFrom : Nat := 0
  rampTo : Nat := 0
  rampN : Nat := 0
  rampLeft : Nat := 0
  /-- the open SET completes when its final D is applied -/
  want : Bool := false
  /-- consecutive out and in on-times, and periods without a judged on-time (R253) -/
  outRun : Nat := 0
  inRun : Nat := 0
  idle : Nat := 0
  /-- dimming periods that an open DIAG has waited (R277) -/
  diagN : Nat := 0
  /-- amplitude that SETP set (R279) -/
  iset : Option Nat := none
  /-- the derating factor in 1/12800 (R255) -/
  derate : Nat := 12800
  /-- the effective duty of the running dimming period and the amplitude in µA of the running sub-period (R249, R250) -/
  de : Nat := 0
  amp : Nat := 0
  /-- 1/64 ns since the dimming period began -/
  t : Nat := 0
  /-- the program of a TIMED descriptor has yet to make its first change (R251) -/
  first : Bool := false
  deriving DecidableEq, Repr

/-- A colour loop's state outside its registers (R260 to R262). -/
structure ClLoop where
  t0 : Nat := 0
  t1 : Nat := 0
  t2 : Nat := 0
  /-- start and end of the ramp of the targets, its steps and its remaining steps -/
  f0 : Nat := 0
  f1 : Nat := 0
  f2 : Nat := 0
  e0 : Nat := 0
  e1 : Nat := 0
  e2 : Nat := 0
  rampN : Nat := 0
  rampLeft : Nat := 0
  /-- consecutive settled reads -/
  good : Nat := 0
  /-- loop periods since the COLOUR was applied, and its settle limit -/
  periods : Nat := 0
  limit : Nat := 0
  /-- a sensor read waits or is in progress -/
  reading : Bool := false
  deriving DecidableEq, Repr

/-- A frame of a pixel chain (R264). -/
structure PxFrame where
  cmd : Nat
  addr : Nat
  payload : List Byte
  /-- the descriptor it belongs to; none for a scan frame -/
  own : Option Nat := none
  /-- its descriptor's last frame -/
  last : Bool := false
  deriving DecidableEq, Repr

/-- A pixel chain's state outside its registers (R263 to R274). -/
structure PxCh where
  seq : Nat := 0
  /-- the state the chain has between frames: 0 DOWN, 1 IDLE, 3 FAULT -/
  base : Nat := 0
  queue : List PxFrame := []
  /-- the frame in progress, with its reply window -/
  cur : Option PxFrame := none
  /-- the frame in progress has been sent and its reply is awaited -/
  sent : Bool := false
  /-- the request in progress has been retried -/
  retried : Bool := false
  /-- addresses that the scan in progress has left, and whether one has failed -/
  scan : List Nat := []
  scanning : Bool := false
  scanBad : Bool := false
  /-- TIMED latches whose start instant has come -/
  due : List Nat := []
  /-- latches sent whose apply instant has not come -/
  applies : List Nat := []
  /-- composed frames by descriptor: the chain frame memory (R275) -/
  comp : SMap (List PxFrame) := []
  /-- a request whose retry waits (R271) -/
  again : Option PxFrame := none
  /-- the bits of the frame last started, and whether the module has released the line (R263) -/
  line : List Bool := []
  released : Bool := false
  deriving DecidableEq, Repr

/-- Thermal and wire protection outside its registers. -/
structure Thm where
  /-- the place of the free sequence from which the sensors' readouts were last refreshed (R162) -/
  epoch : Nat := 0
  /-- 1/64 ns since that refresh -/
  since : Nat := 0
  /-- temperatures that commands have reported since then, by register -/
  told : SMap Word := []
  /-- the rise of each wire model in 10^-12 K, by output (R172) -/
  theta : SMap Nat := []
  /-- the release threshold in K in force while a ΔT latch holds, by output (R167) -/
  dtRel : SMap Nat := []
  /-- the release threshold in °C in force while a junction latch holds, by output -/
  tjRel : SMap Nat := []
  deriving DecidableEq, Repr

structure State where
  /-- the commands that wait, first in, first out -/
  pending : List Instr := []
  /-- the registers, by key -/
  io : SMap Word := []
  /-- latched values of snapshot groups, by key -/
  snap : SMap Word := []
  /-- the word that the last read of a register returned; a field of the model, which the manual does not name -/
  rdata : Word := 0
  /-- the memories, by key -/
  mem : SMap Word := []
  /-- check-bit errors by memory key: 1 correctable, 2 uncorrectable -/
  ecc : SMap Nat := []
  /-- the accepted descriptors in acceptance order -/
  descs : List Desc := []
  rng : Rng := {}
  threads : SMap Thread := []
  zone : ZoneT := {}
  /-- SEQ_OCFG values that wait for a frame boundary (R105), by output -/
  ocfg : SMap Nat := []
  hsc : SMap HscCh := []
  mot : SMap MotT := []
  vlv : SMap VlvT := []
  bank : SMap VlvB := []
  lux : SMap LuxT := []
  loops : SMap ClLoop := []
  px : SMap PxCh := []
  thm : Thm := {}
  flt : Flt := {}
  pw : Pw := {}
  zsw : Zsw := {}
  eth : Eth := {}
  net : Net := {}
  herd : Herd := {}
  inp : Inp := {}
  acc : Immo := {}
  memc : Mem := {}
  img : Img := {}
  brc : Brc := {}
  /-- the cores A0, A1 and S, by number -/
  cores : SMap Core := []
  /-- ACT's zone time in 1/64 ns -/
  zt : Nat := 0
  /-- the next free value's place (the model's own field) -/
  free : Nat := 142
  deriving DecidableEq, Repr

/-- The block right after a POR (R494, R498): the instant at which the memories are cleared, S is released into the boot
ROM, ACT runs and its start-up calibration begins; A0 and A1 are held in reset, NET and ZSW wait for the crystal. Every
register holds the reset value of its table (R8), and no memory word is listed. -/
def State.reset : State := { cores := [(2, { run := .running, pc := 0o7760000, vbr := 0o776100 })] }

end Sys2Proof.Machine
end

