-- ==== Sys2Proof/Machine/Ops.lean ====
section
/-! DEFINITION. The named operations over registers, memories, fault records, the trace and completions that every
block's meanings share. -/

namespace Sys2Proof.Machine

/-! ### Registers -/

/-- The value a register holds (TX fields: the live value, R83). -/
def State.reg (s : State) (k : Nat) : Nat := (smGet regReset s.io k).toNat

/-- A register set to a value. -/
def State.setReg (s : State) (k v : Nat) : State := { s with io := smPut regReset s.io k (toWord v) }

/-- The value of one field. -/
def State.fld (s : State) (f : FRef) : Nat := bitsOf (s.reg f.addr) f.hi f.lo

/-- One field set to a value; the register's other fields stay. -/
def State.setFld (s : State) (f : FRef) (v : Nat) : State := s.setReg f.addr (putBits (s.reg f.addr) f.hi f.lo v)

/-- A field that is not 0. -/
def State.on (s : State) (f : FRef) : Bool := decide (s.fld f ≠ 0)

/-- A one-bit flag set. -/
def State.raise (s : State) (f : FRef) : State := s.setFld f 1

/-- A one-bit flag set when a condition holds. -/
def State.raiseIf (s : State) (c : Bool) (f : FRef) : State := if c then s.raise f else s

/-- The largest value of a field. -/
def FRef.max (f : FRef) : Nat := 2 ^ (f.hi + 1 - f.lo) - 1

/-- A saturating count raised by `n`. -/
def State.countBy (s : State) (f : FRef) (n : Nat) : State := s.setFld f (satTo f.max (s.fld f + n))

/-- A saturating count raised by 1. -/
def State.count (s : State) (f : FRef) : State := s.countBy f 1

/-- Bit `i` of a field. -/
def State.bit (s : State) (f : FRef) (i : Nat) : Bool := bitAt (s.fld f) i

/-- Bit `i` of a field set to a value. -/
def State.setBitF (s : State) (f : FRef) (i : Nat) (b : Bool) : State :=
  s.setFld f (if b then setBit (s.fld f) i else clrBit (s.fld f) i)

/-- A state transformation applied when a condition holds. -/
def State.when (s : State) (c : Bool) (g : State → State) : State := if c then g s else s

/-- A state transformation applied to each element of a list in order. -/
def State.each {α : Type} (s : State) (l : List α) (g : α → State → State) : State :=
  l.foldl (fun t x => g x t) s

/-- The next free value: what the manual leaves open (a place of the free sequence). -/
def State.draw (s : State) : Word := Config.freeWord s.free

/-- The free sequence advanced by one place. -/
def State.drew (s : State) : State := { s with free := s.free + 1 }

/-- The parts of the state outside registers and memories, changed. -/
def State.modFlt (s : State) (f : Flt → Flt) : State := { s with flt := f s.flt }
def State.modRng (s : State) (f : Rng → Rng) : State := { s with rng := f s.rng }
def State.modPw (s : State) (f : Pw → Pw) : State := { s with pw := f s.pw }
def State.modImg (s : State) (f : Img → Img) : State := { s with img := f s.img }
def State.modBrc (s : State) (f : Brc → Brc) : State := { s with brc := f s.brc }

/-- A number kept by key, 0 where nothing is listed. -/
def nGet (m : SMap Nat) (k : Nat) : Nat := smGet (fun _ => 0) m k
def nPut (m : SMap Nat) (k v : Nat) : SMap Nat := smPut (fun _ => 0) m k v
/-- A mark kept by key, clear where nothing is listed. -/
def bGet (m : SMap Bool) (k : Nat) : Bool := smGet (fun _ => false) m k
def bPut (m : SMap Bool) (k : Nat) (v : Bool) : SMap Bool := smPut (fun _ => false) m k v
/-- A list kept by key, empty where nothing is listed. -/
def lGet {α : Type} (m : SMap (List α)) (k : Nat) : List α := smGet (fun _ => []) m k
def lPut {α : Type} [DecidableEq α] (m : SMap (List α)) (k : Nat) (v : List α) : SMap (List α) := smPut (fun _ => []) m k v

/-! ### Reserved encodings (R11) -/

/-- A value in the ranges of a field. -/
def Field.admits (f : Field) (v : Nat) : Bool := f.legal.isEmpty || f.legal.any (fun r => decide (r.1 ≤ v ∧ v ≤ r.2))

/-- The engines and owners of a ring (R66). -/
def ringAdmits (n hi v : Nat) : Bool :=
  if hi = 11 then
    decide (v = 0) ||
      (if n < 8 then decide (v = 1)
       else if n < 40 then decide (2 ≤ v ∧ v ≤ 6)
       else if n < 48 then decide (v = 7)
       else if n < 56 then decide (v = 8)
       else decide (v ≤ 7))
  else if hi = 14 then decide (v ≤ 2) || decide (56 ≤ n ∧ 4 ≤ v)
  else true

/-- A member of a path group: a port or none. -/
def memberOk (v i : Nat) : Bool := decide (bitsOf v (4 * i + 3) (4 * i) < 10 ∨ bitsOf v (4 * i + 3) (4 * i) = 15)

/-- Encodings that are reserved only on some instances of a register, or selected signals (R67, R129, R185, R307, R311, R314, R573). -/
def oddField (k hi v : Nat) : Bool :=
  if k % 65536 < 4096 then
    decide (0x400 ≤ k % 65536 ∧ k % 65536 < 0x456) && decide (48 ≤ v)
  else if 0x3000 ≤ k ∧ k < 0x3400 ∧ k % 16 = 1 then !ringAdmits ((k - 0x3000) / 16) hi v
  else if 0x4100 ≤ k ∧ k < 0x4500 ∧ k % 16 = 0 then
    let n := (k - 0x4100) / 16
    decide ((hi = 12 ∧ v = 1 ∧ ¬(n < 8 ∧ n % 2 = 0)) ∨ (hi = 15 ∧ v = 1 ∧ n < 32) ∨ (hi = 17 ∧ v = 1 ∧ n < 8))
  else if 0x7100 ≤ k ∧ k < 0x7200 ∧ k % 16 = 0 then decide (hi = 7 ∧ v = 1 ∧ (k - 0x7100) / 16 % 2 = 1)
  else if 0xA800 ≤ k ∧ k < 0xAA00 ∧ k % 16 < 2 then decide (150 ≤ v)
  else if (0xAA00 ≤ k ∧ k < 0xAA40 ∧ k % 16 = 0) ∨ k = rINP_LHCTL then decide (hi = 15 ∧ 150 ≤ v)
  else if 0xAB00 ≤ k ∧ k < 0xAB80 then
    let n := k - 0xAB00
    decide ((hi = 14 ∧ v ≠ 0 ∧ ¬(64 ≤ n ∧ n < 80 ∨ 124 ≤ n)) ∨ (hi = 15 ∧ v = 1 ∧ 64 ≤ n))
  else if 0xC780 ≤ k ∧ k < 0xC7C0 ∧ k % 16 = 1 then !(List.range 4).all (memberOk v)
  else false

/-- A reserved encoding of a field. -/
def badField (k : Nat) (f : Field) (v : Nat) : Bool := !f.admits v || oddField k f.hi v

/-! ### Domains -/

/-- The power state of a domain (R13). -/
def State.domSt (s : State) (d : Dom) : DomSt :=
  match d with
  | .coreA => s.pw.coreA
  | .coreS => s.pw.coreS
  | .core => .on
  | .fabric => s.pw.fabric
  | .zsw => s.pw.zsw
  | .net => s.pw.net
  | .act => s.pw.act
  | .fawn => .on

/-- A domain that is on. -/
def State.domOn (s : State) (d : Dom) : Bool := decide (s.domSt d = .on)

/-- A block's domain (R17), given a register address. -/
def addrDom (a : Nat) : Dom :=
  match rowOf a with
  | some r => r.dom
  | none =>
    match a / 4096 with
    | 0 => .core
    | 1 => if a % 4096 < 2048 then .fabric else .fawn
    | 2 => .fabric
    | 3 => .fabric
    | 11 => .net
    | 12 => .zsw
    | 13 => .zsw
    | 14 => if a % 4096 < 2048 then .act else .fabric
    | 15 => .fabric
    | _ => .act

/-- A state transformation that takes place only while a domain runs. -/
def inDom (d : Dom) (g : State → State) (s : State) : State := if s.domOn d then g s else s

/-! ### Cores -/

/-- A core by number: 0 A0, 1 A1, 2 S. -/
def State.core (s : State) (c : Nat) : Core := smGet (fun _ => {}) s.cores c
def State.setCore (s : State) (c : Nat) (x : Core) : State := { s with cores := smPut (fun _ => {}) s.cores c x }
def State.modCore (s : State) (c : Nat) (f : Core → Core) : State := s.setCore c (f (s.core c))

/-- A core that is halted, in reset or fenced, or whose domain is off. -/
def State.coreDown (s : State) (c : Nat) : Bool :=
  decide ((s.core c).run ≠ .running) || !s.domOn (if c = 2 then .coreS else .coreA)

/-! ### Memory -/

/-- Key of word `a` of core `c`'s TCM. -/
def tcmKey (c a : Nat) : Nat := 2 ^ 18 * (c + 1) + a
/-- Key of parcel `p` of code NVM bank `b`. -/
def codeKey (b p : Nat) : Nat := 2 ^ 23 + b * 2 ^ 20 + p
/-- Key of word `w` of data NVM bank `b`. -/
def dataKey (b w : Nat) : Nat := 2 ^ 24 + b * 2 ^ 16 + w
/-- Key of OTP word `o`. -/
def otpKey (o : Nat) : Nat := 2 ^ 25 + o
/-- Key of word `a` of sequencer memory. -/
def seqKey (a : Nat) : Nat := 2 ^ 25 + 2 ^ 16 + a

/-- The OTP words that Krafin writes on every module (R4, R58). -/
def otpKrafin (o : Nat) : Bool := decide (o < 0o400 ∨ (0o422 ≤ o ∧ o ≤ 0o424))

/-- What a word that is not listed reads as: the erased value in NVM, Krafin's words in the OTP, 0 elsewhere (R39, R40,
R59). -/
def memDefault (k : Nat) : Word :=
  if 2 ^ 23 ≤ k ∧ k < 2 ^ 25 then 0o777777
  else if 2 ^ 25 ≤ k ∧ k < 2 ^ 25 + 2048 ∧ otpKrafin (k - 2 ^ 25) then (Config.otpFactory (k - 2 ^ 25)).setWidth 18
  else 0

/-- The data bits of a memory word. -/
def State.rd (s : State) (k : Nat) : Word := smGet memDefault s.mem k

/-- The check-bit state of a memory word: 0 good, 1 correctable, 2 uncorrectable (R38). -/
def State.eccOf (s : State) (k : Nat) : Nat := smGet (fun _ => 0) s.ecc k

/-- A whole-word write with valid check bits. -/
def State.wr (s : State) (k : Nat) (v : Word) : State :=
  { s with mem := smPut memDefault s.mem k v, ecc := smPut (fun _ => 0) s.ecc k 0 }

/-- The words of a memory cleared (R39). -/
def State.clearMem (s : State) (lo hi : Nat) : State :=
  { s with mem := smKeep (fun k => decide (k < lo ∨ hi ≤ k)) s.mem,
           ecc := smKeep (fun k => decide (k < lo ∨ hi ≤ k)) s.ecc }

/-- System RAM's first address and the address after its last. -/
def ramBase : Nat := 0o100000
def ramEnd : Nat := 0o300000

/-- A range of addresses inside system RAM (R29). -/
def inRam (a n : Nat) : Bool := decide (ramBase ≤ a ∧ a + n ≤ ramEnd)

/-- The bank of a system RAM address (R28). -/
def bankOf (a : Nat) : Nat := (a - ramBase) / 0o20000

/-- The banks that a range of system RAM addresses meets. -/
def banksOf (a n : Nat) : List Nat :=
  (List.range 8).filter (fun k => decide (ramBase + k * 0o20000 < a + n ∧ a < ramBase + (k + 1) * 0o20000))

/-- The state of a system RAM bank: 0 on line, 1 parked, 2 fenced, 3 being cleared. -/
def State.bankSt (s : State) (k : Nat) : Nat := bitsOf (s.reg rMEM_BANKSTAT) (2 * k + 1) (2 * k)

/-- The state of a system RAM bank set. -/
def State.setBankSt (s : State) (k v : Nat) : State :=
  s.setReg rMEM_BANKSTAT (putBits (s.reg rMEM_BANKSTAT) (2 * k + 1) (2 * k) v)

/-- A parked or fenced bank (R44). -/
def State.bankOff (s : State) (k : Nat) : Bool := decide (s.bankSt k = 1 ∨ s.bankSt k = 2)

/-- A system RAM address in a parked or fenced bank. -/
def State.addrOff (s : State) (a : Nat) : Bool := s.bankOff (bankOf a)

/-- A range of system RAM that meets a parked or fenced bank. -/
def State.rangeOff (s : State) (a n : Nat) : Bool := (banksOf a n).any s.bankOff

/-- A range of memory keys that holds an uncorrectable word. -/
def State.rangeBad (s : State) (a n : Nat) : Bool := s.ecc.any (fun e => decide (a ≤ e.1 ∧ e.1 < a + n ∧ e.2 = 2))

/-! ### Buffers -/

/-- The bytes of a buffer in system RAM, two to a word, the earlier in bits 15:8. -/
def State.bufBytes (s : State) (a n : Nat) : List Byte :=
  (List.range n).map (fun i => BitVec.ofNat 8 ((s.rd (a + i / 2)).toNat / (if i % 2 = 0 then 256 else 1)))

/-- Bytes written to a buffer; a word's other byte stays. -/
def State.putBytes (s : State) (a : Nat) (bs : List Byte) : State :=
  s.each (List.range bs.length) (fun i s =>
    let w := (s.rd (a + i / 2)).toNat
    let b := (bs.getD i 0).toNat
    s.wr (a + i / 2) (toWord (if i % 2 = 0 then putBits w 15 8 b else putBits w 7 0 b) &&& 0xFFFF))

/-! ### Time -/

/-- ACT's zone time in ns. -/
def State.ztNs (s : State) : Nat := s.zt / 64 % 2 ^ 64

/-- ACT's zone time in the deadline format (R74). -/
def State.ztDl (s : State) : Nat := s.ztNs / 8 % 2 ^ 36

/-- RTC seconds. -/
def State.rtcSec (s : State) : Nat := s.fld PCR_RTCH_SEC * 65536 + s.fld PCR_RTCL_SEC

/-- The fault time of a record and its TV bit (R474). -/
def State.faultTime (s : State) : Nat × Bool :=
  if s.domOn .act then (s.ztDl, true) else (s.rtcSec * 16 % 2 ^ 36, false)

/-! ### Wakes (R453, R454) -/

/-- TC10 state (R398): 0 DISABLED, 1 ACTIVE, 2 SLEEP_REQ, 3 SLEEP with the wake detector armed while WKEN = 1, 4 WAKING. -/
def State.tc10 (s : State) (p : Nat) : Nat := s.fld (ETH_TSTAT_STATE p)
def State.setTc10 (s : State) (p v : Nat) : State :=
  (s.setFld (ETH_TSTAT_STATE p) v).setFld (ETH_TSTAT_WKARM p) (b2n (decide (v = 3) && s.on (ETH_TCFG_WKEN p)))

/-- A switch input whose wake leaves REST, or BEDDED: there only SW0 to SW7 in static mode (R287). -/
def State.swArmed (s : State) (bedded : Bool) (n : Nat) : Bool :=
  s.on (INP_SWCFG_WK n) && (!bedded || decide (n < 8 ∧ s.fld (INP_SWCFG2_RMODE n) = 2))

/-- An armed wake source (R453): its code and detail, for an exit from REST or BEDDED. -/
def State.wakeOk (s : State) (bedded : Bool) (code d : Nat) : Bool :=
  match code with
  | 0o01 => decide (d < 48) && s.swArmed bedded d
  | 0o02 => !bedded && decide (d < 24) && s.on (INP_ANCFG_WK d)
  | 0o03 => decide (d < 6 ∧ (d = 0 ∨ bedded = false)) && s.on (NET_CTC_WKEN d) && !s.on (NET_WKSTAT_DEAF d)
  | 0o04 => !bedded && decide (d < 4) && s.on (NET_LCFG_WKEN d) && !s.on (NET_WKSTAT_DEAF (6 + d))
  | 0o05 => !bedded && decide (d < 6) && s.on (ETH_TCFG_WKEN d)
  | 0o06 => !bedded && s.on PCR_WKEN_HOSTF && decide (s.fld ETH_GCTL_KEEP ≠ 7)
  | 0o07 => s.on PCR_WKEN_KL15ON
  | 0o10 => s.on PCR_WKEN_KL15OFF
  | 0o11 => s.on PCR_WKEN_RTC
  | 0o12 => !bedded && s.on PCR_WKEN_RING && decide (d < 16) && s.bit PCR_RWAKE_GRP d
  | 0o13 => !bedded && s.on PCR_WKEN_ACTF && decide (4 ≤ d ∧ d ≤ 10)
  | 0o14 => !bedded && s.on PCR_WKEN_SVC
  | 0o15 => bedded && s.pw.brown
  | 0o16 => !bedded && s.on PCR_WKEN_BRACE
  | _ => false

/-- The state whose exit a wake would start, while wakes latch. -/
def State.wakeTarget (s : State) : Option Bool :=
  match s.pw.mode with
  | .rest => some false
  | .bedded => some true
  | _ => s.pw.entry.map (fun m => decide (m = .bedded))

/-- The wake that the ledger keeps (R454): of two that latch on one FAWN cycle, as their stamps show it, the one of the lower code,
then of the lower detail; else the earlier. -/
def Wake.kept (old new : Wake) : Wake :=
  if old.sec = new.sec ∧ old.sub = new.sub ∧ (new.code < old.code ∨ (new.code = old.code ∧ new.detail < old.detail)) then new else old

/-- An armed source latches from the ENTRY_REQ until the exit has ended; the first one starts the exit. -/
def State.latchWake (s : State) (code d : Nat) : State :=
  match s.wakeTarget with
  | none => s
  | some bedded =>
    if !s.wakeOk bedded code d then s
    else
      let w : Wake := {
        code := code, detail := d, during := s.pw.entry.isSome, sec := s.rtcSec, sub := s.fld PCR_RTCS_SUB,
        zt := if s.domOn .act then some s.ztNs else none }
      (s.setBitF PCR_WSRC_SRC (code - 1) true).modPw (fun p => { p with wake := some ((p.wake.getD w).kept w) })
        |>.when s.pw.entry.isNone (fun s => s.setFld PCR_ENTRY_PHASE 3)

/-! ### The spoor trace (R484 to R487) -/

/-- A record of a class, type, block, code, word 1 and time. -/
def mkSpoor (cls typ blk code w1 t : Nat) : Spoor :=
  ⟨toWord (cls * 2 ^ 16 + typ * 2 ^ 12 + blk * 2 ^ 8 + code % 256), toWord w1, toWord (t / 2 ^ 18), toWord t⟩

/-- The number of fault classes of a block (R473). -/
def classCount (b : Nat) : Nat := [6, 5, 5, 5, 5, 7, 5, 10, 6, 6, 6, 10, 7, 5, 7, 14].getD b 0

/-- A class A record into its block's spool (R487). -/
def spoolA (b : Nat) (r : Spoor) (l : List Spoor) : List Spoor :=
  let typ := bitsOf r.w0.toNat 15 12
  let code := bitsOf r.w0.toNat 7 0
  let isFault (x : Spoor) : Bool := decide (bitsOf x.w0.toNat 15 12 = 1)
  let codeOf (x : Spoor) : Nat := bitsOf x.w0.toNat 7 0
  let cnt (x : Spoor) : Nat := bitsOf x.w1.toNat 4 0
  let withCnt (x : Spoor) (n : Nat) : Spoor := { x with w1 := toWord (putBits x.w1.toNat 4 0 n) }
  let held := ((l.filter isFault).map codeOf).eraseDups
  let reserve := classCount b - held.length - (if isFault r && !held.contains code then 1 else 0)
  let room := decide (l.length + 1 + reserve ≤ 32)
  match l.reverse with
  | [] => [r]
  | y :: ys =>
    if isFault r && isFault y && decide (y.w0 = r.w0 ∧ bitsOf y.w1.toNat 17 15 = bitsOf r.w1.toNat 17 15
        ∧ bitsOf y.w1.toNat 12 5 = bitsOf r.w1.toNat 12 5 ∧ cnt y < 31) then
      (withCnt y (cnt y + 1) :: ys).reverse
    else if room then l ++ [r]
    else
      match (l.reverse.findIdx? (fun x => decide (bitsOf x.w0.toNat 15 12 = typ ∧ codeOf x = code))) with
      | none => l
      | some i =>
        (l.reverse.modify i (fun x =>
          let x := withCnt x (satTo 31 (cnt x + 1))
          if isFault x then { x with w1 := toWord (putBits x.w1.toNat 12 5 0o377) }
          else { x with w1 := toWord (putBits x.w1.toNat 7 0 0o377) })).reverse

/-- A class A record emitted (R485): always while the port runs. -/
def State.traceA (s : State) (b typ code w1 t : Nat) : State :=
  if s.on FLT_SPCTL_EN && s.domOn .fabric then
    s.modFlt (fun x => { x with spool := lPut x.spool b (spoolA b (mkSpoor 0 typ b code w1 t) (lGet x.spool b)) })
  else s

/-- A record refused by the FIFO: counted against its block and in FLT_SPSHD (R486). -/
def State.shedOne (s : State) (b : Nat) (classC : Bool) : State :=
  let i := b * 2 + b2n classC
  s.modFlt (fun x => { x with shed := nPut x.shed i (satTo 511 (nGet x.shed i + 1)) }) |>.count FLT_SPSHD_SHED
    |>.raise FLT_GFLAG_SHED

/-- The B and C records that wait are shed (R493). -/
def State.shedWaiting (s : State) : State :=
  let bc (r : Spoor) : Bool := decide (bitsOf r.w0.toNat 17 16 = 1 ∨ bitsOf r.w0.toNat 17 16 = 2)
  let l := s.flt.fifo.filter (fun r => !bc r)
  (s.each (s.flt.fifo.filter bc) (fun r s => s.shedOne (bitsOf r.w0.toNat 11 8) (bitAt r.w0.toNat 17))).modFlt (fun x => { x with fifo := l })
    |>.setFld FLT_SPSTAT_FILL l.length

/-- A record judged as it arrives at the FIFO of 2048 records: `lim` is 1024 for C, 1792 for B, 2048 for A (R486). -/
def State.fifoPut (s : State) (b lim : Nat) (r : Spoor) : State :=
  if decide (s.flt.fifo.length < lim) then
    s.modFlt (fun x => { x with fifo := x.fifo ++ [r] }) |>.setFld FLT_SPSTAT_FILL (s.flt.fifo.length + 1)
  else s.shedOne b (decide (lim = 1024))

/-- A class B record: emitted only while the block's TRB is 1. -/
def State.traceB (s : State) (b typ code w1 t : Nat) : State :=
  if s.on FLT_SPCTL_EN && s.domOn .fabric && s.on (FLT_FCTL_TRB b) then s.fifoPut b 1792 (mkSpoor 1 typ b code w1 t) else s

/-- A class C record: emitted only while the block's TRC is 1. -/
def State.traceC (s : State) (b typ code w1 t : Nat) : State :=
  if s.on FLT_SPCTL_EN && s.domOn .fabric && s.on (FLT_FCTL_TRC b) then s.fifoPut b 1024 (mkSpoor 2 typ b code w1 t) else s

/-! ### Fault records (R471 to R483) -/

/-- The table level of a class (the class tables of every chapter). -/
def classLevel (b k : Nat) : Nat :=
  match b with
  | 0 => [3, 2, 2, 3, 0, 0].getD (k - 1) 0
  | 1 => [1, 1, 1, 4, 0].getD (k - 1) 0
  | 2 => [0, 1, 2, 2, 0].getD (k - 1) 0
  | 3 => [1, 0, 0, 0, 0].getD (k - 1) 0
  | 4 => [0, 0, 1, 0, 0].getD (k - 1) 0
  | 5 => [0, 1, 1, 2, 1, 1, 4].getD (k - 1) 0
  | 6 => [4, 2, 2, 0, 0].getD (k - 1) 0
  | 7 => [1, 1, 0, 0, 0, 0, 1, 1, 0, 1].getD (k - 1) 0
  | 8 => [1, 1, 0, 1, 1, 0].getD (k - 1) 0
  | 9 => [1, 0, 0, 0, 0, 1].getD (k - 1) 0
  | 10 => [2, 1, 1, 1, 0, 1].getD (k - 1) 0
  | 11 => [1, 0, 1, 1, 1, 0, 1, 0, 0, 1].getD (k - 1) 0
  | 12 => [1, 3, 1, 0, 0, 0, 0].getD (k - 1) 0
  | 13 => [0, 2, 0, 0, 0].getD (k - 1) 0
  | 14 => [1, 0, 1, 0, 0, 0, 2].getD (k - 1) 0
  | _ => [0, 0, 0, 0, 0, 0, 0, 1, 1, 1, 0, 0, 0, 0, 1, 0, 1, 0].getD (k - 1) 0

/-- The domain of a record (R637): for ICU and ACC by class and instance. -/
def recDom (b k inst : Nat) : Dom :=
  match b with
  | 0 => if k = 2 ∨ k = 3 then .coreA else if k = 5 ∧ inst < 2 then .coreA else .coreS
  | 1 => .fabric
  | 2 => .fabric
  | 3 => .fabric
  | 11 => .net
  | 12 => .zsw
  | 13 => .zsw
  | 14 => if k ≤ 5 then .act else .fabric
  | 15 => .fabric
  | _ => .act

/-- Unacknowledged records of a class (R478). -/
def State.unackOf (s : State) (b k : Nat) : Nat := nGet s.flt.unack (b * 32 + k)

/-- Effective level of the last record of a class. -/
def State.lastLvl (s : State) (b k : Nat) : Nat := nGet s.flt.last (b * 32 + k)

/-- The effective level of a new record of a class with a given table level (R478); FLT's own classes are never
escalated (R492). -/
def State.effLevelAt (s : State) (b k t : Nat) : Nat :=
  let n := s.unackOf b k
  if (b = 15 ∧ k ≤ 3) ∨ !s.bit (FLT_FESC_ESCEN b) (k - 1) then t
  else if t ≤ 1 then Nat.min 2 (t + n)
  else if n = 0 then t else Nat.min 4 (t + 1)

/-- The effective level of a new record of a class at its class's table level. -/
def State.effLevel (s : State) (b k : Nat) : Nat := s.effLevelAt b k (classLevel b k)

/-- The level of a new record of a class and instance: its effective level, where an L3 whose domain is ACT or FAWN is taken
as L4 (R476, R478). -/
def State.recLevelAt (s : State) (b k i t : Nat) : Nat :=
  let e := s.effLevelAt b k t
  if e = 3 ∧ (recDom b k i = .act ∨ recDom b k i = .fawn) then 4 else e

/-- The classes of a block that are pending. -/
def State.pendClasses (s : State) (b : Nat) : List Nat :=
  (List.range 18).filterMap (fun i => if s.bit (FLT_FPEND_PEND b) i then some (i + 1) else none)

/-- Highest effective level of the last records of the pending classes. -/
def State.pendLevel (s : State) (b : Nat) : Nat := (s.pendClasses b).foldl (fun m k => Nat.max m (s.lastLvl b k)) 0

/-- Units of a block that are fenced. -/
def State.fencedCount (s : State) (b : Nat) : Nat := (s.flt.fenced.filter (fun e => decide (e.1 / 256 = b))).length

/-- A unit that is fenced. -/
def State.isFenced (s : State) (b i : Nat) : Bool := bGet s.flt.fenced (b * 256 + i)

/-- FLTn's land level (R483): 1 released. -/
def State.fltnLevel (s : State) : Nat :=
  if s.on FLT_FLTN_L4S || s.on FLT_FLTN_MIN then 0
  else
    match s.fld FLT_FLTN_MODE with
    | 1 => 0
    | 2 => 1
    | _ => if (List.range 16).any (fun b => decide (2 ≤ s.pendLevel b)) then 0 else 1

/-- FLTn driven to its level; in REST and BEDDED it keeps the level of the commit. -/
def State.driveFltn (s : State) : State :=
  if s.pw.mode = .rest ∨ s.pw.mode = .bedded then s else s.setFld FLT_FLTN_LEVEL s.fltnLevel

/-- The fields of FLT that summarise a block's fault state (R490), refreshed. -/
def State.refreshFlt (s : State) (b : Nat) : State :=
  let lv := s.pendLevel b
  let any := !(s.pendClasses b).isEmpty
  s.setFld (FLT_FST_ANY b) (b2n any)
    |>.setFld (FLT_FST_LEVEL b) lv
    |>.setFld (FLT_FST_FENCED b) (satTo 511 (s.fencedCount b))
    |>.setBitF FLT_SUM_BLK b (any && decide (1 ≤ lv))
    |>.setBitF FLT_SUM2_BLK b (any && decide (2 ≤ lv))
    |>.driveFltn

/-- One record as the log and the trace hold it (R474). -/
structure FRec where
  b : Nat
  k : Nat
  inst : Nat
  lv : Nat
  esc : Bool
  fnc : Bool
  t : Nat
  tv : Bool
  deriving DecidableEq, Repr

/-- The record of a class and instance at this instant. -/
def State.mkRecAt (s : State) (b k inst t : Nat) (fnc : Bool) : FRec :=
  let lv := s.recLevelAt b k inst t
  ⟨b, k, inst % 256, lv, decide (t < lv), fnc, s.faultTime.1, s.faultTime.2⟩

/-- The first-fault entry of a class, written while its sticky bit is clear (R480). -/
def State.firstFault (s : State) (r : FRec) : State :=
  if s.bit (FLT_FSTKY_STICKY r.b) (r.k - 1) then s
  else
    s.setReg (rFLT_FFA r.b (r.k - 1)) (2 ^ 17 + b2n r.tv * 2 ^ 16 + r.lv * 2 ^ 9 + r.inst)
      |>.setReg (rFLT_FFB r.b (r.k - 1)) (r.t / 2 ^ 18)
      |>.setReg (rFLT_FFC r.b (r.k - 1)) (r.t % 2 ^ 18)

/-- The log entry of a record, or the overflow count when the log is full (R479). -/
def State.logEntry (s : State) (r : FRec) : State :=
  let i := s.fld (FLT_FST_LOGN r.b)
  if i < 8 then
    s.setReg (rFLT_LOGA r.b i) (r.k * 2 ^ 12 + r.lv * 2 ^ 9 + b2n r.esc * 2 ^ 8 + r.inst)
      |>.setReg (rFLT_LOGB r.b i) (r.t / 2 ^ 18)
      |>.setReg (rFLT_LOGC r.b i) (r.t % 2 ^ 18)
      |>.setReg (rFLT_LOGD r.b i) (b2n r.tv * 2 ^ 17 + b2n r.fnc * 2 ^ 16)
      |>.setFld (FLT_FST_LOGN r.b) (i + 1)
  else s.count (FLT_FOVF_OVF r.b)

/-- The unacknowledged count and the last level of a record's class (R478). -/
def State.escalate (s : State) (r : FRec) : State :=
  s.when r.esc (fun s => s.count (FLT_FOVF_ESCN r.b))
    |>.modFlt (fun x => { x with unack := nPut x.unack (r.b * 32 + r.k) (nGet x.unack (r.b * 32 + r.k) + 1),
                                 last := nPut x.last (r.b * 32 + r.k) r.lv })

/-- What every record does at every level, except the fence and the resets of R475. -/
def State.logCore (s : State) (r : FRec) : State :=
  s.escalate r
    |>.firstFault r
    |>.setBitF (FLT_FPEND_PEND r.b) (r.k - 1) true
    |>.setBitF (FLT_FSTKY_STICKY r.b) (r.k - 1) true
    |>.logEntry r
    |>.traceA r.b 1 r.k (r.lv * 2 ^ 15 + b2n r.esc * 2 ^ 14 + b2n r.fnc * 2 ^ 13 + r.inst * 2 ^ 5) r.t
    |>.when (decide (2 ≤ r.lv)) (fun s => s.setFld FLT_FLTN_MIN 1)
    |>.refreshFlt r.b

/-- A record logged, with the LOGOVF record for one kept out of its log (R492); one of a block of ACT at L1 or above is a wake
source (R453). -/
def State.logRecAt (s : State) (b k inst t : Nat) (fnc : Bool) : State :=
  let full := decide (8 ≤ s.fld (FLT_FST_LOGN b)) && !(decide (b = 15 ∧ k = 1))
  let wakes := decide (4 ≤ b ∧ b ≤ 10 ∧ 1 ≤ s.recLevelAt b k inst t)
  s.logCore (s.mkRecAt b k inst t fnc)
    |>.when full (fun s => s.logCore (s.mkRecAt 15 1 b 0 false))
    |>.when wakes (fun s => s.latchWake 0o13 b)

/-- A record logged at its class's table level. -/
def State.logRecord (s : State) (b k inst : Nat) (fnc : Bool) : State := s.logRecAt b k inst (classLevel b k) fnc

/-! ### Configuration transactions (R82, R83) -/

/-- The transaction owners: A0, A1, S and the remote slots. -/
def txOwners : List Nat := [0, 1, 2, 4, 5, 6, 7]

/-- The owner whose open transaction claims a block. -/
def State.claimant (s : State) (b : Nat) : Option Nat :=
  txOwners.find? (fun o => s.on (RNG_TXSTAT_OPEN o) && s.bit (RNG_TXCLAIM_CLAIM o) b)

/-- The shadow of a register of a claimed block: its live value until it is written. -/
def State.shadowOf (s : State) (k : Nat) : Word := smGet (fun j => smGet regReset s.io j) s.rng.shadow k

/-- The lock that LK fields of a register obey (R9). -/
def State.lockedReg (s : State) (k : Nat) : Bool :=
  if k % 65536 < 4096 then s.on (ICU_MCTL_LOCK (k / 65536 - 1))
  else
    match k / 4096 with
    | 5 => s.on THM_GCTL_LOCK
    | 9 => s.on LUX_GCTL_LOCK
    | 10 => s.on INP_GLOCK_LOCK
    | 15 => s.on FLT_GCTL_LOCK
    | _ => false

/-- The bits of a register that belong to TX fields with a property. -/
def txMask (k : Nat) (p : Field → Bool) : Nat :=
  match rowOf k with
  | some r => (r.fields.filter (fun f => f.tx && p f)).foldl (fun m f => m ||| maskOf f.hi f.lo) 0
  | none => 0

/-- A word with the bits of a mask from another word. -/
def mixBits (m : Nat) (a b : Word) : Word := (a &&& ~~~(toWord m)) ||| (b &&& toWord m)

/-- The value a register will hold when the owner's shadows are applied; LK fields that are locked keep their value (R177). -/
def State.regNext (s : State) (k : Nat) : Nat :=
  match smFind s.rng.shadow k with
  | some v => if s.lockedReg k then (mixBits (txMask k Field.lk) v (toWord (s.reg k))).toNat else v.toNat
  | none => s.reg k

/-- A field's value in the shadow of a transaction. -/
def State.fldNext (s : State) (f : FRef) : Nat := bitsOf (s.regNext f.addr) f.hi f.lo

/-- A field that the commit would change. -/
def State.moves (s : State) (f : FRef) : Bool := decide (s.fldNext f ≠ s.fld f)

/-- A transaction's shadows discarded and its claims released. -/
def State.txRelease (s : State) (o last : Nat) : State :=
  s.modRng (fun x => { x with
      shadow := smKeep (fun k => !s.bit (RNG_TXCLAIM_CLAIM o) (k / 4096)) x.shadow,
      commits := smErase x.commits o, fencedSince := smErase x.fencedSince o })
    |>.setReg (rRNG_TXCLAIM o) 0
    |>.setReg (rRNG_TXLEFT o) 0
    |>.setReg (rRNG_TXSTAT o) 0
    |>.setFld (RNG_TXSTAT_LAST o) last

/-- The owner whose COMMIT waits as a descriptor. -/
def State.commitOwner (s : State) (d : Desc) : Option Nat := (s.rng.commits.find? (fun e => decide (e.2.id = d.id))).map Prod.fst

/-- A unit's mark in the fence map set; every waiting COMMIT remembers the fence (R87). -/
def State.markFenced (s : State) (k : Nat) : State :=
  s.modFlt (fun x => { x with fenced := bPut x.fenced k true })
    |>.modRng (fun x => { x with fencedSince := x.commits.foldl (fun m e => lPut m e.1 (k :: lGet m e.1)) x.fencedSince })

/-! ### Completion (R78 to R81) -/

/-- Common completion statuses (R81). -/
def stDone : Nat := 0
def stDeferred : Nat := 1
def stConfirmed : Nat := 2
def stReverted : Nat := 3
def stLate : Nat := 4
def stFenced : Nat := 5
def stDomainLost : Nat := 6
def stMemError : Nat := 7
def stBankOffline : Nat := 0o10
def stBadOpcode : Nat := 0o11
def stBadTarget : Nat := 0o12
def stBadParam : Nat := 0o13
def stBadDesc : Nat := 0o14
def stDenied : Nat := 0o15
def stAborted : Nat := 0o16
def stSuperseded : Nat := 0o17

/-- The block of an engine's registers (R19), for its trace records. -/
def engBlock (e : Nat) : Nat := [3, 3, 4, 7, 8, 9, 14, 11, 12].getD e 3

/-- First word of a slot of a ring (R65). -/
def State.slotAddr (s : State) (r i : Nat) : Nat := s.reg (rRNG_RBASE r) / 8 * 8 + 8 * i

/-- Descriptors a ring holds. -/
def State.ringSize (s : State) (r : Nat) : Nat := 2 ^ (3 + s.fld (RNG_RCFG_SIZE r))

/-- The interrupt pending bit of a ring set. -/
def State.ringIrq (s : State) (r : Nat) : State := s.setBitF (RNG_IRQPEND_PEND (r / 16)) (r % 16) true

/-- A descriptor whose action has started (R80); a provisional's preparation counts as started. -/
def Desc.started (d : Desc) : Bool := decide (d.phase = .running ∨ d.phase = .prov)

/-- The accepted descriptors replaced. -/
def State.setDescs (s : State) (l : List Desc) : State := { s with descs := l }

/-- A ring's started descriptors keep running without a completion; the others are dropped (R80). -/
def muteRing (r : Nat) (l : List Desc) : List Desc :=
  (l.filter (fun d : Desc => decide (d.ring ≠ r) || d.started)).map (fun d : Desc => if d.ring = r then { d with mute := true } else d)

/-- A descriptor's fields (R71). -/
def Desc.opcode (d : Desc) : Nat := bitsOf d.w0.toNat 11 6
def Desc.flags (d : Desc) : Nat := bitsOf d.w0.toNat 5 0
def Desc.isProv (d : Desc) : Bool := bitAt d.w0.toNat 15
def Desc.isTimed (d : Desc) : Bool := bitAt d.w0.toNat 13
def Desc.target (d : Desc) : Nat := bitsOf d.w1.toNat 17 8
def Desc.tag (d : Desc) : Nat := bitsOf d.w1.toNat 7 0
def Desc.deadline (d : Desc) : Nat := d.w5.toNat * 2 ^ 18 + d.w6.toNat
/-- tPROV of a provisional in ms (R118). -/
def Desc.tprov (d : Desc) : Nat := bitsOf d.w4.toNat 8 0

/-- The sequencer output of an engine's target (R104, R127, R184, R218, R276); a target without one answers none. -/
def outOf (e t : Nat) : Option Nat :=
  match e with
  | 2 => if t < 64 then some t else none
  | 3 => if t < 16 then some (64 + t) else if t < 24 then some (64 + 2 * (t - 16)) else if t < 28 then some (100 + t) else none
  | 4 => if t < 16 then some (84 + t) else if t < 20 then some (64 + t) else none
  | 5 => if t < 24 then some (100 + t) else none
  | _ => none

/-- The SEQ_OSTAT.PROVP bit of a target's output. -/
def State.setProvp (s : State) (e t : Nat) (b : Bool) : State :=
  match outOf e t with
  | some n => s.setFld (SEQ_OSTAT_PROVP n) (b2n b)
  | none => s

/-- A descriptor that is not accepted any longer leaves its target: a provisional clears its SEQ_OSTAT.PROVP (R118), and the
transaction of a COMMIT that waited rolls back (R89). -/
def State.leave (s : State) (d : Desc) : State :=
  let s := if d.phase = .prov ∨ d.phase = .provWait then s.setProvp d.eng d.target false else s
  match s.commitOwner d with
  | some o => s.txRelease o 2
  | none => s

/-- A ring stopped because its bank went off line (R44, R80): its accepted descriptors that have not started are
dropped, and RSTOP is recorded. DEDUCED: a COMMIT dropped while it waits rolls its transaction back as one that a ring disable
aborts does (R89). -/
def State.ringStop (s : State) (r : Nat) : State :=
  if s.fld (RNG_RSTAT_STATE r) = 2 then s
  else
    (s.setFld (RNG_RSTAT_STATE r) 2).setFld (RNG_RSTAT_CAUSE r) 4
      |>.ringIrq r
      |>.each (s.descs.filter (fun d : Desc => decide (d.ring = r) && !d.started)) (fun d s => s.leave d)
      |>.setDescs (muteRing r s.descs)
      |>.logRecord 3 1 r false

/-! ### ECC errors (R38, R634) -/

/-- The rings whose descriptors meet a bank (R44). -/
def State.ringsIn (s : State) (k : Nat) : List Nat :=
  (List.range 64).filter (fun r => s.fld (RNG_RSTAT_STATE r) = 1 && (banksOf (s.slotAddr r 0) (8 * s.ringSize r)).contains k)

/-- A memory unit fenced: a bank goes off line, and the rings in it stop. -/
def State.memFence (s : State) (k : Nat) : State :=
  if k < 8 then (s.setBankSt k 2).each (s.ringsIn k) (fun r s => s.ringStop r) else s

/-- The FENCE trace record of a fence, and the fields of FLT that show it. -/
def State.fenceNote (s : State) (b i : Nat) : State := (s.traceA b 2 1 (i % 256) s.faultTime.1).refreshFlt b

/-- A record of class ECC1 or ECC2 of a memory unit; an escalated one fences a bank or a TCM (R475, R634). -/
def State.eccRecord (s : State) (k u : Nat) : State :=
  let f := decide (2 ≤ s.recLevelAt 2 k u (classLevel 2 k) ∧ u < 11) && !s.isFenced 2 u
  (s.logRecord 2 k u f).when f (fun s =>
    ((s.memFence u).markFenced (2 * 256 + u)).modFlt (fun x => { x with fenced := bPut x.fenced (2 ^ 16 + 2 * 256 + u) true })
      |>.fenceNote 2 u)

/-- The memory unit of a word. -/
def memUnit (k : Nat) : Nat :=
  if k < 2 ^ 18 then (if k < 0o300000 then bankOf k else 11)
  else if k < 2 ^ 23 then 7 + k / 2 ^ 18
  else if k < 2 ^ 24 then 12
  else 13

/-- The address in its memory that MEM_ERRADR shows: a data-space address, or a parcel or word address in its bank. -/
def memAddr (k : Nat) : Nat := if k < 2 ^ 24 then k % 2 ^ 18 else k % 2 ^ 16

/-- A corrected error counted. -/
def State.eccSingle (s : State) (k : Nat) : State :=
  ((s.count MEM_ECC_CNT1).when (decide (memUnit k = 12)) (fun s => s.count MEM_NSTAT_CNT1)).eccRecord 1 (memUnit k)

/-- An uncorrectable error counted and captured. -/
def State.eccDouble (s : State) (k : Nat) : State :=
  (s.count MEM_ECC_CNT2).setReg rMEM_ERRADR (memAddr k)
    |>.setFld MEM_ERRSRC_UNIT (memUnit k)
    |>.setFld MEM_ERRSRC_PARH (if memUnit k = 12 then k % 2 ^ 20 / 2 ^ 18 else 0)
    |>.eccRecord 2 (memUnit k)

/-- What a read of a word does to the error counts. -/
def State.eccNote (s : State) (k : Nat) : State :=
  if s.eccOf k = 1 then s.eccSingle k else if s.eccOf k = 2 then s.eccDouble k else s

/-- An engine-port read of a range of words: every error it meets is counted. -/
def State.portRead (s : State) (a n : Nat) : State :=
  s.each (s.ecc.filter (fun e => decide (a ≤ e.1 ∧ e.1 < a + n))) (fun e s => s.eccNote e.1)

/-- The first of `n` words that a copy cannot take. -/
def stopAt (n : Nat) (bad : Nat → Bool) : Nat := ((List.range n).find? bad).getD n

/-- A read of a range of words that ends at the first uncorrectable one. -/
def State.readUntil (s : State) (a n : Nat) : State := s.portRead a (stopAt n (fun i => decide (s.eccOf (a + i) = 2)) + 1 |>.min n)

/-- The completion word (R71). -/
def w7Of (st detail : Nat) : Word := toWord (st * 2 ^ 12 + detail % 2 ^ 12)

/-- The slot's words at a completion (R79): w7 first, then OWN cleared by the bit-clear operation, which counts a single-bit
error of w0 as it corrects it (R38), or w0 written whole when it holds an uncorrectable error. -/
def State.writeW7 (s : State) (a st detail : Nat) : State :=
  (s.wr (a + 7) (w7Of st detail)).when (decide (s.eccOf a = 1)) (fun s => s.eccSingle a)
    |>.wr a (if s.eccOf a = 2 then 0 else toWord (putBits (s.rd a).toNat 17 17 0))

/-- A completion gathered for a remote slot's completion response (R97). -/
def State.gatherDone (s : State) (c : HeldC) (w1 w7 : Word) : State :=
  if 4 ≤ c.owner then
    s.modRng (fun x => { x with
      gather := lPut x.gather (c.owner - 4) (lGet x.gather (c.owner - 4) ++ [⟨c.ring, c.slot, c.req.1, c.req.2, w1, w7⟩]) })
  else s

/-- A descriptor no longer held by its engine; the end of a provisional clears its SEQ_OSTAT.PROVP (R118). -/
def State.dropDesc (s : State) (d : Desc) : State :=
  s.setDescs (s.descs.filter (fun x : Desc => decide (x.id ≠ d.id)))
    |>.when (decide (d.phase = .prov ∨ d.phase = .provWait)) (fun s => s.setProvp d.eng d.target false)

/-- A completion written (R79): the slot's words, the interrupt pending bit, the trace record and the gathered
completion; a ring whose slot's bank is off line is stopped. DESIGN CHOICE: the slot is found from RNG_RBASE at the completion,
also when the base of a disabled ring was written since the fetch (R80 leaves it open). -/
def State.writeDone (s : State) (c : HeldC) : State :=
  let a := s.slotAddr c.ring c.slot
  if s.addrOff a then s.ringStop c.ring
  else
    s.writeW7 a c.st c.detail
      |>.when (c.irq && s.on (RNG_RCFG_IRQEN c.ring)) (fun s => s.ringIrq c.ring)
      |>.when (decide (c.st ≠ 0)) (fun s => s.traceB (engBlock c.eng) 4 c.ring (c.st * 2 ^ 12 + c.slot) s.faultTime.1)
      |>.gatherDone c (s.rd (a + 1)) (w7Of c.st c.detail)

/-- An accepted descriptor completed: its completion is written, or held while FABRIC does not run (R456). -/
def State.finish (s : State) (d : Desc) (st detail : Nat) : State :=
  let c : HeldC := ⟨d.eng, d.ring, d.slot, st, detail, bitAt d.w0.toNat 16, d.owner, d.req⟩
  if d.mute then s.dropDesc d
  else if !s.domOn .fabric then (s.dropDesc d).modPw (fun p => { p with held := p.held ++ [c] })
  else (s.dropDesc d).writeDone c

/-- A deadline that has passed (R74). -/
def State.passed (s : State) (d : Desc) : Bool := decide (2 ^ 35 ≤ (d.deadline + 2 ^ 36 - s.ztDl) % 2 ^ 36)

/-- DONE with the TIMED conditions in bits 11:9 (R117) over an engine's detail. -/
def State.finishDone (s : State) (d : Desc) (detail : Nat) : State :=
  s.finish d stDone (if d.wasTimed then d.cond * 2 ^ 9 + detail % 2 ^ 9 else detail)

/-- An accepted descriptor by its place of acceptance. -/
def State.descId (s : State) (k : Nat) : Option Desc := s.descs.find? (fun d => decide (d.id = k))

/-- The accepted descriptor of a ring slot in a phase. -/
def State.descAt (s : State) (r i : Nat) (p : DPhase) : Option Desc :=
  s.descs.find? (fun d => decide (d.ring = r ∧ d.slot = i ∧ d.phase = p))

/-- An accepted descriptor replaced. -/
def State.setDesc (s : State) (d : Desc) : State :=
  s.setDescs (s.descs.map (fun x : Desc => if x.id = d.id then d else x))

/-- The pending provisional of a target whose preparation may run. -/
def State.provDesc (s : State) (e t : Nat) : Option Desc :=
  s.descs.find? (fun d => decide (d.eng = e ∧ d.target = t ∧ (d.phase = .prov ∨ d.phase = .provWait)))

/-- Every accepted descriptor that satisfies a test completed with one status. -/
def State.finishAll (s : State) (p : Desc → Bool) (st : Nat) : State :=
  s.each (s.descs.filter p) (fun d s => s.finish d st 0)

end Sys2Proof.Machine
end

