-- ==== Sys2Proof/Machine/SeqOps.lean ====
section
/-! DEFINITION. Sequencer threads as the actuator engines use them: the outputs of R104, the thread registers, and the
start and the stop of a thread (R108 to R112). -/

namespace Sys2Proof.Machine

/-- The channel that a stage belongs to: the odd stage of a pair acts for the even channel (R129). -/
def State.hscOf (s : State) (n : Nat) : Nat :=
  if n < 8 ∧ n % 2 = 1 ∧ s.fld (HSC_CFG_PAR (n - 1)) = 1 then n - 1 else n

/-- The odd channel of a pair. -/
def State.hscOdd (s : State) (n : Nat) : Bool := decide (s.hscOf n ≠ n)

/-- The engine and target that a sequencer output belongs to; the odd channel of a paired HX belongs to the even one (R129), a
half-bridge of a pair to the pair target (R185). -/
def State.tgtOf (s : State) (o : Nat) : Nat × Nat :=
  if o < 64 then (2, s.hscOf o)
  else if o < 80 then
    let h := o - 64
    if s.on (MOT_HCFG_PAIR (h / 2 * 2)) then (3, 16 + h / 2) else (3, h)
  else if o < 84 then (4, o - 64)
  else if o < 100 then (4, o - 84)
  else if o < 124 then (5, o - 100)
  else (3, o - 100)

/-- A thread beside its registers. -/
def State.thr (s : State) (n : Nat) : Thread := smGet (fun _ => {}) s.threads n
def State.setThr (s : State) (n : Nat) (t : Thread) : State := { s with threads := smPut (fun _ => {}) s.threads n t }
def State.modThr (s : State) (n : Nat) (f : Thread → Thread) : State := s.setThr n (f (s.thr n))

/-- SEQ_OSTAT.STATE: 0 stopped, 1 running, 2 time wait, 3 frame wait, 4 event wait, 5 faulted, 6 suspended. -/
def State.thrSt (s : State) (n : Nat) : Nat := s.fld (SEQ_OSTAT_STATE n)
def State.setThrSt (s : State) (n v : Nat) : State := s.setFld (SEQ_OSTAT_STATE n) v
def State.thrPc (s : State) (n : Nat) : Nat := s.fld (SEQ_OSTAT_PC n)
def State.setThrPc (s : State) (n v : Nat) : State := s.setFld (SEQ_OSTAT_PC n) v

/-- A thread that counts as stopped: stopped or faulted (R113). -/
def State.thrStopped (s : State) (n : Nat) : Bool := decide (s.thrSt n = 0 ∨ s.thrSt n = 5)

/-- A thread that runs or waits. -/
def State.thrLive (s : State) (n : Nat) : Bool := decide (1 ≤ s.thrSt n ∧ s.thrSt n ≤ 4)

/-- The output value last applied (R106). -/
def State.oval (s : State) (n : Nat) : Nat := s.fld (SEQ_OVAL_D n)
def State.setOval (s : State) (n d : Nat) : State := s.setFld (SEQ_OVAL_D n) d

/-- The sequencer group of an output, and whether a group runs a frame or is frozen. -/
def State.grp (s : State) (n : Nat) : Nat := s.fld (SEQ_OCFG_GRP n)
def State.grpRuns (s : State) (g : Nat) : Bool := s.on (SEQ_GCFG_PER g)
def State.grpFrozen (s : State) (g : Nat) : Bool := s.on (SEQ_GCTL_FROZEN g)

/-- The PWM period of a high-side channel in frames of a length in ticks (R130). -/
def pwmFrames (n frame : Nat) : Nat :=
  let m := if n < 8 then 400000 else 80000
  if frame = 0 then 1 else Nat.max 1 ((m + frame - 1) / frame)

/-- The frame length of a group in ticks (R104). -/
def State.frameLen (s : State) (g : Nat) : Nat := s.fld (SEQ_GCFG_PER g) * 4 ^ s.fld (SEQ_GCFG_PRE g)

/-- A thread stopped; what belongs to its output stays: the D of the last frame boundary and a PHASE that the next boundary takes
up. -/
def State.stopThread (s : State) (n : Nat) : State :=
  (s.setThrSt n 0).setThr n { dEdge := (s.thr n).dEdge, phaseNew := (s.thr n).phaseNew }

/-- A thread started at an address with its Q registers; it keeps the output's present D (R110, R111). -/
def State.startThread (s : State) (n addr q0 q1 q2 : Nat) : State :=
  (s.setThrSt n 1).setThrPc n addr
    |>.setThr n { d := s.oval n, q0 := q0, q1 := q1, q2 := q2, dEdge := (s.thr n).dEdge, phaseNew := (s.thr n).phaseNew }

/-- The word of entry `e` of an output's entry table (R108). -/
def State.entryWord (s : State) (n e : Nat) : Nat := (s.rd (seqKey (n * 0o60 + e))).toNat

/-- A single-bit error of a word of sequencer memory that is read is written back (R635). -/
def State.seqScrub (s : State) (a : Nat) : State :=
  let k := seqKey (a % 8192)
  if s.eccOf k = 1 then s.wr k (s.rd k) else s

/-- The scrub of an entry word that an engine reads. -/
def State.entryScrub (s : State) (n e : Nat) : State := s.seqScrub (n * 0o60 + e)

/-- An entry word that holds an uncorrectable error. -/
def State.entryBad (s : State) (n e : Nat) : Bool := decide (s.eccOf (seqKey (n * 0o60 + e)) = 2)

/-- An entry that an engine starts: its VALID bit is 1. DEDUCED: a word with an uncorrectable error is started as well, and its
start is the program fault of R635. -/
def State.entryValid (s : State) (n e : Nat) : Bool := bitAt (s.entryWord n e) 17 || s.entryBad n e

/-- An address inside an output's slot or the library (R111). -/
def inSlot (n a : Nat) : Bool := decide ((n * 0o60 ≤ a ∧ a < n * 0o60 + 0o60) ∨ (0o14000 ≤ a ∧ a < 0o20000))

/-- An event of R111 on an output: the event wait that waits for it keeps it, in a frozen group too (R113). -/
def State.seqEvent (s : State) (n k : Nat) : State :=
  let t := s.thr n
  if (s.thrSt n = 4 ∨ (s.thrSt n = 6 ∧ t.susp = 4)) ∧ t.evKind = k then s.setThr n { t with ev := true } else s

/-- The protection event on an output. -/
def State.protEvent (s : State) (n : Nat) : State := s.seqEvent n 2

/-- The sense value of an output: HSC_IMEAS, the magnitude of MOT_HIMEAS or MOT_GIMEAS, VLV_VIMEAS or LUX_LIMEAS (R111, R213,
R243, R279). -/
def State.senseOf (s : State) (n : Nat) : Nat :=
  if n < 64 then s.fld (HSC_IMEAS_I n)
  else if n < 80 then (sextOf 18 (s.fld (MOT_HIMEAS_I (n - 64)))).natAbs
  else if n < 84 then s.fld (VLV_BIMEAS_I (n - 80))
  else if n < 100 then s.fld (VLV_VIMEAS_I (n - 84))
  else if n < 124 then s.fld (LUX_LIMEAS_I (n - 100))
  else (sextOf 18 (s.fld (MOT_GIMEAS_V (n - 124)))).natAbs

/-- The sense value of an output judged against THR (R111). -/
def State.senseEvent (s : State) (n : Nat) : State :=
  let v := s.senseOf n
  let t := (s.thr n).thr
  s.when (decide (t < v)) (fun s => s.seqEvent n 0) |>.when (decide (v < t)) (fun s => s.seqEvent n 1)

/-- The zone-time conditions of a descriptor's first change (R117): bit 2 holdover, bit 1 stepped, bit 0 late. -/
def State.condOf (s : State) (d : Desc) (late : Bool) : Nat :=
  b2n (s.on SEQ_ZSTAT_HOLD) * 4 + d.cond / 2 % 2 * 2 + b2n late

/-- A descriptor's action has started. -/
def State.startDesc (s : State) (d : Desc) : State := s.setDesc { d with phase := .running }

/-- A ΔT latch, a junction latch or a wire trip on an output (R165, R166, R174). -/
def State.dtLat (s : State) (o : Nat) : Bool := s.on (THM_TSTAT_DTLAT o)
def State.tjLat (s : State) (o : Nat) : Bool := s.on (THM_TSTAT_TJLAT o)
def State.wireTrip (s : State) (o : Nat) : Bool :=
  if o < 64 then s.bit (THM_WLAT_TRIP (o / 16)) (o % 16) else s.bit THM_WLATV_TRIP (o - 80)

/-- The rise of a wire model, in 10^-12 K. -/
def State.theta (s : State) (o : Nat) : Nat := nGet s.thm.theta o

/-- A wire trip bit set or cleared, with THM_WSTAT (R174, R175). -/
def State.setTrip (s : State) (o : Nat) (b : Bool) : State :=
  (if o < 64 then s.setBitF (THM_WLAT_TRIP (o / 16)) (o % 16) b else s.setBitF THM_WLATV_TRIP (o - 80) b)
    |>.setFld (THM_WSTAT_TRIP o) (b2n b)

/-- A request to reset a wire trip: it clears the trip only at a rise of 10 K or below (R175). -/
def State.wireReset (s : State) (o : Nat) : State := if s.theta o ≤ 10 * 10 ^ 12 then s.setTrip o false else s

/-- The group of a target's output is frozen: its descriptors wait (R113). DESIGN CHOICE: those of the faulting output wait as
well. -/
def State.descFrozen (s : State) (d : Desc) : Bool :=
  match outOf d.eng d.target with
  | some n => s.grpFrozen (s.grp n)
  | none => false

/-- A command acts on the accepted descriptor of a ring slot that waits for its action: with the engine's opcode, its
group not frozen (R113). -/
def State.onReady (s : State) (e op : Nat) (r i : Nat) (f : Desc → State → State) : State :=
  match s.descAt r i .ready with
  | some d => if d.eng = e ∧ d.opcode = op ∧ !s.descFrozen d then f d s else s
  | none => s

/-- The latches that hold on an output, as the detail bits of a THERMAL completion. -/
def State.latBits (s : State) (o : Nat) : Nat := b2n (s.dtLat o) + 2 * b2n (s.tjLat o)

/-- An unconfirmed provisional of a target completed, with a count of R123. -/
def State.provEnd (s : State) (e t st detail : Nat) (cnt : Option FRef) : State :=
  match s.provDesc e t with
  | some d =>
    let s := s.finish d st detail
    match cnt with
    | some f => s.count f
    | none => s
  | none => s

end Sys2Proof.Machine
end

