-- ==== Sys2Proof/Machine/NetLow.lean ====
section
/-! DEFINITION. The switch core's cells and queues and a port's way down, and the bus channels' transceivers and loaded
frames: what the fences of R481 act on in ZSW, ETH and NET. -/

namespace Sys2Proof.Machine

/-! ### Cells and queues -/

def State.modZsw (s : State) (f : Zsw → Zsw) : State := { s with zsw := f s.zsw }
def State.modEth (s : State) (f : Eth → Eth) : State := { s with eth := f s.eth }

/-- The first `k` numbers from `c` on that an ascending list leaves out. -/
def gapsFrom (l : List Nat) (c k : Nat) : List Nat :=
  match l with
  | [] => (List.range k).map (fun i => c + i)
  | x :: t =>
    let g := if x - c ≤ k then x - c else k
    (List.range g).map (fun i => c + i) ++ (if k ≤ x - c then [] else gapsFrom t (x + 1) (k - (x - c)))

/-- A number at its place in an ascending list. -/
def insAsc (l : List Nat) (n : Nat) : List Nat :=
  match l with
  | [] => [n]
  | x :: t => if n < x then n :: x :: t else if n = x then x :: t else x :: insAsc t n

/-- Free cells (R363). -/
def State.zFreeN (s : State) : Nat := 8192 - s.zsw.out.length

/-- Entries of an egress queue. -/
def State.zQueue (s : State) (p q : Nat) : List ZEntry := lGet s.zsw.queues (p * 8 + q)
def State.setZQueue (s : State) (p q : Nat) (l : List ZEntry) : State :=
  s.modZsw (fun z => { z with queues := lPut z.queues (p * 8 + q) l })

/-- A stored frame. -/
def State.zFrame (s : State) (i : Nat) : ZFrame := smGet (fun _ => {}) s.zsw.frames i

/-- Cells that a queue holds. -/
def State.zDepth (s : State) (p q : Nat) : Nat :=
  ((s.zQueue p q).map (fun e => (s.zFrame e.frame).cells.length)).foldl (· + ·) 0

/-- Queue entries in use, of the 4096 that all queues share (R374). -/
def State.zEntries (s : State) : Nat := s.zsw.queues.foldl (fun n e => n + e.2.length) 0

/-- A port with nothing queued. -/
def State.zEmpty (s : State) (p : Nat) : Bool := (List.range 8).all (fun q => (s.zQueue p q).isEmpty)

/-- ZSW_FREE, ZSW_QENT and the depth of one queue brought up to date. -/
def State.zCounts (s : State) (p q : Nat) : State :=
  s.setFld ZSW_FREE_FREE s.zFreeN
    |>.setFld ZSW_QENT_QENT (4096 - s.zEntries)
    |>.setFld (ZSW_QSTAT_DEPTH (p * 8 + q)) (s.zDepth p q)

/-- Whether a frame is still queued, being sent or bound. -/
def State.zHeld (s : State) (i : Nat) : Bool :=
  s.zsw.queues.any (fun e => e.2.any (fun x => decide (x.frame = i)))
    || s.zsw.sending.any (fun e => decide (e.2.frame = i))
    || s.zsw.binds.any (fun b => decide (b.frame = i))

/-- A frame's cells freed once nothing holds it. -/
def State.zRelease (s : State) (i : Nat) : State :=
  if s.zHeld i then s
  else
    let cs := (s.zFrame i).cells
    (s.modZsw (fun z => { z with
        out := z.out.filter (fun c => !cs.contains c || z.retired.contains c),
        frames := smErase z.frames i })).setFld ZSW_FREE_FREE (s.zFreeN + (cs.filter (fun c => !s.zsw.retired.contains c)).length)

/-- The head of a queue taken out. -/
def State.zPop (s : State) (p q : Nat) : State := (s.setZQueue p q (s.zQueue p q).tail).zCounts p q

/-- Every frame of a queue dropped. -/
def State.zPurge (s : State) (p q : Nat) : State :=
  s.each (s.zQueue p q) (fun e s => (s.zPop p q).zRelease e.frame)

/-- Port state (R378): 0 DOWN, 1 UP, 2 HOLD, 3 FLUSH. -/
def State.zPort (s : State) (p : Nat) : Nat := s.fld (ZSW_PSTAT_STATE p)
def State.zEvt (s : State) (p i : Nat) : State := s.setBitF (ZSW_PEVT_EVT p) i true

/-- A port into FLUSH. -/
def State.zToFlush (s : State) (p : Nat) : State := (s.setFld (ZSW_PSTAT_STATE p) 3).zEvt p 4

/-- The frame that a port is sending abandoned (R379). -/
def State.zAbandon (s : State) (p : Nat) : State :=
  match smFind s.zsw.sending p with
  | some x =>
    (s.modZsw (fun z => { z with sending := smErase z.sending p })).zRelease x.frame |>.count (ZSW_PTXD_ABORT p)
  | none => s

/-- A port in UP or HOLD to FLUSH: EN cleared, or the port fenced (R378). -/
def State.zDisable (s : State) (p : Nat) : State :=
  if s.zPort p = 1 ∨ s.zPort p = 2 then (s.zAbandon p).zToFlush p else s

/-- A PHY powered down: its link is down, and PLCA is inactive. -/
def State.phyDown (s : State) (p : Nat) : State :=
  s.when (s.on (ETH_PSTAT_LINK p)) (fun s => s.setBitF (ETH_PEVT_EVT p) 1 true)
    |>.setFld (ETH_PSTAT_LINK p) 0
    |>.setFld (ETH_PSTAT_SQI p) 0
    |>.setFld (ETH_PSTAT_PLCAA p) 0

/-- A port fenced (R396). -/
def State.ethFence (s : State) (p : Nat) : State :=
  ((s.setFld (ETH_PSTAT_FENCED p) 1).phyDown p).when (decide (p < 6)) (fun s => s.setTc10 p 0)
    |>.zDisable p

def State.ethUnfence (s : State) (p : Nat) : State :=
  (s.setFld (ETH_PSTAT_FENCED p) 0).when (decide (p < 6) && s.on (ETH_PCFG_EN p)) (fun s => s.setTc10 p 1)

/-! ### Channels -/

def State.modNet (s : State) (f : Net → Net) : State := { s with net := f s.net }

/-- A channel, 0-5 CAN, 8-11 LIN (R319). -/
def State.nch (s : State) (c : Nat) : NetCh := smGet (fun _ => {}) s.net.ch c
def State.setNch (s : State) (c : Nat) (x : NetCh) : State := s.modNet (fun n => { n with ch := smPut (fun _ => {}) n.ch c x })
def State.modNch (s : State) (c : Nat) (f : NetCh → NetCh) : State := s.setNch c (f (s.nch c))

/-- The channels of the bus frame engine. -/
def netChans : List Nat := [0, 1, 2, 3, 4, 5, 8, 9, 10, 11]

/-- The wake source of a channel (R328), which is also its bit in a channel mask. -/
def srcOf (c : Nat) : Nat := if c < 6 then c else c - 2
/-- The channel of a wake source. -/
def chOf (s : Nat) : Nat := if s < 6 then s else s + 2

/-- A channel's transceiver state (R323): 0 NORMAL, 1 LISTEN, 2 STANDBY, 3 SLEEP. -/
def State.tcvr (s : State) (c : Nat) : Nat := if c < 6 then s.fld (NET_CTC_STATE c) else s.fld (NET_LSTAT_STATE (c - 8))
def State.chReq (s : State) (c : Nat) : Nat := if c < 6 then s.fld (NET_CTC_REQ c) else s.fld (NET_LCFG_REQ (c - 8))
def State.setChReq (s : State) (c v : Nat) : State :=
  if c < 6 then s.setFld (NET_CTC_REQ c) v else s.setFld (NET_LCFG_REQ (c - 8)) v
def State.chEn (s : State) (c : Nat) : Bool := if c < 6 then s.on (NET_CCFG_EN c) else s.on (NET_LCFG_EN (c - 8))
def State.chWken (s : State) (c : Nat) : Bool := if c < 6 then s.on (NET_CTC_WKEN c) else s.on (NET_LCFG_WKEN (c - 8))
def State.chFenced (s : State) (c : Nat) : Bool :=
  if c < 6 then s.on (NET_CTC_FENCED c) else s.on (NET_LSTAT_FENCED (c - 8))

/-- A bit of NET_CEVT or NET_LEVT set. -/
def State.cEvent (s : State) (c i : Nat) : State := s.setBitF (NET_CEVT_EVT c) i true
def State.lEvent (s : State) (k i : Nat) : State := s.setBitF (NET_LEVT_EVT k) i true

/-- INH0 and INH1 (R325): high while FORCE is 1, or a channel of the mask is not in SLEEP or has a wake pending. -/
def State.inhLevel (s : State) (force mask : FRef) : Bool :=
  s.on force || netChans.any (fun c => s.bit mask (srcOf c) && (decide (s.tcvr c ≠ 3) || (s.nch c).wake))
def State.refreshInh (s : State) : State :=
  s.setFld NET_INH0_LEVEL (b2n (s.inhLevel NET_INH0_FORCE NET_INH0_MASK))
    |>.setFld NET_INH1_LEVEL (b2n (s.inhLevel NET_INH1_FORCE NET_INH1_MASK))

/-- A transceiver in a state. -/
def State.setTcvr (s : State) (c v : Nat) : State :=
  (if c < 6 then s.setFld (NET_CTC_STATE c) v else s.setFld (NET_LSTAT_STATE (c - 8)) v)
    |>.when (decide (v ≤ 1)) (fun s => s.modNch c (fun x => { x with wake := false }))
    |>.when (decide (s.tcvr c ≠ v)) (fun s => s.traceB 11 6 c (v * 2 ^ 14) s.faultTime.1)
    |>.refreshInh

/-- The loaded frames of a channel complete with a status, and are gone. -/
def State.dropTx (s : State) (c st : Nat) : State :=
  let x := s.nch c
  (s.setNch c { x with tx := [], armed := [] }).each (x.tx ++ x.armed) (fun t s =>
    match t.own.bind s.descId with
    | some d => s.finish d st 0
    | none => s)

/-- A requested transceiver state (R323, R324): NORMAL and LISTEN at once, STANDBY and SLEEP from them by the guarded
entry. -/
def State.tcvrRequest (s : State) (c : Nat) : State :=
  let v := s.chReq c
  if s.chFenced c then s
  else if v ≤ 1 then (s.modNch c (fun x => { x with guard := none })).setTcvr c v
  else if s.tcvr c ≤ 1 then (s.dropTx c 0o22).modNch c (fun x => { x with guard := some v })
  else s.setTcvr c v

/-- A channel fenced (R325): its transceiver goes to LISTEN. -/
def State.netFence (s : State) (c : Nat) : State :=
  (if c < 6 then s.setFld (NET_CTC_FENCED c) 1 else s.setFld (NET_LSTAT_FENCED (c - 8)) 1)
    |>.modNch c (fun x => { x with guard := none })
    |>.setTcvr c 1
    |>.dropTx c stFenced
    |>.finishAll (fun d => decide (d.eng = 7 ∧ d.target = c ∧ d.opcode ≠ 0o40 ∧ d.opcode ≠ 2)) stFenced

def State.netUnfence (s : State) (c : Nat) : State :=
  (if c < 6 then s.setFld (NET_CTC_FENCED c) 0 else s.setFld (NET_LSTAT_FENCED (c - 8)) 0).tcvrRequest c

end Sys2Proof.Machine
end

