-- ==== Sys2Proof/Machine/Temp.lean ====
section
/-! DEFINITION. The temperature sensors and their readouts (R161 to R163). The ADC sequencing refreshes every readout each 256 µs with
what its sensor sees, which the manual leaves to the world: a free value. A command that reports a temperature leaves it in the
readout until the next refresh. -/

namespace Sys2Proof.Machine

/-- The die of an output: 0 A, 1 B, 2 C, 3 the interface die; and its nominal case reference. -/
def dieOf (o : Nat) : Nat :=
  if o < 8 then 0 else if o < 32 then 1 else if o < 80 then 2 else if o < 84 then 0 else if o < 124 then 2 else 3

def refOf (o : Nat) : Nat :=
  if o < 8 then o / 4
  else if o < 32 then (o - 8) / 6
  else if o < 48 then 0
  else if o < 64 then 1
  else if o < 80 then 2
  else if o < 84 then 2 + (o - 80) / 2
  else if o < 124 then 3
  else 0

def State.modThm (s : State) (f : Thm → Thm) : State := { s with thm := f s.thm }

/-- A readout: register `k`, the `i`-th of the sensors, as its last refresh or a command since then gives it. -/
def State.sensor (s : State) (k i : Nat) : Int := sextOf 18 ((smFind s.thm.told k).getD (Config.freeWord (s.thm.epoch + i))).toNat

/-- The readouts in 1/64 °C: a case reference, a logic die (0 the controller die, 1 the interface die), an output's channel. -/
def State.caseTemp (s : State) (k : Nat) : Int := s.sensor (rTHM_CASE k) k
def State.dieTemp (s : State) (d : Nat) : Int := s.sensor (rTHM_DIE0 + d) (12 + d)
def State.chTemp (s : State) (o : Nat) : Int := s.sensor (rTHM_TCH o) (14 + o)

/-- A command reports a temperature. -/
def State.tell (s : State) (k : Nat) (t : Word) : State := s.modThm (fun x => { x with told := smInsert (smErase x.told k) k t })

/-- Every readout refreshed, with the next 142 free values. -/
def State.thmRefresh (s : State) : State :=
  { s.modThm (fun x => { x with epoch := s.free, since := 0, told := [] }) with free := s.free + 142 }

/-- The ADC sequencing over one period of 30.518 µs. -/
def State.thmTick (s : State) : State :=
  let t := s.thm.since + 1953125
  if 16384000 ≤ t then s.thmRefresh else s.modThm (fun x => { x with since := t })

/-- The hottest case reference of a list. -/
def State.hottest (s : State) (l : List Nat) (d : Nat) : Nat :=
  l.foldl (fun a k => if s.caseTemp a < s.caseTemp k then k else a) (l.headD d)

/-- The case reference an output compares against: its own, or the highest one of its die that has not failed (R161, R163). -/
def State.caseOf (s : State) (o : Nat) : Nat :=
  let k := 4 * dieOf o + refOf o
  if s.bit THM_CSTAT_FAIL k then
    s.hottest ((List.range 4).filterMap (fun j => if s.bit THM_CSTAT_FAIL (4 * dieOf o + j) then none else some (4 * dieOf o + j))) k
  else k

/-- The highest case reference that has not failed (R173). -/
def State.topCase (s : State) : Int := s.caseTemp (s.hottest ((List.range 12).filter (fun k => !s.bit THM_CSTAT_FAIL k)) 0)

/-- The temperature difference of an output, in 1/64 K. -/
def State.dtOf (s : State) (o : Nat) : Int := s.chTemp o - s.caseTemp (s.caseOf o)

end Sys2Proof.Machine
end

