-- ==== Sys2Proof/Machine/InpCore.lean ====
section
/-! DEFINITION. The glue fabric's signals and the limp-home map (R307 to R314), and the supplies that fences switch off,
as the fault logic uses them. -/

namespace Sys2Proof.Machine

def State.modInp (s : State) (f : Inp → Inp) : State := { s with inp := f s.inp }

/-- The sensing mode of a switch input in force (R284, R288). -/
def State.swMode (s : State) (n : Nat) : Nat :=
  if s.pw.mode = .rest ∨ s.pw.mode = .bedded then s.fld (INP_SWCFG2_RMODE n) else s.fld (INP_SWCFG_MODE n)

/-- The debounced state of a switch input as it is kept, and as it reads: 0 in mode off (R284). -/
def State.swKept (s : State) (n : Nat) : Bool := s.bit (INP_SWSTAT_STATE (n / 16)) (n % 16)
def State.sw (s : State) (n : Nat) : Bool := decide (s.swMode n ≠ 0) && s.swKept n

/-- The window state of an analogue input. -/
def State.anWin (s : State) (n : Nat) : Nat := s.fld (INP_ANST_WIN n)

/-- The output of a cell. -/
def State.cellOut (s : State) (c : Nat) : Bool := s.bit (INP_FOUT_OUT (c / 16)) (c % 16)

/-- A fabric signal (R307). -/
def State.signal (s : State) (k : Nat) : Bool :=
  if k < 48 then s.sw k
  else if k < 72 then decide (s.anWin (k - 48) = 1)
  else if k < 96 then decide (s.anWin (k - 72) = 2)
  else if k < 128 then s.cellOut (k - 96)
  else if k < 132 then bGet s.inp.tout (k - 128)
  else if k = 132 then s.on PCR_KL_KL15
  else if k = 133 then s.flt.safe
  else if k = 134 then s.coreDown 0 && s.coreDown 1 && s.coreDown 2
  else if k = 135 then s.coreDown 2
  else if k < 144 then s.on (INP_SNSTAT_VALID (k - 136))
  else if k < 148 then s.on (INP_PSSTAT_VALID (k - 144))
  else decide (k = 149)

/-- The conditions that engage the map, as the bits of INP_LHSTAT.CAUSE: 3 L4, 2 CEN, 1 TEN, 0 FORCE (R312). -/
def State.limpCauses (s : State) : Nat :=
  b2n s.flt.safe * 8 + b2n (s.on INP_LHCTL_CEN && s.signal 134) * 4
    + b2n (s.on INP_LHCTL_TEN && s.signal (s.fld INP_LHCTL_TSIG)) * 2 + b2n (s.on INP_LHCMD_FORCE)

/-- Whether an output's entry of the map counts: not the odd half-bridge of a pair nor the odd channel of a paired HX
(R311). -/
def State.mapEntry (s : State) (n : Nat) : Bool :=
  decide (s.fld (INP_LHM_MODE n) ≠ 0)
    && !(decide (n < 8 ∧ n % 2 = 1) && s.on (HSC_CFG_PAR (n - 1)))
    && !(decide (64 ≤ n ∧ n < 80 ∧ n % 2 = 1) && s.on (MOT_HCFG_PAIR (n - 65)))

/-- An output whose stage takes its D from the map, or is off in L4, and not from its engine (R311, R313, R314). -/
def State.mapDrives (s : State) (n : Nat) : Bool := s.inp.dcMap || s.flt.safe || (s.on INP_LHSTAT_ENG && s.mapEntry n)

/-- The D that reaches an output's stage (R311, R313, R314). -/
def State.stageD (s : State) (n : Nat) : Nat :=
  if s.inp.dcMap then (if s.on (INP_LHM_DC n) && !bGet s.inp.dcOff n then 2 ^ 18 - 1 else 0)
  else if s.on INP_LHSTAT_ENG && s.mapEntry n then
    match s.fld (INP_LHM_MODE n) with
    | 1 => if s.cellOut (s.fld (INP_LHM_CELL n)) then s.fld (INP_LHD_D n) else 0
    | 2 => s.fld (INP_LHD_D n)
    | _ => nGet s.inp.mapHold n
  else if s.flt.safe then 0
  else s.fld (SEQ_OVAL_D n)

/-- A short event or a junction latch while ACTOSC is lost: the stage turns its channel off (R314). DESIGN CHOICE: the stage, which
keeps no budget without ACT, holds it off until ACTOSC is back. -/
def State.dcTrip (s : State) (n : Nat) : State := s.modInp (fun x => { x with dcOff := bPut x.dcOff n true })

/-! ### Sense samples (R192, R194, R221, R294) -/

def State.modMean (s : State) (o : Nat) (f : SenseAcc → SenseAcc) : State :=
  s.modInp (fun x => { x with means := smPut (fun _ => {}) x.means o (f (smGet (fun _ => {}) x.means o)) })

/-- IVAL of a half-bridge or a valve (R134). -/
def ivalOf (o : Nat) : FRef := if o < 80 then MOT_HSTAT_IVAL (o - 64) else VLV_VSTAT_IVAL (o - 84)

/-- The measurement of an output: the mean of its samples, if it has any. -/
def State.meanEnd (s : State) (o : Nat) : State :=
  let m := smGet (fun _ => {}) s.inp.means o
  if m.n = 0 then s.modMean o (fun m => { m with since := 0 })
  else
    let v := wrapTo 18 (Int.tdiv m.sum m.n)
    ((if o < 80 then s.setFld (MOT_HIMEAS_I (o - 64)) v else s.setFld (VLV_VIMEAS_I (o - 84)) v).setFld (ivalOf o) 1).modMean o (fun _ => { age := 1 })
      |>.senseEvent o

/-- A carrier that gives the half-bridge one measurement per period (R192); without one, and on a valve (R221), it is the mean over
1 ms. -/
def State.meanByCarrier (s : State) (o : Nat) : Bool := decide (o < 80) && s.on (MOT_HCFG_FPWM (o - 64))

/-- 64 carrier periods, or 64 ms without a carrier, in periods of the 32.768 kHz clock (R134). -/
def State.ivalLimit (s : State) (o : Nat) : Nat :=
  if 80 ≤ o then 52 else [2097, 131, 104, 83].getD (s.fld (MOT_HCFG_FPWM (o - 64))) 2097

/-- One period of the 32.768 kHz clock in the measurement of an output. -/
def State.meanTick (s : State) (o : Nat) : State :=
  let s := s.modMean o (fun m => { m with since := m.since + 1953125, age := m.age + 1 })
  let m := smGet (fun _ => {}) s.inp.means o
  let s := if s.meanByCarrier o || decide (m.since < 64000000) then s else s.meanEnd o
  if s.ivalLimit o < m.age then (s.setFld (ivalOf o) 0).modMean o (fun m => { m with age := 0 }) else s

/-- The range of the shunt amplifier of a gate driver in units of 2 µV (R194). -/
def State.shuntMax (s : State) (g : Nat) : Int := [120000, 60000, 30000, 15000].getD (s.fld (MOT_GCFG_GAIN g)) 120000

/-- A sensor supply off with a state (R292). -/
def State.ssOff (s : State) (k v : Nat) : State := (s.setFld (INP_SS_STATE k) v).raise INP_FLAG_SSF

/-- A PSI5 channel's supply off (R300). -/
def State.psOff (s : State) (k : Nat) : State := s.setFld (INP_PSSTAT_SUPOFF k) 1

/-- An ADC marked as failed (R297); the inputs of a general ADC read VALID = 0. -/
def State.adcFail (s : State) (a : Nat) : State :=
  (s.setBitF INP_ADCST_FAIL a true).each (if a < 8 then [] else (List.range 12).map (fun i => (a - 8) * 12 + i))
    (fun n s => s.setFld (INP_ANST_VALID n) 0)

end Sys2Proof.Machine
end

