-- ==== Sys2Proof/Machine/HscCore.lean ====
section
/-! DEFINITION. The high-side channels' states, budgets, latches and completions (R127 to R156). -/

namespace Sys2Proof.Machine

/-! ### Channels -/

/-- The outside-register state of a channel. -/
def State.hch (s : State) (n : Nat) : HscCh := smGet (fun _ => {}) s.hsc n
def State.setHch (s : State) (n : Nat) (c : HscCh) : State := { s with hsc := smPut (fun _ => {}) s.hsc n c }
def State.modHch (s : State) (n : Nat) (f : HscCh → HscCh) : State := s.setHch n (f (s.hch n))

/-- Channel states (R147): 0 OFF, 1 PREP, 2 ON, 3 LIMIT, 4 RETRY, 5 UVOFF, 6 THERM, 7 LATCHED, 8 FENCED, 9 MIRROR. -/
def State.hst (s : State) (n : Nat) : Nat := s.fld (HSC_STAT_STATE n)

/-- A channel's state set, with the latch summary and the STATE trace record; the follower's channel of a valid entry enters
MIRROR in place of OFF (R544). -/
def State.setHst (s : State) (n w : Nat) : State :=
  let v := if w = 0 ∧ s.fld (HSC_CFG_BRACE n) = 2 then 9 else w
  if s.hst n = v then s
  else
    s.setFld (HSC_STAT_STATE n) v
      |>.setBitF (HSC_LSUM_LAT (n / 16)) (n % 16) (decide (v = 7 ∨ v = 8))
      |>.traceB 4 6 n (v * 2 ^ 14) s.faultTime.1

/-- An event bit of HSC_EVT: 8 LATCH, 7 SHORT, 6 OVL, 5 UV, 4 OLCHG, 3 OLU, 2 THERM, 1 RESTART, 0 LIMIT. -/
def State.hscEvt (s : State) (n b : Nat) : State := s.setReg (rHSC_EVT n) (setBit (s.reg (rHSC_EVT n)) b)

/-- A thermal latch holds on a channel, on either stage of a pair (R129, R167). -/
def State.hscLat (s : State) (n : Nat) : Nat :=
  let odd := decide (n < 8 ∧ n % 2 = 0) && s.on (HSC_CFG_PAR n)
  b2n (s.dtLat n || (odd && s.dtLat (n + 1))) + 2 * b2n (s.tjLat n || (odd && s.tjLat (n + 1)))

/-- The open SET or RUN of a channel, and its open DIAG. -/
def State.hscOpen (s : State) (n : Nat) : Option Desc :=
  s.descs.find? (fun d => decide (d.eng = 2 ∧ d.target = n ∧ d.phase = .running ∧ d.opcode ≠ 4))
def State.hscDiag (s : State) (n : Nat) : Option Desc :=
  s.descs.find? (fun d => decide (d.eng = 2 ∧ d.target = n ∧ d.phase = .running ∧ d.opcode = 4))

/-- The detail of R156 for the open descriptor of a channel. -/
def State.hscDetail (s : State) (n : Nat) (d : Desc) (therm : Nat) : Nat :=
  let c := s.hch n
  (if d.wasTimed then d.cond * 2 ^ 9 else 0) + satTo 15 c.rUsed * 2 ^ 5 + satTo 3 c.sUsed * 2 ^ 3 + b2n c.uvSeen * 4 + therm

/-- The open descriptor of a channel completed with a status: DONE, SHORT, OVERLOAD, THERMAL and WIRE_TRIP with the detail of
R156, any other with the detail given. -/
def State.hscFinish (s : State) (n st detail : Nat) : State :=
  (match s.hscOpen n with
   | some d => s.finish d st (if st = stDone ∨ (0o20 ≤ st ∧ st ≤ 0o23) then s.hscDetail n d detail else detail)
   | none => s).modHch n (fun c => { c with want := false })

/-- The provisional of a channel in preparation completed with a protection status and the detail of R156; no restart is consumed
while it is open. -/
def State.hscProvFinish (s : State) (n st therm : Nat) : State :=
  match s.provDesc 2 n with
  | some d => s.finish d st ((if d.wasTimed then d.cond * 2 ^ 9 else 0) + b2n (s.hch n).uvSeen * 4 + therm)
  | none => s

/-- R152: the open descriptor completes DONE once its final D is applied, the channel is in ON or LIMIT and its turn-on
edge has finished; under the limp-home map the engine runs as if its own D were shown (R313). -/
def State.hscTryDone (s : State) (n : Nat) : State :=
  let c := s.hch n
  if c.want && !c.held && decide (c.rampLeft = 0) && c.dNext.isNone
      && (decide (s.hst n = 2 ∨ s.hst n = 3) || (s.mapDrives n && decide (s.hst n ≤ 1))) then s.hscFinish n stDone 0 else s

/-- R152: a value of D has been applied; with the group below VUV at that apply time the open descriptor completes DONE there. -/
def State.hscApplied (s : State) (n : Nat) : State :=
  let c := s.hch n
  if c.want && decide (c.rampLeft = 0) && c.dNext.isNone && s.on (HSC_STAT_UV n) then s.hscFinish n stDone 0 else s.hscTryDone n

/-- A switch-on (R135, R139): the warm-up window starts and the limits take up ILSEL; at a switch-on from OFF or a
confirmation the inrush budget is loaded. -/
def State.hscSwitchOn (s : State) (n : Nat) (load : Bool) : State :=
  s.when load (fun s => s.setFld (HSC_STAT_RCNT n) (s.fld (HSC_PROT_RETRY n)))
    |>.setFld (HSC_STAT_WARM n) (b2n (s.on (HSC_PROT_WARM n)))
    |>.modHch n (fun c => { c with ilsel := s.fld (HSC_PROT_ILSEL n), pend := false, retryOver := false })

/-- A channel enters LATCHED with a cause (1 short, 2 overload, 3 wire): its open descriptor completes first, then
HSLATCH is recorded (R139, R159). -/
def State.hscLatch (s : State) (n cause st : Nat) : State :=
  (s.setHst n 7).setFld (HSC_STAT_LCAUSE n) cause
    |>.hscEvt n 8
    |>.modHch n (fun c => { c with pend := false, dNext := none, rampLeft := 0 })
    |>.hscFinish n st 0

/-- A channel enters THERM (R148): its open descriptor completes THERMAL. -/
def State.hscTherm (s : State) (n : Nat) : State :=
  (s.setHst n 6).hscEvt n 2
    |>.modHch n (fun c => { c with
        shortBudget := if s.hst n = 4 || (s.hst n = 5 && c.pend) then c.shortBudget else false,
        retryOver := if s.hst n = 4 || s.hst n = 5 then c.retryOver else false,
        pend := true })
    |>.hscFinish n 0o22 (s.hscLat n)

/-- A channel's stage off in a state: a pending restart is cancelled, the budgets stay (R148). -/
def State.hscOut (s : State) (n w : Nat) : State :=
  (s.setHst n w).modHch n (fun c => { c with pend := false, held := false }) |>.setFld (HSC_STAT_WARM n) 0

/-- A channel off in a state, with nothing left of its D. -/
def State.hscOffAs (s : State) (n w : Nat) : State :=
  ((s.hscOut n w).setOval n 0).modHch n (fun c => { c with dNext := none, rampLeft := 0 })

/-- A channel turned off to OFF. -/
def State.hscToOff (s : State) (n : Nat) : State := s.hscOffAs n 0

/-- A channel enters ON from OFF or from its preparation (R148): LATCHED or THERM where a wire trip or a thermal latch holds (R169,
R174), UVOFF with its group below VUV. `held` says that the current held at the limit before the turn-on edge finished. -/
def State.hscEnter (s : State) (n : Nat) (held : Bool) : State :=
  let s := (s.hscSwitchOn n true).modHch n (fun c => { c with held := held })
  if s.wireTrip n then s.hscLatch n 3 0o23
  else if s.hscLat n ≠ 0 then s.hscTherm n
  else if s.on (HSC_STAT_UV n) then (s.setHst n 5).modHch n (fun c => { c with uvSeen := true })
  else s.setHst n 2

/-- A channel follows the D that the limp-home map gives its stage (R313): its states act as in R148. -/
def State.hscFollow (s : State) (n : Nat) : State :=
  if s.stageD n = 0 then (if 2 ≤ s.hst n ∧ s.hst n ≤ 6 then s.hscOut n 0 else s)
  else if s.hst n ≤ 1 then s.hscEnter n false
  else s

/-! ### On-times (R106, R130, R134, R143) -/

/-- The PWM period of a channel, and its on-time in it, in ticks of 6.25 ns. -/
def State.hscTicks (s : State) (n : Nat) : Nat :=
  let f := s.frameLen (s.grp n)
  if f = 0 then (if n < 8 then 400000 else 80000) else pwmFrames n f * f
def State.hscOnTicks (s : State) (n : Nat) : Nat := s.stageD n * s.hscTicks n / 2 ^ 18

/-- tOLMIN in ticks: 8 µs for an HL channel in LED mode, else 20 µs. -/
def State.tolMin (s : State) (n : Nat) : Nat := if 32 ≤ n ∧ s.fld (HSC_CFG_LOAD n) = 1 then 1280 else 3200

/-- A channel continuously on (R106). -/
def State.hscSolid (s : State) (n : Nat) : Bool := decide (s.stageD n = 2 ^ 18 - 1)

/-- A channel whose on-times give valid measurements (R134, R145). -/
def State.hscMeasures (s : State) (n : Nat) : Bool :=
  decide (s.hst n = 2 ∨ s.hst n = 3) && (s.hscSolid n || (s.hch n).pulse || decide (s.tolMin n ≤ s.hscOnTicks n))

/-- A channel whose off-times, or whose OFF, let the pull-up act: tOFFMIN is 200 µs. -/
def State.hscOffTimes (s : State) (n : Nat) : Bool :=
  decide (s.hst n = 0 ∨ s.hst n = 9) ||
    (decide (s.hst n = 2 ∨ s.hst n = 3) && !s.hscSolid n && decide (s.hscOnTicks n + 32000 ≤ s.hscTicks n))

end Sys2Proof.Machine
end

