-- ==== Sys2Proof/Machine/BrcLow.lean ====
section
/-! DEFINITION. The brace link as other blocks use it: frames sent, the mirror entries, MIRROR and YIELD (R538, R539, R542 to
R546). -/

namespace Sys2Proof.Machine

/-- The link state: 0 OFF, 1 DOWN, 2 SYNC, 3 UP, 4 QUIET; and its events: 6 TAKE, 5 HBACK, 4 ROLEC, 3 MAPERR, 2 DOWN, 1 UP,
0 YIELDRX. -/
def State.brSt (s : State) : Nat := s.fld BRC_STAT_STATE
def State.brEvt (s : State) (i : Nat) : State := s.setBitF BRC_EVT_EVT i true

/-- The role in effect: the follower. -/
def State.brFollower (s : State) : Bool := s.brc.erole.getD (s.on BRC_CFG_ROLE)

/-- The local target of an entry, and a valid, a taken entry. -/
def State.brLocal (s : State) (e : Nat) : Nat := s.fld (BRC_MIR_LOCAL e)
def State.brValid (s : State) (e : Nat) : Bool := s.on (BRC_MST_VALID e)
def State.brTaken (s : State) (e : Nat) : Bool := s.on (BRC_MST_TAKEN e)

/-- Frames sent on BRACE_TX, each a type and a payload, with their sequence numbers (R539). -/
def State.brSend (s : State) (l : List (Nat × List Byte)) : State :=
  s.modBrc (fun b => { b with
    seq := (b.seq + l.length) % 256,
    line := (List.range l.length).map (fun i =>
      let f := l.getD i (0, [])
      BitVec.ofNat 8 f.1 :: BitVec.ofNat 8 (b.seq + i) :: f.2) })

/-- HSC_CFG.BRACE of an entry's local target (R542). -/
def State.brMark (s : State) (e v : Nat) : State := s.setFld (HSC_CFG_BRACE (s.brLocal e)) v

/-- A channel enters MIRROR: off, whatever it was; an open descriptor completes DENIED (R544, R546). -/
def State.toMirror (s : State) (n : Nat) : State := (s.hscFinish n stDenied 1).hscOffAs n 9

/-- YIELD sent by the leader while the link is on and not in QUIET: every channel of a valid entry that is not FENCED goes to MIRROR (R546). -/
def State.brYield (s : State) (cause : Nat) : State :=
  if s.brFollower || decide (s.brSt = 0 ∨ s.brSt = 4) || !s.domOn .fabric then s
  else
    (s.brSend [(4, [BitVec.ofNat 8 cause])]).each ((List.range 16).filter (fun e => s.brValid e && decide (s.hst (s.brLocal e) ≠ 8)))
      (fun e s => s.toMirror (s.brLocal e))

end Sys2Proof.Machine
end

