-- ==== Sys2Proof/Machine/LuxCore.lean ====
section
/-! DEFINITION. Sinks, colour loops and pixel chains (R248 to R274): their states, latches and chain frames. -/

namespace Sys2Proof.Machine

/-! ### Sinks -/

def State.lx (s : State) (n : Nat) : LuxT := smGet (fun _ => {}) s.lux n
def State.setLx (s : State) (n : Nat) (x : LuxT) : State := { s with lux := smPut (fun _ => {}) s.lux n x }
def State.modLx (s : State) (n : Nat) (f : LuxT → LuxT) : State := s.setLx n (f (s.lx n))
def State.cl (s : State) (k : Nat) : ClLoop := smGet (fun _ => {}) s.loops k
def State.setCl (s : State) (k : Nat) (x : ClLoop) : State := { s with loops := smPut (fun _ => {}) s.loops k x }
def State.modCl (s : State) (k : Nat) (f : ClLoop → ClLoop) : State := s.setCl k (f (s.cl k))

/-- Sink states (R257): 0 OFF, 1 PREP, 2 ON, 3 THERM, 4 LATCHED, 5 FENCED. -/
def State.lst (s : State) (n : Nat) : Nat := s.fld (LUX_LSTAT_STATE n)
def State.setLst (s : State) (n v : Nat) : State :=
  if s.lst n = v then s else (s.setFld (LUX_LSTAT_STATE n) v).traceB 9 6 n (v * 2 ^ 14) s.faultTime.1

/-- The sequencer output of a sink (R248). -/
def luxOut (n : Nat) : Nat := 100 + n
def State.luxLat (s : State) (n : Nat) : Nat := s.latBits (luxOut n)
def State.lEvt (s : State) (n i : Nat) : State := s.setBitF (LUX_LEVT_EVT n) i true

/-- The sink of a drive channel of a loop (R259). -/
def State.loopSink (s : State) (k c : Nat) : Nat :=
  match c with
  | 0 => s.fld (LUX_CCFG_SR k)
  | 1 => s.fld (LUX_CCFG_SG k)
  | _ => s.fld (LUX_CCFG_SB k)

/-- The enabled loop a sink is bound to, and its drive channel. -/
def State.loopOf (s : State) (n : Nat) : Option (Nat × Nat) :=
  (List.range 8).findSome? (fun k =>
    if s.on (LUX_CCFG_EN k) then ((List.range 3).find? (fun c => decide (s.loopSink k c = n))).map (fun c => (k, c)) else none)

/-- The D that reaches a sink: the limp-home map's where it drives the stage (R258, R313), otherwise the output's. -/
def State.sinkD (s : State) (n : Nat) : Nat := if s.mapDrives (luxOut n) then s.stageD (luxOut n) else s.oval (luxOut n)

/-- The effective duty (R250); BRT is ignored on a loop's sinks (R259). -/
def State.deOf (s : State) (n : Nat) : Nat :=
  let d := s.sinkD n
  if (s.loopOf n).isSome then d else Nat.min 0o777777 (d * s.fld (LUX_LBRT_BRT n) / 4096)

/-- The set amplitude ISET × f in µA (R249, R252). -/
def State.setAmp (s : State) (n : Nat) : Nat :=
  ((s.lx n).iset).getD (s.fld (LUX_LCFG_ISET n)) * 250 * (s.lx n).derate / 12800

/-- Six bits reversed. -/
def bitrev6 (k : Nat) : Nat := (List.range 6).foldl (fun a i => a + b2n (bitAt k i) * 2 ^ (5 - i)) 0

/-- The on-time of sub-period `k` in ticks (R250); it starts with the sub-period. -/
def subOn (de k : Nat) : Nat := if de = 0o777777 then 4096 else de / 64 + b2n (decide (bitrev6 k < de % 64))

/-- A sink conducts: its place in the dimming period, with its phase shift (R251), lies in an on-time. -/
def State.sinkLit (s : State) (n : Nat) : Bool :=
  let x := s.lx n
  let p := (x.t / 400 + 2 ^ 18 - s.fld (SEQ_OCFG_PHASE (luxOut n)) * 4096 / 8192) % 2 ^ 18
  decide (s.lst n = 2 ∧ p % 4096 < subOn x.de (p / 4096))

/-- The effective duty and the amplitude taken up; a dimming period begins (R249, R251). -/
def State.luxTakeUp (s : State) (n : Nat) : State := s.modLx n (fun x => { x with de := s.deOf n, amp := s.setAmp n })
def State.luxBegin (s : State) (n : Nat) : State := (s.modLx n (fun x => { x with t := 0 })).luxTakeUp n

/-- An open descriptor of a target; one of an opcode. -/
def State.luxOpen (s : State) (t : Nat) : Option Desc :=
  s.descs.find? (fun d => decide (d.eng = 5 ∧ d.target = t ∧ d.phase = .running ∧ (d.opcode = 1 ∨ d.opcode = 3)))
def State.luxWith (s : State) (t op : Nat) : Option Desc :=
  s.descs.find? (fun d => decide (d.eng = 5 ∧ d.target = t ∧ d.phase = .running ∧ d.opcode = op))

/-- Every open descriptor of a target, and its provisional, completed with a status. -/
def State.luxCut (s : State) (t st detail : Nat) : State :=
  (s.each (s.descs.filter (fun d => decide (d.eng = 5 ∧ d.target = t ∧ d.phase = .running))) (fun d s => s.finish d st detail)).provEnd
    5 t st detail none

/-- Everything open on a target superseded by a descriptor that acts (R112, R122). -/
def State.luxSupersede (s : State) (t : Nat) : State :=
  (s.each (s.descs.filter (fun d => decide (d.eng = 5 ∧ d.target = t ∧ d.phase = .running)))
    (fun d s => s.finish d stSuperseded 0)).provEnd 5 t stSuperseded 0 (some SEQ_PCNT1_PSUP)

/-- The open SET of a sink completes once its final D is applied (R277). -/
def State.luxTryDone (s : State) (n : Nat) : State :=
  let x := s.lx n
  if x.want && x.dNext.isNone && decide (x.rampLeft = 0) then
    (s.modLx n (fun x => { x with want := false })) |> fun s => match s.luxOpen n with
      | some d => s.finishDone d 0
      | none => s
  else s

/-- A sink goes to a state without current. -/
def State.luxDown (s : State) (n v : Nat) : State :=
  (s.setLst n v).setOval (luxOut n) 0 |>.modLx n (fun x => { x with dNext := none, rampLeft := 0, want := false })

/-- A sink turned on, or held off by a latch (R258); without a frame its dimming period begins (R251). -/
def State.luxOn (s : State) (n d : Nat) (now : Bool) : State :=
  let s := (s.setLst n (if s.luxLat n = 0 then 2 else 3)).setOval (luxOut n) d
  if now || !s.grpRuns (s.grp (luxOut n)) then s.luxBegin n else s.luxTakeUp n

/-- A value of D applied (R258). `now`: at the apply time of a TIMED descriptor, which starts a new dimming period (R251). Under the
limp-home map the engine keeps its D and the stage follows the map. -/
def State.luxApply (s : State) (n d : Nat) (now : Bool) : State :=
  if s.mapDrives (luxOut n) then (s.setOval (luxOut n) d).modLx n (fun x => { x with dNext := none })
  else
    match s.lst n with
    | 0 => if d = 0 then s else s.luxOn n d now
    | 1 => if d = 0 then s.setLst n 0 else s.luxOn n d now
    | 2 => if d = 0 then (s.setLst n 0).setOval (luxOut n) 0 |>.modLx n (fun x => { x with dNext := none, de := 0 })
           else if now then ((s.setOval (luxOut n) d).modLx n (fun x => { x with dNext := none })).luxBegin n
           else s.modLx n (fun x => { x with dNext := some d })
    | 3 => s.setOval (luxOut n) d
    | _ => s

/-- A value of D from a sink's thread: the first one of a TIMED descriptor starts a dimming period (R251). -/
def State.luxThread (s : State) (n d : Nat) : State :=
  let f := (s.lx n).first
  (s.modLx n (fun x => { x with first := false })).luxApply n d f

/-- A value of D from a sink's loop (R260): from the next dimming period on; a sink that is off starts at once (R251). -/
def State.luxLoopD (s : State) (n d : Nat) : State :=
  if s.lst n = 2 then s.modLx n (fun x => { x with dNext := some d }) else s.luxApply n d false

/-- A sink follows the D that reaches it (R258, R313). -/
def State.luxFollow (s : State) (n : Nat) : State :=
  let d := s.sinkD n
  match s.lst n with
  | 0 => if d = 0 then s else (s.setLst n (if s.luxLat n = 0 then 2 else 3)).luxBegin n
  | 2 => if d = 0 then s.setLst n 0 else s
  | _ => s

/-! ### Colour loops -/

/-- Loop states: 0 OFF, 1 RUN, 2 HOLD. -/
def State.cst (s : State) (k : Nat) : Nat := s.fld (LUX_CSTAT_STATE k)
def State.cEvt (s : State) (k i : Nat) : State := s.setBitF (LUX_CEVT_EVT k) i true

def State.setCst (s : State) (k v : Nat) : State :=
  if s.cst k = v then s else (s.setFld (LUX_CSTAT_STATE k) v).traceB 9 6 (24 + k) (v * 2 ^ 14) s.faultTime.1

/-- A loop goes to OFF with its sinks' duties at 0 (R262); a sink that a latch holds off stays so until its release. -/
def State.loopOff (s : State) (k : Nat) : State :=
  (s.setCst k 0).setFld (LUX_CSTAT_SETL k) 0
    |>.modCl k (fun x => { x with rampLeft := 0, good := 0, reading := false })
    |>.each [0, 1, 2] (fun c s => (s.luxApply (s.loopSink k c) 0 true).modLx (s.loopSink k c) (fun x => { x with dNext := none }))

/-- A bound sink left ON by a cause of its own (R262): the loop goes to OFF and COLOUR takes the sink's status, with the
drive channel in detail bits 1:0. -/
def State.loopLost (s : State) (n st : Nat) : State :=
  match s.loopOf n with
  | some (k, c) =>
    if s.cst k = 0 then s
    else
      (match s.luxWith (24 + k) 6 with
        | some d => s.finish d st c
        | none => s).loopOff k
  | none => s

/-- A thermal latch on a sink (R258). -/
def State.luxThermSet (s : State) (n : Nat) : State :=
  match s.lst n with
  | 1 => ((s.setLst n 0).provEnd 5 n 0o22 (s.luxLat n) none).protEvent (luxOut n)
  | 2 =>
    ((s.setLst n 3).protEvent (luxOut n)).lEvt n 1
      |>.modLx n (fun x => { x with dNext := none, rampLeft := 0, want := false })
      |>.luxCut n 0o22 (s.luxLat n)
      |>.loopLost n 0o22
  | _ => s

/-- The last thermal latch of a sink released (R256). -/
def State.luxThermRelease (s : State) (n : Nat) : State :=
  if s.lst n = 3 ∧ s.luxLat n = 0 then (s.setLst n (if s.sinkD n = 0 then 0 else 2)).luxTakeUp n else s

/-- A fence released (R258): OFF, or THERM while a latch holds (R167). -/
def State.luxUnfence (s : State) (n : Nat) : State := (s.setFld (LUX_LSTAT_LCAUSE n) 0).setLst n (if s.luxLat n = 0 then 0 else 3)

/-! ### The I2C transactions of the loops (R261, R302) -/

/-- The bytes that the read of a loop's sensor writes: address with write, pointer, address with read. -/
def State.i2cBytes (s : State) (k : Nat) : List Byte :=
  let a := 2 * s.fld (LUX_CSNS_ADDR k)
  [BitVec.ofNat 8 a, BitVec.ofNat 8 (s.fld (LUX_CSNS_PTR k)), BitVec.ofNat 8 (a + 1)]

/-- The transactions of a list: the first one runs. -/
def State.i2cSet (s : State) (l : List Nat) : State :=
  (s.setFld INP_I2C_BUSY (b2n (!l.isEmpty))).modInp (fun x => { x with
    i2c := l, i2cOut := if l.head? = s.inp.i2c.head? then x.i2cOut else (l.head?.map s.i2cBytes).getD [] })

/-- A loop placed in loop order. -/
def inLoopOrder (k : Nat) : List Nat → List Nat
  | [] => [k]
  | x :: l => if k < x then k :: x :: l else x :: inLoopOrder k l

/-- A loop asks for its transaction: those that wait run in loop order. -/
def State.i2cAsk (s : State) (k : Nat) : State :=
  if s.inp.i2c.contains k then s
  else
    match s.inp.i2c with
    | [] => s.i2cSet [k]
    | x :: l => s.i2cSet (x :: inLoopOrder k l)

/-! ### Pixel chain frames (R263 to R266) -/

def State.pch (s : State) (c : Nat) : PxCh := smGet (fun _ => {}) s.px c
def State.setPch (s : State) (c : Nat) (x : PxCh) : State := { s with px := smPut (fun _ => {}) s.px c x }
def State.modPch (s : State) (c : Nat) (f : PxCh → PxCh) : State := s.setPch c (f (s.pch c))
def State.pEvt (s : State) (c i : Nat) : State := s.setBitF (LUX_PEVT_EVT c) i true

/-- One bit of the CRC-8 with polynomial 0x2F. -/
def crc8Bit (r : Nat) : Nat := if 128 ≤ r then Nat.xor (r * 2 % 256) 0x2F else r * 2

/-- The CRC-8 of R264. -/
def crc8 (bs : List Byte) : Nat :=
  Nat.xor 255 (bs.foldl (fun r b => crc8Bit (crc8Bit (crc8Bit (crc8Bit (crc8Bit (crc8Bit (crc8Bit (crc8Bit (Nat.xor r b.toNat))))))))) 255)

/-- The bytes of a frame (R264). -/
def pxBytes (cmd seq addr : Nat) (payload : List Byte) : List Byte :=
  let body := [BitVec.ofNat 8 (cmd * 16 + seq), BitVec.ofNat 8 addr, BitVec.ofNat 8 payload.length] ++ payload
  BitVec.ofNat 8 0xA5 :: body ++ [BitVec.ofNat 8 (crc8 body)]

/-- The bits of a byte on the line (R263): start bit, data with the least significant first, stop bit. -/
def pxBits (b : Byte) : List Bool := false :: (List.range 8).map (fun i => bitAt b.toNat i) ++ [true]

/-- A command that R265 reserves. -/
def pxReserved (c : Nat) : Bool := decide (c = 0 ∨ c = 8 ∨ (10 ≤ c ∧ c ≤ 12) ∨ c = 15)

/-- A received frame that passes SYNC, length and CRC: its command, sequence number, address and payload. -/
def pxParse (f : List Byte) : Option (Nat × Nat × Nat × List Byte) :=
  match f with
  | sy :: cs :: ad :: ln :: rest =>
    let p := rest.take ln.toNat
    if sy.toNat = 0xA5 ∧ rest.length = ln.toNat + 1 ∧
        (rest.getD ln.toNat 0).toNat = crc8 (cs :: ad :: ln :: p) then
      some (cs.toNat / 16, cs.toNat % 16, ad.toNat, p)
    else none
  | _ => none

/-- Commands that a reply or an ENUM_END follows. -/
def PxFrame.replies (f : PxFrame) : Bool := decide (f.cmd = 1 ∨ f.cmd = 5 ∨ f.cmd = 6)

/-- The time a frame and its reply window take in ns: 5 µs a byte, and 300 µs for a reply (R263, R271). -/
def PxFrame.time (f : PxFrame) : Nat :=
  5000 * (f.payload.length + 5) + (if f.cmd = 5 ∨ f.cmd = 6 then 300000 else if f.cmd = 1 then 1000000 else 0)

/-- The key of a descriptor. -/
def Desc.key (d : Desc) : Nat := d.id

/-- The chain's state shown in LUX_PSTAT (R274). -/
def State.pxShow (s : State) (c : Nat) : State :=
  let v := if (s.pch c).cur.isSome || (s.pch c).again.isSome then 2 else (s.pch c).base
  if s.fld (LUX_PSTAT_STATE c) = v then s else (s.setFld (LUX_PSTAT_STATE c) v).traceB 9 6 (32 + c) (v * 2 ^ 14) s.faultTime.1

/-- The waiting TIMED latches of a chain: those whose start instant has not come. -/
def State.pxTimed (s : State) (c : Nat) : List Desc :=
  s.descs.filter (fun d => decide (d.eng = 5 ∧ d.target = 32 + c ∧ d.phase = .timed))

/-- ns from now to the start instant of a TIMED latch (R269). -/
def State.latchGap (s : State) (c : Nat) (d : Desc) : Int :=
  sextOf 36 ((d.deadline + 2 ^ 36 - s.ztDl) % 2 ^ 36) * 8 - (30000 + 1000 * ((s.fld (LUX_PSTAT_N c) : Int) - 1) + 2000)

/-- A frame ends, with its reply window, before the start instant of every waiting TIMED latch (R273). -/
def State.pxRoom (s : State) (c : Nat) (f : PxFrame) : Bool :=
  (s.pxTimed c).all (fun d => decide ((f.time : Int) ≤ s.latchGap c d))

/-- A provisional holds the chain (R275). -/
def State.pxHeld (s : State) (c : Nat) : Bool :=
  s.descs.any (fun d => decide (d.eng = 5 ∧ d.target = 32 + c ∧ d.phase = .prov))

/-- A frame starts; the sequence number rises for each command frame. -/
def State.pxSend (s : State) (c : Nat) (f : PxFrame) : State :=
  s.modPch c (fun x => { x with
      cur := some f, sent := false, seq := (x.seq + 1) % 16, released := false,
      line := (pxBytes f.cmd ((x.seq + 1) % 16) f.addr f.payload).flatMap pxBits })
    |>.pxShow c

/-- The LATCH frame of a descriptor. -/
def State.latchFrame (s : State) (c : Nat) (own : Nat) : PxFrame :=
  ⟨4, 0, [BitVec.ofNat 8 (s.fld (LUX_PSTAT_N c))], some own, true⟩

/-- The chain chooses its next frame (R273); a retry belongs to the frame before it (R271). -/
def State.pxNext (s : State) (c : Nat) : State :=
  let x := s.pch c
  if x.cur.isSome || s.pxHeld c || s.isFenced 9 (32 + c) then s.pxShow c
  else
    match x.due.find? (fun k => !x.queue.any (fun f => f.own = some k)) with
    | some k => (s.modPch c (fun x => { x with due := x.due.filter (fun j => decide (j ≠ k)) })).pxSend c (s.latchFrame c k)
    | none =>
      match x.again with
      | some f => if s.pxRoom c f then (s.modPch c (fun x => { x with again := none, retried := true })).pxSend c f else s.pxShow c
      | none =>
      match x.queue with
      | f :: q => if s.pxRoom c f then (s.modPch c (fun x => { x with queue := q, retried := false })).pxSend c f else s.pxShow c
      | [] =>
        match x.scan with
        | a :: q =>
          let f : PxFrame := ⟨6, a, [], none, false⟩
          if s.pxRoom c f then (s.modPch c (fun x => { x with scan := q, retried := false })).pxSend c f else s.pxShow c
        | [] => s.pxShow c

/-- The frame in progress is over. -/
def State.pxDone (s : State) (c : Nat) : State :=
  (s.modPch c (fun x => { x with cur := none, sent := false, retried := false, released := false })).pxShow c

/-- The descriptor of a chain key. -/
def State.descKey (s : State) (k : Nat) : Option Desc := s.descId k

/-- A chain's frames of a descriptor removed. -/
def State.pxDrop (s : State) (c k : Nat) : State :=
  s.modPch c (fun x => { x with
    queue := x.queue.filter (fun f => decide (f.own ≠ some k)), again := x.again.filter (fun f => decide (f.own ≠ some k)), due := x.due.filter (fun j => decide (j ≠ k)),
    applies := x.applies.filter (fun j => decide (j ≠ k)), comp := smErase x.comp k })

/-- A chain stopped: no frame is sent and nothing waits. -/
def State.pxStop (s : State) (c : Nat) : State :=
  (s.modPch c (fun x => { x with cur := none, again := none, sent := false, released := false, queue := [], scan := [], scanning := false, due := [], applies := [],
                                 comp := [] })).pxShow c

end Sys2Proof.Machine
end

