-- ==== Sys2Proof/Machine/MotCore.lean ====
section
/-! DEFINITION. The motor targets' states, positions, latches and supply (R184 to R206). -/

namespace Sys2Proof.Machine

/-! ### Targets -/

def State.mt (s : State) (t : Nat) : MotT := smGet (fun _ => {}) s.mot t
def State.setMt (s : State) (t : Nat) (m : MotT) : State := { s with mot := smPut (fun _ => {}) s.mot t m }
def State.modMt (s : State) (t : Nat) (f : MotT → MotT) : State := s.setMt t (f (s.mt t))

/-- A gate driver target. -/
def isGd (t : Nat) : Bool := decide (24 ≤ t)

/-- The half-bridge whose registers report a target (R204). -/
def halfOf (t : Nat) : Nat := if t < 16 then t else 2 * (t - 16)

/-- The target that a half-bridge target acts for: a half of a pair acts for the pair (R185). -/
def State.motOf (s : State) (t : Nat) : Nat :=
  if t < 16 then (if s.on (MOT_HCFG_PAIR (t / 2 * 2)) then 16 + t / 2 else t) else t

/-- A target that exists as the pairing stands and whose EN bit is 1 (R184, R185). -/
def State.motValid (s : State) (t : Nat) : Bool :=
  if t < 16 then !s.on (MOT_HCFG_PAIR (t / 2 * 2)) && s.on (MOT_HCFG_EN t)
  else if t < 24 then s.on (MOT_HCFG_PAIR (halfOf t)) && s.on (MOT_HCFG_EN (halfOf t))
  else if t < 28 then s.on (MOT_GCFG_EN (t - 24)) else false

/-- The targets that exist as the pairing stands. -/
def State.motTargets (s : State) : List Nat :=
  (List.range 28).filter (fun t => if t < 16 then !s.on (MOT_HCFG_PAIR (t / 2 * 2)) else if t < 24 then s.on (MOT_HCFG_PAIR (halfOf t)) else true)

/-- Target states (R204): 0 IDLE, 1 PREP, 2 PRECH, 3 DRIVE, 4 BRAKE, 5 PINCH, 6 SUPPLY, 7 THERM, 8 LATCHED, 9 FENCED. -/
def motState (t : Nat) : FRef := if isGd t then MOT_GSTAT_STATE (t - 24) else MOT_HSTAT_STATE (halfOf t)
def motCause (t : Nat) : FRef := if isGd t then MOT_GSTAT_LCAUSE (t - 24) else MOT_HSTAT_LCAUSE (halfOf t)
def motDir (t : Nat) : FRef := if isGd t then MOT_GSTAT_DIR (t - 24) else MOT_HSTAT_DIR (halfOf t)
def motSup (t : Nat) : FRef := if isGd t then MOT_GSTAT_SUPPLY (t - 24) else MOT_HSTAT_SUPPLY (halfOf t)
def motDiagF (t : Nat) : FRef := if isGd t then MOT_GSTAT_DIAG (t - 24) else MOT_HSTAT_DIAG (halfOf t)
def motEvtR (t : Nat) : Nat := if isGd t then rMOT_GEVT (t - 24) else rMOT_HEVT (halfOf t)

def State.mst (s : State) (t : Nat) : Nat := s.fld (motState t)
/-- A target's state set, with its STATE trace record. -/
def State.setMst (s : State) (t v : Nat) : State :=
  if s.mst t = v then s else (s.setFld (motState t) v).traceB 7 6 t (v * 2 ^ 14) s.faultTime.1
def State.mdir (s : State) (t : Nat) : Nat := s.fld (motDir t)
def State.setMdir (s : State) (t v : Nat) : State := s.setFld (motDir t) v

/-- An event bit: `h` in MOT_HEVT of a half-bridge, `g` in MOT_GEVT of a gate driver. -/
def State.motEvt (s : State) (t h g : Nat) : State := s.setReg (motEvtR t) (setBit (s.reg (motEvtR t)) (if isGd t then g else h))

/-- The sequencer output of a target (R184). -/
def motOut (t : Nat) : Nat := if t < 16 then 64 + t else if t < 24 then 64 + 2 * (t - 16) else 100 + t

/-- The thermal latches that hold on a target, either half of a pair counting (R185). -/
def State.motLat (s : State) (t : Nat) : Nat :=
  if 16 ≤ t ∧ t < 24 then
    b2n (s.dtLat (motOut t) || s.dtLat (motOut t + 1)) + 2 * b2n (s.tjLat (motOut t) || s.tjLat (motOut t + 1))
  else s.latBits (motOut t)

/-- The open drive of a target, and its waiting STOP and DIAG. -/
def State.motOpen (s : State) (t : Nat) : Option Desc :=
  s.descs.find? (fun d => decide (d.eng = 3 ∧ d.target = t ∧ d.phase = .running ∧ (d.opcode = 1 ∨ d.opcode = 2 ∨ d.opcode = 4)))
def State.motWith (s : State) (t op : Nat) : Option Desc :=
  s.descs.find? (fun d => decide (d.eng = 3 ∧ d.target = t ∧ d.phase = .running ∧ d.opcode = op))

/-- The open drive ends with a status and a detail. -/
def State.motFinish (s : State) (t st detail : Nat) : State :=
  match s.motOpen t with
  | some d => s.finish d st detail
  | none => s

/-- The open drive completes DONE with the detail of R212, or DEFERRED with 200 after PRECH (R190). -/
def State.motDone (s : State) (t : Nat) (stalled : Bool) : State :=
  match s.motOpen t with
  | some d =>
    let m := s.mt t
    if m.deferred then s.finish d stDeferred 200
    else s.finishDone d (b2n stalled * 2 ^ 8 + b2n m.supSeen * 2 ^ 7 + b2n m.limSeen * 2 ^ 6)
  | none => s

/-- A target reaches IDLE: waiting STOPs complete (R208). -/
def State.motIdle (s : State) (t : Nat) : State :=
  let s := ((s.setMst t 0).setMdir t 0).setOval (motOut t) 0
    |>.modMt t (fun m => { m with dNext := none, waiting := none, goTo := none })
  s.each (s.descs.filter (fun d => decide (d.eng = 3 ∧ d.target = t ∧ d.phase = .running ∧ d.opcode = 3))) (fun d s => s.finishDone d 0)

/-- A target brakes (R205). -/
def State.motBrake (s : State) (t : Nat) : State :=
  ((s.setMst t 4).setMdir t 3).setOval (motOut t) 0 |>.modMt t (fun m => { m with dNext := none, goTo := none })

/-- The supply of a target is outside its limits (R196), or the charge pump of a gate driver is low (R195). -/
def State.motBad (s : State) (t : Nat) : Bool := s.on (motSup t) || (isGd t && !s.on MOT_CPSTAT_CPOK)

/-- What the bridge does in SUPPLY: it brakes above 20.0 V and with a low charge pump, and coasts below VUV. -/
def State.supDir (s : State) (t : Nat) : Nat := if (s.on (motSup t) && (s.mt t).high) || (isGd t && !s.on MOT_CPSTAT_CPOK) then 3 else 0

/-- The carrier of a target: 0 for none (R188). -/
def State.motFpwm (s : State) (t : Nat) : Nat := if isGd t then s.fld (MOT_GCFG_FPWM (t - 24)) else s.fld (MOT_HCFG_FPWM (halfOf t))

/-- The high side that a direction switches is charged (R190); a single half-bridge in reverse switches no high side. -/
def State.motBooted (s : State) (t dir : Nat) : Bool :=
  if isGd t then true
  else if t < 16 then decide (dir = 2) || s.on (MOT_HSTAT_BOOT t)
  else if dir = 1 then s.on (MOT_HSTAT_BOOT (halfOf t)) else s.on (MOT_HSTAT_BOOT (halfOf t + 1))

/-- A drive phase begins in a direction with a value of D; under the limp-home map the engine's own D stays (R313). -/
def State.motGo (s : State) (t dir d : Nat) : State :=
  ((s.setMst t 3).setMdir t dir).when ((s.motOpen t).isSome || !s.mapDrives (motOut t)) (fun s => s.setOval (motOut t) d)
    |>.modMt t (fun m => { m with lastDir := dir, waiting := none, counting := isGd t && s.on (MOT_RCFG_RIPEN (t - 24)) })

/-- A position word as an integer. -/
def posInt (w : Nat) : Int := sextOf 18 w

/-- The closing direction of a gate driver. -/
def State.closeDir (s : State) (g : Nat) : Nat := if s.on (MOT_PINCH_CLDIR g) then 2 else 1

/-- A closing drive that PLOCK refuses (R201); OVERRIDE from S is exempt. -/
def State.plocked (s : State) (t dir : Nat) (exempt : Bool) : Bool :=
  isGd t && s.on (MOT_GSTAT_PLK (t - 24)) && decide (dir = s.closeDir (t - 24)) && !exempt

/-- A target enters SUPPLY (R195, R196, R205): a drive waits for the release. In PINCH the reversal ends (R202). -/
def State.motSupply (s : State) (t : Nat) : State :=
  let st := s.mst t
  let s := s.modMt t (fun m => { m with supSeen := true })
  if 2 ≤ st ∧ st ≤ 5 then
    let m := s.mt t
    let w : Option (Nat × Nat) := if st = 3 then some (s.mdir t, m.dNext.getD (s.oval (motOut t))) else if st = 5 then none else m.waiting
    ((s.setMst t 6).motEvt t 2 4).setMdir t (s.supDir t)
      |>.protEvent (motOut t)
      |>.when (decide (st = 5)) (fun s => s.motEvt t 2 2)
      |>.modMt t (fun m => { m with waiting := w, past := false, dNext := none, reversing := false, lockDue := decide (st = 5) })
  else if st = 6 then s.setMdir t (s.supDir t)
  else s

/-- A drive starts from IDLE: through PRECH where a high side is not charged (R190), and into SUPPLY where the supply does not allow
it. -/
def State.motEnter (s : State) (t dir d : Nat) : State :=
  let s := if s.motBooted t dir then s.motGo t dir d
    else (s.setMst t 2).modMt t (fun m => { m with waiting := some (dir, d), deferred := true })
  s.when (s.motBad t) (fun s => s.motSupply t)

/-- A value of D in a drive that goes on: at the next carrier period; at once from 0, to 0 and without a carrier (R106, R188). -/
def State.motTake (s : State) (t d : Nat) : State :=
  if d = 0 ∨ s.oval (motOut t) = 0 ∨ s.motFpwm t = 0 then (s.setOval (motOut t) d).modMt t (fun m => { m with dNext := none })
  else s.modMt t (fun m => { m with dNext := some d })

/-- A drive applied to a target (R190, R205, R206). A confirmation leaves PREP for DRIVE without PRECH (R203). -/
def State.motStart (s : State) (t dir d : Nat) : State :=
  match s.mst t with
  | 0 => if d = 0 then s else s.motEnter t dir d
  | 1 => (s.motGo t dir d).when (s.motBad t) (fun s => s.motSupply t)
  | 2 => s.modMt t (fun m => { m with waiting := some (dir, d) })
  | 3 => if dir = s.mdir t then s.motTake t d
         else (s.motBrake t).modMt t (fun m => { m with waiting := some (dir, d) })
  | 4 => s.modMt t (fun m => { m with waiting := some (dir, d) })
  | 6 => s.modMt t (fun m => { m with waiting := some (dir, d), supSeen := true })
  | _ => s

/-- A value of D applied by a thread (R110, R213): the direction is engine parameter 0. D = 0 leaves the state of a running drive
(R205). Without a carrier a D between the ends completes the descriptor with BAD_PARAM (R188). -/
def State.motApply (s : State) (t d : Nat) : State :=
  let m := s.mt t
  if d = 0 then
    (if s.mst t = 3 then s.motTake t 0
     else if s.mst t = 4 then s.modMt t (fun m => { m with waiting := none })
     else s.modMt t (fun m => { m with waiting := m.waiting.map (fun w => (w.1, 0)) }))
  else if s.motFpwm t = 0 ∧ d ≠ 2 ^ 18 - 1 then s.motFinish t stBadParam 2
  else if m.dirP = 1 ∨ m.dirP = 2 then
    if s.plocked t m.dirP m.exempt then s.motFinish t 0o26 0 else s.motStart t m.dirP d
  else s

/-- END or HOLD of a target's thread: its open drive completes DONE. DEDUCED: with D = 0 the program has ended the drive phase, so the
target brakes as at the end of a duration. -/
def State.motThreadEnd (s : State) (t d : Nat) : State :=
  let s := s.motDone t false
  if d = 0 ∧ s.mst t = 3 then s.motBrake t else s

/-- A target without an open drive follows the D and DIR that the limp-home map gives it (R202, R313). -/
def State.motFollow (s : State) (t : Nat) : State :=
  let o := motOut t
  let d := if s.mapDrives o then s.stageD o else s.oval o
  let dir := s.fld (INP_LHM_DIR o)
  if (s.motOpen t).isSome then s
  else if d ≠ 0 ∧ (dir = 1 ∨ dir = 2) ∧ s.mapDrives o then
    match s.mst t with
    | 0 => s.motEnter t dir d
    | 3 => if dir = s.mdir t then s else ((s.setMst t 4).setMdir t 3).modMt t (fun m => { m with waiting := some (dir, d) })
    | 4 => s.modMt t (fun m => { m with waiting := some (dir, d) })
    | _ => s
  else if d = 0 ∧ (s.mst t = 2 ∨ s.mst t = 3) then (s.setMst t 0).setMdir t 0 |>.modMt t (fun m => { m with waiting := none })
  else s

/-! ### Positions and pinch zones (R197 to R200) -/

/-- The zones that are enabled: the entries before the first with ZEN = 0 (R199). -/
def State.zones (s : State) (g : Nat) : List Nat := (List.range 8).takeWhile (fun j => s.on (MOT_PZLIM_ZEN g j))

/-- The zone that covers the position. -/
def State.zoneAt (s : State) (g : Nat) : Option Nat :=
  let p := posInt (s.fld (MOT_POS_POS g))
  (s.zones g).find? (fun j => decide (posInt (s.fld (MOT_PZPOS_POS g j)) ≤ p) &&
    (decide (j = 7) || decide (p < posInt (s.fld (MOT_PZPOS_POS g (j + 1))))))

/-- The position is checked (R199): inside a zone, or anywhere while POSV is 0 and a zone is enabled. -/
def State.zoned (s : State) (g : Nat) : Bool :=
  if s.on (MOT_GSTAT_POSV g) then (s.zoneAt g).isSome else !(s.zones g).isEmpty

/-- The current ceiling in units of 2 µV and the lowest ripple rate in Hz that the position is checked against (R199): those of its
zone, and while POSV is 0 the lowest and the highest of the enabled zones. -/
def State.pinchLimits (s : State) (g : Nat) : Nat × Nat :=
  let l := if s.on (MOT_GSTAT_POSV g) then (s.zoneAt g).toList else s.zones g
  (128 * l.foldl (fun a j => Nat.min a (s.fld (MOT_PZLIM_IMAX g j))) 511, 8 * l.foldl (fun a j => Nat.max a (s.fld (MOT_PZLIM_RMIN g j))) 0)

/-- ZONE and INZ refreshed. -/
def State.showZone (s : State) (g : Nat) : State :=
  (s.setFld (MOT_GSTAT_INZ g) (b2n (s.zoned g))).setFld (MOT_GSTAT_ZONE g) ((s.zoneAt g).getD 0)

/-- A zone table that rises as the commit would leave it (R199). -/
def State.zonesRise (s : State) (g : Nat) : Bool :=
  let n := ((List.range 8).takeWhile (fun j => decide (s.fldNext (MOT_PZLIM_ZEN g j) ≠ 0))).length
  (List.range (if n = 8 then 7 else n)).all (fun j =>
    decide (posInt (s.fldNext (MOT_PZPOS_POS g j)) < posInt (s.fldNext (MOT_PZPOS_POS g (j + 1)))))

/-- The position changed by one ripple in the last driven direction, saturating (R197). -/
def State.ripplePos (s : State) (g : Nat) : State :=
  let p := posInt (s.fld (MOT_POS_POS g))
  let q : Int := if (s.mt (24 + g)).lastDir = 2 then max (p - 1) (-131072) else min (p + 1) 131071
  s.setFld (MOT_POS_POS g) (wrapTo 18 q) |>.showZone g

/-- A GOTO that has reached its position ends (R208). -/
def State.motReached (s : State) (t : Nat) : State :=
  let p := posInt (s.fld (MOT_POS_POS (t - 24)))
  match (s.mt t).goTo with
  | some w =>
    if s.mst t = 3 ∧ ((s.mdir t = 1 ∧ posInt w ≤ p) ∨ (s.mdir t = 2 ∧ p ≤ posInt w)) then
      (s.motDone t false).motBrake t
    else if s.mst t = 6 ∧ posInt w = p then (s.motDone t false).modMt t (fun m => { m with past := true })
    else s
  | none => s

/-- The shunt voltage of a gate driver has been converted: after the end of a drive the counting of ripples stops below IRIPMIN,
which is in units of 64 µV (R197). -/
def State.motShunt (s : State) (g : Nat) : State :=
  let t := 24 + g
  if s.mst t ≠ 3 ∧ s.mst t ≠ 5 ∧ (sextOf 18 (s.fld (MOT_GIMEAS_V g))).natAbs < 32 * s.fld (MOT_RCFG_IRIPMIN g) then
    s.modMt t (fun m => { m with counting := false })
  else s

/-! ### Protection (R191 to R196) -/

/-- Everything open on a target completes with a protection status, provisional and waiting STOP excepted. -/
def State.motCut (s : State) (t st detail : Nat) : State :=
  let s := (s.motFinish t st detail).provEnd 3 t st detail none
  match s.motWith t 5 with
  | some d => s.finish d st detail
  | none => s

/-- A latch (1 short, 2 gate): every side off (R191, R195). -/
def State.motLatch (s : State) (t cause st detail : Nat) : State :=
  ((s.protEvent (motOut t)).setMst t 8).setFld (motCause t) cause
    |>.setMdir t 0
    |>.setOval (motOut t) 0
    |>.motEvt t 8 10
    |>.modMt t (fun m => { m with waiting := none, dNext := none, goTo := none })
    |>.motCut t st detail

/-- A thermal latch set on a target (R205, R206). -/
def State.motThermSet (s : State) (t : Nat) : State :=
  if 7 ≤ s.mst t then s
  else
    ((s.protEvent (motOut t)).setMst t 7).setMdir t 0
      |>.setOval (motOut t) 0
      |>.motEvt t 3 5
      |>.modMt t (fun m => { m with waiting := none, dNext := none, goTo := none })
      |>.motCut t 0o22 (s.motLat t)

/-- A fence released: IDLE, or THERM while a thermal latch holds (R167, R205). -/
def State.motUnfence (s : State) (t : Nat) : State := (s.setMst t 0).when (decide (s.motLat t ≠ 0)) (fun s => s.motThermSet t)

/-- The last thermal latch of a target released. -/
def State.motThermRelease (s : State) (t : Nat) : State :=
  if s.mst t = 7 ∧ s.motLat t = 0 then s.motIdle t else s

/-- A target leaves SUPPLY (R196). -/
def State.motRelease (s : State) (t : Nat) : State :=
  if s.mst t = 6 ∧ !s.motBad t then
    let m := s.mt t
    let s := s.when m.lockDue (fun s => (s.raise (MOT_GSTAT_PLK (t - 24))).modMt t (fun m => { m with lockDue := false }))
    match m.waiting with
    | some (dir, d) => if m.past || ((s.motOpen t).isNone && !s.mapDrives (motOut t)) then s.motIdle t else s.motGo t dir d
    | none => s.motIdle t
  else s

end Sys2Proof.Machine
end

