-- ==== Sys2Proof/Machine/AccLow.lean ====
section
/-! DEFINITION. LF channels: their states, their field and its end, and the start of a descriptor that needs a field (R415
to R418, R437 to R440). Times and random values are those of R415 and R435. -/

namespace Sys2Proof.Machine

def State.modAcc (s : State) (f : Immo → Immo) : State := { s with acc := f s.acc }

/-- An LF channel. -/
def State.lf (s : State) (c : Nat) : LfCh := smGet (fun _ => {}) s.acc.lf c
def State.setLf (s : State) (c : Nat) (x : LfCh) : State := s.modAcc (fun a => { a with lf := smPut (fun _ => {}) a.lf c x })
def State.modLf (s : State) (c : Nat) (f : LfCh → LfCh) : State := s.setLf c (f (s.lf c))

/-- A key slot of the present set. -/
def State.keySlot (s : State) (k : Nat) : KeySlot := smGet (fun _ => {}) s.acc.slots k
def State.setKeySlot (s : State) (k : Nat) (x : KeySlot) : State :=
  s.modAcc (fun a => { a with slots := smPut (fun _ => {}) a.slots k x })

/-- An entry of the key store, none while it holds no key. -/
def State.keyEntry (s : State) (e : Nat) : Option Nat := smFind s.acc.store e

/-- The TRNG is fenced (R435). -/
def State.trngFenced (s : State) : Bool := bGet s.flt.fenced (14 * 256 + 255)

/-- `n` random bytes: the TRNG's output is a free value. -/
def State.freeBytes (s : State) (n : Nat) : List Nat :=
  (List.range n).map (fun i => (Config.freeWord (s.free + i)).toNat % 256)

/-- The free sequence advanced by `n` places. -/
def State.drewN (s : State) (n : Nat) : State := { s with free := s.free + n }

/-- An LF event (R441): 7 LATCH, 6 OPEN, 5 THERM, 4 RELAY, 3 COLL, 2 AUTHF, 1 SESSEND, 0 KEYOK. -/
def State.lfEvt (s : State) (c i : Nat) : State := s.setBitF (ACC_LFEVT_EVT c) i true

/-- A descriptor that waits for the field of another channel (R416). -/
def Desc.waitsField (d : Desc) : Bool := decide (d.eng = 6 ∧ d.phase = .ready ∧ d.aux = 1)

/-- ACC_LFSTAT.STATE (R440). -/
def State.lfState (s : State) (c : Nat) : Nat :=
  if s.isFenced 14 c then 6
  else if (s.lf c).latched then 5
  else if (s.lf c).therm then 4
  else if s.acc.field = some c then 3
  else if s.descs.any (fun d => d.waitsField && decide (d.target = c)) then 2
  else if s.descs.any (fun d => decide (d.eng = 6 ∧ d.target = c ∧ d.phase = .prov)) then 1
  else 0

/-- STATE records for the LF channels whose state a change has moved (R485). -/
def State.lfTrace (s was : State) : State :=
  s.each (List.range 4) (fun c s =>
    if s.lfState c = was.lfState c then s else s.traceB 14 6 c (s.lfState c * 2 ^ 14) s.faultTime.1)

/-- A change of the LF engine with its STATE records. -/
def lfShown (f : State → State) (s : State) : State := (f s).lfTrace s

/-- The descriptor whose field a channel carries. -/
def State.lfOwner (s : State) (c : Nat) : Option Desc := (s.lf c).own.bind s.descId

/-- The descriptor of a field, or of an access in its session, completed. -/
def State.lfFinish (s : State) (c st detail : Nat) : State :=
  match s.lfOwner c with
  | some d => if st = 0 then s.finishDone d detail else s.finish d st detail
  | none => s

/-- A downlink frame sent, with its CRC (R418). -/
def State.lfSend (s : State) (c : Nat) (l : List Nat) : State :=
  s.modLf c (fun x => { x with down := x.down ++ [toBytes (l ++ [keyCrc l])] })

/-- WAKE with the vehicle code (R419). -/
def State.lfWake (s : State) (c : Nat) : State :=
  s.modLf c (fun x => { x with step := .wake, preLen := 0, preVal := 0 })
    |>.lfSend c (0x51 :: numBytes 2 (s.fld ACC_GCTL_VCODE))

/-- The MAC of a session frame: AES-CMAC under SK over the session counter and the frame's bytes (R419). -/
def LfCh.mac (x : LfCh) (l : List Nat) : List Nat := (aesCmac (numBytes 16 x.sk) (numBytes 2 x.ctr ++ l)).take 4

/-- A downlink frame of the session with its MAC; the counter rises by 1. -/
def State.lfSendMac (s : State) (c : Nat) (l : List Nat) : State :=
  s.lfSend c (l ++ (s.lf c).mac l) |>.modLf c (fun x => { x with ctr := (x.ctr + 1) % 65536 })

/-- The carrier off; latch and THERM stay. -/
def State.lfOff (s : State) (c : Nat) : State :=
  s.modLf c (fun x => { latched := x.latched, therm := x.therm, down := x.down })
    |>.modAcc (fun a => { a with field := if a.field = some c then none else a.field })

/-- An open session, or an access in one. -/
def LfCh.inSession (x : LfCh) : Bool := decide (x.step = .session ∨ x.step = .read ∨ x.step = .write)

/-- Why a descriptor that needs a field cannot have one (R417, R428, R435, R438, R440): its status. -/
def State.lfRefuse (s : State) (d : Desc) : Option Nat :=
  let c := d.target
  if s.isFenced 14 c then some stFenced
  else if (s.lf c).latched then some 0o31
  else if (s.lf c).therm then some 0o30
  else if !s.on (ACC_LFCFG_EN c) then some stDenied
  else if d.opcode = 5 then none
  else if s.trngFenced then some 0o36
  else if d.opcode = 1 then none
  else if s.acc.shadow.isNone then some 0o32
  else if (List.range 8).all (fun k => decide ((s.keySlot k).st ≠ .empty)) then some 0o33
  else none

/-- The carrier starts for a descriptor: tuning (R415), then WAKE, or the carrier of DIAG alone. -/
def State.lfCarrier (s : State) (d : Desc) : State :=
  let c := d.target
  s.modAcc (fun a => { a with field := some c })
    |>.modLf c (fun x => { latched := x.latched, therm := x.therm, own := some d.id, waited := decide (d.aux = 1) })
    |>.setFld (ACC_LFSTAT_TUNED c) (if s.on (ACC_LFCFG_ATUNE c) then s.draw.toNat % 32 else s.fld (ACC_LFCFG_TCODE c))
    |>.setReg (rACC_LFMEAS c) (Config.freeWord (s.free + 1)).toNat
    |>.drewN 2
    |>.startDesc d
    |> fun t => if d.opcode = 5 then t.modLf c (fun x => { x with step := .diag }) else t.lfWake c

/-- The action of a descriptor that needs a field: refused, started, or made to wait for the field of another (R416). -/
def State.lfStart (s : State) (d : Desc) : State :=
  match s.lfRefuse d with
  | some st => s.finish d st 0
  | none => if s.acc.field.isSome then s.setDesc { d with aux := 1 } else s.lfCarrier d

/-- The field is free: the waiting descriptors start in acceptance order, one at a time. -/
def State.lfNext (s : State) : State :=
  s.each (s.descs.filter Desc.waitsField) (fun d s => if s.acc.field.isNone then s.lfStart d else s)

/-- A field ended with a status for its descriptor; an open session ends with it. -/
def State.lfEnd (s : State) (c st detail : Nat) : State :=
  s.when (s.lf c).inSession (fun s => s.lfEvt c 1)
    |>.lfFinish c st detail
    |>.lfOff c
    |>.lfNext

/-- A field ended by SLEEP. -/
def State.lfSleep (s : State) (c st detail : Nat) : State := (s.lfSend c [0x5F]).lfEnd c st detail

/-- A fence of a channel (R440, R481): its field ends and its descriptors complete FENCED. -/
def State.lfFence (s : State) (c : Nat) : State :=
  (s.when (decide (s.acc.field = some c)) (fun s => s.lfEnd c stFenced 0)
    |>.finishAll (fun d => decide (d.eng = 6 ∧ d.target = c)) stFenced).traceB 14 6 c (6 * 2 ^ 14) s.faultTime.1

/-- A channel released from its fence returns to IDLE. -/
def State.lfUnfence (s : State) (c : Nat) : State := (s.modLf c (fun x => { down := x.down })).traceB 14 6 c 0 s.faultTime.1

/-- What a change of a key slot does to a search that authenticates its key (R425). -/
def State.slotTouched (s : State) (k : Nat) : State :=
  s.each (List.range 4) (fun c s => if (s.lf c).slot = k then s.modLf c (fun x => { x with stale := true }) else s)

/-- The end of the learn session (R428): its shadow is destroyed. -/
def State.learnEnd (s : State) : State := s.modAcc (fun a => { a with shadow := none, learnLeft := 0 })

/-- The presence window closes (R432): key authority ends, and a learn session with it. -/
def State.presClose (s : State) : State :=
  if s.acc.pres.isSome then
    s.modAcc (fun a => { a with pres := none, auth := 0, evPres := true })
      |>.when s.acc.shadow.isSome State.learnEnd
      |>.setFld FLT_IMCTL_DNGR 0
      |>.setFld FLT_IMCTL_LVOVR 0
  else s

end Sys2Proof.Machine
end

