-- ==== Sys2Proof/Machine/Sha.lean ====
section
/-! DEFINITION. SHA-256 as FIPS 180-4 gives it, and the CRC-32 of records: bytes are numbers below 256. -/

namespace Sys2Proof.Machine

/-- A 256-bit number as eight 32-bit words, the most significant first. -/
def octet (v : Nat) : List Nat := (List.range 8).map (fun i => v / 2 ^ (224 - 32 * i) % 2 ^ 32)

/-- The round constants, eight to a number: the fractions of the cube roots of the first 64 primes. -/
def shaK : List Nat :=
  [0x428a2f9871374491b5c0fbcfe9b5dba53956c25b59f111f1923f82a4ab1c5ed5,
   0xd807aa9812835b01243185be550c7dc372be5d7480deb1fe9bdc06a7c19bf174,
   0xe49b69c1efbe47860fc19dc6240ca1cc2de92c6f4a7484aa5cb0a9dc76f988da,
   0x983e5152a831c66db00327c8bf597fc7c6e00bf3d5a7914706ca635114292967,
   0x27b70a852e1b21384d2c6dfc53380d13650a7354766a0abb81c2c92e92722c85,
   0xa2bfe8a1a81a664bc24b8b70c76c51a3d192e819d6990624f40e3585106aa070,
   0x19a4c1161e376c082748774c34b0bcb5391c0cb34ed8aa4a5b9cca4f682e6ff3,
   0x748f82ee78a5636f84c878148cc7020890befffaa4506cebbef9a3f7c67178f2].flatMap octet

/-- The initial hash value: the fractions of the square roots of the first eight primes. -/
def shaH : List Nat := octet 0x6a09e667bb67ae853c6ef372a54ff53a510e527f9b05688c1f83d9ab5be0cd19

/-- Rotation of a 32-bit word to the right. -/
def ror32 (n x : Nat) : Nat := x / 2 ^ n + x % 2 ^ n * 2 ^ (32 - n)

/-- The schedule from word 16 on, latest first. -/
def shaSched : Nat → List Nat → List Nat
  | 0, ws => ws
  | n + 1, ws =>
    let a := ws.getD 1 0
    let b := ws.getD 14 0
    let s1 := ror32 17 a ^^^ ror32 19 a ^^^ a / 1024
    let s0 := ror32 7 b ^^^ ror32 18 b ^^^ b / 8
    shaSched n ((s1 + ws.getD 6 0 + s0 + ws.getD 15 0) % 2 ^ 32 :: ws)

/-- The eight working variables. -/
structure ShaVars where
  a : Nat
  b : Nat
  c : Nat
  d : Nat
  e : Nat
  f : Nat
  g : Nat
  h : Nat
  deriving DecidableEq, Repr

/-- One round with a constant and a schedule word. -/
def shaRound (v : ShaVars) (kw : Nat × Nat) : ShaVars :=
  let ch := (v.e &&& v.f) ^^^ ((0xffffffff - v.e) &&& v.g)
  let mj := (v.a &&& v.b) ^^^ (v.a &&& v.c) ^^^ (v.b &&& v.c)
  let t1 := v.h + (ror32 6 v.e ^^^ ror32 11 v.e ^^^ ror32 25 v.e) + ch + kw.1 + kw.2
  let t2 := (ror32 2 v.a ^^^ ror32 13 v.a ^^^ ror32 22 v.a) + mj
  ⟨(t1 + t2) % 2 ^ 32, v.a, v.b, v.c, (v.d + t1) % 2 ^ 32, v.e, v.f, v.g⟩

/-- One block of sixteen words. -/
def shaBlock (v : ShaVars) (ws : List Nat) : ShaVars :=
  let r := (shaK.zip (shaSched 48 ws.reverse).reverse).foldl shaRound v
  let p := fun (x y : Nat) => (x + y) % 2 ^ 32
  ⟨p v.a r.a, p v.b r.b, p v.c r.c, p v.d r.d, p v.e r.e, p v.f r.f, p v.g r.g, p v.h r.h⟩

/-- Big-endian 32-bit words of a byte string. -/
def words32 : List Nat → List Nat
  | a :: b :: c :: d :: t => (a * 2 ^ 24 + b * 2 ^ 16 + c * 256 + d) :: words32 t
  | _ => []

/-- The blocks hashed in order; `fuel` bounds their number. -/
def shaBlocks : Nat → ShaVars → List Nat → ShaVars
  | 0, v, _ => v
  | fuel + 1, v, ws => if ws.isEmpty then v else shaBlocks fuel (shaBlock v (ws.take 16)) (ws.drop 16)

/-- The padding of a message of `n` bytes. -/
def shaPad (n : Nat) : List Nat :=
  0x80 :: List.replicate ((119 - n % 64) % 64) 0 ++ (List.range 8).map (fun i => 8 * n / 256 ^ (7 - i) % 256)

/-- SHA-256 of a byte string: 32 bytes. -/
def sha256 (msg : List Nat) : List Nat :=
  let ws := words32 (msg ++ shaPad msg.length)
  let i := fun k => shaH.getD k 0
  let v := shaBlocks ws.length ⟨i 0, i 1, i 2, i 3, i 4, i 5, i 6, i 7⟩ ws
  [v.a, v.b, v.c, v.d, v.e, v.f, v.g, v.h].flatMap (fun w => [w / 2 ^ 24, w / 2 ^ 16 % 256, w / 256 % 256, w % 256])

/-- One byte into the reflected CRC-32 of IEEE 802.3. -/
def crc32Step (c b : Nat) : Nat :=
  (List.range 8).foldl (fun x _ => if x % 2 = 1 then x / 2 ^^^ 0xEDB88320 else x / 2) (c ^^^ b)

/-- CRC-32 of a byte string. -/
def crc32 (l : List Nat) : Nat := (l.foldl crc32Step 0xFFFFFFFF) ^^^ 0xFFFFFFFF

end Sys2Proof.Machine
end

