-- ==== Sys2Proof/Machine/MemLow.lean ====
section
/-! DEFINITION. The memories as other blocks use them: clearing, the code banks, the OTP, and the records of the settings
store (R39, R40, R49 to R59). -/

namespace Sys2Proof.Machine

def State.modMem (s : State) (f : Mem → Mem) : State := { s with memc := f s.memc }

/-- A TCM, system RAM, sequencer memory or always-on memory cleared (R39). -/
def State.clearTcm (s : State) (c : Nat) : State := s.clearMem (tcmKey c 0) (tcmKey c 0 + 0o100000)
def State.clearRam (s : State) : State := s.clearMem ramBase ramEnd
def State.clearBank (s : State) (k : Nat) : State := s.clearMem (ramBase + k * 0o20000) (ramBase + (k + 1) * 0o20000)
def State.clearSeq (s : State) : State := s.clearMem (seqKey 0) (seqKey 0o20000)
def State.clearAon (s : State) (lo : Nat) : State := s.clearMem lo 0o720000

/-- The active code bank. -/
def State.activeBank (s : State) : Nat := s.fld MEM_NSTAT_ACTIVE

/-- A row of a code bank, its eight parcels. -/
def State.codeRow (s : State) (b p : Nat) : List Word := (List.range 8).map (fun i => s.rd (codeKey b (p / 8 * 8 + i)))

/-- A written row: a parcel differs from the erased value (R500). -/
def State.rowWritten (s : State) (b p : Nat) : Bool := (s.codeRow b p).any (fun w => decide (w ≠ 0o777777))

/-- A row that has been programmed since its last erase, be it with the erased value (R49). -/
def State.rowUsed (s : State) (b p : Nat) : Bool := s.rowWritten b p || bGet s.memc.ones (codeKey b (p / 8 * 8))

/-- A code row programmed; the verified latch clears (R504). -/
def State.progRow (s : State) (b p : Nat) (ws : List Word) : State :=
  s.each (List.range 8) (fun i s => s.wr (codeKey b (p / 8 * 8 + i)) (ws.getD i 0o777777))
    |>.modPw (fun x => { x with verified := none })
    |>.when ((List.range 8).all (fun i => decide (ws.getD i 0o777777 = 0o777777))) (fun s =>
      s.modMem (fun m => { m with ones := bPut m.ones (codeKey b (p / 8 * 8)) true }))

/-- A range of a code bank erased. -/
def State.eraseCode (s : State) (b lo hi : Nat) : State :=
  (s.clearMem (codeKey b lo) (codeKey b hi)).modPw (fun x => { x with verified := none })
    |>.modMem (fun m => { m with ones := smKeep (fun k => decide (k < codeKey b lo ∨ codeKey b hi ≤ k)) m.ones })

/-- The supply is too low to program code NVM (R49). -/
def State.lowV (s : State) : Bool := s.on PCR_KL_KL30LO

/-- An OTP word, and whether it is written. -/
def State.otp (s : State) (o : Nat) : Nat := (s.rd (otpKey o)).toNat
def State.otpWritten (s : State) (o : Nat) : Bool := otpKrafin o || bGet s.memc.otpW o

/-- OTP lock bits (R58): 0 debug, 1 service port, 2 fabric. -/
def State.otpLock (s : State) (i : Nat) : Bool := bitAt (s.otp 0o421) i

/-- The 48-bit module identity. -/
def State.identity (s : State) : Nat := (s.otp 0o422 % 65536) * 2 ^ 32 + (s.otp 0o423 % 65536) * 2 ^ 16 + s.otp 0o424 % 65536

/-- A word of a data NVM bank. -/
def State.dw (s : State) (b w : Nat) : Nat := (s.rd (dataKey b w)).toNat

/-- The three bytes of a word in a CRC or a hash (R52). -/
def threeBytes (w : Nat) : List Nat := [w / 65536, w / 256 % 256, w % 256]

/-- CRC-32 of the first words of a record. -/
def crcWords (ws : List Nat) : Nat := crc32 (ws.flatMap threeBytes)

/-- A bank holds a valid record (R53). -/
def State.recValid (s : State) (b : Nat) : Bool :=
  let n := s.dw b 4
  decide (s.dw b 0 = 0o265105 ∧ s.dw b 1 / 4096 = 1 ∧ s.dw b 65535 = 0o525252 ∧ 1 ≤ n ∧ n ≤ 65518)
    && decide (crcWords ((List.range (8 + n)).map (s.dw b)) = (s.dw b (8 + n) % 65536) * 65536 + s.dw b (9 + n) % 65536)

/-- The sequence number of a record. -/
def State.recSeq (s : State) (b : Nat) : Nat := (s.dw b 2 % 65536) * 65536 + s.dw b 3 % 65536

/-- The bank of the store's valid record (R53). -/
def State.ssBank (s : State) : Option Nat :=
  match s.recValid 0, s.recValid 1 with
  | true, true => if s.recSeq 0 < s.recSeq 1 then some 1 else some 0
  | true, false => some 0
  | false, true => some 1
  | false, false => none

/-- The words of a bank that a check of its record reads, and the check of both banks: their errors are counted. -/
def State.recReads (s : State) (b : Nat) : State :=
  (s.portRead (dataKey b 0) (if 1 ≤ s.dw b 4 ∧ s.dw b 4 ≤ 65518 then 10 + s.dw b 4 else 8)).portRead (dataKey b 65535) 1
def State.scanReads (s : State) : State := (s.recReads 0).recReads 1

/-- The first of `n` payload words that stops a LOAD: one that is uncorrectable, or whose place in the buffer is off line. -/
def State.ssStop (s : State) (r : SsRun) (n : Nat) : Nat :=
  stopAt n (fun i => s.addrOff (r.buf + i) || decide (s.eccOf (dataKey r.bank (8 + i)) = 2))

/-- The first `n` payload words of a LOAD copied, up to the one that stops it. -/
def State.ssCopy (s : State) (r : SsRun) (n : Nat) : State :=
  let k := s.ssStop r n
  (s.portRead (dataKey r.bank 8) (Nat.min n (k + 1))).each (List.range k) (fun i s => s.wr (r.buf + i) (s.rd (dataKey r.bank (8 + i))))

/-- A payload word of the valid record. -/
def State.payload (s : State) (i : Nat) : Option Nat :=
  s.ssBank.bind (fun b => if i < s.dw b 4 then some (s.dw b (8 + i)) else none)

/-- MEM_SSSTAT and the registers after it show the valid record. -/
def State.ssShow (s : State) : State :=
  match s.ssBank with
  | some b =>
    s.setFld MEM_SSSTAT_VALID 1
      |>.setFld MEM_SSSTAT_BANK b
      |>.setFld MEM_SSSTAT_SCHEMA (s.dw b 1 % 4096)
      |>.setReg rMEM_SSSEQH (s.dw b 2 % 65536)
      |>.setReg rMEM_SSSEQL (s.dw b 3 % 65536)
      |>.setReg rMEM_SSVLEN (s.dw b 4)
  | none => s.setFld MEM_SSSTAT_VALID 0

/-- A word loaded into a register: a field whose encoding is reserved keeps its value (R11). -/
def loadedWord (k w old : Nat) : Nat :=
  match rowOf k with
  | some r =>
    r.fields.foldl (fun x f =>
      if f.acc = .ro ∨ badField k f (bitsOf w f.hi f.lo) = true then x else putBits x f.hi f.lo (bitsOf w f.hi f.lo)) old
  | none => old

/-- A word that holds a reserved encoding of a field of a register. -/
def loadsReserved (k w : Nat) : Bool :=
  match rowOf k with
  | some r => r.fields.any (fun f => decide (f.acc ≠ .ro) && badField k f (bitsOf w f.hi f.lo))
  | none => false

/-- A register of the fabric loaded from a payload word. -/
def State.loadReg (s : State) (b : Nat) (k i : Nat) : State :=
  (s.setReg k (loadedWord k (s.dw b (8 + i)) (s.reg k))).raiseIf (loadsReserved k (s.dw b (8 + i))) INP_FLAG_ENCREF

/-- The fabric loaded from the valid record (R310): a payload of at least 394 words with the magic. -/
def State.fabricLoad (s : State) : State :=
  (match s.ssBank with
   | some b =>
     if 394 ≤ s.dw b 4 ∧ s.dw b 8 = 0o147262 then
       s.each (List.range 32) (fun c s =>
           s.loadReg b (rINP_FCSEL c) (1 + 4 * c) |>.loadReg b (rINP_FCSEL2 c) (2 + 4 * c)
             |>.loadReg b (rINP_FCLUT c) (3 + 4 * c) |>.loadReg b (rINP_FCMODE c) (4 + 4 * c))
         |>.each (List.range 4) (fun t s => s.loadReg b (rINP_FTCFG t) (129 + 2 * t) |>.loadReg b (rINP_FTPER t) (130 + 2 * t))
         |>.loadReg b rINP_LHCTL 137
         |>.each (List.range 128) (fun n s => s.loadReg b (rINP_LHM n) (138 + n) |>.loadReg b (rINP_LHD n) (266 + n))
         |>.setFld INP_GLOCK_LOADED 1
     else s.setFld INP_GLOCK_LOADED 0
   | none => s.setFld INP_GLOCK_LOADED 0)
    |> fun t => t.when (s.otpLock 2) (fun t => t.setFld INP_GLOCK_LOCK 1)

/-! ### The image agent's session -/

/-- No session is held: FLT_IMSTAT shows idle, and the chain entries are idle. -/
def State.imgIdle (s : State) : State :=
  (s.setFld FLT_IMSTAT_STATE 0).setFld FLT_IMSTAT_SRC 3
    |>.setFld FLT_IMSTAT_PASS 0
    |>.setFld FLT_IMSTAT_NDOWN 0
    |>.each (List.range 8) (fun e s => s.setFld (FLT_IMDST_STATE e) 0)
    |>.modImg (fun m => { m with sess := none, downs := [] })

/-- A session, and a migration, end without a message (R537). -/
def State.imgDrop (s : State) : State :=
  s.when s.img.sess.isSome State.imgIdle
    |>.when s.img.mig.isSome (fun s =>
      ((s.setFld FLT_IMMIG_RESULT 5).setFld FLT_IMSTAT_STATE 0).modImg (fun m => { m with mig := none }))

end Sys2Proof.Machine
end

