-- ==== Sys2Proof/Machine/Reset.lean ====
section
/-! DEFINITION. Resets and releases: what a reset of a domain, a MOD reset and a wake do to registers, memories and the
state outside them (R8, R39, R40, R103, R365, R471, R476, R583). -/

namespace Sys2Proof.Machine

/-- The state FAWN holds for a register of another domain (R46, R174, R581, R583): the registers kept there. -/
def fawnRegs : List Nat := [0x20, 0xE00, 0xE01, 0xE02, 0xE10, 0xE11, 0xE12, 0x5024, 0x5025, 0x5026, 0x5027, 0x5028, 0x7307]

/-- A register held in FAWN. -/
def inFawn (k : Nat) (r : RegRow) : Bool := decide (r.dom = .fawn) || fawnRegs.contains (keyAddr k) || fawnRegs.contains r.base

/-- Bits of registers that show hardware state through a reset ("var" in the register tables), by the row's base. -/
def liveBits : List (Nat × Nat) :=
  [(0x4004, 0o777777), (0x4104, 4), (0x4106, 0o777777), (0x5004, 0o777777), (0x5010, 0o777777), (0x5020, 0o777777),
   (0x5021, 0o777777), (0x5101, 0o074000), (0x5102, 0o777777), (0x5103, 0o777777), (0x5105, 2 ^ 17), (0x5106, 0o777777),
   (0x5605, 2 ^ 17), (0x5606, 0o777777), (0x7002, 0o777777), (0x7102, 0o1400), (0x7305, 0o600),
   (0x8102, 2 ^ 12), (0x8106, 0o777777), (0x9105, 0o777777),
   (0xA002, 2 ^ 17), (0xA004, 0o777777), (0xA102, 2 ^ 17), (0x1005, 0o777777), (0x1006, 0o777777), (0x1007, 0o777777),
   (0x2034, 2 ^ 17), (0x3600, 2 ^ 16)]

/-- A register's value after a reset: its reset value with the bits that show hardware state kept. -/
def resetValue (k : Nat) (r : RegRow) (v : Word) : Word :=
  match liveBits.find? (fun e => decide (e.1 = r.base)) with
  | some e => (regReset k &&& ~~~(toWord e.2)) ||| (v &&& toWord e.2)
  | none => regReset k

/-- The registers that satisfy a test take their reset values; a latched value of such a register is gone. -/
def State.regsReset (s : State) (p : Nat → RegRow → Bool) : State :=
  { s with
    io := s.io.filterMap (fun e =>
      match rowOf e.1 with
      | some r =>
        if p e.1 r then (if resetValue e.1 r e.2 = regReset e.1 then none else some (e.1, resetValue e.1 r e.2)) else some e
      | none => some e),
    snap := smKeep (fun k => (rowOf k).elim true (fun r => !p k r)) s.snap }

/-- The domain of a register: a private ICU belongs to its core's domain. -/
def regDom (k : Nat) (r : RegRow) : Dom :=
  if r.dom = .core then (if k / 65536 = 3 then .coreS else .coreA) else r.dom

/-- The registers of a domain that a reset of it returns to their reset values: all of them where it lost power, those of
source DOM otherwise (R8); registers held in FAWN stay. -/
def State.domRegs (s : State) (d : Dom) (lost : Bool) : State :=
  s.regsReset (fun k r => decide (regDom k r = d) && !inFawn k r && (lost || decide (r.src = .dom)))

/-- The fault state of a block cleared (R471). -/
def State.fltClear (s : State) (b : Nat) : State :=
  s.regsReset (fun k _ =>
      decide ((0xF000 + 0x10 * b ≤ k ∧ k < 0xF004 + 0x10 * b) ∨ (0xF100 + 0x20 * b ≤ k ∧ k < 0xF120 + 0x20 * b)
        ∨ (0xF300 + 0x40 * b ≤ k ∧ k < 0xF340 + 0x40 * b)))
    |>.modFlt (fun x => { x with unack := smKeep (fun k => decide (k / 32 ≠ b)) x.unack,
                                 last := smKeep (fun k => decide (k / 32 ≠ b)) x.last,
                                 spool := smErase x.spool b })
    |>.refreshFlt b

/-- Units of a block no longer fenced: their domain was reset. Memory fences stay: FAWN holds them until a MOD reset (R46). -/
def State.unfenceAll (s : State) (b : Nat) : State :=
  if b = 2 then s else s.modFlt (fun x => { x with fenced := smKeep (fun k => decide (k / 256 ≠ b)) x.fenced })

/-! ### Cores -/

/-- A core started at its reset vector (R583), or S in the boot ROM. -/
def State.coreStart (s : State) (c : Nat) : State :=
  if s.flt.safe then s.setCore c { run := .reset }
  else if c = 2 then s.setCore 2 { run := .running, pc := 0o7760000, vbr := 0o776100 }
  else
    s.setCore c { run := .running, pc := s.fld (ICU_ACTL_RVH c) * 2 ^ 18 + s.fld (ICU_ARVL_RVL c), vbr := toWord (s.reg (rICU_AVBR c)) }

/-- A core released after a reset of its domain: A0 and A1 only while HOLD is 0. -/
def State.coreRelease (s : State) (c : Nat) : State :=
  if c ≠ 2 ∧ s.on (ICU_ACTL_HOLD c) then s.setCore c { run := .reset } else s.coreStart c

/-! ### The state outside registers, by domain -/

/-- The rise at which a tripped wire model restarts (R175, R177): TWMAX less the ambient temperature, in 10^-12 K. -/
def State.tripTheta (s : State) (o : Nat) : Nat :=
  ((60 + 5 * s.fld (THM_WCFG_TWMAX o)) * 64 - s.fld THM_AMB_AMB) * 10 ^ 12 / 64

/-- ACT's engines and threads at reset (R103); the count of zone time and its rate correction go on (R114). -/
def State.dropAct (s : State) : State :=
  let t : State := { s with threads := [], zone := { rate := s.zone.rate }, thm := { epoch := s.thm.epoch, since := s.thm.since, told := s.thm.told }, inp := {} }
  let u : State := { t with hsc := [], ocfg := [], mot := [], vlv := [] }
  { u with bank := [], lux := [], loops := [], px := [] }

/-- The rise of a wire model set. -/
def State.setThmTheta (s : State) (o v : Nat) : State :=
  let th : Thm := { s.thm with theta := nPut s.thm.theta o v }
  { s with thm := th }

/-- ACT's state outside registers at reset: its descriptors are gone, wire models start at a rise of 0, a tripped one at
its trip temperature, its bank LATCHED (R174). -/
def State.hideAct (s : State) : State :=
  s.dropAct
    |>.modAcc (fun a => { a with lf := [], field := none })
    |>.setDescs (s.descs.filter (fun d : Desc => decide (d.eng < 2 ∨ 6 < d.eng)))
    |>.each ((List.range 84).filter (fun o => decide (o < 64 ∨ 80 ≤ o))) (fun o s =>
      if s.wireTrip o then
        (s.setThmTheta o (s.tripTheta o)).when (decide (80 ≤ o)) (fun s =>
          (s.setFld (VLV_BSTAT_STATE (o - 80)) 4).setFld (VLV_BSTAT_LCAUSE (o - 80)) 3)
      else s)

/-- NET; the deafening times and CAN0's receiver lie in FAWN (R327, R329). -/
def State.hideNet (s : State) : State :=
  let n : Net := { deafAt := s.net.deafAt, can0 := s.net.can0 }
  { s with net := n, herd := {} }

/-- ZSW starts cleared, with its master counter loaded from ACT's zone time (R365, R409). -/
def State.hideZsw (s : State) : State :=
  let e : Eth := { mc := s.zt, wakes := s.eth.wakes }
  { s with zsw := {}, eth := e }
    |>.each ((List.range 6).filter (fun p => decide (s.tc10 p ≠ 3))) (fun p s => s.setTc10 p 0)

/-- The descriptors of rings that are not enabled lose their rings at a reset of FABRIC: their actions go on, and their
completions are discarded (R476). -/
def State.orphan (s : State) : State :=
  s.setDescs (s.descs.map (fun d : Desc => if s.on (RNG_RCFG_EN d.ring) then d else { d with mute := true }))

/-- A march run cut short: FAILCNT holds the failures found so far, a count that no command has given and that is therefore
free (R45). -/
def State.marchAbort (s : State) : State :=
  (s.setFld MEM_MSTAT_RESULT 5).setFld MEM_MSTAT_FAILCNT (s.draw.toNat % 4096) |>.drew |>.raise MEM_FLAG_MDONE

/-- A running march run, settings store command or code NVM command cut by a reset of FABRIC (R45, R55). -/
def State.memCut (s : State) : State :=
  s.when (decide (s.fld MEM_MSTAT_RESULT = 1)) State.marchAbort
    |>.when s.memc.ss.isSome (fun s => (s.setFld MEM_SSSTAT_BUSY 0).setFld MEM_SSSTAT_RESULT 4 |>.raise MEM_FLAG_SSDONE)
    |>.setFld MEM_NSTAT_BUSY 0
    |>.setFld MEM_OTPSTAT_BUSY 0
    |>.modMem (fun m => { m with nrun := none, nrow := none, nfifo := [], ss := none, otp := none })
    |>.ssShow

/-! ### Resets -/

/-- LBIST of a core ended by a reset of CORE-A (R509). -/
def State.lbistAbort (s : State) : State :=
  s.when (decide (s.fld ICU_LBSTAT_A0 = 2)) (fun s => s.setFld ICU_LBSTAT_A0 5)
    |>.when (decide (s.fld ICU_LBSTAT_A1 = 2)) (fun s => s.setFld ICU_LBSTAT_A1 5)

/-- A core released by a reset of CORE-A: one that is fenced stays so, since ICU_ACTL.STATE has source MOD and no fence
releases by itself (R8, R481, R482). -/
def State.coreAgain (s : State) (c : Nat) : State :=
  if bGet s.flt.fenced c then s.setCore c { run := .fenced } else s.coreRelease c

/-- A reset of CORE-A: TCMs cleared, the ICUs' DOM registers at reset, A0 and A1 released as HOLD says. -/
def State.resetCoreA (s : State) : State :=
  (s.clearTcm 0).clearTcm 1
    |>.domRegs .coreA false
    |>.lbistAbort
    |>.coreAgain 0
    |>.coreAgain 1

/-- A reset of CORE-S: S restarts in the boot ROM. -/
def State.resetCoreS (s : State) : State :=
  (s.clearTcm 2).domRegs .coreS false
    |>.modPw (fun p => { p with boot := .rom })
    |>.coreStart 2

/-- A reset of FABRIC: system RAM cleared, running memory work cut, PERMIT for 1 s (R47); CORE-A and CORE-S reset. The
registers of the ring engine have source MOD and stay. -/
def State.resetFabric (s : State) : State :=
  s.memCut
    |>.imgDrop
    |>.clearRam
    |>.domRegs .fabric false
    |>.orphan
    |>.modMem (fun m => { m with l3Permit := true })
    |>.resetCoreA
    |>.resetCoreS

/-- Descriptors of an engine set completed DOMAIN_LOST. -/
def State.loseEngines (s : State) (p : Nat → Bool) : State := s.finishAll (fun d : Desc => p d.eng) stDomainLost

/-- A reset of NET or ZSW, released at once. -/
def State.resetNet (s : State) : State :=
  s.loseEngines (fun e => decide (e = 7)) |>.domRegs .net false |>.hideNet |>.unfenceAll 11 |>.refreshInh
def State.resetZsw (s : State) : State :=
  s.loseEngines (fun e => decide (e = 8)) |>.domRegs .zsw false |>.hideZsw |>.unfenceAll 12 |>.unfenceAll 13

/-- An L3 reset of a domain (R476). -/
def State.domReset (s : State) (d : Dom) : State :=
  match d with
  | .coreA => s.resetCoreA
  | .coreS => s.resetCoreS
  | .fabric => s.resetFabric
  | .net => s.resetNet
  | .zsw => s.resetZsw
  | _ => s

/-- What a reset or a loss of power does to the presence window, the enrolment commands and the crypto engines (R428,
R430, R432): they end; the key store stays. -/
def State.accFabricReset (s : State) : State :=
  s.presClose.learnEnd.modAcc (fun a => { a with nonce := none, nonceLeft := 0, crypto := none, kstore := none,
                                                 evPres := false, evEnrol := false, evCrypto := false })

/-- A MOD reset that is not a POR (R8, R40, R494): every register of source MOD or DOM at reset, TCMs, system RAM and
sequencer memory cleared, fences ended, S in the boot ROM, NET and ZSW held until PLL0 moves to the crystal again, the
start-up calibration of ACT due. `cause` is PCR_RCAUSE. -/
def State.modReset (s : State) (cause : Nat) : State :=
  (s.clearTcm 0).clearTcm 1
    |>.clearTcm 2
    |>.clearRam
    |>.clearSeq
    |>.regsReset (fun _ r => decide (r.src ≠ .por))
    |>.setFld INP_GLOCK_LOCK 0
    |>.accFabricReset
    |>.hideAct
    |>.hideNet
    |>.hideZsw
    |>.modRng (fun _ => {})
    |>.setDescs []
    |>.modMem (fun m => { otpW := m.otpW, ones := m.ones })
    |>.modImg (fun _ => {})
    |>.modBrc (fun _ => {})
    |>.modFlt (fun x => { sinceSync := x.sinceSync })
    |>.modPw (fun p => { verified := p.verified, svcPor := p.svcPor, fabric := .on })
    |>.setFld PCR_RCAUSE_CAUSE cause
    |>.setFld PCR_CLK_P0SRC 1
    |>.setCore 0 { run := .reset }
    |>.setCore 1 { run := .reset }
    |>.coreStart 2
    |>.refreshInh
    |>.driveFltn

end Sys2Proof.Machine
end

