-- ==== Sys2Proof/Machine/VlvBank.lean ====
section
/-! DEFINITION. The valve banks' states (R218 to R233): the current loop, peaks on a shared bank, latches and supply. -/

namespace Sys2Proof.Machine

/-! ### Valves and banks -/

def State.vv (s : State) (n : Nat) : VlvT := smGet (fun _ => {}) s.vlv n
def State.setVv (s : State) (n : Nat) (v : VlvT) : State := { s with vlv := smPut (fun _ => {}) s.vlv n v }
def State.modVv (s : State) (n : Nat) (f : VlvT → VlvT) : State := s.setVv n (f (s.vv n))
def State.vb (s : State) (m : Nat) : VlvB := smGet (fun _ => {}) s.bank m
def State.setVb (s : State) (m : Nat) (b : VlvB) : State := { s with bank := smPut (fun _ => {}) s.bank m b }

/-- The valves of a bank (R218). -/
def bankValves (m : Nat) : List Nat := [4 * m, 4 * m + 1, 4 * m + 2, 4 * m + 3]

/-- The sequencer output of a valve and of a bank (R218). -/
def vlvOut (n : Nat) : Nat := 84 + n
def vhOut (m : Nat) : Nat := 80 + m

/-- Valve states (R235): 0 OFF, 1 PREP, 2 WAIT, 3 PEAK, 4 HOLD, 5 DECAY, 6 SUPPLY, 7 THERM, 8 LATCHED, 9 FENCED. -/
def State.vst (s : State) (n : Nat) : Nat := s.fld (VLV_VSTAT_STATE n)
/-- Bank states: 0 IDLE, 1 CLOSED, 2 UVOFF, 3 THERM, 4 LATCHED, 5 FENCED. -/
def State.bst (s : State) (m : Nat) : Nat := s.fld (VLV_BSTAT_STATE m)

def State.vEvt (s : State) (n i : Nat) : State := s.setBitF (VLV_VEVT_EVT n) i true
def State.bEvt (s : State) (m i : Nat) : State := s.setBitF (VLV_BEVT_EVT m) i true

/-- A valve's state set, with WAITN and the STATE trace record. -/
def State.setVst (s : State) (n v : Nat) : State :=
  if s.vst n = v then s
  else
    let s := s.setFld (VLV_VSTAT_STATE n) v
    s.setFld (VLV_BSTAT_WAITN (n / 4)) ((bankValves (n / 4)).filter (fun k => decide (s.vst k = 2))).length
      |>.traceB 8 6 n (v * 2 ^ 14) s.faultTime.1

/-- A bank's state set; VHCHG when VH opens or closes. -/
def State.setBst (s : State) (m v : Nat) : State :=
  let o := s.bst m
  if o = v then s
  else
    (s.setFld (VLV_BSTAT_STATE m) v).when (decide (o = 1 ∨ v = 1)) (fun s => s.bEvt m 0)
      |>.setVb m { (s.vb m) with ready := false }
      |>.traceB 8 6 (16 + m) (v * 2 ^ 14) s.faultTime.1

/-- The valves that hold the slot, with PKBUSY and PKVAL. -/
def State.setSlots (s : State) (m : Nat) (l : List Nat) : State :=
  (s.setVb m { (s.vb m) with slots := l }).setFld (VLV_BSTAT_PKBUSY m) (b2n (!l.isEmpty))
    |>.setFld (VLV_BSTAT_PKVAL m) (l.headD 0 % 4)

/-- A thermal latch on a valve and on a bank. -/
def State.vlvLat (s : State) (n : Nat) : Nat := s.latBits (vlvOut n)
def State.bankLat (s : State) (m : Nat) : Nat := s.latBits (vhOut m)

/-- The BANK_FAULT detail of a bank that is off, or that a held trip or latch keeps off (R167, R174, R241). -/
def State.bankDetail (s : State) (m : Nat) : Nat :=
  match s.bst m with
  | 3 => 4
  | 4 => s.fld (VLV_BSTAT_LCAUSE m)
  | 5 => 5
  | _ => if s.wireTrip (vhOut m) then 3 else if s.bankLat m ≠ 0 then 4 else 0

/-- A bank whose VH may not close. -/
def State.bankBarred (s : State) (m : Nat) : Bool := decide (3 ≤ s.bst m ∨ s.bankDetail m ≠ 0)

/-- VH closes (R220). -/
def State.bankClose (s : State) (m : Nat) : State := if s.bst m = 0 ∧ !s.bankBarred m then s.setBst m 1 else s

/-- A valve that keeps VH closed: energised, preparing, waiting, decaying or under DIAG. -/
def State.vlvActive (s : State) (n : Nat) : Bool :=
  decide (1 ≤ s.vst n ∧ s.vst n ≤ 6) || s.descs.any (fun d => decide (d.eng = 4 ∧ d.target = n ∧ d.opcode = 5 ∧ d.phase = .running))

/-- No valve of the bank keeps VH closed. -/
def State.bankQuiet (s : State) (m : Nat) : Bool := (bankValves m).all (fun n => !s.vlvActive n)

/-- With TVHOFF = 0 VH opens on the tick at which the last valve reaches OFF (R220). -/
def State.bankRest (s : State) (m : Nat) : State :=
  if s.bst m = 1 && s.bankQuiet m && !s.on (VLV_BCFG2_TVHOFF m) then s.setBst m 0 else s

/-! ### The dither (R223) and the bank demand (R228) -/

/-- The dither amplitude in 1/64 of the setpoint and its frequency in Hz that a valve asks for (R223, R243). -/
def State.dampOf (s : State) (n : Nat) : Nat := ((s.vv n).damp).getD (s.fld (VLV_VCFG_DAMP n))
def State.dfreqOf (s : State) (n : Nat) : Nat := ((s.vv n).dfreq).getD (s.fld (VLV_VCFG_DFREQ n))

/-- The highest setpoint whose dither peak stays within 0o300000 (R222). -/
def holdTop (damp : Nat) : Nat := 0o300000 * 64 / (64 + damp)

/-- A triangle of amplitude 10^4 at a phase in 1/40000 of a cycle. -/
def triangle (p : Nat) : Int := if p < 10000 then p else if p < 30000 then 20000 - (p : Int) else (p : Int) - 40000

/-- A sine of amplitude 10^12 where the triangle has the value `t`: its series to the ninth power, whose error is below one LSB of any
setpoint. -/
def sine (t : Int) : Int :=
  let x := t * 15707963268 / 100
  let m (a b : Int) : Int := Int.tdiv (a * b) (10 ^ 12)
  let x2 := m x x
  let x3 := m x x2
  let x5 := m x3 x2
  let x7 := m x5 x2
  x - Int.tdiv x3 6 + Int.tdiv x5 120 - Int.tdiv x7 5040 + Int.tdiv (m x7 x2) 362880

/-- The setpoint that the current loop of a valve in HOLD regulates to, with its dither. DESIGN CHOICE: it is rounded toward the
undithered setpoint. -/
def State.ditherNow (s : State) (n : Nat) : Nat :=
  let v := s.vv n
  let t := triangle v.dPh
  let pk : Int := (v.hold : Int) * v.dAmp
  ((v.hold : Int) + (if v.dFreq = 0 then 0 else if s.on (VLV_VCFG_DSHAPE n) then Int.tdiv (pk * sine t) (64 * 10 ^ 12)
    else Int.tdiv (pk * t) 640000)).toNat

/-- DFREQ and DAMP taken up (R223); the setpoint stays within R222. -/
def State.ditherTake (s : State) (n ph : Nat) : State :=
  let a := s.dampOf n
  s.modVv n (fun v => { v with dAmp := a, dFreq := s.dfreqOf n, dPh := ph, hold := Nat.min v.hold (holdTop a) })

/-- A valve's contribution to its bank's demand, in 1/64 LSB. -/
def State.vlvDemand (s : State) (n : Nat) : Nat :=
  match s.vst n with
  | 1 => if s.on (VLV_VSTAT_PREMAG n) then s.fld (VLV_VPK_IPK n) * 8 else 0
  | 3 => s.fld (VLV_VPK_IPK n) * 64
  | 4 =>
    let v := s.vv n
    (if v.ramping then Nat.max v.hold v.setiTo else v.hold) * (64 + v.dAmp)
  | _ => 0

def State.bankDemand (s : State) (m : Nat) : Nat := (bankValves m).foldl (fun a n => a + s.vlvDemand n) 0

/-- BLIM in 1/64 LSB: 0.25 A is 2^14 LSB. -/
def State.blim (s : State) (m : Nat) : Nat := s.fld (VLV_BCFG_BLIM m) * 2 ^ 20

/-- The new or waiting request of a valve asks for a peak. -/
def State.vlvPeak (s : State) (n : Nat) : Bool := let v := s.vv n; if v.setiWait then v.own && v.rise else v.peak

/-- The bank demand with the waiting or new request of a valve. -/
def State.demandWith (s : State) (n : Nat) : Nat :=
  let v := s.vv n
  s.bankDemand (n / 4) - s.vlvDemand n +
    (if s.vlvPeak n then s.fld (VLV_VPK_IPK n) * 64
     else if v.setiWait then Nat.max v.hold v.setiTo * (64 + v.dAmp) else v.hold * (64 + s.dampOf n))

/-! ### Completions -/

/-- The open ENERGISE or RUN of a valve; an open descriptor of one opcode. -/
def State.vlvOpen (s : State) (n : Nat) : Option Desc :=
  s.descs.find? (fun d => decide (d.eng = 4 ∧ d.target = n ∧ d.phase = .running ∧ (d.opcode = 1 ∨ d.opcode = 4)))
def State.vlvWith (s : State) (n op : Nat) : Option Desc :=
  s.descs.find? (fun d => decide (d.eng = 4 ∧ d.target = n ∧ d.phase = .running ∧ d.opcode = op))

/-- A DONE completion of a request, or DEFERRED with the delay (R229, R230, R242). -/
def State.vlvEnd (s : State) (d : Desc) (late : Option Nat) (detail : Nat) : State :=
  match late with
  | some u => s.finish d stDeferred (satTo 4095 u)
  | none => s.finishDone d detail

/-- The open ENERGISE or RUN completes. -/
def State.vlvDone (s : State) (n : Nat) : State :=
  match s.vlvOpen n with
  | some d => s.vlvEnd d (s.vv n).late (s.vv n).tpk
  | none => s

/-- Every open descriptor of a valve completes with a status, the provisional included. -/
def State.vlvCut (s : State) (n st detail : Nat) : State :=
  (s.each (s.descs.filter (fun d => decide (d.eng = 4 ∧ d.target = n ∧ d.phase = .running)))
    (fun d s => s.finish d st detail)).provEnd 4 n st detail none

/-- Every open descriptor of a valve superseded by one that acts (R112, R122). -/
def State.vlvSupersede (s : State) (n : Nat) : State :=
  (s.each (s.descs.filter (fun d => decide (d.eng = 4 ∧ d.target = n ∧ d.phase = .running)))
    (fun d s => s.finish d stSuperseded 0)).provEnd 4 n stSuperseded 0 (some SEQ_PCNT1_PSUP)

/-! ### Changes of state -/

/-- A SETI that finds its valve out of HOLD before its end. DESIGN CHOICE: it completes BAD_TARGET with detail 1, as one that comes
after it would (R238). -/
def State.setiDrop (s : State) (n : Nat) : State :=
  match s.vlvWith n 3 with
  | some d => s.finish d stBadTarget 1
  | none => s

/-- A valve forgets its waiting request and its ramp. -/
def State.vlvForget (s : State) (n : Nat) : State :=
  s.modVv n (fun v => { v with wait := false, setiWait := false, ramping := false, noLimit := false, ran := false, dNext := none })

/-- A valve reaches OFF (R225, R238): a RELEASE completes, and the bank may open. -/
def State.vlvToOff (s : State) (n : Nat) : State :=
  let ends := (s.vv n).ends
  ((s.setVst n 0).setOval (vlvOut n) 0).vlvForget n
    |>.setFld (VLV_VSTAT_PREMAG n) 0
    |>.modVv n (fun v => { v with ends := false, premag := false })
    |> fun s => (match s.vlvWith n 2 with
        | some d => s.finishDone d 0
        | none => s)
    |> fun s => (match s.vlvOpen n, ends with
        | some d, true => s.vlvEnd d (s.vv n).late (s.vv n).tpk
        | _, _ => s)
    |>.bankRest (n / 4)

/-- The peak slot leaves a valve. -/
def State.vlvUnslot (s : State) (n : Nat) : State :=
  s.setSlots (n / 4) ((s.vb (n / 4)).slots.filter (fun k => decide (k ≠ n)))

/-- A valve is turned off into a state, through the clamp or the freewheel (R225). -/
def State.vlvDown (s : State) (n v : Nat) (clamp : Bool) : State :=
  ((s.setVst n v).setOval (vlvOut n) 0).vlvUnslot n
    |>.vlvForget n
    |>.setFld (VLV_VSTAT_PREMAG n) 0
    |>.modVv n (fun x => { x with clamp := clamp, loop := 0 })

/-- The clamp as QUENCH asks for it. -/
def State.quenchOf (s : State) (n : Nat) : Bool := decide (((s.vv n).quench).getD (s.fld (VLV_VCFG_QUENCH n)) % 2 = 1)

/-- The setpoint of a valve reaches its output once its bank node is ready (R220). -/
def State.vlvShow (s : State) (n v : Nat) : State :=
  s.when (s.vb (n / 4)).ready (fun s => (s.setOval (vlvOut n) v).modVv n (fun x => { x with loop := v }))

/-- The open request of a valve that holds its setpoint: an ENERGISE without a duration completes, and so does a program that has
stopped (R238). -/
def State.vlvHeld (s : State) (n : Nat) : State :=
  match s.vlvOpen n with
  | some d =>
    if (s.vv n).threaded then s.when (s.vv n).want (fun s => s.vlvDone n)
    else if d.opcode = 1 ∧ bitsOf d.w3.toNat 15 0 = 0 then s.vlvDone n else s
  | none => s

/-- A valve enters HOLD (R222, R223, R224, R238, R243): its dither starts at zero and rising. -/
def State.vlvHold (s : State) (n : Nat) : State :=
  let s := ((s.setVst n 4).vlvUnslot n).ditherTake n 0
  ((s.vlvShow n (s.vv n).hold).vEvt n 0).seqEvent (vlvOut n) 3 |>.vlvHeld n

/-- A request starts (R229): its valve enters PEAK or HOLD. `late`: later than its apply time. -/
def State.vlvStart (s : State) (n : Nat) (late : Bool) : State :=
  let v := s.vv n
  let m := n / 4
  let hot := decide (s.vst n = 5 ∨ s.vst n = 4) || s.on (VLV_VSTAT_PREMAG n)
  let u := (s.ztNs - v.since) / 1000
  let pk := s.vlvPeak n
  let s := s.modVv n (fun v => { v with
      wait := false, noLimit := false, begun := true, ran := false, tpk := 0, hot := hot, premag := false,
      hold := if v.setiWait then v.setiTo else v.hold, setiWait := false, ramping := false, dNext := none,
      late := if late && !v.begun then some u else v.late })
    |>.setFld (VLV_VSTAT_PREMAG n) 0
    |>.bankClose m
    |>.when (late && !v.begun) (fun s => s.vEvt n 2)
  if pk then
    let busy := !(s.vb m).slots.isEmpty
    (s.setVst n 3).setSlots m ((s.vb m).slots.filter (fun k => decide (k ≠ n)) ++ [n])
      |>.vlvShow n (s.fld (VLV_VPK_IPK n))
      |>.when busy (fun s => (s.bEvt m 2).raise VLV_FLAG_OVLP |>.count (VLV_BCNT_OVLPS m))
  else s.vlvHold n

/-- A change of setpoint in HOLD starts (R224): a SETI, or an open request's. A change without a ramp is taken up by the next carrier
period (R106). -/
def State.setiStart (s : State) (n : Nat) (late : Bool) : State :=
  let v := s.vv n
  let l := if late then some ((s.ztNs - v.since) / 1000) else none
  let s := s.modVv n (fun v => { v with
      setiWait := false, setiFrom := v.hold, setiN := 0, ramping := decide (v.setiMs ≠ 0),
      setiLate := if v.own then v.setiLate else l, late := if v.own && !v.begun then l else v.late, begun := v.begun || v.own })
    |>.when late (fun s => s.vEvt n 2)
  if v.setiMs ≠ 0 then s
  else
    let s := s.modVv n (fun v => { v with hold := v.setiTo, dNext := some v.setiTo })
    if v.own then s.vlvHeld n
    else
      match s.vlvWith n 3 with
      | some d => s.vlvEnd d l 0
      | none => s

/-- The slot and BLIM let a valve's request start now; a change that does not raise the demand waits for nothing. -/
def State.vlvFits (s : State) (n : Nat) : Bool :=
  let v := s.vv n
  (decide (s.demandWith n ≤ s.blim (n / 4)) || (v.setiWait && !s.vlvPeak n && decide (v.setiTo ≤ v.hold)))
    && (!s.vlvPeak n || (s.vb (n / 4)).slots.isEmpty)

/-- The start of a valve's request. -/
def State.vlvBegin (s : State) (n : Nat) (late : Bool) : State :=
  if (s.vv n).setiWait && !s.vlvPeak n then s.setiStart n late else s.vlvStart n late

/-- A valve of the bank with a waiting request. -/
def State.vlvWaits (s : State) (n : Nat) : Bool := ((s.vv n).wait && decide (s.vst n = 2)) || ((s.vv n).setiWait && decide (s.vst n = 4))

/-- A valve placed by apply time and then by number. -/
def State.byApply (s : State) (n : Nat) (l : List Nat) : List Nat :=
  match l with
  | [] => [n]
  | x :: t => if (s.vv x).since ≤ (s.vv n).since then x :: s.byApply n t else n :: l

/-- The waiting requests of a bank in the order of R230. -/
def State.waiters (s : State) (m : Nat) : List Nat :=
  ((bankValves m).filter s.vlvWaits).foldl (fun l n => s.byApply n l) []

/-- The waiting requests of a bank taken when the slot frees or BLIM makes room (R230). -/
def State.vlvTake (s : State) (m : Nat) : State :=
  if 2 ≤ s.bst m then s
  else s.each (s.waiters m) (fun n s => if s.vlvWaits n && s.vlvFits n then s.vlvBegin n true else s)

/-- A valve is de-energised (R225). -/
def State.vlvDecay (s : State) (n : Nat) (clamp : Bool) : State :=
  match s.vst n with
  | 1 => (s.vlvDown n 5 clamp).vlvTake (n / 4)
  | 2 => (s.vlvDown n 2 clamp).vlvToOff n
  | 3 => ((s.setiDrop n).vlvDown n 5 clamp).vlvTake (n / 4)
  | 4 => ((s.setiDrop n).vlvDown n 5 clamp).vlvTake (n / 4)
  | 5 => s.modVv n (fun v => { v with clamp := v.clamp || clamp })
  | 6 => s.modVv n (fun v => { v with wait := false })
  | _ => s

/-- A request refused (R229): OVERLAP_REFUSED with its detail. A refused thread stops with D = 0 (R230). DESIGN CHOICE: a refused
change of an ENERGISE on a valve in HOLD leaves the valve at its setpoint, as a refused SETI does. -/
def State.vlvRefuse (s : State) (n : Nat) : State :=
  let v := s.vv n
  let m := n / 4
  let busy := s.vlvPeak n && !(s.vb m).slots.isEmpty
  let det := b2n busy + 2 * b2n (decide (s.blim m < s.demandWith n)) + 4 * (if busy then s.fld (VLV_BSTAT_PKVAL m) else 0)
  let s := (s.raise VLV_FLAG_OVREF).count (VLV_BCNT_OVREFS m) |>.bEvt m 1 |>.vEvt n 1
  if v.setiWait && !v.own then
    (s.modVv n (fun v => { v with setiWait := false })) |> fun s => match s.vlvWith n 3 with
      | some d => s.finish d 0o20 det
      | none => s
  else
    let s := (match s.vlvOpen n with
      | some d => s.finish d 0o20 det
      | none => s).when v.byThread (fun s => s.stopThread (vlvOut n))
    if !v.setiWait then s.vlvToOff n
    else if v.byThread then s.vlvDecay n (s.quenchOf n)
    else s.modVv n (fun v => { v with setiWait := false })

/-- A new request at its apply time (R229): it starts, waits, or is decided on this tick. A start that lowers the demand makes
room for others (R230). -/
def State.vlvRequest (s : State) (n : Nat) : State :=
  let v := s.vv n
  let m := n / 4
  if s.bst m = 2 then (s.modVv n (fun v => { v with wait := true })).setVst n 6
  else if s.vlvFits n then (s.vlvBegin n false).vlvTake m
  else if v.tdef = 0 then
    if v.must && decide (s.demandWith n ≤ s.blim m) then s.vlvBegin n false else s.vlvRefuse n
  else if v.setiWait then s
  else (s.bankClose m).modVv n (fun v => { v with wait := true }) |>.setVst n 2

/-- The waiting request's deadline (R229). -/
def State.vlvDeadline (s : State) (n : Nat) : State :=
  let v := s.vv n
  if s.vlvWaits n && !v.noLimit then
    if s.vlvFits n then s.vlvBegin n true
    else if v.must && decide (s.demandWith n ≤ s.blim (n / 4)) then s.vlvBegin n true
    else s.vlvRefuse n
  else s

/-! ### Protection (R226, R227, R231 to R233) -/

/-- A latch of a valve: cause 1 short, 2 coil. -/
def State.vlvLatch (s : State) (n cause st detail : Nat) : State :=
  (s.protEvent (vlvOut n)).vlvDown n 8 true
    |>.setFld (VLV_VSTAT_LCAUSE n) cause
    |>.vEvt n 9
    |>.vlvCut n st detail
    |>.vlvTake (n / 4)

/-- A thermal latch on a valve (R231). -/
def State.vlvThermSet (s : State) (n : Nat) : State :=
  if 7 ≤ s.vst n then s
  else
    ((s.protEvent (vlvOut n)).vlvDown n 7 true).vEvt n 4
      |>.vlvCut n 0o25 (s.vlvLat n)
      |>.vlvTake (n / 4)

def State.vlvThermRelease (s : State) (n : Nat) : State := if s.vst n = 7 ∧ s.vlvLat n = 0 then s.vlvToOff n else s

/-- A bank turned off (R231, R236): every valve that is not latched or fenced to DECAY through the clamp. -/
def State.bankOffTo (s : State) (m v detail : Nat) : State :=
  (s.protEvent (vhOut m)).each (bankValves m) (fun n s =>
      let st := s.vst n
      if 8 ≤ st then s
      else
        ((s.protEvent (vlvOut n)).vlvDown n 5 true).vlvCut n 0o26 detail)
    |>.setBst m v
    |>.setSlots m []

/-- A bank latch: cause 1 short, 2 overload, 3 wire. -/
def State.bankLatch (s : State) (m cause : Nat) : State :=
  ((s.bankOffTo m 4 cause).setFld (VLV_BSTAT_LCAUSE m) cause).bEvt m 7

def State.bankThermSet (s : State) (m : Nat) : State :=
  if 3 ≤ s.bst m then s else (s.bankOffTo m 3 4).bEvt m 3

/-- A bank whose latch, trip or fence has ended (R232, R233): LATCHED while a wire trip still holds (R174), THERM while a thermal
latch does (R167), UVOFF while its group is low, otherwise IDLE. -/
def State.bankToIdle (s : State) (m : Nat) : State :=
  let trip := s.wireTrip (vhOut m)
  (s.setFld (VLV_BSTAT_LCAUSE m) (if trip then 3 else 0)).setBst m
    (if trip then 4 else if s.bankLat m ≠ 0 then 3 else if s.on (VLV_BSTAT_UV m) then 2 else 0)

/-- A valve whose fence is released: OFF, or THERM while a thermal latch holds (R167, R236). -/
def State.vlvUnfence (s : State) (n : Nat) : State :=
  (s.setFld (VLV_VSTAT_LCAUSE n) 0).setVst n (if s.vlvLat n = 0 then 0 else 7)

def State.bankThermRelease (s : State) (m : Nat) : State := if s.bst m = 3 ∧ s.bankLat m = 0 then s.bankToIdle m else s

/-- A wire trip on a bank (R231). -/
def State.bankWireTrip (s : State) (m : Nat) : State := if 4 ≤ s.bst m then s else s.bankLatch m 3

end Sys2Proof.Machine
end

