-- ==== Sys2Proof/Machine/Fence.lean ====
section
/-! DEFINITION. What a fault record does beyond its log entry (R475 to R481): the fence of a unit, the reset of a domain,
the safe state; and the program fault of a thread (R113). -/

namespace Sys2Proof.Machine

/-! ### Units (R481) -/

/-- A unit that a fence holds. -/
inductive FUnit where
  | core (c : Nat)
  /-- system RAM bank 0-7, TCM 8-10 (R634) -/
  | mem (k : Nat)
  | slot (n : Nat)
  /-- an engine's target -/
  | target (e t : Nat)
  | psi (k : Nat)
  | adc (a : Nat)
  | chan (c : Nat)
  | port (p : Nat)
  | trng
  /-- the outputs of a die (R163) -/
  | die (d : Nat)
  /-- the group of an output whose thread faulted -/
  | group (n : Nat)
  deriving DecidableEq, Repr

/-- The key of a unit in the fence map: 256 times its block, plus its number; a slot is fenced by its EN, a group by
FROZEN. -/
def FUnit.key (u : FUnit) : Nat :=
  match u with
  | .core c => c
  | .mem k => 2 * 256 + k
  | .slot n => 3 * 256 + n
  | .target e t => engBlock e * 256 + t
  | .psi k => 10 * 256 + 32 + k
  | .adc a => 10 * 256 + a
  | .chan c => 11 * 256 + c
  | .port p => 13 * 256 + p
  | .trng => 14 * 256 + 255
  | .die d => 5 * 256 + 200 + d
  | .group n => 6 * 256 + n

/-- A unit that is fenced. -/
def State.unitFenced (s : State) (u : FUnit) : Bool := bGet s.flt.fenced u.key

/-- The target of an engine that a PROVLEAK instance names (R636). -/
def State.leakUnit (s : State) (i : Nat) : FUnit :=
  if i < 128 then .target (s.tgtOf i).1 (s.tgtOf i).2
  else if i < 132 then .target 6 (i - 128)
  else if i < 140 then .target 5 (24 + (i - 132))
  else .target 5 (32 + (i - 140))

/-- The unit that a record of a class and instance names, if any (R475, R481, R634, R636, R637). -/
def State.unitOf (s : State) (b k i : Nat) : Option FUnit :=
  match b with
  | 0 => if (k = 2 ∨ k = 3 ∨ k = 5) ∧ i < 2 then some (.core i) else none
  | 2 => if k ≤ 4 ∧ i < 11 then some (.mem i) else none
  | 3 => if k = 4 ∨ k = 5 then some (.slot i) else none
  | 4 => if i < 64 then some (.target 2 (s.hscOf i)) else none
  | 5 => if k ≤ 4 ∧ i < 128 then some (.target (s.tgtOf i).1 (s.tgtOf i).2) else if k = 5 then some (.die (i / 4)) else none
  | 6 => if k = 2 then some (.group i) else if k = 3 then some (s.leakUnit i) else none
  | 7 => if k ≠ 7 ∧ i < 28 then some (.target 3 i) else none
  | 8 => if i < 20 then some (.target 4 i) else none
  | 9 => if i < 34 then some (.target 5 i) else none
  | 10 => if k = 1 then some (.adc i) else if k = 4 then some (.psi i) else none
  | 11 => if k = 7 then some (.chan (chOf i)) else if k ≤ 6 then some (.chan i) else if k = 8 ∧ i ≠ 0 then some (.chan i) else none
  | 12 => if (k = 5 ∨ k = 6) ∧ i < 8 then some (.port i) else none
  | 13 => if k ≠ 3 ∧ i < 8 then some (.port i) else none
  | 14 => if k ≤ 5 ∧ i < 4 then some (.target 6 i) else if k = 7 then some .trng else none
  | _ => none

/-! ### The fence of a unit -/

/-- Every accepted descriptor of a target completes FENCED. -/
def State.fenceDescs (s : State) (e t : Nat) : State := s.finishAll (fun d => decide (d.eng = e ∧ d.target = t)) stFenced

/-- The thread of a target stopped, and its provisional mark cleared. -/
def State.fenceThread (s : State) (e t : Nat) : State :=
  match outOf e t with
  | some n => (s.stopThread n).setOval n 0
  | none => s

/-- A channel, target, valve, bank, sink, loop, chain or LF channel held off. -/
def State.fenceTarget (s : State) (e t : Nat) : State :=
  match e with
  | 2 => (s.hscFinish t stFenced 0).hscOffAs t 8 |>.fenceDescs 2 t |>.fenceThread 2 t
  | 3 =>
    (s.motCut t stFenced 0).setMst t 9 |>.setMdir t 0 |>.modMt t (fun m => { high := m.high }) |>.fenceDescs 3 t |>.fenceThread 3 t
  | 4 =>
    if t < 16 then (s.vlvDown t 9 true).vlvCut t stFenced 0 |>.fenceDescs 4 t |>.fenceThread 4 t |>.vlvTake (t / 4)
    else (s.bankOffTo (t - 16) 5 5).fenceDescs 4 t
  | 5 =>
    if t < 24 then ((s.luxDown t 5).luxCut t stFenced 0).fenceDescs 5 t |>.fenceThread 5 t |>.loopLost t stFenced
    else if t < 32 then (s.fenceDescs 5 t).loopOff (t - 24)
    else (s.fenceDescs 5 t).pxStop (t - 32)
  | 6 => s.lfFence t
  | _ => s

/-- A group frozen by a program fault of output `n` (R113): the other outputs hold the D of the last frame boundary, and
their threads are suspended. DESIGN CHOICE: in a group that has had no frame boundary they hold 0. -/
def State.freezeGroup (s : State) (n : Nat) : State :=
  let g := s.grp n
  (s.setFld (SEQ_GCTL_FROZEN g) 1).each ((List.range 128).filter (fun m => decide (s.grp m = g ∧ m ≠ n))) (fun m s =>
    let s := s.setOval m (s.thr m).dEdge
    if s.thrLive m then (s.modThr m (fun t => { t with susp := s.thrSt m })).setThrSt m 6 else s)

/-- The targets of some outputs fenced, each under its own key; `last`: until a reset. -/
def State.fenceOutputs (s : State) (l : List Nat) (last : Bool) : State :=
  s.each l (fun o s =>
    let u := FUnit.target (s.tgtOf o).1 (s.tgtOf o).2
    if s.unitFenced u then s
    else ((s.fenceTarget (s.tgtOf o).1 (s.tgtOf o).2).markFenced u.key).modFlt (fun x =>
      { x with fenced := bPut x.fenced (2 ^ 16 + u.key) last }))

/-- The action of a fence on its unit. -/
def State.fenceUnit (s : State) (u : FUnit) : State :=
  match u with
  | .core c => s.modCore c (fun x => { x with run := .fenced })
  | .mem k => s.memFence k
  | .slot n => s.setFld (RNG_SCTL_EN n) 0
  | .target e t => s.fenceTarget e t
  | .psi k => s.psOff k
  | .adc a => (s.adcFail a).fenceOutputs (if a < 8 then (List.range 128).filter (fun o => decide (o % 8 = a)) else []) true
  | .die d => s.fenceOutputs ((List.range 128).filter (fun o => decide (dieOf o = d))) true
  | .chan c => s.netFence c
  | .port p => s.ethFence p
  | .trng => s
  | .group n => s.freezeGroup n

/-- A fence that lasts until a reset (R481): memory, ADCs, and a target whose channel sensor failed. -/
def fenceLasts (b k : Nat) (u : FUnit) : Bool :=
  match u with
  | .mem _ => true
  | .adc _ => true
  | .die _ => true
  | _ => decide (b = 5 ∧ k = 4)

/-- A unit fenced by a record of a class, with the FENCE trace record; a unit that is fenced already stays so. -/
def State.fence (s : State) (b k i : Nat) (u : FUnit) : State :=
  if s.unitFenced u then s
  else
    s.fenceUnit u
      |>.when (match u with | .slot _ => false | _ => true) (fun s => s.markFenced u.key)
      |>.modFlt (fun x => { x with fenced := bPut x.fenced (2 ^ 16 + u.key) (fenceLasts b k u) })
      |>.when (decide (b = 6 ∧ k = 3)) (fun s => s.modFlt (fun x => { x with fenced := bPut x.fenced (2 ^ 17 + i) true }))
      |>.fenceNote b i

/-! ### Resets and the safe state -/

/-- FLT_DEEP holds the last L3 or L4; CNT counts the entries into the safe state. -/
def State.deep (s : State) (b k i lv : Nat) : State :=
  s.setFld FLT_DEEP0_BLOCK b
    |>.setFld FLT_DEEP0_CLASS k
    |>.setFld FLT_DEEP0_LEVEL lv
    |>.when (decide (lv = 4) && !s.flt.safe) (fun s => s.count FLT_DEEP0_CNT)
    |>.setReg rFLT_DEEP1 (i % 256)
    |>.setReg rFLT_DEEP2 (s.rtcSec / 65536)
    |>.setReg rFLT_DEEP3 (s.rtcSec % 65536)

/-- Outputs follow the D that reaches their stages (R21, R313), and so their states act as their chapters say; a channel that latches
at it is recorded by `note`. -/
def State.follow (s : State) (l : List Nat) (note : Nat → State → State) : State :=
  s.each l (fun n s =>
    if n < 64 then (let t := s.hscFollow n; t.when (decide (t.hst n = 7 ∧ s.hst n ≠ 7)) (note n))
    else if n < 80 ∨ 124 ≤ n then s.motFollow (s.tgtOf n).2
    else if 100 ≤ n then s.luxFollow (n - 100)
    else s)

/-- The outputs whose stages the map drives. -/
def State.mapped (s : State) : List Nat := (List.range 128).filter s.mapDrives

/-- The map engages with a set of causes; D shown now is held for the outputs of mode 11. -/
def State.limpEngage (s : State) (causes : Nat) : State :=
  (if causes = 0 ∨ s.on INP_LHSTAT_ENG then s.setFld INP_LHSTAT_CAUSE (if s.on INP_LHSTAT_ENG then causes else s.fld INP_LHSTAT_CAUSE)
  else
    (s.setFld INP_LHSTAT_ENG 1).setFld INP_LHSTAT_CAUSE causes
      |>.raise INP_FLAG_LHENG
      |>.traceA 10 3 2 0 s.faultTime.1
      |>.modInp (fun x => { x with
          mapHold := ((List.range 128).filter (fun n => decide (s.fld (INP_LHM_MODE n) = 3))).foldl
            (fun m n => nPut m n (s.fld (SEQ_OVAL_D n))) [] })
      |>.logRecord 10 6 0 false)
    |> fun s => s.follow s.mapped (fun n s => s.logRecord 4 3 n false)

/-- The safe state of an L4 (R477). -/
def State.safeState (s : State) : State :=
  if s.flt.safe then s
  else
    (s.modFlt (fun x => { x with safe := true })).setFld FLT_FLTN_L4S 1
      |>.driveFltn
      |> fun t => (t.limpEngage t.limpCauses)
      |>.traceA 15 3 1 0 s.faultTime.1
      |>.finishAll (fun _ => true) stFenced
      |>.brYield 1
      |>.each [0, 1, 2] (fun c s => s.modCore c (fun x => { x with run := .reset }))
      |>.each netChans (fun c s => if s.domOn .net then s.setTcvr c 1 else s)

/-- What the level of a record does beyond the log and the fence: the reset of its domain at L3, the safe state at L4
(R475, R476). -/
def State.levelAct (s : State) (b k i lv : Nat) : State :=
  if lv ≤ 2 then s
  else if lv = 3 then (s.deep b k i 3).domReset (recDom b k i)
  else (s.deep b k i 4).safeState

/-- A fault record at a table level, with all it does (R475). -/
def State.recordAt (s : State) (b k i t : Nat) : State :=
  let lv := s.recLevelAt b k i t
  let u := if classLevel b k ≤ 2 ∧ 2 ≤ lv then s.unitOf b k i else none
  let fnc := match u with
    | some u => !s.unitFenced u
    | none => false
  let s := s.logRecAt b k i t fnc
  (match u with
    | some u => s.fence b k i u
    | none => s).levelAct b k i lv

/-- A fault record at its class's table level. -/
def State.record (s : State) (b k i : Nat) : State := s.recordAt b k i (classLevel b k)

/-! ### Threads -/

/-- An output set to off by its SAFE value (R113). -/
def State.outputOff (s : State) (n : Nat) : State :=
  match s.tgtOf n with
  | (2, t) => s.hscOffAs (s.hscOf t) (if 7 ≤ s.hst (s.hscOf t) then s.hst (s.hscOf t) else if s.mapDrives t then s.hst t else 0) |>.setOval n 0
  | (3, t) => if s.mst t = 3 then s.motBrake t else if s.mst t = 1 then s.setMst t 0 else s.motApply t 0
  | (4, t) => if t < 16 then s.vlvDecay t false else s
  | (5, t) => s.luxApply t 0 true
  | _ => s.setOval n 0

/-- The open descriptor of an output's target completed FENCED. -/
def State.outputFenced (s : State) (n : Nat) : State :=
  match s.tgtOf n with
  | (2, t) => s.hscFinish (s.hscOf t) stFenced 0
  | (e, t) => s.finishAll (fun d => decide (d.eng = e ∧ d.target = t ∧ d.phase = .running)) stFenced

/-- A program fault (R113): the thread stops in state faulted, its output goes to its SAFE value, its open descriptor
completes FENCED, and SEQPROG freezes its group. -/
def State.progFault (s : State) (n cause : Nat) : State :=
  ((s.stopThread n).setThrSt n 5).outputFenced n
    |>.when (!s.on (SEQ_OCFG_SAFE n)) (fun s => s.outputOff n)
    |>.when (decide (s.fld SEQ_FAULT_CAUSE = 0)) (fun s => (s.setFld SEQ_FAULT_CAUSE cause).setFld SEQ_FAULT_OUT n)
    |>.raise SEQ_FLAG_PFAULT
    |>.record 6 2 n

/-- An engine starts an entry whose VALID bit is 1 (R108): a program fault with cause ECC on an uncorrectable word (R635), with
cause RESERVED when bits 16:13 are not 0, with cause ADDRESS when the start lies outside the slot and the library; otherwise the
thread starts. -/
def State.launch (s : State) (n e q0 q1 q2 : Nat) : State :=
  let w := s.entryWord n e
  if s.entryBad n e then s.progFault n 6
  else if bitsOf w 16 13 ≠ 0 then s.progFault n 2
  else if !inSlot n (bitsOf w 12 0) then s.progFault n 5
  else s.startThread n (bitsOf w 12 0) q0 q1 q2

/-- An access that reached a reserved address or an off domain sets the flag of the writer's ICU (R61, R18) and records
IOREF (R585). -/
def State.ioFlag (s : State) (c : Nat) (rsv : Bool) (a : Nat) : State :=
  (if rsv then (s.when (!s.on (ICU_FLAG_RSVACC c)) (fun s => s.setReg (rICU_RSVA c) a)).raise (ICU_FLAG_RSVACC c)
   else (s.setReg (rICU_DOMA c) a).raise (ICU_FLAG_DOMOFF c)).record 0 5 c

end Sys2Proof.Machine
end

