-- ==== Sys2Proof/Machine/Ready.lean ====
section
/-! DEFINITION. The answers of the actuators' agents to a COMMIT, and the actions that they refuse while they keep a ready
answer true (R86, R449). -/

namespace Sys2Proof.Machine

/-! ### Answers (R86, R88) -/

/-- The cause with which the HSC agent refuses a COMMIT (R129, R157). -/
def State.hscCommitRefuse (s : State) : Option Nat :=
  if [0, 2, 4, 6].any (fun n => decide (s.fldNext (HSC_CFG_PAR n) ≠ s.fld (HSC_CFG_PAR n)) &&
      !(decide (s.hst n = 0 ∧ s.hst (n + 1) = 0) && s.thrStopped n && s.thrStopped (n + 1))) then some 1
  else if (List.range 64).any (fun n => decide ((s.fldNext (HSC_CFG_LOAD n) ≠ s.fld (HSC_CFG_LOAD n) ∨
      s.fldNext (HSC_CFG_FINE n) ≠ s.fld (HSC_CFG_FINE n)) ∧ s.hst n ≠ 0)) then some 2 else none

/-- The cause with which the SEQ agent refuses a COMMIT (R105). -/
def State.seqCommitRefuse (s : State) : Option Nat :=
  if (List.range 128).any (fun n => s.moves (SEQ_OCFG_GRP n) && !s.thrStopped n) then some 4 else none

/-- The cause with which the MOT agent refuses a COMMIT (R185, R217). -/
def State.motCommitRefuse (s : State) : Option Nat :=
  if (List.range 8).any (fun k => decide (s.fldNext (MOT_HCFG_PAIR (2 * k)) ≠ s.fld (MOT_HCFG_PAIR (2 * k))) &&
      !(decide (s.fld (MOT_HSTAT_STATE (2 * k)) = 0 ∧ s.fld (MOT_HSTAT_STATE (2 * k + 1)) = 0) &&
        s.thrStopped (64 + 2 * k) && s.thrStopped (65 + 2 * k))) then some 3
  else if (List.range 16).any (fun h => decide ((s.fldNext (MOT_HCFG_EN h) ≠ s.fld (MOT_HCFG_EN h) ∨
      s.fldNext (MOT_HCFG_FPWM h) ≠ s.fld (MOT_HCFG_FPWM h)) ∧ s.mst (s.motOf h) ≠ 0)) then some 4
  else if (List.range 4).any (fun g => decide ((s.fldNext (MOT_GCFG_EN g) ≠ s.fld (MOT_GCFG_EN g) ∨
      s.fldNext (MOT_GCFG_FPWM g) ≠ s.fld (MOT_GCFG_FPWM g)) ∧ s.mst (24 + g) ≠ 0) || !s.zonesRise g) then some 4 else none

/-- The cause with which the VLV agent refuses a COMMIT (R244). -/
def State.vlvCommitRefuse (s : State) : Option Nat :=
  if (List.range 16).any (fun n => decide (s.vst n ≠ 0 ∧ (s.fldNext (VLV_VCFG_EN n) ≠ s.fld (VLV_VCFG_EN n) ∨
        s.fldNext (VLV_VCFG_MODE n) ≠ s.fld (VLV_VCFG_MODE n) ∨ s.fldNext (VLV_VPK_IPK n) ≠ s.fld (VLV_VPK_IPK n)))) ||
      (List.range 4).any (fun m => decide (s.bst m ≠ 0 ∧ (s.fldNext (VLV_BCFG_EN m) ≠ s.fld (VLV_BCFG_EN m) ∨
        s.fldNext (VLV_BCFG_BLIM m) ≠ s.fld (VLV_BCFG_BLIM m)))) then some 3
  else none

/-- The sink of a drive channel after the commit. -/
def State.loopSinkN (s : State) (k c : Nat) : Nat :=
  match c with
  | 0 => s.fldNext (LUX_CCFG_SR k)
  | 1 => s.fldNext (LUX_CCFG_SG k)
  | _ => s.fldNext (LUX_CCFG_SB k)

/-- A loop that the commit would enable although R259 forbids it. -/
def State.loopBad (s : State) (k : Nat) : Bool :=
  let own := [s.loopSinkN k 0, s.loopSinkN k 1, s.loopSinkN k 2]
  decide (s.fldNext (LUX_CCFG_EN k) ≠ 0) && !s.on (LUX_CCFG_EN k) &&
    (decide (own.eraseDups.length < 3) ||
      own.any (fun n => decide (s.fldNext (LUX_LCFG_EN n) = 0 ∨ s.lst n ≠ 0)) ||
      (List.range 8).any (fun j => decide (j ≠ k ∧ s.fldNext (LUX_CCFG_EN j) ≠ 0) &&
        own.any (fun n => [s.loopSinkN j 0, s.loopSinkN j 1, s.loopSinkN j 2].contains n)))

/-- The cause with which the LUX agent refuses a COMMIT (R246, R259, R282). -/
def State.luxCommitRefuse (s : State) : Option Nat :=
  if (List.range 24).any (fun n => s.moves (LUX_LCFG_EN n) && decide (s.lst n ≠ 0)) ||
      (List.range 8).any (fun k => s.loopBad k || (s.on (LUX_CCFG_EN k) && decide (s.cst k ≠ 0) &&
        (s.moves (LUX_CCFG_SR k) || s.moves (LUX_CCFG_SG k) || s.moves (LUX_CCFG_SB k) || s.moves (LUX_CSNS_ADDR k) || s.moves (LUX_CSNS_PTR k)))) ||
      (List.range 2).any (fun c => (s.moves (LUX_PCFG_EN c) || s.moves (LUX_PCFG_NCFG c)) &&
        ((s.pch c).cur.isSome || s.descs.any (fun d => decide (d.eng = 5 ∧ d.target = 32 + c)))) then some 4
  else none

/-- The cause with which an actuator's agent refuses a COMMIT. -/
def State.actorRefuse (s : State) (b : Nat) : Option Nat :=
  match b with
  | 4 => s.hscCommitRefuse
  | 6 => s.seqCommitRefuse
  | 7 => s.motCommitRefuse
  | 8 => s.vlvCommitRefuse
  | 9 => s.luxCommitRefuse
  | _ => none

/-! ### Answers to ENTRY_REQ (R448) -/

/-- The cause with which the HSC agent refuses BEDDED. -/
def State.hscBedded (s : State) : Option Nat :=
  if (List.range 64).any (fun n => decide (1 ≤ s.hst n ∧ s.hst n ≤ 3)) then some 3
  else if (List.range 64).any (fun n => decide (4 ≤ s.hst n ∧ s.hst n ≤ 6)) then some 4 else none

/-- A TIMED descriptor waits for its deadline: an action, a preparation or a zone-time COMMIT (R125, R126). -/
def State.timedWaits (s : State) : Bool := s.descs.any (fun d => d.isTimed && decide (d.phase = .timed ∨ d.phase = .provWait))

/-- The cause with which the SEQ agent refuses BEDDED (R126). -/
def State.seqBedded (s : State) : Option Nat :=
  if s.descs.any (fun d => decide (d.phase = .prov ∨ d.phase = .provWait)) then some 1
  else if s.timedWaits then some 2
  else if (List.range 128).any (fun n => !s.thrStopped n) then some 3 else none

/-- A gate driver that counts ripples (R197): in its drive phase, in PINCH, and after it until the counting stops. -/
def State.motCounts (s : State) (g : Nat) : Bool := s.on (MOT_RCFG_RIPEN g) && (s.mt (24 + g)).counting

/-- The cause with which the MOT agent refuses BEDDED. -/
def State.motBedded (s : State) : Option Nat :=
  if s.motTargets.any (fun t => decide (1 ≤ s.mst t ∧ s.mst t ≤ 6)) then some 1
  else if (List.range 4).any s.motCounts then some 2 else none

/-- The cause with which the VLV agent refuses BEDDED (R247). -/
def State.vlvBedded (s : State) : Option Nat :=
  if (List.range 16).any (fun n => decide (1 ≤ s.vst n ∧ s.vst n ≤ 6)) then some 1
  else if (List.range 4).any (fun m => decide (s.bst m = 1)) then some 2
  else none

/-- The cause with which the LUX agent refuses BEDDED (R283). -/
def State.luxBedded (s : State) : Option Nat :=
  if (List.range 24).any (fun n => decide (1 ≤ s.lst n ∧ s.lst n ≤ 3)) then some 1
  else if (List.range 8).any (fun k => decide (s.cst k ≠ 0)) then some 2
  else if (List.range 2).any (fun c => (s.pch c).cur.isSome) || s.descs.any (fun d => decide (d.eng = 5 ∧ 32 ≤ d.target)) then some 3
  else none

/-- The refusal of an ENTRY_REQ by the ACC agent (R444). -/
def State.accEntry (s : State) (bedded : Bool) : Option Nat :=
  if bedded && (List.range 4).any (fun c => decide (1 ≤ s.lfState c ∧ s.lfState c ≤ 3)) then some 1
  else if s.acc.shadow.isSome then some 2
  else none

/-- The cause with which the agent of an actuator or of ACC refuses an entry. -/
def State.actorEntry (s : State) (bedded : Bool) (b : Nat) : Option Nat :=
  match b with
  | 4 => if bedded then s.hscBedded else none
  | 6 => if bedded then s.seqBedded else none
  | 7 => if bedded then s.motBedded else none
  | 8 => if bedded then s.vlvBedded else none
  | 9 => if bedded then s.luxBedded else none
  | 14 => s.accEntry bedded
  | _ => none

/-! ### Answers kept (R86, R449) -/

/-- A negotiation in which a block's agent has acknowledged (R449). -/
def State.acked (s : State) (b : Nat) : Bool := decide (s.fld PCR_ENTRY_PHASE = 1) && bitAt s.pw.acks b

/-- A state in which an agent that was ready for a waiting COMMIT is ready no longer, or one that has acknowledged an entry would
refuse it. -/
def State.breaksPromise (s t : State) : Bool :=
  let bedded := decide (s.pw.entry = some .bedded)
  [4, 6, 7, 8, 9, 14].any (fun b => s.acked b && (s.actorEntry bedded b).isNone && (t.actorEntry bedded b).isSome) ||
  s.rng.commits.any (fun e => (onesBelow 16 (s.fld (RNG_TXCLAIM_CLAIM e.1))).any (fun b => (s.actorRefuse b).isNone && (t.actorRefuse b).isSome))

/-- A confirmation that has completed without taking up what its provisional prepared: the preparation is undone (R120). -/
def State.unwarm (s : State) (d : Desc) (undo : State → State) : State := if d.warm && (s.descId d.id).isNone then undo s else s

/-- A descriptor's action that keeps every ready answer true. DESIGN CHOICE: one that would not is refused: the descriptor
completes DENIED with detail 0, and what its provisional prepared is undone. -/
def State.keepReady (s : State) (d : Desc) (undo f : State → State) : State :=
  let t := f s
  if s.breaksPromise t then (if d.warm then undo s else s).finish d stDenied 0 else t.unwarm d undo

/-- The confirmations that a descriptor supersedes as it acts: those accepted before it that it also would have matched and
that have not acted (R119). -/
def State.confSupersede (s : State) (d : Desc) : State :=
  s.finishAll (fun x => x.conf && decide (x.eng = d.eng ∧ x.target = d.target ∧ x.owner = d.owner ∧ x.tag = d.tag ∧ x.opcode = d.opcode
    ∧ x.id < d.id ∧ (x.phase = .timed ∨ x.phase = .ready))) stSuperseded

/-- A command acts on the accepted descriptor of a ring slot that waits for its action (`onReady`) and keeps every ready
answer true. -/
def State.actReady (s : State) (e op r i : Nat) (undo f : Desc → State → State) : State :=
  s.onReady e op r i (fun d s => s.keepReady d (undo d) (fun s => f d (s.confSupersede d)))

end Sys2Proof.Machine
end

