-- ==== Sys2Proof/Machine/Acc.lean ====
section
/-! DEFINITION. Access, immobiliser and physical presence (R415 to R444): the LF descriptors and the key protocol, key
slots and enrolment, the presence window, the key store and the crypto engines. -/

namespace Sys2Proof.Machine

/-! ### LF descriptors (R437, R438) -/

/-- The LF engine's judgement of a descriptor at its acceptance (R72, R437): a status and a detail, or none. -/
def State.lfJudge (s : State) (d : Desc) : Option (Nat × Nat) :=
  let o := d.opcode
  if 7 < o then some (stBadOpcode, 0)
  else if 3 < d.target then some (stBadTarget, 0)
  else if d.flags ≠ 0 ∨ (d.isProv && decide (o ≠ 1)) ∨ (d.isTimed && decide (o ≠ 0 ∧ o ≠ 1 ∧ o ≠ 4)) then
    some (stBadDesc, 0)
  else if (o = 1 ∧ 256 ≤ d.w2.toNat) ∨ ((o = 2 ∨ o = 3) ∧ 16 ≤ d.w2.toNat) ∨ ((o = 0 ∨ 3 < o) ∧ d.w2 ≠ 0) then some (stBadParam, 2)
  else if ((o = 1 ∨ o = 4) ∧ (d.w3.toNat < 50 ∨ 1000 < d.w3.toNat)) ∨ (o = 3 ∧ 65536 ≤ d.w3.toNat)
      ∨ ((o = 0 ∨ o = 2 ∨ 4 < o) ∧ d.w3 ≠ 0) then some (stBadParam, 3)
  else if (o = 1 ∧ d.isProv ∧ (d.tprov = 0 ∨ 500 < d.tprov)) ∨ (o = 1 ∧ !d.isProv ∧ d.tprov ≠ 0)
      ∨ (o = 3 ∧ 65536 ≤ d.w4.toNat) ∨ (o ≠ 1 ∧ o ≠ 3 ∧ d.w4 ≠ 0) then some (stBadParam, 4)
  else if s.lfState d.target = 6 then some (stFenced, 0)
  else if d.isProv && decide (2 ≤ s.lfState d.target) then some (stBadDesc, 0)
  else none

/-- A provisional of the channel superseded by a descriptor that acts (R122). -/
def State.lfSupersede (s : State) (c : Nat) : State := s.provEnd 6 c stSuperseded 0 (some SEQ_PCNT1_PSUP)

/-- SEARCH, LEARN and DIAG need a field. -/
def lfField (d : Desc) (s : State) : State := ((s.confSupersede d).lfSupersede d.target).lfStart d

/-- READPG and WRITEPG act in the open session of their channel (R438). -/
def lfAccess (d : Desc) (s : State) : State :=
  let c := d.target
  let s := s.lfSupersede c
  if (s.lf c).step ≠ .session ∨ s.acc.field ≠ some c then s.finish d 0o24 0
  else
    let page := d.w2.toNat
    let data := numBytes 2 d.w3.toNat ++ numBytes 2 d.w4.toNat
    s.startDesc d
      |>.lfSendMac c (if d.opcode = 2 then [0x56, page] else [0x57, page] ++ data)
      |>.modLf c (fun x => { x with step := if d.opcode = 2 then .read else .write, own := some d.id })

/-- CLEAR ends a short latch; THERM makes it STILL_ACTIVE, and a fence stays. -/
def lfClear (d : Desc) (s : State) : State :=
  let c := d.target
  if s.isFenced 14 c then s.finish d stFenced 0
  else if (s.lf c).therm then s.finish d 0o35 0
  else (s.modLf c (fun x => { x with latched := false })).finishDone d 0

/-- END: SLEEP, the carrier off, DONE. A search or learning that the field carried ends ABORTED. -/
def lfEndCmd (d : Desc) (s : State) : State :=
  let c := d.target
  (s.lfSupersede c).when (decide (s.acc.field = some c)) (fun s => s.lfSleep c stAborted 0)
    |>.finishDone d 0

/-! ### The key protocol (R419 to R425) -/

/-- A TRNG value of `n` bytes, as a number; the caller advances the free sequence. -/
def State.rand (s : State) (n : Nat) : Nat := bytesNum (s.freeBytes n)

/-- A failed attempt recorded (R424, R443). -/
def State.keyFailed (s : State) (c : Nat) : State :=
  (s.lfEvt c 2).raise ACC_FLAG_AUTHF |>.record 14 5 c

/-- The status and detail of a channel's search or learning that fails for good. -/
def State.lfFail (s : State) (c st : Nat) : State := s.lfSleep c st (if st = 0o22 then (s.lf c).attempts else 0)

/-- A failed attempt of a winner: QUIET with its ID, WAKE without a preamble, and another arbitration, or the end of the
search at the fourth. A LEARN ends at once. -/
def State.lfRetry (s : State) (c : Nat) : State :=
  let s := (s.keyFailed c).modLf c (fun x => { x with attempts := x.attempts + 1 })
  let x := s.lf c
  let isLearn := (s.lfOwner c).any (fun d => decide (d.opcode = 4))
  if isLearn ∨ 4 ≤ x.attempts then s.lfFail c 0o22
  else
    (s.lfSend c (0x53 :: numBytes 4 x.id)).modLf c (fun x => { x with quieted := x.quieted ++ [x.id], stale := false })
      |>.lfWake c

/-- The slots a search may use (R424): enrolled slots of its mask. -/
def State.searchSlot (s : State) (d : Desc) (id : Nat) : Option Nat :=
  let m := d.w2.toNat
  (List.range 8).find? (fun k => decide ((s.keySlot k).st = .enrolled ∧ (s.keySlot k).id = id) && (decide (m = 0) || bitAt m k))

/-- The secret with which LEARN authenticates a key (R428): its secret of the shadow, or the transport key. -/
def State.learnKey (s : State) (id : Nat) : Option Nat :=
  let old := s.acc.shadow.bind (fun m => (m.find? (fun e => decide (e.2.id = id ∧ e.2.st ≠ .empty))).map (fun e => e.2.secret))
  match old with
  | some k => some k
  | none => (s.keyEntry 12).map (fun root =>
      bytesNum (aesEnc (numBytes 16 root) (numBytes 4 id ++ numBytes 4 id ++ numBytes 4 id ++ numBytes 4 id)))

/-- CHALLENGE with a random RB (R422); a fenced TRNG gives none (R435). -/
def State.lfChallenge (s : State) (c id slot key : Nat) : State :=
  if s.trngFenced then s.lfFail c 0o36
  else
  s.drewN 8
    |>.modLf c (fun x => { x with step := .challenge, id := id, slot := slot, key := key, rb := s.rand 8, stale := false })
    |>.lfSend c (0x54 :: numBytes 8 (s.rand 8))

/-- A winner of the arbitration (R423, R424). -/
def State.lfWinner (s : State) (c id : Nat) : State :=
  let s := s.modLf c (fun x => { x with id := id, heard := true })
  if (s.lf c).quieted.contains id then s.lfFail c 0o21
  else
    match s.lfOwner c with
    | none => s
    | some d =>
      if d.opcode = 4 then
        if (List.range 8).any (fun k => decide ((s.keySlot k).st = .enrolled ∧ (s.keySlot k).id = id)) then s.lfFail c 0o34
        else
          match s.learnKey id with
          | some key => s.lfChallenge c id 8 key
          | none => s.lfRetry c
      else
        match s.searchSlot d id with
        | some k => s.lfChallenge c id k (s.keySlot k).secret
        | none => s.lfRetry c

/-- The offset of an answer from its expected instant in ticks; a timing failure is ignored (R421). -/
def lfLate (ofs : BitVec 32) : Bool := decide (160 < ofs.toInt.natAbs)

/-- The offset shown in ACC_LFRSP, saturating; a timing failure sets RELAY and records LFRELAY. -/
def State.lfAnswer (s : State) (c : Nat) (ofs : BitVec 32) : State :=
  let o := ofs.toInt
  let v : Int := if o < -131072 then -131072 else if 131071 < o then 131071 else o
  (s.setReg (rACC_LFRSP c) (wrapTo 18 v)).when (lfLate ofs) (fun s =>
    (s.raise ACC_FLAG_RELAY).lfEvt c 4 |>.record 14 4 c)

/-- The highest one bit of a 32-bit number. -/
def topBit (v : Nat) : Option Nat := (onesBelow 32 v).getLast?

/-- IDREP (R423): the ID as heard with its violated bits, its CRC and its offset. -/
def idrep (c id viol crc : Nat) (ofs : BitVec 32) (s : State) : State :=
  if (s.lf c).step ≠ .wake ∨ s.acc.field ≠ some c then s
  else
    let s := s.lfAnswer c ofs
    if lfLate ofs then s
    else
      match topBit viol with
      | some j =>
        let s := ((s.raise ACC_FLAG_COLL).lfEvt c 3).modLf c (fun x => { x with collided := true, heard := true })
        if 32 - (s.lf c).preLen ≤ j then s.lfFail c 0o21
        else
          let v := id / 2 ^ (j + 1) * 2 ^ (j + 1)
          (s.modLf c (fun x => { x with preLen := 32 - j, preVal := v })).lfSend c (0x52 :: (32 - j) :: numBytes 4 v)
      | none =>
        if crc = keyCrc (numBytes 4 id) then s.lfWinner c id
        else (s.modLf c (fun x => { x with id := id, heard := true })).lfRetry c

/-- AUTHREP (R422): TK is checked, and CONFIRM carries TB. -/
def authrep (c rk tk crc : Nat) (ofs : BitVec 32) (s : State) : State :=
  if (s.lf c).step ≠ .challenge ∨ s.acc.field ≠ some c then s
  else
    let s := s.lfAnswer c ofs
    let x := s.lf c
    let k := numBytes 16 x.key
    let good := decide (crc = keyCrc (numBytes 8 rk ++ numBytes 8 tk))
      && decide ((aesEnc k (numBytes 8 x.rb ++ numBytes 8 rk)).take 8 = numBytes 8 tk)
    if lfLate ofs || !good then s.lfRetry c
    else
      (s.modLf c (fun x => { x with step := .confirm, rk := rk }))
        |>.lfSend c (0x55 :: (aesEnc k (numBytes 8 rk ++ numBytes 8 x.rb)).drop 8)

/-- The session key of a mutual authentication (R422). -/
def LfCh.sessionKey (x : LfCh) : Nat :=
  bytesNum (aesEnc (numBytes 16 x.key) (numBytes 8 (x.rb ^^^ x.rk) ++ List.replicate 8 0x5A))

/-- The detail of a SEARCH that completes DONE (R438). -/
def LfCh.detail (x : LfCh) : Nat := x.slot + 8 * x.attempts + 32 * b2n x.collided + 64 * b2n x.waited

/-- A SEARCH whose key authenticated (R425, R427, R438): DONE with the key's ID in w2 and w3, and key authority while the
presence window is open. -/
def State.searchDone (s : State) (c : Nat) (d : Desc) : State :=
  let x := s.lf c
  let a := s.slotAddr d.ring d.slot
  let s := s.lfEvt c 0
    |>.when (d.ring < 64 && !s.addrOff a) (fun s => (s.wr (a + 2) (toWord (x.id / 65536))).wr (a + 3) (toWord (x.id % 65536)))
    |>.modAcc (fun y => { y with auth := if y.pres.isSome then 10 * 32768 else y.auth })
  if bitsOf d.w4.toNat 17 9 = 0 then s.lfSleep c stDone x.detail
  else (s.finishDone d x.detail).modLf c (fun x => { x with step := .session, own := none })

/-- The lowest EMPTY slot. -/
def State.emptySlot (s : State) : Option Nat := (List.range 8).find? (fun k => decide ((s.keySlot k).st = .empty))

/-- ACK of CONFIRM: the authentication is complete. -/
def State.authAck (s : State) (c : Nat) : State :=
  let s := s.modLf c (fun x => { x with sk := x.sessionKey, ctr := 0 })
  match s.lfOwner c with
  | none => s
  | some d =>
    if d.opcode = 4 then
      if s.trngFenced then s.lfFail c 0o36
      else if s.acc.shadow.isNone then s.lfFail c 0o32
      else
        let n := s.rand 16
        s.drewN 16
          |>.modLf c (fun x => { x with step := .personalise, fresh := n })
          |>.lfSendMac c (0x58 :: aesEnc (numBytes 16 (s.lf c).sk) (numBytes 16 n))
    else if (s.lf c).stale then s.lfFail c 0o22
    else s.searchDone c d

/-- ACK of PERSONALISE (R428): the key's ID and new secret go to the lowest EMPTY slot as ENROLLED. -/
def State.learnAck (s : State) (c : Nat) : State :=
  let x := s.lf c
  if s.acc.shadow.isNone then s.lfFail c 0o32
  else
    match s.emptySlot with
    | some k =>
      s.setKeySlot k ⟨x.id, x.fresh, .enrolled⟩
        |>.setFld ACC_ENRSTAT_LEARNED (s.fld ACC_ENRSTAT_LEARNED + 1)
        |>.lfSleep c stDone k
    | none => s.lfFail c 0o33

/-- KEY_ACK (R422, R438): status 0x00 OK, 0x01 bad TB, 0x02 bad MAC, 0x03 page protected. -/
def keyAck (c status crc : Nat) (ofs : BitVec 32) (s : State) : State :=
  let st := (s.lf c).step
  if s.acc.field ≠ some c ∨ (st ≠ .confirm ∧ st ≠ .personalise ∧ st ≠ .read ∧ st ≠ .write) then s
  else
    let s := s.lfAnswer c ofs
    let bad := lfLate ofs || decide (crc ≠ keyCrc [status])
    if st = .confirm then (if bad || decide (status ≠ 0) then s.lfRetry c else s.authAck c)
    else if st = .personalise then (if bad || decide (status ≠ 0) then s.lfRetry c else s.learnAck c)
    else if !bad && decide (status = 3) then
      (s.lfFinish c 0o25 0).modLf c (fun x => { x with step := .session, own := none })
    else if bad || decide (status ≠ 0) || decide (st = .read) then s.lfSleep c 0o22 0
    else (s.lfFinish c stDone 0).modLf c (fun x => { x with step := .session, own := none })

/-- KEY_DATA (R419, R438): READPG writes the page into w3 and w4. -/
def keyData (c data mac crc : Nat) (ofs : BitVec 32) (s : State) : State :=
  if s.acc.field ≠ some c ∨ (s.lf c).step ≠ .read then s
  else
    let s := s.lfAnswer c ofs
    let x := s.lf c
    let bad := lfLate ofs || decide (crc ≠ keyCrc (numBytes 4 data ++ numBytes 4 mac)) || decide (x.mac (numBytes 4 data) ≠ numBytes 4 mac)
    match s.lfOwner c with
    | none => s
    | some d =>
      if bad then s.lfSleep c 0o22 0
      else
        let a := s.slotAddr d.ring d.slot
        (s.when (d.ring < 64 && !s.addrOff a) (fun s => (s.wr (a + 3) (toWord (data / 65536))).wr (a + 4) (toWord (data % 65536))))
          |>.lfFinish c stDone 0
          |>.modLf c (fun x => { x with step := .session, own := none, ctr := (x.ctr + 1) % 65536 })

/-- KEY_NO_ANSWER (R424, R438): no key answers the first WAKE, or a rerun. -/
def keyNoAnswer (c : Nat) (s : State) : State :=
  let x := s.lf c
  if s.acc.field ≠ some c ∨ x.step ≠ .wake ∨ x.preLen ≠ 0 then s
  else if x.attempts = 0 then s.lfSleep c 0o20 0
  else s.lfFail c 0o22

/-- SESSION_HOLD_END: the hold time of a search is over (R438). An access in the session ends with it. -/
def sessionHoldEnd (c : Nat) (s : State) : State :=
  if s.acc.field = some c && (s.lf c).inSession then s.lfSleep c 0o24 0 else s

/-- SESSION_TIMEOUT (R438). -/
def sessionTimeout (c : Nat) (s : State) : State :=
  let x := s.lf c
  if s.acc.field = some c && (x.step = .wake || x.step = .challenge || x.step = .confirm || x.step = .personalise) then
    s.lfSleep c 0o23 0
  else s

/-- An antenna short (R417): LATCHED; ANT_SHORT for the descriptor of the field. -/
def lfShort (c : Nat) (s : State) : State :=
  if s.acc.field ≠ some c then s
  else
    (s.lfEnd c 0o27 0).modLf c (fun x => { x with latched := true })
      |>.lfEvt c 7
      |>.record 14 1 c

def lfAntennaOpen (c : Nat) (s : State) : State :=
  if s.acc.field ≠ some c then s else (s.lfEnd c 0o26 0).lfEvt c 6 |>.record 14 2 c

def lfHot (c : Nat) (s : State) : State :=
  if (s.lf c).therm || s.isFenced 14 c then s
  else
    (s.modLf c (fun x => { x with therm := true })).when (decide (s.acc.field = some c)) (fun s => s.lfEnd c 0o30 0)
      |>.raise ACC_FLAG_LFHOT
      |>.lfEvt c 5
      |>.record 14 3 c

/-- A driver below 150 °C leaves THERM. -/
def lfCool (c : Nat) (s : State) : State := s.modLf c (fun x => { x with therm := false })

/-- LF_DIAG_DONE: the tuning code of the 1 ms carrier, or the antenna's fault: 1 open, 2 short. -/
def lfDiagDone (c code ant : Nat) (s : State) : State :=
  if s.acc.field ≠ some c ∨ (s.lf c).step ≠ .diag then s
  else if ant = 1 then lfAntennaOpen c s
  else if ant = 2 then lfShort c s
  else
    let t := if s.on (ACC_LFCFG_ATUNE c) then code % 32 else s.fld (ACC_LFCFG_TCODE c)
    (s.setFld (ACC_LFSTAT_TUNED c) t).lfEnd c stDone t

/-! ### Enrolment (R426 to R433) -/

/-- The end of an enrolment command with its result. -/
def State.enrolResult (s : State) (r : Nat) : State :=
  (s.setFld ACC_ENRSTAT_RESULT r).modAcc (fun a => { a with evEnrol := true })

/-- Bytes of a buffer in system RAM, none where it lies outside, off line or holds an uncorrectable word. -/
def State.tokenBytes (s : State) (a n : Nat) : Option (List Nat) :=
  let w := (n + 1) / 2
  if inRam a w && !s.rangeOff a w && !s.rangeBad a w then some (ofBytes (s.bufBytes a n)) else none

/-- The check of a dealer token (R430): 0 valid, 2 TOKEN, 3 NONCE. -/
def State.tokenCheck (s : State) (op slot : Nat) : Nat :=
  match s.tokenBytes (s.fld ACC_TKADR_ADR) 82 with
  | none => 2
  | some t =>
    let hash := sha256 (t.take 18)
    let sigOk := match s.keyEntry 13 with
      | some k => ecdsaBytes hash (numBytes 64 k) (t.drop 18)
      | none => false
    if t.take 4 ≠ [1, op, slot, 0] ∨ (t.drop 4).take 6 ≠ numBytes 6 s.identity ∨ !sigOk then 2
    else
      match s.acc.nonce with
      | some n => if (t.drop 10).take 8 = numBytes 8 n ∧ s.acc.nonceLeft ≠ 0 then 0 else 3
      | none => 3

/-- The authority of an enrolment command (R427): 0, or the result that refuses it. A token command uses up the nonce. -/
def State.authority (s : State) (token : Bool) (op slot : Nat) : State × Nat :=
  if token then
    if s.acc.lock then (s, 4)
    else
      let r := s.tokenCheck op slot
      let s := s.modAcc (fun a => { a with nonce := none, nonceLeft := 0 })
      (s.when (decide (r ≠ 0)) (fun s => s.record 14 6 0), r)
  else (s, if s.acc.auth ≠ 0 then 0 else 1)

/-- The learn session opens (R428). -/
def State.learnOpen (s : State) : State :=
  s.modAcc (fun a => { a with shadow := some a.slots, slots := [], gen := (a.gen + 1) % 65536, learnLeft := 120 * 32768 })
    |>.setFld ACC_ENRSTAT_LEARNED 0
    |>.each (List.range 4) (fun c s => s.modLf c (fun x => { x with stale := true }))

/-- LEARN_K, LEARN_T: refused with STATE during a session. -/
def State.learnCmd (s : State) (token : Bool) : State :=
  if s.acc.shadow.isSome then s.enrolResult 5
  else
    let (s, r) := s.authority token 1 0
    (s.when (decide (r = 0)) State.learnOpen).enrolResult r

/-- REVOKE_K, REVOKE_T: an ENROLLED slot to REVOKED; any other slot gives SLOT (R429). -/
def State.revokeCmd (s : State) (token : Bool) (k : Nat) : State :=
  let (s, r) := s.authority token 2 k
  if r ≠ 0 then s.enrolResult r
  else if (s.keySlot k).st ≠ .enrolled then s.enrolResult 6
  else ((s.setKeySlot k { s.keySlot k with st := .revoked }).slotTouched k).enrolResult 0

/-- CLOSE. -/
def State.closeCmd (s : State) : State := if s.acc.shadow.isSome then s.learnEnd.enrolResult 0 else s.enrolResult 5

/-- OWNER_SET, OWNER_CLR: presence and key authority (R433). -/
def State.ownerCmd (s : State) (b : Bool) : State :=
  if s.acc.auth = 0 then s.enrolResult 1 else (s.modAcc (fun a => { a with lock := b })).enrolResult 0

/-- NONCE: a new nonce of 8 random bytes, for 120 s (R430). -/
def State.nonceCmd (s : State) : State :=
  if s.trngFenced then s.enrolResult 3
  else
    let n := s.rand 8
    s.drewN 8
      |>.modAcc (fun a => { a with nonce := some n, nonceLeft := 120 * 32768 })
      |>.each [0, 1, 2, 3] (fun i s => s.setReg (rACC_TNONCE i) (n / 65536 ^ (3 - i) % 65536))
      |>.enrolResult 0

/-- DBG_UNLOCK: presence, a clear owner lock and a clear OTP debug lock (R433). -/
def State.dbgCmd (s : State) : State :=
  if s.acc.lock || s.otpLock 0 then s.enrolResult 4 else (s.setFld ACC_OWNER_DBGU 1).enrolResult 0

/-- A write of ACC_ENRCMD inside the presence window (R441). -/
def State.enrolCmd (s : State) (cmd slot : Nat) : State :=
  match cmd with
  | 1 => s.learnCmd false
  | 2 => s.learnCmd true
  | 3 => s.revokeCmd false slot
  | 4 => s.revokeCmd true slot
  | 5 => s.closeCmd
  | 6 => s.ownerCmd true
  | 7 => s.ownerCmd false
  | 8 => s.nonceCmd
  | 9 => s.dbgCmd
  | _ => s

/-! ### Presence (R431, R432) -/

/-- A proof opens the window for 60 s, or restarts the 60 s. -/
def State.presProof (s : State) (src : Nat) : State :=
  (if s.acc.pres.isSome then s.modAcc (fun a => { a with pres := some (60 * 32768) })
   else (s.modAcc (fun a => { a with pres := some (60 * 32768), auth := 0, evPres := true })).count ACC_PLOG_PROOFS)
    |>.setFld ACC_PRES_SRC src

/-- SVCn proofs are enabled and not locked. -/
def State.svcOk (s : State) : Bool := s.on ACC_PCFG_SVCEN && !s.otpLock 1

/-- The button pattern of R431: COUNT closing edges of INPUT within TWIN. -/
def State.buttonOk (s : State) : Bool := s.on ACC_PCFG_BTNEN && (!s.on ACC_PBTN_KL15 || s.on PCR_KL_KL15)

/-! ### Key store (R436) -/

/-- The end of a key store command: RESULT at CRYPTO_DONE. -/
def State.kstoreRun (s : State) (r : Nat) : State :=
  (s.setFld ACC_KSTAT_BUSY 1).modAcc (fun a => { a with kstore := some r })

/-- An entry of a remote slot is in use (R436). -/
def State.slotBusy (s : State) (e : Nat) : Bool := decide (8 ≤ e ∧ e ≤ 11) && s.on (RNG_SCTL_EN (e - 8))

/-- An entry of the key store written. -/
def State.setEntry (s : State) (e v : Nat) : State :=
  s.modAcc (fun a => { a with store := smInsert (smErase a.store e) e v })
    |>.when (decide (8 ≤ e ∧ e ≤ 11)) (fun s => s.setFld (RNG_SCTL_KEYV (e - 8)) 1)

/-- LOAD (R433, R436): entries 8 to 11 and 13. -/
def State.loadCmd (s : State) (e : Nat) : State :=
  if s.acc.pres.isNone then s.kstoreRun 1
  else if e = 13 ∧ s.acc.lock then s.kstoreRun 2
  else if s.slotBusy e then s.kstoreRun 3
  else if e = 12 then s.kstoreRun 5
  else
    match s.tokenBytes (s.fld ACC_KADR_ADR) (if e = 13 then 64 else 16) with
    | some k => (s.setEntry e (bytesNum k)).kstoreRun 0
    | none => (s.drewN 1).kstoreRun (s.draw.toNat % 8)

/-- ROTATE (R436): entries 8 to 11 at any time, unwrapped under the present key. -/
def State.rotateCmd (s : State) (e : Nat) : State :=
  if s.slotBusy e then s.kstoreRun 3
  else
    match s.tokenBytes (s.fld ACC_KADR_ADR) 24, s.keyEntry e with
    | some w, some k =>
      if e < 12 then
        match aesUnwrap (numBytes 16 k) w with
        | some v => (s.setEntry e (bytesNum v)).kstoreRun 0
        | none => s.kstoreRun 4
      else s.kstoreRun 4
    | _, _ => s.kstoreRun 4

/-- LOADTR (R436): the transport root, once, inside a presence window. -/
def State.loadtrCmd (s : State) : State :=
  if s.acc.pres.isNone then s.kstoreRun 1
  else if (s.keyEntry 12).isSome then s.kstoreRun 5
  else
    match s.tokenBytes (s.fld ACC_KADR_ADR) 16 with
    | some k => (s.setEntry 12 (bytesNum k)).kstoreRun 0
    | none => (s.drewN 1).kstoreRun (s.draw.toNat % 8)

/-- A write of ACC_KCMD; while a command runs it starts none. -/
def State.keyCmd (s : State) (cmd e : Nat) : State :=
  if s.acc.kstore.isSome then s
  else
    match cmd with
    | 1 => s.loadCmd e
    | 2 => s.rotateCmd e
    | 3 => s.loadtrCmd
    | _ => s

/-! ### Crypto engines (R434) -/

/-- A crypto command runs: RESULT at CRYPTO_DONE. -/
def State.cryptoRun (s : State) (r : Nat) : State :=
  (s.setFld ACC_CSTAT_BUSY 1).modAcc (fun a => { a with crypto := some r })

/-- The words that a buffer of bytes takes. -/
def wordsFor (n : Nat) : Nat := (n + 1) / 2

/-- The refusal of a command by its buffers, given as address and bytes, the inputs first (R434): 2 RANGE, 3
BANK_OFFLINE, 5 MEM_ERROR, 0 none. -/
def State.cryptoRefuse (s : State) (ins outs : List (Nat × Nat)) : Nat :=
  if (ins ++ outs).any (fun b => decide (b.2 ≠ 0) && !inRam b.1 (wordsFor b.2)) then 2
  else if (ins ++ outs).any (fun b => s.rangeOff b.1 (wordsFor b.2)) then 3
  else if ins.any (fun b => s.rangeBad b.1 (wordsFor b.2)) then 5
  else 0

/-- The bytes of a crypto buffer. -/
def State.cbytes (s : State) (a n : Nat) : List Nat := ofBytes (s.bufBytes a n)

/-- AES over the whole blocks of the source; what it does to a source that is no whole number of blocks the manual does
not say, so the bytes of its last part are free. -/
def State.aesCmd (s : State) (dec long : Bool) : State :=
  let src := s.fld ACC_CSRC_SRC
  let n := s.fld ACC_CLEN_LEN
  let dst := s.fld ACC_CDST_DST
  let kb := if long then 32 else 16
  let r := s.cryptoRefuse [(src, n), (s.fld ACC_CKEY_KEY, kb)] [(dst, n)]
  if r ≠ 0 then s.cryptoRun r
  else
    let key := s.cbytes (s.fld ACC_CKEY_KEY) kb
    let whole := (s.cbytes src n).take (n / 16 * 16)
    let out := aesEcb (if dec then aesDec key else aesEnc key) whole ++ s.freeBytes (n % 16)
    ((s.putBytes dst (toBytes out)).drewN (n % 16)).cryptoRun 0

/-- CMAC, SHA256, ECDSAVER and RANDOM. -/
def State.cmacCmd (s : State) : State :=
  let src := s.fld ACC_CSRC_SRC
  let n := s.fld ACC_CLEN_LEN
  let r := s.cryptoRefuse [(src, n), (s.fld ACC_CKEY_KEY, 16)] [(s.fld ACC_CDST_DST, 16)]
  if r ≠ 0 then s.cryptoRun r
  else (s.putBytes (s.fld ACC_CDST_DST) (toBytes (aesCmac (s.cbytes (s.fld ACC_CKEY_KEY) 16) (s.cbytes src n)))).cryptoRun 0

def State.shaCmd (s : State) : State :=
  let src := s.fld ACC_CSRC_SRC
  let n := s.fld ACC_CLEN_LEN
  let r := s.cryptoRefuse [(src, n)] [(s.fld ACC_CDST_DST, 32)]
  if r ≠ 0 then s.cryptoRun r else (s.putBytes (s.fld ACC_CDST_DST) (toBytes (sha256 (s.cbytes src n)))).cryptoRun 0

def State.ecdsaCmd (s : State) : State :=
  let src := s.fld ACC_CSRC_SRC
  let key := s.fld ACC_CKEY_KEY
  let sig := s.fld ACC_CDST_DST
  let r := s.cryptoRefuse [(src, 32), (key, 64), (sig, 64)] []
  if r ≠ 0 then s.cryptoRun r
  else s.cryptoRun (if ecdsaBytes (s.cbytes src 32) (s.cbytes key 64) (s.cbytes sig 64) then 0 else 1)

def State.randomCmd (s : State) : State :=
  let n := s.fld ACC_CLEN_LEN
  let dst := s.fld ACC_CDST_DST
  let r := s.cryptoRefuse [] [(dst, n)]
  if s.trngFenced then s.cryptoRun 4
  else if r ≠ 0 then s.cryptoRun r
  else ((s.putBytes dst (toBytes (s.freeBytes n))).drewN n).cryptoRun 0

/-- A write of ACC_CCMD; while a command runs it starts none. -/
def State.cryptoCmd (s : State) (op : Nat) (long : Bool) : State :=
  if s.acc.crypto.isSome then s
  else
    match op with
    | 1 => s.aesCmd false long
    | 2 => s.aesCmd true long
    | 3 => s.cmacCmd
    | 4 => s.shaCmd
    | 5 => s.ecdsaCmd
    | 6 => s.randomCmd
    | _ => s

/-- CRYPTO_DONE: a running crypto command and a running key store command end and write RESULT. -/
def cryptoDone (s : State) : State :=
  (match s.acc.crypto with
   | some r => ((s.setFld ACC_CSTAT_BUSY 0).setFld ACC_CSTAT_RESULT r).modAcc (fun a => { a with crypto := none, evCrypto := true })
   | none => s)
    |> fun s => match s.acc.kstore with
      | some r => ((s.setFld ACC_KSTAT_BUSY 0).setFld ACC_KSTAT_RESULT r).modAcc (fun a => { a with kstore := none, evEnrol := true })
      | none => s

/-- TRNG_HEALTH_FAIL (R435): TRNGHT fences the TRNG. -/
def trngHealthFail (s : State) : State := s.record 14 7 0

/-! ### Power states (R444) -/

/-- A crypto or key store command runs: DELAY. -/
def State.accDelays (s : State) : Bool := s.acc.crypto.isSome || s.acc.kstore.isSome

/-- A forced entry ends every field and session and destroys the shadow; open descriptors complete DOMAIN_LOST. -/
def State.accForced (s : State) : State :=
  s.learnEnd.each (List.range 4) (fun c s => if s.acc.field = some c then s.lfEnd c stDomainLost 0 else s)
    |>.finishAll (fun d => decide (d.eng = 6)) stDomainLost

/-! ### The commands -/

def execSearch (r : Fin 64) (i : Fin 1024) (s : State) : Out State := .next (inDom .act (lfShown (fun s => s.actReady 6 1 r i (fun _ s => s) lfField)) s)
def execReadpg (r : Fin 64) (i : Fin 1024) (s : State) : Out State := .next (inDom .act (lfShown (fun s => s.actReady 6 2 r i (fun _ s => s) lfAccess)) s)
def execWritepg (r : Fin 64) (i : Fin 1024) (s : State) : Out State := .next (inDom .act (lfShown (fun s => s.actReady 6 3 r i (fun _ s => s) lfAccess)) s)
def execLearn (r : Fin 64) (i : Fin 1024) (s : State) : Out State := .next (inDom .act (lfShown (fun s => s.actReady 6 4 r i (fun _ s => s) lfField)) s)
def execLfDiag (r : Fin 64) (i : Fin 1024) (s : State) : Out State := .next (inDom .act (lfShown (fun s => s.actReady 6 5 r i (fun _ s => s) lfField)) s)
def execLfClear (r : Fin 64) (i : Fin 1024) (s : State) : Out State := .next (inDom .act (lfShown (fun s => s.actReady 6 6 r i (fun _ s => s) lfClear)) s)
def execLfEnd (r : Fin 64) (i : Fin 1024) (s : State) : Out State := .next (inDom .act (lfShown (fun s => s.actReady 6 7 r i (fun _ s => s) lfEndCmd)) s)
def execIdrep (c : Fin 4) (id viol : BitVec 32) (crc : Byte) (ofs : BitVec 32) (s : State) : Out State :=
  .next (inDom .act (lfShown (idrep c id.toNat viol.toNat crc.toNat ofs)) s)
def execAuthrep (c : Fin 4) (rk tk : BitVec 64) (crc : Byte) (ofs : BitVec 32) (s : State) : Out State :=
  .next (inDom .act (lfShown (authrep c rk.toNat tk.toNat crc.toNat ofs)) s)
def execKeyAck (c : Fin 4) (status crc : Byte) (ofs : BitVec 32) (s : State) : Out State :=
  .next (inDom .act (lfShown (keyAck c status.toNat crc.toNat ofs)) s)
def execKeyData (c : Fin 4) (data mac : BitVec 32) (crc : Byte) (ofs : BitVec 32) (s : State) : Out State :=
  .next (inDom .act (lfShown (keyData c data.toNat mac.toNat crc.toNat ofs)) s)
def execKeyNoAnswer (c : Fin 4) (s : State) : Out State := .next (inDom .act (lfShown (keyNoAnswer c)) s)
def execSessionHoldEnd (c : Fin 4) (s : State) : Out State := .next (inDom .act (lfShown (sessionHoldEnd c)) s)
def execSessionTimeout (c : Fin 4) (s : State) : Out State := .next (inDom .act (lfShown (sessionTimeout c)) s)
def execLfAntennaShort (c : Fin 4) (s : State) : Out State := .next (inDom .act (lfShown (lfShort c)) s)
def execLfAntennaOpen (c : Fin 4) (s : State) : Out State := .next (inDom .act (lfShown (lfAntennaOpen c)) s)
def execLfDriverHot (c : Fin 4) (s : State) : Out State := .next (inDom .act (lfShown (lfHot c)) s)
def execLfDriverCool (c : Fin 4) (s : State) : Out State := .next (inDom .act (lfShown (lfCool c)) s)
def execLfDiagDone (c : Fin 4) (code : Fin 32) (ant : Fin 3) (s : State) : Out State := .next (inDom .act (lfShown (lfDiagDone c code ant)) s)

/-- LEARN_SESSION_END: 120 s have passed, or the window has closed (R428). -/
def execLearnSessionEnd (s : State) : Out State := .next (inDom .fabric State.learnEnd s)
/-- SVCN_AT_POWER_UP: SVCn was low when POR was released; the boot ROM sees it too (R499). -/
def execSvcnAtPowerUp (s : State) : Out State :=
  .next (inDom .fabric (fun s =>
    if s.pw.svcPor || !s.svcOk then s else (s.modPw (fun p => { p with svcPor := true })).presProof 0) s)
def execSvcnHeld (s : State) : Out State :=
  .next (inDom .fabric (fun s => if s.pw.mode = .run ∧ s.svcOk then s.presProof 0 else s) s)
def execButtonPattern (s : State) : Out State := .next (inDom .fabric (fun s => if s.buttonOk then s.presProof 1 else s) s)
def execSealLoopBreak (s : State) : Out State := .next (inDom .fabric (fun s => if s.on ACC_PCFG_SEALEN then s.presProof 2 else s) s)
/-- PRESENCE_EXPIRY: the 60 s have passed. -/
def execPresenceExpiry (s : State) : Out State := .next (inDom .fabric State.presClose s)
def execCryptoDone (s : State) : Out State := .next (inDom .fabric cryptoDone s)
def execTrngHealthFail (s : State) : Out State := .next (inDom .fabric trngHealthFail s)

end Sys2Proof.Machine
end

