-- ==== Sys2Proof/Machine/Flags.lean ====
section
/-! DEFINITION. The arithmetic of the Raloa-18: the result of every arithmetic, logic and shift operation with the flags it
computes (R591 to R595, R599), the divisions, and the branch conditions (R592). -/

namespace Sys2Proof.Machine

/-- A result: its value, C and V where the instruction computes them, and whether it saturated. -/
structure Res where
  val : Word
  c : Option Bool := none
  v : Option Bool := none
  sat : Bool := false
  deriving DecidableEq, Repr

/-- A sum with carry in: C is the carry out of bit 17, V signed overflow. -/
def addRes (a b : Word) (cin : Nat) : Res :=
  let r : Word := a + b + toWord cin
  { val := r, c := some (decide (2 ^ 18 ≤ a.toNat + b.toNat + cin)), v := some (decide (a.toInt + b.toInt + cin ≠ r.toInt)) }

/-- A difference with borrow in: C is the borrow, V signed overflow. -/
def subRes (a b : Word) (bin : Nat) : Res :=
  let r : Word := a - b - toWord bin
  { val := r, c := some (decide (a.toNat < b.toNat + bin)), v := some (decide (a.toInt - b.toInt - bin ≠ r.toInt)) }

/-- The signed saturation of a sum or difference that overflowed: C as before, V 0 (R591). -/
def satRes (r : Res) : Res :=
  if r.v = some true then
    { val := if r.val.msb then 0o377777 else 0o400000, c := r.c, v := some false, sat := true }
  else { r with v := some false }

/-- A result without carry and overflow. -/
def plainRes (w : Word) : Res := { val := w }

/-- SHL by `n`. -/
def shlRes (a : Word) (n : Nat) : Res :=
  { val := a <<< n,
    c := if n = 0 then none else some (decide (n ≤ 18) && a.getLsbD (18 - n)),
    v := some (decide (a.toNat / 2 ^ (18 - n) ≠ 0 ∧ n ≠ 0)) }

/-- SHR by `n`. -/
def shrRes (a : Word) (n : Nat) : Res :=
  { val := a >>> n,
    c := if n = 0 then none else some (decide (n ≤ 18) && a.getLsbD (n - 1)),
    v := some false }

/-- SAR by `n`. -/
def sarRes (a : Word) (n : Nat) : Res :=
  { val := a.sshiftRight n,
    c := if n = 0 then none else some (if n ≤ 18 then a.getLsbD (n - 1) else a.msb),
    v := some false }

/-- ROR by `n` mod 18. -/
def rorRes (a : Word) (n : Nat) : Res := { val := a.rotateRight (n % 18) }

/-- SXB, ZXB, SWB and CLZ (R593). -/
def sxb (a : Word) : Word := (a.setWidth 8).signExtend 18
def zxb (a : Word) : Word := a &&& 0o377
def swb (a : Word) : Word := toWord (a.toNat / 65536 * 65536 + a.toNat % 256 * 256 + a.toNat / 256 % 256)
def clz (a : Word) : Word := toWord (((List.range 18).find? (fun i => a.getLsbD (17 - i))).getD 18)

/-- Products (R595): 36 bits signed and unsigned. -/
def mulSigned (a b : Word) : Int := a.toInt * b.toInt
def mulUnsigned (a b : Word) : Int := (a.toNat : Int) * b.toNat

/-- A division's quotient, remainder, V and DZ (R595, R599). -/
def divSigned (a b : Word) : Word × Word × Bool × Bool :=
  if b = 0 then (if a.msb then 0o400000 else 0o377777, a, false, true)
  else (BitVec.ofInt 18 (a.toInt.tdiv b.toInt), BitVec.ofInt 18 (a.toInt - a.toInt.tdiv b.toInt * b.toInt),
    decide (a = 0o400000 ∧ b = 0o777777), false)
def divUnsigned (a b : Word) : Word × Word × Bool × Bool :=
  if b = 0 then (0o777777, a, false, true) else (toWord (a.toNat / b.toNat), toWord (a.toNat % b.toNat), false, false)

/-- A branch condition over N, Z, C and V (R592); 1111 is reserved. -/
def condHolds (cond : Nat) (n z c v : Bool) : Bool :=
  match cond with
  | 0 => true
  | 1 => z
  | 2 => !z
  | 3 => c
  | 4 => !c
  | 5 => n
  | 6 => !n
  | 7 => v
  | 8 => !v
  | 9 => !c && !z
  | 10 => c || z
  | 11 => n == v
  | 12 => n != v
  | 13 => !z && (n == v)
  | 14 => z || (n != v)
  | _ => false

end Sys2Proof.Machine
end

