-- ==== Sys2Proof/Machine/Operands.lean ====
section
/-! DEFINITION. What the instructions of a core name: registers through the current window, flags, special registers, the
results in flight and the hardware loops (R555 to R570, R563). -/

namespace Sys2Proof.Machine

/-! ### Registers -/

/-- The key of a visible register: globals, the current window, relay registers (R555). -/
def Core.regKey (x : Core) (i : Nat) : Nat :=
  if i < 8 then i else if i < 24 then 16 + 16 * x.win + (i - 8) else 8 + (i - 24)

def Core.get (x : Core) (i : Nat) : Word := smGet (fun _ => 0) x.r (x.regKey i)
def Core.put (x : Core) (i : Nat) (v : Word) : Core := { x with r := smPut (fun _ => 0) x.r (x.regKey i) v }

/-- LK and the saved-status slot of the current window. -/
def Core.getLk (x : Core) : Nat := smGet (fun _ => 0) x.lk x.win
def Core.putLk (x : Core) (v : Nat) : Core := { x with lk := smPut (fun _ => 0) x.lk x.win (v % 2 ^ 21) }
def Core.getSlot (x : Core) : Word := smGet (fun _ => 0) x.slot x.win
def Core.putSlot (x : Core) (v : Word) : Core := { x with slot := smPut (fun _ => 0) x.slot x.win v }

/-! ### The status register (R564) -/

def Core.srBits (x : Core) (hi lo : Nat) : Nat := bitsOf x.sr.toNat hi lo
def Core.setSr (x : Core) (hi lo v : Nat) : Core := { x with sr := toWord (putBits x.sr.toNat hi lo v) }
def Core.n (x : Core) : Bool := bitAt x.sr.toNat 17
def Core.z (x : Core) : Bool := bitAt x.sr.toNat 16
def Core.c (x : Core) : Bool := bitAt x.sr.toNat 15
def Core.v (x : Core) : Bool := bitAt x.sr.toNat 14
def Core.ie (x : Core) : Bool := bitAt x.sr.toNat 11
def Core.prio (x : Core) : Nat := x.srBits 10 7
def Core.wd (x : Core) : Nat := x.srBits 6 3
/-- WD raised or lowered by 1, modulo 16 (R557). -/
def Core.wdUp (x : Core) : Core := x.setSr 6 3 ((x.wd + 1) % 16)
def Core.wdDown (x : Core) : Core := x.setSr 6 3 ((x.wd + 15) % 16)

/-- N and Z of a result; C and V where the operation computes them; SAT once saturated (R591). -/
def Core.flags (x : Core) (r : Res) : Core :=
  let x := (x.setSr 17 17 (b2n r.val.msb)).setSr 16 16 (b2n (decide (r.val = 0)))
  let x := match r.c with
    | some b => x.setSr 15 15 (b2n b)
    | none => x
  let x := match r.v with
    | some b => x.setSr 14 14 (b2n b)
    | none => x
  if r.sat then x.setSr 12 12 1 else x

/-- A result written to a register with its flags. -/
def Core.result (x : Core) (rd : Nat) (r : Res) : Core := (x.flags r).put rd r.val

/-! ### Results in flight (R565 to R567, R601) -/

/-- The accumulator AH:AM:AL. -/
def Core.acc (x : Core) : Nat := x.ah.toNat * 2 ^ 36 + x.am.toNat * 2 ^ 18 + x.al.toNat
def Core.setAcc (x : Core) (v : Nat) : Core :=
  { x with ah := toWord (v / 2 ^ 36), am := toWord (v / 2 ^ 18), al := toWord v }

/-- The oldest product lands. -/
def Core.landMul (x : Core) : Core :=
  match x.mul with
  | [] => x
  | f :: l =>
    let y : Core := { x with mul := l }
    if f.mac then y.setAcc ((y.acc + f.value) % 2 ^ 54) else { y with ph := toWord (f.value / 2 ^ 18), pl := toWord f.value }

/-- A product issued: four are in flight at most, since a product lands at the end of the third cycle after its own. -/
def Core.issueMul (x : Core) (f : Flight) : Core :=
  let y := if 4 ≤ x.mul.length then x.landMul else x
  { y with mul := y.mul ++ [f] }

/-- The division lands: QT, RM, and V and DZ where they become 1. -/
def Core.landDiv (x : Core) : Core :=
  match x.div with
  | none => x
  | some f =>
    let y : Core := { x with div := none, qt := f.q, rm := f.r }
    let y := if f.v then y.setSr 14 14 1 else y
    if f.dz then y.setSr 13 13 1 else y

/-- A division by zero that traps at its landing: CTL.DZE is 1. -/
def Core.dzPending (x : Core) : Option Nat := x.div.bind (fun f => if f.dz && bitAt x.ctl.toNat 17 then some f.pc else none)

/-- Everything in flight lands (R567). -/
def Core.landAll (x : Core) : Core := (x.mul.foldl (fun y _ => y.landMul) x).landDiv

/-! ### Hardware loops (R568 to R570) -/

def Core.lpsOf (x : Core) (k : Nat) : Nat := smGet (fun _ => 0) x.lps k
def Core.lpeOf (x : Core) (k : Nat) : Nat := smGet (fun _ => 0) x.lpe k
def Core.lpcOf (x : Core) (k : Nat) : Nat := (smGet (fun _ => 0) x.lpc k).toNat
def Core.setLps (x : Core) (k v : Nat) : Core := { x with lps := smPut (fun _ => 0) x.lps k (v % 2 ^ 21) }
def Core.setLpe (x : Core) (k v : Nat) : Core := { x with lpe := smPut (fun _ => 0) x.lpe k (v % 2 ^ 21) }
def Core.setLpc (x : Core) (k v : Nat) : Core := { x with lpc := smPut (fun _ => 0) x.lpc k (toWord v) }
/-- The loop tag of a level. -/
def Core.tag (x : Core) (k : Nat) : Nat := bitsOf x.lst.toNat (4 * k + 3) (4 * k)
def Core.setTag (x : Core) (k v : Nat) : Core := { x with lst := toWord (putBits x.lst.toNat (4 * k + 3) (4 * k) v) }

/-- An active level, and one whose tag is WD. -/
def Core.active (x : Core) (k : Nat) : Bool := decide (x.lpcOf k ≠ 0)
def Core.acts (x : Core) (k : Nat) : Bool := x.active k && decide (x.tag k = x.wd)

/-- The levels end from `k` upward. -/
def Core.endFrom (x : Core) (k : Nat) : Core := (List.range 4).foldl (fun y j => if k ≤ j then y.setLpc j 0 else y) x

/-- The levels tagged with the present WD end: every return (R570). -/
def Core.endTagged (x : Core) : Core := (List.range 4).foldl (fun y j => if x.tag j = x.wd then y.setLpc j 0 else y) x

/-- The levels that a taken branch to `t` leaves. -/
def Core.leaveLoops (x : Core) (t : Nat) : Core :=
  match (List.range 4).find? (fun k => x.acts k && !decide (x.lpsOf k ≤ t ∧ t ≤ x.lpeOf k)) with
  | some k => x.endFrom k
  | none => x

/-- The levels whose end parcel is `p` act, the innermost first; `d` is the parcel that follows. -/
def Core.loopAt (x : Core) (p d : Nat) : List Nat → Core × Nat
  | [] => (x, d)
  | k :: l =>
    if x.acts k ∧ x.lpeOf k = p then
      if 1 < x.lpcOf k then (x.setLpc k (x.lpcOf k - 1), x.lpsOf k) else (x.setLpc k 0).loopAt p d l
    else x.loopAt p d l

/-- The parcel that runs after an instruction of `n` parcels at `pc` that is not a taken branch, with the loop levels that
act (R569, R603). -/
def Core.after (x : Core) (n : Nat) : Core × Nat := x.loopAt ((x.pc + n - 1) % 2 ^ 21) ((x.pc + n) % 2 ^ 21) [3, 2, 1, 0]

/-- The instruction of `n` parcels completes. -/
def Core.next (x : Core) (n : Nat) : Core :=
  let p := x.after n
  { p.1 with pc := p.2 }

/-- A taken branch, or a jump. -/
def Core.jump (x : Core) (t : Nat) : Core := { x.leaveLoops t with pc := t % 2 ^ 21 }

/-! ### Special registers (R563) -/

/-- A number that the table lists; one that MTS may not write. -/
def sprListed (n : Nat) : Bool := decide (n < 28 ∨ (32 ≤ n ∧ n ≤ 44) ∨ n = 48)
def sprRo (n : Nat) : Bool := [16, 17, 19, 44, 48].contains n

/-- An MFS of every special register but CLM; `id` is the number of the core. -/
def Core.special (x : Core) (id n : Nat) : Word :=
  match n with
  | 0 => x.sr
  | 1 => toWord (x.getLk / 2 ^ 18)
  | 2 => toWord x.getLk
  | 3 => x.ph
  | 4 => x.pl
  | 5 => x.ah
  | 6 => x.am
  | 7 => x.al
  | 8 => x.qt
  | 9 => x.rm
  | 10 => x.spb
  | 11 => x.spr
  | 12 => x.spl
  | 13 => x.isp
  | 14 => x.vbr
  | 15 => x.ctl
  | 16 => x.tca
  | 17 => x.tad
  | 18 => x.lst
  | 19 => toWord (16 * x.win + x.res)
  | 44 => toWord id
  | _ =>
    if 20 ≤ n ∧ n < 24 then toWord (x.lpsOf (n - 20) / 2 ^ 18)
    else if 24 ≤ n ∧ n < 28 then toWord (x.lpsOf (n - 24))
    else if 32 ≤ n ∧ n < 36 then toWord (x.lpeOf (n - 32) / 2 ^ 18)
    else if 36 ≤ n ∧ n < 40 then toWord (x.lpeOf (n - 36))
    else if 40 ≤ n ∧ n < 44 then toWord (x.lpcOf (n - 40))
    else 0

/-- An MTS; reserved bits are ignored. -/
def Core.setSpecial (x : Core) (n : Nat) (w : Word) : Core :=
  let v := w.toNat
  match n with
  | 0 => { x with sr := w &&& 0o777770 }
  | 1 => x.putLk (putBits x.getLk 20 18 v)
  | 2 => x.putLk (putBits x.getLk 17 0 v)
  | 3 => { x with ph := w }
  | 4 => { x with pl := w }
  | 5 => { x with ah := w }
  | 6 => { x with am := w }
  | 7 => { x with al := w }
  | 8 => { x with qt := w }
  | 9 => { x with rm := w }
  | 10 => { x with spb := w }
  | 11 => { x with spr := w }
  | 12 => { x with spl := w }
  | 13 => { x with isp := w }
  | 14 => { x with vbr := w }
  | 15 => { x with ctl := w &&& 0o600000 }
  | 18 => { x with lst := w &&& 0o177777 }
  | _ =>
    if 20 ≤ n ∧ n < 24 then x.setLps (n - 20) (putBits (x.lpsOf (n - 20)) 20 18 v)
    else if 24 ≤ n ∧ n < 28 then x.setLps (n - 24) (putBits (x.lpsOf (n - 24)) 17 0 v)
    else if 32 ≤ n ∧ n < 36 then x.setLpe (n - 32) (putBits (x.lpeOf (n - 32)) 20 18 v)
    else if 36 ≤ n ∧ n < 40 then x.setLpe (n - 36) (putBits (x.lpeOf (n - 36)) 17 0 v)
    else if 40 ≤ n ∧ n < 44 then x.setLpc (n - 40) v
    else x

/-! ### Windows (R555 to R557) -/

/-- The slide of a call or entry, once a window is free: the new window's LK holds the return address. -/
def Core.slide (x : Core) (ret : Nat) : Core :=
  let y : Core := { x with win := (x.win + 1) % 14, res := x.res + 1 }
  (y.putLk ret).wdUp

/-- The slide of a return; `wd`: subtract 1 from WD. -/
def Core.unslide (x : Core) : Core := { x with win := (x.win + 13) % 14, res := x.res - 1 }

/-- The 20 words of the spill frame of a physical window (R558). -/
def Core.frameWords (x : Core) (w : Nat) : List Word :=
  (List.range 16).map (fun i => smGet (fun _ => 0) x.r (16 + 16 * w + i)) ++
    [toWord (smGet (fun _ => 0) x.lk w / 2 ^ 18), toWord (smGet (fun _ => 0) x.lk w), smGet (fun _ => 0) x.slot w, 0]

/-- A physical window loaded from its frame. -/
def Core.loadFrame (x : Core) (w : Nat) (l : List Word) : Core :=
  { x with
    r := (List.range 16).foldl (fun m i => smPut (fun _ => 0) m (16 + 16 * w + i) (l.getD i 0)) x.r,
    lk := smPut (fun _ => 0) x.lk w ((l.getD 16 0).toNat % 8 * 2 ^ 18 + (l.getD 17 0).toNat),
    slot := smPut (fun _ => 0) x.slot w (l.getD 18 0) }

/-- The oldest resident window. -/
def Core.oldest (x : Core) : Nat := (x.win + 15 - x.res) % 14

end Sys2Proof.Machine
end

