-- ==== Sys2Proof/Machine/CoreMem.lean ====
section
/-! DEFINITION. The data space of a core (R26 to R38, R579, R580, R634): what an address reads, what refuses an access, and the store buffer. -/

namespace Sys2Proof.Machine

/-- A trap: vector, cause and TAD (R602). -/
structure Trp where
  vec : Nat
  cause : Nat
  tad : Nat
  deriving DecidableEq, Repr

/-! ### Words -/

/-- A word of the packed frame window (R33, R34). -/
def State.windowWord (s : State) (a : Nat) : Word :=
  let q := (a - 0o720000) / 128
  match s.zsw.binds.find? (fun b => decide (b.slot ≤ q ∧ q < b.slot + b.n)) with
  | none => 0
  | some b =>
    let l := (smGet (fun _ => {}) s.zsw.frames b.frame).bytes
    let p := 256 * (q - b.slot) + 2 * (a % 128)
    if l.length ≤ p then 0
    else
      let hi := (l.getD p 0).toNat
      let lo := (l.getD (p + 1) Config.padByte).toNat
      let tag := if p + 1 = l.length then 1 else if p + 2 = l.length then 3 else if a % 128 = 127 then 2 else 0
      toWord (tag * 65536 + hi * 256 + lo)

/-- An identification word (R30). -/
def State.identWord (s : State) (a : Nat) : Word :=
  match a - 0o777000 with
  | 0 => 0o153206
  | 1 => 0o006400
  | 2 => 0o21
  | 3 => toWord (s.otp 0o422 % 65536)
  | 4 => toWord (s.otp 0o423 % 65536)
  | 5 => toWord (s.otp 0o424 % 65536)
  | 6 => 1
  | _ => 0

/-- The key of the memory word behind a data-space address: a TCM word, a system RAM word also through its aliases, or a
word of always-on memory. -/
def dataWordKey (c a : Nat) : Option Nat :=
  if a < 0o100000 then some (tcmKey c a)
  else if a < 0o300000 then some a
  else if a < 0o500000 then some (a - 0o200000)
  else if a < 0o700000 then some (a - 0o400000)
  else if a < 0o720000 then some a
  else none

/-- A system RAM address, also through an alias. -/
def isRamAddr (a : Nat) : Bool := decide (0o100000 ≤ a ∧ a < 0o700000)

/-- What a data-space address reads in its memory. -/
def State.dataWord (s : State) (c a : Nat) : Word :=
  match dataWordKey c a with
  | some k => s.rd k
  | none =>
    if a < 0o760000 then (if s.domOn .zsw then s.windowWord a else 0)
    else if a < 0o770000 then Config.bootConst a
    else if a < 0o774000 then toWord (s.otp (a - 0o770000))
    else if a < 0o777000 then 0
    else s.identWord a

/-- A store to an address acts on the old value of its word: a whole word, or a mask through an alias (R35). -/
def aliasOp (a : Nat) (old v : Word) : Word :=
  if 0o300000 ≤ a ∧ a < 0o500000 then old ||| v else if 0o500000 ≤ a ∧ a < 0o700000 then old &&& ~~~v else v

def isAlias (a : Nat) : Bool := decide (0o300000 ≤ a ∧ a < 0o700000)

/-- A word as the core itself sees it: through its own buffered stores, oldest first (R579). -/
def State.coreWord (s : State) (c a : Nat) : Word :=
  match dataWordKey c a with
  | none => s.dataWord c a
  | some k =>
    ((s.core c).buf.filter (fun b => decide (dataWordKey c b.addr = some k))).foldl (fun w b => aliasOp b.addr w b.value)
      (s.dataWord c a)

/-- The check-bit state of a word as the core sees it: a buffered whole-word store hides an error. -/
def State.coreEcc (s : State) (c a : Nat) : Nat :=
  match dataWordKey c a with
  | none => 0
  | some k => if (s.core c).buf.any (fun b => decide (dataWordKey c b.addr = some k) && !isAlias b.addr) then 0 else s.eccOf k

/-! ### What refuses an access -/

/-- The MPU permits an access (R580): the highest matching region decides. -/
def State.mpuOk (s : State) (c : Nat) (io : Bool) (a : Nat) (store : Bool) : Bool :=
  let hit (r : Nat) : Bool :=
    s.on (ICU_MATR_EN c r) && decide (s.fld (ICU_MATR_SP c r) = b2n io ∧ s.reg (rICU_MBASE c r) ≤ a ∧ a ≤ s.reg (rICU_MLIM c r))
  match ((List.range 16).reverse).find? hit with
  | some r => if store then s.on (ICU_MATR_W c r) else s.on (ICU_MATR_R c r)
  | none => s.on (ICU_MCTL_DEF c)

/-- The bank or TCM of an address is off line (R44, R48). -/
def State.dataOff (s : State) (c a : Nat) : Bool :=
  if a < 0o100000 then s.isFenced 2 (8 + c)
  else match dataWordKey c a with
    | some k => isRamAddr a && s.addrOff k
    | none => false

/-- The trap of a load, if any: MPU, bank off line, uncorrectable error (R604). -/
def State.loadTrap (s : State) (c a : Nat) : Option Trp :=
  if !s.mpuOk c false a false then some ⟨2, 3, a⟩
  else if s.dataOff c a then some ⟨2, 2, a⟩
  else if s.coreEcc c a = 2 then some ⟨3, 1, a⟩
  else none

/-- The trap of a store, if any: MPU, read-only, bank off line. -/
def State.storeTrap (s : State) (c a : Nat) : Option Trp :=
  if !s.mpuOk c false a true then some ⟨2, 3, a⟩
  else if 0o720000 ≤ a then some ⟨2, 1, a⟩
  else if s.dataOff c a then some ⟨2, 2, a⟩
  else none

/-- What a load does to the error counts. -/
def State.loadNote (s : State) (c a : Nat) : State :=
  match dataWordKey c a with
  | none => s
  | some k => if s.coreEcc c a = 1 then s.eccSingle k else if s.coreEcc c a = 2 then s.eccDouble k else s

/-! ### The store buffer (R579) -/

/-- A store reaches its memory: a whole word, a mask, a store to the save area (R27), or nothing in a bank that went off
line. -/
def State.storeTo (s : State) (c : Nat) (b : BufStore) : State :=
  match dataWordKey c b.addr with
  | none => s
  | some k =>
    if s.dataOff c b.addr then s
    else if 0o703000 ≤ b.addr ∧ b.addr < 0o704000 then s.raise MEM_FLAG_SAVEWR
    else if isAlias b.addr then
      if s.eccOf k = 2 then s.eccDouble k else (s.eccNote k).wr k (aliasOp b.addr (s.rd k) b.value)
    else s.wr k b.value

/-- The oldest buffered store leaves the buffer. -/
def State.drainOne (s : State) (c : Nat) : State :=
  match (s.core c).buf with
  | [] => s
  | b :: l => (s.modCore c (fun x => { x with buf := l })).storeTo c b

/-- The store buffer drains. -/
def State.drainAll (s : State) (c : Nat) : State := s.each (s.core c).buf (fun _ s => s.drainOne c)

/-- A store enters the buffer of 8 entries. -/
def State.store (s : State) (c a : Nat) (v : Word) : State :=
  (if 8 ≤ (s.core c).buf.length then s.drainOne c else s).modCore c (fun x => { x with buf := x.buf ++ [⟨a, v⟩] })

/-- Several stores from an address upward. -/
def State.storeList (s : State) (c a : Nat) : List Word → State
  | [] => s
  | w :: l => (s.store c (a % 2 ^ 18) w).storeList c (a + 1) l

/-- The trap that several accesses of one instruction take: MPU before read-only before bank off line before an uncorrectable
error, the first word of each (R604). -/
def firstTrap (l : List Trp) : Option Trp :=
  [(2, 3), (2, 1), (2, 2), (3, 1)].findSome? (fun p => l.find? (fun t => decide (t.vec = p.1 ∧ t.cause = p.2)))

/-- The trap of stores, or of loads, to `n` words from an address. -/
def State.storesTrap (s : State) (c a n : Nat) : Option Trp :=
  firstTrap ((List.range n).filterMap (fun i => s.storeTrap c ((a + i) % 2 ^ 18)))
def State.loadsTrap (s : State) (c a n : Nat) : Option Trp :=
  firstTrap ((List.range n).filterMap (fun i => s.loadTrap c ((a + i) % 2 ^ 18)))

end Sys2Proof.Machine
end

