-- ==== Sys2Proof/Machine/Entry.lean ====
section
/-! DEFINITION. Spills and refills of windows, the entries of traps and interrupts, and what every instruction shares
(R556 to R560, R572 to R577, R587, R601 to R604). -/

namespace Sys2Proof.Machine

/-! ### Spills and refills -/

/-- The trap of a spill, if it fails: no room in the spill area, a frame outside system RAM (R29), or a refused store. -/
def State.spillTrap (s : State) (c : Nat) : Option Trp :=
  let x := s.core c
  if x.spl.toNat < x.spb.toNat + 20 ∨ !inRam x.spb.toNat 20 then some ⟨5, 1, x.spb.toNat⟩ else s.storesTrap c x.spb.toNat 20

/-- The oldest resident window written to its frame. -/
def State.spill (s : State) (c : Nat) : State :=
  let x := s.core c
  (s.storeList c x.spb.toNat (x.frameWords x.oldest)).modCore c (fun x => { x with spb := x.spb + 20, res := x.res - 1 })

/-- The trap of a refill, if it fails. -/
def State.refillTrap (s : State) (c : Nat) : Option Trp :=
  let x := s.core c
  if x.spb.toNat < x.spr.toNat + 20 ∨ !inRam (x.spb.toNat - 20) 20 then some ⟨5, 2, x.spb.toNat⟩
  else s.loadsTrap c (x.spb.toNat - 20) 20

/-- The frame below SPB read into the window below the current one. -/
def State.refill (s : State) (c : Nat) : State :=
  let x := s.core c
  let l := (List.range 20).map (fun i => s.coreWord c (x.spb.toNat - 20 + i))
  (s.each (List.range 20) (fun i s => s.loadNote c (x.spb.toNat - 20 + i))).modCore c (fun x =>
    let y := x.loadFrame ((x.win + 13) % 14) l
    { y with spb := x.spb - 20, res := x.res + 1 })

/-- The windows leave no room: a call needs a spill, a return a refill. -/
def State.callTrap (s : State) (c : Nat) : Option Trp := if (s.core c).res = 14 then s.spillTrap c else none
def State.retTrap (s : State) (c : Nat) : Option Trp := if (s.core c).res ≤ 1 then s.refillTrap c else none

/-- The slide of a call or an entry, after a spill where one is needed (R556). -/
def State.slideIn (s : State) (c ret : Nat) : State :=
  (if (s.core c).res = 14 then s.spill c else s).modCore c (fun x => x.slide ret)

/-! ### Entries (R572 to R577) -/

/-- A double fault: DOUBLEA fences A0 or A1, DOUBLES resets CORE-S. -/
def State.doubleFault (s : State) (c : Nat) : State := if c = 2 then s.record 0 4 2 else s.record 0 3 c

/-- An entry without a slide: the return address and SR stored below ISP; none where a store is refused. -/
def State.enterFlat (s : State) (c ret : Nat) : Option State :=
  let x := s.core c
  let p := (x.isp.toNat + 2 ^ 18 - 3) % 2 ^ 18
  if (s.storesTrap c p 3).isSome then none
  else
    some ((s.storeList c p [toWord (ret / 2 ^ 18), toWord ret, x.sr]).modCore c (fun y =>
      let z : Core := { y with isp := toWord p }
      z.wdUp))

/-- A sliding entry: LK holds the return address and the saved-status slot SR. -/
def State.enterSlide (s : State) (c ret : Nat) : State :=
  let sr := (s.core c).sr
  (s.slideIn c ret).modCore c (fun x => x.putSlot sr)

/-- The FLOW record of a taken branch, a call, a return or an entry at a parcel (R485). -/
def State.flow (s : State) (c p : Nat) : State := s.traceC 0 9 (c * 64 + p / 2 ^ 18) (p % 2 ^ 18) s.faultTime.1

/-- A core fetches a vector. -/
def State.vector (s : State) (c v : Nat) : State :=
  (s.flow c (s.core c).pc).modCore c (fun x => { x with pc := (x.vbr.toNat * 8 + 8 * v) % 2 ^ 21, run := .running })

/-- TCA and TAD of a trap; then IE is 0 and its vector is fetched. -/
def State.setTca (s : State) (c : Nat) (t : Trp) : State :=
  s.modCore c (fun x => { x with tca := toWord (t.vec * 4096 + t.cause * 64 + t.tad / 2 ^ 18), tad := toWord t.tad })
def State.trapVector (s : State) (c v : Nat) : State := (s.modCore c (fun x => x.setSr 11 11 0)).vector c v

/-- A trap entered without a slide. -/
def State.trapFlat (s : State) (c : Nat) (t : Trp) (ret : Nat) : State :=
  match (s.setTca c t).enterFlat c ret with
  | some s => s.trapVector c t.vec
  | none => s.doubleFault c

/-- The window trap in place of an entry whose spill fails (R577). -/
def State.spillEntry (s : State) (c ret : Nat) : State := s.trapFlat c ⟨5, 1, (s.core c).spb.toNat⟩ ret

/-- The entry of a trap with its return address; `again` is the address at which the instruction runs again. -/
def State.trapEntry (s : State) (c : Nat) (t : Trp) (ret again : Nat) : State :=
  if t.vec = 5 ∨ bitAt (s.core c).ctl.toNat 16 then s.trapFlat c t ret
  else if (s.callTrap c).isSome then s.spillEntry c again
  else ((s.setTca c t).enterSlide c ret).trapVector c t.vec

/-- Everything in flight lands, and the arithmetic trap of a division by zero is taken in place of what follows (R567,
R601, R604). -/
def State.landed (s : State) (c : Nat) (f : State → State) : State :=
  let x := s.core c
  let t := s.modCore c Core.landAll
  match x.dzPending with
  | some p => t.trapEntry c ⟨4, 1, p⟩ x.pc x.pc
  | none => f t

/-- A trap whose return address is the trapping instruction. -/
def State.trap (s : State) (c : Nat) (t : Trp) : State :=
  s.landed c (fun s => s.trapEntry c t (s.core c).pc (s.core c).pc)

/-- The entry of an interrupt of priority `p` (R573). -/
def State.interrupt (s : State) (c p : Nat) : State :=
  s.landed c (fun s =>
    let pc := (s.core c).pc
    if s.bit (ICU_CMSEL_CMSEL c) p then
      match s.enterFlat c pc with
      | some s => (s.modCore c (fun x => x.setSr 10 7 p)).vector c (16 + p)
      | none => s.doubleFault c
    else if (s.callTrap c).isSome then s.spillEntry c pc
    else ((s.enterSlide c pc).modCore c (fun x => x.setSr 10 7 p)).vector c (16 + p))

/-! ### Instructions -/

/-- The trap of the fetch of an instruction of `n` parcels (R25, R38). -/
def State.fetchTrap (s : State) (c n : Nat) : Option Trp :=
  (List.range n).findSome? (fun i =>
    let p := ((s.core c).pc + i) % 2 ^ 21
    if 0o4000000 ≤ p ∧ p < 0o7760000 then some ⟨1, 1, p⟩
    else if 0o7760000 ≤ p then (if c = 2 then none else some ⟨1, 2, p⟩)
    else if s.eccOf (codeKey s.activeBank p) = 2 then some ⟨1, 3, p⟩
    else none)

/-- The errors that the fetch meets, counted. -/
def State.fetchNote (s : State) (c n : Nat) : State :=
  s.each (List.range n) (fun i s =>
    let p := ((s.core c).pc + i) % 2 ^ 21
    if p < 0o4000000 then s.eccNote (codeKey s.activeBank p) else s)

/-- An illegal-instruction trap of a cause, when a condition holds. -/
def State.ill (s : State) (c cause : Nat) (bad : Bool) : Option Trp := if bad then some ⟨0, cause, (s.core c).pc⟩ else none

/-- A two-parcel instruction at the end parcel of an active level (R603). -/
def State.atLoopEnd (s : State) (c n : Nat) : Bool :=
  decide (n = 2) && (List.range 4).any (fun k => (s.core c).active k && decide ((s.core c).lpeOf k = (s.core c).pc))

/-- A running core. -/
def State.runs (s : State) (c : Nat) : Bool := !s.coreDown c

/-- An instruction of `n` parcels on a core: it acts only while the core runs; it takes the first of its traps, in the
order of R604, or has its effect. `bad` holds its traps before and `late` those after the loop-body trap of R603. -/
def State.instr (s : State) (c n : Nat) (bad late : List (Option Trp)) (act : State → State) : State :=
  if !s.runs c then s
  else
    match (s.fetchTrap c n :: bad ++ s.ill c 4 (s.atLoopEnd c n) :: late).findSome? id with
    | some t => (if t.vec = 3 then (s.fetchNote c n).loadNote c t.tad else s.fetchNote c n).trap c t
    | none => act (s.fetchNote c n)

end Sys2Proof.Machine
end

