-- ==== Sys2Proof/Machine/Alu.lean ====
section
/-! DEFINITION. The arithmetic, logic, move, shift and bit instructions of the Raloa-18 (R593, R594), its multiplications
and divisions (R565, R566, R595, R601), and MFS and MTS (R563) but for CLM. -/

namespace Sys2Proof.Machine

/-! ### Shapes -/

/-- An instruction of `n` parcels that changes only its core. -/
def State.coreOp (s : State) (c : CoreId) (n : Nat) (bad : List (Option Trp)) (f : Core → Core) : State :=
  s.instr c.num n bad [] (fun s => s.modCore c.num (fun x => (f x).next n))

/-- An instruction that writes a result and its flags to `rd`. -/
def State.aluOp (s : State) (c : CoreId) (n rd : Nat) (r : Core → Res) : State := s.coreOp c n [] (fun x => x.result rd (r x))

/-- An instruction that only sets flags. -/
def State.flagOp (s : State) (c : CoreId) (n : Nat) (r : Core → Res) : State := s.coreOp c n [] (fun x => x.flags (r x))

/-- An instruction that writes a value without flags. -/
def State.movOp (s : State) (c : CoreId) (n rd : Nat) (v : Core → Word) : State := s.coreOp c n [] (fun x => x.put rd (v x))

/-- IMM7 sign-extended. -/
def sext7 (i : BitVec 7) : Word := i.signExtend 18

/-- C as a number. -/
def Core.cn (x : Core) : Nat := b2n x.c

/-! ### Register operands (R593) -/

def execNop (c : CoreId) (s : State) : Out State := .next (s.coreOp c 1 [] id)
def execAdd (c : CoreId) (rd rs : Fin 32) (s : State) : Out State := .next (s.aluOp c 1 rd (fun x => addRes (x.get rd) (x.get rs) 0))
def execAdc (c : CoreId) (rd rs : Fin 32) (s : State) : Out State := .next (s.aluOp c 1 rd (fun x => addRes (x.get rd) (x.get rs) x.cn))
def execSub (c : CoreId) (rd rs : Fin 32) (s : State) : Out State := .next (s.aluOp c 1 rd (fun x => subRes (x.get rd) (x.get rs) 0))
def execSbc (c : CoreId) (rd rs : Fin 32) (s : State) : Out State := .next (s.aluOp c 1 rd (fun x => subRes (x.get rd) (x.get rs) x.cn))
def execAnd (c : CoreId) (rd rs : Fin 32) (s : State) : Out State := .next (s.aluOp c 1 rd (fun x => plainRes (x.get rd &&& x.get rs)))
def execOr (c : CoreId) (rd rs : Fin 32) (s : State) : Out State := .next (s.aluOp c 1 rd (fun x => plainRes (x.get rd ||| x.get rs)))
def execXor (c : CoreId) (rd rs : Fin 32) (s : State) : Out State := .next (s.aluOp c 1 rd (fun x => plainRes (x.get rd ^^^ x.get rs)))
def execAndn (c : CoreId) (rd rs : Fin 32) (s : State) : Out State := .next (s.aluOp c 1 rd (fun x => plainRes (x.get rd &&& ~~~x.get rs)))
def execMov (c : CoreId) (rd rs : Fin 32) (s : State) : Out State := .next (s.movOp c 1 rd (fun x => x.get rs))
def execNeg (c : CoreId) (rd rs : Fin 32) (s : State) : Out State := .next (s.aluOp c 1 rd (fun x => subRes 0 (x.get rs) 0))
def execNegs (c : CoreId) (rd rs : Fin 32) (s : State) : Out State := .next (s.aluOp c 1 rd (fun x => satRes (subRes 0 (x.get rs) 0)))
def execNot (c : CoreId) (rd rs : Fin 32) (s : State) : Out State := .next (s.aluOp c 1 rd (fun x => plainRes (~~~x.get rs)))
def execCmp (c : CoreId) (rd rs : Fin 32) (s : State) : Out State := .next (s.flagOp c 1 (fun x => subRes (x.get rd) (x.get rs) 0))
def execTst (c : CoreId) (rd rs : Fin 32) (s : State) : Out State := .next (s.flagOp c 1 (fun x => plainRes (x.get rd &&& x.get rs)))
def execAdds (c : CoreId) (rd rs : Fin 32) (s : State) : Out State := .next (s.aluOp c 1 rd (fun x => satRes (addRes (x.get rd) (x.get rs) 0)))
def execSubs (c : CoreId) (rd rs : Fin 32) (s : State) : Out State := .next (s.aluOp c 1 rd (fun x => satRes (subRes (x.get rd) (x.get rs) 0)))
def execSxb (c : CoreId) (rd rs : Fin 32) (s : State) : Out State := .next (s.aluOp c 1 rd (fun x => plainRes (sxb (x.get rs))))
def execZxb (c : CoreId) (rd rs : Fin 32) (s : State) : Out State := .next (s.aluOp c 1 rd (fun x => plainRes (zxb (x.get rs))))
def execSwb (c : CoreId) (rd rs : Fin 32) (s : State) : Out State := .next (s.aluOp c 1 rd (fun x => plainRes (swb (x.get rs))))
def execClz (c : CoreId) (rd rs : Fin 32) (s : State) : Out State := .next (s.aluOp c 1 rd (fun x => plainRes (clz (x.get rs))))

/-! ### Immediates (R593) -/

def execAddi (c : CoreId) (rd : Fin 32) (i : BitVec 7) (s : State) : Out State := .next (s.aluOp c 1 rd (fun x => addRes (x.get rd) (sext7 i) 0))
def execMovi (c : CoreId) (rd : Fin 32) (i : BitVec 7) (s : State) : Out State := .next (s.movOp c 1 rd (fun _ => sext7 i))
def execCmpi (c : CoreId) (rd : Fin 32) (i : BitVec 7) (s : State) : Out State := .next (s.flagOp c 1 (fun x => subRes (x.get rd) (sext7 i) 0))
def execMovl (c : CoreId) (rd : Fin 32) (i : Word) (s : State) : Out State := .next (s.movOp c 2 rd (fun _ => i))
def execAddl (c : CoreId) (rd rs : Fin 32) (i : Word) (s : State) : Out State := .next (s.aluOp c 2 rd (fun x => addRes (x.get rs) i 0))
def execAndl (c : CoreId) (rd rs : Fin 32) (i : Word) (s : State) : Out State := .next (s.aluOp c 2 rd (fun x => plainRes (x.get rs &&& i)))
def execOrl (c : CoreId) (rd rs : Fin 32) (i : Word) (s : State) : Out State := .next (s.aluOp c 2 rd (fun x => plainRes (x.get rs ||| i)))
def execXorl (c : CoreId) (rd rs : Fin 32) (i : Word) (s : State) : Out State := .next (s.aluOp c 2 rd (fun x => plainRes (x.get rs ^^^ i)))
def execSubl (c : CoreId) (rd rs : Fin 32) (i : Word) (s : State) : Out State := .next (s.aluOp c 2 rd (fun x => subRes (x.get rs) i 0))
def execCmpl (c : CoreId) (rs : Fin 32) (i : Word) (s : State) : Out State := .next (s.flagOp c 2 (fun x => subRes (x.get rs) i 0))
def execTstl (c : CoreId) (rs : Fin 32) (i : Word) (s : State) : Out State := .next (s.flagOp c 2 (fun x => plainRes (x.get rs &&& i)))
def execLea (c : CoreId) (rd rs : Fin 32) (i : Word) (s : State) : Out State := .next (s.movOp c 2 rd (fun x => x.get rs + i))

/-! ### Shifts and bits (R594) -/

/-- The amount of a shift by a register. -/
def Core.amount (x : Core) (rs : Nat) : Nat := (x.get rs).toNat % 32

def execShl (c : CoreId) (rd rs : Fin 32) (s : State) : Out State := .next (s.aluOp c 1 rd (fun x => shlRes (x.get rd) (x.amount rs)))
def execShr (c : CoreId) (rd rs : Fin 32) (s : State) : Out State := .next (s.aluOp c 1 rd (fun x => shrRes (x.get rd) (x.amount rs)))
def execSar (c : CoreId) (rd rs : Fin 32) (s : State) : Out State := .next (s.aluOp c 1 rd (fun x => sarRes (x.get rd) (x.amount rs)))
def execRor (c : CoreId) (rd rs : Fin 32) (s : State) : Out State := .next (s.aluOp c 1 rd (fun x => rorRes (x.get rd) (x.amount rs)))

/-- N of a shift or bit instruction is 0 to 17; any other value is a reserved field (R590). -/
def State.nBad (s : State) (c : CoreId) (n : Nat) : List (Option Trp) := [s.ill c.num 2 (decide (17 < n))]

/-- A shift by N. -/
def State.shiftOp (s : State) (c : CoreId) (rd n : Nat) (f : Word → Nat → Res) : State :=
  s.coreOp c 1 (s.nBad c n) (fun x => x.result rd (f (x.get rd) n))

def execShli (c : CoreId) (rd n : Fin 32) (s : State) : Out State := .next (s.shiftOp c rd n shlRes)
def execShri (c : CoreId) (rd n : Fin 32) (s : State) : Out State := .next (s.shiftOp c rd n shrRes)
def execSari (c : CoreId) (rd n : Fin 32) (s : State) : Out State := .next (s.shiftOp c rd n sarRes)
def execRori (c : CoreId) (rd n : Fin 32) (s : State) : Out State := .next (s.shiftOp c rd n rorRes)

/-- A bit instruction: Z tells that the bit was 0. -/
def State.bitOp (s : State) (c : CoreId) (rd n : Nat) (f : Word → Word → Word) : State :=
  s.coreOp c 1 (s.nBad c n) (fun x => (x.setSr 16 16 (b2n (!(x.get rd).getLsbD n))).put rd (f (x.get rd) (toWord (2 ^ n))))

def execBset (c : CoreId) (rd n : Fin 32) (s : State) : Out State := .next (s.bitOp c rd n (fun w m => w ||| m))
def execBclr (c : CoreId) (rd n : Fin 32) (s : State) : Out State := .next (s.bitOp c rd n (fun w m => w &&& ~~~m))
def execBtgl (c : CoreId) (rd n : Fin 32) (s : State) : Out State := .next (s.bitOp c rd n (fun w m => w ^^^ m))
def execBtst (c : CoreId) (rd n : Fin 32) (s : State) : Out State := .next (s.bitOp c rd n (fun w _ => w))

/-! ### Multiply and divide (R565, R566, R595, R601) -/

/-- A product issued. -/
def State.mulOp (s : State) (c : CoreId) (rd rs : Nat) (mac : Bool) (p : Word → Word → Int) : State :=
  s.coreOp c 1 [] (fun x => x.issueMul ⟨mac, wrapTo (if mac then 54 else 36) (p (x.get rd) (x.get rs))⟩)

def execMuls (c : CoreId) (rd rs : Fin 32) (s : State) : Out State := .next (s.mulOp c rd rs false mulSigned)
def execMulu (c : CoreId) (rd rs : Fin 32) (s : State) : Out State := .next (s.mulOp c rd rs false mulUnsigned)
def execMacs (c : CoreId) (rd rs : Fin 32) (s : State) : Out State := .next (s.mulOp c rd rs true mulSigned)
def execMacu (c : CoreId) (rd rs : Fin 32) (s : State) : Out State := .next (s.mulOp c rd rs true mulUnsigned)

/-- A core whose results in flight land: running or halted, in a running domain. -/
def State.lives (s : State) (c : Nat) : Bool :=
  decide ((s.core c).run = .running ∨ (s.core c).run = .halted) && s.domOn (if c = 2 then .coreS else .coreA)

/-- PRODUCT_LANDING: the oldest product in flight. -/
def execProductLanding (c : CoreId) (s : State) : Out State :=
  .next (if s.lives c.num then s.modCore c.num Core.landMul else s)

/-- The division in flight of a core lands; one that takes the arithmetic trap takes it at this boundary. -/
def State.landDivision (s : State) (c : Nat) : State :=
  if (s.core c).dzPending.isSome then s.landed c id else s.modCore c Core.landDiv

/-- A division issued, once an earlier one has landed; a trap of the earlier one comes first. -/
def State.divOp (s : State) (c : CoreId) (rd rs : Nat) (f : Word → Word → Word × Word × Bool × Bool) : State :=
  s.instr c.num 1 [] [] (fun s =>
    if (s.core c.num).dzPending.isSome then s.landed c.num id
    else
      s.modCore c.num (fun x =>
        let y := x.landDiv
        let q := f (y.get rd) (y.get rs)
        let d : DivFlight := ⟨q.1, q.2.1, q.2.2.1, q.2.2.2, y.pc⟩
        let z : Core := { y with div := some d }
        z.next 1))

def execDivs (c : CoreId) (rd rs : Fin 32) (s : State) : Out State := .next (s.divOp c rd rs divSigned)
def execDivu (c : CoreId) (rd rs : Fin 32) (s : State) : Out State := .next (s.divOp c rd rs divUnsigned)

/-- DIVISION_LANDING. -/
def execDivisionLanding (c : CoreId) (s : State) : Out State := .next (if s.lives c.num then s.landDivision c.num else s)

/-! ### MTS (R563) -/

/-- MTS: the loop levels act as before it, and the written register takes effect at the next boundary (R604). -/
def execMts (c : CoreId) (sn : Fin 64) (r : Fin 32) (s : State) : Out State :=
  .next (s.instr c.num 1 [s.ill c.num 1 (!sprListed sn || sprRo sn)] [] (fun s =>
    s.modCore c.num (fun x => ((x.next 1).setSpecial sn (x.get r)))))

end Sys2Proof.Machine
end

