-- ==== Sys2Proof/Machine/ImgLow.lean ====
section
/-! DEFINITION. The Higus image header, its authenticity, and the boot record rows (R500, R512, R513). -/

namespace Sys2Proof.Machine

/-- A parcel of a header held as a list of 128 parcels. -/
def hp (h : List Word) (i : Nat) : Nat := (h.getD i 0).toNat

/-- A 21-bit value in two parcels; a first parcel with other bits set gives a value out of every range. -/
def hp2 (h : List Word) (i : Nat) : Nat := hp h i * 2 ^ 18 + hp h (i + 1)

/-- Fields of a header. -/
def hdrSchema (h : List Word) : Nat := hp h 1 % 4096
def hdrVersion (h : List Word) : Nat := (hp h 4 % 65536) * 65536 + hp h 5 % 65536
def hdrL (h : List Word) : Nat := hp2 h 6
def hdrEntry (h : List Word) : Nat := hp2 h 8
def hdrDefOfs (h : List Word) : Nat := hp2 h 10
def hdrDefLen (h : List Word) : Nat := hp h 12
def hdrReset (h : List Word) : Nat := hp h 13 % 65536
def hdrMigr (h : List Word) : Bool := bitAt (hp h 14) 0

/-- The checks of a header. -/
def hdrMagicOk (h : List Word) : Bool := decide (hp h 0 = 0o144765)
def hdrFormatOk (h : List Word) : Bool := decide (hp h 1 / 4096 = 1)
def hdrTargetOk (h : List Word) : Bool := decide (hp h 2 = 0o006400 ∧ hp h 3 = 0o21)
def hdrLenOk (h : List Word) : Bool := decide (1 ≤ hdrL h ∧ hdrL h ≤ 1044352)
def hdrEntryOk (h : List Word) : Bool := decide (128 ≤ hdrEntry h ∧ hdrEntry h < 128 + hdrL h)
def hdrDefsOk (h : List Word) : Bool :=
  decide (hdrDefLen h = 0 ∨ (hdrDefLen h ≤ 65518 ∧ 128 ≤ hdrDefOfs h ∧ hdrDefOfs h + hdrDefLen h ≤ 128 + hdrL h))

/-- Bytes of header fields wider than a parcel: 16 bits to a parcel. -/
def hdrBytes (h : List Word) (i n : Nat) : List Nat :=
  (List.range n).flatMap (fun k => [hp h (i + k) / 256 % 256, hp h (i + k) % 256])

/-- An authentic header (R513). -/
def State.authentic (s : State) (h : List Word) : Bool :=
  let hash := (List.range 16).flatMap (fun k => [s.otp (0o400 + k) / 256 % 256, s.otp (0o400 + k) % 256])
  bitAt (s.otp 0o420) 0 && decide (sha256 (hdrBytes h 48 32) = hash)
    && ecdsaBytes (sha256 ((List.range 80).flatMap (fun i => threeBytes (hp h i)))) (hdrBytes h 48 32) (hdrBytes h 80 32)

/-- The header in a code bank. -/
def State.bankHdr (s : State) (b : Nat) : List Word := (List.range 128).map (fun i => s.rd (codeKey b i))

/-- SHA-256 of the body in a code bank. -/
def State.bodyHash (s : State) (b l : Nat) : List Nat :=
  sha256 ((List.range l).flatMap (fun i => threeBytes (s.rd (codeKey b (128 + i))).toNat))

/-! ### The boot record (R500) -/

/-- The first parcel of a row: 0 INSTALLED, 1 CONFIRMED, 2 REJECTED, 3 to 5 ATTEMPT 1 to 3. -/
def bootRow (r : Nat) : Nat := 0o3770000 + 8 * r

/-- A row that is written, and the row programmed. -/
def State.bootWritten (s : State) (b r : Nat) : Bool := s.rowWritten b (bootRow r)
def State.bootProg (s : State) (b r : Nat) : State := s.progRow b (bootRow r) (List.replicate 8 0o525252)

/-- The state of a bank: 0 EMPTY, 1 TRIAL, 2 CONFIRMED, 3 REJECTED. -/
def State.bankState (s : State) (b : Nat) : Nat :=
  if !s.bootWritten b 0 then 0 else if s.bootWritten b 2 then 3 else if s.bootWritten b 1 then 2 else 1

/-- ATTEMPT rows written. -/
def State.attempts (s : State) (b : Nat) : Nat := ([3, 4, 5].filter (fun r => s.bootWritten b r)).length

/-- The image version that a bank holds. -/
def State.bankVersion (s : State) (b : Nat) : Nat := hdrVersion (s.bankHdr b)

end Sys2Proof.Machine
end

