-- ==== Sys2Proof/Machine/ZswCore.lean ====
section
/-! DEFINITION. The switch core's storage, forwarding, marking and admission (R363 to R377, R402), which every sender of
frames uses. -/

namespace Sys2Proof.Machine

/-! ### Headers (R366 to R368) -/

/-- What the forwarding decision reads of a frame. -/
structure ZHead where
  dst : Nat
  src : Nat
  vid : Nat
  pri : Nat
  /-- tagged with a VID other than 0 -/
  tagged : Bool
  dei : Bool
  ety : Nat
  /-- first byte after the EtherType -/
  off : Nat
  deriving DecidableEq, Repr

/-- Bytes `i` to `i + n - 1` of a frame as a number. -/
def byteField (b : List Byte) (i n : Nat) : Nat := beNat (sliceD b i n 0)

/-- The header of a frame that arrives on a port; `ovr` is the priority that TXFRAME gives an untagged frame. -/
def State.zHead (s : State) (p : Nat) (b : List Byte) (ovr : Option Nat) : ZHead :=
  let tag := decide (byteField b 12 2 = 0x8100)
  let tci := byteField b 14 2
  let real := tag && decide (tci % 4096 ≠ 0)
  { dst := byteField b 0 6,
    src := byteField b 6 6,
    vid := if real then tci % 4096 else s.fld (ZSW_PVID_PVID p),
    pri := if tag then tci / 8192 else ovr.getD (s.fld (ZSW_PCFG_DPCP p)),
    tagged := real,
    dei := tag && bitAt tci 12,
    ety := if tag then byteField b 16 2 else byteField b 12 2,
    off := if tag then 18 else 14 }

/-- The host port MAC address. -/
def State.hostMac (s : State) : Nat :=
  s.fld ETH_HMAC0_MAC * 2 ^ 32 + s.fld ETH_HMAC1_MAC * 2 ^ 16 + s.fld ETH_HMAC2_MAC

/-- The VLAN entry of a VID. -/
def State.vlanOf (s : State) (v : Nat) : Option Nat :=
  (List.range 64).find? (fun e => s.on (ZSW_VLAN_EN e) && decide (s.fld (ZSW_VLAN_VID e) = v))

/-- Whether an address is a group address. -/
def isGroup (mac : Nat) : Bool := bitAt mac 40

/-- The MAC table entry of a VID and address. -/
def State.macOf (s : State) (v m : Nat) : Option ZMac :=
  s.zsw.macs.find? (fun e => decide (e.vid = v ∧ e.mac = m))

/-- The enabled path group that a port is a member of (R371). -/
def State.groupOf (s : State) (p : Nat) : Option Nat :=
  (List.range 4).find? (fun g => s.on (ZSW_PGCFG_EN g)
    && (List.range 4).any (fun i => decide (bitsOf (s.fld (ZSW_PGMEM_MEM g)) (4 * i + 3) (4 * i) = p)))

/-- Rates in 16 kbit/s of the ports (R364, R376). -/
def portRate (p : Nat) : Nat := [62500, 62500, 6250, 6250, 6250, 6250, 625, 625, 125000, 62500].getD p 0

/-! ### Egress: bytes and credit (R369, R404) -/

/-- A frame's bytes as an egress port sends them, without FCS. -/
def State.egressBytes (s : State) (p : Nat) (f : ZFrame) : List Byte :=
  let tag := decide (byteField f.bytes 12 2 = 0x8100)
  let dei := if tag then byteField f.bytes 14 2 / 4096 % 2 else 0
  let rest := f.bytes.drop (if tag then 16 else 12)
  let unt := match s.vlanOf f.vid with
    | some v => s.bit (ZSW_VUNT_UNT v) p
    | none => false
  if unt then
    let b := f.bytes.take 12 ++ rest
    b ++ List.replicate (60 - b.length) Config.padByte
  else f.bytes.take 12 ++ natBe 2 0x8100 ++ natBe 2 (f.pri * 8192 + dei * 4096 + f.vid) ++ rest

/-- Credit of a queue in 1/62500 byte, kept within its limits (R404). -/
def State.credit (s : State) (k : Nat) : Int := smGet (fun _ => 0) s.eth.credit k
def State.setCredit (s : State) (k : Nat) (v : Int) : State :=
  let hi : Int := s.fld (ETH_QHI_HI k) * 62500
  let lo : Int := -(s.fld (ETH_QLO_LO k) * 62500 : Nat)
  let v := if hi < v then hi else if v < lo then lo else v
  (s.modEth (fun e => { e with credit := smPut (fun _ => 0) e.credit k v })).setFld (ETH_QCRD_CRD k) (wrapTo 18 (v / 62500))

/-- A queue that has emptied with positive credit loses it. -/
def State.creditEmpty (s : State) (p q : Nat) : State :=
  let k := p * 8 + q
  if (s.zQueue p q).isEmpty && s.on (ETH_QSH_EN k) && decide (0 < s.credit k) then s.setCredit k 0 else s

/-- The credits after `n` bytes on the wire from a queue of a port. -/
def State.creditSent (s : State) (p q n : Nat) : State :=
  let r := portRate p
  s.each (List.range 8) (fun j s =>
    let k := p * 8 + j
    if !s.on (ETH_QSH_EN k) then s
    else if j = q then s.setCredit k (s.credit k + (n : Int) * ((s.fld (ETH_QSH_ISLOPE k) : Int) - r) * (62500 / r : Nat))
    else if (s.zQueue p j).isEmpty then s
    else s.setCredit k (s.credit k + ((n * s.fld (ETH_QSH_ISLOPE k) * (62500 / r) : Nat) : Int)))
    |>.creditEmpty p q

/-! ### The MAC table (R370) -/

/-- The table replaced, with the count of entries in use. -/
def State.setMacs (s : State) (l : List ZMac) : State :=
  (s.modZsw (fun z => { z with macs := l })).setFld ZSW_MSTAT_COUNT l.length

/-- The set of a VID and address has no room. -/
def State.macFull (s : State) (v m : Nat) : Bool :=
  decide (4 ≤ (s.zsw.macs.filter (fun e => decide (Config.macSet e.vid e.mac = Config.macSet v m))).length)

/-- Learning of a frame's source address on its ingress port. -/
def State.macLearn (s : State) (p : Nat) (h : ZHead) : State :=
  let (pg, mask) := match s.groupOf p with
    | some g => (true, g)
    | none => (false, 2 ^ p)
  if isGroup h.src || !s.on (ZSW_PCFG_LRN p) then s
  else
    match s.macOf h.vid h.src with
    | some e =>
      if e.static || decide (e.pg = pg ∧ e.mask = mask) then s
      else
        (s.setMacs (s.zsw.macs.map (fun x => if x = e then { x with pg := pg, mask := mask } else x))).count
          ZSW_MLRN_MOVES
    | none =>
      if s.macFull h.vid h.src then (s.count ZSW_MLRN_LFULL).raise ZSW_FLAG_LRNFULL
      else s.setMacs (s.zsw.macs ++ [⟨h.vid, h.src, false, pg, mask⟩])

/-- The learned entries of a port removed. -/
def State.macFlushPort (s : State) (p : Nat) : State :=
  s.setMacs (s.zsw.macs.filter (fun e => e.static || e.pg || !bitAt e.mask p))

/-! ### Path groups (R371 to R373) -/

/-- One byte of CRC-16 with polynomial 0x1021. -/
def crc16Byte (c : Nat) (b : Byte) : Nat :=
  (List.range 8).foldl (fun x i =>
    let top := bitAt x 15 != bitAt b.toNat (7 - i)
    let y := x * 2 % 65536
    if top then (BitVec.ofNat 16 y ^^^ 0x1021#16).toNat else y) c

/-- CRC-16 with initial value 0xFFFF. -/
def crc16 (bs : List Byte) : Nat := bs.foldl crc16Byte 0xFFFF

/-- The bytes of the flow hash (R372). -/
def flowBytes (b : List Byte) (h : ZHead) (ip : Bool) : List Byte :=
  let o := h.off
  let frag := byteField b (o + 6) 2
  let proto := byteField b (o + 9) 1
  let ihl := byteField b o 1 % 16 * 4
  natBe 6 h.dst ++ natBe 6 h.src ++ natBe 2 h.vid ++ natBe 2 h.ety
    ++ (if ip && decide (h.ety = 0x0800) then
          sliceD b (o + 12) 8 0 ++ sliceD b (o + 9) 1 0
            ++ (if decide ((proto = 6 ∨ proto = 17) ∧ frag % 8192 = 0 ∧ bitAt frag 13 = false) then sliceD b (o + ihl) 4 0
                else [])
        else [])

/-- The bucket of a frame in a path group. -/
def State.bucketOf (s : State) (g : Nat) (b : List Byte) (h : ZHead) : Nat :=
  crc16 (flowBytes b h (s.on (ZSW_PGCFG_HSEL g))) % 16

/-- The port of a member index of a group; 15 names none. -/
def State.pgPort (s : State) (g i : Nat) : Nat := bitsOf (s.fld (ZSW_PGMEM_MEM g)) (4 * i + 3) (4 * i)

/-- A bucket's home and current member. -/
def State.pgHome (s : State) (g b : Nat) : Nat := bitsOf (s.fld (ZSW_PGHOME_HOME g (b / 8))) (2 * (b % 8) + 1) (2 * (b % 8))
def State.pgCur (s : State) (g b : Nat) : Nat := bitsOf (s.fld (ZSW_PGCUR_CUR g (b / 8))) (2 * (b % 8) + 1) (2 * (b % 8))

/-- A bucket moved to a member. -/
def State.pgMove (s : State) (g b i : Nat) : State :=
  s.setFld (ZSW_PGCUR_CUR g (b / 8)) (putBits (s.fld (ZSW_PGCUR_CUR g (b / 8))) (2 * (b % 8) + 1) (2 * (b % 8)) i)
    |>.setBitF (ZSW_PGSTAT_DEAD g) b false
    |>.count (ZSW_PGMOVE_MOVES g)
    |>.raise ZSW_FLAG_PGMOV
    |>.modZsw (fun z => { z with moveDue := z.moveDue.filter (fun k => decide (k ≠ g * 16 + b)) })

/-- Frames of a bucket queued, or being sent, on its current member. -/
def State.pgCount (s : State) (g b : Nat) : Nat :=
  (s.zsw.queues.foldl (fun n e => n + (e.2.filter (fun x => decide (x.bucket = some (g * 16 + b)))).length) 0)
    + (s.zsw.sending.filter (fun e => decide (e.2.bucket = some (g * 16 + b)))).length

/-- A member that can take frames: UP or HOLD. -/
def State.pgLive (s : State) (g i : Nat) : Bool :=
  let p := s.pgPort g i
  decide (p < 10 ∧ (s.zPort p = 1 ∨ s.zPort p = 2))

/-- Failover of the buckets whose current member is a port that entered DOWN. -/
def State.pgFail (s : State) (p : Nat) : State :=
  s.each (List.range 64) (fun k s =>
    let g := k / 16
    let b := k % 16
    let i := s.pgCur g b
    if s.on (ZSW_PGCFG_EN g) && decide (s.pgPort g i = p) then
      match [1, 2, 3].find? (fun d => s.pgLive g ((i + d) % 4)) with
      | some d => s.pgMove g b ((i + d) % 4)
      | none => s.setBitF (ZSW_PGSTAT_DEAD g) b true
    else s)

/-- Dead buckets moved to a member that entered UP. -/
def State.pgRevive (s : State) (p : Nat) : State :=
  s.each (List.range 64) (fun k s =>
    let g := k / 16
    let b := k % 16
    match (List.range 4).find? (fun i => decide (s.pgPort g i = p)) with
    | some i => if s.on (ZSW_PGCFG_EN g) && s.bit (ZSW_PGSTAT_DEAD g) b then s.pgMove g b i else s
    | none => s)

/-! ### Marking (R402) -/

/-- The time from one reading of the master counter to a later one. -/
def mcDiff (a b : Nat) : Nat := (a + 2 ^ 70 - b) % 2 ^ 70

/-- The master counter loaded: what it has marked keeps its age (R366, R378, R402, R408). -/
def State.setCounter (s : State) (v : Nat) : State :=
  let d := mcDiff v s.eth.mc
  (s.modEth (fun e => { e with mc := v })).each (s.eth.markers.map Prod.fst) (fun k s =>
      let m : Marker := smGet (fun _ => {}) s.eth.markers k
      s.modEth (fun e => { e with markers := smPut (fun _ => {}) e.markers k { m with at64 := (m.at64 + d) % 2 ^ 70 } }))
    |>.each (s.zsw.holdAt.map Prod.fst) (fun k s => s.modZsw (fun z => { z with holdAt := nPut z.holdAt k ((nGet z.holdAt k + d) % 2 ^ 70) }))
    |>.modZsw (fun z => { z with
      frames := z.frames.map (fun e => (e.1, { e.2 with arrival := (e.2.arrival * 64 + d) / 64 % 2 ^ 64 })) })

/-- Rate in 64 kbit/s and ingress port's units: a bucket filled since its last use, in 1/8000000 byte. -/
def fillBucket (have_ rate dt cap : Nat) : Nat :=
  let v := have_ + rate * dt
  if v ≤ cap * 256 * 8000000 then v else cap * 256 * 8000000

/-- The colour of a frame of `n` bytes on ingress, 0 green, 1 yellow, 2 red. -/
def State.mark (s : State) (p : Nat) (h : ZHead) (n : Nat) : State × Nat :=
  let k := p * 8 + h.pri
  if !s.on (ETH_MCFG_EN k) then (s, 0)
  else
    let m := smGet (fun _ => {}) s.eth.markers k
    let dt := mcDiff s.eth.mc m.at64
    let pk := fillBucket m.p (s.fld (ETH_MPIR_PIR k)) dt (s.fld (ETH_MBS_PBS k))
    let ck := fillBucket m.c (s.fld (ETH_MCFG_CIR k)) dt (s.fld (ETH_MBS_CBS k))
    let b := n * 8000000
    let yellow := s.on (ETH_MCFG_AWARE k) && h.dei
    let col : Nat := if pk < b then 2 else if yellow || decide (ck < b) then 1 else 0
    let m2 : Marker := ⟨if col = 0 then ck - b else ck, if col = 2 then pk else pk - b, s.eth.mc⟩
    let s := s.modEth (fun e => { e with markers := smPut (fun _ => {}) e.markers k m2 })
    ((s.when (decide (col = 1)) (fun s => s.count (ETH_MCNT_YELLOW k))).when (decide (col = 2))
      (fun s => s.count (ETH_MCNT_RED k)), col)

/-! ### Admission (R374, R375) -/

/-- The random early drop register stepped. -/
def lfsrStep (l : Nat) : Nat :=
  let b := (l + l / 4 + l / 8 + l / 32) % 2
  l / 2 + b * 32768

/-- The random early drop test of a queue for a colour: the state after it, and whether the frame is admitted. -/
def State.redTest (s : State) (k col : Nat) (depth : Nat) : State × Bool :=
  let r := s.fld (ZSW_QCFG_PROF k)
  let w := s.fld (ZSW_RCFG_W r)
  let a0 := nGet s.zsw.avg k
  let d := depth * 65536
  let a := if a0 ≤ d then a0 + (d - a0) / 2 ^ w else a0 - (a0 - d) / 2 ^ w
  let mn := [s.fld (ZSW_RMIN0_MIN r), s.fld (ZSW_RMIN1_MIN r), s.fld (ZSW_RMIN2_MIN r)].getD col 0
  let mx := [s.fld (ZSW_RMAX0_MAX r), s.fld (ZSW_RMAX1_MAX r), s.fld (ZSW_RMAX2_MAX r)].getD col 0
  let pm := [s.fld (ZSW_RMIN0_PMAX r), s.fld (ZSW_RMIN1_PMAX r), s.fld (ZSW_RMIN2_PMAX r)].getD col 0
  let l := lfsrStep s.zsw.lfsr
  let drop := if a < mn * 65536 then false
    else if mx * 65536 ≤ a then true
    else decide (l * 32 * (mx - mn) < pm * (a - mn * 65536))
  ((s.modZsw (fun z => { z with avg := nPut z.avg k a, lfsr := l })).setFld (ZSW_QAVG_AVG k) (a / 65536), !drop)

/-- The admission of a frame to one queue, `n` others having admitted it: the state after its checks, and 0 when admitted, else the
code of R385. -/
def State.admission (s : State) (p q col n : Nat) : State × Nat :=
  let k := p * 8 + q
  let tail := s.count (ZSW_QDROP2_TAIL k)
  if 4096 ≤ s.zEntries + n then (tail, 1)
  else if col ≠ 0 ∧ s.zFreeN < s.fld ZSW_GCTL2_FLOOR then (tail, 1)
  else if s.fld (ZSW_QCFG_QMAX k) ≤ s.zDepth p q then (tail, 1)
  else
    let (t, ok) := s.redTest k col (s.zDepth p q)
    if ok then (t, 0)
    else
      ((match col with
        | 0 => t.count (ZSW_QDROP_GREEN k)
        | 1 => t.count (ZSW_QDROP_YELLOW k)
        | _ => t.count (ZSW_QDROP2_RED k)).raise ZSW_FLAG_REDDROP, 2)

/-- The queue of a priority on an egress port. -/
def State.queueOf (s : State) (p pri : Nat) : Nat :=
  if pri < 6 then bitsOf (s.fld (ZSW_PQMAP0_Q0_Q5 p)) (3 * pri + 2) (3 * pri)
  else bitsOf (s.fld (ZSW_PQMAP1_Q6Q7 p)) (3 * (pri - 6) + 2) (3 * (pri - 6))

/-- An egress that starts a frame before it has been received in full (R376). -/
def State.cutsThrough (s : State) (inp p : Nat) : Bool :=
  s.on (ZSW_PCFG_CT p) && decide (portRate p ≤ portRate inp ∧ s.zPort p = 1 ∧ p ≠ 8)
    && (smFind s.zsw.sending p).isNone && s.zEmpty p

/-! ### The forwarding decision (R368) -/

/-- The outcome of a decision. -/
inductive ZDec where
  /-- handed to the time-aware bridge -/
  | gptp
  /-- discarded without a count -/
  | discard
  /-- discarded at step 3 -/
  | vlan
  /-- handed to the remote ring agent, or to the image agent -/
  | agent
  | image
  /-- a frame of a dead bucket of a group -/
  | dead (g : Nat)
  /-- a link-local frame to P8 queue 0, if P8 can take it -/
  | trap (l : List Nat)
  /-- forwarded to ports, with the bucket of a path group -/
  | ports (l : List Nat) (bucket : Option Nat)
  deriving DecidableEq, Repr

/-- The egress ports that step 6 leaves; in the safe state no frame goes to P8 (R477). -/
def State.zLimit (s : State) (inp members : Nat) (l : List Nat) : List Nat :=
  l.filter (fun p => decide (p ≠ inp) && bitAt members p && decide (s.zPort p = 1 ∨ s.zPort p = 2) && !(decide (p = 8) && s.flt.safe))

/-- The decision for a frame. -/
def State.zDecide (s : State) (p : Nat) (b : List Byte) (h : ZHead) : ZDec :=
  if !s.on ZSW_GCTL_EN then .discard
  else if h.dst / 16 = 0x0180C200000 then
    if h.ety = 0x88F7 then .gptp
    else if s.on ZSW_GCTL_LLTRAP then .trap (s.zLimit p 1023 [8]) else .discard
  else
    let aft := s.fld (ZSW_PCFG_AFT p)
    match s.vlanOf h.vid with
    | none => .vlan
    | some v =>
      let members := s.fld (ZSW_VMEM_MEM v)
      if (aft = 1 ∧ !h.tagged) ∨ (aft = 2 ∧ h.tagged) ∨ !bitAt members p then .vlan
      else if p ≠ 8 ∧ h.dst = s.hostMac ∧ h.ety = 0x88B5 then .agent
      else if p ≠ 8 ∧ h.dst = s.hostMac ∧ h.ety = 0x88B7 then .image
      else
        match s.macOf h.vid h.dst with
        | some e =>
          if e.pg then
            let g := e.mask % 4
            let k := s.bucketOf g b h
            if !s.on (ZSW_PGCFG_EN g) then .discard
            else if s.bit (ZSW_PGSTAT_DEAD g) k then .dead g
            else .ports (s.zLimit p members [s.pgPort g (s.pgCur g k)]) (some (g * 16 + k))
          else .ports (s.zLimit p members (onesBelow 10 e.mask)) none
        | none =>
          if isGroup h.dst && !decide (h.dst = 2 ^ 48 - 1) && !s.on (ZSW_VLAN_FLDM v) then .discard
          else .ports (s.zLimit p members (onesBelow 10 members)) none

/-! ### Ingress -/

/-- What an ingress came to: queues that admitted the frame, whether its egress set was empty, and the first refusal's
code of R385. -/
structure ZRes where
  admitted : List (Nat × Nat) := []
  none_ : Bool := true
  why : Nat := 0
  deriving DecidableEq, Repr

/-- The admission tests of an egress set of ports and queues in order, `n` queues having admitted the frame before. -/
def State.admitAll (s : State) (col n : Nat) : List (Nat × Nat) → State × ZRes
  | [] => (s, {})
  | (p, q) :: t =>
    let (s1, w) := s.admission p q col n
    let (s2, r) := s1.admitAll col (if w = 0 then n + 1 else n) t
    (s2, { admitted := (if w = 0 then [(p, q)] else []) ++ r.admitted,
           none_ := false,
           why := if w ≠ 0 then w else r.why })

/-- A frame stored and entered in the queues that admitted it; its cells take new check bits. -/
def State.zStore (s : State) (f : ZFrame) (bucket : Option Nat) (l : List (Nat × Nat)) : State :=
  let i := s.zsw.nextId
  let cs := gapsFrom s.zsw.out 0 ((f.bytes.length + 255) / 256)
  let s := s.modZsw (fun z => { z with
      out := cs.foldl insAsc z.out,
      badRows := z.badRows.filter (fun r => !cs.contains (r / 8)),
      frames := smInsert z.frames i { f with cells := cs },
      nextId := z.nextId + 1 })
  s.each l (fun e s => (s.setZQueue e.1 e.2 (s.zQueue e.1 e.2 ++ [⟨i, bucket⟩])).zCounts e.1 e.2)

/-- An egress that had started a bad frame of a queue ends it, after the bytes that were stored, with an inverted FCS (R377). -/
def State.zStomp (s : State) (p q : Nat) (b : List Byte) : State :=
  s.count (ZSW_PTXD_STOMP p)
    |>.zEvt p 1
    |>.raise ZSW_FLAG_STOMP
    |>.modZsw (fun z => { z with line := lPut z.line p b, lineBad := bPut z.lineBad p true })
    |>.creditSent p q (b.length + 24)
    |>.record 12 6 p

/-- The group MAC address of the herd (R348). -/
def State.herdMac (s : State) : Nat :=
  0x01005E000000 + (s.fld NET_HGRPH_GRP * 65536 + s.fld NET_HGRPL_GRP) % 2 ^ 23

/-- Where the UDP header of an IPv4 frame starts. -/
def udpAt (b : List Byte) (h : ZHead) : Nat := h.off + byteField b h.off 1 % 16 * 4

/-- A herd datagram: UDP for the group and port (R348). -/
def State.isHerdDgram (s : State) (b : List Byte) (h : ZHead) : Bool :=
  decide (h.dst = s.herdMac ∧ h.ety = 0x0800 ∧ byteField b (h.off + 9) 1 = 17
    ∧ byteField b (h.off + 16) 4 = s.fld NET_HGRPH_GRP * 65536 + s.fld NET_HGRPL_GRP
    ∧ byteField b (udpAt b h + 2) 2 = s.fld NET_HPORT_PORT)

/-- The gPTP messages that are discarded and counted (R405): Announce, Signaling and malformed ones. PRESUMED: a message is malformed when
its header of 34 bytes is cut short, its PTP version is not 2 or 802.1AS gives its type no meaning. -/
def gptpDiscards (b : List Byte) (o : Nat) : Bool :=
  decide (b.length < o + 34 ∨ byteField b (o + 1) 1 % 16 ≠ 2)
    || !([0, 2, 3, 8, 10].contains (byteField b o 1 % 16))

/-- A frame that arrives on a port: `bad` names a reception fault of R367, `stomped` an inverted FCS, `ovr` the priority
TXFRAME gives. -/
def State.zIngress (s : State) (p : Nat) (b : List Byte) (bad stomped : Bool) (ovr : Option Nat) : State × ZRes :=
  let h := s.zHead p b ovr
  let n := b.length + 4
  let long := decide (s.fld ZSW_GCTL_MAXLEN < n)
  let short := decide (n < 64)
  let need := (b.length + 255) / 256
  let s := s.count (ZSW_PRXF_RXF p)
  if short then (((s.count (ZSW_PRXD_BAD p)).when stomped (fun s => s.zEvt p 0)), {})
  else
    let (s, col) := s.mark p h n
    if col = 2 ∧ s.on (ETH_MCFG_RDROP (p * 8 + h.pri)) then
      ((s.when (bad || stomped || long) (fun s => s.count (ZSW_PRXD_BAD p))).when stomped (fun s => s.zEvt p 0), {})
    else
      let dec := s.zDecide p b h
      let (egress, bucket) := match dec with
        | .ports l k => (l.map (fun e => (e, s.queueOf e h.pri)), k)
        | .trap l => (l.map (fun e => (e, 0)), none)
        | _ => ([], none)
      let (s, res) := s.admitAll col 0 egress
      let noBuf := decide (s.zFreeN < need)
      if bad || stomped || long || (noBuf && !res.admitted.isEmpty) then
        let cut := res.admitted.filter (fun e => s.cutsThrough p e.1)
        let n1 := if long then s.fld ZSW_GCTL_MAXLEN - 4 else b.length
        let n2 := if noBuf then Nat.min n1 (s.zFreeN * 256) else n1
        let s := (s.count (ZSW_PRXD_BAD p)).when stomped (fun s => s.zEvt p 0)
          |>.when (noBuf && !res.admitted.isEmpty) (fun s => (s.raise ZSW_FLAG_NOBUF).record 12 4 0)
        (s.each cut (fun e s => s.zStomp e.1 e.2 (s.egressBytes e.1 { bytes := b.take n2, pri := h.pri, vid := h.vid })),
          { admitted := [], none_ := res.none_, why := 3 })
      else
        let s := s.macLearn p h
        match dec with
        | .agent => (s.modZsw (fun z => { z with agentIn := z.agentIn ++ [(p, b)] }), {})
        | .image => (s.modImg (fun m => { m with inbox := m.inbox ++ [(p, b)] }), {})
        | .vlan => (s.count (ZSW_PRXD_VLAN p), { none_ := false, why := 6 })
        | .dead g => (s.count (ZSW_PGMOVE_DEADDROP g), {})
        | .gptp => ((s.when (decide (p < 6) && s.on ETH_ASCTL_EN && gptpDiscards b h.off) (fun s => s.count (ETH_ASCNT_DISC p))), {})
        | .discard => (s, {})
        | _ =>
          if res.admitted.isEmpty then (s, res)
          else
            (s.zStore { bytes := b, port := p, colour := col, pri := h.pri, vid := h.vid, arrival := s.eth.mc / 64 }
                bucket res.admitted
              |>.when (res.admitted.any (fun e => decide (8 ≤ e.1))
                  && decide (p < 8) && s.bit NET_HUCFG_PMASK p && !s.isHerdDgram b h)
                (fun s => s.modZsw (fun z => { z with appFrame := true })), res)

end Sys2Proof.Machine
end

