-- ==== Sys2Proof/Machine/NetCore.lean ====
section
/-! DEFINITION. Bus frames and their buffers, talker streams, transmit buffers, transceiver states, wakes and their
validation (R322 to R340), as the bus frame engine, the herd ring, the inputs and the power controller use them. -/

namespace Sys2Proof.Machine

/-! ### Wakes and their validation (R326 to R329) -/

/-- A validation window closed as false: the counts, and deafening at the threshold. -/
def State.falseWake (s : State) (w : Nat) : State :=
  let n := satTo 15 (s.fld (NET_WKSTAT_FWCNT w) + 1)
  let th := s.fld (NET_WKCFG_FWTH w)
  (s.setFld (NET_WKSTAT_WOPEN w) 0).setFld (NET_WKSTAT_FWCNT w) n
    |>.count (NET_WKSTAT_TOTAL w)
    |>.when (decide (th ≠ 0 ∧ th ≤ n)) (fun s =>
      (s.setFld (NET_WKSTAT_DEAF w) 1).modNet (fun x => { x with deafAt := nPut x.deafAt w s.rtcSec })
        |>.raise NET_FLAG_DEAF
        |>.record 11 7 w)

/-- Deafening ends. -/
def State.undeafen (s : State) (w : Nat) : State :=
  if s.on (NET_WKSTAT_DEAF w) then (s.setFld (NET_WKSTAT_DEAF w) 0).setFld (NET_WKSTAT_FWCNT w) 0 else s

/-- A valid frame from another node (R328). -/
def State.validFrame (s : State) (c : Nat) : State :=
  let w := srcOf c
  if s.on (NET_WKSTAT_WOPEN w) then
    let n := nGet s.net.valid w + 1
    let s := s.modNet (fun x => { x with valid := nPut x.valid w n })
    if s.fld (NET_WKCFG_VALN w) ≤ n then (s.setFld (NET_WKSTAT_WOPEN w) 0).setFld (NET_WKSTAT_FWCNT w) 0 else s
  else s

/-- A counted wake opens its source's validation window. -/
def State.countedWake (s : State) (w : Nat) : State :=
  if s.on (NET_WKSTAT_WOPEN w) then s
  else (s.setFld (NET_WKSTAT_WOPEN w) 1).modNet (fun x => { x with valid := nPut x.valid w 0 })

/-- Wakes of this instant are counted: they cause or fall during an exit from REST or BEDDED. -/
def State.counting (s : State) : Bool := decide (s.pw.mode = .rest ∨ s.pw.mode = .bedded)

/-- A channel whose wake detection works: armed, in STANDBY or SLEEP or waiting to enter them, not deafened, its bus not
held dominant. -/
def State.wakeArmed (s : State) (c : Nat) : Bool :=
  s.chWken c && !s.on (NET_WKSTAT_DEAF (srcOf c)) && !(s.nch c).dom
    && (decide (2 ≤ s.tcvr c) || (s.nch c).guard.isSome)

/-- A wake of a channel (R326, R453). -/
def State.chWake (s : State) (c : Nat) : State :=
  (if c < 6 then s.cEvent c 3 else s.lEvent (c - 8) 4)
    |>.modNch c (fun x => { x with wake := true })
    |>.when s.counting (fun s => s.countedWake (srcOf c))
    |>.refreshInh
    |>.latchWake (if c < 6 then 0o03 else 0o04) (if c < 6 then c else c - 8)

/-! ### Frames and buffers (R330) -/

/-- Words 0 to 5 of a frame's buffer. -/
def frameWords (f : BusFrame) (chan : Nat) : List Nat :=
  let ext := decide (f.fmt.val ≤ 1) && f.b15
  [f.fmt.val * 2 ^ 16 + b2n f.b15 * 2 ^ 15 + b2n f.b14 * 2 ^ 14 + b2n f.b13 * 2 ^ 13 + b2n f.b12 * 2 ^ 12 + f.data.length % 2 ^ 12,
   chan * 2 ^ 14 + (if ext then f.ident.toNat / 2 ^ 16 else 0),
   if ext then f.ident.toNat % 2 ^ 16 else if f.fmt = 3 then f.ident.toNat % 64 else f.ident.toNat % 2 ^ 11,
   if f.fmt = 2 then f.sdt.toNat * 256 + f.vcid.toNat else 0,
   if f.fmt = 2 then f.af.toNat / 2 ^ 16 else 0,
   if f.fmt = 2 then f.af.toNat % 2 ^ 16 else 0]

/-- Data lengths of a format. -/
def lenOk (fmt n : Nat) : Bool :=
  match fmt with
  | 0 => decide (n ≤ 8)
  | 1 => decide (n ≤ 8) || [12, 16, 20, 24, 32, 48, 64].contains n
  | 2 => decide (1 ≤ n ∧ n ≤ 2048)
  | _ => decide (1 ≤ n ∧ n ≤ 8)

/-- The words of a buffer whose bits are not 0 though R330 does not list them for transmission. -/
def headBad (w : List Nat) : Bool :=
  let w0 := w.getD 0 0
  let w1 := w.getD 1 0
  let w2 := w.getD 2 0
  let fmt := bitsOf w0 17 16
  let ide := bitAt w0 15
  let ext := decide (fmt ≤ 1) && ide
  bitAt w0 12
    || (decide (fmt = 0) && bitAt w0 13) || (decide (fmt = 1) && bitAt w0 14)
    || (decide (2 ≤ fmt) && ide) || (decide (fmt = 3) && bitAt w0 14)
    || decide (w1 / 2 ^ 13 ≠ 0) || (!ext && decide (w1 ≠ 0))
    || decide ((if ext then 2 ^ 16 else if fmt = 3 then 64 else 2 ^ 11) ≤ w2)
    || (decide (fmt ≠ 2) && (List.range 3).any (fun i => decide (w.getD (3 + i) 0 ≠ 0)))
    || (List.range 3).any (fun i => decide (2 ^ 16 ≤ w.getD (3 + i) 0))

/-- The frame of a buffer in system RAM. -/
def State.bufFrame (s : State) (a : Nat) : BusFrame :=
  let w (i : Nat) : Nat := (s.rd (a + i)).toNat
  let ext := decide (w 0 / 2 ^ 16 ≤ 1) && bitAt (w 0) 15
  { fmt := Fin.ofNat 4 (w 0 / 2 ^ 16),
    b15 := bitAt (w 0) 15, b14 := bitAt (w 0) 14, b13 := bitAt (w 0) 13, b12 := bitAt (w 0) 12,
    ident := BitVec.ofNat 29 (if ext then bitsOf (w 1) 12 0 * 2 ^ 16 + w 2 % 2 ^ 16 else w 2 % 2 ^ 16),
    sdt := BitVec.ofNat 8 (w 3 / 256), vcid := BitVec.ofNat 8 (w 3),
    af := BitVec.ofNat 32 (w 4 % 2 ^ 16 * 2 ^ 16 + w 5 % 2 ^ 16),
    data := s.bufBytes (a + 8) (w 0 % 2 ^ 12) }

/-- A buffer's head words. -/
def State.headWords (s : State) (a : Nat) : List Nat := (List.range 6).map (fun i => (s.rd (a + i)).toNat)

/-- A frame written into a buffer: the head, the reception instant and as many data bytes as fit. -/
def State.putFrame (s : State) (a chan : Nat) (f : BusFrame) (t n : Nat) : State :=
  s.each (List.range 6) (fun i s => s.wr (a + i) (toWord ((frameWords f chan).getD i 0)))
    |>.wr (a + 6) (toWord (t / 2 ^ 18))
    |>.wr (a + 7) (toWord t)
    |>.putBytes (a + 8) (f.data.take n)

/-- Whether the channel's PROTO allows a frame's format (R320). -/
def State.protoOk (s : State) (c : Nat) (f : BusFrame) : Bool :=
  if c < 6 then decide (f.fmt.val < 3 ∧ f.fmt.val ≤ s.fld (NET_CCFG_PROTO c)) else decide (f.fmt = 3)

/-- The arbitration field of a CAN frame as a number: the lower wins (R333). -/
def frameArb (f : BusFrame) : Nat :=
  if f.fmt.val ≤ 1 && f.b15 then
    f.ident.toNat / 2 ^ 18 * 2 ^ 21 + 3 * 2 ^ 19 + f.ident.toNat % 2 ^ 18 * 2 + b2n (f.b14 && decide (f.fmt = 0))
  else f.ident.toNat % 2 ^ 11 * 2 ^ 21 + b2n (f.b14 && decide (f.fmt ≠ 1)) * 2 ^ 20

/-- The loaded frame that goes next: the first among those with the lowest arbitration field. -/
def nextTx : List CanTx → Option CanTx
  | [] => none
  | x :: t =>
    match nextTx t with
    | none => some x
    | some y => if frameArb y.f < frameArb x.f then some y else some x

/-! ### Talker streams (R338, R339) -/

def State.talker (s : State) (t : Nat) : Talker := smGet (fun _ => {}) s.net.talkers t
def State.setTalker (s : State) (t : Nat) (x : Talker) : State :=
  s.modNet (fun n => { n with talkers := smPut (fun _ => {}) n.talkers t x })

/-- A discarded stream message. -/
def State.tsDrop (s : State) (t n : Nat) : State :=
  (s.countBy (NET_TSCNT_DROP t) n).raise NET_FLAG_STDROP |>.each (List.range n) (fun _ s => s.record 11 8 0)

/-- The stream frame of a talker: Ethernet header with its tag, AVTP header and ACF messages. -/
def State.avtpFrame (s : State) (t seq : Nat) (x : Talker) : List Byte :=
  let sid := natBe 6 s.hostMac ++ natBe 2 (s.fld (NET_TSUID_UID t))
  let n := x.acf.length
  natBe 2 (s.fld (NET_TSDA0_DA t)) ++ natBe 2 (s.fld (NET_TSDA1_DA t)) ++ natBe 2 (s.fld (NET_TSDA2_DA t))
    ++ natBe 6 s.hostMac
    ++ natBe 2 0x8100 ++ natBe 2 (s.fld (NET_TSCFG_PCP t) * 8192 + s.fld (NET_TSCFG_VID t))
    ++ natBe 2 0x22F0
    ++ (if s.on (NET_TSCFG_TSCF t) then
          [0x05#8, 0x81#8] ++ natBe 1 seq ++ [0#8] ++ sid
            ++ natBe 4 ((x.t0 + s.fld (NET_TSMTT_MTT t) * 1000) % 2 ^ 32) ++ natBe 4 0 ++ natBe 2 n ++ natBe 2 0
        else [0x82#8] ++ natBe 2 (0x8000 + n % 2048) ++ natBe 1 seq ++ sid)
    ++ x.acf

/-- A talker's frame closed: it enters P9, or its messages are discarded. -/
def State.talkerClose (s : State) (t : Nat) : State :=
  let x := s.talker t
  if x.n = 0 then s
  else
    let seq := (s.fld (NET_TSCNT_SEQ t) + 1) % 256
    let b := s.avtpFrame t seq x
    let s := s.setTalker t {}
    if !s.domOn .zsw then s.tsDrop t x.n
    else
      let (s2, r) := s.zIngress 9 b false false none
      let s3 := s2.setFld (NET_TSCNT_SEQ t) seq
      if r.admitted.isEmpty && !r.none_ then s3.tsDrop t x.n else s3

/-- A message placed in a talker's current frame. -/
def State.talkerPlace (s : State) (t : Nat) (m : List Byte) (ns : Nat) : State :=
  if !s.on (NET_TSCFG_EN t) then s.tsDrop t 1
  else
    let max := s.fld (NET_TSPK_MAXB t) * 4
    let s := if (s.talker t).n ≠ 0 ∧ max < (s.talker t).acf.length + m.length then s.talkerClose t else s
    let x := s.talker t
    let s := s.setTalker t ⟨x.acf ++ m, if x.n = 0 then ns else x.t0, x.n + 1⟩
    if max ≤ x.acf.length + m.length ∨ s.fld (NET_TSPK_PACKT t) = 0 then s.talkerClose t else s

/-- Bytes padded to a multiple of four, and how many were added. -/
def pad4 (b : List Byte) : List Byte × Nat :=
  let n := (4 - b.length % 4) % 4
  (b ++ List.replicate n 0, n)

/-- The first two bytes of an ACF message: its type and its length in quadlets. -/
def acfHead (typ len : Nat) : List Byte := natBe 2 (typ * 512 + len / 4 % 512)

/-- The ACF message of a Classical, FD or LIN frame. -/
def acfFrame (brief : Bool) (chan : Nat) (f : BusFrame) (ns : Nat) : List Byte :=
  let (d, pad) := pad4 f.data
  if f.fmt = 3 then
    acfHead 3 (12 + d.length) ++ natBe 1 (pad * 64 + 32 + chan % 32) ++ natBe 1 (f.ident.toNat % 64)
      ++ natBe 8 (ns % 2 ^ 64) ++ d
  else
    let flags := pad * 64 + (if brief then 0 else 32) + b2n (f.b14 && decide (f.fmt = 0)) * 16 + b2n f.b15 * 8
      + b2n (f.b13 && decide (f.fmt = 1)) * 4 + b2n (decide (f.fmt = 1)) * 2 + b2n (f.b12 && decide (f.fmt = 1))
    acfHead (if brief then 2 else 1) ((if brief then 8 else 16) + d.length) ++ natBe 1 flags ++ natBe 1 (chan % 32)
      ++ (if brief then [] else natBe 8 (ns % 2 ^ 64)) ++ natBe 4 f.ident.toNat ++ d

/-- The ACF Sensor Brief message of a sensor message (R306). -/
def acfSensor (m : SMsg) : List Byte :=
  acfHead 9 12 ++ natBe 2 Config.sensorBriefHdr.toNat ++ natBe 1 m.src ++ natBe 1 (m.kind * 16) ++ natBe 1 m.seq ++ natBe 1 m.sid
    ++ natBe 4 (m.data % 2 ^ 28)

/-! ### Transmit buffers -/

/-- A channel with room for another frame: 16 buffers on CAN. -/
def State.txRoom (s : State) (c : Nat) : Bool := decide (6 ≤ c) || decide ((s.nch c).tx.length < 16)

/-- A LIN slave's response armed; an earlier one for the same identifier is superseded (R335). -/
def State.armSlave (s : State) (c : Nat) (t : CanTx) : State :=
  let x := s.nch c
  let same (y : CanTx) : Bool := decide (y.f.ident.toNat % 64 = t.f.ident.toNat % 64)
  (s.setNch c { x with armed := x.armed.filter (fun y => !same y) ++ [t] }).each (x.armed.filter same) (fun y s =>
    match y.own.bind s.descId with
    | some d => s.finish d stSuperseded 0
    | none => s)

/-- A frame loaded on a channel. -/
def State.txLoad (s : State) (c : Nat) (t : CanTx) : State :=
  if 8 ≤ c ∧ s.fld (NET_LCFG_ROLE (c - 8)) = 1 then s.armSlave c t else s.modNch c (fun x => { x with tx := x.tx ++ [t] })

end Sys2Proof.Machine
end

