-- ==== Sys2Proof/Machine/Herd.lean ====
section
/-! DEFINITION. The herd ring (R345 to R362). -/

namespace Sys2Proof.Machine

def State.modHerd (s : State) (f : Herd → Herd) : State := { s with herd := f s.herd }

/-- Herd states (R349): 0 OFF, 1 ALIVE, 2 RING, 3 PREP, 4 SLEEP. -/
def State.hSt (s : State) : Nat := s.fld NET_HSTAT_STATE
def State.setHSt (s : State) (v : Nat) : State := s.setFld NET_HSTAT_STATE v
def State.hEvt (s : State) (i : Nat) : State := s.setBitF NET_HEVT_EVT i true

/-- This node's ID, its consent, and the member map (R345). -/
def State.hId (s : State) : Nat := s.fld NET_HCFG_ID
def State.hCons (s : State) : Bool := s.on NET_HCTL_CONS
def State.hMap (s : State) : Nat := s.fld NET_HMAP1_MAP * 2 ^ 16 + s.fld NET_HMAP0_MAP

/-- The successor of a node in a map. -/
def hSuccOf (m n : Nat) : Nat := (((List.range 32).map (fun i => (n + 1 + i) % 32)).find? (fun k => bitAt m k)).getD n
/-- The lead of a map: its lowest ID. -/
def hLeadOf (m : Nat) : Nat := ((List.range 32).find? (fun k => bitAt m k)).getD 0
def State.hIsLead (s : State) : Bool := decide (hLeadOf s.hMap = s.hId)

/-- The map set, with the fields that follow from it. -/
def State.setHMap (s : State) (m : Nat) : State :=
  s.setFld NET_HMAP0_MAP (m % 2 ^ 16)
    |>.setFld NET_HMAP1_MAP (m / 2 ^ 16)
    |>.setFld NET_HSTAT_LEAD (b2n (decide (hLeadOf m = s.hId)))
    |>.setFld NET_HSTAT_SUCC (hSuccOf m s.hId)
    |>.setFld NET_HSTAT_NMEM (onesBelow 32 m).length
    |>.when (decide (m ≠ s.hMap)) (fun s => (s.hEvt 4).modHerd (fun h => { h with changed := true }))

/-! ### Messages (R346 to R348) -/

/-- The bytes of a message. -/
def hMsg (typ src dst : Nat) (cons allc : Bool) (run round : Nat) : List Byte :=
  [BitVec.ofNat 8 (0x10 + typ), BitVec.ofNat 8 src, BitVec.ofNat 8 dst,
   BitVec.ofNat 8 (b2n cons + 2 * b2n allc + 4 * run), BitVec.ofNat 8 round, 0, 0, 0]

/-- The one's complement checksum of IPv4 and UDP over 16-bit words. -/
def ipSum (l : List Nat) : Nat :=
  let t := l.foldl (· + ·) 0
  let u := t % 65536 + t / 65536
  65535 - (u % 65536 + u / 65536)

def words16 : List Byte → List Nat
  | a :: b :: t => (a.toNat * 256 + b.toNat) :: words16 t
  | [a] => [a.toNat * 256]
  | [] => []

/-- The datagram of a message (R348). -/
def State.hDatagram (s : State) (m : List Byte) : List Byte :=
  let srcIp := natBe 2 (s.fld NET_HSRCH_SRC) ++ natBe 2 (s.fld NET_HSRCL_SRC)
  let dstIp := natBe 2 (s.fld NET_HGRPH_GRP) ++ natBe 2 (s.fld NET_HGRPL_GRP)
  let port := natBe 2 (s.fld NET_HPORT_PORT)
  let pre := natBe 1 0x45 ++ natBe 1 (s.fld NET_HUCFG_DSCP * 4) ++ natBe 2 36 ++ natBe 2 0 ++ natBe 2 0x4000 ++ natBe 1 1 ++ natBe 1 17
  let ipc := ipSum (words16 (pre ++ srcIp ++ dstIp))
  let c := ipSum (words16 (srcIp ++ dstIp ++ natBe 2 17 ++ natBe 2 16 ++ port ++ port ++ natBe 2 16 ++ m))
  natBe 6 s.herdMac ++ natBe 6 s.hostMac
    ++ natBe 2 0x8100 ++ natBe 2 (s.fld NET_HVLAN_PCP * 8192 + s.fld NET_HVLAN_VID) ++ natBe 2 0x0800
    ++ pre ++ natBe 2 ipc ++ srcIp ++ dstIp
    ++ port ++ port ++ natBe 2 16 ++ natBe 2 (if c = 0 then 65535 else c) ++ m

/-- A message sent: on CAN it waits in the engine's own slot, on UDP it enters P9. -/
def State.hSend (s : State) (m : List Byte) : State :=
  let s := s.modHerd (fun h => { h with sent := m })
  if s.on NET_HCFG_MEDIUM then
    if s.domOn .zsw then (s.zIngress 9 (s.hDatagram m) false false none).1 else s
  else s.modHerd (fun h => { h with out := h.out ++ [m] })

/-- A message heard: one that is malformed is ignored and counted (R346); DEDUCED: RUN 3, which R346 does not give, and a length other
than 8 are malformed too. -/
def State.hHear (s : State) (m : List Byte) : State :=
  let b (i : Nat) : Nat := (m.getD i 0).toNat
  let typ := b 0 % 16
  let bad := decide (b 0 / 16 ≠ 1 ∨ typ = 0 ∨ 4 < typ ∨ 32 ≤ b 1 ∨ 32 ≤ b 2 ∨ 16 ≤ b 3 ∨ b 3 / 4 = 3
    ∨ b 5 ≠ 0 ∨ b 6 ≠ 0 ∨ b 7 ≠ 0 ∨ m.length ≠ 8)
  if !s.on NET_HCFG_EN then s
  else if bad then s.count NET_HCNT_BAD
  else if s.hSt = 0 then s
  else s.modHerd (fun h => { h with inbox := h.inbox ++ [m] })

/-! ### States (R349 to R357) -/

/-- Entry to ALIVE (R350). -/
def State.hAlive (s : State) : State :=
  s.setHSt 1
    |>.modHerd (fun h => { h with held := none })
    |>.setHMap (2 ^ s.hId)
    |>.hSend (hMsg 3 s.hId 0 s.hCons false 0 0)

/-- A cancel (R355). -/
def State.hCancel (s : State) (cause : Nat) : State :=
  s.setFld NET_HRND_CAUSE cause |>.count NET_HCNT_CANCELS |>.hEvt 2 |>.hAlive

/-- Entry to PREP. -/
def State.hPrep (s : State) : State := ((s.setHSt 3).hEvt 0).modHerd (fun h => { h with held := none })

/-- An application frame during PREP is a cancel. -/
def State.hAppFrame (s : State) : State := if s.hSt = 3 then s.hCancel 3 else s

/-- The delivery of an application frame to P8 or P9 acts on a herd over UDP. -/
def State.hCheck (s : State) : State :=
  let app := s.zsw.appFrame
  let s := if app then s.modZsw (fun z => { z with appFrame := false }) else s
  if app && s.on NET_HCFG_MEDIUM then s.hAppFrame else s

/-- A new round started by the lead (R351). -/
def State.hStart (s : State) (run : Nat) : State :=
  let rnd := (s.fld NET_HRND_ROUND + 1) % 256
  s.setFld NET_HRND_ROUND rnd
    |>.setFld NET_HSTAT_RUN run
    |>.modHerd (fun h => { h with changed := false, held := none })
    |>.hSend (hMsg 1 s.hId (hSuccOf s.hMap s.hId) s.hCons s.hCons run rnd)

/-- The PREP that a lead sends in place of the next RING (R351). DEDUCED: with the round number, the RUN and the ALLC of that RING. -/
def State.hClose (s : State) : State :=
  let rnd := (s.fld NET_HRND_ROUND + 1) % 256
  s.setFld NET_HRND_ROUND rnd
    |>.setFld NET_HSTAT_RUN 2
    |>.hSend (hMsg 2 s.hId 0 s.hCons s.hCons 2 rnd)
    |>.hPrep

/-- The oldest message heard, of one type, taken: a message with this node's own ID as source is a duplicate ID (R358);
in SLEEP it wakes the herd; in ALIVE its source joins the map. -/
def State.hTake (s : State) (typ : Nat) (f : Nat → Nat → Bool → HRing → State → State) : State :=
  match s.herd.inbox with
  | [] => s
  | m :: rest =>
    let b (i : Nat) : Nat := (m.getD i 0).toNat
    if b 0 % 16 ≠ typ then s
    else
      let s := s.modHerd (fun h => { h with inbox := rest })
      if s.hSt = 0 then s
      else if b 1 = s.hId then ((s.setHSt 0).hEvt 5).modHerd (fun h => { h with held := none, inbox := [] }) |>.record 11 10 0
      else
        let s := if s.hSt = 4 then s.hAlive else s
        let s := if s.hSt = 1 ∧ typ ≠ 2 then s.setHMap (setBit s.hMap (b 1)) else s
        f (b 1) (b 2) (bitAt (b 3) 0) ⟨bitAt (b 3) 1, b 3 / 4 % 4, b 4, false⟩ s

/-- Setting EN enters ALIVE. -/
def herdEnable (s : State) : State :=
  if s.herd.edge = some true then (s.modHerd (fun h => { h with edge := none })).hAlive else s

/-- Clearing EN sends LEAVE in ALIVE, RING and PREP and enters OFF (R354). -/
def herdDisable (s : State) : State :=
  if s.herd.edge = some false then
    let l := s.herd.held.getD s.herd.last
    s.modHerd (fun h => { h with edge := none, held := none, inbox := [] })
      |>.when (decide (1 ≤ s.hSt ∧ s.hSt ≤ 3))
        (fun s => s.hSend (hMsg 4 s.hId (hSuccOf s.hMap s.hId) s.hCons l.allc l.run l.round))
      |>.setHSt 0
  else s

/-- A write of JOIN enters ALIVE. -/
def State.herdJoin (s : State) : State := if s.hSt = 0 then s else s.hAlive

/-- CONS written 0 in PREP (R355, cause 0001). -/
def State.herdWithdraw (s : State) : State :=
  if s.hSt = 3 then
    (s.hSend (hMsg 1 s.hId (hSuccOf s.hMap s.hId) false false 0 (s.fld NET_HRND_ROUND))).hCancel 1
  else s

def herdRing (s : State) : State :=
  s.hTake 1 (fun _ dst cons r s =>
    let s := s.setFld NET_HRND_ROUND r.round
    match s.hSt with
    | 2 =>
      if dst = s.hId then (s.setFld NET_HSTAT_RUN r.run).modHerd (fun h => { h with held := some r, last := r }) else s
    | 3 => if cons then s else s.hCancel 2
    | _ => s)

/-- A PREP heard enters PREP (R355); one heard in SLEEP enters ALIVE (R350). -/
def herdPrep (s : State) : State :=
  let slept := decide (s.hSt = 4)
  s.hTake 2 (fun _ _ _ _ s => if !slept && decide (s.hSt = 1 ∨ s.hSt = 2) then s.hPrep else s)

def herdAlive (s : State) : State :=
  s.hTake 3 (fun src _ _ _ s =>
    match s.hSt with
    | 2 => s.hAlive.setHMap (setBit s.hAlive.hMap src)
    | 3 => (s.hCancel 4).setHMap (setBit (s.hCancel 4).hMap src)
    | _ => s)

def herdLeave (s : State) : State :=
  s.hTake 4 (fun src dst _ r s =>
    let lead := decide (hLeadOf s.hMap = src)
    let s := s.setHMap (clrBit s.hMap src)
    if s.hSt = 2 ∧ dst = s.hId then s.modHerd (fun h => { h with held := some { r with fromLead := lead } }) else s)

/-- tFWD after the ring was received: it is forwarded, or the lead closes the round (R351, R352). -/
def herdForward (s : State) : State :=
  let alone := decide (s.hMap = 2 ^ s.hId)
  if s.hSt ≠ 2 then s
  else if alone then
    let run := if s.hCons && !s.herd.changed then s.fld NET_HSTAT_RUN + 1 else 0
    let s := (s.setFld NET_HSTAT_RUN run).setFld NET_HRND_ROUND ((s.fld NET_HRND_ROUND + 1) % 256)
      |>.modHerd (fun h => { h with changed := false, held := none })
    if 2 ≤ run then s.hPrep else s
  else
    match s.herd.held with
    | none => s
    | some r =>
      if s.hIsLead then
        let run := if r.fromLead then r.run else if r.allc && !s.herd.changed then Nat.min 2 (r.run + 1) else 0
        if run = 2 then
          s.hClose
        else s.hStart run
      else
        s.modHerd (fun h => { h with held := none })
          |>.hSend (hMsg 1 s.hId (hSuccOf s.hMap s.hId) s.hCons (r.allc && s.hCons) r.run r.round)

/-- tSETTLE has passed without an ALIVE: RING with RUN 0, and the lead starts the ring. -/
def herdSettleEnd (s : State) : State :=
  if s.hSt ≠ 1 then s
  else
    let s := ((s.setHSt 2).setFld NET_HSTAT_RUN 0).modHerd (fun h => { h with changed := false })
    if s.hIsLead ∧ s.hMap ≠ 2 ^ s.hId then s.hStart 0 else s

/-- tRLOST expires (R353). -/
def herdRingLost (s : State) : State :=
  if s.hSt ≠ 2 then s else ((s.count NET_HCNT_LOSTS).hEvt 3).record 11 9 0 |>.hAlive

/-- tPREP ends (R356). -/
def herdPrepEnd (s : State) : State :=
  if s.hSt ≠ 3 then s
  else
    let s := (s.setHSt 4).hEvt 1
    if s.on NET_HCFG_AUTO then
      s.each (netChans.filter (fun c => s.bit NET_HSLP_MASK (srcOf c) && !s.chFenced c)) (fun c s =>
        (s.setChReq c (if s.on NET_HSLP_STBY && decide (c < 6) then 2 else 3)).tcvrRequest c)
    else s

/-- A forced entry puts the herd into SLEEP without sending anything (R362). -/
def State.herdForced (s : State) : State :=
  if s.hSt = 0 then s else (s.setHSt 4).modHerd (fun h => { h with held := none, out := [], inbox := [] })

/-! ### The commands -/

def execHerdEnable (s : State) : Out State := .next (inDom .net herdEnable s)
def execHerdDisable (s : State) : Out State := .next (inDom .net herdDisable s)
def execHerdRingReceived (s : State) : Out State := .next (inDom .net herdRing s)
def execHerdPrepReceived (s : State) : Out State := .next (inDom .net herdPrep s)
def execHerdAliveReceived (s : State) : Out State := .next (inDom .net herdAlive s)
def execHerdLeaveReceived (s : State) : Out State := .next (inDom .net herdLeave s)
def execHerdForward (s : State) : Out State := .next (inDom .net herdForward s)
def execHerdSettleEnd (s : State) : Out State := .next (inDom .net herdSettleEnd s)
def execHerdRingLost (s : State) : Out State := .next (inDom .net herdRingLost s)
def execHerdPrepEnd (s : State) : Out State := .next (inDom .net herdPrepEnd s)

end Sys2Proof.Machine
end

