-- ==== Sys2Proof/Machine/Net.lean ====
section
/-! DEFINITION. The bus frame engine (R319 to R344): descriptors, CAN and LIN frames, transceivers, wakes and streams. -/

namespace Sys2Proof.Machine

/-! ### Descriptors (R334, R335) -/

/-- What is wrong with a frame buffer that TX or HDR names. -/
def State.txBufJudge (s : State) (d : Desc) : Option (Nat × Nat) :=
  let a := d.w2.toNat
  if s.rangeOff a 8 then some (stBankOffline, 0)
  else if s.rangeBad a 8 then some (stMemError, 0o7777)
  else
    let f := s.bufFrame a
    let n := 8 + (f.data.length + 1) / 2
    if headBad (s.headWords a) || !lenOk f.fmt.val f.data.length || !s.protoOk d.target f then some (stBadParam, 2)
    else if !inRam a n then some (stBadParam, 2)
    else if s.rangeOff a n then some (stBankOffline, 0)
    else if d.opcode = 1 ∧ s.rangeBad a n then some (stMemError, 0o7777)
    else if d.opcode = 1 ∧ (List.range (n - 8)).any (fun i => decide (2 ^ 16 ≤ (s.rd (a + 8 + i)).toNat)) then some (stBadParam, 2)
    else none

/-- What is wrong with a bus frame descriptor. -/
def State.netJudge (s : State) (d : Desc) : Option (Nat × Nat) :=
  let o := d.opcode
  let t := d.target
  let chan := decide (t < 6 ∨ (8 ≤ t ∧ t < 12))
  let lin := decide (8 ≤ t)
  let slave := lin && s.on (NET_LCFG_ROLE (t - 8))
  if 4 < o ∧ o ≠ 0o40 then some (stBadOpcode, 0)
  else if !chan then some (stBadTarget, 0)
  else if (o = 2 ∨ o = 0o40) ∧ t ≠ 0 then some (stBadTarget, 0)
  else if (o = 3 ∨ o = 4) ∧ !lin then some (stBadTarget, 0)
  else if (o = 3 ∨ o = 4) ∧ slave then some (stBadTarget, 1)
  else if d.isProv || decide (d.flags ≠ 0) then some (stBadDesc, 0)
  else if d.isTimed && decide (o = 2 ∨ o = 0o40) then some (stBadDesc, 0)
  else if (o = 0 ∨ o = 4 ∨ o = 0o40) ∧ d.w2 ≠ 0 then some (stBadParam, 2)
  else if o ≠ 2 ∧ d.w3 ≠ 0 then some (stBadParam, 3)
  else if d.w4 ≠ 0 then some (stBadParam, 4)
  else if o = 0o40 ∧ (d.w5 ≠ 0 ∨ d.w6 ≠ 0) then some (stBadParam, 5)
  else if o = 2 then
    let cap := bitsOf d.w3.toNat 10 0
    if 2 ^ 11 ≤ d.w3.toNat ∨ cap < 8 ∨ 1032 < cap then some (stBadParam, 3)
    else if !inRam d.w2.toNat cap then some (stBadParam, 2)
    else if !s.domOn .net then some (stDomainLost, 0)
    else if s.rangeOff d.w2.toNat cap then some (stBankOffline, 0)
    else none
  else if (o = 1 ∨ o = 3) ∧ !inRam d.w2.toNat 8 then some (stBadParam, 2)
  else if o ≠ 0 ∧ !s.domOn .net then some (stDomainLost, 0)
  else if o = 0 then (if s.domOn .net && s.chFenced t then some (stFenced, 0) else none)
  else if o = 1 ∨ o = 3 ∨ o = 4 then
    if s.chFenced t then some (stFenced, 0)
    else if s.tcvr t ≠ 0 ∨ (s.nch t).guard.isSome then some (0o22, 0)
    else if o = 4 then none
    else s.txBufJudge d
  else none

/-- A ring whose next descriptor is a TX for a CAN channel with 16 loaded buffers: the engine fetches nothing from it
(R333). -/
def State.netBlocked (s : State) (d : Desc) : Bool :=
  decide (d.eng = 7 ∧ d.opcode = 1 ∧ d.target < 6) && !s.txRoom d.target

/-- TX, HDR: the frame is loaded, or completes NOT_NORMAL; its buffer is judged again, since a bank may have gone off line
(R44). -/
def State.netLoad (s : State) (d : Desc) : State :=
  let c := d.target
  if s.chFenced c then s.finish d stFenced 0
  else if s.tcvr c ≠ 0 ∨ (s.nch c).guard.isSome then s.finish d 0o22 0
  else if !s.txRoom c then s
  else
    match s.txBufJudge d with
    | some r => s.finish d r.1 r.2
    | none => (s.startDesc d).txLoad c { f := s.bufFrame d.w2.toNat, own := some d.id }

def busTx (d : Desc) (s : State) : State := if d.target < 12 then s.netLoad d else s
def hdr (d : Desc) (s : State) : State := s.netLoad d
def linWake (d : Desc) (s : State) : State :=
  if s.chFenced d.target then s.finish d stFenced 0
  else if s.tcvr d.target ≠ 0 then s.finish d 0o22 0
  else s.startDesc d

/-- The dominant pulse of a LINWAKE ends. -/
def linWakeDone (k : Nat) (s : State) : State :=
  match s.descs.find? (fun d => decide (d.eng = 7 ∧ d.opcode = 4 ∧ d.target = 8 + k ∧ d.phase = .running)) with
  | some d => s.finishDone d 0
  | none => s

/-! ### Stored frames (R331, R332) -/

/-- Bytes that a stored frame takes. -/
def storedSize (f : BusFrame) : Nat := 16 + (f.data.length + 3) / 4 * 4
def storedSum (l : List Stored) : Nat := (l.map (fun x => storedSize x.f)).foldl (· + ·) 0

/-- The oldest waiting RXBUF of a ring. -/
def State.waitingRx (s : State) (ring : Nat) : Option Desc :=
  s.descs.find? (fun d => decide (d.eng = 7 ∧ d.opcode = 2 ∧ d.ring = ring ∧ d.phase = .ready))

/-- The oldest stored frame of a ring written into its oldest waiting RXBUF. -/
def State.deliver (s : State) (r : Nat) : State :=
  match lGet s.net.rx r, s.waitingRx (40 + r) with
  | x :: rest, some d =>
    let cap := bitsOf d.w3.toNat 10 0
    let n := x.f.data.length
    let a := d.w2.toNat
    if s.rangeOff a cap then s.finish d stBankOffline 0
    else
      let s := s.modNet (fun q => { q with rx := lPut q.rx r rest })
      let room := (cap - 8) * 2
      let s := s.putFrame a x.ch x.f x.t (Nat.min n room)
      if n ≤ room then s.finishDone d n else s.finish d 0o23 n
  | _, _ => s

/-- RXBUF offers a buffer. -/
def rxBuf (d : Desc) (s : State) : State := s.deliver (d.ring - 40)

/-- A frame stored for a ring, or discarded. -/
def State.storeRx (s : State) (r : Nat) (x : Stored) : State :=
  let n := storedSize x.f
  let all := s.net.rx.foldl (fun m e => m + storedSum e.2) 0
  if all + n ≤ 65536 ∧ storedSum (lGet s.net.rx r) + n ≤ s.fld (NET_RQ_QUOTA r) * 256 then
    s.modNet (fun q => { q with rx := lPut q.rx r (lGet q.rx r ++ [x]) })
  else
    (s.count (NET_RDROP_DROP r)).raise NET_FLAG_RXOVR
      |>.when (decide (x.ch < 6)) (fun s => s.cEvent x.ch 0)
      |>.record 11 8 x.ch

/-- A filter that matches a frame. -/
def State.filterHit (s : State) (c : Nat) (f : BusFrame) (k : Nat) : Bool :=
  let w := frameWords f 0
  s.on (NET_FCTL_EN k) && decide (s.fld (NET_FCTL_CH k) = c)
    && (decide (s.fld (NET_FCTL_FMT k) = 0 ∨ s.fld (NET_FCTL_FMT k) = f.fmt.val + 1))
    && (decide (8 ≤ c) || decide (s.on (NET_FCTL_IDE k) = (f.b15 && decide (f.fmt.val ≤ 1))))
    && decide (Nat.land (w.getD 1 0) (s.fld (NET_FMH_MH k)) = Nat.land (s.fld (NET_FIDH_IDH k)) (s.fld (NET_FMH_MH k)))
    && decide (Nat.land (w.getD 2 0) (s.fld (NET_FML_ML k)) = Nat.land (s.fld (NET_FIDL_IDL k)) (s.fld (NET_FML_ML k)))

/-- A received frame through the filters (R331); DEDUCED: a frame that is discarded and counted is recorded as NETDROP (R343). -/
def State.filtered (s : State) (c : Nat) (f : BusFrame) : State :=
  match (List.range 64).find? (s.filterHit c f) with
  | none => if c < 6 then (s.count (NET_CCNT_NOMATCH c)).record 11 8 c else s
  | some k =>
    let dest := s.fld (NET_FCTL_DEST k)
    let st := s.fld (NET_FCTL_STRM k)
    s.when (decide (dest = 1 ∨ dest = 3)) (fun s => s.storeRx (s.fld (NET_FCTL_RING k)) ⟨c, f, s.ztDl⟩)
      |>.when (decide (dest = 2 ∧ f.fmt = 2)) (fun s => (s.count (NET_CCNT_XLDROP c)).record 11 8 c)
      |>.when (decide (2 ≤ dest ∧ f.fmt ≠ 2))
        (fun s => s.talkerPlace st (acfFrame (s.on (NET_TSCFG_BRIEF st)) c f s.ztNs) s.ztNs)

/-! ### CAN (R320, R333, R335) -/

/-- The error state that the counts give. -/
def State.canState (s : State) (c : Nat) (tec rec : Nat) : State :=
  let was := s.fld (NET_CSTAT_CSTATE c)
  let passive := decide (127 < tec ∨ 127 < rec)
  s.setFld (NET_CSTAT_TEC c) (satTo 255 tec)
    |>.setFld (NET_CSTAT_REC c) (satTo 255 rec)
    |>.setFld (NET_CSTAT_CSTATE c) (b2n passive)
    |>.when (passive && decide (was ≠ 1)) (fun s => (s.cEvent c 8).record 11 2 c)

/-- An error on a channel: the last error code and its events. -/
def State.canErr (s : State) (c lec : Nat) : State :=
  (s.setFld (NET_CERR_LEC c) lec).cEvent c 7 |>.when (decide (lec = 7)) (fun s => s.cEvent c 6)

/-- A channel enters bus-off. -/
def canBusOff (c : Nat) (s : State) : State :=
  if s.fld (NET_CSTAT_CSTATE c) = 2 ∨ !s.chEn c then s
  else
    (s.setFld (NET_CSTAT_CSTATE c) 2).setFld (NET_CSTAT_TEC c) 255
      |>.modNch c (fun x => { x with recov := false })
      |>.count (NET_CERR_BOFFS c)
      |>.cEvent c 9
      |>.raise NET_FLAG_BOFF
      |>.dropTx c 0o21
      |>.record 11 1 c

/-- A channel that takes part in bus traffic: enabled, receiver on, not bus-off. -/
def State.canLive (s : State) (c : Nat) : Bool :=
  s.chEn c && decide (s.tcvr c ≤ 1) && decide (s.fld (NET_CSTAT_CSTATE c) ≠ 2)

/-- The herd's own transmit slot on a channel. -/
def State.herdSlot (s : State) (c : Nat) : Option (List Byte) :=
  if s.on NET_HCFG_MEDIUM ∨ s.fld NET_HCFG_CH ≠ c then none else s.herd.out.head?

/-- The herd's CAN frame (R347). -/
def State.herdFrame (s : State) (m : List Byte) : BusFrame :=
  { fmt := 0, ident := BitVec.ofNat 29 (s.fld NET_HCAN_BASE * 32 + (m.getD 1 0).toNat), data := m }

/-- A frame of the channel's transmit buffers, or of the herd's slot, has been sent, or has failed with a last error
code. -/
def canSent (c lec : Nat) (s : State) : State :=
  if !s.canLive c ∨ s.tcvr c ≠ 0 ∨ s.on (NET_CTC_TXDTO c) then s
  else
    let next := nextTx (s.nch c).tx
    let herd := match s.herdSlot c, next with
      | some m, some t => decide (frameArb (s.herdFrame m) < frameArb t.f)
      | some _, none => true
      | none, _ => false
    let tec := s.fld (NET_CSTAT_TEC c)
    let rxc := s.fld (NET_CSTAT_REC c)
    if lec = 0 then
      if herd then (s.modHerd (fun h => { h with out := h.out.tail })).canState c (tec - 1) rxc |>.cEvent c 2
      else
        match next with
        | none => s
        | some t =>
          let s := s.modNch c (fun x => { x with tx := x.tx.erase t }) |>.canState c (tec - 1) rxc |>.cEvent c 2
          match t.own.bind s.descId with
          | some d => s.finishDone d (satTo 511 t.retx)
          | none => s
    else if !herd && next.isNone then s
    else
      let s := s.canErr c lec
      if 255 < tec + 8 then canBusOff c s
      else
        let s := s.canState c (tec + 8) rxc
        match herd, next with
        | false, some t =>
          let lim := s.fld (NET_CCFG_RTX c)
          if lim ≠ 0 ∧ lim ≤ t.retx then
            let s := s.modNch c (fun x => { x with tx := x.tx.erase t })
            match t.own.bind s.descId with
            | some d => s.finish d 0o20 0
            | none => s
          else s.modNch c (fun x => { x with tx := x.tx.map (fun y => if y = t then { y with retx := satTo 511 (y.retx + 1) } else y) })
        | _, _ => s

/-- The receive error count after a frame without error: one less, and from the passive range to 119 to 127, which of
them being open in ISO 11898-1. -/
def State.recDown (s : State) (rec : Nat) : Nat := if 127 < rec then 119 + s.draw.toNat % 9 else rec - 1

/-- The image agent's movement signal (R523): LEN bits, little-endian, from data byte BYTE upward, of a frame without error on
channel CH with its identifier and IDE. -/
def State.imgSee (s : State) (c : Nat) (f : BusFrame) : State :=
  let id := if f.b15 then f.ident.toNat else f.ident.toNat % 2 ^ 11
  let want := s.fld FLT_IMVS0_IDH * 65536 + s.fld FLT_IMVS1_IDL
  let i := s.fld FLT_IMVS2_BYTE
  let v := (f.data.getD i 0).toNat + 256 * (f.data.getD (i + 1) 0).toNat + 65536 * (f.data.getD (i + 2) 0).toNat
  if s.fld FLT_IMCTL_VMODE = 1 ∧ s.fld FLT_IMVS0_CH = c ∧ s.on FLT_IMVS0_IDE = f.b15 ∧ want = id then
    s.modImg (fun x => { x with sig := some (v % 2 ^ (s.fld FLT_IMVS2_LEN + 1)), sigAge := 0 })
  else s

/-- A frame received on a channel, with a last error code, 0 for none. -/
def canReceived (c lec : Nat) (f : BusFrame) (s : State) : State :=
  if !s.canLive c then s
  else
    let tec := s.fld (NET_CSTAT_TEC c)
    let rxc := s.fld (NET_CSTAT_REC c)
    if lec ≠ 0 then (s.canErr c lec).canState c tec (rxc + 1)
    else
      let id := f.ident.toNat
      let inHerd := !s.on NET_HCFG_MEDIUM && decide (s.fld NET_HCFG_CH = c)
      let herd := inHerd && decide (f.fmt = 0) && !f.b15 && decide (id / 32 = s.fld NET_HCAN_BASE)
      (s.when (decide (127 < rxc)) State.drew).canState c tec (s.recDown rxc)
        |>.cEvent c 1
        |>.validFrame c
        |>.imgSee c f
        |>.when herd (fun s => s.hHear f.data)
        |>.when (inHerd && !herd) State.hAppFrame
        |>.filtered c f

/-- Bus-off recovery ends: by itself with ABOR, else after a request. -/
def busOffRecoveryEnd (c : Nat) (s : State) : State :=
  if s.fld (NET_CSTAT_CSTATE c) = 2 && (s.on (NET_CCFG_ABOR c) || (s.nch c).recov) then
    (s.modNch c (fun x => { x with recov := false })).canState c 0 0
  else s

/-- A write of RECOV = 1 starts recovery with ABOR = 0. -/
def State.canRecover (s : State) (c : Nat) : State :=
  if s.fld (NET_CSTAT_CSTATE c) = 2 && !s.on (NET_CCFG_ABOR c) then s.modNch c (fun x => { x with recov := true }) else s

/-! ### LIN (R335, R337) -/

/-- The descriptor of a loaded frame. -/
def State.ownDesc (s : State) (t : CanTx) : Option Desc :=
  t.own.bind s.descId

/-- A LIN error: the detail of LIN_ERR, the event and its record. -/
def State.linErr (s : State) (k e : Nat) : State := ((s.setFld (NET_LSTAT_LERR k) e).lEvent k 3).record 11 6 (8 + k)

/-- A frame ends on a LIN channel, or a header for a slave: its frame as heard, and an error detail, 0 for none. A channel
whose driver a short turned off sends nothing that ends well (R343). -/
def linReceived (k e : Nat) (f : BusFrame) (s : State) : State :=
  let c := 8 + k
  let off := (s.nch c).short && decide (e = 0)
  let live := s.chEn c && decide (s.tcvr c ≤ 1)
  if !live then s
  else if s.on (NET_LCFG_ROLE k) then
    match (s.nch c).armed.find? (fun t => decide (t.f.ident.toNat % 64 = f.ident.toNat % 64)) with
    | some t =>
      if s.tcvr c ≠ 0 ∨ off then s
      else
        let s := s.modNch c (fun x => { x with armed := x.armed.erase t })
        if e ≠ 0 then
          match s.ownDesc t with
          | some d => (s.linErr k e).finish d 0o25 e
          | none => s.linErr k e
        else
          match s.ownDesc t with
          | some d => (s.lEvent k 1).finishDone d 0
          | none => s.lEvent k 1
    | none => if e ≠ 0 then s.linErr k e else ((s.lEvent k 0).validFrame c).filtered c f
  else
    match (s.nch c).tx with
    | t :: rest =>
      if off then s
      else
        let s := s.modNch c (fun x => { x with tx := rest })
        match s.ownDesc t with
        | some d =>
          if e ≠ 0 then (s.linErr k e).finish d 0o25 e
          else if d.opcode = 3 then
            let a := d.w2.toNat
            let n := f.data.length
            if s.rangeOff a (8 + (n + 1) / 2) then s.finish d stBankOffline 0
            else
              (s.lEvent k 0).validFrame c |>.putFrame a c { f with fmt := 3, ident := t.f.ident } s.ztDl n |>.finishDone d 0
          else (s.lEvent k 1).finishDone d 0
        | none => if e ≠ 0 then s.linErr k e else s.lEvent k 1
    | [] => if e ≠ 0 then s.linErr k e else ((s.lEvent k 0).validFrame c).filtered c f

/-- The response space of a headed frame passes without a response. -/
def linTimeout (k : Nat) (s : State) : State :=
  match (s.nch (8 + k)).tx with
  | t :: rest =>
    match s.ownDesc t with
    | some d =>
      if d.opcode = 3 then
        (s.modNch (8 + k) (fun x => { x with tx := rest })).lEvent k 2 |>.finish d 0o24 0
      else s
    | none => s
  | [] => s

/-! ### Transceivers and wakes (R324 to R329, R343) -/

/-- The bus has been idle for 11 bit times: the waiting state is in force. -/
def guardDone (c : Nat) (s : State) : State :=
  match (s.nch c).guard with
  | some v => (s.modNch c (fun x => { x with guard := none })).setTcvr c v
  | none => s

/-- A wake-up pattern on a CAN channel; in a guarded entry, a long dominant phase; in BEDDED, CAN0's nano-power
receiver. -/
def canWup (c : Nat) (s : State) : State :=
  if s.pw.mode = .bedded then
    if c = 0 ∧ s.net.can0 ∧ !s.on (NET_WKSTAT_DEAF 0) then (s.countedWake 0).latchWake 0o03 0 else s
  else if s.domSt .net = .off then s
  else if s.wakeArmed c && ((s.nch c).guard.isSome || !s.on (NET_CTC_SWEN c)) then s.chWake c
  else s

/-- Bytes of the data mask of selective wake. -/
def State.swMask (s : State) (c : Nat) : List Nat :=
  [s.fld (NET_SWD0_DM c), s.fld (NET_SWD1_DM c), s.fld (NET_SWD2_DM c), s.fld (NET_SWD3_DM c)].flatMap (fun w => [w / 256, w % 256])

/-- The DLC of a data length. -/
def dlcOf (n : Nat) : Nat := if n ≤ 8 then n else 9 + (([12, 16, 20, 24, 32, 48, 64].findIdx? (fun m => decide (n ≤ m))).getD 6)

/-- A frame that meets the rules of a wake-up frame (R326). -/
def State.isWuf (s : State) (c : Nat) (f : BusFrame) : Bool :=
  let w := frameWords f 0
  let m (a m : Nat) : Nat := Nat.land a m
  decide (f.b15 = s.on (NET_SWCFG_IDE c))
    && decide (m (w.getD 1 0) (s.fld (NET_SWMH_MH c)) = m (s.fld (NET_SWIDH_IDH c)) (s.fld (NET_SWMH_MH c)))
    && decide (m (w.getD 2 0) (s.fld (NET_SWML_ML c)) = m (s.fld (NET_SWIDL_IDL c)) (s.fld (NET_SWML_ML c)))
    && (!s.on (NET_SWCFG_DLCEN c) ||
      (decide (dlcOf f.data.length = s.fld (NET_SWCFG_DLC c))
        && (List.range 8).any (fun i => decide (m (f.data.getD i 0).toNat ((s.swMask c).getD i 0) ≠ 0))))

/-- A frame on a channel with selective wake: a wake-up frame wakes, and so does an error count above 31. -/
def canWuf (c : Nat) (ok : Bool) (f : BusFrame) (s : State) : State :=
  if s.pw.mode = .bedded ∨ s.domSt .net = .off ∨ !s.wakeArmed c ∨ !s.on (NET_CTC_SWEN c) then s
  else if ok then
    (s.setFld (NET_SWFEC_FEC c) (s.fld (NET_SWFEC_FEC c) - 1)).when (s.isWuf c f) (fun s => s.chWake c)
  else
    let n := satTo 63 (s.fld (NET_SWFEC_FEC c) + 1)
    (s.setFld (NET_SWFEC_FEC c) n).when (decide (31 < n)) (fun s => s.chWake c)

/-- A long dominant phase and a recessive edge on a LIN bus. -/
def linBusWake (k : Nat) (s : State) : State :=
  if s.pw.mode = .bedded ∨ s.domSt .net = .off then s
  else if s.wakeArmed (8 + k) then s.chWake (8 + k)
  else s

/-- A validation window's time has passed. -/
def windowEnd (w : Nat) (s : State) : State := if s.on (NET_WKSTAT_WOPEN w) then s.falseWake w else s

/-- Every window open at the completion of an entry closes as false (R328). -/
def State.closeWindows (s : State) : State := s.each (List.range 10) windowEnd

/-- DEAFT in seconds. -/
def deafTime (v : Nat) : Nat := [0, 600, 3600, 28800].getD v 0

/-- The RTC has counted DEAFT. -/
def deafEnd (w : Nat) (s : State) : State :=
  let t := deafTime (s.fld (NET_WKCFG_DEAFT w))
  if t ≠ 0 ∧ nGet s.net.deafAt w + t ≤ s.rtcSec then s.undeafen w else s

def canTxdTimeout (c : Nat) (s : State) : State := (s.setFld (NET_CTC_TXDTO c) 1).cEvent c 5 |>.record 11 3 c
def canBusDominant (c : Nat) (s : State) : State := (s.modNch c (fun x => { x with dom := true })).cEvent c 4 |>.record 11 4 c
def linBusShort (k : Nat) (s : State) : State :=
  (s.modNch (8 + k) (fun x => { x with short := true })).lEvent k 5 |>.record 11 5 (8 + k)

/-- TXD or the bus is recessive again. -/
def dominantEnd (c : Nat) (s : State) : State :=
  (s.modNch c (fun x => { x with dom := false, short := false })).when (decide (c < 6)) (fun s => s.setFld (NET_CTC_TXDTO c) 0)

/-! ### Streams (R339, R340) -/

/-- PACKT has passed since a frame's first message. -/
def packTimeout (t : Nat) (s : State) : State := s.talkerClose t

/-- One ACF message of a listener stream. -/
def State.acfTake (s : State) (l : Nat) (m : List Byte) : State :=
  let typ := byteField m 0 2 / 512
  let b2 := byteField m 2 1
  let b3 := byteField m 3 1
  let pad := b2 / 64
  let head := if typ = 1 then 16 else if typ = 2 then 8 else 12
  let data := (m.drop head).take (m.length - head - pad)
  let drop := (s.count (NET_LSCNT_DROP l)).record 11 8 0
  let fd := bitAt b2 1
  let f : BusFrame :=
    if typ = 3 then { fmt := 3, ident := BitVec.ofNat 29 (b3 % 64), data := data }
    else
      { fmt := if fd then 1 else 0, b15 := bitAt b2 3, b14 := bitAt b2 4 && !fd, b13 := bitAt b2 2 && fd, b12 := bitAt b2 0 && fd,
        ident := BitVec.ofNat 29 (byteField m (head - 4) 4), data := data }
  let bus := if typ = 3 then b2 % 32 else b3 % 32
  let can := decide ((typ = 1 ∨ typ = 2) ∧ bus < 6)
  let lin := decide (typ = 3 ∧ 8 ≤ bus ∧ bus < 12)
  if m.length < head ∨ (!can ∧ !lin) ∨ !s.bit (NET_LSCFG_MASK l) (srcOf bus) then drop
  else if !s.protoOk bus f ∨ !lenOk f.fmt.val data.length ∨ !s.txRoom bus ∨ s.tcvr bus ≠ 0 ∨ s.chFenced bus then drop
  else s.txLoad bus { f := f }

/-- The ACF messages of a frame, at most `n` of them. -/
def State.acfAll (s : State) (l : Nat) : Nat → List Byte → State
  | 0, _ => s
  | n + 1, b =>
    let len := byteField b 0 2 % 512 * 4
    if b.length < 4 ∨ len = 0 ∨ b.length < len then s else (s.acfTake l (b.take len)).acfAll l n (b.drop len)

/-- The stream ID of a listener. -/
def State.listenerId (s : State) (l : Nat) : Nat :=
  ((s.fld (NET_LSID0_SID l) * 2 ^ 16 + s.fld (NET_LSID1_SID l)) * 2 ^ 16 + s.fld (NET_LSID2_SID l)) * 2 ^ 16 + s.fld (NET_LSID3_SID l)

/-- The oldest AVTP frame on P9 unpacked for its listener stream. -/
def listenerFrame (s : State) : State :=
  match s.zsw.p9in with
  | [] => s
  | b :: rest =>
    let s := s.modZsw (fun z => { z with p9in := rest })
    let p := b.drop (if byteField b 12 2 = 0x8100 then 18 else 14)
    let tscf := decide (byteField p 0 1 = 5)
    let seq := byteField p (if tscf then 2 else 3) 1
    let n := if tscf then byteField p 20 2 else byteField p 1 2 % 2048
    match (List.range 8).find? (fun l => s.on (NET_LSCFG_EN l) && decide (s.listenerId l = byteField p 4 8)) with
    | none => s
    | some l =>
      let last := smGet (fun _ => none) s.net.lseq l
      let gap := match last with
        | some q => decide (seq ≠ (q + 1) % 256)
        | none => false
      s.modNet (fun x => { x with lseq := smPut (fun _ => none) x.lseq l (some seq) })
        |>.when gap (fun s => s.count (NET_LSCNT_SEQGAP l))
        |>.acfAll l 512 ((p.drop (if tscf then 24 else 12)).take n)

/-! ### Transactions and power states (R341, R344, R359, R362) -/

/-- A change of a CAN channel, of a LIN channel and of the ring that is committed only while it is quiet. -/
def State.canMoves (s : State) (c : Nat) : Bool :=
  [NET_CCFG_EN c, NET_CCFG_PROTO c, NET_CNBT_BRP c, NET_CNBT_TSEG1 c, NET_CNBT_TSEG2 c, NET_CDBT_BRP c, NET_CDBT_TSEG1 c,
   NET_CDBT_TSEG2 c, NET_CXBT_BRP c, NET_CXBT_TSEG1 c, NET_CXBT_TSEG2 c, NET_CSJW_NSJW c, NET_CSJW_DSJW c, NET_CSJW_XSJW c,
   NET_CTC_SIC c].any s.moves
def State.linMoves (s : State) (k : Nat) : Bool := s.moves (NET_LCFG_EN k) || s.moves (NET_LBR_BR k)
def State.ringMoves (s : State) : Bool := [NET_HCFG_MEDIUM, NET_HCFG_CH, NET_HCFG_ID].any s.moves

/-- A change that the NET agent refuses to commit. -/
def State.netCommitRefuse (s : State) : Option Nat :=
  if (List.range 6).any (fun c => decide (s.tcvr c ≤ 1) && s.canMoves c)
      || (List.range 4).any (fun k => decide (s.tcvr (8 + k) ≤ 1) && s.linMoves k)
      || (decide (s.hSt ≠ 0) && s.ringMoves) then some 3
  else none

/-- A request of NORMAL or LISTEN, or to join the ring, that would make the NET agent's ready answer false: refused with
WRREF while the COMMIT waits (R86). -/
def State.netKept (s : State) (k hi v : Nat) : Bool :=
  s.rng.commits.any (fun e => s.bit (RNG_TXCLAIM_CLAIM e.1) 11) &&
    ((decide (v ≤ 1) && (List.range 6).any (fun c => decide (k = rNET_CTC c ∧ hi = 17) && s.canMoves c))
      || (decide (v ≤ 1) && (List.range 4).any (fun c => decide (k = rNET_LCFG c ∧ hi = 7) && s.linMoves c))
      || (decide (k = rNET_HCTL ∧ hi = 16) && s.ringMoves))

/-- After a commit: a channel that was enabled or disabled integrates, and the herd acts on a change of EN. -/
def State.netCommitted (s : State) (was : State) : State :=
  s.each (List.range 6) (fun c s => if was.on (NET_CCFG_EN c) = s.on (NET_CCFG_EN c) then s else s.setFld (NET_CSTAT_CSTATE c) 3)
    |>.when (decide (was.on NET_HCFG_EN ≠ s.on NET_HCFG_EN))
      (fun s => s.modHerd (fun h => { h with edge := some (s.on NET_HCFG_EN) }))

/-- The NET agent answers DELAY while a stored frame waits for a waiting RXBUF. -/
def State.netDelays (s : State) : Bool :=
  (List.range 8).any (fun r => !(lGet s.net.rx r).isEmpty && (s.waitingRx (40 + r)).isSome)

/-- The refusal of an entry; `zswOff` says that ZSW is to be switched off. -/
def State.netEntry (s : State) (zswOff : Bool) : Option Nat :=
  if netChans.any (fun c => s.chEn c && !s.chFenced c && decide (s.tcvr c ≤ 1)) then some 1
  else if zswOff && ((List.range 8).any (fun t => s.on (NET_TSCFG_EN t) || s.on (NET_LSCFG_EN t))) then some 2
  else if 1 ≤ s.hSt ∧ s.hSt ≤ 3 then some 4
  else none

/-- A forced entry (R344). DEDUCED: a LIN transceiver, which has no STANDBY (R323), is left in SLEEP. -/
def State.netForced (s : State) : State :=
  s.each netChans (fun c s => (s.dropTx c stDomainLost).modNch c (fun x => { x with guard := none })
      |>.when (decide (s.tcvr c ≠ 3)) (fun s => s.setTcvr c (if c < 6 then 2 else 3)))
    |>.finishAll (fun d => decide (d.eng = 7)) stDomainLost
    |>.modNet (fun n => { n with rx := [], talkers := [] })
    |>.herdForced

/-- A fenced channel goes to SLEEP at a REST or BEDDED entry (R325). -/
def State.netAsleep (s : State) : State := s.each netChans (fun c s => if s.chFenced c then s.setTcvr c 3 else s)

/-! ### The commands -/

def execBusTx (r : Fin 64) (i : Fin 1024) (s : State) : Out State := .next (inDom .net (fun s => s.onReady 7 1 r i busTx) s)
def execRxbuf (r : Fin 64) (i : Fin 1024) (s : State) : Out State := .next (inDom .net (fun s => s.onReady 7 2 r i rxBuf) s)
def execHdr (r : Fin 64) (i : Fin 1024) (s : State) : Out State := .next (inDom .net (fun s => s.onReady 7 3 r i hdr) s)
def execLinwake (r : Fin 64) (i : Fin 1024) (s : State) : Out State := .next (inDom .net (fun s => s.onReady 7 4 r i linWake) s)
def execCanFrameSent (c : Fin 6) (lec : BitVec 3) (s : State) : Out State := .next (inDom .net (canSent c lec.toNat) s)
def execCanFrameReceived (c : Fin 6) (lec : BitVec 3) (f : BusFrame) (s : State) : Out State :=
  .next (inDom .net (canReceived c lec.toNat f) s)
def execLinFrameReceived (k : Fin 4) (e : BitVec 3) (f : BusFrame) (s : State) : Out State :=
  .next (inDom .net (linReceived k e.toNat f) s)
def execStoredFrameDeliver (r : Fin 8) (s : State) : Out State := .next (inDom .net (fun s => s.deliver r) s)
def execCanBusOff (c : Fin 6) (s : State) : Out State := .next (inDom .net (canBusOff c) s)
def execGuardedEntryDone (w : Fin 10) (s : State) : Out State := .next (inDom .net (guardDone (chOf w)) s)
def execCanWup (c : Fin 6) (s : State) : Out State := .next (canWup c s)
def execCanWuf (c : Fin 6) (ok : Bool) (f : BusFrame) (s : State) : Out State := .next (canWuf c ok f s)
def execLinBusWake (k : Fin 4) (s : State) : Out State := .next (linBusWake k s)
def execValidationWindowEnd (w : Fin 10) (s : State) : Out State := .next (windowEnd w s)
def execDeafEnd (w : Fin 10) (s : State) : Out State := .next (deafEnd w s)
def execCanTxdTimeout (c : Fin 6) (s : State) : Out State := .next (inDom .net (canTxdTimeout c) s)
def execCanBusDominant (c : Fin 6) (s : State) : Out State := .next (inDom .net (canBusDominant c) s)
def execLinBusShort (k : Fin 4) (s : State) : Out State := .next (inDom .net (linBusShort k) s)
def execBusOffRecoveryEnd (c : Fin 6) (s : State) : Out State := .next (inDom .net (busOffRecoveryEnd c) s)
def execLinResponseTimeout (k : Fin 4) (s : State) : Out State := .next (inDom .net (linTimeout k) s)
def execLinwakeDone (k : Fin 4) (s : State) : Out State := .next (inDom .net (linWakeDone k) s)
def execDominantTimeoutEnd (w : Fin 10) (s : State) : Out State := .next (inDom .net (dominantEnd (chOf w)) s)
def execTalkerPackTimeout (t : Fin 8) (s : State) : Out State := .next (inDom .net (packTimeout t) s)
def execListenerFrame (s : State) : Out State := .next (inDom .net listenerFrame s)

end Sys2Proof.Machine
end

