-- ==== Sys2Proof/Machine/Zsw.lean ====
section
/-! DEFINITION. The switch core (R363 to R392): ports and their queues, the host port, path group moves, the MAC table's
commands and the auditor. -/

namespace Sys2Proof.Machine

/-! ### Egress (R369, R380, R403, R404) -/

/-- A frame older than its queue's residence limit. -/
def State.aged (s : State) (p q : Nat) (e : ZEntry) : Bool :=
  let lim := s.fld (ZSW_QRES_MAXRES (p * 8 + q))
  decide (lim ≠ 0 ∧ lim * 100000 < (s.eth.mc / 64 + 2 ^ 64 - (s.zFrame e.frame).arrival) % 2 ^ 64)

/-- The aged frames at the head of a queue dropped and counted. -/
def State.dropAged (s : State) (p q : Nat) : State :=
  s.each ((s.zQueue p q).takeWhile (s.aged p q)) (fun e s =>
    ((s.zPop p q).zRelease e.frame).count (ZSW_QAGED_AGED (p * 8 + q)))

/-! ### Errors in the buffer (R367, R377, R388) -/

/-- The place in a frame of the first row with an uncorrectable error among the rows that a read of `n` bytes takes. -/
def State.zFault (s : State) (i n : Nat) : Option Nat :=
  let f := s.zFrame i
  ((List.range ((Nat.min f.bytes.length n + 31) / 32)).find? (fun k =>
    (f.cells[k / 8]?).any (fun c => s.zsw.badRows.contains (8 * c + k % 8)))).map (32 * ·)

/-- A frame in which a read has met an uncorrectable error at a place is bad: its cell is retired, the fault is recorded, and every
queue drops it. -/
def State.zBad (s : State) (i at_ : Nat) : State :=
  let f := s.zFrame i
  let c := f.cells.getD (at_ / 256) 0
  let ks := (s.zsw.queues.filter (fun e => e.2.any (fun x => decide (x.frame = i)))).map Prod.fst
  (s.modZsw (fun z => { z with
      retired := insAsc z.retired c, badRows := z.badRows.filter (fun r => decide (r / 8 ≠ c)),
      frames := smInsert (smErase z.frames i) i { f with cells := f.cells.filter (fun x => decide (x ≠ c)) } })).record 12 3 0
    |>.each ks (fun k s => (s.setZQueue (k / 8) (k % 8) ((s.zQueue (k / 8) (k % 8)).filter (fun x => decide (x.frame ≠ i)))).zCounts (k / 8) (k % 8))
    |>.zRelease i

/-- The frames at the head of a queue whose first row is bad dropped. -/
def State.dropBad (s : State) (p q : Nat) : State :=
  s.each ((s.zQueue p q).takeWhile (fun e => decide (s.zFault e.frame 2000 = some 0))) (fun e s => s.zBad e.frame 0)

/-- The frame in transmission on a port has ended. -/
def State.sendEnd (s : State) (p : Nat) : State :=
  match smFind s.zsw.sending p with
  | some x =>
    (s.modZsw (fun z => { z with sending := smErase z.sending p })).zRelease x.frame
      |>.count (ZSW_PTXF_TXF p)
      |>.creditSent p x.queue x.wire
  | none => s

/-- A frame leaves on P9: AVTP frames wait for the bus bridge, and herd datagrams go to the herd engine. -/
def State.toBridge (s : State) (b : List Byte) : State :=
  let h := s.zHead 9 b none
  if h.ety = 0x22F0 then s.modZsw (fun z => { z with p9in := z.p9in ++ [b] })
  else if s.on NET_HCFG_MEDIUM && s.isHerdDgram b h then s.hHear (sliceD b (udpAt b h + 8) (byteField b (udpAt b h + 4) 2 - 8) 0)
  else s

/-- The head frame of a queue starts on a port; one that turns out bad on the way is cut there and stomped (R377). -/
def State.sendStart (s : State) (p q : Nat) : State :=
  match s.zQueue p q with
  | e :: _ =>
    let b := s.egressBytes p (s.zFrame e.frame)
    match s.zFault e.frame 2000 with
    | some k => (s.zStomp p q (b.take (b.length + k - (s.zFrame e.frame).bytes.length))).zBad e.frame k
    | none =>
    (s.modZsw (fun z => { z with
        sending := smInsert z.sending p ⟨e.frame, q, e.bucket, b.length + 24⟩,
        line := lPut z.line p b, lineBad := bPut z.lineBad p false })).zPop p q
      |>.when (decide (p = 9)) (fun s => s.toBridge b)
  | [] => s

/-- The first eligible queue from `n - 1` down sends. -/
def State.sendFrom (s : State) (p : Nat) : Nat → State
  | 0 => s
  | q + 1 =>
    let k := p * 8 + q
    if (s.zQueue p q).isEmpty || (s.on (ETH_QSH_EN k) && decide (s.credit k < 0)) then s.sendFrom p q
    else
      let s := (s.dropAged p q).dropBad p q
      if (s.zQueue p q).isEmpty then (s.creditEmpty p q).sendFrom p q else s.sendStart p q

/-- An egress port ends its frame and starts the next. `coll`: on P6 or P7 the start meets a collision and nothing starts; it counts
while PLCA is active (R397). -/
def egressSend (p : Nat) (coll : Bool) (s : State) : State :=
  let s := s.sendEnd p
  if coll && decide (p = 6 ∨ p = 7) then s.when (s.on (ETH_PLCA_EN p) && s.on (ETH_PSTAT_PLCAA p)) (fun s => s.count (ETH_PLCNT_COLL p))
  else if s.zPort p = 1 ∧ p ≠ 8 then s.sendFrom p 8 else s

/-! ### Link states (R378, R379, R395) -/

/-- A port's link as the switch core sees it comes up. -/
def State.zLinkUp (s : State) (p : Nat) : State :=
  if !s.on (ZSW_PCFG_EN p) then s
  else
    match s.zPort p with
    | 0 => ((s.setFld (ZSW_PSTAT_STATE p) 1).zEvt p 3).pgRevive p
    | 2 =>
      ((s.setFld (ZSW_PSTAT_STATE p) 1).zEvt p 3).pgRevive p
        |>.setFld (ZSW_PSTAT_LEFT p) 0
        |>.count (ZSW_PFLUSH_FLAPS p)
    | _ => s

/-- A port's link is lost. -/
def State.zLinkLost (s : State) (p : Nat) : State :=
  if s.zPort p ≠ 1 then s
  else
    let s := s.zAbandon p
    if !s.zEmpty p && s.on (ZSW_PCFG_HOLD p) then
      ((s.setFld (ZSW_PSTAT_STATE p) 2).zEvt p 5).setFld (ZSW_PSTAT_LEFT p) (s.fld (ZSW_PCFG_HOLD p))
        |>.modZsw (fun z => { z with holdAt := nPut z.holdAt p s.eth.mc })
    else s.zToFlush p

def portLinkUp (p : Nat) (sqi : Nat) (s : State) : State :=
  let st := s.fld (ETH_TSTAT_STATE p)
  if !s.on (ETH_PCFG_EN p) || s.on (ETH_PSTAT_FENCED p) || s.on (ETH_PSTAT_LINK p) || (decide (p < 6) && !decide (st = 1 ∨ st = 4)) then s
  else
    (s.setFld (ETH_PSTAT_LINK p) 1).setBitF (ETH_PEVT_EVT p) 0 true
      |>.when (decide (p < 6)) (fun s => (s.setFld (ETH_TSTAT_STATE p) 1).setFld (ETH_PSTAT_SQI p) sqi)
      |>.zLinkUp p

/-- The link of a port down, counted as a loss or not. -/
def State.linkDown (s : State) (p : Nat) (loss : Bool) : State :=
  if !s.on (ETH_PSTAT_LINK p) then s
  else
    (s.setFld (ETH_PSTAT_LINK p) 0).setBitF (ETH_PEVT_EVT p) 1 true
      |>.when (decide (p < 6)) (fun s => s.setFld (ETH_PSTAT_SQI p) 0)
      |>.when loss (fun s => s.count (ETH_PCNT_LOSS p))
      |>.zLinkLost p
      |>.when loss (fun s => s.record 13 1 p)

def portLinkLost (p : Nat) (s : State) : State := s.linkDown p true

def portHoldEnd (p : Nat) (s : State) : State :=
  if s.zPort p = 2 then
    (s.zToFlush p).setFld (ZSW_PSTAT_LEFT p) 0 |>.modZsw (fun z => { z with fromHold := insAsc z.fromHold p })
  else s

/-- Every queue of a port in FLUSH is emptied; the port enters DOWN, or UP if its link is up. -/
def flushDone (p : Nat) (s : State) : State :=
  if s.zPort p ≠ 3 then s
  else
    let n := ((List.range 8).map (fun q => (s.zQueue p q).length)).foldl (· + ·) 0
    let held := s.zsw.fromHold.contains p
    let s := (s.each (List.range 8) (fun q s => (s.zPurge p q).creditEmpty p q)).countBy (ZSW_PFLUSH_FLUSH p) n
      |>.modZsw (fun z => { z with fromHold := z.fromHold.filter (fun x => decide (x ≠ p)) })
    let up := s.on (ETH_PSTAT_LINK p) && s.on (ZSW_PCFG_EN p) && !s.on (ETH_PSTAT_FENCED p)
    (if up then ((s.setFld (ZSW_PSTAT_STATE p) 1).zEvt p 3).pgRevive p
     else ((s.setFld (ZSW_PSTAT_STATE p) 0).zEvt p 2).macFlushPort p |>.pgFail p)
      |>.when held (fun s => s.record 12 5 p)

/-! ### Path groups (R373) -/

/-- A bucket returns home, or moves after a change of its home, once its count on the current member is 0. -/
def bucketReturn (g b : Nat) (s : State) : State :=
  let h := s.pgHome g b
  let due := s.zsw.moveDue.contains (g * 16 + b)
  if s.on (ZSW_PGCFG_EN g) && decide (h ≠ s.pgCur g b) && decide (s.pgCount g b = 0) && !s.bit (ZSW_PGSTAT_DEAD g) b
      && (due || decide (s.pgPort g h < 10 ∧ s.zPort (s.pgPort g h) = 1)) then s.pgMove g b h
  else s

/-! ### The MAC table (R370) -/

def macAgeing (v m : Nat) (s : State) : State :=
  if s.on ZSW_GCTL_AGE then s.setMacs (s.zsw.macs.filter (fun e => e.static || !decide (e.vid = v ∧ e.mac = m))) else s

/-- The address and VID that a command names. -/
def State.mAddr (s : State) : Nat := (s.fld ZSW_MADR0_ADDR * 2 ^ 16 + s.fld ZSW_MADR1_ADDR) * 2 ^ 16 + s.fld ZSW_MADR2_ADDR
def State.mVid (s : State) : Nat := s.fld ZSW_MVID_VID
def State.mDone (s : State) (r : Nat) : State := s.setFld ZSW_MSTAT_RESULT r

def macLookup (s : State) : State :=
  match s.macOf s.mVid s.mAddr with
  | some e => ((s.setFld ZSW_MRES_STATIC (b2n e.static)).setFld ZSW_MRES_PG (b2n e.pg)).setFld ZSW_MRES_MASK e.mask |>.mDone 0
  | none => s.mDone 1

/-- The entry that INSERT makes. -/
def State.mEntry (s : State) : ZMac := ⟨s.mVid, s.mAddr, s.on ZSW_MRES_STATIC, s.on ZSW_MRES_PG, s.fld ZSW_MRES_MASK⟩

def macInsert (s : State) : State :=
  match s.macOf s.mVid s.mAddr with
  | some e => (s.setMacs (s.zsw.macs.map (fun x => if x = e then s.mEntry else x))).mDone 0
  | none => if s.macFull s.mVid s.mAddr then s.mDone 2 else (s.setMacs (s.zsw.macs ++ [s.mEntry])).mDone 0

def macDelete (s : State) : State :=
  match s.macOf s.mVid s.mAddr with
  | some e => (s.setMacs (s.zsw.macs.erase e)).mDone 0
  | none => s.mDone 1

def macFlushAll (s : State) : State := (s.setMacs (s.zsw.macs.filter (fun e => e.static))).mDone 0
def macFlushOne (s : State) : State := (s.macFlushPort (s.fld ZSW_MRES_MASK % 16)).mDone 0

/-- A write of ZSW_MCMD (R370, R389): the command of its CMD field. -/
def State.macCommand (s : State) (cmd : Nat) : State :=
  match cmd with
  | 1 => macLookup s
  | 2 => macInsert s
  | 3 => macDelete s
  | 4 => macFlushAll s
  | 5 => macFlushOne s
  | _ => s

/-! ### The host port (R381 to R385) -/

/-- What is wrong with the buffer of a TXFRAME or RXCOPY. -/
def State.hostBufJudge (s : State) (d : Desc) : Option (Nat × Nat) :=
  let a := d.w2.toNat
  let n := (d.w3.toNat + 1) / 2
  if s.rangeOff a n then some (stBankOffline, 0)
  else if d.opcode ≠ 1 then none
  else if s.rangeBad a n then some (stMemError, 0o7777)
  else if (List.range n).any (fun i => decide (2 ^ 16 ≤ (s.rd (a + i)).toNat)) then some (stBadParam, 2)
  else none

/-- What is wrong with a host port descriptor. -/
def State.hostJudge (s : State) (d : Desc) : Option (Nat × Nat) :=
  let o := d.opcode
  let max := s.fld ZSW_GCTL_MAXLEN - 4
  let w3 := d.w3.toNat
  let a := d.w2.toNat
  if 4 < o then some (stBadOpcode, 0)
  else if d.target ≠ 0 then some (stBadTarget, 0)
  else if d.isProv || decide (d.flags ≠ 0) || (d.isTimed && decide (o ≠ 1 ∧ o ≠ 0)) then some (stBadDesc, 0)
  else if (o = 0 ∨ o = 3) ∧ d.w2 ≠ 0 then some (stBadParam, 2)
  else if o = 4 ∧ 128 ≤ a then some (stBadParam, 2)
  else if (o = 0 ∨ o = 3 ∨ o = 4) ∧ w3 ≠ 0 then some (stBadParam, 3)
  else if o = 1 ∧ (2 ^ 11 ≤ w3 ∨ w3 < 14 ∨ max < w3) then some (stBadParam, 3)
  else if o = 2 ∧ (2 ^ 11 ≤ w3 ∨ w3 < 14 ∨ 1996 < w3) then some (stBadParam, 3)
  else if o = 1 ∧ bitsOf d.w4.toNat 16 3 ≠ 0 then some (stBadParam, 4)
  else if o ≠ 1 ∧ d.w4 ≠ 0 then some (stBadParam, 4)
  else if o = 1 ∨ o = 2 then
    let n := (w3 + 1) / 2
    if !inRam a n then some (stBadParam, 2)
    else if !s.domOn .zsw then some (stDomainLost, 0)
    else s.hostBufJudge d
  else if o ≠ 0 ∧ !s.domOn .zsw then some (stDomainLost, 0)
  else none

/-- TXFRAME (R383); its buffer is judged again, since a bank may have gone off line (R44). -/
def txFrame (d : Desc) (s : State) : State :=
  match s.hostBufJudge d with
  | some r => s.finish d r.1 r.2
  | none =>
  let b := s.bufBytes d.w2.toNat d.w3.toNat
  let b := b ++ List.replicate (60 - b.length) Config.padByte
  let ovr := if bitAt d.w4.toNat 17 then some (d.w4.toNat % 8) else none
  let (s, r) := s.zIngress 8 b false false ovr
  if r.why = 6 ∨ (!r.none_ ∧ r.admitted.isEmpty) then s.finish d 0o20 r.why else s.finishDone d r.admitted.length

/-- The ring number that a P8 queue is mapped to. -/
def State.hqRing (s : State) (q : Nat) : Nat :=
  48 + (if q < 6 then bitsOf (s.fld ZSW_HQMAP0_Q0_Q5) (3 * q + 2) (3 * q)
        else bitsOf (s.fld ZSW_HQMAP1_Q6Q7) (3 * (q - 6) + 2) (3 * (q - 6)))

/-- The P8 queue that a ring's next receive descriptor takes from: the highest-numbered one mapped to it that holds a
frame. -/
def State.hostQueue (s : State) (ring : Nat) : Option Nat :=
  [7, 6, 5, 4, 3, 2, 1, 0].find? (fun q => decide (s.hqRing q = ring) && !(s.zQueue 8 q).isEmpty)

/-- The aged frames at the heads of a ring's queues dropped. -/
def State.hostAged (s : State) (ring : Nat) : State :=
  s.each ((List.range 8).filter (fun q => decide (s.hqRing q = ring))) (fun q s => s.dropAged 8 q)

/-- A bound window slot, and the lowest run of `k` free slots (R383). -/
def State.slotBound (s : State) (i : Nat) : Bool := s.bit (ZSW_WBIND_BOUND (i / 16)) (i % 16)
def State.freeRun (s : State) (k : Nat) : Option Nat :=
  (List.range (129 - k)).find? (fun i => (List.range k).all (fun j => !s.slotBound (i + j)))
def State.markSlots (s : State) (i k : Nat) (b : Bool) : State :=
  s.each (List.range k) (fun j s => s.setBitF (ZSW_WBIND_BOUND ((i + j) / 16)) ((i + j) % 16) b)

/-- A binding ended: its cells are freed and its slots show as free (R384). -/
def State.unbind (s : State) (b : ZBind) : State :=
  ((s.modZsw (fun z => { z with binds := z.binds.erase b })).markSlots b.slot b.n false).zRelease b.frame

/-- Words 4 to 6 of a receive descriptor. -/
def State.putRxWords (s : State) (d : Desc) (f : ZFrame) : State :=
  let a := s.slotAddr d.ring d.slot
  s.wr (a + 4) (toWord (f.port * 2 ^ 14 + f.pri * 2 ^ 11 + f.colour * 2 ^ 9))
    |>.wr (a + 5) (toWord (f.arrival / 8 % 2 ^ 36 / 2 ^ 18))
    |>.wr (a + 6) (toWord (f.arrival / 8))

/-- RXCOPY and RXBIND on the frame at the head of a queue: none while the descriptor waits. A frame that RXCOPY finds bad is dropped, and
the descriptor goes on to the next (R367, R381). -/
def State.hostTake (s : State) (d : Desc) : Option State :=
  let s := s.hostAged d.ring
  match s.hostQueue d.ring with
  | none => none
  | some q =>
    match s.zQueue 8 q with
    | [] => none
    | e :: _ =>
      let f := s.zFrame e.frame
      let n := f.bytes.length
      if d.opcode = 2 then
        let cap := d.w3.toNat
        let words := (Nat.min n cap + 1) / 2
        if s.rangeOff d.w2.toNat words then some (s.finish d stBankOffline 0)
        else
          match s.zFault e.frame cap with
          | some k => some (s.zBad e.frame k)
          | none =>
          let s := (s.putBytes d.w2.toNat (f.bytes.take cap)).putRxWords d f |>.zPop 8 q |>.zRelease e.frame
          some (if n ≤ cap then s.finishDone d n else s.finish d 0o21 n)
      else
        let k := f.cells.length
        match s.freeRun k with
        | none => none
        | some i =>
          some ((s.modZsw (fun z => { z with binds := z.binds ++ [⟨d.ring, i, k, e.frame⟩] })).zPop 8 q
            |>.markSlots i k true
            |>.putRxWords d f
            |>.wr (s.slotAddr d.ring d.slot + 3) (toWord (i * 2 ^ 7 + k))
            |>.finishDone d n)

/-- The receive descriptors that wait, the oldest of each ring. -/
def State.hostWaiting (s : State) : List Desc :=
  (List.range 8).filterMap (fun j =>
    s.descs.find? (fun d => decide (d.eng = 8 ∧ (d.opcode = 2 ∨ d.opcode = 3) ∧ d.ring = 48 + j ∧ d.phase = .ready)))

/-- Waiting receive descriptors take what is queued for them, at most `n` frames. -/
def State.hostServe (s : State) : Nat → State
  | 0 => s
  | n + 1 =>
    match s.hostWaiting.findSome? s.hostTake with
    | some s' => s'.hostServe n
    | none => s

/-- RXFREE ends a binding made through its ring. -/
def rxFree (d : Desc) (s : State) : State :=
  match s.zsw.binds.find? (fun b => decide (b.ring = d.ring ∧ b.slot = d.w2.toNat)) with
  | some b => (s.unbind b).finishDone d 0 |>.hostServe 64
  | none => s.finish d 0o22 0

def bindingExpiry (i : Nat) (s : State) : State :=
  match s.zsw.binds.find? (fun b => decide (b.slot = i)) with
  | some b =>
    if s.on ZSW_HCFG_BTO then (s.unbind b).raise ZSW_FLAG_BINDTO |>.record 12 7 i |>.hostServe 64 else s
  | none => s

/-- A disabled ring ends its bindings (R384). -/
def State.zswRingOff (s : State) (r : Nat) : State :=
  s.each (s.zsw.binds.filter (fun b => decide (b.ring = r))) (fun b s => s.unbind b)

/-- A frame received on a port. -/
def frameReceived (p : Nat) (b : List Byte) (bad stomped : Bool) (s : State) : State :=
  if s.zPort p ≠ 1 then s else (s.zIngress p b bad stomped none).1.hCheck.hostServe 64

/-! ### The auditor (R386 to R388) -/

/-- A census of this instant: each cell is reached on the free list, in a frame that is held, or among the retired. -/
def State.takeCensus (s : State) (first : Option (List Nat)) : ZCensus :=
  let inFrames := (s.zsw.frames.filter (fun e => s.zHeld e.1)).flatMap (fun e => e.2.cells)
  let reached := inFrames ++ s.zsw.retired
  let leak := s.zsw.out.filter (fun c => !reached.contains c)
  let twice := (reached.eraseDups).filter (fun c => decide (1 < reached.count c) || !s.zsw.out.contains c)
  ⟨8192 - leak.length - twice.length, leak, twice.length, first⟩

def censusStart (s : State) : State :=
  if s.zsw.census.isSome then s
  else (s.modZsw (fun z => { z with census := some (s.takeCensus none) })).setFld ZSW_AUDRES_RESULT 1

def censusTimer (s : State) : State := if s.on ZSW_AUDCTL_PER then censusStart s else s

def censusDone (s : State) : State :=
  match s.zsw.census with
  | none => s
  | some c =>
    let lost := c.leak.length
    let fail := decide (lost ≠ 0 ∨ c.dup ≠ 0)
    let back := match c.first with
      | some l => c.leak.filter (fun x => l.contains x)
      | none => []
    s.modZsw (fun z => { z with census := none, out := z.out.filter (fun x => !back.contains x) })
      |>.setFld ZSW_FREE_FREE (s.zFreeN + back.length)
      |>.setFld ZSW_AUDRES_RESULT (if fail then 3 else 2)
      |>.setFld ZSW_AUDRES_FOUND c.found
      |>.setFld ZSW_AUDLEAK_LEAK (satTo 511 lost)
      |>.setFld ZSW_AUDLEAK_DUP (satTo 511 c.dup)
      |>.raise ZSW_FLAG_AUDDONE
      |>.raiseIf fail ZSW_FLAG_AUDF
      |>.when (decide (lost ≠ 0) && c.first.isNone && s.on ZSW_AUDCTL_RECL) (fun s =>
        (s.modZsw (fun z => { z with census := some (s.takeCensus (some c.leak)) })).setFld ZSW_AUDRES_RESULT 1)
      |>.when (decide (lost ≠ 0)) (fun s => s.record 12 1 0)
      |>.when (decide (c.dup ≠ 0)) (fun s => s.record 12 2 0)

/-! ### Transactions and power states (R371, R375, R389, R392, R365) -/

/-- A combination that the ZSW agent refuses to commit. -/
def State.zswCommitRefuse (s : State) : Option Nat :=
  let en (g : Nat) : Bool := decide (s.fldNext (ZSW_PGCFG_EN g) ≠ 0)
  let mem (g i : Nat) : Nat := bitsOf (s.fldNext (ZSW_PGMEM_MEM g)) (4 * i + 3) (4 * i)
  let ports (g : Nat) : List Nat := ((List.range 4).map (mem g)).filter (fun p => decide (p < 10))
  let home (g b : Nat) : Nat := bitsOf (s.fldNext (ZSW_PGHOME_HOME g (b / 8))) (2 * (b % 8) + 1) (2 * (b % 8))
  let vid (v : Nat) : Nat := s.fldNext (ZSW_VLAN_VID v)
  let von (v : Nat) : Bool := decide (s.fldNext (ZSW_VLAN_EN v) ≠ 0)
  if (List.range 4).any (fun g => en g && (List.range g).any (fun h => en h && (ports g).any (fun p => (ports h).contains p)))
      || (List.range 4).any (fun g => en g && (List.range 16).any (fun b => decide (mem g (home g b) = 15)))
      || (List.range 4).any (fun r => decide (s.fldNext (ZSW_RMAX0_MAX r) ≤ s.fldNext (ZSW_RMIN0_MIN r)
            ∨ s.fldNext (ZSW_RMAX1_MAX r) ≤ s.fldNext (ZSW_RMIN1_MIN r) ∨ s.fldNext (ZSW_RMAX2_MAX r) ≤ s.fldNext (ZSW_RMIN2_MIN r)))
      || (List.range 64).any (fun v => von v && (List.range v).any (fun u => von u && decide (vid u = vid v)))
  then some 3
  else none

/-- After a commit: the random register is seeded when EN is set, ports follow their EN, and buckets whose home changed
move as their counts allow, and rings that a queue is now mapped to are served. -/
def State.zswCommitted (s : State) (was : State) : State :=
  s.when (s.on ZSW_GCTL_EN && !was.on ZSW_GCTL_EN) (fun s => (s.modZsw (fun z => { z with lfsr := s.draw.toNat % 65536 })).drew)
    |>.each (List.range 10) (fun p s =>
      if s.on (ZSW_PCFG_EN p) = was.on (ZSW_PCFG_EN p) then s
      else if s.on (ZSW_PCFG_EN p) then s.when (s.on (ETH_PSTAT_LINK p)) (fun s => s.zLinkUp p)
      else (s.zDisable p).setFld (ZSW_PSTAT_LEFT p) 0)
    |>.each (List.range 64) (fun k s =>
      if s.pgHome (k / 16) (k % 16) = was.pgHome (k / 16) (k % 16) then s
      else bucketReturn (k / 16) (k % 16) (s.modZsw (fun z => { z with moveDue := insAsc z.moveDue k })))
    |>.hostServe 64

/-- The ZSW agent answers DELAY while a frame is queued on a port in UP. -/
def State.zswDelays (s : State) : Bool := (List.range 10).any (fun p => decide (s.zPort p = 1) && !s.zEmpty p)
/-- Its refusal of an entry that switches ZSW off. -/
def State.zswEntry (s : State) : Option Nat :=
  if !s.zsw.binds.isEmpty then some 1
  else if (List.range 10).any (fun p => decide (s.zPort p = 2)) then some 2
  else none

/-- A forced entry loses every stored frame and ends every binding. -/
def State.zswForced (s : State) : State :=
  (s.modZsw (fun _ => {})).finishAll (fun d => decide (d.eng = 8)) stDomainLost

/-! ### The commands -/

def execZswFrameReceived (p : Fin 8) (b : List Byte) (bad stomped : Bool) (s : State) : Out State :=
  .next (inDom .zsw (frameReceived p b bad stomped) s)
def execZswEgressSend (p : EgressSend) (s : State) : Out State := .next (inDom .zsw (egressSend p.port p.coll) s)
def execPortLinkUp (p : Fin 8) (sqi : BitVec 3) (s : State) : Out State := .next (inDom .zsw (portLinkUp p sqi.toNat) s)
def execPortLinkLost (p : Fin 8) (s : State) : Out State := .next (inDom .zsw (portLinkLost p) s)
def execPortHoldEnd (p : Fin 10) (s : State) : Out State := .next (inDom .zsw (portHoldEnd p) s)
def execFlushDone (p : Fin 10) (s : State) : Out State := .next (inDom .zsw (flushDone p) s)
def execBucketReturn (g : Fin 4) (b : Fin 16) (s : State) : Out State := .next (inDom .zsw (bucketReturn g b) s)
def execMacAgeing (v : BitVec 12) (m : BitVec 48) (s : State) : Out State := .next (inDom .zsw (macAgeing v.toNat m.toNat) s)
def execTxframe (r : Fin 64) (i : Fin 1024) (s : State) : Out State :=
  .next (inDom .zsw (fun s => s.onReady 8 1 r i (fun d s => (txFrame d s).hostServe 64)) s)
def execRxcopy (r : Fin 64) (i : Fin 1024) (s : State) : Out State :=
  .next (inDom .zsw (fun s => s.onReady 8 2 r i (fun _ s => s.hostServe 64)) s)
def execRxbind (r : Fin 64) (i : Fin 1024) (s : State) : Out State :=
  .next (inDom .zsw (fun s => s.onReady 8 3 r i (fun _ s => s.hostServe 64)) s)
def execRxfree (r : Fin 64) (i : Fin 1024) (s : State) : Out State := .next (inDom .zsw (fun s => s.onReady 8 4 r i rxFree) s)
def execBindingExpiry (i : Fin 128) (s : State) : Out State := .next (inDom .zsw (bindingExpiry i) s)
def execCensusTimer (s : State) : Out State := .next (inDom .zsw censusTimer s)
def execCensusDone (s : State) : Out State := .next (inDom .zsw censusDone s)

end Sys2Proof.Machine
end

