-- ==== Sys2Proof/Machine/Eth.lean ====
section
/-! DEFINITION. Ethernet ports, TC10 sleep and wake, and zone time in the switch domain (R393 to R414). -/

namespace Sys2Proof.Machine

def State.pEvent (s : State) (p i : Nat) : State := s.setBitF (ETH_PEVT_EVT p) i true

/-! ### PHYs and PLCA (R396, R397) -/

def phyFault (p : Nat) (s : State) : State :=
  if !s.on (ETH_PCFG_EN p) || s.on (ETH_PSTAT_FENCED p) then s
  else ((s.raise ETH_FLAG_PHYF).pEvent p 7).record 13 2 p

/-- PLCA on P6 or P7. -/
def beaconLoss (p : Nat) (s : State) : State :=
  if s.on (ETH_PLCA_EN p) && s.on (ETH_PSTAT_PLCAA p) then
    ((s.setFld (ETH_PSTAT_PLCAA p) 0).count (ETH_PLCNT_BCNL p)).record 13 5 p
  else s

def beacon (p : Nat) (s : State) : State :=
  if s.on (ETH_PLCA_EN p) && s.on (ETH_PCFG_EN p) && !s.on (ETH_PSTAT_FENCED p) then s.setFld (ETH_PSTAT_PLCAA p) 1 else s

/-! ### TC10 (R398 to R400) -/

/-- A port enters SLEEP: the switch core sees its link lost. -/
def State.toSleep (s : State) (p : Nat) : State := (s.setTc10 p 3).linkDown p false

/-- A write of SLEEP = 1. -/
def State.tc10Sleep (s : State) (p : Nat) : State :=
  if s.tc10 p ≠ 1 then s
  else if s.on (ETH_PSTAT_LINK p) then s.setTc10 p 2
  else s.toSleep p

def lpsAck (p : Nat) (s : State) : State := if s.tc10 p = 2 then (s.toSleep p).pEvent p 2 else s
def sleepTimeout (p : Nat) (s : State) : State := if s.tc10 p = 2 then (s.setTc10 p 1).pEvent p 5 else s

/-- A sleep request of the partner (R399); DEDUCED: also one that crosses this port's own. -/
def remoteSleep (p : Nat) (s : State) : State :=
  if (s.tc10 p = 1 ∨ s.tc10 p = 2) ∧ s.on (ETH_PSTAT_LINK p) then
    if s.on (ETH_TCFG_ACCEPT p) then ((s.pEvent p 4).toSleep p).pEvent p 2 else s.pEvent p 4
  else s

/-- A WUP sent on a sleeping pair. -/
def State.tc10SendWup (s : State) (p : Nat) : State := if s.tc10 p = 3 then s.setTc10 p 4 else s

/-- A write of WAKE = 1: in SLEEP it sends WUP, in SLEEP_REQ it ends the handshake. -/
def State.tc10Wake (s : State) (p : Nat) : State :=
  if s.tc10 p = 2 then (s.setTc10 p 1).pEvent p 6 else s.tc10SendWup p

/-- A WAKE event on a port, and the ports of its FWD mask woken with it. -/
def State.wakeEvent (s : State) (p : Nat) : State :=
  ((s.pEvent p 3).raise ETH_FLAG_WAKE).count (ETH_PCNT_WAKES p)
    |>.each (onesBelow 6 (s.fld (ETH_TCFG_FWD p))) (fun q s => s.tc10SendWup q)

/-- A WUP on a sleeping pair: detected while armed; its events are set, and its FWD ports woken, as soon as ZSW runs. -/
def tc10Wup (p : Nat) (s : State) : State :=
  if s.tc10 p = 3 ∧ s.on (ETH_TSTAT_WKARM p) ∧ s.pw.mode ≠ .bedded then
    (if s.domOn .zsw then (s.setTc10 p 4).wakeEvent p
    else (s.setTc10 p 4).modEth (fun e => { e with wakes := e.wakes ++ [p] })).latchWake 0o05 p
  else s

def tc10Wur (p : Nat) (s : State) : State :=
  if s.tc10 p = 1 ∧ s.on (ETH_PSTAT_LINK p) then s.wakeEvent p
  else if s.tc10 p = 2 then (s.setTc10 p 1).pEvent p 6
  else s

/-! ### Zone time (R405 to R409) -/

/-- The Sync interval of a port as a power of two of a second, and the step threshold in ns. -/
def State.lsync (s : State) (p : Nat) : Int := sextOf 4 (s.fld (ETH_ASP_LSYNC p))
def State.ethStepThr (s : State) : Nat := [1000, 10000, 100000, 1000000].getD (s.fld ETH_ASCTL_STEPTHR) 0

/-- An offset in ns divided by an interval of 2^l seconds and by `k`, in 10^-12. -/
def rateOf (ofs l : Int) (k : Nat) : Int :=
  if 0 ≤ l then ofs * 1000 / ((k * 2 ^ l.toNat : Nat) : Int) else ofs * 1000 * ((2 ^ (-l).toNat : Nat) : Int) / (k : Int)

/-- The rate correction kept within ±500 ppm. -/
def clampRate (r : Int) : Int := if 500000000 < r then 500000000 else if r < -500000000 then -500000000 else r

/-- LOCK falls to 0. -/
def State.unlock (s : State) : State :=
  if s.on ETH_ASSTAT_LOCK then (s.setFld ETH_ASSTAT_LOCK 0).raise ETH_FLAG_LOCKL else s

/-- A signed value of `n` bits that saturates. -/
def satSigned (n : Nat) (v : Int) : Nat :=
  let m : Int := ((2 ^ (n - 1) : Nat) : Int)
  wrapTo n (if m ≤ v then m - 1 else if v < -m then -m else v)

/-- The rate correction in force, with ETH_ASRATE. -/
def State.setRate (s : State) (r : Int) : State :=
  (s.modEth (fun e => { e with rate := r })).setFld ETH_ASRATE_RATE (wrapTo 18 (r / 10000))

/-- The consecutive counts of offsets, and LOCK as they set it. -/
def State.judgeOfs (s : State) (a : Nat) : State :=
  let inN := if a ≤ 100 then satTo 8 (s.eth.inN + 1) else 0
  let outN := if 500 < a then satTo 4 (s.eth.outN + 1) else 0
  s.modEth (fun e => { e with inN := inN, outN := outN })
    |>.when (decide (outN = 4)) State.unlock
    |>.when (decide (inN = 8)) (fun s => s.setFld ETH_ASSTAT_LOCK 1)

/-- A Sync and Follow_Up pair on the slave port with its offset in ns, local time minus master time. -/
def syncFollowUp (p : Nat) (ofs : Int) (s : State) : State :=
  if !s.on ETH_ASCTL_EN || s.on ETH_ASCTL_GM || decide (s.fld (ETH_ASP_ROLE p) ≠ 2) || !s.on (ETH_PSTAT_LINK p) then s
  else
    let l := s.lsync p
    let s := (s.setFld ETH_ASOFS_OFS (satSigned 18 ofs)).setFld ETH_ASSTAT_HOLD 0
    let s :=
      if s.ethStepThr < ofs.natAbs then
        let c : Int := (s.eth.mc : Int) - ofs * 64
        ((s.setCounter (c % ((2 ^ 70 : Nat) : Int)).toNat).modEth (fun e => { e with inN := 0, outN := 0, slew := 0, slewLeft := 0 })).countBy
            ETH_ASSTAT_STEPS 1
          |>.raise ETH_FLAG_TSTEP
          |>.unlock
          |>.record 13 4 p
      else
        let ti : Nat := if 0 ≤ l then 64000000000 * 2 ^ l.toNat else 64000000000 / 2 ^ (-l).toNat
        s.setRate (clampRate (s.eth.rate - rateOf ofs l 16))
          |>.modEth (fun e => { e with slew := -(rateOf ofs l 4), slewLeft := ti })
          |>.judgeOfs ofs.natAbs
    s.modEth (fun e => { e with
      sync := (List.range 6).filter (fun q => decide (s.fld (ETH_ASP_ROLE q) = 1) && s.on (ETH_ASP_ASCAP q)) })

/-- No valid pair for three intervals. -/
def gptpHoldover (s : State) : State :=
  if !s.on ETH_ASCTL_EN || s.on ETH_ASCTL_GM || s.on ETH_ASSTAT_HOLD then s
  else
    (s.setFld ETH_ASSTAT_HOLD 1).raise ETH_FLAG_THOLD |>.unlock
      |>.modEth (fun e => { e with slew := 0, slewLeft := 0, inN := 0, outN := 0 })
      |>.record 13 3 0

/-- A peer-delay exchange on a port: answered with a mean link delay in ns, or missed. -/
def peerDelay (p : Nat) (answered : Bool) (d : Nat) (s : State) : State :=
  if !s.on ETH_ASCTL_EN || decide (s.fld (ETH_ASP_ROLE p) = 0) then s
  else if answered then
    let good := decide (d ≤ s.fld ETH_ASCTL_PDTH * 10)
    let n := if good then satTo 3 (nGet s.eth.pdOk p + 1) else 0
    (s.setFld (ETH_ASPD_PD p) (satTo (2 ^ 18 - 1) d)).modEth (fun e => { e with pdOk := nPut e.pdOk p n, pdMiss := nPut e.pdMiss p 0 })
      |>.when (decide (n = 3)) (fun s => s.setFld (ETH_ASP_ASCAP p) 1)
  else
    let n := satTo 3 (nGet s.eth.pdMiss p + 1)
    (s.count (ETH_ASCNT_PDMISS p)).modEth (fun e => { e with pdOk := nPut e.pdOk p 0, pdMiss := nPut e.pdMiss p n })
      |>.when (decide (n = 3)) (fun s => s.setFld (ETH_ASP_ASCAP p) 0)

/-- A write of SET = 1: with GM = 1 the counter takes ETH_ZSET; else the write is refused. -/
def State.zoneTimeSet (s : State) : State :=
  if s.on ETH_ASCTL_GM then
    let v := ((s.fld ETH_ZSET3_ZSET * 2 ^ 16 + s.fld ETH_ZSET2_ZSET) * 2 ^ 16 + s.fld ETH_ZSET1_ZSET) * 2 ^ 16 + s.fld ETH_ZSET0_ZSET
    s.setCounter (v * 64)
  else s.raise ETH_FLAG_WRREF

/-- The master counter after `n` of its 1/64 ns on the crystal, with the rate correction and the slew (R407, R408). -/
def State.ethTime (s : State) (n : Nat) : State :=
  let e := s.eth
  let sl := Nat.min n e.slewLeft
  let f : Int := e.frac + (n : Int) * e.rate + (sl : Int) * e.slew
  let d : Int := f / 1000000000000
  let c : Int := (e.mc : Int) + (n : Int) + d
  s.modEth (fun e => { e with
    mc := (c % ((2 ^ 70 : Nat) : Int)).toNat, frac := f % 1000000000000, slewLeft := e.slewLeft - sl })

/-- The credits of the queues that wait on an idle port after one period of 32.768 kHz (R404). -/
def State.creditIdle (s : State) : State :=
  s.each ((s.zsw.queues.map Prod.fst).filter (fun k => decide (k / 8 ≠ 8) && s.on (ETH_QSH_EN k) && (smFind s.zsw.sending (k / 8)).isNone))
    (fun k s => s.setCredit k (s.credit k + ((s.fld (ETH_QSH_ISLOPE k) * 1953125 / 512 : Nat) : Int)))

/-- ms of tHOLD left of the ports in HOLD. -/
def State.holdLeft (s : State) : State :=
  s.each ((List.range 10).filter (fun p => decide (s.zPort p = 2))) (fun p s =>
    s.setFld (ZSW_PSTAT_LEFT p) (s.fld (ZSW_PCFG_HOLD p) - mcDiff s.eth.mc (nGet s.zsw.holdAt p) / 64000000))

/-- ZSW starts after being off or reset: the buffer is clear, the counter takes ACT's zone time (R365, R409), and TC10
wakes that came while it was off take effect. -/
def State.zswStart (s : State) : State :=
  let ws := s.eth.wakes
  { s with zsw := {}, eth := { mc := s.zt } }
    |>.setFld ETH_ASSTAT_LOCK 0
    |>.setFld ETH_ASSTAT_HOLD 1
    |>.each ws (fun p s => s.wakeEvent p)

/-! ### Transactions and power states (R402, R404, R406, R411, R414) -/

/-- A change or combination that the ETH agent refuses to commit. -/
def State.ethCommitRefuse (s : State) : Option Nat :=
  let nx (f : FRef) : Nat := s.fldNext f
  if (List.range 8).any (fun p => s.on (ETH_PSTAT_LINK p) &&
        ((decide (p < 6) && s.moves (ETH_PCFG_MS p)) || (decide (6 ≤ p) && (s.moves (ETH_PLCA_EN p) || s.moves (ETH_PLCA_ID p) || s.moves (ETH_PLCA2_COUNT p)))))
      || (List.range 80).any (fun k => decide (nx (ETH_MPIR_PIR k) < nx (ETH_MCFG_CIR k))
            || (decide (k / 8 ≠ 8) && decide (portRate (k / 8) < nx (ETH_QSH_ISLOPE k))))
      || decide (1 < ((List.range 6).filter (fun p => decide (nx (ETH_ASP_ROLE p) = 2))).length)
      || (decide (nx ETH_ASCTL_GM ≠ 0) && (List.range 6).any (fun p => decide (nx (ETH_ASP_ROLE p) = 2)))
  then some 3
  else none

/-- The slave port, or 7. -/
def State.slavePort (s : State) : Nat := ((List.range 6).find? (fun p => decide (s.fld (ETH_ASP_ROLE p) = 2))).getD 7

/-- After a commit: PHYs follow EN, markers start full, and the grandmaster's lock. -/
def State.ethCommitted (s : State) (was : State) : State :=
  s.each (List.range 10) (fun p s =>
      if s.on (ETH_PCFG_EN p) = was.on (ETH_PCFG_EN p) then s
      else if s.on (ETH_PCFG_EN p) then
        if 8 ≤ p then ((s.setFld (ETH_PSTAT_LINK p) 1).pEvent p 0).zLinkUp p
        else s.when (decide (p < 6 ∧ s.tc10 p = 0) && !s.on (ETH_PSTAT_FENCED p)) (fun s => s.setTc10 p 1)
      else (s.linkDown p false).when (decide (p < 6)) (fun s => s.setTc10 p 0))
    |>.each [6, 7] (fun p s => s.when (!s.on (ETH_PLCA_EN p) || !s.on (ETH_PCFG_EN p)) (fun s => s.setFld (ETH_PSTAT_PLCAA p) 0))
    |>.each (List.range 80) (fun k s =>
      if s.on (ETH_MCFG_EN k) && !was.on (ETH_MCFG_EN k) then
        s.modEth (fun e => { e with
          markers := smPut (fun _ => {}) e.markers k
            ⟨s.fld (ETH_MBS_CBS k) * 256 * 8000000, s.fld (ETH_MBS_PBS k) * 256 * 8000000, s.eth.mc⟩ })
      else s)
    |>.setFld ETH_ASSTAT_SLAVE s.slavePort
    |>.when (s.on ETH_ASCTL_GM && !was.on ETH_ASCTL_GM) (fun s =>
      ((s.setFld ETH_ASSTAT_LOCK 1).setFld ETH_ASSTAT_HOLD 0).setRate 0 |>.modEth (fun e => { e with slew := 0, slewLeft := 0 }))
    |>.when (!s.on ETH_ASCTL_GM && was.on ETH_ASCTL_GM) State.unlock

/-- The refusal of an entry; `rest` says that it is to REST. -/
def State.ethEntry (s : State) (rest : Bool) : Option Nat :=
  if (List.range 8).any (fun p => s.on (ETH_PCFG_EN p) && s.on (ETH_PSTAT_LINK p) && !(rest && decide (s.fld ETH_GCTL_KEEP = p))) then some 1
  else if (List.range 6).any (fun p => decide (s.tc10 p = 2 ∨ s.tc10 p = 4)) then some 2
  else none

/-- A forced entry drops every link, and the gPTP port state is lost (R414). -/
def State.ethForced (s : State) : State :=
  s.each (List.range 8) (fun p s => s.linkDown p false)
    |>.each [6, 7] (fun p s => s.setFld (ETH_PSTAT_PLCAA p) 0)
    |>.each (List.range 6) (fun p s => s.setFld (ETH_ASP_ASCAP p) 0)
    |>.modEth (fun e => { e with pdOk := [], pdMiss := [], sync := [] })
    |>.each (List.range 6) (fun p s => s.setTc10 p (if s.on (ETH_TCFG_WKEN p) then 3 else 0))

/-! ### The commands -/

def execPhyFault (p : Fin 8) (s : State) : Out State := .next (inDom .zsw (phyFault p) s)
def execPlcaBeaconLoss (p : Fin 2) (s : State) : Out State := .next (inDom .zsw (beaconLoss (6 + p)) s)
def execPlcaBeacon (p : Fin 2) (s : State) : Out State := .next (inDom .zsw (beacon (6 + p)) s)
def execLpsAckReceived (p : Fin 6) (s : State) : Out State := .next (inDom .zsw (lpsAck p) s)
def execSleepHandshakeTimeout (p : Fin 6) (s : State) : Out State := .next (inDom .zsw (sleepTimeout p) s)
def execRemoteSleepRequest (p : Fin 6) (s : State) : Out State := .next (inDom .zsw (remoteSleep p) s)
def execTc10Wup (p : Fin 6) (s : State) : Out State := .next (tc10Wup p s)
def execTc10Wur (p : Fin 6) (s : State) : Out State := .next (inDom .zsw (tc10Wur p) s)
def execSyncFollowUp (p : Fin 6) (ofs : BitVec 64) (s : State) : Out State := .next (inDom .zsw (syncFollowUp p ofs.toInt) s)
def execGptpHoldover (s : State) : Out State := .next (inDom .zsw gptpHoldover s)
def execPeerDelayExchange (p : Fin 6) (answered : Bool) (d : BitVec 32) (s : State) : Out State :=
  .next (inDom .zsw (peerDelay p answered d.toNat) s)

end Sys2Proof.Machine
end

