-- ==== Sys2Proof/Machine/Hsc.lean ====
section
/-! DEFINITION. The high-side engine (R127 to R160): values of D, protection events, open-load detection and the
descriptors. -/

namespace Sys2Proof.Machine

/-- A channel that has latched at its switch-on recorded. -/
def State.hscNote (s : State) (n : Nat) : State := s.when (decide (s.hst n = 7)) (fun s => s.record 4 3 n)

/-- A channel switched on from OFF or from its preparation with a value of D (R148). -/
def State.hscOnFrom (s : State) (n d : Nat) (held : Bool) : State := ((s.setOval n d).hscEnter n held).hscNote n

/-- A value of D that reaches its apply time in a channel whose running period takes it up at once. Under the limp-home map only the
engine's own D changes (R313). -/
def State.hscStep (s : State) (n d : Nat) (held : Bool) : State :=
  if s.mapDrives n then s.setOval n d
  else if s.hst n ≤ 1 then (if d = 0 then s else s.hscOnFrom n d held)
  else if d = 0 then (s.hscOut n 0).setOval n 0
  else s.setOval n d

/-- A value of D applied at its apply time (R106, R148, R152). -/
def State.hscApply (s : State) (n d : Nat) (held : Bool) : State :=
  if 7 ≤ s.hst n then s
  else if d = 0 then
    (if s.mapDrives n then s.setOval n 0
     else if s.hst n = 0 then s
     else s.hscOut n 0 |>.setOval n 0).modHch n (fun c => { c with dNext := none, rampLeft := 0 })
  else if (s.hst n = 2 ∨ s.hst n = 3) ∧ !s.mapDrives n then (s.modHch n (fun c => { c with dNext := some d })).hscApplied n
  else (s.hscStep n d held).hscApplied n

/-! ### Protection events (R136 to R141) -/

/-- A short event. DEDUCED: the fast trip of R136 comes before the current is regulated, so a short event turns a channel in ON off
as well as one in LIMIT. -/
def State.hscShort (s : State) (n : Nat) : State :=
  let st := s.hst n
  let sc := s.fld (HSC_STAT_SCNT n)
  if st = 2 ∨ st = 3 then
    let s := (s.count (HSC_CNT_SHORTS n)).hscEvt n 7 |>.protEvent n
    if sc = 0 then ((s.hscLatch n 1 0o20).record 4 1 n).record 4 3 n
    else (s.setHst n 4).modHch n (fun c => { c with pend := true, shortBudget := true, retryOver := false }) |>.record 4 1 n
  else if st = 1 then
    let s := (s.count (HSC_CNT_SHORTS n)).hscEvt n 7
    let s := s.hscProvFinish n 0o20 0
    if sc = 0 then ((s.hscLatch n 1 0o20).record 4 1 n).record 4 3 n
    else ((s.setHst n 0).setFld (HSC_STAT_SCNT n) (sc - 1)).record 4 1 n
  else s

/-- An overload event: from LIMIT, or during a preparation (R148). -/
def State.hscOverload (s : State) (n : Nat) : State :=
  let st := s.hst n
  if st = 3 then
    let s := (s.count (HSC_CNT_OVLS n)).hscEvt n 6 |>.protEvent n
    if s.on (HSC_STAT_WARM n) && s.on (HSC_STAT_RCNT n) then
      (s.setHst n 4).modHch n (fun c => { c with pend := true, shortBudget := false, retryOver := false }) |>.record 4 2 n
    else ((s.hscLatch n 2 0o21).record 4 2 n).record 4 3 n
  else if st = 1 then
    ((s.count (HSC_CNT_OVLS n)).hscEvt n 6 |>.hscProvFinish n 0o21 0).setHst n 0 |>.record 4 2 n
  else s

/-- One unit of the pending budget consumed, at the restart (R139). -/
def State.hscConsume (s : State) (n : Nat) : State :=
  if (s.hch n).shortBudget then
    (s.setFld (HSC_STAT_SCNT n) (s.fld (HSC_STAT_SCNT n) - 1)).modHch n (fun c => { c with sUsed := c.sUsed + 1 })
  else (s.setFld (HSC_STAT_RCNT n) (s.fld (HSC_STAT_RCNT n) - 1)).modHch n (fun c => { c with rUsed := c.rUsed + 1 })

/-- A restart after RETRY or THERM: ON, one budget consumed, the warm-up window not extended (R148). -/
def State.hscRestart (s : State) (n : Nat) (held : Bool) : State :=
  ((s.hscConsume n).setHst n 2).hscEvt n 1
    |>.modHch n (fun c => { c with pend := false, retryOver := false, held := held, ilsel := s.fld (HSC_PROT_ILSEL n) })
    |>.hscTryDone n

/-- A pending restart that may take place: with no unit of its budget left the channel latches (R168, R169); it waits in RETRY for
the rest of tRETRY; otherwise it restarts. -/
def State.hscResume (s : State) (n : Nat) (held : Bool) : State :=
  let c := s.hch n
  if !c.shortBudget && !s.on (HSC_STAT_RCNT n) then (s.hscLatch n 2 0o21).record 4 3 n
  else if c.shortBudget && !s.on (HSC_STAT_SCNT n) then (s.hscLatch n 1 0o20).record 4 3 n
  else if !c.retryOver then s.setHst n 4
  else s.hscRestart n held

/-- The last thermal latch of a channel released (R169). -/
def State.hscThermRelease (s : State) (n : Nat) (held : Bool) : State :=
  if s.hst n ≠ 6 ∨ s.hscLat n ≠ 0 then s
  else if s.on (HSC_STAT_UV n) then s.setHst n 5
  else s.hscResume n held

/-- A thermal latch set on a channel (R148, R149, R169). -/
def State.hscThermSet (s : State) (n : Nat) : State :=
  match s.hst n with
  | 2 => (s.protEvent n).hscTherm n
  | 3 => (s.protEvent n).hscTherm n
  | 4 => (s.protEvent n).hscTherm n
  | 5 => (s.protEvent n).hscTherm n
  | 1 => ((s.hscProvFinish n 0o22 (s.hscLat n)).setHst n 0).setOval n 0
  | _ => s

/-- A wire-model trip on a channel (R148, R174). -/
def State.hscWireTrip (s : State) (n : Nat) : State :=
  if s.hst n = 8 ∨ s.hst n = 9 then s
  else
    (s.protEvent n |>.hscProvFinish n 0o23 0).hscLatch n 3 0o23
      |>.when (decide (s.hst n ≠ 7)) (fun s => s.record 4 3 n)

/-! ### Open load (R142 to R145) -/

/-- A result of the open-load detection (R157): 1 present, 2 open on, 3 open off, 4 short to battery, 5 unknown. -/
def State.setOl (s : State) (n v : Nat) : State :=
  if s.fld (HSC_STAT_OL n) = v then s
  else
    (s.setFld (HSC_STAT_OL n) v).hscEvt n 4
      |>.when (decide (v = 5)) (fun s => s.hscEvt n 3)
      |>.when (decide (2 ≤ v ∧ v ≤ 4)) (fun s => s.record 4 5 n)

/-- The status of a DIAG for an open-load result (R153, R155). -/
def olStatus (v : Nat) : Nat × Nat :=
  match v with
  | 1 => (stDone, 1)
  | 2 => (0o25, 0)
  | 3 => (0o26, 0)
  | 4 => (0o27, 0)
  | _ => (0o30, 0)

/-- A DIAG that waits on a channel takes a kind of result (R153): mode auto the on-state one while the channel is on, the
off-state one while it is off. -/
def State.hscTakes (s : State) (n : Nat) (onState : Bool) : Bool :=
  (s.hscDiag n).any (fun d =>
    match bitsOf d.w2.toNat 1 0 with
    | 0 => decide (s.hst n = 2 ∨ s.hst n = 3) == onState
    | 1 => onState
    | _ => !onState)

/-- A result of a detection that runs for itself (`enabled`) or for a DIAG, which it completes. DEDUCED: the result of a DIAG is a
valid result of R144, so HSC_STAT.OL takes it too. -/
def State.hscResult (s : State) (n v : Nat) (enabled onState : Bool) : State :=
  let takes := s.hscTakes n onState
  (s.when (enabled || takes) (fun s => s.setOl n v)).when takes (fun s =>
    match s.hscDiag n with
    | some d => if v = 1 then s.finishDone d 1 else s.finish d (olStatus v).1 (olStatus v).2
    | none => s)

/-- The active limit of a channel in nA (R128, R129, R135). -/
def State.hscLimit (s : State) (n : Nat) : Nat :=
  let warm := s.on (HSC_STAT_WARM n) || decide (s.hst n = 1)
  let base := if n < 8 then (if warm then 90 else 45) else if n < 32 then (if warm then 40 else 20) else if warm then 10 else 5
  let pct := [100, 75, 50].getD (s.hch n).ilsel 50
  base * pct * 10 ^ 7 * (if n < 8 && s.on (HSC_CFG_PAR n) then 2 else 1)

/-- One LSB of HSC_IMEAS in nA (R133). -/
def State.hscLsb (s : State) (n : Nat) : Nat :=
  if n < 8 then (if s.on (HSC_CFG_PAR n) then 1000000 else 500000)
  else if n < 32 then 250000 else if s.on (HSC_CFG_FINE n) then 125 else 62500

/-- The on-state comparison of a valid measurement (R142). -/
def State.hscOlOn (s : State) (n i : Nat) : State :=
  let low := decide (i < s.fld (HSC_OLTH_OLTH n))
  let c := s.hch n
  let c' := if low then { c with olLow := satTo 4 (c.olLow + 1), olHigh := 0 } else { c with olHigh := satTo 4 (c.olHigh + 1), olLow := 0 }
  let s := s.setHch n c'
  let res := if c'.olLow = 4 then 2 else if c'.olHigh = 4 then 1 else 0
  if res = 0 then s else s.hscResult n res (s.on (HSC_CFG_OLON n)) true

/-- The current has fallen below the active limit: LIMIT ends, and the limits take up ILSEL (R148). -/
def State.hscUnlimit (s : State) (n : Nat) : State :=
  (s.setHst n 2).modHch n (fun c => { c with held := false, ilsel := s.fld (HSC_PROT_ILSEL n) }) |>.hscTryDone n

/-- A valid measurement (R134): HSC_IMEAS, the end of LIMIT, the on-state open-load comparison and the sense events of
the thread. The limit has its own comparator (R133): what a fine reading above its range says of it is a free value. -/
def State.hscMeasure (s : State) (n i : Nat) : State :=
  if s.hscOdd n || !s.hscMeasures n then s
  else
    let past := decide (s.hst n = 3 ∧ i = 2 ^ 18 - 1) && s.on (HSC_CFG_FINE n)
    let below := if past then bitAt s.draw.toNat 0 else decide (i * s.hscLsb n < s.hscLimit n)
    let s := ((s.setReg (rHSC_IMEAS n) i).raise (HSC_STAT_IVAL n)).modHch n (fun c => { c with age := 0, ageT := 0, pulse := false })
      |>.when past State.drew
    let s := s.when (decide (s.hst n = 3) && below) (fun s => s.hscUnlimit n)
    let s := s.when (s.on (HSC_CFG_OLON n) || (s.hscDiag n).isSome) (fun s => s.hscOlOn n i)
    s.senseEvent n

/-- The entries of the brace let the follower's channel be checked: enabled, with the leader off (R545). -/
def State.mirrorIdle (s : State) (n : Nat) : Bool :=
  (List.range 16).any (fun m => s.on (BRC_MIR_EN m) && decide (s.fld (BRC_MIR_LOCAL m) = n ∧ s.fld (BRC_MD_D m) = 0 ∧ s.fld (BRC_MST_PSTATE m) = 0))

/-- The off-state check of R143: `high` with the pull-up applied, `still` 50 µs after its release. It runs with OLOFF = 1, or once
for a DIAG of mode 10 on a channel that is OFF (R153). -/
def State.hscOffCheck (s : State) (n : Nat) (high still : Bool) : State :=
  let enabled := s.on (HSC_CFG_OLOFF n) && decide (s.fld (HSC_CFG_BRACE n) ≠ 1)
  let once := decide (s.hst n = 0) && (s.hscDiag n).any (fun d => decide (bitsOf d.w2.toNat 1 0 = 2))
  let res := if !high then 1 else if still then 4 else 3
  if s.hscOdd n || !s.hscOffTimes n || !(enabled || once) || (decide (s.hst n = 9) && !s.mirrorIdle n) then s
  else (s.when enabled (fun s => s.modHch n (fun c => { c with offAge := 0 }))).hscResult n res enabled false

/-! ### Descriptors (R150 to R156) -/

/-- The checks of the descriptor alone, in the order of R72; the status and detail of the first that fails. -/
def State.hscJudge (s : State) (d : Desc) : Option (Nat × Nat) :=
  let o := d.opcode
  if 5 < o then some (stBadOpcode, 0)
  else if 63 < d.target ∨ s.hscOdd d.target then some (stBadTarget, 0)
  else if d.isProv && decide (o = 0 ∨ o = 2 ∨ o = 4 ∨ o = 5) then some (stBadDesc, 0)
  else if d.flags ≠ 0 ∧ ¬(o = 3 ∧ d.flags < 8) ∧ ¬(o = 5 ∧ d.flags < 2) then some (stBadDesc, 0)
  else if (o = 0 ∨ o = 2 ∨ o = 5) ∧ d.w2 ≠ 0 then some (stBadParam, 2)
  else if o = 4 ∧ 3 ≤ d.w2.toNat then some (stBadParam, 2)
  else if (o ≠ 1 ∧ o ≠ 3) ∧ d.w3 ≠ 0 then some (stBadParam, 3)
  else if o = 1 ∧ 2 ^ 13 ≤ d.w3.toNat then some (stBadParam, 3)
  else if (o ≠ 1 ∧ o ≠ 3) ∧ d.w4 ≠ 0 then some (stBadParam, 4)
  else if o = 1 ∧ !d.isProv ∧ d.w4 ≠ 0 then some (stBadParam, 4)
  else if d.isProv then
    let pre := bitsOf d.w4.toNat 17 9
    if 40 < pre ∨ (pre ≠ 0 ∧ s.fld (HSC_CFG_LOAD d.target) ≠ 0) ∨ d.tprov = 0 ∨ 500 < d.tprov then some (stBadParam, 4) else none
  else none

/-- An earlier open descriptor of the channel, and an unconfirmed provisional, superseded by one that acts (R112,
R122). -/
def State.hscSupersede (s : State) (n : Nat) : State :=
  (match s.hscOpen n with
   | some d => s.finish d stSuperseded 0
   | none => s)
    |> fun s => match s.provDesc 2 n with
      | some d => (s.finish d stSuperseded 0).count SEQ_PCNT1_PSUP
      | none => s

/-- The descriptor opens on the channel. -/
def State.hscOpenNew (s : State) (n : Nat) (d : Desc) : State :=
  (s.hscSupersede n).startDesc d
    |>.modHch n (fun c => { c with rUsed := 0, sUsed := 0, uvSeen := s.on (HSC_STAT_UV n), want := false, rampLeft := 0, dNext := none })

/-- The built-in action of SET (R151). -/
def State.hscSet (s : State) (n : Nat) (d : Desc) (held : Bool) : State :=
  let v := d.w2.toNat
  let r := bitsOf d.w3.toNat 12 0
  let s := (s.hscOpenNew n d).stopThread n
  if r ≠ 0 then s.modHch n (fun c => { c with rampFrom := s.oval n, rampTo := v, rampN := r, rampLeft := r, want := decide (v ≠ 0) })
  else if v = 0 then (s.hscApply n 0 held).hscFinish n stDone 0
  else (s.modHch n (fun c => { c with want := true })).hscApply n v held

/-- The action of a descriptor of the high-side engine at its apply time. -/
def State.hscAct (s : State) (d : Desc) (held : Bool) : State :=
  let n := d.target
  let st := s.hst n
  if s.hscOdd n then s.finish d stBadTarget 0
  else if st = 8 then s.finish d stFenced 0
  else if st = 9 ∧ d.opcode ≠ 4 then s.finish d stDenied 1
  else
    match d.opcode with
    | 1 =>
      let s := s.entryScrub n 0
      if st = 7 then s.finish d 0o24 0
      else if s.entryValid n 0 then (s.hscOpenNew n d).launch n 0 d.w2.toNat d.w3.toNat d.w4.toNat
      else s.hscSet n d held
    | 2 =>
      let s := (s.hscSupersede n).stopThread n
      let s := if st = 7 then s else s.hscApply n 0 held
      s.finishDone d 0
    | 3 =>
      let s := s.entryScrub n (d.flags % 8)
      if st = 7 then s.finish d 0o24 0
      else if !s.entryValid n (d.flags % 8) then s.finish d 0o31 0
      else (s.hscOpenNew n d).launch n (d.flags % 8) d.w2.toNat d.w3.toNat d.w4.toNat
    | 4 => if st = 0 ∨ st = 2 ∨ st = 9 then (s.startDesc d).when (!s.on (HSC_CFG_OLON n)) (fun s =>
        s.modHch n (fun c => { c with olLow := 0, olHigh := 0 })) else s.finish d stBadTarget 1
    | 5 =>
      let s := s.setFld (HSC_STAT_SCNT n) 2
      let s := s.when (bitAt d.flags 0) (fun s => s.wireReset n)
      let rest := s.hscLat n + 4 * b2n (s.wireTrip n)
      let s := s.when (decide (st = 7)) (fun s => s.setFld (HSC_STAT_LCAUSE n) (if s.wireTrip n then 3 else 0))
      if rest ≠ 0 then s.finish d 0o32 rest
      else (s.when (decide (st = 7)) (fun s => s.hscToOff n)).finishDone d 0
    | _ => s.finishDone d 0

/-- A preparation starts (R149); a wire trip or a thermal latch that holds on a channel in OFF ends it at once (R169, R174). -/
def State.hscPrepare (s : State) (d : Desc) : State :=
  let n := d.target
  if s.hst n ≠ 0 then s
  else
    let s := s.when (s.hscOpen n).isNone (fun s => s.modHch n (fun c => { c with uvSeen := s.on (HSC_STAT_UV n) }))
    if s.wireTrip n then ((s.hscProvFinish n 0o23 0).hscLatch n 3 0o23).record 4 3 n
    else if s.hscLat n ≠ 0 then s.hscProvFinish n 0o22 (s.hscLat n)
    else (s.setHst n 1).modHch n (fun c => { c with preheat := 0 })

/-- A preparation undone (R120). -/
def State.hscUndo (s : State) (n : Nat) : State := if s.hst n = 1 then s.setHst n 0 else s

/-- A step of a built-in ramp (R151); the last one completes a SET whose end is 0. -/
def State.hscRamp (s : State) (n : Nat) : State :=
  let c := s.hch n
  let s := (s.modHch n (fun c => { c with rampLeft := c.rampLeft - 1 })).hscStep n (rampAt c.rampFrom c.rampTo c.rampN (c.rampN + 1 - c.rampLeft)) false
  if 1 < c.rampLeft then s else if c.rampTo = 0 then s.hscFinish n stDone 0 else s.hscApplied n

/-- A PWM period of a channel begins (R106, R130, R151): a pending D or a ramp step takes effect, unless its group is frozen
(R113), and a measurement older than 64 periods is no longer current. -/
def State.hscPeriod (s : State) (n : Nat) : State :=
  let c := s.hch n
  let s := if s.grpFrozen (s.grp n) ∨ 7 ≤ s.hst n then s
    else if c.rampLeft ≠ 0 then s.hscRamp n
    else
      match c.dNext with
      | some v => ((s.modHch n (fun c => { c with dNext := none })).setOval n v).hscApplied n
      | none => s
  (s.modHch n (fun c => { c with age := c.age + 1, offAge := c.offAge + 1, pulse := false }))
    |>.when (decide (64 < c.age + 1) && !s.hscSolid n) (fun s => s.setFld (HSC_STAT_IVAL n) 0)

/-- One period of the 32.768 kHz clock in a channel's measurement: 64 ms after the last one it is no longer current on a channel
continuously on (R134). -/
def State.hscAge (s : State) (n : Nat) : State :=
  let a := satTo 4096 ((s.hch n).ageT + 1)
  (s.modHch n (fun c => { c with ageT := a })).when (decide (2097 < a) && s.hscSolid n) (fun s => s.setFld (HSC_STAT_IVAL n) 0)

/-- After a commit: a changed ILSEL is in force at once, but not one that raises a limit which acts, nor before the next restart or
switch-on of a channel that waits for one (R21, R148). -/
def State.hscCommitted (s : State) : State :=
  s.each (List.range 64) (fun n s =>
    let v := s.fld (HSC_PROT_ILSEL n)
    let st := s.hst n
    if v = (s.hch n).ilsel ∨ st = 4 ∨ st = 6 ∨ st = 7 ∨ (st = 3 ∧ v < (s.hch n).ilsel) then s
    else s.modHch n (fun c => { c with ilsel := v }))

/-! ### Agent answers (R160) -/

/-- A forced BEDDED entry: every channel off, open SET, RUN and DIAG complete DOMAIN_LOST. -/
def State.hscForced (s : State) : State :=
  s.each (List.range 64) (fun n s => if 1 ≤ s.hst n ∧ s.hst n ≤ 6 then (s.hscToOff n).stopThread n else s)
    |>.finishAll (fun d => decide (d.eng = 2)) stDomainLost

/-! ### The commands -/

/-- HSC_SET (R151). `held`: the current reaches the active limit before the turn-on edge has finished. -/
def execHscSet (r : Fin 64) (i : Fin 1024) (held : Bool) (s : State) : Out State :=
  .next (inDom .act (fun s => s.actReady 2 1 r i (fun d s => s.hscUndo d.target) (fun d s => s.hscAct d held)) s)

/-- HSC_OFF (R151). -/
def execHscOff (r : Fin 64) (i : Fin 1024) (s : State) : Out State :=
  .next (inDom .act (fun s => s.actReady 2 2 r i (fun d s => s.hscUndo d.target) (fun d s => s.hscAct d false)) s)

/-- HSC_RUN (R151). -/
def execHscRun (r : Fin 64) (i : Fin 1024) (s : State) : Out State :=
  .next (inDom .act (fun s => s.actReady 2 3 r i (fun d s => s.hscUndo d.target) (fun d s => s.hscAct d false)) s)

/-- HSC_DIAG (R153). -/
def execHscDiag (r : Fin 64) (i : Fin 1024) (s : State) : Out State :=
  .next (inDom .act (fun s => s.actReady 2 4 r i (fun d s => s.hscUndo d.target) (fun d s => s.hscAct d false)) s)

/-- HSC_CLEAR (R154). -/
def execHscClear (r : Fin 64) (i : Fin 1024) (s : State) : Out State :=
  .next (inDom .act (fun s => s.actReady 2 5 r i (fun d s => s.hscUndo d.target) (fun d s => s.hscAct d false)) s)

/-- HS_LIMIT_REACHED (R148): ON becomes LIMIT. -/
def execHsLimitReached (n : Fin 64) (s : State) : Out State :=
  .next (inDom .act (fun s =>
    let n := s.hscOf n
    if s.hst n = 2 then ((s.setHst n 3).hscEvt n 0).protEvent n else s) s)

/-- HS_SHORT_EVENT (R136, R139, R149). -/
def execHsShortEvent (n : Fin 64) (s : State) : Out State :=
  .next (if s.inp.dcMap then s.dcTrip n else inDom .act (fun s => s.hscShort (s.hscOf n)) s)

/-- HS_OVERLOAD_EVENT (R137, R139). -/
def execHsOverloadEvent (n : Fin 64) (s : State) : Out State :=
  .next (inDom .act (fun s => s.hscOverload (s.hscOf n)) s)

/-- HS_RESTART (R148): tRETRY has elapsed; a channel in RETRY restarts, one in THERM or UVOFF keeps that its time is
over (R168, R141). -/
def execHsRestart (n : Fin 64) (held : Bool) (s : State) : Out State :=
  .next (inDom .act (fun s =>
    let n := s.hscOf n
    if s.hst n = 4 then s.hscRestart n held
    else if s.hst n = 6 ∨ (s.hst n = 5 ∧ (s.hch n).pend) then s.modHch n (fun c => { c with retryOver := true }) else s) s)

/-- HS_UNDERVOLTAGE (R140, R141). -/
def execHsUndervoltage (n : Fin 64) (s : State) : Out State :=
  .next (inDom .act (fun s =>
    let s := (s.raise (HSC_STAT_UV n)).modHch n (fun c => { c with uvSeen := true })
    if 2 ≤ s.hst n ∧ s.hst n ≤ 4 then
      ((s.setHst n 5).hscEvt n 5).count (HSC_CNT_UVS n)
        |>.protEvent n
        |>.record 4 4 n
    else s) s)

/-- HS_UV_RELEASE (R140, R148). -/
def execHsUvRelease (n : Fin 64) (held : Bool) (s : State) : Out State :=
  .next (inDom .act (fun s =>
    let s := s.setFld (HSC_STAT_UV n) 0
    if s.hst n = 5 then
      if (s.hch n).pend then s.hscResume n held
      else if s.stageD n = 0 then s.hscOut n 0
      else ((s.hscSwitchOn n false).setHst n 2).modHch n (fun c => { c with held := held }) |>.hscTryDone n
    else s) s)

/-- WARM_UP_END (R135): the active limit becomes ILIML. -/
def execWarmUpEnd (n : Fin 64) (s : State) : Out State :=
  .next (inDom .act (fun s => s.setFld (HSC_STAT_WARM n) 0) s)

/-- SCNT_RESTORE (R139): 1 s in ON or LIMIT without a short event. -/
def execScntRestore (n : Fin 64) (s : State) : Out State :=
  .next (inDom .act (fun s => if s.hst n = 2 ∨ s.hst n = 3 then s.setFld (HSC_STAT_SCNT n) 2 else s) s)

/-- VALID_MEASUREMENT (R134): `i` in the units of R133. -/
def execValidMeasurement (n : Fin 64) (i : Word) (s : State) : Out State :=
  .next (inDom .act (fun s => s.hscMeasure n i.toNat) s)

/-- OFF_STATE_CHECK (R143). -/
def execOffStateCheck (n : Fin 64) (high still : Bool) (s : State) : Out State :=
  .next (inDom .act (fun s => s.hscOffCheck n high still) s)

/-- HS_OL_UNKNOWN (R144, R153): no result for 64 periods; OL becomes unknown where neither detection has measured meanwhile. -/
def execHsOlUnknown (n : Fin 64) (s : State) : Out State :=
  .next (inDom .act (fun s =>
    let s := match s.hscDiag n with
      | some d => s.finish d 0o30 0
      | none => s
    if (s.hst n = 2 ∨ s.hst n = 3) ∧ !(s.on (HSC_CFG_OLON n) && s.on (HSC_STAT_IVAL n))
        ∧ !(s.on (HSC_CFG_OLOFF n) && decide ((s.hch n).offAge < 64)) then s.setOl n 5 else s) s)

/-- DIAGNOSTIC_PULSE (R145): the running period of a filament channel with on-times shorter than tOLMIN is lengthened to
tOLMIN. -/
def execDiagnosticPulse (n : Fin 64) (s : State) : Out State :=
  .next (inDom .act (fun s =>
    if s.fld (HSC_CFG_LOAD n) = 0 ∧ s.on (HSC_CFG_DIAGP n) ∧ (s.hst n = 2 ∨ s.hst n = 3) ∧ !s.hscSolid n ∧ s.hscOnTicks n < s.tolMin n then
      s.modHch n (fun c => { c with pulse := true })
    else s) s)

/-- PREHEAT_PULSE (R149): one pulse of a filament's preparation whose pre-heat fraction is not 0. -/
def execPreheatPulse (n : Fin 64) (s : State) : Out State :=
  .next (inDom .act (fun s =>
    match s.provDesc 2 n with
    | some d =>
      if s.hst n = 1 ∧ s.fld (HSC_CFG_LOAD n) = 0 ∧ bitsOf d.w4.toNat 17 9 ≠ 0 then
        s.modHch n (fun c => { c with preheat := c.preheat + 1 })
      else s
    | none => s) s)

end Sys2Proof.Machine
end

