-- ==== Sys2Proof/Machine/Inp.lean ====
section
/-! DEFINITION. Inputs, sensor bridges, sensor messages and the glue fabric (R284 to R318). -/

namespace Sys2Proof.Machine

/-! ### Sensor messages (R303 to R306) -/

/-- A message produced by a source; it waits to be routed. -/
def State.mkMsg (s : State) (src kind sid data : Nat) : State :=
  let n := nGet s.inp.seq src
  s.modInp (fun x => { x with
    seq := nPut x.seq src ((n + 1) % 256),
    made := x.made ++ [⟨src, kind, n, sid, data % 2 ^ 28, s.ztNs⟩] })

/-- The oldest waiting SENSRX of a ring, while the bus frame engine runs. -/
def State.waitingSens (s : State) (r : Nat) : Option Desc :=
  if s.domOn .net then s.descs.find? (fun d => decide (d.eng = 7 ∧ d.opcode = 0o40 ∧ d.ring = 40 + r ∧ d.phase = .ready)) else none

/-- The oldest message of a ring's FIFO written into a waiting SENSRX (R305). -/
def State.sensServe (s : State) (r : Nat) : State :=
  match lGet s.inp.fifo r, s.waitingSens r with
  | m :: rest, some d =>
    let a := s.slotAddr d.ring d.slot
    let t := m.t / 8 % 2 ^ 36
    let lost := nGet s.inp.lost r
    s.modInp (fun x => { x with fifo := lPut x.fifo r rest, lost := nPut x.lost r 0 })
      |>.wr (a + 2) (toWord (m.src * 2 ^ 12 + m.kind * 2 ^ 8 + m.seq))
      |>.wr (a + 3) (toWord (m.sid * 2 ^ 10 + m.data / 2 ^ 18))
      |>.wr (a + 4) (toWord m.data)
      |>.wr (a + 5) (toWord (t / 2 ^ 18))
      |>.wr (a + 6) (toWord t)
      |>.finish d stDone (satTo 4095 lost)
  | _, _ => s

/-- Every waiting SENSRX served for which a message waits: the bus frame engine runs again. -/
def State.sensServeAll (s : State) : State := s.each (List.range 128) (fun i s => s.sensServe (i / 16))

/-- A message into the FIFO of a ring: the oldest goes when it is full (R304). -/
def State.toFifo (s : State) (r : Nat) (m : SMsg) : State :=
  let l := lGet s.inp.fifo r
  if l.length < 16 then s.modInp (fun x => { x with fifo := lPut x.fifo r (l ++ [m]) })
  else
    (s.modInp (fun x => { x with fifo := lPut x.fifo r (l.tail ++ [m]), lost := nPut x.lost r (nGet x.lost r + 1) })).count (INP_DROP_DROP r)
      |>.raise INP_FLAG_OVR

/-- The oldest message produced is routed. -/
def sensorMessage (s : State) : State :=
  match s.inp.made with
  | [] => s
  | m :: rest =>
    let s := s.modInp (fun x => { x with made := rest })
    let dest := s.fld (INP_BRG_DEST m.src)
    let r := s.fld (INP_BRG_RING m.src)
    s.when (decide (dest = 1 ∨ dest = 3)) (fun s => (s.toFifo r m).sensServe r)
      |>.when (decide (2 ≤ dest) && s.domOn .net) (fun s => s.talkerPlace (s.fld (INP_BRG_STRM m.src)) (acfSensor m) m.t)

def sensRx (d : Desc) (s : State) : State := s.sensServe (d.ring - 40)

/-! ### Switches (R284 to R288) -/

/-- A threshold in units of 10 µV, from the voltage of KL30_A in mV (R285). -/
def State.swThreshold (s : State) (n kl30 : Nat) : Int :=
  match s.fld (INP_SWCFG_THR n) with
  | 0 => 250000
  | 1 => 400000
  | _ => 35 * kl30

/-- What a comparator reads, from the voltages of its land and of KL30_A in mV (R285): closed beyond the threshold, to ground below it
and to battery above it. DEDUCED: it reads open again 0.4 V past the threshold, and between the two it keeps its last sample. -/
def State.swReads (s : State) (n : Nat) (land : Int) (kl30 : Nat) : Bool :=
  let v := 100 * land
  let t := s.swThreshold n kl30
  if s.on (INP_SWCFG_DIR n) then (if t < v then true else if v < t - 40000 then false else s.on (INP_SWRAW_RAW n))
  else if v < t then true
  else if t + 40000 < v then false
  else s.on (INP_SWRAW_RAW n)

/-- The wake that a change of a debounced state requests (R288). -/
def State.swWake (s : State) (n : Nat) (closed : Bool) : State :=
  s.when (s.bit (INP_SWCFG_WK n) (if closed then 0 else 1)) (fun s => s.latchWake 0o01 n)

/-- A debounced state changed (R288). -/
def State.swChange (s : State) (n : Nat) (closed : Bool) : State :=
  s.setBitF (INP_SWSTAT_STATE (n / 16)) (n % 16) closed
    |>.setBitF (INP_SWEVT_EVT (n / 16)) (n % 16) true
    |>.modInp (fun x => { x with deb := nPut x.deb n 0 })
    |>.mkMsg 32 5 0 (n + 64 * b2n closed)
    |>.swWake n closed

/-- A sample of a polled input (R286). -/
def switchPoll (n : Nat) (land : Int) (kl30 : Nat) (s : State) : State :=
  if s.swMode n ≠ 1 then s
  else
    let closed := s.swReads n land kl30
    let s := s.setFld (INP_SWRAW_RAW n) (b2n closed)
    if closed = s.sw n then s.modInp (fun x => { x with deb := nPut x.deb n 0 })
    else
      let k := nGet s.inp.deb n + 1
      if s.fld (INP_SWCFG_DEB n) ≤ k then s.swChange n closed else s.modInp (fun x => { x with deb := nPut x.deb n k })

/-- The level of a static input has held for STFLT (R287). -/
def staticFilterEnd (n : Nat) (land : Int) (kl30 : Nat) (s : State) : State :=
  if s.swMode n ≠ 2 then s
  else
    let closed := s.swReads n land kl30
    let s := s.setFld (INP_SWRAW_RAW n) (b2n closed)
    if closed = s.sw n then s else s.swChange n closed

/-- The same in BEDDED, where FAWN senses the armed static inputs of SW0 to SW7 (R287). -/
def fawnFilterEnd (n : Nat) (land : Int) (kl30 : Nat) (s : State) : State :=
  if !s.swArmed true n then s
  else
    let closed := s.swReads n land kl30
    let s := s.setFld (INP_SWRAW_RAW n) (b2n closed)
    if closed = s.sw n then s else (s.setBitF (INP_SWSTAT_STATE (n / 16)) (n % 16) closed).swWake n closed

/-! ### Analogue inputs and converters (R289 to R297) -/

/-- The inputs that a scan of a general ADC converts. -/
def State.scanList (s : State) (a : Nat) : List Nat :=
  ((List.range 12).map (fun i => a * 12 + i)).filter (fun n =>
    s.on (INP_ANCFG_EN n) && (decide (s.pw.mode ≠ .rest) || s.on (INP_ANCFG_REST n)))

def adcScan (a : Nat) (s : State) : State :=
  if s.bit INP_ADCST_FAIL (8 + a) || !(lGet s.inp.scan a).isEmpty then s
  else s.modInp (fun x => { x with scan := lPut x.scan a (s.scanList a) })

/-- The window state of a result. -/
def State.winOf (s : State) (n v : Nat) : Nat :=
  if s.fld (INP_ANHI_HI n) < v then 1 else if v < s.fld (INP_ANLO_LO n) then 2 else 0

/-- A result: the sum of 16 conversions shifted right by 2 (R289). -/
def adcSum (conv : List (BitVec 16)) : Nat := ((conv.map BitVec.toNat).sum / 4) % 2 ^ 18

/-- A change of a window state (R291); with WK it is a wake request. -/
def State.winChange (s : State) (n w : Nat) : State :=
  (s.setBitF (INP_ANEVT_EVT (n / 16)) (n % 16) true).mkMsg 33 6 0 (n + 32 * w)
    |>.latchWake 0o02 n

/-- The result of the next input of a scan: its conversions against the full scale that RNG and RATIO select. -/
def adcResult (a : Nat) (conv : List (BitVec 16)) (s : State) : State :=
  if s.bit INP_ADCST_FAIL (8 + a) then s
  else
    match lGet s.inp.scan a with
    | [] => s
    | n :: rest =>
      let v := adcSum conv
      let w := s.winOf n v
      let old := s.anWin n
      (s.modInp (fun x => { x with scan := lPut x.scan a rest })).setFld (INP_ANR_R n) v
        |>.setFld (INP_ANST_VALID n) 1
        |>.setFld (INP_ANST_WIN n) w
        |>.when (decide (w ≠ old)) (fun s => s.winChange n w)

/-- A held sample of an output converted (R293, R295): a half-bridge or a valve takes it into its next measurement; a bank's current
and a gate driver's shunt voltage, within its amplifier's range (R194), show it; the sense value of the output is judged. -/
def senseConversion (o : Nat) (v : Word) (s : State) : State :=
  if s.bit INP_ADCST_FAIL (o % 8) ∨ o < 64 ∨ (100 ≤ o ∧ o < 124) then s
  else if 80 ≤ o ∧ o < 84 then (s.setFld (VLV_BIMEAS_I (o - 80)) v.toNat).senseEvent o
  else if o < 100 then
    s.modMean o (fun m => { m with sum := m.sum + (if o < 80 then sextOf 18 v.toNat else (v.toNat : Int)), n := m.n + 1 })
  else
    let x := max (-(s.shuntMax (o - 124))) (min (s.shuntMax (o - 124)) (sextOf 18 v.toNat))
    ((s.setFld (MOT_GIMEAS_V (o - 124)) (wrapTo 18 x)).senseEvent o).motShunt (o - 124)

/-- A calibration of sense ADC 0-7 or of general ADC 0-1 (8, 9). -/
def adcCalibration (a : Nat) (ok : Bool) (s : State) : State :=
  if ok || s.bit INP_ADCST_FAIL a then s else (s.adcFail a).record 10 1 a

/-! ### Sensor supplies (R292) -/

def ssOvercurrent (k : Nat) (s : State) : State :=
  if s.fld (INP_SS_STATE k) = 1 then (s.ssOff k 2).record 10 2 k else s

def ssDriven (k : Nat) (s : State) : State :=
  if s.fld (INP_SS_STATE k) = 1 then (s.ssOff k 3).record 10 3 k else s

/-! ### SENT (R298, R299) -/

/-- The CRC of J2716 over nibbles: the recommended one runs over a further zero nibble. -/
def sentCrc (legacy : Bool) (ns : List Nat) : Nat :=
  let tab := [0, 13, 7, 10, 14, 3, 9, 4, 1, 12, 6, 11, 15, 2, 8, 5]
  let c := ns.foldl (fun c n => Nat.xor (tab.getD c 0) n) 5
  if legacy then c else tab.getD c 0

/-- A nibble's length in measured ticks, to the nearest. -/
def nibTicks (cal ns : Nat) : Nat := (2 * ns * 56 + cal) / (2 * cal)

/-- An error of a SENT receiver. -/
def State.sentErr (s : State) (k e : Nat) (counted : Bool) : State :=
  (s.setFld (INP_SNSTAT_ERR k) e).when counted (fun s => s.count (INP_SNCNT_ERRS k))
    |>.raise INP_FLAG_SNERR
    |>.mkMsg k 7 0 e
    |>.record 10 6 k

/-- The first rule that a frame fails. -/
def State.sentJudge (s : State) (k cal : Nat) (nibs : List Nat) : Nat :=
  let nom := 56 * s.fld (INP_SNCFG_TICK k) * 500
  let last := nGet s.inp.cal k
  let n := s.fld (INP_SNCFG_NIB k)
  let ts := nibs.map (nibTicks cal)
  let vs := ts.map (fun t => t - 12)
  if 5 * ((cal : Int) - (nom : Int)).natAbs > nom ∨ cal = 0 then 1
  else if s.on (INP_SNCFG_SCP k) ∧ last ≠ 0 ∧ 64 * ((cal : Int) - (last : Int)).natAbs > last then 2
  else if ts.any (fun t => decide (t < 12 ∨ 27 < t)) then 3
  else if nibs.length ≠ n + 2 then 5
  else if sentCrc (s.on (INP_SNCFG_CRCM k)) (sliceD vs 1 n 0) ≠ vs.getD (n + 1) 0 then 4
  else 0

/-- A slow-channel message of the format that SLOW selects (R298): short, or one of the two enhanced formats. -/
def State.slowFits (s : State) (k : Nat) (m : SlowMsg) : Bool :=
  match s.fld (INP_SNCFG_SLOW k) with
  | 1 => decide (m.kind = 1)
  | 2 => decide (m.kind = 2 ∨ m.kind = 3)
  | _ => false

/-- A frame ends: its calibration pulse and its nibbles (status, data, CRC) as lengths in ns, and the slow-channel
message that it completes. -/
def sentFrame (k cal : Nat) (nibs : List Nat) (slow : Option SlowMsg) (s : State) : State :=
  if !s.on (INP_SNCFG_EN k) then s
  else
    let e := s.sentJudge k cal nibs
    let s := s.modInp (fun x => { x with cal := nPut x.cal k cal })
    if e ≠ 0 then s.sentErr k e true
    else
      let n := s.fld (INP_SNCFG_NIB k)
      let data := (sliceD (nibs.map (fun t => nibTicks cal t - 12)) 1 n 0).foldl (fun a v => a * 16 + v) 0
      let s := (s.setFld (INP_SNSTAT_VALID k) 1).setFld (INP_SNLASTH_DH k) (data / 2 ^ 18)
        |>.setFld (INP_SNLASTL_DL k) (data % 2 ^ 18)
        |>.modInp (fun x => { x with timedOut := bPut x.timedOut k false })
        |>.mkMsg k 0 0 data
      match slow with
      | some m =>
        if !s.slowFits k m then s
        else if m.ok then s.mkMsg (8 + k) m.kind.val m.sid.toNat m.data.toNat
        else s.sentErr k 7 true
      | none => s

def sentTimeout (k : Nat) (s : State) : State :=
  if !s.on (INP_SNCFG_EN k) || !s.on (INP_SNTO_TOUT k) || bGet s.inp.timedOut k then s
  else
    ((s.setFld (INP_SNSTAT_VALID k) 0).modInp (fun x => { x with timedOut := bPut x.timedOut k true })).sentErr k 6 false

/-! ### PSI5 (R300, R301) -/

def State.psErr (s : State) (k j e : Nat) : State :=
  (s.setFld (INP_PSSTAT_ERR k) e).raise INP_FLAG_PSERR |>.mkMsg (16 + 4 * k + j) 7 0 e |>.record 10 6 (16 + 4 * k + j)

def State.psSlot (s : State) (k j : Nat) (b : Bool) : State :=
  s.modInp (fun x => { x with slots := bPut x.slots (k * 4 + j) b })

/-- A PSI5 channel that receives. -/
def State.psLive (s : State) (k : Nat) : Bool := s.on (INP_PSCFG_EN k) && !s.on (INP_PSSTAT_SUPOFF k)

def psi5Sync (k : Nat) (s : State) : State :=
  if s.psLive k ∧ s.fld (INP_PSCFG_MODE k) = 1 then
    s.each (List.range (s.fld (INP_PSCFG_SLOTS k) + 1)) (fun j s => s.psSlot k j true)
  else s

/-- A frame begins in a slot (slot 0 in asynchronous mode): its coding and its check are right or wrong. -/
def psi5Frame (k j : Nat) (coding check : Bool) (data : Nat) (s : State) : State :=
  let sync := decide (s.fld (INP_PSCFG_MODE k) = 1)
  if !s.psLive k || (sync && !bGet s.inp.slots (k * 4 + j)) || (!sync && decide (j ≠ 0)) then s
  else
    let s := s.psSlot k j false
    if !coding then s.psErr k j 3
    else if !check then s.psErr k j 4
    else
      let v := data % 2 ^ (s.fld (INP_PSCFG_DBITS k))
      (s.setFld (INP_PSSTAT_VALID k) 1).setFld (INP_PSLASTH_DH k) (v / 2 ^ 18)
        |>.setFld (INP_PSLASTL_DL k) (v % 2 ^ 18)
        |>.mkMsg (16 + 4 * k + j) 4 0 v

def psi5SlotClose (k j : Nat) (s : State) : State :=
  if s.psLive k && bGet s.inp.slots (k * 4 + j) then ((s.psSlot k j false).setFld (INP_PSSTAT_VALID k) 0).psErr k j 6 else s

def psi5BusLimit (k : Nat) (s : State) : State := if s.psLive k then (s.psOff k).record 10 4 k else s

/-! ### The glue fabric (R307 to R312) -/

/-- A cell's LUT value from the signals of this instant. -/
def State.lutValue (s : State) (c : Nat) : Bool :=
  let b (f : FRef) : Nat := b2n (s.signal (s.fld f))
  s.bit (INP_FCLUT_LUT c) (8 * b (INP_FCSEL2_D c) + 4 * b (INP_FCSEL2_C c) + 2 * b (INP_FCSEL_B c) + b (INP_FCSEL_A c))

def State.setCell (s : State) (c : Nat) (b : Bool) : State := s.setBitF (INP_FOUT_OUT (c / 16)) (c % 16) b

/-- The cells from `c` on evaluated in order, with the values that registered cells store at the end. -/
def State.cellsFrom (s : State) (stored : List (Nat × Bool)) : List Nat → State
  | [] => s.each stored (fun e s => s.setCell e.1 e.2)
  | c :: t =>
    let v := s.lutValue c
    if s.fld (INP_FCMODE_MODE c) = 1 then s.cellsFrom (stored ++ [(c, v)]) t else (s.setCell c v).cellsFrom stored t

/-- A timer's trigger judged at a step (R309). -/
def State.timerStep (s : State) (t : Nat) : State :=
  let now := s.signal (s.fld (INP_FTCFG_TRIG t))
  let was := bGet s.inp.trig t
  let out := match s.fld (INP_FTCFG_MODE t) with
    | 1 => now && (bGet s.inp.tout t || !was)
    | 2 => bGet s.inp.tout t || (now && !was)
    | _ => false
  s.modInp (fun x => { x with trig := bPut x.trig t now, tout := bPut x.tout t out })

def fabricStep (s : State) : State :=
  if !s.inp.live || s.inp.dcMap then s
  else ((s.cellsFrom [] (List.range 32)).each (List.range 4) (fun t s => s.timerStep t))
    |> fun s => s.follow s.mapped (fun n s => s.record 4 3 n)

/-- A timer's half period, or its one-shot length, elapses. -/
def fabricTimer (t : Nat) (s : State) : State :=
  if !s.inp.live || s.inp.dcMap then s
  else
    match s.fld (INP_FTCFG_MODE t) with
    | 1 => if bGet s.inp.trig t then s.modInp (fun x => { x with tout := bPut x.tout t (!bGet x.tout t) }) else s
    | 2 => s.modInp (fun x => { x with tout := bPut x.tout t false })
    | _ => s

def limpHomeEngage (s : State) : State := s.limpEngage s.limpCauses

/-- A write of REL: by S, with no condition holding and outside L4, it disengages the map; by A0 or A1 it is refused. -/
def State.limpRelease (s : State) (c : Nat) : State :=
  if c ≠ 2 then s.raise INP_FLAG_WRREF
  else if s.limpCauses = 0 then
    ((s.when (s.on INP_LHSTAT_ENG) (fun s => s.traceA 10 3 3 0 s.faultTime.1)).setFld INP_LHSTAT_ENG 0).setFld INP_LHSTAT_CAUSE 0
      |>.modInp (fun x => { x with mapHold := [] })
      |>.follow s.mapped (fun n s => s.record 4 3 n)
  else s

/-- The store scan at start-up: NOREC with no valid record; then the hardware loader loads the fabric (R7, R53, R310). -/
def State.storeScan (s : State) : State :=
  (s.scanReads.ssShow.when s.ssBank.isNone (fun s => s.record 2 5 0)).fabricLoad

/-- The fabric goes live, once per start (R308, R310, R496): registered cells hold INIT. -/
def fabricLive (s : State) : State :=
  if s.inp.live then s else
  s.storeScan.modInp (fun x => { x with live := true })
    |>.each (List.range 32) (fun c s => if s.fld (INP_FCMODE_MODE c) = 1 then s.setCell c (s.on (INP_FCMODE_INIT c)) else s)

/-! ### Transactions and power states (R292, R300, R318) -/

/-- After a commit: supplies and channels follow EN, and an input switched off reads 0. -/
def State.inpCommitted (s : State) (was : State) : State :=
  s.each [0, 1] (fun k s =>
      if s.on (INP_SS_EN k) && !was.on (INP_SS_EN k) then s.setFld (INP_SS_STATE k) 1
      else if !s.on (INP_SS_EN k) && was.on (INP_SS_EN k) && decide (s.fld (INP_SS_STATE k) = 1) then s.setFld (INP_SS_STATE k) 0
      else s)
    |>.each (List.range 4) (fun k s =>
      if s.on (INP_PSCFG_EN k) = was.on (INP_PSCFG_EN k) then s
      else (s.setFld (INP_PSSTAT_SUPOFF k) 0).setFld (INP_PSSTAT_VALID k) 0)
    |>.each (List.range 8) (fun k s =>
      if s.on (INP_SNCFG_EN k) = was.on (INP_SNCFG_EN k) then s
      else (s.setFld (INP_SNSTAT_VALID k) 0).modInp (fun x => { x with cal := nPut x.cal k 0, timedOut := bPut x.timedOut k false }))
    |>.each (List.range 48) (fun n s =>
      if s.fld (INP_SWCFG_MODE n) = 0 then s.setBitF (INP_SWSTAT_STATE (n / 16)) (n % 16) false else s)

/-- The refusal of a BEDDED entry. -/
def State.inpBedded (s : State) : Option Nat :=
  if s.on INP_LHSTAT_ENG then some 1
  else if [0, 1].any (fun k => decide (s.fld (INP_SS_STATE k) = 1)) || (List.range 4).any s.psLive then some 2
  else if (List.range 8).any (fun k => s.on (INP_SNCFG_EN k)) || (List.range 4).any (fun k => s.on (INP_PSCFG_EN k)) then some 3
  else if (List.range 8).any (fun r => !(lGet s.inp.fifo r).isEmpty)
      || s.inp.made.any (fun m => decide (s.fld (INP_BRG_DEST m.src) = 1 ∨ s.fld (INP_BRG_DEST m.src) = 3)) then some 4
  else none

/-- A forced BEDDED entry. -/
def State.inpForced (s : State) : State :=
  s.each [0, 1] (fun k s => if s.fld (INP_SS_STATE k) = 1 then s.setFld (INP_SS_STATE k) 0 else s)
    |>.each (List.range 4) (fun k s => if s.psLive k then s.psOff k else s)
    |>.modInp (fun x => { x with fifo := [], made := [] })
    |>.finishAll (fun d => decide (d.eng = 7 ∧ d.opcode = 0o40)) stDomainLost

/-- At REST entry, and at the exit, every input changes its mode and a running debounce count restarts (R288); a supply
without REST is off in REST (R292). -/
def State.inpRest (s : State) : State :=
  s.modInp (fun x => { x with deb := [], scan := [] })
    |>.each [0, 1] (fun k s => if s.fld (INP_SS_STATE k) = 1 && !s.on (INP_SS_REST k) then s.setFld (INP_SS_STATE k) 0 else s)
def State.inpWake (s : State) : State :=
  s.modInp (fun x => { x with deb := [], scan := [] })
    |>.each [0, 1] (fun k s => if s.fld (INP_SS_STATE k) = 0 && s.on (INP_SS_EN k) then s.setFld (INP_SS_STATE k) 1 else s)

/-! ### The commands -/

def execSwitchPoll (n : Fin 48) (v : LandVolts) (s : State) : Out State :=
  .next (inDom .act (switchPoll n v.land.toInt v.kl30.toNat) s)
def execStaticFilterEnd (n : Fin 48) (v : LandVolts) (s : State) : Out State :=
  .next (if s.pw.mode = .bedded then fawnFilterEnd n v.land.toInt v.kl30.toNat s
    else inDom .act (staticFilterEnd n v.land.toInt v.kl30.toNat) s)
def execAdcScan (a : Fin 2) (s : State) : Out State := .next (inDom .act (adcScan a) s)
def execAdcResult (a : Fin 2) (conv : List (BitVec 16)) (s : State) : Out State := .next (inDom .act (adcResult a conv) s)
def execSenseConversion (o : Fin 128) (v : Word) (s : State) : Out State := .next (inDom .act (senseConversion o v) s)
def execSenseAdcCalibration (a : Fin 10) (ok : Bool) (s : State) : Out State := .next (inDom .act (adcCalibration a ok) s)
def execSsOvercurrent (k : Fin 2) (s : State) : Out State := .next (inDom .act (ssOvercurrent k) s)
def execSsDriven (k : Fin 2) (s : State) : Out State := .next (inDom .act (ssDriven k) s)
def execSentFrame (k : Fin 8) (cal : BitVec 32) (nibs : List (BitVec 32)) (slow : Option SlowMsg) (s : State) : Out State :=
  .next (inDom .act (sentFrame k cal.toNat (nibs.map BitVec.toNat) slow) s)
def execSentTimeout (k : Fin 8) (s : State) : Out State := .next (inDom .act (sentTimeout k) s)
def execPsi5Sync (k : Fin 4) (s : State) : Out State := .next (inDom .act (psi5Sync k) s)
def execPsi5Frame (k : Fin 4) (j : Fin 4) (coding check : Bool) (data : BitVec 28) (s : State) : Out State :=
  .next (inDom .act (psi5Frame k j coding check data.toNat) s)
def execPsi5SlotClose (k : Fin 4) (j : Fin 4) (s : State) : Out State := .next (inDom .act (psi5SlotClose k j) s)
def execPsi5BusLimit (k : Fin 4) (s : State) : Out State := .next (inDom .act (psi5BusLimit k) s)
def execSensorMessage (s : State) : Out State := .next (inDom .act sensorMessage s)
def execSensrx (r : Fin 64) (i : Fin 1024) (s : State) : Out State :=
  .next (inDom .act (fun s => s.onReady 7 0o40 r i sensRx) s)
def execFabricStep (s : State) : Out State := .next (inDom .act fabricStep s)
def execFabricTimer (t : Fin 4) (s : State) : Out State := .next (inDom .act (fabricTimer t) s)
def execLimpHomeEngage (s : State) : Out State := .next (inDom .act limpHomeEngage s)
def execFabricLive (s : State) : Out State := .next (inDom .act fabricLive s)

end Sys2Proof.Machine
end

