-- ==== Sys2Proof/Machine/Lux.lean ====
section
/-! DEFINITION. The lighting engine (R252 to R283): descriptors, sink diagnosis and derating, the colour loops' steps and
the pixel chains' traffic. -/

namespace Sys2Proof.Machine

/-! ### The chain's buffer (R276) -/

/-- Bytes of a PXWRITE's, PXREAD's or PXREG's buffer, and its words. -/
def Desc.pxCount (d : Desc) : Nat := if d.opcode = 7 then bitsOf d.w3.toNat 15 8 * (d.flags % 8 + 1) else bitsOf d.w4.toNat 4 0
def Desc.pxWords (d : Desc) : Nat := (d.pxCount + 1) / 2

/-- What is wrong with a chain descriptor's buffer and addresses. -/
def State.pxJudge (s : State) (d : Desc) (c : Nat) : Option (Nat × Nat) :=
  let o := d.opcode
  let a := d.w2.toNat
  let n := s.fld (LUX_PSTAT_N c)
  let first := bitsOf d.w3.toNat 7 0
  if o = 9 then none
  else if s.fld (LUX_PSTAT_STATE c) = 0 ∧ (s.pch c).base = 0 then some (0o32, 0)
  else if o = 7 ∨ o = 10 ∨ o = 11 then
    if !inRam a d.pxWords then some (stBadParam, 2)
    else if s.rangeOff a d.pxWords then some (stBankOffline, 0)
    else if o ≠ 10 ∧ s.rangeBad a d.pxWords then some (stMemError, 0o7777)
    else if o ≠ 10 && (List.range d.pxWords).any (fun i => decide (2 ^ 16 ≤ (s.rd (a + i)).toNat)) then some (stBadParam, 2)
    else if first = 0 ∨ n < first ∨ (o = 7 ∧ n + 1 < first + bitsOf d.w3.toNat 15 8) then some (stBadParam, 3)
    else none
  else none

/-- The frames of a chain descriptor (R264, R265, R268, R277). -/
def State.pxCompose (s : State) (d : Desc) (c : Nat) : List PxFrame :=
  let own := some d.key
  let first := bitsOf d.w3.toNat 7 0
  let regB := BitVec.ofNat 8 (bitsOf d.w3.toNat 15 8)
  match d.opcode with
  | 7 =>
    let w := d.flags % 8 + 1
    let n := bitsOf d.w3.toNat 15 8
    let per := 253 / w
    let k := (n + per - 1) / per
    let bs := s.bufBytes d.w2.toNat d.pxCount
    let latch := bitAt d.flags 3
    (List.range k).map (fun j =>
        let m := Nat.min per (n - j * per)
        ⟨3, 0, BitVec.ofNat 8 (first + j * per) :: BitVec.ofNat 8 w :: sliceD bs (j * per * w) (m * w) 0, own,
          !latch && decide (j + 1 = k)⟩)
      ++ (if latch then [s.latchFrame c d.key] else [])
  | 8 => [s.latchFrame c d.key]
  | 9 => [⟨7, 0, [], own, false⟩, ⟨1, 0xFF, [BitVec.ofNat 8 1], own, true⟩]
  | 10 => [⟨5, first, [regB, BitVec.ofNat 8 d.pxCount], own, true⟩]
  | 11 => [⟨2, first, regB :: s.bufBytes d.w2.toNat d.pxCount, own, true⟩]
  | _ => []

/-- The chain's part of an acceptance: the buffer is copied and the frames are composed (R275, R277); a confirmation takes
over the frames its provisional composed. The data frames of a TIMED PXWRITE are sent from now on (R273). -/
def State.luxAccept (s : State) (d : Desc) : State :=
  if 32 ≤ d.target ∧ 7 ≤ d.opcode then
    let c := d.target - 32
    let fresh := s.pxCompose d c
    let fs := match s.provDesc 5 d.target with
      | some p =>
        if !d.isProv && decide (p.phase = .prov ∧ p.opcode = d.opcode ∧ p.tag = d.tag ∧ p.w2 = d.w2 ∧ p.w3 = d.w3 ∧ p.flags = d.flags) then
          (smGet (fun _ => []) (s.pch c).comp p.key).map (fun f => { f with own := some d.key })
        else fresh
      | none => fresh
    if d.isTimed && !d.isProv then s.modPch c (fun x => { x with queue := x.queue ++ fs.filter (fun f => decide (f.cmd ≠ 4)) })
    else s.modPch c (fun x => { x with comp := lPut x.comp d.key fs })
  else s

/-! ### Descriptors (R275 to R279) -/

/-- The targets of an opcode (R276). -/
def luxRange (o t : Nat) : Bool :=
  if o = 0 then true
  else if o = 2 then decide (t < 32)
  else if o ≤ 5 then decide (t < 24)
  else if o = 6 then decide (24 ≤ t ∧ t < 32)
  else decide (32 ≤ t)

/-- The EN bit of a target (R248). -/
def State.luxEn (s : State) (t : Nat) : Bool :=
  if t < 24 then s.on (LUX_LCFG_EN t) else if t < 32 then s.on (LUX_CCFG_EN (t - 24)) else s.on (LUX_PCFG_EN (t - 32))

/-- The checks of the descriptor alone, in the order of R72. -/
def State.luxJudge (s : State) (d : Desc) : Option (Nat × Nat) :=
  let o := d.opcode
  let t := d.target
  let fl := d.flags
  let wide := decide (o = 7 ∨ o = 10 ∨ o = 11)
  if 11 < o then some (stBadOpcode, 0)
  else if 33 < t ∨ !s.luxEn t then some (stBadTarget, 0)
  else if !luxRange o t then some (stBadTarget, 2)
  else if d.isProv && decide (o ≠ 1 ∧ o ≠ 3 ∧ o ≠ 6 ∧ o ≠ 7 ∧ o ≠ 8) then some (stBadDesc, 0)
  else if fl ≠ 0 ∧ ¬(o = 3 ∧ fl < 8) ∧ ¬(o = 7 ∧ fl < 16) then some (stBadDesc, 0)
  else if d.isTimed && decide (o = 9 ∨ o = 10 ∨ o = 11 ∨ (o = 7 ∧ fl < 8)) then some (stBadDesc, 0)
  else if o ≠ 1 ∧ o ≠ 3 ∧ o ≠ 6 ∧ !wide ∧ d.w2 ≠ 0 then some (stBadParam, 2)
  else if o = 6 ∧ 32 ≤ d.w2.toNat then some (stBadParam, 2)
  else if (o = 1 ∨ o = 6) ∧ 2 ^ 13 ≤ d.w3.toNat then some (stBadParam, 3)
  else if wide && decide (2 ^ 16 ≤ d.w3.toNat) then some (stBadParam, 3)
  else if o ≠ 1 ∧ o ≠ 3 ∧ o ≠ 6 ∧ !wide ∧ d.w3 ≠ 0 then some (stBadParam, 3)
  else if (o = 10 ∨ o = 11) ∧ (d.w4 = 0 ∨ 30 < d.w4.toNat) then some (stBadParam, 4)
  else if d.isProv then
    if d.tprov = 0 ∨ 500 < d.tprov ∨ (o ≠ 3 ∧ o ≠ 6 ∧ bitsOf d.w4.toNat 17 9 ≠ 0) then some (stBadParam, 4)
    else if (t < 24 ∧ 2 ≤ s.lst t) ∨ (24 ≤ t ∧ t < 32 ∧ s.cst (t - 24) ≠ 0) then some (stBadDesc, 0)
    else if 32 ≤ t then s.pxJudge d (t - 32) else none
  else if o = 6 ∧ d.tprov ≠ 0 then some (stBadParam, 4)
  else if o ≠ 3 ∧ o ≠ 6 ∧ o ≠ 10 ∧ o ≠ 11 ∧ d.w4 ≠ 0 then some (stBadParam, 4)
  else if 32 ≤ t then s.pxJudge d (t - 32)
  else none

/-- A descriptor that drives a sink opens. -/
def State.luxOpenNew (s : State) (n : Nat) (d : Desc) : State :=
  ((s.luxSupersede n).startDesc d).stopThread (luxOut n)
    |>.modLx n (fun x => { x with rampLeft := 0, want := false, dNext := none, iset := none, first := false })

/-- The program of a SET or RUN starts (R108). -/
def State.luxLaunch (s : State) (n e : Nat) (d : Desc) : State :=
  ((s.luxOpenNew n d).modLx n (fun x => { x with first := d.wasTimed })).launch (luxOut n) e d.w2.toNat d.w3.toNat d.w4.toNat

/-- A step of a built-in ramp (R151, R277). -/
def State.luxRamp (s : State) (n : Nat) : State :=
  let x := s.lx n
  if x.rampLeft = 0 then s
  else
    let s := (s.modLx n (fun x => { x with rampLeft := x.rampLeft - 1 })).luxApply n (rampAt x.rampFrom x.rampTo x.rampN (x.rampN + 1 - x.rampLeft)) true
    if s.lst n = 3 then (s.modLx n (fun x => { x with rampLeft := 0, want := false })).luxCut n 0o22 (s.luxLat n) else s

/-- A dimming period begins with what waits for it (R251); in a frozen group D stays (R113). -/
def State.luxStart (s : State) (n : Nat) (ramp : Bool) : State :=
  if s.grpFrozen (s.grp (luxOut n)) then s.luxBegin n
  else
    let s := match (s.lx n).dNext with
      | some d => (s.modLx n (fun x => { x with dNext := none })).luxApply n d true
      | none => s
    ((s.when ramp (fun s => s.luxRamp n)).luxBegin n).luxTryDone n

/-- A descriptor on a sink (R277). -/
def State.sinkAct (s : State) (n : Nat) (d : Desc) : State :=
  let st := s.lst n
  if st = 5 then s.finish d stFenced 0
  else if (s.loopOf n).isSome && decide (1 ≤ d.opcode ∧ d.opcode ≤ 3) then s.finish d 0o27 0
  else
    match d.opcode with
    | 1 =>
      let s := s.entryScrub (luxOut n) 0
      if st = 4 then s.finish d 0o23 0
      else if s.entryValid (luxOut n) 0 then s.luxLaunch n 0 d
      else
        let v := d.w2.toNat
        let r := bitsOf d.w3.toNat 12 0
        let s := s.luxOpenNew n d
        if r ≠ 0 then
          (s.modLx n (fun x => { x with rampFrom := s.oval (luxOut n), rampTo := v, rampN := r, rampLeft := r, want := true })).when
              (decide (st = 1)) (fun s => s.setLst n (if s.luxLat n = 0 then 2 else 3))
            |>.when d.wasTimed (fun s => s.luxStart n true)
        else
          let s := (s.modLx n (fun x => { x with want := true })).luxApply n v d.wasTimed
          if s.lst n = 3 then (s.modLx n (fun x => { x with want := false })).luxCut n 0o22 (s.luxLat n) else s.luxTryDone n
    | 2 => (((s.luxSupersede n).stopThread (luxOut n)).modLx n (fun x => { x with rampLeft := 0, want := false })).luxApply n 0 true
            |>.when (decide (st = 3)) (fun s => s.setLst n 0)
            |>.finishDone d 0
    | 3 =>
      let s := s.entryScrub (luxOut n) (d.flags % 8)
      if st = 4 then s.finish d 0o23 0
      else if !s.entryValid (luxOut n) (d.flags % 8) then s.finish d 0o25 0
      else s.luxLaunch n (d.flags % 8) d
    | 4 =>
      if st ≠ 2 then s.finish d stBadTarget 1
      else
        match s.fld (LUX_LSTAT_OL n) with
        | 1 => s.finishDone d 1
        | 2 => s.finish d 0o20 0
        | _ => (s.startDesc d).modLx n (fun x => { x with diagN := 0 })
    | 5 =>
      let rest := s.luxLat n
      if rest ≠ 0 then s.finish d 0o26 rest
      else (s.when (decide (st = 4)) (fun s => (s.setFld (LUX_LSTAT_LCAUSE n) 0).luxDown n 0)).finishDone d 0
    | _ => s.finishDone d 0

/-- The settle test of a loop. -/
def State.loopSettled (s : State) (k : Nat) : State :=
  (s.raise (LUX_CSTAT_SETL k)).cEvt k 3
    |> fun s => match s.luxWith (24 + k) 6 with
      | some d => s.finishDone d (satTo 511 (s.cl k).periods)
      | none => s

/-- COLOUR (R262). -/
def State.colour (s : State) (k : Nat) (d : Desc) : State :=
  let e := bitsOf d.w2.toNat 4 0
  let t0 := s.fld (LUX_CTT0_T e)
  let t1 := s.fld (LUX_CTT1_T e)
  let t2 := s.fld (LUX_CTT2_T e)
  let lim := bitsOf d.w4.toNat 17 9
  let s := (s.luxSupersede (24 + k)).startDesc d |>.setFld (LUX_CSTAT_ENT k) e |>.setFld (LUX_CSTAT_SETL k) 0
  if t0 = 0 ∧ t1 = 0 ∧ t2 = 0 then (s.loopOff k).finishDone d 0
  else
    let r := if s.cst k = 0 then 0 else bitsOf d.w3.toNat 12 0
    let fromOff := decide (s.cst k = 0)
    let s := s.modCl k (fun x => { x with
        f0 := x.t0, f1 := x.t1, f2 := x.t2, e0 := t0, e1 := t1, e2 := t2, rampN := r, rampLeft := r, good := 0, periods := 0, limit := lim,
        t0 := if r = 0 then t0 else x.t0, t1 := if r = 0 then t1 else x.t1, t2 := if r = 0 then t2 else x.t2 })
    if fromOff then
      let duty := fun (c : Nat) => match c with
        | 0 => s.fld (LUX_CTD0_D e)
        | 1 => s.fld (LUX_CTD1_D e)
        | _ => s.fld (LUX_CTD2_D e)
      let s := s.each [0, 1, 2] (fun c s => s.luxApply (s.loopSink k c) (duty c) true)
      match [0, 1, 2].find? (fun c => decide (duty c ≠ 0 ∧ s.lst (s.loopSink k c) ≠ 2)) with
      | some c =>
        let st := match s.lst (s.loopSink k c) with
          | 3 => 0o22
          | 4 => 0o21
          | _ => stFenced
        (s.finish d st c).loopOff k
      | none =>
        let s := (s.setCst k 1).setFld (LUX_CSTAT_FAILS k) 0
        if lim = 0 then s.finishDone d 0 else s
    else if lim = 0 then s.finishDone d 0
    else s

/-- A descriptor on a colour loop. -/
def State.loopAct (s : State) (k : Nat) (d : Desc) : State :=
  if s.isFenced 9 (24 + k) then s.finish d stFenced 0
  else
    match d.opcode with
    | 2 => ((s.luxSupersede (24 + k)).loopOff k).finishDone d 0
    | 6 => s.colour k d
    | _ => s.finishDone d 0

/-- A descriptor on a pixel chain: its frames queue; a provisional of the chain is superseded. -/
def State.pxAct (s : State) (c : Nat) (d : Desc) : State :=
  if s.isFenced 9 (32 + c) then (s.pxDrop c d.key).finish d stFenced 0
  else if d.opcode < 7 then s.finishDone d 0
  else
    let fs := lGet (s.pch c).comp d.key
    let s := (s.provEnd 5 (32 + c) stSuperseded 0 (some SEQ_PCNT1_PSUP)).startDesc d
      |>.modPch c (fun x => { x with comp := smErase x.comp d.key, queue := x.queue ++ fs })
    if fs.isEmpty then s.finishDone d 0 else s.pxNext c

/-- The action of a descriptor of the lighting engine at its apply time. -/
def State.luxAct (s : State) (d : Desc) : State :=
  if d.target < 24 then s.sinkAct d.target d
  else if d.target < 32 then s.loopAct (d.target - 24) d
  else s.pxAct (d.target - 32) d

/-- A preparation starts (R275); on a sink of an enabled loop it does not (R259). -/
def State.luxPrepare (s : State) (d : Desc) : State :=
  if d.target < 24 then
    (if (s.loopOf d.target).isSome then s.finish d 0o27 0 else if s.lst d.target = 0 then s.setLst d.target 1 else s)
  else s

/-- A preparation undone (R120); its provisional holds its chain no longer (R275). -/
def State.luxUndo (s : State) (d : Desc) : State :=
  if d.target < 24 then (if s.lst d.target = 1 then s.setLst d.target 0 else s)
  else if 32 ≤ d.target then
    ((if d.phase = .prov then s.setDesc { d with phase := .ready } else s).pxDrop (d.target - 32) d.key).pxNext (d.target - 32)
  else s

/-- SETP on a sink's output (R279). -/
def State.luxSetp (s : State) (n p v : Nat) : State := if p = 0 then s.modLx n (fun x => { x with iset := some (Nat.min v 600) }) else s

/-! ### Agent answers (R259, R280, R283) -/

/-- A commit: chains whose EN it sets go to DOWN (R274); the sinks of a loop that it enables lose their threads (R259), whose open
descriptors, by DESIGN CHOICE, complete LOOP_OWNED; at a frame boundary of its group a sink takes up its BRT there (R251). -/
def State.luxCommitted (s was : State) (point : Option Nat) : State :=
  s.each [0, 1] (fun c s => if s.on (LUX_PCFG_EN c) && !was.on (LUX_PCFG_EN c) then (s.modPch c (fun x => { x with base := 0 })).pxShow c else s)
    |>.each (List.range 8) (fun k s =>
      if s.on (LUX_CCFG_EN k) && !was.on (LUX_CCFG_EN k) then
        s.each [0, 1, 2] (fun c s =>
          let n := s.loopSink k c
          ((s.stopThread (luxOut n)).modLx n (fun x => { x with rampLeft := 0, want := false, dNext := none })).luxCut n 0o27 0)
      else s)
    |>.each ((List.range 24).filter (fun n => decide (point = some (s.grp (luxOut n))))) (fun n s => s.luxBegin n)

/-- A forced BEDDED entry. -/
def State.luxForced (s : State) : State :=
  s.each (List.range 24) (fun n s => if 1 ≤ s.lst n ∧ s.lst n ≤ 3 then s.luxDown n 0 else s)
    |>.each (List.range 8) (fun k s => (s.setCst k 0).setFld (LUX_CSTAT_SETL k) 0)
    |>.each [0, 1] (fun c s => s.pxStop c)
    |>.finishAll (fun d => decide (d.eng = 5)) stDomainLost

/-! ### Sinks: diagnosis, derating and dimming periods -/

/-- The open-load state of a sink (R253, R277). -/
def State.setLol (s : State) (n v : Nat) : State :=
  let s := if s.fld (LUX_LSTAT_OL n) = v then s
    else
      ((s.setFld (LUX_LSTAT_OL n) v).lEvt n 3).seqEvent (luxOut n) 3
        |>.when (decide (v = 2)) (fun s => s.record 9 2 n)
  let s := s.when (decide (v = 3)) (fun s => s.lEvt n 2)
  match s.luxWith n 4 with
  | some d => if v = 1 then s.finishDone d 1 else if v = 2 then s.finish d 0o20 0 else s.finish d 0o24 0
  | none => s

/-- One judged on-time: `out` or in (R253). -/
def State.luxOnTime (s : State) (n : Nat) (out : Bool) : State :=
  let x := s.lx n
  let o := if out then x.outRun + 1 else 0
  let i := if out then 0 else x.inRun + 1
  (s.modLx n (fun x => { x with outRun := satTo 64 o, inRun := satTo 64 i, idle := 0 }))
    |>.when (decide (o = 64)) (fun s => s.setLol n 2)
    |>.when (decide (i = 64)) (fun s => s.setLol n 1)

def execLuxSet (r : Fin 64) (i : Fin 1024) (s : State) : Out State := .next (inDom .act (fun s => s.actReady 5 1 r i (fun d s => s.luxUndo d) (fun d s => s.luxAct d)) s)
def execLuxOff (r : Fin 64) (i : Fin 1024) (s : State) : Out State := .next (inDom .act (fun s => s.actReady 5 2 r i (fun d s => s.luxUndo d) (fun d s => s.luxAct d)) s)
def execLuxRun (r : Fin 64) (i : Fin 1024) (s : State) : Out State := .next (inDom .act (fun s => s.actReady 5 3 r i (fun d s => s.luxUndo d) (fun d s => s.luxAct d)) s)
def execLuxDiag (r : Fin 64) (i : Fin 1024) (s : State) : Out State := .next (inDom .act (fun s => s.actReady 5 4 r i (fun d s => s.luxUndo d) (fun d s => s.luxAct d)) s)
def execLuxClear (r : Fin 64) (i : Fin 1024) (s : State) : Out State := .next (inDom .act (fun s => s.actReady 5 5 r i (fun d s => s.luxUndo d) (fun d s => s.luxAct d)) s)
def execColour (r : Fin 64) (i : Fin 1024) (s : State) : Out State := .next (inDom .act (fun s => s.actReady 5 6 r i (fun d s => s.luxUndo d) (fun d s => s.luxAct d)) s)
def execPxwrite (r : Fin 64) (i : Fin 1024) (s : State) : Out State := .next (inDom .act (fun s => s.actReady 5 7 r i (fun d s => s.luxUndo d) (fun d s => s.luxAct d)) s)
def execPxlatch (r : Fin 64) (i : Fin 1024) (s : State) : Out State := .next (inDom .act (fun s => s.actReady 5 8 r i (fun d s => s.luxUndo d) (fun d s => s.luxAct d)) s)
def execPxenum (r : Fin 64) (i : Fin 1024) (s : State) : Out State := .next (inDom .act (fun s => s.actReady 5 9 r i (fun d s => s.luxUndo d) (fun d s => s.luxAct d)) s)
def execPxread (r : Fin 64) (i : Fin 1024) (s : State) : Out State := .next (inDom .act (fun s => s.actReady 5 10 r i (fun d s => s.luxUndo d) (fun d s => s.luxAct d)) s)
def execPxreg (r : Fin 64) (i : Fin 1024) (s : State) : Out State := .next (inDom .act (fun s => s.actReady 5 11 r i (fun d s => s.luxUndo d) (fun d s => s.luxAct d)) s)

/-- SINK_SHORT_TO_BATTERY (R254). -/
def execSinkShortToBattery (n : Fin 24) (s : State) : Out State :=
  .next (inDom .act (fun s =>
    if s.lst n = 2 ∧ s.on (LUX_LCFG_STBEN n) then
      ((s.protEvent (luxOut n)).luxDown n 4).setFld (LUX_LSTAT_LCAUSE n) 1
        |>.lEvt n 4
        |>.lEvt n 5
        |>.luxCut n 0o21 0
        |>.loopLost n 0o21
        |>.record 9 1 n
    else s) s)

/-- The derating factor of a sink in 1/12800 (R255). -/
def State.derateOf (s : State) (n : Nat) : Nat :=
  let t := (s.chTemp (luxOut n)).toNat
  let k := (100 + s.fld (LUX_LDER_KNEE n)) * 64
  let cut := s.fld (LUX_LDER_SLOPE n) * (t - k)
  Nat.max 1600 (12800 - cut)

/-- A loop whose sinks derate is frozen (R260). -/
def State.loopFreeze (s : State) (k : Nat) : State :=
  s.setFld (LUX_CSTAT_FRZ k) (b2n (s.on (LUX_CCFG_EN k) && [0, 1, 2].any (fun c => s.on (LUX_LSTAT_DER (s.loopSink k c)))))

/-- DERATING_UPDATE (R255). -/
def execDeratingUpdate (s : State) : Out State :=
  .next (inDom .act (fun s =>
    s.each (List.range 24) (fun n s =>
        let f := match s.loopOf n with
          | some (k, _) => Nat.min (s.derateOf (s.loopSink k 0)) (Nat.min (s.derateOf (s.loopSink k 1)) (s.derateOf (s.loopSink k 2)))
          | none => s.derateOf n
        let der := decide (f < 12800)
        s.when (der && !s.on (LUX_LSTAT_DER n)) (fun s => (s.lEvt n 0).raise LUX_FLAG_DERATE)
          |>.modLx n (fun x => { x with derate := f })
          |>.setFld (LUX_LSTAT_DER n) (b2n der)
          |>.setFld (LUX_LSTAT_FACT n) (satTo 255 (f * 256 / 12800)))
      |>.each (List.range 8) (fun k s => s.loopFreeze k)) s)

/-- DIMMING_PERIOD_END (R250 to R253). DESIGN CHOICE: it comes for a period that a frame boundary cuts short as well, before that boundary.
`amp`: the amplitude sampled in the on-times in µA; `v`: the mean sink voltage;
`outs`: the judged on-times in order, true for out; `weak`: the highest group voltage is below 9 V. -/
def execDimmingPeriodEnd (n : Fin 24) (amp v : Nat) (outs : List Bool) (weak : Bool) (s : State) : Out State :=
  .next (inDom .act (fun s =>
    let de := (s.lx n).de
    let on := decide (s.lst n = 2)
    let sampled := on && decide (20480 ≤ de)
    let judged := on && s.on (LUX_LCFG_OLEN n) && decide (4096 ≤ de) && !weak && !outs.isEmpty
    let a := if sampled then amp else (s.lx n).amp
    let s := s.setFld (LUX_LSTAT_IVAL n) (b2n sampled)
      |>.setFld (LUX_LIMEAS_I n) (satTo 0o777777 (if on then a * de / 2 ^ 18 else 0))
      |>.when on (fun s => (s.setFld (LUX_LVSNK_V n) (satTo 0o777777 v)).senseEvent (luxOut n))
      |>.when judged (fun s => s.each (outs.take 64) (fun o s => s.luxOnTime n o))
      |>.when (!judged && s.on (LUX_LCFG_OLEN n)) (fun s =>
          let k := (s.lx n).idle + 1
          (s.modLx n (fun x => { x with idle := if k = 64 then 0 else k, outRun := 0, inRun := 0 })).when (decide (k = 64)) (fun s => s.setLol n 3))
      |>.when (s.luxWith n 4).isSome (fun s =>
          let k := (s.lx n).diagN + 1
          (s.modLx n (fun x => { x with diagN := k })).when (decide (64 ≤ k)) (fun s =>
            match s.luxWith n 4 with
            | some d => s.finish d 0o24 0
            | none => s))
    s.luxStart n true) s)

/-! ### Colour loops (R260, R261) -/

/-- The targets of a loop one step further in their ramp (R262). -/
def ClLoop.move (x : ClLoop) : ClLoop :=
  if x.rampLeft = 0 then x
  else
    let k := x.rampN + 1 - x.rampLeft
    { x with t0 := rampAt x.f0 x.e0 x.rampN k, t1 := rampAt x.f1 x.e1 x.rampN k, t2 := rampAt x.f2 x.e2 x.rampN k,
             rampLeft := x.rampLeft - 1 }

/-- LOOP_PERIOD (R260 to R262): the loop asks for its sensor read and the targets move one step. A provisional loop reads while its
preparation runs (R275). -/
def execLoopPeriod (k : Fin 8) (s : State) : Out State :=
  .next (inDom .act (fun s =>
    if s.on (LUX_CCFG_EN k) && (decide (s.cst k ≠ 0) || (s.provDesc 5 (24 + k)).any (fun d => decide (d.phase = .prov))) then
      let s := (s.modCl k (fun x => { x.move with periods := x.periods + 1, reading := true })).i2cAsk k
      match s.luxWith (24 + k) 6 with
      | some d =>
        let x := s.cl k
        if x.limit ≠ 0 ∧ x.limit < x.periods then s.finish d 0o30 0 else s
      | none => s
    else s) s)

/-- The three errors of a loop (R260). -/
def loopErr (x : ClLoop) (s0 s1 s2 : Nat) : Int × Int × Int := ((x.t0 : Int) - s0, (x.t1 : Int) - s1, (x.t2 : Int) - s2)

/-- The new duty of a drive channel: the value, and whether it is held at a bound. -/
def State.loopDuty (s : State) (k c : Nat) (e : Int × Int × Int) : Nat × Bool :=
  let m := fun (j : Nat) => sextOf 18 (s.fld (LUX_CM_M k (3 * c + j)))
  let dd := (m 0 * e.1 + m 1 * e.2.1 + m 2 * e.2.2) / 4096
  let n := s.loopSink k c
  let d : Int := (((s.lx n).dNext).getD (s.oval (luxOut n)) : Int) + dd
  if d < 0 then (0, true) else if 0o777777 < d then (0o777777, true) else (d.toNat, false)

/-- A count of a sensor read: two bytes, the low one first with BO = 0 (R261). -/
def State.sensorCount (s : State) (k : Nat) (p : BitVec 16) : Nat :=
  if s.on (LUX_CSNS_BO k) then p.toNat else p.toNat % 256 * 256 + p.toNat / 256

/-- A failed read counted by the I2C master (R302): 1 a NACK, 2 lost arbitration, 3 a timeout. -/
def State.i2cFail (s : State) (why : Nat) : State :=
  (s.count (if why = 3 then INP_I2C_TMO else INP_I2C_NACK)).raiseIf (decide (why ≠ 2)) INP_FLAG_I2CERR

/-- COLOUR_SENSOR_READ_DONE (R260 to R262) of the running transaction. `why`: 0 for a read whose six bytes are `p0` to `p2`;
else why it failed. -/
def execColourSensorReadDone (k : Fin 8) (why : Fin 4) (p0 p1 p2 : BitVec 16) (s : State) : Out State :=
  .next (inDom .act (fun s =>
    if s.inp.i2c.head? ≠ some k.val then s
    else
    let s := (s.i2cSet s.inp.i2c.tail).when (decide (why.val ≠ 0)) (fun s => s.i2cFail why)
    let s0 := s.sensorCount k p0
    let s1 := s.sensorCount k p1
    let s2 := s.sensorCount k p2
    let x := s.cl k
    if !x.reading then s
    else
      let s := s.modCl k (fun x => { x with reading := false })
      if why = 0 then
        let s := ((s.setFld (LUX_CS0_S k) s0).setFld (LUX_CS1_S k) s1).setFld (LUX_CS2_S k) s2
          |>.setFld (LUX_CSTAT_FAILS k) 0
          |>.when (decide (s.cst k = 2)) (fun s => (s.setCst k 1).cEvt k 1)
        if s.cst k ≠ 1 then s
        else
          let s := s.loopFreeze k
          let e := loopErr x s0 s1 s2
          let tol := s.fld (LUX_CTIM_TOL k)
          let good := decide (x.rampLeft = 0 ∧ e.1.natAbs ≤ tol ∧ e.2.1.natAbs ≤ tol ∧ e.2.2.natAbs ≤ tol)
          let s := if s.on (LUX_CSTAT_FRZ k) then s
            else
              let new := [s.loopDuty k 0 e, s.loopDuty k 1 e, s.loopDuty k 2 e]
              s.each [0, 1, 2] (fun c s => s.luxLoopD (s.loopSink k c) (new.getD c (0, false)).1)
                |>.when (new.any (fun p => p.2)) (fun s => s.cEvt k 0)
          let n := if good then x.good + 1 else 0
          let s := (s.modCl k (fun x => { x with good := satTo 4 n })).when (!good) (fun s => s.setFld (LUX_CSTAT_SETL k) 0)
          if n = 4 then s.loopSettled k else s
      else
        let s := s.count (LUX_CSTAT_FAILS k)
        if s.fld (LUX_CSTAT_FAILS k) = 4 ∧ s.cst k = 1 then
          ((s.setCst k 2).cEvt k 2).raise LUX_FLAG_SLOST
            |> fun s => (match s.luxWith (24 + k) 6 with
              | some d => s.finish d 0o31 0
              | none => s)
            |>.record 9 3 (24 + k)
        else s) s)

/-! ### Pixel chains (R267 to R274) -/

/-- An address that did not answer (R271, R272): of the addresses of one scan the lowest. -/
def State.pxBreak (s : State) (c a : Nat) (scan : Bool) : State :=
  (s.setFld (LUX_PSTAT_BRK c) (if scan && (s.pch c).scanBad then Nat.min (s.fld (LUX_PSTAT_BRK c)) a else a)).pEvt c 2

/-- A scan that has ended: every node answered takes FAULT back to IDLE (R272). -/
def State.scanEnd (s : State) (c : Nat) : State :=
  let x := s.pch c
  if x.scanning && x.scan.isEmpty then
    (s.modPch c (fun x => { x with scanning := false, base := if !x.scanBad && decide (x.base = 3) then 1 else x.base })).pxShow c
  else s

/-- A failed reply (R271): one retry, chosen as R273 says; then the request ends with CHAIN_TIMEOUT or CHAIN_CRC. -/
def State.pxFail (s : State) (c : Nat) (f : PxFrame) (crc : Bool) : State :=
  if !(s.pch c).retried then
    (s.modPch c (fun x => { x with cur := none, sent := false, released := false, again := some f })).pxNext c
  else
    let scan := f.own.isNone
    let s := (s.count (if crc then LUX_PERR_CRC c else LUX_PERR_TMO c)).raise LUX_FLAG_PXERR
      |>.when crc (fun s => s.pEvt c 1)
      |>.pxBreak c f.addr scan
      |>.when (!crc || scan) (fun s => s.modPch c (fun x => { x with base := 3, scanBad := x.scanBad || scan }))
    let s := (match f.own with
      | some k => match s.descKey k with
        | some d => s.finish d (if crc then 0o34 else 0o33) f.addr
        | none => s
      | none => s).pxDone c
    ((s.record 9 (if crc then 5 else 6) (32 + c)).when scan (fun s => s.scanEnd c)).pxNext c

/-- A node's status byte judged by a scan (R272). -/
def State.nodeStatus (s : State) (c a v : Nat) : State :=
  let f := LUX_PFLT_FLT c ((a - 1) / 16)
  let i := (a - 1) % 16
  if v % 128 = 0 then s.setBitF f i false
  else
    let new := !s.bit f i
    ((s.setBitF f i true).pEvt c 3).when new (fun s => s.record 9 4 (32 + c))

/-- CHAIN_FRAME_SENT (R273): the last stop bit of the frame in progress has been sent. -/
def execChainFrameSent (c : Fin 2) (s : State) : Out State :=
  .next (inDom .act (fun s =>
    match (s.pch c).cur with
    | some f =>
      if (s.pch c).sent then s
      else if f.replies then s.modPch c (fun x => { x with sent := true, released := true })
      else
        let s := s.pxDone c
        let s := if f.cmd = 4 then
            (s.pEvt c 0).modPch c (fun x => { x with applies := match f.own with
              | some k => x.applies ++ [k]
              | none => x.applies })
          else if f.last then
            match f.own.bind s.descKey with
            | some d => s.finishDone d 0
            | none => s
          else s
        s.pxNext c
    | none => s) s)

/-- CHAIN_REPLY (R263, R264, R271, R272, R277): what the module receives between two idle times of 4 bit times or more. A wrong SYNC and
a reserved command are ignored. -/
def execChainReply (c : Fin 2) (frame : List Byte) (s : State) : Out State :=
  .next (inDom .act (fun s =>
    let x := s.pch c
    match x.cur with
    | some f =>
      if !x.sent || decide (f.cmd = 1) then s
      else
        match pxParse frame with
        | some (cmd, seq, addr, p) =>
          if pxReserved cmd then s
          else if cmd ≠ f.cmd + 8 ∨ seq ≠ x.seq ∨ addr ≠ f.addr ∨ p.isEmpty then s.pxFail c f true
          else
            let st := (p.getD 0 0).toNat
            let s := s.pxDone c
            let s := match f.own with
              | some k =>
                match s.descKey k with
                | some d =>
                  if s.rangeOff d.w2.toNat d.pxWords then s.finish d stBankOffline 0
                  else (s.putBytes d.w2.toNat ((p.drop 1).take d.pxCount)).finishDone d st
                | none => s
              | none => (s.nodeStatus c f.addr st).scanEnd c
            s.pxNext c
        | none => if frame.headD 0 = 0xA5 then s.pxFail c f true else s
    | none => s) s)

/-- CHAIN_REPLY_TIMEOUT (R271). -/
def execChainReplyTimeout (c : Fin 2) (s : State) : Out State :=
  .next (inDom .act (fun s =>
    match (s.pch c).cur with
    | some f => if (s.pch c).sent && decide (f.cmd ≠ 1) then s.pxFail c f false else s
    | none => s) s)

/-- ENUM_END (R268, R277): the frame as received. -/
def execEnumEnd (c : Fin 2) (frame : List Byte) (s : State) : Out State :=
  .next (inDom .act (fun s =>
    let x := s.pch c
    match x.cur, pxParse frame with
    | some f, some (cmd, _, _, p) =>
      if x.sent && decide (f.cmd = 1 ∧ cmd = 9 ∧ p ≠ []) then
        let n := (p.getD 0 0).toNat
        let s := (s.setFld (LUX_PSTAT_N c) n).modPch c (fun x => { x with base := 1 })
          |>.setFld (LUX_PSTAT_BRK c) 0
          |>.pEvt c 4
          |>.pxDone c
        (match f.own.bind s.descKey with
          | some d => if n = s.fld (LUX_PCFG_NCFG c) then s.finishDone d n else s.finish d 0o35 n
          | none => s).pxNext c
      else s
    | _, _ => s) s)

/-- ENUM_END_WAIT_EXPIRY (R268). -/
def execEnumEndWaitExpiry (c : Fin 2) (s : State) : Out State :=
  .next (inDom .act (fun s =>
    match (s.pch c).cur with
    | some f =>
      if (s.pch c).sent && decide (f.cmd = 1) then
        let s := (s.pxDone c).raise LUX_FLAG_PXERR
        (match f.own.bind s.descKey with
          | some d => s.finish d 0o33 0
          | none => s).pxNext c
      else s
    | none => s) s)

/-- STATUS_SCAN (R272). -/
def execStatusScan (c : Fin 2) (s : State) : Out State :=
  .next (inDom .act (fun s =>
    let x := s.pch c
    if s.on (LUX_PCFG_EN c) && s.on (LUX_PCFG_SCAN c) && decide (x.base ≠ 0) && !x.scanning then
      let n := s.fld (LUX_PSTAT_N c)
      (s.modPch c (fun x => { x with scan := (List.range n).map (· + 1), scanning := true, scanBad := false })).pxNext c
    else s) s)

/-- TIMED_LATCH_START (R269, R273): the start instant of a waiting TIMED latch has come. -/
def execTimedLatchStart (r : Fin 64) (i : Fin 1024) (s : State) : Out State :=
  .next (inDom .act (fun s =>
    match s.descAt r i .timed with
    | some d =>
      if d.eng = 5 ∧ 32 ≤ d.target ∧ (d.opcode = 7 ∨ d.opcode = 8) then
        let c := d.target - 32
        if s.isFenced 9 d.target then (s.pxDrop c d.key).finish d stFenced 0
        else
          let x := s.pch c
          let behind := x.queue.any (fun f => decide (f.own = some d.key)) || (match x.cur with
            | some f => decide (f.own = some d.key)
            | none => false)
          (s.provEnd 5 d.target stSuperseded 0 (some SEQ_PCNT1_PSUP)).setDesc
              { d with phase := .running, wasTimed := true, cond := s.condOf d behind }
            |>.modPch c (fun x => { x with due := x.due ++ [d.key] })
            |>.pxNext c
      else s
    | none => s) s)

/-- CHAIN_APPLY_INSTANT (R269, R277): the nodes apply. -/
def execChainApplyInstant (c : Fin 2) (s : State) : Out State :=
  .next (inDom .act (fun s =>
    match (s.pch c).applies with
    | k :: q =>
      let s := s.modPch c (fun x => { x with applies := q })
      match s.descKey k with
      | some d => s.finishDone d 0
      | none => s
    | [] => s) s)

end Sys2Proof.Machine
end

