-- ==== Sys2Proof/Machine/Mot.lean ====
section
/-! DEFINITION. The motor engine (R184 to R217): anti-pinch, descriptors and the events of half-bridges and gate drivers. -/

namespace Sys2Proof.Machine

/-- A pinch violation at a checked position of a closing drive (R200, R201): the reversal takes its length as it now stands, so that
nothing can shorten it (R202). -/
def State.motPinch (s : State) (g : Nat) (cur rip : Bool) : State :=
  let t := 24 + g
  if s.on (MOT_PINCH_PEN g) && decide (s.mst t = 3 ∧ s.mdir t = s.closeDir g) && s.zoned g then
    let det := (s.zoneAt g).getD 0 + b2n cur * 8 + b2n rip * 16 + b2n (!s.on (MOT_GSTAT_POSV g)) * 32
    (s.motFinish t 0o25 det).setMst t 5
      |>.setMdir t 3
      |>.setOval (motOut t) 0
      |>.motEvt t 3 3
      |>.modMt t (fun m => { m with
          reversing := false, revCount := 0, revN := s.fld (MOT_PINCH_REVR g), revPos := s.on (MOT_GSTAT_POSV g),
          goTo := none, dNext := none, waiting := none })
      |>.record 7 6 t
  else s

/-- A reversal ends (R201): REVDONE, PLOCK and BRAKE. -/
def State.motRevEnd (s : State) (g : Nat) : State :=
  let t := 24 + g
  if s.mst t = 5 then
    (s.motEvt t 2 2).raise (MOT_GSTAT_PLK g)
      |>.motBrake t
      |>.modMt t (fun m => { m with reversing := false })
  else s

/-! ### Descriptors (R207 to R213) -/

/-- The checks of the descriptor alone, in the order of R72. -/
def State.motJudge (s : State) (d : Desc) : Option (Nat × Nat) :=
  let o := d.opcode
  let t := d.target
  let fl := d.flags
  if 7 < o then some (stBadOpcode, 0)
  else if !s.motValid t ∨ ((o = 2 ∨ o = 7) ∧ t < 24) then some (stBadTarget, 0)
  else if d.isProv && decide (o = 0 ∨ o = 3 ∨ o = 5 ∨ o = 6 ∨ o = 7) then some (stBadDesc, 0)
  else if fl ≠ 0 ∧ ¬((o = 1 ∨ o = 2) ∧ fl < 4) ∧ ¬(o = 3 ∧ fl < 2) ∧ ¬(o = 4 ∧ fl < 8) then some (stBadDesc, 0)
  else
    let fp := if isGd t then s.fld (MOT_GCFG_FPWM (t - 24)) else s.fld (MOT_HCFG_FPWM (halfOf t))
    let dir := bitsOf d.w3.toNat 17 16
    if (o = 1 ∨ o = 2) ∧ fp = 0 ∧ d.w2 ≠ 0 ∧ d.w2 ≠ 0o777777 then some (stBadParam, 2)
    else if (o = 0 ∨ o = 3 ∨ o = 5 ∨ o = 6) ∧ d.w2 ≠ 0 then some (stBadParam, 2)
    else if o = 1 ∧ (dir = 0 ∨ dir = 3) then some (stBadParam, 3)
    else if (o = 0 ∨ o = 3 ∨ o = 5 ∨ o = 6 ∨ o = 7) ∧ d.w3 ≠ 0 then some (stBadParam, 3)
    else if d.isProv then
      if bitsOf d.w4.toNat 17 9 ≠ 0 ∨ d.tprov = 0 ∨ 500 < d.tprov then some (stBadParam, 4)
      else if s.mst t = 8 then some (0o30, 0)
      else if s.mst t = 9 then some (stFenced, 0)
      else if 2 ≤ s.mst t then some (stBadDesc, 0)
      else if o = 2 ∧ !s.on (MOT_GSTAT_POSV (t - 24)) then some (0o27, 0) else none
    else if o ≠ 4 ∧ d.w4 ≠ 0 then some (stBadParam, 4) else none

/-- A preparation starts (R203). -/
def State.motPrepare (s : State) (d : Desc) : State := if s.mst d.target = 0 then s.setMst d.target 1 else s

/-- A preparation undone (R120). -/
def State.motUndo (s : State) (t : Nat) : State := if s.mst t = 1 then s.setMst t 0 else s

/-- Everything an acting drive replaces is superseded (R112, R122); a provisional's preparation is undone. -/
def State.motSupersede (s : State) (t : Nat) : State :=
  (s.motFinish t stSuperseded 0).when (s.provDesc 3 t).isSome (fun s =>
      (s.motUndo t).provEnd 3 t stSuperseded 0 (some SEQ_PCNT1_PSUP))
    |> fun s => match s.motWith t 5 with
      | some d => s.finish d stSuperseded 0
      | none => s

/-- A drive opens on its target. -/
def State.motOpenNew (s : State) (t : Nat) (d : Desc) : State :=
  ((s.motSupersede t).startDesc d).stopThread (motOut t)
    |>.modMt t (fun m => { m with
        deferred := false, supSeen := s.on (motSup t), limSeen := false, past := false, goTo := none, waiting := none, limP := none, brkP := none,
        exempt := decide (d.opcode ≠ 4 ∧ d.owner = 2) && bitAt d.flags 1 })

/-- Conditions under which a drive is refused (R201, R206, R210). -/
def State.motRefuse (s : State) (d : Desc) (dir : Nat) : Option (Nat × Nat) :=
  let t := d.target
  let ovr := decide (d.opcode ≠ 4) && bitAt d.flags 1
  if ovr && decide (d.owner ≠ 2) then some (stDenied, 0)
  else if s.plocked t dir ovr then some (0o26, 0)
  else if s.mst t = 7 then some (0o22, s.motLat t)
  else none

/-- The drive of a DRIVE or GOTO (R151, R208): entry 0 of the target's slot, or the built-in action. -/
def State.motDrive (s : State) (d : Desc) (dir : Nat) (goTo : Option Nat) : State :=
  let t := d.target
  let s := ((s.motOpenNew t d).modMt t (fun m => { m with goTo := goTo })).entryScrub (motOut t) 0
  if s.entryValid (motOut t) 0 then
    (s.modMt t (fun m => { m with dirP := dir })).launch (motOut t) 0 d.w2.toNat d.w3.toNat d.w4.toNat
  else if d.w2 = 0 ∧ s.mst t = 0 then s.motDone t false
  else (s.motStart t dir d.w2.toNat).modMt t (fun m => { m with goTo := goTo })

/-- The drive phase of a target that STOP ends (R205, R208). -/
def State.motStop (s : State) (t : Nat) (coast : Bool) : State :=
  match s.mst t with
  | 1 => s.motIdle t
  | 3 => if coast then s.motIdle t else s.motBrake t
  | _ => s

/-- The action of a descriptor of the motor engine at its apply time; during PINCH it waits (R202). -/
def State.motAct (s : State) (d : Desc) : State :=
  let t := d.target
  let st := s.mst t
  if st = 5 then s
  else if st = 9 then s.finish d stFenced 0
  else if st = 8 ∧ d.opcode ≠ 3 ∧ d.opcode ≠ 6 then s.finish d 0o30 0
  else
    match d.opcode with
    | 1 =>
      let dir := bitsOf d.w3.toNat 17 16
      match s.motRefuse d dir with
      | some r => s.finish d r.1 r.2
      | none => s.motDrive d dir none
    | 2 =>
      let p := posInt (s.fld (MOT_POS_POS (t - 24)))
      let q := posInt d.w3.toNat
      let dir := if p < q then 1 else 2
      match s.motRefuse d dir with
      | some r => s.finish d r.1 r.2
      | none =>
        if !s.on (MOT_GSTAT_POSV (t - 24)) then s.finish d 0o27 0
        else if p = q then
          ((s.motSupersede t).finishDone d 0).stopThread (motOut t)
            |>.modMt t (fun m => { m with waiting := none, goTo := none })
            |>.when (decide (st = 3)) (fun s => s.motBrake t)
            |>.motUndo t
        else s.motDrive d dir (some d.w3.toNat)
    | 3 =>
      let s := ((s.motFinish t stSuperseded 0).provEnd 3 t stSuperseded 0 (some SEQ_PCNT1_PSUP)).stopThread (motOut t)
      if st = 8 ∨ st = 0 then s.finishDone d 0
      else ((s.startDesc d).modMt t (fun m => { m with waiting := none })).motStop t (bitAt d.flags 0)
    | 4 =>
      match s.motRefuse d 0 with
      | some r => s.finish d r.1 r.2
      | none =>
        let s := s.entryScrub (motOut t) (d.flags % 8)
        if !s.entryValid (motOut t) (d.flags % 8) then s.finish d 0o31 0
        else (s.motOpenNew t d).launch (motOut t) (d.flags % 8) d.w2.toNat d.w3.toNat d.w4.toNat
    | 5 => if st ≠ 0 then s.finish d stBadTarget 1 else s.startDesc d
    | 6 =>
      let rest := s.motLat t
      let s := s.when (decide (st = 8)) (fun s => s.setFld (motCause t) 0)
      if rest ≠ 0 then s.finish d 0o32 rest
      else (s.when (decide (st = 8)) (fun s => s.motIdle t)).finishDone d 0
    | 7 =>
      ((s.setFld (MOT_POS_POS (t - 24)) d.w2.toNat).raise (MOT_GSTAT_POSV (t - 24))).showZone (t - 24)
        |>.modMt t (fun m => { m with inserted := 0 })
        |>.motReached t
        |>.finishDone d 0
    | _ => s.finishDone d 0

/-- A carrier period begins (R188): a pending D takes effect, unless the group is frozen (R113). -/
def State.motPeriod (s : State) (t : Nat) : State :=
  if s.grpFrozen (s.grp (motOut t)) then s else
  match (s.mt t).dNext with
  | some v => (if s.mst t = 3 then s.setOval (motOut t) v else s).modMt t (fun m => { m with dNext := none })
  | none => s

/-- SETP on a motor output (R213). -/
def State.motSetp (s : State) (t p v : Nat) : State :=
  match p with
  | 0 => s.modMt t (fun m => { m with dirP := v % 4 })
  | 1 => s.modMt t (fun m => { m with limP := some v })
  | 2 => s.modMt t (fun m => { m with brkP := some v })
  | _ => s

/-! ### Agent answers (R217) -/

/-- After a commit: POSV falls with RIPEN (R198), and the zone in force is that of the new table (R199). -/
def State.motCommitted (s was : State) : State :=
  s.each (List.range 4) (fun g s =>
    (s.when (was.on (MOT_RCFG_RIPEN g) && !s.on (MOT_RCFG_RIPEN g)) (fun s =>
      (s.setFld (MOT_GSTAT_POSV g) 0).modMt (24 + g) (fun m => { m with counting := false }))).showZone g)

/-- A forced BEDDED entry: every target coasts, open descriptors complete DOMAIN_LOST. -/
def State.motForced (s : State) : State :=
  s.each s.motTargets (fun t s => if 1 ≤ s.mst t ∧ s.mst t ≤ 7 then (s.setMst t 0).setMdir t 0 else s)
    |>.finishAll (fun d => decide (d.eng = 3)) stDomainLost

/-! ### The commands -/

def execMotDrive (r : Fin 64) (i : Fin 1024) (s : State) : Out State :=
  .next (inDom .act (fun s => s.actReady 3 1 r i (fun d s => s.motUndo d.target) (fun d s => s.motAct d)) s)
def execMotGoto (r : Fin 64) (i : Fin 1024) (s : State) : Out State :=
  .next (inDom .act (fun s => s.actReady 3 2 r i (fun d s => s.motUndo d.target) (fun d s => s.motAct d)) s)
def execMotStop (r : Fin 64) (i : Fin 1024) (s : State) : Out State :=
  .next (inDom .act (fun s => s.actReady 3 3 r i (fun d s => s.motUndo d.target) (fun d s => s.motAct d)) s)
def execMotRun (r : Fin 64) (i : Fin 1024) (s : State) : Out State :=
  .next (inDom .act (fun s => s.actReady 3 4 r i (fun d s => s.motUndo d.target) (fun d s => s.motAct d)) s)
def execMotDiag (r : Fin 64) (i : Fin 1024) (s : State) : Out State :=
  .next (inDom .act (fun s => s.actReady 3 5 r i (fun d s => s.motUndo d.target) (fun d s => s.motAct d)) s)
def execMotClear (r : Fin 64) (i : Fin 1024) (s : State) : Out State :=
  .next (inDom .act (fun s => s.actReady 3 6 r i (fun d s => s.motUndo d.target) (fun d s => s.motAct d)) s)
def execSetpos (r : Fin 64) (i : Fin 1024) (s : State) : Out State :=
  .next (inDom .act (fun s => s.actReady 3 7 r i (fun d s => s.motUndo d.target) (fun d s => s.motAct d)) s)

/-- MOT_DIAG_DONE (R209). `top`: both outputs within 1 V of the group voltage with the source released; `bottom`: both
below 1 V, `apart`: more than 2 V apart, with the source applied. -/
def execMotDiagDone (t : Fin 28) (top bottom apart : Bool) (s : State) : Out State :=
  .next (inDom .act (fun s =>
    match s.motWith t 5 with
    | some d =>
      let v := if top then 3 else if bottom then 2 else if apart then 1 else 0
      (s.setFld (motDiagF t) v).finishDone d v
    | none => s) s)

/-- PRECH_END (R190, R205). `boot`: the bootstrap reads above VBOK. A STOP that waits acts on the drive phase that starts. -/
def execPrechEnd (t : Fin 28) (boot : Bool) (s : State) : Out State :=
  .next (inDom .act (fun s =>
    if s.mst t = 2 then
      let dir := ((s.mt t).waiting.getD (1, 0)).1
      let h := if 16 ≤ t.val ∧ dir = 2 then halfOf t + 1 else halfOf t
      let s := s.setFld (MOT_HSTAT_BOOT h) (b2n boot)
      if boot then
        (match s.motWith t 3, (s.mt t).waiting with
        | some d, _ => (s.motGo t dir 0).motStop t (bitAt d.flags 0)
        | none, some (dir, d) => if (s.motOpen t).isSome || s.mapDrives (motOut t) then s.motGo t dir d else s.motIdle t
        | none, none => s.motIdle t)
      else
        (s.motFinish t 0o33 0).motIdle t
          |>.raise MOT_FLAG_BOOTF
          |>.motEvt t 1 1
          |>.record 7 8 t
    else s) s)

/-- MOT_CURRENT_LIMIT (R191, R195): the switching side chops. -/
def execMotCurrentLimit (t : Fin 28) (s : State) : Out State :=
  .next (inDom .act (fun s =>
    let t := s.motOf t
    if s.mst t = 3 ∨ s.mst t = 5 then
      let s := ((s.motEvt t 0 0).modMt t (fun m => { m with limSeen := true })).protEvent (motOut t)
      s.when (!isGd t) (fun s => s.seqEvent (motOut t) 3)
    else s) s)

/-- MOT_SHORT (R191, R195, R211): `side` 0 first high, 1 first low, 2 second high, 3 second low. -/
def execMotShort (t : Fin 28) (side : Fin 4) (s : State) : Out State :=
  .next (inDom .act (fun s =>
    let t := s.motOf t
    if s.mst t = 9 then s else ((s.motEvt t 7 9).motLatch t 1 0o20 side).record 7 1 t) s)

/-- MOT_OVERLOAD (R191). -/
def execMotOverload (t : Fin 28) (s : State) : Out State :=
  .next (inDom .act (fun s =>
    let t := s.motOf t
    if s.mst t = 3 ∧ !isGd t then ((s.motEvt t 6 0).motFinish t 0o21 0 |>.motBrake t).record 7 3 t else s) s)

/-- MOT_STALL (R191, R195, R201, R202). -/
def execMotStall (t : Fin 28) (s : State) : Out State :=
  .next (inDom .act (fun s =>
    let t := s.motOf t
    let ts := if isGd t then s.fld (MOT_RCFG_TSTALL (t - 24)) else s.fld (MOT_HCFG2_TSTALL (halfOf t))
    if ts = 0 then s
    else if isGd t && decide (s.mst t = 5) then (if (s.mt t).reversing then s.motRevEnd (t - 24) else s)
    else if s.mst t = 3 then
      let s := s.motEvt t 5 7
      if isGd t && s.on (MOT_PINCH_PEN (t - 24)) && s.zoned (t - 24) && decide (s.mdir t = s.closeDir (t - 24)) then
        s.motPinch (t - 24) false false
      else
        match s.motOpen t with
        | some d =>
          if d.opcode ≠ 4 ∧ bitAt d.flags 0 then (s.motDone t true).motBrake t
          else ((s.motFinish t 0o23 0).motBrake t).record 7 4 t
        | none => (s.motBrake t).record 7 4 t
    else s) s)

/-- MOT_OPEN (R191, R195): on a half-bridge it needs a drive with D of at least 0o200000. -/
def execMotOpen (t : Fin 28) (s : State) : Out State :=
  .next (inDom .act (fun s =>
    let t := s.motOf t
    if s.mst t = 3 ∧ (isGd t ∨ 0o200000 ≤ s.stageD (motOut t)) then ((s.motEvt t 4 6).motFinish t 0o24 0 |>.motIdle t).record 7 5 t else s) s)

/-- GATE_FAULT (R195). -/
def execGateFault (g : Fin 4) (s : State) : Out State :=
  .next (inDom .act (fun s =>
    let t := 24 + g.val
    if s.mst t = 9 then s else ((s.motEvt t 8 8).motLatch t 2 0o34 0).record 7 2 t) s)

/-- CHARGE_PUMP_LOW (R195): `v` is the pump's reading. -/
def execChargePumpLow (v : Fin 131072) (s : State) : Out State :=
  .next (inDom .act (fun s =>
    ((s.setFld MOT_CPSTAT_CPOK 0).setFld MOT_CPSTAT_VCP v).raise MOT_FLAG_CPUV
      |>.each (List.range 4) (fun g s => (s.setFld (MOT_GSTAT_CPOK g) 0).motSupply (24 + g))
      |>.record 7 7 0) s)

/-- CHARGE_PUMP_RELEASE (R195). -/
def execChargePumpRelease (v : Fin 131072) (s : State) : Out State :=
  .next (inDom .act (fun s =>
    ((s.setFld MOT_CPSTAT_CPOK 1).setFld MOT_CPSTAT_VCP v)
      |>.each (List.range 4) (fun g s => (s.raise (MOT_GSTAT_CPOK g)).motRelease (24 + g))) s)

/-- DRIVE_DURATION_END (R196, R208). -/
def execDriveDurationEnd (t : Fin 28) (s : State) : Out State :=
  .next (inDom .act (fun s =>
    match s.motOpen t with
    | some d =>
      if d.opcode = 1 ∧ bitsOf d.w3.toNat 15 0 ≠ 0 then
        if s.mst t = 3 then (s.motDone t false).motBrake t
        else if s.mst t = 6 then (s.motDone t false).modMt t (fun m => { m with past := true })
        else s
      else s
    | none => s) s)

/-- BRAKE_END (R205). -/
def execBrakeEnd (t : Fin 28) (s : State) : Out State :=
  .next (inDom .act (fun s =>
    if s.mst t = 4 then
      match (s.mt t).waiting with
      | some (dir, d) => s.motGo t dir d
      | none => s.motIdle t
    else s) s)

/-- MOT_SUPPLY_ENTER (R196): `past` above 20.0 V, else below VUV. -/
def execMotSupplyEnter (t : Fin 28) (past : Bool) (s : State) : Out State :=
  .next (inDom .act (fun s =>
    let t := s.motOf t
    ((s.raise (motSup t)).modMt t (fun m => { m with high := past })).motSupply t) s)

/-- MOT_SUPPLY_RELEASE (R196). -/
def execMotSupplyRelease (t : Fin 28) (s : State) : Out State :=
  .next (inDom .act (fun s => let t := s.motOf t; (s.setFld (motSup t) 0).motRelease t) s)

/-- RIPPLE_CANDIDATE (R197): `dt` µs after the last counted ripple. -/
def execRippleCandidate (g : Fin 4) (dt : Nat) (s : State) : Out State :=
  .next (inDom .act (fun s =>
    let t := 24 + g.val
    if !s.motCounts g then s
    else if 2 * dt < s.fld (MOT_RPER_PER g) then s.count (MOT_RINS_DBL g)
    else
      (s.setFld (MOT_RPER_PER g) (satTo 0o777777 dt)).ripplePos g
        |>.modMt t (fun m => { m with inserted := 0, revCount := if m.reversing then m.revCount + 1 else m.revCount })
        |>.seqEvent (motOut t) 3
        |>.motReached t) s)

/-- RIPPLE_INSERT (R197). -/
def execRippleInsert (g : Fin 4) (s : State) : Out State :=
  .next (inDom .act (fun s =>
    let t := 24 + g.val
    if !s.motCounts g then s
    else
      let s := (s.count (MOT_RINS_INS g)).ripplePos g |>.modMt t (fun m => { m with inserted := m.inserted + 1 })
      let s := if (s.mt t).inserted = 5 then
          ((s.setFld (MOT_GSTAT_POSV g) 0).motEvt t 1 1).showZone g |>.modMt t (fun m => { m with revPos := false }) |>.record 7 9 t
        else s
      s.motReached t) s)

/-- PINCH_VIOLATION (R199, R200): `v` is the 1 ms mean of the shunt voltage magnitude in units of 2 µV and `dt` the time since the
last counted ripple in µs, judged against the limits of the checked position. -/
def execPinchViolation (g : Fin 4) (v : Word) (dt : Nat) (s : State) : Out State :=
  .next (inDom .act (fun s =>
    let l := s.pinchLimits g
    let cur := decide (l.1 < v.toNat)
    let rip := decide (l.2 ≠ 0 ∧ 1000000 < dt * l.2)
    if cur || rip then s.motPinch g cur rip else s) s)

/-- PINCH_REVERSE_START (R201). -/
def execPinchReverseStart (g : Fin 4) (s : State) : Out State :=
  .next (inDom .act (fun s =>
    let t := 24 + g.val
    if s.mst t = 5 ∧ !(s.mt t).reversing then
      let o := 3 - s.closeDir g
      ((s.setMdir t o).setOval (motOut t) 0o777777).modMt t (fun m => { m with
        reversing := true, lastDir := o, revCount := 0, counting := s.on (MOT_RCFG_RIPEN g) })
    else s) s)

/-- REVERSAL_END (R201): after REVR counted ripples, or REVT while POSV is 0. -/
def execReversalEnd (g : Fin 4) (s : State) : Out State :=
  .next (inDom .act (fun s =>
    let m := s.mt (24 + g.val)
    if m.reversing && (!m.revPos || decide (m.revN ≤ m.revCount)) then s.motRevEnd g else s) s)

/-- PLOCK_END (R201). -/
def execPlockEnd (g : Fin 4) (s : State) : Out State :=
  .next (inDom .act (fun s => s.setFld (MOT_GSTAT_PLK g) 0) s)

/-- BOOTSTRAP_HOLD_PULSE (R203): the low sides charge and hold the bootstrap, unless the current reaches 15 mA (`cut`), which turns
them off until the next attempt, 1 ms later; a supply event suspends the pulses. -/
def execBootstrapHoldPulse (t : HoldPulse) (s : State) : Out State :=
  .next (inDom .act (fun s =>
    let cut := t.cut
    let t := t.target
    if s.mst t = 1 ∧ !isGd t ∧ !s.on (motSup t) ∧ !cut then
      (s.raise (MOT_HSTAT_BOOT (halfOf t))).when (decide (16 ≤ t.val)) (fun s => s.raise (MOT_HSTAT_BOOT (halfOf t + 1)))
    else s) s)

/-- GATE_DRIVER_HOT (R195): a junction latch on the gate driver. -/
def execGateDriverHot (g : Fin 4) (s : State) : Out State :=
  .next (inDom .act (fun s => ((s.raise (THM_TSTAT_TJLAT (124 + g))).motThermSet (24 + g)).record 7 10 (24 + g)) s)

/-- GATE_DRIVER_COOL (R195). -/
def execGateDriverCool (g : Fin 4) (s : State) : Out State :=
  .next (inDom .act (fun s => (s.setFld (THM_TSTAT_TJLAT (124 + g)) 0).motThermRelease (24 + g)) s)

end Sys2Proof.Machine
end

