-- ==== Sys2Proof/Machine/Vlv.lean ====
section
/-! DEFINITION. The valve engine (R226 to R247): the duty limit, the time-to-peak diagnosis, threads, the descriptors and
the events of valves and banks. -/

namespace Sys2Proof.Machine

/-! ### The duty limit (R226) -/

/-- The energised time of a valve in its window, in periods of the 32.768 kHz clock, and VLV_VDACC as it shows it. -/
def State.dutySum (s : State) (n : Nat) : Nat := (s.vv n).duty.foldl (· + ·) 0
def State.showDuty (s : State) (n : Nat) : State :=
  s.setFld (VLV_VDACC_FRAC n) (satTo 4095 (s.dutySum n / (8 * s.fld (VLV_VDUTY_WIN n))))

/-- A part of the window, in 1/64. -/
def State.dutyPart (s : State) (n k : Nat) : Nat := k * (512 * s.fld (VLV_VDUTY_WIN n))

/-- One period of the clock in a valve's window: a bucket is WIN/64 s, and the oldest leaves whole. -/
def State.dutyTick (s : State) (n : Nat) : State :=
  if !s.on (VLV_VDUTY_WIN n) then s
  else
    let v := s.vv n
    let st := s.vst n
    let e := b2n (decide (st = 1 ∨ st = 3 ∨ st = 4))
    let l := (v.duty.headD 0 + e) :: v.duty.tail
    (s.setVv n (if s.dutyPart n 1 ≤ v.dutyT + 1 then { v with duty := 0 :: l.take 63, dutyT := 0 }
      else { v with duty := l, dutyT := v.dutyT + 1 })).showDuty n

/-- Buckets cut down to a total, the oldest first. -/
def dutyCut : Nat → List Nat → List Nat
  | _, [] => []
  | k, x :: l => Nat.min k x :: dutyCut (k - x) l

/-- The duty limit. The command reports that the energised time has reached MAXF/64 of the window. DESIGN CHOICE: time that no idle step
has counted enters the newest bucket. -/
def State.vlvDuty (s : State) (n : Nat) : State :=
  let st := s.vst n
  if s.on (VLV_VDUTY_WIN n) && decide (s.fld (VLV_VDUTY_MAXF n) ≠ 64) && decide (st = 1 ∨ st = 3 ∨ st = 4) then
    let k := s.dutyPart n (s.fld (VLV_VDUTY_MAXF n)) - s.dutySum n
    (s.modVv n (fun v => { v with duty := (v.duty.headD 0 + k) :: v.duty.tail })).showDuty n
      |>.raise (VLV_VSTAT_DFULL n)
      |>.raise VLV_FLAG_DUTY
      |>.vEvt n 3
      |>.vlvCut n 0o23 0
      |>.vlvDecay n (s.quenchOf n)
      |>.record 8 6 n
  else s

/-- A commit that changes WIN. DESIGN CHOICE: the window starts empty. -/
def State.vlvCommitted (s was : State) : State :=
  s.each ((List.range 16).filter (fun n => decide (s.fld (VLV_VDUTY_WIN n) ≠ was.fld (VLV_VDUTY_WIN n)))) (fun n s =>
    (s.modVv n (fun v => { v with duty := [], dutyT := 0 })).setFld (VLV_VSTAT_DFULL n) 0 |>.setFld (VLV_VDACC_FRAC n) 0)

/-! ### Values of D from a thread (R221, R230) -/

/-- A value of D applied by a valve's thread. DEDUCED: on a valve in HOLD, D above 0o300000 asks for a new peak (R230), and a lower one
that raises the demand waits as a SETI does. -/
def State.vlvApply (s : State) (n d : Nat) : State :=
  let st := s.vst n
  let d := Nat.min d 0o600000
  let pk := decide (0o300000 < d) && !s.on (VLV_VCFG_MODE n)
  let hd := Nat.min d (holdTop (s.dampOf n))
  let ask (s : State) : State := s.modVv n (fun v => { v with
      since := s.ztNs, tdef := s.fld (VLV_BCFG2_TDEF (n / 4)), must := false, byThread := true })
  if d = 0 then (if 1 ≤ st ∧ st ≤ 4 ∨ st = 6 then s.vlvDecay n (s.quenchOf n) else s)
  else if s.bankBarred (n / 4) || s.on (VLV_VSTAT_DFULL n) || decide (s.vlvLat n ≠ 0) then s
  else
    match st with
    | 3 => s.modVv n (fun v => { v with hold := hd })
    | 4 => ((ask s).modVv n (fun v => { v with
        ramping := false, setiWait := true, own := true, rise := pk, setiTo := hd, setiMs := 0, late := none })).vlvRequest n
    | 0 => ((ask s).modVv n (fun v => { v with hold := hd, peak := pk, late := none })).vlvRequest n
    | 1 => ((ask s).modVv n (fun v => { v with hold := hd, peak := pk, late := none })).vlvRequest n
    | 2 => ((ask s).modVv n (fun v => { v with hold := hd, peak := pk, late := none })).vlvRequest n
    | 5 => ((ask s).modVv n (fun v => { v with hold := hd, peak := pk, late := none })).vlvRequest n
    | 6 => (ask s).modVv n (fun v => { v with hold := hd, peak := pk, wait := true })
    | _ => s

/-- The setpoint of a valve in HOLD at a carrier period (R106, R224): a pending value, or the next step of a ramp of 40 periods per
millisecond; in a frozen group neither (R113). -/
def State.vlvMove (s : State) (n : Nat) : State :=
  let v := s.vv n
  if s.grpFrozen (s.grp (vlvOut n)) then s
  else
    match v.dNext with
    | some d => (s.vlvShow n d).modVv n (fun v => { v with dNext := none })
    | none =>
      if v.ramping then
        let k := Nat.min (v.setiN + 1) (40 * v.setiMs)
        let h := rampAt v.setiFrom v.setiTo (40 * v.setiMs) k
        (s.modVv n (fun v => { v with setiN := k, hold := h })).vlvShow n h
      else s

/-- A carrier period of 25 µs begins (R221): the setpoint moves, and outside a ramp so does the dither, which takes up DFREQ and DAMP at
its rising zero crossing (R223). DESIGN CHOICE: after a ramp it goes on from the phase it had. -/
def State.vlvPeriod (s : State) (n : Nat) : State :=
  if s.vst n ≠ 4 then s.modVv n (fun v => { v with dNext := none })
  else
    let s := s.vlvMove n
    let v := s.vv n
    if v.ramping then s
    else
      let ph := v.dPh + v.dFreq
      let s := if v.dFreq = 0 then s.ditherTake n 0 else if 40000 ≤ ph then s.ditherTake n (ph - 40000)
        else s.modVv n (fun v => { v with dPh := ph })
      s.when (s.vb (n / 4)).ready (fun s => s.modVv n (fun v => { v with loop := s.ditherNow n }))

/-- SETP on a valve's output (R243). DESIGN CHOICE: a value beyond a parameter's range acts as the nearest end of it. -/
def State.vlvSetp (s : State) (n p v : Nat) : State :=
  match p with
  | 0 => s.modVv n (fun x => { x with damp := some (Nat.min v 16) })
  | 1 => s.modVv n (fun x => { x with dfreq := some (if v = 0 then 0 else Nat.max 20 (Nat.min v 500)) })
  | 2 => s.modVv n (fun x => { x with quench := some v })
  | _ => s

/-! ### Descriptors (R234, R237 to R242) -/

/-- The checks of the descriptor alone, in the order of R72. -/
def State.vlvJudge (s : State) (d : Desc) : Option (Nat × Nat) :=
  let o := d.opcode
  let t := d.target
  let fl := d.flags
  let tdef := bitsOf d.w4.toNat 17 9
  if 6 < o then some (stBadOpcode, 0)
  else if 20 ≤ t then some (stBadTarget, 0)
  else if (t < 16 ∧ !s.on (VLV_VCFG_EN t)) ∨ (16 ≤ t ∧ !s.on (VLV_BCFG_EN (t - 16))) then some (stBadTarget, 0)
  else if 16 ≤ t ∧ o ≠ 0 ∧ o ≠ 6 then some (stBadTarget, 2)
  else if d.isProv && decide (o ≠ 1 ∧ o ≠ 4) then some (stBadDesc, 0)
  else if fl ≠ 0 ∧ ¬(o = 1 ∧ fl < 16 ∧ fl / 4 % 2 = 0) ∧ ¬((o = 2 ∨ o = 3) ∧ fl < 2) ∧ ¬(o = 4 ∧ fl < 16) ∧
      ¬(o = 6 ∧ fl < 2 ∧ 16 ≤ t) then some (stBadDesc, 0)
  else if (o = 1 ∨ o = 3) ∧ 0o300000 * 64 < d.w2.toNat * (64 + s.fld (VLV_VCFG_DAMP t)) then some (stBadParam, 2)
  else if (o = 0 ∨ o = 2 ∨ o = 5 ∨ o = 6) ∧ d.w2 ≠ 0 then some (stBadParam, 2)
  else if (o = 1 ∧ 2 ^ 16 ≤ d.w3.toNat) ∨ (o = 3 ∧ 2 ^ 12 ≤ d.w3.toNat) then some (stBadParam, 3)
  else if (o = 0 ∨ o = 2 ∨ o = 5 ∨ o = 6) ∧ d.w3 ≠ 0 then some (stBadParam, 3)
  else if (o = 1 ∨ o = 3) ∧ 500 < tdef then some (stBadParam, 4)
  else if d.isProv then
    if d.tprov = 0 ∨ 500 < d.tprov then some (stBadParam, 4)
    else if s.vst t = 8 then some (0o27, 0)
    else if s.vst t = 9 then some (stFenced, 0)
    else if s.vst t ≠ 0 then some (stBadDesc, 0) else none
  else if (o = 1 ∨ o = 3) ∧ d.tprov ≠ 0 then some (stBadParam, 4)
  else if (o = 0 ∨ o = 2 ∨ o = 5 ∨ o = 6) ∧ d.w4 ≠ 0 then some (stBadParam, 4)
  else none

/-- Why a request on a valve is refused at its apply time (R167, R174, R226, R232, R238). -/
def State.vlvBar (s : State) (n : Nat) : Option (Nat × Nat) :=
  if s.vst n = 7 ∨ s.vlvLat n ≠ 0 then some (0o25, s.vlvLat n)
  else if s.bankBarred (n / 4) then some (0o26, s.bankDetail (n / 4))
  else if s.on (VLV_VSTAT_DFULL n) then some (0o23, 0)
  else none

/-- A descriptor that asks for a valve's energy opens; its valve's engine parameters return to the configured ones. -/
def State.vlvOpenNew (s : State) (n : Nat) (d : Desc) : State :=
  ((s.vlvSupersede n).startDesc d).stopThread (vlvOut n)
    |>.modVv n (fun v => { v with
        wait := false, setiWait := false, ramping := false, noLimit := false, byThread := false,
        late := none, tpk := 0, past := false, begun := false, ends := false, threaded := false, want := false, own := false, rise := false,
        damp := none, dfreq := none, quench := none })

/-- The program of an ENERGISE or RUN starts (R108, R220). -/
def State.vlvLaunch (s : State) (n e : Nat) (d : Desc) : State :=
  (((s.vlvOpenNew n d).modVv n (fun v => { v with threaded := true })).bankClose (n / 4)).launch (vlvOut n) e d.w2.toNat d.w3.toNat d.w4.toNat

/-- RELEASE, and an ENERGISE with setpoint 0 (R238). -/
def State.vlvRelease (s : State) (n : Nat) (d : Desc) (clamp : Bool) : State :=
  let s := (s.vlvSupersede n).stopThread (vlvOut n)
  if s.vst n = 0 then s.finishDone d 0
  else (s.startDesc d).modVv n (fun v => { v with ends := decide (d.opcode ≠ 2), late := none, tpk := 0, threaded := false }) |>.vlvDecay n clamp

/-- The action of a descriptor on a valve at its apply time. DEDUCED: an ENERGISE on an energised valve keeps its state, for R236 has no
other row; the new setpoint is that of its HOLD, and one that raises the demand waits as a SETI does (R228). -/
def State.vlvAct (s : State) (n : Nat) (d : Desc) : State :=
  let st := s.vst n
  if st = 9 then s.finish d stFenced 0
  else if st = 8 ∧ d.opcode ≠ 2 ∧ d.opcode ≠ 6 then s.finish d 0o27 0
  else
    match d.opcode with
    | 1 =>
      match s.vlvBar n with
      | some r => s.finish d r.1 r.2
      | none =>
        let s := s.entryScrub (vlvOut n) 0
        if s.entryValid (vlvOut n) 0 then s.vlvLaunch n 0 d
        else if d.w2 = 0 then s.vlvRelease n d (s.quenchOf n)
        else if st = 3 then (s.vlvOpenNew n d).modVv n (fun v => { v with hold := d.w2.toNat, begun := true })
        else if st = 4 then
          (s.vlvOpenNew n d).modVv n (fun v => { v with
              setiWait := true, own := true, setiTo := d.w2.toNat, setiMs := 0, since := s.ztNs, tdef := bitsOf d.w4.toNat 17 9,
              must := bitAt d.flags 0, peak := !s.on (VLV_VCFG_MODE n) && !bitAt d.flags 1 })
            |>.vlvRequest n
        else
          (s.vlvOpenNew n d).modVv n (fun v => { v with
              hold := d.w2.toNat, since := s.ztNs, tdef := bitsOf d.w4.toNat 17 9, must := bitAt d.flags 0,
              peak := !s.on (VLV_VCFG_MODE n) && !bitAt d.flags 1 })
            |>.vlvRequest n
    | 2 => s.vlvRelease n d (bitAt d.flags 0 || s.quenchOf n)
    | 3 =>
      if st ≠ 4 then s.finish d stBadTarget 1
      else
        let s := match s.vlvWith n 3 with
          | some x => s.finish x stSuperseded 0
          | none => s
        (s.startDesc d).modVv n (fun v => { v with
            setiWait := true, own := false, ramping := false, setiTo := d.w2.toNat, setiMs := bitsOf d.w3.toNat 11 0, since := s.ztNs,
            tdef := bitsOf d.w4.toNat 17 9, must := bitAt d.flags 0 })
          |>.vlvRequest n
    | 4 =>
      match s.vlvBar n with
      | some r => s.finish d r.1 r.2
      | none =>
        let s := s.entryScrub (vlvOut n) (d.flags % 8)
        if !s.entryValid (vlvOut n) (d.flags % 8) then s.finish d 0o30 0
        else s.vlvLaunch n (d.flags % 8) d
    | 5 =>
      if st ≠ 0 ∨ s.bankBarred (n / 4) then s.finish d stBadTarget 1 else (s.startDesc d).bankClose (n / 4)
    | 6 =>
      let rest := s.vlvLat n
      if rest ≠ 0 then s.finish d 0o31 rest
      else (s.when (decide (st = 8)) (fun s => (s.setFld (VLV_VSTAT_LCAUSE n) 0).vlvToOff n)).finishDone d 0
    | _ => s.finishDone d 0

/-- The action of a descriptor on a bank (R237, R240). -/
def State.bankAct (s : State) (m : Nat) (d : Desc) : State :=
  let st := s.bst m
  if st = 5 then s.finish d stFenced 0
  else if d.opcode = 6 then
    let s := s.when (bitAt d.flags 0) (fun s => s.wireReset (vhOut m))
    let rest := s.bankLat m + 4 * b2n (s.wireTrip (vhOut m))
    if rest ≠ 0 then s.finish d 0o31 rest
    else (s.when (decide (st = 4)) (fun s => s.bankToIdle m)).finishDone d 0
  else s.finishDone d 0

def State.vlvAction (s : State) (d : Desc) : State := if d.target < 16 then s.vlvAct d.target d else s.bankAct (d.target - 16) d

/-- A preparation starts (R234), unless its valve may not be energised (R226, R232). -/
def State.vlvPrepare (s : State) (d : Desc) : State :=
  let n := d.target
  let pm := bitAt d.flags 3
  if s.vst n = 0 then
    match s.vlvBar n with
    | some r => s.finish d r.1 r.2
    | none =>
    (s.setVst n 1).modVv n (fun v => { v with premag := pm })
      |>.bankClose (n / 4)
      |>.setFld (VLV_VSTAT_PREMAG n) (b2n (pm && decide (s.bst (n / 4) ≠ 2)))
  else s.finish d stBadDesc 0

/-- A preparation undone (R234): from PREP to DECAY. -/
def State.vlvUndo (s : State) (n : Nat) : State := if s.vst n = 1 then s.vlvDecay n (s.quenchOf n) else s

/-- END or HOLD of a valve's thread (R238): with D = 0 its descriptor completes when the valve is OFF, otherwise when it holds its
setpoint. -/
def State.vlvThreadEnd (s : State) (n d : Nat) : State :=
  let st := s.vst n
  if d = 0 ∧ st ≠ 0 then s.modVv n (fun v => { v with ends := true })
  else if st = 2 ∨ st = 3 ∨ st = 6 ∨ (s.vv n).setiWait then s.modVv n (fun v => { v with want := true })
  else s.vlvDone n

/-! ### Agent answers (R244, R247) -/

/-- A forced BEDDED entry. -/
def State.vlvForced (s : State) : State :=
  s.each (List.range 16) (fun n s => if 1 ≤ s.vst n ∧ s.vst n ≤ 6 then s.vlvDown n 0 true else s)
    |>.each (List.range 4) (fun m s => if s.bst m = 1 ∨ s.bst m = 2 then s.setBst m 0 else s)
    |>.finishAll (fun d => decide (d.eng = 4)) stDomainLost

/-! ### The commands -/

def execVlvEnergise (r : Fin 64) (i : Fin 1024) (s : State) : Out State := .next (inDom .act (fun s => s.actReady 4 1 r i (fun d s => s.vlvUndo d.target) (fun d s => s.vlvAction d)) s)
def execVlvRelease (r : Fin 64) (i : Fin 1024) (s : State) : Out State := .next (inDom .act (fun s => s.actReady 4 2 r i (fun d s => s.vlvUndo d.target) (fun d s => s.vlvAction d)) s)
def execSeti (r : Fin 64) (i : Fin 1024) (s : State) : Out State := .next (inDom .act (fun s => s.actReady 4 3 r i (fun d s => s.vlvUndo d.target) (fun d s => s.vlvAction d)) s)
def execVlvRun (r : Fin 64) (i : Fin 1024) (s : State) : Out State := .next (inDom .act (fun s => s.actReady 4 4 r i (fun d s => s.vlvUndo d.target) (fun d s => s.vlvAction d)) s)
def execVlvDiag (r : Fin 64) (i : Fin 1024) (s : State) : Out State := .next (inDom .act (fun s => s.actReady 4 5 r i (fun d s => s.vlvUndo d.target) (fun d s => s.vlvAction d)) s)
def execVlvClear (r : Fin 64) (i : Fin 1024) (s : State) : Out State := .next (inDom .act (fun s => s.actReady 4 6 r i (fun d s => s.vlvUndo d.target) (fun d s => s.vlvAction d)) s)

/-- VLV_DIAG_DONE (R239). `low`: drain below 1 V; `cur`: bank current above 30 mA. -/
def execVlvDiagDone (n : Fin 16) (low cur : Bool) (s : State) : Out State :=
  .next (inDom .act (fun s =>
    match s.vlvWith n 5 with
    | some d =>
      let v := if low && cur then 2 else if low then 1 else 0
      ((s.setFld (VLV_VSTAT_DIAG n) v).finishDone d v).bankRest (n / 4)
    | none => s) s)

/-- BANK_NODE_READY (R220): the valves of the bank that have started turn on. -/
def execBankNodeReady (m : Fin 4) (s : State) : Out State :=
  .next (inDom .act (fun s =>
    if s.bst m = 1 ∧ !(s.vb m).ready then
      (s.setVb m { (s.vb m) with ready := true }).each (bankValves m) (fun n s =>
        if s.vst n = 3 then s.vlvShow n (s.fld (VLV_VPK_IPK n)) else if s.vst n = 4 then s.vlvShow n (s.vv n).hold else s)
    else s) s)

/-- VH_OPEN_DELAY_END (R220). -/
def execVhOpenDelayEnd (m : Fin 4) (s : State) : Out State :=
  .next (inDom .act (fun s => if s.bst m = 1 && s.bankQuiet m then s.setBst m 0 else s) s)

/-- IPK_REACHED (R222, R227): `us` is tPK in µs. -/
def execIpkReached (n : Fin 16) (us : Nat) (s : State) : Out State :=
  .next (inDom .act (fun s =>
    if s.vst n = 3 ∧ !(s.vv n).ran ∧ (s.vb (n / 4)).ready then
      let lo := s.fld (VLV_VTIM_TPKMIN n)
      let s := s.setFld (VLV_VTPK_TPK n) (satTo 0o777777 us)
      if lo ≠ 0 ∧ !(s.vv n).hot ∧ us < 100 * lo then
        (s.vEvt n 7).vlvLatch n 2 0o21 (satTo 4095 (us / 10)) |>.record 8 2 n
      else
        let s := s.modVv n (fun v => { v with ran := true, tpk := satTo 511 (us / 100) })
        if s.on (VLV_VTIM_PKH n) then s else (s.vlvHold n).vlvTake (n / 4)
    else s) s)

/-- PEAK_HOLD_END (R222). -/
def execPeakHoldEnd (n : Fin 16) (s : State) : Out State :=
  .next (inDom .act (fun s => if s.vst n = 3 ∧ (s.vv n).ran then (s.vlvHold n).vlvTake (n / 4) else s) s)

/-- TPKMAX_EXPIRY (R227). `low`: the current is below 30 mA; `weak`: the bank node was below 9 V. -/
def execTpkmaxExpiry (n : Fin 16) (low weak : Bool) (s : State) : Out State :=
  .next (inDom .act (fun s =>
    if s.vst n = 3 ∧ !(s.vv n).ran then
      (s.vEvt n 6).when low (fun s => s.vEvt n 5)
        |>.vlvCut n 0o22 (b2n low + 2 * b2n (weak && !low))
        |>.vlvDecay n (s.quenchOf n)
        |>.record 8 3 n
    else s) s)

/-- DECAY_END (R225). -/
def execDecayEnd (n : Fin 16) (s : State) : Out State :=
  .next (inDom .act (fun s => if s.vst n = 5 then s.vlvToOff n else s) s)

/-- PEAK_SLOT_FREE (R228, R230): tPEAKGAP has passed since the valve entered PEAK. -/
def execPeakSlotFree (n : Fin 16) (s : State) : Out State :=
  .next (inDom .act (fun s => (s.vlvUnslot n).vlvTake (n / 4)) s)

/-- WAIT_DEADLINE (R229). -/
def execWaitDeadline (n : Fin 16) (s : State) : Out State := .next (inDom .act (fun s => s.vlvDeadline n) s)

/-- DUTY_LIMIT (R226). -/
def execDutyLimit (n : Fin 16) (s : State) : Out State := .next (inDom .act (fun s => s.vlvDuty n) s)

/-- DFULL_CLEAR (R226): the command reports that the energised time has fallen to (MAXF - 1)/64 of the window. DESIGN CHOICE: what the
buckets hold beyond that leaves them, the oldest first. -/
def execDfullClear (n : Fin 16) (s : State) : Out State :=
  .next (inDom .act (fun s =>
    if s.on (VLV_VSTAT_DFULL n) then
      (s.modVv n (fun v => { v with duty := dutyCut (s.dutyPart n (s.fld (VLV_VDUTY_MAXF n) - 1)) v.duty })).setFld (VLV_VSTAT_DFULL n) 0
        |>.showDuty n
    else s) s)

/-- VALVE_DURATION_END (R225, R233, R238). -/
def execValveDurationEnd (n : Fin 16) (s : State) : Out State :=
  .next (inDom .act (fun s =>
    match s.vlvOpen n with
    | some d =>
      if d.opcode = 1 ∧ bitsOf d.w3.toNat 15 0 ≠ 0 ∧ !(s.vv n).threaded then
        if (s.vv n).begun then
          (s.vlvDone n).vlvDecay n (s.quenchOf n) |>.modVv n (fun v => { v with past := true })
        else s
      else s
    | none => s) s)

/-- SETI_RAMP_END (R224). -/
def execSetiRampEnd (n : Fin 16) (s : State) : Out State :=
  .next (inDom .act (fun s =>
    let v := s.vv n
    if s.vst n = 4 ∧ v.ramping then
      let s := (s.modVv n (fun v => { v with ramping := false, hold := v.setiTo })).vlvShow n v.setiTo
      (match s.vlvWith n 3 with
        | some d => s.vlvEnd d v.setiLate 0
        | none => s).vlvTake (n / 4)
    else s) s)

/-- VALVE_OPEN (R227): a proportional valve. -/
def execValveOpen (n : Fin 16) (s : State) : Out State :=
  .next (inDom .act (fun s =>
    if s.vst n = 4 ∧ s.on (VLV_VCFG_MODE n) then
      ((s.vEvt n 5).vlvCut n 0o32 0).vlvDown n 0 (s.quenchOf n)
        |>.vlvToOff n
        |>.vlvTake (n / 4)
        |>.record 8 3 n
    else s) s)

/-- VL_SHORT (R231). -/
def execVlShort (n : Fin 16) (s : State) : Out State :=
  .next (inDom .act (fun s => if s.vst n = 9 then s else ((s.vEvt n 8).vlvLatch n 1 0o24 0).record 8 1 n) s)

/-- VH_SHORT (R231). -/
def execVhShort (m : Fin 4) (s : State) : Out State :=
  .next (inDom .act (fun s => if s.bst m = 5 then s else ((s.bEvt m 6).bankLatch m 1).record 8 4 (16 + m)) s)

/-- BANK_OVERLOAD (R231). -/
def execBankOverload (m : Fin 4) (s : State) : Out State :=
  .next (inDom .act (fun s => if 4 ≤ s.bst m then s else ((s.bEvt m 5).bankLatch m 2).record 8 5 (16 + m)) s)

/-- BANK_UVOFF (R233). -/
def execBankUvoff (m : Fin 4) (s : State) : Out State :=
  .next (inDom .act (fun s =>
    let s := (s.raise (VLV_BSTAT_UV m)).bEvt m 4
    if s.bst m ≤ 1 then
      s.each (bankValves m) (fun n s =>
          let st := s.vst n
          if st = 1 then s.setFld (VLV_VSTAT_PREMAG n) 0
          else if 2 ≤ st ∧ st ≤ 5 then
            let w := decide (st ≠ 5)
            (((s.setiDrop n).protEvent (vlvOut n)).vlvDown n 6 true).modVv n (fun v => { v with wait := w })
          else s)
        |>.setBst m 2
        |>.setSlots m []
    else s) s)

/-- BANK_UV_RELEASE (R233): the interrupted valves wait again, without a deadline. -/
def execBankUvRelease (m : Fin 4) (s : State) : Out State :=
  .next (inDom .act (fun s =>
    let s := s.setFld (VLV_BSTAT_UV m) 0
    if s.bst m = 2 then
      s.setBst m 0
        |>.each (bankValves m) (fun n s =>
          let v := s.vv n
          if s.vst n = 6 then
            if v.wait && !v.past && (s.vlvOpen n).isSome then
              (s.modVv n (fun v => { v with noLimit := true })).setVst n 2 |>.bankClose m
            else s.vlvToOff n
          else if s.vst n = 1 then (s.setFld (VLV_VSTAT_PREMAG n) (b2n v.premag)).bankClose m
          else s)
        |>.vlvTake m
    else s) s)

end Sys2Proof.Machine
end

