-- ==== Sys2Proof/Machine/Thm.lean ====
section
/-! DEFINITION. Thermal and wire protection (R161 to R183): the ΔT and junction latches, the sensors, the wire models and the
dissipation estimate. -/

namespace Sys2Proof.Machine

/-! ### Latches (R165 to R169) -/

/-- A thermal latch that has set, handed to the engine of its output. -/
def State.thermSet (s : State) (o : Nat) : State :=
  if o < 64 then s.hscThermSet (if o < 8 ∧ o % 2 = 1 ∧ s.on (HSC_CFG_PAR (o - 1)) then o - 1 else o)
  else if o < 80 then s.motThermSet (s.motOf (o - 64))
  else if o < 84 then s.bankThermSet (o - 80)
  else if o < 100 then s.vlvThermSet (o - 84)
  else if o < 124 then s.luxThermSet (o - 100)
  else s

/-- A thermal latch that has released, handed to the engine of its output. `held`: the current of a restarted channel reaches
its limit before its turn-on edge finishes (R152). -/
def State.thermRelease (s : State) (o : Nat) (held : Bool) : State :=
  if o < 64 then s.hscThermRelease (if o < 8 ∧ o % 2 = 1 ∧ s.on (HSC_CFG_PAR (o - 1)) then o - 1 else o) held
  else if o < 80 then s.motThermRelease (s.motOf (o - 64))
  else if o < 84 then s.bankThermRelease (o - 80)
  else if o < 100 then s.vlvThermRelease (o - 84)
  else if o < 124 then s.luxThermRelease (o - 100)
  else s

/-- DTHYS and TJHYS in K. -/
def dthysK (v : Nat) : Nat := [5, 10, 15, 20].getD v 5
def tjhysK (v : Nat) : Nat := [10, 15, 20, 25].getD v 10

/-- The release threshold of a ΔT latch in K, and of a junction latch in °C, as configured. -/
def State.dtRelNow (s : State) (o : Nat) : Nat := s.fld (THM_TCFG_DTL o) - dthysK (s.fld THM_GCTL_DTHYS)
def State.tjRelNow (s : State) : Nat := 175 - tjhysK (s.fld THM_GCTL_TJHYS)

/-- DT_LATCH (R165): `t` is the channel temperature and `cs` its case reference. -/
def execDtLatch (o : Fin 124) (t cs : Word) (s : State) : Out State :=
  .next (inDom .act (fun s =>
    let s := (s.tell (rTHM_CASE (s.caseOf o)) cs).tell (rTHM_TCH o) t
    if s.dtLat o then s
    else if 64 * (s.fld (THM_TCFG_DTL o) : Int) < s.dtOf o then
      (s.raise (THM_TSTAT_DTLAT o)).raise (THM_EVT_DT o)
        |>.modThm (fun x => { x with dtRel := nPut x.dtRel o (s.dtRelNow o) })
        |>.thermSet o
        |>.record 5 1 o
    else s) s)

/-- DT_RELEASE (R165, R169). -/
def execDtRelease (o : Fin 124) (t cs : Word) (held : Bool) (s : State) : Out State :=
  .next (inDom .act (fun s =>
    let s := (s.tell (rTHM_CASE (s.caseOf o)) cs).tell (rTHM_TCH o) t
    if s.dtLat o && decide (s.dtOf o ≤ 64 * (nGet s.thm.dtRel o : Int)) then
      (s.setFld (THM_TSTAT_DTLAT o) 0).raise (THM_EVT_REL o)
        |>.modThm (fun x => { x with dtRel := nPut x.dtRel o 0 })
        |>.thermRelease o held
    else s) s)

/-- TJ_LATCH (R166). -/
def execTjLatch (o : Fin 124) (t : Word) (s : State) : Out State :=
  .next (if s.inp.dcMap then (if 175 * 64 < sextOf 18 t.toNat then s.dcTrip o else s) else inDom .act (fun s =>
    let s := s.tell (rTHM_TCH o) t
    if s.tjLat o then s
    else if 175 * 64 < sextOf 18 t.toNat then
      (s.raise (THM_TSTAT_TJLAT o)).raise (THM_EVT_TJ o)
        |>.modThm (fun x => { x with tjRel := nPut x.tjRel o s.tjRelNow })
        |>.thermSet o
        |>.record 5 2 o
    else s) s)

/-- TJ_RELEASE (R166, R169). -/
def execTjRelease (o : Fin 124) (t : Word) (held : Bool) (s : State) : Out State :=
  .next (inDom .act (fun s =>
    let s := s.tell (rTHM_TCH o) t
    if s.tjLat o && decide (sextOf 18 t.toNat ≤ 64 * (nGet s.thm.tjRel o : Int)) then
      (s.setFld (THM_TSTAT_TJLAT o) 0).raise (THM_EVT_REL o)
        |>.modThm (fun x => { x with tjRel := nPut x.tjRel o 0 })
        |>.thermRelease o held
    else s) s)

/-- A commit that relaxes a limit leaves a latch that holds under its old release threshold (R167). -/
def State.thmCommitted (s : State) : State :=
  s.modThm (fun x => { x with
    dtRel := x.dtRel.map (fun e => (e.1, Nat.min e.2 (s.dtRelNow e.1))),
    tjRel := x.tjRel.map (fun e => (e.1, Nat.min e.2 s.tjRelNow)) })

/-! ### Sensor failures (R163, R164) -/

/-- CHANNEL_SENSOR_FAIL. -/
def execChannelSensorFail (o : Fin 128) (s : State) : Out State :=
  .next (inDom .act (fun s => ((s.raise (THM_TSTAT_FAIL o)).raise THM_FLAG_CHSF).record 5 4 o) s)

/-- CASE_REFERENCE_FAIL: a second failed reference of one die is recorded at L2. -/
def execCaseReferenceFail (k : Fin 12) (s : State) : Out State :=
  .next (inDom .act (fun s =>
    let die := k.val / 4
    let others := (List.range 4).any (fun j => decide (4 * die + j ≠ k.val) && s.bit THM_CSTAT_FAIL (4 * die + j))
    ((s.setBitF THM_CSTAT_FAIL k true).raise THM_FLAG_CASEF).recordAt 5 5 k (if others then 2 else 1)) s)

/-- The readout of a logic die: 0 the controller die, 1 the interface die. -/
def dieReg (d : Fin 2) : Nat := if d = 0 then rTHM_DIE0 else rTHM_DIE1

/-- DIEHOT (R164): the die reads above 140 °C. -/
def execDiehot (d : Fin 2) (t : Word) (s : State) : Out State :=
  .next (inDom .act (fun s =>
    let s := s.tell (dieReg d) t
    if 140 * 64 < sextOf 18 t.toNat then (s.raise THM_FLAG_DIEHOT).record 5 6 d else s) s)

/-- DIEOVER (R164): the die reads above 160 °C. -/
def execDieover (d : Fin 2) (t : Word) (s : State) : Out State :=
  .next (inDom .act (fun s =>
    let s := s.tell (dieReg d) t
    if 160 * 64 < sextOf 18 t.toNat then s.record 5 7 d else s) s)

/-! ### Wire models (R170 to R176) -/

/-- The wire constants of XS: r20 in µΩ/m, Rth' in 0.1 K·m/W, τ in s (R171). -/
def wireOf (xs : Nat) : Nat × Nat × Nat :=
  [(52000, 155, 9), (37100, 135, 12), (24700, 118, 16), (18500, 106, 20), (12700, 90, 27), (7600, 74, 40), (4710, 61, 58),
   (3140, 52, 80), (1820, 41, 125)].getD xs (52000, 155, 9)

/-- An output that has a wire model. -/
def hasWire (o : Nat) : Bool := decide (o < 64 ∨ (80 ≤ o ∧ o < 84))

/-- The ambient of an output's model in 1/64 °C (R173). -/
def State.tamb (s : State) (o : Nat) : Int := if s.on (THM_WCFG_AMBSRC o) then s.topCase else sextOf 18 (s.fld THM_AMB_AMB)

/-- The square of one LSB of an output's sense samples in nA², as a numerator and a denominator (R134, R192, R221, R244). -/
def State.senseLsb2 (s : State) (o : Nat) : Nat × Nat :=
  if o < 64 then (s.hscLsb o ^ 2, 1) else if o < 84 then (250000 ^ 2, 1) else ((4 * 10 ^ 9) ^ 2, 2 ^ 36)

/-- The square of a sample: those of a half-bridge have a sign (R192). -/
def sampleSq (o : Nat) (w : Word) : Nat := if 64 ≤ o ∧ o < 80 then (sextOf 18 w.toNat).natAbs ^ 2 else w.toNat ^ 2

/-- What the on-times of a millisecond give, each a length in ticks with its samples: the sum of length times mean square, and the
square that an on-time without samples counts at (R296). -/
def onSum (o : Nat) (ons : List (Nat × List Word)) : Nat × Nat :=
  ons.foldl (fun a p =>
    match p.2 with
    | [] => (a.1 + p.1 * a.2, a.2)
    | w :: l => (a.1 + p.1 * (((w :: l).map (sampleSq o)).foldl (· + ·) 0 / (w :: l).length), sampleSq o ((w :: l).getLastD w))) (0, 0)

/-- The mean square current of an output over a millisecond in nA²: off-times count as 0 (R172, R296). -/
def State.meanSq (s : State) (o : Nat) (ons : List (Nat × List Word)) : Nat :=
  let l := s.senseLsb2 o
  (onSum o ons).1 * l.1 / (160000 * l.2)

/-- One step of R172 in units of 10^-12 K: `i2` is the mean square current in nA². DESIGN CHOICE: its quotients are rounded down. -/
def State.wireStep (s : State) (o i2 : Nat) : Nat :=
  let w := wireOf (s.fld (THM_WCFG_XS o))
  let bf : Int := 16 + (s.fld (THM_WCFG_BF o) : Int)
  let th : Int := s.theta o
  let x : Int := (s.tamb o - 20 * 64) * 10 ^ 12 / 64 + th
  let dst : Int := (i2 : Int) * w.1 * w.2.1 * bf * (10 ^ 17 + 393 * x) / (160 * 10 ^ 29)
  (th + (dst - th) * 16 / (1000 * (w.2.2 : Int) * bf)).toNat

/-- A model's rise set, with WARM and the reported wire temperature. -/
def State.setTheta (s : State) (o th : Nat) : State :=
  s.modThm (fun x => { x with theta := nPut x.theta o th })
    |>.setFld (THM_WSTAT_WARM o) (b2n (decide (10 * 10 ^ 12 < th)))
    |>.setReg (rTHM_WTEMP o) (wrapTo 18 (s.tamb o + (th : Int) * 64 / 10 ^ 12))

/-- TWMAX in 1/64 °C (R174). -/
def State.twMax (s : State) (o : Nat) : Int := (60 + 5 * (s.fld (THM_WCFG_TWMAX o) : Int)) * 64

/-- A model that has tripped, handed to the engine of its output (R174). -/
def State.wireTripped (s : State) (o : Nat) : State :=
  (s.setTrip o true).raise (THM_EVT_WTRIP o)
    |> fun s => (if o < 64 then s.hscWireTrip o else s.bankWireTrip (o - 80)).record 5 3 o

/-- WIRE_MODEL_UPDATE (R170, R172, R174, R176, R296): one output's millisecond, with its on-times and their samples; those of a pair are of
the summed current. -/
def execWireModelUpdate (o : Fin 84) (ons : List (Nat × List Word)) (s : State) : Out State :=
  .next (inDom .act (fun s =>
    if !hasWire o then s
    else if o.val < 8 ∧ o.val % 2 = 1 ∧ s.on (HSC_CFG_PAR (o.val - 1)) then s.setTheta o 0
    else if !s.on (THM_WCFG_WEN o) then s.setTheta o 0
    else
      let th := s.wireStep o (s.meanSq o ons)
      let s := s.setTheta o th
      if s.twMax o ≤ s.tamb o + (th : Int) * 64 / 10 ^ 12 ∧ !s.wireTrip o then s.wireTripped o else s) s)

/-! ### Dissipation (R179) -/

/-- RDS(on) at 25 °C in mΩ by output (R128, R184, R219). -/
def rdsOn (o : Nat) : Nat :=
  if o < 8 then 6 else if o < 32 then 20 else if o < 64 then 70 else if o < 80 then 40 else if o < 84 then 20
  else if o < 100 then 100 else 0

/-- One stage's loss in 10^-21 / 64 mW: the mean square current in nA² at the channel temperature. -/
def State.stageLoss (s : State) (o i2 : Nat) : Int :=
  (i2 : Int) * rdsOn o * (64000 + 6 * (s.chTemp o - 1600))

/-- PEST_UPDATE (R179, R296): `sides` lists the stages that were on in the millisecond, with their on-times and samples. -/
def execPestUpdate (sides : List (Fin 100 × List (Nat × List Word))) (s : State) : Out State :=
  .next (inDom .act (fun s =>
    let st : Int := sides.foldl (fun a p => a + s.stageLoss p.1 (s.meanSq p.1 p.2)) 0
    let led : Nat := (List.range 24).foldl (fun a n => a + s.fld (LUX_LVSNK_V n) * s.fld (LUX_LIMEAS_I n)) 0
    let mw := s.fld THM_PBASE_PBASE + ((st + (led : Int) * 16000 * 10 ^ 12) / (64 * 10 ^ 21)).toNat
    let s := s.setFld THM_PEST_PEST (satTo 0o777777 mw)
    s.raiseIf (decide (s.fld THM_PLIM_PLIM < s.fld THM_PEST_PEST)) THM_FLAG_PBUD) s)

/-! ### Agent answers (R176, R183) -/

def State.anyWarm (s : State) : Bool := s.thm.theta.any (fun e => decide (10 * 10 ^ 12 < e.2))

def State.thmBedded (s : State) : Option Nat :=
  if (List.range 128).any (fun o => s.dtLat o || s.tjLat o) then some 1 else if s.anyWarm then some 2 else none

def State.thmCommitRefuse (s : State) : Option Nat :=
  if (List.range 84).any (fun o => hasWire o && s.on (THM_WCFG_WEN o) && decide (s.fldNext (THM_WCFG_WEN o) = 0) &&
      (s.wireTrip o || decide (10 * 10 ^ 12 < s.theta o))) then some 3 else none

/-- A forced BEDDED entry loses every rise and keeps every trip. -/
def State.thmForced (s : State) : State := s.modThm (fun x => { x with theta := [], dtRel := [], tjRel := [] })

end Sys2Proof.Machine
end

