-- ==== Sys2Proof/Machine/Seq.lean ====
section
/-! DEFINITION. The sequencer (R104 to R117): frames, the waveform programs and ACT's zone time. -/

namespace Sys2Proof.Machine

/-! ### Values of D (R106, R110, R112) -/

/-- A value of D that a thread applies to its output. -/
def State.applyOutput (s : State) (n d : Nat) : State :=
  match s.tgtOf n with
  | (2, t) => s.hscApply (s.hscOf t) d false
  | (3, t) => s.motApply t d
  | (4, t) => if t < 16 then s.vlvApply t d else s
  | (5, t) => s.luxThread t d
  | _ => s

/-- The engine parameter `p` of an output (R213, R243, R279); the high-side engine names none. -/
def State.setParam (s : State) (n p v : Nat) : State :=
  match s.tgtOf n with
  | (3, t) => s.motSetp t p v
  | (4, t) => if t < 16 then s.vlvSetp t p v else s
  | (5, t) => s.luxSetp t p v
  | _ => s

/-- The changes a thread made since its last wait, applied together (R110). -/
def State.applyThread (s : State) (n : Nat) : State :=
  let t := s.thr n
  if t.dirty then (s.setThr n { t with dirty := false }).applyOutput n t.d else s

/-- END or HOLD: the open descriptor of the thread completes as its engine's chapter states (R111, R152, R212, R242,
R277). -/
def State.threadDone (s : State) (n : Nat) : State :=
  match s.tgtOf n with
  | (2, t) =>
    if s.oval n = 0 ∧ (s.thr n).d = 0 then s.hscFinish t stDone 0
    else (s.modHch t (fun c => { c with want := true })).hscApplied t
  | (3, t) => s.motThreadEnd t (s.thr n).d
  | (4, t) => if t < 16 then s.vlvThreadEnd t (s.thr n).d else s
  | (5, t) => match s.luxOpen t with
    | some d => s.finishDone d 0
    | none => s
  | _ => s

/-- STATUS: the open descriptor completes now. -/
def State.threadStatus (s : State) (n st : Nat) : State :=
  let od := match s.tgtOf n with
    | (2, t) => s.hscOpen t
    | (3, t) => s.motOpen t
    | (4, t) => s.vlvOpen t
    | (5, t) => s.luxOpen t
    | _ => none
  match od with
  | some d => s.finish d st 0
  | none => s

/-! ### Instructions (R111) -/

/-- Opcodes with an immediate word, and opcodes that end the run of R110. -/
def twoWords (op : Nat) : Bool := decide (op = 2 ∨ op = 4 ∨ op = 15 ∨ op = 17)
def isWait (op : Nat) : Bool := decide (op = 0 ∨ op = 1 ∨ (4 ≤ op ∧ op ≤ 7))

/-- An operand that R111 reserves. -/
def badOperand (op a : Nat) : Bool :=
  match op with
  | 3 => decide (2 < a)
  | 4 => decide (a = 0)
  | 5 => decide (a = 0)
  | 6 => decide (a % 2048 = 0)
  | 7 => decide (4 < a % 16)
  | 8 => false
  | 9 => false
  | 10 => false
  | 11 => false
  | 12 => false
  | 15 => decide (64 ≤ a)
  | 16 => decide (64 ≤ a)
  | 18 => false
  | _ => decide (a ≠ 0)

/-- A word of sequencer memory as a thread fetches it: none with an uncorrectable error (R635). -/
def State.seqFetch (s : State) (a : Nat) : Option Nat :=
  let k := seqKey (a % 8192)
  if s.eccOf k = 2 then none else some (s.rd k).toNat

/-- The instruction of a running thread at its PC: with the command's opcode it is counted, checked and carried out by `f`,
which takes operand A, the immediate and the state with PC at the next instruction. DESIGN CHOICE: of several program faults the
first is recorded in the order ECC of the first word, UNDEFINED, RUNAWAY, RESERVED, ECC of the immediate, DEPTH, ADDRESS. -/
def State.seqInstr (s : State) (n : Nat) (is : Nat → Bool) (f : Nat → Nat → State → State) : State :=
  if s.thrSt n ≠ 1 then s
  else
    let pc := s.thrPc n
    match s.seqFetch pc with
    | none => s.progFault n 6
    | some w =>
      let op := w / 8192
      let a := w % 8192
      if !is op then s
      else
        let s := s.seqScrub pc
        let t := s.thr n
        if !isWait op && decide (8 ≤ t.icnt) then s.progFault n 3
        else if badOperand op a then s.progFault n 2
        else if twoWords op && (s.seqFetch (pc + 1)).isNone then s.progFault n 6
        else
          let imm := if twoWords op then (s.seqFetch (pc + 1)).getD 0 else 0
          f a imm ((s.when (twoWords op) (fun s => s.seqScrub (pc + 1))).setThr n { t with icnt := t.icnt + 1 }
            |>.setThrPc n ((pc + (if twoWords op then 2 else 1)) % 8192))

/-- A jump (R111): an address outside the thread's slot and the library is a program fault. -/
def State.seqJump (s : State) (n a : Nat) : State := if inSlot n a then s.setThrPc n a else s.progFault n 5

/-- A wait begins: the changes made since the last wait are applied, and the thread waits in a state. -/
def State.seqWait (s : State) (n st : Nat) (f : Thread → Thread) : State :=
  (s.applyThread n).modThr n f |>.setThrSt n st

/-- The thread stops at END or HOLD. -/
def State.seqStop (s : State) (n : Nat) : State := (s.applyThread n).threadDone n |>.setThrSt n 0

def execSeqEnd (n : Fin 128) (s : State) : Out State :=
  .next (inDom .act (fun s => s.seqInstr n (· == 0) (fun _ _ s => (s.modThr n (fun t => { t with d := 0, dirty := true })).seqStop n)) s)
def execSeqHold (n : Fin 128) (s : State) : Out State :=
  .next (inDom .act (fun s => s.seqInstr n (· == 1) (fun _ _ s => s.seqStop n)) s)
def execSeqSetd (n : Fin 128) (s : State) : Out State :=
  .next (inDom .act (fun s => s.seqInstr n (· == 2) (fun _ v s => s.modThr n (fun t => { t with d := v, dirty := true }))) s)
def execSeqSetdq (n : Fin 128) (s : State) : Out State :=
  .next (inDom .act (fun s => s.seqInstr n (· == 3) (fun a _ s => s.modThr n (fun t =>
    { t with d := (if a = 0 then t.q0 else if a = 1 then t.q1 else t.q2), dirty := true }))) s)
def execSeqRamp (n : Fin 128) (s : State) : Out State :=
  .next (inDom .act (fun s => s.seqInstr n (· == 4) (fun a v s => s.seqWait n 3 (fun t => { t with rampFrom := t.d, rampTo := v, rampN := a, rampLeft := a, waitN := a }))) s)
def execSeqWaitf (n : Fin 128) (s : State) : Out State :=
  .next (inDom .act (fun s => s.seqInstr n (· == 5) (fun a _ s => s.seqWait n 3 (fun t => { t with rampLeft := 0, waitN := a }))) s)
def execSeqWaitt (n : Fin 128) (s : State) : Out State :=
  .next (inDom .act (fun s => s.seqInstr n (· == 6) (fun a _ s =>
    s.seqWait n 2 (fun t => { t with waitN := a % 2048 * 10 ^ (a / 2048), due := false }))) s)
def execSeqWaite (n : Fin 128) (s : State) : Out State :=
  .next (inDom .act (fun s => s.seqInstr n (· == 7) (fun a _ s =>
    (s.seqWait n 4 (fun t => { t with waitN := a / 16, evKind := a % 16, ev := false, due := false })).senseEvent n)) s)
def execSeqSetc (n : Fin 128) (s : State) : Out State :=
  .next (inDom .act (fun s => s.seqInstr n (· == 8) (fun a _ s => s.modThr n (fun t =>
    if a / 4096 = 1 then { t with c1 := a % 4096 } else { t with c0 := a % 4096 }))) s)
def execSeqDjnz0 (n : Fin 128) (s : State) : Out State :=
  .next (inDom .act (fun s => s.seqInstr n (· == 9) (fun a _ s =>
    let c := ((s.thr n).c0 + 4095) % 4096
    let s := s.modThr n (fun t => { t with c0 := c })
    if c = 0 then s else s.seqJump n a)) s)
def execSeqDjnz1 (n : Fin 128) (s : State) : Out State :=
  .next (inDom .act (fun s => s.seqInstr n (· == 10) (fun a _ s =>
    let c := ((s.thr n).c1 + 4095) % 4096
    let s := s.modThr n (fun t => { t with c1 := c })
    if c = 0 then s else s.seqJump n a)) s)
def execSeqJmp (n : Fin 128) (s : State) : Out State :=
  .next (inDom .act (fun s => s.seqInstr n (· == 11) (fun a _ s => s.seqJump n a)) s)
def execSeqCall (n : Fin 128) (s : State) : Out State :=
  .next (inDom .act (fun s => s.seqInstr n (· == 12) (fun a _ s =>
    let pc := s.thrPc n
    if (s.thr n).ret.isSome then s.progFault n 4
    else if inSlot n a then (s.modThr n (fun t => { t with ret := some pc })).setThrPc n a
    else s.progFault n 5)) s)
def execSeqRet (n : Fin 128) (s : State) : Out State :=
  .next (inDom .act (fun s => s.seqInstr n (· == 13) (fun _ _ s =>
    match (s.thr n).ret with
    | some a => (s.modThr n (fun t => { t with ret := none })).setThrPc n a
    | none => s.progFault n 4)) s)
def execSeqSke (n : Fin 128) (s : State) : Out State :=
  .next (inDom .act (fun s => s.seqInstr n (· == 14) (fun _ _ s =>
    let pc := s.thrPc n
    if (s.thr n).e then
      match s.seqFetch pc with
      | some w => (s.seqScrub pc).setThrPc n ((pc + (if twoWords (w / 8192) then 2 else 1)) % 8192)
      | none => s.progFault n 6
    else s)) s)
def execSeqSetp (n : Fin 128) (s : State) : Out State :=
  .next (inDom .act (fun s => s.seqInstr n (· == 15) (fun a v s => s.setParam n a v)) s)
def execSeqStatus (n : Fin 128) (s : State) : Out State :=
  .next (inDom .act (fun s => s.seqInstr n (· == 16) (fun a _ s => s.threadStatus n a)) s)
def execSeqSett (n : Fin 128) (s : State) : Out State :=
  .next (inDom .act (fun s => s.seqInstr n (· == 17) (fun _ v s => s.modThr n (fun t => { t with thr := v }))) s)
def execSeqPhase (n : Fin 128) (s : State) : Out State :=
  .next (inDom .act (fun s => s.seqInstr n (· == 18) (fun a _ s =>
    if s.grpRuns (s.grp n) then s.modThr n (fun t => { t with phaseNew := some a }) else s.setFld (SEQ_OCFG_PHASE n) a)) s)

/-- SEQ_UNDEFINED: opcodes 0o23 to 0o37 (R111, R113). -/
def execSeqUndefined (n : Fin 128) (s : State) : Out State :=
  .next (inDom .act (fun s =>
    if s.thrSt n ≠ 1 then s
    else match s.seqFetch (s.thrPc n) with
      | none => s.progFault n 6
      | some w => if 18 < w / 8192 then s.progFault n 1 else s) s)

/-! ### Waits and frames (R104, R105, R110, R113) -/

/-- A wait that has ended: the pipe resumes the thread. -/
def State.seqRun (s : State) (n : Nat) (e : Option Bool) : State :=
  (s.modThr n (fun t => { t with icnt := 0, due := false, ev := false, e := e.getD t.e })).setThrSt n 1

/-- THREAD_WAIT_END (R110, R111): a time wait whose time has passed, a frame wait whose boundaries have passed, or an event wait
whose event has come or whose timeout has run out; in a frozen group it is kept for the resume (R113). -/
def execThreadWaitEnd (n : Fin 128) (s : State) : Out State :=
  .next (inDom .act (fun s =>
    let t := s.thr n
    match s.thrSt n with
    | 2 => s.seqRun n none
    | 3 => if t.waitN = 0 then s.seqRun n none else s
    | 4 => if t.ev then s.seqRun n (some true) else if t.waitN ≠ 0 then s.seqRun n (some false) else s
    | 6 => if t.susp = 2 ∨ (t.susp = 4 ∧ t.waitN ≠ 0) then s.setThr n { t with due := true } else s
    | _ => s) s)

/-- One step of a RAMP (R111). -/
def State.seqRampStep (s : State) (n : Nat) : State :=
  let t := s.thr n
  let v := rampAt t.rampFrom t.rampTo t.rampN (t.rampN + 1 - t.rampLeft)
  (s.setThr n { t with d := v, rampLeft := t.rampLeft - 1, waitN := t.waitN - 1 }).applyOutput n v

/-- A SEQ_OCFG value takes effect (R105). -/
def State.takeOcfg (s : State) (n v : Nat) : State :=
  { s.setReg (rSEQ_OCFG n) (putBits v 13 13 (s.fld (SEQ_OCFG_SAFE n))) with ocfg := smErase s.ocfg n }

/-- A frame boundary at one output of the group; in a frozen group nothing but the PWM periods of its channels begins there
(R113). -/
def State.frameOut (s : State) (g n : Nat) : State :=
  if s.grpFrozen g then
    s.when (decide (n < 64 ∧ s.fld (SEQ_GSTAT_FCNT g) % pwmFrames n (s.frameLen g) = 0)) (fun s => s.hscPeriod n)
  else
  let s := match smFind s.ocfg n with
    | some v => s.takeOcfg n v
    | none => s
  let s := match (s.thr n).phaseNew with
    | some p => (s.modThr n (fun t => { t with phaseNew := none })).setFld (SEQ_OCFG_PHASE n) p
    | none => s
  let s := if n < 64 then
      (if s.fld (SEQ_GSTAT_FCNT g) % pwmFrames n (s.frameLen g) = 0 then s.hscPeriod n else s)
    else if 100 ≤ n ∧ n < 124 then s.luxStart (n - 100) false
    else s
  let t := s.thr n
  let s := if s.thrSt n = 3 ∧ t.waitN ≠ 0 then
      (if t.rampLeft ≠ 0 then s.seqRampStep n else s.setThr n { t with waitN := t.waitN - 1 })
    else s
  s.modThr n (fun t => { t with dEdge := s.oval n })

/-- The outputs whose boundary a group's frame boundary is: its own, and those that join it there. -/
def State.grpOuts (s : State) (g : Nat) : List Nat :=
  (List.range 128).filter (fun n => match smFind s.ocfg n with
    | some v => decide (bitsOf v 17 14 = g)
    | none => decide (s.grp n = g))

/-- FRAME_BOUNDARY (R104, R105, R107). -/
def execFrameBoundary (g : Fin 16) (s : State) : Out State :=
  .next (inDom .act (fun s =>
    if !s.grpRuns g then s
    else
      let s := s.setFld (SEQ_GSTAT_FCNT g) (s.fld (SEQ_GSTAT_FCNT g) + 1)
      s.each (s.grpOuts g) (fun n s => s.frameOut g n)) s)

/-- PWM_PERIOD_START (R106, R130, R188, R221): a free-running period of a channel, or a carrier period of a motor or valve
driver. -/
def execPwmPeriodStart (o : Fin 128) (s : State) : Out State :=
  .next (inDom .act (fun s =>
    match s.tgtOf o with
    | (2, t) => if s.grpRuns (s.grp o) || s.hscOdd o then s else s.hscPeriod t
    | (3, t) => (s.motPeriod t).when (s.meanByCarrier o) (fun s => s.meanEnd o)
    | (4, t) => if t < 16 then s.vlvPeriod t else s
    | _ => s) s)

/-- The preparation of a provisional starts (R118); a channel in MIRROR, latched or fenced takes none. -/
def State.provStart (s : State) (d : Desc) : State :=
  let s := s.setDesc { d with phase := .prov }
  match d.eng with
  | 2 =>
    if s.hst d.target = 8 then s.finish d stFenced 0
    else if s.hst d.target = 9 then s.finish d stDenied 1
    else if s.hst d.target = 7 then s.finish d 0o24 0
    else s.hscPrepare d
  | 3 => s.motPrepare d
  | 4 => s.vlvPrepare d
  | 5 => s.luxPrepare d
  | _ =>
    match s.lfRefuse d with
    | some st => s.finish d st 0
    | none => s.traceB 14 6 d.target (2 ^ 14) s.faultTime.1

/-- A suspended thread continues (R113). -/
def State.seqContinue (s : State) (n : Nat) : State :=
  let t := s.thr n
  if s.thrSt n ≠ 6 then s
  else
    let s := s.setThrSt n t.susp
    if t.susp = 2 ∧ t.due then s.seqRun n none
    else if t.susp = 4 ∧ t.ev then s.seqRun n (some true)
    else if t.susp = 4 ∧ t.due then s.seqRun n (some false)
    else s

/-- A group unfrozen (R113), with the fences of its SEQPROG records (R636): its threads continue, TIMED descriptors whose
deadline has passed are due, and provisionals whose preparation waited start it. -/
def State.seqResume (s : State) (g : Nat) : State :=
  let outs := (List.range 128).filter (fun n => decide (s.grp n = g))
  let mine (d : Desc) : Bool := (outOf d.eng d.target).any outs.contains
  if s.grpFrozen g then
    (s.setFld (SEQ_GCTL_FROZEN g) 0).each outs (fun n s => s.seqContinue n)
      |>.setDescs (s.descs.map (fun d => if mine d && decide (d.phase = .timed) && s.passed d then { d with due := true } else d))
      |>.each (s.descs.filter (fun d => mine d && decide (d.phase = .provWait) && !d.isTimed)) (fun d s => s.provStart d)
      |>.modFlt (fun x => { x with fenced := smKeep (fun k => !(decide (k / 256 = 6) && outs.contains (k % 256))) x.fenced })
      |>.refreshFlt 6
  else s

/-! ### Sequencer memory (R109, R635) -/

/-- A command of a core on a register of a block: carried out in a running domain, otherwise the core's DOMOFF (R18). -/
def State.ioGate (s : State) (c : CoreId) (a : Nat) (f : State → State) : State :=
  if s.domOn (addrDom a) then f s else s.ioFlag c.num false a

/-- SEQ_RESUME (R113). -/
def execSeqResume (c : CoreId) (g : Fin 16) (s : State) : Out State :=
  .next (s.ioGate c (rSEQ_GCTL g) (fun s => s.seqResume g))

/-- SEQ_MADR rises by 1 after each access. -/
def State.madrUp (s : State) : State := s.setFld SEQ_MADR_ADDR (s.fld SEQ_MADR_ADDR + 1)

/-- A store to SEQ_MDATA (R109). -/
def State.mdataStore (s : State) (v : Word) : State :=
  let a := s.fld SEQ_MADR_ADDR
  let k := seqKey a
  (if a < 0o14000 then
    if s.thrStopped (a / 0o60) then s.wr k v else s.raise SEQ_FLAG_MBUSY
  else if s.on SEQ_LOCK_LIB then s.raiseIf (decide (s.rd k ≠ v)) SEQ_FLAG_WRREF
  else s.wr k v).madrUp

/-- A read of SEQ_MDATA (R109, R635): SEQ_MDATA holds the word that the read returns. -/
def State.mdataLoad (s : State) : State :=
  let a := s.fld SEQ_MADR_ADDR
  let k := seqKey a
  (s.setReg rSEQ_MDATA (s.rd k).toNat).raiseIf (decide (s.eccOf k = 2)) SEQ_FLAG_SECC
    |>.seqScrub a
    |>.madrUp

/-- SEQ_MDATA_WRITE. -/
def execSeqMdataWrite (c : CoreId) (v : Word) (s : State) : Out State :=
  .next (s.ioGate c rSEQ_MDATA (fun s => s.mdataStore v))

/-- SEQ_MDATA_READ. -/
def execSeqMdataRead (c : CoreId) (s : State) : Out State :=
  .next (s.ioGate c rSEQ_MDATA State.mdataLoad)

/-! ### Zone time (R114, R115) -/

def State.modZone (s : State) (f : ZoneT → ZoneT) : State := { s with zone := f s.zone }
def State.setZt (s : State) (v : Nat) : State := { s with zt := v }

/-- STEPTHR in ns. -/
def State.stepThr (s : State) : Nat := [1000, 10000, 100000, 1000000].getD (s.fld SEQ_ZCTL_STEPTHR) 1000

/-- A waiting TIMED descriptor after a step of zone time: judged again against the new time (R117). -/
def State.stepDesc (s : State) (d : Desc) : Desc :=
  if d.phase = .timed ∧ d.isTimed then { d with cond := d.cond % 2 + 2 + d.cond / 4 * 4, due := s.passed d } else d

/-- ZT_SAMPLE: `t` is the switch's zone time at the sample instant. The rate correction that the samples give is a free value
(R114). -/
def execZtSample (t : BitVec 64) (s : State) : Out State :=
  .next (inDom .act (fun s =>
    if !s.domOn .zsw then s
    else
      let off : Int := sextOf 64 ((t.toNat + 2 ^ 64 - s.ztNs) % 2 ^ 64)
      let ofs : Int := max (-131072) (min 131071 off)
      let s := ((s.setReg rSEQ_ZOFS (wrapTo 18 ofs)).setFld SEQ_ZSTAT_HOLD 0).setFld SEQ_ZSTAT_AGE 0
        |>.modZone (fun z => { z with age := 0, rate := sextOf 18 s.draw.toNat })
        |>.drew
      if s.stepThr < off.natAbs then
        (s.setZt (t.toNat * 64 + s.zt % 64)).raise SEQ_FLAG_STEP
          |>.count SEQ_ZSTAT_STEPCNT
          |>.setFld SEQ_ZSTAT_LOCK 0
          |>.modZone (fun z => { z with inN := 0, outN := 0, slew := 0 })
          |> fun s => (s.setDescs (s.descs.map s.stepDesc)).record 6 4 0
      else
        let i := if off.natAbs ≤ 20 then satTo 16 (s.zone.inN + 1) else 0
        let o := if 40 < off.natAbs then satTo 4 (s.zone.outN + 1) else 0
        s.modZone (fun z => { z with inN := i, outN := o, slew := off })
          |>.when (decide (i = 16)) (fun s => s.setFld SEQ_ZSTAT_LOCK 1)
          |>.when (decide (o = 4)) (fun s => s.setFld SEQ_ZSTAT_LOCK 0)) s)

/-- ZT_HOLDOVER (R114). -/
def execZtHoldover (s : State) : Out State :=
  .next (inDom .act (fun s =>
    if s.on SEQ_ZSTAT_HOLD then s
    else
      (s.setFld SEQ_ZSTAT_HOLD 1).setFld SEQ_ZSTAT_LOCK 0
        |>.raise SEQ_FLAG_HOLD
        |>.modZone (fun z => { z with inN := 0, outN := 0, slew := 0 })
        |>.when s.timedWaits (fun s => s.record 6 5 0)) s)

/-- A frozen group whose configuration the commit would change (R113). -/
def State.seqCommitFenced (s : State) : Bool :=
  (List.range 16).any (fun g => s.grpFrozen g &&
    (s.moves (SEQ_GCFG_PER g) || s.moves (SEQ_GCFG_PRE g) || s.moves (SEQ_GCTL_ZSYNC g) || s.moves (SEQ_GCTL_GOFS g))) ||
  (List.range 128).any (fun n => (s.moves (SEQ_OCFG_GRP n) || s.moves (SEQ_OCFG_PHASE n)) &&
    (s.grpFrozen (s.grp n) || s.grpFrozen (s.fldNext (SEQ_OCFG_GRP n))))

end Sys2Proof.Machine
end

