-- ==== Sys2Proof/Machine/Agents.lean ====
section
/-! DEFINITION. The agents' answers to ENTRY_REQ (R448 to R450 and the power-state answers of every chapter), and what a
forced entry does to each block (R452). -/

namespace Sys2Proof.Machine

/-- An agent's answer. -/
inductive Answer where
  | ack | delay | refuse (cause : Nat)
  deriving DecidableEq, Repr

/-- An answer that refuses with a cause, if any. -/
def refuseIf (o : Option Nat) : Answer :=
  match o with
  | some k => .refuse k
  | none => .ack

/-- A core that is halted with its store buffer drained; one in reset or fenced does not run either. -/
def State.coreStill (s : State) (c : Nat) : Bool :=
  decide ((s.core c).run ≠ .running ∧ (s.core c).run ≠ .lbist) && (s.core c).buf.isEmpty

/-- The spill area of a core takes its resident windows less one (R586). -/
def State.spillRoom (s : State) (c : Nat) : Bool :=
  let x := s.core c
  decide (x.run ≠ .halted ∨ x.spb.toNat + 20 * (x.res - 1) ≤ x.spl.toNat)

/-- ZSW is to be switched off: in BEDDED, and in REST unless a port is kept (R445). -/
def State.zswGoes (s : State) (bedded : Bool) : Bool := bedded || decide (s.fld ETH_GCTL_KEEP = 7)

/-- The ICU agent. -/
def State.icuAnswer (s : State) (bedded : Bool) : Answer :=
  if !(s.coreStill 0 && s.coreStill 1 && s.coreStill 2) then .delay
  else if !bedded && !(s.spillRoom 0 && s.spillRoom 1 && s.spillRoom 2) then .refuse 3
  else .ack

/-- Transaction owners with an open transaction (R90). -/
def State.txOpen (s : State) : Bool := txOwners.any (fun o => s.on (RNG_TXSTAT_OPEN o)) || !s.rng.commits.isEmpty

/-- Some armed source can end the requested state. -/
def State.anyWake (s : State) (bedded : Bool) : Bool :=
  (List.range 14).any (fun i => (List.range 48).any (fun d => s.wakeOk bedded (i + 1) d))

/-- The FLT agent, with the image agent and the brace agent (R493, R537, R554). -/
def State.fltAnswer (s : State) : Answer :=
  if s.img.sess.isSome then .refuse 0x11
  else if s.img.mig.isSome then .refuse 0x12
  else if s.brSt = 2 ∨ s.brSt = 3 then .refuse 0x21
  else if s.on BRC_STAT_ACT then .refuse 0x22
  else if s.flt.fifo.any (fun r => decide (r.w0.toNat / 65536 = 0)) || !s.flt.spool.isEmpty then .delay
  else .ack

/-- A block's answer, from the rules of its chapter; a block of ACT cannot answer while ACT has no clock (R450). -/
def State.agentAnswer (s : State) (b : Nat) (bedded : Bool) : Answer :=
  if !s.domOn .act && decide (4 ≤ b ∧ b ≤ 10 ∨ b = 14) then .refuse 0xF1 else
  match b with
  | 0 => s.icuAnswer bedded
  | 1 => if s.anyWake bedded then .ack else .refuse 1
  | 2 => if s.memc.ss.isSome || decide (s.fld MEM_MSTAT_RESULT = 1) then .delay else .ack
  | 3 => if s.txOpen then .refuse 1 else .ack
  | 4 => refuseIf (s.actorEntry bedded 4)
  | 5 => if bedded then refuseIf s.thmBedded else .ack
  | 6 => refuseIf (s.actorEntry bedded 6)
  | 7 => refuseIf (s.actorEntry bedded 7)
  | 8 => refuseIf (s.actorEntry bedded 8)
  | 9 => refuseIf (s.actorEntry bedded 9)
  | 10 => if bedded then refuseIf s.inpBedded else .ack
  | 11 =>
    if !s.domOn .net then .refuse 0xF1
    else if s.netDelays then .delay
    else refuseIf (s.netEntry (s.zswGoes bedded))
  | 12 =>
    if !s.domOn .zsw then (if s.on PCR_DOMCTL_ZSWON then .refuse 0xF1 else .ack)
    else if !s.zswGoes bedded then .ack
    else if s.zswDelays then .delay
    else refuseIf s.zswEntry
  | 13 =>
    if !s.domOn .zsw then (if s.on PCR_DOMCTL_ZSWON then .refuse 0xF1 else .ack)
    else refuseIf (s.ethEntry (!bedded))
  | 14 => if s.accDelays then .delay else refuseIf (s.accEntry bedded)
  | _ => s.fltAnswer

/-- The cause with which an agent that still delays refuses at the bound (R449, R450). -/
def State.boundCause (s : State) (b : Nat) : Nat :=
  if b = 0 then (if s.coreStill 0 && s.coreStill 1 then 2 else 1) else 0xF0

/-- A state of the same negotiation in which an agent that has acknowledged would acknowledge no longer: the action that leads to it
is refused (R449). -/
def State.breaksAck (s t : State) : Bool :=
  let bedded := decide (s.pw.entry = some .bedded)
  decide (s.fld PCR_ENTRY_PHASE = 1 ∧ t.fld PCR_ENTRY_PHASE = 1) &&
    (List.range 16).any (fun b => bitAt s.pw.acks b && decide (s.agentAnswer b bedded = .ack ∧ t.agentAnswer b bedded ≠ .ack))

/-! ### Forced entries (R452) -/

/-- A forced entry rolls back every open transaction, LAST reading "forced"; waiting COMMITs complete DOMAIN_LOST (R90). -/
def State.rngForced (s : State) : State :=
  s.each txOwners (fun o s =>
    match smFind s.rng.commits o with
    | some w => (match s.descId w.id with
      | some d => s.finish d stDomainLost 0
      | none => s).txRelease o 5
    | none => s.when (s.on (RNG_TXSTAT_OPEN o)) (fun s => s.txRelease o 5))

/-- A LOAD ends at the next word (R57): how many words it has copied by then is free. -/
def State.ssForced (s : State) : State :=
  match s.memc.ss with
  | some r => if r.load then (s.ssCopy r (s.draw.toNat % (r.len + 1))).drew else s
  | none => s

/-- A march run and a settings store command end (R45, R57); in REST the bank keeps nothing that is known. -/
def State.memForced (s : State) (bedded : Bool) : State :=
  s.when (decide (s.fld MEM_MSTAT_RESULT = 1)) (fun s =>
      let b := s.fld MEM_MSTAT_BANK
      s.marchAbort.each (if bedded then [] else List.range 0o20000) (fun i s => (s.wr (ramBase + b * 0o20000 + i) s.draw).drew))
    |>.ssForced
    |>.when s.memc.ss.isSome (fun s =>
      ((s.setFld MEM_SSSTAT_BUSY 0).setFld MEM_SSSTAT_RESULT 4).raise MEM_FLAG_SSDONE
        |>.modMem (fun m => { m with ss := none }))
    |>.ssShow

/-- The FIFO is discarded (R493), and the image agent's session ends without a CLOSE (R537). -/
def State.fltForced (s : State) : State :=
  ((s.modFlt (fun x => { x with fifo := [], spool := [] })).setFld FLT_SPSTAT_FILL 0).imgDrop

/-- Domains in which a forced entry aborts work: CORE-A 0, CORE-S 1, FABRIC 2, ZSW 3, NET 4, ACT 5 (R460). -/
def State.forcedAborts (s : State) (bedded : Bool) : List Nat :=
  let has (p : Nat → Bool) : Bool := s.descs.any (fun d : Desc => p d.eng)
  (if s.txOpen || s.memc.ss.isSome || decide (s.fld MEM_MSTAT_RESULT = 1) || s.img.sess.isSome || s.img.mig.isSome then [2] else [])
    ++ (if s.zswGoes bedded && (has (fun e => decide (e = 8)) || !s.zsw.frames.isEmpty) then [3] else [])
    ++ (if has (fun e => decide (e = 7)) then [4] else [])
    ++ (if has (fun e => decide (e = 6 ∨ (bedded ∧ 2 ≤ e ∧ e ≤ 5))) then [5] else [])

/-- Every agent's part in a forced entry. -/
def State.forceAll (s : State) (bedded : Bool) : State :=
  (s.brYield 2).rngForced
    |>.memForced bedded
    |>.when bedded (fun s => s.each (List.range 4) (fun g s => if s.mst (24 + g) = 0 then s else s.setFld (MOT_GSTAT_POSV g) 0))
    |>.when bedded (fun s => s.hscForced.thmForced.motForced.vlvForced.luxForced.inpForced)
    |>.when bedded (fun s => s.finishAll (fun d : Desc => decide (2 ≤ d.eng ∧ d.eng ≤ 6)) stDomainLost)
    |>.when (s.domOn .net) State.netForced
    |>.when (s.domOn .zsw) (fun s => s.ethForced.when (s.zswGoes bedded) State.zswForced)
    |>.accForced
    |>.fltForced

end Sys2Proof.Machine
end

