-- ==== Sys2Proof/Machine/Mem.lean ====
section
/-! DEFINITION. The memories' commands: ECC write-back, the test engines, the code NVM, the settings store and OTP
programming (R38, R41 to R59), and the MEM agent's part in transactions (R42, R43). -/

namespace Sys2Proof.Machine

/-! ### ECC -/

/-- ECC_WRITEBACK (R38): the word at an address of a memory unit (R634), corrected, is written back. -/
def unitKey (unit a : Nat) : Nat :=
  if unit < 8 then ramBase + unit * 0o20000 + a % 0o20000
  else if unit < 11 then tcmKey (unit - 8) (a % 0o100000)
  else if unit = 11 then 0o700000 + a % 0o20000
  else if unit = 12 then 2 ^ 23 + a % 2 ^ 21
  else 2 ^ 24 + a % 2 ^ 17
def execEccWriteback (unit : Fin 14) (a : BitVec 21) (s : State) : Out State :=
  let k := unitKey unit a.toNat
  .next (if s.eccOf k = 1 then s.wr k (s.rd k) else s)

/-! ### The march engine (R41 to R46) -/

def marchStart (bank : Nat) (preserve : Bool) (s : State) : State :=
  let s := (s.setFld MEM_MCTL_BANK bank).setFld MEM_MCTL_PRESERVE (b2n preserve)
  if s.fld MEM_MSTAT_RESULT = 1 then s
  else if s.bankSt bank ≠ 1 then s.setFld MEM_MSTAT_RESULT 4
  else
    (s.setFld MEM_MSTAT_RESULT 1).setFld MEM_MSTAT_BANK bank
      |>.setFld MEM_MSTAT_FAILCNT 0
      |>.modMem (fun m => { m with marchKeep := preserve })
def execMarchStart (_c : CoreId) (bank : Fin 8) (preserve : Bool) (s : State) : Out State :=
  .next (inDom .fabric (marchStart bank preserve) s)

/-- MARCH_DONE: the number of failing words, and the first failing word's offset and part. -/
def marchDone (fails ofs : Nat) (chk : Bool) (s : State) : State :=
  let b := s.fld MEM_MSTAT_BANK
  if s.fld MEM_MSTAT_RESULT ≠ 1 then s
  else
    (s.when (!s.memc.marchKeep) (fun s => s.clearBank b)).raise MEM_FLAG_MDONE
      |>.setFld MEM_MSTAT_FAILCNT (satTo 0o7777 fails)
      |>.setFld MEM_MSTAT_RESULT (if fails = 0 then 2 else 3)
      |>.when (decide (fails ≠ 0)) (fun s => (s.setReg rMEM_MFAIL (b2n chk * 2 ^ 17 + ofs)).record 2 3 b)
def execMarchDone (fails : BitVec 14) (ofs : BitVec 13) (chk : Bool) (s : State) : Out State :=
  .next (inDom .fabric (marchDone fails.toNat ofs.toNat chk) s)

/-! ### The transparent engine (R47, R48) -/

/-- Regions of a target; the memory unit that holds a region, which is the instance of its record (DESIGN CHOICE: R634 gives
the instance of ECC1, ECC2 and NOREC only); and whether the engine skips it. -/
def sweepRegions (t : Nat) : Nat := if t = 0 then 1024 else if t < 4 then 512 else 128
def sweepUnit (t r : Nat) : Nat := if t = 0 then r / 128 else 7 + t
def State.sweepSkips (s : State) (t r : Nat) : Bool :=
  if t = 0 then s.bankOff (r / 128) else decide (t < 4) && s.isFenced 2 (7 + t)

/-- The first region from `r` on that is not skipped. -/
def State.sweepFrom (s : State) (t r : Nat) : Nat :=
  let n := sweepRegions t
  (((List.range n).map (fun i => (r + i) % n)).find? (fun r => !s.sweepSkips t r)).getD (r % n)

/-- A sweep starts at START (R62). -/
def State.sweepStart (s : State) : State :=
  let t := s.fld MEM_TCTL_TARGET
  s.setFld MEM_TSTAT_REGION (s.sweepFrom t (s.fld MEM_TCTL_START))

/-- TSWEEP_REGION: the region of MEM_TSTAT tested, unless its bank or TCM went off line; then the next one. MEM_TFAIL is
captured again after MEM_FLAG.TFAIL has been cleared (DESIGN CHOICE: R48 does not say). -/
def sweepRegion (fail : Bool) (s : State) : State :=
  let t := s.fld MEM_TCTL_TARGET
  let r := s.fld MEM_TSTAT_REGION
  if !s.on MEM_TCTL_EN then s
  else if s.sweepSkips t r then s.setFld MEM_TSTAT_REGION (s.sweepFrom t (r + 1))
  else
    let s := s.when fail (fun s =>
      (s.when (!s.on MEM_FLAG_TFAIL) (fun s => s.setReg rMEM_TFAIL (t * 2 ^ 10 + r))).raise MEM_FLAG_TFAIL
        |>.count MEM_TSTAT_FAILS
        |>.record 2 4 (sweepUnit t r))
    (s.setFld MEM_TSTAT_REGION (s.sweepFrom t (r + 1))).modMem (fun m => { m with swept := m.swept + b2n (decide (t = 0)) })
def execTsweepRegion (fail : Bool) (s : State) : Out State := .next (inDom .fabric (sweepRegion fail) s)

/-- PERMIT (R47): from a MOD reset until handover, in a presence window, and for 1 s after an L3 fault of FABRIC. -/
def State.permit (s : State) : Bool := !s.memc.handed || s.acc.pres.isSome || s.memc.l3Permit
def execPermitExpiry (s : State) : Out State := .next (s.modMem (fun m => { m with l3Permit := false }))

/-! ### The code NVM (R49, R50) -/

/-- The parcel address of a command, and the inactive bank. -/
def State.nadr (s : State) : Nat := s.fld MEM_NADRH_ADRH * 2 ^ 18 + s.fld MEM_NADRL_ADRL
def State.inactive (s : State) : Nat := 1 - s.activeBank

/-- A command ends at once with a result. -/
def State.nvmEnd (s : State) (r : Nat) : State := (s.setFld MEM_NSTAT_RESULT r).raise MEM_FLAG_NDONE

/-- A command starts; it will end with a result. -/
def State.nvmRun (s : State) (r : Nat) : State := (s.setFld MEM_NSTAT_BUSY 1).modMem (fun m => { m with nrun := some r })

/-- A command: BUSY while another runs; a programming or erasing one is refused LOWV. -/
def State.nvmCommand (s : State) (writes : Bool) (f : State → State) : State :=
  if s.memc.nrun.isSome then s.setFld MEM_NSTAT_RESULT 4
  else if writes && s.lowV then s.nvmEnd 3
  else f s

/-- READ row: its parcels go to MEM_NDATA. -/
def nvmRead (s : State) : State :=
  s.nvmCommand false (fun s =>
    let k := codeKey s.inactive (s.nadr / 8 * 8)
    ((s.portRead k 8).modMem (fun m => { m with nfifo := s.codeRow s.inactive s.nadr })).nvmRun 0)

/-- PROGROW: the pushed row; a missing parcel is a free value. -/
def progrow (s : State) : State :=
  s.nvmCommand true (fun s =>
    if s.nadr % 8 ≠ 0 then s.raise MEM_FLAG_ENCREF
    else if s.rowUsed s.inactive s.nadr then s.nvmEnd 1
    else
      let l := s.memc.nfifo
      let ws := l ++ (List.range (8 - l.length)).map (fun i => Config.freeWord (s.free + i))
      (((s.progRow s.inactive s.nadr ws).drewN (8 - l.length)).modMem (fun m => { m with
        nfifo := [], nrow := some (codeKey s.inactive (s.nadr / 8 * 8)) })).nvmRun 0)

def eraseSect (s : State) : State :=
  s.nvmCommand true (fun s => (s.eraseCode s.inactive (s.nadr / 4096 * 4096) (s.nadr / 4096 * 4096 + 4096)).nvmRun 0)
def eraseBank (s : State) : State := s.nvmCommand true (fun s => (s.eraseCode s.inactive 0 (2 ^ 20)).nvmRun 0)

/-- BLANKCHK: NOTBLANK while a parcel differs from the erased value. -/
def blankChk (s : State) : State :=
  s.nvmCommand false (fun s =>
    let lo := codeKey s.inactive 0
    s.nvmRun (b2n (s.mem.any (fun e => decide (lo ≤ e.1 ∧ e.1 < lo + 2 ^ 20)))))

def execNvmReadRow (_c : CoreId) (s : State) : Out State := .next (inDom .fabric nvmRead s)
def execProgrow (_c : CoreId) (s : State) : Out State := .next (inDom .fabric progrow s)
def execErasesect (_c : CoreId) (s : State) : Out State := .next (inDom .fabric eraseSect s)
def execErasebank (_c : CoreId) (s : State) : Out State := .next (inDom .fabric eraseBank s)
def execBlankchk (_c : CoreId) (s : State) : Out State := .next (inDom .fabric blankChk s)

/-- NVM_COMMAND_DONE. `bad`: the read-back of a program mismatches, and the row's contents are free values; only a program
has a read-back (R49). -/
def nvmDone (bad : Bool) (s : State) : State :=
  match s.memc.nrun with
  | none => s
  | some r =>
    let t := (s.setFld MEM_NSTAT_BUSY 0).modMem (fun m => { m with nrun := none, nrow := none })
    match (if bad then s.memc.nrow else none) with
    | some k => ((t.nvmEnd 2).each (List.range 8) (fun i s => s.wr (k + i) (Config.freeWord (s.free + i)))).drewN 8
    | none => t.nvmEnd r
def execNvmCommandDone (bad : Bool) (s : State) : Out State := .next (inDom .fabric (nvmDone bad) s)

/-- NDATA_PUSH: the eight parcels last pushed make the row. -/
def ndataPush (v : Word) (s : State) : State :=
  s.modMem (fun m => { m with nfifo := (m.nfifo ++ [v]).drop (m.nfifo.length - 7) })
/-- A read of MEM_NDATA: the next parcel of the row, or a free value where none is left. -/
def ndataPop (s : State) : State :=
  match s.memc.nfifo with
  | [] => ({ s with rdata := s.draw } : State).drew
  | w :: l => ({ s with rdata := w } : State).modMem (fun m => { m with nfifo := l })
def execNdataPush (_c : CoreId) (v : Word) (s : State) : Out State := .next (inDom .fabric (ndataPush v) s)
def execNdataPop (_c : CoreId) (s : State) : Out State := .next (inDom .fabric ndataPop s)

/-! ### The settings store (R51 to R57) -/

/-- A settings store command ends: its result, and SSDONE. -/
def State.ssEnd (s : State) (r : Nat) : State := (s.setFld MEM_SSSTAT_RESULT r).raise MEM_FLAG_SSDONE

/-- The bank that a WRITE takes: the one without the valid record, or A; and its sequence number (R54). -/
def State.ssTarget (s : State) : Nat × Nat :=
  match s.ssBank with
  | some b => (1 - b, s.recSeq b + 1)
  | none => (0, 1)

/-- A data NVM bank erased. -/
def State.eraseData (s : State) (b : Nat) : State := s.clearMem (dataKey b 0) (dataKey b 65536)

/-- A record programmed (R51, R54): header, payload, CRC, and last the marker. -/
def State.writeRecord (s : State) (b schema grp seq : Nat) (payload : List Word) : State :=
  let head := [0o265105, 4096 + schema % 4096, seq / 65536 % 65536, seq % 65536, payload.length, grp % 65536, 0, 0]
  let ws := head.map toWord ++ payload
  let crc := crcWords (ws.map BitVec.toNat)
  let all := ws ++ [toWord (crc / 65536), toWord (crc % 65536)]
  (s.each (List.range all.length) (fun i s => s.wr (dataKey b i) (all.getD i 0))).wr (dataKey b 65535) 0o525252

/-- A command refused while another runs, or while the agent writes a migrated record (R56, R533). -/
def State.ssBusy (s : State) : Bool := s.memc.ss.isSome || s.img.mig.isSome

def ssWrite (s : State) : State :=
  let n := s.fld MEM_SSLEN_LEN
  if s.ssBusy then s.ssEnd 1
  else if n = 0 ∨ 65518 < n ∨ !inRam (s.fld MEM_SSBUF_BUF) n then s.ssEnd 3
  else
    let t := s.ssTarget
    let run : SsRun := {
      load := false, buf := s.fld MEM_SSBUF_BUF, len := n, schema := s.fld MEM_SSCTL_SCHEMA, grp := s.fld MEM_SSGRP_GRP,
      bank := t.1, seq := t.2 }
    ((s.eraseData t.1).setFld MEM_SSSTAT_BUSY 1).modMem (fun m => { m with ss := some run })

def ssLoad (s : State) : State :=
  if s.ssBusy then s.ssEnd 1
  else
    match s.ssBank with
    | none => s.ssEnd 2
    | some b =>
      if s.fld MEM_SSLEN_LEN < s.dw b 4 ∨ !inRam (s.fld MEM_SSBUF_BUF) (s.fld MEM_SSLEN_LEN) then s.ssEnd 3
      else
        let run : SsRun := {
          load := true, buf := s.fld MEM_SSBUF_BUF, len := s.dw b 4, schema := 0, grp := 0, bank := b, seq := 0 }
        (s.setFld MEM_SSSTAT_BUSY 1).modMem (fun m => { m with ss := some run })

/-- The end of a WRITE: MEMERR when a payload word cannot be read, VERIFY when the marker does not verify. -/
def State.ssWriteEnd (s : State) (r : SsRun) (bad : Bool) : State :=
  let k := stopAt r.len (fun i => s.addrOff (r.buf + i) || decide (s.eccOf (r.buf + i) = 2))
  let s := s.portRead r.buf k
  if k < r.len then ((s.when (decide (s.eccOf (r.buf + k) = 2)) (fun s => s.eccDouble (r.buf + k))).ssEnd 6).ssShow
  else if bad then (s.ssEnd 5).ssShow
  else ((s.writeRecord r.bank r.schema r.grp r.seq ((List.range r.len).map (fun i => s.rd (r.buf + i)))).ssEnd 0).ssShow

/-- The end of a LOAD: the words copied up to the first that stops it. -/
def State.ssLoadEnd (s : State) (r : SsRun) : State := (s.ssCopy r r.len).ssEnd (if s.ssStop r r.len < r.len then 6 else 0)

def ssDone (bad : Bool) (s : State) : State :=
  match s.memc.ss with
  | none => s
  | some r =>
    let s := (s.setFld MEM_SSSTAT_BUSY 0).modMem (fun m => { m with ss := none })
    if r.load then s.ssLoadEnd r else s.ssWriteEnd r bad

def execSsWrite (_c : CoreId) (s : State) : Out State := .next (inDom .fabric ssWrite s)
def execSsLoad (_c : CoreId) (s : State) : Out State := .next (inDom .fabric ssLoad s)
def execSsCommandDone (bad : Bool) (s : State) : Out State := .next (inDom .fabric (ssDone bad) s)

/-! ### OTP (R58, R59) -/

/-- OTP_PROG: a program of the word at an offset with MEM_OTPDATA, inside a presence window. -/
def otpProg (o : Nat) (s : State) : State :=
  let busy := s.memc.otp.isSome
  let end_ (r : Nat) (s : State) : State := (s.setFld MEM_OTPSTAT_RESULT r).raise MEM_FLAG_OTPDONE
  if s.acc.pres.isNone then s.raise MEM_FLAG_WRREF
  else if busy then s
  else if otpKrafin o ∨ (0o400 ≤ o ∧ o < 0o420 ∧ s.otp 0o420 % 2 = 1) then end_ 2 s
  else if s.otpWritten o then end_ 1 s
  else
    (s.wr (otpKey o) (toWord (s.fld MEM_OTPDATA_DATA))).setFld MEM_OTPSTAT_BUSY 1
      |>.modMem (fun m => { m with otp := some o, otpW := bPut m.otpW o true })
def execOtpProg (_c : CoreId) (o : BitVec 11) (s : State) : Out State := .next (inDom .fabric (otpProg o.toNat) s)

/-- OTP_DONE. `bad`: the read-back mismatches, and the word's contents are a free value. -/
def otpDone (bad : Bool) (s : State) : State :=
  match s.memc.otp with
  | none => s
  | some o =>
    (s.when bad (fun s => (s.wr (otpKey o) s.draw).drew)).setFld MEM_OTPSTAT_BUSY 0
      |>.modMem (fun m => { m with otp := none })
      |>.setFld MEM_OTPSTAT_RESULT (if bad then 3 else 0)
      |>.raise MEM_FLAG_OTPDONE
def execOtpDone (bad : Bool) (s : State) : Out State := .next (inDom .fabric (otpDone bad) s)

/-! ### Transactions (R42, R43) -/

/-- A bank overlaps the spill region of a core. -/
def State.spillIn (s : State) (k : Nat) : Bool :=
  (List.range 3).any (fun c =>
    let x := s.core c
    decide (x.spr.toNat < ramBase + (k + 1) * 0o20000 ∧ ramBase + k * 0o20000 < x.spl.toNat ∧ x.spr.toNat < x.spl.toNat))

/-- Banks that a commit parks, and the lowest cause that refuses it. -/
def State.memCommitRefuse (s : State) : Option Nat :=
  let l := (List.range 8).filter (fun k => bitAt (s.fldNext MEM_BANKPARK_PARK) k && !s.bit MEM_BANKPARK_PARK k)
  let ringIn (k : Nat) : Bool := (List.range 64).any (fun r =>
    s.on (RNG_RCFG_EN r) && (banksOf (s.slotAddr r 0) (8 * s.ringSize r)).contains k)
  if l.any ringIn then some 1 else if l.any s.spillIn then some 2 else if l.any (fun k => decide (s.bankSt k = 3)) then some 3 else none

/-- The banks follow MEM_BANKPARK; a fence stays. -/
def State.memCommitted (s : State) : State :=
  s.each ((List.range 8).filter (fun k => decide (s.bankSt k < 2))) (fun k s => s.setBankSt k (b2n (s.bit MEM_BANKPARK_PARK k)))

end Sys2Proof.Machine
end

