-- ==== Sys2Proof/Machine/Pcr.lean ====
section
/-! DEFINITION. Power states, domains, clocks and wake (R8, R15, R314, R445 to R470, R477, R494). -/

namespace Sys2Proof.Machine

/-! ### The ledger and events -/

/-- A bit of PCR_EVT: the cause of an interrupt source (R469); FABRIC keeps it. -/
def State.pcrEvt (s : State) (k : Nat) : State := s.setBitF PCR_EVT_EVT k true

/-- A ledger count raised; source 8 when it saturates. -/
def State.ledgerCount (s : State) (f : FRef) : State :=
  (s.count f).when (decide (s.fld f + 1 = f.max)) (fun s => s.pcrEvt 8)

/-- The count of a domain: 0 CORE-A, 1 CORE-S, 2 FABRIC, 3 ZSW, 4 NET, 5 ACT. -/
def ledgerCnt (d : Nat) : FRef :=
  [PCR_LCNT0_CNTA, PCR_LCNT0_CNTB, PCR_LCNT1_CNTA, PCR_LCNT1_CNTB, PCR_LCNT2_CNTA, PCR_LCNT2_CNTB].getD d PCR_LCNT1_CNTA

/-- The domain in which a block refused an entry (R460). -/
def State.refuserDom (s : State) (b k : Nat) : Nat :=
  match b with
  | 0 => if k = 2 then 1 else if k = 3 ∧ s.spillRoom 0 ∧ s.spillRoom 1 then 1 else 0
  | 11 => 4
  | 12 => 3
  | 13 => 3
  | 14 => if k = 1 then 5 else 2
  | _ => if 4 ≤ b ∧ b ≤ 10 then 5 else 2

/-- The code of a request: 2 REST, 3 BEDDED. -/
def reqCode (bedded : Bool) : Nat := if bedded then 3 else 2

/-- The last refuser written (R460). -/
def State.lastRefuser (s : State) (b k : Nat) (bedded abort : Bool) : State :=
  (s.setReg rPCR_LREF (b * 2 ^ 14 + k * 2 ^ 6 + reqCode bedded * 2 ^ 4 + b2n abort * 8)).setReg rPCR_LRFH (s.rtcSec / 65536)
    |>.setReg rPCR_LRFL (s.rtcSec % 65536)

/-- The POWER trace record: 1 requested, 2 refused, 3 committed, 4 exited (R485). -/
def State.tracePower (s : State) (i b k : Nat) : State := s.traceB 1 5 i (b * 2 ^ 14 + k * 2 ^ 6) s.faultTime.1

/-- The phase of an entry: 0 idle, 1 negotiating, 2 committing, 3 exiting. -/
def State.phase (s : State) : Nat := s.fld PCR_ENTRY_PHASE

/-! ### The ledger of wakes (R460) -/

/-- The last wake written to the ledger: from 1 REST, 2 BEDDED. -/
def State.lastWake (s : State) (w : Wake) (frm : Nat) : State :=
  let z := w.zt.getD 0
  s.setReg rPCR_LWAKE (w.code * 2 ^ 12 + frm * 2 ^ 10 + b2n w.during * 2 ^ 9 + b2n w.zt.isSome * 2 ^ 8 + w.detail % 256)
    |>.setReg rPCR_LWRH (w.sec / 65536)
    |>.setReg rPCR_LWRL (w.sec % 65536)
    |>.setReg rPCR_LWRS w.sub
    |>.setReg rPCR_LWZ3 (z / 2 ^ 48 % 65536)
    |>.setReg rPCR_LWZ2 (z / 2 ^ 32 % 65536)
    |>.setReg rPCR_LWZ1 (z / 2 ^ 16 % 65536)
    |>.setReg rPCR_LWZ0 (z % 65536)
    |>.ledgerCount PCR_LWCNT_WAKES
    |>.when w.during (fun s => s.ledgerCount PCR_LWCNT_DURING)

/-! ### The save list (R457) -/

/-- A parcel address in two words. -/
def parcelWords (p : Nat) : List Word := [toWord (p / 2 ^ 18), toWord p]

/-- The words of a core's block. -/
def State.saveWords (s : State) (c : Nat) : List Word :=
  let x := s.core c
  (List.range 32).map x.get ++ parcelWords x.getLk ++ [x.getSlot, x.sr] ++ parcelWords x.pc ++ [x.spb]
    ++ (List.range 4).flatMap (fun k => parcelWords (x.lpsOf k) ++ parcelWords (x.lpeOf k) ++ [toWord (x.lpcOf k)])
    ++ [x.ph, x.pl, x.ah, x.am, x.al, x.qt, x.rm]
    ++ (List.range 16).flatMap (fun r =>
      [toWord (s.reg (rICU_MBASE c r)), toWord (s.reg (rICU_MLIM c r)), toWord (s.reg (rICU_MATR c r))])
    ++ [x.vbr, x.isp, x.spr, x.spl, x.ctl, x.tca, x.tad, x.lst] ++ List.replicate 6 0

/-- The words of the ICU state. -/
def State.saveIcu (s : State) : List Word :=
  (List.range 86).map (fun k => toWord (s.reg (rICU_RT k)))
    ++ (List.range 3).map (fun c => toWord (s.reg (rICU_CMSEL c)))
    ++ [toWord (s.fld (ICU_SWI_PEND 2))] ++ List.replicate 38 0

def State.wrList (s : State) (a : Nat) (l : List Word) : State :=
  s.each (List.range l.length) (fun i s => s.wr (a + i) (l.getD i 0))

/-- The save area written. -/
def State.saveAll (s : State) : State :=
  s.wrList 0o703000 (s.saveWords 0) |>.wrList 0o703200 (s.saveWords 1) |>.wrList 0o703400 (s.saveWords 2) |>.wrList 0o703600 s.saveIcu

/-- A core's registers from its block; it returns to its halt (R458). -/
def State.restoreCore (s : State) (c : Nat) : State :=
  let a := 0o703000 + 0o200 * c
  let w (i : Nat) : Word := s.rd (a + i)
  let parcel (i : Nat) : Nat := (w i).toNat % 8 * 2 ^ 18 + (w (i + 1)).toNat
  let y : Core := {
    run := (s.core c).run, pc := parcel 0o44, sr := w 0o43, spb := w 0o46, ph := w 0o73, pl := w 0o74, ah := w 0o75, am := w 0o76,
    al := w 0o77, qt := w 0o100, rm := w 0o101, vbr := w 0o162, isp := w 0o163, spr := w 0o164, spl := w 0o165, ctl := w 0o166,
    tca := w 0o167, tad := w 0o170, lst := w 0o171 }
  let y := (List.range 32).foldl (fun y i => y.put i (w i)) y
  let y := (y.putLk (parcel 0o40)).putSlot (w 0o42)
  let y := (List.range 4).foldl (fun y k =>
    ((y.setLps k (parcel (0o47 + 5 * k))).setLpe k (parcel (0o51 + 5 * k))).setLpc k (w (0o53 + 5 * k)).toNat) y
  (s.setCore c y).each (List.range 16) (fun r s =>
    s.setReg (rICU_MBASE c r) (w (0o102 + 3 * r)).toNat
      |>.setReg (rICU_MLIM c r) (w (0o103 + 3 * r)).toNat
      |>.setReg (rICU_MATR c r) (w (0o104 + 3 * r)).toNat)

/-- The ICU state restored. -/
def State.restoreIcu (s : State) : State :=
  s.each (List.range 86) (fun k s => s.setReg (rICU_RT k) (s.rd (0o703600 + k)).toNat)
    |>.each [0, 1, 2] (fun c s => s.setReg (rICU_CMSEL c) (s.rd (0o703726 + c)).toNat)
    |>.setFld (ICU_SWI_PEND 2) (s.rd 0o703731).toNat

/-! ### Commit (R451) -/

/-- A core spills every window but the current one; a core whose spill fails is noted (R586). -/
def State.spillAll (s : State) (c : Nat) : Nat → State
  | 0 => s
  | n + 1 =>
    if (s.core c).res ≤ 1 then s
    else if (s.spillTrap c).isSome then
      s.modPw (fun p => { p with badSpill := p.badSpill ++ [c] })
    else (s.spill c).spillAll c n

/-- A core before the save list is written: what is in flight lands, its windows spill and its store buffer drains. -/
def State.settle (s : State) (c : Nat) : State :=
  if (s.core c).run = .halted ∨ (s.core c).run = .running then
    (((s.modCore c Core.landAll).spillAll c 14).drainAll c).modCore c (fun x => { x with run := .halted })
  else s

/-- Pad groups latched: those of the domains that go off or into retention; a group that is latched stays so (R459). -/
def State.latchPads (s : State) (bedded : Bool) : State :=
  s.setFld PCR_PAD_LAT (Nat.lor (s.fld PCR_PAD_LAT) (if bedded then 0o37 else 0o35))

/-- The commit of an entry starts. -/
def State.commitStart (s : State) (bedded : Bool) : State :=
  (s.setFld PCR_ENTRY_PHASE 2).tracePower 3 0 0
    |>.when (!bedded) (fun s => ((s.settle 0).settle 1).settle 2 |>.saveAll)
    |>.when (s.zswGoes bedded) (fun s => s.loseEngines (fun e => decide (e = 8)))
    |>.when bedded (fun s => s.loseEngines (fun _ => true))
    |>.latchPads bedded
    |>.when (!bedded) State.inpRest
    |>.shedWaiting

/-- A bus wake latched during an entry causes the exit that follows, so it is a counted wake (R328). -/
def State.entryWake (s : State) : State :=
  match s.pw.wake with
  | some w => if w.code = 3 then s.countedWake w.detail else if w.code = 4 then s.countedWake (6 + w.detail) else s
  | none => s

/-- Validation windows that are open close as false, and fenced channels go to SLEEP, when an entry completes (R325, R328). -/
def State.netAtEntry (s : State) : State :=
  s.closeWindows.netAsleep.entryWake

/-- ZSW goes off, and with it the crystal (R451, R455). -/
def State.zswDown (s : State) : State :=
  (s.domRegs .zsw true).setFld PCR_DOMCTL_ZSWON 0
    |>.setFld PCR_CLK_XTALOK 0
    |>.setFld PCR_CLK_LOCK (s.fld PCR_CLK_LOCK % 2 + s.fld PCR_CLK_LOCK / 8 * 8)
    |>.modPw (fun p => { p with zsw := .off, zswAsked := false })
    |>.hideZsw

/-- The module is in REST or BEDDED; a wake latched during the entry starts the exit at once. -/
def State.entered (s : State) (bedded : Bool) : State :=
  s.setFld PCR_ENTRYST_RESULT (if s.fld PCR_ENTRYST_RESULT = 3 then 3 else 2)
    |>.setFld PCR_ENTRY_PHASE (if s.pw.wake.isSome then 3 else 0)
    |>.modPw (fun p => { p with entry := none, mode := if bedded then .bedded else .rest, coreA := .off, coreS := .off })

/-- REST is reached. -/
def State.restReached (s : State) : State :=
  (s.entered false).netAtEntry
    |>.modPw (fun p => { p with fabric := .ret, net := if s.pw.net = .off then .off else .ret })
    |>.when (s.zswGoes false) State.zswDown

/-- BEDDED is reached: only FAWN, and CAN0's receiver as its WKEN says (R327), stay. -/
def State.beddedReached (s : State) : State :=
  (s.entered true).netAtEntry
    |>.modNet (fun n => { n with can0 := s.on (NET_CTC_WKEN 0) })
    |>.modPw (fun p => { p with fabric := .off, zsw := .off, net := .off, act := .off })
    |>.setFld PCR_RAIL_OK 0
    |>.setFld PCR_RAIL_INH 0

/-- A forced entry, started by S (cause 1) or by a brown-out (cause 0) (R452, R460). -/
def State.forceEntry (s : State) (bedded : Bool) (cause : Nat) : State :=
  let lost := s.forcedAborts bedded
  (s.modPw (fun p => { p with
      entry := some (if bedded then .bedded else .rest), forced := true, acks := 0, delays := 0,
      back := if p.mode = .run ∨ p.mode = .browse then p.mode else p.back }))
    |>.when (!lost.isEmpty) (fun s => (s.lastRefuser 1 cause bedded true).each lost (fun d s => s.ledgerCount (ledgerCnt d)))
    |>.forceAll bedded
    |>.commitStart bedded

/-- A refused negotiation (R450): the ledger keeps no wake. -/
def State.refused (s : State) (b k : Nat) : State :=
  let bedded := decide (s.pw.entry = some .bedded)
  (s.setReg rPCR_ENTRYST (2 ^ 15 + b * 2 ^ 11 + k * 8)).setFld PCR_ENTRY_PHASE 0
    |>.raise PCR_FLAG_REFD
    |>.lastRefuser b k bedded false
    |>.ledgerCount (ledgerCnt (s.refuserDom b k))
    |>.pcrEvt 0
    |>.modPw (fun p => { p with entry := none, wake := none, acks := 0, delays := 0 })
    |>.tracePower 2 b k
    |>.record 1 5 0

/-! ### Exits (R455, R456, R458) -/

/-- Completions held in REST written (R456). -/
def State.writeHeld (s : State) : State :=
  let l := s.pw.held
  (s.modPw (fun p => { p with held := [] })).each l (fun h s => s.writeDone h)

/-- An exit has ended. -/
def State.exitEnds (s : State) (w : Wake) (frm : Nat) (forced : Bool) : State :=
  (s.lastWake w frm).setFld PCR_ENTRY_PHASE 0
    |>.when forced (fun s => s.raise PCR_FLAG_FORCED)
    |>.modPw (fun p => { p with wake := none, forced := false, brown := false, acks := 0, delays := 0 })
    |>.tracePower 4 0 w.code

/-- NET leaves retention, and its engine serves the sensor messages that wait (R304, R455). -/
def State.netAgain (s : State) : State :=
  if s.pw.net = .ret then (s.modPw (fun p => { p with net := .on })).sensServeAll else s

/-- The REST exit. -/
def State.restExit (s : State) (w : Wake) : State :=
  let bad := s.pw.badSpill
  s.modPw (fun p => { p with mode := p.back, coreA := .on, coreS := .on, fabric := .on, badSpill := [] })
    |>.setFld PCR_CLK_P0SRC 1
    |>.clearTcm 0
    |>.clearTcm 1
    |>.clearTcm 2
    |>.domRegs .coreA true
    |>.domRegs .coreS true
    |>.fltClear 0
    |>.portRead 0o703000 474
    |>.restoreCore 0
    |>.restoreCore 1
    |>.restoreCore 2
    |>.restoreIcu
    |>.inpWake
    |>.exitEnds w 1 s.pw.forced
    |>.pcrEvt 1
    |>.when (s.on PCR_CLK_XTALOK) State.netAgain
    |>.writeHeld
    |>.each bad (fun c s => s.doubleFault c)

/-- Fences that FAWN holds: memory banks and TCMs (R46), A0 and A1 (ICU_ACTL, R8). -/
def State.memFences (s : State) : State :=
  (s.modFlt (fun x => { ({} : Flt) with
      fenced := smKeep (fun k => decide (k / 256 = 2 ∨ k / 256 = 0)) x.fenced, sinceSync := x.sinceSync }))
    |>.each ((List.range 8).filter (fun k => bGet s.flt.fenced (2 * 256 + k))) (fun k s => s.setBankSt k 2)
    |>.refreshFlt 0
    |>.refreshFlt 2

/-- Registers and hidden state of every domain but FAWN at a BEDDED exit (R39, R198, R458); zone time starts at 0 (R114). -/
def State.beddedClear (s : State) : State :=
  let posv := (List.range 4).filter (fun g => s.on (MOT_GSTAT_POSV g))
  (s.clearTcm 0).clearTcm 1
    |>.clearTcm 2
    |>.clearRam
    |>.clearSeq
    |>.when (s.on MEM_AONRET_RET2K) (fun s => s.clearAon 0o704000)
    |>.regsReset (fun k r => !inFawn k r)
    |>.accFabricReset
    |>.hideAct
    |>.setZt 0
    |>.modZone (fun _ => {})
    |>.each posv (fun g s => s.setFld (MOT_GSTAT_POSV g) 1)
    |>.hideNet
    |>.hideZsw
    |>.modRng (fun _ => {})
    |>.setDescs []
    |>.modMem (fun m => { otpW := m.otpW, ones := m.ones, handed := m.handed })
    |>.modImg (fun _ => {})
    |>.modBrc (fun _ => {})
    |>.memFences

/-- The BEDDED exit, a DOM reset of every domain but FAWN (R458): S starts the boot ROM, and A0 and A1 are held or released as
ICU_ACTL, which FAWN keeps, says. -/
def State.beddedExit (s : State) (w : Wake) : State :=
  (s.beddedClear).modPw (fun p => { verified := p.verified, svcPor := p.svcPor })
    |>.setFld PCR_RCAUSE_CAUSE (if s.pw.brown then 5 else 4)
    |>.setFld PCR_CLK_XTALOK 0
    |>.setFld PCR_CLK_P0SRC 1
    |>.setFld PCR_CLK_LOCK 9
    |>.setFld PCR_RAIL_OK 15
    |>.setFld PCR_RAIL_INH 1
    |>.coreAgain 0
    |>.coreAgain 1
    |>.coreStart 2
    |>.exitEnds w 2 s.pw.forced
    |>.refreshInh
    |>.driveFltn

/-! ### Clocks -/

/-- PLL0 moves to the precision RC (R15, R466). -/
def State.pll0ToRc (s : State) : State :=
  (s.setFld PCR_CLK_P0SRC 1).raise PCR_FLAG_CLKSW |>.pcrEvt 4 |>.record 1 1 0

/-- ZSW starts with its master counter loaded, in its reset state. -/
def State.zswUp (s : State) : State :=
  (s.modPw (fun p => { p with zsw := .on })).unfenceAll 12
    |>.unfenceAll 13
    |>.fltClear 12
    |>.fltClear 13
    |>.zswStart

/-- The crystal is stable: PLL0, PLL1 and PLL2 run from it, and NET and ZSW are released (R466). -/
def State.toCrystal (s : State) : State :=
  (s.setFld PCR_CLK_XTALOK 1).setFld PCR_CLK_P0SRC 0
    |>.setFld PCR_CLK_LOCK 15
    |>.raise PCR_FLAG_XTALR
    |>.pcrEvt 5
    |>.modPw (fun p => { p with net := if p.net = .off then .on else p.net })
    |>.when (s.on PCR_DOMCTL_ZSWON && decide (s.pw.zsw = .off)) (fun s =>
      (s.zswUp.when s.pw.zswAsked (fun s => s.pcrEvt 6)).modPw (fun p => { p with zswAsked := false }))

/-- NET, also one in retention, and ZSW held in reset (R466). -/
def State.holdNetZsw (s : State) : State :=
  (s.when (decide (s.pw.net ≠ .off)) State.resetNet).when (s.domOn .zsw) State.resetZsw
    |>.modPw (fun p => { p with net := .off, zsw := .off })

def crystalLoss (s : State) : State :=
  if s.on PCR_CLK_XTALOK ∧ s.pw.mode ≠ .bedded then
    (s.setFld PCR_CLK_XTALOK 0).setFld PCR_CLK_LOCK (s.fld PCR_CLK_LOCK % 2 + s.fld PCR_CLK_LOCK / 8 * 8)
      |>.pll0ToRc
      |>.holdNetZsw
  else s

/-! ### POR -/

/-- A factory trim word whose check bits fail: CHSNS of its output, which is fenced (R495). -/
def State.trimCheck (s : State) : State :=
  let bad := s.ecc.filter (fun e => decide (e.2 = 2 ∧ otpKey 0 ≤ e.1 ∧ e.1 < otpKey 256))
  s.each (bad.map (fun e => Config.trimOutput (e.1 - otpKey 0))) (fun n s => if n < 128 then s.record 5 4 n else s)

/-- What a POR keeps: NVM, OTP, the key store and the key slots, the waiting commands and the free sequence. -/
def State.powerOn (s : State) : State :=
  let nvm (k : Nat) : Bool := decide (2 ^ 23 ≤ k ∧ k < 2 ^ 25 + 2048)
  let m : Mem := { otpW := s.memc.otpW, ones := s.memc.ones }
  let k := s.accFabricReset.acc
  let a : Immo := { slots := k.slots, store := k.store, lock := k.lock, gen := k.gen }
  let t : State := { State.reset with mem := smKeep nvm s.mem, ecc := smKeep nvm s.ecc }
  let u : State := { t with memc := m, acc := a, pending := s.pending, free := s.free }
  (u.thmRefresh.setFld PCR_KL_KL15 (s.fld PCR_KL_KL15)).trimCheck

/-! ### The commands -/

/-- POR (R494): the state at +0.962 ms, S released into the boot ROM. -/
def execPor (s : State) : Out State := .next s.powerOn
def execRstnReset (s : State) : Out State := .next (s.modReset 1)
def execModuleSoftwareReset (s : State) : Out State := .next (s.modReset 2)

/-- L4_RESET (R477): the time that L4RST selects has passed. -/
def execL4Reset (s : State) : Out State := .next (if s.flt.safe ∧ s.on FLT_GCTL_L4RST then s.modReset 3 else s)

/-- PLL0_LOST (R15): CORE-A, CORE-S and FABRIC stop cleanly and go on from the precision RC. -/
def execPll0Lost (s : State) : Out State :=
  .next (inDom .fabric (fun s => if s.on PCR_CLK_P0SRC then s else s.pll0ToRc) s)
def execCrystalLoss (s : State) : Out State := .next (crystalLoss s)
def execPll0ToCrystal (s : State) : Out State :=
  .next (inDom .fabric (fun s => if s.on PCR_CLK_XTALOK && !s.on PCR_CLK_P0SRC then s else s.toCrystal) s)

/-- ACTOSC_LOST (R13, R314): an L4 of class CLOCK, the fabric stops at its DC map, and ACT, which has no other clock, stops:
it keeps its registers, and accesses to it behave as R18 states. -/
def execActoscLost (s : State) : Out State :=
  .next (inDom .act (fun s =>
    (s.record 6 1 0).modInp (fun x => { x with dcMap := true })
      |>.setFld PCR_CLK_LOCK (s.fld PCR_CLK_LOCK % 8)
      |>.modPw (fun p => { p with act := .ret })) s)

/-- ACT_DRIFT_CHECK (R467). `off`: ACTOSC deviates from the crystal by more than 2 %. -/
def execActDriftCheck (off : Bool) (s : State) : Out State :=
  .next (inDom .act (fun s => if s.on PCR_CLK_XTALOK && off then (s.record 1 2 0).pcrEvt 11 else s) s)

/-- RAIL_FAULT (R464). `rail`: 3 VPRE, 2 VCORE, 1 VIO, 0 VANA. -/
def execRailFault (rail : Fin 4) (s : State) : Out State :=
  .next (if s.pw.mode = .bedded then s else ((s.setBitF PCR_RAIL_OK rail false).pcrEvt 12).record 1 4 0)

/-- PLL_LOSS_OF_LOCK (R469): PLL1 or PLL2. -/
def execPllLossOfLock (p : Fin 2) (s : State) : Out State :=
  .next (if s.bit PCR_CLK_LOCK (1 + p) then (s.setBitF PCR_CLK_LOCK (1 + p) false).pcrEvt (9 + p) else s)

/-- A request of RUN or BROWSE (R446, R447). -/
def requestMode (m : PMode) (s : State) : State :=
  if s.phase = 0 ∧ s.pw.mode ≠ m ∧ (s.pw.mode = .run ∨ s.pw.mode = .browse) then s.modPw (fun p => { p with mode := m })
  else s.raise PCR_FLAG_ENCREF
def execRequestRun (_c : CoreId) (s : State) : Out State := .next (inDom .fabric (requestMode .run) s)
def execRequestBrowse (_c : CoreId) (s : State) : Out State := .next (inDom .fabric (requestMode .browse) s)

/-- A request of REST or BEDDED by a core. -/
def requestEntry (c : CoreId) (bedded : Bool) (s : State) : State :=
  if c ≠ .s then s.raise PCR_FLAG_WRREF
  else if s.phase ≠ 0 ∨ (s.pw.mode ≠ .run ∧ s.pw.mode ≠ .browse) then s.raise PCR_FLAG_ENCREF
  else
    (s.setFld PCR_ENTRY_PHASE 1).setReg rPCR_ENTRYST 0
      |>.tracePower 1 0 0
      |>.modPw (fun p => { p with
        entry := some (if bedded then .bedded else .rest), back := p.mode, forced := false, wake := none, acks := 0, delays := 0 })
def execEntryReq (c : CoreId) (bedded : Bool) (s : State) : Out State := .next (inDom .fabric (requestEntry c bedded) s)

/-- FORCED_ENTRY (R452), also during a negotiation. -/
def forcedEntry (c : CoreId) (bedded : Bool) (s : State) : State :=
  if c ≠ .s then s.raise PCR_FLAG_WRREF
  else if 2 ≤ s.phase ∨ (s.pw.mode ≠ .run ∧ s.pw.mode ≠ .browse) then s.raise PCR_FLAG_ENCREF
  else (s.setReg rPCR_ENTRYST 0).forceEntry bedded 1
def execForcedEntry (c : CoreId) (bedded : Bool) (s : State) : Out State := .next (inDom .fabric (forcedEntry c bedded) s)

/-- An agent's answer taken. -/
def State.takeAnswer (s : State) (b : Nat) (a : Answer) : State :=
  match a with
  | .ack => s.modPw (fun p => { p with acks := setBit p.acks b, delays := clrBit p.delays b })
  | .delay => s.modPw (fun p => { p with delays := setBit p.delays b })
  | .refuse k => s.refused b k

/-- AGENT_ANSWER (R448): block `b`'s agent, which has not acknowledged, answers under the rules of its chapter. -/
def agentAnswer (b : Nat) (s : State) : State :=
  if s.phase ≠ 1 ∨ bitAt s.pw.acks b then s else s.takeAnswer b (s.agentAnswer b (decide (s.pw.entry = some .bedded)))
def execAgentAnswer (b : Fin 16) (s : State) : Out State := .next (agentAnswer b s)

/-- DELAY_BOUND_EXPIRY (R449): an agent that still delays refuses. -/
def delayExpiry (b : Nat) (s : State) : State :=
  if s.phase = 1 ∧ bitAt s.pw.delays b then
    match s.agentAnswer b (decide (s.pw.entry = some .bedded)) with
    | .delay => s.refused b (s.boundCause b)
    | a => s.takeAnswer b a
  else s
def execDelayBoundExpiry (b : Fin 16) (s : State) : Out State := .next (delayExpiry b s)

/-- ENTRY_COMMIT (R450): every agent has acknowledged. -/
def execEntryCommit (s : State) : Out State :=
  .next (if s.phase = 1 ∧ s.pw.acks = 65535 then s.commitStart (decide (s.pw.entry = some .bedded)) else s)

/-- COMMIT_COMPLETE (R451). -/
def execCommitComplete (s : State) : Out State :=
  .next (if s.phase = 2 then (if s.pw.entry = some .bedded then s.beddedReached else s.restReached) else s)

/-- WAKE_LATCH (R453): a source's code and detail. -/
def execWakeLatch (code : BitVec 6) (detail : Byte) (s : State) : Out State := .next (s.latchWake code.toNat detail.toNat)

def execRestExit (s : State) : Out State :=
  .next (match s.pw.mode, s.pw.wake with
    | .rest, some w => s.restExit w
    | _, _ => s)
def execBeddedExit (s : State) : Out State :=
  .next (match s.pw.mode, s.pw.wake with
    | .bedded, some w => s.beddedExit w
    | _, _ => s)

/-- NET_RETENTION_EXIT (R455): the crystal has been stable for 1 ms. -/
def execNetRetentionExit (s : State) : Out State :=
  .next (if s.pw.mode = .run ∨ s.pw.mode = .browse then s.netAgain else s)

/-- ZSW_ON (R455): a write of PCR_DOMCTL.ZSWON; ZSW starts once the crystal is stable. -/
def zswOn (on : Bool) (s : State) : State :=
  let s := (s.setFld PCR_DOMCTL_ZSWON (b2n on)).modPw (fun p => { p with zswAsked := on && decide (p.zsw = .off) && !s.on PCR_CLK_XTALOK })
  if on then s.when (decide (s.pw.zsw = .off) && s.on PCR_CLK_XTALOK) (fun s => s.zswUp.pcrEvt 6)
  else if s.domOn .zsw then
    (s.loseEngines (fun e => decide (e = 8))).domRegs .zsw true |>.hideZsw |>.modPw (fun p => { p with zsw := .off })
  else s
def execZswOn (_c : CoreId) (on : Bool) (s : State) : Out State := .next (inDom .fabric (zswOn on) s)

/-- REST_COMPLETION_WAKE (R456): a completion with IRQ on a ring of a wake group has arisen in REST. -/
def restCompletion (s : State) : State :=
  match s.pw.held.find? (fun h => h.irq && s.bit PCR_RWAKE_GRP (h.ring / 4)) with
  | some h => if s.pw.mode = .rest then s.latchWake 0o12 (h.ring / 4) else s
  | none => s
def execRestCompletionWake (s : State) : Out State := .next (restCompletion s)

/-- HOST_FRAME_WAKE (R456). -/
def execHostFrameWake (s : State) : Out State := .next (if s.pw.mode = .rest then s.latchWake 0o06 0 else s)

/-- BROWN_OUT (R465): a forced entry to BEDDED, whatever the entry in progress. -/
def brownOut (s : State) : State :=
  let t := s.modPw (fun p => { p with brown := true })
  if s.pw.mode = .bedded ∨ (s.phase = 2 ∧ s.pw.entry = some .bedded) then t
  else
    (t.record 1 3 0).when (decide (s.phase = 1 ∨ s.phase = 2)) (fun s => s.setFld PCR_ENTRYST_RESULT 3)
      |>.forceEntry true 0
def execBrownOut (s : State) : Out State := .next (brownOut s)

/-- KL30_RESTORE (R465). -/
def execKl30Restore (s : State) : Out State := .next (s.latchWake 0o15 0)

/-- KL30_LOW (R465): KL30_A falls below 6 V, or rises above it. -/
def kl30Low (low : Bool) (s : State) : State :=
  let t := s.setFld PCR_KL_KL30LO (b2n low)
  if low && !s.on PCR_KL_KL30LO then (t.raise PCR_FLAG_KL30LO).pcrEvt 3 else t
def execKl30Low (low : Bool) (s : State) : Out State := .next (kl30Low low s)

/-- KL15_CHANGE (R465): the debounced state of KL15. -/
def kl15Change (on : Bool) (s : State) : State :=
  if s.on PCR_KL_KL15 = on then s
  else ((s.setFld PCR_KL_KL15 (b2n on)).pcrEvt 2).latchWake (if on then 0o07 else 0o10) 0
def execKl15Change (on : Bool) (s : State) : Out State := .next (kl15Change on s)

/-- RTC_ALARM (R453, R469): the RTC stands at the alarm second. -/
def rtcAlarm (s : State) : State :=
  if s.rtcSec = s.fld PCR_ALMH_ALM * 65536 + s.fld PCR_ALML_ALM ∧ s.fld PCR_RTCS_SUB = 0 then
    (if s.pw.mode = .run ∨ s.pw.mode = .browse then s.pcrEvt 7 else s).latchWake 0o11 0
  else s
def execRtcAlarm (s : State) : Out State := .next (rtcAlarm s)

/-- PAD_RELEASE (R459): a release for a group whose domain does not run is refused. -/
def padRelease (rel : BitVec 5) (s : State) : State :=
  let runs (g : Nat) : Bool := s.domOn (if g = 1 then .act else .fabric)
  s.each ((List.range 5).filter (fun g => rel.getLsbD g)) (fun g s =>
    if runs g then s.setBitF PCR_PAD_LAT g false else s.raise PCR_FLAG_WRREF)
def execPadRelease (_c : CoreId) (rel : BitVec 5) (s : State) : Out State := .next (inDom .fabric (padRelease rel) s)

end Sys2Proof.Machine
end

