-- ==== Sys2Proof/Machine/Boot.lean ====
section
/-! DEFINITION. Start-up: the boot ROM, the boot record, the handover, the settings migration and LBIST (R494 to R511, R532,
R533). -/

namespace Sys2Proof.Machine

/-! ### Checks of a bank (R498, R504) -/

/-- The check of a bank, as boot report word 2 codes it: 1 passed, 2 magic, 3 format, 4 target, 5 length, 6 signature, 7 body
hash, 8 NVM error. -/
def State.bankCheck (s : State) (b : Nat) : Nat :=
  let h := s.bankHdr b
  if s.rangeBad (codeKey b 0) 128 then 8
  else if !hdrMagicOk h then 2
  else if !hdrFormatOk h then 3
  else if !hdrTargetOk h then 4
  else if !hdrLenOk h then 5
  else if !s.authentic h then 6
  else if s.rangeBad (codeKey b 128) (hdrL h) then 8
  else if s.bodyHash b (hdrL h) ≠ hdrBytes h 16 16 then 7
  else 1

/-- The check of the fast path: magic and target step only. -/
def State.fastCheck (s : State) (b : Nat) : Nat :=
  let h := s.bankHdr b
  if s.rangeBad (codeKey b 0) 128 then 8 else if !hdrMagicOk h then 2 else if !hdrTargetOk h then 4 else 1

/-- What a check of a bank does to the error counts: the words it reads, up to the first uncorrectable one (R38). -/
def State.checkReads (s : State) (b : Nat) (fast : Bool) : State :=
  let h := s.bankHdr b
  (s.readUntil (codeKey b 0) 128).when
    (!fast && !s.rangeBad (codeKey b 0) 128 && hdrMagicOk h && hdrFormatOk h && hdrTargetOk h && hdrLenOk h && s.authentic h)
    (fun s => s.readUntil (codeKey b 128) (hdrL h))

/-- The candidate banks in order (R501). -/
def State.candidates (s : State) : List Nat :=
  let a := s.bankState 0
  let b := s.bankState 1
  let high := b2n (decide (s.bankVersion 0 < s.bankVersion 1))
  let is (x : Nat) : Bool := decide (x = 1 ∨ x = 2)
  if is a && is b then (if a = b then [high, 1 - high] else if a = 1 then [0, 1] else [1, 0])
  else if is a then [0] else if is b then [1] else []

/-! ### Boot options (R506) -/

/-- The boot options word: LBA bit 17, LBB bit 16, FULL bit 15. -/
def State.bootOpts (s : State) : Nat :=
  match s.payload 0, s.payload 394 with
  | some m, some w => if m = 0o147262 ∧ w % 2 ^ 15 = 0 then w else 0
  | _, _ => 0

/-- The boot runs at a BEDDED exit. -/
def State.atBedded (s : State) : Bool := decide (s.fld PCR_RCAUSE_CAUSE = 4 ∨ s.fld PCR_RCAUSE_CAUSE = 5)

/-! ### LBIST (R508 to R510) -/

/-- The LBIST status of A0 or A1: 0 none, 1 queued, 2 running, 3 pass, 4 fail, 5 aborted. -/
def lbF (c : Nat) : FRef := if c = 0 then ICU_LBSTAT_A0 else ICU_LBSTAT_A1
def State.lbSt (s : State) (c : Nat) : Nat := s.fld (lbF c)

/-- LBIST runs on a core: its registers are lost. -/
def State.lbRun (s : State) (c : Nat) : State := (s.setFld (lbF c) 2).setCore c { run := .lbist }

/-- LBIST of A0 and A1 at a boot that asks for it (R508). -/
def State.bootLbist (s : State) : State :=
  if bitAt s.bootOpts (if s.atBedded then 16 else 17) then (s.lbRun 0).lbRun 1 else s

/-- The cores that ICU_LBCTL.TGT names. -/
def lbTargets (t : Nat) : List Nat := [0, 1].filter (fun c => bitAt t c)

/-- A request is queued unless one is queued or running. -/
def lbistStart (t : Nat) (s : State) : State :=
  s.each (lbTargets t) (fun c s => if s.lbSt c = 1 ∨ s.lbSt c = 2 then s else s.setFld (lbF c) 1)
def lbistCancel (t : Nat) (s : State) : State :=
  s.each (lbTargets t) (fun c s => if s.lbSt c = 1 then s.setFld (lbF c) 5 else s)

/-- LBIST_RUN: a queued request starts once its core is halted with its store buffer drained, or fenced. -/
def lbistRun (c : Nat) (s : State) : State :=
  let x := s.core c
  if s.lbSt c = 1 ∧ ((x.run = .halted ∧ x.buf = []) ∨ x.run = .fenced) then s.lbRun c else s
def execLbistRun (c : Fin 2) (s : State) : Out State := .next (inDom .coreA (lbistRun c) s)

/-- LBIST_DONE: on a pass the core restarts at its reset vector, also one that was fenced, or stays in reset where HOLD is 1;
on a fail it is fenced with class LBIST at L2. -/
def lbistDone (c : Nat) (fail : Bool) (s : State) : State :=
  if s.lbSt c ≠ 2 then s
  else if fail then ((s.setFld (lbF c) 4).setCore c { run := .reset }).record 0 2 c
  else
    ((s.setFld (lbF c) 3).coreRelease c).modFlt (fun x => { x with fenced := smErase x.fenced c }) |>.refreshFlt 0
def execLbistDone (c : Fin 2) (fail : Bool) (s : State) : Out State := .next (inDom .coreA (lbistDone c fail) s)

/-! ### The boot ROM (R498 to R504) -/

/-- Where the candidate search stands: a candidate failed or was rejected, word 2 of the report, the bank chosen and
whether by the fast path. -/
structure BootRun where
  s : State
  other : Bool := false
  chk : Nat := 0
  got : Option Nat := none
  fast : Bool := false
  rows : Bool := false

/-- A bank's check in word 2: bits 7:4 A, 3:0 B. -/
def putChk (w b v : Nat) : Nat := if b = 0 then w + v * 16 else w + v

/-- The confirm request names a bank. -/
def State.confirmed (s : State) (b : Nat) : Bool := s.on FLT_IMCONF_REQ && decide (s.fld FLT_IMCONF_BANK = b)

/-- The rows of a bank about to start: CONFIRMED for a TRIAL bank that the confirm request names, else its lowest
unwritten ATTEMPT row. -/
def State.startRows (s : State) (b : Nat) : State :=
  if s.bankState b ≠ 1 then s
  else if s.confirmed b then (s.bootProg b 1).setFld FLT_IMCONF_REQ 0
  else
    match [3, 4, 5].find? (fun r => !s.bootWritten b r) with
    | some r => s.bootProg b r
    | none => s

/-- One candidate taken. -/
def bootTry (fastBank : Option Nat) (x : BootRun) (b : Nat) : BootRun :=
  if x.got.isSome then x
  else if x.s.bankState b = 1 ∧ x.s.attempts b = 3 ∧ x.s.confirmed b = false then
    { x with s := x.s.bootProg b 2, other := true, chk := putChk x.chk b 9, rows := true }
  else
    let fast := decide (fastBank = some b)
    let v := if fast then x.s.fastCheck b else x.s.bankCheck b
    let y : BootRun := { x with s := x.s.checkReads b fast, chk := putChk x.chk b v }
    if v ≠ 1 then { y with other := true }
    else { y with s := y.s.startRows b, got := some b, fast := fast, rows := x.rows || decide (x.s.bankState b = 1) }

/-- The bank that the fast path takes: the first candidate, named by the verified latch, at a BEDDED exit with FULL = 0. -/
def State.fastBank (s : State) : Option Nat :=
  if s.atBedded ∧ bitAt s.bootOpts 15 = false ∧ s.pw.verified.isSome ∧ s.candidates.head? = s.pw.verified then s.pw.verified
  else none

/-! ### The boot report (R507) -/

/-- The boot report written into system RAM, unless bank 7 is fenced. -/
def State.bootReport (s : State) (res chk : Nat) (bank : Option Nat) (lb : Bool) : State :=
  let v := (bank.map s.bankVersion).getD 0
  let w1 := s.fld PCR_RCAUSE_CAUSE * 2 ^ 15 + res * 2 ^ 12 + bank.getD 0 * 2 ^ 11 + s.bankState 0 * 2 ^ 9 + s.bankState 1 * 2 ^ 7
    + b2n s.pw.verified.isSome * 2 ^ 6 + b2n lb * 2 ^ 5
  let l := [0o306105, w1, chk, (bank.map s.attempts).getD 0, s.reg rICU_LBSTAT / 2 ^ 12 * 2 ^ 12, satTo 2047 s.memc.swept,
    v / 65536, v % 65536] ++ List.replicate 8 0
  if s.bankSt 7 = 2 then s else s.wrList 0o277760 (l.map toWord)

/-- LBIST ran at this boot. -/
def State.lbRan (s : State) : Bool := decide (2 ≤ s.lbSt 0 ∨ 2 ≤ s.lbSt 1)

/-- The service loader entered (R499). -/
def State.enterLoader (s : State) (res chk : Nat) : State :=
  (s.modPw (fun p => { p with boot := .loader res })).bootReport res chk none s.lbRan

/-- The candidates taken in order; a full pass without a row written sets the verified latch. -/
def State.bootSearch (s : State) : State :=
  let x := s.candidates.foldl (bootTry s.fastBank) { s := s }
  match x.got with
  | none => x.s.enterLoader 5 x.chk
  | some b =>
    (x.s.modPw (fun p => { p with
        boot := .chosen b x.fast x.other x.chk,
        verified := if x.fast then p.verified else if x.rows then none else some b }))

/-- BOOT_ROM: the service loader's cases, else the candidate banks. -/
def bootRom (s : State) : State :=
  if s.pw.boot ≠ .rom then s
  else
    let s := s.bootLbist
    if !bitAt (s.otp 0o420) 0 then s.enterLoader 4 0
    else if s.pw.svcPor && s.on ACC_PCFG_SVCEN && !s.otpLock 1 then s.enterLoader 6 0
    else s.bootSearch
def execBootRom (s : State) : Out State := .next (inDom .coreS bootRom s)

/-! ### Handover (R505, R532, R533) -/

/-- A word of the defaults block of the started image. -/
def State.defWord (s : State) (h : List Word) (i : Nat) : Word := s.rd (codeKey s.activeBank (hdrDefOfs h + i))

/-- A payload word that comes from the defaults block: its group is reset, or it lies beyond the old payload. -/
def fromDefaults (h : List Word) (n i : Nat) : Bool := bitAt (hdrReset h) (i / 4096) || decide (n ≤ i)

/-- The record that a migration writes: action 1 a migrated record, else the defaults block. Payload and groups reset. -/
def State.migRecord (s : State) (h : List Word) (act : Nat) : List Word × Nat :=
  let n := hdrDefLen h
  match act, s.ssBank with
  | 1, some b =>
    let old := s.dw b 4
    ((List.range n).map (fun i => if fromDefaults h old i then s.defWord h i else s.rd (dataKey b (8 + i))),
     (List.range 16).foldl (fun m g =>
       if decide (4096 * g < n) && (bitAt (hdrReset h) g || decide (old < Nat.min n (4096 * (g + 1)))) then m + 2 ^ g else m) 0)
  | _, _ =>
    ((List.range n).map (s.defWord h), (List.range 16).foldl (fun m g => if 4096 * g < n then m + 2 ^ g else m) 0)

/-- The case of R532: FLT_IMMIG.RESULT, and whether a record is written. -/
def State.migCase (s : State) (h : List Word) : Nat × Bool :=
  match s.ssBank with
  | none => if !hdrMigr h then (4, false) else if hdrDefLen h ≠ 0 then (2, true) else (4, false)
  | some b =>
    let r := s.dw b 1 % 4096
    if r = hdrSchema h then (0, false)
    else if !hdrMigr h ∨ hdrDefLen h = 0 then (4, false)
    else if hdrSchema h < r then (3, true)
    else (1, true)

/-- The agent's decision at a handover; a migration starts its WRITE. -/
def State.migrate (s : State) : State :=
  let h := s.bankHdr s.activeBank
  let m := s.migCase h
  let t := s.setFld FLT_IMMIG_FROM ((s.ssBank.map (fun b => s.dw b 1 % 4096)).getD 0)
  if m.2 then
    (t.eraseData s.ssTarget.1).modImg (fun x => { x with mig := some m.1 }) |>.setFld FLT_IMSTAT_STATE 5
  else t.setFld FLT_IMMIG_RESULT m.1

/-- The registers that the boot ROM leaves in S, which the manual does not state, take free values. -/
def State.bootLeft (s : State) : State :=
  (s.modCore 2 (fun x => (List.range 32).foldl (fun x i => x.put i (Config.freeWord (s.free + i))) x)).drewN 32

/-- HANDOVER: S jumps to the entry point of the chosen bank; LBIST of the boot has ended. -/
def handover (s : State) : State :=
  match s.pw.boot with
  | .chosen b fast other chk =>
    if s.lbSt 0 = 2 ∨ s.lbSt 1 = 2 then s
    else
      (s.setFld MEM_TCTL_EN 0).bootReport (if other then 2 else if fast then 1 else 0) chk (some b) s.lbRan
        |>.setFld MEM_NSTAT_ACTIVE b
        |>.modPw (fun p => { p with boot := .app })
        |>.modMem (fun m => { m with handed := true })
        |>.bootLeft
        |>.modCore 2 (fun x => { x with run := .running, pc := hdrEntry (s.bankHdr b) })
        |>.each ([0, 1].filter (fun k => decide (bitsOf chk (7 - 4 * k) (4 - 4 * k) = 9))) (fun k s => s.record 15 17 k)
        |>.migrate
  | _ => s
def execHandover (s : State) : Out State := .next (inDom .coreS handover s)

/-- MIGRATION_DONE: the new record stands; IMMIGR for groups reset. -/
def migrationDone (s : State) : State :=
  match s.img.mig with
  | none => s
  | some act =>
    let h := s.bankHdr s.activeBank
    let p := s.migRecord h act
    let t := s.ssTarget
    (s.writeRecord t.1 (hdrSchema h) p.2 t.2 p.1).ssShow
      |>.modImg (fun x => { x with mig := none })
      |>.setFld FLT_IMSTAT_STATE 0
      |>.setFld FLT_IMMIG_RESULT act
      |>.setFld FLT_IMMGRP_GRP p.2
      |>.setBitF FLT_IMEVT_EVT 5 true
      |>.when (decide (p.2 ≠ 0)) (fun s => s.record 15 18 0)
def execMigrationDone (s : State) : Out State := .next (inDom .fabric migrationDone s)

/-- ACTUATION_READY (R497): ACT's start-up calibration ends. -/
def execActuationReady (s : State) : Out State := .next (inDom .act (fun s => s.modPw (fun p => { p with ready := true })) s)

end Sys2Proof.Machine
end

