-- ==== Sys2Proof/Machine/Flt.lean ====
section
/-! DEFINITION. Acknowledgement, the log's release, UNFENCE, FLTn and the spoor trace port (R478 to R489). -/

namespace Sys2Proof.Machine

/-! ### Acknowledge and release (R478 to R480, R490) -/

/-- The domain that holds a block's fault state (R471). -/
def fltDom (b : Nat) : Dom :=
  match b with
  | 0 => .coreS
  | 11 => .net
  | 12 => .zsw
  | 13 => .zsw
  | _ => if 4 ≤ b ∧ b ≤ 10 then .act else .fabric

/-- A write for a block whose fault state is reachable; otherwise OFFW (R490). -/
def State.fltGate (s : State) (b : Nat) (f : State → State) : State :=
  if s.domOn (fltDom b) then f s else s.raise FLT_GFLAG_OFFW

/-- FAULT_ACK: the classes of a mask are acknowledged (R478). -/
def fltAck (b m : Nat) (s : State) : State :=
  s.modFlt (fun x => { x with unack := smKeep (fun k => !(decide (k / 32 = b) && decide (1 ≤ k % 32) && bitAt m (k % 32 - 1))) x.unack })
    |>.setFld (FLT_FPEND_PEND b) (bitsOf (s.fld (FLT_FPEND_PEND b)) 17 0 - Nat.land (s.fld (FLT_FPEND_PEND b)) m)
    |>.refreshFlt b

/-- One log entry copied over another, word by word. -/
def State.logMove (s : State) (b i j : Nat) : State :=
  s.setReg (rFLT_LOGA b i) (s.reg (rFLT_LOGA b j))
    |>.setReg (rFLT_LOGB b i) (s.reg (rFLT_LOGB b j))
    |>.setReg (rFLT_LOGC b i) (s.reg (rFLT_LOGC b j))
    |>.setReg (rFLT_LOGD b i) (s.reg (rFLT_LOGD b j))

/-- A log entry that holds nothing. -/
def State.logWipe (s : State) (b i : Nat) : State :=
  s.setReg (rFLT_LOGA b i) 0 |>.setReg (rFLT_LOGB b i) 0 |>.setReg (rFLT_LOGC b i) 0 |>.setReg (rFLT_LOGD b i) 0

/-- LOG_RELEASE: the `n` oldest entries leave the log (R479); 9 to 15 are reserved encodings, which change nothing and set
ENCREF (R11). -/
def logRelease (b n : Nat) (s : State) : State :=
  if 8 < n then s.raise FLT_GFLAG_ENCREF
  else
    let have_ := s.fld (FLT_FST_LOGN b)
    let k := if n ≤ have_ then n else have_
    (s.each (List.range (have_ - k)) (fun i s => s.logMove b i (i + k))).each (List.range k) (fun i s => s.logWipe b (have_ - k + i))
      |>.setFld (FLT_FST_LOGN b) (have_ - k)

/-- CLRSTK: the sticky bits, OVF and the first-fault table are cleared (R480). -/
def clrStk (b : Nat) (s : State) : State :=
  (s.setFld (FLT_FSTKY_STICKY b) 0).setFld (FLT_FOVF_OVF b) 0
    |>.each (List.range 18) (fun k s =>
      s.setReg (rFLT_FFA b k) 0 |>.setReg (rFLT_FFB b k) 0 |>.setReg (rFLT_FFC b k) 0)

/-! ### UNFENCE (R481, R482) -/

/-- The units that an instance of a block can name. -/
def State.unitsOf (s : State) (b i : Nat) : List FUnit :=
  match b with
  | 0 => if i < 2 then [.core i] else []
  | 2 => if i < 11 then [.mem i] else []
  | 4 => if i < 64 then [.target 2 (s.hscOf i)] else []
  | 5 => if i < 128 then [.target (s.tgtOf i).1 (s.tgtOf i).2] else []
  | 6 => [.group i] ++ (if bGet s.flt.fenced (2 ^ 17 + i) then [s.leakUnit i] else [])
  | 7 => if i < 28 then [.target 3 i] else []
  | 8 => if i < 20 then [.target 4 i] else []
  | 9 => if i < 36 then [.target 5 i] else []
  | 10 => (if i < 4 then [.psi i] else []) ++ (if i < 10 then [.adc i] else [])
  | 11 => (if netChans.contains i then [.chan i] else []) ++ (if i < 10 then [.chan (chOf i)] else [])
  | 12 => if i < 8 then [.port i] else []
  | 13 => if i < 8 then [.port i] else []
  | 14 => (if i < 4 then [.target 6 i] else []) ++ (if i = 0 then [.trng] else [])
  | _ => []

/-- The domain of the named instance (R637). -/
def unitDom (b i : Nat) (u : Option FUnit) : Dom :=
  match u with
  | some .trng => .fabric
  | _ =>
    match b with
    | 0 => if i < 2 then .coreA else .coreS
    | 14 => if i < 4 then .act else .fabric
    | _ => fltDom b

/-- A unit goes back to its off state, or starts again (R481). -/
def State.unfenceUnit (s : State) (u : FUnit) : State :=
  match u with
  | .core c => s.coreRelease c
  | .target 2 t => s.setHst t 0
  | .target 3 t => s.motUnfence t
  | .target 4 t => if t < 16 then s.vlvUnfence t else s.bankToIdle (t - 16)
  | .target 5 t => if t < 24 then s.luxUnfence t else s
  | .target 6 t => s.lfUnfence t
  | .psi k => s.setFld (INP_PSSTAT_SUPOFF k) 0
  | .chan c => s.netUnfence c
  | .port p => s.ethUnfence p
  | .group n => s.seqResume (s.grp n)
  | _ => s

/-- A fence released, with the FENCE trace record. -/
def State.unfence (s : State) (b i : Nat) (u : FUnit) : State :=
  (s.unfenceUnit u).modFlt (fun x => { x with
      fenced := smErase (smErase (if b = 6 then smErase x.fenced (2 ^ 17 + i) else x.fenced) u.key) (2 ^ 16 + u.key) })
    |>.traceA b 2 2 i s.faultTime.1
    |>.refreshFlt b

/-- An unacknowledged class of a block whose last record had effective level L2 or higher. -/
def State.unackHigh (s : State) (b : Nat) : Bool :=
  (List.range 18).any (fun k => decide (0 < s.unackOf b (k + 1) ∧ 2 ≤ s.lastLvl b (k + 1)))

/-- UNFENCE of an instance, with its result (R482). -/
def unfence (b i : Nat) (s : State) : State :=
  let u := (s.unitsOf b i).find? s.unitFenced
  if !s.domOn (unitDom b i u) then s.setFld FLT_UFSTAT_RESULT 1
  else
    match u with
    | none => s.setFld FLT_UFSTAT_RESULT 2
    | some u =>
      if bGet s.flt.fenced (2 ^ 16 + u.key) then s.setFld FLT_UFSTAT_RESULT 3
      else if s.unackHigh b then s.setFld FLT_UFSTAT_RESULT 4
      else (s.unfence b i u).setFld FLT_UFSTAT_RESULT 0

/-- A command that only S may give; another core's sets WRREF (R482, R483). -/
def State.sOnly (s : State) (c : CoreId) (f : State → State) : State := if c = .s then f s else s.raise FLT_GFLAG_WRREF

/-- CLR4 (R483). -/
def clr4 (s : State) : State := (s.setFld FLT_FLTN_L4S 0).driveFltn

def execFaultAck (c : CoreId) (b : Fin 16) (m : Word) (s : State) : Out State :=
  .next (s.ioGate c (rFLT_FACK b) (fun s => s.fltGate b (fltAck b m.toNat)))
def execLogRelease (c : CoreId) (b : Fin 16) (n : Fin 16) (s : State) : Out State :=
  .next (s.ioGate c (rFLT_FREL b) (fun s => s.fltGate b (logRelease b n)))
def execClrstk (c : CoreId) (b : Fin 16) (s : State) : Out State :=
  .next (s.ioGate c (rFLT_FREL b) (fun s => s.fltGate b (clrStk b)))
def execUnfence (c : CoreId) (b : Fin 16) (i : Byte) (s : State) : Out State :=
  .next (s.ioGate c rFLT_UFCMD (fun s => s.sOnly c (unfence b i.toNat)))
def execClr4 (c : CoreId) (s : State) : Out State :=
  .next (s.ioGate c rFLT_FLTN (fun s => s.sOnly c clr4))

/-- FLTN_MIN_END: the 100 µs of the last record of L2 or above are over. -/
def execFltnMinEnd (s : State) : Out State := .next ((s.setFld FLT_FLTN_MIN 0).driveFltn)

/-! ### The trace port (R484 to R489) -/

/-- The nine bytes of a record. -/
def Spoor.bytes (r : Spoor) : List Byte :=
  natBe 9 (r.w0.toNat * 2 ^ 54 + r.w1.toNat * 2 ^ 36 + r.w2.toNat * 2 ^ 18 + r.w3.toNat)

/-- The ten bytes that the port sends. -/
def Spoor.line (r : Spoor) : List Byte := r.bytes ++ [BitVec.ofNat 8 (keyCrc (r.bytes.map BitVec.toNat))]

/-- A SYNC record: zone time in ns; a free value while ACT does not run. -/
def State.syncRec (s : State) : Spoor :=
  let t := s.ztNs % 2 ^ 54
  let w (i v : Nat) : Word := if s.domOn .act then toWord v else Config.freeWord (s.free + i)
  ⟨toWord (3 * 2 ^ 16 + 15 * 2 ^ 12 + 0o132), w 0 (t / 2 ^ 36), w 1 (t / 2 ^ 18), w 2 t⟩

def idleRec : Spoor := ⟨toWord (3 * 2 ^ 16), 0, 0, 0⟩

/-- The frame of the mirror (R489); its source is the host port. -/
def State.mirrorBytes (s : State) : List Byte :=
  natBe 2 (s.fld FLT_SPDA0_DA) ++ natBe 2 (s.fld FLT_SPDA1_DA) ++ natBe 2 (s.fld FLT_SPDA2_DA) ++ natBe 6 s.hostMac
    ++ natBe 2 0x8100 ++ natBe 2 (s.fld FLT_SPVL_PCP * 2 ^ 13 + s.fld FLT_SPVL_VID)
    ++ natBe 2 0x88B6 ++ natBe 2 s.flt.mirSeq ++ [BitVec.ofNat 8 s.flt.mirror.length] ++ s.flt.mirror.flatMap Spoor.bytes

/-- A frame without FCS at the length of the shortest frame. -/
def padFrame (b : List Byte) : List Byte := b ++ List.replicate (60 - b.length) Config.padByte

/-- A frame offered to P8; whether P8 refused it. -/
def State.offerP8 (s : State) (b : List Byte) : State × Bool :=
  if !s.domOn .zsw || decide (s.zPort 8 ≠ 1) then (s, true)
  else
    let x := s.zIngress 8 (padFrame b) false false none
    (x.1, decide (x.2.why = 6) || (!x.2.none_ && x.2.admitted.isEmpty))

/-- The mirror frame is sent: its sequence number rises; a refused frame is dropped and counted. -/
def State.mirrorSend (s : State) : State :=
  if s.flt.mirror.isEmpty then s
  else
    let x := s.offerP8 s.mirrorBytes
    let t := x.1.modFlt (fun f => { f with mirror := [], mirSeq := (f.mirSeq + 1) % 65536 })
    if x.2 then ((t.count FLT_SPSHD_MDROP).raise FLT_GFLAG_MDROP).record 15 3 0 else t

/-- A record packed for the mirror; the frame goes when it holds 150 records. -/
def State.mirrorAdd (s : State) (r : Spoor) : State :=
  if s.on FLT_SPCTL_MIR then
    (s.modFlt (fun f => { f with mirror := f.mirror ++ [r] })).when (decide (149 ≤ s.flt.mirror.length)) State.mirrorSend
  else s

/-- The oldest class A record of the first spool that holds one moves to the FIFO (R487). -/
def State.spoolMove (s : State) : State :=
  match s.flt.spool.find? (fun e => !e.2.isEmpty) with
  | some (b, r :: t) => s.modFlt (fun f => { f with spool := lPut f.spool b t, fifo := f.fifo ++ [r] })
  | _ => s

/-- A record on the port. -/
def State.portSend (s : State) (r : Spoor) (n : Nat) : State := s.modFlt (fun f => { f with sent := r.line, sinceSync := n })

/-- The port sends the next record: SYNC after 1024 records, else the oldest that waits, else IDLE. -/
def spoorSend (s : State) : State :=
  if !s.on FLT_SPCTL_EN then s
  else if 1024 ≤ s.flt.sinceSync then
    let r := s.syncRec
    ((s.portSend r 0).mirrorAdd r).when (!s.domOn .act) (fun s => s.drew.drew.drew)
  else
    let s := s.spoolMove
    match s.flt.fifo with
    | r :: t =>
      ((s.modFlt (fun f => { f with fifo := t })).setFld FLT_SPSTAT_FILL t.length).portSend r (s.flt.sinceSync + 1)
        |>.mirrorAdd r
    | [] => s.portSend idleRec (s.flt.sinceSync + 1)

/-- A control record enters the FIFO ahead of the B and C records that wait (R488). -/
def aheadOfBC (r : Spoor) (l : List Spoor) : List Spoor :=
  let bc (x : Spoor) : Bool := decide (bitsOf x.w0.toNat 17 16 = 1 ∨ bitsOf x.w0.toNat 17 16 = 2)
  l.takeWhile (fun x => !bc x) ++ [r] ++ l.dropWhile (fun x => !bc x)

/-- The SUMMARY records of a millisecond, and SPSHED for it (R488, R492). -/
def spoorSummary (s : State) : State :=
  let shed (b i : Nat) : Nat := nGet s.flt.shed (b * 2 + i)
  let bs := (List.range 16).filter (fun b => decide (0 < shed b 0 ∨ 0 < shed b 1))
  let t := s.faultTime.1
  let recOf (b : Nat) : Spoor :=
    ⟨toWord (3 * 2 ^ 16 + 14 * 2 ^ 12 + b * 2 ^ 8), toWord (shed b 0 * 2 ^ 9 + shed b 1), toWord (t / 2 ^ 18), toWord t⟩
  let l := bs.foldl (fun l b => aheadOfBC (recOf b) l) s.flt.fifo
  if bs.isEmpty then s
  else ((s.modFlt (fun f => { f with fifo := l, shed := [] })).setFld FLT_SPSTAT_FILL l.length).record 15 2 0

def execSpoorRecordSend (s : State) : Out State := .next (inDom .fabric spoorSend s)
def execSpoorSummary (s : State) : Out State := .next (inDom .fabric spoorSummary s)
def execMirrorFrameSend (s : State) : Out State := .next (inDom .fabric State.mirrorSend s)

/-- SOFT_TRACE: a SOFT record of the writing core, while its ICU traces class C. -/
def softTrace (c : CoreId) (v : Word) (s : State) : State := s.traceC 0 10 c.num v.toNat s.faultTime.1
def execSoftTrace (c : CoreId) (v : Word) (s : State) : Out State := .next (s.ioGate c 0xF713 (softTrace c v))

end Sys2Proof.Machine
end

