-- ==== Sys2Proof/Machine/Brace.lean ====
section
/-! DEFINITION. The brace link: frames, the link's states, the mirror table, takeover, handing back, QUIET and WAKE (R538 to
R554). -/

namespace Sys2Proof.Machine

/-! ### Frames (R538, R539) -/

/-- A frame as it arrives: its bytes, its CRC-16, and whether its code and disparity were good. -/
structure BrFrame where
  b : List Byte
  crc : Nat
  code : Bool

/-- A frame of a type taken while the link is on: a bad one is discarded, counted and recorded. -/
def State.brTake (s : State) (f : BrFrame) (typ : Nat) (g : List Byte → State → State) : State :=
  if s.brSt = 0 then s
  else if !f.code || decide (f.crc ≠ crc16 f.b) then (s.count BRC_CNT_CRC).record 15 12 0
  else if byteField f.b 0 1 ≠ typ then s
  else g (f.b.drop 2) (s.setFld BRC_STAT_RXSEQ (byteField f.b 1 1))

/-- Bits of a big-endian bitmap in two bytes: bit `e` for entry `e`. -/
def brBits (p : Nat → Bool) : List Byte := natBe 2 ((List.range 16).foldl (fun m e => m + b2n (p e) * 2 ^ e) 0)

/-- The channel of an entry is lost: FENCED, or LATCHED with cause wire (R545). -/
def State.brLost (s : State) (e : Nat) : Bool :=
  let n := s.brLocal e
  s.brValid e && decide (s.hst n = 8 ∨ (s.hst n = 7 ∧ s.fld (HSC_STAT_LCAUSE n) = 3))

/-- HEART's payload. -/
def State.heartBytes (s : State) : List Byte :=
  let lvl := (List.range 16).foldl (fun m b => Nat.max m (s.pendLevel b)) 0
  let ol := (List.range 16).foldl (fun m e => m * 8 + (if s.brValid e then s.fld (HSC_STAT_OL (s.brLocal e)) else 0)) 0
  natBe 1 (b2n s.brFollower + 2 * b2n (s.on BRC_STAT_ACT)) ++ natBe 1 lvl ++ brBits s.brLost ++ natBe 6 ol
    ++ natBe 2 s.brc.resumed

/-- TABLE's payload. -/
def State.tableBytes (s : State) : List Byte :=
  (List.range 16).flatMap (fun e =>
    natBe 1 (b2n (s.on (BRC_MIR_EN e)) * 128 + s.brLocal e) ++ natBe 1 (s.fld (BRC_MIR_PART e)))

/-- What a STATE frame says of an entry: D, and state and latch cause in one byte. -/
def State.brNow (s : State) (e : Nat) : Nat :=
  let n := s.brLocal e
  s.oval n * 256 + s.hst n * 16 + s.fld (HSC_STAT_LCAUSE n) * 4

/-- The driving side sends a STATE frame for every valid entry whose D or state has changed (R539, R543). -/
def State.brStates (s : State) : State :=
  let l := if s.brSt ≠ 3 then [] else (List.range 16).filter (fun e =>
    s.brValid e && decide (s.fld (HSC_CFG_BRACE (s.brLocal e)) = 1 ∧ nGet s.brc.told e ≠ s.brNow e + 1))
  if l.isEmpty then s
  else
    (s.brSend (l.map (fun e => (2, natBe 1 e ++ natBe 4 (s.brNow e))))).modBrc (fun b => { b with
      told := l.foldl (fun m e => nPut m e (s.brNow e + 1)) b.told })

/-! ### Roles and validity (R541, R542) -/

/-- HSC_CFG.BRACE of an entry's local target follows its validity, the role and a takeover; a channel in MIRROR whose entry is
invalid goes to OFF, and the follower's channel in OFF to MIRROR (R544). -/
def State.brRefresh (s : State) (e : Nat) : State :=
  let n := s.brLocal e
  if !s.brValid e then (s.brMark e 0).when (decide (s.hst n = 9)) (fun s => s.setHst n 0)
  else if s.brFollower && !s.brTaken e then (s.brMark e 2).when (decide (s.hst n = 0)) (fun s => s.setHst n 9)
  else s.brMark e 1

/-- A role conflict: the module with the higher identity acts as follower until the next MOD reset. `pid` is the partner's. -/
def State.brConflict (s : State) (pid : Nat) : State :=
  (s.modBrc (fun b => { b with erole := some (decide (pid < s.identity)) })).brEvt 4
    |>.record 15 10 0
    |>.each ((List.range 16).filter s.brValid) (fun e s => s.brRefresh e)

/-- An entry passes the TABLE exchange. `par` is the PAR of the partner's target. -/
def State.entryOk (s : State) (p : List Byte) (par : Bool) (e : Nat) : Bool :=
  let a := byteField p (2 * e) 1
  let n := s.brLocal e
  s.on (BRC_MIR_EN e) && decide (128 ≤ a ∧ a % 32 = s.fld (BRC_MIR_PART e) ∧ byteField p (2 * e + 1) 1 = n)
    && !s.hscOdd n && !(par && decide (a % 2 = 1))
    && decide ((n < 8 ∧ s.on (HSC_CFG_PAR (n / 2 * 2)) = true) ↔ par = true)

/-- BRC_STAT.ACT: an entry is taken (R540, R548). -/
def State.brAct (s : State) : State := s.setFld BRC_STAT_ACT (b2n ((List.range 16).any s.brTaken))

/-- An entry that a TABLE exchange fails becomes invalid. -/
def State.brInvalid (s : State) (e : Nat) : State := ((s.setFld (BRC_MST_VALID e) 0).setFld (BRC_MST_TAKEN e) 0).brRefresh e

/-- A TABLE frame in SYNC: entries that pass are valid once the link is UP; an enabled entry that fails is a mapping error. -/
def State.brTable (s : State) (par : Nat) (p : List Byte) : State :=
  let ok (e : Nat) : Bool := s.entryOk p (bitAt par e) e
  let bad := (List.range 16).filter (fun e => !ok e && (s.on (BRC_MIR_EN e) || decide (128 ≤ byteField p (2 * e) 1)))
  if s.brSt ≠ 2 then s
  else
    s.modBrc (fun b => { b with tableIn := true, passed := (List.range 16).filter ok })
      |>.each ((List.range 16).filter (fun e => !ok e && s.brValid e)) (fun e s => s.brInvalid e)
      |>.each bad (fun e s => (s.brEvt 3).record 15 11 e)
      |>.brAct

/-- The link is UP: the entries of the exchange are valid. -/
def State.brUp (s : State) : State :=
  (s.setFld BRC_STAT_STATE 3).brEvt 1
    |>.modBrc (fun b => { b with told := [], waits := false })
    |>.each s.brc.passed (fun e s => (s.setFld (BRC_MST_VALID e) 1).brRefresh e)

/-- The link is in SYNC, with nothing exchanged. -/
def State.brSync (s : State) (hearts : Nat) : State :=
  (s.setFld BRC_STAT_STATE 2).modBrc (fun b => { b with hearts := hearts, tableIn := false, tableOut := false, asked := false })

/-! ### Takeover (R545, R547) -/

/-- An entry is taken over: its channel leaves MIRROR for ON with the last committed D, or for OFF. -/
def State.brTakeOne (s : State) (e : Nat) : State :=
  let n := s.brLocal e
  let d := s.fld (BRC_MD_D e)
  (s.setFld (BRC_MST_TAKEN e) 1).brMark e 1
    |>.when (decide (s.hst n = 9)) (fun s => s.setHst n 0)
    |>.hscApply n d false

/-- A takeover of entries that are valid and not taken. -/
def State.brTakeover (s : State) (l : List Nat) : State :=
  let l := l.filter (fun e => s.brValid e && !s.brTaken e)
  if !s.brFollower || l.isEmpty then s
  else ((s.each l (fun e s => s.brTakeOne e)).setFld BRC_STAT_ACT 1).brEvt 6 |>.record 15 9 0

/-- The whole takeover. -/
def State.brWhole (s : State) : State := (s.brTakeover (List.range 16)).modBrc (fun b => { b with waits := false })

/-- The debounced state of the input BRC_CFG.FSW reads open. -/
def State.fswOpen (s : State) : Bool := !s.sw (s.fld BRC_CFG_FSW)

/-- The link leaves UP for DOWN. -/
def State.brLoss (s : State) : State :=
  (s.setFld BRC_STAT_STATE 1).count BRC_CNT_MISS
    |>.brEvt 2
    |>.record 15 8 0
    |>.modBrc (fun b => { b with hearts := 0, tableIn := false, tableOut := false, asked := false })
    |> fun s =>
      if !s.brFollower then s
      else if s.fld BRC_CFG_TKSRC = 0 ∨ s.fswOpen then s.brWhole
      else s.modBrc (fun b => { b with waits := true })

/-! ### Frames received -/

/-- A taken entry that the leader has resumed: the follower's channel returns to MIRROR at once (R548). -/
def State.brReturn (s : State) (e : Nat) : State :=
  (s.setFld (BRC_MST_TAKEN e) 0).brMark e 2 |>.toMirror (s.brLocal e)

/-- What a HEART says of the link (R540). -/
def State.brLink (s : State) : State :=
  match s.brSt with
  | 2 =>
    let t := s.modBrc (fun b => { b with hearts := b.hearts + 1 })
    if 3 ≤ s.brc.hearts && s.brc.tableIn && s.brc.tableOut then t.brUp else t
  | 4 => s.brSync 1
  | _ => s

/-- A HEART in SYNC, UP or QUIET. `pid`: the partner's module identity. -/
def State.brHeart (s : State) (pid : Nat) (p : List Byte) : State :=
  let lost := byteField p 2 2
  let ol := byteField p 4 6
  let back := (List.range 16).filter (fun e => bitAt (byteField p 10 2) e && s.brTaken e)
  if s.brSt < 2 then s
  else
    (s.setFld BRC_STAT_PLVL (byteField p 1 1)).brLink
      |>.when (decide (bitAt (byteField p 0 1) 0 = s.brFollower)) (fun s => s.brConflict pid)
      |>.each (List.range 16) (fun e s => s.setFld (BRC_MST_LOST e) (b2n (bitAt lost e)))
      |>.when (!s.brFollower) (fun s => s.each (List.range 16) (fun e s => s.setFld (BRC_MST_OL e) (ol / 8 ^ (15 - e) % 8)))
      |>.when (decide (s.brSt ≠ 4)) (fun s => s.brTakeover (onesBelow 16 lost))
      |>.each back (fun e s => s.brReturn e)
      |>.when (!back.isEmpty) (fun s => s.brAct.brEvt 5)

/-- A STATE frame (R543, R544); a FENCED channel, or one LATCHED with cause wire, is taken over. -/
def State.brState (s : State) (p : List Byte) : State :=
  let e := byteField p 0 1 % 16
  let b := byteField p 4 1
  let lost := decide (b / 16 = 8 ∨ (b / 16 = 7 ∧ b / 4 % 4 = 3))
  if s.brSt ≠ 3 ∨ s.brTaken e ∨ s.brFollower = false then s
  else
    (s.setFld (BRC_MD_D e) (byteField p 1 3)).setFld (BRC_MST_PSTATE e) (b / 16)
      |>.setFld (BRC_MST_PLCAUSE e) (b / 4 % 4)
      |>.when lost (fun s => (s.setFld (BRC_MST_LOST e) 1).brTakeover [e])

/-- YIELD: the whole takeover. -/
def State.brYieldIn (s : State) : State := if s.brSt = 3 ∨ s.brSt = 2 then (s.brEvt 0).brWhole else s

/-- An entry that HANDBACK names, whose channel is in MIRROR or OFF, takes its D as a built-in SET (R548). -/
def State.brResume (s : State) (e d : Nat) : State :=
  let n := s.brLocal e
  if s.brValid e ∧ (s.hst n = 9 ∨ s.hst n = 0) then
    ((s.setHst n 0).hscApply n d false).modBrc (fun b => { b with resumed := setBit b.resumed e })
  else s

/-- HANDBACK at the leader. -/
def State.brHandback (s : State) (p : List Byte) : State :=
  let l := onesBelow 16 (byteField p 0 2)
  if s.brSt ≠ 3 ∨ s.brFollower then s
  else (s.each (List.range l.length) (fun i s => s.brResume (l.getD i 0) (byteField p (2 + 3 * i) 3 % 2 ^ 18))).brEvt 5

/-- Every valid entry has D = 0 on both sides, as far as this module knows it. -/
def State.brDark (s : State) : Bool :=
  (List.range 16).all (fun e => !s.brValid e || decide (s.oval (s.brLocal e) = 0 ∧ s.fld (BRC_MD_D e) = 0))

/-- QUIET: a request is accepted or not answered; an acceptance of this module's request takes effect (R549). -/
def State.brQuiet (s : State) (p : List Byte) : State :=
  if s.brSt ≠ 3 then s
  else if byteField p 0 1 = 0 then
    (if s.on BRC_CFG_QOK && s.brDark then (s.brSend [(6, [1])]).setFld BRC_STAT_STATE 4 else s)
  else if s.brc.asked then (s.setFld BRC_STAT_STATE 4).modBrc (fun b => { b with asked := false })
  else s

/-! ### Frames sent -/

/-- Every 1 ms: HEART while the link is on and not in QUIET, and TABLE in SYNC. -/
def brHeartSend (s : State) : State :=
  if s.brSt = 0 ∨ s.brSt = 4 then s
  else
    (s.brSend ((1, s.heartBytes) :: (if s.brSt = 2 then [(3, s.tableBytes)] else []))).modBrc (fun b => { b with
      resumed := 0, tableOut := b.tableOut || decide (s.brSt = 2) })

/-- BRC_CMD.HANDBACK on the acting follower (R548). -/
def State.brHandbackOut (s : State) : State :=
  let l := (List.range 16).filter s.brTaken
  if s.brSt = 3 ∧ s.brFollower ∧ l ≠ [] then
    s.brSend [(5, brBits s.brTaken ++ l.flatMap (fun e => natBe 3 (s.oval (s.brLocal e))))]
  else s

/-- BRC_CMD.QUIET. -/
def State.brQuietOut (s : State) : State :=
  if s.brSt = 3 then (s.brSend [(6, [0])]).modBrc (fun b => { b with asked := true }) else s

/-- BRC_CMD.WAKE, once pad group 3 is released (R549). -/
def State.brWake (s : State) : State :=
  if s.brSt = 0 ∨ s.bit PCR_PAD_LAT 3 then s
  else (s.modBrc (fun b => { b with line := [[]] })).when (decide (s.brSt = 4)) (fun s => s.brSync 0)

/-- A mirror entry written: a valid one marks its new local target, and its old one is an ordinary channel again (R542). -/
def State.brMir (s : State) (e old : Nat) : State :=
  let o := bitsOf old 16 12
  if s.brValid e ∧ o ≠ s.brLocal e then
    (s.setFld (HSC_CFG_BRACE o) 0).when (decide (s.hst o = 9)) (fun s => s.setHst o 0)
      |>.brRefresh e
  else s

/-- EN written: OFF and DOWN (R540). -/
def State.brEnable (s : State) (on : Bool) : State :=
  if on then (if s.brSt = 0 then s.setFld BRC_STAT_STATE 1 else s)
  else (s.setFld BRC_STAT_STATE 0).modBrc (fun b => { b with hearts := 0, tableIn := false, tableOut := false, asked := false, waits := false })

/-! ### The commands -/

def execBraceHeartSend (s : State) : Out State := .next (inDom .fabric brHeartSend s)
def execHeart (b : List Byte) (crc : BitVec 16) (code : Bool) (pid : BitVec 48) (s : State) : Out State :=
  .next (inDom .fabric (fun s => s.brTake ⟨b, crc.toNat, code⟩ 1 (fun p s => s.brHeart pid.toNat p)) s)
def execBraceStateFrame (b : List Byte) (crc : BitVec 16) (code : Bool) (s : State) : Out State :=
  .next (inDom .fabric (fun s => s.brTake ⟨b, crc.toNat, code⟩ 2 (fun p s => s.brState p)) s)
/-- TABLE. `par`: bit `e` is the PAR of the partner's target of entry `e`, which the frame does not carry. -/
def execTable (b : List Byte) (crc : BitVec 16) (code : Bool) (par : BitVec 16) (s : State) : Out State :=
  .next (inDom .fabric (fun s => s.brTake ⟨b, crc.toNat, code⟩ 3 (fun p s => s.brTable par.toNat p)) s)
def execYield (b : List Byte) (crc : BitVec 16) (code : Bool) (s : State) : Out State :=
  .next (inDom .fabric (fun s => s.brTake ⟨b, crc.toNat, code⟩ 4 (fun _ s => s.brYieldIn)) s)
def execHandback (b : List Byte) (crc : BitVec 16) (code : Bool) (s : State) : Out State :=
  .next (inDom .fabric (fun s => s.brTake ⟨b, crc.toNat, code⟩ 5 (fun p s => s.brHandback p)) s)
def execQuiet (b : List Byte) (crc : BitVec 16) (code : Bool) (s : State) : Out State :=
  .next (inDom .fabric (fun s => s.brTake ⟨b, crc.toNat, code⟩ 6 (fun p s => s.brQuiet p)) s)
def execBraceCommaAlign (s : State) : Out State :=
  .next (inDom .fabric (fun s => if s.brSt = 1 then s.brSync 0 else s) s)
def execBraceMiss (s : State) : Out State := .next (inDom .fabric (fun s => if s.brSt = 3 then s.brLoss else s) s)
def execBraceFswOpen (s : State) : Out State :=
  .next (inDom .fabric (fun s => if s.brc.waits && s.fswOpen then s.brWhole else s) s)

end Sys2Proof.Machine
end

