-- ==== Sys2Proof/Machine/Rng.lean ====
section
/-! DEFINITION. Rings, doorbells and the fetch of descriptors; deadlines and provisional actions; configuration
transactions; the remote ring agent (R65 to R99, R105, R116 to R122). -/

namespace Sys2Proof.Machine

/-! ### Rings (R65 to R69, R80) -/

/-- The ring engine takes no descriptor in the safe state (R477), nor after its ACK of an entry (R449). -/
def State.rngHeld (s : State) : Bool := s.flt.safe || (decide (s.fld PCR_ENTRY_PHASE = 1) && bitAt s.pw.acks 3)

/-- The words of a ring: its first and their number. -/
def State.ringWords (s : State) (r : Nat) : Nat × Nat := (s.slotAddr r 0, 8 * s.ringSize r)

/-- A bank that MEM has promised a waiting COMMIT to park (R86). -/
def State.promised (s : State) (k : Nat) : Bool :=
  !s.rng.commits.isEmpty && bitAt (s.fldNext MEM_BANKPARK_PARK) k && s.rng.commits.any (fun e => s.bit (RNG_TXCLAIM_CLAIM e.1) 2)

/-- The first of the checks of R68 that a ring fails, as RNG_RSTAT.CAUSE. -/
def State.ringCause (s : State) (r : Nat) : Nat :=
  let w := s.ringWords r
  let banks := banksOf w.1 w.2
  if !inRam w.1 w.2 then 1
  else if (List.range 64).any (fun q => decide (q ≠ r) && s.on (RNG_RCFG_EN q) &&
      decide ((s.ringWords q).1 < w.1 + w.2 ∧ w.1 < (s.ringWords q).1 + (s.ringWords q).2)) then 2
  else if banks.any (fun k => decide (s.bankSt k = 1) || s.promised k) then 3
  else if banks.any (fun k => decide (s.bankSt k = 2)) then 4
  else if s.fld (RNG_RCFG_ENGINE r) = 0 then 5
  else 0

/-- EN of a ring has been written from 0 to 1 (R68, R69): on a failed check only the cause is recorded. -/
def State.ringEnable (s : State) (r : Nat) : State :=
  let c := s.ringCause r
  if c ≠ 0 then (s.setFld (RNG_RCFG_EN r) 0).setFld (RNG_RSTAT_CAUSE r) c
  else
    ((s.setReg (rRNG_RSTAT r) 0).setFld (RNG_RSTAT_STATE r) 1).setReg (rRNG_DB r) 0
      |>.modRng (fun x => { x with reqs := smKeep (fun k => decide (k / 1024 ≠ r)) x.reqs })

/-- The preparation of a provisional undone, or that of a confirmation which does not act (R120). -/
def State.provUndo (s : State) (d : Desc) : State :=
  match d.eng with
  | 2 => s.hscUndo d.target
  | 3 => s.motUndo d.target
  | 4 => s.vlvUndo d.target
  | 5 => s.luxUndo d
  | _ => s

/-- A descriptor that has not started completes with a status, and what it prepared is undone. -/
def State.withdraw (s : State) (d : Desc) (st : Nat) : State :=
  (if d.warm || decide (d.eng = 5 ∧ 32 ≤ d.target) then s.provUndo d else s).finish d st 0

/-- A descriptor that has not started completes ABORTED (R80). -/
def State.abortDesc (s : State) (d : Desc) : State := s.withdraw d stAborted

/-- EN of a ring has been cleared (R80, R89); its window bindings end (R384). -/
def State.ringDisable (s : State) (r : Nat) : State :=
  (s.setFld (RNG_RSTAT_STATE r) 0).each (s.descs.filter (fun d : Desc => decide (d.ring = r) && !d.mute && !d.started)) (fun d s =>
    let o := s.commitOwner d
    let s := s.abortDesc d
    match o with
    | some o => s.txRelease o 2
    | none => s)
    |>.zswRingOff r

/-- The doorbell of a ring by its owner, with the PIDX written (R69); any other sets DBREF. A PIDX not below the size is a
reserved encoding (R11, R77), in a doorbell that is ignored too. -/
def State.doorbell (s : State) (o r v : Nat) : State :=
  let ignored := decide (o ≠ s.fld (RNG_RCFG_OWNER r)) || !s.on (RNG_RCFG_EN r) || decide (s.fld (RNG_RSTAT_STATE r) ≠ 1)
  let bad := decide (s.ringSize r ≤ v)
  if ignored || bad then (s.raiseIf ignored RNG_FLAG_DBREF).raiseIf bad RNG_FLAG_ENCREF
  else
    (s.setFld (RNG_DB_PIDX r) v).setFld (RNG_RSTAT_STALL r) 0
      |>.traceC 3 8 r v s.faultTime.1

/-- DOORBELL: a store of a core to RNG_DB, after its earlier stores (R76). -/
def execDoorbell (c : CoreId) (r : Fin 64) (v : BitVec 10) (s : State) : Out State :=
  .next ((s.drainAll c.num).ioGate c (rRNG_DB r) (fun s => s.doorbell c.num r v.toNat))

/-! ### The fetch (R70 to R74, R77, R78, R118 to R120) -/

/-- The descriptor in a slot. -/
def State.readDesc (s : State) (e r i : Nat) : Desc :=
  let a := s.slotAddr r i
  let w (k : Nat) : Word := s.rd (a + k)
  { id := s.rng.nextId, ring := r, slot := i, eng := e, owner := s.fld (RNG_RCFG_OWNER r),
    w0 := w 0, w1 := w 1, w2 := w 2, w3 := w 3, w4 := w 4, w5 := w 5, w6 := w 6, phase := .ready,
    req := smGet (fun _ => (0, 0)) s.rng.reqs (r * 1024 + i) }

/-- Descriptors that an engine holds. -/
def State.heldBy (s : State) (e : Nat) : Nat := (s.descs.filter (fun d : Desc => decide (d.eng = e))).length

/-- A ring whose next slot its engine may fetch: running, with a posted slot, not stalled, and not behind a FENCE that
waits or a full transmit buffer (R73, R333). -/
def State.fetchable (s : State) (e r : Nat) : Bool :=
  let i := s.fld (RNG_RSTAT_FIDX r)
  let d := s.readDesc e r i
  s.on (RNG_RCFG_EN r) && decide (s.fld (RNG_RCFG_ENGINE r) = e ∧ s.fld (RNG_RSTAT_STATE r) = 1)
    && decide (s.fld (RNG_DB_PIDX r) ≠ i) && !s.on (RNG_RSTAT_STALL r)
    && !(bitAt d.w0.toNat 17 && bitAt d.w0.toNat 14 && s.descs.any (fun x : Desc => decide (x.ring = r) && !x.mute))
    && !(bitAt d.w0.toNat 17 && s.netBlocked d)

/-- The next ring an engine serves: the first fetchable one after the ring last served, PRIO = 1 first (R70). -/
def State.nextRing (s : State) (e : Nat) : Option Nat :=
  let pick (p : Nat) : Option Nat :=
    let l := (List.range 64).filter (fun r => decide (s.fld (RNG_RCFG_PRIO r) = p) && s.fetchable e r)
    match smFind s.rng.served (e * 2 + p) with
    | some q => (l.find? (fun r => decide (q < r))).or l.head?
    | none => l.head?
  (pick 1).or (pick 0)

/-- The configuration engine's checks of a descriptor alone (R91). -/
def cfgJudge (d : Desc) : Option (Nat × Nat) :=
  let o := d.opcode
  let zone := decide (d.w2.toNat % 4 = 1)
  if 4 < o then some (stBadOpcode, 0)
  else if d.target ≠ 0 then some (stBadTarget, 0)
  else if d.isProv then some (stBadDesc, 0)
  else if d.isTimed && !(decide (o = 3) && zone) then some (stBadDesc, 0)
  else if o = 3 ∧ zone ∧ !d.isTimed then some (stBadDesc, 0)
  else if o = 0 ∧ d.w2 ≠ 0 then some (stBadParam, 2)
  else if o = 0 ∧ d.w3 ≠ 0 then some (stBadParam, 3)
  else if o = 0 ∧ d.w4 ≠ 0 then some (stBadParam, 4)
  else none

/-- An engine's checks of a descriptor alone (R72). -/
def State.engJudge (s : State) (d : Desc) : Option (Nat × Nat) :=
  if bitAt d.w0.toNat 12 then some (stBadDesc, 0)
  else
    match d.eng with
    | 1 => cfgJudge d
    | 2 => s.hscJudge d
    | 3 => s.motJudge d
    | 4 => s.vlvJudge d
    | 5 => s.luxJudge d
    | 6 => s.lfJudge d
    | 7 => s.netJudge d
    | _ => s.hostJudge d

/-- The buffer words that an acceptance reads. -/
def State.bufRange (s : State) (d : Desc) : Nat × Nat :=
  let a := d.w2.toNat
  if d.eng = 7 ∧ (d.opcode = 1 ∨ d.opcode = 3) then
    (a, if s.rangeBad a 8 ∨ d.opcode = 3 then 8 else 8 + ((s.bufFrame a).data.length + 1) / 2)
  else if d.eng = 5 ∧ (d.opcode = 7 ∨ d.opcode = 11) then (a, d.pxWords)
  else if d.eng = 8 ∧ d.opcode = 1 then (a, (d.w3.toNat + 1) / 2)
  else (a, 0)

/-- An accepted descriptor enters its engine. -/
def State.hold (s : State) (d : Desc) : State := s.setDescs (s.descs ++ [d])

/-- The acceptance of a descriptor as an event of R111 on its target's output. -/
def State.acceptEvent (s : State) (d : Desc) : State :=
  match outOf d.eng d.target with
  | some n => if d.opcode = 0 then s else s.seqEvent n 4
  | none => s

/-- A provisional is accepted (R118, R122): an earlier one of the target is superseded. -/
def State.acceptProv (s : State) (d : Desc) : State :=
  let old := s.provDesc d.eng d.target
  if old.any (fun p => decide (p.tag = d.tag)) then (s.hold d).finish d stBadDesc 0
  else
    (match old with
     | some p => (s.finish p stSuperseded 0).count SEQ_PCNT1_PSUP
     | none => s).acceptEvent d
      |>.hold { d with phase := .provWait }
      |>.setProvp d.eng d.target true
      |>.count SEQ_PCNT0_PACC
      |>.when (!d.isTimed && !s.descFrozen d) (fun s => s.provStart d)

/-- The pending provisional that a descriptor matches but for its opcode (R119). -/
def State.provMatch (s : State) (d : Desc) : Option Desc :=
  if 2 ≤ d.eng ∧ d.eng ≤ 6 then
    (s.provDesc d.eng d.target).bind (fun p => if p.owner = d.owner ∧ p.tag = d.tag then some p else none)
  else none

/-- A confirmation completes its provisional CONFIRMED and takes over its preparation (R119, R120). -/
def State.confirm (s : State) (d p : Desc) : State :=
  ((s.acceptEvent d).finish p stConfirmed (d.ring * 64 + d.slot % 64)).count SEQ_PCNT0_PCONF
    |>.hold { d with conf := true, warm := decide (p.phase = .prov), phase := if d.isTimed then .timed else .ready }

/-- A descriptor without fault enters its engine: as a provisional, as a confirmation, or to act. -/
def State.enter (s : State) (d : Desc) : State :=
  let lux (s : State) : State := if d.eng = 5 then s.luxAccept d else s
  let send (s : State) : State := if d.eng = 5 ∧ 32 ≤ d.target ∧ d.isTimed then s.pxNext (d.target - 32) else s
  if d.isProv then (lux s).acceptProv d
  else
    match s.provMatch d with
    | some p => if p.opcode = d.opcode then send ((lux s).confirm d p) else (s.hold d).finish d stBadDesc 0
    | none => send (((lux s).acceptEvent d).hold { d with phase := if d.isTimed ∧ d.eng ≠ 1 then .timed else .ready })

/-- A fetched descriptor is judged and accepted, or completes (R72, R74, R119). One whose acceptance would break a ready answer
of its engine's agent is refused (R86). -/
def State.accept (s : State) (d : Desc) : State :=
  let b := s.bufRange d
  match s.engJudge d with
  | some r => (if r.1 = stMemError then s.portRead b.1 b.2 else s).hold d |>.finish d r.1 r.2
  | none =>
    let s := s.portRead b.1 b.2
    if d.isTimed && decide (d.eng ≠ 1) && s.passed d then (s.hold d).finish d stLate 0
    else
      let t := s.enter d
      if s.breaksPromise t || s.breaksAck t then (s.hold d).finish d stDenied 0 else t

/-- The next slot of a ring fetched (R77). -/
def State.fetch (s : State) (e r : Nat) : State :=
  let i := s.fld (RNG_RSTAT_FIDX r)
  let a := s.slotAddr r i
  let d := s.readDesc e r i
  let bad := (List.range 8).find? (fun k => decide (s.eccOf (a + k) = 2))
  let s := (s.portRead a 8).modRng (fun x => { x with served := nPut x.served (e * 2 + s.fld (RNG_RCFG_PRIO r)) r })
  if bad ≠ some 0 ∧ !bitAt d.w0.toNat 17 then s.setFld (RNG_RSTAT_STALL r) 1
  else
    let s := (s.setFld (RNG_RSTAT_FIDX r) ((i + 1) % s.ringSize r)).modRng (fun x =>
      { x with nextId := x.nextId + 1, reqs := smErase x.reqs (r * 1024 + i) })
    match bad with
    | some k => (s.hold d).finish d stMemError k
    | none => s.accept d

/-- DESCRIPTOR_FETCH by an engine, 1 to 8. -/
def descriptorFetch (e : Nat) (s : State) : State :=
  let act := decide (2 ≤ e ∧ e ≤ 6)
  if s.rngHeld || (act && (!s.pw.ready || !s.domOn .act || decide (64 ≤ s.heldBy e))) then s
  else
    match s.nextRing e with
    | some r => s.fetch e r
    | none => s
def execDescriptorFetch (e : Fin 9) (s : State) : Out State :=
  .next (inDom .fabric (fun s => if e.val = 0 then s else descriptorFetch e s) s)

/-! ### Deadlines and provisionals (R113, R116, R117, R120, R122) -/

/-- A descriptor's action at its apply time. -/
def State.actDesc (s : State) (d : Desc) (held : Bool) : State :=
  if d.opcode = 0 ∧ (d.eng < 2 ∨ 6 ≤ d.eng) then s.finishDone d 0
  else
    match d.eng with
    | 2 => s.hscAct d held
    | 3 => s.motAct d
    | 4 => s.vlvAction d
    | 5 => s.luxAct d
    | 6 => lfShown (lfField d) s
    | 7 => if d.opcode = 1 then busTx d s else if d.opcode = 3 then hdr d s else linWake d s
    | _ => txFrame d s

/-- DESCRIPTOR_NOP. -/
def execDescriptorNop (r : Fin 64) (i : Fin 1024) (s : State) : Out State :=
  .next (match s.descAt r i .ready with
    | some d => if d.opcode = 0 then s.onReady d.eng 0 r i (fun d s => s.actDesc d false) else s
    | none => s)

/-- A later descriptor of the target that falls due on the same tick (R117): with the same deadline, or with one that has passed at
the same step or resume. -/
def State.sameTick (s : State) (d : Desc) : Bool :=
  2 ≤ d.eng && decide (d.eng ≤ 6) && s.descs.any (fun x : Desc => decide (x.phase = .timed ∧ x.eng = d.eng ∧ x.target = d.target
    ∧ d.id < x.id) && (decide (x.deadline = d.deadline) || (x.due && d.due)))

/-- DEADLINE of a TIMED descriptor. `late`: the change is applied after the deadline; `held` as for HSC_SET. -/
def deadline (r i : Nat) (late held : Bool) (s : State) : State :=
  match s.descAt r i .timed with
  | some d =>
    let l := late || d.due
    let x : Desc := { d with phase := .ready, wasTimed := true, cond := s.condOf d l }
    if d.eng = 1 ∨ s.descFrozen d then s
    else if s.sameTick d then (s.provUndo d).finish d stSuperseded 0
    else
      let s := s.setDesc x
      let t := (s.confSupersede x).actDesc x held
      if s.breaksPromise t then s.withdraw x stDenied else t.unwarm x (fun t => t.provUndo x)
  | none =>
    match s.descAt r i .provWait with
    | some d =>
      if s.descFrozen d then s
      else
        let t := s.provStart { d with wasTimed := true, cond := s.condOf d (late || d.due) }
        if s.breaksPromise t then s.withdraw d stDenied else t
    | none => s
def execDeadline (r : Fin 64) (i : Fin 1024) (late held : Bool) (s : State) : Out State := .next (deadline r i late held s)

/-- TPROV_EXPIRY (R120). -/
def execTprovExpiry (r : Fin 64) (i : Fin 1024) (s : State) : Out State :=
  .next (inDom .act (fun s =>
    match s.descAt r i .prov with
    | some d => lfShown (fun s => ((s.provUndo d).finish d stReverted 0).count SEQ_PCNT1_PREV) s
    | none => s) s)

/-- The instance of a PROVLEAK record (R636). -/
def leakInst (e t : Nat) : Nat :=
  match outOf e t with
  | some n => n
  | none => if e = 6 then 128 + t else if t < 32 then 132 + (t - 24) else 140 + (t - 32)

/-- PROVLEAK (R122). -/
def execProvleak (r : Fin 64) (i : Fin 1024) (s : State) : Out State :=
  .next (inDom .act (fun s =>
    match s.descAt r i .prov with
    | some d =>
      ((s.provUndo d).finish d stFenced 0).raise SEQ_FLAG_PLEAK
        |>.record 6 3 (leakInst d.eng d.target)
    | none => s) s)

/-! ### Transactions (R82 to R92) -/

/-- Blocks that have TX fields. -/
def txBlocks : List Nat := [2, 4, 5, 6, 7, 8, 9, 10, 11, 12, 13, 14]

/-- The domain of a block's registers (R17). -/
def blockDom (b : Nat) : Dom :=
  match b with
  | 2 => .fabric
  | 11 => .net
  | 12 => .zsw
  | 13 => .zsw
  | _ => .act

/-- A BEGIN's claim mask and the first condition of R84 that it meets. -/
def State.beginBars (s : State) (d : Desc) : Option (Nat × Nat) :=
  let o := d.owner
  let m := d.w2.toNat
  let bs := onesBelow 16 m
  if s.on (RNG_TXSTAT_OPEN o) then some (0o23, 0)
  else if 2 ^ 16 ≤ m ∨ m = 0 ∨ bs.any (fun b => !txBlocks.contains b) then some (stBadParam, 2)
  else if 2 ^ 16 ≤ d.w3.toNat ∨ d.w3 = 0 then some (stBadParam, 3)
  else if d.w4 ≠ 0 then some (stBadParam, 4)
  else if 4 ≤ o ∧ bs.any (fun b => !s.bit (RNG_SCLAIM_MASK (o - 4)) b) then some (stDenied, 0)
  else if bs.any (fun b => !s.domOn (blockDom b)) then some (stDomainLost, 0)
  else
    -- DESIGN CHOICE: of several blocks held by others, CLAIMED names the lowest (R92 leaves it open)
    match bs.find? (fun b => (s.claimant b).isSome) with
    | some b => some (0o20, b * 256 + (s.claimant b).getD 0)
    | none => none

/-- The shadow of SEQ_OCFG at BEGIN: a PHASE instruction may change the live field meanwhile (R83, R111). -/
def State.shadowOcfg (s : State) : State :=
  s.modRng (fun x => { x with
    shadow := (List.range 128).foldl (fun m n => smInsert m (rSEQ_OCFG n) (toWord (nGet s.ocfg n + (if (smFind s.ocfg n).isSome then 0 else s.reg (rSEQ_OCFG n))))) x.shadow })

/-- BEGIN (R84, R85). -/
def begin_ (d : Desc) (s : State) : State :=
  let o := d.owner
  match s.beginBars d with
  | some r => s.finish d r.1 r.2
  | none =>
    (s.setFld (RNG_TXSTAT_OPEN o) 1).setFld (RNG_TXSTAT_WAIT o) 0
      |>.setFld (RNG_TXCLAIM_CLAIM o) d.w2.toNat
      |>.setFld (RNG_TXLEFT_LEFT o) d.w3.toNat
      |>.modRng (fun x => { x with left := nPut x.left o ((d.w3.toNat * 32768 + 999) / 1000) })
      |>.when (bitAt d.w2.toNat 6) State.shadowOcfg
      |>.finish d stDone 0
def execBegin (r : Fin 64) (i : Fin 1024) (s : State) : Out State := .next (inDom .fabric (fun s => s.onReady 1 1 r i (fun d s =>
    let t := begin_ d s
    if s.breaksAck t then s.finish d stDenied 0 else t)) s)

/-- The answer of a block's agent to a prepare request: a refusal's status and cause (R86, R88). -/
def State.prepare (s : State) (b : Nat) : Option (Nat × Nat) :=
  let busy (c : Option Nat) : Option (Nat × Nat) := c.map (fun k => (0o21, k))
  if !s.domOn (blockDom b) then some (stDomainLost, 0)
  else
    match b with
    | 2 => busy s.memCommitRefuse
    | 5 => busy s.thmCommitRefuse
    | 6 => (busy s.seqCommitRefuse).or (if s.seqCommitFenced then some (stFenced, 0) else none)
    | 11 => busy s.netCommitRefuse
    | 12 => busy s.zswCommitRefuse
    | 13 => busy s.ethCommitRefuse
    | _ => busy (s.actorRefuse b)

/-- The lowest claimed block that refuses, with its status and cause. -/
def State.refuser (s : State) (o : Nat) : Option (Nat × Nat × Nat) :=
  (onesBelow 16 (s.fld (RNG_TXCLAIM_CLAIM o))).findSome? (fun b => (s.prepare b).map (fun r => (b, r.1, r.2)))

/-- What keeps a COMMIT from being accepted (R86, R91). -/
def State.commitBars (s : State) (d : Desc) : Option (Nat × Nat) :=
  let w := d.w2.toNat
  let p := w % 4
  let g := bitsOf w 7 4
  if p = 3 ∨ bitsOf w 3 2 ≠ 0 ∨ 256 ≤ w ∨ (p ≠ 2 ∧ g ≠ 0) then some (stBadParam, 2)
  else if d.w3 ≠ 0 then some (stBadParam, 3)
  else if d.w4 ≠ 0 then some (stBadParam, 4)
  else if !s.on (RNG_TXSTAT_OPEN d.owner) then some (0o22, 0)
  else if (smFind s.rng.commits d.owner).isSome then some (0o23, 0)
  else if p = 2 ∧ !s.grpRuns g then some (0o24, g)
  else if p = 1 ∧ s.passed d then some (stLate, 0)
  else none

/-- COMMIT: judged, and when accepted every claimed agent is asked (R86 to R88). -/
def commit (d : Desc) (s : State) : State :=
  let o := d.owner
  match s.commitBars d with
  | some r => s.finish d r.1 r.2
  | none =>
    match s.refuser o with
    | some (b, st, k) => (s.txRelease o 4).finish d st (b * 256 + k)
    | none =>
      let w : CommitWait := ⟨d.id, d.w2.toNat % 4, bitsOf d.w2.toNat 7 4⟩
      (s.setFld (RNG_TXSTAT_WAIT o) 1).setDesc { d with phase := .timed }
        |>.modRng (fun x => { x with
            commits := smInsert x.commits o w, fencedSince := smErase x.fencedSince o })
def execCommit (r : Fin 64) (i : Fin 1024) (s : State) : Out State := .next (inDom .fabric (fun s => s.onReady 1 3 r i commit) s)

/-- A register as the commit leaves it: its TX bits from the shadow. -/
def State.regCommitted (s : State) (k : Nat) : Word := mixBits (txMask k (fun _ => true)) (smGet regReset s.io k) (toWord (s.regNext k))

/-- The registers that the shadows of an owner's transaction would change. -/
def State.changedRegs (s : State) (o : Nat) : List Nat :=
  (s.rng.shadow.filter (fun e => s.bit (RNG_TXCLAIM_CLAIM o) (e.1 / 4096)
    && decide (s.regCommitted e.1 ≠ smGet regReset s.io e.1))).map Prod.fst

/-- Registers at stride 16 from a base: the instance. -/
def at16 (k base n : Nat) : Option Nat := if base ≤ k ∧ k < base + 16 * n then some ((k - base) / 16) else none

/-- The keys of the units whose TX fields a register holds (R87). -/
def State.regUnits (s : State) (k : Nat) : List Nat :=
  let one (base n : Nat) (f : Nat → FUnit) : List Nat :=
    match at16 k base n with
    | some i => [(f i).key]
    | none => []
  match k / 4096 with
  | 2 => if k = rMEM_BANKPARK then (List.range 8).filterMap (fun b => if bitAt (s.regNext k) b = bitAt (s.reg k) b then none else some (2 * 256 + b)) else []
  | 4 => one 0x4100 64 (fun n => .target 2 n)
  | 5 => one 0x5100 128 (fun o => .target (s.tgtOf o).1 (s.tgtOf o).2)
  | 6 => one 0x6400 128 (fun o => .target (s.tgtOf o).1 (s.tgtOf o).2)
      ++ (match at16 k 0x6100 16 with
        | some g => (List.range 128).filterMap (fun n => if s.grp n = g then some (FUnit.group n).key else none)
        | none => [])
  | 7 => one 0x7100 16 (fun h => .target 3 (s.motOf h)) ++ one 0x7300 4 (fun g => .target 3 (24 + g)) ++ one 0x7400 4 (fun g => .target 3 (24 + g))
  | 8 => one 0x8100 4 (fun m => .target 4 (16 + m)) ++ one 0x8200 16 (fun n => .target 4 n)
  | 9 => one 0x9100 24 (fun n => .target 5 n) ++ one 0x9500 8 (fun n => .target 5 (24 + n)) ++ one 0x9600 8 (fun n => .target 5 (24 + n))
      ++ one 0x9700 2 (fun n => .target 5 (32 + n))
  | 10 => one 0xA680 4 (fun n => .psi n) ++ one 0xA400 24 (fun n => .adc (8 + n / 12))
  | 11 => one 0xB100 6 (fun n => .chan n) ++ one 0xB200 6 (fun n => .chan n) ++ one 0xB800 4 (fun n => .chan (8 + n))
  | 12 => one 0xC100 10 (fun n => .port n) ++ one 0xC200 80 (fun n => .port (n / 8))
  | 13 => one 0xD100 10 (fun n => .port n) ++ one 0xD400 80 (fun n => .port (n / 8)) ++ one 0xDD00 6 (fun n => .port n)
  | 14 => one 0xE100 4 (fun n => .target 6 n)
  | _ => []

/-- The lowest claimed block with a unit fenced since the prepare, whose TX fields the shadows change (R87). -/
def State.fencedBlock (s : State) (o : Nat) : Option Nat :=
  ((s.changedRegs o).find? (fun k => (s.regUnits k).any (fun u => (lGet s.rng.fencedSince o).contains u))).map (· / 4096)

/-- Shadows applied. -/
def State.applyShadow (s : State) (o : Nat) : State :=
  s.each (s.rng.shadow.filter (fun e => s.bit (RNG_TXCLAIM_CLAIM o) (e.1 / 4096))) (fun e s =>
    s.setReg e.1 (s.regCommitted e.1).toNat)

/-- A frame that a commit point in a group starts or cuts: its PER or PRE changed. -/
def State.reframed (s was : State) (g : Nat) : Bool :=
  decide (s.fld (SEQ_GCFG_PER g) ≠ was.fld (SEQ_GCFG_PER g) ∨ s.fld (SEQ_GCFG_PRE g) ≠ was.fld (SEQ_GCFG_PRE g))

/-- An output's SEQ_OCFG after a commit (R105): in force at once, or at the next frame boundary of its new group. -/
def State.ocfgCommit (s was : State) (point : Option Nat) (n : Nat) : State :=
  let v := s.reg (rSEQ_OCFG n)
  let g := bitsOf v 17 14
  if v = was.reg (rSEQ_OCFG n) ∨ point = some g ∨ s.reframed was g ∨ !s.grpRuns g then { s with ocfg := smErase s.ocfg n }
  else
    let t := s.setReg (rSEQ_OCFG n) (was.reg (rSEQ_OCFG n))
    { t with ocfg := smInsert (smErase t.ocfg n) n v }

/-- What the commit of SEQ_OCFG does; a change that waited for a group that now runs no frame takes effect. -/
def State.seqCommitted (s was : State) (point : Option Nat) : State :=
  s.each (List.range 128) (fun n s => s.ocfgCommit was point n)

/-- Every claimed block follows its new configuration. -/
def State.committed (s was : State) (o : Nat) (point : Option Nat) : State :=
  let has (b : Nat) : Bool := was.bit (RNG_TXCLAIM_CLAIM o) b
  s.when (has 6) (fun s => s.seqCommitted was point)
    |>.when (has 4) State.hscCommitted
    |>.when (has 2) State.memCommitted
    |>.when (has 5) State.thmCommitted
    |>.when (has 7) (fun s => s.motCommitted was)
    |>.when (has 8) (fun s => s.vlvCommitted was)
    |>.when (has 9) (fun s => s.luxCommitted was point)
    |>.when (has 10) (fun s => s.inpCommitted was)
    |>.when (has 11) (fun s => s.netCommitted was)
    |>.when (has 12) (fun s => s.zswCommitted was)
    |>.when (has 13) (fun s => s.ethCommitted was)

/-- The point of a waiting COMMIT (R86, R87). `late`: a zone time that had passed when the agents answered. -/
def commitPoint (o : Nat) (late : Bool) (s : State) : State :=
  match smFind s.rng.commits o with
  | none => s
  | some w =>
    match s.descId w.id with
    | none => s
    | some d =>
      if w.point = 2 ∧ !s.grpRuns w.group then (s.txRelease o 4).finish d 0o24 w.group
      else
        match s.fencedBlock o with
        | some b => (s.txRelease o 4).finish d stFenced (b * 256)
        | none =>
          let t := ((s.applyShadow o).committed s o (if w.point = 2 then some w.group else none)).txRelease o 1
          t.finish d stDone (if w.point = 1 then s.condOf d (late || d.due) * 512 else 0)
def execCommitPoint (o : Fin 8) (late : Bool) (s : State) : Out State := .next (inDom .fabric (commitPoint o late) s)

/-- ROLLBACK (R89). -/
def rollback (d : Desc) (s : State) : State :=
  let o := d.owner
  if d.w2 ≠ 0 then s.finish d stBadParam 2
  else if d.w3 ≠ 0 then s.finish d stBadParam 3
  else if d.w4 ≠ 0 then s.finish d stBadParam 4
  else if !s.on (RNG_TXSTAT_OPEN o) then s.finish d 0o22 0
  else
    let s := match (smFind s.rng.commits o).bind (fun w => s.descId w.id) with
      | some x => s.finish x stAborted 0
      | none => s
    (s.txRelease o 2).finish d stDone 0
def execRollback (r : Fin 64) (i : Fin 1024) (s : State) : Out State := .next (inDom .fabric (fun s => s.onReady 1 4 r i rollback) s)

/-- TX_TIMEOUT (R85). -/
def txTimeout (o : Nat) (s : State) : State :=
  if s.on (RNG_TXSTAT_OPEN o) && !s.on (RNG_TXSTAT_WAIT o) then ((s.txRelease o 3).raise RNG_FLAG_TXEXP).record 3 2 o else s
def execTxTimeout (o : Fin 8) (s : State) : Out State := .next (inDom .fabric (fun s => if o.val = 3 then s else txTimeout o s) s)

/-! ### The remote ring agent (R93 to R99) -/

/-- The freshness counters of a slot. -/
def State.shf (s : State) (k : Nat) : Nat := s.fld (RNG_SHFH_SHFH k) * 65536 + s.fld (RNG_SHFL_SHFL k)
def State.setShf (s : State) (k v : Nat) : State := (s.setFld (RNG_SHFH_SHFH k) (v / 65536)).setFld (RNG_SHFL_SHFL k) v
def State.smf (s : State) (k : Nat) : Nat := s.fld (RNG_SMFH_SMFH k) * 65536 + s.fld (RNG_SMFL_SMFL k)

/-- The module freshness counter raised by 1. -/
def State.smfUp (s : State) (k : Nat) : State :=
  let v := (s.smf k + 1) % 2 ^ 32
  (s.setFld (RNG_SMFH_SMFH k) (v / 65536)).setFld (RNG_SMFL_SMFL k) v

/-- The tag of a slot over some bytes. -/
def State.slotTag (s : State) (k : Nat) (b : List Byte) : List Byte :=
  toBytes (aesCmac8 (numBytes 16 ((s.keyEntry (8 + k)).getD 0)) (ofBytes b))

/-- The slot's freshness counter raised, and the VLAN and priority that R368 gives an authenticated frame recorded with its
source address (R95). -/
def State.noteReply (s : State) (k : Nat) (h : ZHead) (v : Nat) : State :=
  (s.setShf k v).modRng (fun x => { x with reply := smInsert (smErase x.reply k) k ⟨h.src, h.vid, h.pri⟩ })

/-- The addresses and the tag of a frame to a slot's reply address. -/
def State.replyHead (s : State) (k : Nat) : List Byte :=
  let r := smGet (fun _ => {}) s.rng.reply k
  natBe 6 r.mac ++ natBe 6 s.hostMac ++ natBe 2 0x8100 ++ natBe 2 (r.pri * 8192 + r.vid)

/-- A response to a slot's reply address, followed by its tag (R97). -/
def State.respond (s : State) (k : Nat) (b : List Byte) : State :=
  let f := s.replyHead k ++ natBe 2 0x88B5 ++ b ++ s.slotTag k b
  ((s.modRng (fun x => { x with sent := [f] })).offerP8 f).1

/-- An acceptance response (R97). -/
def State.acceptance (s : State) (k ring st req first n : Nat) : State :=
  let s := s.smfUp k
  s.respond k (natBe 1 0x12 ++ natBe 1 k ++ natBe 1 ring ++ natBe 1 st ++ natBe 4 (s.smf k) ++ natBe 2 req ++ natBe 2 first
    ++ natBe 1 n ++ natBe 1 0)

/-- A refusal's response: the slot index of the first descriptor is a free value. -/
def State.refuseReq (s : State) (k ring st req : Nat) : State := (s.acceptance k ring st req (s.draw.toNat % 65536) 0).drew

/-- Posted and not completed descriptors of a remote slot (R99): those not fetched, and those that an engine holds and will
complete. -/
def State.slotOpen (s : State) (k : Nat) : Nat :=
  (s.rng.reqs.filter (fun e => decide (s.fld (RNG_RCFG_OWNER (e.1 / 1024)) = 4 + k))).length
    + (s.descs.filter (fun d : Desc => decide (d.owner = 4 + k) && !d.mute)).length

/-- The word that three bytes carry (R93). -/
def word3 (b : List Byte) (i : Nat) : Word := toWord (byteField b i 3)

/-- The slots that a request's descriptors take. -/
def State.reqSlots (s : State) (ring n : Nat) : List Nat :=
  (List.range n).map (fun j => (s.fld (RNG_DB_PIDX ring) + j) % s.ringSize ring)

/-- A slot whose OWN reads 0. -/
def State.slotFree (s : State) (ring i : Nat) : Bool :=
  let a := s.slotAddr ring i
  decide (s.eccOf a ≠ 2) && !bitAt (s.rd a).toNat 17

/-- A request's descriptors posted, and the doorbell rung (R96). -/
def State.postReq (s : State) (k ring n req : Nat) (p : List Byte) : State :=
  (s.each (List.range n) (fun j s =>
      let i := (s.fld (RNG_DB_PIDX ring) + j) % s.ringSize ring
      let a := s.slotAddr ring i
      let w (x : Nat) : Word := word3 p (10 + 24 * j + 3 * x)
      (s.each [1, 2, 3, 4, 5, 6] (fun x s => s.wr (a + x) (w x))).wr (a + 7) 0
        |>.wr a (w 0 ||| 0o400000)
        |>.modRng (fun x => { x with reqs := smInsert (smErase x.reqs (ring * 1024 + i)) (ring * 1024 + i) (req, j) }))).doorbell
    (4 + k) ring ((s.fld (RNG_DB_PIDX ring) + n) % s.ringSize ring)

/-- An authenticated request judged by checks 5 to 9 (R95). -/
def State.reqJudge (s : State) (k : Nat) (p : List Byte) : State :=
  let ring := byteField p 2 1
  let n := byteField p 3 1
  let req := byteField p 8 2
  let lim := if s.fld (RNG_SCTL_LIMIT k) = 0 then 64 else s.fld (RNG_SCTL_LIMIT k)
  if ring < 56 ∨ 63 < ring ∨ s.fld (RNG_RCFG_OWNER ring) ≠ 4 + k then s.refuseReq k ring 1 req
  else if !s.on (RNG_RCFG_EN ring) ∨ s.fld (RNG_RSTAT_STATE ring) ≠ 1 then s.refuseReq k ring 2 req
  else if (List.range (8 * n)).any (fun j => decide (4 ≤ byteField p (10 + 3 * j) 1)) then s.refuseReq k ring 4 req
  else if lim < s.slotOpen k + n then s.refuseReq k ring 5 req
  else if (s.reqSlots ring n).any (fun i => !s.slotFree ring i) then s.refuseReq k ring 3 req
  else
    let first := s.fld (RNG_DB_PIDX ring)
    (s.postReq k ring n req p).acceptance k ring 0 req first n

/-- A discarded frame. -/
def State.rdrop (s : State) : State := s.raise RNG_FLAG_RDROP

/-- A frame for the agent that arrived on a port (R94, R95). -/
def State.agentFrame (s : State) (port : Nat) (b : List Byte) : State :=
  let h := s.zHead port b none
  let p := b.drop h.off
  let k := byteField p 1 1
  let n := byteField p 3 1
  let len := 10 + 24 * n
  if byteField p 0 1 ≠ 0x11 ∨ 3 < k ∨ n = 0 ∨ 8 < n ∨ p.length < len + 8 then ((s.count RNG_ADROP_FMT).rdrop).record 3 3 0
  else if !s.on (RNG_SCTL_EN k) then (s.count RNG_ADROP_NOSLOT).rdrop
  else if sliceD p len 8 0 ≠ s.slotTag k (p.take len) then ((s.count (RNG_SDROP_AUTH k)).rdrop).record 3 4 k
  else if byteField p 4 4 ≤ s.shf k then ((s.count (RNG_SDROP_FRESH k)).rdrop).record 3 5 k
  else
    (s.noteReply k h (byteField p 4 4)).reqJudge k p

/-- REMOTE_REQUEST: the agent takes the oldest frame that waits for it. -/
def remoteRequest (s : State) : State :=
  match s.zsw.agentIn with
  | (port, b) :: t => if s.rngHeld then s else (s.modZsw (fun z => { z with agentIn := t })).agentFrame port b
  | [] => s
def execRemoteRequest (s : State) : Out State := .next (inDom .fabric remoteRequest s)

/-- The twelve bytes of a completion. -/
def Gathered.bytes (g : Gathered) : List Byte :=
  natBe 1 g.ring ++ natBe 2 g.slot ++ natBe 2 g.req ++ natBe 1 g.pos ++ wordBytes g.w1 ++ wordBytes g.w7

/-- COMPLETION_RESPONSE of a slot: its oldest completions, at most 8 (R97). -/
def completionResponse (k : Nat) (s : State) : State :=
  let l := (lGet s.rng.gather k).take 8
  if l.isEmpty then s
  else
    let s := (s.modRng (fun x => { x with gather := lPut x.gather k ((lGet x.gather k).drop 8) })).smfUp k
    s.respond k (natBe 1 0x13 ++ natBe 1 k ++ natBe 1 l.length ++ natBe 1 0 ++ natBe 4 (s.smf k) ++ l.flatMap Gathered.bytes)
def execCompletionResponse (k : Fin 4) (s : State) : Out State := .next (inDom .fabric (completionResponse k) s)

end Sys2Proof.Machine
end

