-- ==== Sys2Proof/Machine/Image.lean ====
section
/-! DEFINITION. The image agent: messages, offers, the one session, blocks, the drove chain, installation (R514 to R531). -/

namespace Sys2Proof.Machine

/-! ### Messages (R516 to R519) -/

/-- A message in its parts: the source 0 service port, 1 drove frame, 2 remote diagnostics; bytes from 8 without the tag. -/
structure IMsg where
  src : Nat
  slot : Nat
  sid : Nat
  mac : Nat
  typ : Nat
  body : List Byte
  deriving DecidableEq, Repr

/-- A service port message: the byte 0x7E, the length, the payload and its CRC-32. -/
def svcWrap (p : List Byte) : List Byte := natBe 1 0x7E ++ natBe 2 p.length ++ p ++ natBe 4 (crc32 (ofBytes p))

/-- The payload of a service port message with a good CRC. -/
def svcPayload (b : List Byte) : Option (List Byte) :=
  let n := byteField b 1 2
  let p := (b.drop 3).take n
  if byteField b 0 1 = 0x7E ∧ p.length = n ∧ byteField b (3 + n) 4 = crc32 (ofBytes p) ∧ b.length = n + 7 then some p else none

/-- Wire block lengths (R514): the number of blocks, and the length of block `i`, of a body of `l` parcels. -/
def wireBlocks (l : Nat) : Nat := (3 * l + 4063) / 4064
def wireLen (l i : Nat) : Nat := if i + 1 < wireBlocks l then 4096 else 3 * l - 4064 * i

/-- Bytes from 8 on that a message of a type has: a BLOCK's as its length field says. -/
def bodyLen (t : Nat) (p : List Byte) : Nat := if t = 1 then 384 else if t = 3 then 6 + byteField p 12 2 else 4

/-- The service loader serves the port (R531). -/
def State.inLoader (s : State) : Bool := match s.pw.boot with
  | .loader _ => true
  | _ => false
/-- The loader was entered because no bank passed. -/
def State.loaderNoBank (s : State) : Bool := decide (s.pw.boot = .loader 5)

/-- The MAC address of a chain entry, and the first entry of a direction with an address. -/
def State.chainMac (s : State) (e : Nat) : Nat :=
  s.fld (FLT_IMDMAC0_MAC e) * 2 ^ 32 + s.fld (FLT_IMDMAC1_MAC e) * 2 ^ 16 + s.fld (FLT_IMDMAC2_MAC e)
def State.chainEntry (s : State) (dir mac : Nat) : Option Nat :=
  (List.range 8).find? (fun e => decide (s.fld (FLT_IMDRV_DIR e) = dir ∧ s.chainMac e = mac))

/-- A message's payload split up. -/
def imSplit (src mac : Nat) (p : List Byte) : IMsg :=
  let t := byteField p 0 1 % 16
  ⟨src, byteField p 1 1 % 4, byteField p 2 2, mac, t, (p.drop 8).take (bodyLen t p)⟩

/-- The condition of a source (R519) for a payload; downstream messages come from a downstream entry. -/
def State.imOk (s : State) (m : IMsg) (p : List Byte) : Bool :=
  let auth := bitAt (byteField p 1 1) 7
  let n := 8 + bodyLen m.typ p
  let whole := decide (byteField p 0 1 / 16 = 1 ∧ 1 ≤ m.typ ∧ m.typ ≤ 5 ∧ n + (if m.src = 2 then 8 else 0) ≤ p.length)
  whole && match m.src with
    | 0 => !auth
    | 1 =>
      let up := (s.chainEntry 1 m.mac).isSome
      let down := (s.chainEntry 2 m.mac).isSome
      if m.typ = 2 ∨ m.typ = 4 then down else if m.typ = 5 then up || down else up
    | _ =>
      s.on (RNG_SCTL_EN m.slot) && decide (sliceD p n 8 0 = s.slotTag m.slot (p.take n)) && decide (s.shf m.slot < byteField p 4 4)
        && s.bit (RNG_SCLAIM_MASK m.slot) 15

/-- A remote message's counter and reply address recorded (R95). -/
def State.imNote (s : State) (m : IMsg) (h : ZHead) (p : List Byte) : State :=
  if m.src ≠ 2 then s else s.noteReply m.slot h (byteField p 4 4)

/-- The payload of a frame. -/
def framePayload (b : List Byte) : List Byte := b.drop (if byteField b 12 2 = 0x8100 then 18 else 14)

/-- A message of some types taken: from the service port's bytes, or the oldest frame for the agent. One of another type
waits; one that fails R519 is discarded and counted. -/
def State.imTake (s : State) (svc : Option (List Byte)) (types : List Nat) : State × Option IMsg :=
  match svc, s.img.inbox with
  | some b, _ =>
    match svcPayload b with
    | none => (s, none)
    | some p =>
      let m := imSplit 0 0 p
      if !s.imOk m p then (s.count FLT_IMCNT_DISC, none) else if types.contains m.typ then (s, some m) else (s, none)
  | none, (port, b) :: rest =>
    let p := framePayload b
    let m := imSplit (if bitAt (byteField p 1 1) 7 then 2 else 1) (byteField b 6 6) p
    let t := s.modImg (fun x => { x with inbox := rest })
    if !s.imOk m p then (t.count FLT_IMCNT_DISC, none)
    else if types.contains m.typ then (t.imNote m (s.zHead port b none) p, some m)
    else (s, none)
  | none, [] => (s, none)

/-! ### Messages sent -/

/-- A drove frame to an address, in the VLAN and with the priority of FLT_IMDCFG. -/
def State.imDrove (s : State) (mac : Nat) (p : List Byte) : State :=
  (s.offerP8 (natBe 6 mac ++ natBe 6 s.hostMac ++ natBe 2 0x8100 ++ natBe 2 (s.fld FLT_IMDCFG_PCP * 2 ^ 13 + s.fld FLT_IMDCFG_VID)
    ++ natBe 2 0x88B7 ++ p)).1

/-- A remote message, with the module freshness counter and its tag. -/
def State.imRemote (s : State) (k : Nat) (typ sid : Nat) (body : List Byte) : State :=
  let s := s.smfUp k
  let p := natBe 1 (16 + typ) ++ natBe 1 (128 + k) ++ natBe 2 sid ++ natBe 4 (s.smf k) ++ body
  (s.offerP8 (s.replyHead k ++ natBe 2 0x88B7 ++ p ++ s.slotTag k p)).1

/-- The payload of a message with AUTH = 0. -/
def imPlain (typ sid : Nat) (body : List Byte) : List Byte := natBe 1 (16 + typ) ++ natBe 1 0 ++ natBe 2 sid ++ natBe 4 0 ++ body

/-- A message to a source. -/
def State.imSay (s : State) (src slot mac typ sid : Nat) (body : List Byte) : State :=
  match src with
  | 0 => s.modImg (fun x => { x with svcOut := x.svcOut ++ [svcWrap (imPlain typ sid body)] })
  | 1 => s.imDrove mac (imPlain typ sid body)
  | _ => s.imRemote slot typ sid body

/-- ANSWER, BACK and CLOSE. -/
def State.imAnswer (s : State) (m : IMsg) (st next : Nat) : State :=
  s.imSay m.src m.slot m.mac 2 m.sid (natBe 1 st ++ natBe 2 next ++ natBe 1 0)
def State.imBack (s : State) (x : ImgSess) (st : Nat) : State :=
  s.imSay x.src x.slot x.mac 4 x.sid (natBe 2 x.next ++ natBe 1 st ++ natBe 1 0)
def State.imCloseMsg (s : State) (x : ImgSess) (st : Nat) : State := s.imSay x.src x.slot x.mac 5 x.sid (natBe 1 st ++ natBe 3 0)

/-! ### The session (R520 to R524) -/

/-- An event of FLT_IMEVT. -/
def State.imEvt (s : State) (i : Nat) : State := s.setBitF FLT_IMEVT_EVT i true

def State.setSess (s : State) (x : ImgSess) : State := s.modImg (fun i => { i with sess := some x })

/-- The session closed with a status: CLOSE to the holder; IMCLOSE, IMBLK or IMNVM where the status has a class. In the
loader a successful installation makes a module software reset (R499). -/
def State.imClose (s : State) (st : Nat) : State :=
  match s.img.sess with
  | none => s
  | some x =>
    (s.imCloseMsg x st).imgIdle
      |>.setFld FLT_IMSTAT_LAST st
      |>.when (decide (st ≠ 0x0E)) (fun s => s.imEvt 3)
      |>.when (decide (st = 2 ∨ st = 3 ∨ st = 4 ∨ st = 0x0D)) (fun s => s.record 15 16 0)
      |>.when (decide (st = 0x0B)) (fun s => s.record 15 14 0)
      |>.when (decide (st = 0x0C)) (fun s => s.record 15 15 0)
      |>.when (decide (st = 0x0E) && s.inLoader) (fun s =>
        (s.modReset 2).modImg (fun i => { i with svcOut := s.img.svcOut }))

/-- The vehicle moves (R523); not in the loader. -/
def State.vehMoves (s : State) : Bool :=
  !s.inLoader && match s.fld FLT_IMCTL_VMODE with
    | 1 => decide (16384 ≤ s.img.sigAge) || (match s.img.sig with
      | none => true
      | some v => decide (s.fld FLT_IMVS3_THR < v))
    | 2 => decide (s.fld FLT_IMVS3_THR < s.fld FLT_IMSPD_SPD ∨ 32768 ≤ s.img.spdAge)
    | _ => true

/-- KL30_A, in mV, below the threshold of check 8. -/
def State.imLowV (s : State) (mv : Nat) : Bool := decide (mv < (if s.on FLT_IMCTL_LVOVR then 9500 else 11500))

/-- The version that check 11 compares against: the active bank's, in the loader the highest CONFIRMED one. -/
def State.imFloor (s : State) : Nat :=
  if s.inLoader then
    Nat.max (if s.bankState 0 = 2 then s.bankVersion 0 else 0) (if s.bankState 1 = 2 then s.bankVersion 1 else 0)
  else s.bankVersion s.activeBank

/-- The bank that an installation takes. -/
def State.imBank (s : State) : Nat :=
  let free (b : Nat) : Bool := decide (s.bankState b = 0 ∨ s.bankState b = 3)
  if !s.inLoader then s.inactive
  else if free 0 then 0 else if free 1 then 1
  else if s.bankVersion 1 < s.bankVersion 0 then 1 else 0

/-- Downstream entries; none in the loader. -/
def State.downEntries (s : State) : List Nat :=
  if s.inLoader then [] else (List.range 8).filter (fun e => decide (s.fld (FLT_IMDRV_DIR e) = 2))

/-- The header of an OFFER. -/
def offerHdr (m : IMsg) : List Word := (List.range 128).map (fun i => toWord (byteField m.body (3 * i) 3))

/-- Checks 4 to 12 of R520: the status, 0 for acceptance, and whether the session passes through. -/
def State.offerJudge (s : State) (h : List Word) (mv : Nat) : Nat × Bool :=
  if !(hdrMagicOk h && hdrFormatOk h && hdrLenOk h && hdrEntryOk h && hdrDefsOk h) then (6, false)
  else if !hdrTargetOk h then (if s.downEntries.isEmpty then (8, false) else (0, true))
  else if s.acc.lock && !s.loaderNoBank then (4, false)
  else if s.vehMoves then (2, false)
  else if s.imLowV mv then (3, false)
  else if decide (s.bankState s.activeBank = 1) && !s.loaderNoBank then (0x0A, false)
  else if !s.authentic h then (7, false)
  else if decide (hdrVersion h < s.imFloor) && !s.on FLT_IMCTL_DNGR then (9, false)
  else (0, false)

/-- A refused offer. -/
def State.offerRefuse (s : State) (m : IMsg) (st : Nat) : State :=
  (s.imAnswer m st 0).setFld FLT_IMSTAT_LAST st
    |>.imEvt 2
    |>.when (decide (st = 6 ∨ st = 7)) (fun s => s.record 15 13 0)

/-- The state of a downstream entry, and the count of active ones. -/
def State.setDown (s : State) (e v : Nat) : State :=
  let t := s.setFld (FLT_IMDST_STATE e) v
  t.setFld FLT_IMSTAT_NDOWN ((List.range 8).filter (fun e => decide (t.fld (FLT_IMDST_STATE e) = 2))).length

/-- The OFFER sent to a downstream entry. -/
def State.downOffer (s : State) (x : ImgSess) (e : Nat) : State :=
  (s.imDrove (s.chainMac e) (imPlain 1 x.sid (x.hdr.flatMap wordBytes))).modImg (fun i => { i with
    downs := smInsert (smErase i.downs e) e { (smGet (fun _ => {}) i.downs e) with offers := (smGet (fun _ => {}) i.downs e).offers + 1 } })

/-- An accepted offer takes the session; an installation erases its bank (R528). -/
def State.offerAccept (s : State) (m : IMsg) (h : List Word) (pass : Bool) : State :=
  let b := s.imBank
  let x : ImgSess := {
    src := m.src, slot := m.slot, sid := m.sid, mac := m.mac, pass := pass, bank := b, hdr := h, n := wireBlocks (hdrL h), next := 0,
    hash := bytesNum (hdrBytes h 32 16), frags := [], fails := 0, cur := none, stored := false, erased := false, rows := 0, tail := [],
    done := false }
  (s.setSess x).imAnswer m 0 0
    |>.imEvt 1
    |>.setFld FLT_IMSTAT_STATE (if pass then 2 else 1)
    |>.setFld FLT_IMSTAT_SRC m.src
    |>.setFld FLT_IMSTAT_PASS (b2n pass)
    |>.setFld FLT_IMSTAT_SLOT m.slot
    |>.setFld FLT_IMSTAT_BANK b
    |>.setReg rFLT_IMPROG 0
    |>.setReg rFLT_IMNBLK x.n
    |>.setReg rFLT_IMSID m.sid
    |>.when (!pass) (fun s => s.eraseCode b 0 (2 ^ 20))
    |>.each s.downEntries (fun e s => ((s.setDown e 1).setFld (FLT_IMDST_NEXT e) 0).downOffer x e)

/-- The session is held by the source of a message under its identifier. -/
def ImgSess.holds (x : ImgSess) (m : IMsg) : Bool :=
  decide (x.src = m.src ∧ x.sid = m.sid ∧ (m.src ≠ 1 ∨ x.mac = m.mac) ∧ (m.src ≠ 2 ∨ x.slot = m.slot))

/-- An OFFER judged. -/
def State.offerTake (s : State) (mv : Nat) (m : IMsg) : State :=
  let held := s.img.sess.filter (fun x => x.holds m)
  match held with
  | some x => s.imAnswer m 0 x.next
  | none =>
    if m.src = 0 ∧ s.acc.pres.isNone then s.offerRefuse m 5
    else if s.img.sess.isSome then s.offerRefuse m 1
    else
      let h := offerHdr m
      let j := s.offerJudge h mv
      if j.1 ≠ 0 then s.offerRefuse m j.1 else s.offerAccept m h j.2

/-- The service port and the switch give the agent no offers while EN is 0, but the loader serves the port. -/
def State.imOpen (s : State) (svc : Bool) : Bool := if s.inLoader then svc else s.on FLT_IMCTL_EN

/-- A command of the agent: what it sends on the service port replaces what the last one sent. -/
def imgCmd (f : State → State) (s : State) : State := inDom .fabric (fun s => f (s.modImg (fun x => { x with svcOut := [] }))) s

/-- A message of the types taken and acted on. -/
def imgTake (svc : Option (List Byte)) (types : List Nat) (f : IMsg → State → State) (s : State) : State :=
  match s.imTake svc types with
  | (t, some m) => f m t
  | (t, none) => t

def offer (svc : Option (List Byte)) (mv : Nat) (s : State) : State :=
  imgTake svc [1] (fun m s => if s.imOpen svc.isSome then s.offerTake mv m else s) s

/-! ### Blocks (R514, R515, R522, R526) -/

/-- A BLOCK message's fragment forwarded to a downstream entry. -/
def State.downFrag (s : State) (x : ImgSess) (e ofs : Nat) (d : List Byte) : State :=
  s.imDrove (s.chainMac e) (imPlain 3 x.sid (natBe 2 x.next ++ natBe 2 ofs ++ natBe 2 d.length ++ d))

/-- The block that has passed sent to a downstream entry that has not acknowledged it. -/
def State.downBlock (s : State) (x : ImgSess) (e : Nat) : State :=
  match x.cur with
  | some b =>
    if s.fld (FLT_IMDST_STATE e) = 2 ∧ s.fld (FLT_IMDST_NEXT e) ≤ x.next then
      s.each (List.range ((b.length + 1023) / 1024)) (fun k s => s.downFrag x e (1024 * k) ((b.drop (1024 * k)).take 1024))
    else s
  | none => s

/-- Every byte of the stream that carries bits 17:16 has bits 7:2 clear; `p` is the stream position of the first byte. -/
def streamOk (p : Nat) (l : List Byte) : Bool :=
  (List.range l.length).all (fun i => decide ((p + i) % 3 ≠ 0 ∨ (l.getD i 0).toNat < 4))

/-- The bytes of a block, once all have arrived. -/
def assemble (n : Nat) (fs : List (Nat × List Byte)) : Option (List Byte) :=
  let at_ (i : Nat) : Option Byte := fs.findSome? (fun f => if f.1 ≤ i ∧ i < f.1 + f.2.length then f.2[i - f.1]? else none)
  (List.range n).mapM at_

/-- The chunk in a wire block. -/
def chunkOf (x : ImgSess) (b : List Byte) : List Byte := if x.next + 1 < x.n then b.take 4064 else b

/-- A complete block with the next index checked (R515). -/
def blockPasses (x : ImgSess) (b : List Byte) : Bool :=
  decide (bytesNum (sha256 (ofBytes b)) = x.hash) && streamOk (4064 * x.next) (chunkOf x b)

/-- The next block judged once it is complete: it passes, or fails; the third failure closes the session. -/
def State.blockJudge (s : State) : State :=
  match s.img.sess with
  | none => s
  | some x =>
    if x.cur.isSome ∨ x.n ≤ x.next then s
    else
      match assemble (wireLen (hdrL x.hdr) x.next) (lGet x.frags x.next) with
      | none => s
      | some b =>
        let y : ImgSess := { x with frags := smErase x.frags x.next }
        if blockPasses x b then
          let z : ImgSess := { y with cur := some b, stored := x.pass }
          (s.setSess z).each s.downEntries (fun e s => s.downBlock z e)
        else if x.fails = 2 then ((s.setSess y).count FLT_IMCNT_BFAIL).imClose 0x0B
        else
          let z : ImgSess := { y with fails := x.fails + 1 }
          ((s.setSess z).count FLT_IMCNT_BFAIL).imBack z 0x0B

/-- A downstream entry that owes nothing for the present block: dropped or closed, or past it. -/
def State.downPast (s : State) (x : ImgSess) (e : Nat) : Bool :=
  let st := s.fld (FLT_IMDST_STATE e)
  decide (st = 0 ∨ st = 3 ∨ (st = 2 ∧ x.next < s.fld (FLT_IMDST_NEXT e)))

/-- Entries that closed with DONE, and that were dropped. -/
def State.downDone (s : State) (e : Nat) : Bool := (smGet (fun _ => {}) s.img.downs e).done
def State.downLost (s : State) (e : Nat) : Bool := decide (s.fld (FLT_IMDST_STATE e) = 3)

/-- The session ends once its own work is done and every downstream has closed with DONE or been dropped (R526, R527). -/
def State.imFinish (s : State) : State :=
  match s.img.sess with
  | none => s
  | some x =>
    let l := s.downEntries
    if x.pass ∧ l.all s.downLost then s.imClose 0x10
    else if x.done && l.all (fun e => s.downDone e || s.downLost e) then s.imClose 0x0E
    else s

/-- After the last block: an installation reads the body back; a pass-through waits for its downstreams. -/
def State.imLast (s : State) (x : ImgSess) : State :=
  if x.next < x.n then s
  else if x.pass then ((s.setSess { x with done := true }).setFld FLT_IMSTAT_STATE 4).imFinish
  else s.setFld FLT_IMSTAT_STATE 3

/-- The next index raised once the block is stored and acknowledged. -/
def State.imRaise (s : State) : State :=
  match s.img.sess with
  | none => s
  | some x =>
    match x.cur with
    | none => s
    | some b =>
      if x.stored && s.downEntries.all (s.downPast x) then
        let y : ImgSess := {
          x with next := x.next + 1, hash := bytesNum (ofBytes (b.drop 4064)), fails := 0, cur := none, stored := false }
        ((s.setSess y).setReg rFLT_IMPROG y.next).imBack y 0
          |>.imLast y
      else s

/-- The blocks in the block memory taken as far as they go. -/
def State.imAdvance (s : State) : State := s.each [0, 1, 2, 3, 4] (fun _ s => s.blockJudge.imRaise)

/-- A fragment that fits its block. -/
def fragOk (l i ofs : Nat) (d : List Byte) : Bool :=
  decide (ofs % 1024 = 0 ∧ 1 ≤ d.length ∧ d.length ≤ 1024 ∧ ofs + d.length ≤ wireLen l i)

/-- A fragment from the holder. -/
def State.blockTake (s : State) (m : IMsg) : State :=
  match s.img.sess with
  | none => s
  | some x =>
    let i := byteField m.body 0 2
    let ofs := byteField m.body 2 2
    let d := m.body.drop 6
    if !x.holds m then s
    else if i < x.next then s.imBack x 0
    else if x.next + 4 ≤ i ∨ x.n ≤ i ∨ fragOk (hdrL x.hdr) i ofs d = false then s
    else if x.cur.isSome ∧ i = x.next then s
    else
      let y : ImgSess := { x with frags := lPut x.frags i ((lGet x.frags i).filter (fun f => decide (f.1 ≠ ofs)) ++ [(ofs, d)]) }
      (s.setSess y).imAdvance

def block (svc : Option (List Byte)) (s : State) : State := imgTake svc [3] (fun m s => s.blockTake m) s

/-- The rows that a stored chunk completes; the image's last row is filled with the erased value. -/
def State.storeRows (s : State) (x : ImgSess) (b : List Byte) : State :=
  let all := x.tail ++ chunkOf x b
  let lastB := decide (x.n ≤ x.next + 1)
  let n := if lastB then (all.length + 23) / 24 else all.length / 24
  let row (k : Nat) : List Word := (List.range 8).map (fun j =>
    if 24 * k + 3 * j < all.length then toWord (byteField all (24 * k + 3 * j) 3) else 0o777777)
  let y : ImgSess := { x with rows := x.rows + n, tail := all.drop (24 * n), stored := true }
  (s.each (List.range n) (fun k s => s.progRow x.bank (128 + 8 * (x.rows + k)) (row k))).setSess y

/-- IMAGE_BLOCK_STORED: the present block's rows are programmed and verified, or the verification failed. -/
def imageBlockStored (bad : Bool) (s : State) : State :=
  match s.img.sess with
  | none => s
  | some x =>
    match x.cur with
    | none => s
    | some b =>
      if x.pass || x.stored || !x.erased then s
      else if bad then s.imClose 0x0C
      else (s.storeRows x b).imAdvance

/-! ### Installation (R528) -/

/-- INACTIVE_BANK_ERASED: the header's sixteen rows are programmed. -/
def bankErased (bad : Bool) (s : State) : State :=
  match s.img.sess with
  | none => s
  | some x =>
    if x.pass || x.erased then s
    else if bad then s.imClose 0x0C
    else
      (s.each (List.range 16) (fun k s => s.progRow x.bank (8 * k) ((x.hdr.drop (8 * k)).take 8))).setSess { x with erased := true }
        |>.setFld FLT_IMSTAT_STATE 2

/-- IMAGE_VERIFY_DONE: on a match the INSTALLED row is programmed; otherwise the session closes with NVM. -/
def imageVerifyDone (bad : Bool) (s : State) : State :=
  match s.img.sess with
  | none => s
  | some x =>
    if s.fld FLT_IMSTAT_STATE ≠ 3 then s
    else if bad || decide (s.bodyHash x.bank (hdrL x.hdr) ≠ hdrBytes x.hdr 16 16) then s.imClose 0x0C
    else
      (s.bootProg x.bank 0).setSess { x with done := true }
        |>.imEvt 4
        |>.setFld FLT_IMSTAT_STATE 4
        |>.imFinish

/-! ### Downstream (R526, R527) -/

/-- A downstream entry dropped for the rest of the session. -/
def State.downDrop (s : State) (e : Nat) : State :=
  ((s.setDown e 3).count FLT_IMCNT_DROP).imEvt 0 |>.imFinish |>.imAdvance

/-- The entry of a downstream message in this session, offered or active. -/
def State.downOf (s : State) (m : IMsg) : Option (ImgSess × Nat) :=
  match s.img.sess, s.chainEntry 2 m.mac with
  | some x, some e =>
    if m.src = 1 ∧ x.sid = m.sid ∧ (s.fld (FLT_IMDST_STATE e) = 1 ∨ s.fld (FLT_IMDST_STATE e) = 2) then some (x, e) else none
  | _, _ => none

def State.downAnswer (s : State) (m : IMsg) : State :=
  match s.downOf m with
  | none => s
  | some (x, e) =>
    if byteField m.body 0 1 ≠ 0 then s.downDrop e
    else ((s.setDown e 2).setFld (FLT_IMDST_NEXT e) (byteField m.body 1 2)).downBlock x e |>.imAdvance

def State.downBack (s : State) (m : IMsg) : State :=
  match s.downOf m with
  | none => s
  | some (x, e) =>
    let t := s.setFld (FLT_IMDST_NEXT e) (byteField m.body 0 2)
    if s.fld (FLT_IMDST_STATE e) ≠ 2 then s else if byteField m.body 2 1 ≠ 0 then t.downBlock x e else t.imAdvance

def downstreamAnswer (s : State) : State := imgTake none [2] (fun m s => s.downAnswer m) s
def downstreamBack (s : State) : State := imgTake none [4] (fun m s => s.downBack m) s

/-- DOWNSTREAM_TIMEOUT: 1 s without an ANSWER offers again up to three times; 2 s without a BACK drops the entry. -/
def downstreamTimeout (e : Nat) (s : State) : State :=
  match s.img.sess with
  | none => s
  | some x =>
    if s.fld (FLT_IMDST_STATE e) = 1 ∧ (smGet (fun _ => {}) s.img.downs e).offers < 3 then s.downOffer x e
    else if s.fld (FLT_IMDST_STATE e) = 1 ∨ (s.fld (FLT_IMDST_STATE e) = 2 ∧ x.cur.isSome) then s.downDrop e
    else s

/-! ### Closing -/

/-- A CLOSE received: from the holder it ends the session, from a downstream entry it ends that one. -/
def State.closeTake (s : State) (m : IMsg) : State :=
  let st := byteField m.body 0 1
  match s.downOf m with
  | some (_, e) =>
    if st ≠ 0x0E then s.downDrop e
    else
      (s.setDown e 0).modImg (fun i => { i with
          downs := smInsert (smErase i.downs e) e { (smGet (fun _ => {}) i.downs e) with done := true } })
        |>.imFinish
        |>.imAdvance
  | none =>
    match s.img.sess with
    | some x => if x.holds m then s.imgIdle.when (decide (st ≠ 0x0E)) (fun s => s.imEvt 3) else s
    | none => s
def closeReceived (svc : Option (List Byte)) (s : State) : State := imgTake svc [5] (fun m s => s.closeTake m) s

/-- IMAGE_SESSION_TIMEOUT: 2 s without a message while the agent waits for one. -/
def sessionTimedOut (s : State) : State :=
  match s.img.sess with
  | some x => if x.next < x.n ∧ x.cur = none then s.imClose 0x0D else s
  | none => s

/-- An installation session closes with MOVING, LOWV or OWNER (R524). -/
def State.imStop (s : State) (c : Bool) (st : Nat) : State :=
  match s.img.sess with
  | some x => if c && !x.pass then s.imClose st else s
  | none => s
def State.imOwner (s : State) : State := s.imStop s.acc.lock 4

/-- The movement condition judged where a register or the clock may have changed it (R523, R524). -/
def State.imMoving (s : State) : State :=
  match s.img.sess with
  | some _ => if s.vehMoves then imgCmd (fun s => s.imStop true 2) s else s
  | none => s

/-- IMCMD_CLOSE. -/
def State.imCancel (s : State) : State := s.imClose 0x0F

/-- CONFINACT (R530). -/
def State.confInact (s : State) : State :=
  if s.acc.pres.isSome ∧ s.img.sess = none ∧ s.bankState s.inactive = 1 then s.bootProg s.inactive 1 else s.raise FLT_GFLAG_WRREF

/-- CONFIRM_REQUEST (R529). -/
def State.confirmReq (s : State) (req : Bool) : State :=
  if req then (s.setFld FLT_IMCONF_REQ 1).setFld FLT_IMCONF_BANK s.activeBank else s.setFld FLT_IMCONF_REQ 0

/-! ### The commands -/

def execOffer (svc : Option (List Byte)) (mv : BitVec 16) (s : State) : Out State := .next (imgCmd (offer svc mv.toNat) s)
def execBlock (svc : Option (List Byte)) (s : State) : Out State := .next (imgCmd (block svc) s)
def execImageCloseReceived (svc : Option (List Byte)) (s : State) : Out State := .next (imgCmd (closeReceived svc) s)
def execDownstreamAnswer (s : State) : Out State := .next (imgCmd downstreamAnswer s)
def execDownstreamBack (s : State) : Out State := .next (imgCmd downstreamBack s)
def execDownstreamTimeout (e : Fin 8) (s : State) : Out State := .next (imgCmd (downstreamTimeout e) s)
def execImageSessionTimeout (s : State) : Out State := .next (imgCmd sessionTimedOut s)
def execInactiveBankErased (bad : Bool) (s : State) : Out State := .next (imgCmd (bankErased bad) s)
def execImageBlockStored (bad : Bool) (s : State) : Out State := .next (imgCmd (imageBlockStored bad) s)
def execImageVerifyDone (bad : Bool) (s : State) : Out State := .next (imgCmd (imageVerifyDone bad) s)
def execVehicleMoves (s : State) : Out State := .next (imgCmd (fun s => s.imStop s.vehMoves 2) s)
def execImageLowv (s : State) : Out State := .next (imgCmd (fun s => s.imStop true 3) s)

end Sys2Proof.Machine
end

