-- ==== Sys2Proof/Machine/View.lean ====
section
/-! DEFINITION. What a read of a register returns (R6, R9), with the fields that show state kept elsewhere; and the 256
interrupt sources (R22), their routes and the source that a core would take (R573, R575). -/

namespace Sys2Proof.Machine

/-! ### Interrupt sources -/

/-- Two registers with a common bit under a mask. -/
def State.both (s : State) (e i m : Nat) : Bool := decide (Nat.land (Nat.land (s.reg e) (s.reg i)) m ≠ 0)

/-- The fault interrupt of a block: a pending class whose last record reached ILVL (R491). -/
def State.blkIrq (s : State) (b : Nat) : Bool := (s.pendClasses b).any (fun k => decide (s.fld (FLT_FCTL_ILVL b) ≤ s.lastLvl b k))

/-- Sources 0 to 23 (R469, R63). -/
def State.irqSys (s : State) (n : Nat) : Bool :=
  if n ≤ 12 then s.bit PCR_EVT_EVT n && s.bit PCR_IEN_IEN n
  else
    match n with
    | 15 => s.blkIrq 1
    | 16 => s.on MEM_ECC_CNT1
    | 17 => s.bit (FLT_FPEND_PEND 2) 1
    | 18 => s.on MEM_FLAG_MDONE
    | 19 => s.on MEM_FLAG_TFAIL
    | 20 => s.on MEM_FLAG_NDONE
    | 21 => s.on MEM_FLAG_SSDONE
    | 22 => s.on MEM_FLAG_OTPDONE
    | 23 => s.blkIrq 2
    | _ => false

/-- Any output with an event bit of THM_EVT. -/
def State.anyThm (s : State) (i : Nat) : Bool := (List.range 128).any (fun o => bitAt (s.reg (rTHM_EVT o)) i)

/-- Sources 104 to 111, without their enables (R181). -/
def State.irqThm (s : State) (k : Nat) : Bool :=
  match k with
  | 4 => s.on THM_FLAG_PBUD
  | 5 => s.on THM_FLAG_CASEF || s.on THM_FLAG_CHSF
  | 6 => s.on THM_FLAG_DIEHOT
  | _ => s.anyThm k

/-- Sources 112 to 119 (R124). -/
def State.irqSeq (s : State) (k : Nat) : Bool :=
  match k with
  | 0 => s.on SEQ_FLAG_HOLD
  | 1 => s.on SEQ_FLAG_STEP
  | 2 => s.on SEQ_FLAG_PFAULT
  | 3 => s.on SEQ_FLAG_PLEAK
  | 4 => s.on SEQ_FLAG_MBUSY || s.on SEQ_FLAG_SECC
  | 5 => (List.range 16).any s.grpFrozen
  | 6 => !s.on SEQ_ZSTAT_LOCK && !s.on SEQ_ZSTAT_HOLD
  | _ => s.blkIrq 6

/-- Sources 120 to 135 (R215). -/
def State.irqMot (s : State) (k : Nat) : Bool :=
  if k < 8 then s.both (rMOT_HEVT (2 * k)) (rMOT_HIEN (2 * k)) 0o777 || s.both (rMOT_HEVT (2 * k + 1)) (rMOT_HIEN (2 * k + 1)) 0o777
  else if k < 12 then s.both (rMOT_GEVT (k - 8)) (rMOT_GIEN (k - 8)) 0o3777
  else
    match k with
    | 12 => s.on MOT_FLAG_CPUV
    | 13 => s.on MOT_FLAG_BOOTF
    | 14 => s.motTargets.any (fun t => decide (s.mst t = 8 ∨ s.mst t = 9))
    | _ => s.blkIrq 7

/-- Sources 136 to 151 (R245). -/
def State.irqVlv (s : State) (k : Nat) : Bool :=
  s.both (rVLV_VEVT k) (rVLV_VIEN k) 0o1777 || (decide (k % 4 = 0) && s.both (rVLV_BEVT (k / 4)) (rVLV_BIEN (k / 4)) 0o377)

/-- Sources 152 to 167 (R281). -/
def State.irqLux (s : State) (k : Nat) : Bool :=
  if k < 3 then (List.range 8).any (fun i => s.both (rLUX_LEVT (8 * k + i)) (rLUX_LIEN (8 * k + i)) 0o77)
  else if k < 11 then s.both (rLUX_CEVT (k - 3)) (rLUX_CIEN (k - 3)) 0o17
  else if k < 13 then s.both (rLUX_PEVT (k - 11)) (rLUX_PIEN (k - 11)) 0o37
  else
    match k with
    | 13 => (List.range 24).any (fun n => s.on (LUX_LSTAT_DER n))
    | 14 => (List.range 24).any (fun n => decide (s.lst n = 4 ∨ s.lst n = 5))
    | _ => s.blkIrq 9

/-- Sources 168 to 191 (R316). -/
def State.irqInp (s : State) (k : Nat) : Bool :=
  if k < 3 then (List.range 16).any (fun i => bitAt (s.reg (rINP_SWEVT k)) i && s.on (INP_SWCFG_IE (16 * k + i)))
  else if 7 ≤ k ∧ k < 15 then decide (s.fld (INP_SNSTAT_ERR (k - 7)) ≠ 0) && s.on (INP_SNCFG_IE (k - 7))
  else if 15 ≤ k ∧ k < 19 then decide (s.fld (INP_PSSTAT_ERR (k - 15)) ≠ 0) && s.on (INP_PSCFG_IE (k - 15))
  else
    match k with
    | 3 => (List.range 24).any (fun n => bitAt (s.reg (rINP_ANEVT (n / 16))) (n % 16) && s.on (INP_ANCFG_IE n))
    | 4 => s.on INP_FLAG_OVR
    | 5 => decide (2 ≤ s.fld (INP_SS_STATE 0))
    | 6 => decide (2 ≤ s.fld (INP_SS_STATE 1))
    | 19 => s.on INP_FLAG_I2CERR
    | 20 => s.on INP_LHSTAT_ENG
    | 21 => s.on INP_ADCST_FAIL
    | 22 => s.cellOut 31
    | _ => s.blkIrq 10

/-- Sources 192 to 211 (R342), and 212 to 215 (R360). -/
def State.irqNet (s : State) (k : Nat) : Bool :=
  if k < 12 then s.both (rNET_CEVT (k / 2)) (rNET_CIEN (k / 2)) (if k % 2 = 0 then 7 else 0o1770)
  else if k < 16 then s.both (rNET_LEVT (k - 12)) (rNET_LIEN (k - 12)) 0o77
  else
    match k with
    | 16 => (List.range 6).any (fun c => s.bit (NET_CEVT_EVT c) 5 || s.bit (NET_CEVT_EVT c) 4) || (List.range 4).any (fun l => s.bit (NET_LEVT_EVT l) 5)
    | 17 => (List.range 6).any (fun c => s.bit (NET_CEVT_EVT c) 3) || (List.range 4).any (fun l => s.bit (NET_LEVT_EVT l) 4)
    | 18 => s.on NET_FLAG_DEAF
    | 20 => s.both rNET_HEVT rNET_HIEN 3
    | 21 => s.both rNET_HEVT rNET_HIEN 4
    | 22 => s.both rNET_HEVT rNET_HIEN 0o30
    | 23 => s.both rNET_HEVT rNET_HIEN 0o40
    | _ => false

/-- Sources 216 to 222, without their enables (R390). -/
def State.irqZsw (s : State) (k : Nat) : Bool :=
  match k with
  | 0 => (List.range 5).any (fun p => s.both (rZSW_PEVT p) (rZSW_PIEN p) 0o77)
  | 1 => (List.range 5).any (fun p => s.both (rZSW_PEVT (5 + p)) (rZSW_PIEN (5 + p)) 0o77)
  | 2 => s.on ZSW_FLAG_REDDROP || s.on ZSW_FLAG_NOBUF
  | 3 => s.on ZSW_FLAG_STOMP
  | 4 => s.on ZSW_FLAG_AUDDONE
  | 5 => s.on ZSW_FLAG_AUDF
  | _ => s.on ZSW_FLAG_PGMOV || s.on ZSW_FLAG_BINDTO

/-- Sources 224 to 230, without their enables (R412). -/
def State.irqEth (s : State) (k : Nat) : Bool :=
  match k with
  | 0 => (List.range 5).any (fun p => s.both (rETH_PEVT p) (rETH_PIEN p) 0o377)
  | 1 => (List.range 5).any (fun p => s.both (rETH_PEVT (5 + p)) (rETH_PIEN (5 + p)) 0o377)
  | 2 => s.on ETH_FLAG_WAKE
  | 3 => s.on ETH_FLAG_THOLD
  | 4 => s.on ETH_FLAG_TSTEP
  | 5 => s.on ETH_FLAG_LOCKL
  | _ => s.on ETH_FLAG_PHYF

/-- Sources 236 to 255 (R442, R491, R552, R535, R575). -/
def State.irqTop (s : State) (n : Nat) : Bool :=
  match n with
  | 236 => s.acc.evPres
  | 237 => s.acc.evEnrol
  | 238 => s.acc.evCrypto
  | 239 => s.blkIrq 14
  | 240 => s.blkIrq 3
  | 241 => s.blkIrq 4
  | 242 => s.blkIrq 8
  | 243 => s.blkIrq 0
  | 244 => !s.on FLT_FLTN_LEVEL
  | 245 => (List.range 16).any (fun b => s.on (FLT_FOVF_OVF b))
  | 246 => s.on FLT_GFLAG_SHED || s.on FLT_GFLAG_MDROP
  | 247 => s.blkIrq 15
  | 248 => s.both rBRC_EVT rBRC_IEN 0o77
  | 249 => s.both rBRC_EVT rBRC_IEN 0o100
  | 250 => s.both rFLT_IMEVT rFLT_IMIEN 0o37
  | 251 => s.both rFLT_IMEVT rFLT_IMIEN 0o40
  | _ => s.bit (ICU_SWI_PEND 2) (n - 252)

/-- A source of a block raised only while its domain runs and its own condition holds. -/
def State.irqIn (s : State) (d : Dom) (b : Bool) : Bool := s.domOn d && b

/-- A pending source, whatever its routing (R22). -/
def State.irq (s : State) (n : Nat) : Bool :=
  if n < 24 then s.irqSys n
  else if n < 40 then s.on (RNG_IRQPEND_PEND ((n - 24) / 4)) && decide (bitsOf (s.fld (RNG_IRQPEND_PEND ((n - 24) / 4))) (4 * ((n - 24) % 4) + 3) (4 * ((n - 24) % 4)) ≠ 0)
  else if n < 104 then s.irqIn .act (!s.hscOdd (n - 40) && s.both (rHSC_EVT (n - 40)) (rHSC_IEN (n - 40)) 0o777)
  else if n < 111 then s.irqIn .act (s.bit THM_IEN_IEN (n - 104) && s.irqThm (n - 104))
  else if n = 111 then s.blkIrq 5
  else if n < 119 then s.irqIn .act (s.irqSeq (n - 112))
  else if n = 119 then s.blkIrq 6
  else if n < 135 then s.irqIn .act (s.irqMot (n - 120))
  else if n = 135 then s.blkIrq 7
  else if n < 152 then s.irqIn .act (s.irqVlv (n - 136))
  else if n < 167 then s.irqIn .act (s.irqLux (n - 152))
  else if n = 167 then s.blkIrq 9
  else if n < 191 then s.irqIn .act (s.irqInp (n - 168))
  else if n = 191 then s.blkIrq 10
  else if n = 211 then s.blkIrq 11
  else if n < 216 then s.irqIn .net (s.irqNet (n - 192))
  else if n < 223 then s.irqIn .zsw (s.bit ZSW_IEN_IEN (n - 216) && s.irqZsw (n - 216))
  else if n = 223 then s.blkIrq 12
  else if n < 231 then s.irqIn .zsw (s.bit ETH_IEN_IEN (n - 224) && s.irqEth (n - 224))
  else if n = 231 then s.blkIrq 13
  else if n < 236 then s.irqIn .act (s.both (rACC_LFEVT (n - 232)) (rACC_LFIEN (n - 232)) 0o377)
  else s.irqTop n

/-- The route of a source (R573): its core, and its priority. -/
def State.route (s : State) (n : Nat) : Nat := bitsOf (s.reg (rICU_RT (n / 3))) (6 * (n % 3) + 5) (6 * (n % 3))

/-- The sources that pend for a core at a priority, the lowest number first. -/
def State.pendAt (s : State) (c p : Nat) : Option Nat :=
  if p = 0 then none else (List.range 256).find? (fun n => decide (s.route n = 16 * c + p) && s.irq n)

/-- The highest priority above a level at which a source pends for a core, with its lowest source. -/
def State.pendAbove (s : State) (c pl : Nat) : Option (Nat × Nat) :=
  ((List.range 16).reverse.filter (fun p => decide (pl < p))).findSome? (fun p => (s.pendAt c p).map (fun n => (p, n)))

/-- ICU_CLAIM of a core (R575). -/
def State.claimWord (s : State) (c : Nat) : Nat :=
  match s.pendAt c (s.core c).prio with
  | some n => 2 ^ 17 + (s.core c).prio * 256 + n
  | none => 0

/-- The side effect of a claim: the pending bit of a software source clears. -/
def State.claimed (s : State) (c : Nat) : State :=
  match s.pendAt c (s.core c).prio with
  | some n => if 252 ≤ n then s.setBitF (ICU_SWI_PEND 2) (n - 252) false else s
  | none => s

/-! ### Fields that show state kept elsewhere -/

/-- ICU_ACTL.STATE. -/
def runCode (r : CoreRun) : Nat :=
  match r with
  | .reset => 0
  | .running => 1
  | .halted => 2
  | .fenced => 3
  | .lbist => 4

/-- Sixteen sources as ICU_PEND shows them. -/
def State.pendWord (s : State) (j : Nat) : Nat := (List.range 16).foldl (fun m i => m + b2n (s.irq (16 * j + i)) * 2 ^ i) 0

/-- Bits of a 64-bit time as four registers show it, `i` from the most significant. -/
def quarter (t i : Nat) : Nat := t / 2 ^ (48 - 16 * i) % 65536

/-- Seconds left, rounded up. -/
def secsLeft (n : Nat) : Nat := (n + 32767) / 32768

/-- A register of the private ICU of core `c`. -/
def State.icuView (s : State) (c a : Nat) : List (Nat × Nat × Nat) :=
  if a = 3 then [(17, 16, c)]
  else if a = 4 then [(17, 0, s.claimWord c)]
  else if a = 6 then [(3, 0, s.fld (ICU_SWI_PEND 2))]
  else if 0x10 ≤ a ∧ a < 0x20 then [(15, 0, s.pendWord (a - 0x10))]
  else if a = 0xE00 ∨ a = 0xE10 then [(16, 14, runCode (s.core ((a - 0xE00) / 16)).run)]
  else []

/-- The state code of a key slot. -/
def KeySt.code (k : KeySt) : Nat :=
  match k with
  | .empty => 0
  | .enrolled => 1
  | .revoked => 2

/-- Registers of ACC. -/
def State.accView (s : State) (k : Nat) : List (Nat × Nat × Nat) :=
  if k < 0xE200 then (if k % 16 = 1 then [(17, 15, s.lfState ((k - 0xE100) / 16))] else [])
  else if 0xE900 ≤ k then
    let x := s.keySlot ((k - 0xE900) / 16)
    match k % 16 with
    | 0 => [(17, 16, x.st.code)]
    | 1 => [(15, 0, x.id / 65536)]
    | _ => [(15, 0, x.id)]
  else
    match k with
    | 0xE800 => [(17, 17, b2n s.acc.pres.isSome), (15, 10, secsLeft (s.acc.pres.getD 0))]
    | 0xE811 => [(16, 16, b2n s.acc.shadow.isSome), (7, 0, secsLeft s.acc.learnLeft)]
    | 0xE813 => [(17, 17, b2n s.acc.lock), (15, 0, s.acc.gen)]
    | 0xE81A => [(5, 0, (List.range 6).foldl (fun m i => m + b2n (s.keyEntry (8 + i)).isSome * 2 ^ i) 0)]
    | _ => []

/-- Registers of SEQ, THM, LUX and INP. -/
def State.actView (s : State) (k : Nat) : List (Nat × Nat × Nat) :=
  if 0x6004 ≤ k ∧ k < 0x6008 then [(15, 0, quarter s.ztNs (k - 0x6004))]
  else if 0x5030 ≤ k ∧ k < 0x5038 then
    [(15, 0, (List.range 16).foldl (fun m i => m + b2n (decide (s.reg (rTHM_EVT (16 * (k - 0x5030) + i)) ≠ 0)) * 2 ^ i) 0)]
  else if 0x5010 ≤ k ∧ k < 0x501C then [(17, 0, wrapTo 18 (s.caseTemp (k - 0x5010)))]
  else if k = 0x5020 ∨ k = 0x5021 then [(17, 0, wrapTo 18 (s.dieTemp (k - 0x5020)))]
  else if 0x5100 ≤ k ∧ k < 0x5900 then
    (let o := (k - 0x5100) / 16
     match k % 16 with
     | 1 => [(14, 13, dieOf o), (12, 11, s.caseOf o % 4)]
     | 2 => [(17, 0, wrapTo 18 (s.chTemp o))]
     | 3 => [(17, 0, wrapTo 18 (s.dtOf o))]
     | _ => [])
  else if 0x9100 ≤ k ∧ k < 0x9280 ∧ k % 16 = 3 then [(9, 9, b2n (s.loopOf ((k - 0x9100) / 16)).isSome)]
  else if 0xA004 ≤ k ∧ k < 0xA007 then
    [(15, 0, (List.range 16).foldl (fun m i => m + b2n (s.sw (16 * (k - 0xA004) + i)) * 2 ^ i) 0)]
  else if 0x9500 ≤ k ∧ k < 0x9580 ∧ k % 16 = 3 then [(13, 13, b2n (s.provDesc 5 (24 + (k - 0x9500) / 16)).isSome)]
  else []

/-- The fields of a register that show state kept elsewhere: their bits and values. -/
def State.computed (s : State) (k : Nat) : List (Nat × Nat × Nat) :=
  match keyAddr k / 4096 with
  | 0 => s.icuView (k / 65536 - 1) (keyAddr k)
  | 2 => if k = 0x2011 then [(17, 17, b2n s.permit), (16, 16, b2n (s.on MEM_TCTL_EN))] else []
  | 5 => s.actView k
  | 6 => s.actView k
  | 9 => s.actView k
  | 10 => s.actView k
  | 12 => if k = 0xC005 then [(7, 0, satTo 255 s.zsw.retired.length)] else []
  | 13 => if 0xDC02 ≤ k ∧ k < 0xDC06 then [(15, 0, quarter (s.eth.mc / 64) (k - 0xDC02))] else []
  | 14 => s.accView k
  | 15 =>
    if k < 0xF100 ∧ k % 16 = 0 then [(13, 13, b2n (!s.domOn (fltDom ((k - 0xF000) / 16))))]
    else if k = 0xF803 then [(13, 13, b2n s.brFollower)]
    else []
  | _ => []

/-- Measurements that no command updates: HSC_KL30, HSC_VOUT, VLV_BVOLT, the current of a sensor supply, the loop delay
of a CAN channel. A read returns a free value. -/
def freeBits (k : Nat) : List (Nat × Nat) :=
  if 0x4004 ≤ k ∧ k < 0x4008 then [(17, 0)]
  else if 0x4100 ≤ k ∧ k < 0x4500 ∧ k % 16 = 6 then [(17, 0)]
  else if 0x8100 ≤ k ∧ k < 0x8140 ∧ k % 16 = 6 then [(17, 0)]
  else if k = 0xA018 ∨ k = 0xA019 then [(13, 0)]
  else if 0xB100 ≤ k ∧ k < 0xB160 ∧ k % 16 = 0xA then [(16, 8)]
  else []

/-- The bits of the write-only fields of a register, which read 0. -/
def woBits (k : Nat) : Nat :=
  match rowOf k with
  | some r => r.fields.foldl (fun m f => if f.acc = .wo then Nat.lor m (maskOf f.hi f.lo) else m) 0
  | none => 0

/-- A word without the bits of a mask. -/
def dropBits (w m : Nat) : Nat := w - Nat.land w m

/-- The value of a register as a read at this instant shows it. -/
def State.view (s : State) (k : Nat) : Nat :=
  let w := (s.computed k).foldl (fun w f => putBits w f.1 f.2.1 f.2.2) (dropBits (s.reg k) (woBits k))
  (freeBits k).foldl (fun w f => putBits w f.1 f.2 s.draw.toNat) w

end Sys2Proof.Machine
end

