-- ==== Sys2Proof/Machine/Bus.lean ====
section
/-! DEFINITION. What a store to an I/O register does (R9 to R11, R18, R61, R82, R83). -/

namespace Sys2Proof.Machine

/-! ### Addresses -/

/-- The ICU register that a core reaches at an address of block 0 (R584): A0 and A1 have their own; S has its own, those of
A0 and A1 at 0x0800 and 0x0A00, and the control registers. The routes and the software sources are one set. -/
def icuKey (c a : Nat) : Option Nat :=
  if 0x400 ≤ a ∧ a < 0x456 then some (0x30000 + a)
  else if c < 2 then
    if a = 6 then some 0x30006 else if a < 0x800 then some (0x10000 * (c + 1) + a) else none
  else if a = 6 ∨ a = 0x806 ∨ a = 0xA06 then some 0x30006
  else if 0x800 ≤ a ∧ a < 0xA00 then some (0x10000 + (a - 0x800))
  else if 0xA00 ≤ a ∧ a < 0xC00 then some (0x20000 + (a - 0xA00))
  else some (0x30000 + a)

/-- The register that an access of a core reaches; none at a reserved address. -/
def busReg (c a : Nat) : Option Nat :=
  match (if a < 4096 then icuKey c a else some a) with
  | some k => if (rowOf k).isSome then some k else none
  | none => none

/-- The domain that holds a register. -/
def keyDom (k : Nat) : Dom :=
  match rowOf k with
  | some r => regDom k r
  | none => .fabric

/-- An access by the core `c`: at a register of a running domain it has its effect, elsewhere it sets the core's flag (R18,
R61). -/
def State.atReg (s : State) (c a : Nat) (f : Nat → State) : State :=
  match busReg c a with
  | none => s.ioFlag c true a
  | some k => if s.domOn (keyDom k) then f k else s.ioFlag c false a

/-! ### Flags and refusals -/

/-- WRREF and ENCREF of the block of a register. -/
def wrrefOf (k : Nat) : FRef :=
  if k % 65536 < 4096 then ICU_FLAG_WRREF (k / 65536 - 1) else if 0xF000 ≤ k then FLT_GFLAG_WRREF
  else if 0x3000 ≤ k ∧ k < 0x4000 then RNG_FLAG_WRREF else ⟨k / 4096 * 4096, 1, 1⟩
def encrefOf (k : Nat) : FRef :=
  if k % 65536 < 4096 then ICU_FLAG_ENCREF (k / 65536 - 1)
  else if 0xF800 ≤ k ∧ k < 0xFC00 then BRC_FLAG_ENCREF
  else if 0xF000 ≤ k then FLT_GFLAG_ENCREF
  else if 0x3000 ≤ k ∧ k < 0x4000 then RNG_FLAG_ENCREF
  else ⟨k / 4096 * 4096, 0, 0⟩

/-- A flag set, where the domain that holds it runs. -/
def State.raiseOn (s : State) (b : Bool) (f : FRef) : State := s.raiseIf (b && s.domOn (keyDom f.addr)) f

/-- A field whose write is refused with WRREF: under LK or PR, MEM_TCTL.EN without PERMIT (R47), the request of a fenced
transceiver (R325), the mirror table outside OFF and DOWN (R541), the drove table during a session (R519), a pairing command
not by S (R546). -/
def State.refusedField (s : State) (c k : Nat) (f : Field) : Bool :=
  (f.lk && s.lockedReg k) || (f.pr && s.acc.pres.isNone)
    || (decide (k = rMEM_TCTL ∧ f.hi = 17) && !s.permit)
    || (decide (0xB100 ≤ k ∧ k < 0xB160 ∧ k % 16 = 5 ∧ f.hi = 17) && s.chFenced ((k - 0xB100) / 16))
    || (decide (0xB800 ≤ k ∧ k < 0xB840 ∧ k % 16 = 0 ∧ f.hi = 7) && s.chFenced (8 + (k - 0xB800) / 16))
    || (decide (0xD100 ≤ k ∧ k < 0xD180 ∧ k % 16 = 0) && s.on (ETH_PSTAT_FENCED ((k - 0xD100) / 16)))
    || (decide (0xF810 ≤ k ∧ k < 0xF910 ∧ k % 16 = 0) && decide (1 < s.brSt))
    || (decide (0xFC40 ≤ k ∧ k < 0xFCC0) && s.img.sess.isSome)
    || decide (k = rBRC_CMD ∧ c ≠ 2)

/-- A field of the ring engine whose write is refused with CFGREF: the set-up of an enabled ring (R68), the filter of an
enabled slot, the enable of a slot without key (R96). -/
def State.heldField (s : State) (k : Nat) (f : Field) (v : Nat) : Bool :=
  if 0x3000 ≤ k ∧ k < 0x3400 then
    s.on (RNG_RCFG_EN ((k - 0x3000) / 16)) && decide (k % 16 = 0 ∨ (k % 16 = 1 ∧ f.hi ≤ 14))
  else if 0x3600 ≤ k ∧ k < 0x3640 then
    let n := (k - 0x3600) / 16
    if k % 16 = 0 then decide (f.hi = 17 ∧ v = 1) && !s.on (RNG_SCTL_KEYV n)
    else decide (2 ≤ k % 16 ∧ k % 16 ≤ 5) && s.on (RNG_SCTL_EN n)
  else false

/-! ### Reserved combinations (R11) -/

/-- A bit time shorter than 8 quanta, or a jump width above TSEG2 + 1 (R322). -/
def badBitTime (bt sjw : Nat) : Bool := decide (bitsOf bt 12 5 + bitsOf bt 4 0 + 3 < 8 ∨ bitsOf bt 4 0 < sjw)

/-- A frame length that is no multiple of 32 ticks (R107). -/
def badFrameLen (gcfg : Nat) : Bool := decide (bitsOf gcfg 15 0 * 4 ^ bitsOf gcfg 17 16 % 32 ≠ 0)

/-- A sync period that does not divide 1 s (R301). -/
def badSyncPer (p : Nat) : Bool := decide (p = 0 ∨ 1000000 % p ≠ 0)

/-- A wetting current with a matrix or run mode of 10 (R288). -/
def badWet (cfg cfg2 : Nat) : Bool := decide (bitsOf cfg 15 14 ≠ 0 ∧ (bitsOf cfg 17 16 = 2 ∨ bitsOf cfg2 9 8 = 2))

/-- A herd group or port that UDP cannot use (R348). -/
def badHerd (hcfg grph port : Nat) : Bool := decide (bitsOf hcfg 16 16 = 1 ∧ (grph / 4096 % 16 ≠ 14 ∨ port = 0))

/-- The bits of a register that make a reserved combination with the value `w` (R107, R145, R288, R301, R322, R348); 0 for
none. Registers that TX fields share a combination with count as the transaction would leave them. -/
def State.comboMask (s : State) (k w : Nat) : Nat :=
  let m (b : Bool) (hi lo : Nat) : Nat := if b then maskOf hi lo else 0
  match k / 4096 with
  | 4 => if 0x4100 ≤ k ∧ k < 0x4500 ∧ k % 16 = 0 then m (decide (bitsOf w 17 16 = 1 ∧ bitsOf w 3 0 ≠ 0)) 17 16 + m (decide (bitsOf w 17 16 = 1 ∧ bitsOf w 3 0 ≠ 0)) 3 0 else 0
  | 6 =>
    if 0x6100 ≤ k ∧ k < 0x6200 ∧ k % 16 = 1 then m (bitAt w 17 && badFrameLen (s.regNext (k - 1))) 17 17
    else if 0x6100 ≤ k ∧ k < 0x6200 ∧ k % 16 = 0 then m (bitAt (s.regNext (k + 1)) 17 && badFrameLen w) 17 0
    else 0
  | 10 =>
    if 0xA100 ≤ k ∧ k < 0xA400 ∧ k % 16 = 0 then m (badWet w (s.regNext (k + 1))) 17 14
    else if 0xA100 ≤ k ∧ k < 0xA400 ∧ k % 16 = 1 then m (badWet (s.regNext (k - 1)) w) 9 8
    else if 0xA680 ≤ k ∧ k < 0xA6C0 ∧ k % 16 = 0 then m (bitAt w 4 && badSyncPer (bitsOf (s.regNext (k + 1)) 17 6)) 4 4
    else if 0xA680 ≤ k ∧ k < 0xA6C0 ∧ k % 16 = 1 then m (bitAt (s.regNext (k - 1)) 4 && badSyncPer (bitsOf w 17 6)) 17 6
    else 0
  | 11 =>
    let b := k / 16 * 16
    if 0xB100 ≤ k ∧ k < 0xB160 then
      match k % 16 with
      | 1 => m (badBitTime w (bitsOf (s.regNext (b + 4)) 17 12)) 12 0
      | 2 => m (badBitTime w (bitsOf (s.regNext (b + 4)) 11 6)) 12 0
      | 3 => m (badBitTime w (bitsOf (s.regNext (b + 4)) 5 0)) 12 0
      | 4 =>
        m (badBitTime (s.regNext (b + 1)) (bitsOf w 17 12)) 17 12 + m (badBitTime (s.regNext (b + 2)) (bitsOf w 11 6)) 11 6
          + m (badBitTime (s.regNext (b + 3)) (bitsOf w 5 0)) 5 0
      | _ => 0
    else
      match k with
      | 0xBC00 => m (badHerd w (s.regNext rNET_HGRPH) (s.regNext rNET_HPORT)) 16 16
      | 0xBC06 => m (badHerd (s.regNext rNET_HCFG) w (s.regNext rNET_HPORT)) 15 0
      | 0xBC08 => m (badHerd (s.regNext rNET_HCFG) (s.regNext rNET_HGRPH) w) 15 0
      | _ => 0
  | _ => 0

/-! ### The store -/

/-- What a store makes of a register: its live word, its word in the shadow, the values that write-only fields accept, and the
flags that it sets. -/
structure StoreW where
  live : Nat
  shadow : Nat
  take : Nat := 0
  wr : Bool := false
  enc : Bool := false
  cfg : Bool := false
  deriving DecidableEq, Repr

/-- The value that a masked store gives a field whose present value is in `w`. -/
def maskedField (w v mask : Nat) (f : Field) : Nat := bitsOf (Nat.lor (dropBits w mask) (Nat.land v mask)) f.hi f.lo

/-- A field that a store writes with a value, its codes judged (R9 to R11). `mine`: the writer's transaction claims the
block. -/
def State.writeField (s : State) (c k : Nat) (mine : Bool) (v mask : Nat) (x : StoreW) (f : Field) : StoreW :=
  let sh := f.tx && mine
  let n := maskedField (if sh then x.shadow else x.live) v mask f
  let differs := decide (n ≠ bitsOf x.live f.hi f.lo)
  let bad := badField k f n
  if f.tx && !mine then { x with wr := x.wr || differs, enc := x.enc || bad }
  else if s.refusedField c k f || s.netKept k f.hi n then { x with wr := x.wr || differs, enc := x.enc || bad }
  else if s.heldField k f n then { x with cfg := x.cfg || differs, enc := x.enc || bad }
  else if bad then { x with enc := true }
  else if sh then { x with shadow := putBits x.shadow f.hi f.lo n }
  else { x with live := putBits x.live f.hi f.lo n }

/-- A write-only field: its present value is 0, and it stores nothing. -/
def State.commandField (s : State) (c k : Nat) (n : Nat) (x : StoreW) (f : Field) : StoreW :=
  if s.refusedField c k f || s.netKept k f.hi n then { x with wr := x.wr || decide (n ≠ 0), enc := x.enc || badField k f n }
  else if badField k f n then { x with enc := true }
  else { x with take := putBits x.take f.hi f.lo n }

/-- One field of a store. -/
def State.storeField (s : State) (c k : Nat) (mine : Bool) (v mask : Nat) (x : StoreW) (f : Field) : StoreW :=
  let m := Nat.land mask (maskOf f.hi f.lo)
  if m = 0 then x
  else
    match f.acc with
    | .ro => x
    | .rc => x
    | .w1c => { x with live := dropBits x.live (Nat.land v m) }
    | .w1s => { x with live := Nat.lor x.live (Nat.land v m) }
    | .wo => s.commandField c k (bitsOf (Nat.land v m) f.hi f.lo) x f
    | .rw => s.writeField c k mine v mask x f

/-- The bits of a mask taken from another word. -/
def takeBits (w o m : Nat) : Nat := Nat.lor (dropBits w m) (Nat.land o m)

/-- The fields of a reserved combination keep their values. -/
def State.storeCombo (s : State) (k : Nat) (x : StoreW) : StoreW :=
  let m := s.comboMask k x.shadow
  if m = 0 then x else { x with shadow := takeBits x.shadow (s.shadowOf k).toNat m, enc := true }

/-- A masked store judged. -/
def State.judgeStore (s : State) (c k v mask : Nat) : StoreW :=
  let mine := decide (s.claimant (k / 4096) = some c)
  match rowOf k with
  | some r =>
    s.storeCombo k (r.fields.foldl (s.storeField c k mine v mask) { live := s.reg k, shadow := (s.shadowOf k).toNat })
  | none => { live := s.reg k, shadow := (s.shadowOf k).toNat }

/-- The shadow of a register set. -/
def State.setShadow (s : State) (k v : Nat) : State :=
  if v = (s.shadowOf k).toNat then s
  else s.modRng (fun x => { x with shadow := smInsert (smErase x.shadow k) k (toWord v) })

/-- A register written is no longer latched: a read that follows returns the written value (R16). -/
def State.unlatch (s : State) (k : Nat) : State := { s with snap := smErase s.snap k }

/-- A judged store takes effect on its register and flags. -/
def State.applyStore (s : State) (k : Nat) (x : StoreW) : State :=
  (((s.setShadow k x.shadow).setReg k x.live).unlatch k)
    |>.raiseOn x.wr (wrrefOf k)
    |>.raiseOn x.enc (encrefOf k)
    |>.raiseIf x.cfg RNG_FLAG_CFGREF

/-! ### Commands that a store gives -/

/-- ICU_ACTL.HOLD of A0 or A1 written (R587): a release from reset, or a reset of the core. -/
def State.coreHold (s : State) (n : Nat) (hold : Bool) : State :=
  if !s.domOn .coreA then s
  else if hold then
    if (s.core n).run = .running ∨ (s.core n).run = .halted then s.setCore n { run := .reset } else s
  else if (s.core n).run = .reset then s.coreStart n
  else s

/-- ICU_LSCTL.TEST: a lockstep mismatch forced, which the comparator finds (R587). -/
def State.lockstepTest (s : State) : State := (s.setFld ICU_LSCTL_TOK 1).record 0 6 2

/-- The effects of a store to block 0. `old` is the live word before, `t` what the write-only fields took. -/
def State.icuEff (s : State) (k old t : Nat) : State :=
  match k with
  | 0x30006 => s.setFld (ICU_SWI_PEND 2) (Nat.lor (s.fld (ICU_SWI_PEND 2)) (bitsOf t 7 4))
  | 0x30E00 => if bitAt (s.reg k) 17 = bitAt old 17 then s else s.coreHold 0 (bitAt (s.reg k) 17)
  | 0x30E10 => if bitAt (s.reg k) 17 = bitAt old 17 then s else s.coreHold 1 (bitAt (s.reg k) 17)
  | 0x30E20 => s.when (bitAt t 17) State.lockstepTest
  | 0x30F00 => (s.when (bitAt t 17) (lbistStart (s.fld ICU_LBCTL_TGT))).when (bitAt t 16) (lbistCancel (s.fld ICU_LBCTL_TGT))
  | _ => s

/-- PCR_ENTRY (R446, R452). -/
def State.entryEff (s : State) (c : CoreId) (t : Nat) : State :=
  match bitsOf t 17 16, bitAt t 15 with
  | 0, false => requestMode .run s
  | 1, false => requestMode .browse s
  | 2, false => requestEntry c false s
  | 3, false => requestEntry c true s
  | 2, true => forcedEntry c false s
  | 3, true => forcedEntry c true s
  | _, _ => if c = .s then s.raise PCR_FLAG_ENCREF else s.raise PCR_FLAG_WRREF

def State.pcrEff (s : State) (c : CoreId) (k old t mask : Nat) : State :=
  match k with
  | 0x1001 => s.when (decide (Nat.land mask (maskOf 17 15) ≠ 0)) (fun s => s.entryEff c t)
  | 0x1004 => if s.reg k = old then s else zswOn (s.on PCR_DOMCTL_ZSWON) s
  | 0x1802 => padRelease (BitVec.ofNat 5 t) s
  | _ => s

/-- MEM_NCMD, MEM_SSCTL, MEM_OTPCMD and the starts of march and sweep. -/
def State.memEff (s : State) (k old t : Nat) : State :=
  match k with
  | 0x2008 => s.when (bitAt t 17) (marchStart (s.fld MEM_MCTL_BANK) (s.on MEM_MCTL_PRESERVE))
  | 0x2010 => s.when (bitAt (s.reg k) 17 && !bitAt old 17) State.sweepStart
  | 0x2030 =>
    match t % 16 with
    | 1 => nvmRead s
    | 2 => progrow s
    | 3 => eraseSect s
    | 4 => eraseBank s
    | 5 => blankChk s
    | _ => s
  | 0x2040 => if bitsOf t 17 16 = 1 then ssWrite s else if bitsOf t 17 16 = 2 then ssLoad s else s
  | 0x2050 => if bitsOf t 17 16 = 1 then otpProg (bitsOf t 10 0) s else s
  | _ => s

/-- RNG_RCFG.EN changed (R68, R80). -/
def State.rngEff (s : State) (k old : Nat) : State :=
  let n := (k - 0x3000) / 16
  if 0x3000 ≤ k ∧ k < 0x3400 ∧ k % 16 = 1 then
    if bitAt (s.reg k) 17 && !bitAt old 17 then s.ringEnable n
    else if !bitAt (s.reg k) 17 && bitAt old 17 then s.ringDisable n
    else s
  else s

/-- INP_LHCMD (R312): FORCE and REL. -/
def State.inpEff (s : State) (c : CoreId) (k old t : Nat) : State :=
  if k = rINP_LHCMD then
    (s.when (bitAt (s.reg k) 1 && !bitAt old 1) (fun s => s.limpEngage s.limpCauses)).when (bitAt t 0) (fun s => s.limpRelease c.num)
  else s

/-- The requests of transceivers, bus-off recovery, deafening, INH and the herd (R320, R324, R325, R329, R350, R355). -/
def State.netEff (s : State) (k old t mask : Nat) : State :=
  if 0xB100 ≤ k ∧ k < 0xB160 ∧ k % 16 = 5 then
    let n := (k - 0xB100) / 16
    (s.when (decide (bitsOf (s.reg k) 17 16 ≠ bitsOf old 17 16)) (fun s => s.tcvrRequest n)).when (bitAt t 7) (fun s => s.canRecover n)
  else if 0xB800 ≤ k ∧ k < 0xB840 ∧ k % 16 = 0 then
    s.when (decide (bitsOf (s.reg k) 7 6 ≠ bitsOf old 7 6)) (fun s => s.tcvrRequest (8 + (k - 0xB800) / 16))
  else if 0xBB00 ≤ k ∧ k < 0xBBA0 ∧ k % 16 = 1 then s.when (bitAt t 16) (fun s => s.undeafen ((k - 0xBB00) / 16))
  else if k = rNET_INH0 ∨ k = rNET_INH1 then s.refreshInh
  else if k = rNET_HCTL then
    (s.when (bitAt t 16) State.herdJoin).when (bitAt mask 17 && !bitAt (s.reg k) 17) State.herdWithdraw
  else s

/-- ETH_TCFG, ETH_TCTL and ETH_ASCTL (R398 to R400, R408). -/
def State.ethEff (s : State) (k t : Nat) : State :=
  if 0xD100 ≤ k ∧ k < 0xD160 ∧ k % 16 = 2 then s.when (decide (s.tc10 ((k - 0xD100) / 16) = 3)) (fun s => s.setTc10 ((k - 0xD100) / 16) 3)
  else if 0xD100 ≤ k ∧ k < 0xD160 ∧ k % 16 = 3 then
    (s.when (bitAt t 17) (fun s => s.tc10Sleep ((k - 0xD100) / 16))).when (bitAt t 16) (fun s => s.tc10Wake ((k - 0xD100) / 16))
  else s.when (decide (k = rETH_ASCTL) && bitAt t 13) State.zoneTimeSet

/-- ACC_PRES, ACC_ENRCMD, ACC_KCMD and ACC_CCMD (R426 to R436). -/
def State.accEff (s : State) (k t : Nat) : State :=
  match k with
  | 0xE800 => s.when (bitAt t 16) State.presClose
  | 0xE810 => (s.enrolCmd (bitsOf t 17 14) (bitsOf t 2 0)).when (decide (bitsOf t 17 14 ≠ 0)) State.imOwner
  | 0xE818 => s.when (decide (bitsOf t 17 15 = 3 ∨ 8 ≤ bitsOf t 3 0)) (fun s => s.keyCmd (bitsOf t 17 15) (bitsOf t 3 0))
  | 0xE820 => s.when (decide (bitsOf t 17 14 ≠ 0)) (fun s => s.cryptoCmd (bitsOf t 17 14) (bitAt t 13))
  | _ => s

/-- FLT_FACK and FLT_FREL of a block (R478 to R480). -/
def State.fltBlkEff (s : State) (b k t mask : Nat) : State :=
  if k % 16 = 4 then s.fltGate b (fltAck b t)
  else if k % 16 = 5 ∧ mask ≠ 0 then
    s.fltGate b (fun s =>
      (s.when (decide (bitsOf t 3 0 ≠ 0)) (logRelease b (bitsOf t 3 0))).when (bitAt t 17) (clrStk b))
  else s

/-- BRC_CFG and BRC_CMD (R540, R546 to R549). -/
def State.brcEff (s : State) (k old t : Nat) : State :=
  match k with
  | 0xF801 => if bitAt (s.reg k) 17 = bitAt old 17 then s else s.brEnable (bitAt (s.reg k) 17)
  | 0xF802 =>
    (s.when (bitAt t 17) (fun s => s.brYield 3)).when (bitAt t 16) State.brHandbackOut
      |>.when (bitAt t 15) State.brQuietOut
      |>.when (bitAt t 14) State.brWake
  | _ => if k < 0xF910 ∧ k % 16 = 0 then s.brMir ((k - 0xF810) / 16) old else s

/-- Block 15. -/
def State.fltEff (s : State) (c : CoreId) (k old t mask : Nat) : State :=
  if k < 0xF100 then s.fltBlkEff ((k - 0xF000) / 16) k t mask
  else if 0xF800 ≤ k ∧ k < 0xFC00 then s.brcEff k old t
  else
    match k with
    | 0xF702 => (s.when (bitAt t 12) (fun s => s.sOnly c clr4)).driveFltn
    | 0xF703 => s.when (bitAt t 17) (fun s => s.sOnly c (Sys2Proof.Machine.unfence (bitsOf t 11 8) (bitsOf t 7 0)))
    | 0xF713 => softTrace c (toWord t) s
    | 0xFC05 => (s.when (bitAt t 17) (imgCmd State.imCancel)).when (bitAt t 16) (imgCmd State.confInact)
    | 0xFC00 | 0xFC0B => s.imMoving
    | 0xFC06 => (s.modImg (fun i => { i with spdAge := 0 })).imMoving
    | 0xFC20 => if bitAt (s.reg k) 17 = bitAt old 17 then s else s.confirmReq (bitAt (s.reg k) 17)
    | _ => s

/-- What a store gives beyond the register itself. -/
def State.storeEff (s : State) (c : CoreId) (k old t mask : Nat) : State :=
  if k % 65536 < 4096 then s.icuEff k old t
  else
    match k / 4096 with
    | 1 => s.pcrEff c k old t mask
    | 2 => s.memEff k old t
    | 3 => s.rngEff k old
    | 6 => s.when (decide (0x6100 ≤ k ∧ k < 0x6200 ∧ k % 16 = 1) && bitAt t 15) (fun s => s.seqResume ((k - 0x6100) / 16))
    | 10 => s.inpEff c k old t
    | 11 => s.netEff k old t mask
    | 12 =>
      (s.when (decide (k = rZSW_AUDCTL) && bitAt t 17) censusStart).when (decide (k = rZSW_MCMD)) (fun s => s.macCommand (bitsOf t 17 15))
    | 13 => s.ethEff k t
    | 14 => s.accEff k t
    | 15 => s.fltEff c k old t mask
    | _ => s

/-- A masked store that reached a register, by a core or, as TXWRITE gives it, by a remote slot (R91): it takes effect as the
codes of the register's fields allow. DESIGN CHOICE: one that would make an acknowledgement of an entry false is refused with WRREF
(R449). -/
def State.storeAs (s : State) (o : Nat) (c : CoreId) (k v mask : Nat) : State :=
  let x := s.judgeStore o k v mask
  let t := (s.applyStore k x).storeEff c k (s.reg k) x.take mask
  if s.breaksAck t then s.raiseOn true (wrrefOf k) else t

/-- A masked store of a core that reached a register: a port takes the word. -/
def State.storeReg (s : State) (c : CoreId) (k v mask : Nat) : State :=
  if 0x3000 ≤ k ∧ k < 0x3400 ∧ k % 16 = 2 then (s.drainAll c.num).doorbell c.num ((k - 0x3000) / 16) (v % 1024)
  else if k = rSEQ_MDATA then s.mdataStore (toWord v)
  else if k = rMEM_NDATA then ndataPush (toWord v) s
  else s.storeAs c.num c k v mask

/-- The registers that A0 and A1 may not write (R584). -/
def sIcuOnly (c a : Nat) : Bool :=
  decide (c < 2) && decide ((0x400 ≤ a ∧ a < 0x456) ∨ (0xE00 ≤ a ∧ a < 0xE03) ∨ (0xE10 ≤ a ∧ a < 0xE13))

/-- A masked store that gives some field it writes a reserved encoding (R11). -/
def State.badStore (s : State) (k v mask : Nat) : Bool :=
  match rowOf k with
  | some r => r.fields.any (fun f => decide (Nat.land mask (maskOf f.hi f.lo) ≠ 0) && badField k f (maskedField (s.reg k) v mask f))
  | none => false

/-- A store by A0 or A1 to ICU_RT or to the control registers of A0 and A1: ignored, with WRREF (R584) and, for a reserved
route, ENCREF (R11). -/
def State.sIcuStore (s : State) (c a v mask : Nat) : State :=
  (s.when (decide (0xE00 ≤ a)) (fun s => s.ioFlag c true a)).raise (ICU_FLAG_WRREF c)
    |>.raiseIf (decide (a < 0xE00) && s.badStore (0x30000 + a) v mask) (ICU_FLAG_ENCREF c)

/-- A masked store of a core to an I/O address. -/
def State.ioStoreM (s : State) (c : CoreId) (a v mask : Nat) : State :=
  if sIcuOnly c.num a then s.sIcuStore c.num a v mask
  else s.atReg c.num a (fun k => s.storeReg c k v mask)

/-- A store of a core to an I/O address. -/
def State.ioStore (s : State) (c : CoreId) (a : Nat) (v : Word) : State := s.ioStoreM c a v.toNat (2 ^ 18 - 1)

/-- A store that writes one field of a register and leaves the others with their present values. -/
def State.ioField (s : State) (c : CoreId) (f : FRef) (v : Nat) : State :=
  s.ioStoreM c (keyAddr f.addr) (v * 2 ^ f.lo) (maskOf f.hi f.lo)

end Sys2Proof.Machine
end

