-- ==== Sys2Proof/Machine/Regs.lean ====
section
/-! DEFINITION. What a load from an I/O register does (R9, R12, R18, R61), and the commands that are loads and stores of
registers. -/

namespace Sys2Proof.Machine

/-! ### Snapshot groups (R12) -/

/-- The registers of a run from `k` on. -/
def runFrom (k : Nat) (l : List Nat) : List Nat := l.map (fun i => k + i)

/-- Register `i` of a set of `n` sets of 16 registers at a base. -/
def inSet (k base n i : Nat) : Bool := decide (base ≤ k ∧ k < base + 16 * n ∧ (k - base) % 16 = i)

/-- The registers that a read of a group's first register latches, by block. -/
def snapPCR (k : Nat) : List Nat :=
  match k with
  | 0x1804 => [0x1805, 0x1806]
  | 0x1810 => runFrom k [1, 2, 3, 4, 5, 6, 7]
  | 0x1818 => [0x1819, 0x181A]
  | _ => []
def snapMEM (k : Nat) : List Nat :=
  match k with
  | 0x2018 => [0x2019, 0x201A]
  | 0x2045 => [0x2046]
  | _ => []
def snapRNG (k : Nat) : List Nat := if inSet k 0x3600 4 2 ∨ inSet k 0x3600 4 4 then [k + 1] else []
def snapTHM (k : Nat) : List Nat := if inSet k 0x5100 128 1 then [k + 1, k + 2] else if inSet k 0x5100 128 5 then [k + 1] else []
def snapSEQ (k : Nat) : List Nat :=
  match k with
  | 0x6004 => runFrom k [1, 2, 3]
  | 0x6018 => [0x6019]
  | _ => []
def snapMOT (k : Nat) : List Nat := if inSet k 0x7100 16 2 then [k + 1] else if inSet k 0x7300 4 5 then runFrom k [1, 2, 3] else []
def snapVLV (k : Nat) : List Nat := if inSet k 0x8100 4 2 then [k + 1, k + 4] else if inSet k 0x8200 16 4 then runFrom k [1, 2, 3] else []
def snapLUX (k : Nat) : List Nat := if inSet k 0x9100 24 3 then [k + 1, k + 2] else if inSet k 0x9500 8 3 then runFrom k [1, 2, 3] else []
def snapINP (k : Nat) : List Nat :=
  if k = 0xA004 then [0xA005, 0xA006]
  else if k = 0xA014 then [0xA015]
  else if inSet k 0xA600 8 2 ∨ inSet k 0xA680 4 3 then [k + 1, k + 2]
  else []
def snapNET (k : Nat) : List Nat := if inSet k 0xB100 6 6 then [k + 1] else if k = 0xBC10 then runFrom k [1, 2, 3] else []
def snapZSW (k : Nat) : List Nat :=
  if k = 0xC009 then [0xC00A]
  else if inSet k 0xC100 10 5 ∨ inSet k 0xC200 80 2 then runFrom k [1, 2, 3, 4]
  else []
def snapETH (k : Nat) : List Nat :=
  match k with
  | 0xDC02 => runFrom k [1, 2, 3]
  | 0xDC01 => [0xDC0A, 0xDC0B]
  | _ => []
def snapACC (k : Nat) : List Nat := if inSet k 0xE100 4 1 then [k + 1, k + 2] else if k = 0xE814 then runFrom k [1, 2, 3] else []
def snapFLT (k : Nat) : List Nat :=
  if inSet k 0xF000 16 0 then runFrom k [1, 2, 3]
  else if 0xF100 ≤ k ∧ k < 0xF300 ∧ k % 4 = 0 then runFrom k [1, 2, 3]
  else if 0xF300 ≤ k ∧ k < 0xF700 ∧ (k - 0xF300) % 64 % 3 = 0 then [k + 1, k + 2]
  else if inSet k 0xF810 16 1 then [k + 1]
  else
    match k with
    | 0xF708 => runFrom k [1, 2, 3]
    | 0xF803 => [0xF806]
    | 0xFC01 => runFrom k [1, 2, 3]
    | _ => []

/-- The other registers of the snapshot group that a register latches; none for any other register. -/
def snapOf (k : Nat) : List Nat :=
  match k / 4096 with
  | 1 => snapPCR k
  | 2 => snapMEM k
  | 3 => snapRNG k
  | 4 => if inSet k 0x4100 64 4 then [k + 1, k + 2] else []
  | 5 => snapTHM k
  | 6 => snapSEQ k
  | 7 => snapMOT k
  | 8 => snapVLV k
  | 9 => snapLUX k
  | 10 => snapINP k
  | 11 => snapNET k
  | 12 => snapZSW k
  | 13 => snapETH k
  | 14 => snapACC k
  | 15 => snapFLT k
  | _ => []

/-- A read latches the present values of a register's group. -/
def State.latch (s : State) (k : Nat) : State :=
  s.each (snapOf k) (fun j s => { s with snap := smInsert (smErase s.snap j) j (toWord (s.view j)) })

/-! ### The load -/

/-- The bits of the RC fields of a register. -/
def rcBits (k : Nat) : Nat :=
  match rowOf k with
  | some r => r.fields.foldl (fun m f => if f.acc = .rc then Nat.lor m (maskOf f.hi f.lo) else m) 0
  | none => 0

/-- What a read of a register returns: the latched value of a snapshot group, else the present value. -/
def State.readVal (s : State) (k : Nat) : Nat :=
  match smFind s.snap k with
  | some w => w.toNat
  | none => s.view k

/-- What a read of a register does beside returning its value: RC fields clear, a claimed software source clears, the events
that a read of their register ends are over. -/
def State.readEff (s : State) (k : Nat) : State :=
  (s.setReg k (dropBits (s.reg k) (rcBits k)))
    |>.when (decide (k % 65536 = 4)) (fun s => s.claimed (k / 65536 - 1))
    |>.when (decide (k = 0xE800)) (fun s => s.modAcc (fun a => { a with evPres := false }))
    |>.when (decide (k = 0xE811 ∨ k = 0xE81A)) (fun s => s.modAcc (fun a => { a with evEnrol := false }))
    |>.when (decide (k = 0xE825)) (fun s => s.modAcc (fun a => { a with evCrypto := false }))
    |>.when (decide (freeBits k ≠ [])) State.drew

def State.setRdata (s : State) (w : Word) : State := { s with rdata := w }

/-- A load that reached a register: the returned word is in `rdata`. -/
def State.busLoad (s : State) (k : Nat) : State :=
  if k = rSEQ_MDATA then
    let t := s.mdataLoad
    t.setRdata (toWord (t.reg rSEQ_MDATA))
  else if k = rMEM_NDATA then ndataPop s
  else ((s.latch k).readEff k).setRdata (toWord (s.readVal k))

/-- A load of a core from an I/O address; a reserved address and an off domain read 0. -/
def State.ioRead (s : State) (c : CoreId) (a : Nat) : State := (s.setRdata 0).atReg c.num a s.busLoad

/-! ### The commands -/

/-- REGISTER_WRITE. -/
def execRegisterWrite (c : CoreId) (a : BitVec 16) (v : Word) (s : State) : Out State := .next (s.ioStore c a.toNat v)
/-- RC_COUNTER_READ. -/
def execRcCounterRead (c : CoreId) (a : BitVec 16) (s : State) : Out State := .next (s.ioRead c a.toNat)
/-- SNAPSHOT_READ. -/
def execSnapshotRead (c : CoreId) (a : BitVec 16) (s : State) : Out State := .next (s.ioRead c a.toNat)

/-- RING_ENABLE and RING_DISABLE (R68, R80): EN written, the other fields with their present values. -/
def execRingEnable (c : CoreId) (r : Fin 64) (s : State) : Out State := .next (s.ioField c (RNG_RCFG_EN r) 1)
def execRingDisable (c : CoreId) (r : Fin 64) (s : State) : Out State := .next (s.ioField c (RNG_RCFG_EN r) 0)

/-- The core as which the owner of a transaction acts; a remote slot has no right of S. -/
def ownerCore (o : Nat) : CoreId := if o = 2 then .s else if o = 1 then .a1 else .a0

/-- TXWRITE (R91). -/
def txWrite (d : Desc) (s : State) : State :=
  let a := d.w2.toNat
  let v := d.w3.toNat
  let m := d.w4.toNat
  if 2 ^ 16 ≤ a then s.finish d stBadParam 2
  else if !s.on (RNG_TXSTAT_OPEN d.owner) then s.finish d 0o22 0
  else if a < 4096 ∨ s.claimant (a / 4096) ≠ some d.owner ∨ Nat.land m (txMask a (fun _ => true)) = 0 then
    s.finish d stDenied (a % 4096)
  else (s.storeAs d.owner (ownerCore d.owner) a v m).finish d stDone 0
def execTxwrite (r : Fin 64) (i : Fin 1024) (s : State) : Out State := .next (s.onReady 1 2 r i txWrite)

/-- LIMP_HOME_FORCE and LIMP_HOME_RELEASE (R312). -/
def execLimpHomeForce (c : CoreId) (s : State) : Out State := .next (s.ioField c INP_LHCMD_FORCE 1)
def execLimpHomeRelease (c : CoreId) (s : State) : Out State := .next (s.ioField c INP_LHCMD_REL 1)

/-- BUSOFF_RECOVERY (R320). -/
def execBusoffRecovery (c : CoreId) (n : Fin 6) (s : State) : Out State := .next (s.ioField c (NET_CTC_RECOV n) 1)
/-- TRANSCEIVER_REQUEST (R323, R324) of a wake source's channel: CAN0 to CAN5, LIN0 to LIN3. -/
def execTransceiverRequest (c : CoreId) (n : Fin 10) (v : BitVec 2) (s : State) : Out State :=
  .next (s.ioField c (if n.val < 6 then NET_CTC_REQ n else NET_LCFG_REQ (n.val - 6)) v.toNat)
/-- UNDEAF (R329). -/
def execUndeaf (c : CoreId) (n : Fin 10) (s : State) : Out State := .next (s.ioField c (NET_WKSTAT_UNDEAF n) 1)
/-- HERD_JOIN (R350) and HERD_CONS_WITHDRAW (R355). -/
def execHerdJoin (c : CoreId) (s : State) : Out State := .next (s.ioField c NET_HCTL_JOIN 1)
def execHerdConsWithdraw (c : CoreId) (s : State) : Out State := .next (s.ioField c NET_HCTL_CONS 0)

/-- LOOKUP, INSERT, DELETE, FLUSH_LEARNED and FLUSH_LEARNED_OF_PORT (R370). -/
def execLookup (c : CoreId) (s : State) : Out State := .next (s.ioField c ZSW_MCMD_CMD 1)
def execInsert (c : CoreId) (s : State) : Out State := .next (s.ioField c ZSW_MCMD_CMD 2)
def execDelete (c : CoreId) (s : State) : Out State := .next (s.ioField c ZSW_MCMD_CMD 3)
def execFlushLearned (c : CoreId) (s : State) : Out State := .next (s.ioField c ZSW_MCMD_CMD 4)
def execFlushLearnedOfPort (c : CoreId) (s : State) : Out State := .next (s.ioField c ZSW_MCMD_CMD 5)
/-- CENSUS_START (R386). -/
def execCensusStart (c : CoreId) (s : State) : Out State := .next (s.ioField c ZSW_AUDCTL_START 1)

/-- TC10_SLEEP_REQUEST (R399) and TC10_WAKE (R400). -/
def execTc10SleepRequest (c : CoreId) (p : Fin 6) (s : State) : Out State := .next (s.ioField c (ETH_TCTL_SLEEP p) 1)
def execTc10Wake (c : CoreId) (p : Fin 6) (s : State) : Out State := .next (s.ioField c (ETH_TCTL_WAKE p) 1)
/-- ZONE_TIME_SET (R408). -/
def execZoneTimeSet (c : CoreId) (s : State) : Out State := .next (s.ioField c ETH_ASCTL_SET 1)

/-- A write of ACC_ENRCMD: command and slot. -/
def State.enrolWrite (s : State) (c : CoreId) (cmd slot : Nat) : State :=
  s.ioStoreM c rACC_ENRCMD (cmd * 2 ^ 14 + slot) (maskOf 17 14 + maskOf 2 0)
/-- The enrolment commands (R426 to R433). -/
def execLearnK (c : CoreId) (s : State) : Out State := .next (s.enrolWrite c 1 0)
def execLearnT (c : CoreId) (s : State) : Out State := .next (s.enrolWrite c 2 0)
def execRevokeK (c : CoreId) (k : Fin 8) (s : State) : Out State := .next (s.enrolWrite c 3 k)
def execRevokeT (c : CoreId) (k : Fin 8) (s : State) : Out State := .next (s.enrolWrite c 4 k)
def execLearnClose (c : CoreId) (s : State) : Out State := .next (s.enrolWrite c 5 0)
def execOwnerSet (c : CoreId) (s : State) : Out State := .next (s.enrolWrite c 6 0)
def execOwnerClr (c : CoreId) (s : State) : Out State := .next (s.enrolWrite c 7 0)
def execNonce (c : CoreId) (s : State) : Out State := .next (s.enrolWrite c 8 0)
def execDbgUnlock (c : CoreId) (s : State) : Out State := .next (s.enrolWrite c 9 0)
/-- PRESENCE_CLOSE (R432). -/
def execPresenceClose (c : CoreId) (s : State) : Out State := .next (s.ioField c ACC_PRES_CLOSE 1)

/-- A write of ACC_KCMD: command and entry. -/
def State.keyWrite (s : State) (c : CoreId) (cmd e : Nat) : State :=
  s.ioStoreM c rACC_KCMD (cmd * 2 ^ 15 + e) (maskOf 17 15 + maskOf 3 0)
/-- KEY_LOAD, ROTATE and LOADTR (R436). -/
def execKeyLoad (c : CoreId) (e : BitVec 4) (s : State) : Out State := .next (s.keyWrite c 1 e.toNat)
def execRotate (c : CoreId) (e : BitVec 4) (s : State) : Out State := .next (s.keyWrite c 2 e.toNat)
def execLoadtr (c : CoreId) (s : State) : Out State := .next (s.keyWrite c 3 12)

/-- A write of ACC_CCMD: operation and key length. -/
def State.cryptoWrite (s : State) (c : CoreId) (op : Nat) (long : Bool) : State :=
  s.ioStoreM c rACC_CCMD (op * 2 ^ 14 + b2n long * 2 ^ 13) (maskOf 17 13)
/-- The crypto commands (R434). `long`: a key of 256 bits. -/
def execAesenc (c : CoreId) (long : Bool) (s : State) : Out State := .next (s.cryptoWrite c 1 long)
def execAesdec (c : CoreId) (long : Bool) (s : State) : Out State := .next (s.cryptoWrite c 2 long)
def execCmac (c : CoreId) (s : State) : Out State := .next (s.cryptoWrite c 3 false)
def execSha256 (c : CoreId) (s : State) : Out State := .next (s.cryptoWrite c 4 false)
def execEcdsaver (c : CoreId) (s : State) : Out State := .next (s.cryptoWrite c 5 false)
def execRandom (c : CoreId) (s : State) : Out State := .next (s.cryptoWrite c 6 false)

/-- LBIST_START and LBIST_CANCEL (R509) with TGT. -/
def execLbistStart (c : CoreId) (t : BitVec 2) (s : State) : Out State :=
  .next (s.ioStoreM c 0xF00 (2 ^ 17 + t.toNat * 2 ^ 14) (2 ^ 18 - 1))
def execLbistCancel (c : CoreId) (t : BitVec 2) (s : State) : Out State :=
  .next (s.ioStoreM c 0xF00 (2 ^ 16 + t.toNat * 2 ^ 14) (2 ^ 18 - 1))

/-- IMCMD_CLOSE (R521), CONFINACT (R530) and CONFIRM_REQUEST (R529). -/
def execImcmdClose (c : CoreId) (s : State) : Out State := .next (s.ioField c FLT_IMCMD_CLOSE 1)
def execConfinact (c : CoreId) (s : State) : Out State := .next (s.ioField c FLT_IMCMD_CONFINACT 1)
def execConfirmRequest (c : CoreId) (req : Bool) (s : State) : Out State := .next (s.ioField c FLT_IMCONF_REQ (b2n req))

/-- The pairing commands (R546, R548, R549). -/
def execBrcYield (c : CoreId) (s : State) : Out State := .next (s.ioField c BRC_CMD_YIELD 1)
def execBrcHandback (c : CoreId) (s : State) : Out State := .next (s.ioField c BRC_CMD_HANDBACK 1)
def execBrcQuiet (c : CoreId) (s : State) : Out State := .next (s.ioField c BRC_CMD_QUIET 1)
def execBrcWake (c : CoreId) (s : State) : Out State := .next (s.ioField c BRC_CMD_WAKE 1)

end Sys2Proof.Machine
end

