-- ==== Sys2Proof/Machine/Raloa.lean ====
section
/-! DEFINITION. The loads, stores, I/O accesses, branches, calls, returns, loops, halts and entries of the Raloa-18 (R556 to
R562, R568 to R577, R581 to R583, R589, R590, R596 to R598). -/

namespace Sys2Proof.Machine

/-! ### Loads and stores (R596) -/

/-- A load of `n` parcels from an address: `pre` changes the core before the loaded word is written. -/
def State.loadOp (s : State) (c : CoreId) (n rd : Nat) (a : Core → Word) (pre : Core → Core) : State :=
  let p := (a (s.core c.num)).toNat
  s.instr c.num n [] [s.loadTrap c.num p] (fun s =>
    let w := s.coreWord c.num p
    (s.loadNote c.num p).modCore c.num (fun x => ((pre x).put rd w).next n))

/-- A store of `n` parcels to an address: `post` changes the core after the word of `rd` was taken. -/
def State.storeOp (s : State) (c : CoreId) (n rd : Nat) (a : Core → Word) (post : Core → Core) : State :=
  let p := (a (s.core c.num)).toNat
  s.instr c.num n [] [s.storeTrap c.num p] (fun s =>
    (s.store c.num p ((s.core c.num).get rd)).modCore c.num (fun x => (post x).next n))

def execLd (c : CoreId) (rd rs : Fin 32) (s : State) : Out State := .next (s.loadOp c 1 rd (fun x => x.get rs) id)
def execLdPostIncrement (c : CoreId) (rd rs : Fin 32) (s : State) : Out State :=
  .next (s.loadOp c 1 rd (fun x => x.get rs) (fun x => x.put rs (x.get rs + 1)))
def execLdPreDecrement (c : CoreId) (rd rs : Fin 32) (s : State) : Out State :=
  .next (s.loadOp c 1 rd (fun x => x.get rs - 1) (fun x => x.put rs (x.get rs - 1)))
def execSt (c : CoreId) (rd rs : Fin 32) (s : State) : Out State := .next (s.storeOp c 1 rd (fun x => x.get rs) id)
def execStPostIncrement (c : CoreId) (rd rs : Fin 32) (s : State) : Out State :=
  .next (s.storeOp c 1 rd (fun x => x.get rs) (fun x => x.put rs (x.get rs + 1)))
def execStPreDecrement (c : CoreId) (rd rs : Fin 32) (s : State) : Out State :=
  .next (s.storeOp c 1 rd (fun x => x.get rs - 1) (fun x => x.put rs (x.get rs - 1)))
def execLdl (c : CoreId) (rd rs : Fin 32) (i : Word) (s : State) : Out State := .next (s.loadOp c 2 rd (fun x => x.get rs + i) id)
def execStl (c : CoreId) (rd rs : Fin 32) (i : Word) (s : State) : Out State := .next (s.storeOp c 2 rd (fun x => x.get rs + i) id)

/-- STORE_DRAIN (R579). -/
def execStoreDrain (c : CoreId) (s : State) : Out State := .next (if s.lives c.num then s.drainOne c.num else s)

/-! ### I/O (R580, R596) -/

/-- The trap of an I/O access, if any: I/O range, MPU; a core's own ICU is not judged. -/
def State.ioTrap (s : State) (c p : Nat) (store : Bool) : Option Trp :=
  if 2 ^ 16 ≤ p then some ⟨2, 4, p⟩
  else if 4096 ≤ p ∧ !s.mpuOk c true p store then some ⟨2, 3, p⟩
  else none

/-- A register takes the word that a load returned, unless the load ended in a reset or entry of the core. -/
def State.takeRead (s t : State) (c rd : Nat) : State := if t.core c = s.core c then t.modCore c (fun x => x.put rd t.rdata) else t

/-- An I/O load: the store buffer drains, the instruction completes, and the register takes the word. -/
def State.inAt (s : State) (c : CoreId) (n rd p : Nat) : State :=
  let u := (s.drainAll c.num).modCore c.num (fun x => x.next n)
  u.takeRead (u.ioRead c p) c.num rd

def execIoIn (c : CoreId) (rd rs : Fin 32) (i : Word) (s : State) : Out State :=
  let p := ((s.core c.num).get rs + i).toNat
  .next (s.instr c.num 2 [] [s.ioTrap c.num p false] (fun s => s.inAt c 2 rd p))

def execOut (c : CoreId) (rd rs : Fin 32) (i : Word) (s : State) : Out State :=
  let p := ((s.core c.num).get rs + i).toNat
  .next (s.instr c.num 2 [] [s.ioTrap c.num p true] (fun s =>
    ((s.drainAll c.num).modCore c.num (fun x => x.next 2)).ioStore c p ((s.core c.num).get rd)))

/-- MFS: a read of CLM is a read of ICU_CLAIM (R563, R575). -/
def execMfs (c : CoreId) (r : Fin 32) (sn : Fin 64) (s : State) : Out State :=
  .next (s.instr c.num 1 [s.ill c.num 1 (!sprListed sn)] [] (fun s =>
    if sn.val = 48 then s.inAt c 1 r 4 else s.modCore c.num (fun x => (x.put r (x.special c.num sn)).next 1)))

/-! ### Branches (R592, R597) -/

/-- A condition holds. -/
def Core.holds (x : Core) (cond : Nat) : Bool := condHolds cond x.n x.z x.c x.v

/-- A taken branch, with its trace record. -/
def State.jumpTo (s : State) (c t : Nat) : State :=
  (s.flow c (s.core c).pc).modCore c (fun x => x.jump t)

/-- Bcond and BLcond by an offset. -/
def State.branchOp (s : State) (c : CoreId) (n : Nat) (cond : BitVec 4) (h : Bool) (off : Int) : State :=
  s.instr c.num n [s.ill c.num 2 (decide (cond.toNat = 15) || (decide (cond.toNat = 0) && h))] [] (fun s =>
    let x := s.core c.num
    if x.holds cond.toNat then s.jumpTo c.num (wrapTo 21 ((x.pc : Int) + off)) else s.modCore c.num (fun x => x.next n))

def execBCond (c : CoreId) (cond : BitVec 4) (h : Bool) (off : BitVec 7) (s : State) : Out State :=
  .next (s.branchOp c 1 cond h off.toInt)
def execBlCond (c : CoreId) (cond : BitVec 4) (h : Bool) (off : Word) (s : State) : Out State :=
  .next (s.branchOp c 2 cond h off.toInt)
def execJmp (c : CoreId) (t : BitVec 21) (s : State) : Out State :=
  .next (s.instr c.num 2 [] [] (fun s => s.jumpTo c.num t.toNat))
def execJmpr (c : CoreId) (rs : Fin 32) (s : State) : Out State :=
  .next (s.instr c.num 1 [] [] (fun s => s.jumpTo c.num (((s.core c.num).get rs).toNat * 8)))

/-! ### Calls and returns (R556, R561, R574) -/

/-- A core's next parcel set, with the trace record of the instruction at the present one. -/
def State.goTo (s : State) (c t : Nat) : State :=
  (s.flow c (s.core c).pc).modCore c (fun x => { x with pc := t % 2 ^ 21 })

/-- A call of `n` parcels to a target that is read before the slide. -/
def State.callOp (s : State) (c : CoreId) (n : Nat) (t : Core → Nat) : State :=
  s.instr c.num n [] [s.callTrap c.num] (fun s =>
    let x := s.core c.num
    (s.slideIn c.num ((x.pc + n) % 2 ^ 21)).goTo c.num (t x))

def execCall (c : CoreId) (t : BitVec 21) (s : State) : Out State := .next (s.callOp c 2 (fun _ => t.toNat))
def execCallr (c : CoreId) (rs : Fin 32) (s : State) : Out State := .next (s.callOp c 1 (fun x => (x.get rs).toNat * 8))

/-- The window of a return: the levels of the present WD end, a window is refilled where one is resident, the core jumps to
LK, and `f` finishes its status. -/
def State.returnOp (s : State) (c : CoreId) (f : Core → Core → Core) : State :=
  s.instr c.num 1 [] [s.retTrap c.num] (fun s =>
    let x := s.core c.num
    let t := s.modCore c.num Core.endTagged
    (if x.res ≤ 1 then t.refill c.num else t).goTo c.num x.getLk
      |>.modCore c.num (fun y => f x y.unslide))

def execRet (c : CoreId) (s : State) : Out State := .next (s.returnOp c (fun _ y => y.wdDown))
/-- RETI: SR from the saved-status slot of the window that returns. -/
def execReti (c : CoreId) (s : State) : Out State := .next (s.returnOp c (fun x y => { y with sr := x.getSlot &&& 0o777770 }))

/-- RETIM. -/
def execRetim (c : CoreId) (s : State) : Out State :=
  let p := (s.core c.num).isp.toNat
  let w (i : Nat) : Word := s.coreWord c.num ((p + i) % 2 ^ 18)
  .next (s.instr c.num 1 [] [s.loadsTrap c.num p 3] (fun s =>
    ((s.each (List.range 3) (fun i s => s.loadNote c.num ((p + i) % 2 ^ 18))).modCore c.num (fun x =>
        let y := x.endTagged
        { y with sr := w 2 &&& 0o777770, isp := y.isp + 3 }))
      |>.goTo c.num ((w 0).toNat % 8 * 2 ^ 18 + (w 1).toNat)))

/-- The registers that a CALLM or RETM mask names, ascending: globals, then relay registers. -/
def maskRegs (m : BitVec 16) : List Nat := (onesBelow 8 m.toNat) ++ (onesBelow 8 (m.toNat / 256)).map (fun i => 24 + i)

/-- CALLM. -/
def execCallm (c : CoreId) (p t : Fin 32) (m : BitVec 16) (s : State) : Out State :=
  let l := maskRegs m
  let n := 2 + l.length
  let x := s.core c.num
  let q : Word := x.get p - toWord n
  let ret := (x.pc + 2) % 2 ^ 21
  .next (s.instr c.num 2 [s.ill c.num 2 (l.contains p.val)] [s.storesTrap c.num q.toNat n] (fun s =>
    ((s.storeList c.num q.toNat ([toWord (ret / 2 ^ 18), toWord ret] ++ l.map x.get)).modCore c.num (fun y => (y.put p q).wdUp))
      |>.goTo c.num ((x.get t).toNat * 8)))

/-- RETM. -/
def execRetm (c : CoreId) (p : Fin 32) (m : BitVec 16) (s : State) : Out State :=
  let l := maskRegs m
  let n := 2 + l.length
  let a := ((s.core c.num).get p).toNat
  let w (i : Nat) : Word := s.coreWord c.num ((a + i) % 2 ^ 18)
  .next (s.instr c.num 2 [s.ill c.num 2 (l.contains p.val)] [s.loadsTrap c.num a n] (fun s =>
    ((s.each (List.range n) (fun i s => s.loadNote c.num ((a + i) % 2 ^ 18))).modCore c.num (fun x =>
        let y := (List.range l.length).foldl (fun (y : Core) i => y.put (l.getD i 0) (w (2 + i))) x.endTagged
        (y.put p (y.get p + toWord n)).wdDown))
      |>.goTo c.num ((w 0).toNat % 8 * 2 ^ 18 + (w 1).toNat)))

/-! ### Loops (R568, R598) -/

/-- The active levels, counted. -/
def Core.levels (x : Core) : Nat := ((List.range 4).filter (fun k => x.active k)).length

/-- An end beyond the end of an active level with the present tag. -/
def Core.nestBad (x : Core) (e : Nat) : Bool := (List.range 4).any (fun k => x.acts k && decide (x.lpeOf k < e))

/-- LOOP and LOOPI of `n` parcels. -/
def State.loopOp (s : State) (c : CoreId) (n : Nat) (e : Nat) (count : Core → Nat) : State :=
  let x := s.core c.num
  let last := (x.pc + n + e) % 2 ^ 21
  s.instr c.num n [s.ill c.num 3 (decide (4 ≤ x.levels))] [s.ill c.num 4 (decide (e = 0)), s.ill c.num 5 (x.nestBad last)] (fun s =>
    s.modCore c.num (fun x =>
      if count x = 0 then { x with pc := (last + 1) % 2 ^ 21 }
      else
        let k := x.levels
        let y := (((x.setLps k (x.pc + n)).setLpe k last).setLpc k (count x)).setTag k x.wd
        { y with pc := (x.pc + n) % 2 ^ 21 }))

def execLoop (c : CoreId) (rc : Fin 32) (e : BitVec 7) (s : State) : Out State := .next (s.loopOp c 1 e.toNat (fun x => (x.get rc).toNat))
def execLoopi (c : CoreId) (e : BitVec 7) (count : Word) (s : State) : Out State := .next (s.loopOp c 2 e.toNat (fun _ => count.toNat))

/-! ### Halts, entries and traps (R571, R573, R602, R603) -/

def execHalt (c : CoreId) (s : State) : Out State :=
  .next (s.instr c.num 1 [] [] (fun s =>
    (s.drainAll c.num).modCore c.num (fun x =>
      let y := x.next 1
      { y with run := .halted })))

/-- HALT_RESUME; a core whose agent has acknowledged an entry, or that commits one, stays in its halt (R449, R451). -/
def haltResume (c : Nat) (s : State) : State :=
  let x := s.core c
  if s.acked 0 ∨ s.fld PCR_ENTRY_PHASE = 2 then s else
  match s.pendAbove c x.prio with
  | some (p, _) =>
    if x.run ≠ .halted ∨ !s.lives c then s
    else if x.ie then s.interrupt c p
    else s.modCore c (fun x => { x with run := .running })
  | none => s
def execHaltResume (c : CoreId) (s : State) : Out State := .next (haltResume c.num s)

/-- INTERRUPT_ENTRY. -/
def interruptEntry (c : Nat) (s : State) : State :=
  match s.pendAbove c (s.core c).prio with
  | some (p, _) => if s.runs c && (s.core c).ie then s.interrupt c p else s
  | none => s
def execInterruptEntry (c : CoreId) (s : State) : Out State := .next (interruptEntry c.num s)

/-- SYS or BRK: TAD is its own parcel, and the return address the parcel that follows, with the loop levels that act (R603). -/
def State.softTrap (s : State) (c : Nat) (vec cause : Nat) : State :=
  s.instr c 1 [] [] (fun s => s.landed c (fun s =>
    let x := s.core c
    if !bitAt x.ctl.toNat 16 && (s.callTrap c).isSome then s.spillEntry c x.pc
    else
      let q := x.after 1
      (s.setCore c q.1).trapEntry c ⟨vec, cause, x.pc⟩ q.2 x.pc))

def execSys (c : CoreId) (rs : Fin 32) (s : State) : Out State := .next (s.softTrap c.num 6 rs)
def execBrk (c : CoreId) (rs : Fin 32) (s : State) : Out State := .next (s.softTrap c.num 7 rs)

/-! ### Undefined parcels (R589, R590) -/

/-- The parcels of an instruction, by its first parcel. -/
def parcels (w : Nat) : Nat := if [16, 17, 20, 21, 23, 24, 25, 28, 29, 31].contains (w / 4096) then 2 else 1

/-- The cause of the trap of a parcel pattern that no instruction has: 1 undefined, 2 reserved field; none for an instruction.
The SUB codes and the required fields of R589 and R590. -/
def illCause (w0 w1 : Nat) : Option Nat :=
  let op := w0 / 4096
  let sub := w0 % 4
  let rd := bitsOf w0 11 7
  let rs := bitsOf w0 6 2
  let sn := bitsOf w0 6 1
  let res (b : Bool) : Option Nat := if b then some 2 else none
  let masked (m : Nat) : Bool := (maskRegs (BitVec.ofNat 16 m)).contains rd
  match op with
  | 0 => res (decide (w0 % 4096 ≠ 0))
  | 6 => res (decide (17 < w0 % 32))
  | 8 => if 2 ≤ sub then some 1 else none
  | 9 => if !sprListed sn then some 1 else res (decide (w0 % 2 = 1))
  | 10 => if !sprListed sn || sprRo sn then some 1 else res (decide (w0 % 2 = 1))
  | 15 => res (decide (17 < w0 % 32))
  | 16 => res (decide (sub = 0 ∧ rs ≠ 0))
  | 17 => res (decide (2 ≤ sub ∧ rd ≠ 0))
  | 18 => if sub = 3 then some 1 else none
  | 19 => if sub = 3 then some 1 else none
  | 20 => if sub = 3 then some 1 else none
  | 21 => if 2 ≤ sub then some 1 else none
  | 22 => res (decide (bitsOf w0 11 8 = 15 ∨ (bitsOf w0 11 8 = 0 ∧ bitsOf w0 7 7 = 1)))
  | 23 => res (decide (bitsOf w0 11 8 = 15 ∨ (bitsOf w0 11 8 = 0 ∧ bitsOf w0 7 7 = 1) ∨ w0 % 128 ≠ 0))
  | 24 => res (decide (bitsOf w0 11 3 ≠ 0))
  | 25 => res (decide (bitsOf w0 11 3 ≠ 0))
  | 26 => res (decide (rd ≠ 0 ∨ (2 ≤ sub ∧ rs ≠ 0)))
  | 27 => res (decide (rd ≠ 0 ∨ (sub < 2 ∧ rs ≠ 0)))
  | 28 => res (decide (sub ≠ 0 ∨ w1 / 65536 ≠ 0) || masked (w1 % 65536))
  | 29 => res (decide (w0 % 128 ≠ 0 ∨ w1 / 65536 ≠ 0) || masked (w1 % 65536))
  | 31 => res (decide (bitsOf w0 11 7 ≠ 0))
  | _ => if 32 ≤ op then some 1 else none

/-- UNDEFINED_OPCODE: the parcels at the core's PC, which no instruction has. -/
def execUndefinedOpcode (c : CoreId) (w0 w1 : Word) (s : State) : Out State :=
  .next (match illCause w0.toNat w1.toNat with
    | some k => s.instr c.num (parcels w0.toNat) [s.ill c.num k true] [] id
    | none => s)

/-! ### The ICU and the control of the cores (R575, R582, R583) -/

def execIcuClaimRead (c : CoreId) (s : State) : Out State := .next (s.ioRead c 4)
def execSwiSet (c : CoreId) (k : BitVec 4) (s : State) : Out State := .next (s.ioStoreM c 6 (k.toNat * 16) (maskOf 7 4))
def execCoreRelease (c : CoreId) (a : Fin 2) (s : State) : Out State := .next (s.ioField c (ICU_ACTL_HOLD a) 0)
def execCoreReset (c : CoreId) (a : Fin 2) (s : State) : Out State := .next (s.ioField c (ICU_ACTL_HOLD a) 1)
def execLockstepTest (c : CoreId) (s : State) : Out State := .next (s.ioField c ICU_LSCTL_TEST 1)
/-- LOCKSTEP_MISMATCH: class CORE, which resets CORE-S. -/
def execLockstepMismatch (s : State) : Out State := .next (inDom .coreS (fun s => s.record 0 1 2) s)

end Sys2Proof.Machine
end

