-- ==== Sys2Proof/Machine/Dispatch.lean ====
section
/-! DEFINITION. The dispatch of the commands: one arm for each, one direct call of its meaning. -/

namespace Sys2Proof.Machine

/-- The effect of a command on everything but the queue of waiting commands. -/
def exec (i : Instr) (s : State) : Host.Outcome State Fault Refusal :=
  match i with
  | .registerWrite c a v => Sys2Proof.Machine.execRegisterWrite c a v s
  | .rcCounterRead c a => Sys2Proof.Machine.execRcCounterRead c a s
  | .snapshotRead c a => Sys2Proof.Machine.execSnapshotRead c a s
  | .por => Sys2Proof.Machine.execPor s
  | .rstnReset => Sys2Proof.Machine.execRstnReset s
  | .moduleSoftwareReset => Sys2Proof.Machine.execModuleSoftwareReset s
  | .fabricLive => Sys2Proof.Machine.execFabricLive s
  | .actuationReady => Sys2Proof.Machine.execActuationReady s
  | .bootRom => Sys2Proof.Machine.execBootRom s
  | .handover => Sys2Proof.Machine.execHandover s
  | .migrationDone => Sys2Proof.Machine.execMigrationDone s
  | .pll0Lost => Sys2Proof.Machine.execPll0Lost s
  | .crystalLoss => Sys2Proof.Machine.execCrystalLoss s
  | .pll0ToCrystal => Sys2Proof.Machine.execPll0ToCrystal s
  | .actoscLost => Sys2Proof.Machine.execActoscLost s
  | .actDriftCheck off => Sys2Proof.Machine.execActDriftCheck off s
  | .railFault rail => Sys2Proof.Machine.execRailFault rail s
  | .l4Reset => Sys2Proof.Machine.execL4Reset s
  | .eccWriteback unit a => Sys2Proof.Machine.execEccWriteback unit a s
  | .marchStart c bank preserve => Sys2Proof.Machine.execMarchStart c bank preserve s
  | .marchDone fails ofs chk => Sys2Proof.Machine.execMarchDone fails ofs chk s
  | .tsweepRegion fail => Sys2Proof.Machine.execTsweepRegion fail s
  | .permitExpiry => Sys2Proof.Machine.execPermitExpiry s
  | .nvmReadRow c => Sys2Proof.Machine.execNvmReadRow c s
  | .progrow c => Sys2Proof.Machine.execProgrow c s
  | .erasesect c => Sys2Proof.Machine.execErasesect c s
  | .erasebank c => Sys2Proof.Machine.execErasebank c s
  | .blankchk c => Sys2Proof.Machine.execBlankchk c s
  | .nvmCommandDone bad => Sys2Proof.Machine.execNvmCommandDone bad s
  | .ndataPush c v => Sys2Proof.Machine.execNdataPush c v s
  | .ndataPop c => Sys2Proof.Machine.execNdataPop c s
  | .ssWrite c => Sys2Proof.Machine.execSsWrite c s
  | .ssLoad c => Sys2Proof.Machine.execSsLoad c s
  | .ssCommandDone bad => Sys2Proof.Machine.execSsCommandDone bad s
  | .otpProg c o => Sys2Proof.Machine.execOtpProg c o s
  | .otpDone bad => Sys2Proof.Machine.execOtpDone bad s
  | .ringEnable c r => Sys2Proof.Machine.execRingEnable c r s
  | .ringDisable c r => Sys2Proof.Machine.execRingDisable c r s
  | .doorbell c r v => Sys2Proof.Machine.execDoorbell c r v s
  | .descriptorFetch e => Sys2Proof.Machine.execDescriptorFetch e s
  | .descriptorNop r slot => Sys2Proof.Machine.execDescriptorNop r slot s
  | .begin r slot => Sys2Proof.Machine.execBegin r slot s
  | .txwrite r slot => Sys2Proof.Machine.execTxwrite r slot s
  | .commit r slot => Sys2Proof.Machine.execCommit r slot s
  | .commitPoint o late => Sys2Proof.Machine.execCommitPoint o late s
  | .rollback r slot => Sys2Proof.Machine.execRollback r slot s
  | .txTimeout o => Sys2Proof.Machine.execTxTimeout o s
  | .remoteRequest => Sys2Proof.Machine.execRemoteRequest s
  | .completionResponse k => Sys2Proof.Machine.execCompletionResponse k s
  | .frameBoundary g => Sys2Proof.Machine.execFrameBoundary g s
  | .threadWaitEnd n => Sys2Proof.Machine.execThreadWaitEnd n s
  | .seqEnd n => Sys2Proof.Machine.execSeqEnd n s
  | .seqHold n => Sys2Proof.Machine.execSeqHold n s
  | .seqSetd n => Sys2Proof.Machine.execSeqSetd n s
  | .seqSetdq n => Sys2Proof.Machine.execSeqSetdq n s
  | .seqRamp n => Sys2Proof.Machine.execSeqRamp n s
  | .seqWaitf n => Sys2Proof.Machine.execSeqWaitf n s
  | .seqWaitt n => Sys2Proof.Machine.execSeqWaitt n s
  | .seqWaite n => Sys2Proof.Machine.execSeqWaite n s
  | .seqSetc n => Sys2Proof.Machine.execSeqSetc n s
  | .seqDjnz0 n => Sys2Proof.Machine.execSeqDjnz0 n s
  | .seqDjnz1 n => Sys2Proof.Machine.execSeqDjnz1 n s
  | .seqJmp n => Sys2Proof.Machine.execSeqJmp n s
  | .seqCall n => Sys2Proof.Machine.execSeqCall n s
  | .seqRet n => Sys2Proof.Machine.execSeqRet n s
  | .seqSke n => Sys2Proof.Machine.execSeqSke n s
  | .seqSetp n => Sys2Proof.Machine.execSeqSetp n s
  | .seqStatus n => Sys2Proof.Machine.execSeqStatus n s
  | .seqSett n => Sys2Proof.Machine.execSeqSett n s
  | .seqPhase n => Sys2Proof.Machine.execSeqPhase n s
  | .seqUndefined n => Sys2Proof.Machine.execSeqUndefined n s
  | .seqResume c g => Sys2Proof.Machine.execSeqResume c g s
  | .seqMdataWrite c v => Sys2Proof.Machine.execSeqMdataWrite c v s
  | .seqMdataRead c => Sys2Proof.Machine.execSeqMdataRead c s
  | .ztSample t => Sys2Proof.Machine.execZtSample t s
  | .ztHoldover => Sys2Proof.Machine.execZtHoldover s
  | .deadline r slot late held => Sys2Proof.Machine.execDeadline r slot late held s
  | .tprovExpiry r slot => Sys2Proof.Machine.execTprovExpiry r slot s
  | .provleak r slot => Sys2Proof.Machine.execProvleak r slot s
  | .hscSet r slot held => Sys2Proof.Machine.execHscSet r slot held s
  | .hscOff r slot => Sys2Proof.Machine.execHscOff r slot s
  | .hscRun r slot => Sys2Proof.Machine.execHscRun r slot s
  | .hscDiag r slot => Sys2Proof.Machine.execHscDiag r slot s
  | .hscClear r slot => Sys2Proof.Machine.execHscClear r slot s
  | .hsLimitReached n => Sys2Proof.Machine.execHsLimitReached n s
  | .hsShortEvent n => Sys2Proof.Machine.execHsShortEvent n s
  | .hsOverloadEvent n => Sys2Proof.Machine.execHsOverloadEvent n s
  | .hsRestart n held => Sys2Proof.Machine.execHsRestart n held s
  | .hsUndervoltage n => Sys2Proof.Machine.execHsUndervoltage n s
  | .hsUvRelease n held => Sys2Proof.Machine.execHsUvRelease n held s
  | .warmUpEnd n => Sys2Proof.Machine.execWarmUpEnd n s
  | .scntRestore n => Sys2Proof.Machine.execScntRestore n s
  | .validMeasurement n imm => Sys2Proof.Machine.execValidMeasurement n imm s
  | .offStateCheck n high still => Sys2Proof.Machine.execOffStateCheck n high still s
  | .hsOlUnknown n => Sys2Proof.Machine.execHsOlUnknown n s
  | .diagnosticPulse n => Sys2Proof.Machine.execDiagnosticPulse n s
  | .preheatPulse n => Sys2Proof.Machine.execPreheatPulse n s
  | .dtLatch o t cs => Sys2Proof.Machine.execDtLatch o t cs s
  | .dtRelease o t cs held => Sys2Proof.Machine.execDtRelease o t cs held s
  | .tjLatch o t => Sys2Proof.Machine.execTjLatch o t s
  | .tjRelease o t held => Sys2Proof.Machine.execTjRelease o t held s
  | .wireModelUpdate o ons => Sys2Proof.Machine.execWireModelUpdate o ons s
  | .channelSensorFail o => Sys2Proof.Machine.execChannelSensorFail o s
  | .caseReferenceFail k => Sys2Proof.Machine.execCaseReferenceFail k s
  | .diehot d t => Sys2Proof.Machine.execDiehot d t s
  | .dieover d t => Sys2Proof.Machine.execDieover d t s
  | .pestUpdate sides => Sys2Proof.Machine.execPestUpdate sides s
  | .motDrive r slot => Sys2Proof.Machine.execMotDrive r slot s
  | .motGoto r slot => Sys2Proof.Machine.execMotGoto r slot s
  | .motStop r slot => Sys2Proof.Machine.execMotStop r slot s
  | .motRun r slot => Sys2Proof.Machine.execMotRun r slot s
  | .motDiag r slot => Sys2Proof.Machine.execMotDiag r slot s
  | .motDiagDone t top bottom apart => Sys2Proof.Machine.execMotDiagDone t top bottom apart s
  | .motClear r slot => Sys2Proof.Machine.execMotClear r slot s
  | .setpos r slot => Sys2Proof.Machine.execSetpos r slot s
  | .prechEnd t boot => Sys2Proof.Machine.execPrechEnd t boot s
  | .motCurrentLimit t => Sys2Proof.Machine.execMotCurrentLimit t s
  | .motShort t side => Sys2Proof.Machine.execMotShort t side s
  | .motOverload t => Sys2Proof.Machine.execMotOverload t s
  | .motStall t => Sys2Proof.Machine.execMotStall t s
  | .motOpen t => Sys2Proof.Machine.execMotOpen t s
  | .gateFault g => Sys2Proof.Machine.execGateFault g s
  | .chargePumpLow v => Sys2Proof.Machine.execChargePumpLow v s
  | .chargePumpRelease v => Sys2Proof.Machine.execChargePumpRelease v s
  | .driveDurationEnd t => Sys2Proof.Machine.execDriveDurationEnd t s
  | .brakeEnd t => Sys2Proof.Machine.execBrakeEnd t s
  | .motSupplyEnter t past => Sys2Proof.Machine.execMotSupplyEnter t past s
  | .motSupplyRelease t => Sys2Proof.Machine.execMotSupplyRelease t s
  | .rippleCandidate g dt => Sys2Proof.Machine.execRippleCandidate g dt s
  | .rippleInsert g => Sys2Proof.Machine.execRippleInsert g s
  | .pinchViolation g v dt => Sys2Proof.Machine.execPinchViolation g v dt s
  | .pinchReverseStart g => Sys2Proof.Machine.execPinchReverseStart g s
  | .reversalEnd g => Sys2Proof.Machine.execReversalEnd g s
  | .plockEnd g => Sys2Proof.Machine.execPlockEnd g s
  | .bootstrapHoldPulse t => Sys2Proof.Machine.execBootstrapHoldPulse t s
  | .vlvEnergise r slot => Sys2Proof.Machine.execVlvEnergise r slot s
  | .vlvRelease r slot => Sys2Proof.Machine.execVlvRelease r slot s
  | .seti r slot => Sys2Proof.Machine.execSeti r slot s
  | .vlvRun r slot => Sys2Proof.Machine.execVlvRun r slot s
  | .vlvDiag r slot => Sys2Proof.Machine.execVlvDiag r slot s
  | .vlvDiagDone n low cur => Sys2Proof.Machine.execVlvDiagDone n low cur s
  | .vlvClear r slot => Sys2Proof.Machine.execVlvClear r slot s
  | .bankNodeReady m => Sys2Proof.Machine.execBankNodeReady m s
  | .vhOpenDelayEnd m => Sys2Proof.Machine.execVhOpenDelayEnd m s
  | .ipkReached n us => Sys2Proof.Machine.execIpkReached n us s
  | .peakHoldEnd n => Sys2Proof.Machine.execPeakHoldEnd n s
  | .tpkmaxExpiry n low weak => Sys2Proof.Machine.execTpkmaxExpiry n low weak s
  | .decayEnd n => Sys2Proof.Machine.execDecayEnd n s
  | .peakSlotFree n => Sys2Proof.Machine.execPeakSlotFree n s
  | .waitDeadline n => Sys2Proof.Machine.execWaitDeadline n s
  | .dutyLimit n => Sys2Proof.Machine.execDutyLimit n s
  | .dfullClear n => Sys2Proof.Machine.execDfullClear n s
  | .valveDurationEnd n => Sys2Proof.Machine.execValveDurationEnd n s
  | .setiRampEnd n => Sys2Proof.Machine.execSetiRampEnd n s
  | .valveOpen n => Sys2Proof.Machine.execValveOpen n s
  | .vlShort n => Sys2Proof.Machine.execVlShort n s
  | .vhShort m => Sys2Proof.Machine.execVhShort m s
  | .bankOverload m => Sys2Proof.Machine.execBankOverload m s
  | .bankUvoff m => Sys2Proof.Machine.execBankUvoff m s
  | .bankUvRelease m => Sys2Proof.Machine.execBankUvRelease m s
  | .luxSet r slot => Sys2Proof.Machine.execLuxSet r slot s
  | .luxOff r slot => Sys2Proof.Machine.execLuxOff r slot s
  | .luxRun r slot => Sys2Proof.Machine.execLuxRun r slot s
  | .luxDiag r slot => Sys2Proof.Machine.execLuxDiag r slot s
  | .luxClear r slot => Sys2Proof.Machine.execLuxClear r slot s
  | .colour r slot => Sys2Proof.Machine.execColour r slot s
  | .pxwrite r slot => Sys2Proof.Machine.execPxwrite r slot s
  | .pxlatch r slot => Sys2Proof.Machine.execPxlatch r slot s
  | .pxenum r slot => Sys2Proof.Machine.execPxenum r slot s
  | .pxread r slot => Sys2Proof.Machine.execPxread r slot s
  | .pxreg r slot => Sys2Proof.Machine.execPxreg r slot s
  | .sinkShortToBattery n => Sys2Proof.Machine.execSinkShortToBattery n s
  | .deratingUpdate => Sys2Proof.Machine.execDeratingUpdate s
  | .loopPeriod k => Sys2Proof.Machine.execLoopPeriod k s
  | .colourSensorReadDone k why p0 p1 p2 => Sys2Proof.Machine.execColourSensorReadDone k why p0 p1 p2 s
  | .chainFrameSent c => Sys2Proof.Machine.execChainFrameSent c s
  | .chainReply c frame => Sys2Proof.Machine.execChainReply c frame s
  | .chainReplyTimeout c => Sys2Proof.Machine.execChainReplyTimeout c s
  | .enumEnd c frame => Sys2Proof.Machine.execEnumEnd c frame s
  | .statusScan c => Sys2Proof.Machine.execStatusScan c s
  | .timedLatchStart r slot => Sys2Proof.Machine.execTimedLatchStart r slot s
  | .switchPoll n v => Sys2Proof.Machine.execSwitchPoll n v s
  | .staticFilterEnd n v => Sys2Proof.Machine.execStaticFilterEnd n v s
  | .adcScan a => Sys2Proof.Machine.execAdcScan a s
  | .adcResult a conv => Sys2Proof.Machine.execAdcResult a conv s
  | .senseConversion o v => Sys2Proof.Machine.execSenseConversion o v s
  | .senseAdcCalibration a ok => Sys2Proof.Machine.execSenseAdcCalibration a ok s
  | .ssOvercurrent k => Sys2Proof.Machine.execSsOvercurrent k s
  | .ssDriven k => Sys2Proof.Machine.execSsDriven k s
  | .sentFrame k cal nibs slow => Sys2Proof.Machine.execSentFrame k cal nibs slow s
  | .sentTimeout k => Sys2Proof.Machine.execSentTimeout k s
  | .psi5Sync k => Sys2Proof.Machine.execPsi5Sync k s
  | .psi5Frame k j coding check data => Sys2Proof.Machine.execPsi5Frame k j coding check data s
  | .psi5SlotClose k j => Sys2Proof.Machine.execPsi5SlotClose k j s
  | .psi5BusLimit k => Sys2Proof.Machine.execPsi5BusLimit k s
  | .sensorMessage => Sys2Proof.Machine.execSensorMessage s
  | .sensrx r slot => Sys2Proof.Machine.execSensrx r slot s
  | .fabricStep => Sys2Proof.Machine.execFabricStep s
  | .fabricTimer t => Sys2Proof.Machine.execFabricTimer t s
  | .limpHomeEngage => Sys2Proof.Machine.execLimpHomeEngage s
  | .limpHomeForce c => Sys2Proof.Machine.execLimpHomeForce c s
  | .limpHomeRelease c => Sys2Proof.Machine.execLimpHomeRelease c s
  | .busTx r slot => Sys2Proof.Machine.execBusTx r slot s
  | .rxbuf r slot => Sys2Proof.Machine.execRxbuf r slot s
  | .hdr r slot => Sys2Proof.Machine.execHdr r slot s
  | .linwake r slot => Sys2Proof.Machine.execLinwake r slot s
  | .canFrameSent c lec => Sys2Proof.Machine.execCanFrameSent c lec s
  | .canFrameReceived c lec f => Sys2Proof.Machine.execCanFrameReceived c lec f s
  | .linFrameReceived k e f => Sys2Proof.Machine.execLinFrameReceived k e f s
  | .storedFrameDeliver r => Sys2Proof.Machine.execStoredFrameDeliver r s
  | .canBusOff c => Sys2Proof.Machine.execCanBusOff c s
  | .busoffRecovery c n => Sys2Proof.Machine.execBusoffRecovery c n s
  | .transceiverRequest c n v => Sys2Proof.Machine.execTransceiverRequest c n v s
  | .guardedEntryDone w => Sys2Proof.Machine.execGuardedEntryDone w s
  | .canWup c => Sys2Proof.Machine.execCanWup c s
  | .canWuf c ok f => Sys2Proof.Machine.execCanWuf c ok f s
  | .linBusWake k => Sys2Proof.Machine.execLinBusWake k s
  | .validationWindowEnd w => Sys2Proof.Machine.execValidationWindowEnd w s
  | .deafEnd w => Sys2Proof.Machine.execDeafEnd w s
  | .undeaf c n => Sys2Proof.Machine.execUndeaf c n s
  | .canTxdTimeout c => Sys2Proof.Machine.execCanTxdTimeout c s
  | .canBusDominant c => Sys2Proof.Machine.execCanBusDominant c s
  | .linBusShort k => Sys2Proof.Machine.execLinBusShort k s
  | .talkerPackTimeout t => Sys2Proof.Machine.execTalkerPackTimeout t s
  | .listenerFrame => Sys2Proof.Machine.execListenerFrame s
  | .herdEnable => Sys2Proof.Machine.execHerdEnable s
  | .herdDisable => Sys2Proof.Machine.execHerdDisable s
  | .herdJoin c => Sys2Proof.Machine.execHerdJoin c s
  | .herdConsWithdraw c => Sys2Proof.Machine.execHerdConsWithdraw c s
  | .herdRingReceived => Sys2Proof.Machine.execHerdRingReceived s
  | .herdPrepReceived => Sys2Proof.Machine.execHerdPrepReceived s
  | .herdAliveReceived => Sys2Proof.Machine.execHerdAliveReceived s
  | .herdLeaveReceived => Sys2Proof.Machine.execHerdLeaveReceived s
  | .herdForward => Sys2Proof.Machine.execHerdForward s
  | .herdSettleEnd => Sys2Proof.Machine.execHerdSettleEnd s
  | .herdRingLost => Sys2Proof.Machine.execHerdRingLost s
  | .herdPrepEnd => Sys2Proof.Machine.execHerdPrepEnd s
  | .zswFrameReceived p b bad stomped => Sys2Proof.Machine.execZswFrameReceived p b bad stomped s
  | .zswEgressSend p => Sys2Proof.Machine.execZswEgressSend p s
  | .portLinkUp p sqi => Sys2Proof.Machine.execPortLinkUp p sqi s
  | .portLinkLost p => Sys2Proof.Machine.execPortLinkLost p s
  | .portHoldEnd p => Sys2Proof.Machine.execPortHoldEnd p s
  | .flushDone p => Sys2Proof.Machine.execFlushDone p s
  | .bucketReturn g b => Sys2Proof.Machine.execBucketReturn g b s
  | .macAgeing v m => Sys2Proof.Machine.execMacAgeing v m s
  | .lookup c => Sys2Proof.Machine.execLookup c s
  | .insert c => Sys2Proof.Machine.execInsert c s
  | .delete c => Sys2Proof.Machine.execDelete c s
  | .flushLearned c => Sys2Proof.Machine.execFlushLearned c s
  | .flushLearnedOfPort c => Sys2Proof.Machine.execFlushLearnedOfPort c s
  | .txframe r slot => Sys2Proof.Machine.execTxframe r slot s
  | .rxcopy r slot => Sys2Proof.Machine.execRxcopy r slot s
  | .rxbind r slot => Sys2Proof.Machine.execRxbind r slot s
  | .rxfree r slot => Sys2Proof.Machine.execRxfree r slot s
  | .bindingExpiry imm => Sys2Proof.Machine.execBindingExpiry imm s
  | .censusStart c => Sys2Proof.Machine.execCensusStart c s
  | .censusTimer => Sys2Proof.Machine.execCensusTimer s
  | .censusDone => Sys2Proof.Machine.execCensusDone s
  | .phyFault p => Sys2Proof.Machine.execPhyFault p s
  | .plcaBeaconLoss p => Sys2Proof.Machine.execPlcaBeaconLoss p s
  | .plcaBeacon p => Sys2Proof.Machine.execPlcaBeacon p s
  | .tc10SleepRequest c p => Sys2Proof.Machine.execTc10SleepRequest c p s
  | .lpsAckReceived p => Sys2Proof.Machine.execLpsAckReceived p s
  | .sleepHandshakeTimeout p => Sys2Proof.Machine.execSleepHandshakeTimeout p s
  | .remoteSleepRequest p => Sys2Proof.Machine.execRemoteSleepRequest p s
  | .tc10Wup p => Sys2Proof.Machine.execTc10Wup p s
  | .tc10Wake c p => Sys2Proof.Machine.execTc10Wake c p s
  | .tc10Wur p => Sys2Proof.Machine.execTc10Wur p s
  | .syncFollowUp p ofs => Sys2Proof.Machine.execSyncFollowUp p ofs s
  | .gptpHoldover => Sys2Proof.Machine.execGptpHoldover s
  | .peerDelayExchange p answered d => Sys2Proof.Machine.execPeerDelayExchange p answered d s
  | .zoneTimeSet c => Sys2Proof.Machine.execZoneTimeSet c s
  | .search r slot => Sys2Proof.Machine.execSearch r slot s
  | .readpg r slot => Sys2Proof.Machine.execReadpg r slot s
  | .writepg r slot => Sys2Proof.Machine.execWritepg r slot s
  | .learn r slot => Sys2Proof.Machine.execLearn r slot s
  | .lfDiag r slot => Sys2Proof.Machine.execLfDiag r slot s
  | .lfClear r slot => Sys2Proof.Machine.execLfClear r slot s
  | .lfEnd r slot => Sys2Proof.Machine.execLfEnd r slot s
  | .idrep c id viol crc ofs => Sys2Proof.Machine.execIdrep c id viol crc ofs s
  | .authrep c rk tk crc ofs => Sys2Proof.Machine.execAuthrep c rk tk crc ofs s
  | .keyAck c status crc ofs => Sys2Proof.Machine.execKeyAck c status crc ofs s
  | .keyData c data mac crc ofs => Sys2Proof.Machine.execKeyData c data mac crc ofs s
  | .keyNoAnswer c => Sys2Proof.Machine.execKeyNoAnswer c s
  | .sessionHoldEnd c => Sys2Proof.Machine.execSessionHoldEnd c s
  | .sessionTimeout c => Sys2Proof.Machine.execSessionTimeout c s
  | .lfAntennaShort c => Sys2Proof.Machine.execLfAntennaShort c s
  | .lfAntennaOpen c => Sys2Proof.Machine.execLfAntennaOpen c s
  | .lfDriverHot c => Sys2Proof.Machine.execLfDriverHot c s
  | .learnK c => Sys2Proof.Machine.execLearnK c s
  | .learnT c => Sys2Proof.Machine.execLearnT c s
  | .revokeK c k => Sys2Proof.Machine.execRevokeK c k s
  | .revokeT c k => Sys2Proof.Machine.execRevokeT c k s
  | .learnClose c => Sys2Proof.Machine.execLearnClose c s
  | .learnSessionEnd => Sys2Proof.Machine.execLearnSessionEnd s
  | .ownerSet c => Sys2Proof.Machine.execOwnerSet c s
  | .ownerClr c => Sys2Proof.Machine.execOwnerClr c s
  | .nonce c => Sys2Proof.Machine.execNonce c s
  | .dbgUnlock c => Sys2Proof.Machine.execDbgUnlock c s
  | .svcnAtPowerUp => Sys2Proof.Machine.execSvcnAtPowerUp s
  | .svcnHeld => Sys2Proof.Machine.execSvcnHeld s
  | .buttonPattern => Sys2Proof.Machine.execButtonPattern s
  | .sealLoopBreak => Sys2Proof.Machine.execSealLoopBreak s
  | .presenceExpiry => Sys2Proof.Machine.execPresenceExpiry s
  | .presenceClose c => Sys2Proof.Machine.execPresenceClose c s
  | .keyLoad c e => Sys2Proof.Machine.execKeyLoad c e s
  | .rotate c e => Sys2Proof.Machine.execRotate c e s
  | .loadtr c => Sys2Proof.Machine.execLoadtr c s
  | .aesenc c long => Sys2Proof.Machine.execAesenc c long s
  | .aesdec c long => Sys2Proof.Machine.execAesdec c long s
  | .cmac c => Sys2Proof.Machine.execCmac c s
  | .sha256 c => Sys2Proof.Machine.execSha256 c s
  | .ecdsaver c => Sys2Proof.Machine.execEcdsaver c s
  | .random c => Sys2Proof.Machine.execRandom c s
  | .cryptoDone => Sys2Proof.Machine.execCryptoDone s
  | .trngHealthFail => Sys2Proof.Machine.execTrngHealthFail s
  | .requestRun c => Sys2Proof.Machine.execRequestRun c s
  | .requestBrowse c => Sys2Proof.Machine.execRequestBrowse c s
  | .entryReq c bedded => Sys2Proof.Machine.execEntryReq c bedded s
  | .forcedEntry c bedded => Sys2Proof.Machine.execForcedEntry c bedded s
  | .agentAnswer b => Sys2Proof.Machine.execAgentAnswer b s
  | .delayBoundExpiry b => Sys2Proof.Machine.execDelayBoundExpiry b s
  | .entryCommit => Sys2Proof.Machine.execEntryCommit s
  | .commitComplete => Sys2Proof.Machine.execCommitComplete s
  | .wakeLatch code detail => Sys2Proof.Machine.execWakeLatch code detail s
  | .restExit => Sys2Proof.Machine.execRestExit s
  | .beddedExit => Sys2Proof.Machine.execBeddedExit s
  | .netRetentionExit => Sys2Proof.Machine.execNetRetentionExit s
  | .zswOn c on => Sys2Proof.Machine.execZswOn c on s
  | .restCompletionWake => Sys2Proof.Machine.execRestCompletionWake s
  | .hostFrameWake => Sys2Proof.Machine.execHostFrameWake s
  | .brownOut => Sys2Proof.Machine.execBrownOut s
  | .kl30Restore => Sys2Proof.Machine.execKl30Restore s
  | .kl30Low low => Sys2Proof.Machine.execKl30Low low s
  | .kl15Change on => Sys2Proof.Machine.execKl15Change on s
  | .rtcAlarm => Sys2Proof.Machine.execRtcAlarm s
  | .padRelease c rel => Sys2Proof.Machine.execPadRelease c rel s
  | .faultAck c b m => Sys2Proof.Machine.execFaultAck c b m s
  | .logRelease c b n => Sys2Proof.Machine.execLogRelease c b n s
  | .clrstk c b => Sys2Proof.Machine.execClrstk c b s
  | .unfence c b imm => Sys2Proof.Machine.execUnfence c b imm s
  | .clr4 c => Sys2Proof.Machine.execClr4 c s
  | .fltnMinEnd => Sys2Proof.Machine.execFltnMinEnd s
  | .spoorRecordSend => Sys2Proof.Machine.execSpoorRecordSend s
  | .spoorSummary => Sys2Proof.Machine.execSpoorSummary s
  | .mirrorFrameSend => Sys2Proof.Machine.execMirrorFrameSend s
  | .softTrace c v => Sys2Proof.Machine.execSoftTrace c v s
  | .lbistStart c t => Sys2Proof.Machine.execLbistStart c t s
  | .lbistCancel c t => Sys2Proof.Machine.execLbistCancel c t s
  | .lbistRun c => Sys2Proof.Machine.execLbistRun c s
  | .lbistDone c fail => Sys2Proof.Machine.execLbistDone c fail s
  | .offer svc mv => Sys2Proof.Machine.execOffer svc mv s
  | .block svc => Sys2Proof.Machine.execBlock svc s
  | .imageCloseReceived svc => Sys2Proof.Machine.execImageCloseReceived svc s
  | .downstreamAnswer => Sys2Proof.Machine.execDownstreamAnswer s
  | .downstreamBack => Sys2Proof.Machine.execDownstreamBack s
  | .downstreamTimeout e => Sys2Proof.Machine.execDownstreamTimeout e s
  | .imageSessionTimeout => Sys2Proof.Machine.execImageSessionTimeout s
  | .inactiveBankErased bad => Sys2Proof.Machine.execInactiveBankErased bad s
  | .imageVerifyDone bad => Sys2Proof.Machine.execImageVerifyDone bad s
  | .vehicleMoves => Sys2Proof.Machine.execVehicleMoves s
  | .imageLowv => Sys2Proof.Machine.execImageLowv s
  | .imcmdClose c => Sys2Proof.Machine.execImcmdClose c s
  | .confinact c => Sys2Proof.Machine.execConfinact c s
  | .confirmRequest c req => Sys2Proof.Machine.execConfirmRequest c req s
  | .braceHeartSend => Sys2Proof.Machine.execBraceHeartSend s
  | .heart b crc code pid => Sys2Proof.Machine.execHeart b crc code pid s
  | .braceStateFrame b crc code => Sys2Proof.Machine.execBraceStateFrame b crc code s
  | .table b crc code par => Sys2Proof.Machine.execTable b crc code par s
  | .yield b crc code => Sys2Proof.Machine.execYield b crc code s
  | .handback b crc code => Sys2Proof.Machine.execHandback b crc code s
  | .quiet b crc code => Sys2Proof.Machine.execQuiet b crc code s
  | .braceCommaAlign => Sys2Proof.Machine.execBraceCommaAlign s
  | .braceMiss => Sys2Proof.Machine.execBraceMiss s
  | .braceFswOpen => Sys2Proof.Machine.execBraceFswOpen s
  | .brcYield c => Sys2Proof.Machine.execBrcYield c s
  | .brcHandback c => Sys2Proof.Machine.execBrcHandback c s
  | .brcQuiet c => Sys2Proof.Machine.execBrcQuiet c s
  | .brcWake c => Sys2Proof.Machine.execBrcWake c s
  | .nop c => Sys2Proof.Machine.execNop c s
  | .add c rd rs => Sys2Proof.Machine.execAdd c rd rs s
  | .adc c rd rs => Sys2Proof.Machine.execAdc c rd rs s
  | .sub c rd rs => Sys2Proof.Machine.execSub c rd rs s
  | .sbc c rd rs => Sys2Proof.Machine.execSbc c rd rs s
  | .and c rd rs => Sys2Proof.Machine.execAnd c rd rs s
  | .or c rd rs => Sys2Proof.Machine.execOr c rd rs s
  | .xor c rd rs => Sys2Proof.Machine.execXor c rd rs s
  | .andn c rd rs => Sys2Proof.Machine.execAndn c rd rs s
  | .mov c rd rs => Sys2Proof.Machine.execMov c rd rs s
  | .neg c rd rs => Sys2Proof.Machine.execNeg c rd rs s
  | .negs c rd rs => Sys2Proof.Machine.execNegs c rd rs s
  | .not c rd rs => Sys2Proof.Machine.execNot c rd rs s
  | .cmp c rd rs => Sys2Proof.Machine.execCmp c rd rs s
  | .tst c rd rs => Sys2Proof.Machine.execTst c rd rs s
  | .adds c rd rs => Sys2Proof.Machine.execAdds c rd rs s
  | .subs c rd rs => Sys2Proof.Machine.execSubs c rd rs s
  | .shl c rd rs => Sys2Proof.Machine.execShl c rd rs s
  | .shr c rd rs => Sys2Proof.Machine.execShr c rd rs s
  | .sar c rd rs => Sys2Proof.Machine.execSar c rd rs s
  | .ror c rd rs => Sys2Proof.Machine.execRor c rd rs s
  | .shli c rd n => Sys2Proof.Machine.execShli c rd n s
  | .shri c rd n => Sys2Proof.Machine.execShri c rd n s
  | .sari c rd n => Sys2Proof.Machine.execSari c rd n s
  | .rori c rd n => Sys2Proof.Machine.execRori c rd n s
  | .muls c rd rs => Sys2Proof.Machine.execMuls c rd rs s
  | .mulu c rd rs => Sys2Proof.Machine.execMulu c rd rs s
  | .macs c rd rs => Sys2Proof.Machine.execMacs c rd rs s
  | .macu c rd rs => Sys2Proof.Machine.execMacu c rd rs s
  | .productLanding c => Sys2Proof.Machine.execProductLanding c s
  | .divs c rd rs => Sys2Proof.Machine.execDivs c rd rs s
  | .divu c rd rs => Sys2Proof.Machine.execDivu c rd rs s
  | .divisionLanding c => Sys2Proof.Machine.execDivisionLanding c s
  | .mfs c r sn => Sys2Proof.Machine.execMfs c r sn s
  | .mts c sn r => Sys2Proof.Machine.execMts c sn r s
  | .sxb c rd rs => Sys2Proof.Machine.execSxb c rd rs s
  | .zxb c rd rs => Sys2Proof.Machine.execZxb c rd rs s
  | .swb c rd rs => Sys2Proof.Machine.execSwb c rd rs s
  | .clz c rd rs => Sys2Proof.Machine.execClz c rd rs s
  | .addi c rd imm => Sys2Proof.Machine.execAddi c rd imm s
  | .movi c rd imm => Sys2Proof.Machine.execMovi c rd imm s
  | .cmpi c rd imm => Sys2Proof.Machine.execCmpi c rd imm s
  | .bset c rd n => Sys2Proof.Machine.execBset c rd n s
  | .bclr c rd n => Sys2Proof.Machine.execBclr c rd n s
  | .btgl c rd n => Sys2Proof.Machine.execBtgl c rd n s
  | .btst c rd n => Sys2Proof.Machine.execBtst c rd n s
  | .movl c rd imm => Sys2Proof.Machine.execMovl c rd imm s
  | .addl c rd rs imm => Sys2Proof.Machine.execAddl c rd rs imm s
  | .andl c rd rs imm => Sys2Proof.Machine.execAndl c rd rs imm s
  | .orl c rd rs imm => Sys2Proof.Machine.execOrl c rd rs imm s
  | .xorl c rd rs imm => Sys2Proof.Machine.execXorl c rd rs imm s
  | .subl c rd rs imm => Sys2Proof.Machine.execSubl c rd rs imm s
  | .cmpl c rs imm => Sys2Proof.Machine.execCmpl c rs imm s
  | .tstl c rs imm => Sys2Proof.Machine.execTstl c rs imm s
  | .ld c rd rs => Sys2Proof.Machine.execLd c rd rs s
  | .ldPostIncrement c rd rs => Sys2Proof.Machine.execLdPostIncrement c rd rs s
  | .ldPreDecrement c rd rs => Sys2Proof.Machine.execLdPreDecrement c rd rs s
  | .st c rd rs => Sys2Proof.Machine.execSt c rd rs s
  | .stPostIncrement c rd rs => Sys2Proof.Machine.execStPostIncrement c rd rs s
  | .stPreDecrement c rd rs => Sys2Proof.Machine.execStPreDecrement c rd rs s
  | .storeDrain c => Sys2Proof.Machine.execStoreDrain c s
  | .ldl c rd rs imm => Sys2Proof.Machine.execLdl c rd rs imm s
  | .stl c rd rs imm => Sys2Proof.Machine.execStl c rd rs imm s
  | .lea c rd rs imm => Sys2Proof.Machine.execLea c rd rs imm s
  | .ioIn c rd rs imm => Sys2Proof.Machine.execIoIn c rd rs imm s
  | .out c rd rs imm => Sys2Proof.Machine.execOut c rd rs imm s
  | .bCond c cond h off => Sys2Proof.Machine.execBCond c cond h off s
  | .blCond c cond h off => Sys2Proof.Machine.execBlCond c cond h off s
  | .jmp c t => Sys2Proof.Machine.execJmp c t s
  | .call c t => Sys2Proof.Machine.execCall c t s
  | .jmpr c rs => Sys2Proof.Machine.execJmpr c rs s
  | .callr c rs => Sys2Proof.Machine.execCallr c rs s
  | .ret c => Sys2Proof.Machine.execRet c s
  | .reti c => Sys2Proof.Machine.execReti c s
  | .retim c => Sys2Proof.Machine.execRetim c s
  | .halt c => Sys2Proof.Machine.execHalt c s
  | .haltResume c => Sys2Proof.Machine.execHaltResume c s
  | .sys c rs => Sys2Proof.Machine.execSys c rs s
  | .brk c rs => Sys2Proof.Machine.execBrk c rs s
  | .callm c p t m => Sys2Proof.Machine.execCallm c p t m s
  | .retm c p m => Sys2Proof.Machine.execRetm c p m s
  | .loop c rc e => Sys2Proof.Machine.execLoop c rc e s
  | .loopi c e count => Sys2Proof.Machine.execLoopi c e count s
  | .undefinedOpcode c w0 w1 => Sys2Proof.Machine.execUndefinedOpcode c w0 w1 s
  | .interruptEntry c => Sys2Proof.Machine.execInterruptEntry c s
  | .icuClaimRead c => Sys2Proof.Machine.execIcuClaimRead c s
  | .swiSet c k => Sys2Proof.Machine.execSwiSet c k s
  | .coreRelease c a => Sys2Proof.Machine.execCoreRelease c a s
  | .coreReset c a => Sys2Proof.Machine.execCoreReset c a s
  | .lockstepTest c => Sys2Proof.Machine.execLockstepTest c s
  | .lockstepMismatch => Sys2Proof.Machine.execLockstepMismatch s
  | .pwmPeriodStart o => Sys2Proof.Machine.execPwmPeriodStart o s
  | .dimmingPeriodEnd n amp v outs weak => Sys2Proof.Machine.execDimmingPeriodEnd n amp v outs weak s
  | .gateDriverHot g => Sys2Proof.Machine.execGateDriverHot g s
  | .gateDriverCool g => Sys2Proof.Machine.execGateDriverCool g s
  | .lfDriverCool c => Sys2Proof.Machine.execLfDriverCool c s
  | .busOffRecoveryEnd c => Sys2Proof.Machine.execBusOffRecoveryEnd c s
  | .linResponseTimeout k => Sys2Proof.Machine.execLinResponseTimeout k s
  | .linwakeDone k => Sys2Proof.Machine.execLinwakeDone k s
  | .lfDiagDone c code ant => Sys2Proof.Machine.execLfDiagDone c code ant s
  | .dominantTimeoutEnd w => Sys2Proof.Machine.execDominantTimeoutEnd w s
  | .pllLossOfLock p => Sys2Proof.Machine.execPllLossOfLock p s
  | .enumEndWaitExpiry c => Sys2Proof.Machine.execEnumEndWaitExpiry c s
  | .chainApplyInstant c => Sys2Proof.Machine.execChainApplyInstant c s
  | .imageBlockStored bad => Sys2Proof.Machine.execImageBlockStored bad s

end Sys2Proof.Machine
end

