-- ==== Sys2Proof/Machine/Tick.lean ====
section
/-! DEFINITION. What time does while no command waits: one period of the 32.768 kHz real-time clock (R468). Only counts run
here; an expiry, and everything it causes, comes as a command of the table. -/

namespace Sys2Proof.Machine

/-- A count of 1/32768 s run down by one period, not below 0. -/
def runDown (n : Nat) : Nat := n - 1

/-- The real-time clock (R468): SUB counts modulo 32768 and carries into SEC. -/
def State.rtcTick (s : State) : State :=
  let sub := s.fld PCR_RTCS_SUB
  let sec := s.rtcSec + 1
  if sub < 32767 then s.setFld PCR_RTCS_SUB (sub + 1)
  else (s.setFld PCR_RTCS_SUB 0).setFld PCR_RTCL_SEC (sec % 65536) |>.setFld PCR_RTCH_SEC (sec / 65536 % 65536)

/-- What slewing takes from the offset in one period: 200 ppm are 6 ns (R115). -/
def slewStep (d : Int) : Int := max (-6) (min 6 d)

/-- ACT's zone time over one period of 30.518 µs, its slew and the age of its last sample (R114, R115). -/
def State.ztTick (s : State) : State :=
  let d := slewStep s.zone.slew
  let v : Int := (s.zt : Int) + 1953125 + s.zone.rate + 64 * d
  let a := satTo (2 ^ 40) (s.zone.age + 1953125)
  (s.setZt (v % ((2 ^ 70 : Nat) : Int)).toNat).modZone (fun z => { z with slew := z.slew - d, age := a })
    |>.setFld SEQ_ZSTAT_AGE (satTo 255 (a / 64000))

/-- The counts of the access block: presence window, key authority, learn session and nonce (R427, R428, R430, R431). -/
def State.accTick (s : State) : State :=
  s.modAcc (fun a => { a with
    pres := a.pres.map runDown, auth := runDown a.auth, learnLeft := runDown a.learnLeft, nonceLeft := runDown a.nonceLeft })

/-- The ages of the movement signal and of FLT_IMSPD (R523). -/
def State.imgTick (s : State) : State :=
  s.modImg (fun i => { i with sigAge := satTo 16384 (i.sigAge + 1), spdAge := satTo 32768 (i.spdAge + 1) }) |>.imMoving

/-- The timeouts of open transactions (R85); that of an owner whose COMMIT waits stands. -/
def State.txTick (s : State) : State :=
  s.each (txOwners.filter (fun o => s.on (RNG_TXSTAT_OPEN o) && (smFind s.rng.commits o).isNone)) (fun o s =>
    let n := runDown (nGet s.rng.left o)
    (s.modRng (fun x => { x with left := nPut x.left o n })).setFld (RNG_TXLEFT_LEFT o) ((n * 1000 + 32767) / 32768))

/-- The ages of the channels' measurements (R134). -/
def State.hscTick (s : State) : State := s.each ((List.range 64).filter (fun n => s.on (HSC_STAT_IVAL n))) (fun n s => s.hscAge n)

/-- The bootstrap capacitors of the half-bridges (R190): one whose trickle pump runs may reach VBOK and keeps its charge, any other may
lose it; what happens is a free value. -/
def State.bootTick (s : State) : State :=
  let pump (h : Nat) : Bool := s.on (MOT_HCFG_EN h) &&
    (decide (s.pw.mode = .run ∨ s.pw.mode = .browse) || s.on (MOT_HCFG_KEEP h) || decide (s.mst (s.motOf h) ≠ 0))
  let l := (List.range 16).filter (fun h => pump h != s.on (MOT_HSTAT_BOOT h))
  if l.isEmpty then s
  else s.drew.each l (fun h t => if bitAt s.draw.toNat h then t.setFld (MOT_HSTAT_BOOT h) (b2n (pump h)) else t)

/-- The places of the sinks in their dimming periods, and the amplitudes: a sub-period has begun (R249, R250). -/
def State.luxTick (s : State) : State :=
  s.each ((List.range 24).filter (fun n => decide (s.lst n = 2))) (fun n s => s.modLx n (fun x => { x with t := x.t + 1953125, amp := s.setAmp n }))

/-- The energised times of the valves (R226). -/
def State.dutyTicks (s : State) : State := s.each (List.range 16) (fun n s => s.dutyTick n)

/-- The measurements of the half-bridges and valves (R192, R221). -/
def State.meanTicks (s : State) : State := s.each (s.inp.means.map Prod.fst) (fun o s => s.meanTick o)

/-- One period of the real-time clock. -/
def State.tick (s : State) : State :=
  s.rtcTick
    |>.accTick
    |>.imgTick
    |> inDom .act (fun s => s.ztTick.hscTick.thmTick.bootTick.meanTicks.dutyTicks.luxTick)
    |> inDom .zsw (fun s => (s.ethTime 1953125).creditIdle.holdLeft)
    |> inDom .fabric (fun s => s.txTick.brStates)

end Sys2Proof.Machine
end

