-- ==== Sys2Proof/WellFormed.lean ====
section
/-! DEFINITION. Which commands the manual admits: the operands that their types leave too wide, judged by the manual's formats
of bus frames and slow-channel messages and by the encodings of the Raloa-18.  A meaning never asks: an ill-formed
instruction takes its trap, and an ill-formed frame is a frame that no bus carries. -/

namespace Sys2Proof

/-- A bus frame in the fields of R330: data lengths by format, an 11-bit identifier but for an extended frame of Classical CAN
or FD, 6 bits on LIN, and 0 in the fields that its format leaves unused. -/
def BusFrame.wf (f : BusFrame) : Bool :=
  Machine.lenOk f.fmt.val f.data.length
    && decide (f.ident.toNat < (if f.fmt = 3 then 64 else if f.b15 then 2 ^ 29 else 2 ^ 11))
    && (decide (f.fmt.val ≤ 1) || !f.b15)
    && (decide (f.fmt.val = 0 ∨ f.fmt.val = 2) || !f.b14)
    && (decide (f.fmt.val ≠ 0) || !f.b13)
    && (decide (f.fmt.val = 1) || !f.b12)
    && (decide (f.fmt.val = 2) || decide (f.sdt = 0 ∧ f.vcid = 0 ∧ f.af = 0))

/-- A slow-channel message: 1 short (4-bit identifier, 8 data bits), 2 enhanced with 12 data bits and 8 identifier bits,
3 enhanced with 16 data bits and 4 identifier bits (R298). -/
def SlowMsg.wf (m : SlowMsg) : Bool :=
  match m.kind.val with
  | 1 => decide (m.sid.toNat < 16 ∧ m.data.toNat < 256)
  | 2 => decide (m.data.toNat < 2 ^ 12)
  | 3 => decide (m.sid.toNat < 16)
  | _ => false

/-- A condition of R592 that the encodings give: 1111 is reserved, and so is an unconditional branch with a hint. -/
def condWf (k : BitVec 4) (h : Bool) : Bool := decide (k.toNat ≠ 15) && (decide (k.toNat ≠ 0) || !h)

/-- On-times that fit a millisecond: 160000 ticks of 6.25 ns (R172). -/
def onTimesOk (l : List (Nat × List Word)) : Bool := decide ((l.map Prod.fst).foldl (· + ·) 0 ≤ 160000)

/-- The well-formed commands. -/
def Instr.wf (i : Instr) : Bool :=
  match i with
  | .registerWrite _ _ _ => true
  | .rcCounterRead _ _ => true
  | .snapshotRead _ _ => true
  | .por => true
  | .rstnReset => true
  | .moduleSoftwareReset => true
  | .fabricLive => true
  | .actuationReady => true
  | .bootRom => true
  | .handover => true
  | .migrationDone => true
  | .pll0Lost => true
  | .crystalLoss => true
  | .pll0ToCrystal => true
  | .actoscLost => true
  | .actDriftCheck _ => true
  | .railFault _ => true
  | .l4Reset => true
  | .eccWriteback _ _ => true
  | .marchStart _ _ _ => true
  | .marchDone _ _ _ => true
  | .tsweepRegion _ => true
  | .permitExpiry => true
  | .nvmReadRow _ => true
  | .progrow _ => true
  | .erasesect _ => true
  | .erasebank _ => true
  | .blankchk _ => true
  | .nvmCommandDone _ => true
  | .ndataPush _ _ => true
  | .ndataPop _ => true
  | .ssWrite _ => true
  | .ssLoad _ => true
  | .ssCommandDone _ => true
  | .otpProg _ _ => true
  | .otpDone _ => true
  | .ringEnable _ _ => true
  | .ringDisable _ _ => true
  | .doorbell _ _ _ => true
  | .descriptorFetch _ => true
  | .descriptorNop _ _ => true
  | .begin _ _ => true
  | .txwrite _ _ => true
  | .commit _ _ => true
  | .commitPoint _ _ => true
  | .rollback _ _ => true
  | .txTimeout _ => true
  | .remoteRequest => true
  | .completionResponse _ => true
  | .frameBoundary _ => true
  | .threadWaitEnd _ => true
  | .seqEnd _ => true
  | .seqHold _ => true
  | .seqSetd _ => true
  | .seqSetdq _ => true
  | .seqRamp _ => true
  | .seqWaitf _ => true
  | .seqWaitt _ => true
  | .seqWaite _ => true
  | .seqSetc _ => true
  | .seqDjnz0 _ => true
  | .seqDjnz1 _ => true
  | .seqJmp _ => true
  | .seqCall _ => true
  | .seqRet _ => true
  | .seqSke _ => true
  | .seqSetp _ => true
  | .seqStatus _ => true
  | .seqSett _ => true
  | .seqPhase _ => true
  | .seqUndefined _ => true
  | .seqResume _ _ => true
  | .seqMdataWrite _ _ => true
  | .seqMdataRead _ => true
  | .ztSample _ => true
  | .ztHoldover => true
  | .deadline _ _ _ _ => true
  | .tprovExpiry _ _ => true
  | .provleak _ _ => true
  | .hscSet _ _ _ => true
  | .hscOff _ _ => true
  | .hscRun _ _ => true
  | .hscDiag _ _ => true
  | .hscClear _ _ => true
  | .hsLimitReached _ => true
  | .hsShortEvent _ => true
  | .hsOverloadEvent _ => true
  | .hsRestart _ _ => true
  | .hsUndervoltage _ => true
  | .hsUvRelease _ _ => true
  | .warmUpEnd _ => true
  | .scntRestore _ => true
  | .validMeasurement _ _ => true
  | .offStateCheck _ _ _ => true
  | .hsOlUnknown _ => true
  | .diagnosticPulse _ => true
  | .preheatPulse _ => true
  | .dtLatch _ _ _ => true
  | .dtRelease _ _ _ _ => true
  | .tjLatch _ _ => true
  | .tjRelease _ _ _ => true
  | .wireModelUpdate _ l => onTimesOk l
  | .channelSensorFail _ => true
  | .caseReferenceFail _ => true
  | .diehot _ _ => true
  | .dieover _ _ => true
  | .pestUpdate l => decide (l.map Prod.fst).Nodup && l.all (fun p => onTimesOk p.2)
  | .motDrive _ _ => true
  | .motGoto _ _ => true
  | .motStop _ _ => true
  | .motRun _ _ => true
  | .motDiag _ _ => true
  | .motDiagDone _ _ _ _ => true
  | .motClear _ _ => true
  | .setpos _ _ => true
  | .prechEnd _ _ => true
  | .motCurrentLimit _ => true
  | .motShort _ _ => true
  | .motOverload _ => true
  | .motStall _ => true
  | .motOpen _ => true
  | .gateFault _ => true
  | .chargePumpLow _ => true
  | .chargePumpRelease _ => true
  | .driveDurationEnd _ => true
  | .brakeEnd _ => true
  | .motSupplyEnter _ _ => true
  | .motSupplyRelease _ => true
  | .rippleCandidate _ _ => true
  | .rippleInsert _ => true
  | .pinchViolation _ _ _ => true
  | .pinchReverseStart _ => true
  | .reversalEnd _ => true
  | .plockEnd _ => true
  | .bootstrapHoldPulse _ => true
  | .vlvEnergise _ _ => true
  | .vlvRelease _ _ => true
  | .seti _ _ => true
  | .vlvRun _ _ => true
  | .vlvDiag _ _ => true
  | .vlvDiagDone _ _ _ => true
  | .vlvClear _ _ => true
  | .bankNodeReady _ => true
  | .vhOpenDelayEnd _ => true
  | .ipkReached _ _ => true
  | .peakHoldEnd _ => true
  | .tpkmaxExpiry _ _ _ => true
  | .decayEnd _ => true
  | .peakSlotFree _ => true
  | .waitDeadline _ => true
  | .dutyLimit _ => true
  | .dfullClear _ => true
  | .valveDurationEnd _ => true
  | .setiRampEnd _ => true
  | .valveOpen _ => true
  | .vlShort _ => true
  | .vhShort _ => true
  | .bankOverload _ => true
  | .bankUvoff _ => true
  | .bankUvRelease _ => true
  | .luxSet _ _ => true
  | .luxOff _ _ => true
  | .luxRun _ _ => true
  | .luxDiag _ _ => true
  | .luxClear _ _ => true
  | .colour _ _ => true
  | .pxwrite _ _ => true
  | .pxlatch _ _ => true
  | .pxenum _ _ => true
  | .pxread _ _ => true
  | .pxreg _ _ => true
  | .sinkShortToBattery _ => true
  | .deratingUpdate => true
  | .loopPeriod _ => true
  | .colourSensorReadDone _ _ _ _ _ => true
  | .chainFrameSent _ => true
  | .chainReply _ _ => true
  | .chainReplyTimeout _ => true
  | .enumEnd _ _ => true
  | .statusScan _ => true
  | .timedLatchStart _ _ => true
  | .switchPoll _ _ => true
  | .staticFilterEnd _ _ => true
  | .adcScan _ => true
  | .adcResult _ conv => decide (conv.length = 16)
  | .senseConversion _ _ => true
  | .senseAdcCalibration _ _ => true
  | .ssOvercurrent _ => true
  | .ssDriven _ => true
  | .sentFrame _ _ _ m => m.all SlowMsg.wf
  | .sentTimeout _ => true
  | .psi5Sync _ => true
  | .psi5Frame _ _ _ _ _ => true
  | .psi5SlotClose _ _ => true
  | .psi5BusLimit _ => true
  | .sensorMessage => true
  | .sensrx _ _ => true
  | .fabricStep => true
  | .fabricTimer _ => true
  | .limpHomeEngage => true
  | .limpHomeForce _ => true
  | .limpHomeRelease _ => true
  | .busTx _ _ => true
  | .rxbuf _ _ => true
  | .hdr _ _ => true
  | .linwake _ _ => true
  | .canFrameSent _ _ => true
  | .canFrameReceived _ _ f => f.wf && decide (f.fmt.val < 3)
  | .linFrameReceived _ _ f => f.wf && decide (f.fmt.val = 3)
  | .storedFrameDeliver _ => true
  | .canBusOff _ => true
  | .busoffRecovery _ _ => true
  | .transceiverRequest _ _ _ => true
  | .guardedEntryDone _ => true
  | .canWup _ => true
  | .canWuf _ _ f => f.wf && decide (f.fmt.val < 3)
  | .linBusWake _ => true
  | .validationWindowEnd _ => true
  | .deafEnd _ => true
  | .undeaf _ _ => true
  | .canTxdTimeout _ => true
  | .canBusDominant _ => true
  | .linBusShort _ => true
  | .talkerPackTimeout _ => true
  | .listenerFrame => true
  | .herdEnable => true
  | .herdDisable => true
  | .herdJoin _ => true
  | .herdConsWithdraw _ => true
  | .herdRingReceived => true
  | .herdPrepReceived => true
  | .herdAliveReceived => true
  | .herdLeaveReceived => true
  | .herdForward => true
  | .herdSettleEnd => true
  | .herdRingLost => true
  | .herdPrepEnd => true
  | .zswFrameReceived _ _ _ _ => true
  | .zswEgressSend _ => true
  | .portLinkUp _ _ => true
  | .portLinkLost _ => true
  | .portHoldEnd _ => true
  | .flushDone _ => true
  | .bucketReturn _ _ => true
  | .macAgeing _ _ => true
  | .lookup _ => true
  | .insert _ => true
  | .delete _ => true
  | .flushLearned _ => true
  | .flushLearnedOfPort _ => true
  | .txframe _ _ => true
  | .rxcopy _ _ => true
  | .rxbind _ _ => true
  | .rxfree _ _ => true
  | .bindingExpiry _ => true
  | .censusStart _ => true
  | .censusTimer => true
  | .censusDone => true
  | .phyFault _ => true
  | .plcaBeaconLoss _ => true
  | .plcaBeacon _ => true
  | .tc10SleepRequest _ _ => true
  | .lpsAckReceived _ => true
  | .sleepHandshakeTimeout _ => true
  | .remoteSleepRequest _ => true
  | .tc10Wup _ => true
  | .tc10Wake _ _ => true
  | .tc10Wur _ => true
  | .syncFollowUp _ _ => true
  | .gptpHoldover => true
  | .peerDelayExchange _ _ _ => true
  | .zoneTimeSet _ => true
  | .search _ _ => true
  | .readpg _ _ => true
  | .writepg _ _ => true
  | .learn _ _ => true
  | .lfDiag _ _ => true
  | .lfClear _ _ => true
  | .lfEnd _ _ => true
  | .idrep _ _ _ _ _ => true
  | .authrep _ _ _ _ _ => true
  | .keyAck _ _ _ _ => true
  | .keyData _ _ _ _ _ => true
  | .keyNoAnswer _ => true
  | .sessionHoldEnd _ => true
  | .sessionTimeout _ => true
  | .lfAntennaShort _ => true
  | .lfAntennaOpen _ => true
  | .lfDriverHot _ => true
  | .learnK _ => true
  | .learnT _ => true
  | .revokeK _ _ => true
  | .revokeT _ _ => true
  | .learnClose _ => true
  | .learnSessionEnd => true
  | .ownerSet _ => true
  | .ownerClr _ => true
  | .nonce _ => true
  | .dbgUnlock _ => true
  | .svcnAtPowerUp => true
  | .svcnHeld => true
  | .buttonPattern => true
  | .sealLoopBreak => true
  | .presenceExpiry => true
  | .presenceClose _ => true
  | .keyLoad _ _ => true
  | .rotate _ _ => true
  | .loadtr _ => true
  | .aesenc _ _ => true
  | .aesdec _ _ => true
  | .cmac _ => true
  | .sha256 _ => true
  | .ecdsaver _ => true
  | .random _ => true
  | .cryptoDone => true
  | .trngHealthFail => true
  | .requestRun _ => true
  | .requestBrowse _ => true
  | .entryReq _ _ => true
  | .forcedEntry _ _ => true
  | .agentAnswer _ => true
  | .delayBoundExpiry _ => true
  | .entryCommit => true
  | .commitComplete => true
  | .wakeLatch _ _ => true
  | .restExit => true
  | .beddedExit => true
  | .netRetentionExit => true
  | .zswOn _ _ => true
  | .restCompletionWake => true
  | .hostFrameWake => true
  | .brownOut => true
  | .kl30Restore => true
  | .kl30Low _ => true
  | .kl15Change _ => true
  | .rtcAlarm => true
  | .padRelease _ _ => true
  | .faultAck _ _ _ => true
  | .logRelease _ _ _ => true
  | .clrstk _ _ => true
  | .unfence _ _ _ => true
  | .clr4 _ => true
  | .fltnMinEnd => true
  | .spoorRecordSend => true
  | .spoorSummary => true
  | .mirrorFrameSend => true
  | .softTrace _ _ => true
  | .lbistStart _ _ => true
  | .lbistCancel _ _ => true
  | .lbistRun _ => true
  | .lbistDone _ _ => true
  | .offer _ _ => true
  | .block _ => true
  | .imageCloseReceived _ => true
  | .downstreamAnswer => true
  | .downstreamBack => true
  | .downstreamTimeout _ => true
  | .imageSessionTimeout => true
  | .inactiveBankErased _ => true
  | .imageVerifyDone _ => true
  | .vehicleMoves => true
  | .imageLowv => true
  | .imcmdClose _ => true
  | .confinact _ => true
  | .confirmRequest _ _ => true
  | .braceHeartSend => true
  | .heart _ _ _ _ => true
  | .braceStateFrame _ _ _ => true
  | .table _ _ _ _ => true
  | .yield _ _ _ => true
  | .handback _ _ _ => true
  | .quiet _ _ _ => true
  | .braceCommaAlign => true
  | .braceMiss => true
  | .braceFswOpen => true
  | .brcYield _ => true
  | .brcHandback _ => true
  | .brcQuiet _ => true
  | .brcWake _ => true
  | .nop _ => true
  | .add _ _ _ => true
  | .adc _ _ _ => true
  | .sub _ _ _ => true
  | .sbc _ _ _ => true
  | .and _ _ _ => true
  | .or _ _ _ => true
  | .xor _ _ _ => true
  | .andn _ _ _ => true
  | .mov _ _ _ => true
  | .neg _ _ _ => true
  | .negs _ _ _ => true
  | .not _ _ _ => true
  | .cmp _ _ _ => true
  | .tst _ _ _ => true
  | .adds _ _ _ => true
  | .subs _ _ _ => true
  | .shl _ _ _ => true
  | .shr _ _ _ => true
  | .sar _ _ _ => true
  | .ror _ _ _ => true
  | .shli _ _ n => decide (n.val ≤ 17)
  | .shri _ _ n => decide (n.val ≤ 17)
  | .sari _ _ n => decide (n.val ≤ 17)
  | .rori _ _ n => decide (n.val ≤ 17)
  | .muls _ _ _ => true
  | .mulu _ _ _ => true
  | .macs _ _ _ => true
  | .macu _ _ _ => true
  | .productLanding _ => true
  | .divs _ _ _ => true
  | .divu _ _ _ => true
  | .divisionLanding _ => true
  | .mfs _ _ n => Machine.sprListed n
  | .mts _ n _ => Machine.sprListed n && !Machine.sprRo n
  | .sxb _ _ _ => true
  | .zxb _ _ _ => true
  | .swb _ _ _ => true
  | .clz _ _ _ => true
  | .addi _ _ _ => true
  | .movi _ _ _ => true
  | .cmpi _ _ _ => true
  | .bset _ _ n => decide (n.val ≤ 17)
  | .bclr _ _ n => decide (n.val ≤ 17)
  | .btgl _ _ n => decide (n.val ≤ 17)
  | .btst _ _ n => decide (n.val ≤ 17)
  | .movl _ _ _ => true
  | .addl _ _ _ _ => true
  | .andl _ _ _ _ => true
  | .orl _ _ _ _ => true
  | .xorl _ _ _ _ => true
  | .subl _ _ _ _ => true
  | .cmpl _ _ _ => true
  | .tstl _ _ _ => true
  | .ld _ _ _ => true
  | .ldPostIncrement _ _ _ => true
  | .ldPreDecrement _ _ _ => true
  | .st _ _ _ => true
  | .stPostIncrement _ _ _ => true
  | .stPreDecrement _ _ _ => true
  | .storeDrain _ => true
  | .ldl _ _ _ _ => true
  | .stl _ _ _ _ => true
  | .lea _ _ _ _ => true
  | .ioIn _ _ _ _ => true
  | .out _ _ _ _ => true
  | .bCond _ k h _ => condWf k h
  | .blCond _ k h _ => condWf k h
  | .jmp _ _ => true
  | .call _ _ => true
  | .jmpr _ _ => true
  | .callr _ _ => true
  | .ret _ => true
  | .reti _ => true
  | .retim _ => true
  | .halt _ => true
  | .haltResume _ => true
  | .sys _ _ => true
  | .brk _ _ => true
  | .callm _ p _ m => !(Machine.maskRegs m).contains p.val
  | .retm _ p m => !(Machine.maskRegs m).contains p.val
  | .loop _ _ _ => true
  | .loopi _ _ _ => true
  | .undefinedOpcode _ w v => (Machine.illCause w.toNat v.toNat).isSome
  | .interruptEntry _ => true
  | .icuClaimRead _ => true
  | .swiSet _ _ => true
  | .coreRelease _ _ => true
  | .coreReset _ _ => true
  | .lockstepTest _ => true
  | .lockstepMismatch => true
  | .pwmPeriodStart _ => true
  | .dimmingPeriodEnd _ _ _ _ _ => true
  | .gateDriverHot _ => true
  | .gateDriverCool _ => true
  | .lfDriverCool _ => true
  | .busOffRecoveryEnd _ => true
  | .linResponseTimeout _ => true
  | .linwakeDone _ => true
  | .lfDiagDone _ _ _ => true
  | .dominantTimeoutEnd _ => true
  | .pllLossOfLock _ => true
  | .enumEndWaitExpiry _ => true
  | .chainApplyInstant _ => true
  | .imageBlockStored _ => true

end Sys2Proof
end

