-- ==== Sys2Proof/Safety.lean ====
section
/-! DEFINITION. The terms that claims are stated in: the canonical form of the sparse storage, well-formed states, and what it
is for a command to leave parts of the state as they are. -/

namespace Sys2Proof.Machine

/-- The memories are in canonical form: rising keys, no word listed at its default. -/
def Memory.wf (m : SMap Word) : Bool := smWf memDefault m

/-- The register file is in canonical form: rising keys, no register listed at its reset value. -/
def RegFile.wf (m : SMap Word) : Bool := smWf regReset m

/-- What every step keeps: the register file and the memories in canonical form. -/
def State.Inv (s : State) : Prop := RegFile.wf s.io = true ∧ Memory.wf s.mem = true

/-! ### Cores -/

/-- A core that runs, and whose next `n` parcels lie where it may fetch, without check-bit errors, and not two of them at the
end of an active loop level: it takes no trap of the fetch (R25, R38, R603). -/
def State.fetches (s : State) (c n : Nat) : Bool :=
  s.runs c && !s.atLoopEnd c n && (List.range n).all (fun i =>
    let p := ((s.core c).pc + i) % 2 ^ 21
    (decide (p < 0o4000000) && decide (s.eccOf (codeKey s.activeBank p) = 0)) || (decide (0o7760000 ≤ p) && decide (c = 2)))

/-- A load of a data-space address that is permitted, reaches a memory that is on line and meets no check-bit error. -/
def State.loads (s : State) (c a : Nat) : Bool := (s.loadTrap c a).isNone && decide (s.coreEcc c a = 0)

/-- A store to a data-space address that nothing refuses. -/
def State.stores (s : State) (c a : Nat) : Bool := (s.storeTrap c a).isNone

/-- An I/O access that nothing refuses at the core. -/
def State.accesses (s : State) (c p : Nat) (store : Bool) : Bool := (s.ioTrap c p store).isNone

/-! ### Engines -/

/-- The accepted descriptor of a ring slot that waits for its action, for an engine and opcode, its group not frozen. -/
def State.waits (s : State) (e op r i : Nat) (d : Desc) : Bool :=
  decide (s.descAt r i .ready = some d ∧ d.eng = e ∧ d.opcode = op) && !s.descFrozen d

/-- The same for an actuator's engine, where no ready answer is kept (R86, R449) and no confirmation waits: the action takes
effect as its chapter says. -/
def State.ready (s : State) (e op r i : Nat) (d : Desc) : Bool :=
  s.waits e op r i d && s.rng.commits.isEmpty && decide (s.fld PCR_ENTRY_PHASE ≠ 1) && !d.warm && s.descs.all (fun x => !x.conf)

/-- Thread `n` runs and its next instruction is `op` with operand `a` and, for one of two words, the immediate `v`: read
without error, not reserved, and within the eight instructions of a run. -/
def State.seqAt (s : State) (n op a v : Nat) : Bool :=
  let pc := s.thrPc n
  decide (s.thrSt n = 1 ∧ s.eccOf (seqKey (pc % 8192)) = 0 ∧ s.rd (seqKey (pc % 8192)) = toWord (op * 8192 + a) ∧ op < 32 ∧ a < 8192)
    && !badOperand op a && (isWait op || decide ((s.thr n).icnt < 8))
    && (!twoWords op || decide (s.eccOf (seqKey ((pc + 1) % 8192)) = 0 ∧ (s.rd (seqKey ((pc + 1) % 8192))).toNat = v))

/-- Thread `n` past its next instruction. -/
def State.seqPast (s : State) (n op : Nat) : State :=
  (s.setThr n { s.thr n with icnt := (s.thr n).icnt + 1 }).setThrPc n ((s.thrPc n + (if twoWords op then 2 else 1)) % 8192)

end Sys2Proof.Machine
end

