-- ==== Sys2Proof/Certificates/Slice0/Obligations.lean ====
section
/-! DEFINITION. The statements for the provers. Each is about every state unless its premises say otherwise. -/

open Sys2Proof Sys2Proof.Machine

/-! ### The block as a whole -/

/-- A step takes the command at the front of the queue and runs it on the state with the queue's rest; with no command waiting, one period of the
real-time clock passes (the model's choice, log entry 2). -/
def Obligations.StepRunsTheFront : Prop :=
  ∀ (s : State) (c : Instr) (l : List Instr),
    (s.pending = c :: l → step s = exec c { s with pending := l }) ∧ (s.pending = [] → step s = .next s.tick)

/-- Every command of every row is carried out in every state, and none changes the queue. -/
def Obligations.CommandsAnswer : Prop :=
  ∀ (c : Instr) (s : State), ∃ t, exec c s = .next t ∧ t.pending = s.pending

/-- R8, R39, R40, R498, R587: after a POR every register of a block reads its table's reset value, the memories hold 0, nothing waits, S runs the boot
ROM from 0o7 760 000 and A0 and A1 are held in reset. -/
def Obligations.ResetState : Prop :=
  ∀ (k : Nat), let s : State := State.reset
    s.reg k = (regReset k).toNat ∧ s.eccOf k = 0 ∧ (k < 2 ^ 23 → s.rd k = 0) ∧ s.pending = [] ∧ s.descs = []
    ∧ (s.core 2).pc = 0o7760000 ∧ (s.core 2).run = .running ∧ (s.core 0).run = .reset ∧ (s.core 1).run = .reset
    ∧ s.pw.mode = .run ∧ s.flt.fenced = [] ∧ (k < 64 → s.slotAddr k 0 = 0o100000 ∧ s.on (RNG_RCFG_EN k) = false)

/-- The state after reset keeps the canonical forms: no register is listed at its reset value, no memory word at what an unlisted word reads as. -/
def Obligations.InvariantAtReset : Prop := State.reset.Inv

/-- From every state whose register file and memories are in canonical form, a step leads to such a state. -/
def Obligations.InvariantKept : Prop := ∀ (s t : State), s.Inv → step s = .next t → t.Inv

/-- R79, R81: a completion: w7 takes the status and the detail, OWN of w0 clears and the other bits of w0 stay, or w0 becomes 0 where it held an
uncorrectable error; the check bits of both words are good; every other word of memory stays; the descriptor is accepted no more and the others stay
(unless the correction of w0 is recorded, which may stop rings); with IRQ and IRQEN the ring's pending bit is set. -/
def Obligations.Completions : Prop :=
  ∀ (s : State) (d : Desc) (st detail : Nat) (k : Nat) (x : Desc),
    let a := s.slotAddr d.ring d.slot
    let t := s.finish d st detail
    d.mute = false → s.domOn .fabric = true → s.addrOff a = false →
    t.rd (a + 7) = BitVec.ofNat 18 (st * 4096 + detail % 4096)
    ∧ t.rd a = (if s.eccOf a = 2 then 0 else s.rd a &&& 0o377777)
    ∧ t.eccOf a = 0 ∧ t.eccOf (a + 7) = 0
    ∧ (k ≠ a → k ≠ a + 7 → t.rd k = s.rd k ∧ t.eccOf k = s.eccOf k)
    ∧ (s.eccOf a ≠ 1 → (x ∈ t.descs ↔ x ∈ s.descs ∧ x.id ≠ d.id))
    ∧ (d.ring < 64 → d.w0.getLsbD 16 = true → s.on (RNG_RCFG_IRQEN d.ring) = true → t.bit (RNG_IRQPEND_PEND (d.ring / 16)) (d.ring % 16) = true)
    ∧ t.cores = s.cores

/-- R474 to R480: a record of effective level L0 or L1 sets its class's pending and sticky bits and raises its unacknowledged count; it enters the log
while that holds fewer than 8 entries, and otherwise raises OVF, which saturates at 511; it fences nothing and leaves memory, cores and descriptors
alone. -/
def Obligations.FaultRecords : Prop :=
  ∀ (s : State) (b : Fin 15) (k : Fin 18) (i : Nat),
    let t := s.record b (k + 1) i
    let n := s.fld (FLT_FST_LOGN b)
    s.effLevel b (k + 1) ≤ 1 →
    (t.bit (FLT_FPEND_PEND b) k = true ∧ t.bit (FLT_FSTKY_STICKY b) k = true)
    ∧ t.unackOf b (k + 1) = s.unackOf b (k + 1) + 1 ∧ t.lastLvl b (k + 1) = s.effLevel b (k + 1)
    ∧ (n < 8 → t.fld (FLT_FST_LOGN b) = n + 1 ∧ t.fld (FLT_FOVF_OVF b) = s.fld (FLT_FOVF_OVF b)
        ∧ t.reg (rFLT_LOGA b n) = (k.val + 1) * 4096 + s.effLevel b (k + 1) * 512
            + (if classLevel b (k + 1) < s.effLevel b (k + 1) then 256 else 0) + i % 256)
    ∧ (8 ≤ n → t.fld (FLT_FST_LOGN b) = n ∧ t.fld (FLT_FOVF_OVF b) = Nat.min 511 (s.fld (FLT_FOVF_OVF b) + 1))
    ∧ t.mem = s.mem ∧ t.ecc = s.ecc ∧ t.descs = s.descs ∧ t.cores = s.cores ∧ t.flt.fenced = s.flt.fenced

/-- R478: the effective level of a record. -/
def Obligations.EffectiveLevels : Prop :=
  ∀ (s : State) (b : Fin 16) (k : Fin 18),
    let t := classLevel b (k + 1)
    let n := s.unackOf b (k + 1)
    let e := s.effLevel b (k + 1)
    (s.bit (FLT_FESC_ESCEN b) k = false → e = t)
    ∧ (s.bit (FLT_FESC_ESCEN b) k = true → b.val ≠ 15 → t ≤ 1 → e = Nat.min 2 (t + n))
    ∧ (s.bit (FLT_FESC_ESCEN b) k = true → b.val ≠ 15 → 2 ≤ t → n = 0 → e = t)
    ∧ (s.bit (FLT_FESC_ESCEN b) k = true → b.val ≠ 15 → 2 ≤ t → 0 < n → e = Nat.min 4 (t + 1))

/-- R592: COND takes the encodings of the table: a conditional branch of a core that runs is taken exactly when its condition holds over the flags as
the core has them, and goes on otherwise; 1111 is a reserved encoding. -/
def Obligations.Conditions : Prop :=
  ∀ (s : State) (c : CoreId) (k : BitVec 4) (h : Bool) (o : BitVec 7) (w : Word),
    let x := s.core c.num
    let taken : Bool := [true, x.z, !x.z, x.c, !x.c, x.n, !x.n, x.v, !x.v, !x.c && !x.z, x.c || x.z, x.n == x.v, x.n != x.v, !x.z && (x.n == x.v),
      x.z || (x.n != x.v)].getD k.toNat false
    let u := s.flow c.num x.pc
    let goes (p : Nat) : Out State := .next (u.setCore c.num ((u.core c.num).jump p))
    let stays (n : Nat) : Out State := .next (s.setCore c.num (x.next n))
    (k.toNat < 15 → (k.toNat = 0 → h = false) → s.fetches c.num 1 = true →
      exec (.bCond c k h o) s = if taken then goes (((x.pc : Int) + o.toInt) % 2 ^ 21).toNat else stays 1)
    ∧ (k.toNat < 15 → (k.toNat = 0 → h = false) → s.fetches c.num 2 = true →
      exec (.blCond c k h w) s = if taken then goes (((x.pc : Int) + w.toInt) % 2 ^ 21).toNat else stays 2)
    ∧ (k.toNat = 15 → s.fetches c.num 1 = true → exec (.bCond c k h o) s = .next (s.trap c.num ⟨0, 2, x.pc⟩))
    ∧ (k.toNat = 15 → s.fetches c.num 2 = true → exec (.blCond c k h w) s = .next (s.trap c.num ⟨0, 2, x.pc⟩))

/-- R599: the results and flags at the edges, line by line. -/
def Obligations.EdgeResults : Prop :=
  ∀ (s : State) (c : CoreId) (rd rs : Fin 32) (f : DivFlight) (l : List Flight) (p : Nat) (a b : Word), s.fetches c.num 1 = true →
    let x := s.core c.num
    let d := x.get rd
    let o := x.get rs
    let m := o.toNat % 32
    let gives (i : Instr) (v : Word) (n z cf vf sat : Bool) : Prop :=
      let y := x.result rd { val := v, c := some cf, v := some vf, sat := sat }
      exec i s = .next (s.setCore c.num (y.next 1)) ∧ y.get rd = v ∧ y.n = n ∧ y.z = z ∧ y.c = cf ∧ y.v = vf ∧ y.sr.getLsbD 12 = (sat || x.sr.getLsbD 12)
    let mul (mac : Bool) (v : Nat) : Out State := .next (s.setCore c.num (({ x with mul := x.mul ++ [⟨mac, v⟩] } : Core).next 1))
    let div (q r : Word) (v z : Bool) : Out State := .next (s.setCore c.num (({ x with div := some ⟨q, r, v, z, x.pc⟩ } : Core).next 1))
    (o = 0o400000 → gives (.neg c rd rs) 0o400000 true false true true false)
    ∧ (o = 0o400000 → gives (.negs c rd rs) 0o377777 false false true false true)
    ∧ (o = 0 → gives (.neg c rd rs) 0 false true false false false ∧ gives (.negs c rd rs) 0 false true false false false)
    ∧ (d = 0o377777 → o = 1 → gives (.add c rd rs) 0o400000 true false false true false)
    ∧ (d = 0o377777 → o = 1 → gives (.adds c rd rs) 0o377777 false false false false true)
    ∧ (d = 0o400000 → o = 1 → gives (.subs c rd rs) 0o400000 true false false false true)
    ∧ (d = 0 → o = 1 → gives (.sub c rd rs) 0o777777 true false true false false)
    ∧ (d = 1 → m = 18 → gives (.shl c rd rs) 0 false true true true false)
    ∧ (d = 1 → 19 ≤ m → gives (.shl c rd rs) 0 false true false true false)
    ∧ (d = 0 → 18 ≤ m → gives (.shl c rd rs) 0 false true false false false)
    ∧ (d = 0o400000 → m = 18 → gives (.shr c rd rs) 0 false true true false false)
    ∧ (d = 0o400000 → 18 ≤ m → gives (.sar c rd rs) 0o777777 true false true false false)
    ∧ (d = 0o377777 → 18 ≤ m → gives (.sar c rd rs) 0 false true false false false)
    ∧ (m = 20 → gives (.ror c rd rs) (d.rotateRight 2) (d.rotateRight 2).msb (decide (d = 0)) x.c x.v false)
    ∧ (m = 0 → gives (.shl c rd rs) d d.msb (decide (d = 0)) x.c false false ∧ gives (.shr c rd rs) d d.msb (decide (d = 0)) x.c false false
        ∧ gives (.sar c rd rs) d d.msb (decide (d = 0)) x.c false false ∧ gives (.ror c rd rs) d d.msb (decide (d = 0)) x.c x.v false)
    ∧ (d = 0o400000 → o = 0o400000 → x.mul.length < 4 → exec (.muls c rd rs) s = mul false (2 ^ 34))
    ∧ (x.mul = ⟨false, p⟩ :: l → p < 2 ^ 36 → x.landMul.ph.toNat * 2 ^ 18 + x.landMul.pl.toNat = p ∧ x.landMul.sr = x.sr
        ∧ exec (.productLanding c) s = .next (s.setCore c.num x.landMul))
    ∧ (x.mul = ⟨true, p⟩ :: l → x.landMul.ah.toNat * 2 ^ 36 + x.landMul.am.toNat * 2 ^ 18 + x.landMul.al.toNat
          = (x.ah.toNat * 2 ^ 36 + x.am.toNat * 2 ^ 18 + x.al.toNat + p) % 2 ^ 54 ∧ x.landMul.sr = x.sr
        ∧ exec (.productLanding c) s = .next (s.setCore c.num x.landMul))
    ∧ (x.div = none →
        (d = 0o777771 → o = 2 → exec (.divs c rd rs) s = div 0o777775 0o777777 false false)
        ∧ (d = 0o400000 → o = 0o777777 → exec (.divs c rd rs) s = div 0o400000 0 true false)
        ∧ (o = 0 → exec (.divu c rd rs) s = div 0o777777 d false true)
        ∧ (o = 0 → d.msb = false → exec (.divs c rd rs) s = div 0o377777 d false true)
        ∧ (o = 0 → d.msb = true → exec (.divs c rd rs) s = div 0o400000 d false true))
    ∧ (x.div = some f → (f.dz = false ∨ x.ctl.getLsbD 17 = false) → let y := x.landDiv
        exec (.divisionLanding c) s = .next (s.setCore c.num y) ∧ y.qt = f.q ∧ y.rm = f.r
        ∧ y.sr.getLsbD 14 = (f.v || x.sr.getLsbD 14) ∧ y.sr.getLsbD 13 = (f.dz || x.sr.getLsbD 13))
    ∧ (x.div = some f → f.dz = true → x.ctl.getLsbD 17 = true →
        exec (.divisionLanding c) s = .next ((s.setCore c.num x.landAll).trapEntry c.num ⟨4, 1, f.pc⟩ x.pc x.pc))
    ∧ (o = 0 → exec (.clz c rd rs) s = .next (s.setCore c.num ((x.result rd { val := 18 }).next 1))
        ∧ (x.result rd { val := 18 }).z = false ∧ (x.result rd { val := 18 }).n = false)
    ∧ (b ≠ 0 → let r := (divSigned a b).2.1
        (r = 0 ∨ r.msb = a.msb) ∧ r.toInt.natAbs < b.toInt.natAbs)

/-- R61: at an address that names no register, a read returns 0 and a write is ignored; RSVACC of the issuing core's ICU is set and ICU_RSVA takes the
address unless RSVACC was set; DOMOFF stays; no trap is taken. The fault record of the flag, of class IOREF, follows. -/
def Obligations.ReservedAddresses : Prop :=
  ∀ (s : State) (c : CoreId) (a : BitVec 16) (v : Word) (rd rs : Fin 32) (i : Word) (k : Nat),
    busReg c.num a.toNat = none → sIcuOnly c.num a.toNat = false →
    let n := c.num
    let noted (s : State) : State := (if s.on (ICU_FLAG_RSVACC n) then s else s.setReg (rICU_RSVA n) a.toNat).raise (ICU_FLAG_RSVACC n)
    let out := (s.drainAll n).modCore n (fun x => x.next 2)
    let t := noted s
    exec (.registerWrite c a v) s = .next (t.record 0 5 n)
    ∧ exec (.rcCounterRead c a) s = .next ((noted { s with rdata := 0 }).record 0 5 n)
    ∧ exec (.snapshotRead c a) s = .next ((noted { s with rdata := 0 }).record 0 5 n)
    ∧ (s.fetches n 2 = true → ((s.core n).get rs + i).toNat = a.toNat → s.accesses n a.toNat true = true →
        exec (.out c rd rs i) s = .next ((noted out).record 0 5 n))
    ∧ (s.fetches n 2 = true → ((s.core n).get rs + i).toNat = a.toNat → s.accesses n a.toNat false = true →
        exec (.ioIn c rd rs i) s = .next (out.takeRead ((noted { out with rdata := 0 }).record 0 5 n) n rd))
    ∧ t.on (ICU_FLAG_RSVACC n) = true ∧ t.reg (rICU_RSVA n) = (if s.on (ICU_FLAG_RSVACC n) then s.reg (rICU_RSVA n) else a.toNat)
    ∧ t.on (ICU_FLAG_DOMOFF n) = s.on (ICU_FLAG_DOMOFF n) ∧ t.cores = s.cores ∧ t.mem = s.mem
    ∧ (k ≠ rICU_RSVA n → k ≠ (ICU_FLAG_RSVACC n).addr → t.reg k = s.reg k)


/-! ### Cores -/

/-- R555: a register reads as the value last written to it, and a write leaves the other 31 visible registers alone. R591, R593: an instruction sets N
to bit 17 of its result and Z to whether the result is 0; C and V change only where the instruction gives them, SAT is set by a saturation and never
cleared; every other bit of SR and every other register stays. CLZ counts the leading zero bits, 0 to 18: every bit above the count is 0, and the bit
at it is 1. -/
def Obligations.RegistersAndFlags : Prop :=
  (∀ (x : Core) (i j : Fin 32) (v : Word),
      (x.put i v).get i = v ∧ (i ≠ j → (x.put i v).get j = x.get j) ∧ { x.put i v with r := x.r } = x)
  ∧
  (∀ (x : Core) (r : Res) (b : Word) (i : Nat) (j : Fin 18),
      let y := x.flags r
      let k := (clz b).toNat
      (y.n = r.val.msb ∧ y.z = decide (r.val = 0) ∧ y.c = r.c.getD x.c ∧ y.v = r.v.getD x.v)
      ∧ (i < 12 ∨ i = 13 → y.sr.getLsbD i = x.sr.getLsbD i)
      ∧ y.sr.getLsbD 12 = (r.sat || x.sr.getLsbD 12)
      ∧ { y with sr := x.sr } = x
      ∧ k ≤ 18
      ∧ (j.val < k → b.getLsbD (17 - j.val) = false)
      ∧ (k < 18 → b.getLsbD (17 - k) = true))

/-- R568, R598: LOOP and LOOPI open the next level with the body after them, or skip the body for a count of 0. R569: when an instruction completes,
an innermost level that ends at its last parcel and whose tag is WD goes back to its start with its count lowered while iterations remain, and
otherwise falls through; without such a level the next parcel follows. -/
def Obligations.HardwareLoops : Prop :=
  (∀ (s : State) (c : CoreId) (rc : Fin 32) (e : BitVec 7) (count : Word),
      let x := s.core c.num
      let opens (n : Nat) (v : Word) : Out State :=
        let last := (x.pc + n + e.toNat) % 2 ^ 21
        if v = 0 then .next (s.setCore c.num { x with pc := (last + 1) % 2 ^ 21 })
        else .next (s.setCore c.num { (((x.setLps x.levels (x.pc + n)).setLpe x.levels last).setLpc x.levels v.toNat).setTag x.levels x.wd with
          pc := (x.pc + n) % 2 ^ 21 })
      x.levels < 4 → e ≠ 0 →
      (s.fetches c.num 1 = true → x.nestBad ((x.pc + 1 + e.toNat) % 2 ^ 21) = false → exec (.loop c rc e) s = opens 1 (x.get rc))
      ∧ (s.fetches c.num 2 = true → x.nestBad ((x.pc + 2 + e.toNat) % 2 ^ 21) = false → exec (.loopi c e count) s = opens 2 count))
  ∧
  (∀ (x : Core) (n : Nat) (k : Fin 4),
      let last := (x.pc + n - 1) % 2 ^ 21
      let ends (j : Nat) : Bool := x.acts j && decide (x.lpeOf j = last)
      ((List.range 4).all (fun j => !ends j) = true → x.next n = { x with pc := (x.pc + n) % 2 ^ 21 })
      ∧ (ends k = true → (List.range 4).all (fun j => decide (j ≤ k.val) || !ends j) = true → 1 < x.lpcOf k →
          x.next n = { x.setLpc k (x.lpcOf k - 1) with pc := x.lpsOf k })
      ∧ (ends k = true → (List.range 4).all (fun j => decide (j = k.val) || !ends j) = true → x.lpcOf k = 1 →
          x.next n = { x.setLpc k 0 with pc := (x.pc + n) % 2 ^ 21 }))

/-- R591, R593: the register forms of the arithmetic, logic and move instructions on a core that runs: the result in rd modulo 2^18 with its flags,
and nothing else of the machine but the PC. -/
def Obligations.AluRegisterForms : Prop :=
  ∀ (s : State) (c : CoreId) (rd rs : Fin 32), s.fetches c.num 1 = true →
    let x := s.core c.num
    let a := x.get rd
    let b := x.get rs
    let k : Nat := if x.c then 1 else 0
    let done (r : Res) : Out State := .next (s.setCore c.num ((x.result rd r).next 1))
    let seen (r : Res) : Out State := .next (s.setCore c.num ((x.flags r).next 1))
    let out (z : Int) : Bool := decide (z < -131072 ∨ 131071 < z)
    let sat (z : Int) : Word := if 131071 < z then 0o377777 else if z < -131072 then 0o400000 else BitVec.ofInt 18 z
    exec (.add c rd rs) s = done { val := a + b, c := some (decide (2 ^ 18 ≤ a.toNat + b.toNat)), v := some (out (a.toInt + b.toInt)) }
    ∧ exec (.adc c rd rs) s = done { val := a + b + BitVec.ofNat 18 k, c := some (decide (2 ^ 18 ≤ a.toNat + b.toNat + k)), v := some (out (a.toInt + b.toInt + k)) }
    ∧ exec (.sub c rd rs) s = done { val := a - b, c := some (decide (a.toNat < b.toNat)), v := some (out (a.toInt - b.toInt)) }
    ∧ exec (.sbc c rd rs) s = done { val := a - b - BitVec.ofNat 18 k, c := some (decide (a.toNat < b.toNat + k)), v := some (out (a.toInt - b.toInt - k)) }
    ∧ exec (.and c rd rs) s = done { val := a &&& b }
    ∧ exec (.or c rd rs) s = done { val := a ||| b }
    ∧ exec (.xor c rd rs) s = done { val := a ^^^ b }
    ∧ exec (.andn c rd rs) s = done { val := a &&& ~~~b }
    ∧ exec (.mov c rd rs) s = .next (s.setCore c.num ((x.put rd b).next 1))
    ∧ exec (.neg c rd rs) s = done { val := -b, c := some (decide (b ≠ 0)), v := some (decide (b = 0o400000)) }
    ∧ exec (.negs c rd rs) s = done { val := sat (-b.toInt), c := some (decide (b ≠ 0)), v := some false, sat := decide (b = 0o400000) }
    ∧ exec (.not c rd rs) s = done { val := ~~~b }
    ∧ exec (.cmp c rd rs) s = seen { val := a - b, c := some (decide (a.toNat < b.toNat)), v := some (out (a.toInt - b.toInt)) }
    ∧ exec (.tst c rd rs) s = seen { val := a &&& b }
    ∧ exec (.adds c rd rs) s = done { val := sat (a.toInt + b.toInt), c := some (decide (2 ^ 18 ≤ a.toNat + b.toNat)), v := some false, sat := out (a.toInt + b.toInt) }
    ∧ exec (.subs c rd rs) s = done { val := sat (a.toInt - b.toInt), c := some (decide (a.toNat < b.toNat)), v := some false, sat := out (a.toInt - b.toInt) }
    ∧ exec (.sxb c rd rs) s = done { val := BitVec.ofInt 18 (BitVec.ofNat 8 b.toNat).toInt }
    ∧ exec (.zxb c rd rs) s = done { val := BitVec.ofNat 18 (b.toNat % 256) }
    ∧ exec (.swb c rd rs) s = done { val := b.extractLsb' 16 2 ++ b.extractLsb' 0 8 ++ b.extractLsb' 8 8 }
    ∧ exec (.clz c rd rs) s = done { val := BitVec.ofNat 18 (clz b).toNat }

/-- R593: the immediate forms, with IMM7 sign-extended, LEA and NOP. -/
def Obligations.AluImmediateForms : Prop :=
  ∀ (s : State) (c : CoreId) (rd rs : Fin 32) (i7 : BitVec 7) (i : Word),
    let x := s.core c.num
    let a := x.get rd
    let b := x.get rs
    let e : Word := BitVec.ofInt 18 i7.toInt
    let done (n : Nat) (r : Res) : Out State := .next (s.setCore c.num ((x.result rd r).next n))
    let seen (n : Nat) (r : Res) : Out State := .next (s.setCore c.num ((x.flags r).next n))
    let out (z : Int) : Bool := decide (z < -131072 ∨ 131071 < z)
    (s.fetches c.num 1 = true →
      exec (.nop c) s = .next (s.setCore c.num (x.next 1))
      ∧ exec (.addi c rd i7) s = done 1 { val := a + e, c := some (decide (2 ^ 18 ≤ a.toNat + e.toNat)), v := some (out (a.toInt + e.toInt)) }
      ∧ exec (.movi c rd i7) s = .next (s.setCore c.num ((x.put rd e).next 1))
      ∧ exec (.cmpi c rd i7) s = seen 1 { val := a - e, c := some (decide (a.toNat < e.toNat)), v := some (out (a.toInt - e.toInt)) })
    ∧ (s.fetches c.num 2 = true →
      exec (.movl c rd i) s = .next (s.setCore c.num ((x.put rd i).next 2))
      ∧ exec (.addl c rd rs i) s = done 2 { val := b + i, c := some (decide (2 ^ 18 ≤ b.toNat + i.toNat)), v := some (out (b.toInt + i.toInt)) }
      ∧ exec (.andl c rd rs i) s = done 2 { val := b &&& i }
      ∧ exec (.orl c rd rs i) s = done 2 { val := b ||| i }
      ∧ exec (.xorl c rd rs i) s = done 2 { val := b ^^^ i }
      ∧ exec (.subl c rd rs i) s = done 2 { val := b - i, c := some (decide (b.toNat < i.toNat)), v := some (out (b.toInt - i.toInt)) }
      ∧ exec (.cmpl c rs i) s = seen 2 { val := b - i, c := some (decide (b.toNat < i.toNat)), v := some (out (b.toInt - i.toInt)) }
      ∧ exec (.tstl c rs i) s = seen 2 { val := b &&& i }
      ∧ exec (.lea c rd rs i) s = .next (s.setCore c.num ((x.put rd (b + i)).next 2)))

/-- R591, R594: the shifts by a register (amount rs bits 4:0) and by N from 0 to 17; the bit instructions set Z to whether rd bit N was 0 and change
that bit alone, BTST none. -/
def Obligations.ShiftsAndBits : Prop :=
  ∀ (s : State) (c : CoreId) (rd rs n : Fin 32), s.fetches c.num 1 = true →
    let x := s.core c.num
    let a := x.get rd
    let done (r : Res) : Out State := .next (s.setCore c.num ((x.result rd r).next 1))
    let lost (m k : Nat) : Option Bool := if m = 0 then none else some (decide (m ≤ 18) && a.getLsbD k)
    let shl (m : Nat) : Res := { val := BitVec.ofNat 18 (a.toNat * 2 ^ m), c := lost m (18 - m), v := some (decide (0 < m ∧ 2 ^ 18 ≤ a.toNat * 2 ^ Nat.min m 18)) }
    let shr (m : Nat) : Res := { val := BitVec.ofNat 18 (a.toNat / 2 ^ m), c := lost m (m - 1), v := some false }
    let sar (m : Nat) : Res := { val := BitVec.ofInt 18 (a.toInt / 2 ^ m), c := if m = 0 then none else some (if m ≤ 18 then a.getLsbD (m - 1) else a.msb), v := some false }
    let ror (m : Nat) : Res := { val := a.rotateRight (m % 18) }
    let m := (x.get rs).toNat % 32
    exec (.shl c rd rs) s = done (shl m) ∧ exec (.shr c rd rs) s = done (shr m)
    ∧ exec (.sar c rd rs) s = done (sar m) ∧ exec (.ror c rd rs) s = done (ror m)
    ∧ (n.val ≤ 17 → exec (.shli c rd n) s = done (shl n) ∧ exec (.shri c rd n) s = done (shr n)
        ∧ exec (.sari c rd n) s = done (sar n) ∧ exec (.rori c rd n) s = done (ror n))
    ∧ (n.val ≤ 17 →
        let one : Word := BitVec.ofNat 18 (2 ^ n.val)
        let bit (v : Word) : Out State := .next (s.setCore c.num (((x.setSr 16 16 (if a.getLsbD n then 0 else 1)).put rd v).next 1))
        exec (.bset c rd n) s = bit (a ||| one) ∧ exec (.bclr c rd n) s = bit (a &&& ~~~one)
        ∧ exec (.btgl c rd n) s = bit (a ^^^ one) ∧ exec (.btst c rd n) s = bit a)

/-- R589, R590, R602: N above 17, a condition 1111, an MFS or MTS of a register that R563 does not list, a mask that names the pointer, and a parcel
pattern that no instruction has are reserved: the core takes the ILL trap with TAD its PC, and nothing else of the instruction happens. -/
def Obligations.ReservedEncodings : Prop :=
  ∀ (s : State) (c : CoreId) (rd n p t : Fin 32) (sn : Fin 64) (h : Bool) (o : BitVec 7) (w w0 w1 : Word) (m : BitVec 16) (q : Nat),
    let ill (k : Nat) : Out State := .next (s.trap c.num ⟨0, k, (s.core c.num).pc⟩)
    (s.fetches c.num 1 = true →
      (17 < n.val → exec (.shli c rd n) s = ill 2 ∧ exec (.shri c rd n) s = ill 2 ∧ exec (.sari c rd n) s = ill 2 ∧ exec (.rori c rd n) s = ill 2
        ∧ exec (.bset c rd n) s = ill 2 ∧ exec (.bclr c rd n) s = ill 2 ∧ exec (.btgl c rd n) s = ill 2 ∧ exec (.btst c rd n) s = ill 2)
      ∧ exec (.bCond c 15 h o) s = ill 2 ∧ exec (.bCond c 0 true o) s = ill 2
      ∧ (sprListed sn = false → exec (.mfs c rd sn) s = ill 1 ∧ exec (.mts c sn rd) s = ill 1)
      ∧ (sprRo sn = true → exec (.mts c sn rd) s = ill 1))
    ∧ (s.fetches c.num 2 = true →
      exec (.blCond c 15 h w) s = ill 2
      ∧ ((maskRegs m).contains p.val = true → exec (.callm c p t m) s = ill 2 ∧ exec (.retm c p m) s = ill 2))
    ∧ (illCause w0.toNat w1.toNat = some q → s.fetches c.num (parcels w0.toNat) = true → exec (.undefinedOpcode c w0 w1) s = ill q)

/-- R565, R595: a product is issued and lands later, the oldest first; a MAC adds modulo 2^54. R566, R595, R599, R601: a division is issued with its
quotient truncated toward zero and its remainder, by 0 with the results of R599; at its landing QT and RM take them, V and DZ become 1 where it sets
them, and the arithmetic trap is taken where CTL.DZE is 1. -/
def Obligations.ProductsAndDivisions : Prop :=
  (∀ (s : State) (c : CoreId) (rd rs : Fin 32) (v : Nat) (l : List Flight),
      let x := s.core c.num
      let a := x.get rd
      let b := x.get rs
      let put (m : Bool) (v : Nat) : Out State := .next (s.setCore c.num (({ x with mul := x.mul ++ [⟨m, v⟩] } : Core).next 1))
      let sum := ((x.ah.toNat * 2 ^ 36 + x.am.toNat * 2 ^ 18 + x.al.toNat) + v) % 2 ^ 54
      (s.fetches c.num 1 = true → x.mul.length < 4 →
        exec (.muls c rd rs) s = put false ((a.toInt * b.toInt) % 2 ^ 36).toNat
        ∧ exec (.mulu c rd rs) s = put false (a.toNat * b.toNat)
        ∧ exec (.macs c rd rs) s = put true ((a.toInt * b.toInt) % 2 ^ 54).toNat
        ∧ exec (.macu c rd rs) s = put true (a.toNat * b.toNat))
      ∧ (s.runs c.num = true → x.mul = ⟨false, v⟩ :: l →
          exec (.productLanding c) s = .next (s.setCore c.num { x with mul := l, ph := toWord (v / 2 ^ 18), pl := toWord v }))
      ∧ (s.runs c.num = true → x.mul = ⟨true, v⟩ :: l →
          exec (.productLanding c) s = .next (s.setCore c.num { x with
            mul := l, ah := toWord (sum / 2 ^ 36), am := toWord (sum / 2 ^ 18), al := toWord sum }))
      ∧ (s.runs c.num = true → x.mul = [] → exec (.productLanding c) s = .next (s.setCore c.num x)))
  ∧
  (∀ (s : State) (c : CoreId) (rd rs : Fin 32) (f : DivFlight),
      let x := s.core c.num
      let a := x.get rd
      let b := x.get rs
      let put (q r : Word) (v z : Bool) : Out State := .next (s.setCore c.num (({ x with div := some ⟨q, r, v, z, x.pc⟩ } : Core).next 1))
      (s.fetches c.num 1 = true → x.div = none →
        (b = 0 → exec (.divs c rd rs) s = put (if a.msb then 0o400000 else 0o377777) a false true
          ∧ exec (.divu c rd rs) s = put 0o777777 a false true)
        ∧ (b ≠ 0 → exec (.divs c rd rs) s = put (BitVec.ofInt 18 (a.toInt.tdiv b.toInt)) (BitVec.ofInt 18 (a.toInt.tmod b.toInt))
              (decide (a = 0o400000 ∧ b = 0o777777)) false
          ∧ exec (.divu c rd rs) s = put (BitVec.ofNat 18 (a.toNat / b.toNat)) (BitVec.ofNat 18 (a.toNat % b.toNat)) false false))
      ∧ (let y : Core := { x with div := none, qt := f.q, rm := f.r }
         let z := if f.v then y.setSr 14 14 1 else y
         s.runs c.num = true → x.div = some f → (f.dz = false ∨ x.ctl.getLsbD 17 = false) →
          exec (.divisionLanding c) s = .next (s.setCore c.num (if f.dz then z.setSr 13 13 1 else z)))
      ∧ (s.runs c.num = true → x.div = some f → f.dz = true → x.ctl.getLsbD 17 = true →
          exec (.divisionLanding c) s = .next ((s.setCore c.num x.landAll).trapEntry c.num ⟨4, 1, f.pc⟩ x.pc x.pc)))

/-- R563, R575: MFS reads every listed special register, that of CLM drains the store buffer, completes, and returns the word of ICU_CLAIM; MTS writes
every one that is not read-only, and reserved bits of SR, CTL and LST read 0. -/
def Obligations.SpecialRegisters : Prop :=
  ∀ (s : State) (c : CoreId) (r : Fin 32) (sn : Fin 64) (w : Word) (k : Nat), s.fetches c.num 1 = true →
    let x := s.core c.num
    let u := (s.drainAll c.num).modCore c.num (fun y => y.next 1)
    (sprListed sn = true → sn.val ≠ 48 → exec (.mfs c r sn) s = .next (s.setCore c.num ((x.put r (x.special c.num sn)).next 1)))
    ∧ exec (.mfs c r 48) s = .next (u.takeRead (u.ioRead c 4) c.num r)
    ∧ (sprListed sn = true → sprRo sn = false → exec (.mts c sn r) s = .next (s.setCore c.num ((x.next 1).setSpecial sn (x.get r))))
    ∧ (3 ≤ sn.val → sn.val ≤ 14 → (x.setSpecial sn w).special k sn = w)
    ∧ ((x.setSpecial 0 w).special k 0 = (w &&& 0o777770) ∧ (x.setSpecial 15 w).special k 15 = (w &&& 0o600000)
        ∧ (x.setSpecial 18 w).special k 18 = (w &&& 0o177777))
    ∧ x.special c.num 44 = BitVec.ofNat 18 c.num

/-- R596: loads from a word that answers: rd takes the word as the core sees it, a post-increment or pre-decrement changes rs, and where rd is rs the
loaded word stays. R579, R596: a store that nothing refuses enters the store buffer with its address and the value rd held, and changes no memory; rs
changes by the addressing form. R35, R579: the oldest buffered store leaves the buffer for its word: a whole word, the bits of a set alias or the bits
of a clear alias; every other word of memory stays. -/
def Obligations.LoadsAndStores : Prop :=
  (∀ (s : State) (c : CoreId) (rd rs : Fin 32) (i : Word),
      let x := s.core c.num
      let b := x.get rs
      let ok (n : Nat) (a : Word) : Prop := s.fetches c.num n = true ∧ s.loads c.num a.toNat = true
      let got (a : Word) : Word := s.coreWord c.num a.toNat
      (ok 1 b → exec (.ld c rd rs) s = .next (s.setCore c.num ((x.put rd (got b)).next 1)))
      ∧ (ok 1 b → exec (.ldPostIncrement c rd rs) s = .next (s.setCore c.num (((x.put rs (b + 1)).put rd (got b)).next 1)))
      ∧ (ok 1 (b - 1) → exec (.ldPreDecrement c rd rs) s = .next (s.setCore c.num (((x.put rs (b - 1)).put rd (got (b - 1))).next 1)))
      ∧ (ok 2 (b + i) → exec (.ldl c rd rs i) s = .next (s.setCore c.num ((x.put rd (got (b + i))).next 2))))
  ∧
  (∀ (s : State) (c : CoreId) (rd rs : Fin 32) (i : Word),
      let x := s.core c.num
      let b := x.get rs
      let v := x.get rd
      let ok (n : Nat) (a : Word) : Prop := s.fetches c.num n = true ∧ s.stores c.num a.toNat = true ∧ x.buf.length < 8
      let put (a : Word) (y : Core) : Core := { y with buf := x.buf ++ [⟨a.toNat, v⟩] }
      (ok 1 b → exec (.st c rd rs) s = .next (s.setCore c.num ((put b x).next 1)))
      ∧ (ok 1 b → exec (.stPostIncrement c rd rs) s = .next (s.setCore c.num (((put b x).put rs (b + 1)).next 1)))
      ∧ (ok 1 (b - 1) → exec (.stPreDecrement c rd rs) s = .next (s.setCore c.num (((put (b - 1) x).put rs (b - 1)).next 1)))
      ∧ (ok 2 (b + i) → exec (.stl c rd rs i) s = .next (s.setCore c.num ((put (b + i) x).next 2))))
  ∧
  (∀ (s : State) (c : CoreId) (a : Nat) (v : Word) (l : List BufStore) (k : Nat),
      s.runs c.num = true →
      (s.core c.num).buf = ⟨a, v⟩ :: l → dataWordKey c.num a = some k → s.dataOff c.num a = false →
      ¬ (0o703000 ≤ a ∧ a < 0o704000) → s.eccOf k = 0 →
      let old := s.rd k
      exec (.storeDrain c) s = .next ((s.setCore c.num { s.core c.num with buf := l }).wr k
        (if 0o300000 ≤ a ∧ a < 0o500000 then old ||| v else if 0o500000 ≤ a ∧ a < 0o700000 then old &&& ~~~v else v)))

/-- R580, R596: IN and OUT drain the store buffer, complete, and make the access of the register at rs + imm. R604: the trap of an access that is
refused names its class, cause and address, and the core's registers stay: I/O range, MPU, read-only, bank off line. -/
def Obligations.InOutAndAccessTraps : Prop :=
  (∀ (s : State) (c : CoreId) (rd rs : Fin 32) (i : Word), s.fetches c.num 2 = true →
      let x := s.core c.num
      let p := (x.get rs + i).toNat
      let u := (s.drainAll c.num).modCore c.num (fun x => x.next 2)
      (s.accesses c.num p false = true → exec (.ioIn c rd rs i) s = .next (u.takeRead (u.ioRead c p) c.num rd))
      ∧ (s.accesses c.num p true = true → exec (.out c rd rs i) s = .next (u.ioStore c p (x.get rd))))
  ∧
  (∀ (s : State) (c : CoreId) (rd rs : Fin 32) (i : Word) (t : Trp),
      let b := (s.core c.num).get rs
      (s.fetches c.num 1 = true → s.loadTrap c.num b.toNat = some t → t.vec ≠ 3 →
        exec (.ld c rd rs) s = .next (s.trap c.num t) ∧ exec (.ldPostIncrement c rd rs) s = .next (s.trap c.num t))
      ∧ (s.fetches c.num 1 = true → s.storeTrap c.num b.toNat = some t → t.vec ≠ 3 →
        exec (.st c rd rs) s = .next (s.trap c.num t) ∧ exec (.stPostIncrement c rd rs) s = .next (s.trap c.num t))
      ∧ (s.fetches c.num 2 = true → 2 ^ 16 ≤ (b + i).toNat → exec (.ioIn c rd rs i) s = .next (s.trap c.num ⟨2, 4, (b + i).toNat⟩)
        ∧ exec (.out c rd rs i) s = .next (s.trap c.num ⟨2, 4, (b + i).toNat⟩))
      ∧ (s.fetches c.num 1 = true → 0o720000 ≤ b.toNat → s.mpuOk c.num false b.toNat true = true →
        exec (.st c rd rs) s = .next (s.trap c.num ⟨2, 1, b.toNat⟩)))

/-- R570, R597: JMP and JMPR go to their targets modulo 2^21; a taken branch to a target within every level whose tag is WD ends none, and one that
leaves a level ends it and every higher level. -/
def Obligations.Jumps : Prop :=
  ∀ (s : State) (c : CoreId) (t : BitVec 21) (rs : Fin 32) (x : Core) (k j : Fin 4) (p : Nat),
    let y := s.core c.num
    let u := s.flow c.num y.pc
    let goes (p : Nat) : Out State := .next (u.setCore c.num ((u.core c.num).jump p))
    let leaves (j : Nat) : Bool := x.acts j && decide (p < x.lpsOf j ∨ x.lpeOf j < p)
    (s.fetches c.num 2 = true → exec (.jmp c t) s = goes t.toNat)
    ∧ (s.fetches c.num 1 = true → exec (.jmpr c rs) s = goes ((y.get rs).toNat * 8))
    ∧ ((List.range 4).all (fun i => !leaves i) = true → x.jump p = { x with pc := p % 2 ^ 21 })
    ∧ (leaves k = true → (List.range k).all (fun i => !leaves i) = true →
        (x.jump p).lpcOf j = (if k ≤ j then 0 else x.lpcOf j) ∧ (x.jump p).pc = p % 2 ^ 21 ∧ (x.jump p).r = x.r ∧ (x.jump p).sr = x.sr)

/-- R556, R597: a call with a free window slides: the new window's LK is the address after the call, WD rises, and the core goes to its target; CALLR
reads rs before the slide. R556, R574, R597: a return with another resident window goes to LK of the window that returns, ends the loop levels tagged
with WD, and lowers WD; RETI takes SR from the saved-status slot; RETIM takes the return address and SR from the three words at ISP, which rises by 3.
R561: CALLM stores the return address and the masked registers below P in ascending order, P falls by their number, WD rises, and the core goes to T
times 8, T read before any store; RETM restores them. -/
def Obligations.CallsAndReturns : Prop :=
  (∀ (s : State) (c : CoreId) (t : BitVec 21) (rs : Fin 32) (ret : Nat), (s.core c.num).res < 14 →
      let x := s.core c.num
      let goes (n p : Nat) : Out State :=
        let u := s.setCore c.num (x.slide ((x.pc + n) % 2 ^ 21))
        .next ((u.flow c.num x.pc).modCore c.num (fun y => { y with pc := p % 2 ^ 21 }))
      (s.fetches c.num 2 = true → exec (.call c t) s = goes 2 t.toNat)
      ∧ (s.fetches c.num 1 = true → exec (.callr c rs) s = goes 1 ((x.get rs).toNat * 8))
      ∧ (ret < 2 ^ 21 → (x.slide ret).getLk = ret ∧ (x.slide ret).res = x.res + 1 ∧ (x.slide ret).win = (x.win + 1) % 14
          ∧ (x.slide ret).wd = (x.wd + 1) % 16 ∧ (x.slide ret).r = x.r))
  ∧
  (∀ (s : State) (c : CoreId), s.fetches c.num 1 = true →
      let x := s.core c.num
      let u := (s.setCore c.num x.endTagged).flow c.num x.pc
      let w (i : Nat) : Word := s.coreWord c.num ((x.isp.toNat + i) % 2 ^ 18)
      (1 < x.res → exec (.ret c) s = .next (u.modCore c.num (fun y => ({ y with pc := x.getLk % 2 ^ 21 }.unslide).wdDown)))
      ∧ (1 < x.res → exec (.reti c) s = .next (u.modCore c.num (fun y => { { y with pc := x.getLk % 2 ^ 21 }.unslide with
          sr := x.getSlot &&& 0o777770 })))
      ∧ ((List.range 3).all (fun i => s.loads c.num ((x.isp.toNat + i) % 2 ^ 18)) = true →
          exec (.retim c) s = .next (((s.setCore c.num { x.endTagged with sr := w 2 &&& 0o777770, isp := x.isp + 3 }).flow c.num x.pc).modCore
            c.num (fun y => { y with pc := ((w 0).toNat % 8 * 2 ^ 18 + (w 1).toNat) % 2 ^ 21 }))))
  ∧
  (∀ (s : State) (c : CoreId) (p t : Fin 32) (m : BitVec 16), s.fetches c.num 2 = true → (maskRegs m).contains p.val = false →
      let x := s.core c.num
      let l := maskRegs m
      let n := 2 + l.length
      let ret := (x.pc + 2) % 2 ^ 21
      let q : Word := x.get p - BitVec.ofNat 18 n
      ((List.range n).all (fun i => s.stores c.num ((q.toNat + i) % 2 ^ 18)) = true →
        exec (.callm c p t m) s = .next (((s.storeList c.num q.toNat ([toWord (ret / 2 ^ 18), toWord ret] ++ l.map x.get)).modCore c.num
          (fun y => (y.put p q).wdUp)).goTo c.num ((x.get t).toNat * 8)))
      ∧ ((List.range n).all (fun i => s.loads c.num (((x.get p).toNat + i) % 2 ^ 18)) = true →
        let w (i : Nat) : Word := s.coreWord c.num (((x.get p).toNat + i) % 2 ^ 18)
        let y := (List.range l.length).foldl (fun (z : Core) i => z.put (l.getD i 0) (w (2 + i))) x.endTagged
        exec (.retm c p m) s = .next ((s.setCore c.num ((y.put p (x.get p + BitVec.ofNat 18 n)).wdDown)).goTo c.num
          ((w 0).toNat % 8 * 2 ^ 18 + (w 1).toNat))))

/-- R571: HALT drains the store buffer and halts the core; an interrupt above its priority ends the halt, with an entry where IE is 1 and without one
where IE is 0, unless the cores' agent has acknowledged an entry that is negotiated (R449) or an entry commits (R451). R571, R583: a core that is
halted, fenced or held in reset, or whose domain is off, runs no instruction. -/
def Obligations.HaltsAndStops : Prop :=
  (∀ (s : State) (c : CoreId) (p k : Nat),
      let x := s.core c.num
      (s.fetches c.num 1 = true → exec (.halt c) s = .next ((s.drainAll c.num).modCore c.num (fun x => { x.next 1 with run := .halted })))
      ∧ (s.acked 0 = false → s.fld PCR_ENTRY_PHASE ≠ 2 → s.pendAbove c.num x.prio = some (p, k) → x.run = .halted → s.lives c.num = true → x.ie = true →
          exec (.haltResume c) s = .next (s.interrupt c.num p))
      ∧ (s.acked 0 = false → s.fld PCR_ENTRY_PHASE ≠ 2 → s.pendAbove c.num x.prio = some (p, k) → x.run = .halted → s.lives c.num = true → x.ie = false →
          exec (.haltResume c) s = .next (s.modCore c.num (fun x => { x with run := .running })))
      ∧ (s.acked 0 = true ∨ s.fld PCR_ENTRY_PHASE = 2 → exec (.haltResume c) s = .next s)
      ∧ (s.pendAbove c.num x.prio = none → exec (.haltResume c) s = .next s))
  ∧
  (∀ (s : State) (c : CoreId) (rd rs : Fin 32) (i : Word) (k : BitVec 4) (o : BitVec 7), s.runs c.num = false →
      exec (.add c rd rs) s = .next s ∧ exec (.mov c rd rs) s = .next s ∧ exec (.movl c rd i) s = .next s ∧ exec (.muls c rd rs) s = .next s
      ∧ exec (.divs c rd rs) s = .next s ∧ exec (.mts c 0 rs) s = .next s ∧ exec (.ld c rd rs) s = .next s ∧ exec (.st c rd rs) s = .next s
      ∧ exec (.ioIn c rd rs i) s = .next s ∧ exec (.out c rd rs i) s = .next s ∧ exec (.bCond c k false o) s = .next s
      ∧ exec (.call c 0) s = .next s ∧ exec (.ret c) s = .next s ∧ exec (.reti c) s = .next s ∧ exec (.retim c) s = .next s
      ∧ exec (.callm c rd rs 0) s = .next s ∧ exec (.retm c rd 0) s = .next s ∧ exec (.loop c rs o) s = .next s ∧ exec (.halt c) s = .next s
      ∧ exec (.sys c rs) s = .next s ∧ exec (.brk c rs) s = .next s)

/-- R573, R576: an interrupt above the core's priority is entered while IE is 1: with nothing in flight and a free window it slides, LK is the PC, the
saved-status slot SR, and the core goes to vector 16 + p with the priority p. R573, R576, R602, R603: SYS and BRK, with nothing in flight, a free
window and CTL.TCM 0, enter vectors 6 and 7 with the parcel that would have run next as return address, TCA and TAD set and IE 0. -/
def Obligations.EntriesTaken : Prop :=
  (∀ (s : State) (c : CoreId) (p k : Nat), s.pendAbove c.num (s.core c.num).prio = some (p, k) → s.runs c.num = true →
      (s.core c.num).ie = true → (s.core c.num).mul = [] → (s.core c.num).div = none → (s.core c.num).res < 14 →
      s.bit (ICU_CMSEL_CMSEL c.num) p = false →
      let x := s.core c.num
      exec (.interruptEntry c) s = .next ((s.setCore c.num (((x.slide x.pc).putSlot x.sr).setSr 10 7 p)).vector c.num (16 + p)))
  ∧
  (∀ (s : State) (c : CoreId) (rs : Fin 32), s.fetches c.num 1 = true → (s.core c.num).mul = [] → (s.core c.num).div = none →
      (s.core c.num).res < 14 → (s.core c.num).ctl.getLsbD 16 = false →
      let x := s.core c.num
      let enter (v : Nat) : Out State :=
        let y := (x.after 1).1
        let z : Core := { y with tca := BitVec.ofNat 18 (v * 4096 + rs.val * 64 + x.pc / 2 ^ 18), tad := BitVec.ofNat 18 x.pc }
        .next ((s.setCore c.num (((z.slide (x.after 1).2).putSlot x.sr).setSr 11 11 0)).vector c.num v)
      exec (.sys c rs) s = enter 6 ∧ exec (.brk c rs) s = enter 7)

/-- R576, R577: a trap of a class that slides, with nothing in flight, a free window and CTL.TCM 0: TCA and TAD tell it, LK is the trapping
instruction, the saved-status slot SR, IE is 0 and the PC the vector's. -/
def Obligations.TrapEntry : Prop :=
  ∀ (s : State) (c : CoreId) (t : Trp), t.vec < 8 → t.vec ≠ 5 → t.cause < 64 → t.tad < 2 ^ 21 → (s.core c.num).mul = [] →
    (s.core c.num).div = none → (s.core c.num).res < 14 → (s.core c.num).ctl.getLsbD 16 = false → (s.core c.num).pc < 2 ^ 21 →
    let x := s.core c.num
    let y := (s.trap c.num t).core c.num
    y.pc = (x.vbr.toNat * 8 + 8 * t.vec) % 2 ^ 21 ∧ y.tca.toNat = t.vec * 4096 + t.cause * 64 + t.tad / 2 ^ 18 ∧ y.tad.toNat = t.tad % 2 ^ 18
    ∧ y.getLk = x.pc ∧ y.getSlot = x.sr ∧ y.ie = false ∧ y.wd = (x.wd + 1) % 16 ∧ y.res = x.res + 1 ∧ y.win = (x.win + 1) % 14
    ∧ y.run = .running ∧ y.prio = x.prio

/-! ### High-side channels -/

/-- R148, R151 to R155: the descriptors of a channel, at its apply time, where no ready answer is kept. -/
def Obligations.HighSideDescriptors : Prop :=
  ∀ (s : State) (r : Fin 64) (i : Fin 1024) (held : Bool) (d : Desc), s.domOn .act = true →
    let n := d.target
    let e (k : Nat) := s.entryScrub n k
    let opened (k : Nat) := (e k).hscOpenNew n d
    (s.hscOdd n = true → s.ready 2 1 r i d = true → exec (.hscSet r i held) s = .next (s.finish d stBadTarget 0))
    ∧ (s.ready 2 1 r i d = true → s.hscOdd n = false →
      (s.hst n = 7 → exec (.hscSet r i held) s = .next ((e 0).finish d 0o24 0))
      ∧ (s.hst n = 8 → exec (.hscSet r i held) s = .next (s.finish d stFenced 0))
      ∧ (s.hst n = 9 → exec (.hscSet r i held) s = .next (s.finish d stDenied 1))
      ∧ (s.hst n < 7 → (e 0).entryValid n 0 = true →
          exec (.hscSet r i held) s = .next ((opened 0).launch n 0 d.w2.toNat d.w3.toNat d.w4.toNat))
      ∧ (s.hst n < 7 → (e 0).entryValid n 0 = false → bitsOf d.w3.toNat 12 0 = 0 →
          (d.w2 = 0 → exec (.hscSet r i held) s = .next ((((opened 0).stopThread n).hscApply n 0 held).hscFinish n stDone 0))
          ∧ (d.w2 ≠ 0 → exec (.hscSet r i held) s = .next ((((opened 0).stopThread n).modHch n (fun c => { c with want := true })).hscApply n
              d.w2.toNat held)))
      ∧ (s.hst n < 7 → (e 0).entryValid n 0 = false → bitsOf d.w3.toNat 12 0 ≠ 0 →
          let u := (opened 0).stopThread n
          exec (.hscSet r i held) s = .next (u.modHch n (fun c => { c with
            rampFrom := u.oval n, rampTo := d.w2.toNat, rampN := bitsOf d.w3.toNat 12 0, rampLeft := bitsOf d.w3.toNat 12 0,
            want := decide (d.w2 ≠ 0) }))))
    ∧ (s.ready 2 2 r i d = true → s.hscOdd n = false →
      (s.hst n < 7 → exec (.hscOff r i) s = .next ((((s.hscSupersede n).stopThread n).hscApply n 0 false).finishDone d 0))
      ∧ (s.hst n = 7 → exec (.hscOff r i) s = .next (((s.hscSupersede n).stopThread n).finishDone d 0)))
    ∧ (s.ready 2 3 r i d = true → s.hscOdd n = false → s.hst n < 7 → let k := d.flags % 8
      ((e k).entryValid n k = true → exec (.hscRun r i) s = .next ((opened k).launch n k d.w2.toNat d.w3.toNat d.w4.toNat))
      ∧ ((e k).entryValid n k = false → exec (.hscRun r i) s = .next ((e k).finish d 0o31 0)))
    ∧ (s.ready 2 4 r i d = true → s.hscOdd n = false →
      (s.hst n ∈ [0, 2, 9] →
        (s.on (HSC_CFG_OLON n) = true → exec (.hscDiag r i) s = .next (s.startDesc d))
        ∧ (s.on (HSC_CFG_OLON n) = false → exec (.hscDiag r i) s = .next ((s.startDesc d).modHch n (fun c => { c with olLow := 0, olHigh := 0 }))))
      ∧ (s.hst n ∈ [1, 3, 4, 5, 6, 7] → exec (.hscDiag r i) s = .next (s.finish d stBadTarget 1)))
    ∧ (s.ready 2 5 r i d = true → s.hscOdd n = false → bitAt d.flags 0 = false →
      let u := s.setFld (HSC_STAT_SCNT n) 2
      (s.hst n < 7 → u.hscLat n = 0 → u.wireTrip n = false → exec (.hscClear r i) s = .next (u.finishDone d 0))
      ∧ (s.hst n < 7 → u.hscLat n + 4 * b2n (u.wireTrip n) ≠ 0 →
          exec (.hscClear r i) s = .next (u.finish d 0o32 (u.hscLat n + 4 * b2n (u.wireTrip n))))
      ∧ (s.hst n = 7 → u.hscLat n = 0 → u.wireTrip n = false →
          exec (.hscClear r i) s = .next (((u.setFld (HSC_STAT_LCAUSE n) 0).hscToOff n).finishDone d 0)))

/-- R134 to R149: the events of a channel. -/
def Obligations.HighSideEvents : Prop :=
  ∀ (s : State) (n : Fin 64) (held high still : Bool) (i : Word) (d : Desc), s.domOn .act = true →
    let m := s.hscOf n
    (s.hst m = 2 → exec (.hsLimitReached n) s = .next (((s.setHst m 3).hscEvt m 0).protEvent m))
    ∧ (s.inp.dcMap = true → exec (.hsShortEvent n) s = .next (s.dcTrip n))
    ∧ (s.hst m ∈ [2, 3] → s.inp.dcMap = false →
        let u := ((s.count (HSC_CNT_SHORTS m)).hscEvt m 7).protEvent m
        (s.fld (HSC_STAT_SCNT m) = 0 → exec (.hsShortEvent n) s = .next (((u.hscLatch m 1 0o20).record 4 1 m).record 4 3 m))
        ∧ (s.fld (HSC_STAT_SCNT m) ≠ 0 → exec (.hsShortEvent n) s = .next (((u.setHst m 4).modHch m (fun c =>
            { c with pend := true, shortBudget := true, retryOver := false })).record 4 1 m)))
    ∧ (s.hst m = 3 →
        let u := ((s.count (HSC_CNT_OVLS m)).hscEvt m 6).protEvent m
        (u.on (HSC_STAT_WARM m) = true → u.on (HSC_STAT_RCNT m) = true →
          exec (.hsOverloadEvent n) s = .next (((u.setHst m 4).modHch m (fun c =>
            { c with pend := true, shortBudget := false, retryOver := false })).record 4 2 m))
        ∧ (u.on (HSC_STAT_WARM m) = false → exec (.hsOverloadEvent n) s = .next (((u.hscLatch m 2 0o21).record 4 2 m).record 4 3 m)))
    ∧ (s.hst m = 4 → exec (.hsRestart n held) s = .next (((((s.hscConsume m).setHst m 2).hscEvt m 1).modHch m (fun c =>
        { c with pend := false, retryOver := false, held := held,
                 ilsel := (((s.hscConsume m).setHst m 2).hscEvt m 1).fld (HSC_PROT_ILSEL m) })).hscTryDone m))
    ∧ (s.hst m = 6 ∨ (s.hst m = 5 ∧ (s.hch m).pend = true) →
        exec (.hsRestart n held) s = .next (s.modHch m (fun c => { c with retryOver := true })))
    ∧ (let u := (s.raise (HSC_STAT_UV n)).modHch n (fun c => { c with uvSeen := true })
       (u.hst n ∈ [2, 3, 4] → exec (.hsUndervoltage n) s = .next ((((((u.setHst n 5).hscEvt n 5).count (HSC_CNT_UVS n))).protEvent n).record 4 4 n))
       ∧ (u.hst n ∉ [2, 3, 4] → exec (.hsUndervoltage n) s = .next u))
    ∧ (let u := s.setFld (HSC_STAT_UV n) 0
       (u.hst n ≠ 5 → exec (.hsUvRelease n held) s = .next u)
       ∧ (u.hst n = 5 → (u.hch n).pend = true → (u.hch n).retryOver = false → u.on (HSC_STAT_RCNT n) = true → u.on (HSC_STAT_SCNT n) = true →
          exec (.hsUvRelease n held) s = .next (u.setHst n 4))
       ∧ (u.hst n = 5 → (u.hch n).pend = false → u.stageD n = 0 → exec (.hsUvRelease n held) s = .next (u.hscOut n 0))
       ∧ (u.hst n = 5 → (u.hch n).pend = false → u.stageD n ≠ 0 →
          exec (.hsUvRelease n held) s = .next ((((u.hscSwitchOn n false).setHst n 2).modHch n (fun c => { c with held := held })).hscTryDone n)))
    ∧ exec (.warmUpEnd n) s = .next (s.setFld (HSC_STAT_WARM n) 0)
    ∧ (s.hst n ∈ [2, 3] → exec (.scntRestore n) s = .next (s.setFld (HSC_STAT_SCNT n) 2))
    ∧ (s.hst n ∉ [2, 3] → exec (.scntRestore n) s = .next s)
    ∧ (s.hscOdd n = false → s.hscMeasures n = true → s.hst n ≠ 3 → s.on (HSC_CFG_OLON n) = false → s.hscDiag n = none →
        let u := ((s.setReg (rHSC_IMEAS n) i.toNat).raise (HSC_STAT_IVAL n)).modHch n (fun c => { c with age := 0, ageT := 0, pulse := false })
        exec (.validMeasurement n i) s = .next (u.senseEvent n))
    ∧ (s.hscOdd n = false → s.hscMeasures n = true → s.hst n = 3 → s.on (HSC_CFG_FINE n) = false → i.toNat * s.hscLsb n < s.hscLimit n →
        s.on (HSC_CFG_OLON n) = false → s.hscDiag n = none →
        let u := ((s.setReg (rHSC_IMEAS n) i.toNat).raise (HSC_STAT_IVAL n)).modHch n (fun c => { c with age := 0, ageT := 0, pulse := false })
        (u.hscUnlimit n).on (HSC_CFG_OLON n) = false → (u.hscUnlimit n).hscDiag n = none →
        exec (.validMeasurement n i) s = .next ((u.hscUnlimit n).senseEvent n))
    ∧ (s.hscOdd n = true ∨ s.hscMeasures n = false → exec (.validMeasurement n i) s = .next s)
    ∧ (s.hscDiag n = none → s.hscOdd n = false → s.hscOffTimes n = true → s.on (HSC_CFG_OLOFF n) = true → s.fld (HSC_CFG_BRACE n) ≠ 1 →
        (s.hst n = 9 → s.mirrorIdle n = true) →
        exec (.offStateCheck n high still) s
          = .next ((s.modHch n (fun c => { c with offAge := 0 })).setOl n (if high then (if still then 4 else 3) else 1)))
    ∧ (s.hst n ∈ [2, 3] → s.hscDiag n = none → s.on (HSC_CFG_OLON n) = false → s.on (HSC_CFG_OLOFF n) = false →
        exec (.hsOlUnknown n) s = .next (s.setOl n 5))
    ∧ (s.hscDiag n = some d → s.hst n ∉ [2, 3] → (s.finish d 0o30 0).hst n ∉ [2, 3] → exec (.hsOlUnknown n) s = .next (s.finish d 0o30 0))
    ∧ (s.hst n ∈ [2, 3] → s.fld (HSC_CFG_LOAD n) = 0 → s.on (HSC_CFG_DIAGP n) = true → s.hscSolid n = false → s.hscOnTicks n < s.tolMin n →
        exec (.diagnosticPulse n) s = .next (s.modHch n (fun c => { c with pulse := true })))
    ∧ (s.provDesc 2 n = some d → s.hst n = 1 → s.fld (HSC_CFG_LOAD n) = 0 → bitsOf d.w4.toNat 17 9 ≠ 0 →
        exec (.preheatPulse n) s = .next (s.modHch n (fun c => { c with preheat := c.preheat + 1 })))


/-! ### The sequencer -/

/-- R110, R111: the instructions of a waveform program: each leaves the PC at the next instruction unless it jumps, and acts on its thread, its output
or its open descriptor. -/
def Obligations.SequencerInstructions : Prop :=
  ∀ (s : State) (n : Fin 128) (a v : Nat), s.domOn .act = true →
    let u (op : Nat) : State := s.seqPast n op
    let t (op : Nat) : Thread := (u op).thr n
    let sets (op : Nat) (x : Thread) : Out State := .next ((u op).setThr n x)
    (s.seqAt n 0 a v = true → exec (.seqEnd n) s =
      .next (((((u 0).setThr n { t 0 with d := 0, dirty := true }).applyThread n).threadDone n).setThrSt n 0))
    ∧ (s.seqAt n 1 a v = true → exec (.seqHold n) s = .next ((((u 1).applyThread n).threadDone n).setThrSt n 0))
    ∧ (s.seqAt n 2 a v = true → exec (.seqSetd n) s = sets 2 { t 2 with d := v, dirty := true })
    ∧ (s.seqAt n 3 0 v = true → exec (.seqSetdq n) s = sets 3 { t 3 with d := (t 3).q0, dirty := true })
    ∧ (s.seqAt n 3 1 v = true → exec (.seqSetdq n) s = sets 3 { t 3 with d := (t 3).q1, dirty := true })
    ∧ (s.seqAt n 3 2 v = true → exec (.seqSetdq n) s = sets 3 { t 3 with d := (t 3).q2, dirty := true })
    ∧ (s.seqAt n 4 a v = true → exec (.seqRamp n) s =
        .next ((((u 4).applyThread n).modThr n (fun t => { t with rampFrom := t.d, rampTo := v, rampN := a, rampLeft := a, waitN := a })).setThrSt n 3))
    ∧ (s.seqAt n 5 a v = true → exec (.seqWaitf n) s =
        .next ((((u 5).applyThread n).modThr n (fun t => { t with rampLeft := 0, waitN := a })).setThrSt n 3))
    ∧ (s.seqAt n 6 a v = true → exec (.seqWaitt n) s =
        .next ((((u 6).applyThread n).modThr n (fun t => { t with waitN := a % 2048 * 10 ^ (a / 2048), due := false })).setThrSt n 2))
    ∧ (s.seqAt n 7 a v = true → exec (.seqWaite n) s = .next (((((u 7).applyThread n).modThr n (fun t =>
        { t with waitN := a / 16, evKind := a % 16, ev := false, due := false })).setThrSt n 4).senseEvent n))
    ∧ (s.seqAt n 8 a v = true → exec (.seqSetc n) s = sets 8 (if a < 4096 then { t 8 with c0 := a } else { t 8 with c1 := a - 4096 }))
    ∧ (s.seqAt n 9 a v = true → inSlot n a = true → ((t 9).c0 = 1 → exec (.seqDjnz0 n) s = sets 9 { t 9 with c0 := 0 })
        ∧ (1 < (t 9).c0 → (t 9).c0 < 4096 → exec (.seqDjnz0 n) s = .next (((u 9).setThr n { t 9 with c0 := (t 9).c0 - 1 }).setThrPc n a))
        ∧ ((t 9).c0 = 0 → exec (.seqDjnz0 n) s = .next (((u 9).setThr n { t 9 with c0 := 4095 }).setThrPc n a)))
    ∧ (s.seqAt n 10 a v = true → inSlot n a = true → ((t 10).c1 = 1 → exec (.seqDjnz1 n) s = sets 10 { t 10 with c1 := 0 })
        ∧ (1 < (t 10).c1 → (t 10).c1 < 4096 → exec (.seqDjnz1 n) s = .next (((u 10).setThr n { t 10 with c1 := (t 10).c1 - 1 }).setThrPc n a))
        ∧ ((t 10).c1 = 0 → exec (.seqDjnz1 n) s = .next (((u 10).setThr n { t 10 with c1 := 4095 }).setThrPc n a)))
    ∧ (s.seqAt n 11 a v = true → (inSlot n a = true → exec (.seqJmp n) s = .next ((u 11).setThrPc n a))
        ∧ (inSlot n a = false → exec (.seqJmp n) s = .next ((u 11).progFault n 5)))
    ∧ (s.seqAt n 12 a v = true → inSlot n a = true → (u 12).thr n = t 12 → (t 12).ret = none →
        exec (.seqCall n) s = .next (((u 12).setThr n { t 12 with ret := some ((u 12).thrPc n) }).setThrPc n a))
    ∧ (s.seqAt n 13 a v = true → (t 13).ret = some v → exec (.seqRet n) s = .next (((u 13).setThr n { t 13 with ret := none }).setThrPc n v))
    ∧ (s.seqAt n 14 a v = true → ((t 14).e = false → exec (.seqSke n) s = .next (u 14))
        ∧ ((t 14).e = true → let p := (u 14).thrPc n
            let w := ((u 14).rd (seqKey (p % 8192))).toNat
            (u 14).eccOf (seqKey (p % 8192)) ≠ 2 →
            exec (.seqSke n) s = .next (((u 14).seqScrub p).setThrPc n ((p + (if twoWords (w / 8192) then 2 else 1)) % 8192))))
    ∧ (s.seqAt n 15 a v = true → exec (.seqSetp n) s = .next ((u 15).setParam n a v))
    ∧ (s.seqAt n 16 a v = true → exec (.seqStatus n) s = .next ((u 16).threadStatus n a))
    ∧ (s.seqAt n 17 a v = true → exec (.seqSett n) s = sets 17 { t 17 with thr := v })
    ∧ (s.seqAt n 18 a v = true →
        ((u 18).grpRuns ((u 18).grp n) = true → exec (.seqPhase n) s = sets 18 { t 18 with phaseNew := some a })
        ∧ ((u 18).grpRuns ((u 18).grp n) = false → exec (.seqPhase n) s = .next ((u 18).setFld (SEQ_OCFG_PHASE n) a)))
    ∧ (s.thrSt n = 1 → s.eccOf (seqKey (s.thrPc n % 8192)) = 0 → 18 * 8192 + 8191 < (s.rd (seqKey (s.thrPc n % 8192))).toNat →
        exec (.seqUndefined n) s = .next (s.progFault n 1))

/-- R104 to R116, R635: waits, frames, the sequencer memory and ACT's zone time. -/
def Obligations.SequencerTime : Prop :=
  ∀ (s : State) (n : Fin 128) (g : Fin 16) (c : CoreId) (v : Word) (z : BitVec 64) (q : Nat), s.domOn .act = true →
    let t := s.thr n
    let ends (e : Bool) : State := (s.setThr n { t with icnt := 0, due := false, ev := false, e := e }).setThrSt n 1
    (s.thrSt n = 2 → exec (.threadWaitEnd n) s = .next (ends t.e))
    ∧ (s.thrSt n = 3 → t.waitN = 0 → exec (.threadWaitEnd n) s = .next (ends t.e))
    ∧ (s.thrSt n = 4 → t.ev = true → exec (.threadWaitEnd n) s = .next (ends true))
    ∧ (s.thrSt n = 4 → t.ev = false → t.waitN ≠ 0 → exec (.threadWaitEnd n) s = .next (ends false))
    ∧ (s.thrSt n = 6 → t.susp = 2 → exec (.threadWaitEnd n) s = .next (s.setThr n { t with due := true }))
    ∧ (s.grpRuns g = true → exec (.frameBoundary g) s =
        .next (let u := s.setFld (SEQ_GSTAT_FCNT g) (s.fld (SEQ_GSTAT_FCNT g) + 1)
               u.each (u.grpOuts g) (fun m u => u.frameOut g m)))
    ∧ (s.grpRuns g = false → exec (.frameBoundary g) s = .next s)
    ∧ (n.val < 64 → s.hscOdd n = false → s.grpRuns (s.grp n) = false → exec (.pwmPeriodStart n) s = .next (s.hscPeriod n))
    ∧ (s.tgtOf n = (3, q) → exec (.pwmPeriodStart n) s = .next ((s.motPeriod q).when (s.meanByCarrier n) (fun u => u.meanEnd n)))
    ∧ (100 ≤ n.val → n.val < 124 → exec (.pwmPeriodStart n) s = .next s)
    ∧ (84 ≤ n.val → n.val < 100 → exec (.pwmPeriodStart n) s = .next (s.vlvPeriod (n - 84)))
    ∧ (s.grpFrozen g = true → exec (.seqResume c g) s = .next (s.seqResume g))
    ∧ (s.fld SEQ_MADR_ADDR < 0o14000 → s.thrStopped (s.fld SEQ_MADR_ADDR / 0o60) = true →
        exec (.seqMdataWrite c v) s = .next ((s.wr (seqKey (s.fld SEQ_MADR_ADDR)) v).madrUp))
    ∧ (s.fld SEQ_MADR_ADDR < 0o14000 → s.thrStopped (s.fld SEQ_MADR_ADDR / 0o60) = false →
        exec (.seqMdataWrite c v) s = .next ((s.raise SEQ_FLAG_MBUSY).madrUp))
    ∧ (0o14000 ≤ s.fld SEQ_MADR_ADDR → s.on SEQ_LOCK_LIB = false →
        exec (.seqMdataWrite c v) s = .next ((s.wr (seqKey (s.fld SEQ_MADR_ADDR)) v).madrUp))
    ∧ (0o14000 ≤ s.fld SEQ_MADR_ADDR → s.on SEQ_LOCK_LIB = true →
        exec (.seqMdataWrite c v) s = .next ((s.raiseIf (decide (s.rd (seqKey (s.fld SEQ_MADR_ADDR)) ≠ v)) SEQ_FLAG_WRREF).madrUp))
    ∧ (let a := s.fld SEQ_MADR_ADDR
       let u := s.setReg rSEQ_MDATA (s.rd (seqKey a)).toNat
       exec (.seqMdataRead c) s = .next (((u.raiseIf (decide (s.eccOf (seqKey a) = 2)) SEQ_FLAG_SECC).seqScrub a).madrUp))
    ∧ (s.domOn .zsw = true →
        let off := (z - BitVec.ofNat 64 s.ztNs).toInt
        let u := (((s.setReg rSEQ_ZOFS (wrapTo 18 (max (-131072) (min 131071 off)))).setFld SEQ_ZSTAT_HOLD 0).setFld SEQ_ZSTAT_AGE 0).modZone
          (fun z => { z with age := 0, rate := sextOf 18 s.draw.toNat }) |>.drew
        (u.stepThr < off.natAbs → exec (.ztSample z) s = .next ((((((u.setZt (z.toNat * 64 + u.zt % 64)).raise SEQ_FLAG_STEP).count
            SEQ_ZSTAT_STEPCNT).setFld SEQ_ZSTAT_LOCK 0).modZone (fun z => { z with inN := 0, outN := 0, slew := 0 })).setDescs
            (u.descs.map ((u.setZt (z.toNat * 64 + u.zt % 64)).stepDesc)) |>.record 6 4 0))
        ∧ (20 < off.natAbs → off.natAbs ≤ u.stepThr → off.natAbs ≤ 40 →
            exec (.ztSample z) s = .next (u.modZone (fun z => { z with inN := 0, outN := 0, slew := off })))
        ∧ (off.natAbs ≤ 20 → off.natAbs ≤ u.stepThr → u.zone.inN < 15 →
            exec (.ztSample z) s = .next (u.modZone (fun z => { z with inN := z.inN + 1, outN := 0, slew := off })))
        ∧ (off.natAbs ≤ 20 → off.natAbs ≤ u.stepThr → u.zone.inN = 15 →
            exec (.ztSample z) s = .next ((u.modZone (fun z => { z with inN := 16, outN := 0, slew := off })).setFld SEQ_ZSTAT_LOCK 1)))
    ∧ (s.on SEQ_ZSTAT_HOLD = false →
        let u := (((s.setFld SEQ_ZSTAT_HOLD 1).setFld SEQ_ZSTAT_LOCK 0).raise SEQ_FLAG_HOLD).modZone (fun z => { z with inN := 0, outN := 0, slew := 0 })
        (u.timedWaits = false → exec .ztHoldover s = .next u) ∧ (u.timedWaits = true → exec .ztHoldover s = .next (u.record 6 5 0)))
    ∧ (s.on SEQ_ZSTAT_HOLD = true → exec .ztHoldover s = .next s)

/-! ### Thermal protection -/

/-- R163 to R179: the latches of an output, the sensors, the wire models and the dissipation estimate. -/
def Obligations.ThermalProtection : Prop :=
  ∀ (s : State) (o : Fin 124) (w : Fin 84) (x : Fin 128) (k : Fin 12) (dd : Fin 2) (t cs : Word) (held : Bool) (ons : List (Nat × List Word))
    (l : List (Fin 100 × List (Nat × List Word))), s.domOn .act = true →
    let seen := (s.tell (rTHM_CASE (s.caseOf o)) cs).tell (rTHM_TCH o) t
    let read := s.tell (rTHM_TCH o) t
    (seen.dtLat o = false → 64 * (seen.fld (THM_TCFG_DTL o) : Int) < seen.dtOf o →
        exec (.dtLatch o t cs) s = .next (((((seen.raise (THM_TSTAT_DTLAT o)).raise (THM_EVT_DT o)).modThm (fun y =>
          { y with dtRel := nPut y.dtRel o (seen.dtRelNow o) })).thermSet o).record 5 1 o))
    ∧ (seen.dtOf o ≤ 64 * (seen.fld (THM_TCFG_DTL o) : Int) → exec (.dtLatch o t cs) s = .next seen)
    ∧ (seen.dtLat o = true → seen.dtOf o ≤ 64 * (nGet seen.thm.dtRel o : Int) →
        exec (.dtRelease o t cs held) s = .next ((((seen.setFld (THM_TSTAT_DTLAT o) 0).raise (THM_EVT_REL o)).modThm (fun y =>
          { y with dtRel := nPut y.dtRel o 0 })).thermRelease o held))
    ∧ (seen.dtLat o = false → exec (.dtRelease o t cs held) s = .next seen)
    ∧ (s.inp.dcMap = true → 175 * 64 < t.toInt → exec (.tjLatch o t) s = .next (s.dcTrip o))
    ∧ (s.inp.dcMap = false → read.tjLat o = false → 175 * 64 < t.toInt →
        exec (.tjLatch o t) s = .next (((((read.raise (THM_TSTAT_TJLAT o)).raise (THM_EVT_TJ o)).modThm (fun y =>
          { y with tjRel := nPut y.tjRel o read.tjRelNow })).thermSet o).record 5 2 o))
    ∧ (s.inp.dcMap = false → t.toInt ≤ 175 * 64 → exec (.tjLatch o t) s = .next read)
    ∧ (read.tjLat o = true → t.toInt ≤ 64 * (nGet read.thm.tjRel o : Int) →
        exec (.tjRelease o t held) s = .next ((((read.setFld (THM_TSTAT_TJLAT o) 0).raise (THM_EVT_REL o)).modThm (fun y =>
          { y with tjRel := nPut y.tjRel o 0 })).thermRelease o held))
    ∧ exec (.channelSensorFail x) s = .next (((s.raise (THM_TSTAT_FAIL x)).raise THM_FLAG_CHSF).record 5 4 x)
    ∧ ((∀ j < 4, 4 * (k.val / 4) + j ≠ k.val → s.bit THM_CSTAT_FAIL (4 * (k.val / 4) + j) = false) →
        exec (.caseReferenceFail k) s = .next (((s.setBitF THM_CSTAT_FAIL k true).raise THM_FLAG_CASEF).recordAt 5 5 k 1))
    ∧ (∀ j < 4, 4 * (k.val / 4) + j ≠ k.val → s.bit THM_CSTAT_FAIL (4 * (k.val / 4) + j) = true →
        exec (.caseReferenceFail k) s = .next (((s.setBitF THM_CSTAT_FAIL k true).raise THM_FLAG_CASEF).recordAt 5 5 k 2))
    ∧ (let u := s.tell (dieReg dd) t
       (140 * 64 < t.toInt → exec (.diehot dd t) s = .next ((u.raise THM_FLAG_DIEHOT).record 5 6 dd))
       ∧ (t.toInt ≤ 140 * 64 → exec (.diehot dd t) s = .next u)
       ∧ (160 * 64 < t.toInt → exec (.dieover dd t) s = .next (u.record 5 7 dd))
       ∧ (t.toInt ≤ 160 * 64 → exec (.dieover dd t) s = .next u))
    ∧ (hasWire w = true → s.on (THM_WCFG_WEN w) = true → (8 ≤ w.val ∨ w.val % 2 = 0 ∨ s.on (HSC_CFG_PAR (w.val - 1)) = false) →
        let th := s.wireStep w (s.meanSq w ons)
        let u := s.setTheta w th
        (u.tamb w + (th : Int) * 64 / 10 ^ 12 < u.twMax w → exec (.wireModelUpdate w ons) s = .next u)
        ∧ (u.twMax w ≤ u.tamb w + (th : Int) * 64 / 10 ^ 12 → u.wireTrip w = false →
            exec (.wireModelUpdate w ons) s = .next (u.wireTripped w)))
    ∧ (hasWire w = true → s.on (THM_WCFG_WEN w) = false → exec (.wireModelUpdate w ons) s = .next (s.setTheta w 0))
    ∧ (let led := (List.range 24).foldl (fun a n => a + s.fld (LUX_LVSNK_V n) * s.fld (LUX_LIMEAS_I n)) 0
       let st : Int := l.foldl (fun a p => a + s.stageLoss p.1 (s.meanSq p.1 p.2)) 0
       let mw := s.fld THM_PBASE_PBASE + ((st + (led : Int) * 16000 * 10 ^ 12) / (64 * 10 ^ 21)).toNat
       let u := s.setFld THM_PEST_PEST (satTo 0o777777 mw)
       (u.fld THM_PEST_PEST ≤ u.fld THM_PLIM_PLIM → exec (.pestUpdate l) s = .next u)
       ∧ (u.fld THM_PLIM_PLIM < u.fld THM_PEST_PEST → exec (.pestUpdate l) s = .next (u.raise THM_FLAG_PBUD)))

/-! ### Motors -/

/-- R201, R202, R206 to R212: the descriptors of a target, at their apply time, where no ready answer is kept. -/
def Obligations.MotorDescriptors : Prop :=
  ∀ (s : State) (r : Fin 64) (i : Fin 1024) (d : Desc) (x : Nat × Nat), s.domOn .act = true →
    let t := d.target
    let dir := bitsOf d.w3.toNat 17 16
    let p := posInt (s.fld (MOT_POS_POS (t - 24)))
    let q := posInt d.w3.toNat
    let dirTo := if p < q then 1 else 2
    let calm := ((s.motFinish t stSuperseded 0).provEnd 3 t stSuperseded 0 (some SEQ_PCNT1_PSUP)).stopThread (motOut t)
    let opened := (s.motOpenNew t d).modMt t (fun m => { m with goTo := none })
    let going := (s.motOpenNew t d).modMt t (fun m => { m with goTo := some d.w3.toNat })
    (s.mst t = 5 →
      (s.ready 3 1 r i d = true → exec (.motDrive r i) s = .next s) ∧ (s.ready 3 2 r i d = true → exec (.motGoto r i) s = .next s)
      ∧ (s.ready 3 3 r i d = true → exec (.motStop r i) s = .next s) ∧ (s.ready 3 4 r i d = true → exec (.motRun r i) s = .next s)
      ∧ (s.ready 3 5 r i d = true → exec (.motDiag r i) s = .next s) ∧ (s.ready 3 6 r i d = true → exec (.motClear r i) s = .next s)
      ∧ (s.ready 3 7 r i d = true → exec (.setpos r i) s = .next s))
    ∧ (s.mst t = 9 →
      (s.ready 3 1 r i d = true → exec (.motDrive r i) s = .next (s.finish d stFenced 0))
      ∧ (s.ready 3 3 r i d = true → exec (.motStop r i) s = .next (s.finish d stFenced 0))
      ∧ (s.ready 3 6 r i d = true → exec (.motClear r i) s = .next (s.finish d stFenced 0)))
    ∧ (s.mst t = 8 →
      (s.ready 3 2 r i d = true → exec (.motGoto r i) s = .next (s.finish d 0o30 0))
      ∧ (s.ready 3 4 r i d = true → exec (.motRun r i) s = .next (s.finish d 0o30 0))
      ∧ (s.ready 3 7 r i d = true → exec (.setpos r i) s = .next (s.finish d 0o30 0)))
    ∧ (s.ready 3 1 r i d = true → s.mst t < 8 → s.mst t ≠ 5 →
      let e := opened.entryScrub (motOut t) 0
      (s.motRefuse d dir = some x → exec (.motDrive r i) s = .next (s.finish d x.1 x.2))
      ∧ (s.motRefuse d dir = none → e.entryValid (motOut t) 0 = true →
          exec (.motDrive r i) s = .next ((e.modMt t (fun m => { m with dirP := dir })).launch (motOut t) 0 d.w2.toNat d.w3.toNat d.w4.toNat))
      ∧ (s.motRefuse d dir = none → e.entryValid (motOut t) 0 = false → d.w2 ≠ 0 →
          exec (.motDrive r i) s = .next ((e.motStart t dir d.w2.toNat).modMt t (fun m => { m with goTo := none })))
      ∧ (s.motRefuse d dir = none → e.entryValid (motOut t) 0 = false → d.w2 = 0 → e.mst t = 0 →
          exec (.motDrive r i) s = .next (e.motDone t false)))
    ∧ (s.ready 3 2 r i d = true → s.mst t < 8 → s.mst t ≠ 5 → s.motRefuse d dirTo = none →
      let e := going.entryScrub (motOut t) 0
      (s.on (MOT_GSTAT_POSV (t - 24)) = false → exec (.motGoto r i) s = .next (s.finish d 0o27 0))
      ∧ (s.on (MOT_GSTAT_POSV (t - 24)) = true → p = q →
          let u := (((s.motSupersede t).finishDone d 0).stopThread (motOut t)).modMt t (fun m => { m with waiting := none, goTo := none })
          (s.mst t = 3 → exec (.motGoto r i) s = .next ((u.motBrake t).motUndo t))
          ∧ (s.mst t ≠ 3 → exec (.motGoto r i) s = .next (u.motUndo t)))
      ∧ (s.on (MOT_GSTAT_POSV (t - 24)) = true → p ≠ q →
        (e.entryValid (motOut t) 0 = true →
          exec (.motGoto r i) s = .next ((e.modMt t (fun m => { m with dirP := dirTo })).launch (motOut t) 0 d.w2.toNat d.w3.toNat d.w4.toNat))
        ∧ (e.entryValid (motOut t) 0 = false → d.w2 ≠ 0 →
          exec (.motGoto r i) s = .next ((e.motStart t dirTo d.w2.toNat).modMt t (fun m => { m with goTo := some d.w3.toNat })))))
    ∧ (s.ready 3 3 r i d = true →
      (s.mst t ∈ [0, 8] → exec (.motStop r i) s = .next (calm.finishDone d 0))
      ∧ (s.mst t ∈ [1, 2, 3, 4, 6, 7] →
          exec (.motStop r i) s = .next (((calm.startDesc d).modMt t (fun m => { m with waiting := none })).motStop t (bitAt d.flags 0))))
    ∧ (s.ready 3 4 r i d = true → s.mst t < 8 → s.mst t ≠ 5 → s.motRefuse d 0 = none →
      let e := s.entryScrub (motOut t) (d.flags % 8)
      (e.entryValid (motOut t) (d.flags % 8) = true →
        exec (.motRun r i) s = .next ((e.motOpenNew t d).launch (motOut t) (d.flags % 8) d.w2.toNat d.w3.toNat d.w4.toNat))
      ∧ (e.entryValid (motOut t) (d.flags % 8) = false → exec (.motRun r i) s = .next (e.finish d 0o31 0)))
    ∧ (s.ready 3 5 r i d = true →
      (s.mst t = 0 → exec (.motDiag r i) s = .next (s.startDesc d))
      ∧ (s.mst t = 8 → exec (.motDiag r i) s = .next (s.finish d 0o30 0))
      ∧ (s.mst t ∈ [1, 2, 3, 4, 6, 7] → exec (.motDiag r i) s = .next (s.finish d stBadTarget 1)))
    ∧ (s.ready 3 6 r i d = true →
      (s.mst t = 8 → s.motLat t = 0 → exec (.motClear r i) s = .next (((s.setFld (motCause t) 0).motIdle t).finishDone d 0))
      ∧ (s.mst t = 8 → s.motLat t ≠ 0 → exec (.motClear r i) s = .next ((s.setFld (motCause t) 0).finish d 0o32 (s.motLat t)))
      ∧ (s.mst t ∈ [0, 1, 2, 3, 4, 6, 7] → s.motLat t = 0 → exec (.motClear r i) s = .next (s.finishDone d 0))
      ∧ (s.mst t ∈ [0, 1, 2, 3, 4, 6, 7] → s.motLat t ≠ 0 → exec (.motClear r i) s = .next (s.finish d 0o32 (s.motLat t))))
    ∧ (s.ready 3 7 r i d = true → s.mst t ∈ [0, 1, 2, 3, 4, 6, 7] →
        exec (.setpos r i) s = .next ((((((s.setFld (MOT_POS_POS (t - 24)) d.w2.toNat).raise (MOT_GSTAT_POSV (t - 24))).showZone (t - 24)).modMt t
          (fun m => { m with inserted := 0 })).motReached t).finishDone d 0))

/-- R190 to R206: the events of half-bridges and gate drivers. -/
def Obligations.MotorEvents : Prop :=
  ∀ (s : State) (t : Fin 28) (side : Fin 4) (g : Fin 4) (v : Fin 131072) (mean : Word) (dt : Nat) (a b e : Bool) (d : Desc) (w : Nat × Nat),
    s.domOn .act = true →
    let m := s.motOf t
    let k := 24 + g.val
    let evt := s.motEvt m 5 7
    (s.motWith t 5 = some d →
      (a = true → exec (.motDiagDone t a b e) s = .next ((s.setFld (motDiagF t) 3).finishDone d 3))
      ∧ (a = false → b = true → exec (.motDiagDone t a b e) s = .next ((s.setFld (motDiagF t) 2).finishDone d 2))
      ∧ (a = false → b = false → e = true → exec (.motDiagDone t a b e) s = .next ((s.setFld (motDiagF t) 1).finishDone d 1))
      ∧ (a = false → b = false → e = false → exec (.motDiagDone t a b e) s = .next ((s.setFld (motDiagF t) 0).finishDone d 0)))
    ∧ (s.mst t = 2 → t.val < 16 → (s.mt t).waiting = some w → s.motWith t 3 = none →
        let u := s.setFld (MOT_HSTAT_BOOT t) (b2n a)
        (u.mt t).waiting = some w → u.motWith t 3 = none →
        (a = true → (u.motOpen t).isSome = true → exec (.prechEnd t a) s = .next (u.motGo t w.1 w.2))
        ∧ (a = false → exec (.prechEnd t a) s =
            .next (((((u.motFinish t 0o33 0).motIdle t).raise MOT_FLAG_BOOTF).motEvt t 1 1).record 7 8 t)))
    ∧ (s.mst m ∈ [3, 5] → let u := ((s.motEvt m 0 0).modMt m (fun y => { y with limSeen := true })).protEvent (motOut m)
        (m < 24 → exec (.motCurrentLimit t) s = .next (u.seqEvent (motOut m) 3))
        ∧ (24 ≤ m → exec (.motCurrentLimit t) s = .next u))
    ∧ (s.mst m ≠ 9 → exec (.motShort t side) s = .next (((s.motEvt m 7 9).motLatch m 1 0o20 side).record 7 1 m))
    ∧ (s.mst m = 9 → exec (.motShort t side) s = .next s)
    ∧ (s.mst m = 3 → m < 24 →
        exec (.motOverload t) s = .next ((((s.motEvt m 6 0).motFinish m 0o21 0).motBrake m).record 7 3 m))
    ∧ (s.mst m = 3 → m < 24 → s.fld (MOT_HCFG2_TSTALL (halfOf m)) ≠ 0 →
        (evt.motOpen m = none → exec (.motStall t) s = .next ((evt.motBrake m).record 7 4 m))
        ∧ (evt.motOpen m = some d → d.opcode ≠ 4 → bitAt d.flags 0 = true → exec (.motStall t) s = .next ((evt.motDone m true).motBrake m))
        ∧ (evt.motOpen m = some d → bitAt d.flags 0 = false →
            exec (.motStall t) s = .next (((evt.motFinish m 0o23 0).motBrake m).record 7 4 m)))
    ∧ (t.val = k → s.mst k = 5 → (s.mt k).reversing = true → s.fld (MOT_RCFG_TSTALL g) ≠ 0 → exec (.motStall t) s = .next (s.motRevEnd g))
    ∧ (s.mst m = 3 → 24 ≤ m ∨ 0o200000 ≤ s.stageD (motOut m) →
        exec (.motOpen t) s = .next ((((s.motEvt m 4 6).motFinish m 0o24 0).motIdle m).record 7 5 m))
    ∧ (s.mst k ≠ 9 → exec (.gateFault g) s = .next (((s.motEvt k 8 8).motLatch k 2 0o34 0).record 7 2 k))
    ∧ exec (.chargePumpLow v) s = .next (((((s.setFld MOT_CPSTAT_CPOK 0).setFld MOT_CPSTAT_VCP v).raise MOT_FLAG_CPUV).each (List.range 4)
        (fun g u => (u.setFld (MOT_GSTAT_CPOK g) 0).motSupply (24 + g))).record 7 7 0)
    ∧ exec (.chargePumpRelease v) s = .next (((s.setFld MOT_CPSTAT_CPOK 1).setFld MOT_CPSTAT_VCP v).each (List.range 4)
        (fun g u => (u.raise (MOT_GSTAT_CPOK g)).motRelease (24 + g)))
    ∧ (s.motOpen t = some d → d.opcode = 1 → bitsOf d.w3.toNat 15 0 ≠ 0 →
        (s.mst t = 3 → exec (.driveDurationEnd t) s = .next ((s.motDone t false).motBrake t))
        ∧ (s.mst t = 6 → exec (.driveDurationEnd t) s = .next ((s.motDone t false).modMt t (fun m => { m with past := true }))))
    ∧ (s.mst t = 4 → (s.mt t).waiting = some w → exec (.brakeEnd t) s = .next (s.motGo t w.1 w.2))
    ∧ (s.mst t = 4 → (s.mt t).waiting = none → exec (.brakeEnd t) s = .next (s.motIdle t))
    ∧ exec (.motSupplyEnter t a) s = .next (((s.raise (motSup m)).modMt m (fun y => { y with high := a })).motSupply m)
    ∧ exec (.motSupplyRelease t) s = .next ((s.setFld (motSup m) 0).motRelease m)
    ∧ (s.mst k = 5 → (s.mt k).reversing = false → let o := 3 - s.closeDir g
        exec (.pinchReverseStart g) s = .next (((s.setMdir k o).setOval (motOut k) 0o777777).modMt k
          (fun m => { m with reversing := true, lastDir := o, revCount := 0, counting := s.on (MOT_RCFG_RIPEN g) })))
    ∧ ((s.mt k).reversing = true → (s.mt k).revPos = false ∨ (s.mt k).revN ≤ (s.mt k).revCount → s.mst k = 5 →
        exec (.reversalEnd g) s = .next ((((s.motEvt k 2 2).raise (MOT_GSTAT_PLK g)).motBrake k).modMt k (fun m => { m with reversing := false })))
    ∧ (s.motCounts g = true → 2 * dt < s.fld (MOT_RPER_PER g) → exec (.rippleCandidate g dt) s = .next (s.count (MOT_RINS_DBL g)))
    ∧ (s.motCounts g = true → s.fld (MOT_RPER_PER g) ≤ 2 * dt →
        exec (.rippleCandidate g dt) s = .next (((((s.setFld (MOT_RPER_PER g) (satTo 0o777777 dt)).ripplePos g).modMt k (fun m =>
          { m with inserted := 0, revCount := if m.reversing then m.revCount + 1 else m.revCount })).seqEvent (motOut k) 3).motReached k))
    ∧ (s.motCounts g = false → exec (.rippleCandidate g dt) s = .next s ∧ exec (.rippleInsert g) s = .next s)
    ∧ (s.motCounts g = true →
        let u := ((s.count (MOT_RINS_INS g)).ripplePos g).modMt k (fun m => { m with inserted := m.inserted + 1 })
        ((u.mt k).inserted ≠ 5 → exec (.rippleInsert g) s = .next (u.motReached k))
        ∧ ((u.mt k).inserted = 5 → exec (.rippleInsert g) s =
            .next ((((((u.setFld (MOT_GSTAT_POSV g) 0).motEvt k 1 1).showZone g).modMt k (fun m => { m with revPos := false })).record 7 9 k).motReached k)))
    ∧ (let l := s.pinchLimits g
       let cur := decide (l.1 < mean.toNat)
       let rip := decide (l.2 ≠ 0 ∧ 1000000 < dt * l.2)
       (s.on (MOT_PINCH_PEN g) = true → s.mst k = 3 → s.mdir k = s.closeDir g → s.zoned g = true → cur = true ∨ rip = true →
        exec (.pinchViolation g mean dt) s = .next ((((((s.motFinish k 0o25 ((s.zoneAt g).getD 0 + b2n cur * 8 + b2n rip * 16 +
            b2n (!s.on (MOT_GSTAT_POSV g)) * 32)).setMst k 5).setMdir k 3).setOval (motOut k) 0).motEvt k 3 3).modMt k (fun m =>
            { m with reversing := false, revCount := 0, revN := s.fld (MOT_PINCH_REVR g), revPos := s.on (MOT_GSTAT_POSV g), goTo := none,
                     dNext := none, waiting := none }) |>.record 7 6 k))
       ∧ (cur = false → rip = false → exec (.pinchViolation g mean dt) s = .next s))
    ∧ exec (.plockEnd g) s = .next (s.setFld (MOT_GSTAT_PLK g) 0)
    ∧ (s.mst t = 1 → s.on (motSup t) = false → b = false →
        (t.val < 16 → exec (.bootstrapHoldPulse ⟨t, b⟩) s = .next (s.raise (MOT_HSTAT_BOOT t)))
        ∧ (16 ≤ t.val → t.val < 24 →
            exec (.bootstrapHoldPulse ⟨t, b⟩) s = .next ((s.raise (MOT_HSTAT_BOOT (halfOf t))).raise (MOT_HSTAT_BOOT (halfOf t + 1)))))
    ∧ (b = true → exec (.bootstrapHoldPulse ⟨t, b⟩) s = .next s)
    ∧ exec (.gateDriverHot g) s = .next (((s.raise (THM_TSTAT_TJLAT (124 + g))).motThermSet k).record 7 10 k)
    ∧ exec (.gateDriverCool g) s = .next ((s.setFld (THM_TSTAT_TJLAT (124 + g)) 0).motThermRelease k)


/-! ### Valves -/

/-- R224, R226, R237 to R242: the descriptors of a valve and of a bank, at their apply time, where no ready answer is kept. -/
def Obligations.ValveDescriptors : Prop :=
  ∀ (s : State) (r : Fin 64) (i : Fin 1024) (d : Desc) (x : Nat × Nat), s.domOn .act = true →
    let n := d.target
    let m := n - 16
    let k := d.flags % 8
    let e := s.entryScrub (vlvOut n) 0
    let ek := s.entryScrub (vlvOut n) k
    let opened := e.vlvOpenNew n d
    let request (f : VlvT → VlvT) := (opened.modVv n f).vlvRequest n
    (n < 16 → s.ready 4 1 r i d = true →
      (s.vst n = 9 → exec (.vlvEnergise r i) s = .next (s.finish d stFenced 0))
      ∧ (s.vst n = 8 → exec (.vlvEnergise r i) s = .next (s.finish d 0o27 0))
      ∧ (s.vst n < 8 → s.vlvBar n = some x → exec (.vlvEnergise r i) s = .next (s.finish d x.1 x.2))
      ∧ (s.vst n < 8 → s.vlvBar n = none →
        (e.entryValid (vlvOut n) 0 = true → exec (.vlvEnergise r i) s = .next (e.vlvLaunch n 0 d))
        ∧ (e.entryValid (vlvOut n) 0 = false → d.w2 = 0 → exec (.vlvEnergise r i) s = .next (e.vlvRelease n d (e.quenchOf n)))
        ∧ (e.entryValid (vlvOut n) 0 = false → d.w2 ≠ 0 → s.vst n ≠ 3 → s.vst n ≠ 4 →
            exec (.vlvEnergise r i) s = .next (request (fun v => { v with
              hold := d.w2.toNat, since := e.ztNs, tdef := bitsOf d.w4.toNat 17 9, must := bitAt d.flags 0,
              peak := !e.on (VLV_VCFG_MODE n) && !bitAt d.flags 1 })))
        ∧ (e.entryValid (vlvOut n) 0 = false → d.w2 ≠ 0 → s.vst n = 3 →
            exec (.vlvEnergise r i) s = .next (opened.modVv n (fun v => { v with hold := d.w2.toNat, begun := true })))
        ∧ (e.entryValid (vlvOut n) 0 = false → d.w2 ≠ 0 → s.vst n = 4 →
            exec (.vlvEnergise r i) s = .next (request (fun v => { v with
              setiWait := true, own := true, setiTo := d.w2.toNat, setiMs := 0, since := e.ztNs, tdef := bitsOf d.w4.toNat 17 9,
              must := bitAt d.flags 0, peak := !e.on (VLV_VCFG_MODE n) && !bitAt d.flags 1 })))))
    ∧ (n < 16 → s.ready 4 2 r i d = true →
      (s.vst n = 9 → exec (.vlvRelease r i) s = .next (s.finish d stFenced 0))
      ∧ (s.vst n < 9 → let calm := (s.vlvSupersede n).stopThread (vlvOut n)
        (calm.vst n = 0 → exec (.vlvRelease r i) s = .next (calm.finishDone d 0))
        ∧ (calm.vst n ≠ 0 → exec (.vlvRelease r i) s = .next (((calm.startDesc d).modVv n (fun v => { v with
            ends := false, late := none, tpk := 0, threaded := false })).vlvDecay n (bitAt d.flags 0 || s.quenchOf n)))))
    ∧ (n < 16 → s.ready 4 3 r i d = true →
      (s.vst n ∈ [0, 1, 2, 3, 5, 6, 7] → exec (.seti r i) s = .next (s.finish d stBadTarget 1))
      ∧ (s.vst n = 4 → s.vlvWith n 3 = none → exec (.seti r i) s = .next (((s.startDesc d).modVv n (fun v => { v with
            setiWait := true, own := false, ramping := false, setiTo := d.w2.toNat, setiMs := bitsOf d.w3.toNat 11 0, since := s.ztNs,
            tdef := bitsOf d.w4.toNat 17 9, must := bitAt d.flags 0 })).vlvRequest n)))
    ∧ (n < 16 → s.ready 4 4 r i d = true → s.vst n < 8 →
      (s.vlvBar n = some x → exec (.vlvRun r i) s = .next (s.finish d x.1 x.2))
      ∧ (s.vlvBar n = none →
        (ek.entryValid (vlvOut n) k = true → exec (.vlvRun r i) s = .next (ek.vlvLaunch n k d))
        ∧ (ek.entryValid (vlvOut n) k = false → exec (.vlvRun r i) s = .next (ek.finish d 0o30 0))))
    ∧ (n < 16 → s.ready 4 5 r i d = true →
      (s.vst n = 0 → s.bankBarred (n / 4) = false → exec (.vlvDiag r i) s = .next ((s.startDesc d).bankClose (n / 4)))
      ∧ (s.vst n = 0 → s.bankBarred (n / 4) = true → exec (.vlvDiag r i) s = .next (s.finish d stBadTarget 1))
      ∧ (s.vst n ∈ [1, 2, 3, 4, 5, 6, 7] → exec (.vlvDiag r i) s = .next (s.finish d stBadTarget 1)))
    ∧ (n < 16 → s.ready 4 6 r i d = true →
      (s.vst n = 8 → s.vlvLat n = 0 → exec (.vlvClear r i) s = .next (((s.setFld (VLV_VSTAT_LCAUSE n) 0).vlvToOff n).finishDone d 0))
      ∧ (s.vst n < 8 → s.vlvLat n = 0 → exec (.vlvClear r i) s = .next (s.finishDone d 0))
      ∧ (s.vst n < 9 → s.vlvLat n ≠ 0 → exec (.vlvClear r i) s = .next (s.finish d 0o31 (s.vlvLat n))))
    ∧ (16 ≤ n → s.ready 4 6 r i d = true →
      (s.bst m = 5 → exec (.vlvClear r i) s = .next (s.finish d stFenced 0))
      ∧ (s.bst m ≠ 5 → bitAt d.flags 0 = false → let rest := s.bankLat m + 4 * b2n (s.wireTrip (vhOut m))
        (s.bst m = 4 → rest = 0 → exec (.vlvClear r i) s = .next ((s.bankToIdle m).finishDone d 0))
        ∧ (s.bst m ≠ 4 → rest = 0 → exec (.vlvClear r i) s = .next (s.finishDone d 0))
        ∧ (rest ≠ 0 → exec (.vlvClear r i) s = .next (s.finish d 0o31 rest))))

/-- R220 to R233, R239: the events of valves and banks. -/
def Obligations.ValveEvents : Prop :=
  ∀ (s : State) (n : Fin 16) (m : Fin 4) (a b : Bool) (us : Nat) (d : Desc), s.domOn .act = true →
    let q := n.val / 4
    let low := s.setFld (VLV_BSTAT_UV m) 0
    (s.vlvWith n 5 = some d →
      (a = true → b = true → exec (.vlvDiagDone n a b) s = .next (((s.setFld (VLV_VSTAT_DIAG n) 2).finishDone d 2).bankRest q))
      ∧ (a = true → b = false → exec (.vlvDiagDone n a b) s = .next (((s.setFld (VLV_VSTAT_DIAG n) 1).finishDone d 1).bankRest q))
      ∧ (a = false → exec (.vlvDiagDone n a b) s = .next (((s.setFld (VLV_VSTAT_DIAG n) 0).finishDone d 0).bankRest q)))
    ∧ (s.bst m = 1 → (s.vb m).ready = false → exec (.bankNodeReady m) s =
        .next ((s.setVb m { (s.vb m) with ready := true }).each (bankValves m) (fun n u =>
          if u.vst n = 3 then u.vlvShow n (u.fld (VLV_VPK_IPK n)) else if u.vst n = 4 then u.vlvShow n (u.vv n).hold else u)))
    ∧ (s.bst m = 1 → s.bankQuiet m = true → exec (.vhOpenDelayEnd m) s = .next (s.setBst m 0))
    ∧ (s.bankQuiet m = false → exec (.vhOpenDelayEnd m) s = .next s)
    ∧ (s.vst n = 3 → (s.vv n).ran = false → (s.vb q).ready = true →
        let u := s.setFld (VLV_VTPK_TPK n) (satTo 0o777777 us)
        let v := u.modVv n (fun v => { v with ran := true, tpk := satTo 511 (us / 100) })
        (s.fld (VLV_VTIM_TPKMIN n) ≠ 0 → (u.vv n).hot = false → us < 100 * s.fld (VLV_VTIM_TPKMIN n) →
          exec (.ipkReached n us) s = .next (((u.vEvt n 7).vlvLatch n 2 0o21 (satTo 4095 (us / 10))).record 8 2 n))
        ∧ (100 * s.fld (VLV_VTIM_TPKMIN n) ≤ us → v.on (VLV_VTIM_PKH n) = true → exec (.ipkReached n us) s = .next v)
        ∧ (100 * s.fld (VLV_VTIM_TPKMIN n) ≤ us → v.on (VLV_VTIM_PKH n) = false →
          exec (.ipkReached n us) s = .next ((v.vlvHold n).vlvTake q)))
    ∧ (s.vst n = 3 → (s.vv n).ran = true → exec (.peakHoldEnd n) s = .next ((s.vlvHold n).vlvTake q))
    ∧ (s.vst n = 3 → (s.vv n).ran = false →
        (a = true →
          exec (.tpkmaxExpiry n a b) s = .next (((((s.vEvt n 6).vEvt n 5).vlvCut n 0o22 1).vlvDecay n (s.quenchOf n)).record 8 3 n))
        ∧ (a = false → exec (.tpkmaxExpiry n a b) s = .next (let u := (s.vEvt n 6).vlvCut n 0o22 (2 * b2n b)
            (u.vlvDecay n ((s.vEvt n 6).quenchOf n)).record 8 3 n)))
    ∧ (s.vst n = 5 → exec (.decayEnd n) s = .next (s.vlvToOff n))
    ∧ (s.vst n ≠ 5 → exec (.decayEnd n) s = .next s)
    ∧ exec (.peakSlotFree n) s = .next ((s.vlvUnslot n).vlvTake q)
    ∧ (s.vlvWaits n = true → (s.vv n).noLimit = false →
        (s.vlvFits n = true → exec (.waitDeadline n) s = .next (s.vlvBegin n true))
        ∧ (s.vlvFits n = false → (s.vv n).must = false → exec (.waitDeadline n) s = .next (s.vlvRefuse n))
        ∧ (s.vlvFits n = false → (s.vv n).must = true → s.demandWith n ≤ s.blim q → exec (.waitDeadline n) s = .next (s.vlvBegin n true)))
    ∧ (s.vlvWaits n = false → exec (.waitDeadline n) s = .next s)
    ∧ (s.on (VLV_VDUTY_WIN n) = true → s.fld (VLV_VDUTY_MAXF n) ≠ 64 → s.vst n ∈ [1, 3, 4] →
        let rest := s.dutyPart n (s.fld (VLV_VDUTY_MAXF n)) - s.dutySum n
        let u := ((((s.modVv n (fun v => { v with duty := (v.duty.headD 0 + rest) :: v.duty.tail })).showDuty n).raise (VLV_VSTAT_DFULL n)).raise
          VLV_FLAG_DUTY).vEvt n 3
        exec (.dutyLimit n) s = .next (((u.vlvCut n 0o23 0).vlvDecay n (u.quenchOf n)).record 8 6 n))
    ∧ (s.fld (VLV_VDUTY_MAXF n) = 64 → exec (.dutyLimit n) s = .next s)
    ∧ (s.on (VLV_VSTAT_DFULL n) = true → exec (.dfullClear n) s =
        .next (((s.modVv n (fun v => { v with duty := dutyCut (s.dutyPart n (s.fld (VLV_VDUTY_MAXF n) - 1)) v.duty })).setFld
          (VLV_VSTAT_DFULL n) 0).showDuty n))
    ∧ (s.vlvOpen n = some d → d.opcode = 1 → bitsOf d.w3.toNat 15 0 ≠ 0 → (s.vv n).threaded = false →
        ((s.vv n).begun = true → exec (.valveDurationEnd n) s = .next (((s.vlvDone n).vlvDecay n
            ((s.vlvDone n).quenchOf n)).modVv n (fun v => { v with past := true })))
        ∧ ((s.vv n).begun = false → exec (.valveDurationEnd n) s = .next s))
    ∧ (s.vst n = 4 → (s.vv n).ramping = true →
        let u := (s.modVv n (fun v => { v with ramping := false, hold := v.setiTo })).vlvShow n (s.vv n).setiTo
        (u.vlvWith n 3 = none → exec (.setiRampEnd n) s = .next (u.vlvTake q))
        ∧ (u.vlvWith n 3 = some d → exec (.setiRampEnd n) s = .next ((u.vlvEnd d (s.vv n).setiLate 0).vlvTake q)))
    ∧ (s.vst n = 4 → s.on (VLV_VCFG_MODE n) = true → exec (.valveOpen n) s = .next (let u := (s.vEvt n 5).vlvCut n 0o32 0
        (((u.vlvDown n 0 ((s.vEvt n 5).quenchOf n)).vlvToOff n).vlvTake q).record 8 3 n))
    ∧ (s.vst n ≠ 9 → exec (.vlShort n) s = .next (((s.vEvt n 8).vlvLatch n 1 0o24 0).record 8 1 n))
    ∧ (s.bst m ≠ 5 → exec (.vhShort m) s = .next (((s.bEvt m 6).bankLatch m 1).record 8 4 (16 + m)))
    ∧ (s.bst m < 4 → exec (.bankOverload m) s = .next (((s.bEvt m 5).bankLatch m 2).record 8 5 (16 + m)))
    ∧ (let u := (s.raise (VLV_BSTAT_UV m)).bEvt m 4
       (1 < u.bst m → exec (.bankUvoff m) s = .next u)
       ∧ (u.bst m ≤ 1 → exec (.bankUvoff m) s = .next (((u.each (bankValves m) (fun n u =>
            if u.vst n = 1 then u.setFld (VLV_VSTAT_PREMAG n) 0
            else if 2 ≤ u.vst n ∧ u.vst n ≤ 5 then
              (((u.setiDrop n).protEvent (vlvOut n)).vlvDown n 6 true).modVv n (fun v => { v with wait := decide (u.vst n ≠ 5) })
            else u)).setBst m 2).setSlots m [])))
    ∧ (low.bst m ≠ 2 → exec (.bankUvRelease m) s = .next low)
    ∧ (low.bst m = 2 → exec (.bankUvRelease m) s = .next (((low.setBst m 0).each (bankValves m) (fun n u =>
          if u.vst n = 6 then
            if (u.vv n).wait && !(u.vv n).past && (u.vlvOpen n).isSome then
              ((u.modVv n (fun v => { v with noLimit := true })).setVst n 2).bankClose m
            else u.vlvToOff n
          else if u.vst n = 1 then (u.setFld (VLV_VSTAT_PREMAG n) (b2n (u.vv n).premag)).bankClose m
          else u)).vlvTake m))


/-! ### Lighting -/

/-- R257 to R259, R262, R273, R276, R277: the descriptors of sinks, colour loops and pixel chains, at their apply time, where no ready answer is kept.
-/
def Obligations.LightingDescriptors : Prop :=
  ∀ (s : State) (r : Fin 64) (i : Fin 1024) (d : Desc), s.domOn .act = true →
    let n := d.target
    let k := n - 24
    let c := n - 32
    let j := d.flags % 8
    let e := s.entryScrub (luxOut n) 0
    let ej := s.entryScrub (luxOut n) j
    let opened := e.luxOpenNew n d
    let t := bitsOf d.w2.toNat 4 0
    let aimed := (((s.luxSupersede (24 + k)).startDesc d).setFld (LUX_CSTAT_ENT k) t).setFld (LUX_CSTAT_SETL k) 0
    let queued := ((s.provEnd 5 (32 + c) stSuperseded 0 (some SEQ_PCNT1_PSUP)).startDesc d).modPch c (fun x =>
      { x with comp := smErase x.comp d.key, queue := x.queue ++ lGet (s.pch c).comp d.key })
    (n < 24 → s.ready 5 1 r i d = true →
      (s.lst n = 5 → exec (.luxSet r i) s = .next (s.finish d stFenced 0))
      ∧ (s.lst n < 5 → (s.loopOf n).isSome = true → exec (.luxSet r i) s = .next (s.finish d 0o27 0))
      ∧ (s.lst n = 4 → s.loopOf n = none → exec (.luxSet r i) s = .next (e.finish d 0o23 0))
      ∧ (s.lst n < 4 → s.loopOf n = none → e.entryValid (luxOut n) 0 = true → exec (.luxSet r i) s = .next (e.luxLaunch n 0 d))
      ∧ (s.lst n < 4 → s.loopOf n = none → e.entryValid (luxOut n) 0 = false → bitsOf d.w3.toNat 12 0 ≠ 0 → d.wasTimed = false →
          let u := opened.modLx n (fun x => { x with
            rampFrom := opened.oval (luxOut n), rampTo := d.w2.toNat, rampN := bitsOf d.w3.toNat 12 0, rampLeft := bitsOf d.w3.toNat 12 0,
            want := true })
          (s.lst n ≠ 1 → exec (.luxSet r i) s = .next u)
          ∧ (s.lst n = 1 → exec (.luxSet r i) s = .next (u.setLst n (if u.luxLat n = 0 then 2 else 3))))
      ∧ (let v := (opened.modLx n (fun x => { x with want := true })).luxApply n d.w2.toNat d.wasTimed
         s.lst n < 4 → s.loopOf n = none → e.entryValid (luxOut n) 0 = false → bitsOf d.w3.toNat 12 0 = 0 →
          (v.lst n ≠ 3 → exec (.luxSet r i) s = .next (v.luxTryDone n))
          ∧ (v.lst n = 3 → let w := v.modLx n (fun x => { x with want := false })
              exec (.luxSet r i) s = .next (w.luxCut n 0o22 (v.luxLat n)))))
    ∧ (n < 24 → s.ready 5 2 r i d = true → s.lst n < 5 → s.loopOf n = none →
        let u := (((s.luxSupersede n).stopThread (luxOut n)).modLx n (fun x => { x with rampLeft := 0, want := false })).luxApply n 0 true
        (s.lst n ≠ 3 → exec (.luxOff r i) s = .next (u.finishDone d 0))
        ∧ (s.lst n = 3 → exec (.luxOff r i) s = .next ((u.setLst n 0).finishDone d 0)))
    ∧ (n < 24 → s.ready 5 3 r i d = true → s.lst n < 4 → s.loopOf n = none →
      (ej.entryValid (luxOut n) j = true → exec (.luxRun r i) s = .next (ej.luxLaunch n j d))
      ∧ (ej.entryValid (luxOut n) j = false → exec (.luxRun r i) s = .next (ej.finish d 0o25 0)))
    ∧ (n < 24 → s.ready 5 4 r i d = true →
      (s.lst n ∈ [0, 1, 3, 4] → exec (.luxDiag r i) s = .next (s.finish d stBadTarget 1))
      ∧ (s.lst n = 2 → s.fld (LUX_LSTAT_OL n) = 1 → exec (.luxDiag r i) s = .next (s.finishDone d 1))
      ∧ (s.lst n = 2 → s.fld (LUX_LSTAT_OL n) = 2 → exec (.luxDiag r i) s = .next (s.finish d 0o20 0))
      ∧ (s.lst n = 2 → s.fld (LUX_LSTAT_OL n) = 0 → exec (.luxDiag r i) s = .next ((s.startDesc d).modLx n (fun x => { x with diagN := 0 }))))
    ∧ (n < 24 → s.ready 5 5 r i d = true →
      (s.luxLat n ≠ 0 → s.lst n < 5 → exec (.luxClear r i) s = .next (s.finish d 0o26 (s.luxLat n)))
      ∧ (s.luxLat n = 0 → s.lst n = 4 → exec (.luxClear r i) s = .next (((s.setFld (LUX_LSTAT_LCAUSE n) 0).luxDown n 0).finishDone d 0))
      ∧ (s.luxLat n = 0 → s.lst n < 4 → exec (.luxClear r i) s = .next (s.finishDone d 0)))
    ∧ (24 ≤ n → n < 32 → s.ready 5 2 r i d = true → s.isFenced 9 (24 + k) = false →
        exec (.luxOff r i) s = .next (((s.luxSupersede (24 + k)).loopOff k).finishDone d 0))
    ∧ (24 ≤ n → n < 32 → s.ready 5 6 r i d = true → s.isFenced 9 (24 + k) = true → exec (.colour r i) s = .next (s.finish d stFenced 0))
    ∧ (24 ≤ n → n < 32 → s.ready 5 6 r i d = true → s.isFenced 9 (24 + k) = false →
      (s.fld (LUX_CTT0_T t) = 0 → s.fld (LUX_CTT1_T t) = 0 → s.fld (LUX_CTT2_T t) = 0 →
        exec (.colour r i) s = .next ((aimed.loopOff k).finishDone d 0))
      ∧ (s.fld (LUX_CTT0_T t) ≠ 0 → aimed.cst k ≠ 0 → bitsOf d.w4.toNat 17 9 = 0 →
        let m := bitsOf d.w3.toNat 12 0
        exec (.colour r i) s = .next ((aimed.modCl k (fun x => { x with
            f0 := x.t0, f1 := x.t1, f2 := x.t2, e0 := s.fld (LUX_CTT0_T t), e1 := s.fld (LUX_CTT1_T t), e2 := s.fld (LUX_CTT2_T t), rampN := m,
            rampLeft := m, good := 0, periods := 0, limit := 0, t0 := if m = 0 then s.fld (LUX_CTT0_T t) else x.t0,
            t1 := if m = 0 then s.fld (LUX_CTT1_T t) else x.t1, t2 := if m = 0 then s.fld (LUX_CTT2_T t) else x.t2 })).finishDone d 0)))
    ∧ (32 ≤ n → s.isFenced 9 (32 + c) = false → lGet (s.pch c).comp d.key ≠ [] →
      (s.ready 5 7 r i d = true → exec (.pxwrite r i) s = .next (queued.pxNext c))
      ∧ (s.ready 5 8 r i d = true → exec (.pxlatch r i) s = .next (queued.pxNext c))
      ∧ (s.ready 5 9 r i d = true → exec (.pxenum r i) s = .next (queued.pxNext c))
      ∧ (s.ready 5 10 r i d = true → exec (.pxread r i) s = .next (queued.pxNext c))
      ∧ (s.ready 5 11 r i d = true → exec (.pxreg r i) s = .next (queued.pxNext c)))
    ∧ (32 ≤ n → s.isFenced 9 (32 + c) = true → s.ready 5 7 r i d = true →
        exec (.pxwrite r i) s = .next ((s.pxDrop c d.key).finish d stFenced 0))

/-- R250 to R274: the events of sinks, colour loops and pixel chains. -/
def Obligations.LightingEvents : Prop :=
  ∀ (s : State) (n : Fin 24) (k : Fin 8) (c : Fin 2) (r : Fin 64) (i : Fin 1024) (amp v : Nat) (outs : List Bool) (weak : Bool)
    (why : Fin 4) (p0 p1 p2 : BitVec 16) (f : PxFrame) (d : Desc) (frame : List Byte) (w : Nat × Nat × Nat × List Byte), s.domOn .act = true →
    let q := s.pch c
    let de := (s.lx n).de
    (s.lst n = 2 → s.on (LUX_LCFG_STBEN n) = true →
        exec (.sinkShortToBattery n) s = .next (((((((s.protEvent (luxOut n)).luxDown n 4).setFld (LUX_LSTAT_LCAUSE n) 1).lEvt n 4).lEvt n 5).luxCut
          n 0o21 0).loopLost n 0o21 |>.record 9 1 n))
    ∧ (s.lst n ≠ 2 → exec (.sinkShortToBattery n) s = .next s)
    ∧ exec .deratingUpdate s = .next ((s.each (List.range 24) (fun m u =>
        let x := match u.loopOf m with
          | some (k, _) => Nat.min (u.derateOf (u.loopSink k 0)) (Nat.min (u.derateOf (u.loopSink k 1)) (u.derateOf (u.loopSink k 2)))
          | none => u.derateOf m
        ((((u.when (decide (x < 12800) && !u.on (LUX_LSTAT_DER m)) (fun u => (u.lEvt m 0).raise LUX_FLAG_DERATE)).modLx m
          (fun y => { y with derate := x })).setFld (LUX_LSTAT_DER m) (b2n (decide (x < 12800)))).setFld (LUX_LSTAT_FACT m)
          (satTo 255 (x * 256 / 12800))))).each (List.range 8) (fun k u => u.loopFreeze k))
    ∧ (s.lst n ≠ 2 → s.on (LUX_LCFG_OLEN n) = false →
        let u := (s.setFld (LUX_LSTAT_IVAL n) 0).setFld (LUX_LIMEAS_I n) 0
        u.luxWith n 4 = none → exec (.dimmingPeriodEnd n amp v outs weak) s = .next (u.luxStart n true))
    ∧ (s.lst n = 2 → s.on (LUX_LCFG_OLEN n) = false → 20480 ≤ de →
        let u := (((s.setFld (LUX_LSTAT_IVAL n) 1).setFld (LUX_LIMEAS_I n) (satTo 0o777777 (amp * de / 2 ^ 18))).setFld (LUX_LVSNK_V n)
          (satTo 0o777777 v)).senseEvent (luxOut n)
        u.on (LUX_LCFG_OLEN n) = false → u.luxWith n 4 = none → exec (.dimmingPeriodEnd n amp v outs weak) s = .next (u.luxStart n true))
    ∧ (s.lst n = 2 → 4096 ≤ de → de < 20480 → weak = false → outs ≠ [] →
        let u := (((s.setFld (LUX_LSTAT_IVAL n) 0).setFld (LUX_LIMEAS_I n) (satTo 0o777777 ((s.lx n).amp * de / 2 ^ 18))).setFld (LUX_LVSNK_V n)
          (satTo 0o777777 v)).senseEvent (luxOut n)
        let z := u.each (outs.take 64) (fun o s => s.luxOnTime n o)
        s.on (LUX_LCFG_OLEN n) = true → z.luxWith n 4 = none → exec (.dimmingPeriodEnd n amp v outs weak) s = .next (z.luxStart n true))
    ∧ (s.on (LUX_CCFG_EN k) = true → s.cst k ≠ 0 →
        let u := (s.modCl k (fun x => { x.move with periods := x.periods + 1, reading := true })).i2cAsk k
        (u.luxWith (24 + k) 6 = none → exec (.loopPeriod k) s = .next u)
        ∧ (u.luxWith (24 + k) 6 = some d → (u.cl k).limit ≠ 0 → (u.cl k).limit < (u.cl k).periods →
            exec (.loopPeriod k) s = .next (u.finish d 0o30 0)))
    ∧ (s.inp.i2c.head? ≠ some k.val → exec (.colourSensorReadDone k why p0 p1 p2) s = .next s)
    ∧ (s.inp.i2c.head? = some k.val → why.val = 1 → (s.cl k).reading = true → s.cst k ≠ 1 →
        exec (.colourSensorReadDone k why p0 p1 p2) s = .next (((((s.i2cSet s.inp.i2c.tail).count INP_I2C_NACK).raiseIf true INP_FLAG_I2CERR).modCl k
          (fun x => { x with reading := false })).count (LUX_CSTAT_FAILS k)))
    ∧ (s.inp.i2c.head? = some k.val → why.val = 0 → (s.cl k).reading = true → s.cst k = 0 →
        exec (.colourSensorReadDone k why p0 p1 p2) s = .next ((((((s.i2cSet s.inp.i2c.tail).modCl k (fun x => { x with reading := false })).setFld
          (LUX_CS0_S k) (s.sensorCount k p0)).setFld (LUX_CS1_S k) (s.sensorCount k p1)).setFld (LUX_CS2_S k)
          (s.sensorCount k p2)).setFld (LUX_CSTAT_FAILS k) 0))
    ∧ (q.cur = some f → q.sent = false → f.replies = true →
        exec (.chainFrameSent c) s = .next (s.modPch c (fun x => { x with sent := true, released := true })))
    ∧ (q.cur = some f → q.sent = false → f.replies = false → f.cmd ≠ 4 → f.last = false →
        exec (.chainFrameSent c) s = .next ((s.pxDone c).pxNext c))
    ∧ (q.cur = some f → q.sent = false → f.cmd = 4 → f.own = some d.key → exec (.chainFrameSent c) s =
        .next ((((s.pxDone c).pEvt c 0).modPch c (fun x => { x with applies := x.applies ++ [d.key] })).pxNext c))
    ∧ (q.cur = some f → q.sent = true → f.cmd ≠ 1 → pxParse frame = none →
        (frame.headD 0 = 0xA5 → exec (.chainReply c frame) s = .next (s.pxFail c f true))
        ∧ (frame.headD 0 ≠ 0xA5 → exec (.chainReply c frame) s = .next s))
    ∧ (q.cur = some f → q.sent = true → f.cmd = 5 → f.own = some d.key → pxParse frame = some w → w.1 = 13 → w.2.1 = q.seq →
        w.2.2.1 = f.addr → w.2.2.2 ≠ [] → let u := s.pxDone c
        u.descKey d.key = some d → u.rangeOff d.w2.toNat d.pxWords = false →
        exec (.chainReply c frame) s = .next (((u.putBytes d.w2.toNat ((w.2.2.2.drop 1).take d.pxCount)).finishDone d
          (w.2.2.2.getD 0 0).toNat).pxNext c))
    ∧ (q.cur = some f → q.sent = true → f.cmd = 6 → f.own = none → pxParse frame = some w → w.1 = 14 → w.2.1 = q.seq →
        w.2.2.1 = f.addr → w.2.2.2 ≠ [] →
        exec (.chainReply c frame) s = .next ((((s.pxDone c).nodeStatus c f.addr (w.2.2.2.getD 0 0).toNat).scanEnd c).pxNext c))
    ∧ (q.cur = some f → q.sent = true → f.cmd ≠ 1 → exec (.chainReplyTimeout c) s = .next (s.pxFail c f false))
    ∧ (q.cur = some f → q.sent = true → f.cmd = 1 → pxParse frame = some w → w.1 = 9 → w.2.2.2 ≠ [] →
        let m := (w.2.2.2.getD 0 0).toNat
        let u := ((((s.setFld (LUX_PSTAT_N c) m).modPch c (fun x => { x with base := 1 })).setFld (LUX_PSTAT_BRK c) 0).pEvt c 4).pxDone c
        (f.own = none → exec (.enumEnd c frame) s = .next (u.pxNext c))
        ∧ (f.own = some d.key → u.descKey d.key = some d → m = u.fld (LUX_PCFG_NCFG c) →
            exec (.enumEnd c frame) s = .next ((u.finishDone d m).pxNext c)))
    ∧ (q.cur = some f → q.sent = true → f.cmd = 1 → let u := (s.pxDone c).raise LUX_FLAG_PXERR
        (f.own = none → exec (.enumEndWaitExpiry c) s = .next (u.pxNext c))
        ∧ (f.own = some d.key → u.descKey d.key = some d → exec (.enumEndWaitExpiry c) s = .next ((u.finish d 0o33 0).pxNext c)))
    ∧ (s.on (LUX_PCFG_EN c) = true → s.on (LUX_PCFG_SCAN c) = true → q.base ≠ 0 → q.scanning = false →
        exec (.statusScan c) s = .next ((s.modPch c (fun x => { x with
          scan := (List.range (s.fld (LUX_PSTAT_N c))).map (· + 1), scanning := true, scanBad := false })).pxNext c))
    ∧ (s.descAt r i .timed = some d → d.eng = 5 → 32 ≤ d.target → d.opcode ∈ [7, 8] → s.isFenced 9 d.target = false →
        let e := d.target - 32
        (s.pch e).queue.any (fun f => decide (f.own = some d.key)) = false → (s.pch e).cur = none →
        exec (.timedLatchStart r i) s = .next ((((s.provEnd 5 d.target stSuperseded 0 (some SEQ_PCNT1_PSUP)).setDesc
          { d with phase := .running, wasTimed := true, cond := s.condOf d false }).modPch e (fun x => { x with due := x.due ++ [d.key] })).pxNext e))
    ∧ (q.applies = d.key :: [] → let u := s.modPch c (fun x => { x with applies := [] })
        u.descKey d.key = some d → exec (.chainApplyInstant c) s = .next (u.finishDone d 0))
    ∧ (q.applies = [] → exec (.chainApplyInstant c) s = .next s)


/-! ### Buses and the herd ring -/

/-- R320 to R335: bus frames of CAN and LIN channels, their descriptors and their buffers. -/
def Obligations.BusFrames : Prop :=
  ∀ (s : State) (r : Fin 64) (i : Fin 1024) (d : Desc) (c : Fin 6) (k : Fin 4) (g : Fin 8) (lec e : BitVec 3) (f : BusFrame) (x : CanTx)
    (y : Stored) (z : Nat × Nat) (l : List CanTx) (p : List Stored) (b : List Byte), s.domOn .net = true →
    let t := d.target
    let q := 8 + k.val
    let tec := s.fld (NET_CSTAT_TEC c)
    let rxc := s.fld (NET_CSTAT_REC c)
    (s.waits 7 1 r i d = true → t < 12 →
      (s.chFenced t = true → exec (.busTx r i) s = .next (s.finish d stFenced 0))
      ∧ (s.chFenced t = false → s.tcvr t ≠ 0 → exec (.busTx r i) s = .next (s.finish d 0o22 0))
      ∧ (s.chFenced t = false → s.tcvr t = 0 → (s.nch t).guard = none → s.txRoom t = true →
        (s.txBufJudge d = none → exec (.busTx r i) s = .next ((s.startDesc d).txLoad t { f := s.bufFrame d.w2.toNat, own := some d.id }))
        ∧ (s.txBufJudge d = some z → exec (.busTx r i) s = .next (s.finish d z.1 z.2)))
      ∧ (s.chFenced t = false → s.tcvr t = 0 → (s.nch t).guard = none → s.txRoom t = false → exec (.busTx r i) s = .next s))
    ∧ (s.waits 7 2 r i d = true → exec (.rxbuf r i) s = .next (s.deliver (d.ring - 40)))
    ∧ (s.waits 7 3 r i d = true → s.chFenced t = false → s.tcvr t = 0 → (s.nch t).guard = none → s.txRoom t = true → s.txBufJudge d = none →
        exec (.hdr r i) s = .next ((s.startDesc d).txLoad t { f := s.bufFrame d.w2.toNat, own := some d.id }))
    ∧ (s.waits 7 4 r i d = true → s.chFenced t = false →
      (s.tcvr t = 0 → exec (.linwake r i) s = .next (s.startDesc d))
      ∧ (s.tcvr t ≠ 0 → exec (.linwake r i) s = .next (s.finish d 0o22 0)))
    ∧ (s.canLive c = true → s.tcvr c = 0 → s.on (NET_CTC_TXDTO c) = false → s.herdSlot c = none → nextTx (s.nch c).tx = some x →
        let u := (((s.modNch c (fun y => { y with tx := y.tx.erase x })).canState c (tec - 1) rxc).cEvent c 2)
        lec = 0 → x.own = some d.id → u.descId d.id = some d → exec (.canFrameSent c lec) s = .next (u.finishDone d (satTo 511 x.retx)))
    ∧ (s.canLive c = true → s.tcvr c = 0 → s.on (NET_CTC_TXDTO c) = false → s.herdSlot c = none → nextTx (s.nch c).tx = some x →
        lec ≠ 0 → tec + 8 ≤ 255 → let u := (s.canErr c lec.toNat).canState c (tec + 8) rxc
        u.fld (NET_CCFG_RTX c) = 0 → exec (.canFrameSent c lec) s =
          .next (u.modNch c (fun y => { y with tx := y.tx.map (fun z => if z = x then { z with retx := satTo 511 (z.retx + 1) } else z) })))
    ∧ (s.canLive c = false → exec (.canFrameReceived c lec f) s = .next s)
    ∧ (s.canLive c = true → lec ≠ 0 → exec (.canFrameReceived c lec f) s = .next ((s.canErr c lec.toNat).canState c tec (rxc + 1)))
    ∧ (s.canLive c = true → lec = 0 → rxc ≤ 127 → s.on NET_HCFG_MEDIUM = true → exec (.canFrameReceived c lec f) s =
        .next (((((s.canState c tec (rxc - 1)).cEvent c 1).validFrame c).imgSee c f).filtered c f))
    ∧ (s.chEn q = true → s.tcvr q ≤ 1 → s.on (NET_LCFG_ROLE k) = false → (s.nch q).tx = [] →
      (e = 0 → exec (.linFrameReceived k e f) s = .next (((s.lEvent k 0).validFrame q).filtered q f))
      ∧ (e ≠ 0 → exec (.linFrameReceived k e f) s = .next (s.linErr k e.toNat)))
    ∧ (s.chEn q = true → s.tcvr q ≤ 1 → s.on (NET_LCFG_ROLE k) = false → (s.nch q).tx = x :: l → (s.nch q).short = false →
        let u := s.modNch q (fun y => { y with tx := l })
        u.ownDesc x = some d → d.opcode = 1 →
        (e = 0 → exec (.linFrameReceived k e f) s = .next ((u.lEvent k 1).finishDone d 0))
        ∧ (e ≠ 0 → exec (.linFrameReceived k e f) s = .next ((u.linErr k e.toNat).finish d 0o25 e.toNat)))
    ∧ (lGet s.net.rx g = y :: p → s.waitingRx (40 + g) = some d → s.rangeOff d.w2.toNat (bitsOf d.w3.toNat 10 0) = false →
        let u := s.modNet (fun q => { q with rx := lPut q.rx g p })
        let n := y.f.data.length
        let room := (bitsOf d.w3.toNat 10 0 - 8) * 2
        (n ≤ room → exec (.storedFrameDeliver g) s = .next ((u.putFrame d.w2.toNat y.ch y.f y.t n).finishDone d n))
        ∧ (room < n → exec (.storedFrameDeliver g) s = .next ((u.putFrame d.w2.toNat y.ch y.f y.t room).finish d 0o23 n)))
    ∧ (lGet s.net.rx g = [] → exec (.storedFrameDeliver g) s = .next s)
    ∧ (s.chEn c = true → s.fld (NET_CSTAT_CSTATE c) ≠ 2 → exec (.canBusOff c) s =
        .next ((((((((s.setFld (NET_CSTAT_CSTATE c) 2).setFld (NET_CSTAT_TEC c) 255).modNch c (fun y => { y with recov := false })).count
          (NET_CERR_BOFFS c)).cEvent c 9).raise NET_FLAG_BOFF).dropTx c 0o21).record 11 1 c))
    ∧ (s.fld (NET_CSTAT_CSTATE c) = 2 → (s.on (NET_CCFG_ABOR c) = true ∨ (s.nch c).recov = true) →
        exec (.busOffRecoveryEnd c) s = .next ((s.modNch c (fun y => { y with recov := false })).canState c 0 0))
    ∧ ((s.nch q).tx = x :: l → x.own = some d.id → s.descId d.id = some d → d.opcode = 3 →
        exec (.linResponseTimeout k) s = .next (((s.modNch q (fun y => { y with tx := l })).lEvent k 2).finish d 0o24 0))
    ∧ (s.descs.find? (fun d => decide (d.eng = 7 ∧ d.opcode = 4 ∧ d.target = q ∧ d.phase = .running)) = some d →
        exec (.linwakeDone k) s = .next (s.finishDone d 0))
    ∧ exec (.talkerPackTimeout g) s = .next (s.talkerClose g)
    ∧ (s.zsw.p9in = [] → exec .listenerFrame s = .next s)
    ∧ (s.zsw.p9in = b :: [] → let u := s.modZsw (fun z => { z with p9in := [] })
        (∀ j < 8, u.on (NET_LSCFG_EN j) = false) → exec .listenerFrame s = .next u)

/-- R323 to R329: transceivers, wakes, their validation and deafening, and a bus held dominant. -/
def Obligations.BusWakes : Prop :=
  ∀ (s : State) (c : Fin 6) (k : Fin 4) (w : Fin 10) (v : Nat) (f : BusFrame),
    let q := 8 + k.val
    (s.domOn .net = true →
      ((s.nch (chOf w)).guard = some v →
        exec (.guardedEntryDone w) s = .next ((s.modNch (chOf w) (fun x => { x with guard := none })).setTcvr (chOf w) v))
      ∧ ((s.nch (chOf w)).guard = none → exec (.guardedEntryDone w) s = .next s)
      ∧ exec (.canTxdTimeout c) s = .next (((s.setFld (NET_CTC_TXDTO c) 1).cEvent c 5).record 11 3 c)
      ∧ exec (.canBusDominant c) s = .next (((s.modNch c (fun x => { x with dom := true })).cEvent c 4).record 11 4 c)
      ∧ exec (.linBusShort k) s = .next (((s.modNch q (fun x => { x with short := true })).lEvent k 5).record 11 5 q)
      ∧ (w.val < 6 → exec (.dominantTimeoutEnd w) s =
          .next ((s.modNch (chOf w) (fun x => { x with dom := false, short := false })).setFld (NET_CTC_TXDTO (chOf w)) 0))
      ∧ (6 ≤ w.val → exec (.dominantTimeoutEnd w) s = .next (s.modNch (chOf w) (fun x => { x with dom := false, short := false }))))
    ∧ (s.pw.mode = .bedded →
      (s.net.can0 = true → s.on (NET_WKSTAT_DEAF 0) = false → exec (.canWup 0) s = .next ((s.countedWake 0).latchWake 0o03 0))
      ∧ (s.on (NET_WKSTAT_DEAF 0) = true → exec (.canWup c) s = .next s)
      ∧ exec (.canWuf c true f) s = .next s ∧ exec (.linBusWake k) s = .next s)
    ∧ (s.pw.mode ≠ .bedded → s.domSt .net ≠ .off →
      (s.wakeArmed c = true → s.on (NET_CTC_SWEN c) = false → exec (.canWup c) s = .next (s.chWake c))
      ∧ (s.wakeArmed c = false → exec (.canWup c) s = .next s)
      ∧ (s.wakeArmed c = true → s.on (NET_CTC_SWEN c) = true →
          let u := s.setFld (NET_SWFEC_FEC c) (s.fld (NET_SWFEC_FEC c) - 1)
          let n := satTo 63 (s.fld (NET_SWFEC_FEC c) + 1)
          (u.isWuf c f = true → exec (.canWuf c true f) s = .next (u.chWake c))
          ∧ (u.isWuf c f = false → exec (.canWuf c true f) s = .next u)
          ∧ (n ≤ 31 → exec (.canWuf c false f) s = .next (s.setFld (NET_SWFEC_FEC c) n))
          ∧ (31 < n → exec (.canWuf c false f) s = .next ((s.setFld (NET_SWFEC_FEC c) n).chWake c)))
      ∧ (s.wakeArmed q = true → exec (.linBusWake k) s = .next (s.chWake q))
      ∧ (s.wakeArmed q = false → exec (.linBusWake k) s = .next s))
    ∧ (s.on (NET_WKSTAT_WOPEN w) = true → let n := satTo 15 (s.fld (NET_WKSTAT_FWCNT w) + 1)
        let u := ((s.setFld (NET_WKSTAT_WOPEN w) 0).setFld (NET_WKSTAT_FWCNT w) n).count (NET_WKSTAT_TOTAL w)
        ((s.fld (NET_WKCFG_FWTH w) = 0 ∨ n < s.fld (NET_WKCFG_FWTH w)) → exec (.validationWindowEnd w) s = .next u)
        ∧ (s.fld (NET_WKCFG_FWTH w) ≠ 0 → s.fld (NET_WKCFG_FWTH w) ≤ n → exec (.validationWindowEnd w) s =
            .next ((((u.setFld (NET_WKSTAT_DEAF w) 1).modNet (fun x => { x with deafAt := nPut x.deafAt w (u.setFld (NET_WKSTAT_DEAF w) 1).rtcSec })).raise
              NET_FLAG_DEAF).record 11 7 w)))
    ∧ (s.on (NET_WKSTAT_WOPEN w) = false → exec (.validationWindowEnd w) s = .next s)
    ∧ (s.on (NET_WKSTAT_DEAF w) = true → s.fld (NET_WKCFG_DEAFT w) = 1 → nGet s.net.deafAt w + 600 ≤ s.rtcSec →
        exec (.deafEnd w) s = .next ((s.setFld (NET_WKSTAT_DEAF w) 0).setFld (NET_WKSTAT_FWCNT w) 0))
    ∧ (s.fld (NET_WKCFG_DEAFT w) = 0 → exec (.deafEnd w) s = .next s)

/-- R346 to R358: the herd's states and messages. -/
def Obligations.HerdRing : Prop :=
  ∀ (s : State) (m : List Byte) (l : List (List Byte)) (x : HRing), s.domOn .net = true →
    let b (i : Nat) : Nat := (m.getD i 0).toNat
    let taken := s.modHerd (fun h => { h with inbox := l })
    let ring : HRing := ⟨bitAt (b 3) 1, b 3 / 4 % 4, b 4, false⟩
    let next := s.setFld NET_HRND_ROUND ((s.fld NET_HRND_ROUND + 1) % 256)
    (s.herd.edge = some true → exec .herdEnable s = .next ((s.modHerd (fun h => { h with edge := none })).hAlive))
    ∧ (s.herd.edge ≠ some true → exec .herdEnable s = .next s)
    ∧ (s.herd.edge = some false → let u := s.modHerd (fun h => { h with edge := none, held := none, inbox := [] })
        let r := s.herd.held.getD s.herd.last
        (s.hSt = 0 ∨ s.hSt = 4 → exec .herdDisable s = .next (u.setHSt 0))
        ∧ (1 ≤ s.hSt ∧ s.hSt ≤ 3 →
            exec .herdDisable s = .next ((u.hSend (hMsg 4 u.hId (hSuccOf u.hMap u.hId) u.hCons r.allc r.run r.round)).setHSt 0)))
    ∧ (s.herd.inbox = m :: l → s.hSt = 2 → b 1 ≠ s.hId →
      (b 0 % 16 = 1 → b 2 = s.hId → exec .herdRingReceived s =
        .next (((taken.setFld NET_HRND_ROUND (b 4)).setFld NET_HSTAT_RUN (b 3 / 4 % 4)).modHerd (fun h => { h with held := some ring, last := ring })))
      ∧ (b 0 % 16 = 1 → b 2 ≠ s.hId → exec .herdRingReceived s = .next (taken.setFld NET_HRND_ROUND (b 4)))
      ∧ (b 0 % 16 = 2 → exec .herdPrepReceived s = .next taken.hPrep)
      ∧ (b 0 % 16 = 3 → exec .herdAliveReceived s = .next (taken.hAlive.setHMap (setBit taken.hAlive.hMap (b 1))))
      ∧ (b 0 % 16 = 4 → b 2 ≠ s.hId → exec .herdLeaveReceived s = .next (taken.setHMap (clrBit taken.hMap (b 1)))))
    ∧ (s.herd.inbox = m :: l → s.hSt = 3 → b 1 ≠ s.hId → b 0 % 16 = 1 → let u := taken.setFld NET_HRND_ROUND (b 4)
      (bitAt (b 3) 0 = true → exec .herdRingReceived s = .next u)
      ∧ (bitAt (b 3) 0 = false → exec .herdRingReceived s = .next (u.hCancel 2)))
    ∧ (s.herd.inbox = m :: l → 1 ≤ s.hSt → b 1 = s.hId → b 0 % 16 = 1 → exec .herdRingReceived s =
        .next ((((taken.setHSt 0).hEvt 5).modHerd (fun h => { h with held := none, inbox := [] })).record 11 10 0))
    ∧ (s.herd.inbox = [] → exec .herdRingReceived s = .next s ∧ exec .herdPrepReceived s = .next s
        ∧ exec .herdAliveReceived s = .next s ∧ exec .herdLeaveReceived s = .next s)
    ∧ (s.hSt = 2 → s.hMap ≠ 2 ^ s.hId → s.herd.held = some x →
      (s.hIsLead = false → let u := s.modHerd (fun h => { h with held := none })
        exec .herdForward s = .next (u.hSend (hMsg 1 u.hId (hSuccOf u.hMap u.hId) u.hCons (x.allc && u.hCons) x.run x.round)))
      ∧ (s.hIsLead = true → x.fromLead = false → x.allc = false → exec .herdForward s = .next (s.hStart 0))
      ∧ (s.hIsLead = true → x.fromLead = false → x.allc = true → s.herd.changed = false → x.run = 0 → exec .herdForward s = .next (s.hStart 1))
      ∧ (s.hIsLead = true → x.fromLead = false → x.allc = true → s.herd.changed = false → x.run = 1 → let u := next.setFld NET_HSTAT_RUN 2
          exec .herdForward s = .next ((u.hSend (hMsg 2 u.hId 0 u.hCons u.hCons 2 ((s.fld NET_HRND_ROUND + 1) % 256))).hPrep)))
    ∧ (s.hSt ≠ 2 → exec .herdForward s = .next s ∧ exec .herdRingLost s = .next s)
    ∧ (s.hSt = 2 → exec .herdRingLost s = .next ((((s.count NET_HCNT_LOSTS).hEvt 3).record 11 9 0).hAlive))
    ∧ (s.hSt = 1 → let u := ((s.setHSt 2).setFld NET_HSTAT_RUN 0).modHerd (fun h => { h with changed := false })
        (u.hIsLead = false → exec .herdSettleEnd s = .next u)
        ∧ (u.hIsLead = true → u.hMap ≠ 2 ^ u.hId → exec .herdSettleEnd s = .next (u.hStart 0)))
    ∧ (s.hSt = 3 → let u := (s.setHSt 4).hEvt 1
        (u.on NET_HCFG_AUTO = false → exec .herdPrepEnd s = .next u)
        ∧ (u.on NET_HCFG_AUTO = true → exec .herdPrepEnd s =
            .next (u.each (netChans.filter (fun c => u.bit NET_HSLP_MASK (srcOf c) && !u.chFenced c)) (fun c u =>
              (u.setChReq c (if u.on NET_HSLP_STBY && decide (c < 6) then 2 else 3)).tcvrRequest c))))
    ∧ (s.hSt ≠ 3 → exec .herdPrepEnd s = .next s)


/-! ### Inputs -/

/-- R284 to R312: switches, converters, sensor supplies and interfaces, their messages, the cells, the timers and the limp-home map. -/
def Obligations.InputsAndFabric : Prop :=
  ∀ (s : State) (n : Fin 48) (closed : Bool) (lv : LandVolts) (conv : List (BitVec 16)) (a : Fin 2) (v : Word) (o : Fin 128) (b : Fin 10) (x : Fin 8) (k j : Fin 4) (cal : BitVec 32)
    (nibs : List (BitVec 32)) (data : BitVec 28) (h : Nat) (l : List Nat) (m : SMsg) (w : List SMsg) (r : Fin 64) (i : Fin 1024) (d : Desc),
    s.domOn .act = true →
    let read := s.swReads n lv.land.toInt lv.kl30.toNat
    let raw := s.setFld (INP_SWRAW_RAW n) (b2n read)
    let ts := nibs.map (fun t => nibTicks cal.toNat t.toNat - 12)
    let src := 16 + 4 * k.val + j.val
    (s.swMode n = 1 → raw.sw n = read → exec (.switchPoll n lv) s = .next (raw.modInp (fun x => { x with deb := nPut x.deb n 0 })))
    ∧ (s.swMode n = 1 → raw.sw n ≠ read →
      (nGet raw.inp.deb n + 1 < raw.fld (INP_SWCFG_DEB n) →
        exec (.switchPoll n lv) s = .next (raw.modInp (fun x => { x with deb := nPut x.deb n (nGet raw.inp.deb n + 1) })))
      ∧ (raw.fld (INP_SWCFG_DEB n) ≤ nGet raw.inp.deb n + 1 → exec (.switchPoll n lv) s = .next (raw.swChange n read)))
    ∧ (s.swMode n ≠ 1 → exec (.switchPoll n lv) s = .next s)
    ∧ (s.pw.mode ≠ .bedded → s.swMode n = 2 → raw.sw n ≠ read → exec (.staticFilterEnd n lv) s = .next (raw.swChange n read))
    ∧ (s.pw.mode ≠ .bedded → s.swMode n = 2 → raw.sw n = read → exec (.staticFilterEnd n lv) s = .next raw)
    ∧ (s.bit INP_ADCST_FAIL (8 + a) = false → lGet s.inp.scan a = [] →
        exec (.adcScan a) s = .next (s.modInp (fun x => { x with scan := lPut x.scan a (s.scanList a) }))
        ∧ exec (.adcResult a conv) s = .next s)
    ∧ (s.bit INP_ADCST_FAIL (8 + a) = false → lGet s.inp.scan a = h :: l →
        let u := (((s.modInp (fun x => { x with scan := lPut x.scan a l })).setFld (INP_ANR_R h) (adcSum conv)).setFld (INP_ANST_VALID h) 1).setFld
          (INP_ANST_WIN h) (s.winOf h (adcSum conv))
        exec (.adcScan a) s = .next s
        ∧ (s.winOf h (adcSum conv) = s.anWin h → exec (.adcResult a conv) s = .next u)
        ∧ (s.winOf h (adcSum conv) ≠ s.anWin h → exec (.adcResult a conv) s = .next (u.winChange h (s.winOf h (adcSum conv)))))
    ∧ (s.bit INP_ADCST_FAIL (o % 8) = false →
      (64 ≤ o.val → o.val < 80 → exec (.senseConversion o v) s =
          .next (s.modMean o (fun m => { m with sum := m.sum + sextOf 18 v.toNat, n := m.n + 1 })))
      ∧ (80 ≤ o.val → o.val < 84 → exec (.senseConversion o v) s = .next ((s.setFld (VLV_BIMEAS_I (o - 80)) v.toNat).senseEvent o))
      ∧ (84 ≤ o.val → o.val < 100 → exec (.senseConversion o v) s =
          .next (s.modMean o (fun m => { m with sum := m.sum + (v.toNat : Int), n := m.n + 1 })))
      ∧ (124 ≤ o.val → exec (.senseConversion o v) s = .next (((s.setFld (MOT_GIMEAS_V (o - 124)) (wrapTo 18
          (max (-(s.shuntMax (o - 124))) (min (s.shuntMax (o - 124)) (sextOf 18 v.toNat))))).senseEvent o).motShunt (o - 124))))
    ∧ (o.val < 64 ∨ (100 ≤ o.val ∧ o.val < 124) → exec (.senseConversion o v) s = .next s)
    ∧ (s.bit INP_ADCST_FAIL b = false → exec (.senseAdcCalibration b false) s = .next ((s.adcFail b).record 10 1 b))
    ∧ exec (.senseAdcCalibration b true) s = .next s
    ∧ (s.fld (INP_SS_STATE a) = 1 → exec (.ssOvercurrent a) s = .next ((s.ssOff a 2).record 10 2 a)
        ∧ exec (.ssDriven a) s = .next ((s.ssOff a 3).record 10 3 a))
    ∧ (s.on (INP_SNCFG_EN x) = true → s.sentJudge x cal.toNat (nibs.map BitVec.toNat) = 0 →
        let u := s.modInp (fun y => { y with cal := nPut y.cal x cal.toNat })
        let e := (sliceD ts 1 (u.fld (INP_SNCFG_NIB x)) 0).foldl (fun a v => a * 16 + v) 0
        exec (.sentFrame x cal nibs none) s = .next (((((u.setFld (INP_SNSTAT_VALID x) 1).setFld (INP_SNLASTH_DH x) (e / 2 ^ 18)).setFld
          (INP_SNLASTL_DL x) (e % 2 ^ 18)).modInp (fun y => { y with timedOut := bPut y.timedOut x false })).mkMsg x 0 0 e))
    ∧ (s.on (INP_SNCFG_EN x) = true → s.sentJudge x cal.toNat (nibs.map BitVec.toNat) ≠ 0 →
        exec (.sentFrame x cal nibs none) s = .next ((s.modInp (fun y => { y with cal := nPut y.cal x cal.toNat })).sentErr x
          (s.sentJudge x cal.toNat (nibs.map BitVec.toNat)) true))
    ∧ (s.on (INP_SNCFG_EN x) = true → s.on (INP_SNTO_TOUT x) = true → bGet s.inp.timedOut x = false →
        exec (.sentTimeout x) s = .next (((s.setFld (INP_SNSTAT_VALID x) 0).modInp (fun y =>
          { y with timedOut := bPut y.timedOut x true })).sentErr x 6 false))
    ∧ (s.psLive k = true → s.fld (INP_PSCFG_MODE k) = 1 →
        exec (.psi5Sync k) s = .next (s.each (List.range (s.fld (INP_PSCFG_SLOTS k) + 1)) (fun j u => u.psSlot k j true)))
    ∧ (s.psLive k = true → s.fld (INP_PSCFG_MODE k) = 1 → bGet s.inp.slots (k * 4 + j) = true → let u := s.psSlot k j false
        let e := data.toNat % 2 ^ u.fld (INP_PSCFG_DBITS k)
        exec (.psi5Frame k j true true data) s = .next ((((u.setFld (INP_PSSTAT_VALID k) 1).setFld (INP_PSLASTH_DH k) (e / 2 ^ 18)).setFld
          (INP_PSLASTL_DL k) (e % 2 ^ 18)).mkMsg src 4 0 e)
        ∧ exec (.psi5Frame k j false closed data) s = .next (u.psErr k j 3)
        ∧ exec (.psi5Frame k j true false data) s = .next (u.psErr k j 4)
        ∧ exec (.psi5SlotClose k j) s = .next ((u.setFld (INP_PSSTAT_VALID k) 0).psErr k j 6))
    ∧ (s.psLive k = true → exec (.psi5BusLimit k) s = .next ((s.psOff k).record 10 4 k))
    ∧ (s.psLive k = false → exec (.psi5BusLimit k) s = .next s)
    ∧ (s.inp.made = m :: w → let u := s.modInp (fun x => { x with made := w })
        (u.fld (INP_BRG_DEST m.src) = 0 → exec .sensorMessage s = .next u)
        ∧ (u.fld (INP_BRG_DEST m.src) = 1 → exec .sensorMessage s =
            .next ((u.toFifo (u.fld (INP_BRG_RING m.src)) m).sensServe (u.fld (INP_BRG_RING m.src)))))
    ∧ (s.inp.made = [] → exec .sensorMessage s = .next s)
    ∧ (s.waits 7 0o40 r i d = true → exec (.sensrx r i) s = .next (s.sensServe (d.ring - 40)))
    ∧ (s.inp.live = true → s.inp.dcMap = false →
        (let u := (s.cellsFrom [] (List.range 32)).each (List.range 4) (fun t u => u.timerStep t)
         exec .fabricStep s = .next (u.follow u.mapped (fun n u => u.record 4 3 n)))
        ∧ (s.fld (INP_FTCFG_MODE k) = 1 → bGet s.inp.trig k = true →
            exec (.fabricTimer k) s = .next (s.modInp (fun x => { x with tout := bPut x.tout k (!bGet x.tout k) })))
        ∧ (s.fld (INP_FTCFG_MODE k) = 2 → exec (.fabricTimer k) s = .next (s.modInp (fun x => { x with tout := bPut x.tout k false }))))
    ∧ (s.inp.live = false → exec .fabricStep s = .next s ∧ exec (.fabricTimer k) s = .next s
        ∧ exec .fabricLive s = .next ((s.storeScan.modInp (fun x => { x with live := true })).each (List.range 32) (fun c u =>
            if u.fld (INP_FCMODE_MODE c) = 1 then u.setCell c (u.on (INP_FCMODE_INIT c)) else u)))
    ∧ (s.inp.live = true → exec .fabricLive s = .next s)
    ∧ exec .limpHomeEngage s = .next (s.limpEngage s.limpCauses)


/-! ### Memories -/

/-- R38, R41 to R59: the corrected word written back, the test engines, the code NVM, the settings store and the OTP. -/
def Obligations.MemoryCommands : Prop :=
  ∀ (s : State) (unit : Fin 14) (a : BitVec 21) (c : CoreId) (bank : Fin 8) (keep fail : Bool) (fails : BitVec 14) (ofs : BitVec 13)
    (v : Word) (l : List Word) (res : Nat) (o : BitVec 11) (x : Nat) (run : SsRun),
    let row := codeKey s.inactive (s.nadr / 8 * 8)
    let wrun : SsRun := ⟨false, s.fld MEM_SSBUF_BUF, s.fld MEM_SSLEN_LEN, s.fld MEM_SSCTL_SCHEMA, s.fld MEM_SSGRP_GRP, s.ssTarget.1, s.ssTarget.2⟩
    let lrun : SsRun := ⟨true, s.fld MEM_SSBUF_BUF, s.dw x 4, 0, 0, x, 0⟩
    let ends (r : Nat) : State := (s.setFld MEM_NSTAT_RESULT r).raise MEM_FLAG_NDONE
    (s.eccOf (unitKey unit a.toNat) = 1 →
        exec (.eccWriteback unit a) s = .next (s.wr (unitKey unit a.toNat) (s.rd (unitKey unit a.toNat))))
    ∧ (s.eccOf (unitKey unit a.toNat) ≠ 1 → exec (.eccWriteback unit a) s = .next s)
    ∧ exec .permitExpiry s = .next (s.modMem (fun m => { m with l3Permit := false }))
    ∧ (s.domOn .fabric = true →
      (let u := (s.setFld MEM_MCTL_BANK bank).setFld MEM_MCTL_PRESERVE (b2n keep)
       (u.fld MEM_MSTAT_RESULT = 1 → exec (.marchStart c bank keep) s = .next u)
       ∧ (u.fld MEM_MSTAT_RESULT ≠ 1 → u.bankSt bank ≠ 1 → exec (.marchStart c bank keep) s = .next (u.setFld MEM_MSTAT_RESULT 4))
       ∧ (u.fld MEM_MSTAT_RESULT ≠ 1 → u.bankSt bank = 1 → exec (.marchStart c bank keep) s =
            .next ((((u.setFld MEM_MSTAT_RESULT 1).setFld MEM_MSTAT_BANK bank).setFld MEM_MSTAT_FAILCNT 0).modMem
              (fun m => { m with marchKeep := keep }))))
      ∧ (s.fld MEM_MSTAT_RESULT = 1 → s.memc.marchKeep = true → fails = 0 → exec (.marchDone fails ofs keep) s =
          .next (((s.raise MEM_FLAG_MDONE).setFld MEM_MSTAT_FAILCNT 0).setFld MEM_MSTAT_RESULT 2))
      ∧ (s.fld MEM_MSTAT_RESULT = 1 → s.memc.marchKeep = false → fails ≠ 0 → exec (.marchDone fails ofs keep) s =
          .next ((((((s.clearBank (s.fld MEM_MSTAT_BANK)).raise MEM_FLAG_MDONE).setFld MEM_MSTAT_FAILCNT (satTo 0o7777 fails.toNat)).setFld
            MEM_MSTAT_RESULT 3).setReg rMEM_MFAIL (b2n keep * 2 ^ 17 + ofs.toNat)).record 2 3 (s.fld MEM_MSTAT_BANK)))
      ∧ (s.on MEM_TCTL_EN = true → s.sweepSkips (s.fld MEM_TCTL_TARGET) (s.fld MEM_TSTAT_REGION) = true → exec (.tsweepRegion fail) s =
          .next (s.setFld MEM_TSTAT_REGION (s.sweepFrom (s.fld MEM_TCTL_TARGET) (s.fld MEM_TSTAT_REGION + 1))))
      ∧ (s.on MEM_TCTL_EN = true → s.sweepSkips (s.fld MEM_TCTL_TARGET) (s.fld MEM_TSTAT_REGION) = false → exec (.tsweepRegion false) s =
          .next ((s.setFld MEM_TSTAT_REGION (s.sweepFrom (s.fld MEM_TCTL_TARGET) (s.fld MEM_TSTAT_REGION + 1))).modMem
            (fun m => { m with swept := m.swept + b2n (decide (s.fld MEM_TCTL_TARGET = 0)) })))
      ∧ (s.on MEM_TCTL_EN = false → exec (.tsweepRegion fail) s = .next s)
      ∧ (s.memc.nrun.isSome = true → let busy : Out State := .next (s.setFld MEM_NSTAT_RESULT 4)
          exec (.nvmReadRow c) s = busy ∧ exec (.progrow c) s = busy ∧ exec (.erasesect c) s = busy ∧ exec (.erasebank c) s = busy ∧ exec (.blankchk c) s = busy)
      ∧ (s.memc.nrun = none → s.lowV = true → 
          exec (.progrow c) s = .next (ends 3) ∧ exec (.erasesect c) s = .next (ends 3) ∧ exec (.erasebank c) s = .next (ends 3))
      ∧ (s.memc.nrun = none →
          exec (.nvmReadRow c) s = .next ((((s.portRead row 8).modMem (fun m => { m with nfifo := s.codeRow s.inactive s.nadr })).setFld
            MEM_NSTAT_BUSY 1).modMem (fun m => { m with nrun := some 0 }))
          ∧ (s.lowV = false →
            (s.nadr % 8 ≠ 0 → exec (.progrow c) s = .next (s.raise MEM_FLAG_ENCREF))
            ∧ (s.nadr % 8 = 0 → s.rowUsed s.inactive s.nadr = true → exec (.progrow c) s = .next (ends 1))
            ∧ (s.nadr % 8 = 0 → s.rowUsed s.inactive s.nadr = false → s.memc.nfifo.length = 8 →
                exec (.progrow c) s = .next (((((s.progRow s.inactive s.nadr s.memc.nfifo).drewN 0).modMem
                  (fun m => { m with nfifo := [], nrow := some row })).setFld MEM_NSTAT_BUSY 1).modMem (fun m => { m with nrun := some 0 })))
            ∧ exec (.erasesect c) s = .next (((s.eraseCode s.inactive (s.nadr / 4096 * 4096) (s.nadr / 4096 * 4096 + 4096)).setFld
                MEM_NSTAT_BUSY 1).modMem (fun m => { m with nrun := some 0 }))
            ∧ exec (.erasebank c) s = .next (((s.eraseCode s.inactive 0 (2 ^ 20)).setFld MEM_NSTAT_BUSY 1).modMem
                (fun m => { m with nrun := some 0 })))
          ∧ ((∀ e ∈ s.mem, e.1 < codeKey s.inactive 0 ∨ codeKey s.inactive 0 + 2 ^ 20 ≤ e.1) →
              exec (.blankchk c) s = .next ((s.setFld MEM_NSTAT_BUSY 1).modMem (fun m => { m with nrun := some 0 }))))
      ∧ (s.memc.nrun = some res → exec (.nvmCommandDone false) s =
          .next ((((s.setFld MEM_NSTAT_BUSY 0).modMem (fun m => { m with nrun := none, nrow := none })).setFld MEM_NSTAT_RESULT res).raise MEM_FLAG_NDONE))
      ∧ (s.memc.nrun = none → exec (.nvmCommandDone fail) s = .next s)
      ∧ (s.memc.nfifo.length ≤ 7 → exec (.ndataPush c v) s = .next (s.modMem (fun m => { m with nfifo := m.nfifo ++ [v] })))
      ∧ (s.memc.nfifo.length = 8 → exec (.ndataPush c v) s = .next (s.modMem (fun m => { m with nfifo := m.nfifo.tail ++ [v] })))
      ∧ (s.memc.nfifo = v :: l → exec (.ndataPop c) s = .next ({ s with rdata := v, memc := { s.memc with nfifo := l } } : State))
      ∧ (s.ssBusy = true → exec (.ssWrite c) s = .next (s.ssEnd 1) ∧ exec (.ssLoad c) s = .next (s.ssEnd 1))
      ∧ (s.ssBusy = false →
          (s.fld MEM_SSLEN_LEN = 0 → exec (.ssWrite c) s = .next (s.ssEnd 3))
          ∧ (1 ≤ s.fld MEM_SSLEN_LEN → s.fld MEM_SSLEN_LEN ≤ 65518 → inRam (s.fld MEM_SSBUF_BUF) (s.fld MEM_SSLEN_LEN) = true →
              exec (.ssWrite c) s = .next (((s.eraseData s.ssTarget.1).setFld MEM_SSSTAT_BUSY 1).modMem (fun m => { m with ss := some wrun })))
          ∧ (s.ssBank = none → exec (.ssLoad c) s = .next (s.ssEnd 2))
          ∧ (s.ssBank = some x → s.fld MEM_SSLEN_LEN < s.dw x 4 → exec (.ssLoad c) s = .next (s.ssEnd 3))
          ∧ (s.ssBank = some x → s.dw x 4 ≤ s.fld MEM_SSLEN_LEN → inRam (s.fld MEM_SSBUF_BUF) (s.fld MEM_SSLEN_LEN) = true →
              exec (.ssLoad c) s = .next ((s.setFld MEM_SSSTAT_BUSY 1).modMem (fun m => { m with ss := some lrun }))))
      ∧ (s.memc.ss = some run → let u := (s.setFld MEM_SSSTAT_BUSY 0).modMem (fun m => { m with ss := none })
          (run.load = true → exec (.ssCommandDone fail) s = .next (u.ssLoadEnd run))
          ∧ (run.load = false → exec (.ssCommandDone fail) s = .next (u.ssWriteEnd run fail)))
      ∧ (s.memc.ss = none → exec (.ssCommandDone fail) s = .next s)
      ∧ (s.acc.pres = none → exec (.otpProg c o) s = .next (s.raise MEM_FLAG_WRREF))
      ∧ (s.acc.pres.isSome = true → s.memc.otp = none →
          let fin (r : Nat) : State := (s.setFld MEM_OTPSTAT_RESULT r).raise MEM_FLAG_OTPDONE
          (otpKrafin o.toNat = true → exec (.otpProg c o) s = .next (fin 2))
          ∧ (0o425 ≤ o.toNat → s.otpWritten o.toNat = true → exec (.otpProg c o) s = .next (fin 1))
          ∧ (0o425 ≤ o.toNat → s.otpWritten o.toNat = false → exec (.otpProg c o) s =
              .next (((s.wr (otpKey o.toNat) (toWord (s.fld MEM_OTPDATA_DATA))).setFld MEM_OTPSTAT_BUSY 1).modMem
                (fun m => { m with otp := some o.toNat, otpW := bPut m.otpW o.toNat true }))))
      ∧ (s.memc.otp = some x → exec (.otpDone false) s = .next ((((s.setFld MEM_OTPSTAT_BUSY 0).modMem (fun m => { m with otp := none })).setFld
          MEM_OTPSTAT_RESULT 0).raise MEM_FLAG_OTPDONE))
      ∧ (s.memc.otp = none → exec (.otpDone fail) s = .next s))

/-! ### The switch and its ports -/

/-- R366 to R380: frames in and out of the switch's ports, link states, path groups and MAC ageing. -/
def Obligations.SwitchPorts : Prop :=
  ∀ (s : State) (p : Fin 8) (q : Fin 10) (g : Fin 4) (k : Fin 16) (bytes : List Byte) (bad stomped coll : Bool) (sqi : BitVec 3) (x : ZSend)
    (v : BitVec 12) (m : BitVec 48) (es : List Nat) (bk : Option Nat) (t : State × ZRes), s.domOn .zsw = true →
    let taken := s.count (ZSW_PRXF_RXF p)
    (s.zPort p ≠ 1 → exec (.zswFrameReceived p bytes bad stomped) s = .next s)
    ∧ (s.zPort p = 1 → bytes.length < 60 → exec (.zswFrameReceived p bytes bad false) s
        = .next ((taken.count (ZSW_PRXD_BAD p)).hCheck.hostServe 64))
    ∧ (let h := s.zHead p bytes none
       s.zPort p = 1 → 60 ≤ bytes.length → bytes.length + 4 ≤ taken.fld ZSW_GCTL_MAXLEN → taken.on (ETH_MCFG_EN (p * 8 + h.pri)) = false →
       taken.on ZSW_GCTL_EN = true → h.dst / 16 ≠ 0x0180C200000 → taken.vlanOf h.vid = none →
        exec (.zswFrameReceived p bytes false false) s = .next (((taken.macLearn p h).count (ZSW_PRXD_VLAN p)).hCheck.hostServe 64))
    ∧ (let h := s.zHead p bytes none
       s.zPort p = 1 → 60 ≤ bytes.length → bytes.length + 4 ≤ taken.fld ZSW_GCTL_MAXLEN → taken.on (ETH_MCFG_EN (p * 8 + h.pri)) = false →
       taken.zDecide p bytes h = .ports es bk → taken.admitAll 0 0 (es.map (fun e => (e, taken.queueOf e h.pri))) = t → t.2.admitted ≠ [] →
       (bytes.length + 255) / 256 ≤ t.1.zFreeN →
       let l := t.1.macLearn p h
       let u := l.zStore { bytes := bytes, port := p, colour := 0, pri := h.pri, vid := h.vid, arrival := l.eth.mc / 64 } bk t.2.admitted
       u.bit NET_HUCFG_PMASK p = false → exec (.zswFrameReceived p bytes false false) s = .next (u.hCheck.hostServe 64))
    ∧ (smFind s.zsw.sending q = none → s.zPort q = 1 → q ≠ 8 → exec (.zswEgressSend ⟨q, false⟩) s = .next (s.sendFrom q 8))
    ∧ (smFind s.zsw.sending q = none → (q = 6 ∨ q = 7) → s.on (ETH_PLCA_EN q) = true → s.on (ETH_PSTAT_PLCAA q) = true →
        exec (.zswEgressSend ⟨q, true⟩) s = .next (s.count (ETH_PLCNT_COLL q)))
    ∧ (smFind s.zsw.sending q = none → (q = 6 ∨ q = 7) → s.on (ETH_PLCA_EN q) = false → exec (.zswEgressSend ⟨q, true⟩) s = .next s)
    ∧ (smFind s.zsw.sending q = some x → s.zPort q ≠ 1 → (q ≠ 6 ∧ q ≠ 7 ∨ coll = false) → exec (.zswEgressSend ⟨q, coll⟩) s
        = .next ((((s.modZsw (fun z => { z with sending := smErase z.sending q })).zRelease x.frame).count (ZSW_PTXF_TXF q)).creditSent
          q x.queue x.wire))
    ∧ (s.on (ETH_PCFG_EN p) = true → s.on (ETH_PSTAT_FENCED p) = false → s.on (ETH_PSTAT_LINK p) = false → 6 ≤ p.val →
        s.on (ZSW_PCFG_EN p) = true → s.zPort p = 0 → let u := ((s.setFld (ETH_PSTAT_LINK p) 1).setBitF (ETH_PEVT_EVT p) 0 true)
        u.on (ZSW_PCFG_EN p) = true → u.zPort p = 0 →
        exec (.portLinkUp p sqi) s = .next (((u.setFld (ZSW_PSTAT_STATE p) 1).zEvt p 3).pgRevive p))
    ∧ (s.on (ETH_PSTAT_LINK p) = true → exec (.portLinkUp p sqi) s = .next s)
    ∧ (s.on (ETH_PSTAT_LINK p) = false → exec (.portLinkLost p) s = .next s)
    ∧ (let u := ((s.setFld (ETH_PSTAT_LINK p) 0).setBitF (ETH_PEVT_EVT p) 1 true).count (ETH_PCNT_LOSS p)
       s.on (ETH_PSTAT_LINK p) = true → 6 ≤ p.val → u.zPort p ≠ 1 → exec (.portLinkLost p) s = .next (u.record 13 1 p))
    ∧ (s.zPort q = 2 → exec (.portHoldEnd q) s = .next (((s.zToFlush q).setFld (ZSW_PSTAT_LEFT q) 0).modZsw (fun z =>
        { z with fromHold := insAsc z.fromHold q })))
    ∧ (s.zPort q ≠ 2 → exec (.portHoldEnd q) s = .next s)
    ∧ (s.zPort q ≠ 3 → exec (.flushDone q) s = .next s)
    ∧ (let n := ((List.range 8).map (fun j => (s.zQueue q j).length)).foldl (· + ·) 0
       let u := (((s.each (List.range 8) (fun j t => (t.zPurge q j).creditEmpty q j)).countBy (ZSW_PFLUSH_FLUSH q) n).modZsw (fun z =>
          { z with fromHold := z.fromHold.filter (fun y => decide (y ≠ q.val)) }))
       s.zPort q = 3 → s.zsw.fromHold.contains q.val = false → u.on (ETH_PSTAT_LINK q) = false →
        exec (.flushDone q) s = .next ((((u.setFld (ZSW_PSTAT_STATE q) 0).zEvt q 2).macFlushPort q).pgFail q))
    ∧ (s.on (ZSW_PGCFG_EN g) = true → s.pgHome g k ≠ s.pgCur g k → s.pgCount g k = 0 → s.bit (ZSW_PGSTAT_DEAD g) k = false →
        s.pgPort g (s.pgHome g k) < 10 → s.zPort (s.pgPort g (s.pgHome g k)) = 1 →
        exec (.bucketReturn g k) s = .next (s.pgMove g k (s.pgHome g k)))
    ∧ (s.pgCount g k ≠ 0 → exec (.bucketReturn g k) s = .next s)
    ∧ (s.on ZSW_GCTL_AGE = true → exec (.macAgeing v m) s
        = .next (s.setMacs (s.zsw.macs.filter (fun e => e.static || !decide (e.vid = v.toNat ∧ e.mac = m.toNat)))))
    ∧ (s.on ZSW_GCTL_AGE = false → exec (.macAgeing v m) s = .next s)

/-- R381 to R388: the host port's descriptors, its window bindings and the buffer auditor. -/
def Obligations.SwitchHostPort : Prop :=
  ∀ (s : State) (r : Fin 64) (i : Fin 1024) (d : Desc) (t : State × ZRes) (b : ZBind) (w : Fin 128) (c : ZCensus) (e : Nat × Nat), s.domOn .zsw = true →
    let sent := s.bufBytes d.w2.toNat d.w3.toNat
    let pad := sent ++ List.replicate (60 - sent.length) Config.padByte
    (s.waits 8 1 r i d = true → s.hostBufJudge d = none → s.zIngress 8 pad false false (if bitAt d.w4.toNat 17 then some (d.w4.toNat % 8) else none) = t →
      (t.2.why ≠ 6 → t.2.none_ = true ∨ t.2.admitted ≠ [] →
        exec (.txframe r i) s = .next ((t.1.finishDone d t.2.admitted.length).hostServe 64))
      ∧ (t.2.why = 6 ∨ (t.2.none_ = false ∧ t.2.admitted = []) → exec (.txframe r i) s = .next ((t.1.finish d 0o20 t.2.why).hostServe 64)))
    ∧ (s.waits 8 1 r i d = true → s.hostBufJudge d = some e → exec (.txframe r i) s = .next ((s.finish d e.1 e.2).hostServe 64))
    ∧ (s.waits 8 2 r i d = true → s.hostWaiting.findSome? s.hostTake = none → exec (.rxcopy r i) s = .next s)
    ∧ (s.waits 8 2 r i d = true → s.hostWaiting.findSome? s.hostTake = some t.1 → exec (.rxcopy r i) s = .next (t.1.hostServe 63))
    ∧ (s.waits 8 3 r i d = true → s.hostWaiting.findSome? s.hostTake = none → exec (.rxbind r i) s = .next s)
    ∧ (s.waits 8 3 r i d = true → s.hostWaiting.findSome? s.hostTake = some t.1 → exec (.rxbind r i) s = .next (t.1.hostServe 63))
    ∧ (s.waits 8 4 r i d = true → s.zsw.binds.find? (fun x => decide (x.ring = d.ring ∧ x.slot = d.w2.toNat)) = some b →
        exec (.rxfree r i) s = .next (((s.unbind b).finishDone d 0).hostServe 64))
    ∧ (s.waits 8 4 r i d = true → s.zsw.binds.find? (fun x => decide (x.ring = d.ring ∧ x.slot = d.w2.toNat)) = none →
        exec (.rxfree r i) s = .next (s.finish d 0o22 0))
    ∧ (s.zsw.binds.find? (fun x => decide (x.slot = w.val)) = some b → s.on ZSW_HCFG_BTO = true →
        exec (.bindingExpiry w) s = .next ((((s.unbind b).raise ZSW_FLAG_BINDTO).record 12 7 w).hostServe 64))
    ∧ (s.zsw.binds.find? (fun x => decide (x.slot = w.val)) = none → exec (.bindingExpiry w) s = .next s)
    ∧ (s.on ZSW_AUDCTL_PER = true → s.zsw.census = none →
        exec .censusTimer s = .next ((s.modZsw (fun z => { z with census := some (s.takeCensus none) })).setFld ZSW_AUDRES_RESULT 1))
    ∧ (s.on ZSW_AUDCTL_PER = false → exec .censusTimer s = .next s)
    ∧ (s.zsw.census = some c → c.leak = [] → c.dup = 0 → c.first = none →
        exec .censusDone s = .next (((((((s.modZsw (fun z => { z with census := none, out := z.out.filter (fun _ => true) })).setFld ZSW_FREE_FREE
          (s.zFreeN + 0)).setFld ZSW_AUDRES_RESULT 2).setFld ZSW_AUDRES_FOUND c.found).setFld ZSW_AUDLEAK_LEAK 0).setFld ZSW_AUDLEAK_DUP 0).raise
          ZSW_FLAG_AUDDONE))
    ∧ (s.zsw.census = none → exec .censusDone s = .next s)

/-- R396 to R409: PHY faults, PLCA beacons, TC10, and the zone time that follows its master. -/
def Obligations.EthernetPorts : Prop :=
  ∀ (s : State) (p : Fin 8) (b : Fin 2) (n : Fin 6) (ofs : BitVec 64) (ans : Bool) (d : BitVec 32), s.domOn .zsw = true →
    (s.on (ETH_PCFG_EN p) = true → s.on (ETH_PSTAT_FENCED p) = false →
        exec (.phyFault p) s = .next (((s.raise ETH_FLAG_PHYF).pEvent p 7).record 13 2 p))
    ∧ (s.on (ETH_PCFG_EN p) = false → exec (.phyFault p) s = .next s)
    ∧ (s.on (ETH_PLCA_EN (6 + b)) = true → s.on (ETH_PSTAT_PLCAA (6 + b)) = true →
        exec (.plcaBeaconLoss b) s = .next (((s.setFld (ETH_PSTAT_PLCAA (6 + b)) 0).count (ETH_PLCNT_BCNL (6 + b))).record 13 5 (6 + b)))
    ∧ (s.on (ETH_PLCA_EN (6 + b)) = true → s.on (ETH_PCFG_EN (6 + b)) = true → s.on (ETH_PSTAT_FENCED (6 + b)) = false →
        exec (.plcaBeacon b) s = .next (s.setFld (ETH_PSTAT_PLCAA (6 + b)) 1))
    ∧ (s.on (ETH_PLCA_EN (6 + b)) = false → exec (.plcaBeacon b) s = .next s ∧ exec (.plcaBeaconLoss b) s = .next s)
    ∧ (s.tc10 n = 2 → exec (.lpsAckReceived n) s = .next (((s.setTc10 n 3).linkDown n false).pEvent n 2)
        ∧ exec (.sleepHandshakeTimeout n) s = .next ((s.setTc10 n 1).pEvent n 5)
        ∧ exec (.tc10Wur n) s = .next ((s.setTc10 n 1).pEvent n 6))
    ∧ (s.tc10 n ≠ 2 → exec (.lpsAckReceived n) s = .next s ∧ exec (.sleepHandshakeTimeout n) s = .next s)
    ∧ ((s.tc10 n = 1 ∨ s.tc10 n = 2) → s.on (ETH_PSTAT_LINK n) = true → s.on (ETH_TCFG_ACCEPT n) = true →
        exec (.remoteSleepRequest n) s = .next (((((s.pEvent n 4).setTc10 n 3).linkDown n false)).pEvent n 2))
    ∧ ((s.tc10 n = 1 ∨ s.tc10 n = 2) → s.on (ETH_PSTAT_LINK n) = true → s.on (ETH_TCFG_ACCEPT n) = false →
        exec (.remoteSleepRequest n) s = .next (s.pEvent n 4))
    ∧ (s.tc10 n = 3 → s.on (ETH_TSTAT_WKARM n) = true → s.pw.mode ≠ .bedded →
        let u := (((s.setTc10 n 4).pEvent n 3).raise ETH_FLAG_WAKE).count (ETH_PCNT_WAKES n)
        exec (.tc10Wup n) s = .next ((u.each (onesBelow 6 (u.fld (ETH_TCFG_FWD n))) (fun q u => u.tc10SendWup q)).latchWake 0o05 n))
    ∧ (s.tc10 n = 1 → s.on (ETH_PSTAT_LINK n) = true →
        let u := ((s.pEvent n 3).raise ETH_FLAG_WAKE).count (ETH_PCNT_WAKES n)
        exec (.tc10Wur n) s = .next (u.each (onesBelow 6 (u.fld (ETH_TCFG_FWD n))) (fun q u => u.tc10SendWup q)))
    ∧ (s.tc10 n ≠ 1 → s.tc10 n ≠ 2 → exec (.tc10Wur n) s = .next s ∧ exec (.remoteSleepRequest n) s = .next s)
    ∧ (s.tc10 n ≠ 3 → exec (.tc10Wup n) s = .next s)
    ∧ (s.on ETH_ASCTL_EN = false → exec (.syncFollowUp n ofs) s = .next s ∧ exec .gptpHoldover s = .next s ∧ exec (.peerDelayExchange n ans d) s = .next s)
    ∧ (let u := (s.setFld (ETH_ASOFS_OFS) (satSigned 18 ofs.toInt)).setFld ETH_ASSTAT_HOLD 0
       s.on ETH_ASCTL_EN = true → s.on ETH_ASCTL_GM = false → s.fld (ETH_ASP_ROLE n) = 2 → s.on (ETH_PSTAT_LINK n) = true →
       u.ethStepThr < ofs.toInt.natAbs →
        let c : Int := (u.eth.mc : Int) - ofs.toInt * 64
        let w := (((u.setCounter (c % ((2 ^ 70 : Nat) : Int)).toNat).modEth (fun e => { e with inN := 0, outN := 0, slew := 0, slewLeft := 0 })).countBy
          ETH_ASSTAT_STEPS 1).raise ETH_FLAG_TSTEP
        w.on ETH_ASSTAT_LOCK = false →
        exec (.syncFollowUp n ofs) s = .next ((w.record 13 4 n).modEth (fun e => { e with
          sync := (List.range 6).filter (fun q => decide ((w.record 13 4 n).fld (ETH_ASP_ROLE q) = 1) && (w.record 13 4 n).on (ETH_ASP_ASCAP q)) })))
    ∧ (s.on ETH_ASCTL_EN = true → s.on ETH_ASCTL_GM = false → s.on ETH_ASSTAT_HOLD = false →
        let u := (s.setFld ETH_ASSTAT_HOLD 1).raise ETH_FLAG_THOLD
        u.on ETH_ASSTAT_LOCK = true →
        exec .gptpHoldover s = .next (((((u.setFld ETH_ASSTAT_LOCK 0).raise ETH_FLAG_LOCKL).modEth (fun e =>
          { e with slew := 0, slewLeft := 0, inN := 0, outN := 0 })).record 13 3 0)))
    ∧ (s.on ETH_ASCTL_EN = true → s.fld (ETH_ASP_ROLE n) ≠ 0 → 2 ≤ nGet s.eth.pdOk n → d.toNat ≤ s.fld ETH_ASCTL_PDTH * 10 → d.toNat < 2 ^ 18 →
        exec (.peerDelayExchange n true d) s = .next (((s.setFld (ETH_ASPD_PD n) d.toNat).modEth (fun e =>
          { e with pdOk := nPut e.pdOk n 3, pdMiss := nPut e.pdMiss n 0 })).setFld (ETH_ASP_ASCAP n) 1))
    ∧ (s.on ETH_ASCTL_EN = true → s.fld (ETH_ASP_ROLE n) ≠ 0 → 2 ≤ nGet s.eth.pdMiss n →
        exec (.peerDelayExchange n false d) s = .next (((s.count (ETH_ASCNT_PDMISS n)).modEth (fun e =>
          { e with pdOk := nPut e.pdOk n 0, pdMiss := nPut e.pdMiss n 3 })).setFld (ETH_ASP_ASCAP n) 0))


/-! ### Rings and faults -/

/-- R65 to R91: doorbells, the fetch of descriptors, deadlines, provisionals and transactions. -/
def Obligations.RingsAndTransactions : Prop :=
  ∀ (s : State) (core : CoreId) (r : Fin 64) (i : Fin 1024) (v : BitVec 10) (e : Fin 9) (o : Fin 8) (d p : Desc) (q : Nat)
    (late held : Bool) (w : CommitWait) (x : Nat × Nat) (y : Nat × Nat × Nat),
    s.domOn .fabric = true → s.domOn .act = true →
    let u := s.drainAll core.num
    let own := d.owner
    (u.domOn .fabric = true → core.num = u.fld (RNG_RCFG_OWNER r) → u.on (RNG_RCFG_EN r) = true → u.fld (RNG_RSTAT_STATE r) = 1 → v.toNat < u.ringSize r →
        exec (.doorbell core r v) s = .next (((u.setFld (RNG_DB_PIDX r) v.toNat).setFld (RNG_RSTAT_STALL r) 0).traceC 3 8 r v.toNat u.faultTime.1))
    ∧ (u.domOn .fabric = true → core.num ≠ u.fld (RNG_RCFG_OWNER r) ∨ u.on (RNG_RCFG_EN r) = false ∨ u.fld (RNG_RSTAT_STATE r) ≠ 1 → v.toNat < u.ringSize r →
        exec (.doorbell core r v) s = .next (u.raise RNG_FLAG_DBREF))
    ∧ (u.domOn .fabric = true → core.num = u.fld (RNG_RCFG_OWNER r) → u.on (RNG_RCFG_EN r) = true → u.fld (RNG_RSTAT_STATE r) = 1 → u.ringSize r ≤ v.toNat →
        exec (.doorbell core r v) s = .next (u.raise RNG_FLAG_ENCREF))
    ∧ (e.val ≠ 0 → s.rngHeld = false → (2 ≤ e.val → e.val ≤ 6 → s.pw.ready = true ∧ s.heldBy e < 64) →
        (s.nextRing e = some q → exec (.descriptorFetch e) s = .next (s.fetch e q))
        ∧ (s.nextRing e = none → exec (.descriptorFetch e) s = .next s))
    ∧ (s.rngHeld = true → exec (.descriptorFetch e) s = .next s)
    ∧ (s.waits d.eng 0 r i d = true → (d.eng = 1 ∨ 7 ≤ d.eng) → exec (.descriptorNop r i) s = .next (s.finishDone d 0))
    ∧ (let z : Desc := { d with phase := .ready, wasTimed := true, cond := s.condOf d (late || d.due) }
       let u := s.setDesc z
       let t := (u.confSupersede z).actDesc z held
       s.descAt r i .timed = some d → d.eng ≠ 1 → s.descFrozen d = false → s.sameTick d = false →
        (u.breaksPromise t = false → exec (.deadline r i late held) s = .next (t.unwarm z (fun t => t.provUndo z)))
        ∧ (u.breaksPromise t = true → exec (.deadline r i late held) s = .next (u.withdraw z stDenied))
        ∧ (d.opcode = 0 → 7 ≤ d.eng → d.warm = false → s.rng.commits.isEmpty = true → s.fld PCR_ENTRY_PHASE ≠ 1 →
            s.descs.all (fun x => !x.conf) = true → exec (.deadline r i late held) s = .next (u.finishDone z 0)))
    ∧ (s.descAt r i .timed = none → s.descAt r i .provWait = some d → s.descFrozen d = false → s.rng.commits.isEmpty = true →
        s.fld PCR_ENTRY_PHASE ≠ 1 →
        exec (.deadline r i late held) s = .next (s.provStart { d with wasTimed := true, cond := s.condOf d (late || d.due) }))
    ∧ (s.descAt r i .timed = some d → d.eng ≠ 1 → s.descFrozen d = false → s.sameTick d = true →
        exec (.deadline r i late held) s = .next ((s.provUndo d).finish d stSuperseded 0))
    ∧ (s.descAt r i .timed = some d → s.descFrozen d = true → exec (.deadline r i late held) s = .next s)
    ∧ (s.descAt r i .prov = some d →
        exec (.tprovExpiry r i) s = .next (lfShown (fun s => ((s.provUndo d).finish d stReverted 0).count SEQ_PCNT1_PREV) s)
        ∧ exec (.provleak r i) s = .next ((((s.provUndo d).finish d stFenced 0).raise SEQ_FLAG_PLEAK).record 6 3 (leakInst d.eng d.target)))
    ∧ (s.descAt r i .prov = none → exec (.tprovExpiry r i) s = .next s ∧ exec (.provleak r i) s = .next s)
    ∧ (s.waits 1 1 r i d = true →
        (s.fld PCR_ENTRY_PHASE ≠ 1 → s.beginBars d = some x → exec (.begin r i) s = .next (s.finish d x.1 x.2))
        ∧ (s.fld PCR_ENTRY_PHASE ≠ 1 → s.beginBars d = none → exec (.begin r i) s = .next (((((((s.setFld (RNG_TXSTAT_OPEN own) 1).setFld
          (RNG_TXSTAT_WAIT own) 0).setFld (RNG_TXCLAIM_CLAIM own) d.w2.toNat).setFld (RNG_TXLEFT_LEFT own) d.w3.toNat).modRng (fun z =>
          { z with left := nPut z.left own ((d.w3.toNat * 32768 + 999) / 1000) })).when (bitAt d.w2.toNat 6) State.shadowOcfg).finish d stDone 0)))
    ∧ (s.waits 1 3 r i d = true →
        (s.commitBars d = some x → exec (.commit r i) s = .next (s.finish d x.1 x.2))
        ∧ (s.commitBars d = none → s.refuser own = some y →
          exec (.commit r i) s = .next ((s.txRelease own 4).finish d y.2.1 (y.1 * 256 + y.2.2)))
        ∧ (s.commitBars d = none → s.refuser own = none → exec (.commit r i) s = .next (((s.setFld (RNG_TXSTAT_WAIT own) 1).setDesc
          { d with phase := .timed }).modRng (fun z => { z with
            commits := smInsert z.commits own ⟨d.id, d.w2.toNat % 4, bitsOf d.w2.toNat 7 4⟩,
            fencedSince := smErase z.fencedSince own }))))
    ∧ (smFind s.rng.commits o = some w → s.descId w.id = some d → w.point = 0 → s.fencedBlock o = none →
        exec (.commitPoint o late) s = .next ((((s.applyShadow o).committed s o none).txRelease o 1).finish d stDone 0))
    ∧ (smFind s.rng.commits o = some w → s.descId w.id = some d → w.point = 2 → s.grpRuns w.group = false →
        exec (.commitPoint o late) s = .next ((s.txRelease o 4).finish d 0o24 w.group))
    ∧ (smFind s.rng.commits o = some w → s.descId w.id = some d → w.point = 1 → s.fencedBlock o = none →
        exec (.commitPoint o late) s = .next ((((s.applyShadow o).committed s o none).txRelease o 1).finish d stDone
          (s.condOf d (late || d.due) * 512)))
    ∧ (smFind s.rng.commits o = some w → s.descId w.id = some d → w.point ≠ 2 → s.fencedBlock o = some q →
        exec (.commitPoint o late) s = .next ((s.txRelease o 4).finish d stFenced (q * 256)))
    ∧ (smFind s.rng.commits o = none → exec (.commitPoint o late) s = .next s)
    ∧ (s.waits 1 4 r i d = true → d.w2 = 0 → d.w3 = 0 → d.w4 = 0 →
        (s.on (RNG_TXSTAT_OPEN own) = false → exec (.rollback r i) s = .next (s.finish d 0o22 0))
        ∧ (s.on (RNG_TXSTAT_OPEN own) = true → smFind s.rng.commits own = none →
          exec (.rollback r i) s = .next ((s.txRelease own 2).finish d stDone 0))
        ∧ (s.on (RNG_TXSTAT_OPEN own) = true → smFind s.rng.commits own = some w → s.descId w.id = some p →
          exec (.rollback r i) s = .next (((s.finish p stAborted 0).txRelease own 2).finish d stDone 0)))
    ∧ (o.val ≠ 3 → s.on (RNG_TXSTAT_OPEN o) = true → s.on (RNG_TXSTAT_WAIT o) = false →
        exec (.txTimeout o) s = .next (((s.txRelease o 3).raise RNG_FLAG_TXEXP).record 3 2 o))
    ∧ (s.on (RNG_TXSTAT_OPEN o) = false → exec (.txTimeout o) s = .next s)

/-- R93 to R99: the remote ring agent takes its frames in order, checks their tags and freshness, and answers. -/
def Obligations.RemoteRingAgent : Prop :=
  ∀ (s : State) (port : Nat) (b : List Byte) (l : List (Nat × List Byte)) (k : Fin 4), s.domOn .fabric = true → s.rngHeld = false →
    let h := s.zHead port b none
    let p := b.drop h.off
    let n := byteField p 1 1
    let m := byteField p 3 1
    let len := 10 + 24 * m
    let u := s.modZsw (fun z => { z with agentIn := l })
    (s.zsw.agentIn = (port, b) :: l → byteField p 0 1 ≠ 0x11 ∨ 3 < n ∨ m = 0 ∨ 8 < m ∨ p.length < len + 8 →
        exec .remoteRequest s = .next (((u.count RNG_ADROP_FMT).raise RNG_FLAG_RDROP).record 3 3 0))
    ∧ (s.zsw.agentIn = (port, b) :: l → byteField p 0 1 = 0x11 → n ≤ 3 → 1 ≤ m → m ≤ 8 → len + 8 ≤ p.length → s.on (RNG_SCTL_EN n) = false →
        exec .remoteRequest s = .next ((u.count RNG_ADROP_NOSLOT).raise RNG_FLAG_RDROP))
    ∧ (s.zsw.agentIn = (port, b) :: l → byteField p 0 1 = 0x11 → n ≤ 3 → 1 ≤ m → m ≤ 8 → len + 8 ≤ p.length → s.on (RNG_SCTL_EN n) = true →
        sliceD p len 8 0 ≠ s.slotTag n (p.take len) →
        exec .remoteRequest s = .next (((u.count (RNG_SDROP_AUTH n)).raise RNG_FLAG_RDROP).record 3 4 n))
    ∧ (let f := byteField p 4 4
       s.zsw.agentIn = (port, b) :: l → byteField p 0 1 = 0x11 → n ≤ 3 → 1 ≤ m → m ≤ 8 → len + 8 ≤ p.length → s.on (RNG_SCTL_EN n) = true →
       sliceD p len 8 0 = u.slotTag n (p.take len) →
        (f ≤ u.shf n → exec .remoteRequest s = .next (((u.count (RNG_SDROP_FRESH n)).raise RNG_FLAG_RDROP).record 3 5 n))
        ∧ (let w := u.noteReply n (u.zHead port b none) f
           let ring := byteField p 2 1
           let req := byteField p 8 2
           u.shf n < f →
            (ring < 56 ∨ 63 < ring ∨ w.fld (RNG_RCFG_OWNER ring) ≠ 4 + n → exec .remoteRequest s = .next (w.refuseReq n ring 1 req))
            ∧ (56 ≤ ring → ring ≤ 63 → w.fld (RNG_RCFG_OWNER ring) = 4 + n → w.on (RNG_RCFG_EN ring) = true → w.fld (RNG_RSTAT_STATE ring) = 1 →
                (List.range (8 * m)).all (fun j => decide (byteField p (10 + 3 * j) 1 < 4)) = true →
                w.slotOpen n + m ≤ (if w.fld (RNG_SCTL_LIMIT n) = 0 then 64 else w.fld (RNG_SCTL_LIMIT n)) →
                (w.reqSlots ring m).all (w.slotFree ring) = true →
                exec .remoteRequest s = .next ((w.postReq n ring m req p).acceptance n ring 0 req (w.fld (RNG_DB_PIDX ring)) m))))
    ∧ (s.zsw.agentIn = [] → exec .remoteRequest s = .next s)
    ∧ (lGet s.rng.gather k = [] → exec (.completionResponse k) s = .next s)
    ∧ (let g := lGet s.rng.gather k
       let t := (s.modRng (fun x => { x with gather := lPut x.gather k (g.drop 8) })).smfUp k
       g ≠ [] → exec (.completionResponse k) s = .next (t.respond k (natBe 1 0x13 ++ natBe 1 k ++ natBe 1 (g.take 8).length ++ natBe 1 0
        ++ natBe 4 (t.smf k) ++ (g.take 8).flatMap Gathered.bytes)))

/-- R478 to R489: acknowledgement, the log's release, UNFENCE, CLR4, FLTn and the trace port. -/
def Obligations.FaultHandling : Prop :=
  ∀ (s : State) (core : CoreId) (b : Fin 16) (m v : Word) (n : Fin 16) (i : Byte) (f : FUnit) (r : Spoor) (l : List Spoor),
    s.domOn .fabric = true →
    (s.domOn (fltDom b) = true → exec (.faultAck core b m) s = .next (((s.modFlt (fun x => { x with
        unack := smKeep (fun k => !(decide (k / 32 = b.val) && decide (1 ≤ k % 32) && bitAt m.toNat (k % 32 - 1))) x.unack })).setFld (FLT_FPEND_PEND b)
        (s.fld (FLT_FPEND_PEND b) - Nat.land (s.fld (FLT_FPEND_PEND b)) m.toNat)).refreshFlt b))
    ∧ (s.domOn (fltDom b) = false → exec (.faultAck core b m) s = .next (s.raise FLT_GFLAG_OFFW)
        ∧ exec (.logRelease core b n) s = .next (s.raise FLT_GFLAG_OFFW) ∧ exec (.clrstk core b) s = .next (s.raise FLT_GFLAG_OFFW))
    ∧ (s.domOn (fltDom b) = true → n.val ≤ 8 → let c := s.fld (FLT_FST_LOGN b)
        let k := if n.val ≤ c then n.val else c
        exec (.logRelease core b n) s = .next (((s.each (List.range (c - k)) (fun j t => t.logMove b j (j + k))).each (List.range k)
          (fun j t => t.logWipe b (c - k + j))).setFld (FLT_FST_LOGN b) (c - k)))
    ∧ (s.domOn (fltDom b) = true → 8 < n.val → exec (.logRelease core b n) s = .next (s.raise FLT_GFLAG_ENCREF))
    ∧ (s.domOn (fltDom b) = true → exec (.clrstk core b) s = .next (((s.setFld (FLT_FSTKY_STICKY b) 0).setFld (FLT_FOVF_OVF b) 0).each
        (List.range 18) (fun k t => ((t.setReg (rFLT_FFA b k) 0).setReg (rFLT_FFB b k) 0).setReg (rFLT_FFC b k) 0)))
    ∧ (core ≠ .s → exec (.unfence core b i) s = .next (s.raise FLT_GFLAG_WRREF) ∧ exec (.clr4 core) s = .next (s.raise FLT_GFLAG_WRREF))
    ∧ (s.domOn (unitDom b i.toNat ((s.unitsOf b i.toNat).find? s.unitFenced)) = false →
        exec (.unfence .s b i) s = .next (s.setFld FLT_UFSTAT_RESULT 1))
    ∧ ((s.unitsOf b i.toNat).find? s.unitFenced = none → s.domOn (unitDom b i.toNat none) = true →
        exec (.unfence .s b i) s = .next (s.setFld FLT_UFSTAT_RESULT 2))
    ∧ ((s.unitsOf b i.toNat).find? s.unitFenced = some f → s.domOn (unitDom b i.toNat (some f)) = true →
        (bGet s.flt.fenced (2 ^ 16 + f.key) = true → exec (.unfence .s b i) s = .next (s.setFld FLT_UFSTAT_RESULT 3))
        ∧ (bGet s.flt.fenced (2 ^ 16 + f.key) = false → s.unackHigh b = true → exec (.unfence .s b i) s = .next (s.setFld FLT_UFSTAT_RESULT 4))
        ∧ (bGet s.flt.fenced (2 ^ 16 + f.key) = false → s.unackHigh b = false →
          exec (.unfence .s b i) s = .next ((s.unfence b i.toNat f).setFld FLT_UFSTAT_RESULT 0)))
    ∧ exec (.clr4 .s) s = .next ((s.setFld FLT_FLTN_L4S 0).driveFltn)
    ∧ exec .fltnMinEnd s = .next ((s.setFld FLT_FLTN_MIN 0).driveFltn)
    ∧ (s.on FLT_SPCTL_EN = false → exec .spoorRecordSend s = .next s)
    ∧ (s.on FLT_SPCTL_EN = true → s.flt.sinceSync < 1024 → s.spoolMove.flt.fifo = [] →
        exec .spoorRecordSend s = .next (s.spoolMove.modFlt (fun x => { x with sent := idleRec.line, sinceSync := s.flt.sinceSync + 1 })))
    ∧ (s.on FLT_SPCTL_EN = true → s.flt.sinceSync < 1024 → s.spoolMove.flt.fifo = r :: l →
        exec .spoorRecordSend s = .next (((((s.spoolMove.modFlt (fun x => { x with fifo := l })).setFld FLT_SPSTAT_FILL l.length)).modFlt (fun x =>
          { x with sent := r.line, sinceSync := s.flt.sinceSync + 1 })).mirrorAdd r))
    ∧ ((List.range 16).all (fun k => decide (nGet s.flt.shed (k * 2) = 0 ∧ nGet s.flt.shed (k * 2 + 1) = 0)) = true →
        exec .spoorSummary s = .next s)
    ∧ (let bs := (List.range 16).filter (fun k => decide (0 < nGet s.flt.shed (k * 2) ∨ 0 < nGet s.flt.shed (k * 2 + 1)))
       let rec_ (k : Nat) : Spoor := ⟨toWord (3 * 2 ^ 16 + 14 * 2 ^ 12 + k * 2 ^ 8),
         toWord (nGet s.flt.shed (k * 2) * 2 ^ 9 + nGet s.flt.shed (k * 2 + 1)), toWord (s.faultTime.1 / 2 ^ 18), toWord s.faultTime.1⟩
       let q := bs.foldl (fun q k => aheadOfBC (rec_ k) q) s.flt.fifo
       bs ≠ [] → exec .spoorSummary s = .next (((s.modFlt (fun x => { x with fifo := q, shed := [] })).setFld FLT_SPSTAT_FILL q.length).record 15 2 0))
    ∧ (s.on FLT_SPCTL_EN = true → 1024 ≤ s.flt.sinceSync → s.domOn .act = true →
        exec .spoorRecordSend s = .next ((s.modFlt (fun x => { x with sent := s.syncRec.line, sinceSync := 0 })).mirrorAdd s.syncRec))
    ∧ (s.flt.mirror = [] → exec .mirrorFrameSend s = .next s)
    ∧ (s.flt.mirror ≠ [] → (s.offerP8 s.mirrorBytes).2 = false → exec .mirrorFrameSend s = .next ((s.offerP8 s.mirrorBytes).1.modFlt (fun x =>
        { x with mirror := [], mirSeq := (x.mirSeq + 1) % 65536 })))
    ∧ exec (.softTrace core v) s = .next (s.traceC 0 10 core.num v.toNat s.faultTime.1)


/-! ### Access -/

/-- R415 to R438: the LF descriptors and the frames of a key. -/
def Obligations.KeyFields : Prop :=
  ∀ (s : State) (r : Fin 64) (i : Fin 1024) (d : Desc) (c : Fin 4) (id viol : BitVec 32) (crc status : Byte) (rk tk : BitVec 64)
    (data mac : BitVec 32) (ofs : BitVec 32) (code : Fin 32) (ant : Fin 3) (st : Nat), s.domOn .act = true →
    let n := d.target
    let u := s.lfSupersede n
    let x := s.lf c
    let sh (v : State) : State := v.lfTrace s
    let here := s.acc.field = some c.val
    (let starts (e : Instr) (op : Nat) : Prop := s.ready 6 op r i d = true →
        (u.lfRefuse d = some st → exec e s = .next (sh <| u.finish d st 0))
        ∧ (u.lfRefuse d = none → u.acc.field = none → exec e s = .next (sh <| u.lfCarrier d))
        ∧ (u.lfRefuse d = none → u.acc.field ≠ none → exec e s = .next (sh <| u.setDesc { d with aux := 1 }))
     starts (.search r i) 1 ∧ starts (.learn r i) 4 ∧ starts (.lfDiag r i) 5)
    ∧ (s.ready 6 2 r i d = true → (u.lf n).step = .session → u.acc.field = some n →
        exec (.readpg r i) s = .next (sh <| ((u.startDesc d).lfSendMac n [0x56, d.w2.toNat]).modLf n (fun x => { x with step := .read, own := some d.id })))
    ∧ (s.ready 6 3 r i d = true → (u.lf n).step = .session → u.acc.field = some n →
        exec (.writepg r i) s = .next (sh <| ((u.startDesc d).lfSendMac n ([0x57, d.w2.toNat] ++ (numBytes 2 d.w3.toNat ++ numBytes 2 d.w4.toNat))).modLf n
          (fun x => { x with step := .write, own := some d.id })))
    ∧ (s.ready 6 2 r i d = true → u.acc.field ≠ some n → exec (.readpg r i) s = .next (sh <| u.finish d 0o24 0))
    ∧ (s.ready 6 6 r i d = true → s.isFenced 14 n = false →
        ((s.lf n).therm = true → exec (.lfClear r i) s = .next (sh <| s.finish d 0o35 0))
        ∧ ((s.lf n).therm = false → exec (.lfClear r i) s = .next (sh <| (s.modLf n (fun x => { x with latched := false })).finishDone d 0)))
    ∧ (s.ready 6 6 r i d = true → s.isFenced 14 n = true → exec (.lfClear r i) s = .next (sh <| s.finish d stFenced 0))
    ∧ (s.ready 6 7 r i d = true → u.acc.field = some n → exec (.lfEnd r i) s = .next (sh <| (u.lfSleep n stAborted 0).finishDone d 0))
    ∧ (s.ready 6 7 r i d = true → u.acc.field ≠ some n → exec (.lfEnd r i) s = .next (sh <| u.finishDone d 0))
    ∧ (let t := s.lfAnswer c ofs
       here → x.step = .wake → lfLate ofs = true → exec (.idrep c id viol crc ofs) s = .next (sh t))
    ∧ (let t := s.lfAnswer c ofs
       here → x.step = .wake → lfLate ofs = false → topBit viol.toNat = none → crc.toNat = keyCrc (numBytes 4 id.toNat) →
        exec (.idrep c id viol crc ofs) s = .next (sh <| t.lfWinner c id.toNat))
    ∧ (let t := s.lfAnswer c ofs
       here → x.step = .wake → lfLate ofs = false → topBit viol.toNat = none → crc.toNat ≠ keyCrc (numBytes 4 id.toNat) →
        exec (.idrep c id viol crc ofs) s = .next (sh <| (t.modLf c (fun y => { y with id := id.toNat, heard := true })).lfRetry c))
    ∧ (x.step ≠ .wake → exec (.idrep c id viol crc ofs) s = .next s ∧ exec (.keyNoAnswer c) s = .next s)
    ∧ (let t := s.lfAnswer c ofs
       let y := t.lf c
       here → x.step = .challenge → lfLate ofs = false → crc.toNat = keyCrc (numBytes 8 rk.toNat ++ numBytes 8 tk.toNat) →
       (aesEnc (numBytes 16 y.key) (numBytes 8 y.rb ++ numBytes 8 rk.toNat)).take 8 = numBytes 8 tk.toNat →
        exec (.authrep c rk tk crc ofs) s = .next (sh <| (t.modLf c (fun z => { z with step := .confirm, rk := rk.toNat })).lfSend c
          (0x55 :: (aesEnc (numBytes 16 y.key) (numBytes 8 rk.toNat ++ numBytes 8 y.rb)).drop 8)))
    ∧ (let t := s.lfAnswer c ofs
       here → x.step = .challenge → crc.toNat ≠ keyCrc (numBytes 8 rk.toNat ++ numBytes 8 tk.toNat) →
        exec (.authrep c rk tk crc ofs) s = .next (sh <| t.lfRetry c))
    ∧ (here → x.step = .confirm → lfLate ofs = false → crc.toNat = keyCrc [status.toNat] → status = 0 →
        exec (.keyAck c status crc ofs) s = .next (sh <| (s.lfAnswer c ofs).authAck c))
    ∧ (here → x.step = .confirm → status ≠ 0 → exec (.keyAck c status crc ofs) s = .next (sh <| (s.lfAnswer c ofs).lfRetry c))
    ∧ (here → x.step = .personalise → lfLate ofs = false → crc.toNat = keyCrc [status.toNat] → status = 0 →
        exec (.keyAck c status crc ofs) s = .next (sh <| (s.lfAnswer c ofs).learnAck c))
    ∧ (here → x.step = .write → lfLate ofs = false → crc.toNat = keyCrc [status.toNat] → status = 0 →
        exec (.keyAck c status crc ofs) s = .next (sh <| ((s.lfAnswer c ofs).lfFinish c stDone 0).modLf c (fun y => { y with step := .session, own := none })))
    ∧ (here → x.step = .write → lfLate ofs = false → crc.toNat = keyCrc [status.toNat] → status = 3 →
        exec (.keyAck c status crc ofs) s = .next (sh <| ((s.lfAnswer c ofs).lfFinish c 0o25 0).modLf c (fun y => { y with step := .session, own := none })))
    ∧ (let t := s.lfAnswer c ofs
       here → x.step = .read → t.lfOwner c = some d → crc.toNat ≠ keyCrc (numBytes 4 data.toNat ++ numBytes 4 mac.toNat) →
        exec (.keyData c data mac crc ofs) s = .next (sh <| t.lfSleep c 0o22 0))
    ∧ (let t := s.lfAnswer c ofs
       here → x.step = .read → t.lfOwner c = some d → lfLate ofs = false → crc.toNat = keyCrc (numBytes 4 data.toNat ++ numBytes 4 mac.toNat) →
       (t.lf c).mac (numBytes 4 data.toNat) = numBytes 4 mac.toNat → d.ring = 64 →
        exec (.keyData c data mac crc ofs) s = .next (sh <| (t.lfFinish c stDone 0).modLf c (fun y =>
          { y with step := .session, own := none, ctr := (y.ctr + 1) % 65536 })))
    ∧ (here → x.step = .wake → x.preLen = 0 → x.attempts = 0 → exec (.keyNoAnswer c) s = .next (sh <| s.lfSleep c 0o20 0))
    ∧ (here → x.step = .session → exec (.sessionHoldEnd c) s = .next (sh <| s.lfSleep c 0o24 0) ∧ exec (.sessionTimeout c) s = .next s)
    ∧ (here → x.step = .challenge → exec (.sessionTimeout c) s = .next (sh <| s.lfSleep c 0o23 0) ∧ exec (.sessionHoldEnd c) s = .next s)
    ∧ (here → exec (.lfAntennaShort c) s = .next (sh <| ((((s.lfEnd c 0o27 0).modLf c (fun y => { y with latched := true })).lfEvt c 7).record 14 1 c))
        ∧ exec (.lfAntennaOpen c) s = .next (sh <| ((s.lfEnd c 0o26 0).lfEvt c 6).record 14 2 c))
    ∧ (s.acc.field = none → exec (.lfAntennaShort c) s = .next s ∧ exec (.lfAntennaOpen c) s = .next s ∧ exec (.lfDiagDone c code ant) s = .next s)
    ∧ (x.therm = false → s.isFenced 14 c = false → s.acc.field = none → exec (.lfDriverHot c) s
        = .next (sh <| (((s.modLf c (fun y => { y with therm := true })).raise ACC_FLAG_LFHOT).lfEvt c 5).record 14 3 c))
    ∧ (x.therm = true → exec (.lfDriverHot c) s = .next s)
    ∧ exec (.lfDriverCool c) s = .next (sh <| s.modLf c (fun y => { y with therm := false }))
    ∧ (here → x.step = .diag → ant.val = 0 → s.on (ACC_LFCFG_ATUNE c) = true →
        exec (.lfDiagDone c code ant) s = .next (sh <| (s.setFld (ACC_LFSTAT_TUNED c) code.val).lfEnd c stDone code.val))

/-- R428 to R436: the learn session, physical presence, the crypto engines and the TRNG. -/
def Obligations.PresenceAndCrypto : Prop :=
  ∀ (s : State) (k : Nat), s.domOn .fabric = true →
    let opens (src : Nat) : State := ((s.modAcc (fun a => { a with pres := some (60 * 32768), auth := 0, evPres := true })).count ACC_PLOG_PROOFS).setFld
      ACC_PRES_SRC src
    let again (src : Nat) : State := (s.modAcc (fun a => { a with pres := some (60 * 32768) })).setFld ACC_PRES_SRC src
    exec .learnSessionEnd s = .next (s.modAcc (fun a => { a with shadow := none, learnLeft := 0 }))
    ∧ (s.pw.mode = .run → s.svcOk = true → s.acc.pres = none → exec .svcnHeld s = .next (opens 0))
    ∧ (s.pw.mode = .run → s.svcOk = true → s.acc.pres = some k → exec .svcnHeld s = .next (again 0))
    ∧ (s.svcOk = false → exec .svcnHeld s = .next s ∧ exec .svcnAtPowerUp s = .next s)
    ∧ (s.pw.svcPor = false → s.svcOk = true → exec .svcnAtPowerUp s = .next ((s.modPw (fun p => { p with svcPor := true })).presProof 0))
    ∧ (s.buttonOk = true → s.acc.pres = none → exec .buttonPattern s = .next (opens 1))
    ∧ (s.buttonOk = false → exec .buttonPattern s = .next s)
    ∧ (s.on ACC_PCFG_SEALEN = true → s.acc.pres = none → exec .sealLoopBreak s = .next (opens 2))
    ∧ (s.on ACC_PCFG_SEALEN = false → exec .sealLoopBreak s = .next s)
    ∧ (s.acc.pres = some k → s.acc.shadow = none → exec .presenceExpiry s = .next (((s.modAcc (fun a =>
        { a with pres := none, auth := 0, evPres := true })).setFld FLT_IMCTL_DNGR 0).setFld FLT_IMCTL_LVOVR 0))
    ∧ (s.acc.pres = none → exec .presenceExpiry s = .next s)
    ∧ (s.acc.crypto = some k → s.acc.kstore = none → exec .cryptoDone s = .next (((s.setFld ACC_CSTAT_BUSY 0).setFld ACC_CSTAT_RESULT k).modAcc (fun a =>
        { a with crypto := none, evCrypto := true })))
    ∧ (s.acc.crypto = none → s.acc.kstore = some k → exec .cryptoDone s = .next (((s.setFld ACC_KSTAT_BUSY 0).setFld ACC_KSTAT_RESULT k).modAcc (fun a =>
        { a with kstore := none, evEnrol := true })))
    ∧ (s.acc.crypto = none → s.acc.kstore = none → exec .cryptoDone s = .next s)
    ∧ (s.acc.pres = some k → s.acc.shadow.isSome = true → exec .presenceExpiry s = .next (((s.modAcc (fun a =>
        { a with pres := none, auth := 0, evPres := true, shadow := none, learnLeft := 0 })).setFld FLT_IMCTL_DNGR 0).setFld FLT_IMCTL_LVOVR 0))
    ∧ (s.pw.mode ≠ .run → exec .svcnHeld s = .next s)
    ∧ exec .trngHealthFail s = .next (s.record 14 7 0)


/-! ### Images, brace and start-up -/

/-- R516 to R530: the image agent's messages, its one session, and the end of one. -/
def Obligations.ImageSessions : Prop :=
  ∀ (s : State) (bs : List Byte) (mv : BitVec 16) (m : IMsg) (x : ImgSess) (y : ImgSess × Nat) (b : List Byte) (e : Fin 8) (bad : Bool) (t : State),
    s.domOn .fabric = true →
    let u := s.modImg (fun i => { i with svcOut := [] })
    let took (svc : Option (List Byte)) (l : List Nat) (t : State) : Prop := u.imTake svc l = (t, some m)
    (svcPayload bs = none → exec (.offer (some bs) mv) s = .next u ∧ exec (.block (some bs)) s = .next u
        ∧ exec (.imageCloseReceived (some bs)) s = .next u)
    ∧ (took (some bs) [1] u → u.imOpen true = false → exec (.offer (some bs) mv) s = .next u)
    ∧ (took (some bs) [1] u → u.imOpen true = true → u.img.sess = none → m.src = 0 → u.acc.pres = none →
        exec (.offer (some bs) mv) s = .next (((u.imAnswer m 5 0).setFld FLT_IMSTAT_LAST 5).imEvt 2))
    ∧ (took (some bs) [1] u → u.imOpen true = true → u.img.sess = none → u.acc.pres ≠ none → (u.offerJudge (offerHdr m) mv.toNat).1 = 0 →
        exec (.offer (some bs) mv) s = .next (u.offerAccept m (offerHdr m) (u.offerJudge (offerHdr m) mv.toNat).2))
    ∧ (took (some bs) [1] u → u.imOpen true = true → u.img.sess = some x → x.holds m = true →
        exec (.offer (some bs) mv) s = .next (u.imAnswer m 0 x.next))
    ∧ (took (some bs) [3] u → u.img.sess = some x → x.holds m = true → byteField m.body 0 2 < x.next → exec (.block (some bs)) s = .next (u.imBack x 0))
    ∧ (took (some bs) [3] u → u.img.sess = some x → x.holds m = true → x.next ≤ byteField m.body 0 2 → byteField m.body 0 2 < x.next + 4 →
        byteField m.body 0 2 < x.n → fragOk (hdrL x.hdr) (byteField m.body 0 2) (byteField m.body 2 2) (m.body.drop 6) = true → x.cur = none →
        let fs := (lGet x.frags (byteField m.body 0 2)).filter (fun f => decide (f.1 ≠ byteField m.body 2 2))
        exec (.block (some bs)) s = .next ((u.setSess { x with
          frags := lPut x.frags (byteField m.body 0 2) (fs ++ [(byteField m.body 2 2, m.body.drop 6)]) }).imAdvance))
    ∧ (took (some bs) [5] u → u.downOf m = none → u.img.sess = some x → x.holds m = true → byteField m.body 0 1 = 0x0E →
        exec (.imageCloseReceived (some bs)) s = .next u.imgIdle)
    ∧ (took none [2] t → t.downOf m = some y → byteField m.body 0 1 ≠ 0 → exec .downstreamAnswer s = .next (t.downDrop y.2))
    ∧ (took none [2] t → t.downOf m = some y → byteField m.body 0 1 = 0 →
        exec .downstreamAnswer s = .next ((((t.setDown y.2 2).setFld (FLT_IMDST_NEXT y.2) (byteField m.body 1 2)).downBlock y.1 y.2).imAdvance))
    ∧ (took none [4] t → t.downOf m = some y → t.fld (FLT_IMDST_STATE y.2) = 2 → byteField m.body 2 1 = 0 →
        exec .downstreamBack s = .next ((t.setFld (FLT_IMDST_NEXT y.2) (byteField m.body 0 2)).imAdvance))
    ∧ (u.img.inbox = [] → exec .downstreamAnswer s = .next u ∧ exec .downstreamBack s = .next u)
    ∧ (u.img.sess = some x → u.fld (FLT_IMDST_STATE e) = 1 → (smGet (fun _ => {}) u.img.downs e).offers < 3 →
        exec (.downstreamTimeout e) s = .next (u.downOffer x e))
    ∧ (u.img.sess = some x → u.fld (FLT_IMDST_STATE e) = 2 → x.cur = some b → exec (.downstreamTimeout e) s = .next (u.downDrop e))
    ∧ (u.img.sess = some x → x.next < x.n → x.cur = none → exec .imageSessionTimeout s = .next (u.imClose 0x0D))
    ∧ (u.img.sess = some x → x.pass = false → x.erased = false →
        exec (.inactiveBankErased true) s = .next (u.imClose 0x0C)
        ∧ exec (.inactiveBankErased false) s = .next (((u.each (List.range 16) (fun k t => t.progRow x.bank (8 * k) ((x.hdr.drop (8 * k)).take 8))).setSess
          { x with erased := true }).setFld FLT_IMSTAT_STATE 2))
    ∧ (u.img.sess = some x → x.cur = some b → x.pass = false → x.stored = false → x.erased = true →
        exec (.imageBlockStored true) s = .next (u.imClose 0x0C) ∧ exec (.imageBlockStored false) s = .next ((u.storeRows x b).imAdvance))
    ∧ (u.img.sess = some x → u.fld FLT_IMSTAT_STATE = 3 → exec (.imageVerifyDone true) s = .next (u.imClose 0x0C))
    ∧ (u.img.sess = some x → u.fld FLT_IMSTAT_STATE = 3 → u.bodyHash x.bank (hdrL x.hdr) = hdrBytes x.hdr 16 16 →
        exec (.imageVerifyDone false) s = .next (((((u.bootProg x.bank 0).setSess { x with done := true }).imEvt 4).setFld FLT_IMSTAT_STATE 4).imFinish))
    ∧ (u.img.sess = some x → x.pass = false → exec .imageLowv s = .next (u.imClose 3)
        ∧ (u.vehMoves = true → exec .vehicleMoves s = .next (u.imClose 2)) ∧ (u.vehMoves = false → exec .vehicleMoves s = .next u))
    ∧ (u.img.sess = none → exec .imageLowv s = .next u ∧ exec .imageSessionTimeout s = .next u ∧ exec (.imageVerifyDone bad) s = .next u
        ∧ exec (.downstreamTimeout e) s = .next u)

/-- R538 to R549: the brace link's frames and events. -/
def Obligations.BraceLink : Prop :=
  ∀ (s : State) (b : List Byte) (pid : BitVec 48) (par : BitVec 16) (code : Bool), s.domOn .fabric = true →
    let crc := BitVec.ofNat 16 (crc16 b)
    let p := b.drop 2
    let u := s.setFld BRC_STAT_RXSEQ (byteField b 1 1)
    (s.brSt = 0 → exec (.heart b crc code pid) s = .next s ∧ exec (.braceStateFrame b crc code) s = .next s ∧ exec (.table b crc code par) s = .next s
        ∧ exec (.yield b crc code) s = .next s ∧ exec (.handback b crc code) s = .next s ∧ exec (.quiet b crc code) s = .next s)
    ∧ (s.brSt ≠ 0 → let bad := (s.count BRC_CNT_CRC).record 15 12 0
        exec (.heart b crc false pid) s = .next bad ∧ exec (.braceStateFrame b crc false) s = .next bad ∧ exec (.table b crc false par) s = .next bad
        ∧ exec (.yield b crc false) s = .next bad ∧ exec (.handback b crc false) s = .next bad ∧ exec (.quiet b crc false) s = .next bad)
    ∧ (s.brSt ≠ 0 → byteField b 0 1 = 1 → exec (.heart b crc true pid) s = .next (u.brHeart pid.toNat p))
    ∧ (s.brSt ≠ 0 → byteField b 0 1 = 2 → exec (.braceStateFrame b crc true) s = .next (u.brState p))
    ∧ (s.brSt ≠ 0 → byteField b 0 1 = 3 → exec (.table b crc true par) s = .next (u.brTable par.toNat p))
    ∧ (s.brSt ≠ 0 → u.brSt = 3 → byteField b 0 1 = 4 → exec (.yield b crc true) s = .next ((u.brEvt 0).brWhole))
    ∧ (s.brSt ≠ 0 → byteField b 0 1 = 5 → exec (.handback b crc true) s = .next (u.brHandback p))
    ∧ (s.brSt ≠ 0 → byteField b 0 1 = 6 → exec (.quiet b crc true) s = .next (u.brQuiet p))
    ∧ (s.brSt = 0 ∨ s.brSt = 4 → exec .braceHeartSend s = .next s)
    ∧ (s.brSt = 3 → exec .braceHeartSend s = .next ((s.brSend [(1, s.heartBytes)]).modBrc (fun x =>
        { x with resumed := 0, tableOut := x.tableOut })))
    ∧ (s.brSt = 2 → exec .braceHeartSend s = .next ((s.brSend [(1, s.heartBytes), (3, s.tableBytes)]).modBrc (fun x =>
        { x with resumed := 0, tableOut := true })))
    ∧ (s.brSt = 1 → exec .braceCommaAlign s = .next ((s.setFld BRC_STAT_STATE 2).modBrc (fun x =>
        { x with hearts := 0, tableIn := false, tableOut := false, asked := false })))
    ∧ (s.brSt ≠ 1 → exec .braceCommaAlign s = .next s)
    ∧ (s.brSt ≠ 3 → exec .braceMiss s = .next s)
    ∧ (let down := ((((s.setFld BRC_STAT_STATE 1).count BRC_CNT_MISS).brEvt 2).record 15 8 0).modBrc (fun x =>
        { x with hearts := 0, tableIn := false, tableOut := false, asked := false })
       s.brSt = 3 → down.brFollower = false → exec .braceMiss s = .next down)
    ∧ (s.brc.waits = true → s.fswOpen = true → exec .braceFswOpen s = .next s.brWhole)
    ∧ (s.brc.waits = false → exec .braceFswOpen s = .next s)

/-- R497 to R511, R532: the boot ROM, the handover, LBIST and the settings migration. -/
def Obligations.StartUp : Prop :=
  ∀ (s : State) (c : Fin 2) (fail : Bool) (bank : Nat) (fast other : Bool) (chk act : Nat),
    s.domOn .coreS = true → s.domOn .coreA = true → s.domOn .fabric = true → s.domOn .act = true →
    let l := s.bootLbist
    (s.pw.boot ≠ .rom → exec .bootRom s = .next s)
    ∧ (s.pw.boot = .rom → bitAt (l.otp 0o420) 0 = false →
        exec .bootRom s = .next ((l.modPw (fun p => { p with boot := .loader 4 })).bootReport 4 0 none l.lbRan))
    ∧ (s.pw.boot = .rom → bitAt (l.otp 0o420) 0 = true → l.pw.svcPor = false → exec .bootRom s = .next l.bootSearch)
    ∧ (s.pw.boot = .rom → bitAt (l.otp 0o420) 0 = true → l.pw.svcPor = true → l.on ACC_PCFG_SVCEN = true → l.otpLock 1 = false →
        exec .bootRom s = .next ((l.modPw (fun p => { p with boot := .loader 6 })).bootReport 6 0 none l.lbRan))
    ∧ (s.pw.boot = .app → exec .handover s = .next s)
    ∧ (s.pw.boot = .chosen bank fast other chk → s.lbSt 0 ≠ 2 → s.lbSt 1 ≠ 2 →
        bitsOf chk 7 4 ≠ 9 → bitsOf chk 3 0 ≠ 9 →
        let t := ((((((s.setFld MEM_TCTL_EN 0).bootReport (if other then 2 else if fast then 1 else 0) chk (some bank) s.lbRan).setFld
          MEM_NSTAT_ACTIVE bank).modPw (fun p => { p with boot := .app })).modMem (fun m => { m with handed := true })).bootLeft)
        exec .handover s = .next ((t.modCore 2 (fun x => { x with run := .running, pc := hdrEntry (s.bankHdr bank) })).migrate))
    ∧ (s.img.mig = none → exec .migrationDone s = .next s)
    ∧ (let h := s.bankHdr s.activeBank
       let p := s.migRecord h act
       let t := s.ssTarget
       s.img.mig = some act → p.2 = 0 → exec .migrationDone s = .next ((((((s.writeRecord t.1 (hdrSchema h) p.2 t.2 p.1).ssShow.modImg (fun x =>
          { x with mig := none })).setFld FLT_IMSTAT_STATE 0).setFld FLT_IMMIG_RESULT act).setFld FLT_IMMGRP_GRP p.2).setBitF FLT_IMEVT_EVT 5 true))
    ∧ exec .actuationReady s = .next (s.modPw (fun p => { p with ready := true }))
    ∧ (s.lbSt c = 1 → (s.core c).run = .halted → (s.core c).buf = [] →
        exec (.lbistRun c) s = .next ((s.setFld (lbF c) 2).setCore c { run := .lbist }))
    ∧ (s.lbSt c = 1 → (s.core c).run = .fenced → exec (.lbistRun c) s = .next ((s.setFld (lbF c) 2).setCore c { run := .lbist }))
    ∧ (s.lbSt c ≠ 1 → exec (.lbistRun c) s = .next s)
    ∧ (s.lbSt c = 2 → exec (.lbistDone c true) s = .next (((s.setFld (lbF c) 4).setCore c { run := .reset }).record 0 2 c))
    ∧ (s.lbSt c = 2 → exec (.lbistDone c false) s = .next ((((s.setFld (lbF c) 3).coreRelease c).modFlt (fun x =>
        { x with fenced := smErase x.fenced c })).refreshFlt 0))
    ∧ (s.lbSt c ≠ 2 → exec (.lbistDone c fail) s = .next s)


/-! ### Power -/

/-- R446 to R458: requests of modes, the negotiation of an entry, its commit, and the exits. -/
def Obligations.PowerModes : Prop :=
  ∀ (s : State) (c : CoreId) (bedded : Bool) (b : Fin 16) (k : Nat) (w : Wake) (h : HeldC) (code : BitVec 6) (detail : Byte),
    (s.domOn .fabric = true → s.phase = 0 → s.pw.mode = .browse → exec (.requestRun c) s = .next (s.modPw (fun p => { p with mode := .run }))
        ∧ exec (.requestBrowse c) s = .next (s.raise PCR_FLAG_ENCREF))
    ∧ (s.domOn .fabric = true → s.phase = 0 → s.pw.mode = .run → exec (.requestBrowse c) s = .next (s.modPw (fun p => { p with mode := .browse }))
        ∧ exec (.requestRun c) s = .next (s.raise PCR_FLAG_ENCREF))
    ∧ (s.domOn .fabric = true → s.phase ≠ 0 → exec (.requestRun c) s = .next (s.raise PCR_FLAG_ENCREF)
        ∧ exec (.requestBrowse c) s = .next (s.raise PCR_FLAG_ENCREF) ∧ exec (.entryReq .s bedded) s = .next (s.raise PCR_FLAG_ENCREF))
    ∧ (s.domOn .fabric = true → c ≠ .s → exec (.entryReq c bedded) s = .next (s.raise PCR_FLAG_WRREF)
        ∧ exec (.forcedEntry c bedded) s = .next (s.raise PCR_FLAG_WRREF))
    ∧ (s.domOn .fabric = true → s.phase = 0 → s.pw.mode = .run → exec (.entryReq .s bedded) s
        = .next ((((s.setFld PCR_ENTRY_PHASE 1).setReg rPCR_ENTRYST 0).tracePower 1 0 0).modPw (fun p => { p with
          entry := some (if bedded then .bedded else .rest), back := p.mode, forced := false, wake := none, acks := 0, delays := 0 })))
    ∧ (s.domOn .fabric = true → s.phase < 2 → s.pw.mode = .run →
        exec (.forcedEntry .s bedded) s = .next ((s.setReg rPCR_ENTRYST 0).forceEntry bedded 1))
    ∧ (s.phase = 1 → bitAt s.pw.acks b = false →
        (s.agentAnswer b (decide (s.pw.entry = some .bedded)) = .ack → exec (.agentAnswer b) s = .next (s.modPw (fun p =>
          { p with acks := setBit p.acks b, delays := clrBit p.delays b })))
        ∧ (s.agentAnswer b (decide (s.pw.entry = some .bedded)) = .delay →
          exec (.agentAnswer b) s = .next (s.modPw (fun p => { p with delays := setBit p.delays b })))
        ∧ (s.agentAnswer b (decide (s.pw.entry = some .bedded)) = .refuse k → exec (.agentAnswer b) s = .next (s.refused b k)))
    ∧ (s.phase ≠ 1 → exec (.agentAnswer b) s = .next s ∧ exec (.delayBoundExpiry b) s = .next s ∧ exec .entryCommit s = .next s)
    ∧ (s.phase = 1 → bitAt s.pw.delays b = true → s.agentAnswer b (decide (s.pw.entry = some .bedded)) = .delay →
        exec (.delayBoundExpiry b) s = .next (s.refused b (s.boundCause b)))
    ∧ (s.phase = 1 → s.pw.acks = 65535 → s.pw.entry = some .rest → exec .entryCommit s = .next (s.commitStart false))
    ∧ (s.phase = 1 → s.pw.acks = 65535 → s.pw.entry = some .bedded → exec .entryCommit s = .next (s.commitStart true))
    ∧ (s.phase = 2 → s.pw.entry = some .rest → exec .commitComplete s = .next s.restReached)
    ∧ (s.phase = 2 → s.pw.entry = some .bedded → exec .commitComplete s = .next s.beddedReached)
    ∧ (s.phase ≠ 2 → exec .commitComplete s = .next s)
    ∧ (s.pw.mode = .rest → s.pw.wake = some w → exec .restExit s = .next (s.restExit w) ∧ exec .beddedExit s = .next s)
    ∧ (s.pw.mode = .bedded → s.pw.wake = some w → exec .beddedExit s = .next (s.beddedExit w) ∧ exec .restExit s = .next s)
    ∧ (s.wakeTarget = none → exec (.wakeLatch code detail) s = .next s ∧ exec .kl30Restore s = .next s)
    ∧ (let v : Wake := ⟨code.toNat, detail.toNat, s.pw.entry.isSome, s.rtcSec, s.fld PCR_RTCS_SUB, if s.domOn .act then some s.ztNs else none⟩
       let u := s.setBitF PCR_WSRC_SRC (code.toNat - 1) true
       s.wakeTarget = some bedded → s.wakeOk bedded code.toNat detail.toNat = true →
        (s.pw.wake = some w → s.pw.entry = none →
          exec (.wakeLatch code detail) s = .next ((u.modPw (fun p => { p with wake := some (w.kept v) })).setFld PCR_ENTRY_PHASE 3))
        ∧ (s.pw.wake = none → s.pw.entry ≠ none →
          exec (.wakeLatch code detail) s = .next (u.modPw (fun p => { p with wake := some (v.kept v) }))))
    ∧ (s.wakeTarget = some bedded → s.wakeOk bedded code.toNat detail.toNat = false → exec (.wakeLatch code detail) s = .next s)
    ∧ (s.wakeTarget = some bedded → s.wakeOk bedded 0o15 0 = true → exec .kl30Restore s = .next (s.latchWake 0o15 0))
    ∧ (s.pw.mode = .rest → s.pw.held.find? (fun x => x.irq && s.bit PCR_RWAKE_GRP (x.ring / 4)) = some h →
        exec .restCompletionWake s = .next (s.latchWake 0o12 (h.ring / 4)))
    ∧ (s.pw.held = [] → exec .restCompletionWake s = .next s)
    ∧ (s.pw.mode = .rest → exec .hostFrameWake s = .next (s.latchWake 0o06 0))
    ∧ (s.pw.mode ≠ .rest → exec .hostFrameWake s = .next s)

/-- R464 to R469, R494: resets, clocks, rails, KL30, KL15, the RTC alarm, brown-out, pads and the switch domain. -/
def Obligations.ClocksAndSupplies : Prop :=
  ∀ (s : State) (c : CoreId) (on : Bool) (rail : Fin 4) (p : Fin 2) (g : Fin 5),
    exec .por s = .next s.powerOn
    ∧ exec .rstnReset s = .next (s.modReset 1)
    ∧ exec .moduleSoftwareReset s = .next (s.modReset 2)
    ∧ (s.flt.safe = true → s.on FLT_GCTL_L4RST = true → exec .l4Reset s = .next (s.modReset 3))
    ∧ (s.flt.safe = false → exec .l4Reset s = .next s)
    ∧ (s.domOn .fabric = true → s.on PCR_CLK_P0SRC = false → exec .pll0Lost s
        = .next ((((s.setFld PCR_CLK_P0SRC 1).raise PCR_FLAG_CLKSW).pcrEvt 4).record 1 1 0))
    ∧ (s.domOn .fabric = true → s.on PCR_CLK_P0SRC = true → exec .pll0Lost s = .next s)
    ∧ (s.on PCR_CLK_XTALOK = true → s.pw.mode ≠ .bedded → exec .crystalLoss s
        = .next ((((((s.setFld PCR_CLK_XTALOK 0).setFld PCR_CLK_LOCK (s.fld PCR_CLK_LOCK % 2 + s.fld PCR_CLK_LOCK / 8 * 8)).setFld PCR_CLK_P0SRC 1).raise
          PCR_FLAG_CLKSW).pcrEvt 4).record 1 1 0).holdNetZsw)
    ∧ (s.on PCR_CLK_XTALOK = false → exec .crystalLoss s = .next s)
    ∧ (s.domOn .fabric = true → s.on PCR_CLK_XTALOK = false → s.on PCR_DOMCTL_ZSWON = false → s.pw.net = .off →
        let t := ((((s.setFld PCR_CLK_XTALOK 1).setFld PCR_CLK_P0SRC 0).setFld PCR_CLK_LOCK 15).raise PCR_FLAG_XTALR).pcrEvt 5
        t.pw.net = .off → t.on PCR_DOMCTL_ZSWON = false → exec .pll0ToCrystal s = .next (t.modPw (fun q => { q with net := .on })))
    ∧ (s.domOn .fabric = true → s.on PCR_CLK_XTALOK = true → s.on PCR_CLK_P0SRC = false → exec .pll0ToCrystal s = .next s)
    ∧ (s.domOn .act = true → let t := (s.record 6 1 0)
        exec .actoscLost s = .next (((t.modInp (fun x => { x with dcMap := true })).setFld PCR_CLK_LOCK (s.fld PCR_CLK_LOCK % 8)).modPw (fun q =>
          { q with act := .ret })))
    ∧ (s.domOn .act = true → s.on PCR_CLK_XTALOK = true → exec (.actDriftCheck true) s = .next ((s.record 1 2 0).pcrEvt 11)
        ∧ exec (.actDriftCheck false) s = .next s)
    ∧ (s.pw.mode ≠ .bedded → exec (.railFault rail) s = .next (((s.setBitF PCR_RAIL_OK rail false).pcrEvt 12).record 1 4 0))
    ∧ (s.pw.mode = .bedded → exec (.railFault rail) s = .next s)
    ∧ (s.bit PCR_CLK_LOCK (1 + p) = true → exec (.pllLossOfLock p) s = .next ((s.setBitF PCR_CLK_LOCK (1 + p) false).pcrEvt (9 + p)))
    ∧ (s.bit PCR_CLK_LOCK (1 + p) = false → exec (.pllLossOfLock p) s = .next s)
    ∧ (s.pw.mode = .run ∨ s.pw.mode = .browse → s.pw.net = .ret → exec .netRetentionExit s = .next (s.modPw (fun q => { q with net := .on })).sensServeAll)
    ∧ (s.pw.net ≠ .ret → exec .netRetentionExit s = .next s)
    ∧ (s.domOn .fabric = true → let t := (s.setFld PCR_DOMCTL_ZSWON 1).modPw (fun q => { q with zswAsked := decide (q.zsw = .off) && !s.on PCR_CLK_XTALOK })
        (t.pw.zsw = .off → t.on PCR_CLK_XTALOK = true → exec (.zswOn c true) s = .next (t.zswUp.pcrEvt 6))
        ∧ (t.on PCR_CLK_XTALOK = false → exec (.zswOn c true) s = .next t))
    ∧ (s.domOn .fabric = true → let t := (s.setFld PCR_DOMCTL_ZSWON 0).modPw (fun q => { q with zswAsked := false })
        (t.domOn .zsw = false → exec (.zswOn c false) s = .next t)
        ∧ (t.domOn .zsw = true → exec (.zswOn c false) s = .next ((((t.loseEngines (fun e => decide (e = 8))).domRegs .zsw true).hideZsw).modPw
          (fun q => { q with zsw := .off }))))
    ∧ (let t := s.modPw (fun q => { q with brown := true })
       (s.pw.mode = .bedded → exec .brownOut s = .next t)
       ∧ (s.phase = 2 → s.pw.entry = some .bedded → exec .brownOut s = .next t)
       ∧ (s.pw.mode ≠ .bedded → s.phase = 1 → exec .brownOut s = .next (((t.record 1 3 0).setFld PCR_ENTRYST_RESULT 3).forceEntry true 0))
       ∧ (s.pw.mode ≠ .bedded → s.phase = 0 → exec .brownOut s = .next ((t.record 1 3 0).forceEntry true 0)))
    ∧ (s.on PCR_KL_KL30LO = false → exec (.kl30Low true) s = .next (((s.setFld PCR_KL_KL30LO 1).raise PCR_FLAG_KL30LO).pcrEvt 3))
    ∧ exec (.kl30Low false) s = .next (s.setFld PCR_KL_KL30LO 0)
    ∧ (s.on PCR_KL_KL15 = on → exec (.kl15Change on) s = .next s)
    ∧ (s.on PCR_KL_KL15 = false → exec (.kl15Change true) s = .next (((s.setFld PCR_KL_KL15 1).pcrEvt 2).latchWake 0o07 0))
    ∧ (s.on PCR_KL_KL15 = true → exec (.kl15Change false) s = .next (((s.setFld PCR_KL_KL15 0).pcrEvt 2).latchWake 0o10 0))
    ∧ (s.rtcSec = s.fld PCR_ALMH_ALM * 65536 + s.fld PCR_ALML_ALM → s.fld PCR_RTCS_SUB = 0 → s.pw.mode = .run →
        exec .rtcAlarm s = .next ((s.pcrEvt 7).latchWake 0o11 0))
    ∧ (s.fld PCR_RTCS_SUB ≠ 0 → exec .rtcAlarm s = .next s)
    ∧ (s.domOn .fabric = true → g.val ≠ 1 → exec (.padRelease c (BitVec.ofNat 5 (2 ^ g.val))) s = .next (s.setBitF PCR_PAD_LAT g false))
    ∧ (s.domOn .fabric = true → s.domOn .act = false → exec (.padRelease c 2#5) s = .next (s.raise PCR_FLAG_WRREF))


/-! ### Registers -/

/-- R18, R61, R9: accesses of registers at addresses without a register, in domains that do not run, and of RO, W1C and RC fields. -/
def Obligations.RegisterAccess : Prop :=
  ∀ (s : State) (c : CoreId) (a : BitVec 16) (v : Word) (n : Fin 16) (r : Fin 64) (i : Fin 1024) (k : Nat) (d : Desc) (row : RegRow),
    RegFile.wf s.io = true → s.fld PCR_ENTRY_PHASE ≠ 1 →
    let all := 2 ^ 18 - 1
    let runs := busReg c.num a.toNat = some k ∧ s.domOn (keyDom k) = true
    let taken (w : Nat) (f : Field) : Nat := putBits w f.hi f.lo (bitsOf v.toNat f.hi f.lo)
    let fresh (r : Nat) : Prop := smFind s.snap r = none
    (runs → sIcuOnly c.num a.toNat = false → (k / 4096 = 4 ∨ k / 4096 = 5 ∨ k / 4096 = 7 ∨ k / 4096 = 8 ∨ k / 4096 = 9) →
        exec (.registerWrite c a v) s = .next (s.applyStore k (s.judgeStore c.num k v.toNat all))
        ∧ (rowOf k = some row → row.fields.all (fun f => decide (f.acc = .rw) && !f.tx && !s.refusedField c.num k f
              && !badField k f (bitsOf v.toNat f.hi f.lo)) = true → s.comboMask k (s.shadowOf k).toNat = 0 →
            exec (.registerWrite c a v) s = .next ((s.setReg k (row.fields.foldl taken (s.reg k))).unlatch k)))
    ∧ (runs → k ≠ rSEQ_MDATA → k ≠ rMEM_NDATA → k % 65536 ≠ 4 → k / 4096 ≠ 14 → snapOf k = [] → freeBits k = [] →
        exec (.rcCounterRead c a) s = .next ((s.setReg k (dropBits (s.reg k) (rcBits k))).setRdata (toWord (s.readVal k))))
    ∧ (runs → k ≠ rSEQ_MDATA → k ≠ rMEM_NDATA → k % 65536 ≠ 4 → k / 4096 ≠ 14 → snapOf k ≠ [] → freeBits k = [] →
        let u := s.latch k
        exec (.snapshotRead c a) s = .next ((u.setReg k (dropBits (u.reg k) (rcBits k))).setRdata (toWord (s.readVal k))))
    ∧ (s.waits 1 2 r i d = true → 4096 ≤ d.w2.toNat → d.w2.toNat < 2 ^ 16 → s.on (RNG_TXSTAT_OPEN d.owner) = true →
        s.claimant (d.w2.toNat / 4096) = some d.owner → Nat.land d.w4.toNat (txMask d.w2.toNat (fun _ => true)) ≠ 0 →
        exec (.txwrite r i) s = .next ((s.storeAs d.owner (ownerCore d.owner) d.w2.toNat d.w3.toNat d.w4.toNat).finish d stDone 0))
    ∧ (busReg c.num a.toNat = none → sIcuOnly c.num a.toNat = false →
        exec (.registerWrite c a v) s = .next (s.ioFlag c.num true a.toNat)
        ∧ exec (.rcCounterRead c a) s = .next ((s.setRdata 0).ioFlag c.num true a.toNat)
        ∧ exec (.snapshotRead c a) s = .next ((s.setRdata 0).ioFlag c.num true a.toNat))
    ∧ (busReg c.num a.toNat = some k → s.domOn (keyDom k) = false → sIcuOnly c.num a.toNat = false →
        exec (.registerWrite c a v) s = .next (s.ioFlag c.num false a.toNat)
        ∧ exec (.rcCounterRead c a) s = .next ((s.setRdata 0).ioFlag c.num false a.toNat)
        ∧ exec (.snapshotRead c a) s = .next ((s.setRdata 0).ioFlag c.num false a.toNat))
    ∧ (c.num ≠ 2 → sIcuOnly c.num a.toNat = true → a.toNat < 0xE00 →
        (s.badStore (0x30000 + a.toNat) v.toNat all = false → exec (.registerWrite c a v) s = .next (s.raise (ICU_FLAG_WRREF c.num)))
        ∧ (s.badStore (0x30000 + a.toNat) v.toNat all = true →
          exec (.registerWrite c a v) s = .next ((s.raise (ICU_FLAG_WRREF c.num)).raise (ICU_FLAG_ENCREF c.num))))
    ∧ (s.domOn .act = true → fresh (rMOT_HSTAT n) → exec (.registerWrite c (BitVec.ofNat 16 (rMOT_HSTAT n)) v) s = .next s)
    ∧ (s.domOn .act = true → fresh (rMOT_HEVT n) → exec (.registerWrite c (BitVec.ofNat 16 (rMOT_HEVT n)) v) s
        = .next (s.setReg (rMOT_HEVT n) (dropBits (s.reg (rMOT_HEVT n)) (Nat.land v.toNat 511))))
    ∧ (s.domOn .act = true → fresh (rMOT_HIEN n) → exec (.registerWrite c (BitVec.ofNat 16 (rMOT_HIEN n)) v) s = .next (s.setReg (rMOT_HIEN n) (v.toNat % 512)))
    ∧ (s.domOn .fabric = true → smFind s.snap rRNG_ADROP = none → exec (.rcCounterRead c (BitVec.ofNat 16 rRNG_ADROP)) s
        = .next ((s.setReg rRNG_ADROP 0).setRdata (toWord (s.reg rRNG_ADROP))))
    ∧ (s.domOn .zsw = true → smFind s.snap 0xC009 = none → exec (.snapshotRead c 0xC009#16) s = .next ({ s with
          snap := smInsert (smErase s.snap 0xC00A) 0xC00A (toWord (s.view 0xC00A)), rdata := toWord (s.view 0xC009) }))
    ∧ (s.waits 1 2 r i d = true →
        (2 ^ 16 ≤ d.w2.toNat → exec (.txwrite r i) s = .next (s.finish d stBadParam 2))
        ∧ (d.w2.toNat < 2 ^ 16 → s.on (RNG_TXSTAT_OPEN d.owner) = false → exec (.txwrite r i) s = .next (s.finish d 0o22 0))
        ∧ (d.w2.toNat < 2 ^ 16 → s.on (RNG_TXSTAT_OPEN d.owner) = true → s.claimant (d.w2.toNat / 4096) ≠ some d.owner →
          exec (.txwrite r i) s = .next (s.finish d stDenied (d.w2.toNat % 4096)))
        ∧ (d.w2.toNat = rNET_HGRPL → s.on (RNG_TXSTAT_OPEN d.owner) = true → s.claimant 11 = some d.owner → d.w4 = 0o777777 → d.w3 = v →
          smFind s.snap rNET_HGRPL = none → exec (.txwrite r i) s = .next ((s.setShadow rNET_HGRPL (putBits (s.shadowOf rNET_HGRPL).toNat 15 0 (v.toNat % 65536))).finish d stDone 0)))

/-- The commands that are stores of one field: the ring enables, the ICU, buses, herd, MAC table, census, TC10, zone time, limp-home, image and
pairing commands. With every domain running and the register file in its canonical form, a store of a command field leaves its register as it was. -/
def Obligations.RegisterCommands : Prop :=
  ∀ (s : State) (c : CoreId) (r : Fin 64) (n : Fin 6) (w : Fin 10) (l : Fin 4) (v : BitVec 2) (p : Fin 6) (x : BitVec 4) (a t : Fin 2) (e : ZMac) (req : Bool),
    RegFile.wf s.io = true → s.domOn .fabric = true → s.domOn .act = true → s.domOn .net = true → s.domOn .zsw = true →
    s.domOn .coreS = true → s.domOn .coreA = true → s.domOn .fawn = true →
    s.fld PCR_ENTRY_PHASE ≠ 1 → s.rng.commits.isEmpty = true → s.snap = [] →
    let at_ := s.macOf s.mVid s.mAddr
    (s.on (RNG_RCFG_EN r) = false → exec (.ringEnable c r) s = .next ((s.setFld (RNG_RCFG_EN r) 1).ringEnable r)
        ∧ exec (.ringDisable c r) s = .next s)
    ∧ (s.on (RNG_RCFG_EN r) = true → exec (.ringDisable c r) s = .next ((s.setFld (RNG_RCFG_EN r) 0).ringDisable r)
        ∧ exec (.ringEnable c r) s = .next s)
    ∧ (s.on INP_LHCMD_FORCE = false → let u := s.setFld INP_LHCMD_FORCE 1
        exec (.limpHomeForce c) s = .next (u.limpEngage u.limpCauses))
    ∧ exec (.limpHomeRelease c) s = .next (s.limpRelease c.num)
    ∧ exec (.busoffRecovery c n) s = .next (s.canRecover n)
    ∧ (s.chFenced n = false → v.toNat ≠ s.fld (NET_CTC_REQ n) →
        exec (.transceiverRequest c (n.castLE (by decide)) v) s = .next ((s.setFld (NET_CTC_REQ n) v.toNat).tcvrRequest n))
    ∧ (s.chFenced (8 + l) = false → v.toNat ≠ 2 → v.toNat ≠ s.fld (NET_LCFG_REQ l) →
        exec (.transceiverRequest c (l.natAdd 6) v) s = .next ((s.setFld (NET_LCFG_REQ l) v.toNat).tcvrRequest (8 + l)))
    ∧ (s.chFenced n = true → v.toNat ≠ s.fld (NET_CTC_REQ n) →
        exec (.transceiverRequest c (n.castLE (by decide)) v) s = .next (s.raise NET_FLAG_WRREF))
    ∧ exec (.undeaf c w) s = .next (s.undeafen w)
    ∧ exec (.herdJoin c) s = .next s.herdJoin
    ∧ (s.on NET_HCTL_CONS = true → exec (.herdConsWithdraw c) s = .next ((s.setFld NET_HCTL_CONS 0).herdWithdraw))
    ∧ (at_ = some e → exec (.lookup c) s = .next ((((s.setFld ZSW_MRES_STATIC (b2n e.static)).setFld ZSW_MRES_PG (b2n e.pg)).setFld ZSW_MRES_MASK
          e.mask).setFld ZSW_MSTAT_RESULT 0)
        ∧ exec (.insert c) s = .next ((s.setMacs (s.zsw.macs.map (fun y => if y = e then s.mEntry else y))).setFld ZSW_MSTAT_RESULT 0)
        ∧ exec (.delete c) s = .next ((s.setMacs (s.zsw.macs.erase e)).setFld ZSW_MSTAT_RESULT 0))
    ∧ (at_ = none → exec (.lookup c) s = .next (s.setFld ZSW_MSTAT_RESULT 1) ∧ exec (.delete c) s = .next (s.setFld ZSW_MSTAT_RESULT 1)
        ∧ (s.macFull s.mVid s.mAddr = false →
          exec (.insert c) s = .next ((s.setMacs (s.zsw.macs ++ [s.mEntry])).setFld ZSW_MSTAT_RESULT 0)))
    ∧ exec (.flushLearned c) s = .next ((s.setMacs (s.zsw.macs.filter (fun y => y.static))).setFld ZSW_MSTAT_RESULT 0)
    ∧ exec (.flushLearnedOfPort c) s = .next ((s.macFlushPort (s.fld ZSW_MRES_MASK % 16)).setFld ZSW_MSTAT_RESULT 0)
    ∧ (s.zsw.census = none → exec (.censusStart c) s
        = .next ((s.modZsw (fun z => { z with census := some (s.takeCensus none) })).setFld ZSW_AUDRES_RESULT 1))
    ∧ (s.tc10 p ≠ 1 → exec (.tc10SleepRequest c p) s = .next s)
    ∧ (s.tc10 p = 1 → s.on (ETH_PSTAT_LINK p) = true → exec (.tc10SleepRequest c p) s = .next (s.setTc10 p 2))
    ∧ (s.tc10 p = 3 → exec (.tc10Wake c p) s = .next (s.setTc10 p 4))
    ∧ (s.tc10 p = 2 → exec (.tc10Wake c p) s = .next ((s.setTc10 p 1).pEvent p 6))
    ∧ (s.on ETH_ASCTL_GM = false → exec (.zoneTimeSet c) s = .next (s.raise ETH_FLAG_WRREF))
    ∧ (s.on ETH_ASCTL_GM = true → exec (.zoneTimeSet c) s = .next (s.setCounter
        ((((s.fld ETH_ZSET3_ZSET * 2 ^ 16 + s.fld ETH_ZSET2_ZSET) * 2 ^ 16 + s.fld ETH_ZSET1_ZSET) * 2 ^ 16 + s.fld ETH_ZSET0_ZSET) * 64)))
    ∧ exec (.imcmdClose c) s = .next ((s.modImg (fun y => { y with svcOut := [] })).imClose 0x0F)
    ∧ (s.acc.pres = none → exec (.confinact c) s = .next (s.raise FLT_GFLAG_WRREF))
    ∧ (let u := s.modImg (fun y => { y with svcOut := [] })
       s.acc.pres ≠ none → s.img.sess = none → u.bankState u.inactive = 1 → exec (.confinact c) s = .next (u.bootProg u.inactive 1))
    ∧ (s.on FLT_IMCONF_REQ = req → exec (.confirmRequest c req) s = .next s)
    ∧ (s.on FLT_IMCONF_REQ = false → let u := s.setFld FLT_IMCONF_REQ 1
        exec (.confirmRequest c true) s = .next ((u.setFld FLT_IMCONF_REQ 1).setFld FLT_IMCONF_BANK u.activeBank))
    ∧ (c ≠ .s → exec (.brcYield c) s = .next (s.raise FLT_GFLAG_WRREF) ∧ exec (.brcHandback c) s = .next (s.raise FLT_GFLAG_WRREF)
        ∧ exec (.brcQuiet c) s = .next (s.raise FLT_GFLAG_WRREF) ∧ exec (.brcWake c) s = .next (s.raise FLT_GFLAG_WRREF))
    ∧ exec (.brcYield .s) s = .next (s.brYield 3)
    ∧ exec (.brcHandback .s) s = .next s.brHandbackOut
    ∧ exec (.brcQuiet .s) s = .next s.brQuietOut
    ∧ exec (.brcWake .s) s = .next s.brWake
    ∧ exec (.lbistStart .s (BitVec.ofNat 2 t)) s = .next (lbistStart t (s.setFld ICU_LBCTL_TGT t))
    ∧ exec (.lbistCancel .s (BitVec.ofNat 2 t)) s = .next (lbistCancel t (s.setFld ICU_LBCTL_TGT t))
    ∧ exec (.swiSet c x) s = .next (s.setFld (ICU_SWI_PEND 2) (Nat.lor (s.fld (ICU_SWI_PEND 2)) x.toNat))
    ∧ (s.on (ICU_ACTL_HOLD a) = true → (s.core a).run = .reset →
        exec (.coreRelease .s a) s = .next ((s.setFld (ICU_ACTL_HOLD a) 0).coreStart a))
    ∧ (s.on (ICU_ACTL_HOLD a) = false → (s.core a).run = .running →
        exec (.coreReset .s a) s = .next ((s.setFld (ICU_ACTL_HOLD a) 1).setCore a { run := .reset }))
    ∧ exec (.lockstepTest .s) s = .next ((s.setFld ICU_LSCTL_TOK 1).record 0 6 2)
    ∧ exec .lockstepMismatch s = .next (s.record 0 1 2)
    ∧ (smFind s.snap (0x10000 * (c.num + 1) + 4) = none → exec (.icuClaimRead c) s
        = .next (((s.setRdata 0).claimed c.num).setRdata (toWord ((s.setRdata 0).view (0x10000 * (c.num + 1) + 4)))))

/-- R426 to R436, R441: the commands of enrolment, the key store and the crypto engines; without a presence window the enrolment commands are refused
with WRREF. -/
def Obligations.KeyCommands : Prop :=
  ∀ (s : State) (c : CoreId) (k : Fin 8) (e : BitVec 4) (long : Bool), RegFile.wf s.io = true → s.domOn .fabric = true →
    s.fld PCR_ENTRY_PHASE ≠ 1 → s.snap = [] →
    (s.acc.pres = none → let no : Out State := .next (s.raise ACC_FLAG_WRREF)
        exec (.learnK c) s = no ∧ exec (.learnT c) s = no ∧ exec (.revokeK c k) s = no ∧ exec (.revokeT c k) s = no ∧ exec (.learnClose c) s = no
        ∧ exec (.ownerSet c) s = no ∧ exec (.ownerClr c) s = no ∧ exec (.nonce c) s = no ∧ exec (.dbgUnlock c) s = no)
    ∧ (s.acc.pres ≠ none → exec (.learnK c) s = .next (s.learnCmd false).imOwner ∧ exec (.learnT c) s = .next (s.learnCmd true).imOwner
        ∧ exec (.revokeK c k) s = .next (s.revokeCmd false k).imOwner ∧ exec (.revokeT c k) s = .next (s.revokeCmd true k).imOwner
        ∧ exec (.learnClose c) s = .next s.closeCmd.imOwner ∧ exec (.ownerSet c) s = .next (s.ownerCmd true).imOwner
        ∧ exec (.ownerClr c) s = .next (s.ownerCmd false).imOwner ∧ exec (.nonce c) s = .next s.nonceCmd.imOwner
        ∧ exec (.dbgUnlock c) s = .next s.dbgCmd.imOwner)
    ∧ exec (.presenceClose c) s = .next s.presClose
    ∧ (s.acc.kstore = none → 8 ≤ e.toNat → e.toNat ≤ 13 → exec (.keyLoad c e) s = .next (s.loadCmd e.toNat)
        ∧ exec (.rotate c e) s = .next (s.rotateCmd e.toNat))
    ∧ (s.acc.kstore = none → exec (.loadtr c) s = .next s.loadtrCmd)
    ∧ (s.acc.kstore ≠ none → exec (.keyLoad c 9) s = .next s ∧ exec (.rotate c 9) s = .next s ∧ exec (.loadtr c) s = .next s)
    ∧ (s.acc.crypto = none → exec (.aesenc c long) s = .next (s.aesCmd false long) ∧ exec (.aesdec c long) s = .next (s.aesCmd true long)
        ∧ exec (.cmac c) s = .next s.cmacCmd ∧ exec (.sha256 c) s = .next s.shaCmd ∧ exec (.ecdsaver c) s = .next s.ecdsaCmd
        ∧ exec (.random c) s = .next s.randomCmd)
    ∧ (s.acc.crypto ≠ none → exec (.aesenc c long) s = .next s ∧ exec (.aesdec c long) s = .next s ∧ exec (.cmac c) s = .next s
        ∧ exec (.sha256 c) s = .next s ∧ exec (.ecdsaver c) s = .next s ∧ exec (.random c) s = .next s)
end

