-- ==== Sys2Proof/Laws/SMap.lean ====
section
/-! SUPPORT. The laws of sparse storage: what a key reads as after a write, and that a write keeps the canonical form. -/

namespace Sys2Proof.Machine

variable {α : Type}

theorem smFind_smErase_self (m : SMap α) (k : Nat) : smFind (smErase m k) k = none := by
  induction m with
  | nil => rfl
  | cons e t ih =>
    obtain ⟨a, v⟩ := e
    by_cases h : a = k <;> simp [smErase, smFind, h, ih]

theorem smFind_smErase_of_ne (m : SMap α) {j k : Nat} (h : j ≠ k) : smFind (smErase m k) j = smFind m j := by
  induction m with
  | nil => rfl
  | cons e t ih =>
    obtain ⟨a, v⟩ := e
    by_cases hk : a = k
    · subst hk; simp [smErase, smFind, ih, Ne.symm h]
    · simp only [smErase, hk, if_false, smFind, ih]

theorem smFind_smInsert_of_ne (m : SMap α) {j k : Nat} (v : α) (h : j ≠ k) : smFind (smInsert m k v) j = smFind m j := by
  induction m with
  | nil => simp [smInsert, smFind, Ne.symm h]
  | cons e t ih =>
    obtain ⟨a, w⟩ := e
    by_cases hk : k < a
    · simp [smInsert, hk, smFind, Ne.symm h]
    · simp only [smInsert, hk, if_false, smFind, ih]

theorem smFind_smInsert_self (m : SMap α) (k : Nat) (v : α) (h : smFind m k = none) :
    smFind (smInsert m k v) k = some v := by
  induction m with
  | nil => simp [smInsert, smFind]
  | cons e t ih =>
    obtain ⟨a, w⟩ := e
    by_cases ha : a = k
    · simp [smFind, ha] at h
    · simp [smFind, ha] at h
      by_cases hk : k < a <;> simp [smInsert, hk, smFind, ha, ih h]

/-- A key reads as the value last written to it. -/
@[simp] theorem smGet_smPut_self [DecidableEq α] (d : Nat → α) (m : SMap α) (k : Nat) (v : α) :
    smGet d (smPut d m k v) k = v := by
  by_cases h : v = d k
  · simp [smPut, smGet, h, smFind_smErase_self]
  · simp [smPut, smGet, h, smFind_smInsert_self _ k v (smFind_smErase_self m k)]

/-- A write leaves every other key alone. -/
theorem smGet_smPut_of_ne [DecidableEq α] (d : Nat → α) (m : SMap α) {j k : Nat} (v : α) (h : j ≠ k) :
    smGet d (smPut d m k v) j = smGet d m j := by
  by_cases hv : v = d k
  · simp [smPut, smGet, hv, smFind_smErase_of_ne m h]
  · simp [smPut, smGet, hv, smFind_smInsert_of_ne _ v h, smFind_smErase_of_ne m h]

theorem smErase_of_none (m : SMap α) (k : Nat) (h : smFind m k = none) : smErase m k = m := by
  induction m with
  | nil => rfl
  | cons e t ih =>
    obtain ⟨a, v⟩ := e
    by_cases ha : a = k
    · simp [smFind, ha] at h
    · simp [smFind, ha] at h; simp [smErase, ha, ih h]

theorem smErase_smInsert (m : SMap α) (k : Nat) (v : α) (h : smFind m k = none) : smErase (smInsert m k v) k = m := by
  induction m with
  | nil => simp [smInsert, smErase]
  | cons e t ih =>
    obtain ⟨a, w⟩ := e
    by_cases ha : a = k
    · simp [smFind, ha] at h
    · simp [smFind, ha] at h
      by_cases hk : k < a
      · simp [smInsert, hk, smErase, ha, smErase_of_none t k h]
      · simp [smInsert, hk, smErase, ha, ih h]

/-- A later write of a key stands alone. -/
@[simp] theorem smPut_smPut [DecidableEq α] (d : Nat → α) (m : SMap α) (k : Nat) (v w : α) :
    smPut d (smPut d m k v) k w = smPut d m k w := by
  have e : smErase (smPut d m k v) k = smErase m k := by
    unfold smPut
    split
    · exact smErase_of_none _ _ (smFind_smErase_self m k)
    · exact smErase_smInsert _ _ _ (smFind_smErase_self m k)
  unfold smPut at e ⊢
  rw [e]

@[simp] theorem smGet_nil (d : Nat → α) (k : Nat) : smGet d ([] : SMap α) k = d k := rfl

/-! ### The canonical form -/

theorem mem_smErase {m : SMap α} {k : Nat} {e : Nat × α} (h : e ∈ smErase m k) : e ∈ m := by
  induction m with
  | nil => exact h
  | cons a t ih =>
    obtain ⟨a, v⟩ := a
    by_cases hk : a = k
    · simp [smErase, hk] at h; exact List.mem_cons_of_mem _ (ih h)
    · simp [smErase, hk] at h
      rcases h with rfl | h
      · exact List.mem_cons_self
      · exact List.mem_cons_of_mem _ (ih h)

theorem ne_of_mem_smErase {m : SMap α} {k : Nat} {e : Nat × α} (h : e ∈ smErase m k) : e.1 ≠ k := by
  induction m with
  | nil => simp [smErase] at h
  | cons a t ih =>
    obtain ⟨a, v⟩ := a
    by_cases hk : a = k
    · simp [smErase, hk] at h; exact ih h
    · simp [smErase, hk] at h
      rcases h with rfl | h
      · exact hk
      · exact ih h

theorem mem_smInsert {m : SMap α} {k : Nat} {v : α} {e : Nat × α} (h : e ∈ smInsert m k v) : e = (k, v) ∨ e ∈ m := by
  induction m with
  | nil => simp [smInsert] at h; exact .inl h
  | cons a t ih =>
    obtain ⟨a, w⟩ := a
    by_cases hk : k < a
    · simp [smInsert, hk] at h; simpa using h
    · simp [smInsert, hk] at h
      rcases h with rfl | h
      · simp
      · rcases ih h with h | h <;> simp [h]

/-- The keys rise. -/
def SMap.Rising (m : SMap α) : Prop := m.Pairwise (fun x y => x.1 < y.1)

theorem rising_smErase {m : SMap α} (h : SMap.Rising m) (k : Nat) : SMap.Rising (smErase m k) := by
  induction m with
  | nil => exact h
  | cons e t ih =>
    obtain ⟨a, v⟩ := e
    obtain ⟨h1, h2⟩ := List.pairwise_cons.mp h
    by_cases hk : a = k
    · simp [smErase, hk]; exact ih h2
    · simp only [smErase, hk, if_false]
      exact List.pairwise_cons.mpr ⟨fun e he => h1 e (mem_smErase he), ih h2⟩

theorem rising_smInsert {m : SMap α} (h : SMap.Rising m) (k : Nat) (v : α) (hk : ∀ e ∈ m, e.1 ≠ k) :
    SMap.Rising (smInsert m k v) := by
  induction m with
  | nil => simp [smInsert, SMap.Rising]
  | cons e t ih =>
    obtain ⟨a, w⟩ := e
    obtain ⟨h1, h2⟩ := List.pairwise_cons.mp h
    by_cases hlt : k < a
    · simp only [smInsert, hlt, if_true]
      refine List.pairwise_cons.mpr ⟨fun e he => ?_, h⟩
      rcases List.mem_cons.mp he with rfl | he
      · exact hlt
      · exact lt_trans hlt (h1 e he)
    · simp only [smInsert, hlt, if_false]
      refine List.pairwise_cons.mpr ⟨fun e he => ?_, ih h2 (fun e he => hk e (List.mem_cons_of_mem _ he))⟩
      rcases mem_smInsert he with rfl | he
      · have := hk (a, w) List.mem_cons_self
        simp at this; simp; omega
      · exact h1 e he

theorem smWf_iff [DecidableEq α] (d : Nat → α) (m : SMap α) :
    smWf d m = true ↔ SMap.Rising m ∧ ∀ e ∈ m, e.2 ≠ d e.1 := by
  simp [smWf, SMap.Rising]

/-- A write keeps the canonical form. -/
theorem smWf_smPut [DecidableEq α] (d : Nat → α) (m : SMap α) (k : Nat) (v : α) (h : smWf d m = true) :
    smWf d (smPut d m k v) = true := by
  rw [smWf_iff] at h ⊢
  obtain ⟨h1, h2⟩ := h
  unfold smPut
  split
  · exact ⟨rising_smErase h1 k, fun e he => h2 e (mem_smErase he)⟩
  · rename_i hv
    refine ⟨rising_smInsert (rising_smErase h1 k) k v (fun e he => ne_of_mem_smErase he), fun e he => ?_⟩
    rcases mem_smInsert he with rfl | he
    · exact hv
    · exact h2 e (mem_smErase he)

/-- Dropping keys keeps the canonical form. -/
theorem smWf_filter [DecidableEq α] (d : Nat → α) (m : SMap α) (p : Nat × α → Bool) (h : smWf d m = true) :
    smWf d (m.filter p) = true := by
  rw [smWf_iff] at h ⊢
  exact ⟨h.1.filter p, fun e he => h.2 e (List.mem_filter.mp he).1⟩

theorem smWf_smKeep [DecidableEq α] (d : Nat → α) (m : SMap α) (p : Nat → Bool) (h : smWf d m = true) :
    smWf d (smKeep p m) = true := smWf_filter d m _ h

theorem smWf_smErase [DecidableEq α] (d : Nat → α) (m : SMap α) (k : Nat) (h : smWf d m = true) :
    smWf d (smErase m k) = true := by
  rw [smWf_iff] at h ⊢
  exact ⟨rising_smErase h.1 k, fun e he => h.2 e (mem_smErase he)⟩

/-- Rewriting entries under their own keys, and dropping some, keeps the canonical form where no entry becomes its default. -/
theorem smWf_filterMap [DecidableEq α] (d : Nat → α) (m : SMap α) (g : Nat × α → Option (Nat × α))
    (hg : ∀ e y, g e = some y → y.1 = e.1 ∧ (e.2 ≠ d e.1 → y.2 ≠ d y.1)) (h : smWf d m = true) : smWf d (m.filterMap g) = true := by
  rw [smWf_iff] at h ⊢
  obtain ⟨h1, h2⟩ := h
  refine ⟨?_, fun y hy => ?_⟩
  · refine List.Pairwise.filterMap g (fun a b hab c hc e he => ?_) h1
    rw [(hg a c hc).1, (hg b e he).1]
    exact hab
  · obtain ⟨e, he, hey⟩ := List.mem_filterMap.mp hy
    exact (hg e y hey).2 (h2 e he)

@[simp] theorem smWf_nil [DecidableEq α] (d : Nat → α) : smWf d ([] : SMap α) = true := rfl

end Sys2Proof.Machine
end

