-- ==== Sys2Proof/Laws/Reg.lean ====
section
/-! SUPPORT. The laws of registers, fields and bits of fields: what each reads as after a write of itself or of another. -/

namespace Sys2Proof.Machine

@[simp] theorem toNat_toWord (n : Nat) : (toWord n).toNat = n % 2 ^ 18 := by simp [toWord]

@[simp] theorem toWord_toNat (w : Word) : toWord w.toNat = w := by simp [toWord]

/-! ### Bits of numbers -/

theorem bitsOf_lt (w hi lo : Nat) : bitsOf w hi lo < 2 ^ (hi + 1 - lo) := Nat.mod_lt _ (Nat.two_pow_pos _)

/-- Bits read back from a replacement. -/
theorem bitsOf_putBits_self (w hi lo v : Nat) (h : lo ≤ hi) : bitsOf (putBits w hi lo v) hi lo = v % 2 ^ (hi + 1 - lo) := by
  unfold bitsOf putBits
  have e : 2 ^ (hi + 1) = 2 ^ lo * 2 ^ (hi + 1 - lo) := by rw [← pow_add]; congr 1; omega
  have h1 : w % 2 ^ lo < 2 ^ lo := Nat.mod_lt _ (Nat.two_pow_pos _)
  rw [e]
  have : w % 2 ^ lo + v % 2 ^ (hi + 1 - lo) * 2 ^ lo + w / (2 ^ lo * 2 ^ (hi + 1 - lo)) * (2 ^ lo * 2 ^ (hi + 1 - lo))
      = w % 2 ^ lo + 2 ^ lo * (v % 2 ^ (hi + 1 - lo) + 2 ^ (hi + 1 - lo) * (w / (2 ^ lo * 2 ^ (hi + 1 - lo)))) := by ring
  rw [this, Nat.add_mul_div_left _ _ (Nat.two_pow_pos _), Nat.div_eq_of_lt h1, Nat.zero_add, Nat.add_mul_mod_self_left, Nat.mod_mod]

/-- Replaced bits do not reach below. -/
theorem bitsOf_putBits_below (w hi lo v h l : Nat) (hb : h < lo) (hl : lo ≤ hi) : bitsOf (putBits w hi lo v) h l = bitsOf w h l := by
  unfold bitsOf putBits
  by_cases hlh : h + 1 ≤ l
  · have : h + 1 - l = 0 := by omega
    simp [this, Nat.mod_one]
  · have e1 : 2 ^ lo = 2 ^ l * (2 ^ (h + 1 - l) * 2 ^ (lo - (h + 1))) := by rw [← pow_add, ← pow_add]; congr 1; omega
    have e2 : 2 ^ (hi + 1) = 2 ^ lo * 2 ^ (hi + 1 - lo) := by rw [← pow_add]; congr 1; omega
    set q := v % 2 ^ (hi + 1 - lo)
    have s : w % 2 ^ lo + q * 2 ^ lo + w / 2 ^ (hi + 1) * 2 ^ (hi + 1)
        = w % 2 ^ lo + 2 ^ lo * (q + w / 2 ^ (hi + 1) * 2 ^ (hi + 1 - lo)) := by
      generalize w / 2 ^ (hi + 1) = r
      rw [e2]; ring
    rw [s]
    have k : ∀ x y : Nat, (x + 2 ^ lo * y) / 2 ^ l % 2 ^ (h + 1 - l) = x / 2 ^ l % 2 ^ (h + 1 - l) := by
      intro x y
      rw [e1, Nat.mul_assoc, Nat.add_mul_div_left _ _ (Nat.two_pow_pos _), Nat.mul_assoc, Nat.add_mul_mod_self_left]
    rw [k]
    conv_rhs => rw [← Nat.mod_add_div w (2 ^ lo)]
    rw [k]

/-- Replaced bits do not reach above. -/
theorem bitsOf_putBits_above (w hi lo v h l : Nat) (hb : hi < l) (hl : lo ≤ hi) : bitsOf (putBits w hi lo v) h l = bitsOf w h l := by
  unfold bitsOf
  congr 1
  unfold putBits
  have e2 : 2 ^ (hi + 1) = 2 ^ lo * 2 ^ (hi + 1 - lo) := by rw [← pow_add]; congr 1; omega
  have e3 : 2 ^ l = 2 ^ (hi + 1) * 2 ^ (l - (hi + 1)) := by rw [← pow_add]; congr 1; omega
  have h1 : w % 2 ^ lo < 2 ^ lo := Nat.mod_lt _ (Nat.two_pow_pos _)
  have h2 : v % 2 ^ (hi + 1 - lo) < 2 ^ (hi + 1 - lo) := Nat.mod_lt _ (Nat.two_pow_pos _)
  have h3 : w % 2 ^ lo + v % 2 ^ (hi + 1 - lo) * 2 ^ lo < 2 ^ (hi + 1) := by
    rw [e2]; nlinarith [Nat.two_pow_pos lo]
  rw [e3, ← Nat.div_div_eq_div_mul, ← Nat.div_div_eq_div_mul]
  congr 1
  rw [Nat.mul_comm (w / 2 ^ (hi + 1)), Nat.add_mul_div_left _ _ (Nat.two_pow_pos _), Nat.div_eq_of_lt h3, Nat.zero_add]

theorem putBits_lt (w hi lo v : Nat) (hw : w < 2 ^ 18) (hl : lo ≤ hi) (hh : hi < 18) : putBits w hi lo v < 2 ^ 18 := by
  unfold putBits
  have e2 : 2 ^ (hi + 1) = 2 ^ lo * 2 ^ (hi + 1 - lo) := by rw [← pow_add]; congr 1; omega
  have e3 : (2:Nat) ^ 18 = 2 ^ (hi + 1) * 2 ^ (18 - (hi + 1)) := by rw [← pow_add]; congr 1; omega
  have h1 : w % 2 ^ lo < 2 ^ lo := Nat.mod_lt _ (Nat.two_pow_pos _)
  have h2 : v % 2 ^ (hi + 1 - lo) < 2 ^ (hi + 1 - lo) := Nat.mod_lt _ (Nat.two_pow_pos _)
  have h3 : w % 2 ^ lo + v % 2 ^ (hi + 1 - lo) * 2 ^ lo < 2 ^ (hi + 1) := by
    rw [e2]; nlinarith [Nat.two_pow_pos lo]
  have h4 : w / 2 ^ (hi + 1) < 2 ^ (18 - (hi + 1)) := Nat.div_lt_of_lt_mul (by rw [← e3]; exact hw)
  rw [e3]
  nlinarith [Nat.two_pow_pos (hi + 1)]

/-! ### Registers -/

@[simp] theorem State.reg_setReg_self (s : State) (k v : Nat) : (s.setReg k v).reg k = v % 2 ^ 18 := by
  simp [State.reg, State.setReg]

theorem State.reg_setReg_of_ne (s : State) {j k : Nat} (v : Nat) (h : j ≠ k) : (s.setReg k v).reg j = s.reg j := by
  simp [State.reg, State.setReg, smGet_smPut_of_ne _ _ _ h]

theorem State.reg_lt (s : State) (k : Nat) : s.reg k < 2 ^ 18 := (smGet regReset s.io k).isLt

/-- A place of a field: its bits lie in the word. -/
def FRef.Good (f : FRef) : Prop := f.lo ≤ f.hi ∧ f.hi < 18

/-- Two fields share no bit. -/
def FRef.Apart (f g : FRef) : Prop := f.addr ≠ g.addr ∨ f.hi < g.lo ∨ g.hi < f.lo

/-- A field reads as the value last written to it. -/
theorem State.fld_setFld_self (s : State) (f : FRef) (v : Nat) (h : f.Good) : (s.setFld f v).fld f = v % 2 ^ (f.hi + 1 - f.lo) := by
  simp only [State.fld, State.setFld, State.reg_setReg_self]
  rw [Nat.mod_eq_of_lt (putBits_lt _ _ _ _ (s.reg_lt _) h.1 h.2), bitsOf_putBits_self _ _ _ _ h.1]

/-- A write of a field leaves every field apart from it alone. -/
theorem State.fld_setFld_of_apart (s : State) (f g : FRef) (v : Nat) (h : f.Good) (ha : g.Apart f) :
    (s.setFld f v).fld g = s.fld g := by
  simp only [State.fld, State.setFld]
  by_cases hk : g.addr = f.addr
  · rw [hk, State.reg_setReg_self, Nat.mod_eq_of_lt (putBits_lt _ _ _ _ (s.reg_lt _) h.1 h.2)]
    rcases ha with ha | ha | ha
    · exact absurd hk ha
    · exact bitsOf_putBits_below _ _ _ _ _ _ ha h.1
    · exact bitsOf_putBits_above _ _ _ _ _ _ ha h.1
  · rw [State.reg_setReg_of_ne s _ hk]

/-- A write of a register leaves every field of other registers alone. -/
theorem State.fld_setReg_of_ne (s : State) (k v : Nat) (g : FRef) (h : g.addr ≠ k) : (s.setReg k v).fld g = s.fld g := by
  simp only [State.fld, State.reg_setReg_of_ne s v h]

theorem State.reg_setFld_of_ne (s : State) (f : FRef) (k v : Nat) (h : k ≠ f.addr) : (s.setFld f v).reg k = s.reg k :=
  State.reg_setReg_of_ne s _ h

theorem State.fld_lt (s : State) (f : FRef) : s.fld f < 2 ^ (f.hi + 1 - f.lo) := bitsOf_lt _ _ _

end Sys2Proof.Machine
end

