-- ==== Sys2Proof/Laws/State.lean ====
section
/-! SUPPORT. What each update of the state leaves and sets, field by field, so that no proof unfolds a record update. -/

namespace Sys2Proof.Machine

variable (s : State)

/-! ### setReg -/

@[simp] theorem State.pending_setReg (k v : Nat) : (s.setReg k v).pending = s.pending := rfl
@[simp] theorem State.io_setReg (k v : Nat) : (s.setReg k v).io = smPut regReset s.io k (toWord v) := rfl
@[simp] theorem State.snap_setReg (k v : Nat) : (s.setReg k v).snap = s.snap := rfl
@[simp] theorem State.rdata_setReg (k v : Nat) : (s.setReg k v).rdata = s.rdata := rfl
@[simp] theorem State.mem_setReg (k v : Nat) : (s.setReg k v).mem = s.mem := rfl
@[simp] theorem State.ecc_setReg (k v : Nat) : (s.setReg k v).ecc = s.ecc := rfl
@[simp] theorem State.descs_setReg (k v : Nat) : (s.setReg k v).descs = s.descs := rfl
@[simp] theorem State.rng_setReg (k v : Nat) : (s.setReg k v).rng = s.rng := rfl
@[simp] theorem State.threads_setReg (k v : Nat) : (s.setReg k v).threads = s.threads := rfl
@[simp] theorem State.zone_setReg (k v : Nat) : (s.setReg k v).zone = s.zone := rfl
@[simp] theorem State.ocfg_setReg (k v : Nat) : (s.setReg k v).ocfg = s.ocfg := rfl
@[simp] theorem State.hsc_setReg (k v : Nat) : (s.setReg k v).hsc = s.hsc := rfl
@[simp] theorem State.mot_setReg (k v : Nat) : (s.setReg k v).mot = s.mot := rfl
@[simp] theorem State.vlv_setReg (k v : Nat) : (s.setReg k v).vlv = s.vlv := rfl
@[simp] theorem State.bank_setReg (k v : Nat) : (s.setReg k v).bank = s.bank := rfl
@[simp] theorem State.lux_setReg (k v : Nat) : (s.setReg k v).lux = s.lux := rfl
@[simp] theorem State.loops_setReg (k v : Nat) : (s.setReg k v).loops = s.loops := rfl
@[simp] theorem State.px_setReg (k v : Nat) : (s.setReg k v).px = s.px := rfl
@[simp] theorem State.thm_setReg (k v : Nat) : (s.setReg k v).thm = s.thm := rfl
@[simp] theorem State.flt_setReg (k v : Nat) : (s.setReg k v).flt = s.flt := rfl
@[simp] theorem State.pw_setReg (k v : Nat) : (s.setReg k v).pw = s.pw := rfl
@[simp] theorem State.zsw_setReg (k v : Nat) : (s.setReg k v).zsw = s.zsw := rfl
@[simp] theorem State.eth_setReg (k v : Nat) : (s.setReg k v).eth = s.eth := rfl
@[simp] theorem State.net_setReg (k v : Nat) : (s.setReg k v).net = s.net := rfl
@[simp] theorem State.herd_setReg (k v : Nat) : (s.setReg k v).herd = s.herd := rfl
@[simp] theorem State.inp_setReg (k v : Nat) : (s.setReg k v).inp = s.inp := rfl
@[simp] theorem State.acc_setReg (k v : Nat) : (s.setReg k v).acc = s.acc := rfl
@[simp] theorem State.memc_setReg (k v : Nat) : (s.setReg k v).memc = s.memc := rfl
@[simp] theorem State.img_setReg (k v : Nat) : (s.setReg k v).img = s.img := rfl
@[simp] theorem State.brc_setReg (k v : Nat) : (s.setReg k v).brc = s.brc := rfl
@[simp] theorem State.cores_setReg (k v : Nat) : (s.setReg k v).cores = s.cores := rfl
@[simp] theorem State.zt_setReg (k v : Nat) : (s.setReg k v).zt = s.zt := rfl
@[simp] theorem State.free_setReg (k v : Nat) : (s.setReg k v).free = s.free := rfl
@[simp] theorem State.domOn_setReg (k v : Nat) (d : Dom) : (s.setReg k v).domOn d = s.domOn d := rfl

/-! ### setDescs -/

@[simp] theorem State.pending_setDescs (l : List Desc) : (s.setDescs l).pending = s.pending := rfl
@[simp] theorem State.io_setDescs (l : List Desc) : (s.setDescs l).io = s.io := rfl
@[simp] theorem State.snap_setDescs (l : List Desc) : (s.setDescs l).snap = s.snap := rfl
@[simp] theorem State.rdata_setDescs (l : List Desc) : (s.setDescs l).rdata = s.rdata := rfl
@[simp] theorem State.mem_setDescs (l : List Desc) : (s.setDescs l).mem = s.mem := rfl
@[simp] theorem State.ecc_setDescs (l : List Desc) : (s.setDescs l).ecc = s.ecc := rfl
@[simp] theorem State.descs_setDescs (l : List Desc) : (s.setDescs l).descs = l := rfl
@[simp] theorem State.rng_setDescs (l : List Desc) : (s.setDescs l).rng = s.rng := rfl
@[simp] theorem State.threads_setDescs (l : List Desc) : (s.setDescs l).threads = s.threads := rfl
@[simp] theorem State.zone_setDescs (l : List Desc) : (s.setDescs l).zone = s.zone := rfl
@[simp] theorem State.ocfg_setDescs (l : List Desc) : (s.setDescs l).ocfg = s.ocfg := rfl
@[simp] theorem State.hsc_setDescs (l : List Desc) : (s.setDescs l).hsc = s.hsc := rfl
@[simp] theorem State.mot_setDescs (l : List Desc) : (s.setDescs l).mot = s.mot := rfl
@[simp] theorem State.vlv_setDescs (l : List Desc) : (s.setDescs l).vlv = s.vlv := rfl
@[simp] theorem State.bank_setDescs (l : List Desc) : (s.setDescs l).bank = s.bank := rfl
@[simp] theorem State.lux_setDescs (l : List Desc) : (s.setDescs l).lux = s.lux := rfl
@[simp] theorem State.loops_setDescs (l : List Desc) : (s.setDescs l).loops = s.loops := rfl
@[simp] theorem State.px_setDescs (l : List Desc) : (s.setDescs l).px = s.px := rfl
@[simp] theorem State.thm_setDescs (l : List Desc) : (s.setDescs l).thm = s.thm := rfl
@[simp] theorem State.flt_setDescs (l : List Desc) : (s.setDescs l).flt = s.flt := rfl
@[simp] theorem State.pw_setDescs (l : List Desc) : (s.setDescs l).pw = s.pw := rfl
@[simp] theorem State.zsw_setDescs (l : List Desc) : (s.setDescs l).zsw = s.zsw := rfl
@[simp] theorem State.eth_setDescs (l : List Desc) : (s.setDescs l).eth = s.eth := rfl
@[simp] theorem State.net_setDescs (l : List Desc) : (s.setDescs l).net = s.net := rfl
@[simp] theorem State.herd_setDescs (l : List Desc) : (s.setDescs l).herd = s.herd := rfl
@[simp] theorem State.inp_setDescs (l : List Desc) : (s.setDescs l).inp = s.inp := rfl
@[simp] theorem State.acc_setDescs (l : List Desc) : (s.setDescs l).acc = s.acc := rfl
@[simp] theorem State.memc_setDescs (l : List Desc) : (s.setDescs l).memc = s.memc := rfl
@[simp] theorem State.img_setDescs (l : List Desc) : (s.setDescs l).img = s.img := rfl
@[simp] theorem State.brc_setDescs (l : List Desc) : (s.setDescs l).brc = s.brc := rfl
@[simp] theorem State.cores_setDescs (l : List Desc) : (s.setDescs l).cores = s.cores := rfl
@[simp] theorem State.zt_setDescs (l : List Desc) : (s.setDescs l).zt = s.zt := rfl
@[simp] theorem State.free_setDescs (l : List Desc) : (s.setDescs l).free = s.free := rfl
@[simp] theorem State.reg_setDescs (l : List Desc) (a : Nat) : (s.setDescs l).reg a = s.reg a := rfl
@[simp] theorem State.fld_setDescs (l : List Desc) (g : FRef) : (s.setDescs l).fld g = s.fld g := rfl
@[simp] theorem State.domOn_setDescs (l : List Desc) (d : Dom) : (s.setDescs l).domOn d = s.domOn d := rfl

/-! ### setCore -/

@[simp] theorem State.pending_setCore (c : Nat) (x : Core) : (s.setCore c x).pending = s.pending := rfl
@[simp] theorem State.io_setCore (c : Nat) (x : Core) : (s.setCore c x).io = s.io := rfl
@[simp] theorem State.snap_setCore (c : Nat) (x : Core) : (s.setCore c x).snap = s.snap := rfl
@[simp] theorem State.rdata_setCore (c : Nat) (x : Core) : (s.setCore c x).rdata = s.rdata := rfl
@[simp] theorem State.mem_setCore (c : Nat) (x : Core) : (s.setCore c x).mem = s.mem := rfl
@[simp] theorem State.ecc_setCore (c : Nat) (x : Core) : (s.setCore c x).ecc = s.ecc := rfl
@[simp] theorem State.descs_setCore (c : Nat) (x : Core) : (s.setCore c x).descs = s.descs := rfl
@[simp] theorem State.rng_setCore (c : Nat) (x : Core) : (s.setCore c x).rng = s.rng := rfl
@[simp] theorem State.threads_setCore (c : Nat) (x : Core) : (s.setCore c x).threads = s.threads := rfl
@[simp] theorem State.zone_setCore (c : Nat) (x : Core) : (s.setCore c x).zone = s.zone := rfl
@[simp] theorem State.ocfg_setCore (c : Nat) (x : Core) : (s.setCore c x).ocfg = s.ocfg := rfl
@[simp] theorem State.hsc_setCore (c : Nat) (x : Core) : (s.setCore c x).hsc = s.hsc := rfl
@[simp] theorem State.mot_setCore (c : Nat) (x : Core) : (s.setCore c x).mot = s.mot := rfl
@[simp] theorem State.vlv_setCore (c : Nat) (x : Core) : (s.setCore c x).vlv = s.vlv := rfl
@[simp] theorem State.bank_setCore (c : Nat) (x : Core) : (s.setCore c x).bank = s.bank := rfl
@[simp] theorem State.lux_setCore (c : Nat) (x : Core) : (s.setCore c x).lux = s.lux := rfl
@[simp] theorem State.loops_setCore (c : Nat) (x : Core) : (s.setCore c x).loops = s.loops := rfl
@[simp] theorem State.px_setCore (c : Nat) (x : Core) : (s.setCore c x).px = s.px := rfl
@[simp] theorem State.thm_setCore (c : Nat) (x : Core) : (s.setCore c x).thm = s.thm := rfl
@[simp] theorem State.flt_setCore (c : Nat) (x : Core) : (s.setCore c x).flt = s.flt := rfl
@[simp] theorem State.pw_setCore (c : Nat) (x : Core) : (s.setCore c x).pw = s.pw := rfl
@[simp] theorem State.zsw_setCore (c : Nat) (x : Core) : (s.setCore c x).zsw = s.zsw := rfl
@[simp] theorem State.eth_setCore (c : Nat) (x : Core) : (s.setCore c x).eth = s.eth := rfl
@[simp] theorem State.net_setCore (c : Nat) (x : Core) : (s.setCore c x).net = s.net := rfl
@[simp] theorem State.herd_setCore (c : Nat) (x : Core) : (s.setCore c x).herd = s.herd := rfl
@[simp] theorem State.inp_setCore (c : Nat) (x : Core) : (s.setCore c x).inp = s.inp := rfl
@[simp] theorem State.acc_setCore (c : Nat) (x : Core) : (s.setCore c x).acc = s.acc := rfl
@[simp] theorem State.memc_setCore (c : Nat) (x : Core) : (s.setCore c x).memc = s.memc := rfl
@[simp] theorem State.img_setCore (c : Nat) (x : Core) : (s.setCore c x).img = s.img := rfl
@[simp] theorem State.brc_setCore (c : Nat) (x : Core) : (s.setCore c x).brc = s.brc := rfl
@[simp] theorem State.cores_setCore (c : Nat) (x : Core) : (s.setCore c x).cores = smPut (fun _ => {}) s.cores c x := rfl
@[simp] theorem State.zt_setCore (c : Nat) (x : Core) : (s.setCore c x).zt = s.zt := rfl
@[simp] theorem State.free_setCore (c : Nat) (x : Core) : (s.setCore c x).free = s.free := rfl
@[simp] theorem State.reg_setCore (c : Nat) (x : Core) (a : Nat) : (s.setCore c x).reg a = s.reg a := rfl
@[simp] theorem State.fld_setCore (c : Nat) (x : Core) (g : FRef) : (s.setCore c x).fld g = s.fld g := rfl
@[simp] theorem State.domOn_setCore (c : Nat) (x : Core) (d : Dom) : (s.setCore c x).domOn d = s.domOn d := rfl

/-! ### setThr -/

@[simp] theorem State.pending_setThr (n : Nat) (t : Thread) : (s.setThr n t).pending = s.pending := rfl
@[simp] theorem State.io_setThr (n : Nat) (t : Thread) : (s.setThr n t).io = s.io := rfl
@[simp] theorem State.snap_setThr (n : Nat) (t : Thread) : (s.setThr n t).snap = s.snap := rfl
@[simp] theorem State.rdata_setThr (n : Nat) (t : Thread) : (s.setThr n t).rdata = s.rdata := rfl
@[simp] theorem State.mem_setThr (n : Nat) (t : Thread) : (s.setThr n t).mem = s.mem := rfl
@[simp] theorem State.ecc_setThr (n : Nat) (t : Thread) : (s.setThr n t).ecc = s.ecc := rfl
@[simp] theorem State.descs_setThr (n : Nat) (t : Thread) : (s.setThr n t).descs = s.descs := rfl
@[simp] theorem State.rng_setThr (n : Nat) (t : Thread) : (s.setThr n t).rng = s.rng := rfl
@[simp] theorem State.threads_setThr (n : Nat) (t : Thread) : (s.setThr n t).threads = smPut (fun _ => {}) s.threads n t := rfl
@[simp] theorem State.zone_setThr (n : Nat) (t : Thread) : (s.setThr n t).zone = s.zone := rfl
@[simp] theorem State.ocfg_setThr (n : Nat) (t : Thread) : (s.setThr n t).ocfg = s.ocfg := rfl
@[simp] theorem State.hsc_setThr (n : Nat) (t : Thread) : (s.setThr n t).hsc = s.hsc := rfl
@[simp] theorem State.mot_setThr (n : Nat) (t : Thread) : (s.setThr n t).mot = s.mot := rfl
@[simp] theorem State.vlv_setThr (n : Nat) (t : Thread) : (s.setThr n t).vlv = s.vlv := rfl
@[simp] theorem State.bank_setThr (n : Nat) (t : Thread) : (s.setThr n t).bank = s.bank := rfl
@[simp] theorem State.lux_setThr (n : Nat) (t : Thread) : (s.setThr n t).lux = s.lux := rfl
@[simp] theorem State.loops_setThr (n : Nat) (t : Thread) : (s.setThr n t).loops = s.loops := rfl
@[simp] theorem State.px_setThr (n : Nat) (t : Thread) : (s.setThr n t).px = s.px := rfl
@[simp] theorem State.thm_setThr (n : Nat) (t : Thread) : (s.setThr n t).thm = s.thm := rfl
@[simp] theorem State.flt_setThr (n : Nat) (t : Thread) : (s.setThr n t).flt = s.flt := rfl
@[simp] theorem State.pw_setThr (n : Nat) (t : Thread) : (s.setThr n t).pw = s.pw := rfl
@[simp] theorem State.zsw_setThr (n : Nat) (t : Thread) : (s.setThr n t).zsw = s.zsw := rfl
@[simp] theorem State.eth_setThr (n : Nat) (t : Thread) : (s.setThr n t).eth = s.eth := rfl
@[simp] theorem State.net_setThr (n : Nat) (t : Thread) : (s.setThr n t).net = s.net := rfl
@[simp] theorem State.herd_setThr (n : Nat) (t : Thread) : (s.setThr n t).herd = s.herd := rfl
@[simp] theorem State.inp_setThr (n : Nat) (t : Thread) : (s.setThr n t).inp = s.inp := rfl
@[simp] theorem State.acc_setThr (n : Nat) (t : Thread) : (s.setThr n t).acc = s.acc := rfl
@[simp] theorem State.memc_setThr (n : Nat) (t : Thread) : (s.setThr n t).memc = s.memc := rfl
@[simp] theorem State.img_setThr (n : Nat) (t : Thread) : (s.setThr n t).img = s.img := rfl
@[simp] theorem State.brc_setThr (n : Nat) (t : Thread) : (s.setThr n t).brc = s.brc := rfl
@[simp] theorem State.cores_setThr (n : Nat) (t : Thread) : (s.setThr n t).cores = s.cores := rfl
@[simp] theorem State.zt_setThr (n : Nat) (t : Thread) : (s.setThr n t).zt = s.zt := rfl
@[simp] theorem State.free_setThr (n : Nat) (t : Thread) : (s.setThr n t).free = s.free := rfl
@[simp] theorem State.reg_setThr (n : Nat) (t : Thread) (a : Nat) : (s.setThr n t).reg a = s.reg a := rfl
@[simp] theorem State.fld_setThr (n : Nat) (t : Thread) (g : FRef) : (s.setThr n t).fld g = s.fld g := rfl
@[simp] theorem State.domOn_setThr (n : Nat) (t : Thread) (d : Dom) : (s.setThr n t).domOn d = s.domOn d := rfl

/-! ### setHch -/

@[simp] theorem State.pending_setHch (n : Nat) (x : HscCh) : (s.setHch n x).pending = s.pending := rfl
@[simp] theorem State.io_setHch (n : Nat) (x : HscCh) : (s.setHch n x).io = s.io := rfl
@[simp] theorem State.snap_setHch (n : Nat) (x : HscCh) : (s.setHch n x).snap = s.snap := rfl
@[simp] theorem State.rdata_setHch (n : Nat) (x : HscCh) : (s.setHch n x).rdata = s.rdata := rfl
@[simp] theorem State.mem_setHch (n : Nat) (x : HscCh) : (s.setHch n x).mem = s.mem := rfl
@[simp] theorem State.ecc_setHch (n : Nat) (x : HscCh) : (s.setHch n x).ecc = s.ecc := rfl
@[simp] theorem State.descs_setHch (n : Nat) (x : HscCh) : (s.setHch n x).descs = s.descs := rfl
@[simp] theorem State.rng_setHch (n : Nat) (x : HscCh) : (s.setHch n x).rng = s.rng := rfl
@[simp] theorem State.threads_setHch (n : Nat) (x : HscCh) : (s.setHch n x).threads = s.threads := rfl
@[simp] theorem State.zone_setHch (n : Nat) (x : HscCh) : (s.setHch n x).zone = s.zone := rfl
@[simp] theorem State.ocfg_setHch (n : Nat) (x : HscCh) : (s.setHch n x).ocfg = s.ocfg := rfl
@[simp] theorem State.hsc_setHch (n : Nat) (x : HscCh) : (s.setHch n x).hsc = smPut (fun _ => {}) s.hsc n x := rfl
@[simp] theorem State.mot_setHch (n : Nat) (x : HscCh) : (s.setHch n x).mot = s.mot := rfl
@[simp] theorem State.vlv_setHch (n : Nat) (x : HscCh) : (s.setHch n x).vlv = s.vlv := rfl
@[simp] theorem State.bank_setHch (n : Nat) (x : HscCh) : (s.setHch n x).bank = s.bank := rfl
@[simp] theorem State.lux_setHch (n : Nat) (x : HscCh) : (s.setHch n x).lux = s.lux := rfl
@[simp] theorem State.loops_setHch (n : Nat) (x : HscCh) : (s.setHch n x).loops = s.loops := rfl
@[simp] theorem State.px_setHch (n : Nat) (x : HscCh) : (s.setHch n x).px = s.px := rfl
@[simp] theorem State.thm_setHch (n : Nat) (x : HscCh) : (s.setHch n x).thm = s.thm := rfl
@[simp] theorem State.flt_setHch (n : Nat) (x : HscCh) : (s.setHch n x).flt = s.flt := rfl
@[simp] theorem State.pw_setHch (n : Nat) (x : HscCh) : (s.setHch n x).pw = s.pw := rfl
@[simp] theorem State.zsw_setHch (n : Nat) (x : HscCh) : (s.setHch n x).zsw = s.zsw := rfl
@[simp] theorem State.eth_setHch (n : Nat) (x : HscCh) : (s.setHch n x).eth = s.eth := rfl
@[simp] theorem State.net_setHch (n : Nat) (x : HscCh) : (s.setHch n x).net = s.net := rfl
@[simp] theorem State.herd_setHch (n : Nat) (x : HscCh) : (s.setHch n x).herd = s.herd := rfl
@[simp] theorem State.inp_setHch (n : Nat) (x : HscCh) : (s.setHch n x).inp = s.inp := rfl
@[simp] theorem State.acc_setHch (n : Nat) (x : HscCh) : (s.setHch n x).acc = s.acc := rfl
@[simp] theorem State.memc_setHch (n : Nat) (x : HscCh) : (s.setHch n x).memc = s.memc := rfl
@[simp] theorem State.img_setHch (n : Nat) (x : HscCh) : (s.setHch n x).img = s.img := rfl
@[simp] theorem State.brc_setHch (n : Nat) (x : HscCh) : (s.setHch n x).brc = s.brc := rfl
@[simp] theorem State.cores_setHch (n : Nat) (x : HscCh) : (s.setHch n x).cores = s.cores := rfl
@[simp] theorem State.zt_setHch (n : Nat) (x : HscCh) : (s.setHch n x).zt = s.zt := rfl
@[simp] theorem State.free_setHch (n : Nat) (x : HscCh) : (s.setHch n x).free = s.free := rfl
@[simp] theorem State.reg_setHch (n : Nat) (x : HscCh) (a : Nat) : (s.setHch n x).reg a = s.reg a := rfl
@[simp] theorem State.fld_setHch (n : Nat) (x : HscCh) (g : FRef) : (s.setHch n x).fld g = s.fld g := rfl
@[simp] theorem State.domOn_setHch (n : Nat) (x : HscCh) (d : Dom) : (s.setHch n x).domOn d = s.domOn d := rfl

/-! ### setMt -/

@[simp] theorem State.pending_setMt (n : Nat) (x : MotT) : (s.setMt n x).pending = s.pending := rfl
@[simp] theorem State.io_setMt (n : Nat) (x : MotT) : (s.setMt n x).io = s.io := rfl
@[simp] theorem State.snap_setMt (n : Nat) (x : MotT) : (s.setMt n x).snap = s.snap := rfl
@[simp] theorem State.rdata_setMt (n : Nat) (x : MotT) : (s.setMt n x).rdata = s.rdata := rfl
@[simp] theorem State.mem_setMt (n : Nat) (x : MotT) : (s.setMt n x).mem = s.mem := rfl
@[simp] theorem State.ecc_setMt (n : Nat) (x : MotT) : (s.setMt n x).ecc = s.ecc := rfl
@[simp] theorem State.descs_setMt (n : Nat) (x : MotT) : (s.setMt n x).descs = s.descs := rfl
@[simp] theorem State.rng_setMt (n : Nat) (x : MotT) : (s.setMt n x).rng = s.rng := rfl
@[simp] theorem State.threads_setMt (n : Nat) (x : MotT) : (s.setMt n x).threads = s.threads := rfl
@[simp] theorem State.zone_setMt (n : Nat) (x : MotT) : (s.setMt n x).zone = s.zone := rfl
@[simp] theorem State.ocfg_setMt (n : Nat) (x : MotT) : (s.setMt n x).ocfg = s.ocfg := rfl
@[simp] theorem State.hsc_setMt (n : Nat) (x : MotT) : (s.setMt n x).hsc = s.hsc := rfl
@[simp] theorem State.mot_setMt (n : Nat) (x : MotT) : (s.setMt n x).mot = smPut (fun _ => {}) s.mot n x := rfl
@[simp] theorem State.vlv_setMt (n : Nat) (x : MotT) : (s.setMt n x).vlv = s.vlv := rfl
@[simp] theorem State.bank_setMt (n : Nat) (x : MotT) : (s.setMt n x).bank = s.bank := rfl
@[simp] theorem State.lux_setMt (n : Nat) (x : MotT) : (s.setMt n x).lux = s.lux := rfl
@[simp] theorem State.loops_setMt (n : Nat) (x : MotT) : (s.setMt n x).loops = s.loops := rfl
@[simp] theorem State.px_setMt (n : Nat) (x : MotT) : (s.setMt n x).px = s.px := rfl
@[simp] theorem State.thm_setMt (n : Nat) (x : MotT) : (s.setMt n x).thm = s.thm := rfl
@[simp] theorem State.flt_setMt (n : Nat) (x : MotT) : (s.setMt n x).flt = s.flt := rfl
@[simp] theorem State.pw_setMt (n : Nat) (x : MotT) : (s.setMt n x).pw = s.pw := rfl
@[simp] theorem State.zsw_setMt (n : Nat) (x : MotT) : (s.setMt n x).zsw = s.zsw := rfl
@[simp] theorem State.eth_setMt (n : Nat) (x : MotT) : (s.setMt n x).eth = s.eth := rfl
@[simp] theorem State.net_setMt (n : Nat) (x : MotT) : (s.setMt n x).net = s.net := rfl
@[simp] theorem State.herd_setMt (n : Nat) (x : MotT) : (s.setMt n x).herd = s.herd := rfl
@[simp] theorem State.inp_setMt (n : Nat) (x : MotT) : (s.setMt n x).inp = s.inp := rfl
@[simp] theorem State.acc_setMt (n : Nat) (x : MotT) : (s.setMt n x).acc = s.acc := rfl
@[simp] theorem State.memc_setMt (n : Nat) (x : MotT) : (s.setMt n x).memc = s.memc := rfl
@[simp] theorem State.img_setMt (n : Nat) (x : MotT) : (s.setMt n x).img = s.img := rfl
@[simp] theorem State.brc_setMt (n : Nat) (x : MotT) : (s.setMt n x).brc = s.brc := rfl
@[simp] theorem State.cores_setMt (n : Nat) (x : MotT) : (s.setMt n x).cores = s.cores := rfl
@[simp] theorem State.zt_setMt (n : Nat) (x : MotT) : (s.setMt n x).zt = s.zt := rfl
@[simp] theorem State.free_setMt (n : Nat) (x : MotT) : (s.setMt n x).free = s.free := rfl
@[simp] theorem State.reg_setMt (n : Nat) (x : MotT) (a : Nat) : (s.setMt n x).reg a = s.reg a := rfl
@[simp] theorem State.fld_setMt (n : Nat) (x : MotT) (g : FRef) : (s.setMt n x).fld g = s.fld g := rfl
@[simp] theorem State.domOn_setMt (n : Nat) (x : MotT) (d : Dom) : (s.setMt n x).domOn d = s.domOn d := rfl

/-! ### setVv -/

@[simp] theorem State.pending_setVv (n : Nat) (x : VlvT) : (s.setVv n x).pending = s.pending := rfl
@[simp] theorem State.io_setVv (n : Nat) (x : VlvT) : (s.setVv n x).io = s.io := rfl
@[simp] theorem State.snap_setVv (n : Nat) (x : VlvT) : (s.setVv n x).snap = s.snap := rfl
@[simp] theorem State.rdata_setVv (n : Nat) (x : VlvT) : (s.setVv n x).rdata = s.rdata := rfl
@[simp] theorem State.mem_setVv (n : Nat) (x : VlvT) : (s.setVv n x).mem = s.mem := rfl
@[simp] theorem State.ecc_setVv (n : Nat) (x : VlvT) : (s.setVv n x).ecc = s.ecc := rfl
@[simp] theorem State.descs_setVv (n : Nat) (x : VlvT) : (s.setVv n x).descs = s.descs := rfl
@[simp] theorem State.rng_setVv (n : Nat) (x : VlvT) : (s.setVv n x).rng = s.rng := rfl
@[simp] theorem State.threads_setVv (n : Nat) (x : VlvT) : (s.setVv n x).threads = s.threads := rfl
@[simp] theorem State.zone_setVv (n : Nat) (x : VlvT) : (s.setVv n x).zone = s.zone := rfl
@[simp] theorem State.ocfg_setVv (n : Nat) (x : VlvT) : (s.setVv n x).ocfg = s.ocfg := rfl
@[simp] theorem State.hsc_setVv (n : Nat) (x : VlvT) : (s.setVv n x).hsc = s.hsc := rfl
@[simp] theorem State.mot_setVv (n : Nat) (x : VlvT) : (s.setVv n x).mot = s.mot := rfl
@[simp] theorem State.vlv_setVv (n : Nat) (x : VlvT) : (s.setVv n x).vlv = smPut (fun _ => {}) s.vlv n x := rfl
@[simp] theorem State.bank_setVv (n : Nat) (x : VlvT) : (s.setVv n x).bank = s.bank := rfl
@[simp] theorem State.lux_setVv (n : Nat) (x : VlvT) : (s.setVv n x).lux = s.lux := rfl
@[simp] theorem State.loops_setVv (n : Nat) (x : VlvT) : (s.setVv n x).loops = s.loops := rfl
@[simp] theorem State.px_setVv (n : Nat) (x : VlvT) : (s.setVv n x).px = s.px := rfl
@[simp] theorem State.thm_setVv (n : Nat) (x : VlvT) : (s.setVv n x).thm = s.thm := rfl
@[simp] theorem State.flt_setVv (n : Nat) (x : VlvT) : (s.setVv n x).flt = s.flt := rfl
@[simp] theorem State.pw_setVv (n : Nat) (x : VlvT) : (s.setVv n x).pw = s.pw := rfl
@[simp] theorem State.zsw_setVv (n : Nat) (x : VlvT) : (s.setVv n x).zsw = s.zsw := rfl
@[simp] theorem State.eth_setVv (n : Nat) (x : VlvT) : (s.setVv n x).eth = s.eth := rfl
@[simp] theorem State.net_setVv (n : Nat) (x : VlvT) : (s.setVv n x).net = s.net := rfl
@[simp] theorem State.herd_setVv (n : Nat) (x : VlvT) : (s.setVv n x).herd = s.herd := rfl
@[simp] theorem State.inp_setVv (n : Nat) (x : VlvT) : (s.setVv n x).inp = s.inp := rfl
@[simp] theorem State.acc_setVv (n : Nat) (x : VlvT) : (s.setVv n x).acc = s.acc := rfl
@[simp] theorem State.memc_setVv (n : Nat) (x : VlvT) : (s.setVv n x).memc = s.memc := rfl
@[simp] theorem State.img_setVv (n : Nat) (x : VlvT) : (s.setVv n x).img = s.img := rfl
@[simp] theorem State.brc_setVv (n : Nat) (x : VlvT) : (s.setVv n x).brc = s.brc := rfl
@[simp] theorem State.cores_setVv (n : Nat) (x : VlvT) : (s.setVv n x).cores = s.cores := rfl
@[simp] theorem State.zt_setVv (n : Nat) (x : VlvT) : (s.setVv n x).zt = s.zt := rfl
@[simp] theorem State.free_setVv (n : Nat) (x : VlvT) : (s.setVv n x).free = s.free := rfl
@[simp] theorem State.reg_setVv (n : Nat) (x : VlvT) (a : Nat) : (s.setVv n x).reg a = s.reg a := rfl
@[simp] theorem State.fld_setVv (n : Nat) (x : VlvT) (g : FRef) : (s.setVv n x).fld g = s.fld g := rfl
@[simp] theorem State.domOn_setVv (n : Nat) (x : VlvT) (d : Dom) : (s.setVv n x).domOn d = s.domOn d := rfl

/-! ### setVb -/

@[simp] theorem State.pending_setVb (n : Nat) (x : VlvB) : (s.setVb n x).pending = s.pending := rfl
@[simp] theorem State.io_setVb (n : Nat) (x : VlvB) : (s.setVb n x).io = s.io := rfl
@[simp] theorem State.snap_setVb (n : Nat) (x : VlvB) : (s.setVb n x).snap = s.snap := rfl
@[simp] theorem State.rdata_setVb (n : Nat) (x : VlvB) : (s.setVb n x).rdata = s.rdata := rfl
@[simp] theorem State.mem_setVb (n : Nat) (x : VlvB) : (s.setVb n x).mem = s.mem := rfl
@[simp] theorem State.ecc_setVb (n : Nat) (x : VlvB) : (s.setVb n x).ecc = s.ecc := rfl
@[simp] theorem State.descs_setVb (n : Nat) (x : VlvB) : (s.setVb n x).descs = s.descs := rfl
@[simp] theorem State.rng_setVb (n : Nat) (x : VlvB) : (s.setVb n x).rng = s.rng := rfl
@[simp] theorem State.threads_setVb (n : Nat) (x : VlvB) : (s.setVb n x).threads = s.threads := rfl
@[simp] theorem State.zone_setVb (n : Nat) (x : VlvB) : (s.setVb n x).zone = s.zone := rfl
@[simp] theorem State.ocfg_setVb (n : Nat) (x : VlvB) : (s.setVb n x).ocfg = s.ocfg := rfl
@[simp] theorem State.hsc_setVb (n : Nat) (x : VlvB) : (s.setVb n x).hsc = s.hsc := rfl
@[simp] theorem State.mot_setVb (n : Nat) (x : VlvB) : (s.setVb n x).mot = s.mot := rfl
@[simp] theorem State.vlv_setVb (n : Nat) (x : VlvB) : (s.setVb n x).vlv = s.vlv := rfl
@[simp] theorem State.bank_setVb (n : Nat) (x : VlvB) : (s.setVb n x).bank = smPut (fun _ => {}) s.bank n x := rfl
@[simp] theorem State.lux_setVb (n : Nat) (x : VlvB) : (s.setVb n x).lux = s.lux := rfl
@[simp] theorem State.loops_setVb (n : Nat) (x : VlvB) : (s.setVb n x).loops = s.loops := rfl
@[simp] theorem State.px_setVb (n : Nat) (x : VlvB) : (s.setVb n x).px = s.px := rfl
@[simp] theorem State.thm_setVb (n : Nat) (x : VlvB) : (s.setVb n x).thm = s.thm := rfl
@[simp] theorem State.flt_setVb (n : Nat) (x : VlvB) : (s.setVb n x).flt = s.flt := rfl
@[simp] theorem State.pw_setVb (n : Nat) (x : VlvB) : (s.setVb n x).pw = s.pw := rfl
@[simp] theorem State.zsw_setVb (n : Nat) (x : VlvB) : (s.setVb n x).zsw = s.zsw := rfl
@[simp] theorem State.eth_setVb (n : Nat) (x : VlvB) : (s.setVb n x).eth = s.eth := rfl
@[simp] theorem State.net_setVb (n : Nat) (x : VlvB) : (s.setVb n x).net = s.net := rfl
@[simp] theorem State.herd_setVb (n : Nat) (x : VlvB) : (s.setVb n x).herd = s.herd := rfl
@[simp] theorem State.inp_setVb (n : Nat) (x : VlvB) : (s.setVb n x).inp = s.inp := rfl
@[simp] theorem State.acc_setVb (n : Nat) (x : VlvB) : (s.setVb n x).acc = s.acc := rfl
@[simp] theorem State.memc_setVb (n : Nat) (x : VlvB) : (s.setVb n x).memc = s.memc := rfl
@[simp] theorem State.img_setVb (n : Nat) (x : VlvB) : (s.setVb n x).img = s.img := rfl
@[simp] theorem State.brc_setVb (n : Nat) (x : VlvB) : (s.setVb n x).brc = s.brc := rfl
@[simp] theorem State.cores_setVb (n : Nat) (x : VlvB) : (s.setVb n x).cores = s.cores := rfl
@[simp] theorem State.zt_setVb (n : Nat) (x : VlvB) : (s.setVb n x).zt = s.zt := rfl
@[simp] theorem State.free_setVb (n : Nat) (x : VlvB) : (s.setVb n x).free = s.free := rfl
@[simp] theorem State.reg_setVb (n : Nat) (x : VlvB) (a : Nat) : (s.setVb n x).reg a = s.reg a := rfl
@[simp] theorem State.fld_setVb (n : Nat) (x : VlvB) (g : FRef) : (s.setVb n x).fld g = s.fld g := rfl
@[simp] theorem State.domOn_setVb (n : Nat) (x : VlvB) (d : Dom) : (s.setVb n x).domOn d = s.domOn d := rfl

/-! ### setLx -/

@[simp] theorem State.pending_setLx (n : Nat) (x : LuxT) : (s.setLx n x).pending = s.pending := rfl
@[simp] theorem State.io_setLx (n : Nat) (x : LuxT) : (s.setLx n x).io = s.io := rfl
@[simp] theorem State.snap_setLx (n : Nat) (x : LuxT) : (s.setLx n x).snap = s.snap := rfl
@[simp] theorem State.rdata_setLx (n : Nat) (x : LuxT) : (s.setLx n x).rdata = s.rdata := rfl
@[simp] theorem State.mem_setLx (n : Nat) (x : LuxT) : (s.setLx n x).mem = s.mem := rfl
@[simp] theorem State.ecc_setLx (n : Nat) (x : LuxT) : (s.setLx n x).ecc = s.ecc := rfl
@[simp] theorem State.descs_setLx (n : Nat) (x : LuxT) : (s.setLx n x).descs = s.descs := rfl
@[simp] theorem State.rng_setLx (n : Nat) (x : LuxT) : (s.setLx n x).rng = s.rng := rfl
@[simp] theorem State.threads_setLx (n : Nat) (x : LuxT) : (s.setLx n x).threads = s.threads := rfl
@[simp] theorem State.zone_setLx (n : Nat) (x : LuxT) : (s.setLx n x).zone = s.zone := rfl
@[simp] theorem State.ocfg_setLx (n : Nat) (x : LuxT) : (s.setLx n x).ocfg = s.ocfg := rfl
@[simp] theorem State.hsc_setLx (n : Nat) (x : LuxT) : (s.setLx n x).hsc = s.hsc := rfl
@[simp] theorem State.mot_setLx (n : Nat) (x : LuxT) : (s.setLx n x).mot = s.mot := rfl
@[simp] theorem State.vlv_setLx (n : Nat) (x : LuxT) : (s.setLx n x).vlv = s.vlv := rfl
@[simp] theorem State.bank_setLx (n : Nat) (x : LuxT) : (s.setLx n x).bank = s.bank := rfl
@[simp] theorem State.lux_setLx (n : Nat) (x : LuxT) : (s.setLx n x).lux = smPut (fun _ => {}) s.lux n x := rfl
@[simp] theorem State.loops_setLx (n : Nat) (x : LuxT) : (s.setLx n x).loops = s.loops := rfl
@[simp] theorem State.px_setLx (n : Nat) (x : LuxT) : (s.setLx n x).px = s.px := rfl
@[simp] theorem State.thm_setLx (n : Nat) (x : LuxT) : (s.setLx n x).thm = s.thm := rfl
@[simp] theorem State.flt_setLx (n : Nat) (x : LuxT) : (s.setLx n x).flt = s.flt := rfl
@[simp] theorem State.pw_setLx (n : Nat) (x : LuxT) : (s.setLx n x).pw = s.pw := rfl
@[simp] theorem State.zsw_setLx (n : Nat) (x : LuxT) : (s.setLx n x).zsw = s.zsw := rfl
@[simp] theorem State.eth_setLx (n : Nat) (x : LuxT) : (s.setLx n x).eth = s.eth := rfl
@[simp] theorem State.net_setLx (n : Nat) (x : LuxT) : (s.setLx n x).net = s.net := rfl
@[simp] theorem State.herd_setLx (n : Nat) (x : LuxT) : (s.setLx n x).herd = s.herd := rfl
@[simp] theorem State.inp_setLx (n : Nat) (x : LuxT) : (s.setLx n x).inp = s.inp := rfl
@[simp] theorem State.acc_setLx (n : Nat) (x : LuxT) : (s.setLx n x).acc = s.acc := rfl
@[simp] theorem State.memc_setLx (n : Nat) (x : LuxT) : (s.setLx n x).memc = s.memc := rfl
@[simp] theorem State.img_setLx (n : Nat) (x : LuxT) : (s.setLx n x).img = s.img := rfl
@[simp] theorem State.brc_setLx (n : Nat) (x : LuxT) : (s.setLx n x).brc = s.brc := rfl
@[simp] theorem State.cores_setLx (n : Nat) (x : LuxT) : (s.setLx n x).cores = s.cores := rfl
@[simp] theorem State.zt_setLx (n : Nat) (x : LuxT) : (s.setLx n x).zt = s.zt := rfl
@[simp] theorem State.free_setLx (n : Nat) (x : LuxT) : (s.setLx n x).free = s.free := rfl
@[simp] theorem State.reg_setLx (n : Nat) (x : LuxT) (a : Nat) : (s.setLx n x).reg a = s.reg a := rfl
@[simp] theorem State.fld_setLx (n : Nat) (x : LuxT) (g : FRef) : (s.setLx n x).fld g = s.fld g := rfl
@[simp] theorem State.domOn_setLx (n : Nat) (x : LuxT) (d : Dom) : (s.setLx n x).domOn d = s.domOn d := rfl

/-! ### setCl -/

@[simp] theorem State.pending_setCl (n : Nat) (x : ClLoop) : (s.setCl n x).pending = s.pending := rfl
@[simp] theorem State.io_setCl (n : Nat) (x : ClLoop) : (s.setCl n x).io = s.io := rfl
@[simp] theorem State.snap_setCl (n : Nat) (x : ClLoop) : (s.setCl n x).snap = s.snap := rfl
@[simp] theorem State.rdata_setCl (n : Nat) (x : ClLoop) : (s.setCl n x).rdata = s.rdata := rfl
@[simp] theorem State.mem_setCl (n : Nat) (x : ClLoop) : (s.setCl n x).mem = s.mem := rfl
@[simp] theorem State.ecc_setCl (n : Nat) (x : ClLoop) : (s.setCl n x).ecc = s.ecc := rfl
@[simp] theorem State.descs_setCl (n : Nat) (x : ClLoop) : (s.setCl n x).descs = s.descs := rfl
@[simp] theorem State.rng_setCl (n : Nat) (x : ClLoop) : (s.setCl n x).rng = s.rng := rfl
@[simp] theorem State.threads_setCl (n : Nat) (x : ClLoop) : (s.setCl n x).threads = s.threads := rfl
@[simp] theorem State.zone_setCl (n : Nat) (x : ClLoop) : (s.setCl n x).zone = s.zone := rfl
@[simp] theorem State.ocfg_setCl (n : Nat) (x : ClLoop) : (s.setCl n x).ocfg = s.ocfg := rfl
@[simp] theorem State.hsc_setCl (n : Nat) (x : ClLoop) : (s.setCl n x).hsc = s.hsc := rfl
@[simp] theorem State.mot_setCl (n : Nat) (x : ClLoop) : (s.setCl n x).mot = s.mot := rfl
@[simp] theorem State.vlv_setCl (n : Nat) (x : ClLoop) : (s.setCl n x).vlv = s.vlv := rfl
@[simp] theorem State.bank_setCl (n : Nat) (x : ClLoop) : (s.setCl n x).bank = s.bank := rfl
@[simp] theorem State.lux_setCl (n : Nat) (x : ClLoop) : (s.setCl n x).lux = s.lux := rfl
@[simp] theorem State.loops_setCl (n : Nat) (x : ClLoop) : (s.setCl n x).loops = smPut (fun _ => {}) s.loops n x := rfl
@[simp] theorem State.px_setCl (n : Nat) (x : ClLoop) : (s.setCl n x).px = s.px := rfl
@[simp] theorem State.thm_setCl (n : Nat) (x : ClLoop) : (s.setCl n x).thm = s.thm := rfl
@[simp] theorem State.flt_setCl (n : Nat) (x : ClLoop) : (s.setCl n x).flt = s.flt := rfl
@[simp] theorem State.pw_setCl (n : Nat) (x : ClLoop) : (s.setCl n x).pw = s.pw := rfl
@[simp] theorem State.zsw_setCl (n : Nat) (x : ClLoop) : (s.setCl n x).zsw = s.zsw := rfl
@[simp] theorem State.eth_setCl (n : Nat) (x : ClLoop) : (s.setCl n x).eth = s.eth := rfl
@[simp] theorem State.net_setCl (n : Nat) (x : ClLoop) : (s.setCl n x).net = s.net := rfl
@[simp] theorem State.herd_setCl (n : Nat) (x : ClLoop) : (s.setCl n x).herd = s.herd := rfl
@[simp] theorem State.inp_setCl (n : Nat) (x : ClLoop) : (s.setCl n x).inp = s.inp := rfl
@[simp] theorem State.acc_setCl (n : Nat) (x : ClLoop) : (s.setCl n x).acc = s.acc := rfl
@[simp] theorem State.memc_setCl (n : Nat) (x : ClLoop) : (s.setCl n x).memc = s.memc := rfl
@[simp] theorem State.img_setCl (n : Nat) (x : ClLoop) : (s.setCl n x).img = s.img := rfl
@[simp] theorem State.brc_setCl (n : Nat) (x : ClLoop) : (s.setCl n x).brc = s.brc := rfl
@[simp] theorem State.cores_setCl (n : Nat) (x : ClLoop) : (s.setCl n x).cores = s.cores := rfl
@[simp] theorem State.zt_setCl (n : Nat) (x : ClLoop) : (s.setCl n x).zt = s.zt := rfl
@[simp] theorem State.free_setCl (n : Nat) (x : ClLoop) : (s.setCl n x).free = s.free := rfl
@[simp] theorem State.reg_setCl (n : Nat) (x : ClLoop) (a : Nat) : (s.setCl n x).reg a = s.reg a := rfl
@[simp] theorem State.fld_setCl (n : Nat) (x : ClLoop) (g : FRef) : (s.setCl n x).fld g = s.fld g := rfl
@[simp] theorem State.domOn_setCl (n : Nat) (x : ClLoop) (d : Dom) : (s.setCl n x).domOn d = s.domOn d := rfl

/-! ### setPch -/

@[simp] theorem State.pending_setPch (n : Nat) (x : PxCh) : (s.setPch n x).pending = s.pending := rfl
@[simp] theorem State.io_setPch (n : Nat) (x : PxCh) : (s.setPch n x).io = s.io := rfl
@[simp] theorem State.snap_setPch (n : Nat) (x : PxCh) : (s.setPch n x).snap = s.snap := rfl
@[simp] theorem State.rdata_setPch (n : Nat) (x : PxCh) : (s.setPch n x).rdata = s.rdata := rfl
@[simp] theorem State.mem_setPch (n : Nat) (x : PxCh) : (s.setPch n x).mem = s.mem := rfl
@[simp] theorem State.ecc_setPch (n : Nat) (x : PxCh) : (s.setPch n x).ecc = s.ecc := rfl
@[simp] theorem State.descs_setPch (n : Nat) (x : PxCh) : (s.setPch n x).descs = s.descs := rfl
@[simp] theorem State.rng_setPch (n : Nat) (x : PxCh) : (s.setPch n x).rng = s.rng := rfl
@[simp] theorem State.threads_setPch (n : Nat) (x : PxCh) : (s.setPch n x).threads = s.threads := rfl
@[simp] theorem State.zone_setPch (n : Nat) (x : PxCh) : (s.setPch n x).zone = s.zone := rfl
@[simp] theorem State.ocfg_setPch (n : Nat) (x : PxCh) : (s.setPch n x).ocfg = s.ocfg := rfl
@[simp] theorem State.hsc_setPch (n : Nat) (x : PxCh) : (s.setPch n x).hsc = s.hsc := rfl
@[simp] theorem State.mot_setPch (n : Nat) (x : PxCh) : (s.setPch n x).mot = s.mot := rfl
@[simp] theorem State.vlv_setPch (n : Nat) (x : PxCh) : (s.setPch n x).vlv = s.vlv := rfl
@[simp] theorem State.bank_setPch (n : Nat) (x : PxCh) : (s.setPch n x).bank = s.bank := rfl
@[simp] theorem State.lux_setPch (n : Nat) (x : PxCh) : (s.setPch n x).lux = s.lux := rfl
@[simp] theorem State.loops_setPch (n : Nat) (x : PxCh) : (s.setPch n x).loops = s.loops := rfl
@[simp] theorem State.px_setPch (n : Nat) (x : PxCh) : (s.setPch n x).px = smPut (fun _ => {}) s.px n x := rfl
@[simp] theorem State.thm_setPch (n : Nat) (x : PxCh) : (s.setPch n x).thm = s.thm := rfl
@[simp] theorem State.flt_setPch (n : Nat) (x : PxCh) : (s.setPch n x).flt = s.flt := rfl
@[simp] theorem State.pw_setPch (n : Nat) (x : PxCh) : (s.setPch n x).pw = s.pw := rfl
@[simp] theorem State.zsw_setPch (n : Nat) (x : PxCh) : (s.setPch n x).zsw = s.zsw := rfl
@[simp] theorem State.eth_setPch (n : Nat) (x : PxCh) : (s.setPch n x).eth = s.eth := rfl
@[simp] theorem State.net_setPch (n : Nat) (x : PxCh) : (s.setPch n x).net = s.net := rfl
@[simp] theorem State.herd_setPch (n : Nat) (x : PxCh) : (s.setPch n x).herd = s.herd := rfl
@[simp] theorem State.inp_setPch (n : Nat) (x : PxCh) : (s.setPch n x).inp = s.inp := rfl
@[simp] theorem State.acc_setPch (n : Nat) (x : PxCh) : (s.setPch n x).acc = s.acc := rfl
@[simp] theorem State.memc_setPch (n : Nat) (x : PxCh) : (s.setPch n x).memc = s.memc := rfl
@[simp] theorem State.img_setPch (n : Nat) (x : PxCh) : (s.setPch n x).img = s.img := rfl
@[simp] theorem State.brc_setPch (n : Nat) (x : PxCh) : (s.setPch n x).brc = s.brc := rfl
@[simp] theorem State.cores_setPch (n : Nat) (x : PxCh) : (s.setPch n x).cores = s.cores := rfl
@[simp] theorem State.zt_setPch (n : Nat) (x : PxCh) : (s.setPch n x).zt = s.zt := rfl
@[simp] theorem State.free_setPch (n : Nat) (x : PxCh) : (s.setPch n x).free = s.free := rfl
@[simp] theorem State.reg_setPch (n : Nat) (x : PxCh) (a : Nat) : (s.setPch n x).reg a = s.reg a := rfl
@[simp] theorem State.fld_setPch (n : Nat) (x : PxCh) (g : FRef) : (s.setPch n x).fld g = s.fld g := rfl
@[simp] theorem State.domOn_setPch (n : Nat) (x : PxCh) (d : Dom) : (s.setPch n x).domOn d = s.domOn d := rfl

/-! ### setZt -/

@[simp] theorem State.pending_setZt (v : Nat) : (s.setZt v).pending = s.pending := rfl
@[simp] theorem State.io_setZt (v : Nat) : (s.setZt v).io = s.io := rfl
@[simp] theorem State.snap_setZt (v : Nat) : (s.setZt v).snap = s.snap := rfl
@[simp] theorem State.rdata_setZt (v : Nat) : (s.setZt v).rdata = s.rdata := rfl
@[simp] theorem State.mem_setZt (v : Nat) : (s.setZt v).mem = s.mem := rfl
@[simp] theorem State.ecc_setZt (v : Nat) : (s.setZt v).ecc = s.ecc := rfl
@[simp] theorem State.descs_setZt (v : Nat) : (s.setZt v).descs = s.descs := rfl
@[simp] theorem State.rng_setZt (v : Nat) : (s.setZt v).rng = s.rng := rfl
@[simp] theorem State.threads_setZt (v : Nat) : (s.setZt v).threads = s.threads := rfl
@[simp] theorem State.zone_setZt (v : Nat) : (s.setZt v).zone = s.zone := rfl
@[simp] theorem State.ocfg_setZt (v : Nat) : (s.setZt v).ocfg = s.ocfg := rfl
@[simp] theorem State.hsc_setZt (v : Nat) : (s.setZt v).hsc = s.hsc := rfl
@[simp] theorem State.mot_setZt (v : Nat) : (s.setZt v).mot = s.mot := rfl
@[simp] theorem State.vlv_setZt (v : Nat) : (s.setZt v).vlv = s.vlv := rfl
@[simp] theorem State.bank_setZt (v : Nat) : (s.setZt v).bank = s.bank := rfl
@[simp] theorem State.lux_setZt (v : Nat) : (s.setZt v).lux = s.lux := rfl
@[simp] theorem State.loops_setZt (v : Nat) : (s.setZt v).loops = s.loops := rfl
@[simp] theorem State.px_setZt (v : Nat) : (s.setZt v).px = s.px := rfl
@[simp] theorem State.thm_setZt (v : Nat) : (s.setZt v).thm = s.thm := rfl
@[simp] theorem State.flt_setZt (v : Nat) : (s.setZt v).flt = s.flt := rfl
@[simp] theorem State.pw_setZt (v : Nat) : (s.setZt v).pw = s.pw := rfl
@[simp] theorem State.zsw_setZt (v : Nat) : (s.setZt v).zsw = s.zsw := rfl
@[simp] theorem State.eth_setZt (v : Nat) : (s.setZt v).eth = s.eth := rfl
@[simp] theorem State.net_setZt (v : Nat) : (s.setZt v).net = s.net := rfl
@[simp] theorem State.herd_setZt (v : Nat) : (s.setZt v).herd = s.herd := rfl
@[simp] theorem State.inp_setZt (v : Nat) : (s.setZt v).inp = s.inp := rfl
@[simp] theorem State.acc_setZt (v : Nat) : (s.setZt v).acc = s.acc := rfl
@[simp] theorem State.memc_setZt (v : Nat) : (s.setZt v).memc = s.memc := rfl
@[simp] theorem State.img_setZt (v : Nat) : (s.setZt v).img = s.img := rfl
@[simp] theorem State.brc_setZt (v : Nat) : (s.setZt v).brc = s.brc := rfl
@[simp] theorem State.cores_setZt (v : Nat) : (s.setZt v).cores = s.cores := rfl
@[simp] theorem State.zt_setZt (v : Nat) : (s.setZt v).zt = v := rfl
@[simp] theorem State.free_setZt (v : Nat) : (s.setZt v).free = s.free := rfl
@[simp] theorem State.reg_setZt (v : Nat) (a : Nat) : (s.setZt v).reg a = s.reg a := rfl
@[simp] theorem State.fld_setZt (v : Nat) (g : FRef) : (s.setZt v).fld g = s.fld g := rfl
@[simp] theorem State.domOn_setZt (v : Nat) (d : Dom) : (s.setZt v).domOn d = s.domOn d := rfl

/-! ### setRdata -/

@[simp] theorem State.pending_setRdata (w : Word) : (s.setRdata w).pending = s.pending := rfl
@[simp] theorem State.io_setRdata (w : Word) : (s.setRdata w).io = s.io := rfl
@[simp] theorem State.snap_setRdata (w : Word) : (s.setRdata w).snap = s.snap := rfl
@[simp] theorem State.rdata_setRdata (w : Word) : (s.setRdata w).rdata = w := rfl
@[simp] theorem State.mem_setRdata (w : Word) : (s.setRdata w).mem = s.mem := rfl
@[simp] theorem State.ecc_setRdata (w : Word) : (s.setRdata w).ecc = s.ecc := rfl
@[simp] theorem State.descs_setRdata (w : Word) : (s.setRdata w).descs = s.descs := rfl
@[simp] theorem State.rng_setRdata (w : Word) : (s.setRdata w).rng = s.rng := rfl
@[simp] theorem State.threads_setRdata (w : Word) : (s.setRdata w).threads = s.threads := rfl
@[simp] theorem State.zone_setRdata (w : Word) : (s.setRdata w).zone = s.zone := rfl
@[simp] theorem State.ocfg_setRdata (w : Word) : (s.setRdata w).ocfg = s.ocfg := rfl
@[simp] theorem State.hsc_setRdata (w : Word) : (s.setRdata w).hsc = s.hsc := rfl
@[simp] theorem State.mot_setRdata (w : Word) : (s.setRdata w).mot = s.mot := rfl
@[simp] theorem State.vlv_setRdata (w : Word) : (s.setRdata w).vlv = s.vlv := rfl
@[simp] theorem State.bank_setRdata (w : Word) : (s.setRdata w).bank = s.bank := rfl
@[simp] theorem State.lux_setRdata (w : Word) : (s.setRdata w).lux = s.lux := rfl
@[simp] theorem State.loops_setRdata (w : Word) : (s.setRdata w).loops = s.loops := rfl
@[simp] theorem State.px_setRdata (w : Word) : (s.setRdata w).px = s.px := rfl
@[simp] theorem State.thm_setRdata (w : Word) : (s.setRdata w).thm = s.thm := rfl
@[simp] theorem State.flt_setRdata (w : Word) : (s.setRdata w).flt = s.flt := rfl
@[simp] theorem State.pw_setRdata (w : Word) : (s.setRdata w).pw = s.pw := rfl
@[simp] theorem State.zsw_setRdata (w : Word) : (s.setRdata w).zsw = s.zsw := rfl
@[simp] theorem State.eth_setRdata (w : Word) : (s.setRdata w).eth = s.eth := rfl
@[simp] theorem State.net_setRdata (w : Word) : (s.setRdata w).net = s.net := rfl
@[simp] theorem State.herd_setRdata (w : Word) : (s.setRdata w).herd = s.herd := rfl
@[simp] theorem State.inp_setRdata (w : Word) : (s.setRdata w).inp = s.inp := rfl
@[simp] theorem State.acc_setRdata (w : Word) : (s.setRdata w).acc = s.acc := rfl
@[simp] theorem State.memc_setRdata (w : Word) : (s.setRdata w).memc = s.memc := rfl
@[simp] theorem State.img_setRdata (w : Word) : (s.setRdata w).img = s.img := rfl
@[simp] theorem State.brc_setRdata (w : Word) : (s.setRdata w).brc = s.brc := rfl
@[simp] theorem State.cores_setRdata (w : Word) : (s.setRdata w).cores = s.cores := rfl
@[simp] theorem State.zt_setRdata (w : Word) : (s.setRdata w).zt = s.zt := rfl
@[simp] theorem State.free_setRdata (w : Word) : (s.setRdata w).free = s.free := rfl
@[simp] theorem State.reg_setRdata (w : Word) (a : Nat) : (s.setRdata w).reg a = s.reg a := rfl
@[simp] theorem State.fld_setRdata (w : Word) (g : FRef) : (s.setRdata w).fld g = s.fld g := rfl
@[simp] theorem State.domOn_setRdata (w : Word) (d : Dom) : (s.setRdata w).domOn d = s.domOn d := rfl

/-! ### setPending -/

@[simp] theorem State.pending_setPending (l : List Instr) : (s.setPending l).pending = l := rfl
@[simp] theorem State.io_setPending (l : List Instr) : (s.setPending l).io = s.io := rfl
@[simp] theorem State.snap_setPending (l : List Instr) : (s.setPending l).snap = s.snap := rfl
@[simp] theorem State.rdata_setPending (l : List Instr) : (s.setPending l).rdata = s.rdata := rfl
@[simp] theorem State.mem_setPending (l : List Instr) : (s.setPending l).mem = s.mem := rfl
@[simp] theorem State.ecc_setPending (l : List Instr) : (s.setPending l).ecc = s.ecc := rfl
@[simp] theorem State.descs_setPending (l : List Instr) : (s.setPending l).descs = s.descs := rfl
@[simp] theorem State.rng_setPending (l : List Instr) : (s.setPending l).rng = s.rng := rfl
@[simp] theorem State.threads_setPending (l : List Instr) : (s.setPending l).threads = s.threads := rfl
@[simp] theorem State.zone_setPending (l : List Instr) : (s.setPending l).zone = s.zone := rfl
@[simp] theorem State.ocfg_setPending (l : List Instr) : (s.setPending l).ocfg = s.ocfg := rfl
@[simp] theorem State.hsc_setPending (l : List Instr) : (s.setPending l).hsc = s.hsc := rfl
@[simp] theorem State.mot_setPending (l : List Instr) : (s.setPending l).mot = s.mot := rfl
@[simp] theorem State.vlv_setPending (l : List Instr) : (s.setPending l).vlv = s.vlv := rfl
@[simp] theorem State.bank_setPending (l : List Instr) : (s.setPending l).bank = s.bank := rfl
@[simp] theorem State.lux_setPending (l : List Instr) : (s.setPending l).lux = s.lux := rfl
@[simp] theorem State.loops_setPending (l : List Instr) : (s.setPending l).loops = s.loops := rfl
@[simp] theorem State.px_setPending (l : List Instr) : (s.setPending l).px = s.px := rfl
@[simp] theorem State.thm_setPending (l : List Instr) : (s.setPending l).thm = s.thm := rfl
@[simp] theorem State.flt_setPending (l : List Instr) : (s.setPending l).flt = s.flt := rfl
@[simp] theorem State.pw_setPending (l : List Instr) : (s.setPending l).pw = s.pw := rfl
@[simp] theorem State.zsw_setPending (l : List Instr) : (s.setPending l).zsw = s.zsw := rfl
@[simp] theorem State.eth_setPending (l : List Instr) : (s.setPending l).eth = s.eth := rfl
@[simp] theorem State.net_setPending (l : List Instr) : (s.setPending l).net = s.net := rfl
@[simp] theorem State.herd_setPending (l : List Instr) : (s.setPending l).herd = s.herd := rfl
@[simp] theorem State.inp_setPending (l : List Instr) : (s.setPending l).inp = s.inp := rfl
@[simp] theorem State.acc_setPending (l : List Instr) : (s.setPending l).acc = s.acc := rfl
@[simp] theorem State.memc_setPending (l : List Instr) : (s.setPending l).memc = s.memc := rfl
@[simp] theorem State.img_setPending (l : List Instr) : (s.setPending l).img = s.img := rfl
@[simp] theorem State.brc_setPending (l : List Instr) : (s.setPending l).brc = s.brc := rfl
@[simp] theorem State.cores_setPending (l : List Instr) : (s.setPending l).cores = s.cores := rfl
@[simp] theorem State.zt_setPending (l : List Instr) : (s.setPending l).zt = s.zt := rfl
@[simp] theorem State.free_setPending (l : List Instr) : (s.setPending l).free = s.free := rfl
@[simp] theorem State.reg_setPending (l : List Instr) (a : Nat) : (s.setPending l).reg a = s.reg a := rfl
@[simp] theorem State.fld_setPending (l : List Instr) (g : FRef) : (s.setPending l).fld g = s.fld g := rfl
@[simp] theorem State.domOn_setPending (l : List Instr) (d : Dom) : (s.setPending l).domOn d = s.domOn d := rfl

/-! ### drew -/

@[simp] theorem State.pending_drew : (s.drew).pending = s.pending := rfl
@[simp] theorem State.io_drew : (s.drew).io = s.io := rfl
@[simp] theorem State.snap_drew : (s.drew).snap = s.snap := rfl
@[simp] theorem State.rdata_drew : (s.drew).rdata = s.rdata := rfl
@[simp] theorem State.mem_drew : (s.drew).mem = s.mem := rfl
@[simp] theorem State.ecc_drew : (s.drew).ecc = s.ecc := rfl
@[simp] theorem State.descs_drew : (s.drew).descs = s.descs := rfl
@[simp] theorem State.rng_drew : (s.drew).rng = s.rng := rfl
@[simp] theorem State.threads_drew : (s.drew).threads = s.threads := rfl
@[simp] theorem State.zone_drew : (s.drew).zone = s.zone := rfl
@[simp] theorem State.ocfg_drew : (s.drew).ocfg = s.ocfg := rfl
@[simp] theorem State.hsc_drew : (s.drew).hsc = s.hsc := rfl
@[simp] theorem State.mot_drew : (s.drew).mot = s.mot := rfl
@[simp] theorem State.vlv_drew : (s.drew).vlv = s.vlv := rfl
@[simp] theorem State.bank_drew : (s.drew).bank = s.bank := rfl
@[simp] theorem State.lux_drew : (s.drew).lux = s.lux := rfl
@[simp] theorem State.loops_drew : (s.drew).loops = s.loops := rfl
@[simp] theorem State.px_drew : (s.drew).px = s.px := rfl
@[simp] theorem State.thm_drew : (s.drew).thm = s.thm := rfl
@[simp] theorem State.flt_drew : (s.drew).flt = s.flt := rfl
@[simp] theorem State.pw_drew : (s.drew).pw = s.pw := rfl
@[simp] theorem State.zsw_drew : (s.drew).zsw = s.zsw := rfl
@[simp] theorem State.eth_drew : (s.drew).eth = s.eth := rfl
@[simp] theorem State.net_drew : (s.drew).net = s.net := rfl
@[simp] theorem State.herd_drew : (s.drew).herd = s.herd := rfl
@[simp] theorem State.inp_drew : (s.drew).inp = s.inp := rfl
@[simp] theorem State.acc_drew : (s.drew).acc = s.acc := rfl
@[simp] theorem State.memc_drew : (s.drew).memc = s.memc := rfl
@[simp] theorem State.img_drew : (s.drew).img = s.img := rfl
@[simp] theorem State.brc_drew : (s.drew).brc = s.brc := rfl
@[simp] theorem State.cores_drew : (s.drew).cores = s.cores := rfl
@[simp] theorem State.zt_drew : (s.drew).zt = s.zt := rfl
@[simp] theorem State.free_drew : (s.drew).free = s.free + 1 := rfl
@[simp] theorem State.reg_drew (a : Nat) : (s.drew).reg a = s.reg a := rfl
@[simp] theorem State.fld_drew (g : FRef) : (s.drew).fld g = s.fld g := rfl
@[simp] theorem State.domOn_drew (d : Dom) : (s.drew).domOn d = s.domOn d := rfl

/-! ### modFlt -/

@[simp] theorem State.pending_modFlt (f : Flt → Flt) : (s.modFlt f).pending = s.pending := rfl
@[simp] theorem State.io_modFlt (f : Flt → Flt) : (s.modFlt f).io = s.io := rfl
@[simp] theorem State.snap_modFlt (f : Flt → Flt) : (s.modFlt f).snap = s.snap := rfl
@[simp] theorem State.rdata_modFlt (f : Flt → Flt) : (s.modFlt f).rdata = s.rdata := rfl
@[simp] theorem State.mem_modFlt (f : Flt → Flt) : (s.modFlt f).mem = s.mem := rfl
@[simp] theorem State.ecc_modFlt (f : Flt → Flt) : (s.modFlt f).ecc = s.ecc := rfl
@[simp] theorem State.descs_modFlt (f : Flt → Flt) : (s.modFlt f).descs = s.descs := rfl
@[simp] theorem State.rng_modFlt (f : Flt → Flt) : (s.modFlt f).rng = s.rng := rfl
@[simp] theorem State.threads_modFlt (f : Flt → Flt) : (s.modFlt f).threads = s.threads := rfl
@[simp] theorem State.zone_modFlt (f : Flt → Flt) : (s.modFlt f).zone = s.zone := rfl
@[simp] theorem State.ocfg_modFlt (f : Flt → Flt) : (s.modFlt f).ocfg = s.ocfg := rfl
@[simp] theorem State.hsc_modFlt (f : Flt → Flt) : (s.modFlt f).hsc = s.hsc := rfl
@[simp] theorem State.mot_modFlt (f : Flt → Flt) : (s.modFlt f).mot = s.mot := rfl
@[simp] theorem State.vlv_modFlt (f : Flt → Flt) : (s.modFlt f).vlv = s.vlv := rfl
@[simp] theorem State.bank_modFlt (f : Flt → Flt) : (s.modFlt f).bank = s.bank := rfl
@[simp] theorem State.lux_modFlt (f : Flt → Flt) : (s.modFlt f).lux = s.lux := rfl
@[simp] theorem State.loops_modFlt (f : Flt → Flt) : (s.modFlt f).loops = s.loops := rfl
@[simp] theorem State.px_modFlt (f : Flt → Flt) : (s.modFlt f).px = s.px := rfl
@[simp] theorem State.thm_modFlt (f : Flt → Flt) : (s.modFlt f).thm = s.thm := rfl
@[simp] theorem State.flt_modFlt (f : Flt → Flt) : (s.modFlt f).flt = f s.flt := rfl
@[simp] theorem State.pw_modFlt (f : Flt → Flt) : (s.modFlt f).pw = s.pw := rfl
@[simp] theorem State.zsw_modFlt (f : Flt → Flt) : (s.modFlt f).zsw = s.zsw := rfl
@[simp] theorem State.eth_modFlt (f : Flt → Flt) : (s.modFlt f).eth = s.eth := rfl
@[simp] theorem State.net_modFlt (f : Flt → Flt) : (s.modFlt f).net = s.net := rfl
@[simp] theorem State.herd_modFlt (f : Flt → Flt) : (s.modFlt f).herd = s.herd := rfl
@[simp] theorem State.inp_modFlt (f : Flt → Flt) : (s.modFlt f).inp = s.inp := rfl
@[simp] theorem State.acc_modFlt (f : Flt → Flt) : (s.modFlt f).acc = s.acc := rfl
@[simp] theorem State.memc_modFlt (f : Flt → Flt) : (s.modFlt f).memc = s.memc := rfl
@[simp] theorem State.img_modFlt (f : Flt → Flt) : (s.modFlt f).img = s.img := rfl
@[simp] theorem State.brc_modFlt (f : Flt → Flt) : (s.modFlt f).brc = s.brc := rfl
@[simp] theorem State.cores_modFlt (f : Flt → Flt) : (s.modFlt f).cores = s.cores := rfl
@[simp] theorem State.zt_modFlt (f : Flt → Flt) : (s.modFlt f).zt = s.zt := rfl
@[simp] theorem State.free_modFlt (f : Flt → Flt) : (s.modFlt f).free = s.free := rfl
@[simp] theorem State.reg_modFlt (f : Flt → Flt) (a : Nat) : (s.modFlt f).reg a = s.reg a := rfl
@[simp] theorem State.fld_modFlt (f : Flt → Flt) (g : FRef) : (s.modFlt f).fld g = s.fld g := rfl
@[simp] theorem State.domOn_modFlt (f : Flt → Flt) (d : Dom) : (s.modFlt f).domOn d = s.domOn d := rfl

/-! ### modRng -/

@[simp] theorem State.pending_modRng (f : Rng → Rng) : (s.modRng f).pending = s.pending := rfl
@[simp] theorem State.io_modRng (f : Rng → Rng) : (s.modRng f).io = s.io := rfl
@[simp] theorem State.snap_modRng (f : Rng → Rng) : (s.modRng f).snap = s.snap := rfl
@[simp] theorem State.rdata_modRng (f : Rng → Rng) : (s.modRng f).rdata = s.rdata := rfl
@[simp] theorem State.mem_modRng (f : Rng → Rng) : (s.modRng f).mem = s.mem := rfl
@[simp] theorem State.ecc_modRng (f : Rng → Rng) : (s.modRng f).ecc = s.ecc := rfl
@[simp] theorem State.descs_modRng (f : Rng → Rng) : (s.modRng f).descs = s.descs := rfl
@[simp] theorem State.rng_modRng (f : Rng → Rng) : (s.modRng f).rng = f s.rng := rfl
@[simp] theorem State.threads_modRng (f : Rng → Rng) : (s.modRng f).threads = s.threads := rfl
@[simp] theorem State.zone_modRng (f : Rng → Rng) : (s.modRng f).zone = s.zone := rfl
@[simp] theorem State.ocfg_modRng (f : Rng → Rng) : (s.modRng f).ocfg = s.ocfg := rfl
@[simp] theorem State.hsc_modRng (f : Rng → Rng) : (s.modRng f).hsc = s.hsc := rfl
@[simp] theorem State.mot_modRng (f : Rng → Rng) : (s.modRng f).mot = s.mot := rfl
@[simp] theorem State.vlv_modRng (f : Rng → Rng) : (s.modRng f).vlv = s.vlv := rfl
@[simp] theorem State.bank_modRng (f : Rng → Rng) : (s.modRng f).bank = s.bank := rfl
@[simp] theorem State.lux_modRng (f : Rng → Rng) : (s.modRng f).lux = s.lux := rfl
@[simp] theorem State.loops_modRng (f : Rng → Rng) : (s.modRng f).loops = s.loops := rfl
@[simp] theorem State.px_modRng (f : Rng → Rng) : (s.modRng f).px = s.px := rfl
@[simp] theorem State.thm_modRng (f : Rng → Rng) : (s.modRng f).thm = s.thm := rfl
@[simp] theorem State.flt_modRng (f : Rng → Rng) : (s.modRng f).flt = s.flt := rfl
@[simp] theorem State.pw_modRng (f : Rng → Rng) : (s.modRng f).pw = s.pw := rfl
@[simp] theorem State.zsw_modRng (f : Rng → Rng) : (s.modRng f).zsw = s.zsw := rfl
@[simp] theorem State.eth_modRng (f : Rng → Rng) : (s.modRng f).eth = s.eth := rfl
@[simp] theorem State.net_modRng (f : Rng → Rng) : (s.modRng f).net = s.net := rfl
@[simp] theorem State.herd_modRng (f : Rng → Rng) : (s.modRng f).herd = s.herd := rfl
@[simp] theorem State.inp_modRng (f : Rng → Rng) : (s.modRng f).inp = s.inp := rfl
@[simp] theorem State.acc_modRng (f : Rng → Rng) : (s.modRng f).acc = s.acc := rfl
@[simp] theorem State.memc_modRng (f : Rng → Rng) : (s.modRng f).memc = s.memc := rfl
@[simp] theorem State.img_modRng (f : Rng → Rng) : (s.modRng f).img = s.img := rfl
@[simp] theorem State.brc_modRng (f : Rng → Rng) : (s.modRng f).brc = s.brc := rfl
@[simp] theorem State.cores_modRng (f : Rng → Rng) : (s.modRng f).cores = s.cores := rfl
@[simp] theorem State.zt_modRng (f : Rng → Rng) : (s.modRng f).zt = s.zt := rfl
@[simp] theorem State.free_modRng (f : Rng → Rng) : (s.modRng f).free = s.free := rfl
@[simp] theorem State.reg_modRng (f : Rng → Rng) (a : Nat) : (s.modRng f).reg a = s.reg a := rfl
@[simp] theorem State.fld_modRng (f : Rng → Rng) (g : FRef) : (s.modRng f).fld g = s.fld g := rfl
@[simp] theorem State.domOn_modRng (f : Rng → Rng) (d : Dom) : (s.modRng f).domOn d = s.domOn d := rfl

/-! ### modPw -/

@[simp] theorem State.pending_modPw (f : Pw → Pw) : (s.modPw f).pending = s.pending := rfl
@[simp] theorem State.io_modPw (f : Pw → Pw) : (s.modPw f).io = s.io := rfl
@[simp] theorem State.snap_modPw (f : Pw → Pw) : (s.modPw f).snap = s.snap := rfl
@[simp] theorem State.rdata_modPw (f : Pw → Pw) : (s.modPw f).rdata = s.rdata := rfl
@[simp] theorem State.mem_modPw (f : Pw → Pw) : (s.modPw f).mem = s.mem := rfl
@[simp] theorem State.ecc_modPw (f : Pw → Pw) : (s.modPw f).ecc = s.ecc := rfl
@[simp] theorem State.descs_modPw (f : Pw → Pw) : (s.modPw f).descs = s.descs := rfl
@[simp] theorem State.rng_modPw (f : Pw → Pw) : (s.modPw f).rng = s.rng := rfl
@[simp] theorem State.threads_modPw (f : Pw → Pw) : (s.modPw f).threads = s.threads := rfl
@[simp] theorem State.zone_modPw (f : Pw → Pw) : (s.modPw f).zone = s.zone := rfl
@[simp] theorem State.ocfg_modPw (f : Pw → Pw) : (s.modPw f).ocfg = s.ocfg := rfl
@[simp] theorem State.hsc_modPw (f : Pw → Pw) : (s.modPw f).hsc = s.hsc := rfl
@[simp] theorem State.mot_modPw (f : Pw → Pw) : (s.modPw f).mot = s.mot := rfl
@[simp] theorem State.vlv_modPw (f : Pw → Pw) : (s.modPw f).vlv = s.vlv := rfl
@[simp] theorem State.bank_modPw (f : Pw → Pw) : (s.modPw f).bank = s.bank := rfl
@[simp] theorem State.lux_modPw (f : Pw → Pw) : (s.modPw f).lux = s.lux := rfl
@[simp] theorem State.loops_modPw (f : Pw → Pw) : (s.modPw f).loops = s.loops := rfl
@[simp] theorem State.px_modPw (f : Pw → Pw) : (s.modPw f).px = s.px := rfl
@[simp] theorem State.thm_modPw (f : Pw → Pw) : (s.modPw f).thm = s.thm := rfl
@[simp] theorem State.flt_modPw (f : Pw → Pw) : (s.modPw f).flt = s.flt := rfl
@[simp] theorem State.pw_modPw (f : Pw → Pw) : (s.modPw f).pw = f s.pw := rfl
@[simp] theorem State.zsw_modPw (f : Pw → Pw) : (s.modPw f).zsw = s.zsw := rfl
@[simp] theorem State.eth_modPw (f : Pw → Pw) : (s.modPw f).eth = s.eth := rfl
@[simp] theorem State.net_modPw (f : Pw → Pw) : (s.modPw f).net = s.net := rfl
@[simp] theorem State.herd_modPw (f : Pw → Pw) : (s.modPw f).herd = s.herd := rfl
@[simp] theorem State.inp_modPw (f : Pw → Pw) : (s.modPw f).inp = s.inp := rfl
@[simp] theorem State.acc_modPw (f : Pw → Pw) : (s.modPw f).acc = s.acc := rfl
@[simp] theorem State.memc_modPw (f : Pw → Pw) : (s.modPw f).memc = s.memc := rfl
@[simp] theorem State.img_modPw (f : Pw → Pw) : (s.modPw f).img = s.img := rfl
@[simp] theorem State.brc_modPw (f : Pw → Pw) : (s.modPw f).brc = s.brc := rfl
@[simp] theorem State.cores_modPw (f : Pw → Pw) : (s.modPw f).cores = s.cores := rfl
@[simp] theorem State.zt_modPw (f : Pw → Pw) : (s.modPw f).zt = s.zt := rfl
@[simp] theorem State.free_modPw (f : Pw → Pw) : (s.modPw f).free = s.free := rfl
@[simp] theorem State.reg_modPw (f : Pw → Pw) (a : Nat) : (s.modPw f).reg a = s.reg a := rfl
@[simp] theorem State.fld_modPw (f : Pw → Pw) (g : FRef) : (s.modPw f).fld g = s.fld g := rfl

/-! ### modImg -/

@[simp] theorem State.pending_modImg (f : Img → Img) : (s.modImg f).pending = s.pending := rfl
@[simp] theorem State.io_modImg (f : Img → Img) : (s.modImg f).io = s.io := rfl
@[simp] theorem State.snap_modImg (f : Img → Img) : (s.modImg f).snap = s.snap := rfl
@[simp] theorem State.rdata_modImg (f : Img → Img) : (s.modImg f).rdata = s.rdata := rfl
@[simp] theorem State.mem_modImg (f : Img → Img) : (s.modImg f).mem = s.mem := rfl
@[simp] theorem State.ecc_modImg (f : Img → Img) : (s.modImg f).ecc = s.ecc := rfl
@[simp] theorem State.descs_modImg (f : Img → Img) : (s.modImg f).descs = s.descs := rfl
@[simp] theorem State.rng_modImg (f : Img → Img) : (s.modImg f).rng = s.rng := rfl
@[simp] theorem State.threads_modImg (f : Img → Img) : (s.modImg f).threads = s.threads := rfl
@[simp] theorem State.zone_modImg (f : Img → Img) : (s.modImg f).zone = s.zone := rfl
@[simp] theorem State.ocfg_modImg (f : Img → Img) : (s.modImg f).ocfg = s.ocfg := rfl
@[simp] theorem State.hsc_modImg (f : Img → Img) : (s.modImg f).hsc = s.hsc := rfl
@[simp] theorem State.mot_modImg (f : Img → Img) : (s.modImg f).mot = s.mot := rfl
@[simp] theorem State.vlv_modImg (f : Img → Img) : (s.modImg f).vlv = s.vlv := rfl
@[simp] theorem State.bank_modImg (f : Img → Img) : (s.modImg f).bank = s.bank := rfl
@[simp] theorem State.lux_modImg (f : Img → Img) : (s.modImg f).lux = s.lux := rfl
@[simp] theorem State.loops_modImg (f : Img → Img) : (s.modImg f).loops = s.loops := rfl
@[simp] theorem State.px_modImg (f : Img → Img) : (s.modImg f).px = s.px := rfl
@[simp] theorem State.thm_modImg (f : Img → Img) : (s.modImg f).thm = s.thm := rfl
@[simp] theorem State.flt_modImg (f : Img → Img) : (s.modImg f).flt = s.flt := rfl
@[simp] theorem State.pw_modImg (f : Img → Img) : (s.modImg f).pw = s.pw := rfl
@[simp] theorem State.zsw_modImg (f : Img → Img) : (s.modImg f).zsw = s.zsw := rfl
@[simp] theorem State.eth_modImg (f : Img → Img) : (s.modImg f).eth = s.eth := rfl
@[simp] theorem State.net_modImg (f : Img → Img) : (s.modImg f).net = s.net := rfl
@[simp] theorem State.herd_modImg (f : Img → Img) : (s.modImg f).herd = s.herd := rfl
@[simp] theorem State.inp_modImg (f : Img → Img) : (s.modImg f).inp = s.inp := rfl
@[simp] theorem State.acc_modImg (f : Img → Img) : (s.modImg f).acc = s.acc := rfl
@[simp] theorem State.memc_modImg (f : Img → Img) : (s.modImg f).memc = s.memc := rfl
@[simp] theorem State.img_modImg (f : Img → Img) : (s.modImg f).img = f s.img := rfl
@[simp] theorem State.brc_modImg (f : Img → Img) : (s.modImg f).brc = s.brc := rfl
@[simp] theorem State.cores_modImg (f : Img → Img) : (s.modImg f).cores = s.cores := rfl
@[simp] theorem State.zt_modImg (f : Img → Img) : (s.modImg f).zt = s.zt := rfl
@[simp] theorem State.free_modImg (f : Img → Img) : (s.modImg f).free = s.free := rfl
@[simp] theorem State.reg_modImg (f : Img → Img) (a : Nat) : (s.modImg f).reg a = s.reg a := rfl
@[simp] theorem State.fld_modImg (f : Img → Img) (g : FRef) : (s.modImg f).fld g = s.fld g := rfl
@[simp] theorem State.domOn_modImg (f : Img → Img) (d : Dom) : (s.modImg f).domOn d = s.domOn d := rfl

/-! ### modBrc -/

@[simp] theorem State.pending_modBrc (f : Brc → Brc) : (s.modBrc f).pending = s.pending := rfl
@[simp] theorem State.io_modBrc (f : Brc → Brc) : (s.modBrc f).io = s.io := rfl
@[simp] theorem State.snap_modBrc (f : Brc → Brc) : (s.modBrc f).snap = s.snap := rfl
@[simp] theorem State.rdata_modBrc (f : Brc → Brc) : (s.modBrc f).rdata = s.rdata := rfl
@[simp] theorem State.mem_modBrc (f : Brc → Brc) : (s.modBrc f).mem = s.mem := rfl
@[simp] theorem State.ecc_modBrc (f : Brc → Brc) : (s.modBrc f).ecc = s.ecc := rfl
@[simp] theorem State.descs_modBrc (f : Brc → Brc) : (s.modBrc f).descs = s.descs := rfl
@[simp] theorem State.rng_modBrc (f : Brc → Brc) : (s.modBrc f).rng = s.rng := rfl
@[simp] theorem State.threads_modBrc (f : Brc → Brc) : (s.modBrc f).threads = s.threads := rfl
@[simp] theorem State.zone_modBrc (f : Brc → Brc) : (s.modBrc f).zone = s.zone := rfl
@[simp] theorem State.ocfg_modBrc (f : Brc → Brc) : (s.modBrc f).ocfg = s.ocfg := rfl
@[simp] theorem State.hsc_modBrc (f : Brc → Brc) : (s.modBrc f).hsc = s.hsc := rfl
@[simp] theorem State.mot_modBrc (f : Brc → Brc) : (s.modBrc f).mot = s.mot := rfl
@[simp] theorem State.vlv_modBrc (f : Brc → Brc) : (s.modBrc f).vlv = s.vlv := rfl
@[simp] theorem State.bank_modBrc (f : Brc → Brc) : (s.modBrc f).bank = s.bank := rfl
@[simp] theorem State.lux_modBrc (f : Brc → Brc) : (s.modBrc f).lux = s.lux := rfl
@[simp] theorem State.loops_modBrc (f : Brc → Brc) : (s.modBrc f).loops = s.loops := rfl
@[simp] theorem State.px_modBrc (f : Brc → Brc) : (s.modBrc f).px = s.px := rfl
@[simp] theorem State.thm_modBrc (f : Brc → Brc) : (s.modBrc f).thm = s.thm := rfl
@[simp] theorem State.flt_modBrc (f : Brc → Brc) : (s.modBrc f).flt = s.flt := rfl
@[simp] theorem State.pw_modBrc (f : Brc → Brc) : (s.modBrc f).pw = s.pw := rfl
@[simp] theorem State.zsw_modBrc (f : Brc → Brc) : (s.modBrc f).zsw = s.zsw := rfl
@[simp] theorem State.eth_modBrc (f : Brc → Brc) : (s.modBrc f).eth = s.eth := rfl
@[simp] theorem State.net_modBrc (f : Brc → Brc) : (s.modBrc f).net = s.net := rfl
@[simp] theorem State.herd_modBrc (f : Brc → Brc) : (s.modBrc f).herd = s.herd := rfl
@[simp] theorem State.inp_modBrc (f : Brc → Brc) : (s.modBrc f).inp = s.inp := rfl
@[simp] theorem State.acc_modBrc (f : Brc → Brc) : (s.modBrc f).acc = s.acc := rfl
@[simp] theorem State.memc_modBrc (f : Brc → Brc) : (s.modBrc f).memc = s.memc := rfl
@[simp] theorem State.img_modBrc (f : Brc → Brc) : (s.modBrc f).img = s.img := rfl
@[simp] theorem State.brc_modBrc (f : Brc → Brc) : (s.modBrc f).brc = f s.brc := rfl
@[simp] theorem State.cores_modBrc (f : Brc → Brc) : (s.modBrc f).cores = s.cores := rfl
@[simp] theorem State.zt_modBrc (f : Brc → Brc) : (s.modBrc f).zt = s.zt := rfl
@[simp] theorem State.free_modBrc (f : Brc → Brc) : (s.modBrc f).free = s.free := rfl
@[simp] theorem State.reg_modBrc (f : Brc → Brc) (a : Nat) : (s.modBrc f).reg a = s.reg a := rfl
@[simp] theorem State.fld_modBrc (f : Brc → Brc) (g : FRef) : (s.modBrc f).fld g = s.fld g := rfl
@[simp] theorem State.domOn_modBrc (f : Brc → Brc) (d : Dom) : (s.modBrc f).domOn d = s.domOn d := rfl

/-! ### modAcc -/

@[simp] theorem State.pending_modAcc (f : Immo → Immo) : (s.modAcc f).pending = s.pending := rfl
@[simp] theorem State.io_modAcc (f : Immo → Immo) : (s.modAcc f).io = s.io := rfl
@[simp] theorem State.snap_modAcc (f : Immo → Immo) : (s.modAcc f).snap = s.snap := rfl
@[simp] theorem State.rdata_modAcc (f : Immo → Immo) : (s.modAcc f).rdata = s.rdata := rfl
@[simp] theorem State.mem_modAcc (f : Immo → Immo) : (s.modAcc f).mem = s.mem := rfl
@[simp] theorem State.ecc_modAcc (f : Immo → Immo) : (s.modAcc f).ecc = s.ecc := rfl
@[simp] theorem State.descs_modAcc (f : Immo → Immo) : (s.modAcc f).descs = s.descs := rfl
@[simp] theorem State.rng_modAcc (f : Immo → Immo) : (s.modAcc f).rng = s.rng := rfl
@[simp] theorem State.threads_modAcc (f : Immo → Immo) : (s.modAcc f).threads = s.threads := rfl
@[simp] theorem State.zone_modAcc (f : Immo → Immo) : (s.modAcc f).zone = s.zone := rfl
@[simp] theorem State.ocfg_modAcc (f : Immo → Immo) : (s.modAcc f).ocfg = s.ocfg := rfl
@[simp] theorem State.hsc_modAcc (f : Immo → Immo) : (s.modAcc f).hsc = s.hsc := rfl
@[simp] theorem State.mot_modAcc (f : Immo → Immo) : (s.modAcc f).mot = s.mot := rfl
@[simp] theorem State.vlv_modAcc (f : Immo → Immo) : (s.modAcc f).vlv = s.vlv := rfl
@[simp] theorem State.bank_modAcc (f : Immo → Immo) : (s.modAcc f).bank = s.bank := rfl
@[simp] theorem State.lux_modAcc (f : Immo → Immo) : (s.modAcc f).lux = s.lux := rfl
@[simp] theorem State.loops_modAcc (f : Immo → Immo) : (s.modAcc f).loops = s.loops := rfl
@[simp] theorem State.px_modAcc (f : Immo → Immo) : (s.modAcc f).px = s.px := rfl
@[simp] theorem State.thm_modAcc (f : Immo → Immo) : (s.modAcc f).thm = s.thm := rfl
@[simp] theorem State.flt_modAcc (f : Immo → Immo) : (s.modAcc f).flt = s.flt := rfl
@[simp] theorem State.pw_modAcc (f : Immo → Immo) : (s.modAcc f).pw = s.pw := rfl
@[simp] theorem State.zsw_modAcc (f : Immo → Immo) : (s.modAcc f).zsw = s.zsw := rfl
@[simp] theorem State.eth_modAcc (f : Immo → Immo) : (s.modAcc f).eth = s.eth := rfl
@[simp] theorem State.net_modAcc (f : Immo → Immo) : (s.modAcc f).net = s.net := rfl
@[simp] theorem State.herd_modAcc (f : Immo → Immo) : (s.modAcc f).herd = s.herd := rfl
@[simp] theorem State.inp_modAcc (f : Immo → Immo) : (s.modAcc f).inp = s.inp := rfl
@[simp] theorem State.acc_modAcc (f : Immo → Immo) : (s.modAcc f).acc = f s.acc := rfl
@[simp] theorem State.memc_modAcc (f : Immo → Immo) : (s.modAcc f).memc = s.memc := rfl
@[simp] theorem State.img_modAcc (f : Immo → Immo) : (s.modAcc f).img = s.img := rfl
@[simp] theorem State.brc_modAcc (f : Immo → Immo) : (s.modAcc f).brc = s.brc := rfl
@[simp] theorem State.cores_modAcc (f : Immo → Immo) : (s.modAcc f).cores = s.cores := rfl
@[simp] theorem State.zt_modAcc (f : Immo → Immo) : (s.modAcc f).zt = s.zt := rfl
@[simp] theorem State.free_modAcc (f : Immo → Immo) : (s.modAcc f).free = s.free := rfl
@[simp] theorem State.reg_modAcc (f : Immo → Immo) (a : Nat) : (s.modAcc f).reg a = s.reg a := rfl
@[simp] theorem State.fld_modAcc (f : Immo → Immo) (g : FRef) : (s.modAcc f).fld g = s.fld g := rfl
@[simp] theorem State.domOn_modAcc (f : Immo → Immo) (d : Dom) : (s.modAcc f).domOn d = s.domOn d := rfl

/-! ### modHerd -/

@[simp] theorem State.pending_modHerd (f : Herd → Herd) : (s.modHerd f).pending = s.pending := rfl
@[simp] theorem State.io_modHerd (f : Herd → Herd) : (s.modHerd f).io = s.io := rfl
@[simp] theorem State.snap_modHerd (f : Herd → Herd) : (s.modHerd f).snap = s.snap := rfl
@[simp] theorem State.rdata_modHerd (f : Herd → Herd) : (s.modHerd f).rdata = s.rdata := rfl
@[simp] theorem State.mem_modHerd (f : Herd → Herd) : (s.modHerd f).mem = s.mem := rfl
@[simp] theorem State.ecc_modHerd (f : Herd → Herd) : (s.modHerd f).ecc = s.ecc := rfl
@[simp] theorem State.descs_modHerd (f : Herd → Herd) : (s.modHerd f).descs = s.descs := rfl
@[simp] theorem State.rng_modHerd (f : Herd → Herd) : (s.modHerd f).rng = s.rng := rfl
@[simp] theorem State.threads_modHerd (f : Herd → Herd) : (s.modHerd f).threads = s.threads := rfl
@[simp] theorem State.zone_modHerd (f : Herd → Herd) : (s.modHerd f).zone = s.zone := rfl
@[simp] theorem State.ocfg_modHerd (f : Herd → Herd) : (s.modHerd f).ocfg = s.ocfg := rfl
@[simp] theorem State.hsc_modHerd (f : Herd → Herd) : (s.modHerd f).hsc = s.hsc := rfl
@[simp] theorem State.mot_modHerd (f : Herd → Herd) : (s.modHerd f).mot = s.mot := rfl
@[simp] theorem State.vlv_modHerd (f : Herd → Herd) : (s.modHerd f).vlv = s.vlv := rfl
@[simp] theorem State.bank_modHerd (f : Herd → Herd) : (s.modHerd f).bank = s.bank := rfl
@[simp] theorem State.lux_modHerd (f : Herd → Herd) : (s.modHerd f).lux = s.lux := rfl
@[simp] theorem State.loops_modHerd (f : Herd → Herd) : (s.modHerd f).loops = s.loops := rfl
@[simp] theorem State.px_modHerd (f : Herd → Herd) : (s.modHerd f).px = s.px := rfl
@[simp] theorem State.thm_modHerd (f : Herd → Herd) : (s.modHerd f).thm = s.thm := rfl
@[simp] theorem State.flt_modHerd (f : Herd → Herd) : (s.modHerd f).flt = s.flt := rfl
@[simp] theorem State.pw_modHerd (f : Herd → Herd) : (s.modHerd f).pw = s.pw := rfl
@[simp] theorem State.zsw_modHerd (f : Herd → Herd) : (s.modHerd f).zsw = s.zsw := rfl
@[simp] theorem State.eth_modHerd (f : Herd → Herd) : (s.modHerd f).eth = s.eth := rfl
@[simp] theorem State.net_modHerd (f : Herd → Herd) : (s.modHerd f).net = s.net := rfl
@[simp] theorem State.herd_modHerd (f : Herd → Herd) : (s.modHerd f).herd = f s.herd := rfl
@[simp] theorem State.inp_modHerd (f : Herd → Herd) : (s.modHerd f).inp = s.inp := rfl
@[simp] theorem State.acc_modHerd (f : Herd → Herd) : (s.modHerd f).acc = s.acc := rfl
@[simp] theorem State.memc_modHerd (f : Herd → Herd) : (s.modHerd f).memc = s.memc := rfl
@[simp] theorem State.img_modHerd (f : Herd → Herd) : (s.modHerd f).img = s.img := rfl
@[simp] theorem State.brc_modHerd (f : Herd → Herd) : (s.modHerd f).brc = s.brc := rfl
@[simp] theorem State.cores_modHerd (f : Herd → Herd) : (s.modHerd f).cores = s.cores := rfl
@[simp] theorem State.zt_modHerd (f : Herd → Herd) : (s.modHerd f).zt = s.zt := rfl
@[simp] theorem State.free_modHerd (f : Herd → Herd) : (s.modHerd f).free = s.free := rfl
@[simp] theorem State.reg_modHerd (f : Herd → Herd) (a : Nat) : (s.modHerd f).reg a = s.reg a := rfl
@[simp] theorem State.fld_modHerd (f : Herd → Herd) (g : FRef) : (s.modHerd f).fld g = s.fld g := rfl
@[simp] theorem State.domOn_modHerd (f : Herd → Herd) (d : Dom) : (s.modHerd f).domOn d = s.domOn d := rfl

/-! ### modInp -/

@[simp] theorem State.pending_modInp (f : Inp → Inp) : (s.modInp f).pending = s.pending := rfl
@[simp] theorem State.io_modInp (f : Inp → Inp) : (s.modInp f).io = s.io := rfl
@[simp] theorem State.snap_modInp (f : Inp → Inp) : (s.modInp f).snap = s.snap := rfl
@[simp] theorem State.rdata_modInp (f : Inp → Inp) : (s.modInp f).rdata = s.rdata := rfl
@[simp] theorem State.mem_modInp (f : Inp → Inp) : (s.modInp f).mem = s.mem := rfl
@[simp] theorem State.ecc_modInp (f : Inp → Inp) : (s.modInp f).ecc = s.ecc := rfl
@[simp] theorem State.descs_modInp (f : Inp → Inp) : (s.modInp f).descs = s.descs := rfl
@[simp] theorem State.rng_modInp (f : Inp → Inp) : (s.modInp f).rng = s.rng := rfl
@[simp] theorem State.threads_modInp (f : Inp → Inp) : (s.modInp f).threads = s.threads := rfl
@[simp] theorem State.zone_modInp (f : Inp → Inp) : (s.modInp f).zone = s.zone := rfl
@[simp] theorem State.ocfg_modInp (f : Inp → Inp) : (s.modInp f).ocfg = s.ocfg := rfl
@[simp] theorem State.hsc_modInp (f : Inp → Inp) : (s.modInp f).hsc = s.hsc := rfl
@[simp] theorem State.mot_modInp (f : Inp → Inp) : (s.modInp f).mot = s.mot := rfl
@[simp] theorem State.vlv_modInp (f : Inp → Inp) : (s.modInp f).vlv = s.vlv := rfl
@[simp] theorem State.bank_modInp (f : Inp → Inp) : (s.modInp f).bank = s.bank := rfl
@[simp] theorem State.lux_modInp (f : Inp → Inp) : (s.modInp f).lux = s.lux := rfl
@[simp] theorem State.loops_modInp (f : Inp → Inp) : (s.modInp f).loops = s.loops := rfl
@[simp] theorem State.px_modInp (f : Inp → Inp) : (s.modInp f).px = s.px := rfl
@[simp] theorem State.thm_modInp (f : Inp → Inp) : (s.modInp f).thm = s.thm := rfl
@[simp] theorem State.flt_modInp (f : Inp → Inp) : (s.modInp f).flt = s.flt := rfl
@[simp] theorem State.pw_modInp (f : Inp → Inp) : (s.modInp f).pw = s.pw := rfl
@[simp] theorem State.zsw_modInp (f : Inp → Inp) : (s.modInp f).zsw = s.zsw := rfl
@[simp] theorem State.eth_modInp (f : Inp → Inp) : (s.modInp f).eth = s.eth := rfl
@[simp] theorem State.net_modInp (f : Inp → Inp) : (s.modInp f).net = s.net := rfl
@[simp] theorem State.herd_modInp (f : Inp → Inp) : (s.modInp f).herd = s.herd := rfl
@[simp] theorem State.inp_modInp (f : Inp → Inp) : (s.modInp f).inp = f s.inp := rfl
@[simp] theorem State.acc_modInp (f : Inp → Inp) : (s.modInp f).acc = s.acc := rfl
@[simp] theorem State.memc_modInp (f : Inp → Inp) : (s.modInp f).memc = s.memc := rfl
@[simp] theorem State.img_modInp (f : Inp → Inp) : (s.modInp f).img = s.img := rfl
@[simp] theorem State.brc_modInp (f : Inp → Inp) : (s.modInp f).brc = s.brc := rfl
@[simp] theorem State.cores_modInp (f : Inp → Inp) : (s.modInp f).cores = s.cores := rfl
@[simp] theorem State.zt_modInp (f : Inp → Inp) : (s.modInp f).zt = s.zt := rfl
@[simp] theorem State.free_modInp (f : Inp → Inp) : (s.modInp f).free = s.free := rfl
@[simp] theorem State.reg_modInp (f : Inp → Inp) (a : Nat) : (s.modInp f).reg a = s.reg a := rfl
@[simp] theorem State.fld_modInp (f : Inp → Inp) (g : FRef) : (s.modInp f).fld g = s.fld g := rfl
@[simp] theorem State.domOn_modInp (f : Inp → Inp) (d : Dom) : (s.modInp f).domOn d = s.domOn d := rfl

/-! ### modMem -/

@[simp] theorem State.pending_modMem (f : Mem → Mem) : (s.modMem f).pending = s.pending := rfl
@[simp] theorem State.io_modMem (f : Mem → Mem) : (s.modMem f).io = s.io := rfl
@[simp] theorem State.snap_modMem (f : Mem → Mem) : (s.modMem f).snap = s.snap := rfl
@[simp] theorem State.rdata_modMem (f : Mem → Mem) : (s.modMem f).rdata = s.rdata := rfl
@[simp] theorem State.mem_modMem (f : Mem → Mem) : (s.modMem f).mem = s.mem := rfl
@[simp] theorem State.ecc_modMem (f : Mem → Mem) : (s.modMem f).ecc = s.ecc := rfl
@[simp] theorem State.descs_modMem (f : Mem → Mem) : (s.modMem f).descs = s.descs := rfl
@[simp] theorem State.rng_modMem (f : Mem → Mem) : (s.modMem f).rng = s.rng := rfl
@[simp] theorem State.threads_modMem (f : Mem → Mem) : (s.modMem f).threads = s.threads := rfl
@[simp] theorem State.zone_modMem (f : Mem → Mem) : (s.modMem f).zone = s.zone := rfl
@[simp] theorem State.ocfg_modMem (f : Mem → Mem) : (s.modMem f).ocfg = s.ocfg := rfl
@[simp] theorem State.hsc_modMem (f : Mem → Mem) : (s.modMem f).hsc = s.hsc := rfl
@[simp] theorem State.mot_modMem (f : Mem → Mem) : (s.modMem f).mot = s.mot := rfl
@[simp] theorem State.vlv_modMem (f : Mem → Mem) : (s.modMem f).vlv = s.vlv := rfl
@[simp] theorem State.bank_modMem (f : Mem → Mem) : (s.modMem f).bank = s.bank := rfl
@[simp] theorem State.lux_modMem (f : Mem → Mem) : (s.modMem f).lux = s.lux := rfl
@[simp] theorem State.loops_modMem (f : Mem → Mem) : (s.modMem f).loops = s.loops := rfl
@[simp] theorem State.px_modMem (f : Mem → Mem) : (s.modMem f).px = s.px := rfl
@[simp] theorem State.thm_modMem (f : Mem → Mem) : (s.modMem f).thm = s.thm := rfl
@[simp] theorem State.flt_modMem (f : Mem → Mem) : (s.modMem f).flt = s.flt := rfl
@[simp] theorem State.pw_modMem (f : Mem → Mem) : (s.modMem f).pw = s.pw := rfl
@[simp] theorem State.zsw_modMem (f : Mem → Mem) : (s.modMem f).zsw = s.zsw := rfl
@[simp] theorem State.eth_modMem (f : Mem → Mem) : (s.modMem f).eth = s.eth := rfl
@[simp] theorem State.net_modMem (f : Mem → Mem) : (s.modMem f).net = s.net := rfl
@[simp] theorem State.herd_modMem (f : Mem → Mem) : (s.modMem f).herd = s.herd := rfl
@[simp] theorem State.inp_modMem (f : Mem → Mem) : (s.modMem f).inp = s.inp := rfl
@[simp] theorem State.acc_modMem (f : Mem → Mem) : (s.modMem f).acc = s.acc := rfl
@[simp] theorem State.memc_modMem (f : Mem → Mem) : (s.modMem f).memc = f s.memc := rfl
@[simp] theorem State.img_modMem (f : Mem → Mem) : (s.modMem f).img = s.img := rfl
@[simp] theorem State.brc_modMem (f : Mem → Mem) : (s.modMem f).brc = s.brc := rfl
@[simp] theorem State.cores_modMem (f : Mem → Mem) : (s.modMem f).cores = s.cores := rfl
@[simp] theorem State.zt_modMem (f : Mem → Mem) : (s.modMem f).zt = s.zt := rfl
@[simp] theorem State.free_modMem (f : Mem → Mem) : (s.modMem f).free = s.free := rfl
@[simp] theorem State.reg_modMem (f : Mem → Mem) (a : Nat) : (s.modMem f).reg a = s.reg a := rfl
@[simp] theorem State.fld_modMem (f : Mem → Mem) (g : FRef) : (s.modMem f).fld g = s.fld g := rfl
@[simp] theorem State.domOn_modMem (f : Mem → Mem) (d : Dom) : (s.modMem f).domOn d = s.domOn d := rfl

/-! ### modZsw -/

@[simp] theorem State.pending_modZsw (f : Zsw → Zsw) : (s.modZsw f).pending = s.pending := rfl
@[simp] theorem State.io_modZsw (f : Zsw → Zsw) : (s.modZsw f).io = s.io := rfl
@[simp] theorem State.snap_modZsw (f : Zsw → Zsw) : (s.modZsw f).snap = s.snap := rfl
@[simp] theorem State.rdata_modZsw (f : Zsw → Zsw) : (s.modZsw f).rdata = s.rdata := rfl
@[simp] theorem State.mem_modZsw (f : Zsw → Zsw) : (s.modZsw f).mem = s.mem := rfl
@[simp] theorem State.ecc_modZsw (f : Zsw → Zsw) : (s.modZsw f).ecc = s.ecc := rfl
@[simp] theorem State.descs_modZsw (f : Zsw → Zsw) : (s.modZsw f).descs = s.descs := rfl
@[simp] theorem State.rng_modZsw (f : Zsw → Zsw) : (s.modZsw f).rng = s.rng := rfl
@[simp] theorem State.threads_modZsw (f : Zsw → Zsw) : (s.modZsw f).threads = s.threads := rfl
@[simp] theorem State.zone_modZsw (f : Zsw → Zsw) : (s.modZsw f).zone = s.zone := rfl
@[simp] theorem State.ocfg_modZsw (f : Zsw → Zsw) : (s.modZsw f).ocfg = s.ocfg := rfl
@[simp] theorem State.hsc_modZsw (f : Zsw → Zsw) : (s.modZsw f).hsc = s.hsc := rfl
@[simp] theorem State.mot_modZsw (f : Zsw → Zsw) : (s.modZsw f).mot = s.mot := rfl
@[simp] theorem State.vlv_modZsw (f : Zsw → Zsw) : (s.modZsw f).vlv = s.vlv := rfl
@[simp] theorem State.bank_modZsw (f : Zsw → Zsw) : (s.modZsw f).bank = s.bank := rfl
@[simp] theorem State.lux_modZsw (f : Zsw → Zsw) : (s.modZsw f).lux = s.lux := rfl
@[simp] theorem State.loops_modZsw (f : Zsw → Zsw) : (s.modZsw f).loops = s.loops := rfl
@[simp] theorem State.px_modZsw (f : Zsw → Zsw) : (s.modZsw f).px = s.px := rfl
@[simp] theorem State.thm_modZsw (f : Zsw → Zsw) : (s.modZsw f).thm = s.thm := rfl
@[simp] theorem State.flt_modZsw (f : Zsw → Zsw) : (s.modZsw f).flt = s.flt := rfl
@[simp] theorem State.pw_modZsw (f : Zsw → Zsw) : (s.modZsw f).pw = s.pw := rfl
@[simp] theorem State.zsw_modZsw (f : Zsw → Zsw) : (s.modZsw f).zsw = f s.zsw := rfl
@[simp] theorem State.eth_modZsw (f : Zsw → Zsw) : (s.modZsw f).eth = s.eth := rfl
@[simp] theorem State.net_modZsw (f : Zsw → Zsw) : (s.modZsw f).net = s.net := rfl
@[simp] theorem State.herd_modZsw (f : Zsw → Zsw) : (s.modZsw f).herd = s.herd := rfl
@[simp] theorem State.inp_modZsw (f : Zsw → Zsw) : (s.modZsw f).inp = s.inp := rfl
@[simp] theorem State.acc_modZsw (f : Zsw → Zsw) : (s.modZsw f).acc = s.acc := rfl
@[simp] theorem State.memc_modZsw (f : Zsw → Zsw) : (s.modZsw f).memc = s.memc := rfl
@[simp] theorem State.img_modZsw (f : Zsw → Zsw) : (s.modZsw f).img = s.img := rfl
@[simp] theorem State.brc_modZsw (f : Zsw → Zsw) : (s.modZsw f).brc = s.brc := rfl
@[simp] theorem State.cores_modZsw (f : Zsw → Zsw) : (s.modZsw f).cores = s.cores := rfl
@[simp] theorem State.zt_modZsw (f : Zsw → Zsw) : (s.modZsw f).zt = s.zt := rfl
@[simp] theorem State.free_modZsw (f : Zsw → Zsw) : (s.modZsw f).free = s.free := rfl
@[simp] theorem State.reg_modZsw (f : Zsw → Zsw) (a : Nat) : (s.modZsw f).reg a = s.reg a := rfl
@[simp] theorem State.fld_modZsw (f : Zsw → Zsw) (g : FRef) : (s.modZsw f).fld g = s.fld g := rfl
@[simp] theorem State.domOn_modZsw (f : Zsw → Zsw) (d : Dom) : (s.modZsw f).domOn d = s.domOn d := rfl

/-! ### modEth -/

@[simp] theorem State.pending_modEth (f : Eth → Eth) : (s.modEth f).pending = s.pending := rfl
@[simp] theorem State.io_modEth (f : Eth → Eth) : (s.modEth f).io = s.io := rfl
@[simp] theorem State.snap_modEth (f : Eth → Eth) : (s.modEth f).snap = s.snap := rfl
@[simp] theorem State.rdata_modEth (f : Eth → Eth) : (s.modEth f).rdata = s.rdata := rfl
@[simp] theorem State.mem_modEth (f : Eth → Eth) : (s.modEth f).mem = s.mem := rfl
@[simp] theorem State.ecc_modEth (f : Eth → Eth) : (s.modEth f).ecc = s.ecc := rfl
@[simp] theorem State.descs_modEth (f : Eth → Eth) : (s.modEth f).descs = s.descs := rfl
@[simp] theorem State.rng_modEth (f : Eth → Eth) : (s.modEth f).rng = s.rng := rfl
@[simp] theorem State.threads_modEth (f : Eth → Eth) : (s.modEth f).threads = s.threads := rfl
@[simp] theorem State.zone_modEth (f : Eth → Eth) : (s.modEth f).zone = s.zone := rfl
@[simp] theorem State.ocfg_modEth (f : Eth → Eth) : (s.modEth f).ocfg = s.ocfg := rfl
@[simp] theorem State.hsc_modEth (f : Eth → Eth) : (s.modEth f).hsc = s.hsc := rfl
@[simp] theorem State.mot_modEth (f : Eth → Eth) : (s.modEth f).mot = s.mot := rfl
@[simp] theorem State.vlv_modEth (f : Eth → Eth) : (s.modEth f).vlv = s.vlv := rfl
@[simp] theorem State.bank_modEth (f : Eth → Eth) : (s.modEth f).bank = s.bank := rfl
@[simp] theorem State.lux_modEth (f : Eth → Eth) : (s.modEth f).lux = s.lux := rfl
@[simp] theorem State.loops_modEth (f : Eth → Eth) : (s.modEth f).loops = s.loops := rfl
@[simp] theorem State.px_modEth (f : Eth → Eth) : (s.modEth f).px = s.px := rfl
@[simp] theorem State.thm_modEth (f : Eth → Eth) : (s.modEth f).thm = s.thm := rfl
@[simp] theorem State.flt_modEth (f : Eth → Eth) : (s.modEth f).flt = s.flt := rfl
@[simp] theorem State.pw_modEth (f : Eth → Eth) : (s.modEth f).pw = s.pw := rfl
@[simp] theorem State.zsw_modEth (f : Eth → Eth) : (s.modEth f).zsw = s.zsw := rfl
@[simp] theorem State.eth_modEth (f : Eth → Eth) : (s.modEth f).eth = f s.eth := rfl
@[simp] theorem State.net_modEth (f : Eth → Eth) : (s.modEth f).net = s.net := rfl
@[simp] theorem State.herd_modEth (f : Eth → Eth) : (s.modEth f).herd = s.herd := rfl
@[simp] theorem State.inp_modEth (f : Eth → Eth) : (s.modEth f).inp = s.inp := rfl
@[simp] theorem State.acc_modEth (f : Eth → Eth) : (s.modEth f).acc = s.acc := rfl
@[simp] theorem State.memc_modEth (f : Eth → Eth) : (s.modEth f).memc = s.memc := rfl
@[simp] theorem State.img_modEth (f : Eth → Eth) : (s.modEth f).img = s.img := rfl
@[simp] theorem State.brc_modEth (f : Eth → Eth) : (s.modEth f).brc = s.brc := rfl
@[simp] theorem State.cores_modEth (f : Eth → Eth) : (s.modEth f).cores = s.cores := rfl
@[simp] theorem State.zt_modEth (f : Eth → Eth) : (s.modEth f).zt = s.zt := rfl
@[simp] theorem State.free_modEth (f : Eth → Eth) : (s.modEth f).free = s.free := rfl
@[simp] theorem State.reg_modEth (f : Eth → Eth) (a : Nat) : (s.modEth f).reg a = s.reg a := rfl
@[simp] theorem State.fld_modEth (f : Eth → Eth) (g : FRef) : (s.modEth f).fld g = s.fld g := rfl
@[simp] theorem State.domOn_modEth (f : Eth → Eth) (d : Dom) : (s.modEth f).domOn d = s.domOn d := rfl

/-! ### modNet -/

@[simp] theorem State.pending_modNet (f : Net → Net) : (s.modNet f).pending = s.pending := rfl
@[simp] theorem State.io_modNet (f : Net → Net) : (s.modNet f).io = s.io := rfl
@[simp] theorem State.snap_modNet (f : Net → Net) : (s.modNet f).snap = s.snap := rfl
@[simp] theorem State.rdata_modNet (f : Net → Net) : (s.modNet f).rdata = s.rdata := rfl
@[simp] theorem State.mem_modNet (f : Net → Net) : (s.modNet f).mem = s.mem := rfl
@[simp] theorem State.ecc_modNet (f : Net → Net) : (s.modNet f).ecc = s.ecc := rfl
@[simp] theorem State.descs_modNet (f : Net → Net) : (s.modNet f).descs = s.descs := rfl
@[simp] theorem State.rng_modNet (f : Net → Net) : (s.modNet f).rng = s.rng := rfl
@[simp] theorem State.threads_modNet (f : Net → Net) : (s.modNet f).threads = s.threads := rfl
@[simp] theorem State.zone_modNet (f : Net → Net) : (s.modNet f).zone = s.zone := rfl
@[simp] theorem State.ocfg_modNet (f : Net → Net) : (s.modNet f).ocfg = s.ocfg := rfl
@[simp] theorem State.hsc_modNet (f : Net → Net) : (s.modNet f).hsc = s.hsc := rfl
@[simp] theorem State.mot_modNet (f : Net → Net) : (s.modNet f).mot = s.mot := rfl
@[simp] theorem State.vlv_modNet (f : Net → Net) : (s.modNet f).vlv = s.vlv := rfl
@[simp] theorem State.bank_modNet (f : Net → Net) : (s.modNet f).bank = s.bank := rfl
@[simp] theorem State.lux_modNet (f : Net → Net) : (s.modNet f).lux = s.lux := rfl
@[simp] theorem State.loops_modNet (f : Net → Net) : (s.modNet f).loops = s.loops := rfl
@[simp] theorem State.px_modNet (f : Net → Net) : (s.modNet f).px = s.px := rfl
@[simp] theorem State.thm_modNet (f : Net → Net) : (s.modNet f).thm = s.thm := rfl
@[simp] theorem State.flt_modNet (f : Net → Net) : (s.modNet f).flt = s.flt := rfl
@[simp] theorem State.pw_modNet (f : Net → Net) : (s.modNet f).pw = s.pw := rfl
@[simp] theorem State.zsw_modNet (f : Net → Net) : (s.modNet f).zsw = s.zsw := rfl
@[simp] theorem State.eth_modNet (f : Net → Net) : (s.modNet f).eth = s.eth := rfl
@[simp] theorem State.net_modNet (f : Net → Net) : (s.modNet f).net = f s.net := rfl
@[simp] theorem State.herd_modNet (f : Net → Net) : (s.modNet f).herd = s.herd := rfl
@[simp] theorem State.inp_modNet (f : Net → Net) : (s.modNet f).inp = s.inp := rfl
@[simp] theorem State.acc_modNet (f : Net → Net) : (s.modNet f).acc = s.acc := rfl
@[simp] theorem State.memc_modNet (f : Net → Net) : (s.modNet f).memc = s.memc := rfl
@[simp] theorem State.img_modNet (f : Net → Net) : (s.modNet f).img = s.img := rfl
@[simp] theorem State.brc_modNet (f : Net → Net) : (s.modNet f).brc = s.brc := rfl
@[simp] theorem State.cores_modNet (f : Net → Net) : (s.modNet f).cores = s.cores := rfl
@[simp] theorem State.zt_modNet (f : Net → Net) : (s.modNet f).zt = s.zt := rfl
@[simp] theorem State.free_modNet (f : Net → Net) : (s.modNet f).free = s.free := rfl
@[simp] theorem State.reg_modNet (f : Net → Net) (a : Nat) : (s.modNet f).reg a = s.reg a := rfl
@[simp] theorem State.fld_modNet (f : Net → Net) (g : FRef) : (s.modNet f).fld g = s.fld g := rfl
@[simp] theorem State.domOn_modNet (f : Net → Net) (d : Dom) : (s.modNet f).domOn d = s.domOn d := rfl

/-! ### modZone -/

@[simp] theorem State.pending_modZone (f : ZoneT → ZoneT) : (s.modZone f).pending = s.pending := rfl
@[simp] theorem State.io_modZone (f : ZoneT → ZoneT) : (s.modZone f).io = s.io := rfl
@[simp] theorem State.snap_modZone (f : ZoneT → ZoneT) : (s.modZone f).snap = s.snap := rfl
@[simp] theorem State.rdata_modZone (f : ZoneT → ZoneT) : (s.modZone f).rdata = s.rdata := rfl
@[simp] theorem State.mem_modZone (f : ZoneT → ZoneT) : (s.modZone f).mem = s.mem := rfl
@[simp] theorem State.ecc_modZone (f : ZoneT → ZoneT) : (s.modZone f).ecc = s.ecc := rfl
@[simp] theorem State.descs_modZone (f : ZoneT → ZoneT) : (s.modZone f).descs = s.descs := rfl
@[simp] theorem State.rng_modZone (f : ZoneT → ZoneT) : (s.modZone f).rng = s.rng := rfl
@[simp] theorem State.threads_modZone (f : ZoneT → ZoneT) : (s.modZone f).threads = s.threads := rfl
@[simp] theorem State.zone_modZone (f : ZoneT → ZoneT) : (s.modZone f).zone = f s.zone := rfl
@[simp] theorem State.ocfg_modZone (f : ZoneT → ZoneT) : (s.modZone f).ocfg = s.ocfg := rfl
@[simp] theorem State.hsc_modZone (f : ZoneT → ZoneT) : (s.modZone f).hsc = s.hsc := rfl
@[simp] theorem State.mot_modZone (f : ZoneT → ZoneT) : (s.modZone f).mot = s.mot := rfl
@[simp] theorem State.vlv_modZone (f : ZoneT → ZoneT) : (s.modZone f).vlv = s.vlv := rfl
@[simp] theorem State.bank_modZone (f : ZoneT → ZoneT) : (s.modZone f).bank = s.bank := rfl
@[simp] theorem State.lux_modZone (f : ZoneT → ZoneT) : (s.modZone f).lux = s.lux := rfl
@[simp] theorem State.loops_modZone (f : ZoneT → ZoneT) : (s.modZone f).loops = s.loops := rfl
@[simp] theorem State.px_modZone (f : ZoneT → ZoneT) : (s.modZone f).px = s.px := rfl
@[simp] theorem State.thm_modZone (f : ZoneT → ZoneT) : (s.modZone f).thm = s.thm := rfl
@[simp] theorem State.flt_modZone (f : ZoneT → ZoneT) : (s.modZone f).flt = s.flt := rfl
@[simp] theorem State.pw_modZone (f : ZoneT → ZoneT) : (s.modZone f).pw = s.pw := rfl
@[simp] theorem State.zsw_modZone (f : ZoneT → ZoneT) : (s.modZone f).zsw = s.zsw := rfl
@[simp] theorem State.eth_modZone (f : ZoneT → ZoneT) : (s.modZone f).eth = s.eth := rfl
@[simp] theorem State.net_modZone (f : ZoneT → ZoneT) : (s.modZone f).net = s.net := rfl
@[simp] theorem State.herd_modZone (f : ZoneT → ZoneT) : (s.modZone f).herd = s.herd := rfl
@[simp] theorem State.inp_modZone (f : ZoneT → ZoneT) : (s.modZone f).inp = s.inp := rfl
@[simp] theorem State.acc_modZone (f : ZoneT → ZoneT) : (s.modZone f).acc = s.acc := rfl
@[simp] theorem State.memc_modZone (f : ZoneT → ZoneT) : (s.modZone f).memc = s.memc := rfl
@[simp] theorem State.img_modZone (f : ZoneT → ZoneT) : (s.modZone f).img = s.img := rfl
@[simp] theorem State.brc_modZone (f : ZoneT → ZoneT) : (s.modZone f).brc = s.brc := rfl
@[simp] theorem State.cores_modZone (f : ZoneT → ZoneT) : (s.modZone f).cores = s.cores := rfl
@[simp] theorem State.zt_modZone (f : ZoneT → ZoneT) : (s.modZone f).zt = s.zt := rfl
@[simp] theorem State.free_modZone (f : ZoneT → ZoneT) : (s.modZone f).free = s.free := rfl
@[simp] theorem State.reg_modZone (f : ZoneT → ZoneT) (a : Nat) : (s.modZone f).reg a = s.reg a := rfl
@[simp] theorem State.fld_modZone (f : ZoneT → ZoneT) (g : FRef) : (s.modZone f).fld g = s.fld g := rfl
@[simp] theorem State.domOn_modZone (f : ZoneT → ZoneT) (d : Dom) : (s.modZone f).domOn d = s.domOn d := rfl

/-! ### modThm -/

@[simp] theorem State.pending_modThm (f : Thm → Thm) : (s.modThm f).pending = s.pending := rfl
@[simp] theorem State.io_modThm (f : Thm → Thm) : (s.modThm f).io = s.io := rfl
@[simp] theorem State.snap_modThm (f : Thm → Thm) : (s.modThm f).snap = s.snap := rfl
@[simp] theorem State.rdata_modThm (f : Thm → Thm) : (s.modThm f).rdata = s.rdata := rfl
@[simp] theorem State.mem_modThm (f : Thm → Thm) : (s.modThm f).mem = s.mem := rfl
@[simp] theorem State.ecc_modThm (f : Thm → Thm) : (s.modThm f).ecc = s.ecc := rfl
@[simp] theorem State.descs_modThm (f : Thm → Thm) : (s.modThm f).descs = s.descs := rfl
@[simp] theorem State.rng_modThm (f : Thm → Thm) : (s.modThm f).rng = s.rng := rfl
@[simp] theorem State.threads_modThm (f : Thm → Thm) : (s.modThm f).threads = s.threads := rfl
@[simp] theorem State.zone_modThm (f : Thm → Thm) : (s.modThm f).zone = s.zone := rfl
@[simp] theorem State.ocfg_modThm (f : Thm → Thm) : (s.modThm f).ocfg = s.ocfg := rfl
@[simp] theorem State.hsc_modThm (f : Thm → Thm) : (s.modThm f).hsc = s.hsc := rfl
@[simp] theorem State.mot_modThm (f : Thm → Thm) : (s.modThm f).mot = s.mot := rfl
@[simp] theorem State.vlv_modThm (f : Thm → Thm) : (s.modThm f).vlv = s.vlv := rfl
@[simp] theorem State.bank_modThm (f : Thm → Thm) : (s.modThm f).bank = s.bank := rfl
@[simp] theorem State.lux_modThm (f : Thm → Thm) : (s.modThm f).lux = s.lux := rfl
@[simp] theorem State.loops_modThm (f : Thm → Thm) : (s.modThm f).loops = s.loops := rfl
@[simp] theorem State.px_modThm (f : Thm → Thm) : (s.modThm f).px = s.px := rfl
@[simp] theorem State.thm_modThm (f : Thm → Thm) : (s.modThm f).thm = f s.thm := rfl
@[simp] theorem State.flt_modThm (f : Thm → Thm) : (s.modThm f).flt = s.flt := rfl
@[simp] theorem State.pw_modThm (f : Thm → Thm) : (s.modThm f).pw = s.pw := rfl
@[simp] theorem State.zsw_modThm (f : Thm → Thm) : (s.modThm f).zsw = s.zsw := rfl
@[simp] theorem State.eth_modThm (f : Thm → Thm) : (s.modThm f).eth = s.eth := rfl
@[simp] theorem State.net_modThm (f : Thm → Thm) : (s.modThm f).net = s.net := rfl
@[simp] theorem State.herd_modThm (f : Thm → Thm) : (s.modThm f).herd = s.herd := rfl
@[simp] theorem State.inp_modThm (f : Thm → Thm) : (s.modThm f).inp = s.inp := rfl
@[simp] theorem State.acc_modThm (f : Thm → Thm) : (s.modThm f).acc = s.acc := rfl
@[simp] theorem State.memc_modThm (f : Thm → Thm) : (s.modThm f).memc = s.memc := rfl
@[simp] theorem State.img_modThm (f : Thm → Thm) : (s.modThm f).img = s.img := rfl
@[simp] theorem State.brc_modThm (f : Thm → Thm) : (s.modThm f).brc = s.brc := rfl
@[simp] theorem State.cores_modThm (f : Thm → Thm) : (s.modThm f).cores = s.cores := rfl
@[simp] theorem State.zt_modThm (f : Thm → Thm) : (s.modThm f).zt = s.zt := rfl
@[simp] theorem State.free_modThm (f : Thm → Thm) : (s.modThm f).free = s.free := rfl
@[simp] theorem State.reg_modThm (f : Thm → Thm) (a : Nat) : (s.modThm f).reg a = s.reg a := rfl
@[simp] theorem State.fld_modThm (f : Thm → Thm) (g : FRef) : (s.modThm f).fld g = s.fld g := rfl
@[simp] theorem State.domOn_modThm (f : Thm → Thm) (d : Dom) : (s.modThm f).domOn d = s.domOn d := rfl

end Sys2Proof.Machine
end

