-- ==== Sys2Proof/Laws/Core.lean ====
section
/-! SUPPORT. What every instruction of a core shares: the effect of one that takes no trap, and the laws of the core's
registers, status bits and loop levels. -/

namespace Sys2Proof.Machine

theorem State.each_id {α : Type} (s : State) (l : List α) (g : α → State → State) (h : ∀ a ∈ l, g a s = s) : s.each l g = s := by
  induction l with
  | nil => rfl
  | cons a l ih =>
    have : s.each (a :: l) g = (g a s).each l g := rfl
    rw [this, h a List.mem_cons_self, ih (fun b hb => h b (List.mem_cons_of_mem _ hb))]

theorem State.runs_of_fetches {s : State} {c n : Nat} (h : s.fetches c n = true) : s.runs c = true := by
  simp [State.fetches] at h; exact h.1.1

theorem State.fetchTrap_of_fetches {s : State} {c n : Nat} (h : s.fetches c n = true) : s.fetchTrap c n = none := by
  simp only [State.fetches, Bool.and_eq_true, List.all_eq_true, List.mem_range] at h
  simp only [State.fetchTrap, List.findSome?_eq_none_iff, List.mem_range]
  intro i hi
  have := h.2 i hi
  simp only [Bool.or_eq_true, Bool.and_eq_true, decide_eq_true_eq] at this
  rcases this with ⟨h1, h2⟩ | ⟨h1, h2⟩
  · rw [if_neg (by omega), if_neg (by omega), if_neg (by omega)]
  · rw [if_neg (by omega), if_pos h1, if_pos h2]

theorem State.fetchNote_of_fetches {s : State} {c n : Nat} (h : s.fetches c n = true) : s.fetchNote c n = s := by
  simp only [State.fetches, Bool.and_eq_true, List.all_eq_true, List.mem_range] at h
  apply State.each_id
  intro i hi
  have := h.2 i (List.mem_range.mp hi)
  simp only [Bool.or_eq_true, Bool.and_eq_true, decide_eq_true_eq] at this
  rcases this with ⟨h1, h2⟩ | ⟨h1, h2⟩
  · dsimp only
    rw [if_pos h1]
    simp only [State.eccNote, h2, OfNat.zero_ne_ofNat, zero_ne_one, if_false]
  · have : ¬ ((s.core c).pc + i) % 2 ^ 21 < 0o4000000 := by omega
    simp only [if_neg this]

/-- An instruction that takes no trap has its effect. -/
theorem State.instr_of_fetches {s : State} {c n : Nat} (h : s.fetches c n = true) (bad late : List (Option Trp))
    (act : State → State) (hb : ∀ t ∈ bad ++ late, t = none) : s.instr c n bad late act = act s := by
  have h1 := State.fetchTrap_of_fetches h
  have h2 : s.ill c 4 (s.atLoopEnd c n) = none := by
    simp only [State.fetches, Bool.and_eq_true, Bool.not_eq_true'] at h
    simp [State.ill, h.1.2]
  have h3 : (s.fetchTrap c n :: bad ++ s.ill c 4 (s.atLoopEnd c n) :: late).findSome? id = none := by
    simp only [List.findSome?_eq_none_iff, id]
    intro t ht
    simp only [List.cons_append, List.mem_cons, List.mem_append] at ht
    rcases ht with rfl | ht | rfl | ht
    · exact h1
    · exact hb t (List.mem_append_left _ ht)
    · exact h2
    · exact hb t (List.mem_append_right _ ht)
  simp only [State.instr, State.runs_of_fetches h, Bool.not_true, Bool.false_eq_true, if_false, h3, State.fetchNote_of_fetches h]

/-- An instruction that meets a trap beside those of the fetch takes the first. -/
theorem State.instr_of_trap {s : State} {c n : Nat} (h : s.fetches c n = true) (bad late : List (Option Trp)) (act : State → State)
    (t : Trp) (hb : (bad ++ late).findSome? id = some t) (hv : t.vec ≠ 3) : s.instr c n bad late act = s.trap c t := by
  have h1 := State.fetchTrap_of_fetches h
  have h2 : s.ill c 4 (s.atLoopEnd c n) = none := by
    simp only [State.fetches, Bool.and_eq_true, Bool.not_eq_true'] at h
    simp [State.ill, h.1.2]
  have h3 : (s.fetchTrap c n :: bad ++ s.ill c 4 (s.atLoopEnd c n) :: late).findSome? id = some t := by
    rw [h1, h2]
    rw [List.cons_append, List.findSome?_cons_of_isNone rfl, List.findSome?_append, List.findSome?_cons_of_isNone rfl,
      ← List.findSome?_append]
    exact hb
  simp only [State.instr, State.runs_of_fetches h, Bool.not_true, Bool.false_eq_true, if_false, h3, if_neg hv,
    State.fetchNote_of_fetches h]

/-- An instruction of a core that is not running has no effect. -/
theorem State.instr_of_not_runs {s : State} {c n : Nat} (h : s.runs c = false) (bad late : List (Option Trp)) (act : State → State) :
    s.instr c n bad late act = s := by simp [State.instr, h]

@[simp] theorem State.core_setCore_self (s : State) (c : Nat) (x : Core) : (s.setCore c x).core c = x := by
  simp [State.core, State.setCore]

theorem State.core_setCore_of_ne (s : State) {c d : Nat} (x : Core) (h : d ≠ c) : (s.setCore c x).core d = s.core d := by
  simp [State.core, State.setCore, smGet_smPut_of_ne _ _ _ h]

theorem State.modCore_eq (s : State) (c : Nat) (f : Core → Core) : s.modCore c f = s.setCore c (f (s.core c)) := rfl

@[simp] theorem State.setCore_setCore (s : State) (c : Nat) (x y : Core) : (s.setCore c x).setCore c y = s.setCore c y := by
  simp only [State.setCore, smPut_smPut]

/-- An instruction that changes only its core. -/
theorem State.coreOp_of_fetches {s : State} {c : CoreId} {n : Nat} (h : s.fetches c.num n = true) (bad : List (Option Trp))
    (hb : ∀ t ∈ bad, t = none) (f : Core → Core) : s.coreOp c n bad f = s.setCore c.num ((f (s.core c.num)).next n) := by
  rw [State.coreOp, State.instr_of_fetches h _ _ _ (by simpa using hb)]; rfl

/-- A load that is permitted and meets no error. -/
theorem State.loadOp_of_loads {s : State} {c : CoreId} {n : Nat} (rd : Nat) (a : Core → Word) (post : Core → Core)
    (h : s.fetches c.num n = true) (hl : s.loads c.num (a (s.core c.num)).toNat = true) :
    s.loadOp c n rd a post =
      s.setCore c.num (((post (s.core c.num)).put rd (s.coreWord c.num (a (s.core c.num)).toNat)).next n) := by
  simp only [State.loads, Bool.and_eq_true, decide_eq_true_eq] at hl
  unfold State.loadOp
  rw [State.instr_of_fetches h]
  · have : s.loadNote c.num (a (s.core c.num)).toNat = s := by
      unfold State.loadNote; split <;> simp [hl.2]
    rw [this]; rfl
  · intro t ht; simp at ht; rw [ht]; simpa using hl.1

/-- A store that nothing refuses, while the buffer has room. -/
theorem State.storeOp_of_stores {s : State} {c : CoreId} {n : Nat} (rd : Nat) (a : Core → Word) (post : Core → Core)
    (h : s.fetches c.num n = true) (hl : s.stores c.num (a (s.core c.num)).toNat = true) (hb : (s.core c.num).buf.length < 8) :
    s.storeOp c n rd a post = s.setCore c.num ((post { s.core c.num with
      buf := (s.core c.num).buf ++ [⟨(a (s.core c.num)).toNat, (s.core c.num).get rd⟩] }).next n) := by
  unfold State.storeOp
  rw [State.instr_of_fetches h]
  · unfold State.store
    rw [if_neg (by omega)]
    simp only [State.modCore_eq, State.core_setCore_self, State.setCore_setCore]
  · intro t ht; simp at ht; rw [ht]; simpa [State.stores] using hl

theorem Core.loopAt_of_none (x : Core) (p d : Nat) (l : List Nat) (h : ∀ k ∈ l, ¬ (x.acts k = true ∧ x.lpeOf k = p)) :
    x.loopAt p d l = (x, d) := by
  induction l with
  | nil => rfl
  | cons k l ih => rw [Core.loopAt, if_neg (h k List.mem_cons_self), ih (fun j hj => h j (List.mem_cons_of_mem _ hj))]

/-! ### Registers of a core -/

@[simp] theorem Core.get_put_self (x : Core) (i : Nat) (v : Word) : (x.put i v).get i = v := by
  have : (x.put i v).regKey i = x.regKey i := rfl
  simp only [Core.get, this]
  exact smGet_smPut_self _ _ _ _

theorem Core.regKey_inj (x : Core) {i j : Nat} (hi : i < 32) (hj : j < 32) (h : x.regKey i = x.regKey j) : i = j := by
  simp only [Core.regKey] at h
  split at h <;> split at h <;> (try split at h) <;> (try split at h) <;> omega

theorem Core.get_put_of_ne (x : Core) {i j : Nat} (v : Word) (hi : i < 32) (hj : j < 32) (h : i ≠ j) :
    (x.put j v).get i = x.get i := by
  have : (x.put j v).regKey i = x.regKey i := rfl
  simp only [Core.get, this]
  exact smGet_smPut_of_ne _ _ _ (fun e => h (x.regKey_inj hi hj e))

end Sys2Proof.Machine
end

