-- ==== Sys2Proof/Laws/Engine.lean ====
section
/-! SUPPORT. What the commands of the engines share: a command of a running domain, of a descriptor that waits, of a thread at
its instruction. -/

namespace Sys2Proof.Machine

theorem inDom_of_on {d : Dom} {s : State} (h : s.domOn d = true) (g : State → State) : inDom d g s = g s := by
  simp [inDom, h]

theorem inDom_of_off {d : Dom} {s : State} (h : s.domOn d = false) (g : State → State) : inDom d g s = s := by
  simp [inDom, h]

theorem State.when_true (s : State) (g : State → State) : s.when true g = g s := rfl
theorem State.when_false (s : State) (g : State → State) : s.when false g = s := rfl

/-- A command acts on the descriptor that waits for it. -/
theorem State.onReady_of_waits {s : State} {e op r i : Nat} {d : Desc} (h : s.waits e op r i d = true) (f : Desc → State → State) :
    s.onReady e op r i f = f d s := by
  simp only [State.waits, Bool.and_eq_true, decide_eq_true_eq, Bool.not_eq_true'] at h
  obtain ⟨⟨h1, h2, h3⟩, h4⟩ := h
  unfold State.onReady
  rw [h1]
  dsimp only
  rw [if_pos ⟨h2, h3, by simpa using h4⟩]

/-- Where no ready answer is kept, an action takes effect as its chapter says. -/
theorem State.actReady_of_ready {s : State} {e op r i : Nat} {d : Desc} (h : s.ready e op r i d = true) (undo f : Desc → State → State) :
    s.actReady e op r i undo f = f d s := by
  simp only [State.ready, Bool.and_eq_true, List.isEmpty_iff, decide_eq_true_eq, Bool.not_eq_true', List.all_eq_true] at h
  obtain ⟨⟨⟨⟨hw, hc⟩, hp⟩, hd⟩, hx⟩ := h
  have h1 : ∀ t, s.breaksPromise t = false := by
    intro t
    simp [State.breaksPromise, State.acked, hp, hc]
  have h2 : s.confSupersede d = s := by
    unfold State.confSupersede State.finishAll
    rw [List.filter_eq_nil_iff.mpr (fun x hm => by simp [hx x hm])]
    rfl
  rw [State.actReady, State.onReady_of_waits hw]
  simp [State.keepReady, h1, h2, State.unwarm, hd]

/-- A kept answer: the action as its chapter gives it, undone where it did not act; or the refusal. -/
theorem State.keepReady_cases (s : State) (d : Desc) (undo f : State → State) :
    (s.breaksPromise (f s) = false ∧ s.keepReady d undo f = (f s).unwarm d undo)
    ∨ (s.breaksPromise (f s) = true ∧ s.keepReady d undo f = (if d.warm then undo s else s).finish d stDenied 0) := by
  cases h : s.breaksPromise (f s) with
  | false => exact .inl ⟨rfl, by simp [State.keepReady, h]⟩
  | true => exact .inr ⟨rfl, by simp [State.keepReady, h]⟩

/-- A temperature that a command has told is what its readout shows, and the other readouts keep theirs. -/
theorem State.sensor_tell (s : State) (k i : Nat) (t : Word) : (s.tell k t).sensor k i = sextOf 18 t.toNat := by
  simp [State.sensor, State.tell, smFind_smInsert_self _ _ _ (smFind_smErase_self _ _)]

theorem State.sensor_tell_of_ne (s : State) {j k : Nat} (i : Nat) (t : Word) (h : j ≠ k) : (s.tell k t).sensor j i = s.sensor j i := by
  simp [State.sensor, State.tell, smFind_smInsert_of_ne _ _ h, smFind_smErase_of_ne _ h]

/-- A thread carries out the instruction at its PC. -/
theorem State.seqInstr_of_seqAt {s : State} {n op a v : Nat} (h : s.seqAt n op a v = true) (is : Nat → Bool) (hi : is op = true)
    (f : Nat → Nat → State → State) : s.seqInstr n is f = f a (if twoWords op then v else 0) (s.seqPast n op) := by
  simp only [State.seqAt, Bool.and_eq_true, Bool.or_eq_true, decide_eq_true_eq, Bool.not_eq_true'] at h
  obtain ⟨⟨⟨⟨h1, h2, h3, h4, h5⟩, h6⟩, h7⟩, h8⟩ := h
  have hw : (s.rd (seqKey (s.thrPc n % 8192))).toNat = op * 8192 + a := by
    rw [h3]; simp only [toWord, BitVec.toNat_ofNat]; omega
  have e1 : (op * 8192 + a) / 8192 = op := by omega
  have e2 : (op * 8192 + a) % 8192 = a := by omega
  have f1 : s.seqFetch (s.thrPc n) = some (op * 8192 + a) := by simp [State.seqFetch, h2, hw]
  have s1 : s.seqScrub (s.thrPc n) = s := by simp [State.seqScrub, h2]
  unfold State.seqInstr
  rw [if_neg (by simpa using h1)]
  simp only [f1, e1, e2, hi, s1]
  have g1 : (!isWait op && decide (8 ≤ (s.thr n).icnt)) = false := by
    rcases h7 with h7 | h7
    · simp [h7]
    · have : ¬ 8 ≤ (s.thr n).icnt := by omega
      simp [this]
  simp only [Bool.not_true, Bool.false_eq_true, if_false, g1, h6]
  cases hb : twoWords op with
  | false => simp [State.when, State.seqPast, hb]
  | true =>
    simp only [hb, Bool.true_eq_false, false_or] at h8
    have f2 : s.seqFetch (s.thrPc n + 1) = some v := by simp [State.seqFetch, h8.1, h8.2]
    have s2 : s.seqScrub (s.thrPc n + 1) = s := by simp [State.seqScrub, h8.1]
    simp [State.when, State.seqPast, hb, f2, s2]

end Sys2Proof.Machine
end

