-- ==== Sys2Proof/Laws/KeepOps.lean ====
section
/-! SUPPORT. What every operation and every command keeps: the canonical form of the register file and of the memories, and the queue. Each
operation has one lemma, from a state that `s0` leads to, to the state that the operation makes of it. -/

set_option linter.unusedTactic false
set_option linter.unreachableTactic false
set_option linter.unusedSimpArgs false

namespace Sys2Proof.Machine

/-- What every operation keeps. -/
def Keeps (s t : State) : Prop :=
  (RegFile.wf s.io = true → RegFile.wf t.io = true) ∧ (Memory.wf s.mem = true → Memory.wf t.mem = true) ∧ t.pending = s.pending

theorem Keeps.refl (s : State) : Keeps s s := ⟨id, id, rfl⟩

theorem Keeps.trans {a b c : State} (h : Keeps a b) (k : Keeps b c) : Keeps a c :=
  ⟨fun x => k.1 (h.1 x), fun x => k.2.1 (h.2.1 x), k.2.2.trans h.2.2⟩

/-- A change of neither the registers nor the memories nor the queue. -/
theorem Keeps.lit {s0 s : State} {snap : SMap Word} {rdata : Word} {ecc : SMap Nat} {descs : List Desc} {rng : Rng} {threads : SMap Thread} {zone :
    ZoneT} {ocfg : SMap Nat} {hsc : SMap HscCh} {mot : SMap MotT} {vlv : SMap VlvT} {bank : SMap VlvB} {lux : SMap LuxT} {loops : SMap ClLoop} {px
        : SMap PxCh} {thm : Thm} {flt : Flt} {pw : Pw} {zsw : Zsw} {eth : Eth} {net : Net} {herd : Herd} {inp : Inp} {acc : Immo} {memc : Mem} {img
            : Img} {brc : Brc} {cores : SMap Core} {zt : Nat} {free : Nat}
    (h : Keeps s0 s) : Keeps s0 (State.mk s.pending s.io snap rdata s.mem ecc descs rng threads zone ocfg hsc mot vlv bank lux loops px thm flt pw
        zsw eth net herd inp acc memc img brc cores zt free) := h

theorem Keeps.io {s0 s : State} {snap : SMap Word} {rdata : Word} {ecc : SMap Nat} {descs : List Desc} {rng : Rng} {threads : SMap Thread} {zone :
    ZoneT} {ocfg : SMap Nat} {hsc : SMap HscCh} {mot : SMap MotT} {vlv : SMap VlvT} {bank : SMap VlvB} {lux : SMap LuxT} {loops : SMap ClLoop} {px
        : SMap PxCh} {thm : Thm} {flt : Flt} {pw : Pw} {zsw : Zsw} {eth : Eth} {net : Net} {herd : Herd} {inp : Inp} {acc : Immo} {memc : Mem} {img
            : Img} {brc : Brc} {cores : SMap Core} {zt : Nat} {free : Nat}
    {io : SMap Word} (h : Keeps s0 s) (k : RegFile.wf s.io = true → RegFile.wf io = true) :
    Keeps s0 (State.mk s.pending io snap rdata s.mem ecc descs rng threads zone ocfg hsc mot vlv bank lux loops px thm flt pw zsw eth net herd inp
        acc memc img brc cores zt free) := ⟨fun x => k (h.1 x), h.2⟩

theorem Keeps.mem {s0 s : State} {snap : SMap Word} {rdata : Word} {ecc : SMap Nat} {descs : List Desc} {rng : Rng} {threads : SMap Thread} {zone :
    ZoneT} {ocfg : SMap Nat} {hsc : SMap HscCh} {mot : SMap MotT} {vlv : SMap VlvT} {bank : SMap VlvB} {lux : SMap LuxT} {loops : SMap ClLoop} {px
        : SMap PxCh} {thm : Thm} {flt : Flt} {pw : Pw} {zsw : Zsw} {eth : Eth} {net : Net} {herd : Herd} {inp : Inp} {acc : Immo} {memc : Mem} {img
            : Img} {brc : Brc} {cores : SMap Core} {zt : Nat} {free : Nat}
    {mem : SMap Word} (h : Keeps s0 s) (k : Memory.wf s.mem = true → Memory.wf mem = true) :
    Keeps s0 (State.mk s.pending s.io snap rdata mem ecc descs rng threads zone ocfg hsc mot vlv bank lux loops px thm flt pw zsw eth net herd inp
        acc memc img brc cores zt free) := ⟨h.1, fun x => k (h.2.1 x), h.2.2⟩

theorem Keeps.all {s0 s : State} {snap : SMap Word} {rdata : Word} {ecc : SMap Nat} {descs : List Desc} {rng : Rng} {threads : SMap Thread} {zone :
    ZoneT} {ocfg : SMap Nat} {hsc : SMap HscCh} {mot : SMap MotT} {vlv : SMap VlvT} {bank : SMap VlvB} {lux : SMap LuxT} {loops : SMap ClLoop} {px
        : SMap PxCh} {thm : Thm} {flt : Flt} {pw : Pw} {zsw : Zsw} {eth : Eth} {net : Net} {herd : Herd} {inp : Inp} {acc : Immo} {memc : Mem} {img
            : Img} {brc : Brc} {cores : SMap Core} {zt : Nat} {free : Nat}
    {io mem : SMap Word} (h : Keeps s0 s) (hio : RegFile.wf io = true) (k : Memory.wf s.mem = true → Memory.wf mem = true) :
    Keeps s0 (State.mk s.pending io snap rdata mem ecc descs rng threads zone ocfg hsc mot vlv bank lux loops px thm flt pw zsw eth net herd inp
        acc memc img brc cores zt free) :=
  ⟨fun _ => hio, fun x => k (h.2.1 x), h.2.2⟩

theorem Keeps.foldl {s0 : State} {α : Type} {s : State} (hs : Keeps s0 s) (l : List α) (g : State → α → State)
    (hg : ∀ t a, Keeps s0 t → Keeps s0 (g t a)) : Keeps s0 (l.foldl g s) := by
  induction l generalizing s with
  | nil => exact hs
  | cons a l ih => exact ih (hg s a hs)


theorem State.setReg_keeps {s0 s : State} (h : Keeps s0 s) (k v : Nat) : Keeps s0 (s.setReg k v) :=
  Keeps.io h (fun x => smWf_smPut _ _ _ _ x)

theorem State.setFld_keeps {s0 s : State} (hs : Keeps s0 s) (f : FRef) (v : Nat) : Keeps s0 (State.setFld s f v) := by
  unfold State.setFld
  with_reducible repeat' (first | assumption | apply State.setReg_keeps | intro _ | split | dsimp only)

theorem State.raise_keeps {s0 s : State} (hs : Keeps s0 s) (f : FRef) : Keeps s0 (State.raise s f) := by
  unfold State.raise
  with_reducible repeat' (first | assumption | apply State.setFld_keeps | intro _ | split | dsimp only)

theorem State.raiseIf_keeps {s0 s : State} (hs : Keeps s0 s) (c : Bool) (f : FRef) : Keeps s0 (State.raiseIf s c f) := by
  unfold State.raiseIf
  with_reducible repeat' (first | assumption | apply State.raise_keeps | intro _ | split | dsimp only)

theorem State.countBy_keeps {s0 s : State} (hs : Keeps s0 s) (f : FRef) (n : Nat) : Keeps s0 (State.countBy s f n) := by
  unfold State.countBy
  with_reducible repeat' (first | assumption | apply State.setFld_keeps | intro _ | split | dsimp only)

theorem State.count_keeps {s0 s : State} (hs : Keeps s0 s) (f : FRef) : Keeps s0 (State.count s f) := by
  unfold State.count
  with_reducible repeat' (first | assumption | apply State.countBy_keeps | intro _ | split | dsimp only)

theorem State.setBitF_keeps {s0 s : State} (hs : Keeps s0 s) (f : FRef) (i : Nat) (b : Bool) : Keeps s0 (State.setBitF s f i b) := by
  unfold State.setBitF
  with_reducible repeat' (first | assumption | apply State.setFld_keeps | intro _ | split | dsimp only)

theorem State.when_keeps {s0 s : State} (hs : Keeps s0 s) (c : Bool) (g : State → State) (hg : ∀ (a0 : State), Keeps s0 a0 → Keeps s0 (g a0)) :
    Keeps s0 (State.when s c g) := by
  unfold State.when
  with_reducible repeat' (first | assumption | apply hg | intro _ | split | dsimp only)

theorem State.each_keeps {s0 : State} {α : Type} {s : State} (hs : Keeps s0 s) (l : List α) (g : α → State → State)
    (hg : ∀ a t, Keeps s0 t → Keeps s0 (g a t)) : Keeps s0 (s.each l g) := by
  induction l generalizing s with
  | nil => exact hs
  | cons a l ih => exact ih (hg a s hs)

theorem State.drew_keeps {s0 s : State} (hs : Keeps s0 s) : Keeps s0 (State.drew s) := by
  unfold State.drew
  with_reducible repeat' (first | assumption | (apply Keeps.lit; assumption) | intro _ | split | dsimp only)

theorem State.modFlt_keeps {s0 s : State} (hs : Keeps s0 s) (f : Flt → Flt) : Keeps s0 (State.modFlt s f) := by
  unfold State.modFlt
  with_reducible repeat' (first | assumption | (apply Keeps.lit; assumption) | intro _ | split | dsimp only)

theorem State.modRng_keeps {s0 s : State} (hs : Keeps s0 s) (f : Rng → Rng) : Keeps s0 (State.modRng s f) := by
  unfold State.modRng
  with_reducible repeat' (first | assumption | (apply Keeps.lit; assumption) | intro _ | split | dsimp only)

theorem State.modPw_keeps {s0 s : State} (hs : Keeps s0 s) (f : Pw → Pw) : Keeps s0 (State.modPw s f) := by
  unfold State.modPw
  with_reducible repeat' (first | assumption | (apply Keeps.lit; assumption) | intro _ | split | dsimp only)

theorem State.modImg_keeps {s0 s : State} (hs : Keeps s0 s) (f : Img → Img) : Keeps s0 (State.modImg s f) := by
  unfold State.modImg
  with_reducible repeat' (first | assumption | (apply Keeps.lit; assumption) | intro _ | split | dsimp only)

theorem State.modBrc_keeps {s0 s : State} (hs : Keeps s0 s) (f : Brc → Brc) : Keeps s0 (State.modBrc s f) := by
  unfold State.modBrc
  with_reducible repeat' (first | assumption | (apply Keeps.lit; assumption) | intro _ | split | dsimp only)

theorem inDom_keeps {s0 s : State} (hs : Keeps s0 s) (d : Dom) (g : State → State) (hg : ∀ (a0 : State), Keeps s0 a0 → Keeps s0 (g a0)) : Keeps s0
    (inDom d g s) := by
  unfold inDom
  with_reducible repeat' (first | assumption | apply hg | intro _ | split | dsimp only)

theorem State.setCore_keeps {s0 s : State} (hs : Keeps s0 s) (c : Nat) (x : Core) : Keeps s0 (State.setCore s c x) := by
  unfold State.setCore
  with_reducible repeat' (first | assumption | (apply Keeps.lit; assumption) | intro _ | split | dsimp only)

theorem State.modCore_keeps {s0 s : State} (hs : Keeps s0 s) (c : Nat) (f : Core → Core) : Keeps s0 (State.modCore s c f) := by
  unfold State.modCore
  with_reducible repeat' (first | assumption | apply State.setCore_keeps | intro _ | split | dsimp only)

theorem State.wr_keeps {s0 s : State} (h : Keeps s0 s) (k : Nat) (v : Word) : Keeps s0 (s.wr k v) :=
  Keeps.mem h (fun x => smWf_smPut _ _ _ _ x)

theorem State.clearMem_keeps {s0 s : State} (h : Keeps s0 s) (lo hi : Nat) : Keeps s0 (s.clearMem lo hi) :=
  Keeps.mem h (fun x => smWf_smKeep _ _ _ x)

theorem State.setBankSt_keeps {s0 s : State} (hs : Keeps s0 s) (k : Nat) (v : Nat) : Keeps s0 (State.setBankSt s k v) := by
  unfold State.setBankSt
  with_reducible repeat' (first | assumption | apply State.setReg_keeps | intro _ | split | dsimp only)

theorem State.putBytes_keeps {s0 s : State} (hs : Keeps s0 s) (a : Nat) (bs : List Byte) : Keeps s0 (State.putBytes s a bs) := by
  unfold State.putBytes
  with_reducible repeat' (first | assumption | apply State.each_keeps | apply State.wr_keeps | intro _ | split | dsimp only)

theorem State.setTc10_keeps {s0 s : State} (hs : Keeps s0 s) (p : Nat) (v : Nat) : Keeps s0 (State.setTc10 s p v) := by
  unfold State.setTc10
  with_reducible repeat' (first | assumption | apply State.setFld_keeps | intro _ | split | dsimp only)

theorem State.latchWake_keeps {s0 s : State} (hs : Keeps s0 s) (code : Nat) (d : Nat) : Keeps s0 (State.latchWake s code d) := by
  unfold State.latchWake
  with_reducible repeat' first
    | assumption | apply State.setFld_keeps | apply State.setBitF_keeps | apply State.when_keeps | apply State.modPw_keeps | intro _ | split
    | dsimp only

theorem State.traceA_keeps {s0 s : State} (hs : Keeps s0 s) (b : Nat) (typ : Nat) (code : Nat) (w1 : Nat) (t : Nat) : Keeps s0 (State.traceA s b
    typ code w1 t) := by
  unfold State.traceA
  with_reducible repeat' (first | assumption | apply State.modFlt_keeps | intro _ | split | dsimp only)

theorem State.shedOne_keeps {s0 s : State} (hs : Keeps s0 s) (b : Nat) (classC : Bool) : Keeps s0 (State.shedOne s b classC) := by
  unfold State.shedOne
  with_reducible repeat' first
    | assumption | apply State.raise_keeps | apply State.count_keeps | apply State.modFlt_keeps | intro _ | split | dsimp only

theorem State.shedWaiting_keeps {s0 s : State} (hs : Keeps s0 s) : Keeps s0 (State.shedWaiting s) := by
  unfold State.shedWaiting
  with_reducible repeat' first
    | assumption | apply State.setFld_keeps | apply State.each_keeps | apply State.modFlt_keeps | apply State.shedOne_keeps | intro _ | split
    | dsimp only

theorem State.fifoPut_keeps {s0 s : State} (hs : Keeps s0 s) (b : Nat) (lim : Nat) (r : Spoor) : Keeps s0 (State.fifoPut s b lim r) := by
  unfold State.fifoPut
  with_reducible repeat' first
    | assumption | apply State.setFld_keeps | apply State.modFlt_keeps | apply State.shedOne_keeps | intro _ | split | dsimp only

theorem State.traceB_keeps {s0 s : State} (hs : Keeps s0 s) (b : Nat) (typ : Nat) (code : Nat) (w1 : Nat) (t : Nat) : Keeps s0 (State.traceB s b
    typ code w1 t) := by
  unfold State.traceB
  with_reducible repeat' (first | assumption | apply State.fifoPut_keeps | intro _ | split | dsimp only)

theorem State.traceC_keeps {s0 s : State} (hs : Keeps s0 s) (b : Nat) (typ : Nat) (code : Nat) (w1 : Nat) (t : Nat) : Keeps s0 (State.traceC s b
    typ code w1 t) := by
  unfold State.traceC
  with_reducible repeat' (first | assumption | apply State.fifoPut_keeps | intro _ | split | dsimp only)

theorem State.driveFltn_keeps {s0 s : State} (hs : Keeps s0 s) : Keeps s0 (State.driveFltn s) := by
  unfold State.driveFltn
  with_reducible repeat' (first | assumption | apply State.setFld_keeps | intro _ | split | dsimp only)

theorem State.refreshFlt_keeps {s0 s : State} (hs : Keeps s0 s) (b : Nat) : Keeps s0 (State.refreshFlt s b) := by
  unfold State.refreshFlt
  with_reducible repeat' first
    | assumption | apply State.setFld_keeps | apply State.setBitF_keeps | apply State.driveFltn_keeps | intro _ | split | dsimp only

theorem State.firstFault_keeps {s0 s : State} (hs : Keeps s0 s) (r : FRec) : Keeps s0 (State.firstFault s r) := by
  unfold State.firstFault
  with_reducible repeat' (first | assumption | apply State.setReg_keeps | intro _ | split | dsimp only)

theorem State.logEntry_keeps {s0 s : State} (hs : Keeps s0 s) (r : FRec) : Keeps s0 (State.logEntry s r) := by
  unfold State.logEntry
  with_reducible repeat' first
    | assumption | apply State.setReg_keeps | apply State.setFld_keeps | apply State.count_keeps | intro _ | split | dsimp only

theorem State.escalate_keeps {s0 s : State} (hs : Keeps s0 s) (r : FRec) : Keeps s0 (State.escalate s r) := by
  unfold State.escalate
  with_reducible repeat' first
    | assumption | apply State.count_keeps | apply State.when_keeps | apply State.modFlt_keeps | intro _ | split | dsimp only

theorem State.logCore_keeps {s0 s : State} (hs : Keeps s0 s) (r : FRec) : Keeps s0 (State.logCore s r) := by
  unfold State.logCore
  with_reducible repeat' first
    | assumption | apply State.setFld_keeps | apply State.setBitF_keeps | apply State.when_keeps | apply State.traceA_keeps
    | apply State.refreshFlt_keeps | apply State.firstFault_keeps | apply State.logEntry_keeps | apply State.escalate_keeps | intro _ | split
    | dsimp only

theorem State.logRecAt_keeps {s0 s : State} (hs : Keeps s0 s) (b : Nat) (k : Nat) (inst : Nat) (t : Nat) (fnc : Bool) : Keeps s0 (State.logRecAt s
    b k inst t fnc) := by
  unfold State.logRecAt
  with_reducible repeat' first
    | assumption | apply State.when_keeps | apply State.latchWake_keeps | apply State.logCore_keeps | intro _ | split | dsimp only

theorem State.logRecord_keeps {s0 s : State} (hs : Keeps s0 s) (b : Nat) (k : Nat) (inst : Nat) (fnc : Bool) : Keeps s0 (State.logRecord s b k inst
    fnc) := by
  unfold State.logRecord
  with_reducible repeat' (first | assumption | apply State.logRecAt_keeps | intro _ | split | dsimp only)

theorem State.txRelease_keeps {s0 s : State} (hs : Keeps s0 s) (o : Nat) (last : Nat) : Keeps s0 (State.txRelease s o last) := by
  unfold State.txRelease
  with_reducible repeat' first
    | assumption | apply State.setReg_keeps | apply State.setFld_keeps | apply State.modRng_keeps | intro _ | split | dsimp only

theorem State.markFenced_keeps {s0 s : State} (hs : Keeps s0 s) (k : Nat) : Keeps s0 (State.markFenced s k) := by
  unfold State.markFenced
  with_reducible repeat' (first | assumption | apply State.modFlt_keeps | apply State.modRng_keeps | intro _ | split | dsimp only)

theorem State.ringIrq_keeps {s0 s : State} (hs : Keeps s0 s) (r : Nat) : Keeps s0 (State.ringIrq s r) := by
  unfold State.ringIrq
  with_reducible repeat' (first | assumption | apply State.setBitF_keeps | intro _ | split | dsimp only)

theorem State.setDescs_keeps {s0 s : State} (hs : Keeps s0 s) (l : List Desc) : Keeps s0 (State.setDescs s l) := by
  unfold State.setDescs
  with_reducible repeat' (first | assumption | (apply Keeps.lit; assumption) | intro _ | split | dsimp only)

theorem State.setProvp_keeps {s0 s : State} (hs : Keeps s0 s) (e : Nat) (t : Nat) (b : Bool) : Keeps s0 (State.setProvp s e t b) := by
  unfold State.setProvp
  with_reducible repeat' (first | assumption | apply State.setFld_keeps | intro _ | split | dsimp only)

theorem State.leave_keeps {s0 s : State} (hs : Keeps s0 s) (d : Desc) : Keeps s0 (State.leave s d) := by
  unfold State.leave
  with_reducible repeat' (first | assumption | apply State.txRelease_keeps | apply State.setProvp_keeps | intro _ | split | dsimp only)

theorem State.ringStop_keeps {s0 s : State} (hs : Keeps s0 s) (r : Nat) : Keeps s0 (State.ringStop s r) := by
  unfold State.ringStop
  with_reducible repeat' first
    | assumption | apply State.setFld_keeps | apply State.each_keeps | apply State.logRecord_keeps | apply State.ringIrq_keeps
    | apply State.setDescs_keeps | apply State.leave_keeps | intro _ | split | dsimp only

theorem State.memFence_keeps {s0 s : State} (hs : Keeps s0 s) (k : Nat) : Keeps s0 (State.memFence s k) := by
  unfold State.memFence
  with_reducible repeat' first
    | assumption | apply State.each_keeps | apply State.setBankSt_keeps | apply State.ringStop_keeps | intro _ | split | dsimp only

theorem State.fenceNote_keeps {s0 s : State} (hs : Keeps s0 s) (b : Nat) (i : Nat) : Keeps s0 (State.fenceNote s b i) := by
  unfold State.fenceNote
  with_reducible repeat' (first | assumption | apply State.traceA_keeps | apply State.refreshFlt_keeps | intro _ | split | dsimp only)

theorem State.eccRecord_keeps {s0 s : State} (hs : Keeps s0 s) (k : Nat) (u : Nat) : Keeps s0 (State.eccRecord s k u) := by
  unfold State.eccRecord
  with_reducible repeat' first
    | assumption | apply State.when_keeps | apply State.modFlt_keeps | apply State.logRecord_keeps | apply State.markFenced_keeps
    | apply State.memFence_keeps | apply State.fenceNote_keeps | intro _ | split | dsimp only

theorem State.eccSingle_keeps {s0 s : State} (hs : Keeps s0 s) (k : Nat) : Keeps s0 (State.eccSingle s k) := by
  unfold State.eccSingle
  with_reducible repeat' first
    | assumption | apply State.count_keeps | apply State.when_keeps | apply State.eccRecord_keeps | intro _ | split | dsimp only

theorem State.eccDouble_keeps {s0 s : State} (hs : Keeps s0 s) (k : Nat) : Keeps s0 (State.eccDouble s k) := by
  unfold State.eccDouble
  with_reducible repeat' first
    | assumption | apply State.setReg_keeps | apply State.setFld_keeps | apply State.count_keeps | apply State.eccRecord_keeps | intro _ | split
    | dsimp only

theorem State.eccNote_keeps {s0 s : State} (hs : Keeps s0 s) (k : Nat) : Keeps s0 (State.eccNote s k) := by
  unfold State.eccNote
  with_reducible repeat' (first | assumption | apply State.eccSingle_keeps | apply State.eccDouble_keeps | intro _ | split | dsimp only)

theorem State.portRead_keeps {s0 s : State} (hs : Keeps s0 s) (a : Nat) (n : Nat) : Keeps s0 (State.portRead s a n) := by
  unfold State.portRead
  with_reducible repeat' (first | assumption | apply State.each_keeps | apply State.eccNote_keeps | intro _ | split | dsimp only)

theorem State.readUntil_keeps {s0 s : State} (hs : Keeps s0 s) (a : Nat) (n : Nat) : Keeps s0 (State.readUntil s a n) := by
  unfold State.readUntil
  with_reducible repeat' (first | assumption | apply State.portRead_keeps | intro _ | split | dsimp only)

theorem State.writeW7_keeps {s0 s : State} (hs : Keeps s0 s) (a : Nat) (st : Nat) (detail : Nat) : Keeps s0 (State.writeW7 s a st detail) := by
  unfold State.writeW7
  with_reducible repeat' first
    | assumption | apply State.when_keeps | apply State.wr_keeps | apply State.eccSingle_keeps | intro _ | split | dsimp only

theorem State.gatherDone_keeps {s0 s : State} (hs : Keeps s0 s) (c : HeldC) (w1 : Word) (w7 : Word) : Keeps s0 (State.gatherDone s c w1 w7) := by
  unfold State.gatherDone
  with_reducible repeat' (first | assumption | apply State.modRng_keeps | intro _ | split | dsimp only)

theorem State.dropDesc_keeps {s0 s : State} (hs : Keeps s0 s) (d : Desc) : Keeps s0 (State.dropDesc s d) := by
  unfold State.dropDesc
  with_reducible repeat' first
    | assumption | apply State.when_keeps | apply State.setDescs_keeps | apply State.setProvp_keeps | simp only [id] | intro _ | split | dsimp only

theorem State.writeDone_keeps {s0 s : State} (hs : Keeps s0 s) (c : HeldC) : Keeps s0 (State.writeDone s c) := by
  unfold State.writeDone
  with_reducible repeat' first
    | assumption | apply State.when_keeps | apply State.traceB_keeps | apply State.ringIrq_keeps | apply State.ringStop_keeps
    | apply State.writeW7_keeps | apply State.gatherDone_keeps | intro _ | split | dsimp only

theorem State.finish_keeps {s0 s : State} (hs : Keeps s0 s) (d : Desc) (st : Nat) (detail : Nat) : Keeps s0 (State.finish s d st detail) := by
  unfold State.finish
  with_reducible repeat' first
    | assumption | apply State.modPw_keeps | apply State.dropDesc_keeps | apply State.writeDone_keeps | intro _ | split | dsimp only

theorem State.finishDone_keeps {s0 s : State} (hs : Keeps s0 s) (d : Desc) (detail : Nat) : Keeps s0 (State.finishDone s d detail) := by
  unfold State.finishDone
  with_reducible repeat' (first | assumption | apply State.finish_keeps | intro _ | split | dsimp only)

theorem State.setDesc_keeps {s0 s : State} (hs : Keeps s0 s) (d : Desc) : Keeps s0 (State.setDesc s d) := by
  unfold State.setDesc
  with_reducible repeat' (first | assumption | apply State.setDescs_keeps | simp only [id] | intro _ | split | dsimp only)

theorem State.finishAll_keeps {s0 s : State} (hs : Keeps s0 s) (p : Desc → Bool) (st : Nat) : Keeps s0 (State.finishAll s p st) := by
  unfold State.finishAll
  with_reducible repeat' (first | assumption | apply State.each_keeps | apply State.finish_keeps | intro _ | split | dsimp only)

theorem State.setThr_keeps {s0 s : State} (hs : Keeps s0 s) (n : Nat) (t : Thread) : Keeps s0 (State.setThr s n t) := by
  unfold State.setThr
  with_reducible repeat' (first | assumption | (apply Keeps.lit; assumption) | intro _ | split | dsimp only)

theorem State.modThr_keeps {s0 s : State} (hs : Keeps s0 s) (n : Nat) (f : Thread → Thread) : Keeps s0 (State.modThr s n f) := by
  unfold State.modThr
  with_reducible repeat' (first | assumption | apply State.setThr_keeps | intro _ | split | dsimp only)

theorem State.setThrSt_keeps {s0 s : State} (hs : Keeps s0 s) (n : Nat) (v : Nat) : Keeps s0 (State.setThrSt s n v) := by
  unfold State.setThrSt
  with_reducible repeat' (first | assumption | apply State.setFld_keeps | intro _ | split | dsimp only)

theorem State.setThrPc_keeps {s0 s : State} (hs : Keeps s0 s) (n : Nat) (v : Nat) : Keeps s0 (State.setThrPc s n v) := by
  unfold State.setThrPc
  with_reducible repeat' (first | assumption | apply State.setFld_keeps | intro _ | split | dsimp only)

theorem State.setOval_keeps {s0 s : State} (hs : Keeps s0 s) (n : Nat) (d : Nat) : Keeps s0 (State.setOval s n d) := by
  unfold State.setOval
  with_reducible repeat' (first | assumption | apply State.setFld_keeps | intro _ | split | dsimp only)

theorem State.stopThread_keeps {s0 s : State} (hs : Keeps s0 s) (n : Nat) : Keeps s0 (State.stopThread s n) := by
  unfold State.stopThread
  with_reducible repeat' (first | assumption | apply State.setThr_keeps | apply State.setThrSt_keeps | intro _ | split | dsimp only)

theorem State.startThread_keeps {s0 s : State} (hs : Keeps s0 s) (n : Nat) (addr : Nat) (q0 : Nat) (q1 : Nat) (q2 : Nat) : Keeps s0
    (State.startThread s n addr q0 q1 q2) := by
  unfold State.startThread
  with_reducible repeat' first
    | assumption | apply State.setThr_keeps | apply State.setThrSt_keeps | apply State.setThrPc_keeps | intro _ | split | dsimp only

theorem State.seqScrub_keeps {s0 s : State} (hs : Keeps s0 s) (a : Nat) : Keeps s0 (State.seqScrub s a) := by
  unfold State.seqScrub
  with_reducible repeat' (first | assumption | apply State.wr_keeps | intro _ | split | dsimp only)

theorem State.entryScrub_keeps {s0 s : State} (hs : Keeps s0 s) (n : Nat) (e : Nat) : Keeps s0 (State.entryScrub s n e) := by
  unfold State.entryScrub
  with_reducible repeat' (first | assumption | apply State.seqScrub_keeps | intro _ | split | dsimp only)

theorem State.seqEvent_keeps {s0 s : State} (hs : Keeps s0 s) (n : Nat) (k : Nat) : Keeps s0 (State.seqEvent s n k) := by
  unfold State.seqEvent
  with_reducible repeat' (first | assumption | (apply Keeps.lit; assumption) | apply State.setThr_keeps | intro _ | split | dsimp only)

theorem State.protEvent_keeps {s0 s : State} (hs : Keeps s0 s) (n : Nat) : Keeps s0 (State.protEvent s n) := by
  unfold State.protEvent
  with_reducible repeat' (first | assumption | apply State.seqEvent_keeps | intro _ | split | dsimp only)

theorem State.senseEvent_keeps {s0 s : State} (hs : Keeps s0 s) (n : Nat) : Keeps s0 (State.senseEvent s n) := by
  unfold State.senseEvent
  with_reducible repeat' (first | assumption | apply State.when_keeps | apply State.seqEvent_keeps | intro _ | split | dsimp only)

theorem State.startDesc_keeps {s0 s : State} (hs : Keeps s0 s) (d : Desc) : Keeps s0 (State.startDesc s d) := by
  unfold State.startDesc
  with_reducible repeat' (first | assumption | apply State.setDesc_keeps | intro _ | split | dsimp only)

theorem State.setTrip_keeps {s0 s : State} (hs : Keeps s0 s) (o : Nat) (b : Bool) : Keeps s0 (State.setTrip s o b) := by
  unfold State.setTrip
  with_reducible repeat' (first | assumption | apply State.setFld_keeps | apply State.setBitF_keeps | intro _ | split | dsimp only)

theorem State.wireReset_keeps {s0 s : State} (hs : Keeps s0 s) (o : Nat) : Keeps s0 (State.wireReset s o) := by
  unfold State.wireReset
  with_reducible repeat' (first | assumption | apply State.setTrip_keeps | intro _ | split | dsimp only)

theorem State.onReady_keeps {s0 s : State} (hs : Keeps s0 s) (e : Nat) (op : Nat) (r : Nat) (i : Nat) (f : Desc → State → State) (hf : ∀ (a0 :
    Desc) (a1 : State), Keeps s0 a1 → Keeps s0 (f a0 a1)) : Keeps s0 (State.onReady s e op r i f) := by
  unfold State.onReady
  with_reducible repeat' (first | assumption | apply hf | intro _ | split | dsimp only)

theorem State.provEnd_keeps {s0 s : State} (hs : Keeps s0 s) (e : Nat) (t : Nat) (st : Nat) (detail : Nat) (cnt : Option FRef) : Keeps s0
    (State.provEnd s e t st detail cnt) := by
  unfold State.provEnd
  with_reducible repeat' (first | assumption | apply State.count_keeps | apply State.finish_keeps | intro _ | split | dsimp only)

theorem State.modZsw_keeps {s0 s : State} (hs : Keeps s0 s) (f : Zsw → Zsw) : Keeps s0 (State.modZsw s f) := by
  unfold State.modZsw
  with_reducible repeat' (first | assumption | (apply Keeps.lit; assumption) | intro _ | split | dsimp only)

theorem State.modEth_keeps {s0 s : State} (hs : Keeps s0 s) (f : Eth → Eth) : Keeps s0 (State.modEth s f) := by
  unfold State.modEth
  with_reducible repeat' (first | assumption | (apply Keeps.lit; assumption) | intro _ | split | dsimp only)

theorem State.setZQueue_keeps {s0 s : State} (hs : Keeps s0 s) (p : Nat) (q : Nat) (l : List ZEntry) : Keeps s0 (State.setZQueue s p q l) := by
  unfold State.setZQueue
  with_reducible repeat' (first | assumption | apply State.modZsw_keeps | intro _ | split | dsimp only)

theorem State.zCounts_keeps {s0 s : State} (hs : Keeps s0 s) (p : Nat) (q : Nat) : Keeps s0 (State.zCounts s p q) := by
  unfold State.zCounts
  with_reducible repeat' (first | assumption | apply State.setFld_keeps | intro _ | split | dsimp only)

theorem State.zRelease_keeps {s0 s : State} (hs : Keeps s0 s) (i : Nat) : Keeps s0 (State.zRelease s i) := by
  unfold State.zRelease
  with_reducible repeat' (first | assumption | apply State.setFld_keeps | apply State.modZsw_keeps | intro _ | split | dsimp only)

theorem State.zPop_keeps {s0 s : State} (hs : Keeps s0 s) (p : Nat) (q : Nat) : Keeps s0 (State.zPop s p q) := by
  unfold State.zPop
  with_reducible repeat' (first | assumption | apply State.setZQueue_keeps | apply State.zCounts_keeps | intro _ | split | dsimp only)

theorem State.zPurge_keeps {s0 s : State} (hs : Keeps s0 s) (p : Nat) (q : Nat) : Keeps s0 (State.zPurge s p q) := by
  unfold State.zPurge
  with_reducible repeat' first
    | assumption | apply State.each_keeps | apply State.zRelease_keeps | apply State.zPop_keeps | intro _ | split | dsimp only

theorem State.zEvt_keeps {s0 s : State} (hs : Keeps s0 s) (p : Nat) (i : Nat) : Keeps s0 (State.zEvt s p i) := by
  unfold State.zEvt
  with_reducible repeat' (first | assumption | apply State.setBitF_keeps | intro _ | split | dsimp only)

theorem State.zToFlush_keeps {s0 s : State} (hs : Keeps s0 s) (p : Nat) : Keeps s0 (State.zToFlush s p) := by
  unfold State.zToFlush
  with_reducible repeat' (first | assumption | apply State.setFld_keeps | apply State.zEvt_keeps | intro _ | split | dsimp only)

theorem State.zAbandon_keeps {s0 s : State} (hs : Keeps s0 s) (p : Nat) : Keeps s0 (State.zAbandon s p) := by
  unfold State.zAbandon
  with_reducible repeat' first
    | assumption | apply State.count_keeps | apply State.modZsw_keeps | apply State.zRelease_keeps | intro _ | split | dsimp only

theorem State.zDisable_keeps {s0 s : State} (hs : Keeps s0 s) (p : Nat) : Keeps s0 (State.zDisable s p) := by
  unfold State.zDisable
  with_reducible repeat' (first | assumption | apply State.zToFlush_keeps | apply State.zAbandon_keeps | intro _ | split | dsimp only)

theorem State.phyDown_keeps {s0 s : State} (hs : Keeps s0 s) (p : Nat) : Keeps s0 (State.phyDown s p) := by
  unfold State.phyDown
  with_reducible repeat' first
    | assumption | apply State.setFld_keeps | apply State.setBitF_keeps | apply State.when_keeps | intro _ | split | dsimp only

theorem State.ethFence_keeps {s0 s : State} (hs : Keeps s0 s) (p : Nat) : Keeps s0 (State.ethFence s p) := by
  unfold State.ethFence
  with_reducible repeat' first
    | assumption | apply State.setFld_keeps | apply State.when_keeps | apply State.setTc10_keeps | apply State.zDisable_keeps
    | apply State.phyDown_keeps | intro _ | split | dsimp only

theorem State.ethUnfence_keeps {s0 s : State} (hs : Keeps s0 s) (p : Nat) : Keeps s0 (State.ethUnfence s p) := by
  unfold State.ethUnfence
  with_reducible repeat' first
    | assumption | apply State.setFld_keeps | apply State.when_keeps | apply State.setTc10_keeps | intro _ | split | dsimp only

theorem State.modNet_keeps {s0 s : State} (hs : Keeps s0 s) (f : Net → Net) : Keeps s0 (State.modNet s f) := by
  unfold State.modNet
  with_reducible repeat' (first | assumption | (apply Keeps.lit; assumption) | intro _ | split | dsimp only)

theorem State.setNch_keeps {s0 s : State} (hs : Keeps s0 s) (c : Nat) (x : NetCh) : Keeps s0 (State.setNch s c x) := by
  unfold State.setNch
  with_reducible repeat' (first | assumption | apply State.modNet_keeps | intro _ | split | dsimp only)

theorem State.modNch_keeps {s0 s : State} (hs : Keeps s0 s) (c : Nat) (f : NetCh → NetCh) : Keeps s0 (State.modNch s c f) := by
  unfold State.modNch
  with_reducible repeat' (first | assumption | apply State.setNch_keeps | intro _ | split | dsimp only)

theorem State.setChReq_keeps {s0 s : State} (hs : Keeps s0 s) (c : Nat) (v : Nat) : Keeps s0 (State.setChReq s c v) := by
  unfold State.setChReq
  with_reducible repeat' (first | assumption | apply State.setFld_keeps | intro _ | split | dsimp only)

theorem State.cEvent_keeps {s0 s : State} (hs : Keeps s0 s) (c : Nat) (i : Nat) : Keeps s0 (State.cEvent s c i) := by
  unfold State.cEvent
  with_reducible repeat' (first | assumption | apply State.setBitF_keeps | intro _ | split | dsimp only)

theorem State.lEvent_keeps {s0 s : State} (hs : Keeps s0 s) (k : Nat) (i : Nat) : Keeps s0 (State.lEvent s k i) := by
  unfold State.lEvent
  with_reducible repeat' (first | assumption | apply State.setBitF_keeps | intro _ | split | dsimp only)

theorem State.refreshInh_keeps {s0 s : State} (hs : Keeps s0 s) : Keeps s0 (State.refreshInh s) := by
  unfold State.refreshInh
  with_reducible repeat' (first | assumption | apply State.setFld_keeps | intro _ | split | dsimp only)

theorem State.setTcvr_keeps {s0 s : State} (hs : Keeps s0 s) (c : Nat) (v : Nat) : Keeps s0 (State.setTcvr s c v) := by
  unfold State.setTcvr
  with_reducible repeat' first
    | assumption | apply State.setFld_keeps | apply State.when_keeps | apply State.traceB_keeps | apply State.modNch_keeps
    | apply State.refreshInh_keeps | intro _ | split | dsimp only

theorem State.dropTx_keeps {s0 s : State} (hs : Keeps s0 s) (c : Nat) (st : Nat) : Keeps s0 (State.dropTx s c st) := by
  unfold State.dropTx
  with_reducible repeat' first
    | assumption | apply State.each_keeps | apply State.finish_keeps | apply State.setNch_keeps | intro _ | split | dsimp only

theorem State.tcvrRequest_keeps {s0 s : State} (hs : Keeps s0 s) (c : Nat) : Keeps s0 (State.tcvrRequest s c) := by
  unfold State.tcvrRequest
  with_reducible repeat' first
    | assumption | apply State.modNch_keeps | apply State.setTcvr_keeps | apply State.dropTx_keeps | intro _ | split | dsimp only

theorem State.netFence_keeps {s0 s : State} (hs : Keeps s0 s) (c : Nat) : Keeps s0 (State.netFence s c) := by
  unfold State.netFence
  with_reducible repeat' first
    | assumption | apply State.setFld_keeps | apply State.finishAll_keeps | apply State.modNch_keeps | apply State.setTcvr_keeps
    | apply State.dropTx_keeps | intro _ | split | dsimp only

theorem State.netUnfence_keeps {s0 s : State} (hs : Keeps s0 s) (c : Nat) : Keeps s0 (State.netUnfence s c) := by
  unfold State.netUnfence
  with_reducible repeat' (first | assumption | apply State.setFld_keeps | apply State.tcvrRequest_keeps | intro _ | split | dsimp only)

theorem State.modThm_keeps {s0 s : State} (hs : Keeps s0 s) (f : Thm → Thm) : Keeps s0 (State.modThm s f) := by
  unfold State.modThm
  with_reducible repeat' (first | assumption | (apply Keeps.lit; assumption) | intro _ | split | dsimp only)

theorem State.tell_keeps {s0 s : State} (hs : Keeps s0 s) (k : Nat) (t : Word) : Keeps s0 (State.tell s k t) := by
  unfold State.tell
  with_reducible repeat' (first | assumption | apply State.modThm_keeps | intro _ | split | dsimp only)

theorem State.thmRefresh_keeps {s0 s : State} (hs : Keeps s0 s) : Keeps s0 s.thmRefresh := by
  unfold State.thmRefresh
  exact Keeps.lit (State.modThm_keeps hs _)

theorem State.thmTick_keeps {s0 s : State} (hs : Keeps s0 s) : Keeps s0 (State.thmTick s) := by
  unfold State.thmTick
  with_reducible repeat' (first | assumption | apply State.modThm_keeps | apply State.thmRefresh_keeps | intro _ | split | dsimp only)

theorem State.modInp_keeps {s0 s : State} (hs : Keeps s0 s) (f : Inp → Inp) : Keeps s0 (State.modInp s f) := by
  unfold State.modInp
  with_reducible repeat' (first | assumption | (apply Keeps.lit; assumption) | intro _ | split | dsimp only)

theorem State.dcTrip_keeps {s0 s : State} (hs : Keeps s0 s) (n : Nat) : Keeps s0 (State.dcTrip s n) := by
  unfold State.dcTrip
  with_reducible repeat' (first | assumption | apply State.modInp_keeps | intro _ | split | dsimp only)

theorem State.modMean_keeps {s0 s : State} (hs : Keeps s0 s) (o : Nat) (f : SenseAcc → SenseAcc) : Keeps s0 (State.modMean s o f) := by
  unfold State.modMean
  with_reducible repeat' (first | assumption | apply State.modInp_keeps | intro _ | split | dsimp only)

theorem State.meanEnd_keeps {s0 s : State} (hs : Keeps s0 s) (o : Nat) : Keeps s0 (State.meanEnd s o) := by
  unfold State.meanEnd
  with_reducible repeat' first
    | assumption | apply State.setFld_keeps | apply State.senseEvent_keeps | apply State.modMean_keeps | intro _ | split | dsimp only

theorem State.meanTick_keeps {s0 s : State} (hs : Keeps s0 s) (o : Nat) : Keeps s0 (State.meanTick s o) := by
  unfold State.meanTick
  with_reducible repeat' first
    | assumption | apply State.setFld_keeps | apply State.modMean_keeps | apply State.meanEnd_keeps | intro _ | split | dsimp only

theorem State.ssOff_keeps {s0 s : State} (hs : Keeps s0 s) (k : Nat) (v : Nat) : Keeps s0 (State.ssOff s k v) := by
  unfold State.ssOff
  with_reducible repeat' (first | assumption | apply State.setFld_keeps | apply State.raise_keeps | intro _ | split | dsimp only)

theorem State.psOff_keeps {s0 s : State} (hs : Keeps s0 s) (k : Nat) : Keeps s0 (State.psOff s k) := by
  unfold State.psOff
  with_reducible repeat' (first | assumption | apply State.setFld_keeps | intro _ | split | dsimp only)

theorem State.adcFail_keeps {s0 s : State} (hs : Keeps s0 s) (a : Nat) : Keeps s0 (State.adcFail s a) := by
  unfold State.adcFail
  with_reducible repeat' first
    | assumption | apply State.setFld_keeps | apply State.setBitF_keeps | apply State.each_keeps | intro _ | split | dsimp only

theorem State.setHch_keeps {s0 s : State} (hs : Keeps s0 s) (n : Nat) (c : HscCh) : Keeps s0 (State.setHch s n c) := by
  unfold State.setHch
  with_reducible repeat' (first | assumption | (apply Keeps.lit; assumption) | intro _ | split | dsimp only)

theorem State.modHch_keeps {s0 s : State} (hs : Keeps s0 s) (n : Nat) (f : HscCh → HscCh) : Keeps s0 (State.modHch s n f) := by
  unfold State.modHch
  with_reducible repeat' (first | assumption | apply State.setHch_keeps | intro _ | split | dsimp only)

theorem State.setHst_keeps {s0 s : State} (hs : Keeps s0 s) (n : Nat) (w : Nat) : Keeps s0 (State.setHst s n w) := by
  unfold State.setHst
  with_reducible repeat' first
    | assumption | apply State.setFld_keeps | apply State.setBitF_keeps | apply State.traceB_keeps | intro _ | split | dsimp only

theorem State.hscEvt_keeps {s0 s : State} (hs : Keeps s0 s) (n : Nat) (b : Nat) : Keeps s0 (State.hscEvt s n b) := by
  unfold State.hscEvt
  with_reducible repeat' (first | assumption | apply State.setReg_keeps | intro _ | split | dsimp only)

theorem State.hscFinish_keeps {s0 s : State} (hs : Keeps s0 s) (n : Nat) (st : Nat) (detail : Nat) : Keeps s0 (State.hscFinish s n st detail) := by
  unfold State.hscFinish
  with_reducible repeat' (first | assumption | apply State.finish_keeps | apply State.modHch_keeps | intro _ | split | dsimp only)

theorem State.hscProvFinish_keeps {s0 s : State} (hs : Keeps s0 s) (n : Nat) (st : Nat) (therm : Nat) : Keeps s0 (State.hscProvFinish s n st therm)
    := by
  unfold State.hscProvFinish
  with_reducible repeat' (first | assumption | apply State.finish_keeps | intro _ | split | dsimp only)

theorem State.hscTryDone_keeps {s0 s : State} (hs : Keeps s0 s) (n : Nat) : Keeps s0 (State.hscTryDone s n) := by
  unfold State.hscTryDone
  with_reducible repeat' (first | assumption | apply State.hscFinish_keeps | intro _ | split | dsimp only)

theorem State.hscApplied_keeps {s0 s : State} (hs : Keeps s0 s) (n : Nat) : Keeps s0 (State.hscApplied s n) := by
  unfold State.hscApplied
  with_reducible repeat' (first | assumption | apply State.hscFinish_keeps | apply State.hscTryDone_keeps | intro _ | split | dsimp only)

theorem State.hscSwitchOn_keeps {s0 s : State} (hs : Keeps s0 s) (n : Nat) (load : Bool) : Keeps s0 (State.hscSwitchOn s n load) := by
  unfold State.hscSwitchOn
  with_reducible repeat' first
    | assumption | apply State.setFld_keeps | apply State.when_keeps | apply State.modHch_keeps | intro _ | split | dsimp only

theorem State.hscLatch_keeps {s0 s : State} (hs : Keeps s0 s) (n : Nat) (cause : Nat) (st : Nat) : Keeps s0 (State.hscLatch s n cause st) := by
  unfold State.hscLatch
  with_reducible repeat' first
    | assumption | apply State.setFld_keeps | apply State.modHch_keeps | apply State.setHst_keeps | apply State.hscEvt_keeps
    | apply State.hscFinish_keeps | intro _ | split | dsimp only

theorem State.hscTherm_keeps {s0 s : State} (hs : Keeps s0 s) (n : Nat) : Keeps s0 (State.hscTherm s n) := by
  unfold State.hscTherm
  with_reducible repeat' first
    | assumption | apply State.modHch_keeps | apply State.setHst_keeps | apply State.hscEvt_keeps | apply State.hscFinish_keeps | intro _ | split
    | dsimp only

theorem State.hscOut_keeps {s0 s : State} (hs : Keeps s0 s) (n : Nat) (w : Nat) : Keeps s0 (State.hscOut s n w) := by
  unfold State.hscOut
  with_reducible repeat' first
    | assumption | apply State.setFld_keeps | apply State.modHch_keeps | apply State.setHst_keeps | intro _ | split | dsimp only

theorem State.hscOffAs_keeps {s0 s : State} (hs : Keeps s0 s) (n : Nat) (w : Nat) : Keeps s0 (State.hscOffAs s n w) := by
  unfold State.hscOffAs
  with_reducible repeat' first
    | assumption | apply State.setOval_keeps | apply State.modHch_keeps | apply State.hscOut_keeps | intro _ | split | dsimp only

theorem State.hscToOff_keeps {s0 s : State} (hs : Keeps s0 s) (n : Nat) : Keeps s0 (State.hscToOff s n) := by
  unfold State.hscToOff
  with_reducible repeat' (first | assumption | apply State.hscOffAs_keeps | intro _ | split | dsimp only)

theorem State.hscEnter_keeps {s0 s : State} (hs : Keeps s0 s) (n : Nat) (held : Bool) : Keeps s0 (State.hscEnter s n held) := by
  unfold State.hscEnter
  with_reducible repeat' first
    | assumption | apply State.modHch_keeps | apply State.setHst_keeps | apply State.hscSwitchOn_keeps | apply State.hscLatch_keeps
    | apply State.hscTherm_keeps | intro _ | split | dsimp only

theorem State.hscFollow_keeps {s0 s : State} (hs : Keeps s0 s) (n : Nat) : Keeps s0 (State.hscFollow s n) := by
  unfold State.hscFollow
  with_reducible repeat' (first | assumption | apply State.hscOut_keeps | apply State.hscEnter_keeps | intro _ | split | dsimp only)

theorem State.brEvt_keeps {s0 s : State} (hs : Keeps s0 s) (i : Nat) : Keeps s0 (State.brEvt s i) := by
  unfold State.brEvt
  with_reducible repeat' (first | assumption | apply State.setBitF_keeps | intro _ | split | dsimp only)

theorem State.brSend_keeps {s0 s : State} (hs : Keeps s0 s) (l : List (Nat × List Byte)) : Keeps s0 (State.brSend s l) := by
  unfold State.brSend
  with_reducible repeat' (first | assumption | apply State.modBrc_keeps | intro _ | split | dsimp only)

theorem State.brMark_keeps {s0 s : State} (hs : Keeps s0 s) (e : Nat) (v : Nat) : Keeps s0 (State.brMark s e v) := by
  unfold State.brMark
  with_reducible repeat' (first | assumption | apply State.setFld_keeps | intro _ | split | dsimp only)

theorem State.toMirror_keeps {s0 s : State} (hs : Keeps s0 s) (n : Nat) : Keeps s0 (State.toMirror s n) := by
  unfold State.toMirror
  with_reducible repeat' (first | assumption | apply State.hscFinish_keeps | apply State.hscOffAs_keeps | intro _ | split | dsimp only)

theorem State.brYield_keeps {s0 s : State} (hs : Keeps s0 s) (cause : Nat) : Keeps s0 (State.brYield s cause) := by
  unfold State.brYield
  with_reducible repeat' first
    | assumption | apply State.each_keeps | apply State.brSend_keeps | apply State.toMirror_keeps | intro _ | split | dsimp only

theorem State.setMt_keeps {s0 s : State} (hs : Keeps s0 s) (t : Nat) (m : MotT) : Keeps s0 (State.setMt s t m) := by
  unfold State.setMt
  with_reducible repeat' (first | assumption | (apply Keeps.lit; assumption) | intro _ | split | dsimp only)

theorem State.modMt_keeps {s0 s : State} (hs : Keeps s0 s) (t : Nat) (f : MotT → MotT) : Keeps s0 (State.modMt s t f) := by
  unfold State.modMt
  with_reducible repeat' (first | assumption | apply State.setMt_keeps | intro _ | split | dsimp only)

theorem State.setMst_keeps {s0 s : State} (hs : Keeps s0 s) (t : Nat) (v : Nat) : Keeps s0 (State.setMst s t v) := by
  unfold State.setMst
  with_reducible repeat' (first | assumption | apply State.setFld_keeps | apply State.traceB_keeps | intro _ | split | dsimp only)

theorem State.setMdir_keeps {s0 s : State} (hs : Keeps s0 s) (t : Nat) (v : Nat) : Keeps s0 (State.setMdir s t v) := by
  unfold State.setMdir
  with_reducible repeat' (first | assumption | apply State.setFld_keeps | intro _ | split | dsimp only)

theorem State.motEvt_keeps {s0 s : State} (hs : Keeps s0 s) (t : Nat) (h : Nat) (g : Nat) : Keeps s0 (State.motEvt s t h g) := by
  unfold State.motEvt
  with_reducible repeat' (first | assumption | apply State.setReg_keeps | intro _ | split | dsimp only)

theorem State.motFinish_keeps {s0 s : State} (hs : Keeps s0 s) (t : Nat) (st : Nat) (detail : Nat) : Keeps s0 (State.motFinish s t st detail) := by
  unfold State.motFinish
  with_reducible repeat' (first | assumption | apply State.finish_keeps | intro _ | split | dsimp only)

theorem State.motDone_keeps {s0 s : State} (hs : Keeps s0 s) (t : Nat) (stalled : Bool) : Keeps s0 (State.motDone s t stalled) := by
  unfold State.motDone
  with_reducible repeat' (first | assumption | apply State.finish_keeps | apply State.finishDone_keeps | intro _ | split | dsimp only)

theorem State.motIdle_keeps {s0 s : State} (hs : Keeps s0 s) (t : Nat) : Keeps s0 (State.motIdle s t) := by
  unfold State.motIdle
  with_reducible repeat' first
    | assumption | apply State.each_keeps | apply State.finishDone_keeps | apply State.setOval_keeps | apply State.modMt_keeps
    | apply State.setMst_keeps | apply State.setMdir_keeps | apply State.goTo_keeps | intro _ | split | dsimp only

theorem State.motBrake_keeps {s0 s : State} (hs : Keeps s0 s) (t : Nat) : Keeps s0 (State.motBrake s t) := by
  unfold State.motBrake
  with_reducible repeat' first
    | assumption | apply State.setOval_keeps | apply State.modMt_keeps | apply State.setMst_keeps | apply State.setMdir_keeps
    | apply State.goTo_keeps | intro _ | split | dsimp only

theorem State.motGo_keeps {s0 s : State} (hs : Keeps s0 s) (t : Nat) (dir : Nat) (d : Nat) : Keeps s0 (State.motGo s t dir d) := by
  unfold State.motGo
  with_reducible repeat' first
    | assumption | apply State.when_keeps | apply State.setOval_keeps | apply State.modMt_keeps | apply State.setMst_keeps
    | apply State.setMdir_keeps | intro _ | split | dsimp only

theorem State.motSupply_keeps {s0 s : State} (hs : Keeps s0 s) (t : Nat) : Keeps s0 (State.motSupply s t) := by
  unfold State.motSupply
  with_reducible repeat' first
    | assumption | apply State.when_keeps | apply State.protEvent_keeps | apply State.modMt_keeps | apply State.setMst_keeps
    | apply State.setMdir_keeps | apply State.motEvt_keeps | intro _ | split | dsimp only

theorem State.motEnter_keeps {s0 s : State} (hs : Keeps s0 s) (t : Nat) (dir : Nat) (d : Nat) : Keeps s0 (State.motEnter s t dir d) := by
  unfold State.motEnter
  with_reducible repeat' first
    | assumption | apply State.when_keeps | apply State.modMt_keeps | apply State.setMst_keeps | apply State.motGo_keeps
    | apply State.motSupply_keeps | intro _ | split | dsimp only

theorem State.motTake_keeps {s0 s : State} (hs : Keeps s0 s) (t : Nat) (d : Nat) : Keeps s0 (State.motTake s t d) := by
  unfold State.motTake
  with_reducible repeat' (first | assumption | apply State.setOval_keeps | apply State.modMt_keeps | intro _ | split | dsimp only)

theorem State.motStart_keeps {s0 s : State} (hs : Keeps s0 s) (t : Nat) (dir : Nat) (d : Nat) : Keeps s0 (State.motStart s t dir d) := by
  unfold State.motStart
  with_reducible repeat' first
    | assumption | apply State.when_keeps | apply State.modMt_keeps | apply State.motBrake_keeps | apply State.motGo_keeps
    | apply State.motSupply_keeps | apply State.motEnter_keeps | apply State.motTake_keeps | intro _ | split | dsimp only

theorem State.motApply_keeps {s0 s : State} (hs : Keeps s0 s) (t : Nat) (d : Nat) : Keeps s0 (State.motApply s t d) := by
  unfold State.motApply
  with_reducible repeat' first
    | assumption | apply State.modMt_keeps | apply State.motFinish_keeps | apply State.motTake_keeps | apply State.motStart_keeps | intro _ | split
    | dsimp only

theorem State.motThreadEnd_keeps {s0 s : State} (hs : Keeps s0 s) (t : Nat) (d : Nat) : Keeps s0 (State.motThreadEnd s t d) := by
  unfold State.motThreadEnd
  with_reducible repeat' (first | assumption | apply State.motDone_keeps | apply State.motBrake_keeps | intro _ | split | dsimp only)

theorem State.motFollow_keeps {s0 s : State} (hs : Keeps s0 s) (t : Nat) : Keeps s0 (State.motFollow s t) := by
  unfold State.motFollow
  with_reducible repeat' first
    | assumption | apply State.modMt_keeps | apply State.setMst_keeps | apply State.setMdir_keeps | apply State.motEnter_keeps | intro _ | split
    | dsimp only

theorem State.showZone_keeps {s0 s : State} (hs : Keeps s0 s) (g : Nat) : Keeps s0 (State.showZone s g) := by
  unfold State.showZone
  with_reducible repeat' (first | assumption | apply State.setFld_keeps | intro _ | split | dsimp only)

theorem State.ripplePos_keeps {s0 s : State} (hs : Keeps s0 s) (g : Nat) : Keeps s0 (State.ripplePos s g) := by
  unfold State.ripplePos
  with_reducible repeat' (first | assumption | apply State.setFld_keeps | apply State.showZone_keeps | intro _ | split | dsimp only)

theorem State.motReached_keeps {s0 s : State} (hs : Keeps s0 s) (t : Nat) : Keeps s0 (State.motReached s t) := by
  unfold State.motReached
  with_reducible repeat' first
    | assumption | apply State.modMt_keeps | apply State.motDone_keeps | apply State.motBrake_keeps | apply State.goTo_keeps | intro _ | split
    | dsimp only

theorem State.motShunt_keeps {s0 s : State} (hs : Keeps s0 s) (g : Nat) : Keeps s0 (State.motShunt s g) := by
  unfold State.motShunt
  with_reducible repeat' (first | assumption | apply State.modMt_keeps | intro _ | split | dsimp only)

theorem State.motCut_keeps {s0 s : State} (hs : Keeps s0 s) (t : Nat) (st : Nat) (detail : Nat) : Keeps s0 (State.motCut s t st detail) := by
  unfold State.motCut
  with_reducible repeat' first
    | assumption | apply State.finish_keeps | apply State.provEnd_keeps | apply State.motFinish_keeps | intro _ | split | dsimp only

theorem State.motLatch_keeps {s0 s : State} (hs : Keeps s0 s) (t : Nat) (cause : Nat) (st : Nat) (detail : Nat) : Keeps s0 (State.motLatch s t
    cause st detail) := by
  unfold State.motLatch
  with_reducible repeat' first
    | assumption | apply State.setFld_keeps | apply State.setOval_keeps | apply State.protEvent_keeps | apply State.modMt_keeps
    | apply State.setMst_keeps | apply State.setMdir_keeps | apply State.motEvt_keeps | apply State.motCut_keeps | apply State.goTo_keeps | intro _
    | split | dsimp only

theorem State.motThermSet_keeps {s0 s : State} (hs : Keeps s0 s) (t : Nat) : Keeps s0 (State.motThermSet s t) := by
  unfold State.motThermSet
  with_reducible repeat' first
    | assumption | apply State.setOval_keeps | apply State.protEvent_keeps | apply State.modMt_keeps | apply State.setMst_keeps
    | apply State.setMdir_keeps | apply State.motEvt_keeps | apply State.motCut_keeps | apply State.goTo_keeps | intro _ | split | dsimp only

theorem State.motUnfence_keeps {s0 s : State} (hs : Keeps s0 s) (t : Nat) : Keeps s0 (State.motUnfence s t) := by
  unfold State.motUnfence
  with_reducible repeat' first
    | assumption | apply State.when_keeps | apply State.setMst_keeps | apply State.motThermSet_keeps | intro _ | split | dsimp only

theorem State.motThermRelease_keeps {s0 s : State} (hs : Keeps s0 s) (t : Nat) : Keeps s0 (State.motThermRelease s t) := by
  unfold State.motThermRelease
  with_reducible repeat' (first | assumption | apply State.motIdle_keeps | intro _ | split | dsimp only)

theorem State.motRelease_keeps {s0 s : State} (hs : Keeps s0 s) (t : Nat) : Keeps s0 (State.motRelease s t) := by
  unfold State.motRelease
  with_reducible repeat' first
    | assumption | apply State.raise_keeps | apply State.when_keeps | apply State.modMt_keeps | apply State.motIdle_keeps | apply State.motGo_keeps
    | intro _ | split | dsimp only

theorem State.setVv_keeps {s0 s : State} (hs : Keeps s0 s) (n : Nat) (v : VlvT) : Keeps s0 (State.setVv s n v) := by
  unfold State.setVv
  with_reducible repeat' (first | assumption | (apply Keeps.lit; assumption) | intro _ | split | dsimp only)

theorem State.modVv_keeps {s0 s : State} (hs : Keeps s0 s) (n : Nat) (f : VlvT → VlvT) : Keeps s0 (State.modVv s n f) := by
  unfold State.modVv
  with_reducible repeat' (first | assumption | apply State.setVv_keeps | intro _ | split | dsimp only)

theorem State.setVb_keeps {s0 s : State} (hs : Keeps s0 s) (m : Nat) (b : VlvB) : Keeps s0 (State.setVb s m b) := by
  unfold State.setVb
  with_reducible repeat' (first | assumption | (apply Keeps.lit; assumption) | intro _ | split | dsimp only)

theorem State.vEvt_keeps {s0 s : State} (hs : Keeps s0 s) (n : Nat) (i : Nat) : Keeps s0 (State.vEvt s n i) := by
  unfold State.vEvt
  with_reducible repeat' (first | assumption | apply State.setBitF_keeps | intro _ | split | dsimp only)

theorem State.bEvt_keeps {s0 s : State} (hs : Keeps s0 s) (m : Nat) (i : Nat) : Keeps s0 (State.bEvt s m i) := by
  unfold State.bEvt
  with_reducible repeat' (first | assumption | apply State.setBitF_keeps | intro _ | split | dsimp only)

theorem State.setVst_keeps {s0 s : State} (hs : Keeps s0 s) (n : Nat) (v : Nat) : Keeps s0 (State.setVst s n v) := by
  unfold State.setVst
  with_reducible repeat' (first | assumption | apply State.setFld_keeps | apply State.traceB_keeps | intro _ | split | dsimp only)

theorem State.setBst_keeps {s0 s : State} (hs : Keeps s0 s) (m : Nat) (v : Nat) : Keeps s0 (State.setBst s m v) := by
  unfold State.setBst
  with_reducible repeat' first
    | assumption | apply State.setFld_keeps | apply State.when_keeps | apply State.traceB_keeps | apply State.setVb_keeps | apply State.bEvt_keeps
    | intro _ | split | dsimp only

theorem State.setSlots_keeps {s0 s : State} (hs : Keeps s0 s) (m : Nat) (l : List Nat) : Keeps s0 (State.setSlots s m l) := by
  unfold State.setSlots
  with_reducible repeat' (first | assumption | apply State.setFld_keeps | apply State.setVb_keeps | intro _ | split | dsimp only)

theorem State.bankClose_keeps {s0 s : State} (hs : Keeps s0 s) (m : Nat) : Keeps s0 (State.bankClose s m) := by
  unfold State.bankClose
  with_reducible repeat' (first | assumption | apply State.setBst_keeps | intro _ | split | dsimp only)

theorem State.bankRest_keeps {s0 s : State} (hs : Keeps s0 s) (m : Nat) : Keeps s0 (State.bankRest s m) := by
  unfold State.bankRest
  with_reducible repeat' (first | assumption | apply State.setBst_keeps | intro _ | split | dsimp only)

theorem State.ditherTake_keeps {s0 s : State} (hs : Keeps s0 s) (n : Nat) (ph : Nat) : Keeps s0 (State.ditherTake s n ph) := by
  unfold State.ditherTake
  with_reducible repeat' (first | assumption | apply State.modVv_keeps | apply State.hold_keeps | intro _ | split | dsimp only)

theorem State.vlvEnd_keeps {s0 s : State} (hs : Keeps s0 s) (d : Desc) (late : Option Nat) (detail : Nat) : Keeps s0 (State.vlvEnd s d late detail)
    := by
  unfold State.vlvEnd
  with_reducible repeat' (first | assumption | apply State.finish_keeps | apply State.finishDone_keeps | intro _ | split | dsimp only)

theorem State.vlvDone_keeps {s0 s : State} (hs : Keeps s0 s) (n : Nat) : Keeps s0 (State.vlvDone s n) := by
  unfold State.vlvDone
  with_reducible repeat' (first | assumption | apply State.vlvEnd_keeps | intro _ | split | dsimp only)

theorem State.vlvCut_keeps {s0 s : State} (hs : Keeps s0 s) (n : Nat) (st : Nat) (detail : Nat) : Keeps s0 (State.vlvCut s n st detail) := by
  unfold State.vlvCut
  with_reducible repeat' first
    | assumption | apply State.each_keeps | apply State.finish_keeps | apply State.provEnd_keeps | intro _ | split | dsimp only

theorem State.vlvSupersede_keeps {s0 s : State} (hs : Keeps s0 s) (n : Nat) : Keeps s0 (State.vlvSupersede s n) := by
  unfold State.vlvSupersede
  with_reducible repeat' first
    | assumption | apply State.each_keeps | apply State.finish_keeps | apply State.provEnd_keeps | intro _ | split | dsimp only

theorem State.setiDrop_keeps {s0 s : State} (hs : Keeps s0 s) (n : Nat) : Keeps s0 (State.setiDrop s n) := by
  unfold State.setiDrop
  with_reducible repeat' (first | assumption | apply State.finish_keeps | intro _ | split | dsimp only)

theorem State.vlvForget_keeps {s0 s : State} (hs : Keeps s0 s) (n : Nat) : Keeps s0 (State.vlvForget s n) := by
  unfold State.vlvForget
  with_reducible repeat' (first | assumption | apply State.modVv_keeps | intro _ | split | dsimp only)

theorem State.vlvToOff_keeps {s0 s : State} (hs : Keeps s0 s) (n : Nat) : Keeps s0 (State.vlvToOff s n) := by
  unfold State.vlvToOff
  with_reducible repeat' first
    | assumption | apply State.setFld_keeps | apply State.finishDone_keeps | apply State.setOval_keeps | apply State.modVv_keeps
    | apply State.setVst_keeps | apply State.bankRest_keeps | apply State.vlvEnd_keeps | apply State.vlvForget_keeps | intro _ | split | dsimp only

theorem State.vlvUnslot_keeps {s0 s : State} (hs : Keeps s0 s) (n : Nat) : Keeps s0 (State.vlvUnslot s n) := by
  unfold State.vlvUnslot
  with_reducible repeat' (first | assumption | apply State.setSlots_keeps | intro _ | split | dsimp only)

theorem State.vlvDown_keeps {s0 s : State} (hs : Keeps s0 s) (n : Nat) (v : Nat) (clamp : Bool) : Keeps s0 (State.vlvDown s n v clamp) := by
  unfold State.vlvDown
  with_reducible repeat' first
    | assumption | apply State.setFld_keeps | apply State.setOval_keeps | apply State.modVv_keeps | apply State.setVst_keeps
    | apply State.vlvForget_keeps | apply State.vlvUnslot_keeps | intro _ | split | dsimp only

theorem State.vlvShow_keeps {s0 s : State} (hs : Keeps s0 s) (n : Nat) (v : Nat) : Keeps s0 (State.vlvShow s n v) := by
  unfold State.vlvShow
  with_reducible repeat' first
    | assumption | apply State.when_keeps | apply State.setOval_keeps | apply State.modVv_keeps | intro _ | split | dsimp only

theorem State.vlvHeld_keeps {s0 s : State} (hs : Keeps s0 s) (n : Nat) : Keeps s0 (State.vlvHeld s n) := by
  unfold State.vlvHeld
  with_reducible repeat' (first | assumption | apply State.when_keeps | apply State.vlvDone_keeps | intro _ | split | dsimp only)

theorem State.vlvHold_keeps {s0 s : State} (hs : Keeps s0 s) (n : Nat) : Keeps s0 (State.vlvHold s n) := by
  unfold State.vlvHold
  with_reducible repeat' first
    | assumption | apply State.seqEvent_keeps | apply State.vEvt_keeps | apply State.setVst_keeps | apply State.ditherTake_keeps
    | apply State.vlvUnslot_keeps | apply State.vlvShow_keeps | apply State.vlvHeld_keeps | apply State.hold_keeps | intro _ | split | dsimp only

theorem State.vlvStart_keeps {s0 s : State} (hs : Keeps s0 s) (n : Nat) (late : Bool) : Keeps s0 (State.vlvStart s n late) := by
  unfold State.vlvStart
  with_reducible repeat' first
    | assumption | apply State.setFld_keeps | apply State.raise_keeps | apply State.count_keeps | apply State.when_keeps | apply State.modVv_keeps
    | apply State.vEvt_keeps | apply State.bEvt_keeps | apply State.setVst_keeps | apply State.setSlots_keeps | apply State.bankClose_keeps
    | apply State.vlvShow_keeps | apply State.vlvHold_keeps | apply State.hold_keeps | intro _ | split | dsimp only

theorem State.setiStart_keeps {s0 s : State} (hs : Keeps s0 s) (n : Nat) (late : Bool) : Keeps s0 (State.setiStart s n late) := by
  unfold State.setiStart
  with_reducible repeat' first
    | assumption | apply State.when_keeps | apply State.modVv_keeps | apply State.vEvt_keeps | apply State.vlvEnd_keeps | apply State.vlvHeld_keeps
    | apply State.hold_keeps | intro _ | split | dsimp only

theorem State.vlvBegin_keeps {s0 s : State} (hs : Keeps s0 s) (n : Nat) (late : Bool) : Keeps s0 (State.vlvBegin s n late) := by
  unfold State.vlvBegin
  with_reducible repeat' (first | assumption | apply State.vlvStart_keeps | apply State.setiStart_keeps | intro _ | split | dsimp only)

theorem State.vlvTake_keeps {s0 s : State} (hs : Keeps s0 s) (m : Nat) : Keeps s0 (State.vlvTake s m) := by
  unfold State.vlvTake
  with_reducible repeat' (first | assumption | apply State.each_keeps | apply State.vlvBegin_keeps | intro _ | split | dsimp only)

theorem State.vlvDecay_keeps {s0 s : State} (hs : Keeps s0 s) (n : Nat) (clamp : Bool) : Keeps s0 (State.vlvDecay s n clamp) := by
  unfold State.vlvDecay
  with_reducible repeat' first
    | assumption | apply State.modVv_keeps | apply State.setiDrop_keeps | apply State.vlvToOff_keeps | apply State.vlvDown_keeps
    | apply State.vlvTake_keeps | intro _ | split | dsimp only

theorem State.vlvRefuse_keeps {s0 s : State} (hs : Keeps s0 s) (n : Nat) : Keeps s0 (State.vlvRefuse s n) := by
  unfold State.vlvRefuse
  with_reducible repeat' first
    | assumption | apply State.raise_keeps | apply State.count_keeps | apply State.when_keeps | apply State.finish_keeps
    | apply State.stopThread_keeps | apply State.modVv_keeps | apply State.vEvt_keeps | apply State.bEvt_keeps | apply State.vlvToOff_keeps
    | apply State.vlvDecay_keeps | intro _ | split | dsimp only

theorem State.vlvRequest_keeps {s0 s : State} (hs : Keeps s0 s) (n : Nat) : Keeps s0 (State.vlvRequest s n) := by
  unfold State.vlvRequest
  with_reducible repeat' first
    | assumption | apply State.modVv_keeps | apply State.setVst_keeps | apply State.bankClose_keeps | apply State.vlvBegin_keeps
    | apply State.vlvTake_keeps | apply State.vlvRefuse_keeps | intro _ | split | dsimp only

theorem State.vlvDeadline_keeps {s0 s : State} (hs : Keeps s0 s) (n : Nat) : Keeps s0 (State.vlvDeadline s n) := by
  unfold State.vlvDeadline
  with_reducible repeat' (first | assumption | apply State.vlvBegin_keeps | apply State.vlvRefuse_keeps | intro _ | split | dsimp only)

theorem State.vlvLatch_keeps {s0 s : State} (hs : Keeps s0 s) (n : Nat) (cause : Nat) (st : Nat) (detail : Nat) : Keeps s0 (State.vlvLatch s n
    cause st detail) := by
  unfold State.vlvLatch
  with_reducible repeat' first
    | assumption | apply State.setFld_keeps | apply State.protEvent_keeps | apply State.vEvt_keeps | apply State.vlvCut_keeps
    | apply State.vlvDown_keeps | apply State.vlvTake_keeps | intro _ | split | dsimp only

theorem State.vlvThermSet_keeps {s0 s : State} (hs : Keeps s0 s) (n : Nat) : Keeps s0 (State.vlvThermSet s n) := by
  unfold State.vlvThermSet
  with_reducible repeat' first
    | assumption | apply State.protEvent_keeps | apply State.vEvt_keeps | apply State.vlvCut_keeps | apply State.vlvDown_keeps
    | apply State.vlvTake_keeps | intro _ | split | dsimp only

theorem State.vlvThermRelease_keeps {s0 s : State} (hs : Keeps s0 s) (n : Nat) : Keeps s0 (State.vlvThermRelease s n) := by
  unfold State.vlvThermRelease
  with_reducible repeat' (first | assumption | apply State.vlvToOff_keeps | intro _ | split | dsimp only)

theorem State.bankOffTo_keeps {s0 s : State} (hs : Keeps s0 s) (m : Nat) (v : Nat) (detail : Nat) : Keeps s0 (State.bankOffTo s m v detail) := by
  unfold State.bankOffTo
  with_reducible repeat' first
    | assumption | apply State.each_keeps | apply State.protEvent_keeps | apply State.setBst_keeps | apply State.setSlots_keeps
    | apply State.vlvCut_keeps | apply State.vlvDown_keeps | intro _ | split | dsimp only

theorem State.bankLatch_keeps {s0 s : State} (hs : Keeps s0 s) (m : Nat) (cause : Nat) : Keeps s0 (State.bankLatch s m cause) := by
  unfold State.bankLatch
  with_reducible repeat' first
    | assumption | apply State.setFld_keeps | apply State.bEvt_keeps | apply State.bankOffTo_keeps | intro _ | split | dsimp only

theorem State.bankThermSet_keeps {s0 s : State} (hs : Keeps s0 s) (m : Nat) : Keeps s0 (State.bankThermSet s m) := by
  unfold State.bankThermSet
  with_reducible repeat' (first | assumption | apply State.bEvt_keeps | apply State.bankOffTo_keeps | intro _ | split | dsimp only)

theorem State.bankToIdle_keeps {s0 s : State} (hs : Keeps s0 s) (m : Nat) : Keeps s0 (State.bankToIdle s m) := by
  unfold State.bankToIdle
  with_reducible repeat' (first | assumption | apply State.setFld_keeps | apply State.setBst_keeps | intro _ | split | dsimp only)

theorem State.vlvUnfence_keeps {s0 s : State} (hs : Keeps s0 s) (n : Nat) : Keeps s0 (State.vlvUnfence s n) := by
  unfold State.vlvUnfence
  with_reducible repeat' (first | assumption | apply State.setFld_keeps | apply State.setVst_keeps | intro _ | split | dsimp only)

theorem State.bankThermRelease_keeps {s0 s : State} (hs : Keeps s0 s) (m : Nat) : Keeps s0 (State.bankThermRelease s m) := by
  unfold State.bankThermRelease
  with_reducible repeat' (first | assumption | apply State.bankToIdle_keeps | intro _ | split | dsimp only)

theorem State.bankWireTrip_keeps {s0 s : State} (hs : Keeps s0 s) (m : Nat) : Keeps s0 (State.bankWireTrip s m) := by
  unfold State.bankWireTrip
  with_reducible repeat' (first | assumption | apply State.bankLatch_keeps | intro _ | split | dsimp only)

theorem State.setLx_keeps {s0 s : State} (hs : Keeps s0 s) (n : Nat) (x : LuxT) : Keeps s0 (State.setLx s n x) := by
  unfold State.setLx
  with_reducible repeat' (first | assumption | (apply Keeps.lit; assumption) | intro _ | split | dsimp only)

theorem State.modLx_keeps {s0 s : State} (hs : Keeps s0 s) (n : Nat) (f : LuxT → LuxT) : Keeps s0 (State.modLx s n f) := by
  unfold State.modLx
  with_reducible repeat' (first | assumption | apply State.setLx_keeps | intro _ | split | dsimp only)

theorem State.setCl_keeps {s0 s : State} (hs : Keeps s0 s) (k : Nat) (x : ClLoop) : Keeps s0 (State.setCl s k x) := by
  unfold State.setCl
  with_reducible repeat' (first | assumption | (apply Keeps.lit; assumption) | intro _ | split | dsimp only)

theorem State.modCl_keeps {s0 s : State} (hs : Keeps s0 s) (k : Nat) (f : ClLoop → ClLoop) : Keeps s0 (State.modCl s k f) := by
  unfold State.modCl
  with_reducible repeat' (first | assumption | apply State.setCl_keeps | intro _ | split | dsimp only)

theorem State.setLst_keeps {s0 s : State} (hs : Keeps s0 s) (n : Nat) (v : Nat) : Keeps s0 (State.setLst s n v) := by
  unfold State.setLst
  with_reducible repeat' (first | assumption | apply State.setFld_keeps | apply State.traceB_keeps | intro _ | split | dsimp only)

theorem State.lEvt_keeps {s0 s : State} (hs : Keeps s0 s) (n : Nat) (i : Nat) : Keeps s0 (State.lEvt s n i) := by
  unfold State.lEvt
  with_reducible repeat' (first | assumption | apply State.setBitF_keeps | intro _ | split | dsimp only)

theorem State.luxTakeUp_keeps {s0 s : State} (hs : Keeps s0 s) (n : Nat) : Keeps s0 (State.luxTakeUp s n) := by
  unfold State.luxTakeUp
  with_reducible repeat' (first | assumption | apply State.modLx_keeps | intro _ | split | dsimp only)

theorem State.luxBegin_keeps {s0 s : State} (hs : Keeps s0 s) (n : Nat) : Keeps s0 (State.luxBegin s n) := by
  unfold State.luxBegin
  with_reducible repeat' (first | assumption | apply State.modLx_keeps | apply State.luxTakeUp_keeps | intro _ | split | dsimp only)

theorem State.luxCut_keeps {s0 s : State} (hs : Keeps s0 s) (t : Nat) (st : Nat) (detail : Nat) : Keeps s0 (State.luxCut s t st detail) := by
  unfold State.luxCut
  with_reducible repeat' first
    | assumption | apply State.each_keeps | apply State.finish_keeps | apply State.provEnd_keeps | intro _ | split | dsimp only

theorem State.luxSupersede_keeps {s0 s : State} (hs : Keeps s0 s) (t : Nat) : Keeps s0 (State.luxSupersede s t) := by
  unfold State.luxSupersede
  with_reducible repeat' first
    | assumption | apply State.each_keeps | apply State.finish_keeps | apply State.provEnd_keeps | intro _ | split | dsimp only

theorem State.luxTryDone_keeps {s0 s : State} (hs : Keeps s0 s) (n : Nat) : Keeps s0 (State.luxTryDone s n) := by
  unfold State.luxTryDone
  with_reducible repeat' (first | assumption | apply State.finishDone_keeps | apply State.modLx_keeps | intro _ | split | dsimp only)

theorem State.luxDown_keeps {s0 s : State} (hs : Keeps s0 s) (n : Nat) (v : Nat) : Keeps s0 (State.luxDown s n v) := by
  unfold State.luxDown
  with_reducible repeat' first
    | assumption | apply State.setOval_keeps | apply State.modLx_keeps | apply State.setLst_keeps | intro _ | split | dsimp only

theorem State.luxOn_keeps {s0 s : State} (hs : Keeps s0 s) (n : Nat) (d : Nat) (now : Bool) : Keeps s0 (State.luxOn s n d now) := by
  unfold State.luxOn
  with_reducible repeat' first
    | assumption | apply State.setOval_keeps | apply State.setLst_keeps | apply State.luxTakeUp_keeps | apply State.luxBegin_keeps | intro _ | split
    | dsimp only

theorem State.luxApply_keeps {s0 s : State} (hs : Keeps s0 s) (n : Nat) (d : Nat) (now : Bool) : Keeps s0 (State.luxApply s n d now) := by
  unfold State.luxApply
  with_reducible repeat' first
    | assumption | apply State.setOval_keeps | apply State.modLx_keeps | apply State.setLst_keeps | apply State.luxBegin_keeps
    | apply State.luxOn_keeps | intro _ | split | dsimp only

theorem State.luxThread_keeps {s0 s : State} (hs : Keeps s0 s) (n : Nat) (d : Nat) : Keeps s0 (State.luxThread s n d) := by
  unfold State.luxThread
  with_reducible repeat' (first | assumption | apply State.modLx_keeps | apply State.luxApply_keeps | intro _ | split | dsimp only)

theorem State.luxLoopD_keeps {s0 s : State} (hs : Keeps s0 s) (n : Nat) (d : Nat) : Keeps s0 (State.luxLoopD s n d) := by
  unfold State.luxLoopD
  with_reducible repeat' (first | assumption | apply State.modLx_keeps | apply State.luxApply_keeps | intro _ | split | dsimp only)

theorem State.luxFollow_keeps {s0 s : State} (hs : Keeps s0 s) (n : Nat) : Keeps s0 (State.luxFollow s n) := by
  unfold State.luxFollow
  with_reducible repeat' (first | assumption | apply State.setLst_keeps | apply State.luxBegin_keeps | intro _ | split | dsimp only)

theorem State.cEvt_keeps {s0 s : State} (hs : Keeps s0 s) (k : Nat) (i : Nat) : Keeps s0 (State.cEvt s k i) := by
  unfold State.cEvt
  with_reducible repeat' (first | assumption | apply State.setBitF_keeps | intro _ | split | dsimp only)

theorem State.setCst_keeps {s0 s : State} (hs : Keeps s0 s) (k : Nat) (v : Nat) : Keeps s0 (State.setCst s k v) := by
  unfold State.setCst
  with_reducible repeat' (first | assumption | apply State.setFld_keeps | apply State.traceB_keeps | intro _ | split | dsimp only)

theorem State.loopOff_keeps {s0 s : State} (hs : Keeps s0 s) (k : Nat) : Keeps s0 (State.loopOff s k) := by
  unfold State.loopOff
  with_reducible repeat' first
    | assumption | apply State.setFld_keeps | apply State.each_keeps | apply State.modLx_keeps | apply State.modCl_keeps | apply State.luxApply_keeps
    | apply State.setCst_keeps | intro _ | split | dsimp only

theorem State.loopLost_keeps {s0 s : State} (hs : Keeps s0 s) (n : Nat) (st : Nat) : Keeps s0 (State.loopLost s n st) := by
  unfold State.loopLost
  with_reducible repeat' (first | assumption | apply State.finish_keeps | apply State.loopOff_keeps | intro _ | split | dsimp only)

theorem State.luxThermSet_keeps {s0 s : State} (hs : Keeps s0 s) (n : Nat) : Keeps s0 (State.luxThermSet s n) := by
  unfold State.luxThermSet
  with_reducible repeat' first
    | assumption | apply State.protEvent_keeps | apply State.provEnd_keeps | apply State.modLx_keeps | apply State.setLst_keeps
    | apply State.lEvt_keeps | apply State.luxCut_keeps | apply State.loopLost_keeps | intro _ | split | dsimp only

theorem State.luxThermRelease_keeps {s0 s : State} (hs : Keeps s0 s) (n : Nat) : Keeps s0 (State.luxThermRelease s n) := by
  unfold State.luxThermRelease
  with_reducible repeat' (first | assumption | apply State.setLst_keeps | apply State.luxTakeUp_keeps | intro _ | split | dsimp only)

theorem State.luxUnfence_keeps {s0 s : State} (hs : Keeps s0 s) (n : Nat) : Keeps s0 (State.luxUnfence s n) := by
  unfold State.luxUnfence
  with_reducible repeat' (first | assumption | apply State.setFld_keeps | apply State.setLst_keeps | intro _ | split | dsimp only)

theorem State.i2cSet_keeps {s0 s : State} (hs : Keeps s0 s) (l : List Nat) : Keeps s0 (State.i2cSet s l) := by
  unfold State.i2cSet
  with_reducible repeat' (first | assumption | apply State.setFld_keeps | apply State.modInp_keeps | intro _ | split | dsimp only)

theorem State.i2cAsk_keeps {s0 s : State} (hs : Keeps s0 s) (k : Nat) : Keeps s0 (State.i2cAsk s k) := by
  unfold State.i2cAsk
  with_reducible repeat' (first | assumption | apply State.i2cSet_keeps | intro _ | split | dsimp only)

theorem State.setPch_keeps {s0 s : State} (hs : Keeps s0 s) (c : Nat) (x : PxCh) : Keeps s0 (State.setPch s c x) := by
  unfold State.setPch
  with_reducible repeat' (first | assumption | (apply Keeps.lit; assumption) | intro _ | split | dsimp only)

theorem State.modPch_keeps {s0 s : State} (hs : Keeps s0 s) (c : Nat) (f : PxCh → PxCh) : Keeps s0 (State.modPch s c f) := by
  unfold State.modPch
  with_reducible repeat' (first | assumption | apply State.setPch_keeps | intro _ | split | dsimp only)

theorem State.pEvt_keeps {s0 s : State} (hs : Keeps s0 s) (c : Nat) (i : Nat) : Keeps s0 (State.pEvt s c i) := by
  unfold State.pEvt
  with_reducible repeat' (first | assumption | apply State.setBitF_keeps | intro _ | split | dsimp only)

theorem State.pxShow_keeps {s0 s : State} (hs : Keeps s0 s) (c : Nat) : Keeps s0 (State.pxShow s c) := by
  unfold State.pxShow
  with_reducible repeat' (first | assumption | apply State.setFld_keeps | apply State.traceB_keeps | intro _ | split | dsimp only)

theorem State.pxSend_keeps {s0 s : State} (hs : Keeps s0 s) (c : Nat) (f : PxFrame) : Keeps s0 (State.pxSend s c f) := by
  unfold State.pxSend
  with_reducible repeat' (first | assumption | apply State.modPch_keeps | apply State.pxShow_keeps | intro _ | split | dsimp only)

theorem State.pxNext_keeps {s0 s : State} (hs : Keeps s0 s) (c : Nat) : Keeps s0 (State.pxNext s c) := by
  unfold State.pxNext
  with_reducible repeat' first
    | assumption | apply State.modPch_keeps | apply State.pxShow_keeps | apply State.pxSend_keeps | intro _ | split | dsimp only

theorem State.pxDone_keeps {s0 s : State} (hs : Keeps s0 s) (c : Nat) : Keeps s0 (State.pxDone s c) := by
  unfold State.pxDone
  with_reducible repeat' (first | assumption | apply State.modPch_keeps | apply State.pxShow_keeps | intro _ | split | dsimp only)

theorem State.pxDrop_keeps {s0 s : State} (hs : Keeps s0 s) (c : Nat) (k : Nat) : Keeps s0 (State.pxDrop s c k) := by
  unfold State.pxDrop
  with_reducible repeat' (first | assumption | apply State.modPch_keeps | intro _ | split | dsimp only)

theorem State.pxStop_keeps {s0 s : State} (hs : Keeps s0 s) (c : Nat) : Keeps s0 (State.pxStop s c) := by
  unfold State.pxStop
  with_reducible repeat' (first | assumption | apply State.modPch_keeps | apply State.pxShow_keeps | intro _ | split | dsimp only)

theorem State.modAcc_keeps {s0 s : State} (hs : Keeps s0 s) (f : Immo → Immo) : Keeps s0 (State.modAcc s f) := by
  unfold State.modAcc
  with_reducible repeat' (first | assumption | (apply Keeps.lit; assumption) | intro _ | split | dsimp only)

theorem State.setLf_keeps {s0 s : State} (hs : Keeps s0 s) (c : Nat) (x : LfCh) : Keeps s0 (State.setLf s c x) := by
  unfold State.setLf
  with_reducible repeat' (first | assumption | apply State.modAcc_keeps | intro _ | split | dsimp only)

theorem State.modLf_keeps {s0 s : State} (hs : Keeps s0 s) (c : Nat) (f : LfCh → LfCh) : Keeps s0 (State.modLf s c f) := by
  unfold State.modLf
  with_reducible repeat' (first | assumption | apply State.setLf_keeps | intro _ | split | dsimp only)

theorem State.setKeySlot_keeps {s0 s : State} (hs : Keeps s0 s) (k : Nat) (x : KeySlot) : Keeps s0 (State.setKeySlot s k x) := by
  unfold State.setKeySlot
  with_reducible repeat' (first | assumption | apply State.modAcc_keeps | intro _ | split | dsimp only)

theorem State.drewN_keeps {s0 s : State} (hs : Keeps s0 s) (n : Nat) : Keeps s0 (State.drewN s n) := by
  unfold State.drewN
  with_reducible repeat' (first | assumption | (apply Keeps.lit; assumption) | intro _ | split | dsimp only)

theorem State.lfEvt_keeps {s0 s : State} (hs : Keeps s0 s) (c : Nat) (i : Nat) : Keeps s0 (State.lfEvt s c i) := by
  unfold State.lfEvt
  with_reducible repeat' (first | assumption | apply State.setBitF_keeps | intro _ | split | dsimp only)

theorem State.lfTrace_keeps {s0 s : State} {was : State} (hs : Keeps s0 s) : Keeps s0 (State.lfTrace s was) := by
  unfold State.lfTrace
  with_reducible repeat' (first | assumption | apply State.each_keeps | apply State.traceB_keeps | intro _ | split | dsimp only)

theorem lfShown_keeps {s0 s : State} (hs : Keeps s0 s) (f : State → State) (hf : ∀ (a0 : State), Keeps s0 a0 → Keeps s0 (f a0)) : Keeps s0 (lfShown
    f s) := by
  unfold lfShown
  with_reducible repeat' (first | assumption | apply State.lfTrace_keeps | apply hf | intro _ | split | dsimp only)

theorem State.lfFinish_keeps {s0 s : State} (hs : Keeps s0 s) (c : Nat) (st : Nat) (detail : Nat) : Keeps s0 (State.lfFinish s c st detail) := by
  unfold State.lfFinish
  with_reducible repeat' (first | assumption | apply State.finish_keeps | apply State.finishDone_keeps | intro _ | split | dsimp only)

theorem State.lfSend_keeps {s0 s : State} (hs : Keeps s0 s) (c : Nat) (l : List Nat) : Keeps s0 (State.lfSend s c l) := by
  unfold State.lfSend
  with_reducible repeat' (first | assumption | apply State.modLf_keeps | intro _ | split | dsimp only)

theorem State.lfWake_keeps {s0 s : State} (hs : Keeps s0 s) (c : Nat) : Keeps s0 (State.lfWake s c) := by
  unfold State.lfWake
  with_reducible repeat' (first | assumption | apply State.modLf_keeps | apply State.lfSend_keeps | intro _ | split | dsimp only)

theorem State.lfSendMac_keeps {s0 s : State} (hs : Keeps s0 s) (c : Nat) (l : List Nat) : Keeps s0 (State.lfSendMac s c l) := by
  unfold State.lfSendMac
  with_reducible repeat' (first | assumption | apply State.modLf_keeps | apply State.lfSend_keeps | intro _ | split | dsimp only)

theorem State.lfOff_keeps {s0 s : State} (hs : Keeps s0 s) (c : Nat) : Keeps s0 (State.lfOff s c) := by
  unfold State.lfOff
  with_reducible repeat' (first | assumption | apply State.modAcc_keeps | apply State.modLf_keeps | intro _ | split | dsimp only)

theorem State.lfCarrier_keeps {s0 s : State} (hs : Keeps s0 s) (d : Desc) : Keeps s0 (State.lfCarrier s d) := by
  unfold State.lfCarrier
  with_reducible repeat' first
    | assumption | apply State.setReg_keeps | apply State.setFld_keeps | apply State.startDesc_keeps | apply State.modAcc_keeps
    | apply State.modLf_keeps | apply State.drewN_keeps | apply State.lfWake_keeps | simp only [id] | intro _ | split | dsimp only

theorem State.lfStart_keeps {s0 s : State} (hs : Keeps s0 s) (d : Desc) : Keeps s0 (State.lfStart s d) := by
  unfold State.lfStart
  with_reducible repeat' first
    | assumption | apply State.finish_keeps | apply State.setDesc_keeps | apply State.lfCarrier_keeps | intro _ | split | dsimp only

theorem State.lfNext_keeps {s0 s : State} (hs : Keeps s0 s) : Keeps s0 (State.lfNext s) := by
  unfold State.lfNext
  with_reducible repeat' (first | assumption | apply State.each_keeps | apply State.lfStart_keeps | intro _ | split | dsimp only)

theorem State.lfEnd_keeps {s0 s : State} (hs : Keeps s0 s) (c : Nat) (st : Nat) (detail : Nat) : Keeps s0 (State.lfEnd s c st detail) := by
  unfold State.lfEnd
  with_reducible repeat' first
    | assumption | apply State.when_keeps | apply State.lfEvt_keeps | apply State.lfFinish_keeps | apply State.lfOff_keeps | apply State.lfNext_keeps
    | intro _ | split | dsimp only

theorem State.lfSleep_keeps {s0 s : State} (hs : Keeps s0 s) (c : Nat) (st : Nat) (detail : Nat) : Keeps s0 (State.lfSleep s c st detail) := by
  unfold State.lfSleep
  with_reducible repeat' (first | assumption | apply State.lfSend_keeps | apply State.lfEnd_keeps | intro _ | split | dsimp only)

theorem State.lfFence_keeps {s0 s : State} (hs : Keeps s0 s) (c : Nat) : Keeps s0 (State.lfFence s c) := by
  unfold State.lfFence
  with_reducible repeat' first
    | assumption | apply State.when_keeps | apply State.traceB_keeps | apply State.finishAll_keeps | apply State.lfEnd_keeps | intro _ | split
    | dsimp only

theorem State.lfUnfence_keeps {s0 s : State} (hs : Keeps s0 s) (c : Nat) : Keeps s0 (State.lfUnfence s c) := by
  unfold State.lfUnfence
  with_reducible repeat' (first | assumption | apply State.traceB_keeps | apply State.modLf_keeps | intro _ | split | dsimp only)

theorem State.slotTouched_keeps {s0 s : State} (hs : Keeps s0 s) (k : Nat) : Keeps s0 (State.slotTouched s k) := by
  unfold State.slotTouched
  with_reducible repeat' (first | assumption | apply State.each_keeps | apply State.modLf_keeps | intro _ | split | dsimp only)

theorem State.learnEnd_keeps {s0 s : State} (hs : Keeps s0 s) : Keeps s0 (State.learnEnd s) := by
  unfold State.learnEnd
  with_reducible repeat' (first | assumption | apply State.modAcc_keeps | intro _ | split | dsimp only)

theorem State.presClose_keeps {s0 s : State} (hs : Keeps s0 s) : Keeps s0 (State.presClose s) := by
  unfold State.presClose
  with_reducible repeat' first
    | assumption | apply State.setFld_keeps | apply State.when_keeps | apply State.modAcc_keeps | apply State.learnEnd_keeps | intro _ | split
    | dsimp only

theorem State.modMem_keeps {s0 s : State} (hs : Keeps s0 s) (f : Mem → Mem) : Keeps s0 (State.modMem s f) := by
  unfold State.modMem
  with_reducible repeat' (first | assumption | (apply Keeps.lit; assumption) | intro _ | split | dsimp only)

theorem State.clearTcm_keeps {s0 s : State} (hs : Keeps s0 s) (c : Nat) : Keeps s0 (State.clearTcm s c) := by
  unfold State.clearTcm
  with_reducible repeat' (first | assumption | apply State.clearMem_keeps | intro _ | split | dsimp only)

theorem State.clearRam_keeps {s0 s : State} (hs : Keeps s0 s) : Keeps s0 (State.clearRam s) := by
  unfold State.clearRam
  with_reducible repeat' (first | assumption | apply State.clearMem_keeps | intro _ | split | dsimp only)

theorem State.clearBank_keeps {s0 s : State} (hs : Keeps s0 s) (k : Nat) : Keeps s0 (State.clearBank s k) := by
  unfold State.clearBank
  with_reducible repeat' (first | assumption | apply State.clearMem_keeps | intro _ | split | dsimp only)

theorem State.clearSeq_keeps {s0 s : State} (hs : Keeps s0 s) : Keeps s0 (State.clearSeq s) := by
  unfold State.clearSeq
  with_reducible repeat' (first | assumption | apply State.clearMem_keeps | intro _ | split | dsimp only)

theorem State.clearAon_keeps {s0 s : State} (hs : Keeps s0 s) (lo : Nat) : Keeps s0 (State.clearAon s lo) := by
  unfold State.clearAon
  with_reducible repeat' (first | assumption | apply State.clearMem_keeps | intro _ | split | dsimp only)

theorem State.progRow_keeps {s0 s : State} (hs : Keeps s0 s) (b : Nat) (p : Nat) (ws : List Word) : Keeps s0 (State.progRow s b p ws) := by
  unfold State.progRow
  with_reducible repeat' first
    | assumption | apply State.when_keeps | apply State.each_keeps | apply State.modPw_keeps | apply State.wr_keeps | apply State.modMem_keeps
    | intro _ | split | dsimp only

theorem State.eraseCode_keeps {s0 s : State} (hs : Keeps s0 s) (b : Nat) (lo : Nat) (hi : Nat) : Keeps s0 (State.eraseCode s b lo hi) := by
  unfold State.eraseCode
  with_reducible repeat' first
    | assumption | apply State.modPw_keeps | apply State.clearMem_keeps | apply State.modMem_keeps | intro _ | split | dsimp only

theorem State.recReads_keeps {s0 s : State} (hs : Keeps s0 s) (b : Nat) : Keeps s0 (State.recReads s b) := by
  unfold State.recReads
  with_reducible repeat' (first | assumption | apply State.portRead_keeps | intro _ | split | dsimp only)

theorem State.scanReads_keeps {s0 s : State} (hs : Keeps s0 s) : Keeps s0 (State.scanReads s) := by
  unfold State.scanReads
  with_reducible repeat' (first | assumption | apply State.recReads_keeps | intro _ | split | dsimp only)

theorem State.ssCopy_keeps {s0 s : State} (hs : Keeps s0 s) (r : SsRun) (n : Nat) : Keeps s0 (State.ssCopy s r n) := by
  unfold State.ssCopy
  with_reducible repeat' first
    | assumption | apply State.each_keeps | apply State.wr_keeps | apply State.portRead_keeps | intro _ | split | dsimp only

theorem State.ssShow_keeps {s0 s : State} (hs : Keeps s0 s) : Keeps s0 (State.ssShow s) := by
  unfold State.ssShow
  with_reducible repeat' (first | assumption | apply State.setReg_keeps | apply State.setFld_keeps | intro _ | split | dsimp only)

theorem State.loadReg_keeps {s0 s : State} (hs : Keeps s0 s) (b : Nat) (k : Nat) (i : Nat) : Keeps s0 (State.loadReg s b k i) := by
  unfold State.loadReg
  with_reducible repeat' (first | assumption | apply State.setReg_keeps | apply State.raiseIf_keeps | intro _ | split | dsimp only)

theorem State.fabricLoad_keeps {s0 s : State} (hs : Keeps s0 s) : Keeps s0 (State.fabricLoad s) := by
  unfold State.fabricLoad
  with_reducible repeat' first
    | assumption | apply State.setFld_keeps | apply State.when_keeps | apply State.each_keeps | apply State.loadReg_keeps | intro _ | split
    | dsimp only

theorem State.imgIdle_keeps {s0 s : State} (hs : Keeps s0 s) : Keeps s0 (State.imgIdle s) := by
  unfold State.imgIdle
  with_reducible repeat' first
    | assumption | apply State.setFld_keeps | apply State.each_keeps | apply State.modImg_keeps | intro _ | split | dsimp only

theorem State.imgDrop_keeps {s0 s : State} (hs : Keeps s0 s) : Keeps s0 (State.imgDrop s) := by
  unfold State.imgDrop
  with_reducible repeat' first
    | assumption | apply State.setFld_keeps | apply State.when_keeps | apply State.modImg_keeps | apply State.imgIdle_keeps | intro _ | split
    | dsimp only

theorem State.regsReset_keeps {s0 s : State} (h : Keeps s0 s) (p : Nat → RegRow → Bool) : Keeps s0 (s.regsReset p) := by
  refine Keeps.io h (fun x => smWf_filterMap _ _ _ (fun e y he => ?_) x)
  try dsimp only at he
  split at he
  · split at he
    · split at he
      · exact absurd he (by simp)
      · rename_i hne
        cases he
        exact ⟨rfl, fun _ => hne⟩
    · cases he; exact ⟨rfl, id⟩
  · cases he; exact ⟨rfl, id⟩

theorem State.domRegs_keeps {s0 s : State} (hs : Keeps s0 s) (d : Dom) (lost : Bool) : Keeps s0 (State.domRegs s d lost) := by
  unfold State.domRegs
  with_reducible repeat' (first | assumption | apply State.regsReset_keeps | intro _ | split | dsimp only)

theorem State.fltClear_keeps {s0 s : State} (hs : Keeps s0 s) (b : Nat) : Keeps s0 (State.fltClear s b) := by
  unfold State.fltClear
  with_reducible repeat' first
    | assumption | apply State.modFlt_keeps | apply State.refreshFlt_keeps | apply State.regsReset_keeps | intro _ | split | dsimp only

theorem State.unfenceAll_keeps {s0 s : State} (hs : Keeps s0 s) (b : Nat) : Keeps s0 (State.unfenceAll s b) := by
  unfold State.unfenceAll
  with_reducible repeat' (first | assumption | apply State.modFlt_keeps | intro _ | split | dsimp only)

theorem State.coreStart_keeps {s0 s : State} (hs : Keeps s0 s) (c : Nat) : Keeps s0 (State.coreStart s c) := by
  unfold State.coreStart
  with_reducible repeat' (first | assumption | apply State.reset_keeps | apply State.setCore_keeps | intro _ | split | dsimp only)

theorem State.coreRelease_keeps {s0 s : State} (hs : Keeps s0 s) (c : Nat) : Keeps s0 (State.coreRelease s c) := by
  unfold State.coreRelease
  with_reducible repeat' first
    | assumption | apply State.reset_keeps | apply State.setCore_keeps | apply State.coreStart_keeps | intro _ | split | dsimp only

theorem State.dropAct_keeps {s0 s : State} (hs : Keeps s0 s) : Keeps s0 (State.dropAct s) := by
  unfold State.dropAct
  with_reducible repeat' (first | assumption | (apply Keeps.lit; assumption) | intro _ | split | dsimp only)

theorem State.setThmTheta_keeps {s0 s : State} (hs : Keeps s0 s) (o : Nat) (v : Nat) : Keeps s0 (State.setThmTheta s o v) := by
  unfold State.setThmTheta
  with_reducible repeat' (first | assumption | (apply Keeps.lit; assumption) | intro _ | split | dsimp only)

theorem State.hideAct_keeps {s0 s : State} (hs : Keeps s0 s) : Keeps s0 (State.hideAct s) := by
  unfold State.hideAct
  with_reducible repeat' first
    | assumption | apply State.setFld_keeps | apply State.when_keeps | apply State.each_keeps | apply State.setDescs_keeps | apply State.modAcc_keeps
    | apply State.dropAct_keeps | apply State.setThmTheta_keeps | intro _ | split | dsimp only

theorem State.hideNet_keeps {s0 s : State} (hs : Keeps s0 s) : Keeps s0 (State.hideNet s) := by
  unfold State.hideNet
  with_reducible repeat' (first | assumption | (apply Keeps.lit; assumption) | intro _ | split | dsimp only)

theorem State.hideZsw_keeps {s0 s : State} (hs : Keeps s0 s) : Keeps s0 (State.hideZsw s) := by
  unfold State.hideZsw
  with_reducible repeat' first
    | assumption | (apply Keeps.lit; assumption) | apply State.each_keeps | apply State.setTc10_keeps | intro _ | split | dsimp only

theorem State.orphan_keeps {s0 s : State} (hs : Keeps s0 s) : Keeps s0 (State.orphan s) := by
  unfold State.orphan
  with_reducible repeat' (first | assumption | apply State.setDescs_keeps | intro _ | split | dsimp only)

theorem State.marchAbort_keeps {s0 s : State} (hs : Keeps s0 s) : Keeps s0 (State.marchAbort s) := by
  unfold State.marchAbort
  with_reducible repeat' first
    | assumption | apply State.setFld_keeps | apply State.raise_keeps | apply State.drew_keeps | intro _ | split | dsimp only

theorem State.memCut_keeps {s0 s : State} (hs : Keeps s0 s) : Keeps s0 (State.memCut s) := by
  unfold State.memCut
  with_reducible repeat' first
    | assumption | apply State.setFld_keeps | apply State.raise_keeps | apply State.when_keeps | apply State.modMem_keeps | apply State.ssShow_keeps
    | apply State.marchAbort_keeps | intro _ | split | dsimp only

theorem State.lbistAbort_keeps {s0 s : State} (hs : Keeps s0 s) : Keeps s0 (State.lbistAbort s) := by
  unfold State.lbistAbort
  with_reducible repeat' (first | assumption | apply State.setFld_keeps | apply State.when_keeps | intro _ | split | dsimp only)

theorem State.coreAgain_keeps {s0 s : State} (hs : Keeps s0 s) (c : Nat) : Keeps s0 (State.coreAgain s c) := by
  unfold State.coreAgain
  with_reducible repeat' (first | assumption | apply State.setCore_keeps | apply State.coreRelease_keeps | intro _ | split | dsimp only)

theorem State.resetCoreA_keeps {s0 s : State} (hs : Keeps s0 s) : Keeps s0 (State.resetCoreA s) := by
  unfold State.resetCoreA
  with_reducible repeat' first
    | assumption | apply State.clearTcm_keeps | apply State.domRegs_keeps | apply State.lbistAbort_keeps | apply State.coreAgain_keeps | intro _
    | split | dsimp only

theorem State.resetCoreS_keeps {s0 s : State} (hs : Keeps s0 s) : Keeps s0 (State.resetCoreS s) := by
  unfold State.resetCoreS
  with_reducible repeat' first
    | assumption | apply State.modPw_keeps | apply State.clearTcm_keeps | apply State.domRegs_keeps | apply State.coreStart_keeps | intro _ | split
    | dsimp only

theorem State.resetFabric_keeps {s0 s : State} (hs : Keeps s0 s) : Keeps s0 (State.resetFabric s) := by
  unfold State.resetFabric
  with_reducible repeat' first
    | assumption | apply State.modMem_keeps | apply State.clearRam_keeps | apply State.imgDrop_keeps | apply State.domRegs_keeps
    | apply State.orphan_keeps | apply State.memCut_keeps | apply State.resetCoreA_keeps | apply State.resetCoreS_keeps | intro _ | split
    | dsimp only

theorem State.loseEngines_keeps {s0 s : State} (hs : Keeps s0 s) (p : Nat → Bool) : Keeps s0 (State.loseEngines s p) := by
  unfold State.loseEngines
  with_reducible repeat' (first | assumption | apply State.finishAll_keeps | intro _ | split | dsimp only)

theorem State.resetNet_keeps {s0 s : State} (hs : Keeps s0 s) : Keeps s0 (State.resetNet s) := by
  unfold State.resetNet
  with_reducible repeat' first
    | assumption | apply State.refreshInh_keeps | apply State.domRegs_keeps | apply State.unfenceAll_keeps | apply State.hideNet_keeps
    | apply State.loseEngines_keeps | intro _ | split | dsimp only

theorem State.resetZsw_keeps {s0 s : State} (hs : Keeps s0 s) : Keeps s0 (State.resetZsw s) := by
  unfold State.resetZsw
  with_reducible repeat' first
    | assumption | apply State.domRegs_keeps | apply State.unfenceAll_keeps | apply State.hideZsw_keeps | apply State.loseEngines_keeps | intro _
    | split | dsimp only

theorem State.domReset_keeps {s0 s : State} (hs : Keeps s0 s) (d : Dom) : Keeps s0 (State.domReset s d) := by
  unfold State.domReset
  with_reducible repeat' first
    | assumption | apply State.resetCoreA_keeps | apply State.resetCoreS_keeps | apply State.resetFabric_keeps | apply State.resetNet_keeps
    | apply State.resetZsw_keeps | intro _ | split | dsimp only

theorem State.accFabricReset_keeps {s0 s : State} (hs : Keeps s0 s) : Keeps s0 (State.accFabricReset s) := by
  unfold State.accFabricReset
  with_reducible repeat' first
    | assumption | apply State.modAcc_keeps | apply State.learnEnd_keeps | apply State.presClose_keeps | intro _ | split | dsimp only

theorem State.modReset_keeps {s0 s : State} (hs : Keeps s0 s) (cause : Nat) : Keeps s0 (State.modReset s cause) := by
  unfold State.modReset
  with_reducible repeat' first
    | assumption | apply State.reset_keeps | apply State.setFld_keeps | apply State.modFlt_keeps | apply State.modRng_keeps | apply State.modPw_keeps
    | apply State.modImg_keeps | apply State.modBrc_keeps | apply State.setCore_keeps | apply State.driveFltn_keeps | apply State.setDescs_keeps
    | apply State.refreshInh_keeps | apply State.modMem_keeps | apply State.clearTcm_keeps | apply State.clearRam_keeps | apply State.clearSeq_keeps
    | apply State.regsReset_keeps | apply State.coreStart_keeps | apply State.hideAct_keeps | apply State.hideNet_keeps | apply State.hideZsw_keeps
    | apply State.accFabricReset_keeps | intro _ | split | dsimp only

theorem State.fenceDescs_keeps {s0 s : State} (hs : Keeps s0 s) (e : Nat) (t : Nat) : Keeps s0 (State.fenceDescs s e t) := by
  unfold State.fenceDescs
  with_reducible repeat' (first | assumption | apply State.finishAll_keeps | intro _ | split | dsimp only)

theorem State.fenceThread_keeps {s0 s : State} (hs : Keeps s0 s) (e : Nat) (t : Nat) : Keeps s0 (State.fenceThread s e t) := by
  unfold State.fenceThread
  with_reducible repeat' (first | assumption | apply State.setOval_keeps | apply State.stopThread_keeps | intro _ | split | dsimp only)

theorem State.fenceTarget_keeps {s0 s : State} (hs : Keeps s0 s) (e : Nat) (t : Nat) : Keeps s0 (State.fenceTarget s e t) := by
  unfold State.fenceTarget
  with_reducible repeat' first
    | assumption | apply State.hscFinish_keeps | apply State.hscOffAs_keeps | apply State.modMt_keeps | apply State.setMst_keeps
    | apply State.setMdir_keeps | apply State.motCut_keeps | apply State.vlvCut_keeps | apply State.vlvDown_keeps | apply State.vlvTake_keeps
    | apply State.bankOffTo_keeps | apply State.luxCut_keeps | apply State.luxDown_keeps | apply State.loopOff_keeps | apply State.loopLost_keeps
    | apply State.pxStop_keeps | apply State.lfFence_keeps | apply State.fenceDescs_keeps | apply State.fenceThread_keeps | intro _ | split
    | dsimp only

theorem State.freezeGroup_keeps {s0 s : State} (hs : Keeps s0 s) (n : Nat) : Keeps s0 (State.freezeGroup s n) := by
  unfold State.freezeGroup
  with_reducible repeat' first
    | assumption | (apply Keeps.lit; assumption) | apply State.setFld_keeps | apply State.each_keeps | apply State.modThr_keeps
    | apply State.setThrSt_keeps | apply State.setOval_keeps | intro _ | split | dsimp only

theorem State.fenceOutputs_keeps {s0 s : State} (hs : Keeps s0 s) (l : List Nat) (last : Bool) : Keeps s0 (State.fenceOutputs s l last) := by
  unfold State.fenceOutputs
  with_reducible repeat' first
    | assumption | apply State.each_keeps | apply State.modFlt_keeps | apply State.markFenced_keeps | apply State.fenceTarget_keeps | intro _ | split
    | dsimp only

theorem State.fenceUnit_keeps {s0 s : State} (hs : Keeps s0 s) (u : FUnit) : Keeps s0 (State.fenceUnit s u) := by
  unfold State.fenceUnit
  with_reducible repeat' first
    | assumption | apply State.setFld_keeps | apply State.modCore_keeps | apply State.memFence_keeps | apply State.ethFence_keeps
    | apply State.netFence_keeps | apply State.psOff_keeps | apply State.adcFail_keeps | apply State.fenceTarget_keeps
    | apply State.freezeGroup_keeps | apply State.fenceOutputs_keeps | intro _ | split | dsimp only

theorem State.fence_keeps {s0 s : State} (hs : Keeps s0 s) (b : Nat) (k : Nat) (i : Nat) (u : FUnit) : Keeps s0 (State.fence s b k i u) := by
  unfold State.fence
  with_reducible repeat' first
    | assumption | apply State.when_keeps | apply State.modFlt_keeps | apply State.markFenced_keeps | apply State.fenceNote_keeps
    | apply State.fenceUnit_keeps | intro _ | split | dsimp only

theorem State.deep_keeps {s0 s : State} (hs : Keeps s0 s) (b : Nat) (k : Nat) (i : Nat) (lv : Nat) : Keeps s0 (State.deep s b k i lv) := by
  unfold State.deep
  with_reducible repeat' first
    | assumption | apply State.setReg_keeps | apply State.setFld_keeps | apply State.count_keeps | apply State.when_keeps | intro _ | split
    | dsimp only

theorem State.follow_keeps {s0 s : State} (hs : Keeps s0 s) (l : List Nat) (note : Nat → State → State) (hnote : ∀ (a0 : Nat) (a1 : State), Keeps
    s0 a1 → Keeps s0 (note a0 a1)) : Keeps s0 (State.follow s l note) := by
  unfold State.follow
  with_reducible repeat' first
    | assumption | apply State.when_keeps | apply State.each_keeps | apply State.hscFollow_keeps | apply State.motFollow_keeps
    | apply State.luxFollow_keeps | apply hnote | intro _ | split | dsimp only

theorem State.limpEngage_keeps {s0 s : State} (hs : Keeps s0 s) (causes : Nat) : Keeps s0 (State.limpEngage s causes) := by
  unfold State.limpEngage
  with_reducible repeat' first
    | assumption | apply State.setFld_keeps | apply State.raise_keeps | apply State.traceA_keeps | apply State.logRecord_keeps
    | apply State.modInp_keeps | apply State.follow_keeps | intro _ | split | dsimp only

theorem State.safeState_keeps {s0 s : State} (hs : Keeps s0 s) : Keeps s0 (State.safeState s) := by
  unfold State.safeState
  with_reducible repeat' first
    | assumption | apply State.reset_keeps | apply State.setFld_keeps | apply State.each_keeps | apply State.modFlt_keeps | apply State.modCore_keeps
    | apply State.traceA_keeps | apply State.driveFltn_keeps | apply State.finishAll_keeps | apply State.setTcvr_keeps | apply State.brYield_keeps
    | apply State.limpEngage_keeps | intro _ | split | dsimp only

theorem State.levelAct_keeps {s0 s : State} (hs : Keeps s0 s) (b : Nat) (k : Nat) (i : Nat) (lv : Nat) : Keeps s0 (State.levelAct s b k i lv) := by
  unfold State.levelAct
  with_reducible repeat' first
    | assumption | apply State.domReset_keeps | apply State.deep_keeps | apply State.safeState_keeps | intro _ | split | dsimp only

theorem State.recordAt_keeps {s0 s : State} (hs : Keeps s0 s) (b : Nat) (k : Nat) (i : Nat) (t : Nat) : Keeps s0 (State.recordAt s b k i t) := by
  unfold State.recordAt
  with_reducible repeat' first
    | assumption | apply State.logRecAt_keeps | apply State.fence_keeps | apply State.levelAct_keeps | intro _ | split | dsimp only

theorem State.record_keeps {s0 s : State} (hs : Keeps s0 s) (b : Nat) (k : Nat) (i : Nat) : Keeps s0 (State.record s b k i) := by
  unfold State.record
  with_reducible repeat' (first | assumption | apply State.recordAt_keeps | intro _ | split | dsimp only)

theorem State.outputOff_keeps {s0 s : State} (hs : Keeps s0 s) (n : Nat) : Keeps s0 (State.outputOff s n) := by
  unfold State.outputOff
  with_reducible repeat' first
    | assumption | apply State.setOval_keeps | apply State.hscOffAs_keeps | apply State.setMst_keeps | apply State.motBrake_keeps
    | apply State.motApply_keeps | apply State.vlvDecay_keeps | apply State.luxApply_keeps | intro _ | split | dsimp only

theorem State.outputFenced_keeps {s0 s : State} (hs : Keeps s0 s) (n : Nat) : Keeps s0 (State.outputFenced s n) := by
  unfold State.outputFenced
  with_reducible repeat' (first | assumption | apply State.finishAll_keeps | apply State.hscFinish_keeps | intro _ | split | dsimp only)

theorem State.progFault_keeps {s0 s : State} (hs : Keeps s0 s) (n : Nat) (cause : Nat) : Keeps s0 (State.progFault s n cause) := by
  unfold State.progFault
  with_reducible repeat' first
    | assumption | apply State.setFld_keeps | apply State.raise_keeps | apply State.when_keeps | apply State.setThrSt_keeps
    | apply State.stopThread_keeps | apply State.record_keeps | apply State.outputOff_keeps | apply State.outputFenced_keeps | intro _ | split
    | dsimp only

theorem State.launch_keeps {s0 s : State} (hs : Keeps s0 s) (n : Nat) (e : Nat) (q0 : Nat) (q1 : Nat) (q2 : Nat) : Keeps s0 (State.launch s n e q0
    q1 q2) := by
  unfold State.launch
  with_reducible repeat' (first | assumption | apply State.startThread_keeps | apply State.progFault_keeps | intro _ | split | dsimp only)

theorem State.ioFlag_keeps {s0 s : State} (hs : Keeps s0 s) (c : Nat) (rsv : Bool) (a : Nat) : Keeps s0 (State.ioFlag s c rsv a) := by
  unfold State.ioFlag
  with_reducible repeat' first
    | assumption | apply State.setReg_keeps | apply State.raise_keeps | apply State.when_keeps | apply State.record_keeps | intro _ | split
    | dsimp only

theorem State.unwarm_keeps {s0 s : State} (hs : Keeps s0 s) (d : Desc) (undo : State → State) (hundo : ∀ (a0 : State), Keeps s0 a0 → Keeps s0 (undo
    a0)) : Keeps s0 (State.unwarm s d undo) := by
  unfold State.unwarm
  with_reducible repeat' (first | assumption | simp only [id] | apply hundo | intro _ | split | dsimp only)

theorem State.keepReady_keeps {s0 s : State} (hs : Keeps s0 s) (d : Desc) (undo : State → State) (f : State → State) (hundo : ∀ (a0 : State), Keeps
    s0 a0 → Keeps s0 (undo a0)) (hf : ∀ (a0 : State), Keeps s0 a0 → Keeps s0 (f a0)) : Keeps s0 (State.keepReady s d undo f) := by
  unfold State.keepReady
  with_reducible repeat' first
    | assumption | apply State.finish_keeps | apply State.unwarm_keeps | apply hundo | apply hf | intro _ | split | dsimp only

theorem State.confSupersede_keeps {s0 s : State} (hs : Keeps s0 s) (d : Desc) : Keeps s0 (State.confSupersede s d) := by
  unfold State.confSupersede
  with_reducible repeat' (first | assumption | apply State.finishAll_keeps | simp only [id] | intro _ | split | dsimp only)

theorem State.actReady_keeps {s0 s : State} (hs : Keeps s0 s) (e : Nat) (op : Nat) (r : Nat) (i : Nat) (undo : Desc → State → State) (f : Desc →
    State → State) (hundo : ∀ (a0 : Desc) (a1 : State), Keeps s0 a1 → Keeps s0 (undo a0 a1)) (hf : ∀ (a0 : Desc) (a1 : State), Keeps s0 a1 → Keeps
        s0 (f a0 a1)) : Keeps s0 (State.actReady s e op r i undo f) := by
  unfold State.actReady
  with_reducible repeat' first
    | assumption | apply State.onReady_keeps | apply State.keepReady_keeps | apply State.confSupersede_keeps | apply hundo | apply hf | intro _
    | split | dsimp only

end Sys2Proof.Machine
end

