-- ==== Sys2Proof/Laws/KeepUnits.lean ====
section
/-! SUPPORT. What the engines, the buses, the switch and the inputs keep: the canonical form of the register file and of the memories, and the queue. -/

set_option linter.unusedTactic false
set_option linter.unreachableTactic false
set_option linter.unusedSimpArgs false

namespace Sys2Proof.Machine

theorem State.lfSupersede_keeps {s0 s : State} (hs : Keeps s0 s) (c : Nat) : Keeps s0 (State.lfSupersede s c) := by
  unfold State.lfSupersede
  with_reducible repeat' (first | assumption | apply State.provEnd_keeps | intro _ | split | dsimp only)

theorem lfField_keeps {s0 s : State} (hs : Keeps s0 s) (d : Desc) : Keeps s0 (lfField d s) := by
  unfold lfField
  with_reducible repeat' first
    | assumption | apply State.lfStart_keeps | apply State.confSupersede_keeps | apply State.lfSupersede_keeps | intro _ | split | dsimp only

theorem lfAccess_keeps {s0 s : State} (hs : Keeps s0 s) (d : Desc) : Keeps s0 (lfAccess d s) := by
  unfold lfAccess
  with_reducible repeat' first
    | assumption | apply State.finish_keeps | apply State.startDesc_keeps | apply State.modLf_keeps | apply State.lfSendMac_keeps
    | apply State.lfSupersede_keeps | simp only [id] | intro _ | split | dsimp only

theorem lfClear_keeps {s0 s : State} (hs : Keeps s0 s) (d : Desc) : Keeps s0 (lfClear d s) := by
  unfold lfClear
  with_reducible repeat' first
    | assumption | apply State.finish_keeps | apply State.finishDone_keeps | apply State.modLf_keeps | intro _ | split | dsimp only

theorem lfEndCmd_keeps {s0 s : State} (hs : Keeps s0 s) (d : Desc) : Keeps s0 (lfEndCmd d s) := by
  unfold lfEndCmd
  with_reducible repeat' first
    | assumption | apply State.when_keeps | apply State.finishDone_keeps | apply State.lfSleep_keeps | apply State.lfSupersede_keeps | intro _
    | split | dsimp only

theorem State.keyFailed_keeps {s0 s : State} (hs : Keeps s0 s) (c : Nat) : Keeps s0 (State.keyFailed s c) := by
  unfold State.keyFailed
  with_reducible repeat' first
    | assumption | apply State.raise_keeps | apply State.lfEvt_keeps | apply State.record_keeps | intro _ | split | dsimp only

theorem State.lfFail_keeps {s0 s : State} (hs : Keeps s0 s) (c : Nat) (st : Nat) : Keeps s0 (State.lfFail s c st) := by
  unfold State.lfFail
  with_reducible repeat' (first | assumption | apply State.lfSleep_keeps | intro _ | split | dsimp only)

theorem State.lfRetry_keeps {s0 s : State} (hs : Keeps s0 s) (c : Nat) : Keeps s0 (State.lfRetry s c) := by
  unfold State.lfRetry
  with_reducible repeat' first
    | assumption | apply State.modLf_keeps | apply State.lfSend_keeps | apply State.lfWake_keeps | apply State.keyFailed_keeps
    | apply State.lfFail_keeps | simp only [id] | intro _ | split | dsimp only

theorem State.lfChallenge_keeps {s0 s : State} (hs : Keeps s0 s) (c : Nat) (id : Nat) (slot : Nat) (key : Nat) : Keeps s0 (State.lfChallenge s c id
    slot key) := by
  unfold State.lfChallenge
  with_reducible repeat' first
    | assumption | apply State.modLf_keeps | apply State.drewN_keeps | apply State.lfSend_keeps | apply State.lfFail_keeps | simp only [id] | intro _
    | split | dsimp only

theorem State.lfWinner_keeps {s0 s : State} (hs : Keeps s0 s) (c : Nat) (id : Nat) : Keeps s0 (State.lfWinner s c id) := by
  unfold State.lfWinner
  with_reducible repeat' first
    | assumption | apply State.modLf_keeps | apply State.lfFail_keeps | apply State.lfRetry_keeps | apply State.lfChallenge_keeps | simp only [id]
    | intro _ | split | dsimp only

theorem State.lfAnswer_keeps {s0 s : State} (hs : Keeps s0 s) (c : Nat) (ofs : BitVec 32) : Keeps s0 (State.lfAnswer s c ofs) := by
  unfold State.lfAnswer
  with_reducible repeat' first
    | assumption | apply State.setReg_keeps | apply State.raise_keeps | apply State.when_keeps | apply State.lfEvt_keeps | apply State.record_keeps
    | intro _ | split | dsimp only

theorem idrep_keeps {s0 s : State} (hs : Keeps s0 s) (c : Nat) (id : Nat) (viol : Nat) (crc : Nat) (ofs : BitVec 32) : Keeps s0 (idrep c id viol
    crc ofs s) := by
  unfold idrep
  with_reducible repeat' first
    | assumption | apply State.raise_keeps | apply State.modLf_keeps | apply State.lfEvt_keeps | apply State.lfSend_keeps | apply State.lfFail_keeps
    | apply State.lfRetry_keeps | apply State.lfWinner_keeps | apply State.lfAnswer_keeps | simp only [id] | intro _ | split | dsimp only

theorem authrep_keeps {s0 s : State} (hs : Keeps s0 s) (c : Nat) (rk : Nat) (tk : Nat) (crc : Nat) (ofs : BitVec 32) : Keeps s0 (authrep c rk tk
    crc ofs s) := by
  unfold authrep
  with_reducible repeat' first
    | assumption | apply State.modLf_keeps | apply State.lfSend_keeps | apply State.lfRetry_keeps | apply State.lfAnswer_keeps
    | apply State.confirm_keeps | intro _ | split | dsimp only

theorem State.searchDone_keeps {s0 s : State} (hs : Keeps s0 s) (c : Nat) (d : Desc) : Keeps s0 (State.searchDone s c d) := by
  unfold State.searchDone
  with_reducible repeat' first
    | assumption | apply State.when_keeps | apply State.wr_keeps | apply State.finishDone_keeps | apply State.modAcc_keeps | apply State.modLf_keeps
    | apply State.lfEvt_keeps | apply State.lfSleep_keeps | simp only [id] | intro _ | split | dsimp only

theorem State.authAck_keeps {s0 s : State} (hs : Keeps s0 s) (c : Nat) : Keeps s0 (State.authAck s c) := by
  unfold State.authAck
  with_reducible repeat' first
    | assumption | apply State.modLf_keeps | apply State.drewN_keeps | apply State.lfSendMac_keeps | apply State.lfFail_keeps
    | apply State.searchDone_keeps | intro _ | split | dsimp only

theorem State.learnAck_keeps {s0 s : State} (hs : Keeps s0 s) (c : Nat) : Keeps s0 (State.learnAck s c) := by
  unfold State.learnAck
  with_reducible repeat' first
    | assumption | apply State.setFld_keeps | apply State.setKeySlot_keeps | apply State.lfSleep_keeps | apply State.lfFail_keeps | simp only [id]
    | intro _ | split | dsimp only

theorem keyAck_keeps {s0 s : State} (hs : Keeps s0 s) (c : Nat) (status : Nat) (crc : Nat) (ofs : BitVec 32) : Keeps s0 (keyAck c status crc ofs s)
    := by
  unfold keyAck
  with_reducible repeat' first
    | assumption | apply State.modLf_keeps | apply State.lfFinish_keeps | apply State.lfSleep_keeps | apply State.lfRetry_keeps
    | apply State.lfAnswer_keeps | apply State.authAck_keeps | apply State.learnAck_keeps | apply State.confirm_keeps | intro _ | split | dsimp only

theorem keyData_keeps {s0 s : State} (hs : Keeps s0 s) (c : Nat) (data : Nat) (mac : Nat) (crc : Nat) (ofs : BitVec 32) : Keeps s0 (keyData c data
    mac crc ofs s) := by
  unfold keyData
  with_reducible repeat' first
    | assumption | apply State.when_keeps | apply State.wr_keeps | apply State.modLf_keeps | apply State.lfFinish_keeps | apply State.lfSleep_keeps
    | apply State.lfAnswer_keeps | intro _ | split | dsimp only

theorem keyNoAnswer_keeps {s0 s : State} (hs : Keeps s0 s) (c : Nat) : Keeps s0 (keyNoAnswer c s) := by
  unfold keyNoAnswer
  with_reducible repeat' (first | assumption | apply State.lfSleep_keeps | apply State.lfFail_keeps | intro _ | split | dsimp only)

theorem sessionHoldEnd_keeps {s0 s : State} (hs : Keeps s0 s) (c : Nat) : Keeps s0 (sessionHoldEnd c s) := by
  unfold sessionHoldEnd
  with_reducible repeat' (first | assumption | apply State.lfSleep_keeps | intro _ | split | dsimp only)

theorem sessionTimeout_keeps {s0 s : State} (hs : Keeps s0 s) (c : Nat) : Keeps s0 (sessionTimeout c s) := by
  unfold sessionTimeout
  with_reducible repeat' (first | assumption | apply State.lfSleep_keeps | apply State.confirm_keeps | intro _ | split | dsimp only)

theorem lfShort_keeps {s0 s : State} (hs : Keeps s0 s) (c : Nat) : Keeps s0 (lfShort c s) := by
  unfold lfShort
  with_reducible repeat' first
    | assumption | apply State.modLf_keeps | apply State.lfEvt_keeps | apply State.lfEnd_keeps | apply State.record_keeps | intro _ | split
    | dsimp only

theorem lfAntennaOpen_keeps {s0 s : State} (hs : Keeps s0 s) (c : Nat) : Keeps s0 (lfAntennaOpen c s) := by
  unfold lfAntennaOpen
  with_reducible repeat' first
    | assumption | apply State.lfEvt_keeps | apply State.lfEnd_keeps | apply State.record_keeps | intro _ | split | dsimp only

theorem lfHot_keeps {s0 s : State} (hs : Keeps s0 s) (c : Nat) : Keeps s0 (lfHot c s) := by
  unfold lfHot
  with_reducible repeat' first
    | assumption | apply State.raise_keeps | apply State.when_keeps | apply State.modLf_keeps | apply State.lfEvt_keeps | apply State.lfEnd_keeps
    | apply State.record_keeps | intro _ | split | dsimp only

theorem lfCool_keeps {s0 s : State} (hs : Keeps s0 s) (c : Nat) : Keeps s0 (lfCool c s) := by
  unfold lfCool
  with_reducible repeat' (first | assumption | apply State.modLf_keeps | intro _ | split | dsimp only)

theorem lfDiagDone_keeps {s0 s : State} (hs : Keeps s0 s) (c : Nat) (code : Nat) (ant : Nat) : Keeps s0 (lfDiagDone c code ant s) := by
  unfold lfDiagDone
  with_reducible repeat' first
    | assumption | apply State.setFld_keeps | apply State.lfEnd_keeps | apply lfShort_keeps | apply lfAntennaOpen_keeps | intro _ | split
    | dsimp only

theorem State.enrolResult_keeps {s0 s : State} (hs : Keeps s0 s) (r : Nat) : Keeps s0 (State.enrolResult s r) := by
  unfold State.enrolResult
  with_reducible repeat' (first | assumption | apply State.setFld_keeps | apply State.modAcc_keeps | intro _ | split | dsimp only)

theorem State.authority_keeps {s0 s : State} (hs : Keeps s0 s) (token : Bool) (op : Nat) (slot : Nat) : Keeps s0 (State.authority s token op
    slot).1 := by
  unfold State.authority
  with_reducible repeat' first
    | assumption | apply State.when_keeps | apply State.modAcc_keeps | apply State.record_keeps | intro _ | split | dsimp only

theorem State.authority_keeps_eq {s0 s : State} {token : Bool} {op : Nat} {slot : Nat} {u : State} {y : Nat} (e : State.authority s token op slot =
    (u, y)) (hs : Keeps s0 s) : Keeps s0 u := by
  have k := State.authority_keeps hs token op slot
  rw [e] at k
  exact k

theorem State.learnOpen_keeps {s0 s : State} (hs : Keeps s0 s) : Keeps s0 (State.learnOpen s) := by
  unfold State.learnOpen
  with_reducible repeat' first
    | assumption | apply State.setFld_keeps | apply State.each_keeps | apply State.modAcc_keeps | apply State.modLf_keeps | intro _ | split
    | dsimp only

theorem State.learnCmd_keeps {s0 s : State} (hs : Keeps s0 s) (token : Bool) : Keeps s0 (State.learnCmd s token) := by
  unfold State.learnCmd
  with_reducible repeat' first
    | assumption | apply State.when_keeps | apply State.enrolResult_keeps | apply State.authority_keeps
    | (refine State.authority_keeps_eq (by assumption) ?_) | apply State.learnOpen_keeps | intro _ | split | dsimp only

theorem State.revokeCmd_keeps {s0 s : State} (hs : Keeps s0 s) (token : Bool) (k : Nat) : Keeps s0 (State.revokeCmd s token k) := by
  unfold State.revokeCmd
  with_reducible repeat' first
    | assumption | apply State.setKeySlot_keeps | apply State.slotTouched_keeps | apply State.enrolResult_keeps | apply State.authority_keeps
    | (refine State.authority_keeps_eq (by assumption) ?_) | intro _ | split | dsimp only

theorem State.closeCmd_keeps {s0 s : State} (hs : Keeps s0 s) : Keeps s0 (State.closeCmd s) := by
  unfold State.closeCmd
  with_reducible repeat' (first | assumption | apply State.learnEnd_keeps | apply State.enrolResult_keeps | intro _ | split | dsimp only)

theorem State.ownerCmd_keeps {s0 s : State} (hs : Keeps s0 s) (b : Bool) : Keeps s0 (State.ownerCmd s b) := by
  unfold State.ownerCmd
  with_reducible repeat' (first | assumption | apply State.modAcc_keeps | apply State.enrolResult_keeps | intro _ | split | dsimp only)

theorem State.nonceCmd_keeps {s0 s : State} (hs : Keeps s0 s) : Keeps s0 (State.nonceCmd s) := by
  unfold State.nonceCmd
  with_reducible repeat' first
    | assumption | apply State.setReg_keeps | apply State.each_keeps | apply State.modAcc_keeps | apply State.drewN_keeps
    | apply State.enrolResult_keeps | intro _ | split | dsimp only

theorem State.dbgCmd_keeps {s0 s : State} (hs : Keeps s0 s) : Keeps s0 (State.dbgCmd s) := by
  unfold State.dbgCmd
  with_reducible repeat' (first | assumption | apply State.setFld_keeps | apply State.enrolResult_keeps | intro _ | split | dsimp only)

theorem State.enrolCmd_keeps {s0 s : State} (hs : Keeps s0 s) (cmd : Nat) (slot : Nat) : Keeps s0 (State.enrolCmd s cmd slot) := by
  unfold State.enrolCmd
  with_reducible repeat' first
    | assumption | apply State.learnCmd_keeps | apply State.revokeCmd_keeps | apply State.closeCmd_keeps | apply State.ownerCmd_keeps
    | apply State.nonceCmd_keeps | apply State.dbgCmd_keeps | intro _ | split | dsimp only

theorem State.presProof_keeps {s0 s : State} (hs : Keeps s0 s) (src : Nat) : Keeps s0 (State.presProof s src) := by
  unfold State.presProof
  with_reducible repeat' first
    | assumption | apply State.setFld_keeps | apply State.count_keeps | apply State.modAcc_keeps | intro _ | split | dsimp only

theorem State.kstoreRun_keeps {s0 s : State} (hs : Keeps s0 s) (r : Nat) : Keeps s0 (State.kstoreRun s r) := by
  unfold State.kstoreRun
  with_reducible repeat' (first | assumption | apply State.setFld_keeps | apply State.modAcc_keeps | intro _ | split | dsimp only)

theorem State.setEntry_keeps {s0 s : State} (hs : Keeps s0 s) (e : Nat) (v : Nat) : Keeps s0 (State.setEntry s e v) := by
  unfold State.setEntry
  with_reducible repeat' first
    | assumption | apply State.setFld_keeps | apply State.when_keeps | apply State.modAcc_keeps | apply State.store_keeps | intro _ | split
    | dsimp only

theorem State.loadCmd_keeps {s0 s : State} (hs : Keeps s0 s) (e : Nat) : Keeps s0 (State.loadCmd s e) := by
  unfold State.loadCmd
  with_reducible repeat' first
    | assumption | apply State.drewN_keeps | apply State.kstoreRun_keeps | apply State.setEntry_keeps | intro _ | split | dsimp only

theorem State.rotateCmd_keeps {s0 s : State} (hs : Keeps s0 s) (e : Nat) : Keeps s0 (State.rotateCmd s e) := by
  unfold State.rotateCmd
  with_reducible repeat' (first | assumption | apply State.kstoreRun_keeps | apply State.setEntry_keeps | intro _ | split | dsimp only)

theorem State.loadtrCmd_keeps {s0 s : State} (hs : Keeps s0 s) : Keeps s0 (State.loadtrCmd s) := by
  unfold State.loadtrCmd
  with_reducible repeat' first
    | assumption | apply State.drewN_keeps | apply State.kstoreRun_keeps | apply State.setEntry_keeps | intro _ | split | dsimp only

theorem State.keyCmd_keeps {s0 s : State} (hs : Keeps s0 s) (cmd : Nat) (e : Nat) : Keeps s0 (State.keyCmd s cmd e) := by
  unfold State.keyCmd
  with_reducible repeat' first
    | assumption | apply State.loadCmd_keeps | apply State.rotateCmd_keeps | apply State.loadtrCmd_keeps | intro _ | split | dsimp only

theorem State.cryptoRun_keeps {s0 s : State} (hs : Keeps s0 s) (r : Nat) : Keeps s0 (State.cryptoRun s r) := by
  unfold State.cryptoRun
  with_reducible repeat' (first | assumption | apply State.setFld_keeps | apply State.modAcc_keeps | intro _ | split | dsimp only)

theorem State.aesCmd_keeps {s0 s : State} (hs : Keeps s0 s) (dec : Bool) (long : Bool) : Keeps s0 (State.aesCmd s dec long) := by
  unfold State.aesCmd
  with_reducible repeat' first
    | assumption | apply State.putBytes_keeps | apply State.drewN_keeps | apply State.cryptoRun_keeps | intro _ | split | dsimp only

theorem State.cmacCmd_keeps {s0 s : State} (hs : Keeps s0 s) : Keeps s0 (State.cmacCmd s) := by
  unfold State.cmacCmd
  with_reducible repeat' (first | assumption | apply State.putBytes_keeps | apply State.cryptoRun_keeps | intro _ | split | dsimp only)

theorem State.shaCmd_keeps {s0 s : State} (hs : Keeps s0 s) : Keeps s0 (State.shaCmd s) := by
  unfold State.shaCmd
  with_reducible repeat' (first | assumption | apply State.putBytes_keeps | apply State.cryptoRun_keeps | intro _ | split | dsimp only)

theorem State.ecdsaCmd_keeps {s0 s : State} (hs : Keeps s0 s) : Keeps s0 (State.ecdsaCmd s) := by
  unfold State.ecdsaCmd
  with_reducible repeat' (first | assumption | apply State.cryptoRun_keeps | intro _ | split | dsimp only)

theorem State.randomCmd_keeps {s0 s : State} (hs : Keeps s0 s) : Keeps s0 (State.randomCmd s) := by
  unfold State.randomCmd
  with_reducible repeat' first
    | assumption | apply State.putBytes_keeps | apply State.drewN_keeps | apply State.cryptoRun_keeps | intro _ | split | dsimp only

theorem State.cryptoCmd_keeps {s0 s : State} (hs : Keeps s0 s) (op : Nat) (long : Bool) : Keeps s0 (State.cryptoCmd s op long) := by
  unfold State.cryptoCmd
  with_reducible repeat' first
    | assumption | apply State.aesCmd_keeps | apply State.cmacCmd_keeps | apply State.shaCmd_keeps | apply State.ecdsaCmd_keeps
    | apply State.randomCmd_keeps | intro _ | split | dsimp only

theorem cryptoDone_keeps {s0 s : State} (hs : Keeps s0 s) : Keeps s0 (cryptoDone s) := by
  unfold cryptoDone
  with_reducible repeat' (first | assumption | apply State.setFld_keeps | apply State.modAcc_keeps | intro _ | split | dsimp only)

theorem trngHealthFail_keeps {s0 s : State} (hs : Keeps s0 s) : Keeps s0 (trngHealthFail s) := by
  unfold trngHealthFail
  with_reducible repeat' (first | assumption | apply State.record_keeps | intro _ | split | dsimp only)

theorem State.accForced_keeps {s0 s : State} (hs : Keeps s0 s) : Keeps s0 (State.accForced s) := by
  unfold State.accForced
  with_reducible repeat' first
    | assumption | apply State.each_keeps | apply State.finishAll_keeps | apply State.lfEnd_keeps | apply State.learnEnd_keeps | intro _ | split
    | dsimp only

theorem execSearch_keeps (r : Fin 64) (i : Fin 1024) (s : State) : ∃ u, execSearch r i s = .next u ∧ Keeps s u := by
  refine ⟨_, rfl, ?_⟩
  have h := Keeps.refl s
  with_reducible repeat' first
    | assumption | apply inDom_keeps | apply lfShown_keeps | apply State.actReady_keeps | apply lfField_keeps | intro _ | split | dsimp only

theorem execReadpg_keeps (r : Fin 64) (i : Fin 1024) (s : State) : ∃ u, execReadpg r i s = .next u ∧ Keeps s u := by
  refine ⟨_, rfl, ?_⟩
  have h := Keeps.refl s
  with_reducible repeat' first
    | assumption | apply inDom_keeps | apply lfShown_keeps | apply State.actReady_keeps | apply lfAccess_keeps | intro _ | split | dsimp only

theorem execWritepg_keeps (r : Fin 64) (i : Fin 1024) (s : State) : ∃ u, execWritepg r i s = .next u ∧ Keeps s u := by
  refine ⟨_, rfl, ?_⟩
  have h := Keeps.refl s
  with_reducible repeat' first
    | assumption | apply inDom_keeps | apply lfShown_keeps | apply State.actReady_keeps | apply lfAccess_keeps | intro _ | split | dsimp only

theorem execLearn_keeps (r : Fin 64) (i : Fin 1024) (s : State) : ∃ u, execLearn r i s = .next u ∧ Keeps s u := by
  refine ⟨_, rfl, ?_⟩
  have h := Keeps.refl s
  with_reducible repeat' first
    | assumption | apply inDom_keeps | apply lfShown_keeps | apply State.actReady_keeps | apply lfField_keeps | intro _ | split | dsimp only

theorem execLfDiag_keeps (r : Fin 64) (i : Fin 1024) (s : State) : ∃ u, execLfDiag r i s = .next u ∧ Keeps s u := by
  refine ⟨_, rfl, ?_⟩
  have h := Keeps.refl s
  with_reducible repeat' first
    | assumption | apply inDom_keeps | apply lfShown_keeps | apply State.actReady_keeps | apply lfField_keeps | intro _ | split | dsimp only

theorem execLfClear_keeps (r : Fin 64) (i : Fin 1024) (s : State) : ∃ u, execLfClear r i s = .next u ∧ Keeps s u := by
  refine ⟨_, rfl, ?_⟩
  have h := Keeps.refl s
  with_reducible repeat' first
    | assumption | apply inDom_keeps | apply lfShown_keeps | apply State.actReady_keeps | apply lfClear_keeps | intro _ | split | dsimp only

theorem execLfEnd_keeps (r : Fin 64) (i : Fin 1024) (s : State) : ∃ u, execLfEnd r i s = .next u ∧ Keeps s u := by
  refine ⟨_, rfl, ?_⟩
  have h := Keeps.refl s
  with_reducible repeat' first
    | assumption | apply inDom_keeps | apply lfShown_keeps | apply State.actReady_keeps | apply lfEndCmd_keeps | intro _ | split | dsimp only

theorem execIdrep_keeps (c : Fin 4) (id : BitVec 32) (viol : BitVec 32) (crc : Byte) (ofs : BitVec 32) (s : State) : ∃ u, execIdrep c id viol crc
    ofs s = .next u ∧ Keeps s u := by
  refine ⟨_, rfl, ?_⟩
  have h := Keeps.refl s
  with_reducible repeat' first
    | assumption | apply inDom_keeps | apply lfShown_keeps | apply idrep_keeps | simp only [id] | intro _ | split | dsimp only

theorem execAuthrep_keeps (c : Fin 4) (rk : BitVec 64) (tk : BitVec 64) (crc : Byte) (ofs : BitVec 32) (s : State) : ∃ u, execAuthrep c rk tk crc
    ofs s = .next u ∧ Keeps s u := by
  refine ⟨_, rfl, ?_⟩
  have h := Keeps.refl s
  with_reducible repeat' (first | assumption | apply inDom_keeps | apply lfShown_keeps | apply authrep_keeps | intro _ | split | dsimp only)

theorem execKeyAck_keeps (c : Fin 4) (status : Byte) (crc : Byte) (ofs : BitVec 32) (s : State) : ∃ u, execKeyAck c status crc ofs s = .next u ∧
    Keeps s u := by
  refine ⟨_, rfl, ?_⟩
  have h := Keeps.refl s
  with_reducible repeat' (first | assumption | apply inDom_keeps | apply lfShown_keeps | apply keyAck_keeps | intro _ | split | dsimp only)

theorem execKeyData_keeps (c : Fin 4) (data : BitVec 32) (mac : BitVec 32) (crc : Byte) (ofs : BitVec 32) (s : State) : ∃ u, execKeyData c data mac
    crc ofs s = .next u ∧ Keeps s u := by
  refine ⟨_, rfl, ?_⟩
  have h := Keeps.refl s
  with_reducible repeat' (first | assumption | apply inDom_keeps | apply lfShown_keeps | apply keyData_keeps | intro _ | split | dsimp only)

theorem execKeyNoAnswer_keeps (c : Fin 4) (s : State) : ∃ u, execKeyNoAnswer c s = .next u ∧ Keeps s u := by
  refine ⟨_, rfl, ?_⟩
  have h := Keeps.refl s
  with_reducible repeat' (first | assumption | apply inDom_keeps | apply lfShown_keeps | apply keyNoAnswer_keeps | intro _ | split | dsimp only)

theorem execSessionHoldEnd_keeps (c : Fin 4) (s : State) : ∃ u, execSessionHoldEnd c s = .next u ∧ Keeps s u := by
  refine ⟨_, rfl, ?_⟩
  have h := Keeps.refl s
  with_reducible repeat' (first | assumption | apply inDom_keeps | apply lfShown_keeps | apply sessionHoldEnd_keeps | intro _ | split | dsimp only)

theorem execSessionTimeout_keeps (c : Fin 4) (s : State) : ∃ u, execSessionTimeout c s = .next u ∧ Keeps s u := by
  refine ⟨_, rfl, ?_⟩
  have h := Keeps.refl s
  with_reducible repeat' (first | assumption | apply inDom_keeps | apply lfShown_keeps | apply sessionTimeout_keeps | intro _ | split | dsimp only)

theorem execLfAntennaShort_keeps (c : Fin 4) (s : State) : ∃ u, execLfAntennaShort c s = .next u ∧ Keeps s u := by
  refine ⟨_, rfl, ?_⟩
  have h := Keeps.refl s
  with_reducible repeat' (first | assumption | apply inDom_keeps | apply lfShown_keeps | apply lfShort_keeps | intro _ | split | dsimp only)

theorem execLfAntennaOpen_keeps (c : Fin 4) (s : State) : ∃ u, execLfAntennaOpen c s = .next u ∧ Keeps s u := by
  refine ⟨_, rfl, ?_⟩
  have h := Keeps.refl s
  with_reducible repeat' (first | assumption | apply inDom_keeps | apply lfShown_keeps | apply lfAntennaOpen_keeps | intro _ | split | dsimp only)

theorem execLfDriverHot_keeps (c : Fin 4) (s : State) : ∃ u, execLfDriverHot c s = .next u ∧ Keeps s u := by
  refine ⟨_, rfl, ?_⟩
  have h := Keeps.refl s
  with_reducible repeat' (first | assumption | apply inDom_keeps | apply lfShown_keeps | apply lfHot_keeps | intro _ | split | dsimp only)

theorem execLfDriverCool_keeps (c : Fin 4) (s : State) : ∃ u, execLfDriverCool c s = .next u ∧ Keeps s u := by
  refine ⟨_, rfl, ?_⟩
  have h := Keeps.refl s
  with_reducible repeat' (first | assumption | apply inDom_keeps | apply lfShown_keeps | apply lfCool_keeps | intro _ | split | dsimp only)

theorem execLfDiagDone_keeps (c : Fin 4) (code : Fin 32) (ant : Fin 3) (s : State) : ∃ u, execLfDiagDone c code ant s = .next u ∧ Keeps s u := by
  refine ⟨_, rfl, ?_⟩
  have h := Keeps.refl s
  with_reducible repeat' (first | assumption | apply inDom_keeps | apply lfShown_keeps | apply lfDiagDone_keeps | intro _ | split | dsimp only)

theorem execLearnSessionEnd_keeps (s : State) : ∃ u, execLearnSessionEnd s = .next u ∧ Keeps s u := by
  refine ⟨_, rfl, ?_⟩
  have h := Keeps.refl s
  with_reducible repeat' (first | assumption | apply inDom_keeps | apply State.learnEnd_keeps | intro _ | split | dsimp only)

theorem execSvcnAtPowerUp_keeps (s : State) : ∃ u, execSvcnAtPowerUp s = .next u ∧ Keeps s u := by
  refine ⟨_, rfl, ?_⟩
  have h := Keeps.refl s
  with_reducible repeat' first
    | assumption | apply State.modPw_keeps | apply inDom_keeps | apply State.presProof_keeps | intro _ | split | dsimp only

theorem execSvcnHeld_keeps (s : State) : ∃ u, execSvcnHeld s = .next u ∧ Keeps s u := by
  refine ⟨_, rfl, ?_⟩
  have h := Keeps.refl s
  with_reducible repeat' (first | assumption | apply inDom_keeps | apply State.presProof_keeps | intro _ | split | dsimp only)

theorem execButtonPattern_keeps (s : State) : ∃ u, execButtonPattern s = .next u ∧ Keeps s u := by
  refine ⟨_, rfl, ?_⟩
  have h := Keeps.refl s
  with_reducible repeat' (first | assumption | apply inDom_keeps | apply State.presProof_keeps | intro _ | split | dsimp only)

theorem execSealLoopBreak_keeps (s : State) : ∃ u, execSealLoopBreak s = .next u ∧ Keeps s u := by
  refine ⟨_, rfl, ?_⟩
  have h := Keeps.refl s
  with_reducible repeat' (first | assumption | apply inDom_keeps | apply State.presProof_keeps | intro _ | split | dsimp only)

theorem execPresenceExpiry_keeps (s : State) : ∃ u, execPresenceExpiry s = .next u ∧ Keeps s u := by
  refine ⟨_, rfl, ?_⟩
  have h := Keeps.refl s
  with_reducible repeat' (first | assumption | apply inDom_keeps | apply State.presClose_keeps | intro _ | split | dsimp only)

theorem execCryptoDone_keeps (s : State) : ∃ u, execCryptoDone s = .next u ∧ Keeps s u := by
  refine ⟨_, rfl, ?_⟩
  have h := Keeps.refl s
  with_reducible repeat' (first | assumption | apply inDom_keeps | apply cryptoDone_keeps | intro _ | split | dsimp only)

theorem execTrngHealthFail_keeps (s : State) : ∃ u, execTrngHealthFail s = .next u ∧ Keeps s u := by
  refine ⟨_, rfl, ?_⟩
  have h := Keeps.refl s
  with_reducible repeat' (first | assumption | apply inDom_keeps | apply trngHealthFail_keeps | intro _ | split | dsimp only)

theorem State.hscNote_keeps {s0 s : State} (hs : Keeps s0 s) (n : Nat) : Keeps s0 (State.hscNote s n) := by
  unfold State.hscNote
  with_reducible repeat' (first | assumption | apply State.when_keeps | apply State.record_keeps | intro _ | split | dsimp only)

theorem State.hscOnFrom_keeps {s0 s : State} (hs : Keeps s0 s) (n : Nat) (d : Nat) (held : Bool) : Keeps s0 (State.hscOnFrom s n d held) := by
  unfold State.hscOnFrom
  with_reducible repeat' first
    | assumption | apply State.setOval_keeps | apply State.hscEnter_keeps | apply State.hscNote_keeps | intro _ | split | dsimp only

theorem State.hscStep_keeps {s0 s : State} (hs : Keeps s0 s) (n : Nat) (d : Nat) (held : Bool) : Keeps s0 (State.hscStep s n d held) := by
  unfold State.hscStep
  with_reducible repeat' first
    | assumption | apply State.setOval_keeps | apply State.hscOut_keeps | apply State.hscOnFrom_keeps | intro _ | split | dsimp only

theorem State.hscApply_keeps {s0 s : State} (hs : Keeps s0 s) (n : Nat) (d : Nat) (held : Bool) : Keeps s0 (State.hscApply s n d held) := by
  unfold State.hscApply
  with_reducible repeat' first
    | assumption | apply State.setOval_keeps | apply State.modHch_keeps | apply State.hscApplied_keeps | apply State.hscOut_keeps
    | apply State.hscStep_keeps | intro _ | split | dsimp only

theorem State.hscShort_keeps {s0 s : State} (hs : Keeps s0 s) (n : Nat) : Keeps s0 (State.hscShort s n) := by
  unfold State.hscShort
  with_reducible repeat' first
    | assumption | apply State.setFld_keeps | apply State.count_keeps | apply State.protEvent_keeps | apply State.modHch_keeps
    | apply State.setHst_keeps | apply State.hscEvt_keeps | apply State.hscProvFinish_keeps | apply State.hscLatch_keeps | apply State.record_keeps
    | intro _ | split | dsimp only

theorem State.hscOverload_keeps {s0 s : State} (hs : Keeps s0 s) (n : Nat) : Keeps s0 (State.hscOverload s n) := by
  unfold State.hscOverload
  with_reducible repeat' first
    | assumption | apply State.count_keeps | apply State.protEvent_keeps | apply State.modHch_keeps | apply State.setHst_keeps
    | apply State.hscEvt_keeps | apply State.hscProvFinish_keeps | apply State.hscLatch_keeps | apply State.record_keeps | intro _ | split
    | dsimp only

theorem State.hscConsume_keeps {s0 s : State} (hs : Keeps s0 s) (n : Nat) : Keeps s0 (State.hscConsume s n) := by
  unfold State.hscConsume
  with_reducible repeat' (first | assumption | apply State.setFld_keeps | apply State.modHch_keeps | intro _ | split | dsimp only)

theorem State.hscRestart_keeps {s0 s : State} (hs : Keeps s0 s) (n : Nat) (held : Bool) : Keeps s0 (State.hscRestart s n held) := by
  unfold State.hscRestart
  with_reducible repeat' first
    | assumption | apply State.modHch_keeps | apply State.setHst_keeps | apply State.hscEvt_keeps | apply State.hscTryDone_keeps
    | apply State.hscConsume_keeps | intro _ | split | dsimp only

theorem State.hscResume_keeps {s0 s : State} (hs : Keeps s0 s) (n : Nat) (held : Bool) : Keeps s0 (State.hscResume s n held) := by
  unfold State.hscResume
  with_reducible repeat' first
    | assumption | apply State.setHst_keeps | apply State.hscLatch_keeps | apply State.record_keeps | apply State.hscRestart_keeps | intro _ | split
    | dsimp only

theorem State.hscThermRelease_keeps {s0 s : State} (hs : Keeps s0 s) (n : Nat) (held : Bool) : Keeps s0 (State.hscThermRelease s n held) := by
  unfold State.hscThermRelease
  with_reducible repeat' (first | assumption | apply State.setHst_keeps | apply State.hscResume_keeps | intro _ | split | dsimp only)

theorem State.hscThermSet_keeps {s0 s : State} (hs : Keeps s0 s) (n : Nat) : Keeps s0 (State.hscThermSet s n) := by
  unfold State.hscThermSet
  with_reducible repeat' first
    | assumption | apply State.setOval_keeps | apply State.protEvent_keeps | apply State.setHst_keeps | apply State.hscProvFinish_keeps
    | apply State.hscTherm_keeps | intro _ | split | dsimp only

theorem State.hscWireTrip_keeps {s0 s : State} (hs : Keeps s0 s) (n : Nat) : Keeps s0 (State.hscWireTrip s n) := by
  unfold State.hscWireTrip
  with_reducible repeat' first
    | assumption | apply State.when_keeps | apply State.protEvent_keeps | apply State.hscProvFinish_keeps | apply State.hscLatch_keeps
    | apply State.record_keeps | intro _ | split | dsimp only

theorem State.setOl_keeps {s0 s : State} (hs : Keeps s0 s) (n : Nat) (v : Nat) : Keeps s0 (State.setOl s n v) := by
  unfold State.setOl
  with_reducible repeat' first
    | assumption | apply State.setFld_keeps | apply State.when_keeps | apply State.hscEvt_keeps | apply State.record_keeps | intro _ | split
    | dsimp only

theorem State.hscResult_keeps {s0 s : State} (hs : Keeps s0 s) (n : Nat) (v : Nat) (enabled : Bool) (onState : Bool) : Keeps s0 (State.hscResult s
    n v enabled onState) := by
  unfold State.hscResult
  with_reducible repeat' first
    | assumption | apply State.when_keeps | apply State.finish_keeps | apply State.finishDone_keeps | apply State.setOl_keeps | intro _ | split
    | dsimp only

theorem State.hscOlOn_keeps {s0 s : State} (hs : Keeps s0 s) (n : Nat) (i : Nat) : Keeps s0 (State.hscOlOn s n i) := by
  unfold State.hscOlOn
  with_reducible repeat' (first | assumption | apply State.setHch_keeps | apply State.hscResult_keeps | intro _ | split | dsimp only)

theorem State.hscUnlimit_keeps {s0 s : State} (hs : Keeps s0 s) (n : Nat) : Keeps s0 (State.hscUnlimit s n) := by
  unfold State.hscUnlimit
  with_reducible repeat' first
    | assumption | apply State.modHch_keeps | apply State.setHst_keeps | apply State.hscTryDone_keeps | intro _ | split | dsimp only

theorem State.hscMeasure_keeps {s0 s : State} (hs : Keeps s0 s) (n : Nat) (i : Nat) : Keeps s0 (State.hscMeasure s n i) := by
  unfold State.hscMeasure
  with_reducible repeat' first
    | assumption | apply State.setReg_keeps | apply State.raise_keeps | apply State.when_keeps | apply State.drew_keeps
    | apply State.senseEvent_keeps | apply State.modHch_keeps | apply State.hscOlOn_keeps | apply State.hscUnlimit_keeps | intro _ | split
    | dsimp only

theorem State.hscOffCheck_keeps {s0 s : State} (hs : Keeps s0 s) (n : Nat) (high : Bool) (still : Bool) : Keeps s0 (State.hscOffCheck s n high
    still) := by
  unfold State.hscOffCheck
  with_reducible repeat' first
    | assumption | apply State.when_keeps | apply State.modHch_keeps | apply State.hscResult_keeps | intro _ | split | dsimp only

theorem State.hscSupersede_keeps {s0 s : State} (hs : Keeps s0 s) (n : Nat) : Keeps s0 (State.hscSupersede s n) := by
  unfold State.hscSupersede
  with_reducible repeat' (first | assumption | apply State.count_keeps | apply State.finish_keeps | intro _ | split | dsimp only)

theorem State.hscOpenNew_keeps {s0 s : State} (hs : Keeps s0 s) (n : Nat) (d : Desc) : Keeps s0 (State.hscOpenNew s n d) := by
  unfold State.hscOpenNew
  with_reducible repeat' first
    | assumption | apply State.startDesc_keeps | apply State.modHch_keeps | apply State.hscSupersede_keeps | intro _ | split | dsimp only

theorem State.hscSet_keeps {s0 s : State} (hs : Keeps s0 s) (n : Nat) (d : Desc) (held : Bool) : Keeps s0 (State.hscSet s n d held) := by
  unfold State.hscSet
  with_reducible repeat' first
    | assumption | apply State.stopThread_keeps | apply State.modHch_keeps | apply State.hscFinish_keeps | apply State.hscApply_keeps
    | apply State.hscOpenNew_keeps | intro _ | split | dsimp only

theorem State.hscAct_keeps {s0 s : State} (hs : Keeps s0 s) (d : Desc) (held : Bool) : Keeps s0 (State.hscAct s d held) := by
  unfold State.hscAct
  with_reducible repeat' first
    | assumption | apply State.setFld_keeps | apply State.when_keeps | apply State.finish_keeps | apply State.finishDone_keeps
    | apply State.stopThread_keeps | apply State.entryScrub_keeps | apply State.startDesc_keeps | apply State.wireReset_keeps
    | apply State.modHch_keeps | apply State.hscToOff_keeps | apply State.launch_keeps | apply State.hscApply_keeps | apply State.hscSupersede_keeps
    | apply State.hscOpenNew_keeps | apply State.hscSet_keeps | intro _ | split | dsimp only

theorem State.hscPrepare_keeps {s0 s : State} (hs : Keeps s0 s) (d : Desc) : Keeps s0 (State.hscPrepare s d) := by
  unfold State.hscPrepare
  with_reducible repeat' first
    | assumption | apply State.when_keeps | apply State.modHch_keeps | apply State.setHst_keeps | apply State.hscProvFinish_keeps
    | apply State.hscLatch_keeps | apply State.record_keeps | intro _ | split | dsimp only

theorem State.hscUndo_keeps {s0 s : State} (hs : Keeps s0 s) (n : Nat) : Keeps s0 (State.hscUndo s n) := by
  unfold State.hscUndo
  with_reducible repeat' (first | assumption | apply State.setHst_keeps | intro _ | split | dsimp only)

theorem State.hscRamp_keeps {s0 s : State} (hs : Keeps s0 s) (n : Nat) : Keeps s0 (State.hscRamp s n) := by
  unfold State.hscRamp
  with_reducible repeat' first
    | assumption | apply State.modHch_keeps | apply State.hscFinish_keeps | apply State.hscApplied_keeps | apply State.hscStep_keeps | intro _
    | split | dsimp only

theorem State.hscPeriod_keeps {s0 s : State} (hs : Keeps s0 s) (n : Nat) : Keeps s0 (State.hscPeriod s n) := by
  unfold State.hscPeriod
  with_reducible repeat' first
    | assumption | apply State.setFld_keeps | apply State.when_keeps | apply State.setOval_keeps | apply State.modHch_keeps
    | apply State.hscApplied_keeps | apply State.hscRamp_keeps | intro _ | split | dsimp only

theorem State.hscAge_keeps {s0 s : State} (hs : Keeps s0 s) (n : Nat) : Keeps s0 (State.hscAge s n) := by
  unfold State.hscAge
  with_reducible repeat' first
    | assumption | apply State.setFld_keeps | apply State.when_keeps | apply State.modHch_keeps | intro _ | split | dsimp only

theorem State.hscCommitted_keeps {s0 s : State} (hs : Keeps s0 s) : Keeps s0 (State.hscCommitted s) := by
  unfold State.hscCommitted
  with_reducible repeat' (first | assumption | apply State.each_keeps | apply State.modHch_keeps | intro _ | split | dsimp only)

theorem State.hscForced_keeps {s0 s : State} (hs : Keeps s0 s) : Keeps s0 (State.hscForced s) := by
  unfold State.hscForced
  with_reducible repeat' first
    | assumption | apply State.each_keeps | apply State.finishAll_keeps | apply State.stopThread_keeps | apply State.hscToOff_keeps | intro _ | split
    | dsimp only

theorem execHscSet_keeps (r : Fin 64) (i : Fin 1024) (held : Bool) (s : State) : ∃ u, execHscSet r i held s = .next u ∧ Keeps s u := by
  refine ⟨_, rfl, ?_⟩
  have h := Keeps.refl s
  with_reducible repeat' first
    | assumption | apply inDom_keeps | apply State.actReady_keeps | apply State.hscAct_keeps | apply State.hscUndo_keeps | intro _ | split
    | dsimp only

theorem execHscOff_keeps (r : Fin 64) (i : Fin 1024) (s : State) : ∃ u, execHscOff r i s = .next u ∧ Keeps s u := by
  refine ⟨_, rfl, ?_⟩
  have h := Keeps.refl s
  with_reducible repeat' first
    | assumption | apply inDom_keeps | apply State.actReady_keeps | apply State.hscAct_keeps | apply State.hscUndo_keeps | intro _ | split
    | dsimp only

theorem execHscRun_keeps (r : Fin 64) (i : Fin 1024) (s : State) : ∃ u, execHscRun r i s = .next u ∧ Keeps s u := by
  refine ⟨_, rfl, ?_⟩
  have h := Keeps.refl s
  with_reducible repeat' first
    | assumption | apply inDom_keeps | apply State.actReady_keeps | apply State.hscAct_keeps | apply State.hscUndo_keeps | intro _ | split
    | dsimp only

theorem execHscDiag_keeps (r : Fin 64) (i : Fin 1024) (s : State) : ∃ u, execHscDiag r i s = .next u ∧ Keeps s u := by
  refine ⟨_, rfl, ?_⟩
  have h := Keeps.refl s
  with_reducible repeat' first
    | assumption | apply inDom_keeps | apply State.actReady_keeps | apply State.hscAct_keeps | apply State.hscUndo_keeps | intro _ | split
    | dsimp only

theorem execHscClear_keeps (r : Fin 64) (i : Fin 1024) (s : State) : ∃ u, execHscClear r i s = .next u ∧ Keeps s u := by
  refine ⟨_, rfl, ?_⟩
  have h := Keeps.refl s
  with_reducible repeat' first
    | assumption | apply inDom_keeps | apply State.actReady_keeps | apply State.hscAct_keeps | apply State.hscUndo_keeps | intro _ | split
    | dsimp only

theorem execHsLimitReached_keeps (n : Fin 64) (s : State) : ∃ u, execHsLimitReached n s = .next u ∧ Keeps s u := by
  refine ⟨_, rfl, ?_⟩
  have h := Keeps.refl s
  with_reducible repeat' first
    | assumption | apply inDom_keeps | apply State.protEvent_keeps | apply State.setHst_keeps | apply State.hscEvt_keeps | intro _ | split
    | dsimp only

theorem execHsShortEvent_keeps (n : Fin 64) (s : State) : ∃ u, execHsShortEvent n s = .next u ∧ Keeps s u := by
  refine ⟨_, rfl, ?_⟩
  have h := Keeps.refl s
  with_reducible repeat' first
    | assumption | apply inDom_keeps | apply State.dcTrip_keeps | apply State.hscShort_keeps | intro _ | split | dsimp only

theorem execHsOverloadEvent_keeps (n : Fin 64) (s : State) : ∃ u, execHsOverloadEvent n s = .next u ∧ Keeps s u := by
  refine ⟨_, rfl, ?_⟩
  have h := Keeps.refl s
  with_reducible repeat' (first | assumption | apply inDom_keeps | apply State.hscOverload_keeps | intro _ | split | dsimp only)

theorem execHsRestart_keeps (n : Fin 64) (held : Bool) (s : State) : ∃ u, execHsRestart n held s = .next u ∧ Keeps s u := by
  refine ⟨_, rfl, ?_⟩
  have h := Keeps.refl s
  with_reducible repeat' first
    | assumption | apply inDom_keeps | apply State.modHch_keeps | apply State.hscRestart_keeps | intro _ | split | dsimp only

theorem execHsUndervoltage_keeps (n : Fin 64) (s : State) : ∃ u, execHsUndervoltage n s = .next u ∧ Keeps s u := by
  refine ⟨_, rfl, ?_⟩
  have h := Keeps.refl s
  with_reducible repeat' first
    | assumption | apply State.raise_keeps | apply State.count_keeps | apply inDom_keeps | apply State.protEvent_keeps | apply State.modHch_keeps
    | apply State.setHst_keeps | apply State.hscEvt_keeps | apply State.record_keeps | intro _ | split | dsimp only

theorem execHsUvRelease_keeps (n : Fin 64) (held : Bool) (s : State) : ∃ u, execHsUvRelease n held s = .next u ∧ Keeps s u := by
  refine ⟨_, rfl, ?_⟩
  have h := Keeps.refl s
  with_reducible repeat' first
    | assumption | apply State.setFld_keeps | apply inDom_keeps | apply State.modHch_keeps | apply State.setHst_keeps | apply State.hscTryDone_keeps
    | apply State.hscSwitchOn_keeps | apply State.hscOut_keeps | apply State.hscResume_keeps | intro _ | split | dsimp only

theorem execWarmUpEnd_keeps (n : Fin 64) (s : State) : ∃ u, execWarmUpEnd n s = .next u ∧ Keeps s u := by
  refine ⟨_, rfl, ?_⟩
  have h := Keeps.refl s
  with_reducible repeat' (first | assumption | apply State.setFld_keeps | apply inDom_keeps | intro _ | split | dsimp only)

theorem execScntRestore_keeps (n : Fin 64) (s : State) : ∃ u, execScntRestore n s = .next u ∧ Keeps s u := by
  refine ⟨_, rfl, ?_⟩
  have h := Keeps.refl s
  with_reducible repeat' (first | assumption | apply State.setFld_keeps | apply inDom_keeps | intro _ | split | dsimp only)

theorem execValidMeasurement_keeps (n : Fin 64) (i : Word) (s : State) : ∃ u, execValidMeasurement n i s = .next u ∧ Keeps s u := by
  refine ⟨_, rfl, ?_⟩
  have h := Keeps.refl s
  with_reducible repeat' (first | assumption | apply inDom_keeps | apply State.hscMeasure_keeps | intro _ | split | dsimp only)

theorem execOffStateCheck_keeps (n : Fin 64) (high : Bool) (still : Bool) (s : State) : ∃ u, execOffStateCheck n high still s = .next u ∧ Keeps s u
    := by
  refine ⟨_, rfl, ?_⟩
  have h := Keeps.refl s
  with_reducible repeat' (first | assumption | apply inDom_keeps | apply State.hscOffCheck_keeps | intro _ | split | dsimp only)

theorem execHsOlUnknown_keeps (n : Fin 64) (s : State) : ∃ u, execHsOlUnknown n s = .next u ∧ Keeps s u := by
  unfold execHsOlUnknown
  refine ⟨_, rfl, inDom_keeps (Keeps.refl s) .act _ (fun t ht => ?_)⟩
  have h1 : Keeps s (match t.hscDiag n with
    | some d => t.finish d 0o30 0
    | none => t) := by
    with_reducible repeat' (first | assumption | apply State.finish_keeps | intro _ | split | dsimp only)
  extract_lets w
  change Keeps s w at h1
  with_reducible repeat' (first | assumption | apply State.setOl_keeps | intro _ | split | dsimp only)

theorem execDiagnosticPulse_keeps (n : Fin 64) (s : State) : ∃ u, execDiagnosticPulse n s = .next u ∧ Keeps s u := by
  refine ⟨_, rfl, ?_⟩
  have h := Keeps.refl s
  with_reducible repeat' (first | assumption | apply inDom_keeps | apply State.modHch_keeps | intro _ | split | dsimp only)

theorem execPreheatPulse_keeps (n : Fin 64) (s : State) : ∃ u, execPreheatPulse n s = .next u ∧ Keeps s u := by
  refine ⟨_, rfl, ?_⟩
  have h := Keeps.refl s
  with_reducible repeat' (first | assumption | apply inDom_keeps | apply State.modHch_keeps | intro _ | split | dsimp only)

theorem State.motPinch_keeps {s0 s : State} (hs : Keeps s0 s) (g : Nat) (cur : Bool) (rip : Bool) : Keeps s0 (State.motPinch s g cur rip) := by
  unfold State.motPinch
  with_reducible repeat' first
    | assumption | apply State.setOval_keeps | apply State.modMt_keeps | apply State.setMst_keeps | apply State.setMdir_keeps
    | apply State.motEvt_keeps | apply State.motFinish_keeps | apply State.record_keeps | apply State.goTo_keeps | intro _ | split | dsimp only

theorem State.motRevEnd_keeps {s0 s : State} (hs : Keeps s0 s) (g : Nat) : Keeps s0 (State.motRevEnd s g) := by
  unfold State.motRevEnd
  with_reducible repeat' first
    | assumption | apply State.raise_keeps | apply State.modMt_keeps | apply State.motEvt_keeps | apply State.motBrake_keeps | intro _ | split
    | dsimp only

theorem State.motPrepare_keeps {s0 s : State} (hs : Keeps s0 s) (d : Desc) : Keeps s0 (State.motPrepare s d) := by
  unfold State.motPrepare
  with_reducible repeat' (first | assumption | apply State.setMst_keeps | intro _ | split | dsimp only)

theorem State.motUndo_keeps {s0 s : State} (hs : Keeps s0 s) (t : Nat) : Keeps s0 (State.motUndo s t) := by
  unfold State.motUndo
  with_reducible repeat' (first | assumption | apply State.setMst_keeps | intro _ | split | dsimp only)

theorem State.motSupersede_keeps {s0 s : State} (hs : Keeps s0 s) (t : Nat) : Keeps s0 (State.motSupersede s t) := by
  unfold State.motSupersede
  with_reducible repeat' first
    | assumption | apply State.when_keeps | apply State.finish_keeps | apply State.provEnd_keeps | apply State.motFinish_keeps
    | apply State.motUndo_keeps | intro _ | split | dsimp only

theorem State.motOpenNew_keeps {s0 s : State} (hs : Keeps s0 s) (t : Nat) (d : Desc) : Keeps s0 (State.motOpenNew s t d) := by
  unfold State.motOpenNew
  with_reducible repeat' first
    | assumption | apply State.stopThread_keeps | apply State.startDesc_keeps | apply State.modMt_keeps | apply State.motSupersede_keeps
    | apply State.goTo_keeps | intro _ | split | dsimp only

theorem State.motDrive_keeps {s0 s : State} (hs : Keeps s0 s) (d : Desc) (dir : Nat) (goTo : Option Nat) : Keeps s0 (State.motDrive s d dir goTo)
    := by
  unfold State.motDrive
  with_reducible repeat' first
    | assumption | apply State.entryScrub_keeps | apply State.modMt_keeps | apply State.motDone_keeps | apply State.motStart_keeps
    | apply State.launch_keeps | apply State.motOpenNew_keeps | apply State.goTo_keeps | intro _ | split | dsimp only

theorem State.motStop_keeps {s0 s : State} (hs : Keeps s0 s) (t : Nat) (coast : Bool) : Keeps s0 (State.motStop s t coast) := by
  unfold State.motStop
  with_reducible repeat' (first | assumption | apply State.motIdle_keeps | apply State.motBrake_keeps | intro _ | split | dsimp only)

theorem State.motAct_keeps {s0 s : State} (hs : Keeps s0 s) (d : Desc) : Keeps s0 (State.motAct s d) := by
  unfold State.motAct
  with_reducible repeat' first
    | assumption | apply State.setFld_keeps | apply State.raise_keeps | apply State.when_keeps | apply State.finish_keeps
    | apply State.finishDone_keeps | apply State.stopThread_keeps | apply State.entryScrub_keeps | apply State.startDesc_keeps
    | apply State.provEnd_keeps | apply State.modMt_keeps | apply State.motFinish_keeps | apply State.motIdle_keeps | apply State.motBrake_keeps
    | apply State.showZone_keeps | apply State.motReached_keeps | apply State.launch_keeps | apply State.motUndo_keeps
    | apply State.motSupersede_keeps | apply State.motOpenNew_keeps | apply State.motDrive_keeps | apply State.motStop_keeps | apply State.goTo_keeps
    | intro _ | split | dsimp only

theorem State.motPeriod_keeps {s0 s : State} (hs : Keeps s0 s) (t : Nat) : Keeps s0 (State.motPeriod s t) := by
  unfold State.motPeriod
  with_reducible repeat' (first | assumption | apply State.setOval_keeps | apply State.modMt_keeps | intro _ | split | dsimp only)

theorem State.motSetp_keeps {s0 s : State} (hs : Keeps s0 s) (t : Nat) (p : Nat) (v : Nat) : Keeps s0 (State.motSetp s t p v) := by
  unfold State.motSetp
  with_reducible repeat' (first | assumption | apply State.modMt_keeps | intro _ | split | dsimp only)

theorem State.motCommitted_keeps {s0 s : State} {was : State} (hs : Keeps s0 s) : Keeps s0 (State.motCommitted s was) := by
  unfold State.motCommitted
  with_reducible repeat' first
    | assumption | apply State.setFld_keeps | apply State.when_keeps | apply State.each_keeps | apply State.modMt_keeps | apply State.showZone_keeps
    | intro _ | split | dsimp only

theorem State.motForced_keeps {s0 s : State} (hs : Keeps s0 s) : Keeps s0 (State.motForced s) := by
  unfold State.motForced
  with_reducible repeat' first
    | assumption | apply State.each_keeps | apply State.finishAll_keeps | apply State.setMst_keeps | apply State.setMdir_keeps | intro _ | split
    | dsimp only

theorem execMotDrive_keeps (r : Fin 64) (i : Fin 1024) (s : State) : ∃ u, execMotDrive r i s = .next u ∧ Keeps s u := by
  refine ⟨_, rfl, ?_⟩
  have h := Keeps.refl s
  with_reducible repeat' first
    | assumption | apply inDom_keeps | apply State.actReady_keeps | apply State.motUndo_keeps | apply State.motAct_keeps | intro _ | split
    | dsimp only

theorem execMotGoto_keeps (r : Fin 64) (i : Fin 1024) (s : State) : ∃ u, execMotGoto r i s = .next u ∧ Keeps s u := by
  refine ⟨_, rfl, ?_⟩
  have h := Keeps.refl s
  with_reducible repeat' first
    | assumption | apply inDom_keeps | apply State.actReady_keeps | apply State.motUndo_keeps | apply State.motAct_keeps | intro _ | split
    | dsimp only

theorem execMotStop_keeps (r : Fin 64) (i : Fin 1024) (s : State) : ∃ u, execMotStop r i s = .next u ∧ Keeps s u := by
  refine ⟨_, rfl, ?_⟩
  have h := Keeps.refl s
  with_reducible repeat' first
    | assumption | apply inDom_keeps | apply State.actReady_keeps | apply State.motUndo_keeps | apply State.motAct_keeps | intro _ | split
    | dsimp only

theorem execMotRun_keeps (r : Fin 64) (i : Fin 1024) (s : State) : ∃ u, execMotRun r i s = .next u ∧ Keeps s u := by
  refine ⟨_, rfl, ?_⟩
  have h := Keeps.refl s
  with_reducible repeat' first
    | assumption | apply inDom_keeps | apply State.actReady_keeps | apply State.motUndo_keeps | apply State.motAct_keeps | intro _ | split
    | dsimp only

theorem execMotDiag_keeps (r : Fin 64) (i : Fin 1024) (s : State) : ∃ u, execMotDiag r i s = .next u ∧ Keeps s u := by
  refine ⟨_, rfl, ?_⟩
  have h := Keeps.refl s
  with_reducible repeat' first
    | assumption | apply inDom_keeps | apply State.actReady_keeps | apply State.motUndo_keeps | apply State.motAct_keeps | intro _ | split
    | dsimp only

theorem execMotClear_keeps (r : Fin 64) (i : Fin 1024) (s : State) : ∃ u, execMotClear r i s = .next u ∧ Keeps s u := by
  refine ⟨_, rfl, ?_⟩
  have h := Keeps.refl s
  with_reducible repeat' first
    | assumption | apply inDom_keeps | apply State.actReady_keeps | apply State.motUndo_keeps | apply State.motAct_keeps | intro _ | split
    | dsimp only

theorem execSetpos_keeps (r : Fin 64) (i : Fin 1024) (s : State) : ∃ u, execSetpos r i s = .next u ∧ Keeps s u := by
  refine ⟨_, rfl, ?_⟩
  have h := Keeps.refl s
  with_reducible repeat' first
    | assumption | apply inDom_keeps | apply State.actReady_keeps | apply State.motUndo_keeps | apply State.motAct_keeps | intro _ | split
    | dsimp only

theorem execMotDiagDone_keeps (t : Fin 28) (top : Bool) (bottom : Bool) (apart : Bool) (s : State) : ∃ u, execMotDiagDone t top bottom apart s =
    .next u ∧ Keeps s u := by
  refine ⟨_, rfl, ?_⟩
  have h := Keeps.refl s
  with_reducible repeat' first
    | assumption | apply State.setFld_keeps | apply inDom_keeps | apply State.finishDone_keeps | intro _ | split | dsimp only

theorem execPrechEnd_keeps (t : Fin 28) (boot : Bool) (s : State) : ∃ u, execPrechEnd t boot s = .next u ∧ Keeps s u := by
  refine ⟨_, rfl, ?_⟩
  have h := Keeps.refl s
  with_reducible repeat' first
    | assumption | apply State.setFld_keeps | apply State.raise_keeps | apply inDom_keeps | apply State.motEvt_keeps | apply State.motFinish_keeps
    | apply State.motIdle_keeps | apply State.motGo_keeps | apply State.record_keeps | apply State.motStop_keeps | intro _ | split | dsimp only

theorem execMotCurrentLimit_keeps (t : Fin 28) (s : State) : ∃ u, execMotCurrentLimit t s = .next u ∧ Keeps s u := by
  refine ⟨_, rfl, ?_⟩
  have h := Keeps.refl s
  with_reducible repeat' first
    | assumption | apply State.when_keeps | apply inDom_keeps | apply State.seqEvent_keeps | apply State.protEvent_keeps | apply State.modMt_keeps
    | apply State.motEvt_keeps | intro _ | split | dsimp only

theorem execMotShort_keeps (t : Fin 28) (side : Fin 4) (s : State) : ∃ u, execMotShort t side s = .next u ∧ Keeps s u := by
  refine ⟨_, rfl, ?_⟩
  have h := Keeps.refl s
  with_reducible repeat' first
    | assumption | apply inDom_keeps | apply State.motEvt_keeps | apply State.motLatch_keeps | apply State.record_keeps | intro _ | split
    | dsimp only

theorem execMotOverload_keeps (t : Fin 28) (s : State) : ∃ u, execMotOverload t s = .next u ∧ Keeps s u := by
  refine ⟨_, rfl, ?_⟩
  have h := Keeps.refl s
  with_reducible repeat' first
    | assumption | apply inDom_keeps | apply State.motEvt_keeps | apply State.motFinish_keeps | apply State.motBrake_keeps | apply State.record_keeps
    | intro _ | split | dsimp only

theorem execMotStall_keeps (t : Fin 28) (s : State) : ∃ u, execMotStall t s = .next u ∧ Keeps s u := by
  refine ⟨_, rfl, ?_⟩
  have h := Keeps.refl s
  with_reducible repeat' first
    | assumption | apply inDom_keeps | apply State.motEvt_keeps | apply State.motFinish_keeps | apply State.motDone_keeps
    | apply State.motBrake_keeps | apply State.record_keeps | apply State.motPinch_keeps | apply State.motRevEnd_keeps | intro _ | split | dsimp only

theorem execMotOpen_keeps (t : Fin 28) (s : State) : ∃ u, execMotOpen t s = .next u ∧ Keeps s u := by
  refine ⟨_, rfl, ?_⟩
  have h := Keeps.refl s
  with_reducible repeat' first
    | assumption | apply inDom_keeps | apply State.motEvt_keeps | apply State.motFinish_keeps | apply State.motIdle_keeps | apply State.record_keeps
    | intro _ | split | dsimp only

theorem execGateFault_keeps (g : Fin 4) (s : State) : ∃ u, execGateFault g s = .next u ∧ Keeps s u := by
  refine ⟨_, rfl, ?_⟩
  have h := Keeps.refl s
  with_reducible repeat' first
    | assumption | apply inDom_keeps | apply State.motEvt_keeps | apply State.motLatch_keeps | apply State.record_keeps | intro _ | split
    | dsimp only

theorem execChargePumpLow_keeps (v : Fin 131072) (s : State) : ∃ u, execChargePumpLow v s = .next u ∧ Keeps s u := by
  refine ⟨_, rfl, ?_⟩
  have h := Keeps.refl s
  with_reducible repeat' first
    | assumption | apply State.setFld_keeps | apply State.raise_keeps | apply State.each_keeps | apply inDom_keeps | apply State.motSupply_keeps
    | apply State.record_keeps | intro _ | split | dsimp only

theorem execChargePumpRelease_keeps (v : Fin 131072) (s : State) : ∃ u, execChargePumpRelease v s = .next u ∧ Keeps s u := by
  refine ⟨_, rfl, ?_⟩
  have h := Keeps.refl s
  with_reducible repeat' first
    | assumption | apply State.setFld_keeps | apply State.raise_keeps | apply State.each_keeps | apply inDom_keeps | apply State.motRelease_keeps
    | intro _ | split | dsimp only

theorem execDriveDurationEnd_keeps (t : Fin 28) (s : State) : ∃ u, execDriveDurationEnd t s = .next u ∧ Keeps s u := by
  refine ⟨_, rfl, ?_⟩
  have h := Keeps.refl s
  with_reducible repeat' first
    | assumption | apply inDom_keeps | apply State.modMt_keeps | apply State.motDone_keeps | apply State.motBrake_keeps | intro _ | split
    | dsimp only

theorem execBrakeEnd_keeps (t : Fin 28) (s : State) : ∃ u, execBrakeEnd t s = .next u ∧ Keeps s u := by
  refine ⟨_, rfl, ?_⟩
  have h := Keeps.refl s
  with_reducible repeat' (first | assumption | apply inDom_keeps | apply State.motIdle_keeps | apply State.motGo_keeps | intro _ | split | dsimp only)

theorem execMotSupplyEnter_keeps (t : Fin 28) (past : Bool) (s : State) : ∃ u, execMotSupplyEnter t past s = .next u ∧ Keeps s u := by
  refine ⟨_, rfl, ?_⟩
  have h := Keeps.refl s
  with_reducible repeat' first
    | assumption | apply State.raise_keeps | apply inDom_keeps | apply State.modMt_keeps | apply State.motSupply_keeps | intro _ | split | dsimp only

theorem execMotSupplyRelease_keeps (t : Fin 28) (s : State) : ∃ u, execMotSupplyRelease t s = .next u ∧ Keeps s u := by
  refine ⟨_, rfl, ?_⟩
  have h := Keeps.refl s
  with_reducible repeat' first
    | assumption | apply State.setFld_keeps | apply inDom_keeps | apply State.motRelease_keeps | intro _ | split | dsimp only

theorem execRippleCandidate_keeps (g : Fin 4) (dt : Nat) (s : State) : ∃ u, execRippleCandidate g dt s = .next u ∧ Keeps s u := by
  refine ⟨_, rfl, ?_⟩
  have h := Keeps.refl s
  with_reducible repeat' first
    | assumption | apply State.setFld_keeps | apply State.count_keeps | apply inDom_keeps | apply State.seqEvent_keeps | apply State.modMt_keeps
    | apply State.ripplePos_keeps | apply State.motReached_keeps | intro _ | split | dsimp only

theorem execRippleInsert_keeps (g : Fin 4) (s : State) : ∃ u, execRippleInsert g s = .next u ∧ Keeps s u := by
  refine ⟨_, rfl, ?_⟩
  have h := Keeps.refl s
  with_reducible repeat' first
    | assumption | apply State.setFld_keeps | apply State.count_keeps | apply inDom_keeps | apply State.modMt_keeps | apply State.motEvt_keeps
    | apply State.showZone_keeps | apply State.ripplePos_keeps | apply State.motReached_keeps | apply State.record_keeps | intro _ | split
    | dsimp only

theorem execPinchViolation_keeps (g : Fin 4) (v : Word) (dt : Nat) (s : State) : ∃ u, execPinchViolation g v dt s = .next u ∧ Keeps s u := by
  refine ⟨_, rfl, ?_⟩
  have h := Keeps.refl s
  with_reducible repeat' (first | assumption | apply inDom_keeps | apply State.motPinch_keeps | intro _ | split | dsimp only)

theorem execPinchReverseStart_keeps (g : Fin 4) (s : State) : ∃ u, execPinchReverseStart g s = .next u ∧ Keeps s u := by
  refine ⟨_, rfl, ?_⟩
  have h := Keeps.refl s
  with_reducible repeat' first
    | assumption | apply inDom_keeps | apply State.setOval_keeps | apply State.modMt_keeps | apply State.setMdir_keeps | intro _ | split | dsimp only

theorem execReversalEnd_keeps (g : Fin 4) (s : State) : ∃ u, execReversalEnd g s = .next u ∧ Keeps s u := by
  refine ⟨_, rfl, ?_⟩
  have h := Keeps.refl s
  with_reducible repeat' (first | assumption | apply inDom_keeps | apply State.motRevEnd_keeps | intro _ | split | dsimp only)

theorem execPlockEnd_keeps (g : Fin 4) (s : State) : ∃ u, execPlockEnd g s = .next u ∧ Keeps s u := by
  refine ⟨_, rfl, ?_⟩
  have h := Keeps.refl s
  with_reducible repeat' (first | assumption | apply State.setFld_keeps | apply inDom_keeps | intro _ | split | dsimp only)

theorem execBootstrapHoldPulse_keeps (t : HoldPulse) (s : State) : ∃ u, execBootstrapHoldPulse t s = .next u ∧ Keeps s u := by
  refine ⟨_, rfl, ?_⟩
  have h := Keeps.refl s
  with_reducible repeat' (first | assumption | apply State.raise_keeps | apply State.when_keeps | apply inDom_keeps | intro _ | split | dsimp only)

theorem execGateDriverHot_keeps (g : Fin 4) (s : State) : ∃ u, execGateDriverHot g s = .next u ∧ Keeps s u := by
  refine ⟨_, rfl, ?_⟩
  have h := Keeps.refl s
  with_reducible repeat' first
    | assumption | apply State.raise_keeps | apply inDom_keeps | apply State.motThermSet_keeps | apply State.record_keeps | intro _ | split
    | dsimp only

theorem execGateDriverCool_keeps (g : Fin 4) (s : State) : ∃ u, execGateDriverCool g s = .next u ∧ Keeps s u := by
  refine ⟨_, rfl, ?_⟩
  have h := Keeps.refl s
  with_reducible repeat' first
    | assumption | apply State.setFld_keeps | apply inDom_keeps | apply State.motThermRelease_keeps | intro _ | split | dsimp only

theorem State.showDuty_keeps {s0 s : State} (hs : Keeps s0 s) (n : Nat) : Keeps s0 (State.showDuty s n) := by
  unfold State.showDuty
  with_reducible repeat' (first | assumption | apply State.setFld_keeps | intro _ | split | dsimp only)

theorem State.dutyTick_keeps {s0 s : State} (hs : Keeps s0 s) (n : Nat) : Keeps s0 (State.dutyTick s n) := by
  unfold State.dutyTick
  with_reducible repeat' (first | assumption | apply State.setVv_keeps | apply State.showDuty_keeps | intro _ | split | dsimp only)

theorem State.vlvDuty_keeps {s0 s : State} (hs : Keeps s0 s) (n : Nat) : Keeps s0 (State.vlvDuty s n) := by
  unfold State.vlvDuty
  with_reducible repeat' first
    | assumption | apply State.raise_keeps | apply State.modVv_keeps | apply State.vEvt_keeps | apply State.vlvCut_keeps | apply State.vlvDecay_keeps
    | apply State.record_keeps | apply State.showDuty_keeps | intro _ | split | dsimp only

theorem State.vlvCommitted_keeps {s0 s : State} {was : State} (hs : Keeps s0 s) : Keeps s0 (State.vlvCommitted s was) := by
  unfold State.vlvCommitted
  with_reducible repeat' first
    | assumption | apply State.setFld_keeps | apply State.each_keeps | apply State.modVv_keeps | intro _ | split | dsimp only

theorem State.vlvApply_keeps {s0 s : State} (hs : Keeps s0 s) (n : Nat) (d : Nat) : Keeps s0 (State.vlvApply s n d) := by
  unfold State.vlvApply
  with_reducible repeat' first
    | assumption | apply State.modVv_keeps | apply State.vlvDecay_keeps | apply State.vlvRequest_keeps | apply State.hold_keeps | intro _ | split
    | dsimp only

theorem State.vlvMove_keeps {s0 s : State} (hs : Keeps s0 s) (n : Nat) : Keeps s0 (State.vlvMove s n) := by
  unfold State.vlvMove
  with_reducible repeat' first
    | assumption | apply State.modVv_keeps | apply State.vlvShow_keeps | apply State.hold_keeps | intro _ | split | dsimp only

theorem State.vlvPeriod_keeps {s0 s : State} (hs : Keeps s0 s) (n : Nat) : Keeps s0 (State.vlvPeriod s n) := by
  unfold State.vlvPeriod
  with_reducible repeat' first
    | assumption | apply State.when_keeps | apply State.modVv_keeps | apply State.ditherTake_keeps | apply State.vlvMove_keeps | intro _ | split
    | dsimp only

theorem State.vlvSetp_keeps {s0 s : State} (hs : Keeps s0 s) (n : Nat) (p : Nat) (v : Nat) : Keeps s0 (State.vlvSetp s n p v) := by
  unfold State.vlvSetp
  with_reducible repeat' (first | assumption | apply State.modVv_keeps | intro _ | split | dsimp only)

theorem State.vlvOpenNew_keeps {s0 s : State} (hs : Keeps s0 s) (n : Nat) (d : Desc) : Keeps s0 (State.vlvOpenNew s n d) := by
  unfold State.vlvOpenNew
  with_reducible repeat' first
    | assumption | apply State.stopThread_keeps | apply State.startDesc_keeps | apply State.modVv_keeps | apply State.vlvSupersede_keeps | intro _
    | split | dsimp only

theorem State.vlvLaunch_keeps {s0 s : State} (hs : Keeps s0 s) (n : Nat) (e : Nat) (d : Desc) : Keeps s0 (State.vlvLaunch s n e d) := by
  unfold State.vlvLaunch
  with_reducible repeat' first
    | assumption | apply State.modVv_keeps | apply State.bankClose_keeps | apply State.launch_keeps | apply State.vlvOpenNew_keeps | intro _ | split
    | dsimp only

theorem State.vlvRelease_keeps {s0 s : State} (hs : Keeps s0 s) (n : Nat) (d : Desc) (clamp : Bool) : Keeps s0 (State.vlvRelease s n d clamp) := by
  unfold State.vlvRelease
  with_reducible repeat' first
    | assumption | apply State.finishDone_keeps | apply State.stopThread_keeps | apply State.startDesc_keeps | apply State.modVv_keeps
    | apply State.vlvSupersede_keeps | apply State.vlvDecay_keeps | intro _ | split | dsimp only

theorem State.vlvAct_keeps {s0 s : State} (hs : Keeps s0 s) (n : Nat) (d : Desc) : Keeps s0 (State.vlvAct s n d) := by
  unfold State.vlvAct
  with_reducible repeat' first
    | assumption | apply State.setFld_keeps | apply State.when_keeps | apply State.finish_keeps | apply State.finishDone_keeps
    | apply State.entryScrub_keeps | apply State.startDesc_keeps | apply State.modVv_keeps | apply State.bankClose_keeps | apply State.vlvToOff_keeps
    | apply State.vlvRequest_keeps | apply State.vlvOpenNew_keeps | apply State.vlvLaunch_keeps | apply State.vlvRelease_keeps
    | apply State.hold_keeps | intro _ | split | dsimp only

theorem State.bankAct_keeps {s0 s : State} (hs : Keeps s0 s) (m : Nat) (d : Desc) : Keeps s0 (State.bankAct s m d) := by
  unfold State.bankAct
  with_reducible repeat' first
    | assumption | apply State.when_keeps | apply State.finish_keeps | apply State.finishDone_keeps | apply State.wireReset_keeps
    | apply State.bankToIdle_keeps | intro _ | split | dsimp only

theorem State.vlvAction_keeps {s0 s : State} (hs : Keeps s0 s) (d : Desc) : Keeps s0 (State.vlvAction s d) := by
  unfold State.vlvAction
  with_reducible repeat' (first | assumption | apply State.vlvAct_keeps | apply State.bankAct_keeps | intro _ | split | dsimp only)

theorem State.vlvPrepare_keeps {s0 s : State} (hs : Keeps s0 s) (d : Desc) : Keeps s0 (State.vlvPrepare s d) := by
  unfold State.vlvPrepare
  with_reducible repeat' first
    | assumption | apply State.setFld_keeps | apply State.finish_keeps | apply State.modVv_keeps | apply State.setVst_keeps
    | apply State.bankClose_keeps | intro _ | split | dsimp only

theorem State.vlvUndo_keeps {s0 s : State} (hs : Keeps s0 s) (n : Nat) : Keeps s0 (State.vlvUndo s n) := by
  unfold State.vlvUndo
  with_reducible repeat' (first | assumption | apply State.vlvDecay_keeps | intro _ | split | dsimp only)

theorem State.vlvThreadEnd_keeps {s0 s : State} (hs : Keeps s0 s) (n : Nat) (d : Nat) : Keeps s0 (State.vlvThreadEnd s n d) := by
  unfold State.vlvThreadEnd
  with_reducible repeat' (first | assumption | apply State.modVv_keeps | apply State.vlvDone_keeps | intro _ | split | dsimp only)

theorem State.vlvForced_keeps {s0 s : State} (hs : Keeps s0 s) : Keeps s0 (State.vlvForced s) := by
  unfold State.vlvForced
  with_reducible repeat' first
    | assumption | apply State.each_keeps | apply State.finishAll_keeps | apply State.setBst_keeps | apply State.vlvDown_keeps | intro _ | split
    | dsimp only

theorem execVlvEnergise_keeps (r : Fin 64) (i : Fin 1024) (s : State) : ∃ u, execVlvEnergise r i s = .next u ∧ Keeps s u := by
  refine ⟨_, rfl, ?_⟩
  have h := Keeps.refl s
  with_reducible repeat' first
    | assumption | apply inDom_keeps | apply State.actReady_keeps | apply State.vlvAction_keeps | apply State.vlvUndo_keeps | intro _ | split
    | dsimp only

theorem execVlvRelease_keeps (r : Fin 64) (i : Fin 1024) (s : State) : ∃ u, execVlvRelease r i s = .next u ∧ Keeps s u := by
  refine ⟨_, rfl, ?_⟩
  have h := Keeps.refl s
  with_reducible repeat' first
    | assumption | apply inDom_keeps | apply State.actReady_keeps | apply State.vlvAction_keeps | apply State.vlvUndo_keeps | intro _ | split
    | dsimp only

theorem execSeti_keeps (r : Fin 64) (i : Fin 1024) (s : State) : ∃ u, execSeti r i s = .next u ∧ Keeps s u := by
  refine ⟨_, rfl, ?_⟩
  have h := Keeps.refl s
  with_reducible repeat' first
    | assumption | apply inDom_keeps | apply State.actReady_keeps | apply State.vlvAction_keeps | apply State.vlvUndo_keeps | intro _ | split
    | dsimp only

theorem execVlvRun_keeps (r : Fin 64) (i : Fin 1024) (s : State) : ∃ u, execVlvRun r i s = .next u ∧ Keeps s u := by
  refine ⟨_, rfl, ?_⟩
  have h := Keeps.refl s
  with_reducible repeat' first
    | assumption | apply inDom_keeps | apply State.actReady_keeps | apply State.vlvAction_keeps | apply State.vlvUndo_keeps | intro _ | split
    | dsimp only

theorem execVlvDiag_keeps (r : Fin 64) (i : Fin 1024) (s : State) : ∃ u, execVlvDiag r i s = .next u ∧ Keeps s u := by
  refine ⟨_, rfl, ?_⟩
  have h := Keeps.refl s
  with_reducible repeat' first
    | assumption | apply inDom_keeps | apply State.actReady_keeps | apply State.vlvAction_keeps | apply State.vlvUndo_keeps | intro _ | split
    | dsimp only

theorem execVlvClear_keeps (r : Fin 64) (i : Fin 1024) (s : State) : ∃ u, execVlvClear r i s = .next u ∧ Keeps s u := by
  refine ⟨_, rfl, ?_⟩
  have h := Keeps.refl s
  with_reducible repeat' first
    | assumption | apply inDom_keeps | apply State.actReady_keeps | apply State.vlvAction_keeps | apply State.vlvUndo_keeps | intro _ | split
    | dsimp only

theorem execVlvDiagDone_keeps (n : Fin 16) (low : Bool) (cur : Bool) (s : State) : ∃ u, execVlvDiagDone n low cur s = .next u ∧ Keeps s u := by
  refine ⟨_, rfl, ?_⟩
  have h := Keeps.refl s
  with_reducible repeat' first
    | assumption | apply State.setFld_keeps | apply inDom_keeps | apply State.finishDone_keeps | apply State.bankRest_keeps | intro _ | split
    | dsimp only

theorem execBankNodeReady_keeps (m : Fin 4) (s : State) : ∃ u, execBankNodeReady m s = .next u ∧ Keeps s u := by
  refine ⟨_, rfl, ?_⟩
  have h := Keeps.refl s
  with_reducible repeat' first
    | assumption | apply State.each_keeps | apply inDom_keeps | apply State.setVb_keeps | apply State.vlvShow_keeps | apply State.hold_keeps
    | intro _ | split | dsimp only

theorem execVhOpenDelayEnd_keeps (m : Fin 4) (s : State) : ∃ u, execVhOpenDelayEnd m s = .next u ∧ Keeps s u := by
  refine ⟨_, rfl, ?_⟩
  have h := Keeps.refl s
  with_reducible repeat' (first | assumption | apply inDom_keeps | apply State.setBst_keeps | intro _ | split | dsimp only)

theorem execIpkReached_keeps (n : Fin 16) (us : Nat) (s : State) : ∃ u, execIpkReached n us s = .next u ∧ Keeps s u := by
  refine ⟨_, rfl, ?_⟩
  have h := Keeps.refl s
  with_reducible repeat' first
    | assumption | apply State.setFld_keeps | apply inDom_keeps | apply State.modVv_keeps | apply State.vEvt_keeps | apply State.vlvHold_keeps
    | apply State.vlvTake_keeps | apply State.vlvLatch_keeps | apply State.record_keeps | intro _ | split | dsimp only

theorem execPeakHoldEnd_keeps (n : Fin 16) (s : State) : ∃ u, execPeakHoldEnd n s = .next u ∧ Keeps s u := by
  refine ⟨_, rfl, ?_⟩
  have h := Keeps.refl s
  with_reducible repeat' first
    | assumption | apply inDom_keeps | apply State.vlvHold_keeps | apply State.vlvTake_keeps | intro _ | split | dsimp only

theorem execTpkmaxExpiry_keeps (n : Fin 16) (low : Bool) (weak : Bool) (s : State) : ∃ u, execTpkmaxExpiry n low weak s = .next u ∧ Keeps s u := by
  refine ⟨_, rfl, ?_⟩
  have h := Keeps.refl s
  with_reducible repeat' first
    | assumption | apply State.when_keeps | apply inDom_keeps | apply State.vEvt_keeps | apply State.vlvCut_keeps | apply State.vlvDecay_keeps
    | apply State.record_keeps | intro _ | split | dsimp only

theorem execDecayEnd_keeps (n : Fin 16) (s : State) : ∃ u, execDecayEnd n s = .next u ∧ Keeps s u := by
  refine ⟨_, rfl, ?_⟩
  have h := Keeps.refl s
  with_reducible repeat' (first | assumption | apply inDom_keeps | apply State.vlvToOff_keeps | intro _ | split | dsimp only)

theorem execPeakSlotFree_keeps (n : Fin 16) (s : State) : ∃ u, execPeakSlotFree n s = .next u ∧ Keeps s u := by
  refine ⟨_, rfl, ?_⟩
  have h := Keeps.refl s
  with_reducible repeat' first
    | assumption | apply inDom_keeps | apply State.vlvUnslot_keeps | apply State.vlvTake_keeps | intro _ | split | dsimp only

theorem execWaitDeadline_keeps (n : Fin 16) (s : State) : ∃ u, execWaitDeadline n s = .next u ∧ Keeps s u := by
  refine ⟨_, rfl, ?_⟩
  have h := Keeps.refl s
  with_reducible repeat' (first | assumption | apply inDom_keeps | apply State.vlvDeadline_keeps | intro _ | split | dsimp only)

theorem execDutyLimit_keeps (n : Fin 16) (s : State) : ∃ u, execDutyLimit n s = .next u ∧ Keeps s u := by
  refine ⟨_, rfl, ?_⟩
  have h := Keeps.refl s
  with_reducible repeat' (first | assumption | apply inDom_keeps | apply State.vlvDuty_keeps | intro _ | split | dsimp only)

theorem execDfullClear_keeps (n : Fin 16) (s : State) : ∃ u, execDfullClear n s = .next u ∧ Keeps s u := by
  refine ⟨_, rfl, ?_⟩
  have h := Keeps.refl s
  with_reducible repeat' first
    | assumption | apply State.setFld_keeps | apply inDom_keeps | apply State.modVv_keeps | apply State.showDuty_keeps | intro _ | split | dsimp only

theorem execValveDurationEnd_keeps (n : Fin 16) (s : State) : ∃ u, execValveDurationEnd n s = .next u ∧ Keeps s u := by
  refine ⟨_, rfl, ?_⟩
  have h := Keeps.refl s
  with_reducible repeat' first
    | assumption | apply inDom_keeps | apply State.modVv_keeps | apply State.vlvDone_keeps | apply State.vlvDecay_keeps | intro _ | split
    | dsimp only

theorem execSetiRampEnd_keeps (n : Fin 16) (s : State) : ∃ u, execSetiRampEnd n s = .next u ∧ Keeps s u := by
  refine ⟨_, rfl, ?_⟩
  have h := Keeps.refl s
  with_reducible repeat' first
    | assumption | apply inDom_keeps | apply State.modVv_keeps | apply State.vlvEnd_keeps | apply State.vlvShow_keeps | apply State.vlvTake_keeps
    | apply State.hold_keeps | intro _ | split | dsimp only

theorem execValveOpen_keeps (n : Fin 16) (s : State) : ∃ u, execValveOpen n s = .next u ∧ Keeps s u := by
  refine ⟨_, rfl, ?_⟩
  have h := Keeps.refl s
  with_reducible repeat' first
    | assumption | apply inDom_keeps | apply State.vEvt_keeps | apply State.vlvCut_keeps | apply State.vlvToOff_keeps | apply State.vlvDown_keeps
    | apply State.vlvTake_keeps | apply State.record_keeps | intro _ | split | dsimp only

theorem execVlShort_keeps (n : Fin 16) (s : State) : ∃ u, execVlShort n s = .next u ∧ Keeps s u := by
  refine ⟨_, rfl, ?_⟩
  have h := Keeps.refl s
  with_reducible repeat' first
    | assumption | apply inDom_keeps | apply State.vEvt_keeps | apply State.vlvLatch_keeps | apply State.record_keeps | intro _ | split | dsimp only

theorem execVhShort_keeps (m : Fin 4) (s : State) : ∃ u, execVhShort m s = .next u ∧ Keeps s u := by
  refine ⟨_, rfl, ?_⟩
  have h := Keeps.refl s
  with_reducible repeat' first
    | assumption | apply inDom_keeps | apply State.bEvt_keeps | apply State.bankLatch_keeps | apply State.record_keeps | intro _ | split | dsimp only

theorem execBankOverload_keeps (m : Fin 4) (s : State) : ∃ u, execBankOverload m s = .next u ∧ Keeps s u := by
  refine ⟨_, rfl, ?_⟩
  have h := Keeps.refl s
  with_reducible repeat' first
    | assumption | apply inDom_keeps | apply State.bEvt_keeps | apply State.bankLatch_keeps | apply State.record_keeps | intro _ | split | dsimp only

theorem execBankUvoff_keeps (m : Fin 4) (s : State) : ∃ u, execBankUvoff m s = .next u ∧ Keeps s u := by
  refine ⟨_, rfl, ?_⟩
  have h := Keeps.refl s
  with_reducible repeat' first
    | assumption | apply State.setFld_keeps | apply State.raise_keeps | apply State.each_keeps | apply inDom_keeps | apply State.protEvent_keeps
    | apply State.modVv_keeps | apply State.bEvt_keeps | apply State.setBst_keeps | apply State.setSlots_keeps | apply State.setiDrop_keeps
    | apply State.vlvDown_keeps | intro _ | split | dsimp only

theorem execBankUvRelease_keeps (m : Fin 4) (s : State) : ∃ u, execBankUvRelease m s = .next u ∧ Keeps s u := by
  refine ⟨_, rfl, ?_⟩
  have h := Keeps.refl s
  with_reducible repeat' first
    | assumption | apply State.setFld_keeps | apply State.each_keeps | apply inDom_keeps | apply State.modVv_keeps | apply State.setVst_keeps
    | apply State.setBst_keeps | apply State.bankClose_keeps | apply State.vlvToOff_keeps | apply State.vlvTake_keeps | intro _ | split | dsimp only

theorem State.luxAccept_keeps {s0 s : State} (hs : Keeps s0 s) (d : Desc) : Keeps s0 (State.luxAccept s d) := by
  unfold State.luxAccept
  with_reducible repeat' (first | assumption | apply State.modPch_keeps | intro _ | split | dsimp only)

theorem State.luxOpenNew_keeps {s0 s : State} (hs : Keeps s0 s) (n : Nat) (d : Desc) : Keeps s0 (State.luxOpenNew s n d) := by
  unfold State.luxOpenNew
  with_reducible repeat' first
    | assumption | apply State.stopThread_keeps | apply State.startDesc_keeps | apply State.modLx_keeps | apply State.luxSupersede_keeps | intro _
    | split | dsimp only

theorem State.luxLaunch_keeps {s0 s : State} (hs : Keeps s0 s) (n : Nat) (e : Nat) (d : Desc) : Keeps s0 (State.luxLaunch s n e d) := by
  unfold State.luxLaunch
  with_reducible repeat' first
    | assumption | apply State.modLx_keeps | apply State.launch_keeps | apply State.luxOpenNew_keeps | intro _ | split | dsimp only

theorem State.luxRamp_keeps {s0 s : State} (hs : Keeps s0 s) (n : Nat) : Keeps s0 (State.luxRamp s n) := by
  unfold State.luxRamp
  with_reducible repeat' first
    | assumption | apply State.modLx_keeps | apply State.luxCut_keeps | apply State.luxApply_keeps | intro _ | split | dsimp only

theorem State.luxStart_keeps {s0 s : State} (hs : Keeps s0 s) (n : Nat) (ramp : Bool) : Keeps s0 (State.luxStart s n ramp) := by
  unfold State.luxStart
  with_reducible repeat' first
    | assumption | apply State.when_keeps | apply State.modLx_keeps | apply State.luxBegin_keeps | apply State.luxTryDone_keeps
    | apply State.luxApply_keeps | apply State.luxRamp_keeps | intro _ | split | dsimp only

theorem State.sinkAct_keeps {s0 s : State} (hs : Keeps s0 s) (n : Nat) (d : Desc) : Keeps s0 (State.sinkAct s n d) := by
  unfold State.sinkAct
  with_reducible repeat' first
    | assumption | apply State.setFld_keeps | apply State.when_keeps | apply State.finish_keeps | apply State.finishDone_keeps
    | apply State.stopThread_keeps | apply State.entryScrub_keeps | apply State.startDesc_keeps | apply State.modLx_keeps | apply State.setLst_keeps
    | apply State.luxCut_keeps | apply State.luxSupersede_keeps | apply State.luxTryDone_keeps | apply State.luxDown_keeps
    | apply State.luxApply_keeps | apply State.luxOpenNew_keeps | apply State.luxLaunch_keeps | apply State.luxStart_keeps | intro _ | split
    | dsimp only

theorem State.loopSettled_keeps {s0 s : State} (hs : Keeps s0 s) (k : Nat) : Keeps s0 (State.loopSettled s k) := by
  unfold State.loopSettled
  with_reducible repeat' first
    | assumption | apply State.raise_keeps | apply State.finishDone_keeps | apply State.cEvt_keeps | intro _ | split | dsimp only

theorem State.colour_keeps {s0 s : State} (hs : Keeps s0 s) (k : Nat) (d : Desc) : Keeps s0 (State.colour s k d) := by
  unfold State.colour
  with_reducible repeat' first
    | assumption | apply State.setFld_keeps | apply State.each_keeps | apply State.finish_keeps | apply State.finishDone_keeps
    | apply State.startDesc_keeps | apply State.modCl_keeps | apply State.luxSupersede_keeps | apply State.luxApply_keeps | apply State.setCst_keeps
    | apply State.loopOff_keeps | intro _ | split | dsimp only

theorem State.loopAct_keeps {s0 s : State} (hs : Keeps s0 s) (k : Nat) (d : Desc) : Keeps s0 (State.loopAct s k d) := by
  unfold State.loopAct
  with_reducible repeat' first
    | assumption | apply State.finish_keeps | apply State.finishDone_keeps | apply State.luxSupersede_keeps | apply State.loopOff_keeps
    | apply State.colour_keeps | intro _ | split | dsimp only

theorem State.pxAct_keeps {s0 s : State} (hs : Keeps s0 s) (c : Nat) (d : Desc) : Keeps s0 (State.pxAct s c d) := by
  unfold State.pxAct
  with_reducible repeat' first
    | assumption | apply State.finish_keeps | apply State.finishDone_keeps | apply State.startDesc_keeps | apply State.provEnd_keeps
    | apply State.modPch_keeps | apply State.pxNext_keeps | apply State.pxDrop_keeps | intro _ | split | dsimp only

theorem State.luxAct_keeps {s0 s : State} (hs : Keeps s0 s) (d : Desc) : Keeps s0 (State.luxAct s d) := by
  unfold State.luxAct
  with_reducible repeat' first
    | assumption | apply State.sinkAct_keeps | apply State.loopAct_keeps | apply State.pxAct_keeps | intro _ | split | dsimp only

theorem State.luxPrepare_keeps {s0 s : State} (hs : Keeps s0 s) (d : Desc) : Keeps s0 (State.luxPrepare s d) := by
  unfold State.luxPrepare
  with_reducible repeat' (first | assumption | apply State.finish_keeps | apply State.setLst_keeps | intro _ | split | dsimp only)

theorem State.luxUndo_keeps {s0 s : State} (hs : Keeps s0 s) (d : Desc) : Keeps s0 (State.luxUndo s d) := by
  unfold State.luxUndo
  with_reducible repeat' first
    | assumption | apply State.setDesc_keeps | apply State.setLst_keeps | apply State.pxNext_keeps | apply State.pxDrop_keeps | intro _ | split
    | dsimp only

theorem State.luxSetp_keeps {s0 s : State} (hs : Keeps s0 s) (n : Nat) (p : Nat) (v : Nat) : Keeps s0 (State.luxSetp s n p v) := by
  unfold State.luxSetp
  with_reducible repeat' (first | assumption | apply State.modLx_keeps | intro _ | split | dsimp only)

theorem State.luxCommitted_keeps {s0 s : State} {was : State} (hs : Keeps s0 s) (point : Option Nat) : Keeps s0 (State.luxCommitted s was point) := by
  unfold State.luxCommitted
  with_reducible repeat' first
    | assumption | apply State.each_keeps | apply State.stopThread_keeps | apply State.modLx_keeps | apply State.luxBegin_keeps
    | apply State.luxCut_keeps | apply State.modPch_keeps | apply State.pxShow_keeps | intro _ | split | dsimp only

theorem State.luxForced_keeps {s0 s : State} (hs : Keeps s0 s) : Keeps s0 (State.luxForced s) := by
  unfold State.luxForced
  with_reducible repeat' first
    | assumption | apply State.setFld_keeps | apply State.each_keeps | apply State.finishAll_keeps | apply State.luxDown_keeps
    | apply State.setCst_keeps | apply State.pxStop_keeps | intro _ | split | dsimp only

theorem State.setLol_keeps {s0 s : State} (hs : Keeps s0 s) (n : Nat) (v : Nat) : Keeps s0 (State.setLol s n v) := by
  unfold State.setLol
  with_reducible repeat' first
    | assumption | apply State.setFld_keeps | apply State.when_keeps | apply State.finish_keeps | apply State.finishDone_keeps
    | apply State.seqEvent_keeps | apply State.lEvt_keeps | apply State.record_keeps | intro _ | split | dsimp only

theorem State.luxOnTime_keeps {s0 s : State} (hs : Keeps s0 s) (n : Nat) (out : Bool) : Keeps s0 (State.luxOnTime s n out) := by
  unfold State.luxOnTime
  with_reducible repeat' first
    | assumption | apply State.when_keeps | apply State.modLx_keeps | apply State.setLol_keeps | intro _ | split | dsimp only

theorem execLuxSet_keeps (r : Fin 64) (i : Fin 1024) (s : State) : ∃ u, execLuxSet r i s = .next u ∧ Keeps s u := by
  refine ⟨_, rfl, ?_⟩
  have h := Keeps.refl s
  with_reducible repeat' first
    | assumption | apply inDom_keeps | apply State.actReady_keeps | apply State.luxAct_keeps | apply State.luxUndo_keeps | intro _ | split
    | dsimp only

theorem execLuxOff_keeps (r : Fin 64) (i : Fin 1024) (s : State) : ∃ u, execLuxOff r i s = .next u ∧ Keeps s u := by
  refine ⟨_, rfl, ?_⟩
  have h := Keeps.refl s
  with_reducible repeat' first
    | assumption | apply inDom_keeps | apply State.actReady_keeps | apply State.luxAct_keeps | apply State.luxUndo_keeps | intro _ | split
    | dsimp only

theorem execLuxRun_keeps (r : Fin 64) (i : Fin 1024) (s : State) : ∃ u, execLuxRun r i s = .next u ∧ Keeps s u := by
  refine ⟨_, rfl, ?_⟩
  have h := Keeps.refl s
  with_reducible repeat' first
    | assumption | apply inDom_keeps | apply State.actReady_keeps | apply State.luxAct_keeps | apply State.luxUndo_keeps | intro _ | split
    | dsimp only

theorem execLuxDiag_keeps (r : Fin 64) (i : Fin 1024) (s : State) : ∃ u, execLuxDiag r i s = .next u ∧ Keeps s u := by
  refine ⟨_, rfl, ?_⟩
  have h := Keeps.refl s
  with_reducible repeat' first
    | assumption | apply inDom_keeps | apply State.actReady_keeps | apply State.luxAct_keeps | apply State.luxUndo_keeps | intro _ | split
    | dsimp only

theorem execLuxClear_keeps (r : Fin 64) (i : Fin 1024) (s : State) : ∃ u, execLuxClear r i s = .next u ∧ Keeps s u := by
  refine ⟨_, rfl, ?_⟩
  have h := Keeps.refl s
  with_reducible repeat' first
    | assumption | apply inDom_keeps | apply State.actReady_keeps | apply State.luxAct_keeps | apply State.luxUndo_keeps | intro _ | split
    | dsimp only

theorem execColour_keeps (r : Fin 64) (i : Fin 1024) (s : State) : ∃ u, execColour r i s = .next u ∧ Keeps s u := by
  refine ⟨_, rfl, ?_⟩
  have h := Keeps.refl s
  with_reducible repeat' first
    | assumption | apply inDom_keeps | apply State.actReady_keeps | apply State.luxAct_keeps | apply State.luxUndo_keeps | intro _ | split
    | dsimp only

theorem execPxwrite_keeps (r : Fin 64) (i : Fin 1024) (s : State) : ∃ u, execPxwrite r i s = .next u ∧ Keeps s u := by
  refine ⟨_, rfl, ?_⟩
  have h := Keeps.refl s
  with_reducible repeat' first
    | assumption | apply inDom_keeps | apply State.actReady_keeps | apply State.luxAct_keeps | apply State.luxUndo_keeps | intro _ | split
    | dsimp only

theorem execPxlatch_keeps (r : Fin 64) (i : Fin 1024) (s : State) : ∃ u, execPxlatch r i s = .next u ∧ Keeps s u := by
  refine ⟨_, rfl, ?_⟩
  have h := Keeps.refl s
  with_reducible repeat' first
    | assumption | apply inDom_keeps | apply State.actReady_keeps | apply State.luxAct_keeps | apply State.luxUndo_keeps | intro _ | split
    | dsimp only

theorem execPxenum_keeps (r : Fin 64) (i : Fin 1024) (s : State) : ∃ u, execPxenum r i s = .next u ∧ Keeps s u := by
  refine ⟨_, rfl, ?_⟩
  have h := Keeps.refl s
  with_reducible repeat' first
    | assumption | apply inDom_keeps | apply State.actReady_keeps | apply State.luxAct_keeps | apply State.luxUndo_keeps | intro _ | split
    | dsimp only

theorem execPxread_keeps (r : Fin 64) (i : Fin 1024) (s : State) : ∃ u, execPxread r i s = .next u ∧ Keeps s u := by
  refine ⟨_, rfl, ?_⟩
  have h := Keeps.refl s
  with_reducible repeat' first
    | assumption | apply inDom_keeps | apply State.actReady_keeps | apply State.luxAct_keeps | apply State.luxUndo_keeps | intro _ | split
    | dsimp only

theorem execPxreg_keeps (r : Fin 64) (i : Fin 1024) (s : State) : ∃ u, execPxreg r i s = .next u ∧ Keeps s u := by
  refine ⟨_, rfl, ?_⟩
  have h := Keeps.refl s
  with_reducible repeat' first
    | assumption | apply inDom_keeps | apply State.actReady_keeps | apply State.luxAct_keeps | apply State.luxUndo_keeps | intro _ | split
    | dsimp only

theorem execSinkShortToBattery_keeps (n : Fin 24) (s : State) : ∃ u, execSinkShortToBattery n s = .next u ∧ Keeps s u := by
  refine ⟨_, rfl, ?_⟩
  have h := Keeps.refl s
  with_reducible repeat' first
    | assumption | apply State.setFld_keeps | apply inDom_keeps | apply State.protEvent_keeps | apply State.lEvt_keeps | apply State.luxCut_keeps
    | apply State.luxDown_keeps | apply State.loopLost_keeps | apply State.record_keeps | intro _ | split | dsimp only

theorem State.loopFreeze_keeps {s0 s : State} (hs : Keeps s0 s) (k : Nat) : Keeps s0 (State.loopFreeze s k) := by
  unfold State.loopFreeze
  with_reducible repeat' (first | assumption | apply State.setFld_keeps | intro _ | split | dsimp only)

theorem execDeratingUpdate_keeps (s : State) : ∃ u, execDeratingUpdate s = .next u ∧ Keeps s u := by
  refine ⟨_, rfl, ?_⟩
  have h := Keeps.refl s
  with_reducible repeat' first
    | assumption | apply State.setFld_keeps | apply State.raise_keeps | apply State.when_keeps | apply State.each_keeps | apply inDom_keeps
    | apply State.modLx_keeps | apply State.lEvt_keeps | apply State.loopFreeze_keeps | intro _ | split | dsimp only

theorem execDimmingPeriodEnd_keeps (n : Fin 24) (amp : Nat) (v : Nat) (outs : List Bool) (weak : Bool) (s : State) : ∃ u, execDimmingPeriodEnd n
    amp v outs weak s = .next u ∧ Keeps s u := by
  refine ⟨_, rfl, ?_⟩
  have h := Keeps.refl s
  with_reducible repeat' first
    | assumption | apply State.setFld_keeps | apply State.when_keeps | apply State.each_keeps | apply inDom_keeps | apply State.finish_keeps
    | apply State.senseEvent_keeps | apply State.modLx_keeps | apply State.luxStart_keeps | apply State.setLol_keeps | apply State.luxOnTime_keeps
    | intro _ | split | dsimp only

theorem execLoopPeriod_keeps (k : Fin 8) (s : State) : ∃ u, execLoopPeriod k s = .next u ∧ Keeps s u := by
  refine ⟨_, rfl, ?_⟩
  have h := Keeps.refl s
  with_reducible repeat' first
    | assumption | apply inDom_keeps | apply State.finish_keeps | apply State.modCl_keeps | apply State.i2cAsk_keeps | intro _ | split | dsimp only

theorem State.i2cFail_keeps {s0 s : State} (hs : Keeps s0 s) (why : Nat) : Keeps s0 (State.i2cFail s why) := by
  unfold State.i2cFail
  with_reducible repeat' (first | assumption | apply State.raiseIf_keeps | apply State.count_keeps | intro _ | split | dsimp only)

theorem execColourSensorReadDone_keeps (k : Fin 8) (why : Fin 4) (p0 : BitVec 16) (p1 : BitVec 16) (p2 : BitVec 16) (s : State) : ∃ u,
    execColourSensorReadDone k why p0 p1 p2 s = .next u ∧ Keeps s u := by
  refine ⟨_, rfl, ?_⟩
  have h := Keeps.refl s
  with_reducible repeat' first
    | assumption | apply State.setFld_keeps | apply State.raise_keeps | apply State.count_keeps | apply State.when_keeps | apply State.each_keeps
    | apply inDom_keeps | apply State.finish_keeps | apply State.modCl_keeps | apply State.luxLoopD_keeps | apply State.cEvt_keeps
    | apply State.setCst_keeps | apply State.i2cSet_keeps | apply State.record_keeps | apply State.loopSettled_keeps | apply State.loopFreeze_keeps
    | apply State.i2cFail_keeps | intro _ | split | dsimp only

theorem State.pxBreak_keeps {s0 s : State} (hs : Keeps s0 s) (c : Nat) (a : Nat) (scan : Bool) : Keeps s0 (State.pxBreak s c a scan) := by
  unfold State.pxBreak
  with_reducible repeat' (first | assumption | apply State.setFld_keeps | apply State.pEvt_keeps | intro _ | split | dsimp only)

theorem State.scanEnd_keeps {s0 s : State} (hs : Keeps s0 s) (c : Nat) : Keeps s0 (State.scanEnd s c) := by
  unfold State.scanEnd
  with_reducible repeat' (first | assumption | apply State.modPch_keeps | apply State.pxShow_keeps | intro _ | split | dsimp only)

theorem State.pxFail_keeps {s0 s : State} (hs : Keeps s0 s) (c : Nat) (f : PxFrame) (crc : Bool) : Keeps s0 (State.pxFail s c f crc) := by
  unfold State.pxFail
  with_reducible repeat' first
    | assumption | apply State.raise_keeps | apply State.count_keeps | apply State.when_keeps | apply State.finish_keeps | apply State.modPch_keeps
    | apply State.pEvt_keeps | apply State.pxNext_keeps | apply State.pxDone_keeps | apply State.record_keeps | apply State.pxBreak_keeps
    | apply State.scanEnd_keeps | intro _ | split | dsimp only

theorem State.nodeStatus_keeps {s0 s : State} (hs : Keeps s0 s) (c : Nat) (a : Nat) (v : Nat) : Keeps s0 (State.nodeStatus s c a v) := by
  unfold State.nodeStatus
  with_reducible repeat' first
    | assumption | apply State.setBitF_keeps | apply State.when_keeps | apply State.pEvt_keeps | apply State.record_keeps | intro _ | split
    | dsimp only

theorem execChainFrameSent_keeps (c : Fin 2) (s : State) : ∃ u, execChainFrameSent c s = .next u ∧ Keeps s u := by
  refine ⟨_, rfl, ?_⟩
  have h := Keeps.refl s
  with_reducible repeat' first
    | assumption | apply inDom_keeps | apply State.finishDone_keeps | apply State.modPch_keeps | apply State.pEvt_keeps | apply State.pxNext_keeps
    | apply State.pxDone_keeps | intro _ | split | dsimp only

theorem execChainReply_keeps (c : Fin 2) (frame : List Byte) (s : State) : ∃ u, execChainReply c frame s = .next u ∧ Keeps s u := by
  refine ⟨_, rfl, ?_⟩
  have h := Keeps.refl s
  with_reducible repeat' first
    | assumption | apply inDom_keeps | apply State.putBytes_keeps | apply State.finish_keeps | apply State.finishDone_keeps
    | apply State.pxNext_keeps | apply State.pxDone_keeps | apply State.scanEnd_keeps | apply State.pxFail_keeps | apply State.nodeStatus_keeps
    | intro _ | split | dsimp only

theorem execChainReplyTimeout_keeps (c : Fin 2) (s : State) : ∃ u, execChainReplyTimeout c s = .next u ∧ Keeps s u := by
  refine ⟨_, rfl, ?_⟩
  have h := Keeps.refl s
  with_reducible repeat' (first | assumption | apply inDom_keeps | apply State.pxFail_keeps | intro _ | split | dsimp only)

theorem execEnumEnd_keeps (c : Fin 2) (frame : List Byte) (s : State) : ∃ u, execEnumEnd c frame s = .next u ∧ Keeps s u := by
  refine ⟨_, rfl, ?_⟩
  have h := Keeps.refl s
  with_reducible repeat' first
    | assumption | apply State.setFld_keeps | apply inDom_keeps | apply State.finish_keeps | apply State.finishDone_keeps | apply State.modPch_keeps
    | apply State.pEvt_keeps | apply State.pxNext_keeps | apply State.pxDone_keeps | intro _ | split | dsimp only

theorem execEnumEndWaitExpiry_keeps (c : Fin 2) (s : State) : ∃ u, execEnumEndWaitExpiry c s = .next u ∧ Keeps s u := by
  refine ⟨_, rfl, ?_⟩
  have h := Keeps.refl s
  with_reducible repeat' first
    | assumption | apply State.raise_keeps | apply inDom_keeps | apply State.finish_keeps | apply State.pxNext_keeps | apply State.pxDone_keeps
    | intro _ | split | dsimp only

theorem execStatusScan_keeps (c : Fin 2) (s : State) : ∃ u, execStatusScan c s = .next u ∧ Keeps s u := by
  refine ⟨_, rfl, ?_⟩
  have h := Keeps.refl s
  with_reducible repeat' (first | assumption | apply inDom_keeps | apply State.modPch_keeps | apply State.pxNext_keeps | intro _ | split | dsimp only)

theorem execTimedLatchStart_keeps (r : Fin 64) (i : Fin 1024) (s : State) : ∃ u, execTimedLatchStart r i s = .next u ∧ Keeps s u := by
  refine ⟨_, rfl, ?_⟩
  have h := Keeps.refl s
  with_reducible repeat' first
    | assumption | apply inDom_keeps | apply State.finish_keeps | apply State.setDesc_keeps | apply State.provEnd_keeps | apply State.modPch_keeps
    | apply State.pxNext_keeps | apply State.pxDrop_keeps | intro _ | split | dsimp only

theorem execChainApplyInstant_keeps (c : Fin 2) (s : State) : ∃ u, execChainApplyInstant c s = .next u ∧ Keeps s u := by
  refine ⟨_, rfl, ?_⟩
  have h := Keeps.refl s
  with_reducible repeat' first
    | assumption | apply inDom_keeps | apply State.finishDone_keeps | apply State.modPch_keeps | intro _ | split | dsimp only

theorem State.setCredit_keeps {s0 s : State} (hs : Keeps s0 s) (k : Nat) (v : Int) : Keeps s0 (State.setCredit s k v) := by
  unfold State.setCredit
  with_reducible repeat' (first | assumption | apply State.setFld_keeps | apply State.modEth_keeps | intro _ | split | dsimp only)

theorem State.creditEmpty_keeps {s0 s : State} (hs : Keeps s0 s) (p : Nat) (q : Nat) : Keeps s0 (State.creditEmpty s p q) := by
  unfold State.creditEmpty
  with_reducible repeat' (first | assumption | apply State.setCredit_keeps | intro _ | split | dsimp only)

theorem State.creditSent_keeps {s0 s : State} (hs : Keeps s0 s) (p : Nat) (q : Nat) (n : Nat) : Keeps s0 (State.creditSent s p q n) := by
  unfold State.creditSent
  with_reducible repeat' first
    | assumption | apply State.each_keeps | apply State.setCredit_keeps | apply State.creditEmpty_keeps | intro _ | split | dsimp only

theorem State.setMacs_keeps {s0 s : State} (hs : Keeps s0 s) (l : List ZMac) : Keeps s0 (State.setMacs s l) := by
  unfold State.setMacs
  with_reducible repeat' (first | assumption | apply State.setFld_keeps | apply State.modZsw_keeps | intro _ | split | dsimp only)

theorem State.macLearn_keeps {s0 s : State} (hs : Keeps s0 s) (p : Nat) (h : ZHead) : Keeps s0 (State.macLearn s p h) := by
  unfold State.macLearn
  with_reducible repeat' first
    | assumption | apply State.raise_keeps | apply State.count_keeps | apply State.setMacs_keeps | intro _ | split | dsimp only

theorem State.macFlushPort_keeps {s0 s : State} (hs : Keeps s0 s) (p : Nat) : Keeps s0 (State.macFlushPort s p) := by
  unfold State.macFlushPort
  with_reducible repeat' (first | assumption | apply State.setMacs_keeps | intro _ | split | dsimp only)

theorem State.pgMove_keeps {s0 s : State} (hs : Keeps s0 s) (g : Nat) (b : Nat) (i : Nat) : Keeps s0 (State.pgMove s g b i) := by
  unfold State.pgMove
  with_reducible repeat' first
    | assumption | apply State.setFld_keeps | apply State.raise_keeps | apply State.count_keeps | apply State.setBitF_keeps
    | apply State.modZsw_keeps | intro _ | split | dsimp only

theorem State.pgFail_keeps {s0 s : State} (hs : Keeps s0 s) (p : Nat) : Keeps s0 (State.pgFail s p) := by
  unfold State.pgFail
  with_reducible repeat' first
    | assumption | apply State.setBitF_keeps | apply State.each_keeps | apply State.pgMove_keeps | intro _ | split | dsimp only

theorem State.pgRevive_keeps {s0 s : State} (hs : Keeps s0 s) (p : Nat) : Keeps s0 (State.pgRevive s p) := by
  unfold State.pgRevive
  with_reducible repeat' (first | assumption | apply State.each_keeps | apply State.pgMove_keeps | intro _ | split | dsimp only)

theorem State.setCounter_keeps {s0 s : State} (hs : Keeps s0 s) (v : Nat) : Keeps s0 (State.setCounter s v) := by
  unfold State.setCounter
  with_reducible repeat' first
    | assumption | apply State.each_keeps | apply State.modZsw_keeps | apply State.modEth_keeps | intro _ | split | dsimp only

theorem State.mark_keeps {s0 s : State} (hs : Keeps s0 s) (p : Nat) (h : ZHead) (n : Nat) : Keeps s0 (State.mark s p h n).1 := by
  unfold State.mark
  with_reducible repeat' first
    | assumption | apply State.count_keeps | apply State.when_keeps | apply State.modEth_keeps | intro _ | split | dsimp only

theorem State.mark_keeps_eq {s0 s : State} {p : Nat} {h : ZHead} {n : Nat} {u : State} {y : Nat} (e : State.mark s p h n = (u, y)) (hs : Keeps s0
    s) : Keeps s0 u := by
  have k := State.mark_keeps hs p h n
  rw [e] at k
  exact k

theorem State.redTest_keeps {s0 s : State} (hs : Keeps s0 s) (k : Nat) (col : Nat) (depth : Nat) : Keeps s0 (State.redTest s k col depth).1 := by
  unfold State.redTest
  with_reducible repeat' (first | assumption | apply State.setFld_keeps | apply State.modZsw_keeps | intro _ | split | dsimp only)

theorem State.redTest_keeps_eq {s0 s : State} {k : Nat} {col : Nat} {depth : Nat} {u : State} {y : Bool} (e : State.redTest s k col depth = (u, y))
    (hs : Keeps s0 s) : Keeps s0 u := by
  have k := State.redTest_keeps hs k col depth
  rw [e] at k
  exact k

theorem State.admission_keeps {s0 s : State} (hs : Keeps s0 s) (p : Nat) (q : Nat) (col : Nat) (n : Nat) : Keeps s0 (State.admission s p q col n).1
    := by
  unfold State.admission
  with_reducible repeat' first
    | assumption | apply State.raise_keeps | apply State.count_keeps | apply State.redTest_keeps | (refine State.redTest_keeps_eq (by assumption) ?_)
    | intro _ | split | dsimp only

theorem State.admission_keeps_eq {s0 s : State} {p : Nat} {q : Nat} {col : Nat} {n : Nat} {u : State} {y : Nat} (e : State.admission s p q col n =
    (u, y)) (hs : Keeps s0 s) : Keeps s0 u := by
  have k := State.admission_keeps hs p q col n
  rw [e] at k
  exact k

theorem State.admitAll_keeps {s0 s : State} (hs : Keeps s0 s) (col n : Nat) (l : List (Nat × Nat)) : Keeps s0 (s.admitAll col n l).1 := by
  induction l generalizing s n with
  | nil => exact hs
  | cons p t ih => exact ih (State.admission_keeps hs _ _ _ _) _

theorem State.zStore_keeps {s0 s : State} (hs : Keeps s0 s) (f : ZFrame) (bucket : Option Nat) (l : List (Nat × Nat)) : Keeps s0 (State.zStore s f
    bucket l) := by
  unfold State.zStore
  with_reducible repeat' first
    | assumption | apply State.each_keeps | apply State.modZsw_keeps | apply State.setZQueue_keeps | apply State.zCounts_keeps | intro _ | split
    | dsimp only

theorem State.zStomp_keeps {s0 s : State} (hs : Keeps s0 s) (p : Nat) (q : Nat) (b : List Byte) : Keeps s0 (State.zStomp s p q b) := by
  unfold State.zStomp
  with_reducible repeat' first
    | assumption | apply State.raise_keeps | apply State.count_keeps | apply State.modZsw_keeps | apply State.zEvt_keeps | apply State.record_keeps
    | apply State.creditSent_keeps | intro _ | split | dsimp only

theorem State.zIngress_keeps {s0 s : State} (hs : Keeps s0 s) (p : Nat) (b : List Byte) (bad : Bool) (stomped : Bool) (ovr : Option Nat) : Keeps s0
    (State.zIngress s p b bad stomped ovr).1 := by
  unfold State.zIngress
  with_reducible repeat' first
    | assumption | apply State.raise_keeps | apply State.count_keeps | apply State.when_keeps | apply State.each_keeps | apply State.modImg_keeps
    | apply State.modZsw_keeps | apply State.zEvt_keeps | apply State.record_keeps | apply State.colour_keeps | apply State.macLearn_keeps
    | apply State.mark_keeps | (refine State.mark_keeps_eq (by assumption) ?_) | apply State.admitAll_keeps
    | (refine State.admitAll_keeps_eq (by assumption) ?_) | apply State.zStore_keeps | apply State.zStomp_keeps | apply State.trap_keeps | intro _
    | split | dsimp only

theorem State.zIngress_keeps_eq {s0 s : State} {p : Nat} {b : List Byte} {bad : Bool} {stomped : Bool} {ovr : Option Nat} {u : State} {y : ZRes} (e
    : State.zIngress s p b bad stomped ovr = (u, y)) (hs : Keeps s0 s) : Keeps s0 u := by
  have k := State.zIngress_keeps hs p b bad stomped ovr
  rw [e] at k
  exact k

theorem State.falseWake_keeps {s0 s : State} (hs : Keeps s0 s) (w : Nat) : Keeps s0 (State.falseWake s w) := by
  unfold State.falseWake
  with_reducible repeat' first
    | assumption | apply State.setFld_keeps | apply State.raise_keeps | apply State.count_keeps | apply State.when_keeps | apply State.modNet_keeps
    | apply State.record_keeps | intro _ | split | dsimp only

theorem State.undeafen_keeps {s0 s : State} (hs : Keeps s0 s) (w : Nat) : Keeps s0 (State.undeafen s w) := by
  unfold State.undeafen
  with_reducible repeat' (first | assumption | apply State.setFld_keeps | intro _ | split | dsimp only)

theorem State.validFrame_keeps {s0 s : State} (hs : Keeps s0 s) (c : Nat) : Keeps s0 (State.validFrame s c) := by
  unfold State.validFrame
  with_reducible repeat' (first | assumption | apply State.setFld_keeps | apply State.modNet_keeps | intro _ | split | dsimp only)

theorem State.countedWake_keeps {s0 s : State} (hs : Keeps s0 s) (w : Nat) : Keeps s0 (State.countedWake s w) := by
  unfold State.countedWake
  with_reducible repeat' (first | assumption | apply State.setFld_keeps | apply State.modNet_keeps | intro _ | split | dsimp only)

theorem State.chWake_keeps {s0 s : State} (hs : Keeps s0 s) (c : Nat) : Keeps s0 (State.chWake s c) := by
  unfold State.chWake
  with_reducible repeat' first
    | assumption | apply State.when_keeps | apply State.latchWake_keeps | apply State.modNch_keeps | apply State.cEvent_keeps
    | apply State.lEvent_keeps | apply State.refreshInh_keeps | apply State.countedWake_keeps | intro _ | split | dsimp only

theorem State.putFrame_keeps {s0 s : State} (hs : Keeps s0 s) (a : Nat) (chan : Nat) (f : BusFrame) (t : Nat) (n : Nat) : Keeps s0 (State.putFrame
    s a chan f t n) := by
  unfold State.putFrame
  with_reducible repeat' first
    | assumption | apply State.each_keeps | apply State.wr_keeps | apply State.putBytes_keeps | intro _ | split | dsimp only

theorem State.setTalker_keeps {s0 s : State} (hs : Keeps s0 s) (t : Nat) (x : Talker) : Keeps s0 (State.setTalker s t x) := by
  unfold State.setTalker
  with_reducible repeat' (first | assumption | apply State.modNet_keeps | intro _ | split | dsimp only)

theorem State.tsDrop_keeps {s0 s : State} (hs : Keeps s0 s) (t : Nat) (n : Nat) : Keeps s0 (State.tsDrop s t n) := by
  unfold State.tsDrop
  with_reducible repeat' first
    | assumption | apply State.raise_keeps | apply State.countBy_keeps | apply State.each_keeps | apply State.record_keeps | intro _ | split
    | dsimp only

theorem State.talkerClose_keeps {s0 s : State} (hs : Keeps s0 s) (t : Nat) : Keeps s0 (State.talkerClose s t) := by
  unfold State.talkerClose
  with_reducible repeat' first
    | assumption | apply State.setFld_keeps | apply State.zIngress_keeps | (refine State.zIngress_keeps_eq (by assumption) ?_)
    | apply State.setTalker_keeps | apply State.tsDrop_keeps | intro _ | split | dsimp only

theorem State.talkerPlace_keeps {s0 s : State} (hs : Keeps s0 s) (t : Nat) (m : List Byte) (ns : Nat) : Keeps s0 (State.talkerPlace s t m ns) := by
  unfold State.talkerPlace
  with_reducible repeat' first
    | assumption | apply State.setTalker_keeps | apply State.tsDrop_keeps | apply State.talkerClose_keeps | intro _ | split | dsimp only

theorem State.armSlave_keeps {s0 s : State} (hs : Keeps s0 s) (c : Nat) (t : CanTx) : Keeps s0 (State.armSlave s c t) := by
  unfold State.armSlave
  with_reducible repeat' first
    | assumption | apply State.each_keeps | apply State.finish_keeps | apply State.setNch_keeps | intro _ | split | dsimp only

theorem State.txLoad_keeps {s0 s : State} (hs : Keeps s0 s) (c : Nat) (t : CanTx) : Keeps s0 (State.txLoad s c t) := by
  unfold State.txLoad
  with_reducible repeat' (first | assumption | apply State.modNch_keeps | apply State.armSlave_keeps | intro _ | split | dsimp only)

theorem State.modHerd_keeps {s0 s : State} (hs : Keeps s0 s) (f : Herd → Herd) : Keeps s0 (State.modHerd s f) := by
  unfold State.modHerd
  with_reducible repeat' (first | assumption | (apply Keeps.lit; assumption) | intro _ | split | dsimp only)

theorem State.setHSt_keeps {s0 s : State} (hs : Keeps s0 s) (v : Nat) : Keeps s0 (State.setHSt s v) := by
  unfold State.setHSt
  with_reducible repeat' (first | assumption | apply State.setFld_keeps | intro _ | split | dsimp only)

theorem State.hEvt_keeps {s0 s : State} (hs : Keeps s0 s) (i : Nat) : Keeps s0 (State.hEvt s i) := by
  unfold State.hEvt
  with_reducible repeat' (first | assumption | apply State.setBitF_keeps | intro _ | split | dsimp only)

theorem State.setHMap_keeps {s0 s : State} (hs : Keeps s0 s) (m : Nat) : Keeps s0 (State.setHMap s m) := by
  unfold State.setHMap
  with_reducible repeat' first
    | assumption | apply State.setFld_keeps | apply State.when_keeps | apply State.modHerd_keeps | apply State.hEvt_keeps | intro _ | split
    | dsimp only

theorem State.hSend_keeps {s0 s : State} (hs : Keeps s0 s) (m : List Byte) : Keeps s0 (State.hSend s m) := by
  unfold State.hSend
  with_reducible repeat' first
    | assumption | apply State.zIngress_keeps | (refine State.zIngress_keeps_eq (by assumption) ?_) | apply State.modHerd_keeps | intro _ | split
    | dsimp only

theorem State.hHear_keeps {s0 s : State} (hs : Keeps s0 s) (m : List Byte) : Keeps s0 (State.hHear s m) := by
  unfold State.hHear
  with_reducible repeat' (first | assumption | apply State.count_keeps | apply State.modHerd_keeps | intro _ | split | dsimp only)

theorem State.hAlive_keeps {s0 s : State} (hs : Keeps s0 s) : Keeps s0 (State.hAlive s) := by
  unfold State.hAlive
  with_reducible repeat' first
    | assumption | apply State.modHerd_keeps | apply State.setHSt_keeps | apply State.setHMap_keeps | apply State.hSend_keeps | intro _ | split
    | dsimp only

theorem State.hCancel_keeps {s0 s : State} (hs : Keeps s0 s) (cause : Nat) : Keeps s0 (State.hCancel s cause) := by
  unfold State.hCancel
  with_reducible repeat' first
    | assumption | apply State.setFld_keeps | apply State.count_keeps | apply State.hEvt_keeps | apply State.hAlive_keeps | intro _ | split
    | dsimp only

theorem State.hPrep_keeps {s0 s : State} (hs : Keeps s0 s) : Keeps s0 (State.hPrep s) := by
  unfold State.hPrep
  with_reducible repeat' first
    | assumption | apply State.modHerd_keeps | apply State.setHSt_keeps | apply State.hEvt_keeps | intro _ | split | dsimp only

theorem State.hAppFrame_keeps {s0 s : State} (hs : Keeps s0 s) : Keeps s0 (State.hAppFrame s) := by
  unfold State.hAppFrame
  with_reducible repeat' (first | assumption | apply State.hCancel_keeps | intro _ | split | dsimp only)

theorem State.hCheck_keeps {s0 s : State} (hs : Keeps s0 s) : Keeps s0 (State.hCheck s) := by
  unfold State.hCheck
  with_reducible repeat' (first | assumption | apply State.modZsw_keeps | apply State.hAppFrame_keeps | intro _ | split | dsimp only)

theorem State.hStart_keeps {s0 s : State} (hs : Keeps s0 s) (run : Nat) : Keeps s0 (State.hStart s run) := by
  unfold State.hStart
  with_reducible repeat' first
    | assumption | apply State.setFld_keeps | apply State.modHerd_keeps | apply State.hSend_keeps | intro _ | split | dsimp only

theorem State.hClose_keeps {s0 s : State} (hs : Keeps s0 s) : Keeps s0 (State.hClose s) := by
  unfold State.hClose
  with_reducible repeat' first
    | assumption | apply State.setFld_keeps | apply State.hSend_keeps | apply State.hPrep_keeps | intro _ | split | dsimp only

theorem State.hTake_keeps {s0 s : State} (hs : Keeps s0 s) (typ : Nat) (f : Nat → Nat → Bool → HRing → State → State) (hf : ∀ (a0 : Nat) (a1 : Nat)
    (a2 : Bool) (a3 : HRing) (a4 : State), Keeps s0 a4 → Keeps s0 (f a0 a1 a2 a3 a4)) : Keeps s0 (State.hTake s typ f) := by
  unfold State.hTake
  with_reducible repeat' first
    | assumption | apply State.record_keeps | apply State.modHerd_keeps | apply State.setHSt_keeps | apply State.hEvt_keeps
    | apply State.setHMap_keeps | apply State.hAlive_keeps | apply hf | intro _ | split | dsimp only

theorem herdEnable_keeps {s0 s : State} (hs : Keeps s0 s) : Keeps s0 (herdEnable s) := by
  unfold herdEnable
  with_reducible repeat' (first | assumption | apply State.modHerd_keeps | apply State.hAlive_keeps | intro _ | split | dsimp only)

theorem herdDisable_keeps {s0 s : State} (hs : Keeps s0 s) : Keeps s0 (herdDisable s) := by
  unfold herdDisable
  with_reducible repeat' first
    | assumption | apply State.when_keeps | apply State.modHerd_keeps | apply State.setHSt_keeps | apply State.hSend_keeps | intro _ | split
    | dsimp only

theorem State.herdJoin_keeps {s0 s : State} (hs : Keeps s0 s) : Keeps s0 (State.herdJoin s) := by
  unfold State.herdJoin
  with_reducible repeat' (first | assumption | apply State.hAlive_keeps | intro _ | split | dsimp only)

theorem State.herdWithdraw_keeps {s0 s : State} (hs : Keeps s0 s) : Keeps s0 (State.herdWithdraw s) := by
  unfold State.herdWithdraw
  with_reducible repeat' (first | assumption | apply State.hSend_keeps | apply State.hCancel_keeps | intro _ | split | dsimp only)

theorem herdRing_keeps {s0 s : State} (hs : Keeps s0 s) : Keeps s0 (herdRing s) := by
  unfold herdRing
  with_reducible repeat' first
    | assumption | apply State.setFld_keeps | apply State.modHerd_keeps | apply State.hCancel_keeps | apply State.hTake_keeps | intro _ | split
    | dsimp only

theorem herdPrep_keeps {s0 s : State} (hs : Keeps s0 s) : Keeps s0 (herdPrep s) := by
  unfold herdPrep
  with_reducible repeat' (first | assumption | apply State.hPrep_keeps | apply State.hTake_keeps | intro _ | split | dsimp only)

theorem herdAlive_keeps {s0 s : State} (hs : Keeps s0 s) : Keeps s0 (herdAlive s) := by
  unfold herdAlive
  with_reducible repeat' first
    | assumption | apply State.setHMap_keeps | apply State.hAlive_keeps | apply State.hCancel_keeps | apply State.hTake_keeps | intro _ | split
    | dsimp only

theorem herdLeave_keeps {s0 s : State} (hs : Keeps s0 s) : Keeps s0 (herdLeave s) := by
  unfold herdLeave
  with_reducible repeat' first
    | assumption | apply State.modHerd_keeps | apply State.setHMap_keeps | apply State.hTake_keeps | intro _ | split | dsimp only

theorem herdForward_keeps {s0 s : State} (hs : Keeps s0 s) : Keeps s0 (herdForward s) := by
  unfold herdForward
  with_reducible repeat' first
    | assumption | apply State.setFld_keeps | apply State.modHerd_keeps | apply State.hSend_keeps | apply State.hPrep_keeps
    | apply State.hStart_keeps | apply State.hClose_keeps | intro _ | split | dsimp only

theorem herdSettleEnd_keeps {s0 s : State} (hs : Keeps s0 s) : Keeps s0 (herdSettleEnd s) := by
  unfold herdSettleEnd
  with_reducible repeat' first
    | assumption | apply State.setFld_keeps | apply State.modHerd_keeps | apply State.setHSt_keeps | apply State.hStart_keeps | intro _ | split
    | dsimp only

theorem herdRingLost_keeps {s0 s : State} (hs : Keeps s0 s) : Keeps s0 (herdRingLost s) := by
  unfold herdRingLost
  with_reducible repeat' first
    | assumption | apply State.count_keeps | apply State.record_keeps | apply State.hEvt_keeps | apply State.hAlive_keeps | intro _ | split
    | dsimp only

theorem herdPrepEnd_keeps {s0 s : State} (hs : Keeps s0 s) : Keeps s0 (herdPrepEnd s) := by
  unfold herdPrepEnd
  with_reducible repeat' first
    | assumption | apply State.each_keeps | apply State.setChReq_keeps | apply State.tcvrRequest_keeps | apply State.setHSt_keeps
    | apply State.hEvt_keeps | intro _ | split | dsimp only

theorem State.herdForced_keeps {s0 s : State} (hs : Keeps s0 s) : Keeps s0 (State.herdForced s) := by
  unfold State.herdForced
  with_reducible repeat' (first | assumption | apply State.modHerd_keeps | apply State.setHSt_keeps | intro _ | split | dsimp only)

theorem execHerdEnable_keeps (s : State) : ∃ u, execHerdEnable s = .next u ∧ Keeps s u := by
  refine ⟨_, rfl, ?_⟩
  have h := Keeps.refl s
  with_reducible repeat' (first | assumption | apply inDom_keeps | apply herdEnable_keeps | intro _ | split | dsimp only)

theorem execHerdDisable_keeps (s : State) : ∃ u, execHerdDisable s = .next u ∧ Keeps s u := by
  refine ⟨_, rfl, ?_⟩
  have h := Keeps.refl s
  with_reducible repeat' (first | assumption | apply inDom_keeps | apply herdDisable_keeps | intro _ | split | dsimp only)

theorem execHerdRingReceived_keeps (s : State) : ∃ u, execHerdRingReceived s = .next u ∧ Keeps s u := by
  refine ⟨_, rfl, ?_⟩
  have h := Keeps.refl s
  with_reducible repeat' (first | assumption | apply inDom_keeps | apply herdRing_keeps | intro _ | split | dsimp only)

theorem execHerdPrepReceived_keeps (s : State) : ∃ u, execHerdPrepReceived s = .next u ∧ Keeps s u := by
  refine ⟨_, rfl, ?_⟩
  have h := Keeps.refl s
  with_reducible repeat' (first | assumption | apply inDom_keeps | apply herdPrep_keeps | intro _ | split | dsimp only)

theorem execHerdAliveReceived_keeps (s : State) : ∃ u, execHerdAliveReceived s = .next u ∧ Keeps s u := by
  refine ⟨_, rfl, ?_⟩
  have h := Keeps.refl s
  with_reducible repeat' (first | assumption | apply inDom_keeps | apply herdAlive_keeps | intro _ | split | dsimp only)

theorem execHerdLeaveReceived_keeps (s : State) : ∃ u, execHerdLeaveReceived s = .next u ∧ Keeps s u := by
  refine ⟨_, rfl, ?_⟩
  have h := Keeps.refl s
  with_reducible repeat' (first | assumption | apply inDom_keeps | apply herdLeave_keeps | intro _ | split | dsimp only)

theorem execHerdForward_keeps (s : State) : ∃ u, execHerdForward s = .next u ∧ Keeps s u := by
  refine ⟨_, rfl, ?_⟩
  have h := Keeps.refl s
  with_reducible repeat' (first | assumption | apply inDom_keeps | apply herdForward_keeps | intro _ | split | dsimp only)

theorem execHerdSettleEnd_keeps (s : State) : ∃ u, execHerdSettleEnd s = .next u ∧ Keeps s u := by
  refine ⟨_, rfl, ?_⟩
  have h := Keeps.refl s
  with_reducible repeat' (first | assumption | apply inDom_keeps | apply herdSettleEnd_keeps | intro _ | split | dsimp only)

theorem execHerdRingLost_keeps (s : State) : ∃ u, execHerdRingLost s = .next u ∧ Keeps s u := by
  refine ⟨_, rfl, ?_⟩
  have h := Keeps.refl s
  with_reducible repeat' (first | assumption | apply inDom_keeps | apply herdRingLost_keeps | intro _ | split | dsimp only)

theorem execHerdPrepEnd_keeps (s : State) : ∃ u, execHerdPrepEnd s = .next u ∧ Keeps s u := by
  refine ⟨_, rfl, ?_⟩
  have h := Keeps.refl s
  with_reducible repeat' (first | assumption | apply inDom_keeps | apply herdPrepEnd_keeps | intro _ | split | dsimp only)

theorem State.netLoad_keeps {s0 s : State} (hs : Keeps s0 s) (d : Desc) : Keeps s0 (State.netLoad s d) := by
  unfold State.netLoad
  with_reducible repeat' first
    | assumption | apply State.finish_keeps | apply State.startDesc_keeps | apply State.txLoad_keeps | simp only [id] | intro _ | split | dsimp only

theorem busTx_keeps {s0 s : State} (hs : Keeps s0 s) (d : Desc) : Keeps s0 (busTx d s) := by
  unfold busTx
  with_reducible repeat' (first | assumption | apply State.netLoad_keeps | intro _ | split | dsimp only)

theorem hdr_keeps {s0 s : State} (hs : Keeps s0 s) (d : Desc) : Keeps s0 (hdr d s) := by
  unfold hdr
  with_reducible repeat' (first | assumption | apply State.netLoad_keeps | intro _ | split | dsimp only)

theorem linWake_keeps {s0 s : State} (hs : Keeps s0 s) (d : Desc) : Keeps s0 (linWake d s) := by
  unfold linWake
  with_reducible repeat' (first | assumption | apply State.finish_keeps | apply State.startDesc_keeps | intro _ | split | dsimp only)

theorem linWakeDone_keeps {s0 s : State} (hs : Keeps s0 s) (k : Nat) : Keeps s0 (linWakeDone k s) := by
  unfold linWakeDone
  with_reducible repeat' (first | assumption | apply State.finishDone_keeps | intro _ | split | dsimp only)

theorem State.deliver_keeps {s0 s : State} (hs : Keeps s0 s) (r : Nat) : Keeps s0 (State.deliver s r) := by
  unfold State.deliver
  with_reducible repeat' first
    | assumption | apply State.finish_keeps | apply State.finishDone_keeps | apply State.modNet_keeps | apply State.putFrame_keeps | intro _ | split
    | dsimp only

theorem rxBuf_keeps {s0 s : State} (hs : Keeps s0 s) (d : Desc) : Keeps s0 (rxBuf d s) := by
  unfold rxBuf
  with_reducible repeat' (first | assumption | apply State.deliver_keeps | intro _ | split | dsimp only)

theorem State.storeRx_keeps {s0 s : State} (hs : Keeps s0 s) (r : Nat) (x : Stored) : Keeps s0 (State.storeRx s r x) := by
  unfold State.storeRx
  with_reducible repeat' first
    | assumption | apply State.raise_keeps | apply State.count_keeps | apply State.when_keeps | apply State.modNet_keeps | apply State.cEvent_keeps
    | apply State.record_keeps | intro _ | split | dsimp only

theorem State.filtered_keeps {s0 s : State} (hs : Keeps s0 s) (c : Nat) (f : BusFrame) : Keeps s0 (State.filtered s c f) := by
  unfold State.filtered
  with_reducible repeat' first
    | assumption | apply State.count_keeps | apply State.when_keeps | apply State.record_keeps | apply State.talkerPlace_keeps
    | apply State.storeRx_keeps | intro _ | split | dsimp only

theorem State.canState_keeps {s0 s : State} (hs : Keeps s0 s) (c : Nat) (tec : Nat) (rec : Nat) : Keeps s0 (State.canState s c tec rec) := by
  unfold State.canState
  with_reducible repeat' first
    | assumption | apply State.setFld_keeps | apply State.when_keeps | apply State.cEvent_keeps | apply State.record_keeps | intro _ | split
    | dsimp only

theorem State.canErr_keeps {s0 s : State} (hs : Keeps s0 s) (c : Nat) (lec : Nat) : Keeps s0 (State.canErr s c lec) := by
  unfold State.canErr
  with_reducible repeat' first
    | assumption | apply State.setFld_keeps | apply State.when_keeps | apply State.cEvent_keeps | intro _ | split | dsimp only

theorem canBusOff_keeps {s0 s : State} (hs : Keeps s0 s) (c : Nat) : Keeps s0 (canBusOff c s) := by
  unfold canBusOff
  with_reducible repeat' first
    | assumption | apply State.setFld_keeps | apply State.raise_keeps | apply State.count_keeps | apply State.modNch_keeps | apply State.cEvent_keeps
    | apply State.dropTx_keeps | apply State.record_keeps | intro _ | split | dsimp only

theorem canSent_keeps {s0 s : State} (hs : Keeps s0 s) (c : Nat) (lec : Nat) : Keeps s0 (canSent c lec s) := by
  unfold canSent
  with_reducible repeat' first
    | assumption | apply State.finish_keeps | apply State.finishDone_keeps | apply State.modNch_keeps | apply State.cEvent_keeps
    | apply State.modHerd_keeps | apply State.canState_keeps | apply State.canErr_keeps | apply canBusOff_keeps | intro _ | split | dsimp only

theorem State.imgSee_keeps {s0 s : State} (hs : Keeps s0 s) (c : Nat) (f : BusFrame) : Keeps s0 (State.imgSee s c f) := by
  unfold State.imgSee
  with_reducible repeat' (first | assumption | apply State.modImg_keeps | simp only [id] | intro _ | split | dsimp only)

theorem canReceived_keeps {s0 s : State} (hs : Keeps s0 s) (c : Nat) (lec : Nat) (f : BusFrame) : Keeps s0 (canReceived c lec f s) := by
  unfold canReceived
  with_reducible repeat' first
    | assumption | apply State.when_keeps | apply State.drew_keeps | apply State.cEvent_keeps | apply State.validFrame_keeps
    | apply State.hHear_keeps | apply State.hAppFrame_keeps | apply State.filtered_keeps | apply State.canState_keeps | apply State.canErr_keeps
    | apply State.imgSee_keeps | simp only [id] | intro _ | split | dsimp only

theorem busOffRecoveryEnd_keeps {s0 s : State} (hs : Keeps s0 s) (c : Nat) : Keeps s0 (busOffRecoveryEnd c s) := by
  unfold busOffRecoveryEnd
  with_reducible repeat' (first | assumption | apply State.modNch_keeps | apply State.canState_keeps | intro _ | split | dsimp only)

theorem State.canRecover_keeps {s0 s : State} (hs : Keeps s0 s) (c : Nat) : Keeps s0 (State.canRecover s c) := by
  unfold State.canRecover
  with_reducible repeat' (first | assumption | apply State.modNch_keeps | intro _ | split | dsimp only)

theorem State.linErr_keeps {s0 s : State} (hs : Keeps s0 s) (k : Nat) (e : Nat) : Keeps s0 (State.linErr s k e) := by
  unfold State.linErr
  with_reducible repeat' first
    | assumption | apply State.setFld_keeps | apply State.lEvent_keeps | apply State.record_keeps | intro _ | split | dsimp only

theorem linReceived_keeps {s0 s : State} (hs : Keeps s0 s) (k : Nat) (e : Nat) (f : BusFrame) : Keeps s0 (linReceived k e f s) := by
  unfold linReceived
  with_reducible repeat' first
    | assumption | apply State.finish_keeps | apply State.finishDone_keeps | apply State.modNch_keeps | apply State.lEvent_keeps
    | apply State.validFrame_keeps | apply State.putFrame_keeps | apply State.filtered_keeps | apply State.linErr_keeps | intro _ | split
    | dsimp only

theorem linTimeout_keeps {s0 s : State} (hs : Keeps s0 s) (k : Nat) : Keeps s0 (linTimeout k s) := by
  unfold linTimeout
  with_reducible repeat' first
    | assumption | apply State.finish_keeps | apply State.modNch_keeps | apply State.lEvent_keeps | intro _ | split | dsimp only

theorem guardDone_keeps {s0 s : State} (hs : Keeps s0 s) (c : Nat) : Keeps s0 (guardDone c s) := by
  unfold guardDone
  with_reducible repeat' (first | assumption | apply State.modNch_keeps | apply State.setTcvr_keeps | intro _ | split | dsimp only)

theorem canWup_keeps {s0 s : State} (hs : Keeps s0 s) (c : Nat) : Keeps s0 (canWup c s) := by
  unfold canWup
  with_reducible repeat' first
    | assumption | apply State.latchWake_keeps | apply State.countedWake_keeps | apply State.chWake_keeps | intro _ | split | dsimp only

theorem canWuf_keeps {s0 s : State} (hs : Keeps s0 s) (c : Nat) (ok : Bool) (f : BusFrame) : Keeps s0 (canWuf c ok f s) := by
  unfold canWuf
  with_reducible repeat' first
    | assumption | apply State.setFld_keeps | apply State.when_keeps | apply State.chWake_keeps | intro _ | split | dsimp only

theorem linBusWake_keeps {s0 s : State} (hs : Keeps s0 s) (k : Nat) : Keeps s0 (linBusWake k s) := by
  unfold linBusWake
  with_reducible repeat' (first | assumption | apply State.chWake_keeps | intro _ | split | dsimp only)

theorem windowEnd_keeps {s0 s : State} (hs : Keeps s0 s) (w : Nat) : Keeps s0 (windowEnd w s) := by
  unfold windowEnd
  with_reducible repeat' (first | assumption | apply State.falseWake_keeps | intro _ | split | dsimp only)

theorem State.closeWindows_keeps {s0 s : State} (hs : Keeps s0 s) : Keeps s0 (State.closeWindows s) := by
  unfold State.closeWindows
  with_reducible repeat' (first | assumption | apply State.each_keeps | apply windowEnd_keeps | intro _ | split | dsimp only)

theorem deafEnd_keeps {s0 s : State} (hs : Keeps s0 s) (w : Nat) : Keeps s0 (deafEnd w s) := by
  unfold deafEnd
  with_reducible repeat' (first | assumption | apply State.undeafen_keeps | intro _ | split | dsimp only)

theorem canTxdTimeout_keeps {s0 s : State} (hs : Keeps s0 s) (c : Nat) : Keeps s0 (canTxdTimeout c s) := by
  unfold canTxdTimeout
  with_reducible repeat' first
    | assumption | apply State.setFld_keeps | apply State.cEvent_keeps | apply State.record_keeps | intro _ | split | dsimp only

theorem canBusDominant_keeps {s0 s : State} (hs : Keeps s0 s) (c : Nat) : Keeps s0 (canBusDominant c s) := by
  unfold canBusDominant
  with_reducible repeat' first
    | assumption | apply State.modNch_keeps | apply State.cEvent_keeps | apply State.record_keeps | intro _ | split | dsimp only

theorem linBusShort_keeps {s0 s : State} (hs : Keeps s0 s) (k : Nat) : Keeps s0 (linBusShort k s) := by
  unfold linBusShort
  with_reducible repeat' first
    | assumption | apply State.modNch_keeps | apply State.lEvent_keeps | apply State.record_keeps | intro _ | split | dsimp only

theorem dominantEnd_keeps {s0 s : State} (hs : Keeps s0 s) (c : Nat) : Keeps s0 (dominantEnd c s) := by
  unfold dominantEnd
  with_reducible repeat' first
    | assumption | apply State.setFld_keeps | apply State.when_keeps | apply State.modNch_keeps | intro _ | split | dsimp only

theorem packTimeout_keeps {s0 s : State} (hs : Keeps s0 s) (t : Nat) : Keeps s0 (packTimeout t s) := by
  unfold packTimeout
  with_reducible repeat' (first | assumption | apply State.talkerClose_keeps | intro _ | split | dsimp only)

theorem State.acfTake_keeps {s0 s : State} (hs : Keeps s0 s) (l : Nat) (m : List Byte) : Keeps s0 (State.acfTake s l m) := by
  unfold State.acfTake
  with_reducible repeat' first
    | assumption | apply State.count_keeps | apply State.record_keeps | apply State.txLoad_keeps | intro _ | split | dsimp only

theorem State.acfAll_keeps {s0 s : State} (hs : Keeps s0 s) (l n : Nat) (b : List Byte) : Keeps s0 (s.acfAll l n b) := by
  induction n generalizing s b with
  | zero => exact hs
  | succ n ih =>
    unfold State.acfAll
    dsimp only
    split
    · exact hs
    · exact ih (State.acfTake_keeps hs _ _) _

theorem listenerFrame_keeps {s0 s : State} (hs : Keeps s0 s) : Keeps s0 (listenerFrame s) := by
  unfold listenerFrame
  with_reducible repeat' first
    | assumption | apply State.count_keeps | apply State.when_keeps | apply State.modZsw_keeps | apply State.modNet_keeps | apply State.acfAll_keeps
    | intro _ | split | dsimp only

theorem State.netCommitted_keeps {s0 s : State} {was : State} (hs : Keeps s0 s) : Keeps s0 (State.netCommitted s was) := by
  unfold State.netCommitted
  with_reducible repeat' first
    | assumption | apply State.setFld_keeps | apply State.when_keeps | apply State.each_keeps | apply State.modHerd_keeps | intro _ | split
    | dsimp only

theorem State.netForced_keeps {s0 s : State} (hs : Keeps s0 s) : Keeps s0 (State.netForced s) := by
  unfold State.netForced
  with_reducible repeat' first
    | assumption | apply State.when_keeps | apply State.each_keeps | apply State.finishAll_keeps | apply State.modNet_keeps
    | apply State.modNch_keeps | apply State.setTcvr_keeps | apply State.dropTx_keeps | apply State.herdForced_keeps | intro _ | split | dsimp only

theorem State.netAsleep_keeps {s0 s : State} (hs : Keeps s0 s) : Keeps s0 (State.netAsleep s) := by
  unfold State.netAsleep
  with_reducible repeat' (first | assumption | apply State.each_keeps | apply State.setTcvr_keeps | intro _ | split | dsimp only)

theorem execBusTx_keeps (r : Fin 64) (i : Fin 1024) (s : State) : ∃ u, execBusTx r i s = .next u ∧ Keeps s u := by
  refine ⟨_, rfl, ?_⟩
  have h := Keeps.refl s
  with_reducible repeat' (first | assumption | apply inDom_keeps | apply State.onReady_keeps | apply busTx_keeps | intro _ | split | dsimp only)

theorem execRxbuf_keeps (r : Fin 64) (i : Fin 1024) (s : State) : ∃ u, execRxbuf r i s = .next u ∧ Keeps s u := by
  refine ⟨_, rfl, ?_⟩
  have h := Keeps.refl s
  with_reducible repeat' (first | assumption | apply inDom_keeps | apply State.onReady_keeps | apply rxBuf_keeps | intro _ | split | dsimp only)

theorem execHdr_keeps (r : Fin 64) (i : Fin 1024) (s : State) : ∃ u, execHdr r i s = .next u ∧ Keeps s u := by
  refine ⟨_, rfl, ?_⟩
  have h := Keeps.refl s
  with_reducible repeat' (first | assumption | apply inDom_keeps | apply State.onReady_keeps | apply hdr_keeps | intro _ | split | dsimp only)

theorem execLinwake_keeps (r : Fin 64) (i : Fin 1024) (s : State) : ∃ u, execLinwake r i s = .next u ∧ Keeps s u := by
  refine ⟨_, rfl, ?_⟩
  have h := Keeps.refl s
  with_reducible repeat' (first | assumption | apply inDom_keeps | apply State.onReady_keeps | apply linWake_keeps | intro _ | split | dsimp only)

theorem execCanFrameSent_keeps (c : Fin 6) (lec : BitVec 3) (s : State) : ∃ u, execCanFrameSent c lec s = .next u ∧ Keeps s u := by
  refine ⟨_, rfl, ?_⟩
  have h := Keeps.refl s
  with_reducible repeat' (first | assumption | apply inDom_keeps | apply canSent_keeps | intro _ | split | dsimp only)

theorem execCanFrameReceived_keeps (c : Fin 6) (lec : BitVec 3) (f : BusFrame) (s : State) : ∃ u, execCanFrameReceived c lec f s = .next u ∧ Keeps
    s u := by
  refine ⟨_, rfl, ?_⟩
  have h := Keeps.refl s
  with_reducible repeat' (first | assumption | apply inDom_keeps | apply canReceived_keeps | intro _ | split | dsimp only)

theorem execLinFrameReceived_keeps (k : Fin 4) (e : BitVec 3) (f : BusFrame) (s : State) : ∃ u, execLinFrameReceived k e f s = .next u ∧ Keeps s u
    := by
  refine ⟨_, rfl, ?_⟩
  have h := Keeps.refl s
  with_reducible repeat' (first | assumption | apply inDom_keeps | apply linReceived_keeps | intro _ | split | dsimp only)

theorem execStoredFrameDeliver_keeps (r : Fin 8) (s : State) : ∃ u, execStoredFrameDeliver r s = .next u ∧ Keeps s u := by
  refine ⟨_, rfl, ?_⟩
  have h := Keeps.refl s
  with_reducible repeat' (first | assumption | apply inDom_keeps | apply State.deliver_keeps | intro _ | split | dsimp only)

theorem execCanBusOff_keeps (c : Fin 6) (s : State) : ∃ u, execCanBusOff c s = .next u ∧ Keeps s u := by
  refine ⟨_, rfl, ?_⟩
  have h := Keeps.refl s
  with_reducible repeat' (first | assumption | apply inDom_keeps | apply canBusOff_keeps | intro _ | split | dsimp only)

theorem execGuardedEntryDone_keeps (w : Fin 10) (s : State) : ∃ u, execGuardedEntryDone w s = .next u ∧ Keeps s u := by
  refine ⟨_, rfl, ?_⟩
  have h := Keeps.refl s
  with_reducible repeat' (first | assumption | apply inDom_keeps | apply guardDone_keeps | intro _ | split | dsimp only)

theorem execCanWup_keeps (c : Fin 6) (s : State) : ∃ u, execCanWup c s = .next u ∧ Keeps s u := by
  refine ⟨_, rfl, ?_⟩
  have h := Keeps.refl s
  with_reducible repeat' (first | assumption | apply canWup_keeps | intro _ | split | dsimp only)

theorem execCanWuf_keeps (c : Fin 6) (ok : Bool) (f : BusFrame) (s : State) : ∃ u, execCanWuf c ok f s = .next u ∧ Keeps s u := by
  refine ⟨_, rfl, ?_⟩
  have h := Keeps.refl s
  with_reducible repeat' (first | assumption | apply canWuf_keeps | intro _ | split | dsimp only)

theorem execLinBusWake_keeps (k : Fin 4) (s : State) : ∃ u, execLinBusWake k s = .next u ∧ Keeps s u := by
  refine ⟨_, rfl, ?_⟩
  have h := Keeps.refl s
  with_reducible repeat' (first | assumption | apply linBusWake_keeps | intro _ | split | dsimp only)

theorem execValidationWindowEnd_keeps (w : Fin 10) (s : State) : ∃ u, execValidationWindowEnd w s = .next u ∧ Keeps s u := by
  refine ⟨_, rfl, ?_⟩
  have h := Keeps.refl s
  with_reducible repeat' (first | assumption | apply windowEnd_keeps | intro _ | split | dsimp only)

theorem execDeafEnd_keeps (w : Fin 10) (s : State) : ∃ u, execDeafEnd w s = .next u ∧ Keeps s u := by
  refine ⟨_, rfl, ?_⟩
  have h := Keeps.refl s
  with_reducible repeat' (first | assumption | apply deafEnd_keeps | intro _ | split | dsimp only)

theorem execCanTxdTimeout_keeps (c : Fin 6) (s : State) : ∃ u, execCanTxdTimeout c s = .next u ∧ Keeps s u := by
  refine ⟨_, rfl, ?_⟩
  have h := Keeps.refl s
  with_reducible repeat' (first | assumption | apply inDom_keeps | apply canTxdTimeout_keeps | intro _ | split | dsimp only)

theorem execCanBusDominant_keeps (c : Fin 6) (s : State) : ∃ u, execCanBusDominant c s = .next u ∧ Keeps s u := by
  refine ⟨_, rfl, ?_⟩
  have h := Keeps.refl s
  with_reducible repeat' (first | assumption | apply inDom_keeps | apply canBusDominant_keeps | intro _ | split | dsimp only)

theorem execLinBusShort_keeps (k : Fin 4) (s : State) : ∃ u, execLinBusShort k s = .next u ∧ Keeps s u := by
  refine ⟨_, rfl, ?_⟩
  have h := Keeps.refl s
  with_reducible repeat' (first | assumption | apply inDom_keeps | apply linBusShort_keeps | intro _ | split | dsimp only)

theorem execBusOffRecoveryEnd_keeps (c : Fin 6) (s : State) : ∃ u, execBusOffRecoveryEnd c s = .next u ∧ Keeps s u := by
  refine ⟨_, rfl, ?_⟩
  have h := Keeps.refl s
  with_reducible repeat' (first | assumption | apply inDom_keeps | apply busOffRecoveryEnd_keeps | intro _ | split | dsimp only)

theorem execLinResponseTimeout_keeps (k : Fin 4) (s : State) : ∃ u, execLinResponseTimeout k s = .next u ∧ Keeps s u := by
  refine ⟨_, rfl, ?_⟩
  have h := Keeps.refl s
  with_reducible repeat' (first | assumption | apply inDom_keeps | apply linTimeout_keeps | intro _ | split | dsimp only)

theorem execLinwakeDone_keeps (k : Fin 4) (s : State) : ∃ u, execLinwakeDone k s = .next u ∧ Keeps s u := by
  refine ⟨_, rfl, ?_⟩
  have h := Keeps.refl s
  with_reducible repeat' (first | assumption | apply inDom_keeps | apply linWakeDone_keeps | intro _ | split | dsimp only)

theorem execDominantTimeoutEnd_keeps (w : Fin 10) (s : State) : ∃ u, execDominantTimeoutEnd w s = .next u ∧ Keeps s u := by
  refine ⟨_, rfl, ?_⟩
  have h := Keeps.refl s
  with_reducible repeat' (first | assumption | apply inDom_keeps | apply dominantEnd_keeps | intro _ | split | dsimp only)

theorem execTalkerPackTimeout_keeps (t : Fin 8) (s : State) : ∃ u, execTalkerPackTimeout t s = .next u ∧ Keeps s u := by
  refine ⟨_, rfl, ?_⟩
  have h := Keeps.refl s
  with_reducible repeat' (first | assumption | apply inDom_keeps | apply packTimeout_keeps | intro _ | split | dsimp only)

theorem execListenerFrame_keeps (s : State) : ∃ u, execListenerFrame s = .next u ∧ Keeps s u := by
  refine ⟨_, rfl, ?_⟩
  have h := Keeps.refl s
  with_reducible repeat' (first | assumption | apply inDom_keeps | apply listenerFrame_keeps | intro _ | split | dsimp only)

theorem State.dropAged_keeps {s0 s : State} (hs : Keeps s0 s) (p : Nat) (q : Nat) : Keeps s0 (State.dropAged s p q) := by
  unfold State.dropAged
  with_reducible repeat' first
    | assumption | apply State.count_keeps | apply State.each_keeps | apply State.zRelease_keeps | apply State.zPop_keeps | intro _ | split
    | dsimp only

theorem State.zBad_keeps {s0 s : State} (hs : Keeps s0 s) (i : Nat) (at_ : Nat) : Keeps s0 (State.zBad s i at_) := by
  unfold State.zBad
  with_reducible repeat' first
    | assumption | apply State.each_keeps | apply State.modZsw_keeps | apply State.setZQueue_keeps | apply State.zCounts_keeps
    | apply State.zRelease_keeps | apply State.record_keeps | intro _ | split | dsimp only

theorem State.dropBad_keeps {s0 s : State} (hs : Keeps s0 s) (p : Nat) (q : Nat) : Keeps s0 (State.dropBad s p q) := by
  unfold State.dropBad
  with_reducible repeat' (first | assumption | apply State.each_keeps | apply State.zBad_keeps | intro _ | split | dsimp only)

theorem State.sendEnd_keeps {s0 s : State} (hs : Keeps s0 s) (p : Nat) : Keeps s0 (State.sendEnd s p) := by
  unfold State.sendEnd
  with_reducible repeat' first
    | assumption | apply State.count_keeps | apply State.modZsw_keeps | apply State.zRelease_keeps | apply State.creditSent_keeps | intro _ | split
    | dsimp only

theorem State.toBridge_keeps {s0 s : State} (hs : Keeps s0 s) (b : List Byte) : Keeps s0 (State.toBridge s b) := by
  unfold State.toBridge
  with_reducible repeat' (first | assumption | apply State.modZsw_keeps | apply State.hHear_keeps | intro _ | split | dsimp only)

theorem State.sendStart_keeps {s0 s : State} (hs : Keeps s0 s) (p : Nat) (q : Nat) : Keeps s0 (State.sendStart s p q) := by
  unfold State.sendStart
  with_reducible repeat' first
    | assumption | apply State.when_keeps | apply State.modZsw_keeps | apply State.zPop_keeps | apply State.zStomp_keeps | apply State.zBad_keeps
    | apply State.toBridge_keeps | intro _ | split | dsimp only

theorem State.sendFrom_keeps {s0 s : State} (hs : Keeps s0 s) (p n : Nat) : Keeps s0 (s.sendFrom p n) := by
  induction n generalizing s with
  | zero => exact hs
  | succ q ih =>
    unfold State.sendFrom
    with_reducible repeat' first
      | assumption | apply ih | apply State.dropAged_keeps | apply State.dropBad_keeps | apply State.creditEmpty_keeps | apply State.sendStart_keeps
      | intro _ | split | dsimp only

theorem egressSend_keeps {s0 s : State} (hs : Keeps s0 s) (p : Nat) (coll : Bool) : Keeps s0 (egressSend p coll s) := by
  unfold egressSend
  with_reducible repeat' first
    | assumption | apply State.count_keeps | apply State.when_keeps | apply State.sendEnd_keeps | apply State.sendFrom_keeps | intro _ | split
    | dsimp only

theorem State.zLinkUp_keeps {s0 s : State} (hs : Keeps s0 s) (p : Nat) : Keeps s0 (State.zLinkUp s p) := by
  unfold State.zLinkUp
  with_reducible repeat' first
    | assumption | apply State.setFld_keeps | apply State.count_keeps | apply State.zEvt_keeps | apply State.pgRevive_keeps | intro _ | split
    | dsimp only

theorem State.zLinkLost_keeps {s0 s : State} (hs : Keeps s0 s) (p : Nat) : Keeps s0 (State.zLinkLost s p) := by
  unfold State.zLinkLost
  with_reducible repeat' first
    | assumption | apply State.setFld_keeps | apply State.modZsw_keeps | apply State.zEvt_keeps | apply State.zToFlush_keeps
    | apply State.zAbandon_keeps | intro _ | split | dsimp only

theorem portLinkUp_keeps {s0 s : State} (hs : Keeps s0 s) (p : Nat) (sqi : Nat) : Keeps s0 (portLinkUp p sqi s) := by
  unfold portLinkUp
  with_reducible repeat' first
    | assumption | apply State.setFld_keeps | apply State.setBitF_keeps | apply State.when_keeps | apply State.zLinkUp_keeps | intro _ | split
    | dsimp only

theorem State.linkDown_keeps {s0 s : State} (hs : Keeps s0 s) (p : Nat) (loss : Bool) : Keeps s0 (State.linkDown s p loss) := by
  unfold State.linkDown
  with_reducible repeat' first
    | assumption | apply State.setFld_keeps | apply State.count_keeps | apply State.setBitF_keeps | apply State.when_keeps | apply State.record_keeps
    | apply State.zLinkLost_keeps | intro _ | split | dsimp only

theorem portLinkLost_keeps {s0 s : State} (hs : Keeps s0 s) (p : Nat) : Keeps s0 (portLinkLost p s) := by
  unfold portLinkLost
  with_reducible repeat' (first | assumption | apply State.linkDown_keeps | intro _ | split | dsimp only)

theorem portHoldEnd_keeps {s0 s : State} (hs : Keeps s0 s) (p : Nat) : Keeps s0 (portHoldEnd p s) := by
  unfold portHoldEnd
  with_reducible repeat' first
    | assumption | apply State.setFld_keeps | apply State.modZsw_keeps | apply State.zToFlush_keeps | intro _ | split | dsimp only

theorem flushDone_keeps {s0 s : State} (hs : Keeps s0 s) (p : Nat) : Keeps s0 (flushDone p s) := by
  unfold flushDone
  with_reducible repeat' first
    | assumption | apply State.setFld_keeps | apply State.countBy_keeps | apply State.when_keeps | apply State.each_keeps | apply State.modZsw_keeps
    | apply State.zPurge_keeps | apply State.zEvt_keeps | apply State.record_keeps | apply State.creditEmpty_keeps | apply State.macFlushPort_keeps
    | apply State.pgFail_keeps | apply State.pgRevive_keeps | intro _ | split | dsimp only

theorem bucketReturn_keeps {s0 s : State} (hs : Keeps s0 s) (g : Nat) (b : Nat) : Keeps s0 (bucketReturn g b s) := by
  unfold bucketReturn
  with_reducible repeat' (first | assumption | apply State.pgMove_keeps | intro _ | split | dsimp only)

theorem macAgeing_keeps {s0 s : State} (hs : Keeps s0 s) (v : Nat) (m : Nat) : Keeps s0 (macAgeing v m s) := by
  unfold macAgeing
  with_reducible repeat' (first | assumption | apply State.setMacs_keeps | intro _ | split | dsimp only)

theorem State.mDone_keeps {s0 s : State} (hs : Keeps s0 s) (r : Nat) : Keeps s0 (State.mDone s r) := by
  unfold State.mDone
  with_reducible repeat' (first | assumption | apply State.setFld_keeps | intro _ | split | dsimp only)

theorem macLookup_keeps {s0 s : State} (hs : Keeps s0 s) : Keeps s0 (macLookup s) := by
  unfold macLookup
  with_reducible repeat' (first | assumption | apply State.setFld_keeps | apply State.mDone_keeps | intro _ | split | dsimp only)

theorem macInsert_keeps {s0 s : State} (hs : Keeps s0 s) : Keeps s0 (macInsert s) := by
  unfold macInsert
  with_reducible repeat' (first | assumption | apply State.setMacs_keeps | apply State.mDone_keeps | intro _ | split | dsimp only)

theorem macDelete_keeps {s0 s : State} (hs : Keeps s0 s) : Keeps s0 (macDelete s) := by
  unfold macDelete
  with_reducible repeat' (first | assumption | apply State.setMacs_keeps | apply State.mDone_keeps | intro _ | split | dsimp only)

theorem macFlushAll_keeps {s0 s : State} (hs : Keeps s0 s) : Keeps s0 (macFlushAll s) := by
  unfold macFlushAll
  with_reducible repeat' (first | assumption | apply State.setMacs_keeps | apply State.mDone_keeps | intro _ | split | dsimp only)

theorem macFlushOne_keeps {s0 s : State} (hs : Keeps s0 s) : Keeps s0 (macFlushOne s) := by
  unfold macFlushOne
  with_reducible repeat' (first | assumption | apply State.macFlushPort_keeps | apply State.mDone_keeps | intro _ | split | dsimp only)

theorem State.macCommand_keeps {s0 s : State} (hs : Keeps s0 s) (cmd : Nat) : Keeps s0 (State.macCommand s cmd) := by
  unfold State.macCommand
  with_reducible repeat' first
    | assumption | apply macLookup_keeps | apply macInsert_keeps | apply macDelete_keeps | apply macFlushAll_keeps | apply macFlushOne_keeps
    | intro _ | split | dsimp only

theorem txFrame_keeps {s0 s : State} (hs : Keeps s0 s) (d : Desc) : Keeps s0 (txFrame d s) := by
  unfold txFrame
  with_reducible repeat' first
    | assumption | apply State.finish_keeps | apply State.finishDone_keeps | apply State.zIngress_keeps
    | (refine State.zIngress_keeps_eq (by assumption) ?_) | intro _ | split | dsimp only

theorem State.hostAged_keeps {s0 s : State} (hs : Keeps s0 s) (ring : Nat) : Keeps s0 (State.hostAged s ring) := by
  unfold State.hostAged
  with_reducible repeat' (first | assumption | apply State.each_keeps | apply State.dropAged_keeps | intro _ | split | dsimp only)

theorem State.markSlots_keeps {s0 s : State} (hs : Keeps s0 s) (i : Nat) (k : Nat) (b : Bool) : Keeps s0 (State.markSlots s i k b) := by
  unfold State.markSlots
  with_reducible repeat' (first | assumption | apply State.setBitF_keeps | apply State.each_keeps | intro _ | split | dsimp only)

theorem State.unbind_keeps {s0 s : State} (hs : Keeps s0 s) (b : ZBind) : Keeps s0 (State.unbind s b) := by
  unfold State.unbind
  with_reducible repeat' first
    | assumption | apply State.modZsw_keeps | apply State.zRelease_keeps | apply State.markSlots_keeps | intro _ | split | dsimp only

theorem State.putRxWords_keeps {s0 s : State} (hs : Keeps s0 s) (d : Desc) (f : ZFrame) : Keeps s0 (State.putRxWords s d f) := by
  unfold State.putRxWords
  with_reducible repeat' (first | assumption | apply State.wr_keeps | apply State.colour_keeps | intro _ | split | dsimp only)

theorem State.hostTake_keeps_eq {s0 s t : State} {d : Desc} (e : s.hostTake d = some t) (hs : Keeps s0 s) : Keeps s0 t := by
  revert e
  unfold State.hostTake
  dsimp only
  repeat' split
  all_goals intro e
  all_goals cases e
  all_goals with_reducible repeat' first
    | assumption | apply State.finish_keeps | apply State.zBad_keeps | apply State.finishDone_keeps | apply State.putBytes_keeps
    | apply State.putRxWords_keeps | apply State.zPop_keeps | apply State.zRelease_keeps | apply State.modZsw_keeps | apply State.markSlots_keeps
    | apply State.wr_keeps | apply State.hostAged_keeps | intro _ | split | dsimp only

theorem State.hostServe_keeps {s0 s : State} (hs : Keeps s0 s) (n : Nat) : Keeps s0 (s.hostServe n) := by
  induction n generalizing s with
  | zero => exact hs
  | succ n ih =>
    unfold State.hostServe
    split
    · rename_i e
      obtain ⟨d, -, hd⟩ := List.exists_of_findSome?_eq_some e
      exact ih (State.hostTake_keeps_eq hd hs)
    · exact hs

theorem rxFree_keeps {s0 s : State} (hs : Keeps s0 s) (d : Desc) : Keeps s0 (rxFree d s) := by
  unfold rxFree
  with_reducible repeat' first
    | assumption | apply State.finish_keeps | apply State.finishDone_keeps | apply State.unbind_keeps | apply State.hostServe_keeps | intro _ | split
    | dsimp only

theorem bindingExpiry_keeps {s0 s : State} (hs : Keeps s0 s) (i : Nat) : Keeps s0 (bindingExpiry i s) := by
  unfold bindingExpiry
  with_reducible repeat' first
    | assumption | apply State.raise_keeps | apply State.record_keeps | apply State.unbind_keeps | apply State.hostServe_keeps | intro _ | split
    | dsimp only

theorem State.zswRingOff_keeps {s0 s : State} (hs : Keeps s0 s) (r : Nat) : Keeps s0 (State.zswRingOff s r) := by
  unfold State.zswRingOff
  with_reducible repeat' (first | assumption | apply State.each_keeps | apply State.unbind_keeps | intro _ | split | dsimp only)

theorem frameReceived_keeps {s0 s : State} (hs : Keeps s0 s) (p : Nat) (b : List Byte) (bad : Bool) (stomped : Bool) : Keeps s0 (frameReceived p b
    bad stomped s) := by
  unfold frameReceived
  with_reducible repeat' first
    | assumption | apply State.zIngress_keeps | (refine State.zIngress_keeps_eq (by assumption) ?_) | apply State.hCheck_keeps
    | apply State.hostServe_keeps | intro _ | split | dsimp only

theorem censusStart_keeps {s0 s : State} (hs : Keeps s0 s) : Keeps s0 (censusStart s) := by
  unfold censusStart
  with_reducible repeat' (first | assumption | apply State.setFld_keeps | apply State.modZsw_keeps | intro _ | split | dsimp only)

theorem censusTimer_keeps {s0 s : State} (hs : Keeps s0 s) : Keeps s0 (censusTimer s) := by
  unfold censusTimer
  with_reducible repeat' (first | assumption | apply censusStart_keeps | intro _ | split | dsimp only)

theorem censusDone_keeps {s0 s : State} (hs : Keeps s0 s) : Keeps s0 (censusDone s) := by
  unfold censusDone
  with_reducible repeat' first
    | assumption | apply State.setFld_keeps | apply State.raise_keeps | apply State.raiseIf_keeps | apply State.when_keeps | apply State.modZsw_keeps
    | apply State.record_keeps | intro _ | split | dsimp only

theorem State.zswCommitted_keeps {s0 s : State} {was : State} (hs : Keeps s0 s) : Keeps s0 (State.zswCommitted s was) := by
  unfold State.zswCommitted
  with_reducible repeat' first
    | assumption | apply State.setFld_keeps | apply State.when_keeps | apply State.each_keeps | apply State.drew_keeps | apply State.modZsw_keeps
    | apply State.zDisable_keeps | apply State.zLinkUp_keeps | apply bucketReturn_keeps | apply State.hostServe_keeps | intro _ | split | dsimp only

theorem State.zswForced_keeps {s0 s : State} (hs : Keeps s0 s) : Keeps s0 (State.zswForced s) := by
  unfold State.zswForced
  with_reducible repeat' (first | assumption | apply State.finishAll_keeps | apply State.modZsw_keeps | intro _ | split | dsimp only)

theorem execZswFrameReceived_keeps (p : Fin 8) (b : List Byte) (bad : Bool) (stomped : Bool) (s : State) : ∃ u, execZswFrameReceived p b bad
    stomped s = .next u ∧ Keeps s u := by
  refine ⟨_, rfl, ?_⟩
  have h := Keeps.refl s
  with_reducible repeat' (first | assumption | apply inDom_keeps | apply frameReceived_keeps | intro _ | split | dsimp only)

theorem execZswEgressSend_keeps (p : EgressSend) (s : State) : ∃ u, execZswEgressSend p s = .next u ∧ Keeps s u := by
  refine ⟨_, rfl, ?_⟩
  have h := Keeps.refl s
  with_reducible repeat' (first | assumption | apply inDom_keeps | apply egressSend_keeps | intro _ | split | dsimp only)

theorem execPortLinkUp_keeps (p : Fin 8) (sqi : BitVec 3) (s : State) : ∃ u, execPortLinkUp p sqi s = .next u ∧ Keeps s u := by
  refine ⟨_, rfl, ?_⟩
  have h := Keeps.refl s
  with_reducible repeat' (first | assumption | apply inDom_keeps | apply portLinkUp_keeps | intro _ | split | dsimp only)

theorem execPortLinkLost_keeps (p : Fin 8) (s : State) : ∃ u, execPortLinkLost p s = .next u ∧ Keeps s u := by
  refine ⟨_, rfl, ?_⟩
  have h := Keeps.refl s
  with_reducible repeat' (first | assumption | apply inDom_keeps | apply portLinkLost_keeps | intro _ | split | dsimp only)

theorem execPortHoldEnd_keeps (p : Fin 10) (s : State) : ∃ u, execPortHoldEnd p s = .next u ∧ Keeps s u := by
  refine ⟨_, rfl, ?_⟩
  have h := Keeps.refl s
  with_reducible repeat' (first | assumption | apply inDom_keeps | apply portHoldEnd_keeps | intro _ | split | dsimp only)

theorem execFlushDone_keeps (p : Fin 10) (s : State) : ∃ u, execFlushDone p s = .next u ∧ Keeps s u := by
  refine ⟨_, rfl, ?_⟩
  have h := Keeps.refl s
  with_reducible repeat' (first | assumption | apply inDom_keeps | apply flushDone_keeps | intro _ | split | dsimp only)

theorem execBucketReturn_keeps (g : Fin 4) (b : Fin 16) (s : State) : ∃ u, execBucketReturn g b s = .next u ∧ Keeps s u := by
  refine ⟨_, rfl, ?_⟩
  have h := Keeps.refl s
  with_reducible repeat' (first | assumption | apply inDom_keeps | apply bucketReturn_keeps | intro _ | split | dsimp only)

theorem execMacAgeing_keeps (v : BitVec 12) (m : BitVec 48) (s : State) : ∃ u, execMacAgeing v m s = .next u ∧ Keeps s u := by
  refine ⟨_, rfl, ?_⟩
  have h := Keeps.refl s
  with_reducible repeat' (first | assumption | apply inDom_keeps | apply macAgeing_keeps | intro _ | split | dsimp only)

theorem execTxframe_keeps (r : Fin 64) (i : Fin 1024) (s : State) : ∃ u, execTxframe r i s = .next u ∧ Keeps s u := by
  refine ⟨_, rfl, ?_⟩
  have h := Keeps.refl s
  with_reducible repeat' first
    | assumption | apply inDom_keeps | apply State.onReady_keeps | apply txFrame_keeps | apply State.hostServe_keeps | intro _ | split | dsimp only

theorem execRxcopy_keeps (r : Fin 64) (i : Fin 1024) (s : State) : ∃ u, execRxcopy r i s = .next u ∧ Keeps s u := by
  refine ⟨_, rfl, ?_⟩
  have h := Keeps.refl s
  with_reducible repeat' first
    | assumption | apply inDom_keeps | apply State.onReady_keeps | apply State.hostServe_keeps | intro _ | split | dsimp only

theorem execRxbind_keeps (r : Fin 64) (i : Fin 1024) (s : State) : ∃ u, execRxbind r i s = .next u ∧ Keeps s u := by
  refine ⟨_, rfl, ?_⟩
  have h := Keeps.refl s
  with_reducible repeat' first
    | assumption | apply inDom_keeps | apply State.onReady_keeps | apply State.hostServe_keeps | intro _ | split | dsimp only

theorem execRxfree_keeps (r : Fin 64) (i : Fin 1024) (s : State) : ∃ u, execRxfree r i s = .next u ∧ Keeps s u := by
  refine ⟨_, rfl, ?_⟩
  have h := Keeps.refl s
  with_reducible repeat' (first | assumption | apply inDom_keeps | apply State.onReady_keeps | apply rxFree_keeps | intro _ | split | dsimp only)

theorem execBindingExpiry_keeps (i : Fin 128) (s : State) : ∃ u, execBindingExpiry i s = .next u ∧ Keeps s u := by
  refine ⟨_, rfl, ?_⟩
  have h := Keeps.refl s
  with_reducible repeat' (first | assumption | apply inDom_keeps | apply bindingExpiry_keeps | intro _ | split | dsimp only)

theorem execCensusTimer_keeps (s : State) : ∃ u, execCensusTimer s = .next u ∧ Keeps s u := by
  refine ⟨_, rfl, ?_⟩
  have h := Keeps.refl s
  with_reducible repeat' (first | assumption | apply inDom_keeps | apply censusTimer_keeps | intro _ | split | dsimp only)

theorem execCensusDone_keeps (s : State) : ∃ u, execCensusDone s = .next u ∧ Keeps s u := by
  refine ⟨_, rfl, ?_⟩
  have h := Keeps.refl s
  with_reducible repeat' (first | assumption | apply inDom_keeps | apply censusDone_keeps | intro _ | split | dsimp only)

theorem State.pEvent_keeps {s0 s : State} (hs : Keeps s0 s) (p : Nat) (i : Nat) : Keeps s0 (State.pEvent s p i) := by
  unfold State.pEvent
  with_reducible repeat' (first | assumption | apply State.setBitF_keeps | intro _ | split | dsimp only)

theorem phyFault_keeps {s0 s : State} (hs : Keeps s0 s) (p : Nat) : Keeps s0 (phyFault p s) := by
  unfold phyFault
  with_reducible repeat' first
    | assumption | apply State.raise_keeps | apply State.record_keeps | apply State.pEvent_keeps | intro _ | split | dsimp only

theorem beaconLoss_keeps {s0 s : State} (hs : Keeps s0 s) (p : Nat) : Keeps s0 (beaconLoss p s) := by
  unfold beaconLoss
  with_reducible repeat' first
    | assumption | apply State.setFld_keeps | apply State.count_keeps | apply State.record_keeps | intro _ | split | dsimp only

theorem beacon_keeps {s0 s : State} (hs : Keeps s0 s) (p : Nat) : Keeps s0 (beacon p s) := by
  unfold beacon
  with_reducible repeat' (first | assumption | apply State.setFld_keeps | intro _ | split | dsimp only)

theorem State.toSleep_keeps {s0 s : State} (hs : Keeps s0 s) (p : Nat) : Keeps s0 (State.toSleep s p) := by
  unfold State.toSleep
  with_reducible repeat' (first | assumption | apply State.setTc10_keeps | apply State.linkDown_keeps | intro _ | split | dsimp only)

theorem State.tc10Sleep_keeps {s0 s : State} (hs : Keeps s0 s) (p : Nat) : Keeps s0 (State.tc10Sleep s p) := by
  unfold State.tc10Sleep
  with_reducible repeat' (first | assumption | apply State.setTc10_keeps | apply State.toSleep_keeps | intro _ | split | dsimp only)

theorem lpsAck_keeps {s0 s : State} (hs : Keeps s0 s) (p : Nat) : Keeps s0 (lpsAck p s) := by
  unfold lpsAck
  with_reducible repeat' (first | assumption | apply State.pEvent_keeps | apply State.toSleep_keeps | intro _ | split | dsimp only)

theorem sleepTimeout_keeps {s0 s : State} (hs : Keeps s0 s) (p : Nat) : Keeps s0 (sleepTimeout p s) := by
  unfold sleepTimeout
  with_reducible repeat' (first | assumption | apply State.setTc10_keeps | apply State.pEvent_keeps | intro _ | split | dsimp only)

theorem remoteSleep_keeps {s0 s : State} (hs : Keeps s0 s) (p : Nat) : Keeps s0 (remoteSleep p s) := by
  unfold remoteSleep
  with_reducible repeat' (first | assumption | apply State.pEvent_keeps | apply State.toSleep_keeps | intro _ | split | dsimp only)

theorem State.tc10SendWup_keeps {s0 s : State} (hs : Keeps s0 s) (p : Nat) : Keeps s0 (State.tc10SendWup s p) := by
  unfold State.tc10SendWup
  with_reducible repeat' (first | assumption | apply State.setTc10_keeps | intro _ | split | dsimp only)

theorem State.tc10Wake_keeps {s0 s : State} (hs : Keeps s0 s) (p : Nat) : Keeps s0 (State.tc10Wake s p) := by
  unfold State.tc10Wake
  with_reducible repeat' first
    | assumption | apply State.setTc10_keeps | apply State.pEvent_keeps | apply State.tc10SendWup_keeps | intro _ | split | dsimp only

theorem State.wakeEvent_keeps {s0 s : State} (hs : Keeps s0 s) (p : Nat) : Keeps s0 (State.wakeEvent s p) := by
  unfold State.wakeEvent
  with_reducible repeat' first
    | assumption | apply State.raise_keeps | apply State.count_keeps | apply State.each_keeps | apply State.pEvent_keeps
    | apply State.tc10SendWup_keeps | intro _ | split | dsimp only

theorem tc10Wup_keeps {s0 s : State} (hs : Keeps s0 s) (p : Nat) : Keeps s0 (tc10Wup p s) := by
  unfold tc10Wup
  with_reducible repeat' first
    | assumption | apply State.setTc10_keeps | apply State.latchWake_keeps | apply State.modEth_keeps | apply State.wakeEvent_keeps | intro _ | split
    | dsimp only

theorem tc10Wur_keeps {s0 s : State} (hs : Keeps s0 s) (p : Nat) : Keeps s0 (tc10Wur p s) := by
  unfold tc10Wur
  with_reducible repeat' first
    | assumption | apply State.setTc10_keeps | apply State.pEvent_keeps | apply State.wakeEvent_keeps | intro _ | split | dsimp only

theorem State.unlock_keeps {s0 s : State} (hs : Keeps s0 s) : Keeps s0 (State.unlock s) := by
  unfold State.unlock
  with_reducible repeat' (first | assumption | apply State.setFld_keeps | apply State.raise_keeps | intro _ | split | dsimp only)

theorem State.setRate_keeps {s0 s : State} (hs : Keeps s0 s) (r : Int) : Keeps s0 (State.setRate s r) := by
  unfold State.setRate
  with_reducible repeat' (first | assumption | apply State.setFld_keeps | apply State.modEth_keeps | intro _ | split | dsimp only)

theorem State.judgeOfs_keeps {s0 s : State} (hs : Keeps s0 s) (a : Nat) : Keeps s0 (State.judgeOfs s a) := by
  unfold State.judgeOfs
  with_reducible repeat' first
    | assumption | apply State.setFld_keeps | apply State.when_keeps | apply State.modEth_keeps | apply State.unlock_keeps | intro _ | split
    | dsimp only

theorem syncFollowUp_keeps {s0 s : State} (hs : Keeps s0 s) (p : Nat) (ofs : Int) : Keeps s0 (syncFollowUp p ofs s) := by
  unfold syncFollowUp
  with_reducible repeat' first
    | assumption | apply State.setFld_keeps | apply State.raise_keeps | apply State.countBy_keeps | apply State.modEth_keeps
    | apply State.record_keeps | apply State.setCounter_keeps | apply State.unlock_keeps | apply State.setRate_keeps | apply State.judgeOfs_keeps
    | intro _ | split | dsimp only

theorem gptpHoldover_keeps {s0 s : State} (hs : Keeps s0 s) : Keeps s0 (gptpHoldover s) := by
  unfold gptpHoldover
  with_reducible repeat' first
    | assumption | apply State.setFld_keeps | apply State.raise_keeps | apply State.modEth_keeps | apply State.record_keeps
    | apply State.unlock_keeps | intro _ | split | dsimp only

theorem peerDelay_keeps {s0 s : State} (hs : Keeps s0 s) (p : Nat) (answered : Bool) (d : Nat) : Keeps s0 (peerDelay p answered d s) := by
  unfold peerDelay
  with_reducible repeat' first
    | assumption | apply State.setFld_keeps | apply State.count_keeps | apply State.when_keeps | apply State.modEth_keeps | intro _ | split
    | dsimp only

theorem State.zoneTimeSet_keeps {s0 s : State} (hs : Keeps s0 s) : Keeps s0 (State.zoneTimeSet s) := by
  unfold State.zoneTimeSet
  with_reducible repeat' (first | assumption | apply State.raise_keeps | apply State.setCounter_keeps | intro _ | split | dsimp only)

theorem State.ethTime_keeps {s0 s : State} (hs : Keeps s0 s) (n : Nat) : Keeps s0 (State.ethTime s n) := by
  unfold State.ethTime
  with_reducible repeat' (first | assumption | apply State.modEth_keeps | intro _ | split | dsimp only)

theorem State.creditIdle_keeps {s0 s : State} (hs : Keeps s0 s) : Keeps s0 (State.creditIdle s) := by
  unfold State.creditIdle
  with_reducible repeat' (first | assumption | apply State.each_keeps | apply State.setCredit_keeps | intro _ | split | dsimp only)

theorem State.holdLeft_keeps {s0 s : State} (hs : Keeps s0 s) : Keeps s0 (State.holdLeft s) := by
  unfold State.holdLeft
  with_reducible repeat' (first | assumption | apply State.setFld_keeps | apply State.each_keeps | intro _ | split | dsimp only)

theorem State.zswStart_keeps {s0 s : State} (hs : Keeps s0 s) : Keeps s0 (State.zswStart s) := by
  unfold State.zswStart
  with_reducible repeat' first
    | assumption | (apply Keeps.lit; assumption) | apply State.setFld_keeps | apply State.each_keeps | apply State.wakeEvent_keeps | intro _ | split
    | dsimp only

theorem State.ethCommitted_keeps {s0 s : State} {was : State} (hs : Keeps s0 s) : Keeps s0 (State.ethCommitted s was) := by
  unfold State.ethCommitted
  with_reducible repeat' first
    | assumption | apply State.setFld_keeps | apply State.when_keeps | apply State.each_keeps | apply State.setTc10_keeps | apply State.modEth_keeps
    | apply State.zLinkUp_keeps | apply State.linkDown_keeps | apply State.pEvent_keeps | apply State.unlock_keeps | apply State.setRate_keeps
    | intro _ | split | dsimp only

theorem State.ethForced_keeps {s0 s : State} (hs : Keeps s0 s) : Keeps s0 (State.ethForced s) := by
  unfold State.ethForced
  with_reducible repeat' first
    | assumption | apply State.setFld_keeps | apply State.each_keeps | apply State.setTc10_keeps | apply State.modEth_keeps
    | apply State.linkDown_keeps | intro _ | split | dsimp only

theorem execPhyFault_keeps (p : Fin 8) (s : State) : ∃ u, execPhyFault p s = .next u ∧ Keeps s u := by
  refine ⟨_, rfl, ?_⟩
  have h := Keeps.refl s
  with_reducible repeat' (first | assumption | apply inDom_keeps | apply phyFault_keeps | intro _ | split | dsimp only)

theorem execPlcaBeaconLoss_keeps (p : Fin 2) (s : State) : ∃ u, execPlcaBeaconLoss p s = .next u ∧ Keeps s u := by
  refine ⟨_, rfl, ?_⟩
  have h := Keeps.refl s
  with_reducible repeat' (first | assumption | apply inDom_keeps | apply beaconLoss_keeps | intro _ | split | dsimp only)

theorem execPlcaBeacon_keeps (p : Fin 2) (s : State) : ∃ u, execPlcaBeacon p s = .next u ∧ Keeps s u := by
  refine ⟨_, rfl, ?_⟩
  have h := Keeps.refl s
  with_reducible repeat' (first | assumption | apply inDom_keeps | apply beacon_keeps | intro _ | split | dsimp only)

theorem execLpsAckReceived_keeps (p : Fin 6) (s : State) : ∃ u, execLpsAckReceived p s = .next u ∧ Keeps s u := by
  refine ⟨_, rfl, ?_⟩
  have h := Keeps.refl s
  with_reducible repeat' (first | assumption | apply inDom_keeps | apply lpsAck_keeps | intro _ | split | dsimp only)

theorem execSleepHandshakeTimeout_keeps (p : Fin 6) (s : State) : ∃ u, execSleepHandshakeTimeout p s = .next u ∧ Keeps s u := by
  refine ⟨_, rfl, ?_⟩
  have h := Keeps.refl s
  with_reducible repeat' (first | assumption | apply inDom_keeps | apply sleepTimeout_keeps | intro _ | split | dsimp only)

theorem execRemoteSleepRequest_keeps (p : Fin 6) (s : State) : ∃ u, execRemoteSleepRequest p s = .next u ∧ Keeps s u := by
  refine ⟨_, rfl, ?_⟩
  have h := Keeps.refl s
  with_reducible repeat' (first | assumption | apply inDom_keeps | apply remoteSleep_keeps | intro _ | split | dsimp only)

theorem execTc10Wup_keeps (p : Fin 6) (s : State) : ∃ u, execTc10Wup p s = .next u ∧ Keeps s u := by
  refine ⟨_, rfl, ?_⟩
  have h := Keeps.refl s
  with_reducible repeat' (first | assumption | apply tc10Wup_keeps | intro _ | split | dsimp only)

theorem execTc10Wur_keeps (p : Fin 6) (s : State) : ∃ u, execTc10Wur p s = .next u ∧ Keeps s u := by
  refine ⟨_, rfl, ?_⟩
  have h := Keeps.refl s
  with_reducible repeat' (first | assumption | apply inDom_keeps | apply tc10Wur_keeps | intro _ | split | dsimp only)

theorem execSyncFollowUp_keeps (p : Fin 6) (ofs : BitVec 64) (s : State) : ∃ u, execSyncFollowUp p ofs s = .next u ∧ Keeps s u := by
  refine ⟨_, rfl, ?_⟩
  have h := Keeps.refl s
  with_reducible repeat' (first | assumption | apply inDom_keeps | apply syncFollowUp_keeps | intro _ | split | dsimp only)

theorem execGptpHoldover_keeps (s : State) : ∃ u, execGptpHoldover s = .next u ∧ Keeps s u := by
  refine ⟨_, rfl, ?_⟩
  have h := Keeps.refl s
  with_reducible repeat' (first | assumption | apply inDom_keeps | apply gptpHoldover_keeps | intro _ | split | dsimp only)

theorem execPeerDelayExchange_keeps (p : Fin 6) (answered : Bool) (d : BitVec 32) (s : State) : ∃ u, execPeerDelayExchange p answered d s = .next u
    ∧ Keeps s u := by
  refine ⟨_, rfl, ?_⟩
  have h := Keeps.refl s
  with_reducible repeat' (first | assumption | apply inDom_keeps | apply peerDelay_keeps | intro _ | split | dsimp only)

theorem State.mkMsg_keeps {s0 s : State} (hs : Keeps s0 s) (src : Nat) (kind : Nat) (sid : Nat) (data : Nat) : Keeps s0 (State.mkMsg s src kind sid
    data) := by
  unfold State.mkMsg
  with_reducible repeat' (first | assumption | apply State.modInp_keeps | intro _ | split | dsimp only)

theorem State.sensServe_keeps {s0 s : State} (hs : Keeps s0 s) (r : Nat) : Keeps s0 (State.sensServe s r) := by
  unfold State.sensServe
  with_reducible repeat' first
    | assumption | apply State.wr_keeps | apply State.finish_keeps | apply State.modInp_keeps | intro _ | split | dsimp only

theorem State.sensServeAll_keeps {s0 s : State} (hs : Keeps s0 s) : Keeps s0 (State.sensServeAll s) := by
  unfold State.sensServeAll
  with_reducible repeat' (first | assumption | apply State.each_keeps | apply State.sensServe_keeps | intro _ | split | dsimp only)

theorem State.toFifo_keeps {s0 s : State} (hs : Keeps s0 s) (r : Nat) (m : SMsg) : Keeps s0 (State.toFifo s r m) := by
  unfold State.toFifo
  with_reducible repeat' first
    | assumption | apply State.raise_keeps | apply State.count_keeps | apply State.modInp_keeps | intro _ | split | dsimp only

theorem sensorMessage_keeps {s0 s : State} (hs : Keeps s0 s) : Keeps s0 (sensorMessage s) := by
  unfold sensorMessage
  with_reducible repeat' first
    | assumption | apply State.when_keeps | apply State.modInp_keeps | apply State.talkerPlace_keeps | apply State.sensServe_keeps
    | apply State.toFifo_keeps | intro _ | split | dsimp only

theorem sensRx_keeps {s0 s : State} (hs : Keeps s0 s) (d : Desc) : Keeps s0 (sensRx d s) := by
  unfold sensRx
  with_reducible repeat' (first | assumption | apply State.sensServe_keeps | intro _ | split | dsimp only)

theorem State.swWake_keeps {s0 s : State} (hs : Keeps s0 s) (n : Nat) (closed : Bool) : Keeps s0 (State.swWake s n closed) := by
  unfold State.swWake
  with_reducible repeat' (first | assumption | apply State.when_keeps | apply State.latchWake_keeps | intro _ | split | dsimp only)

theorem State.swChange_keeps {s0 s : State} (hs : Keeps s0 s) (n : Nat) (closed : Bool) : Keeps s0 (State.swChange s n closed) := by
  unfold State.swChange
  with_reducible repeat' first
    | assumption | apply State.setBitF_keeps | apply State.modInp_keeps | apply State.mkMsg_keeps | apply State.swWake_keeps | intro _ | split
    | dsimp only

theorem switchPoll_keeps {s0 s : State} (hs : Keeps s0 s) (n : Nat) (land : Int) (kl30 : Nat) : Keeps s0 (switchPoll n land kl30 s) := by
  unfold switchPoll
  with_reducible repeat' first
    | assumption | apply State.setFld_keeps | apply State.modInp_keeps | apply State.swChange_keeps | intro _ | split | dsimp only

theorem staticFilterEnd_keeps {s0 s : State} (hs : Keeps s0 s) (n : Nat) (land : Int) (kl30 : Nat) : Keeps s0 (staticFilterEnd n land kl30 s) := by
  unfold staticFilterEnd
  with_reducible repeat' (first | assumption | apply State.setFld_keeps | apply State.swChange_keeps | intro _ | split | dsimp only)

theorem fawnFilterEnd_keeps {s0 s : State} (hs : Keeps s0 s) (n : Nat) (land : Int) (kl30 : Nat) : Keeps s0 (fawnFilterEnd n land kl30 s) := by
  unfold fawnFilterEnd
  with_reducible repeat' first
    | assumption | apply State.setFld_keeps | apply State.setBitF_keeps | apply State.swWake_keeps | intro _ | split | dsimp only

theorem adcScan_keeps {s0 s : State} (hs : Keeps s0 s) (a : Nat) : Keeps s0 (adcScan a s) := by
  unfold adcScan
  with_reducible repeat' (first | assumption | apply State.modInp_keeps | intro _ | split | dsimp only)

theorem State.winChange_keeps {s0 s : State} (hs : Keeps s0 s) (n : Nat) (w : Nat) : Keeps s0 (State.winChange s n w) := by
  unfold State.winChange
  with_reducible repeat' first
    | assumption | apply State.setBitF_keeps | apply State.latchWake_keeps | apply State.mkMsg_keeps | intro _ | split | dsimp only

theorem adcResult_keeps {s0 s : State} (hs : Keeps s0 s) (a : Nat) (conv : List (BitVec 16)) : Keeps s0 (adcResult a conv s) := by
  unfold adcResult
  with_reducible repeat' first
    | assumption | apply State.setFld_keeps | apply State.when_keeps | apply State.modInp_keeps | apply State.winChange_keeps | intro _ | split
    | dsimp only

theorem senseConversion_keeps {s0 s : State} (hs : Keeps s0 s) (o : Nat) (v : Word) : Keeps s0 (senseConversion o v s) := by
  unfold senseConversion
  with_reducible repeat' first
    | assumption | apply State.setFld_keeps | apply State.senseEvent_keeps | apply State.modMean_keeps | apply State.motShunt_keeps | intro _ | split
    | dsimp only

theorem adcCalibration_keeps {s0 s : State} (hs : Keeps s0 s) (a : Nat) (ok : Bool) : Keeps s0 (adcCalibration a ok s) := by
  unfold adcCalibration
  with_reducible repeat' (first | assumption | apply State.adcFail_keeps | apply State.record_keeps | intro _ | split | dsimp only)

theorem ssOvercurrent_keeps {s0 s : State} (hs : Keeps s0 s) (k : Nat) : Keeps s0 (ssOvercurrent k s) := by
  unfold ssOvercurrent
  with_reducible repeat' (first | assumption | apply State.ssOff_keeps | apply State.record_keeps | intro _ | split | dsimp only)

theorem ssDriven_keeps {s0 s : State} (hs : Keeps s0 s) (k : Nat) : Keeps s0 (ssDriven k s) := by
  unfold ssDriven
  with_reducible repeat' (first | assumption | apply State.ssOff_keeps | apply State.record_keeps | intro _ | split | dsimp only)

theorem State.sentErr_keeps {s0 s : State} (hs : Keeps s0 s) (k : Nat) (e : Nat) (counted : Bool) : Keeps s0 (State.sentErr s k e counted) := by
  unfold State.sentErr
  with_reducible repeat' first
    | assumption | apply State.setFld_keeps | apply State.raise_keeps | apply State.count_keeps | apply State.when_keeps | apply State.record_keeps
    | apply State.mkMsg_keeps | intro _ | split | dsimp only

theorem sentFrame_keeps {s0 s : State} (hs : Keeps s0 s) (k : Nat) (cal : Nat) (nibs : List Nat) (slow : Option SlowMsg) : Keeps s0 (sentFrame k
    cal nibs slow s) := by
  unfold sentFrame
  with_reducible repeat' first
    | assumption | apply State.setFld_keeps | apply State.modInp_keeps | apply State.mkMsg_keeps | apply State.sentErr_keeps | intro _ | split
    | dsimp only

theorem sentTimeout_keeps {s0 s : State} (hs : Keeps s0 s) (k : Nat) : Keeps s0 (sentTimeout k s) := by
  unfold sentTimeout
  with_reducible repeat' first
    | assumption | apply State.setFld_keeps | apply State.modInp_keeps | apply State.sentErr_keeps | intro _ | split | dsimp only

theorem State.psErr_keeps {s0 s : State} (hs : Keeps s0 s) (k : Nat) (j : Nat) (e : Nat) : Keeps s0 (State.psErr s k j e) := by
  unfold State.psErr
  with_reducible repeat' first
    | assumption | apply State.setFld_keeps | apply State.raise_keeps | apply State.record_keeps | apply State.mkMsg_keeps | intro _ | split
    | dsimp only

theorem State.psSlot_keeps {s0 s : State} (hs : Keeps s0 s) (k : Nat) (j : Nat) (b : Bool) : Keeps s0 (State.psSlot s k j b) := by
  unfold State.psSlot
  with_reducible repeat' (first | assumption | apply State.modInp_keeps | intro _ | split | dsimp only)

theorem psi5Sync_keeps {s0 s : State} (hs : Keeps s0 s) (k : Nat) : Keeps s0 (psi5Sync k s) := by
  unfold psi5Sync
  with_reducible repeat' (first | assumption | apply State.each_keeps | apply State.psSlot_keeps | intro _ | split | dsimp only)

theorem psi5Frame_keeps {s0 s : State} (hs : Keeps s0 s) (k : Nat) (j : Nat) (coding : Bool) (check : Bool) (data : Nat) : Keeps s0 (psi5Frame k j
    coding check data s) := by
  unfold psi5Frame
  with_reducible repeat' first
    | assumption | apply State.setFld_keeps | apply State.mkMsg_keeps | apply State.psErr_keeps | apply State.psSlot_keeps | intro _ | split
    | dsimp only

theorem psi5SlotClose_keeps {s0 s : State} (hs : Keeps s0 s) (k : Nat) (j : Nat) : Keeps s0 (psi5SlotClose k j s) := by
  unfold psi5SlotClose
  with_reducible repeat' first
    | assumption | apply State.setFld_keeps | apply State.psErr_keeps | apply State.psSlot_keeps | intro _ | split | dsimp only

theorem psi5BusLimit_keeps {s0 s : State} (hs : Keeps s0 s) (k : Nat) : Keeps s0 (psi5BusLimit k s) := by
  unfold psi5BusLimit
  with_reducible repeat' (first | assumption | apply State.psOff_keeps | apply State.record_keeps | intro _ | split | dsimp only)

theorem State.setCell_keeps {s0 s : State} (hs : Keeps s0 s) (c : Nat) (b : Bool) : Keeps s0 (State.setCell s c b) := by
  unfold State.setCell
  with_reducible repeat' (first | assumption | apply State.setBitF_keeps | intro _ | split | dsimp only)

theorem State.cellsFrom_keeps {s0 s : State} (hs : Keeps s0 s) (st : List (Nat × Bool)) (l : List Nat) : Keeps s0 (s.cellsFrom st l) := by
  induction l generalizing s st with
  | nil =>
    unfold State.cellsFrom
    with_reducible repeat' (first | assumption | apply State.each_keeps | apply State.setCell_keeps | intro _ | split | dsimp only)
  | cons c t ih =>
    unfold State.cellsFrom
    with_reducible repeat' (first | assumption | apply ih | apply State.setCell_keeps | intro _ | split | dsimp only)

theorem State.timerStep_keeps {s0 s : State} (hs : Keeps s0 s) (t : Nat) : Keeps s0 (State.timerStep s t) := by
  unfold State.timerStep
  with_reducible repeat' (first | assumption | apply State.modInp_keeps | intro _ | split | dsimp only)

theorem fabricStep_keeps {s0 s : State} (hs : Keeps s0 s) : Keeps s0 (fabricStep s) := by
  unfold fabricStep
  with_reducible repeat' first
    | assumption | apply State.each_keeps | apply State.follow_keeps | apply State.record_keeps | apply State.cellsFrom_keeps
    | apply State.timerStep_keeps | intro _ | split | dsimp only

theorem fabricTimer_keeps {s0 s : State} (hs : Keeps s0 s) (t : Nat) : Keeps s0 (fabricTimer t s) := by
  unfold fabricTimer
  with_reducible repeat' (first | assumption | apply State.modInp_keeps | intro _ | split | dsimp only)

theorem limpHomeEngage_keeps {s0 s : State} (hs : Keeps s0 s) : Keeps s0 (limpHomeEngage s) := by
  unfold limpHomeEngage
  with_reducible repeat' (first | assumption | apply State.limpEngage_keeps | intro _ | split | dsimp only)

theorem State.limpRelease_keeps {s0 s : State} (hs : Keeps s0 s) (c : Nat) : Keeps s0 (State.limpRelease s c) := by
  unfold State.limpRelease
  with_reducible repeat' first
    | assumption | apply State.setFld_keeps | apply State.raise_keeps | apply State.when_keeps | apply State.traceA_keeps | apply State.modInp_keeps
    | apply State.follow_keeps | apply State.record_keeps | intro _ | split | dsimp only

theorem State.storeScan_keeps {s0 s : State} (hs : Keeps s0 s) : Keeps s0 (State.storeScan s) := by
  unfold State.storeScan
  with_reducible repeat' first
    | assumption | apply State.when_keeps | apply State.scanReads_keeps | apply State.ssShow_keeps | apply State.fabricLoad_keeps
    | apply State.record_keeps | intro _ | split | dsimp only

theorem fabricLive_keeps {s0 s : State} (hs : Keeps s0 s) : Keeps s0 (fabricLive s) := by
  unfold fabricLive
  with_reducible repeat' first
    | assumption | apply State.each_keeps | apply State.modInp_keeps | apply State.setCell_keeps | apply State.storeScan_keeps | intro _ | split
    | dsimp only

theorem State.inpCommitted_keeps {s0 s : State} {was : State} (hs : Keeps s0 s) : Keeps s0 (State.inpCommitted s was) := by
  unfold State.inpCommitted
  with_reducible repeat' first
    | assumption | apply State.setFld_keeps | apply State.setBitF_keeps | apply State.each_keeps | apply State.modInp_keeps | intro _ | split
    | dsimp only

theorem State.inpForced_keeps {s0 s : State} (hs : Keeps s0 s) : Keeps s0 (State.inpForced s) := by
  unfold State.inpForced
  with_reducible repeat' first
    | assumption | apply State.setFld_keeps | apply State.each_keeps | apply State.finishAll_keeps | apply State.modInp_keeps
    | apply State.psOff_keeps | intro _ | split | dsimp only

theorem State.inpRest_keeps {s0 s : State} (hs : Keeps s0 s) : Keeps s0 (State.inpRest s) := by
  unfold State.inpRest
  with_reducible repeat' first
    | assumption | apply State.setFld_keeps | apply State.each_keeps | apply State.modInp_keeps | intro _ | split | dsimp only

theorem State.inpWake_keeps {s0 s : State} (hs : Keeps s0 s) : Keeps s0 (State.inpWake s) := by
  unfold State.inpWake
  with_reducible repeat' first
    | assumption | apply State.setFld_keeps | apply State.each_keeps | apply State.modInp_keeps | intro _ | split | dsimp only

theorem execSwitchPoll_keeps (n : Fin 48) (v : LandVolts) (s : State) : ∃ u, execSwitchPoll n v s = .next u ∧ Keeps s u := by
  refine ⟨_, rfl, ?_⟩
  have h := Keeps.refl s
  with_reducible repeat' (first | assumption | apply inDom_keeps | apply switchPoll_keeps | intro _ | split | dsimp only)

theorem execStaticFilterEnd_keeps (n : Fin 48) (v : LandVolts) (s : State) : ∃ u, execStaticFilterEnd n v s = .next u ∧ Keeps s u := by
  refine ⟨_, rfl, ?_⟩
  have h := Keeps.refl s
  with_reducible repeat' first
    | assumption | apply inDom_keeps | apply staticFilterEnd_keeps | apply fawnFilterEnd_keeps | intro _ | split | dsimp only

theorem execAdcScan_keeps (a : Fin 2) (s : State) : ∃ u, execAdcScan a s = .next u ∧ Keeps s u := by
  refine ⟨_, rfl, ?_⟩
  have h := Keeps.refl s
  with_reducible repeat' (first | assumption | apply inDom_keeps | apply adcScan_keeps | intro _ | split | dsimp only)

theorem execAdcResult_keeps (a : Fin 2) (conv : List (BitVec 16)) (s : State) : ∃ u, execAdcResult a conv s = .next u ∧ Keeps s u := by
  refine ⟨_, rfl, ?_⟩
  have h := Keeps.refl s
  with_reducible repeat' (first | assumption | apply inDom_keeps | apply adcResult_keeps | intro _ | split | dsimp only)

theorem execSenseConversion_keeps (o : Fin 128) (v : Word) (s : State) : ∃ u, execSenseConversion o v s = .next u ∧ Keeps s u := by
  refine ⟨_, rfl, ?_⟩
  have h := Keeps.refl s
  with_reducible repeat' (first | assumption | apply inDom_keeps | apply senseConversion_keeps | intro _ | split | dsimp only)

theorem execSenseAdcCalibration_keeps (a : Fin 10) (ok : Bool) (s : State) : ∃ u, execSenseAdcCalibration a ok s = .next u ∧ Keeps s u := by
  refine ⟨_, rfl, ?_⟩
  have h := Keeps.refl s
  with_reducible repeat' (first | assumption | apply inDom_keeps | apply adcCalibration_keeps | intro _ | split | dsimp only)

theorem execSsOvercurrent_keeps (k : Fin 2) (s : State) : ∃ u, execSsOvercurrent k s = .next u ∧ Keeps s u := by
  refine ⟨_, rfl, ?_⟩
  have h := Keeps.refl s
  with_reducible repeat' (first | assumption | apply inDom_keeps | apply ssOvercurrent_keeps | intro _ | split | dsimp only)

theorem execSsDriven_keeps (k : Fin 2) (s : State) : ∃ u, execSsDriven k s = .next u ∧ Keeps s u := by
  refine ⟨_, rfl, ?_⟩
  have h := Keeps.refl s
  with_reducible repeat' (first | assumption | apply inDom_keeps | apply ssDriven_keeps | intro _ | split | dsimp only)

theorem execSentFrame_keeps (k : Fin 8) (cal : BitVec 32) (nibs : List (BitVec 32)) (slow : Option SlowMsg) (s : State) : ∃ u, execSentFrame k cal
    nibs slow s = .next u ∧ Keeps s u := by
  refine ⟨_, rfl, ?_⟩
  have h := Keeps.refl s
  with_reducible repeat' (first | assumption | apply inDom_keeps | apply sentFrame_keeps | intro _ | split | dsimp only)

theorem execSentTimeout_keeps (k : Fin 8) (s : State) : ∃ u, execSentTimeout k s = .next u ∧ Keeps s u := by
  refine ⟨_, rfl, ?_⟩
  have h := Keeps.refl s
  with_reducible repeat' (first | assumption | apply inDom_keeps | apply sentTimeout_keeps | intro _ | split | dsimp only)

theorem execPsi5Sync_keeps (k : Fin 4) (s : State) : ∃ u, execPsi5Sync k s = .next u ∧ Keeps s u := by
  refine ⟨_, rfl, ?_⟩
  have h := Keeps.refl s
  with_reducible repeat' (first | assumption | apply inDom_keeps | apply psi5Sync_keeps | intro _ | split | dsimp only)

theorem execPsi5Frame_keeps (k : Fin 4) (j : Fin 4) (coding : Bool) (check : Bool) (data : BitVec 28) (s : State) : ∃ u, execPsi5Frame k j coding
    check data s = .next u ∧ Keeps s u := by
  refine ⟨_, rfl, ?_⟩
  have h := Keeps.refl s
  with_reducible repeat' (first | assumption | apply inDom_keeps | apply psi5Frame_keeps | intro _ | split | dsimp only)

theorem execPsi5SlotClose_keeps (k : Fin 4) (j : Fin 4) (s : State) : ∃ u, execPsi5SlotClose k j s = .next u ∧ Keeps s u := by
  refine ⟨_, rfl, ?_⟩
  have h := Keeps.refl s
  with_reducible repeat' (first | assumption | apply inDom_keeps | apply psi5SlotClose_keeps | intro _ | split | dsimp only)

theorem execPsi5BusLimit_keeps (k : Fin 4) (s : State) : ∃ u, execPsi5BusLimit k s = .next u ∧ Keeps s u := by
  refine ⟨_, rfl, ?_⟩
  have h := Keeps.refl s
  with_reducible repeat' (first | assumption | apply inDom_keeps | apply psi5BusLimit_keeps | intro _ | split | dsimp only)

theorem execSensorMessage_keeps (s : State) : ∃ u, execSensorMessage s = .next u ∧ Keeps s u := by
  refine ⟨_, rfl, ?_⟩
  have h := Keeps.refl s
  with_reducible repeat' (first | assumption | apply inDom_keeps | apply sensorMessage_keeps | intro _ | split | dsimp only)

theorem execSensrx_keeps (r : Fin 64) (i : Fin 1024) (s : State) : ∃ u, execSensrx r i s = .next u ∧ Keeps s u := by
  refine ⟨_, rfl, ?_⟩
  have h := Keeps.refl s
  with_reducible repeat' (first | assumption | apply inDom_keeps | apply State.onReady_keeps | apply sensRx_keeps | intro _ | split | dsimp only)

theorem execFabricStep_keeps (s : State) : ∃ u, execFabricStep s = .next u ∧ Keeps s u := by
  refine ⟨_, rfl, ?_⟩
  have h := Keeps.refl s
  with_reducible repeat' (first | assumption | apply inDom_keeps | apply fabricStep_keeps | intro _ | split | dsimp only)

theorem execFabricTimer_keeps (t : Fin 4) (s : State) : ∃ u, execFabricTimer t s = .next u ∧ Keeps s u := by
  refine ⟨_, rfl, ?_⟩
  have h := Keeps.refl s
  with_reducible repeat' (first | assumption | apply inDom_keeps | apply fabricTimer_keeps | intro _ | split | dsimp only)

theorem execLimpHomeEngage_keeps (s : State) : ∃ u, execLimpHomeEngage s = .next u ∧ Keeps s u := by
  refine ⟨_, rfl, ?_⟩
  have h := Keeps.refl s
  with_reducible repeat' (first | assumption | apply inDom_keeps | apply limpHomeEngage_keeps | intro _ | split | dsimp only)

theorem execFabricLive_keeps (s : State) : ∃ u, execFabricLive s = .next u ∧ Keeps s u := by
  refine ⟨_, rfl, ?_⟩
  have h := Keeps.refl s
  with_reducible repeat' (first | assumption | apply inDom_keeps | apply fabricLive_keeps | intro _ | split | dsimp only)

theorem State.thermSet_keeps {s0 s : State} (hs : Keeps s0 s) (o : Nat) : Keeps s0 (State.thermSet s o) := by
  unfold State.thermSet
  with_reducible repeat' first
    | assumption | apply State.motThermSet_keeps | apply State.vlvThermSet_keeps | apply State.bankThermSet_keeps | apply State.luxThermSet_keeps
    | apply State.hscThermSet_keeps | intro _ | split | dsimp only

theorem State.thermRelease_keeps {s0 s : State} (hs : Keeps s0 s) (o : Nat) (held : Bool) : Keeps s0 (State.thermRelease s o held) := by
  unfold State.thermRelease
  with_reducible repeat' first
    | assumption | apply State.motThermRelease_keeps | apply State.vlvThermRelease_keeps | apply State.bankThermRelease_keeps
    | apply State.luxThermRelease_keeps | apply State.hscThermRelease_keeps | intro _ | split | dsimp only

theorem execDtLatch_keeps (o : Fin 124) (t : Word) (cs : Word) (s : State) : ∃ u, execDtLatch o t cs s = .next u ∧ Keeps s u := by
  refine ⟨_, rfl, ?_⟩
  have h := Keeps.refl s
  with_reducible repeat' first
    | assumption | apply State.raise_keeps | apply inDom_keeps | apply State.modThm_keeps | apply State.tell_keeps | apply State.record_keeps
    | apply State.thermSet_keeps | intro _ | split | dsimp only

theorem execDtRelease_keeps (o : Fin 124) (t : Word) (cs : Word) (held : Bool) (s : State) : ∃ u, execDtRelease o t cs held s = .next u ∧ Keeps s u
    := by
  refine ⟨_, rfl, ?_⟩
  have h := Keeps.refl s
  with_reducible repeat' first
    | assumption | apply State.setFld_keeps | apply State.raise_keeps | apply inDom_keeps | apply State.modThm_keeps | apply State.tell_keeps
    | apply State.thermRelease_keeps | intro _ | split | dsimp only

theorem execTjLatch_keeps (o : Fin 124) (t : Word) (s : State) : ∃ u, execTjLatch o t s = .next u ∧ Keeps s u := by
  refine ⟨_, rfl, ?_⟩
  have h := Keeps.refl s
  with_reducible repeat' first
    | assumption | apply State.raise_keeps | apply inDom_keeps | apply State.modThm_keeps | apply State.tell_keeps | apply State.dcTrip_keeps
    | apply State.record_keeps | apply State.thermSet_keeps | intro _ | split | dsimp only

theorem execTjRelease_keeps (o : Fin 124) (t : Word) (held : Bool) (s : State) : ∃ u, execTjRelease o t held s = .next u ∧ Keeps s u := by
  refine ⟨_, rfl, ?_⟩
  have h := Keeps.refl s
  with_reducible repeat' first
    | assumption | apply State.setFld_keeps | apply State.raise_keeps | apply inDom_keeps | apply State.modThm_keeps | apply State.tell_keeps
    | apply State.thermRelease_keeps | intro _ | split | dsimp only

theorem State.thmCommitted_keeps {s0 s : State} (hs : Keeps s0 s) : Keeps s0 (State.thmCommitted s) := by
  unfold State.thmCommitted
  with_reducible repeat' (first | assumption | apply State.modThm_keeps | intro _ | split | dsimp only)

theorem execChannelSensorFail_keeps (o : Fin 128) (s : State) : ∃ u, execChannelSensorFail o s = .next u ∧ Keeps s u := by
  refine ⟨_, rfl, ?_⟩
  have h := Keeps.refl s
  with_reducible repeat' (first | assumption | apply State.raise_keeps | apply inDom_keeps | apply State.record_keeps | intro _ | split | dsimp only)

theorem execCaseReferenceFail_keeps (k : Fin 12) (s : State) : ∃ u, execCaseReferenceFail k s = .next u ∧ Keeps s u := by
  refine ⟨_, rfl, ?_⟩
  have h := Keeps.refl s
  with_reducible repeat' first
    | assumption | apply State.raise_keeps | apply State.setBitF_keeps | apply inDom_keeps | apply State.recordAt_keeps | intro _ | split
    | dsimp only

theorem execDiehot_keeps (d : Fin 2) (t : Word) (s : State) : ∃ u, execDiehot d t s = .next u ∧ Keeps s u := by
  refine ⟨_, rfl, ?_⟩
  have h := Keeps.refl s
  with_reducible repeat' first
    | assumption | apply State.raise_keeps | apply inDom_keeps | apply State.tell_keeps | apply State.record_keeps | intro _ | split | dsimp only

theorem execDieover_keeps (d : Fin 2) (t : Word) (s : State) : ∃ u, execDieover d t s = .next u ∧ Keeps s u := by
  refine ⟨_, rfl, ?_⟩
  have h := Keeps.refl s
  with_reducible repeat' (first | assumption | apply inDom_keeps | apply State.tell_keeps | apply State.record_keeps | intro _ | split | dsimp only)

theorem State.setTheta_keeps {s0 s : State} (hs : Keeps s0 s) (o : Nat) (th : Nat) : Keeps s0 (State.setTheta s o th) := by
  unfold State.setTheta
  with_reducible repeat' first
    | assumption | apply State.setReg_keeps | apply State.setFld_keeps | apply State.modThm_keeps | intro _ | split | dsimp only

theorem State.wireTripped_keeps {s0 s : State} (hs : Keeps s0 s) (o : Nat) : Keeps s0 (State.wireTripped s o) := by
  unfold State.wireTripped
  with_reducible repeat' first
    | assumption | apply State.raise_keeps | apply State.setTrip_keeps | apply State.bankWireTrip_keeps | apply State.record_keeps
    | apply State.hscWireTrip_keeps | intro _ | split | dsimp only

theorem execWireModelUpdate_keeps (o : Fin 84) (ons : List (Nat × List Word)) (s : State) : ∃ u, execWireModelUpdate o ons s = .next u ∧ Keeps s u
    := by
  refine ⟨_, rfl, ?_⟩
  have h := Keeps.refl s
  with_reducible repeat' first
    | assumption | apply inDom_keeps | apply State.setTheta_keeps | apply State.wireTripped_keeps | intro _ | split | dsimp only

theorem execPestUpdate_keeps (sides : List (Fin 100 × List (Nat × List Word))) (s : State) : ∃ u, execPestUpdate sides s = .next u ∧ Keeps s u := by
  refine ⟨_, rfl, ?_⟩
  have h := Keeps.refl s
  with_reducible repeat' first
    | assumption | apply State.setFld_keeps | apply State.raiseIf_keeps | apply inDom_keeps | intro _ | split | dsimp only

theorem State.thmForced_keeps {s0 s : State} (hs : Keeps s0 s) : Keeps s0 (State.thmForced s) := by
  unfold State.thmForced
  with_reducible repeat' (first | assumption | apply State.modThm_keeps | intro _ | split | dsimp only)

theorem State.applyOutput_keeps {s0 s : State} (hs : Keeps s0 s) (n : Nat) (d : Nat) : Keeps s0 (State.applyOutput s n d) := by
  unfold State.applyOutput
  with_reducible repeat' first
    | assumption | apply State.motApply_keeps | apply State.luxThread_keeps | apply State.hscApply_keeps | apply State.vlvApply_keeps | intro _
    | split | dsimp only

theorem State.setParam_keeps {s0 s : State} (hs : Keeps s0 s) (n : Nat) (p : Nat) (v : Nat) : Keeps s0 (State.setParam s n p v) := by
  unfold State.setParam
  with_reducible repeat' first
    | assumption | apply State.motSetp_keeps | apply State.vlvSetp_keeps | apply State.luxSetp_keeps | intro _ | split | dsimp only

theorem State.applyThread_keeps {s0 s : State} (hs : Keeps s0 s) (n : Nat) : Keeps s0 (State.applyThread s n) := by
  unfold State.applyThread
  with_reducible repeat' first
    | assumption | (apply Keeps.lit; assumption) | apply State.setThr_keeps | apply State.applyOutput_keeps | intro _ | split | dsimp only

theorem State.threadDone_keeps {s0 s : State} (hs : Keeps s0 s) (n : Nat) : Keeps s0 (State.threadDone s n) := by
  unfold State.threadDone
  with_reducible repeat' first
    | assumption | apply State.finishDone_keeps | apply State.modHch_keeps | apply State.hscFinish_keeps | apply State.hscApplied_keeps
    | apply State.motThreadEnd_keeps | apply State.vlvThreadEnd_keeps | intro _ | split | dsimp only

theorem State.threadStatus_keeps {s0 s : State} (hs : Keeps s0 s) (n : Nat) (st : Nat) : Keeps s0 (State.threadStatus s n st) := by
  unfold State.threadStatus
  with_reducible repeat' (first | assumption | apply State.finish_keeps | intro _ | split | dsimp only)

theorem State.seqInstr_keeps {s0 s : State} (hs : Keeps s0 s) (n : Nat) (is : Nat → Bool) (f : Nat → Nat → State → State) (hf : ∀ (a0 : Nat) (a1 :
    Nat) (a2 : State), Keeps s0 a2 → Keeps s0 (f a0 a1 a2)) : Keeps s0 (State.seqInstr s n is f) := by
  unfold State.seqInstr
  with_reducible repeat' first
    | assumption | (apply Keeps.lit; assumption) | apply State.when_keeps | apply State.setThr_keeps | apply State.setThrPc_keeps
    | apply State.seqScrub_keeps | apply State.progFault_keeps | apply hf | intro _ | split | dsimp only

theorem State.seqJump_keeps {s0 s : State} (hs : Keeps s0 s) (n : Nat) (a : Nat) : Keeps s0 (State.seqJump s n a) := by
  unfold State.seqJump
  with_reducible repeat' (first | assumption | apply State.setThrPc_keeps | apply State.progFault_keeps | intro _ | split | dsimp only)

theorem State.seqWait_keeps {s0 s : State} (hs : Keeps s0 s) (n : Nat) (st : Nat) (f : Thread → Thread) : Keeps s0 (State.seqWait s n st f) := by
  unfold State.seqWait
  with_reducible repeat' first
    | assumption | apply State.modThr_keeps | apply State.setThrSt_keeps | apply State.applyThread_keeps | intro _ | split | dsimp only

theorem State.seqStop_keeps {s0 s : State} (hs : Keeps s0 s) (n : Nat) : Keeps s0 (State.seqStop s n) := by
  unfold State.seqStop
  with_reducible repeat' first
    | assumption | apply State.setThrSt_keeps | apply State.applyThread_keeps | apply State.threadDone_keeps | intro _ | split | dsimp only

theorem execSeqEnd_keeps (n : Fin 128) (s : State) : ∃ u, execSeqEnd n s = .next u ∧ Keeps s u := by
  refine ⟨_, rfl, ?_⟩
  have h := Keeps.refl s
  with_reducible repeat' first
    | assumption | (apply Keeps.lit; assumption) | apply inDom_keeps | apply State.modThr_keeps | apply State.seqInstr_keeps
    | apply State.seqStop_keeps | intro _ | split | dsimp only

theorem execSeqHold_keeps (n : Fin 128) (s : State) : ∃ u, execSeqHold n s = .next u ∧ Keeps s u := by
  refine ⟨_, rfl, ?_⟩
  have h := Keeps.refl s
  with_reducible repeat' first
    | assumption | apply inDom_keeps | apply State.seqInstr_keeps | apply State.seqStop_keeps | intro _ | split | dsimp only

theorem execSeqSetd_keeps (n : Fin 128) (s : State) : ∃ u, execSeqSetd n s = .next u ∧ Keeps s u := by
  refine ⟨_, rfl, ?_⟩
  have h := Keeps.refl s
  with_reducible repeat' first
    | assumption | (apply Keeps.lit; assumption) | apply inDom_keeps | apply State.modThr_keeps | apply State.seqInstr_keeps | intro _ | split
    | dsimp only

theorem execSeqSetdq_keeps (n : Fin 128) (s : State) : ∃ u, execSeqSetdq n s = .next u ∧ Keeps s u := by
  refine ⟨_, rfl, ?_⟩
  have h := Keeps.refl s
  with_reducible repeat' first
    | assumption | (apply Keeps.lit; assumption) | apply inDom_keeps | apply State.modThr_keeps | apply State.seqInstr_keeps | intro _ | split
    | dsimp only

theorem execSeqRamp_keeps (n : Fin 128) (s : State) : ∃ u, execSeqRamp n s = .next u ∧ Keeps s u := by
  refine ⟨_, rfl, ?_⟩
  have h := Keeps.refl s
  with_reducible repeat' first
    | assumption | (apply Keeps.lit; assumption) | apply inDom_keeps | apply State.seqInstr_keeps | apply State.seqWait_keeps | intro _ | split
    | dsimp only

theorem execSeqWaitf_keeps (n : Fin 128) (s : State) : ∃ u, execSeqWaitf n s = .next u ∧ Keeps s u := by
  refine ⟨_, rfl, ?_⟩
  have h := Keeps.refl s
  with_reducible repeat' first
    | assumption | (apply Keeps.lit; assumption) | apply inDom_keeps | apply State.seqInstr_keeps | apply State.seqWait_keeps | intro _ | split
    | dsimp only

theorem execSeqWaitt_keeps (n : Fin 128) (s : State) : ∃ u, execSeqWaitt n s = .next u ∧ Keeps s u := by
  refine ⟨_, rfl, ?_⟩
  have h := Keeps.refl s
  with_reducible repeat' first
    | assumption | (apply Keeps.lit; assumption) | apply inDom_keeps | apply State.seqInstr_keeps | apply State.seqWait_keeps | intro _ | split
    | dsimp only

theorem execSeqWaite_keeps (n : Fin 128) (s : State) : ∃ u, execSeqWaite n s = .next u ∧ Keeps s u := by
  refine ⟨_, rfl, ?_⟩
  have h := Keeps.refl s
  with_reducible repeat' first
    | assumption | (apply Keeps.lit; assumption) | apply inDom_keeps | apply State.senseEvent_keeps | apply State.seqInstr_keeps
    | apply State.seqWait_keeps | intro _ | split | dsimp only

theorem execSeqSetc_keeps (n : Fin 128) (s : State) : ∃ u, execSeqSetc n s = .next u ∧ Keeps s u := by
  refine ⟨_, rfl, ?_⟩
  have h := Keeps.refl s
  with_reducible repeat' first
    | assumption | (apply Keeps.lit; assumption) | apply inDom_keeps | apply State.modThr_keeps | apply State.seqInstr_keeps | intro _ | split
    | dsimp only

theorem execSeqDjnz0_keeps (n : Fin 128) (s : State) : ∃ u, execSeqDjnz0 n s = .next u ∧ Keeps s u := by
  refine ⟨_, rfl, ?_⟩
  have h := Keeps.refl s
  with_reducible repeat' first
    | assumption | (apply Keeps.lit; assumption) | apply inDom_keeps | apply State.modThr_keeps | apply State.seqInstr_keeps
    | apply State.seqJump_keeps | intro _ | split | dsimp only

theorem execSeqDjnz1_keeps (n : Fin 128) (s : State) : ∃ u, execSeqDjnz1 n s = .next u ∧ Keeps s u := by
  refine ⟨_, rfl, ?_⟩
  have h := Keeps.refl s
  with_reducible repeat' first
    | assumption | (apply Keeps.lit; assumption) | apply inDom_keeps | apply State.modThr_keeps | apply State.seqInstr_keeps
    | apply State.seqJump_keeps | intro _ | split | dsimp only

theorem execSeqJmp_keeps (n : Fin 128) (s : State) : ∃ u, execSeqJmp n s = .next u ∧ Keeps s u := by
  refine ⟨_, rfl, ?_⟩
  have h := Keeps.refl s
  with_reducible repeat' first
    | assumption | apply inDom_keeps | apply State.seqInstr_keeps | apply State.seqJump_keeps | intro _ | split | dsimp only

theorem execSeqCall_keeps (n : Fin 128) (s : State) : ∃ u, execSeqCall n s = .next u ∧ Keeps s u := by
  refine ⟨_, rfl, ?_⟩
  have h := Keeps.refl s
  with_reducible repeat' first
    | assumption | (apply Keeps.lit; assumption) | apply inDom_keeps | apply State.modThr_keeps | apply State.setThrPc_keeps
    | apply State.progFault_keeps | apply State.seqInstr_keeps | intro _ | split | dsimp only

theorem execSeqRet_keeps (n : Fin 128) (s : State) : ∃ u, execSeqRet n s = .next u ∧ Keeps s u := by
  refine ⟨_, rfl, ?_⟩
  have h := Keeps.refl s
  with_reducible repeat' first
    | assumption | (apply Keeps.lit; assumption) | apply inDom_keeps | apply State.modThr_keeps | apply State.setThrPc_keeps
    | apply State.progFault_keeps | apply State.seqInstr_keeps | intro _ | split | dsimp only

theorem execSeqSke_keeps (n : Fin 128) (s : State) : ∃ u, execSeqSke n s = .next u ∧ Keeps s u := by
  refine ⟨_, rfl, ?_⟩
  have h := Keeps.refl s
  with_reducible repeat' first
    | assumption | apply inDom_keeps | apply State.setThrPc_keeps | apply State.seqScrub_keeps | apply State.progFault_keeps
    | apply State.seqInstr_keeps | intro _ | split | dsimp only

theorem execSeqSetp_keeps (n : Fin 128) (s : State) : ∃ u, execSeqSetp n s = .next u ∧ Keeps s u := by
  refine ⟨_, rfl, ?_⟩
  have h := Keeps.refl s
  with_reducible repeat' first
    | assumption | apply inDom_keeps | apply State.setParam_keeps | apply State.seqInstr_keeps | intro _ | split | dsimp only

theorem execSeqStatus_keeps (n : Fin 128) (s : State) : ∃ u, execSeqStatus n s = .next u ∧ Keeps s u := by
  refine ⟨_, rfl, ?_⟩
  have h := Keeps.refl s
  with_reducible repeat' first
    | assumption | apply inDom_keeps | apply State.threadStatus_keeps | apply State.seqInstr_keeps | intro _ | split | dsimp only

theorem execSeqSett_keeps (n : Fin 128) (s : State) : ∃ u, execSeqSett n s = .next u ∧ Keeps s u := by
  refine ⟨_, rfl, ?_⟩
  have h := Keeps.refl s
  with_reducible repeat' first
    | assumption | (apply Keeps.lit; assumption) | apply inDom_keeps | apply State.modThr_keeps | apply State.seqInstr_keeps | intro _ | split
    | dsimp only

theorem execSeqPhase_keeps (n : Fin 128) (s : State) : ∃ u, execSeqPhase n s = .next u ∧ Keeps s u := by
  refine ⟨_, rfl, ?_⟩
  have h := Keeps.refl s
  with_reducible repeat' first
    | assumption | (apply Keeps.lit; assumption) | apply State.setFld_keeps | apply inDom_keeps | apply State.modThr_keeps
    | apply State.seqInstr_keeps | intro _ | split | dsimp only

theorem execSeqUndefined_keeps (n : Fin 128) (s : State) : ∃ u, execSeqUndefined n s = .next u ∧ Keeps s u := by
  refine ⟨_, rfl, ?_⟩
  have h := Keeps.refl s
  with_reducible repeat' (first | assumption | apply inDom_keeps | apply State.progFault_keeps | intro _ | split | dsimp only)

theorem State.seqRun_keeps {s0 s : State} (hs : Keeps s0 s) (n : Nat) (e : Option Bool) : Keeps s0 (State.seqRun s n e) := by
  unfold State.seqRun
  with_reducible repeat' first
    | assumption | (apply Keeps.lit; assumption) | apply State.modThr_keeps | apply State.setThrSt_keeps | intro _ | split | dsimp only

theorem execThreadWaitEnd_keeps (n : Fin 128) (s : State) : ∃ u, execThreadWaitEnd n s = .next u ∧ Keeps s u := by
  refine ⟨_, rfl, ?_⟩
  have h := Keeps.refl s
  with_reducible repeat' first
    | assumption | (apply Keeps.lit; assumption) | apply inDom_keeps | apply State.setThr_keeps | apply State.seqRun_keeps | intro _ | split
    | dsimp only

theorem State.seqRampStep_keeps {s0 s : State} (hs : Keeps s0 s) (n : Nat) : Keeps s0 (State.seqRampStep s n) := by
  unfold State.seqRampStep
  with_reducible repeat' first
    | assumption | (apply Keeps.lit; assumption) | apply State.setThr_keeps | apply State.applyOutput_keeps | intro _ | split | dsimp only

theorem State.takeOcfg_keeps {s0 s : State} (hs : Keeps s0 s) (n v : Nat) : Keeps s0 (s.takeOcfg n v) :=
  Keeps.lit (State.setReg_keeps hs _ _)

theorem State.frameOut_keeps {s0 s : State} (hs : Keeps s0 s) (g : Nat) (n : Nat) : Keeps s0 (State.frameOut s g n) := by
  unfold State.frameOut
  with_reducible repeat' first
    | assumption | (apply Keeps.lit; assumption) | apply State.setFld_keeps | apply State.when_keeps | apply State.setThr_keeps
    | apply State.modThr_keeps | apply State.hscPeriod_keeps | apply State.luxStart_keeps | apply State.seqRampStep_keeps
    | apply State.takeOcfg_keeps | intro _ | split | dsimp only

theorem execFrameBoundary_keeps (g : Fin 16) (s : State) : ∃ u, execFrameBoundary g s = .next u ∧ Keeps s u := by
  refine ⟨_, rfl, ?_⟩
  have h := Keeps.refl s
  with_reducible repeat' first
    | assumption | apply State.setFld_keeps | apply State.each_keeps | apply inDom_keeps | apply State.frameOut_keeps | intro _ | split | dsimp only

theorem execPwmPeriodStart_keeps (o : Fin 128) (s : State) : ∃ u, execPwmPeriodStart o s = .next u ∧ Keeps s u := by
  refine ⟨_, rfl, ?_⟩
  have h := Keeps.refl s
  with_reducible repeat' first
    | assumption | apply State.when_keeps | apply inDom_keeps | apply State.meanEnd_keeps | apply State.hscPeriod_keeps | apply State.motPeriod_keeps
    | apply State.vlvPeriod_keeps | intro _ | split | dsimp only

theorem State.provStart_keeps {s0 s : State} (hs : Keeps s0 s) (d : Desc) : Keeps s0 (State.provStart s d) := by
  unfold State.provStart
  with_reducible repeat' first
    | assumption | apply State.traceB_keeps | apply State.finish_keeps | apply State.setDesc_keeps | apply State.hscPrepare_keeps
    | apply State.motPrepare_keeps | apply State.vlvPrepare_keeps | apply State.luxPrepare_keeps | intro _ | split | dsimp only

theorem State.seqContinue_keeps {s0 s : State} (hs : Keeps s0 s) (n : Nat) : Keeps s0 (State.seqContinue s n) := by
  unfold State.seqContinue
  with_reducible repeat' (first | assumption | apply State.setThrSt_keeps | apply State.seqRun_keeps | intro _ | split | dsimp only)

theorem State.seqResume_keeps {s0 s : State} (hs : Keeps s0 s) (g : Nat) : Keeps s0 (State.seqResume s g) := by
  unfold State.seqResume
  with_reducible repeat' first
    | assumption | apply State.setFld_keeps | apply State.each_keeps | apply State.modFlt_keeps | apply State.refreshFlt_keeps
    | apply State.setDescs_keeps | apply State.provStart_keeps | apply State.seqContinue_keeps | intro _ | split | dsimp only

theorem State.ioGate_keeps {s0 s : State} (hs : Keeps s0 s) (c : CoreId) (a : Nat) (f : State → State) (hf : ∀ (a0 : State), Keeps s0 a0 → Keeps s0
    (f a0)) : Keeps s0 (State.ioGate s c a f) := by
  unfold State.ioGate
  with_reducible repeat' (first | assumption | apply State.ioFlag_keeps | apply hf | intro _ | split | dsimp only)

theorem execSeqResume_keeps (c : CoreId) (g : Fin 16) (s : State) : ∃ u, execSeqResume c g s = .next u ∧ Keeps s u := by
  refine ⟨_, rfl, ?_⟩
  have h := Keeps.refl s
  with_reducible repeat' (first | assumption | apply State.seqResume_keeps | apply State.ioGate_keeps | intro _ | split | dsimp only)

theorem State.madrUp_keeps {s0 s : State} (hs : Keeps s0 s) : Keeps s0 (State.madrUp s) := by
  unfold State.madrUp
  with_reducible repeat' (first | assumption | apply State.setFld_keeps | intro _ | split | dsimp only)

theorem State.mdataStore_keeps {s0 s : State} (hs : Keeps s0 s) (v : Word) : Keeps s0 (State.mdataStore s v) := by
  unfold State.mdataStore
  with_reducible repeat' first
    | assumption | apply State.raise_keeps | apply State.raiseIf_keeps | apply State.wr_keeps | apply State.madrUp_keeps | intro _ | split
    | dsimp only

theorem State.mdataLoad_keeps {s0 s : State} (hs : Keeps s0 s) : Keeps s0 (State.mdataLoad s) := by
  unfold State.mdataLoad
  with_reducible repeat' first
    | assumption | apply State.setReg_keeps | apply State.raiseIf_keeps | apply State.seqScrub_keeps | apply State.madrUp_keeps | intro _ | split
    | dsimp only

theorem execSeqMdataWrite_keeps (c : CoreId) (v : Word) (s : State) : ∃ u, execSeqMdataWrite c v s = .next u ∧ Keeps s u := by
  refine ⟨_, rfl, ?_⟩
  have h := Keeps.refl s
  with_reducible repeat' (first | assumption | apply State.ioGate_keeps | apply State.mdataStore_keeps | intro _ | split | dsimp only)

theorem execSeqMdataRead_keeps (c : CoreId) (s : State) : ∃ u, execSeqMdataRead c s = .next u ∧ Keeps s u := by
  refine ⟨_, rfl, ?_⟩
  have h := Keeps.refl s
  with_reducible repeat' (first | assumption | apply State.ioGate_keeps | apply State.mdataLoad_keeps | intro _ | split | dsimp only)

theorem State.modZone_keeps {s0 s : State} (hs : Keeps s0 s) (f : ZoneT → ZoneT) : Keeps s0 (State.modZone s f) := by
  unfold State.modZone
  with_reducible repeat' (first | assumption | (apply Keeps.lit; assumption) | intro _ | split | dsimp only)

theorem State.setZt_keeps {s0 s : State} (hs : Keeps s0 s) (v : Nat) : Keeps s0 (State.setZt s v) := by
  unfold State.setZt
  with_reducible repeat' (first | assumption | (apply Keeps.lit; assumption) | intro _ | split | dsimp only)

theorem execZtSample_keeps (t : BitVec 64) (s : State) : ∃ u, execZtSample t s = .next u ∧ Keeps s u := by
  refine ⟨_, rfl, ?_⟩
  have h := Keeps.refl s
  with_reducible repeat' first
    | assumption | apply State.setReg_keeps | apply State.setFld_keeps | apply State.raise_keeps | apply State.count_keeps | apply State.when_keeps
    | apply State.drew_keeps | apply inDom_keeps | apply State.setDescs_keeps | apply State.record_keeps | apply State.modZone_keeps
    | apply State.setZt_keeps | intro _ | split | dsimp only

theorem execZtHoldover_keeps (s : State) : ∃ u, execZtHoldover s = .next u ∧ Keeps s u := by
  refine ⟨_, rfl, ?_⟩
  have h := Keeps.refl s
  with_reducible repeat' first
    | assumption | apply State.setFld_keeps | apply State.raise_keeps | apply State.when_keeps | apply inDom_keeps | apply State.record_keeps
    | apply State.modZone_keeps | intro _ | split | dsimp only

end Sys2Proof.Machine
end

