-- ==== Sys2Proof/Laws/KeepSystem.lean ====
section
/-! SUPPORT. What the cores, the memories, the power modes, the rings, the registers and the clock keep: the canonical form of the register file and of the memories, and the queue. -/

set_option linter.unusedTactic false
set_option linter.unreachableTactic false
set_option linter.unusedSimpArgs false

namespace Sys2Proof.Machine

theorem State.loadNote_keeps {s0 s : State} (hs : Keeps s0 s) (c : Nat) (a : Nat) : Keeps s0 (State.loadNote s c a) := by
  unfold State.loadNote
  with_reducible repeat' (first | assumption | apply State.eccSingle_keeps | apply State.eccDouble_keeps | intro _ | split | dsimp only)

theorem State.storeTo_keeps {s0 s : State} (hs : Keeps s0 s) (c : Nat) (b : BufStore) : Keeps s0 (State.storeTo s c b) := by
  unfold State.storeTo
  with_reducible repeat' first
    | assumption | apply State.raise_keeps | apply State.wr_keeps | apply State.eccDouble_keeps | apply State.eccNote_keeps | intro _ | split
    | dsimp only

theorem State.drainOne_keeps {s0 s : State} (hs : Keeps s0 s) (c : Nat) : Keeps s0 (State.drainOne s c) := by
  unfold State.drainOne
  with_reducible repeat' (first | assumption | apply State.modCore_keeps | apply State.storeTo_keeps | intro _ | split | dsimp only)

theorem State.drainAll_keeps {s0 s : State} (hs : Keeps s0 s) (c : Nat) : Keeps s0 (State.drainAll s c) := by
  unfold State.drainAll
  with_reducible repeat' (first | assumption | apply State.each_keeps | apply State.drainOne_keeps | intro _ | split | dsimp only)

theorem State.store_keeps {s0 s : State} (hs : Keeps s0 s) (c : Nat) (a : Nat) (v : Word) : Keeps s0 (State.store s c a v) := by
  unfold State.store
  with_reducible repeat' (first | assumption | apply State.modCore_keeps | apply State.drainOne_keeps | intro _ | split | dsimp only)

theorem State.storeList_keeps {s0 s : State} (hs : Keeps s0 s) (c a : Nat) (l : List Word) : Keeps s0 (s.storeList c a l) := by
  induction l generalizing s a with
  | nil => exact hs
  | cons w l ih => exact ih (State.store_keeps hs _ _ _) _

theorem State.spill_keeps {s0 s : State} (hs : Keeps s0 s) (c : Nat) : Keeps s0 (State.spill s c) := by
  unfold State.spill
  with_reducible repeat' (first | assumption | apply State.modCore_keeps | apply State.storeList_keeps | intro _ | split | dsimp only)

theorem State.refill_keeps {s0 s : State} (hs : Keeps s0 s) (c : Nat) : Keeps s0 (State.refill s c) := by
  unfold State.refill
  with_reducible repeat' first
    | assumption | apply State.each_keeps | apply State.modCore_keeps | apply State.loadNote_keeps | intro _ | split | dsimp only

theorem State.slideIn_keeps {s0 s : State} (hs : Keeps s0 s) (c : Nat) (ret : Nat) : Keeps s0 (State.slideIn s c ret) := by
  unfold State.slideIn
  with_reducible repeat' (first | assumption | apply State.modCore_keeps | apply State.spill_keeps | intro _ | split | dsimp only)

theorem State.doubleFault_keeps {s0 s : State} (hs : Keeps s0 s) (c : Nat) : Keeps s0 (State.doubleFault s c) := by
  unfold State.doubleFault
  with_reducible repeat' (first | assumption | apply State.record_keeps | intro _ | split | dsimp only)

theorem State.enterFlat_keeps_eq {s0 s t : State} {c r : Nat} (e : s.enterFlat c r = some t) (hs : Keeps s0 s) : Keeps s0 t := by
  revert e
  unfold State.enterFlat
  dsimp only
  split
  · intro e; exact absurd e (by simp)
  · intro e
    injection e with e
    subst e
    with_reducible repeat' (first | assumption | apply State.storeList_keeps | apply State.modCore_keeps | intro _ | split | dsimp only)

theorem State.enterSlide_keeps {s0 s : State} (hs : Keeps s0 s) (c : Nat) (ret : Nat) : Keeps s0 (State.enterSlide s c ret) := by
  unfold State.enterSlide
  with_reducible repeat' (first | assumption | apply State.modCore_keeps | apply State.slideIn_keeps | intro _ | split | dsimp only)

theorem State.flow_keeps {s0 s : State} (hs : Keeps s0 s) (c : Nat) (p : Nat) : Keeps s0 (State.flow s c p) := by
  unfold State.flow
  with_reducible repeat' (first | assumption | apply State.traceC_keeps | intro _ | split | dsimp only)

theorem State.vector_keeps {s0 s : State} (hs : Keeps s0 s) (c : Nat) (v : Nat) : Keeps s0 (State.vector s c v) := by
  unfold State.vector
  with_reducible repeat' (first | assumption | apply State.modCore_keeps | apply State.flow_keeps | intro _ | split | dsimp only)

theorem State.setTca_keeps {s0 s : State} (hs : Keeps s0 s) (c : Nat) (t : Trp) : Keeps s0 (State.setTca s c t) := by
  unfold State.setTca
  with_reducible repeat' (first | assumption | apply State.modCore_keeps | intro _ | split | dsimp only)

theorem State.trapVector_keeps {s0 s : State} (hs : Keeps s0 s) (c : Nat) (v : Nat) : Keeps s0 (State.trapVector s c v) := by
  unfold State.trapVector
  with_reducible repeat' (first | assumption | apply State.modCore_keeps | apply State.vector_keeps | intro _ | split | dsimp only)

theorem State.trapFlat_keeps {s0 s : State} (hs : Keeps s0 s) (c : Nat) (t : Trp) (ret : Nat) : Keeps s0 (State.trapFlat s c t ret) := by
  unfold State.trapFlat
  with_reducible repeat' first
    | assumption | apply State.doubleFault_keeps | (refine State.enterFlat_keeps_eq (by assumption) ?_) | apply State.setTca_keeps
    | apply State.trapVector_keeps | intro _ | split | dsimp only

theorem State.spillEntry_keeps {s0 s : State} (hs : Keeps s0 s) (c : Nat) (ret : Nat) : Keeps s0 (State.spillEntry s c ret) := by
  unfold State.spillEntry
  with_reducible repeat' (first | assumption | apply State.trapFlat_keeps | intro _ | split | dsimp only)

theorem State.trapEntry_keeps {s0 s : State} (hs : Keeps s0 s) (c : Nat) (t : Trp) (ret : Nat) (again : Nat) : Keeps s0 (State.trapEntry s c t ret
    again) := by
  unfold State.trapEntry
  with_reducible repeat' first
    | assumption | apply State.enterSlide_keeps | apply State.setTca_keeps | apply State.trapVector_keeps | apply State.trapFlat_keeps
    | apply State.spillEntry_keeps | intro _ | split | dsimp only

theorem State.landed_keeps {s0 s : State} (hs : Keeps s0 s) (c : Nat) (f : State → State) (hf : ∀ (a0 : State), Keeps s0 a0 → Keeps s0 (f a0)) :
    Keeps s0 (State.landed s c f) := by
  unfold State.landed
  with_reducible repeat' (first | assumption | apply State.modCore_keeps | apply State.trapEntry_keeps | apply hf | intro _ | split | dsimp only)

theorem State.trap_keeps {s0 s : State} (hs : Keeps s0 s) (c : Nat) (t : Trp) : Keeps s0 (State.trap s c t) := by
  unfold State.trap
  with_reducible repeat' (first | assumption | apply State.trapEntry_keeps | apply State.landed_keeps | intro _ | split | dsimp only)

theorem State.interrupt_keeps {s0 s : State} (hs : Keeps s0 s) (c : Nat) (p : Nat) : Keeps s0 (State.interrupt s c p) := by
  unfold State.interrupt
  with_reducible repeat' first
    | assumption | apply State.modCore_keeps | apply State.doubleFault_keeps | (refine State.enterFlat_keeps_eq (by assumption) ?_)
    | apply State.enterSlide_keeps | apply State.vector_keeps | apply State.spillEntry_keeps | apply State.landed_keeps | intro _ | split
    | dsimp only

theorem State.fetchNote_keeps {s0 s : State} (hs : Keeps s0 s) (c : Nat) (n : Nat) : Keeps s0 (State.fetchNote s c n) := by
  unfold State.fetchNote
  with_reducible repeat' (first | assumption | apply State.each_keeps | apply State.eccNote_keeps | intro _ | split | dsimp only)

theorem State.instr_keeps {s0 s : State} (hs : Keeps s0 s) (c : Nat) (n : Nat) (bad : List (Option Trp)) (late : List (Option Trp)) (act : State →
    State) (hact : ∀ (a0 : State), Keeps s0 a0 → Keeps s0 (act a0)) : Keeps s0 (State.instr s c n bad late act) := by
  unfold State.instr
  with_reducible repeat' first
    | assumption | apply State.loadNote_keeps | apply State.trap_keeps | apply State.fetchNote_keeps | simp only [id] | apply hact | intro _ | split
    | dsimp only

theorem State.rngForced_keeps {s0 s : State} (hs : Keeps s0 s) : Keeps s0 (State.rngForced s) := by
  unfold State.rngForced
  with_reducible repeat' first
    | assumption | apply State.when_keeps | apply State.each_keeps | apply State.txRelease_keeps | apply State.finish_keeps | simp only [id]
    | intro _ | split | dsimp only

theorem State.ssForced_keeps {s0 s : State} (hs : Keeps s0 s) : Keeps s0 (State.ssForced s) := by
  unfold State.ssForced
  with_reducible repeat' (first | assumption | apply State.drew_keeps | apply State.ssCopy_keeps | intro _ | split | dsimp only)

theorem State.memForced_keeps {s0 s : State} (hs : Keeps s0 s) (bedded : Bool) : Keeps s0 (State.memForced s bedded) := by
  unfold State.memForced
  with_reducible repeat' first
    | assumption | apply State.setFld_keeps | apply State.raise_keeps | apply State.when_keeps | apply State.each_keeps | apply State.drew_keeps
    | apply State.wr_keeps | apply State.modMem_keeps | apply State.ssShow_keeps | apply State.marchAbort_keeps | apply State.ssForced_keeps
    | intro _ | split | dsimp only

theorem State.fltForced_keeps {s0 s : State} (hs : Keeps s0 s) : Keeps s0 (State.fltForced s) := by
  unfold State.fltForced
  with_reducible repeat' first
    | assumption | apply State.setFld_keeps | apply State.modFlt_keeps | apply State.imgDrop_keeps | intro _ | split | dsimp only

theorem State.forceAll_keeps {s0 s : State} (hs : Keeps s0 s) (bedded : Bool) : Keeps s0 (State.forceAll s bedded) := by
  unfold State.forceAll
  with_reducible repeat' first
    | assumption | apply State.setFld_keeps | apply State.when_keeps | apply State.each_keeps | apply State.finishAll_keeps
    | apply State.brYield_keeps | apply State.accForced_keeps | apply State.hscForced_keeps | apply State.motForced_keeps
    | apply State.vlvForced_keeps | apply State.luxForced_keeps | apply State.netForced_keeps | apply State.zswForced_keeps
    | apply State.ethForced_keeps | apply State.inpForced_keeps | apply State.thmForced_keeps | apply State.rngForced_keeps
    | apply State.memForced_keeps | apply State.fltForced_keeps | intro _ | split | dsimp only

theorem State.coreOp_keeps {s0 s : State} (hs : Keeps s0 s) (c : CoreId) (n : Nat) (bad : List (Option Trp)) (f : Core → Core) : Keeps s0
    (State.coreOp s c n bad f) := by
  unfold State.coreOp
  with_reducible repeat' (first | assumption | apply State.modCore_keeps | apply State.instr_keeps | intro _ | split | dsimp only)

theorem State.aluOp_keeps {s0 s : State} (hs : Keeps s0 s) (c : CoreId) (n : Nat) (rd : Nat) (r : Core → Res) : Keeps s0 (State.aluOp s c n rd r)
    := by
  unfold State.aluOp
  with_reducible repeat' (first | assumption | apply State.coreOp_keeps | intro _ | split | dsimp only)

theorem State.flagOp_keeps {s0 s : State} (hs : Keeps s0 s) (c : CoreId) (n : Nat) (r : Core → Res) : Keeps s0 (State.flagOp s c n r) := by
  unfold State.flagOp
  with_reducible repeat' (first | assumption | apply State.coreOp_keeps | intro _ | split | dsimp only)

theorem State.movOp_keeps {s0 s : State} (hs : Keeps s0 s) (c : CoreId) (n : Nat) (rd : Nat) (v : Core → Word) : Keeps s0 (State.movOp s c n rd v)
    := by
  unfold State.movOp
  with_reducible repeat' (first | assumption | apply State.coreOp_keeps | intro _ | split | dsimp only)

theorem execNop_keeps (c : CoreId) (s : State) : ∃ u, execNop c s = .next u ∧ Keeps s u := by
  refine ⟨_, rfl, ?_⟩
  have h := Keeps.refl s
  with_reducible repeat' (first | assumption | apply State.coreOp_keeps | simp only [id] | intro _ | split | dsimp only)

theorem execAdd_keeps (c : CoreId) (rd : Fin 32) (rs : Fin 32) (s : State) : ∃ u, execAdd c rd rs s = .next u ∧ Keeps s u := by
  refine ⟨_, rfl, ?_⟩
  have h := Keeps.refl s
  with_reducible repeat' (first | assumption | apply State.aluOp_keeps | intro _ | split | dsimp only)

theorem execAdc_keeps (c : CoreId) (rd : Fin 32) (rs : Fin 32) (s : State) : ∃ u, execAdc c rd rs s = .next u ∧ Keeps s u := by
  refine ⟨_, rfl, ?_⟩
  have h := Keeps.refl s
  with_reducible repeat' (first | assumption | apply State.aluOp_keeps | intro _ | split | dsimp only)

theorem execSub_keeps (c : CoreId) (rd : Fin 32) (rs : Fin 32) (s : State) : ∃ u, execSub c rd rs s = .next u ∧ Keeps s u := by
  refine ⟨_, rfl, ?_⟩
  have h := Keeps.refl s
  with_reducible repeat' (first | assumption | apply State.aluOp_keeps | intro _ | split | dsimp only)

theorem execSbc_keeps (c : CoreId) (rd : Fin 32) (rs : Fin 32) (s : State) : ∃ u, execSbc c rd rs s = .next u ∧ Keeps s u := by
  refine ⟨_, rfl, ?_⟩
  have h := Keeps.refl s
  with_reducible repeat' (first | assumption | apply State.aluOp_keeps | intro _ | split | dsimp only)

theorem execAnd_keeps (c : CoreId) (rd : Fin 32) (rs : Fin 32) (s : State) : ∃ u, execAnd c rd rs s = .next u ∧ Keeps s u := by
  refine ⟨_, rfl, ?_⟩
  have h := Keeps.refl s
  with_reducible repeat' (first | assumption | apply State.aluOp_keeps | intro _ | split | dsimp only)

theorem execOr_keeps (c : CoreId) (rd : Fin 32) (rs : Fin 32) (s : State) : ∃ u, execOr c rd rs s = .next u ∧ Keeps s u := by
  refine ⟨_, rfl, ?_⟩
  have h := Keeps.refl s
  with_reducible repeat' (first | assumption | apply State.aluOp_keeps | intro _ | split | dsimp only)

theorem execXor_keeps (c : CoreId) (rd : Fin 32) (rs : Fin 32) (s : State) : ∃ u, execXor c rd rs s = .next u ∧ Keeps s u := by
  refine ⟨_, rfl, ?_⟩
  have h := Keeps.refl s
  with_reducible repeat' (first | assumption | apply State.aluOp_keeps | intro _ | split | dsimp only)

theorem execAndn_keeps (c : CoreId) (rd : Fin 32) (rs : Fin 32) (s : State) : ∃ u, execAndn c rd rs s = .next u ∧ Keeps s u := by
  refine ⟨_, rfl, ?_⟩
  have h := Keeps.refl s
  with_reducible repeat' (first | assumption | apply State.aluOp_keeps | intro _ | split | dsimp only)

theorem execMov_keeps (c : CoreId) (rd : Fin 32) (rs : Fin 32) (s : State) : ∃ u, execMov c rd rs s = .next u ∧ Keeps s u := by
  refine ⟨_, rfl, ?_⟩
  have h := Keeps.refl s
  with_reducible repeat' (first | assumption | apply State.movOp_keeps | intro _ | split | dsimp only)

theorem execNeg_keeps (c : CoreId) (rd : Fin 32) (rs : Fin 32) (s : State) : ∃ u, execNeg c rd rs s = .next u ∧ Keeps s u := by
  refine ⟨_, rfl, ?_⟩
  have h := Keeps.refl s
  with_reducible repeat' (first | assumption | apply State.aluOp_keeps | intro _ | split | dsimp only)

theorem execNegs_keeps (c : CoreId) (rd : Fin 32) (rs : Fin 32) (s : State) : ∃ u, execNegs c rd rs s = .next u ∧ Keeps s u := by
  refine ⟨_, rfl, ?_⟩
  have h := Keeps.refl s
  with_reducible repeat' (first | assumption | apply State.aluOp_keeps | intro _ | split | dsimp only)

theorem execNot_keeps (c : CoreId) (rd : Fin 32) (rs : Fin 32) (s : State) : ∃ u, execNot c rd rs s = .next u ∧ Keeps s u := by
  refine ⟨_, rfl, ?_⟩
  have h := Keeps.refl s
  with_reducible repeat' (first | assumption | apply State.aluOp_keeps | intro _ | split | dsimp only)

theorem execCmp_keeps (c : CoreId) (rd : Fin 32) (rs : Fin 32) (s : State) : ∃ u, execCmp c rd rs s = .next u ∧ Keeps s u := by
  refine ⟨_, rfl, ?_⟩
  have h := Keeps.refl s
  with_reducible repeat' (first | assumption | apply State.flagOp_keeps | intro _ | split | dsimp only)

theorem execTst_keeps (c : CoreId) (rd : Fin 32) (rs : Fin 32) (s : State) : ∃ u, execTst c rd rs s = .next u ∧ Keeps s u := by
  refine ⟨_, rfl, ?_⟩
  have h := Keeps.refl s
  with_reducible repeat' (first | assumption | apply State.flagOp_keeps | intro _ | split | dsimp only)

theorem execAdds_keeps (c : CoreId) (rd : Fin 32) (rs : Fin 32) (s : State) : ∃ u, execAdds c rd rs s = .next u ∧ Keeps s u := by
  refine ⟨_, rfl, ?_⟩
  have h := Keeps.refl s
  with_reducible repeat' (first | assumption | apply State.aluOp_keeps | intro _ | split | dsimp only)

theorem execSubs_keeps (c : CoreId) (rd : Fin 32) (rs : Fin 32) (s : State) : ∃ u, execSubs c rd rs s = .next u ∧ Keeps s u := by
  refine ⟨_, rfl, ?_⟩
  have h := Keeps.refl s
  with_reducible repeat' (first | assumption | apply State.aluOp_keeps | intro _ | split | dsimp only)

theorem execSxb_keeps (c : CoreId) (rd : Fin 32) (rs : Fin 32) (s : State) : ∃ u, execSxb c rd rs s = .next u ∧ Keeps s u := by
  refine ⟨_, rfl, ?_⟩
  have h := Keeps.refl s
  with_reducible repeat' (first | assumption | apply State.aluOp_keeps | intro _ | split | dsimp only)

theorem execZxb_keeps (c : CoreId) (rd : Fin 32) (rs : Fin 32) (s : State) : ∃ u, execZxb c rd rs s = .next u ∧ Keeps s u := by
  refine ⟨_, rfl, ?_⟩
  have h := Keeps.refl s
  with_reducible repeat' (first | assumption | apply State.aluOp_keeps | intro _ | split | dsimp only)

theorem execSwb_keeps (c : CoreId) (rd : Fin 32) (rs : Fin 32) (s : State) : ∃ u, execSwb c rd rs s = .next u ∧ Keeps s u := by
  refine ⟨_, rfl, ?_⟩
  have h := Keeps.refl s
  with_reducible repeat' (first | assumption | apply State.aluOp_keeps | intro _ | split | dsimp only)

theorem execClz_keeps (c : CoreId) (rd : Fin 32) (rs : Fin 32) (s : State) : ∃ u, execClz c rd rs s = .next u ∧ Keeps s u := by
  refine ⟨_, rfl, ?_⟩
  have h := Keeps.refl s
  with_reducible repeat' (first | assumption | apply State.aluOp_keeps | intro _ | split | dsimp only)

theorem execAddi_keeps (c : CoreId) (rd : Fin 32) (i : BitVec 7) (s : State) : ∃ u, execAddi c rd i s = .next u ∧ Keeps s u := by
  refine ⟨_, rfl, ?_⟩
  have h := Keeps.refl s
  with_reducible repeat' (first | assumption | apply State.aluOp_keeps | intro _ | split | dsimp only)

theorem execMovi_keeps (c : CoreId) (rd : Fin 32) (i : BitVec 7) (s : State) : ∃ u, execMovi c rd i s = .next u ∧ Keeps s u := by
  refine ⟨_, rfl, ?_⟩
  have h := Keeps.refl s
  with_reducible repeat' (first | assumption | apply State.movOp_keeps | intro _ | split | dsimp only)

theorem execCmpi_keeps (c : CoreId) (rd : Fin 32) (i : BitVec 7) (s : State) : ∃ u, execCmpi c rd i s = .next u ∧ Keeps s u := by
  refine ⟨_, rfl, ?_⟩
  have h := Keeps.refl s
  with_reducible repeat' (first | assumption | apply State.flagOp_keeps | intro _ | split | dsimp only)

theorem execMovl_keeps (c : CoreId) (rd : Fin 32) (i : Word) (s : State) : ∃ u, execMovl c rd i s = .next u ∧ Keeps s u := by
  refine ⟨_, rfl, ?_⟩
  have h := Keeps.refl s
  with_reducible repeat' (first | assumption | apply State.movOp_keeps | intro _ | split | dsimp only)

theorem execAddl_keeps (c : CoreId) (rd : Fin 32) (rs : Fin 32) (i : Word) (s : State) : ∃ u, execAddl c rd rs i s = .next u ∧ Keeps s u := by
  refine ⟨_, rfl, ?_⟩
  have h := Keeps.refl s
  with_reducible repeat' (first | assumption | apply State.aluOp_keeps | intro _ | split | dsimp only)

theorem execAndl_keeps (c : CoreId) (rd : Fin 32) (rs : Fin 32) (i : Word) (s : State) : ∃ u, execAndl c rd rs i s = .next u ∧ Keeps s u := by
  refine ⟨_, rfl, ?_⟩
  have h := Keeps.refl s
  with_reducible repeat' (first | assumption | apply State.aluOp_keeps | intro _ | split | dsimp only)

theorem execOrl_keeps (c : CoreId) (rd : Fin 32) (rs : Fin 32) (i : Word) (s : State) : ∃ u, execOrl c rd rs i s = .next u ∧ Keeps s u := by
  refine ⟨_, rfl, ?_⟩
  have h := Keeps.refl s
  with_reducible repeat' (first | assumption | apply State.aluOp_keeps | intro _ | split | dsimp only)

theorem execXorl_keeps (c : CoreId) (rd : Fin 32) (rs : Fin 32) (i : Word) (s : State) : ∃ u, execXorl c rd rs i s = .next u ∧ Keeps s u := by
  refine ⟨_, rfl, ?_⟩
  have h := Keeps.refl s
  with_reducible repeat' (first | assumption | apply State.aluOp_keeps | intro _ | split | dsimp only)

theorem execSubl_keeps (c : CoreId) (rd : Fin 32) (rs : Fin 32) (i : Word) (s : State) : ∃ u, execSubl c rd rs i s = .next u ∧ Keeps s u := by
  refine ⟨_, rfl, ?_⟩
  have h := Keeps.refl s
  with_reducible repeat' (first | assumption | apply State.aluOp_keeps | intro _ | split | dsimp only)

theorem execCmpl_keeps (c : CoreId) (rs : Fin 32) (i : Word) (s : State) : ∃ u, execCmpl c rs i s = .next u ∧ Keeps s u := by
  refine ⟨_, rfl, ?_⟩
  have h := Keeps.refl s
  with_reducible repeat' (first | assumption | apply State.flagOp_keeps | intro _ | split | dsimp only)

theorem execTstl_keeps (c : CoreId) (rs : Fin 32) (i : Word) (s : State) : ∃ u, execTstl c rs i s = .next u ∧ Keeps s u := by
  refine ⟨_, rfl, ?_⟩
  have h := Keeps.refl s
  with_reducible repeat' (first | assumption | apply State.flagOp_keeps | intro _ | split | dsimp only)

theorem execLea_keeps (c : CoreId) (rd : Fin 32) (rs : Fin 32) (i : Word) (s : State) : ∃ u, execLea c rd rs i s = .next u ∧ Keeps s u := by
  refine ⟨_, rfl, ?_⟩
  have h := Keeps.refl s
  with_reducible repeat' (first | assumption | apply State.movOp_keeps | intro _ | split | dsimp only)

theorem execShl_keeps (c : CoreId) (rd : Fin 32) (rs : Fin 32) (s : State) : ∃ u, execShl c rd rs s = .next u ∧ Keeps s u := by
  refine ⟨_, rfl, ?_⟩
  have h := Keeps.refl s
  with_reducible repeat' (first | assumption | apply State.aluOp_keeps | intro _ | split | dsimp only)

theorem execShr_keeps (c : CoreId) (rd : Fin 32) (rs : Fin 32) (s : State) : ∃ u, execShr c rd rs s = .next u ∧ Keeps s u := by
  refine ⟨_, rfl, ?_⟩
  have h := Keeps.refl s
  with_reducible repeat' (first | assumption | apply State.aluOp_keeps | intro _ | split | dsimp only)

theorem execSar_keeps (c : CoreId) (rd : Fin 32) (rs : Fin 32) (s : State) : ∃ u, execSar c rd rs s = .next u ∧ Keeps s u := by
  refine ⟨_, rfl, ?_⟩
  have h := Keeps.refl s
  with_reducible repeat' (first | assumption | apply State.aluOp_keeps | intro _ | split | dsimp only)

theorem execRor_keeps (c : CoreId) (rd : Fin 32) (rs : Fin 32) (s : State) : ∃ u, execRor c rd rs s = .next u ∧ Keeps s u := by
  refine ⟨_, rfl, ?_⟩
  have h := Keeps.refl s
  with_reducible repeat' (first | assumption | apply State.aluOp_keeps | intro _ | split | dsimp only)

theorem State.shiftOp_keeps {s0 s : State} (hs : Keeps s0 s) (c : CoreId) (rd : Nat) (n : Nat) (f : Word → Nat → Res) : Keeps s0 (State.shiftOp s c
    rd n f) := by
  unfold State.shiftOp
  with_reducible repeat' (first | assumption | apply State.coreOp_keeps | intro _ | split | dsimp only)

theorem execShli_keeps (c : CoreId) (rd : Fin 32) (n : Fin 32) (s : State) : ∃ u, execShli c rd n s = .next u ∧ Keeps s u := by
  refine ⟨_, rfl, ?_⟩
  have h := Keeps.refl s
  with_reducible repeat' (first | assumption | apply State.shiftOp_keeps | intro _ | split | dsimp only)

theorem execShri_keeps (c : CoreId) (rd : Fin 32) (n : Fin 32) (s : State) : ∃ u, execShri c rd n s = .next u ∧ Keeps s u := by
  refine ⟨_, rfl, ?_⟩
  have h := Keeps.refl s
  with_reducible repeat' (first | assumption | apply State.shiftOp_keeps | intro _ | split | dsimp only)

theorem execSari_keeps (c : CoreId) (rd : Fin 32) (n : Fin 32) (s : State) : ∃ u, execSari c rd n s = .next u ∧ Keeps s u := by
  refine ⟨_, rfl, ?_⟩
  have h := Keeps.refl s
  with_reducible repeat' (first | assumption | apply State.shiftOp_keeps | intro _ | split | dsimp only)

theorem execRori_keeps (c : CoreId) (rd : Fin 32) (n : Fin 32) (s : State) : ∃ u, execRori c rd n s = .next u ∧ Keeps s u := by
  refine ⟨_, rfl, ?_⟩
  have h := Keeps.refl s
  with_reducible repeat' (first | assumption | apply State.shiftOp_keeps | intro _ | split | dsimp only)

theorem State.bitOp_keeps {s0 s : State} (hs : Keeps s0 s) (c : CoreId) (rd : Nat) (n : Nat) (f : Word → Word → Word) : Keeps s0 (State.bitOp s c
    rd n f) := by
  unfold State.bitOp
  with_reducible repeat' (first | assumption | apply State.coreOp_keeps | intro _ | split | dsimp only)

theorem execBset_keeps (c : CoreId) (rd : Fin 32) (n : Fin 32) (s : State) : ∃ u, execBset c rd n s = .next u ∧ Keeps s u := by
  refine ⟨_, rfl, ?_⟩
  have h := Keeps.refl s
  with_reducible repeat' (first | assumption | apply State.bitOp_keeps | intro _ | split | dsimp only)

theorem execBclr_keeps (c : CoreId) (rd : Fin 32) (n : Fin 32) (s : State) : ∃ u, execBclr c rd n s = .next u ∧ Keeps s u := by
  refine ⟨_, rfl, ?_⟩
  have h := Keeps.refl s
  with_reducible repeat' (first | assumption | apply State.bitOp_keeps | intro _ | split | dsimp only)

theorem execBtgl_keeps (c : CoreId) (rd : Fin 32) (n : Fin 32) (s : State) : ∃ u, execBtgl c rd n s = .next u ∧ Keeps s u := by
  refine ⟨_, rfl, ?_⟩
  have h := Keeps.refl s
  with_reducible repeat' (first | assumption | apply State.bitOp_keeps | intro _ | split | dsimp only)

theorem execBtst_keeps (c : CoreId) (rd : Fin 32) (n : Fin 32) (s : State) : ∃ u, execBtst c rd n s = .next u ∧ Keeps s u := by
  refine ⟨_, rfl, ?_⟩
  have h := Keeps.refl s
  with_reducible repeat' (first | assumption | apply State.bitOp_keeps | intro _ | split | dsimp only)

theorem State.mulOp_keeps {s0 s : State} (hs : Keeps s0 s) (c : CoreId) (rd : Nat) (rs : Nat) (mac : Bool) (p : Word → Word → Int) : Keeps s0
    (State.mulOp s c rd rs mac p) := by
  unfold State.mulOp
  with_reducible repeat' (first | assumption | apply State.coreOp_keeps | intro _ | split | dsimp only)

theorem execMuls_keeps (c : CoreId) (rd : Fin 32) (rs : Fin 32) (s : State) : ∃ u, execMuls c rd rs s = .next u ∧ Keeps s u := by
  refine ⟨_, rfl, ?_⟩
  have h := Keeps.refl s
  with_reducible repeat' (first | assumption | apply State.mulOp_keeps | intro _ | split | dsimp only)

theorem execMulu_keeps (c : CoreId) (rd : Fin 32) (rs : Fin 32) (s : State) : ∃ u, execMulu c rd rs s = .next u ∧ Keeps s u := by
  refine ⟨_, rfl, ?_⟩
  have h := Keeps.refl s
  with_reducible repeat' (first | assumption | apply State.mulOp_keeps | intro _ | split | dsimp only)

theorem execMacs_keeps (c : CoreId) (rd : Fin 32) (rs : Fin 32) (s : State) : ∃ u, execMacs c rd rs s = .next u ∧ Keeps s u := by
  refine ⟨_, rfl, ?_⟩
  have h := Keeps.refl s
  with_reducible repeat' (first | assumption | apply State.mulOp_keeps | intro _ | split | dsimp only)

theorem execMacu_keeps (c : CoreId) (rd : Fin 32) (rs : Fin 32) (s : State) : ∃ u, execMacu c rd rs s = .next u ∧ Keeps s u := by
  refine ⟨_, rfl, ?_⟩
  have h := Keeps.refl s
  with_reducible repeat' (first | assumption | apply State.mulOp_keeps | intro _ | split | dsimp only)

theorem execProductLanding_keeps (c : CoreId) (s : State) : ∃ u, execProductLanding c s = .next u ∧ Keeps s u := by
  refine ⟨_, rfl, ?_⟩
  have h := Keeps.refl s
  with_reducible repeat' (first | assumption | apply State.modCore_keeps | intro _ | split | dsimp only)

theorem State.landDivision_keeps {s0 s : State} (hs : Keeps s0 s) (c : Nat) : Keeps s0 (State.landDivision s c) := by
  unfold State.landDivision
  with_reducible repeat' (first | assumption | apply State.modCore_keeps | apply State.landed_keeps | simp only [id] | intro _ | split | dsimp only)

theorem State.divOp_keeps {s0 s : State} (hs : Keeps s0 s) (c : CoreId) (rd : Nat) (rs : Nat) (f : Word → Word → Word × Word × Bool × Bool) : Keeps
    s0 (State.divOp s c rd rs f) := by
  unfold State.divOp
  with_reducible repeat' first
    | assumption | apply State.modCore_keeps | apply State.landed_keeps | apply State.instr_keeps | simp only [id] | intro _ | split | dsimp only

theorem execDivs_keeps (c : CoreId) (rd : Fin 32) (rs : Fin 32) (s : State) : ∃ u, execDivs c rd rs s = .next u ∧ Keeps s u := by
  refine ⟨_, rfl, ?_⟩
  have h := Keeps.refl s
  with_reducible repeat' (first | assumption | apply State.divOp_keeps | intro _ | split | dsimp only)

theorem execDivu_keeps (c : CoreId) (rd : Fin 32) (rs : Fin 32) (s : State) : ∃ u, execDivu c rd rs s = .next u ∧ Keeps s u := by
  refine ⟨_, rfl, ?_⟩
  have h := Keeps.refl s
  with_reducible repeat' (first | assumption | apply State.divOp_keeps | intro _ | split | dsimp only)

theorem execDivisionLanding_keeps (c : CoreId) (s : State) : ∃ u, execDivisionLanding c s = .next u ∧ Keeps s u := by
  refine ⟨_, rfl, ?_⟩
  have h := Keeps.refl s
  with_reducible repeat' (first | assumption | apply State.landDivision_keeps | intro _ | split | dsimp only)

theorem execMts_keeps (c : CoreId) (sn : Fin 64) (r : Fin 32) (s : State) : ∃ u, execMts c sn r s = .next u ∧ Keeps s u := by
  refine ⟨_, rfl, ?_⟩
  have h := Keeps.refl s
  with_reducible repeat' (first | assumption | apply State.modCore_keeps | apply State.instr_keeps | intro _ | split | dsimp only)

theorem State.bootProg_keeps {s0 s : State} (hs : Keeps s0 s) (b : Nat) (r : Nat) : Keeps s0 (State.bootProg s b r) := by
  unfold State.bootProg
  with_reducible repeat' (first | assumption | apply State.progRow_keeps | intro _ | split | dsimp only)

theorem execEccWriteback_keeps (unit : Fin 14) (a : BitVec 21) (s : State) : ∃ u, execEccWriteback unit a s = .next u ∧ Keeps s u := by
  refine ⟨_, rfl, ?_⟩
  have h := Keeps.refl s
  with_reducible repeat' (first | assumption | apply State.wr_keeps | intro _ | split | dsimp only)

theorem marchStart_keeps {s0 s : State} (hs : Keeps s0 s) (bank : Nat) (preserve : Bool) : Keeps s0 (marchStart bank preserve s) := by
  unfold marchStart
  with_reducible repeat' (first | assumption | apply State.setFld_keeps | apply State.modMem_keeps | intro _ | split | dsimp only)

theorem execMarchStart_keeps (_c : CoreId) (bank : Fin 8) (preserve : Bool) (s : State) : ∃ u, execMarchStart _c bank preserve s = .next u ∧ Keeps
    s u := by
  refine ⟨_, rfl, ?_⟩
  have h := Keeps.refl s
  with_reducible repeat' (first | assumption | apply inDom_keeps | apply marchStart_keeps | intro _ | split | dsimp only)

theorem marchDone_keeps {s0 s : State} (hs : Keeps s0 s) (fails : Nat) (ofs : Nat) (chk : Bool) : Keeps s0 (marchDone fails ofs chk s) := by
  unfold marchDone
  with_reducible repeat' first
    | assumption | apply State.setReg_keeps | apply State.setFld_keeps | apply State.raise_keeps | apply State.when_keeps
    | apply State.clearBank_keeps | apply State.record_keeps | intro _ | split | dsimp only

theorem execMarchDone_keeps (fails : BitVec 14) (ofs : BitVec 13) (chk : Bool) (s : State) : ∃ u, execMarchDone fails ofs chk s = .next u ∧ Keeps s
    u := by
  refine ⟨_, rfl, ?_⟩
  have h := Keeps.refl s
  with_reducible repeat' (first | assumption | apply inDom_keeps | apply marchDone_keeps | intro _ | split | dsimp only)

theorem State.sweepStart_keeps {s0 s : State} (hs : Keeps s0 s) : Keeps s0 (State.sweepStart s) := by
  unfold State.sweepStart
  with_reducible repeat' (first | assumption | apply State.setFld_keeps | intro _ | split | dsimp only)

theorem sweepRegion_keeps {s0 s : State} (hs : Keeps s0 s) (fail : Bool) : Keeps s0 (sweepRegion fail s) := by
  unfold sweepRegion
  with_reducible repeat' first
    | assumption | apply State.setReg_keeps | apply State.setFld_keeps | apply State.raise_keeps | apply State.count_keeps | apply State.when_keeps
    | apply State.modMem_keeps | apply State.record_keeps | intro _ | split | dsimp only

theorem execTsweepRegion_keeps (fail : Bool) (s : State) : ∃ u, execTsweepRegion fail s = .next u ∧ Keeps s u := by
  refine ⟨_, rfl, ?_⟩
  have h := Keeps.refl s
  with_reducible repeat' (first | assumption | apply inDom_keeps | apply sweepRegion_keeps | intro _ | split | dsimp only)

theorem execPermitExpiry_keeps (s : State) : ∃ u, execPermitExpiry s = .next u ∧ Keeps s u := by
  refine ⟨_, rfl, ?_⟩
  have h := Keeps.refl s
  with_reducible repeat' (first | assumption | apply State.modMem_keeps | intro _ | split | dsimp only)

theorem State.nvmEnd_keeps {s0 s : State} (hs : Keeps s0 s) (r : Nat) : Keeps s0 (State.nvmEnd s r) := by
  unfold State.nvmEnd
  with_reducible repeat' (first | assumption | apply State.setFld_keeps | apply State.raise_keeps | intro _ | split | dsimp only)

theorem State.nvmRun_keeps {s0 s : State} (hs : Keeps s0 s) (r : Nat) : Keeps s0 (State.nvmRun s r) := by
  unfold State.nvmRun
  with_reducible repeat' (first | assumption | apply State.setFld_keeps | apply State.modMem_keeps | intro _ | split | dsimp only)

theorem State.nvmCommand_keeps {s0 s : State} (hs : Keeps s0 s) (writes : Bool) (f : State → State) (hf : ∀ (a0 : State), Keeps s0 a0 → Keeps s0 (f
    a0)) : Keeps s0 (State.nvmCommand s writes f) := by
  unfold State.nvmCommand
  with_reducible repeat' (first | assumption | apply State.setFld_keeps | apply State.nvmEnd_keeps | apply hf | intro _ | split | dsimp only)

theorem nvmRead_keeps {s0 s : State} (hs : Keeps s0 s) : Keeps s0 (nvmRead s) := by
  unfold nvmRead
  with_reducible repeat' first
    | assumption | apply State.portRead_keeps | apply State.modMem_keeps | apply State.nvmRun_keeps | apply State.nvmCommand_keeps | intro _ | split
    | dsimp only

theorem progrow_keeps {s0 s : State} (hs : Keeps s0 s) : Keeps s0 (progrow s) := by
  unfold progrow
  with_reducible repeat' first
    | assumption | apply State.raise_keeps | apply State.drewN_keeps | apply State.modMem_keeps | apply State.progRow_keeps
    | apply State.nvmEnd_keeps | apply State.nvmRun_keeps | apply State.nvmCommand_keeps | intro _ | split | dsimp only

theorem eraseSect_keeps {s0 s : State} (hs : Keeps s0 s) : Keeps s0 (eraseSect s) := by
  unfold eraseSect
  with_reducible repeat' first
    | assumption | apply State.eraseCode_keeps | apply State.nvmRun_keeps | apply State.nvmCommand_keeps | intro _ | split | dsimp only

theorem eraseBank_keeps {s0 s : State} (hs : Keeps s0 s) : Keeps s0 (eraseBank s) := by
  unfold eraseBank
  with_reducible repeat' first
    | assumption | apply State.eraseCode_keeps | apply State.nvmRun_keeps | apply State.nvmCommand_keeps | intro _ | split | dsimp only

theorem blankChk_keeps {s0 s : State} (hs : Keeps s0 s) : Keeps s0 (blankChk s) := by
  unfold blankChk
  with_reducible repeat' (first | assumption | apply State.nvmRun_keeps | apply State.nvmCommand_keeps | intro _ | split | dsimp only)

theorem execNvmReadRow_keeps (_c : CoreId) (s : State) : ∃ u, execNvmReadRow _c s = .next u ∧ Keeps s u := by
  refine ⟨_, rfl, ?_⟩
  have h := Keeps.refl s
  with_reducible repeat' (first | assumption | apply inDom_keeps | apply nvmRead_keeps | intro _ | split | dsimp only)

theorem execProgrow_keeps (_c : CoreId) (s : State) : ∃ u, execProgrow _c s = .next u ∧ Keeps s u := by
  refine ⟨_, rfl, ?_⟩
  have h := Keeps.refl s
  with_reducible repeat' (first | assumption | apply inDom_keeps | apply progrow_keeps | intro _ | split | dsimp only)

theorem execErasesect_keeps (_c : CoreId) (s : State) : ∃ u, execErasesect _c s = .next u ∧ Keeps s u := by
  refine ⟨_, rfl, ?_⟩
  have h := Keeps.refl s
  with_reducible repeat' (first | assumption | apply inDom_keeps | apply eraseSect_keeps | intro _ | split | dsimp only)

theorem execErasebank_keeps (_c : CoreId) (s : State) : ∃ u, execErasebank _c s = .next u ∧ Keeps s u := by
  refine ⟨_, rfl, ?_⟩
  have h := Keeps.refl s
  with_reducible repeat' (first | assumption | apply inDom_keeps | apply eraseBank_keeps | intro _ | split | dsimp only)

theorem execBlankchk_keeps (_c : CoreId) (s : State) : ∃ u, execBlankchk _c s = .next u ∧ Keeps s u := by
  refine ⟨_, rfl, ?_⟩
  have h := Keeps.refl s
  with_reducible repeat' (first | assumption | apply inDom_keeps | apply blankChk_keeps | intro _ | split | dsimp only)

theorem nvmDone_keeps {s0 s : State} (hs : Keeps s0 s) (bad : Bool) : Keeps s0 (nvmDone bad s) := by
  unfold nvmDone
  with_reducible repeat' first
    | assumption | apply State.setFld_keeps | apply State.each_keeps | apply State.wr_keeps | apply State.drewN_keeps | apply State.modMem_keeps
    | apply State.nvmEnd_keeps | intro _ | split | dsimp only

theorem execNvmCommandDone_keeps (bad : Bool) (s : State) : ∃ u, execNvmCommandDone bad s = .next u ∧ Keeps s u := by
  refine ⟨_, rfl, ?_⟩
  have h := Keeps.refl s
  with_reducible repeat' (first | assumption | apply inDom_keeps | apply nvmDone_keeps | intro _ | split | dsimp only)

theorem ndataPush_keeps {s0 s : State} (hs : Keeps s0 s) (v : Word) : Keeps s0 (ndataPush v s) := by
  unfold ndataPush
  with_reducible repeat' (first | assumption | apply State.modMem_keeps | intro _ | split | dsimp only)

theorem ndataPop_keeps {s0 s : State} (hs : Keeps s0 s) : Keeps s0 (ndataPop s) := by
  unfold ndataPop
  with_reducible repeat' first
    | assumption | (apply Keeps.lit; assumption) | apply State.drew_keeps | apply State.modMem_keeps | intro _ | split | dsimp only

theorem execNdataPush_keeps (_c : CoreId) (v : Word) (s : State) : ∃ u, execNdataPush _c v s = .next u ∧ Keeps s u := by
  refine ⟨_, rfl, ?_⟩
  have h := Keeps.refl s
  with_reducible repeat' (first | assumption | apply inDom_keeps | apply ndataPush_keeps | intro _ | split | dsimp only)

theorem execNdataPop_keeps (_c : CoreId) (s : State) : ∃ u, execNdataPop _c s = .next u ∧ Keeps s u := by
  refine ⟨_, rfl, ?_⟩
  have h := Keeps.refl s
  with_reducible repeat' (first | assumption | apply inDom_keeps | apply ndataPop_keeps | intro _ | split | dsimp only)

theorem State.ssEnd_keeps {s0 s : State} (hs : Keeps s0 s) (r : Nat) : Keeps s0 (State.ssEnd s r) := by
  unfold State.ssEnd
  with_reducible repeat' (first | assumption | apply State.setFld_keeps | apply State.raise_keeps | intro _ | split | dsimp only)

theorem State.eraseData_keeps {s0 s : State} (hs : Keeps s0 s) (b : Nat) : Keeps s0 (State.eraseData s b) := by
  unfold State.eraseData
  with_reducible repeat' (first | assumption | apply State.clearMem_keeps | intro _ | split | dsimp only)

theorem State.writeRecord_keeps {s0 s : State} (hs : Keeps s0 s) (b : Nat) (schema : Nat) (grp : Nat) (seq : Nat) (payload : List Word) : Keeps s0
    (State.writeRecord s b schema grp seq payload) := by
  unfold State.writeRecord
  with_reducible repeat' (first | assumption | apply State.each_keeps | apply State.wr_keeps | intro _ | split | dsimp only)

theorem ssWrite_keeps {s0 s : State} (hs : Keeps s0 s) : Keeps s0 (ssWrite s) := by
  unfold ssWrite
  with_reducible repeat' first
    | assumption | apply State.setFld_keeps | apply State.modMem_keeps | apply State.ssEnd_keeps | apply State.eraseData_keeps | intro _ | split
    | dsimp only

theorem ssLoad_keeps {s0 s : State} (hs : Keeps s0 s) : Keeps s0 (ssLoad s) := by
  unfold ssLoad
  with_reducible repeat' first
    | assumption | apply State.setFld_keeps | apply State.modMem_keeps | apply State.ssEnd_keeps | intro _ | split | dsimp only

theorem State.ssWriteEnd_keeps {s0 s : State} (hs : Keeps s0 s) (r : SsRun) (bad : Bool) : Keeps s0 (State.ssWriteEnd s r bad) := by
  unfold State.ssWriteEnd
  with_reducible repeat' first
    | assumption | apply State.when_keeps | apply State.eccDouble_keeps | apply State.portRead_keeps | apply State.ssShow_keeps
    | apply State.ssEnd_keeps | apply State.writeRecord_keeps | intro _ | split | dsimp only

theorem State.ssLoadEnd_keeps {s0 s : State} (hs : Keeps s0 s) (r : SsRun) : Keeps s0 (State.ssLoadEnd s r) := by
  unfold State.ssLoadEnd
  with_reducible repeat' (first | assumption | apply State.ssCopy_keeps | apply State.ssEnd_keeps | intro _ | split | dsimp only)

theorem ssDone_keeps {s0 s : State} (hs : Keeps s0 s) (bad : Bool) : Keeps s0 (ssDone bad s) := by
  unfold ssDone
  with_reducible repeat' first
    | assumption | apply State.setFld_keeps | apply State.modMem_keeps | apply State.ssWriteEnd_keeps | apply State.ssLoadEnd_keeps | intro _ | split
    | dsimp only

theorem execSsWrite_keeps (_c : CoreId) (s : State) : ∃ u, execSsWrite _c s = .next u ∧ Keeps s u := by
  refine ⟨_, rfl, ?_⟩
  have h := Keeps.refl s
  with_reducible repeat' (first | assumption | apply inDom_keeps | apply ssWrite_keeps | intro _ | split | dsimp only)

theorem execSsLoad_keeps (_c : CoreId) (s : State) : ∃ u, execSsLoad _c s = .next u ∧ Keeps s u := by
  refine ⟨_, rfl, ?_⟩
  have h := Keeps.refl s
  with_reducible repeat' (first | assumption | apply inDom_keeps | apply ssLoad_keeps | intro _ | split | dsimp only)

theorem execSsCommandDone_keeps (bad : Bool) (s : State) : ∃ u, execSsCommandDone bad s = .next u ∧ Keeps s u := by
  refine ⟨_, rfl, ?_⟩
  have h := Keeps.refl s
  with_reducible repeat' (first | assumption | apply inDom_keeps | apply ssDone_keeps | intro _ | split | dsimp only)

theorem otpProg_keeps {s0 s : State} (hs : Keeps s0 s) (o : Nat) : Keeps s0 (otpProg o s) := by
  unfold otpProg
  with_reducible repeat' first
    | assumption | apply State.setFld_keeps | apply State.raise_keeps | apply State.wr_keeps | apply State.modMem_keeps | intro _ | split
    | dsimp only

theorem execOtpProg_keeps (_c : CoreId) (o : BitVec 11) (s : State) : ∃ u, execOtpProg _c o s = .next u ∧ Keeps s u := by
  refine ⟨_, rfl, ?_⟩
  have h := Keeps.refl s
  with_reducible repeat' (first | assumption | apply inDom_keeps | apply otpProg_keeps | intro _ | split | dsimp only)

theorem otpDone_keeps {s0 s : State} (hs : Keeps s0 s) (bad : Bool) : Keeps s0 (otpDone bad s) := by
  unfold otpDone
  with_reducible repeat' first
    | assumption | apply State.setFld_keeps | apply State.raise_keeps | apply State.when_keeps | apply State.drew_keeps | apply State.wr_keeps
    | apply State.modMem_keeps | intro _ | split | dsimp only

theorem execOtpDone_keeps (bad : Bool) (s : State) : ∃ u, execOtpDone bad s = .next u ∧ Keeps s u := by
  refine ⟨_, rfl, ?_⟩
  have h := Keeps.refl s
  with_reducible repeat' (first | assumption | apply inDom_keeps | apply otpDone_keeps | intro _ | split | dsimp only)

theorem State.memCommitted_keeps {s0 s : State} (hs : Keeps s0 s) : Keeps s0 (State.memCommitted s) := by
  unfold State.memCommitted
  with_reducible repeat' (first | assumption | apply State.each_keeps | apply State.setBankSt_keeps | intro _ | split | dsimp only)

theorem State.pcrEvt_keeps {s0 s : State} (hs : Keeps s0 s) (k : Nat) : Keeps s0 (State.pcrEvt s k) := by
  unfold State.pcrEvt
  with_reducible repeat' (first | assumption | apply State.setBitF_keeps | intro _ | split | dsimp only)

theorem State.ledgerCount_keeps {s0 s : State} (hs : Keeps s0 s) (f : FRef) : Keeps s0 (State.ledgerCount s f) := by
  unfold State.ledgerCount
  with_reducible repeat' first
    | assumption | apply State.count_keeps | apply State.when_keeps | apply State.pcrEvt_keeps | intro _ | split | dsimp only

theorem State.lastRefuser_keeps {s0 s : State} (hs : Keeps s0 s) (b : Nat) (k : Nat) (bedded : Bool) (abort : Bool) : Keeps s0 (State.lastRefuser s
    b k bedded abort) := by
  unfold State.lastRefuser
  with_reducible repeat' (first | assumption | apply State.setReg_keeps | intro _ | split | dsimp only)

theorem State.tracePower_keeps {s0 s : State} (hs : Keeps s0 s) (i : Nat) (b : Nat) (k : Nat) : Keeps s0 (State.tracePower s i b k) := by
  unfold State.tracePower
  with_reducible repeat' (first | assumption | apply State.traceB_keeps | intro _ | split | dsimp only)

theorem State.lastWake_keeps {s0 s : State} (hs : Keeps s0 s) (w : Wake) (frm : Nat) : Keeps s0 (State.lastWake s w frm) := by
  unfold State.lastWake
  with_reducible repeat' first
    | assumption | apply State.setReg_keeps | apply State.when_keeps | apply State.ledgerCount_keeps | intro _ | split | dsimp only

theorem State.wrList_keeps {s0 s : State} (hs : Keeps s0 s) (a : Nat) (l : List Word) : Keeps s0 (State.wrList s a l) := by
  unfold State.wrList
  with_reducible repeat' (first | assumption | apply State.each_keeps | apply State.wr_keeps | intro _ | split | dsimp only)

theorem State.saveAll_keeps {s0 s : State} (hs : Keeps s0 s) : Keeps s0 (State.saveAll s) := by
  unfold State.saveAll
  with_reducible repeat' (first | assumption | apply State.wrList_keeps | intro _ | split | dsimp only)

theorem State.restoreCore_keeps {s0 s : State} (hs : Keeps s0 s) (c : Nat) : Keeps s0 (State.restoreCore s c) := by
  unfold State.restoreCore
  with_reducible repeat' first
    | assumption | apply State.setReg_keeps | apply State.each_keeps | apply State.setCore_keeps | intro _ | split | dsimp only

theorem State.restoreIcu_keeps {s0 s : State} (hs : Keeps s0 s) : Keeps s0 (State.restoreIcu s) := by
  unfold State.restoreIcu
  with_reducible repeat' first
    | assumption | apply State.setReg_keeps | apply State.setFld_keeps | apply State.each_keeps | intro _ | split | dsimp only

theorem State.spillAll_keeps {s0 s : State} (hs : Keeps s0 s) (c n : Nat) : Keeps s0 (s.spillAll c n) := by
  induction n generalizing s with
  | zero => exact hs
  | succ n ih =>
    unfold State.spillAll
    with_reducible repeat' (first | assumption | apply ih | apply State.modPw_keeps | apply State.spill_keeps | intro _ | split | dsimp only)

theorem State.settle_keeps {s0 s : State} (hs : Keeps s0 s) (c : Nat) : Keeps s0 (State.settle s c) := by
  unfold State.settle
  with_reducible repeat' first
    | assumption | apply State.modCore_keeps | apply State.drainAll_keeps | apply State.spillAll_keeps | intro _ | split | dsimp only

theorem State.latchPads_keeps {s0 s : State} (hs : Keeps s0 s) (bedded : Bool) : Keeps s0 (State.latchPads s bedded) := by
  unfold State.latchPads
  with_reducible repeat' (first | assumption | apply State.setFld_keeps | intro _ | split | dsimp only)

theorem State.commitStart_keeps {s0 s : State} (hs : Keeps s0 s) (bedded : Bool) : Keeps s0 (State.commitStart s bedded) := by
  unfold State.commitStart
  with_reducible repeat' first
    | assumption | apply State.setFld_keeps | apply State.when_keeps | apply State.shedWaiting_keeps | apply State.loseEngines_keeps
    | apply State.inpRest_keeps | apply State.tracePower_keeps | apply State.saveAll_keeps | apply State.settle_keeps | apply State.latchPads_keeps
    | intro _ | split | dsimp only

theorem State.entryWake_keeps {s0 s : State} (hs : Keeps s0 s) : Keeps s0 (State.entryWake s) := by
  unfold State.entryWake
  with_reducible repeat' (first | assumption | apply State.countedWake_keeps | intro _ | split | dsimp only)

theorem State.netAtEntry_keeps {s0 s : State} (hs : Keeps s0 s) : Keeps s0 (State.netAtEntry s) := by
  unfold State.netAtEntry
  with_reducible repeat' first
    | assumption | apply State.closeWindows_keeps | apply State.netAsleep_keeps | apply State.entryWake_keeps | intro _ | split | dsimp only

theorem State.zswDown_keeps {s0 s : State} (hs : Keeps s0 s) : Keeps s0 (State.zswDown s) := by
  unfold State.zswDown
  with_reducible repeat' first
    | assumption | apply State.setFld_keeps | apply State.modPw_keeps | apply State.domRegs_keeps | apply State.hideZsw_keeps | intro _ | split
    | dsimp only

theorem State.entered_keeps {s0 s : State} (hs : Keeps s0 s) (bedded : Bool) : Keeps s0 (State.entered s bedded) := by
  unfold State.entered
  with_reducible repeat' (first | assumption | apply State.setFld_keeps | apply State.modPw_keeps | intro _ | split | dsimp only)

theorem State.restReached_keeps {s0 s : State} (hs : Keeps s0 s) : Keeps s0 (State.restReached s) := by
  unfold State.restReached
  with_reducible repeat' first
    | assumption | apply State.when_keeps | apply State.modPw_keeps | apply State.netAtEntry_keeps | apply State.zswDown_keeps
    | apply State.entered_keeps | intro _ | split | dsimp only

theorem State.beddedReached_keeps {s0 s : State} (hs : Keeps s0 s) : Keeps s0 (State.beddedReached s) := by
  unfold State.beddedReached
  with_reducible repeat' first
    | assumption | apply State.setFld_keeps | apply State.modPw_keeps | apply State.modNet_keeps | apply State.netAtEntry_keeps
    | apply State.entered_keeps | intro _ | split | dsimp only

theorem State.forceEntry_keeps {s0 s : State} (hs : Keeps s0 s) (bedded : Bool) (cause : Nat) : Keeps s0 (State.forceEntry s bedded cause) := by
  unfold State.forceEntry
  with_reducible repeat' first
    | assumption | apply State.when_keeps | apply State.each_keeps | apply State.modPw_keeps | apply State.forceAll_keeps
    | apply State.ledgerCount_keeps | apply State.lastRefuser_keeps | apply State.commitStart_keeps | intro _ | split | dsimp only

theorem State.refused_keeps {s0 s : State} (hs : Keeps s0 s) (b : Nat) (k : Nat) : Keeps s0 (State.refused s b k) := by
  unfold State.refused
  with_reducible repeat' first
    | assumption | apply State.setReg_keeps | apply State.setFld_keeps | apply State.raise_keeps | apply State.modPw_keeps | apply State.record_keeps
    | apply State.pcrEvt_keeps | apply State.ledgerCount_keeps | apply State.lastRefuser_keeps | apply State.tracePower_keeps | intro _ | split
    | dsimp only

theorem State.writeHeld_keeps {s0 s : State} (hs : Keeps s0 s) : Keeps s0 (State.writeHeld s) := by
  unfold State.writeHeld
  with_reducible repeat' first
    | assumption | apply State.each_keeps | apply State.modPw_keeps | apply State.writeDone_keeps | intro _ | split | dsimp only

theorem State.exitEnds_keeps {s0 s : State} (hs : Keeps s0 s) (w : Wake) (frm : Nat) (forced : Bool) : Keeps s0 (State.exitEnds s w frm forced) := by
  unfold State.exitEnds
  with_reducible repeat' first
    | assumption | apply State.setFld_keeps | apply State.raise_keeps | apply State.when_keeps | apply State.modPw_keeps
    | apply State.tracePower_keeps | apply State.lastWake_keeps | intro _ | split | dsimp only

theorem State.netAgain_keeps {s0 s : State} (hs : Keeps s0 s) : Keeps s0 (State.netAgain s) := by
  unfold State.netAgain
  with_reducible repeat' (first | assumption | apply State.modPw_keeps | apply State.sensServeAll_keeps | intro _ | split | dsimp only)

theorem State.restExit_keeps {s0 s : State} (hs : Keeps s0 s) (w : Wake) : Keeps s0 (State.restExit s w) := by
  unfold State.restExit
  with_reducible repeat' first
    | assumption | apply State.setFld_keeps | apply State.when_keeps | apply State.each_keeps | apply State.modPw_keeps | apply State.portRead_keeps
    | apply State.clearTcm_keeps | apply State.domRegs_keeps | apply State.fltClear_keeps | apply State.inpWake_keeps | apply State.doubleFault_keeps
    | apply State.pcrEvt_keeps | apply State.restoreCore_keeps | apply State.restoreIcu_keeps | apply State.writeHeld_keeps
    | apply State.exitEnds_keeps | apply State.netAgain_keeps | intro _ | split | dsimp only

theorem State.memFences_keeps {s0 s : State} (hs : Keeps s0 s) : Keeps s0 (State.memFences s) := by
  unfold State.memFences
  with_reducible repeat' first
    | assumption | apply State.each_keeps | apply State.modFlt_keeps | apply State.setBankSt_keeps | apply State.refreshFlt_keeps | intro _ | split
    | dsimp only

theorem State.beddedClear_keeps {s0 s : State} (hs : Keeps s0 s) : Keeps s0 (State.beddedClear s) := by
  unfold State.beddedClear
  with_reducible repeat' first
    | assumption | apply State.setFld_keeps | apply State.when_keeps | apply State.each_keeps | apply State.modRng_keeps | apply State.modImg_keeps
    | apply State.modBrc_keeps | apply State.setDescs_keeps | apply State.modMem_keeps | apply State.clearTcm_keeps | apply State.clearRam_keeps
    | apply State.clearSeq_keeps | apply State.clearAon_keeps | apply State.regsReset_keeps | apply State.hideAct_keeps | apply State.hideNet_keeps
    | apply State.hideZsw_keeps | apply State.accFabricReset_keeps | apply State.modZone_keeps | apply State.setZt_keeps
    | apply State.memFences_keeps | intro _ | split | dsimp only

theorem State.beddedExit_keeps {s0 s : State} (hs : Keeps s0 s) (w : Wake) : Keeps s0 (State.beddedExit s w) := by
  unfold State.beddedExit
  with_reducible repeat' first
    | assumption | apply State.setFld_keeps | apply State.modPw_keeps | apply State.driveFltn_keeps | apply State.refreshInh_keeps
    | apply State.coreStart_keeps | apply State.coreAgain_keeps | apply State.exitEnds_keeps | apply State.beddedClear_keeps | intro _ | split
    | dsimp only

theorem State.pll0ToRc_keeps {s0 s : State} (hs : Keeps s0 s) : Keeps s0 (State.pll0ToRc s) := by
  unfold State.pll0ToRc
  with_reducible repeat' first
    | assumption | apply State.setFld_keeps | apply State.raise_keeps | apply State.record_keeps | apply State.pcrEvt_keeps | intro _ | split
    | dsimp only

theorem State.zswUp_keeps {s0 s : State} (hs : Keeps s0 s) : Keeps s0 (State.zswUp s) := by
  unfold State.zswUp
  with_reducible repeat' first
    | assumption | apply State.modPw_keeps | apply State.fltClear_keeps | apply State.unfenceAll_keeps | apply State.zswStart_keeps | intro _ | split
    | dsimp only

theorem State.toCrystal_keeps {s0 s : State} (hs : Keeps s0 s) : Keeps s0 (State.toCrystal s) := by
  unfold State.toCrystal
  with_reducible repeat' first
    | assumption | apply State.setFld_keeps | apply State.raise_keeps | apply State.when_keeps | apply State.modPw_keeps | apply State.pcrEvt_keeps
    | apply State.zswUp_keeps | intro _ | split | dsimp only

theorem State.holdNetZsw_keeps {s0 s : State} (hs : Keeps s0 s) : Keeps s0 (State.holdNetZsw s) := by
  unfold State.holdNetZsw
  with_reducible repeat' first
    | assumption | apply State.when_keeps | apply State.modPw_keeps | apply State.resetNet_keeps | apply State.resetZsw_keeps | intro _ | split
    | dsimp only

theorem crystalLoss_keeps {s0 s : State} (hs : Keeps s0 s) : Keeps s0 (crystalLoss s) := by
  unfold crystalLoss
  with_reducible repeat' first
    | assumption | apply State.setFld_keeps | apply State.pll0ToRc_keeps | apply State.holdNetZsw_keeps | intro _ | split | dsimp only

theorem State.trimCheck_keeps {s0 s : State} (hs : Keeps s0 s) : Keeps s0 (State.trimCheck s) := by
  unfold State.trimCheck
  with_reducible repeat' (first | assumption | apply State.each_keeps | apply State.record_keeps | intro _ | split | dsimp only)

theorem State.powerOn_keeps {s0 s : State} (hs : Keeps s0 s) : Keeps s0 s.powerOn := by
  unfold State.powerOn
  dsimp only
  refine State.trimCheck_keeps (State.setFld_keeps (State.thmRefresh_keeps ?_) _ _)
  exact Keeps.all hs (smWf_nil _) (smWf_smKeep _ _ _)

theorem execPor_keeps (s : State) : ∃ u, execPor s = .next u ∧ Keeps s u := by
  refine ⟨_, rfl, ?_⟩
  have h := Keeps.refl s
  with_reducible repeat' (first | assumption | apply State.powerOn_keeps | intro _ | split | dsimp only)

theorem execRstnReset_keeps (s : State) : ∃ u, execRstnReset s = .next u ∧ Keeps s u := by
  refine ⟨_, rfl, ?_⟩
  have h := Keeps.refl s
  with_reducible repeat' (first | assumption | apply State.modReset_keeps | intro _ | split | dsimp only)

theorem execModuleSoftwareReset_keeps (s : State) : ∃ u, execModuleSoftwareReset s = .next u ∧ Keeps s u := by
  refine ⟨_, rfl, ?_⟩
  have h := Keeps.refl s
  with_reducible repeat' (first | assumption | apply State.modReset_keeps | intro _ | split | dsimp only)

theorem execL4Reset_keeps (s : State) : ∃ u, execL4Reset s = .next u ∧ Keeps s u := by
  refine ⟨_, rfl, ?_⟩
  have h := Keeps.refl s
  with_reducible repeat' (first | assumption | apply State.modReset_keeps | intro _ | split | dsimp only)

theorem execPll0Lost_keeps (s : State) : ∃ u, execPll0Lost s = .next u ∧ Keeps s u := by
  refine ⟨_, rfl, ?_⟩
  have h := Keeps.refl s
  with_reducible repeat' (first | assumption | apply inDom_keeps | apply State.pll0ToRc_keeps | intro _ | split | dsimp only)

theorem execCrystalLoss_keeps (s : State) : ∃ u, execCrystalLoss s = .next u ∧ Keeps s u := by
  refine ⟨_, rfl, ?_⟩
  have h := Keeps.refl s
  with_reducible repeat' (first | assumption | apply crystalLoss_keeps | intro _ | split | dsimp only)

theorem execPll0ToCrystal_keeps (s : State) : ∃ u, execPll0ToCrystal s = .next u ∧ Keeps s u := by
  refine ⟨_, rfl, ?_⟩
  have h := Keeps.refl s
  with_reducible repeat' (first | assumption | apply inDom_keeps | apply State.toCrystal_keeps | intro _ | split | dsimp only)

theorem execActoscLost_keeps (s : State) : ∃ u, execActoscLost s = .next u ∧ Keeps s u := by
  refine ⟨_, rfl, ?_⟩
  have h := Keeps.refl s
  with_reducible repeat' first
    | assumption | apply State.setFld_keeps | apply State.modPw_keeps | apply inDom_keeps | apply State.modInp_keeps | apply State.record_keeps
    | intro _ | split | dsimp only

theorem execActDriftCheck_keeps (off : Bool) (s : State) : ∃ u, execActDriftCheck off s = .next u ∧ Keeps s u := by
  refine ⟨_, rfl, ?_⟩
  have h := Keeps.refl s
  with_reducible repeat' (first | assumption | apply inDom_keeps | apply State.record_keeps | apply State.pcrEvt_keeps | intro _ | split | dsimp only)

theorem execRailFault_keeps (rail : Fin 4) (s : State) : ∃ u, execRailFault rail s = .next u ∧ Keeps s u := by
  refine ⟨_, rfl, ?_⟩
  have h := Keeps.refl s
  with_reducible repeat' first
    | assumption | apply State.setBitF_keeps | apply State.record_keeps | apply State.pcrEvt_keeps | intro _ | split | dsimp only

theorem execPllLossOfLock_keeps (p : Fin 2) (s : State) : ∃ u, execPllLossOfLock p s = .next u ∧ Keeps s u := by
  refine ⟨_, rfl, ?_⟩
  have h := Keeps.refl s
  with_reducible repeat' (first | assumption | apply State.setBitF_keeps | apply State.pcrEvt_keeps | intro _ | split | dsimp only)

theorem requestMode_keeps {s0 s : State} (hs : Keeps s0 s) (m : PMode) : Keeps s0 (requestMode m s) := by
  unfold requestMode
  with_reducible repeat' (first | assumption | apply State.raise_keeps | apply State.modPw_keeps | intro _ | split | dsimp only)

theorem execRequestRun_keeps (_c : CoreId) (s : State) : ∃ u, execRequestRun _c s = .next u ∧ Keeps s u := by
  refine ⟨_, rfl, ?_⟩
  have h := Keeps.refl s
  with_reducible repeat' (first | assumption | apply inDom_keeps | apply requestMode_keeps | intro _ | split | dsimp only)

theorem execRequestBrowse_keeps (_c : CoreId) (s : State) : ∃ u, execRequestBrowse _c s = .next u ∧ Keeps s u := by
  refine ⟨_, rfl, ?_⟩
  have h := Keeps.refl s
  with_reducible repeat' (first | assumption | apply inDom_keeps | apply requestMode_keeps | intro _ | split | dsimp only)

theorem requestEntry_keeps {s0 s : State} (hs : Keeps s0 s) (c : CoreId) (bedded : Bool) : Keeps s0 (requestEntry c bedded s) := by
  unfold requestEntry
  with_reducible repeat' first
    | assumption | apply State.setReg_keeps | apply State.setFld_keeps | apply State.raise_keeps | apply State.modPw_keeps
    | apply State.tracePower_keeps | intro _ | split | dsimp only

theorem execEntryReq_keeps (c : CoreId) (bedded : Bool) (s : State) : ∃ u, execEntryReq c bedded s = .next u ∧ Keeps s u := by
  refine ⟨_, rfl, ?_⟩
  have h := Keeps.refl s
  with_reducible repeat' (first | assumption | apply inDom_keeps | apply requestEntry_keeps | intro _ | split | dsimp only)

theorem forcedEntry_keeps {s0 s : State} (hs : Keeps s0 s) (c : CoreId) (bedded : Bool) : Keeps s0 (forcedEntry c bedded s) := by
  unfold forcedEntry
  with_reducible repeat' first
    | assumption | apply State.setReg_keeps | apply State.raise_keeps | apply State.forceEntry_keeps | intro _ | split | dsimp only

theorem execForcedEntry_keeps (c : CoreId) (bedded : Bool) (s : State) : ∃ u, execForcedEntry c bedded s = .next u ∧ Keeps s u := by
  refine ⟨_, rfl, ?_⟩
  have h := Keeps.refl s
  with_reducible repeat' (first | assumption | apply inDom_keeps | apply forcedEntry_keeps | intro _ | split | dsimp only)

theorem State.takeAnswer_keeps {s0 s : State} (hs : Keeps s0 s) (b : Nat) (a : Answer) : Keeps s0 (State.takeAnswer s b a) := by
  unfold State.takeAnswer
  with_reducible repeat' (first | assumption | apply State.modPw_keeps | apply State.refused_keeps | intro _ | split | dsimp only)

theorem agentAnswer_keeps {s0 s : State} (hs : Keeps s0 s) (b : Nat) : Keeps s0 (agentAnswer b s) := by
  unfold agentAnswer
  with_reducible repeat' (first | assumption | apply State.takeAnswer_keeps | intro _ | split | dsimp only)

theorem execAgentAnswer_keeps (b : Fin 16) (s : State) : ∃ u, execAgentAnswer b s = .next u ∧ Keeps s u := by
  refine ⟨_, rfl, ?_⟩
  have h := Keeps.refl s
  with_reducible repeat' (first | assumption | apply agentAnswer_keeps | intro _ | split | dsimp only)

theorem delayExpiry_keeps {s0 s : State} (hs : Keeps s0 s) (b : Nat) : Keeps s0 (delayExpiry b s) := by
  unfold delayExpiry
  with_reducible repeat' first
    | assumption | apply State.refused_keeps | apply State.takeAnswer_keeps | apply agentAnswer_keeps | intro _ | split | dsimp only

theorem execDelayBoundExpiry_keeps (b : Fin 16) (s : State) : ∃ u, execDelayBoundExpiry b s = .next u ∧ Keeps s u := by
  refine ⟨_, rfl, ?_⟩
  have h := Keeps.refl s
  with_reducible repeat' (first | assumption | apply delayExpiry_keeps | intro _ | split | dsimp only)

theorem execEntryCommit_keeps (s : State) : ∃ u, execEntryCommit s = .next u ∧ Keeps s u := by
  refine ⟨_, rfl, ?_⟩
  have h := Keeps.refl s
  with_reducible repeat' (first | assumption | apply State.commitStart_keeps | intro _ | split | dsimp only)

theorem execCommitComplete_keeps (s : State) : ∃ u, execCommitComplete s = .next u ∧ Keeps s u := by
  refine ⟨_, rfl, ?_⟩
  have h := Keeps.refl s
  with_reducible repeat' (first | assumption | apply State.restReached_keeps | apply State.beddedReached_keeps | intro _ | split | dsimp only)

theorem execWakeLatch_keeps (code : BitVec 6) (detail : Byte) (s : State) : ∃ u, execWakeLatch code detail s = .next u ∧ Keeps s u := by
  refine ⟨_, rfl, ?_⟩
  have h := Keeps.refl s
  with_reducible repeat' (first | assumption | apply State.latchWake_keeps | intro _ | split | dsimp only)

theorem execRestExit_keeps (s : State) : ∃ u, execRestExit s = .next u ∧ Keeps s u := by
  refine ⟨_, rfl, ?_⟩
  have h := Keeps.refl s
  with_reducible repeat' (first | assumption | apply State.restExit_keeps | intro _ | split | dsimp only)

theorem execBeddedExit_keeps (s : State) : ∃ u, execBeddedExit s = .next u ∧ Keeps s u := by
  refine ⟨_, rfl, ?_⟩
  have h := Keeps.refl s
  with_reducible repeat' (first | assumption | apply State.beddedExit_keeps | intro _ | split | dsimp only)

theorem execNetRetentionExit_keeps (s : State) : ∃ u, execNetRetentionExit s = .next u ∧ Keeps s u := by
  refine ⟨_, rfl, ?_⟩
  have h := Keeps.refl s
  with_reducible repeat' (first | assumption | apply State.netAgain_keeps | intro _ | split | dsimp only)

theorem zswOn_keeps {s0 s : State} (hs : Keeps s0 s) (on : Bool) : Keeps s0 (zswOn on s) := by
  unfold zswOn
  with_reducible repeat' first
    | assumption | apply State.setFld_keeps | apply State.when_keeps | apply State.modPw_keeps | apply State.domRegs_keeps
    | apply State.hideZsw_keeps | apply State.loseEngines_keeps | apply State.pcrEvt_keeps | apply State.zswUp_keeps | intro _ | split | dsimp only

theorem execZswOn_keeps (_c : CoreId) (on : Bool) (s : State) : ∃ u, execZswOn _c on s = .next u ∧ Keeps s u := by
  refine ⟨_, rfl, ?_⟩
  have h := Keeps.refl s
  with_reducible repeat' (first | assumption | apply inDom_keeps | apply zswOn_keeps | intro _ | split | dsimp only)

theorem restCompletion_keeps {s0 s : State} (hs : Keeps s0 s) : Keeps s0 (restCompletion s) := by
  unfold restCompletion
  with_reducible repeat' (first | assumption | apply State.latchWake_keeps | intro _ | split | dsimp only)

theorem execRestCompletionWake_keeps (s : State) : ∃ u, execRestCompletionWake s = .next u ∧ Keeps s u := by
  refine ⟨_, rfl, ?_⟩
  have h := Keeps.refl s
  with_reducible repeat' (first | assumption | apply restCompletion_keeps | intro _ | split | dsimp only)

theorem execHostFrameWake_keeps (s : State) : ∃ u, execHostFrameWake s = .next u ∧ Keeps s u := by
  refine ⟨_, rfl, ?_⟩
  have h := Keeps.refl s
  with_reducible repeat' (first | assumption | apply State.latchWake_keeps | intro _ | split | dsimp only)

theorem brownOut_keeps {s0 s : State} (hs : Keeps s0 s) : Keeps s0 (brownOut s) := by
  unfold brownOut
  with_reducible repeat' first
    | assumption | apply State.setFld_keeps | apply State.when_keeps | apply State.modPw_keeps | apply State.record_keeps
    | apply State.forceEntry_keeps | intro _ | split | dsimp only

theorem execBrownOut_keeps (s : State) : ∃ u, execBrownOut s = .next u ∧ Keeps s u := by
  refine ⟨_, rfl, ?_⟩
  have h := Keeps.refl s
  with_reducible repeat' (first | assumption | apply brownOut_keeps | intro _ | split | dsimp only)

theorem execKl30Restore_keeps (s : State) : ∃ u, execKl30Restore s = .next u ∧ Keeps s u := by
  refine ⟨_, rfl, ?_⟩
  have h := Keeps.refl s
  with_reducible repeat' (first | assumption | apply State.latchWake_keeps | intro _ | split | dsimp only)

theorem kl30Low_keeps {s0 s : State} (hs : Keeps s0 s) (low : Bool) : Keeps s0 (kl30Low low s) := by
  unfold kl30Low
  with_reducible repeat' first
    | assumption | apply State.setFld_keeps | apply State.raise_keeps | apply State.pcrEvt_keeps | intro _ | split | dsimp only

theorem execKl30Low_keeps (low : Bool) (s : State) : ∃ u, execKl30Low low s = .next u ∧ Keeps s u := by
  refine ⟨_, rfl, ?_⟩
  have h := Keeps.refl s
  with_reducible repeat' (first | assumption | apply kl30Low_keeps | intro _ | split | dsimp only)

theorem kl15Change_keeps {s0 s : State} (hs : Keeps s0 s) (on : Bool) : Keeps s0 (kl15Change on s) := by
  unfold kl15Change
  with_reducible repeat' first
    | assumption | apply State.setFld_keeps | apply State.latchWake_keeps | apply State.pcrEvt_keeps | intro _ | split | dsimp only

theorem execKl15Change_keeps (on : Bool) (s : State) : ∃ u, execKl15Change on s = .next u ∧ Keeps s u := by
  refine ⟨_, rfl, ?_⟩
  have h := Keeps.refl s
  with_reducible repeat' (first | assumption | apply kl15Change_keeps | intro _ | split | dsimp only)

theorem rtcAlarm_keeps {s0 s : State} (hs : Keeps s0 s) : Keeps s0 (rtcAlarm s) := by
  unfold rtcAlarm
  with_reducible repeat' (first | assumption | apply State.latchWake_keeps | apply State.pcrEvt_keeps | intro _ | split | dsimp only)

theorem execRtcAlarm_keeps (s : State) : ∃ u, execRtcAlarm s = .next u ∧ Keeps s u := by
  refine ⟨_, rfl, ?_⟩
  have h := Keeps.refl s
  with_reducible repeat' (first | assumption | apply rtcAlarm_keeps | intro _ | split | dsimp only)

theorem padRelease_keeps {s0 s : State} (hs : Keeps s0 s) (rel : BitVec 5) : Keeps s0 (padRelease rel s) := by
  unfold padRelease
  with_reducible repeat' first
    | assumption | apply State.raise_keeps | apply State.setBitF_keeps | apply State.each_keeps | intro _ | split | dsimp only

theorem execPadRelease_keeps (_c : CoreId) (rel : BitVec 5) (s : State) : ∃ u, execPadRelease _c rel s = .next u ∧ Keeps s u := by
  refine ⟨_, rfl, ?_⟩
  have h := Keeps.refl s
  with_reducible repeat' (first | assumption | apply inDom_keeps | apply padRelease_keeps | intro _ | split | dsimp only)

theorem State.checkReads_keeps {s0 s : State} (hs : Keeps s0 s) (b : Nat) (fast : Bool) : Keeps s0 (State.checkReads s b fast) := by
  unfold State.checkReads
  with_reducible repeat' (first | assumption | apply State.when_keeps | apply State.readUntil_keeps | intro _ | split | dsimp only)

theorem State.lbRun_keeps {s0 s : State} (hs : Keeps s0 s) (c : Nat) : Keeps s0 (State.lbRun s c) := by
  unfold State.lbRun
  with_reducible repeat' (first | assumption | apply State.setFld_keeps | apply State.setCore_keeps | intro _ | split | dsimp only)

theorem State.bootLbist_keeps {s0 s : State} (hs : Keeps s0 s) : Keeps s0 (State.bootLbist s) := by
  unfold State.bootLbist
  with_reducible repeat' (first | assumption | apply State.lbRun_keeps | intro _ | split | dsimp only)

theorem lbistStart_keeps {s0 s : State} (hs : Keeps s0 s) (t : Nat) : Keeps s0 (lbistStart t s) := by
  unfold lbistStart
  with_reducible repeat' (first | assumption | apply State.setFld_keeps | apply State.each_keeps | intro _ | split | dsimp only)

theorem lbistCancel_keeps {s0 s : State} (hs : Keeps s0 s) (t : Nat) : Keeps s0 (lbistCancel t s) := by
  unfold lbistCancel
  with_reducible repeat' (first | assumption | apply State.setFld_keeps | apply State.each_keeps | intro _ | split | dsimp only)

theorem lbistRun_keeps {s0 s : State} (hs : Keeps s0 s) (c : Nat) : Keeps s0 (lbistRun c s) := by
  unfold lbistRun
  with_reducible repeat' (first | assumption | apply State.lbRun_keeps | intro _ | split | dsimp only)

theorem execLbistRun_keeps (c : Fin 2) (s : State) : ∃ u, execLbistRun c s = .next u ∧ Keeps s u := by
  refine ⟨_, rfl, ?_⟩
  have h := Keeps.refl s
  with_reducible repeat' (first | assumption | apply inDom_keeps | apply lbistRun_keeps | intro _ | split | dsimp only)

theorem lbistDone_keeps {s0 s : State} (hs : Keeps s0 s) (c : Nat) (fail : Bool) : Keeps s0 (lbistDone c fail s) := by
  unfold lbistDone
  with_reducible repeat' first
    | assumption | apply State.reset_keeps | apply State.setFld_keeps | apply State.modFlt_keeps | apply State.setCore_keeps
    | apply State.refreshFlt_keeps | apply State.coreRelease_keeps | apply State.record_keeps | intro _ | split | dsimp only

theorem execLbistDone_keeps (c : Fin 2) (fail : Bool) (s : State) : ∃ u, execLbistDone c fail s = .next u ∧ Keeps s u := by
  refine ⟨_, rfl, ?_⟩
  have h := Keeps.refl s
  with_reducible repeat' (first | assumption | apply inDom_keeps | apply lbistDone_keeps | intro _ | split | dsimp only)

theorem State.startRows_keeps {s0 s : State} (hs : Keeps s0 s) (b : Nat) : Keeps s0 (State.startRows s b) := by
  unfold State.startRows
  with_reducible repeat' (first | assumption | apply State.setFld_keeps | apply State.bootProg_keeps | intro _ | split | dsimp only)

theorem bootTry_keeps {s0 : State} {x : BootRun} (hs : Keeps s0 x.s) (f : Option Nat) (b : Nat) : Keeps s0 (bootTry f x b).s := by
  unfold bootTry
  with_reducible repeat' first
    | assumption | apply State.bootProg_keeps | apply State.checkReads_keeps | apply State.startRows_keeps | intro _ | split | dsimp only

theorem State.bootReport_keeps {s0 s : State} (hs : Keeps s0 s) (res : Nat) (chk : Nat) (bank : Option Nat) (lb : Bool) : Keeps s0
    (State.bootReport s res chk bank lb) := by
  unfold State.bootReport
  with_reducible repeat' (first | assumption | apply State.wrList_keeps | intro _ | split | dsimp only)

theorem State.enterLoader_keeps {s0 s : State} (hs : Keeps s0 s) (res : Nat) (chk : Nat) : Keeps s0 (State.enterLoader s res chk) := by
  unfold State.enterLoader
  with_reducible repeat' (first | assumption | apply State.modPw_keeps | apply State.bootReport_keeps | intro _ | split | dsimp only)

theorem State.bootSearch_keeps {s0 s : State} (hs : Keeps s0 s) : Keeps s0 s.bootSearch := by
  have h : ∀ (l : List Nat) (x : BootRun), Keeps s0 x.s → Keeps s0 (l.foldl (bootTry s.fastBank) x).s := by
    intro l
    induction l with
    | nil => exact fun _ hx => hx
    | cons b l ih => exact fun x hx => ih _ (bootTry_keeps hx _ _)
  have hf := h s.candidates { s := s } hs
  unfold State.bootSearch
  dsimp only
  with_reducible repeat' (first | assumption | apply State.enterLoader_keeps | apply State.modPw_keeps | intro _ | split | dsimp only)

theorem bootRom_keeps {s0 s : State} (hs : Keeps s0 s) : Keeps s0 (bootRom s) := by
  unfold bootRom
  with_reducible repeat' first
    | assumption | apply State.bootLbist_keeps | apply State.enterLoader_keeps | apply State.bootSearch_keeps | intro _ | split | dsimp only

theorem execBootRom_keeps (s : State) : ∃ u, execBootRom s = .next u ∧ Keeps s u := by
  refine ⟨_, rfl, ?_⟩
  have h := Keeps.refl s
  with_reducible repeat' (first | assumption | apply inDom_keeps | apply bootRom_keeps | intro _ | split | dsimp only)

theorem State.migrate_keeps {s0 s : State} (hs : Keeps s0 s) : Keeps s0 (State.migrate s) := by
  unfold State.migrate
  with_reducible repeat' first
    | assumption | apply State.setFld_keeps | apply State.modImg_keeps | apply State.eraseData_keeps | intro _ | split | dsimp only

theorem State.bootLeft_keeps {s0 s : State} (hs : Keeps s0 s) : Keeps s0 (State.bootLeft s) := by
  unfold State.bootLeft
  with_reducible repeat' (first | assumption | apply State.modCore_keeps | apply State.drewN_keeps | intro _ | split | dsimp only)

theorem handover_keeps {s0 s : State} (hs : Keeps s0 s) : Keeps s0 (handover s) := by
  unfold handover
  with_reducible repeat' first
    | assumption | apply State.setFld_keeps | apply State.each_keeps | apply State.modPw_keeps | apply State.modCore_keeps | apply State.modMem_keeps
    | apply State.record_keeps | apply State.bootReport_keeps | apply State.migrate_keeps | apply State.bootLeft_keeps | intro _ | split | dsimp only

theorem execHandover_keeps (s : State) : ∃ u, execHandover s = .next u ∧ Keeps s u := by
  refine ⟨_, rfl, ?_⟩
  have h := Keeps.refl s
  with_reducible repeat' (first | assumption | apply inDom_keeps | apply handover_keeps | intro _ | split | dsimp only)

theorem migrationDone_keeps {s0 s : State} (hs : Keeps s0 s) : Keeps s0 (migrationDone s) := by
  unfold migrationDone
  with_reducible repeat' first
    | assumption | apply State.setFld_keeps | apply State.setBitF_keeps | apply State.when_keeps | apply State.modImg_keeps
    | apply State.ssShow_keeps | apply State.record_keeps | apply State.writeRecord_keeps | intro _ | split | dsimp only

theorem execMigrationDone_keeps (s : State) : ∃ u, execMigrationDone s = .next u ∧ Keeps s u := by
  refine ⟨_, rfl, ?_⟩
  have h := Keeps.refl s
  with_reducible repeat' (first | assumption | apply inDom_keeps | apply migrationDone_keeps | intro _ | split | dsimp only)

theorem execActuationReady_keeps (s : State) : ∃ u, execActuationReady s = .next u ∧ Keeps s u := by
  refine ⟨_, rfl, ?_⟩
  have h := Keeps.refl s
  with_reducible repeat' (first | assumption | apply State.modPw_keeps | apply inDom_keeps | intro _ | split | dsimp only)

theorem State.fltGate_keeps {s0 s : State} (hs : Keeps s0 s) (b : Nat) (f : State → State) (hf : ∀ (a0 : State), Keeps s0 a0 → Keeps s0 (f a0)) :
    Keeps s0 (State.fltGate s b f) := by
  unfold State.fltGate
  with_reducible repeat' (first | assumption | apply State.raise_keeps | apply hf | intro _ | split | dsimp only)

theorem fltAck_keeps {s0 s : State} (hs : Keeps s0 s) (b : Nat) (m : Nat) : Keeps s0 (fltAck b m s) := by
  unfold fltAck
  with_reducible repeat' first
    | assumption | apply State.setFld_keeps | apply State.modFlt_keeps | apply State.refreshFlt_keeps | intro _ | split | dsimp only

theorem State.logMove_keeps {s0 s : State} (hs : Keeps s0 s) (b : Nat) (i : Nat) (j : Nat) : Keeps s0 (State.logMove s b i j) := by
  unfold State.logMove
  with_reducible repeat' (first | assumption | apply State.setReg_keeps | intro _ | split | dsimp only)

theorem State.logWipe_keeps {s0 s : State} (hs : Keeps s0 s) (b : Nat) (i : Nat) : Keeps s0 (State.logWipe s b i) := by
  unfold State.logWipe
  with_reducible repeat' (first | assumption | apply State.setReg_keeps | intro _ | split | dsimp only)

theorem logRelease_keeps {s0 s : State} (hs : Keeps s0 s) (b : Nat) (n : Nat) : Keeps s0 (logRelease b n s) := by
  unfold logRelease
  with_reducible repeat' first
    | assumption | apply State.setFld_keeps | apply State.raise_keeps | apply State.each_keeps | apply State.logMove_keeps
    | apply State.logWipe_keeps | intro _ | split | dsimp only

theorem clrStk_keeps {s0 s : State} (hs : Keeps s0 s) (b : Nat) : Keeps s0 (clrStk b s) := by
  unfold clrStk
  with_reducible repeat' first
    | assumption | apply State.setReg_keeps | apply State.setFld_keeps | apply State.each_keeps | intro _ | split | dsimp only

theorem State.unfenceUnit_keeps {s0 s : State} (hs : Keeps s0 s) (u : FUnit) : Keeps s0 (State.unfenceUnit s u) := by
  unfold State.unfenceUnit
  with_reducible repeat' first
    | assumption | apply State.setFld_keeps | apply State.ethUnfence_keeps | apply State.netUnfence_keeps | apply State.setHst_keeps
    | apply State.motUnfence_keeps | apply State.bankToIdle_keeps | apply State.vlvUnfence_keeps | apply State.luxUnfence_keeps
    | apply State.lfUnfence_keeps | apply State.coreRelease_keeps | apply State.seqResume_keeps | intro _ | split | dsimp only

theorem State.unfence_keeps {s0 s : State} (hs : Keeps s0 s) (b : Nat) (i : Nat) (u : FUnit) : Keeps s0 (State.unfence s b i u) := by
  unfold State.unfence
  with_reducible repeat' first
    | assumption | apply State.modFlt_keeps | apply State.traceA_keeps | apply State.refreshFlt_keeps | apply State.unfenceUnit_keeps | intro _
    | split | dsimp only

theorem unfence_keeps {s0 s : State} (hs : Keeps s0 s) (b : Nat) (i : Nat) : Keeps s0 (unfence b i s) := by
  unfold unfence
  with_reducible repeat' (first | assumption | apply State.setFld_keeps | apply State.unfence_keeps | intro _ | split | dsimp only)

theorem State.sOnly_keeps {s0 s : State} (hs : Keeps s0 s) (c : CoreId) (f : State → State) (hf : ∀ (a0 : State), Keeps s0 a0 → Keeps s0 (f a0)) :
    Keeps s0 (State.sOnly s c f) := by
  unfold State.sOnly
  with_reducible repeat' (first | assumption | apply State.raise_keeps | apply hf | intro _ | split | dsimp only)

theorem clr4_keeps {s0 s : State} (hs : Keeps s0 s) : Keeps s0 (clr4 s) := by
  unfold clr4
  with_reducible repeat' (first | assumption | apply State.setFld_keeps | apply State.driveFltn_keeps | intro _ | split | dsimp only)

theorem execFaultAck_keeps (c : CoreId) (b : Fin 16) (m : Word) (s : State) : ∃ u, execFaultAck c b m s = .next u ∧ Keeps s u := by
  refine ⟨_, rfl, ?_⟩
  have h := Keeps.refl s
  with_reducible repeat' first
    | assumption | apply State.ioGate_keeps | apply State.fltGate_keeps | apply fltAck_keeps | intro _ | split | dsimp only

theorem execLogRelease_keeps (c : CoreId) (b : Fin 16) (n : Fin 16) (s : State) : ∃ u, execLogRelease c b n s = .next u ∧ Keeps s u := by
  refine ⟨_, rfl, ?_⟩
  have h := Keeps.refl s
  with_reducible repeat' first
    | assumption | apply State.ioGate_keeps | apply State.fltGate_keeps | apply logRelease_keeps | intro _ | split | dsimp only

theorem execClrstk_keeps (c : CoreId) (b : Fin 16) (s : State) : ∃ u, execClrstk c b s = .next u ∧ Keeps s u := by
  refine ⟨_, rfl, ?_⟩
  have h := Keeps.refl s
  with_reducible repeat' first
    | assumption | apply State.ioGate_keeps | apply State.fltGate_keeps | apply clrStk_keeps | intro _ | split | dsimp only

theorem execUnfence_keeps (c : CoreId) (b : Fin 16) (i : Byte) (s : State) : ∃ u, execUnfence c b i s = .next u ∧ Keeps s u := by
  refine ⟨_, rfl, ?_⟩
  have h := Keeps.refl s
  with_reducible repeat' first
    | assumption | apply State.ioGate_keeps | apply State.unfence_keeps | apply Sys2Proof.Machine.unfence_keeps | apply State.sOnly_keeps | intro _
    | split | dsimp only

theorem execClr4_keeps (c : CoreId) (s : State) : ∃ u, execClr4 c s = .next u ∧ Keeps s u := by
  refine ⟨_, rfl, ?_⟩
  have h := Keeps.refl s
  with_reducible repeat' (first | assumption | apply State.ioGate_keeps | apply State.sOnly_keeps | apply clr4_keeps | intro _ | split | dsimp only)

theorem execFltnMinEnd_keeps (s : State) : ∃ u, execFltnMinEnd s = .next u ∧ Keeps s u := by
  refine ⟨_, rfl, ?_⟩
  have h := Keeps.refl s
  with_reducible repeat' (first | assumption | apply State.setFld_keeps | apply State.driveFltn_keeps | intro _ | split | dsimp only)

theorem State.offerP8_keeps {s0 s : State} (hs : Keeps s0 s) (b : List Byte) : Keeps s0 (State.offerP8 s b).1 := by
  unfold State.offerP8
  with_reducible repeat' first
    | assumption | apply State.zIngress_keeps | (refine State.zIngress_keeps_eq (by assumption) ?_) | intro _ | split | dsimp only

theorem State.offerP8_keeps_eq {s0 s : State} {b : List Byte} {u : State} {y : Bool} (e : State.offerP8 s b = (u, y)) (hs : Keeps s0 s) : Keeps s0
    u := by
  have k := State.offerP8_keeps hs b
  rw [e] at k
  exact k

theorem State.mirrorSend_keeps {s0 s : State} (hs : Keeps s0 s) : Keeps s0 (State.mirrorSend s) := by
  unfold State.mirrorSend
  with_reducible repeat' first
    | assumption | apply State.raise_keeps | apply State.count_keeps | apply State.modFlt_keeps | apply State.record_keeps
    | apply State.offerP8_keeps | (refine State.offerP8_keeps_eq (by assumption) ?_) | intro _ | split | dsimp only

theorem State.mirrorAdd_keeps {s0 s : State} (hs : Keeps s0 s) (r : Spoor) : Keeps s0 (State.mirrorAdd s r) := by
  unfold State.mirrorAdd
  with_reducible repeat' first
    | assumption | apply State.when_keeps | apply State.modFlt_keeps | apply State.mirrorSend_keeps | intro _ | split | dsimp only

theorem State.spoolMove_keeps {s0 s : State} (hs : Keeps s0 s) : Keeps s0 (State.spoolMove s) := by
  unfold State.spoolMove
  with_reducible repeat' (first | assumption | apply State.modFlt_keeps | intro _ | split | dsimp only)

theorem State.portSend_keeps {s0 s : State} (hs : Keeps s0 s) (r : Spoor) (n : Nat) : Keeps s0 (State.portSend s r n) := by
  unfold State.portSend
  with_reducible repeat' (first | assumption | apply State.modFlt_keeps | intro _ | split | dsimp only)

theorem spoorSend_keeps {s0 s : State} (hs : Keeps s0 s) : Keeps s0 (spoorSend s) := by
  unfold spoorSend
  with_reducible repeat' first
    | assumption | apply State.setFld_keeps | apply State.when_keeps | apply State.drew_keeps | apply State.modFlt_keeps
    | apply State.mirrorAdd_keeps | apply State.spoolMove_keeps | apply State.portSend_keeps | intro _ | split | dsimp only

theorem spoorSummary_keeps {s0 s : State} (hs : Keeps s0 s) : Keeps s0 (spoorSummary s) := by
  unfold spoorSummary
  with_reducible repeat' first
    | assumption | apply State.setFld_keeps | apply State.modFlt_keeps | apply State.record_keeps | intro _ | split | dsimp only

theorem execSpoorRecordSend_keeps (s : State) : ∃ u, execSpoorRecordSend s = .next u ∧ Keeps s u := by
  refine ⟨_, rfl, ?_⟩
  have h := Keeps.refl s
  with_reducible repeat' (first | assumption | apply inDom_keeps | apply spoorSend_keeps | intro _ | split | dsimp only)

theorem execSpoorSummary_keeps (s : State) : ∃ u, execSpoorSummary s = .next u ∧ Keeps s u := by
  refine ⟨_, rfl, ?_⟩
  have h := Keeps.refl s
  with_reducible repeat' (first | assumption | apply inDom_keeps | apply spoorSummary_keeps | intro _ | split | dsimp only)

theorem execMirrorFrameSend_keeps (s : State) : ∃ u, execMirrorFrameSend s = .next u ∧ Keeps s u := by
  refine ⟨_, rfl, ?_⟩
  have h := Keeps.refl s
  with_reducible repeat' (first | assumption | apply inDom_keeps | apply State.mirrorSend_keeps | intro _ | split | dsimp only)

theorem softTrace_keeps {s0 s : State} (hs : Keeps s0 s) (c : CoreId) (v : Word) : Keeps s0 (softTrace c v s) := by
  unfold softTrace
  with_reducible repeat' (first | assumption | apply State.traceC_keeps | intro _ | split | dsimp only)

theorem execSoftTrace_keeps (c : CoreId) (v : Word) (s : State) : ∃ u, execSoftTrace c v s = .next u ∧ Keeps s u := by
  refine ⟨_, rfl, ?_⟩
  have h := Keeps.refl s
  with_reducible repeat' (first | assumption | apply State.ioGate_keeps | apply softTrace_keeps | intro _ | split | dsimp only)

theorem State.brTake_keeps {s0 s : State} (hs : Keeps s0 s) (f : BrFrame) (typ : Nat) (g : List Byte → State → State) (hg : ∀ (a0 : List Byte) (a1
    : State), Keeps s0 a1 → Keeps s0 (g a0 a1)) : Keeps s0 (State.brTake s f typ g) := by
  unfold State.brTake
  with_reducible repeat' first
    | assumption | apply State.setFld_keeps | apply State.count_keeps | apply State.record_keeps | apply hg | intro _ | split | dsimp only

theorem State.brStates_keeps {s0 s : State} (hs : Keeps s0 s) : Keeps s0 (State.brStates s) := by
  unfold State.brStates
  with_reducible repeat' (first | assumption | apply State.modBrc_keeps | apply State.brSend_keeps | intro _ | split | dsimp only)

theorem State.brRefresh_keeps {s0 s : State} (hs : Keeps s0 s) (e : Nat) : Keeps s0 (State.brRefresh s e) := by
  unfold State.brRefresh
  with_reducible repeat' first
    | assumption | apply State.when_keeps | apply State.setHst_keeps | apply State.brMark_keeps | intro _ | split | dsimp only

theorem State.brConflict_keeps {s0 s : State} (hs : Keeps s0 s) (pid : Nat) : Keeps s0 (State.brConflict s pid) := by
  unfold State.brConflict
  with_reducible repeat' first
    | assumption | apply State.each_keeps | apply State.modBrc_keeps | apply State.brEvt_keeps | apply State.record_keeps
    | apply State.brRefresh_keeps | intro _ | split | dsimp only

theorem State.brAct_keeps {s0 s : State} (hs : Keeps s0 s) : Keeps s0 (State.brAct s) := by
  unfold State.brAct
  with_reducible repeat' (first | assumption | apply State.setFld_keeps | intro _ | split | dsimp only)

theorem State.brInvalid_keeps {s0 s : State} (hs : Keeps s0 s) (e : Nat) : Keeps s0 (State.brInvalid s e) := by
  unfold State.brInvalid
  with_reducible repeat' (first | assumption | apply State.setFld_keeps | apply State.brRefresh_keeps | intro _ | split | dsimp only)

theorem State.brTable_keeps {s0 s : State} (hs : Keeps s0 s) (par : Nat) (p : List Byte) : Keeps s0 (State.brTable s par p) := by
  unfold State.brTable
  with_reducible repeat' first
    | assumption | apply State.each_keeps | apply State.modBrc_keeps | apply State.brEvt_keeps | apply State.record_keeps | apply State.brAct_keeps
    | apply State.brInvalid_keeps | intro _ | split | dsimp only

theorem State.brUp_keeps {s0 s : State} (hs : Keeps s0 s) : Keeps s0 (State.brUp s) := by
  unfold State.brUp
  with_reducible repeat' first
    | assumption | apply State.setFld_keeps | apply State.each_keeps | apply State.modBrc_keeps | apply State.brEvt_keeps
    | apply State.brRefresh_keeps | intro _ | split | dsimp only

theorem State.brSync_keeps {s0 s : State} (hs : Keeps s0 s) (hearts : Nat) : Keeps s0 (State.brSync s hearts) := by
  unfold State.brSync
  with_reducible repeat' (first | assumption | apply State.setFld_keeps | apply State.modBrc_keeps | intro _ | split | dsimp only)

theorem State.brTakeOne_keeps {s0 s : State} (hs : Keeps s0 s) (e : Nat) : Keeps s0 (State.brTakeOne s e) := by
  unfold State.brTakeOne
  with_reducible repeat' first
    | assumption | apply State.setFld_keeps | apply State.when_keeps | apply State.setHst_keeps | apply State.brMark_keeps
    | apply State.hscApply_keeps | intro _ | split | dsimp only

theorem State.brTakeover_keeps {s0 s : State} (hs : Keeps s0 s) (l : List Nat) : Keeps s0 (State.brTakeover s l) := by
  unfold State.brTakeover
  with_reducible repeat' first
    | assumption | apply State.setFld_keeps | apply State.each_keeps | apply State.brEvt_keeps | apply State.record_keeps
    | apply State.brTakeOne_keeps | intro _ | split | dsimp only

theorem State.brWhole_keeps {s0 s : State} (hs : Keeps s0 s) : Keeps s0 (State.brWhole s) := by
  unfold State.brWhole
  with_reducible repeat' (first | assumption | apply State.modBrc_keeps | apply State.brTakeover_keeps | intro _ | split | dsimp only)

theorem State.brLoss_keeps {s0 s : State} (hs : Keeps s0 s) : Keeps s0 (State.brLoss s) := by
  unfold State.brLoss
  with_reducible repeat' first
    | assumption | apply State.setFld_keeps | apply State.count_keeps | apply State.modBrc_keeps | apply State.brEvt_keeps | apply State.record_keeps
    | apply State.brWhole_keeps | intro _ | split | dsimp only

theorem State.brReturn_keeps {s0 s : State} (hs : Keeps s0 s) (e : Nat) : Keeps s0 (State.brReturn s e) := by
  unfold State.brReturn
  with_reducible repeat' first
    | assumption | apply State.setFld_keeps | apply State.brMark_keeps | apply State.toMirror_keeps | intro _ | split | dsimp only

theorem State.brLink_keeps {s0 s : State} (hs : Keeps s0 s) : Keeps s0 (State.brLink s) := by
  unfold State.brLink
  with_reducible repeat' first
    | assumption | apply State.modBrc_keeps | apply State.brUp_keeps | apply State.brSync_keeps | intro _ | split | dsimp only

theorem State.brHeart_keeps {s0 s : State} (hs : Keeps s0 s) (pid : Nat) (p : List Byte) : Keeps s0 (State.brHeart s pid p) := by
  unfold State.brHeart
  with_reducible repeat' first
    | assumption | apply State.setFld_keeps | apply State.when_keeps | apply State.each_keeps | apply State.brEvt_keeps
    | apply State.brConflict_keeps | apply State.brAct_keeps | apply State.brTakeover_keeps | apply State.brReturn_keeps | apply State.brLink_keeps
    | intro _ | split | dsimp only

theorem State.brState_keeps {s0 s : State} (hs : Keeps s0 s) (p : List Byte) : Keeps s0 (State.brState s p) := by
  unfold State.brState
  with_reducible repeat' first
    | assumption | apply State.setFld_keeps | apply State.when_keeps | apply State.brTakeover_keeps | intro _ | split | dsimp only

theorem State.brYieldIn_keeps {s0 s : State} (hs : Keeps s0 s) : Keeps s0 (State.brYieldIn s) := by
  unfold State.brYieldIn
  with_reducible repeat' (first | assumption | apply State.brEvt_keeps | apply State.brWhole_keeps | intro _ | split | dsimp only)

theorem State.brResume_keeps {s0 s : State} (hs : Keeps s0 s) (e : Nat) (d : Nat) : Keeps s0 (State.brResume s e d) := by
  unfold State.brResume
  with_reducible repeat' first
    | assumption | apply State.modBrc_keeps | apply State.setHst_keeps | apply State.hscApply_keeps | intro _ | split | dsimp only

theorem State.brHandback_keeps {s0 s : State} (hs : Keeps s0 s) (p : List Byte) : Keeps s0 (State.brHandback s p) := by
  unfold State.brHandback
  with_reducible repeat' first
    | assumption | apply State.each_keeps | apply State.brEvt_keeps | apply State.brResume_keeps | intro _ | split | dsimp only

theorem State.brQuiet_keeps {s0 s : State} (hs : Keeps s0 s) (p : List Byte) : Keeps s0 (State.brQuiet s p) := by
  unfold State.brQuiet
  with_reducible repeat' first
    | assumption | apply State.setFld_keeps | apply State.modBrc_keeps | apply State.brSend_keeps | intro _ | split | dsimp only

theorem brHeartSend_keeps {s0 s : State} (hs : Keeps s0 s) : Keeps s0 (brHeartSend s) := by
  unfold brHeartSend
  with_reducible repeat' (first | assumption | apply State.modBrc_keeps | apply State.brSend_keeps | intro _ | split | dsimp only)

theorem State.brHandbackOut_keeps {s0 s : State} (hs : Keeps s0 s) : Keeps s0 (State.brHandbackOut s) := by
  unfold State.brHandbackOut
  with_reducible repeat' (first | assumption | apply State.brSend_keeps | intro _ | split | dsimp only)

theorem State.brQuietOut_keeps {s0 s : State} (hs : Keeps s0 s) : Keeps s0 (State.brQuietOut s) := by
  unfold State.brQuietOut
  with_reducible repeat' (first | assumption | apply State.modBrc_keeps | apply State.brSend_keeps | intro _ | split | dsimp only)

theorem State.brWake_keeps {s0 s : State} (hs : Keeps s0 s) : Keeps s0 (State.brWake s) := by
  unfold State.brWake
  with_reducible repeat' first
    | assumption | apply State.when_keeps | apply State.modBrc_keeps | apply State.brSync_keeps | intro _ | split | dsimp only

theorem State.brMir_keeps {s0 s : State} (hs : Keeps s0 s) (e : Nat) (old : Nat) : Keeps s0 (State.brMir s e old) := by
  unfold State.brMir
  with_reducible repeat' first
    | assumption | apply State.setFld_keeps | apply State.when_keeps | apply State.setHst_keeps | apply State.brRefresh_keeps | intro _ | split
    | dsimp only

theorem State.brEnable_keeps {s0 s : State} (hs : Keeps s0 s) (on : Bool) : Keeps s0 (State.brEnable s on) := by
  unfold State.brEnable
  with_reducible repeat' (first | assumption | apply State.setFld_keeps | apply State.modBrc_keeps | intro _ | split | dsimp only)

theorem execBraceHeartSend_keeps (s : State) : ∃ u, execBraceHeartSend s = .next u ∧ Keeps s u := by
  refine ⟨_, rfl, ?_⟩
  have h := Keeps.refl s
  with_reducible repeat' (first | assumption | apply inDom_keeps | apply brHeartSend_keeps | intro _ | split | dsimp only)

theorem execHeart_keeps (b : List Byte) (crc : BitVec 16) (code : Bool) (pid : BitVec 48) (s : State) : ∃ u, execHeart b crc code pid s = .next u ∧
    Keeps s u := by
  refine ⟨_, rfl, ?_⟩
  have h := Keeps.refl s
  with_reducible repeat' first
    | assumption | apply inDom_keeps | apply State.brTake_keeps | apply State.brHeart_keeps | intro _ | split | dsimp only

theorem execBraceStateFrame_keeps (b : List Byte) (crc : BitVec 16) (code : Bool) (s : State) : ∃ u, execBraceStateFrame b crc code s = .next u ∧
    Keeps s u := by
  refine ⟨_, rfl, ?_⟩
  have h := Keeps.refl s
  with_reducible repeat' first
    | assumption | apply inDom_keeps | apply State.brTake_keeps | apply State.brState_keeps | intro _ | split | dsimp only

theorem execTable_keeps (b : List Byte) (crc : BitVec 16) (code : Bool) (par : BitVec 16) (s : State) : ∃ u, execTable b crc code par s = .next u ∧
    Keeps s u := by
  refine ⟨_, rfl, ?_⟩
  have h := Keeps.refl s
  with_reducible repeat' first
    | assumption | apply inDom_keeps | apply State.brTake_keeps | apply State.brTable_keeps | intro _ | split | dsimp only

theorem execYield_keeps (b : List Byte) (crc : BitVec 16) (code : Bool) (s : State) : ∃ u, execYield b crc code s = .next u ∧ Keeps s u := by
  refine ⟨_, rfl, ?_⟩
  have h := Keeps.refl s
  with_reducible repeat' first
    | assumption | apply inDom_keeps | apply State.brTake_keeps | apply State.brYieldIn_keeps | intro _ | split | dsimp only

theorem execHandback_keeps (b : List Byte) (crc : BitVec 16) (code : Bool) (s : State) : ∃ u, execHandback b crc code s = .next u ∧ Keeps s u := by
  refine ⟨_, rfl, ?_⟩
  have h := Keeps.refl s
  with_reducible repeat' first
    | assumption | apply inDom_keeps | apply State.brTake_keeps | apply State.brHandback_keeps | intro _ | split | dsimp only

theorem execQuiet_keeps (b : List Byte) (crc : BitVec 16) (code : Bool) (s : State) : ∃ u, execQuiet b crc code s = .next u ∧ Keeps s u := by
  refine ⟨_, rfl, ?_⟩
  have h := Keeps.refl s
  with_reducible repeat' first
    | assumption | apply inDom_keeps | apply State.brTake_keeps | apply State.brQuiet_keeps | intro _ | split | dsimp only

theorem execBraceCommaAlign_keeps (s : State) : ∃ u, execBraceCommaAlign s = .next u ∧ Keeps s u := by
  refine ⟨_, rfl, ?_⟩
  have h := Keeps.refl s
  with_reducible repeat' (first | assumption | apply inDom_keeps | apply State.brSync_keeps | intro _ | split | dsimp only)

theorem execBraceMiss_keeps (s : State) : ∃ u, execBraceMiss s = .next u ∧ Keeps s u := by
  refine ⟨_, rfl, ?_⟩
  have h := Keeps.refl s
  with_reducible repeat' (first | assumption | apply inDom_keeps | apply State.brLoss_keeps | intro _ | split | dsimp only)

theorem execBraceFswOpen_keeps (s : State) : ∃ u, execBraceFswOpen s = .next u ∧ Keeps s u := by
  refine ⟨_, rfl, ?_⟩
  have h := Keeps.refl s
  with_reducible repeat' (first | assumption | apply inDom_keeps | apply State.brWhole_keeps | intro _ | split | dsimp only)

theorem State.claimed_keeps {s0 s : State} (hs : Keeps s0 s) (c : Nat) : Keeps s0 (State.claimed s c) := by
  unfold State.claimed
  with_reducible repeat' (first | assumption | apply State.setBitF_keeps | intro _ | split | dsimp only)

theorem State.ringEnable_keeps {s0 s : State} (hs : Keeps s0 s) (r : Nat) : Keeps s0 (State.ringEnable s r) := by
  unfold State.ringEnable
  with_reducible repeat' first
    | assumption | apply State.setReg_keeps | apply State.setFld_keeps | apply State.modRng_keeps | intro _ | split | dsimp only

theorem State.provUndo_keeps {s0 s : State} (hs : Keeps s0 s) (d : Desc) : Keeps s0 (State.provUndo s d) := by
  unfold State.provUndo
  with_reducible repeat' first
    | assumption | apply State.hscUndo_keeps | apply State.motUndo_keeps | apply State.vlvUndo_keeps | apply State.luxUndo_keeps | intro _ | split
    | dsimp only

theorem State.withdraw_keeps {s0 s : State} (hs : Keeps s0 s) (d : Desc) (st : Nat) : Keeps s0 (State.withdraw s d st) := by
  unfold State.withdraw
  with_reducible repeat' (first | assumption | apply State.finish_keeps | apply State.provUndo_keeps | intro _ | split | dsimp only)

theorem State.abortDesc_keeps {s0 s : State} (hs : Keeps s0 s) (d : Desc) : Keeps s0 (State.abortDesc s d) := by
  unfold State.abortDesc
  with_reducible repeat' (first | assumption | apply State.withdraw_keeps | intro _ | split | dsimp only)

theorem State.ringDisable_keeps {s0 s : State} (hs : Keeps s0 s) (r : Nat) : Keeps s0 (State.ringDisable s r) := by
  unfold State.ringDisable
  with_reducible repeat' first
    | assumption | apply State.setFld_keeps | apply State.each_keeps | apply State.txRelease_keeps | apply State.zswRingOff_keeps
    | apply State.abortDesc_keeps | intro _ | split | dsimp only

theorem State.doorbell_keeps {s0 s : State} (hs : Keeps s0 s) (o : Nat) (r : Nat) (v : Nat) : Keeps s0 (State.doorbell s o r v) := by
  unfold State.doorbell
  with_reducible repeat' first
    | assumption | apply State.setFld_keeps | apply State.raiseIf_keeps | apply State.traceC_keeps | intro _ | split | dsimp only

theorem execDoorbell_keeps (c : CoreId) (r : Fin 64) (v : BitVec 10) (s : State) : ∃ u, execDoorbell c r v s = .next u ∧ Keeps s u := by
  refine ⟨_, rfl, ?_⟩
  have h := Keeps.refl s
  with_reducible repeat' first
    | assumption | apply State.ioGate_keeps | apply State.drainAll_keeps | apply State.doorbell_keeps | intro _ | split | dsimp only

theorem State.hold_keeps {s0 s : State} (hs : Keeps s0 s) (d : Desc) : Keeps s0 (State.hold s d) := by
  unfold State.hold
  with_reducible repeat' (first | assumption | apply State.setDescs_keeps | intro _ | split | dsimp only)

theorem State.acceptEvent_keeps {s0 s : State} (hs : Keeps s0 s) (d : Desc) : Keeps s0 (State.acceptEvent s d) := by
  unfold State.acceptEvent
  with_reducible repeat' (first | assumption | apply State.seqEvent_keeps | intro _ | split | dsimp only)

theorem State.acceptProv_keeps {s0 s : State} (hs : Keeps s0 s) (d : Desc) : Keeps s0 (State.acceptProv s d) := by
  unfold State.acceptProv
  with_reducible repeat' first
    | assumption | apply State.count_keeps | apply State.when_keeps | apply State.setProvp_keeps | apply State.finish_keeps
    | apply State.provStart_keeps | apply State.hold_keeps | apply State.acceptEvent_keeps | intro _ | split | dsimp only

theorem State.confirm_keeps {s0 s : State} (hs : Keeps s0 s) (d : Desc) (p : Desc) : Keeps s0 (State.confirm s d p) := by
  unfold State.confirm
  with_reducible repeat' first
    | assumption | apply State.count_keeps | apply State.finish_keeps | apply State.hold_keeps | apply State.acceptEvent_keeps | intro _ | split
    | dsimp only

theorem State.enter_keeps {s0 s : State} (hs : Keeps s0 s) (d : Desc) : Keeps s0 (State.enter s d) := by
  unfold State.enter
  with_reducible repeat' first
    | assumption | apply State.finish_keeps | apply State.pxNext_keeps | apply State.luxAccept_keeps | apply State.hold_keeps
    | apply State.acceptEvent_keeps | apply State.acceptProv_keeps | apply State.confirm_keeps | intro _ | split | dsimp only

theorem State.accept_keeps {s0 s : State} (hs : Keeps s0 s) (d : Desc) : Keeps s0 (State.accept s d) := by
  unfold State.accept
  with_reducible repeat' first
    | assumption | apply State.portRead_keeps | apply State.finish_keeps | apply State.hold_keeps | apply State.enter_keeps | intro _ | split
    | dsimp only

theorem State.fetch_keeps {s0 s : State} (hs : Keeps s0 s) (e : Nat) (r : Nat) : Keeps s0 (State.fetch s e r) := by
  unfold State.fetch
  with_reducible repeat' first
    | assumption | apply State.setFld_keeps | apply State.modRng_keeps | apply State.portRead_keeps | apply State.finish_keeps
    | apply State.hold_keeps | apply State.accept_keeps | intro _ | split | dsimp only

theorem descriptorFetch_keeps {s0 s : State} (hs : Keeps s0 s) (e : Nat) : Keeps s0 (descriptorFetch e s) := by
  unfold descriptorFetch
  with_reducible repeat' (first | assumption | apply State.fetch_keeps | intro _ | split | dsimp only)

theorem execDescriptorFetch_keeps (e : Fin 9) (s : State) : ∃ u, execDescriptorFetch e s = .next u ∧ Keeps s u := by
  refine ⟨_, rfl, ?_⟩
  have h := Keeps.refl s
  with_reducible repeat' (first | assumption | apply inDom_keeps | apply descriptorFetch_keeps | intro _ | split | dsimp only)

theorem State.actDesc_keeps {s0 s : State} (hs : Keeps s0 s) (d : Desc) (held : Bool) : Keeps s0 (State.actDesc s d held) := by
  unfold State.actDesc
  with_reducible repeat' first
    | assumption | apply State.finishDone_keeps | apply lfShown_keeps | apply lfField_keeps | apply State.hscAct_keeps | apply State.motAct_keeps
    | apply State.vlvAction_keeps | apply State.luxAct_keeps | apply busTx_keeps | apply hdr_keeps | apply linWake_keeps | apply txFrame_keeps
    | intro _ | split | dsimp only

theorem execDescriptorNop_keeps (r : Fin 64) (i : Fin 1024) (s : State) : ∃ u, execDescriptorNop r i s = .next u ∧ Keeps s u := by
  refine ⟨_, rfl, ?_⟩
  have h := Keeps.refl s
  with_reducible repeat' (first | assumption | apply State.onReady_keeps | apply State.actDesc_keeps | intro _ | split | dsimp only)

theorem deadline_keeps {s0 s : State} (hs : Keeps s0 s) (r : Nat) (i : Nat) (late : Bool) (held : Bool) : Keeps s0 (deadline r i late held s) := by
  unfold deadline
  with_reducible repeat' first
    | assumption | apply State.finish_keeps | apply State.setDesc_keeps | apply State.unwarm_keeps | apply State.confSupersede_keeps
    | apply State.provStart_keeps | apply State.provUndo_keeps | apply State.withdraw_keeps | apply State.actDesc_keeps | intro _ | split
    | dsimp only

theorem execDeadline_keeps (r : Fin 64) (i : Fin 1024) (late : Bool) (held : Bool) (s : State) : ∃ u, execDeadline r i late held s = .next u ∧
    Keeps s u := by
  refine ⟨_, rfl, ?_⟩
  have h := Keeps.refl s
  with_reducible repeat' (first | assumption | apply deadline_keeps | intro _ | split | dsimp only)

theorem execTprovExpiry_keeps (r : Fin 64) (i : Fin 1024) (s : State) : ∃ u, execTprovExpiry r i s = .next u ∧ Keeps s u := by
  refine ⟨_, rfl, ?_⟩
  have h := Keeps.refl s
  with_reducible repeat' first
    | assumption | apply State.count_keeps | apply inDom_keeps | apply State.finish_keeps | apply lfShown_keeps | apply State.provUndo_keeps
    | intro _ | split | dsimp only

theorem execProvleak_keeps (r : Fin 64) (i : Fin 1024) (s : State) : ∃ u, execProvleak r i s = .next u ∧ Keeps s u := by
  refine ⟨_, rfl, ?_⟩
  have h := Keeps.refl s
  with_reducible repeat' first
    | assumption | apply State.raise_keeps | apply inDom_keeps | apply State.finish_keeps | apply State.record_keeps | apply State.provUndo_keeps
    | intro _ | split | dsimp only

theorem State.shadowOcfg_keeps {s0 s : State} (hs : Keeps s0 s) : Keeps s0 (State.shadowOcfg s) := by
  unfold State.shadowOcfg
  with_reducible repeat' (first | assumption | apply State.modRng_keeps | intro _ | split | dsimp only)

theorem begin__keeps {s0 s : State} (hs : Keeps s0 s) (d : Desc) : Keeps s0 (begin_ d s) := by
  unfold begin_
  with_reducible repeat' first
    | assumption | apply State.setFld_keeps | apply State.when_keeps | apply State.modRng_keeps | apply State.finish_keeps
    | apply State.shadowOcfg_keeps | intro _ | split | dsimp only

theorem execBegin_keeps (r : Fin 64) (i : Fin 1024) (s : State) : ∃ u, execBegin r i s = .next u ∧ Keeps s u := by
  refine ⟨_, rfl, ?_⟩
  have h := Keeps.refl s
  with_reducible repeat' first
    | assumption | apply inDom_keeps | apply State.finish_keeps | apply State.onReady_keeps | apply begin__keeps | intro _ | split | dsimp only

theorem commit_keeps {s0 s : State} (hs : Keeps s0 s) (d : Desc) : Keeps s0 (commit d s) := by
  unfold commit
  with_reducible repeat' first
    | assumption | apply State.setFld_keeps | apply State.modRng_keeps | apply State.txRelease_keeps | apply State.finish_keeps
    | apply State.setDesc_keeps | simp only [id] | intro _ | split | dsimp only

theorem execCommit_keeps (r : Fin 64) (i : Fin 1024) (s : State) : ∃ u, execCommit r i s = .next u ∧ Keeps s u := by
  refine ⟨_, rfl, ?_⟩
  have h := Keeps.refl s
  with_reducible repeat' (first | assumption | apply inDom_keeps | apply State.onReady_keeps | apply commit_keeps | intro _ | split | dsimp only)

theorem State.applyShadow_keeps {s0 s : State} (hs : Keeps s0 s) (o : Nat) : Keeps s0 (State.applyShadow s o) := by
  unfold State.applyShadow
  with_reducible repeat' (first | assumption | apply State.setReg_keeps | apply State.each_keeps | intro _ | split | dsimp only)

theorem State.ocfgCommit_keeps {s0 s : State} (hs : Keeps s0 s) (was : State) (p : Option Nat) (n : Nat) : Keeps s0 (s.ocfgCommit was p n) := by
  unfold State.ocfgCommit
  dsimp only
  split
  · exact Keeps.lit hs
  · exact Keeps.lit (State.setReg_keeps hs _ _)

theorem State.seqCommitted_keeps {s0 s : State} {was : State} (hs : Keeps s0 s) (point : Option Nat) : Keeps s0 (State.seqCommitted s was point) := by
  unfold State.seqCommitted
  with_reducible repeat' (first | assumption | apply State.each_keeps | apply State.ocfgCommit_keeps | intro _ | split | dsimp only)

theorem State.committed_keeps {s0 s : State} {was : State} (hs : Keeps s0 s) (o : Nat) (point : Option Nat) : Keeps s0 (State.committed s was o
    point) := by
  unfold State.committed
  with_reducible repeat' first
    | assumption | apply State.when_keeps | apply State.hscCommitted_keeps | apply State.motCommitted_keeps | apply State.vlvCommitted_keeps
    | apply State.luxCommitted_keeps | apply State.netCommitted_keeps | apply State.zswCommitted_keeps | apply State.ethCommitted_keeps
    | apply State.inpCommitted_keeps | apply State.thmCommitted_keeps | apply State.memCommitted_keeps | apply State.seqCommitted_keeps | intro _
    | split | dsimp only

theorem commitPoint_keeps {s0 s : State} (hs : Keeps s0 s) (o : Nat) (late : Bool) : Keeps s0 (commitPoint o late s) := by
  unfold commitPoint
  with_reducible repeat' first
    | assumption | apply State.txRelease_keeps | apply State.finish_keeps | apply State.applyShadow_keeps | apply State.committed_keeps
    | simp only [id] | intro _ | split | dsimp only

theorem execCommitPoint_keeps (o : Fin 8) (late : Bool) (s : State) : ∃ u, execCommitPoint o late s = .next u ∧ Keeps s u := by
  refine ⟨_, rfl, ?_⟩
  have h := Keeps.refl s
  with_reducible repeat' (first | assumption | apply inDom_keeps | apply commitPoint_keeps | intro _ | split | dsimp only)

theorem rollback_keeps {s0 s : State} (hs : Keeps s0 s) (d : Desc) : Keeps s0 (rollback d s) := by
  unfold rollback
  with_reducible repeat' (first | assumption | apply State.txRelease_keeps | apply State.finish_keeps | simp only [id] | intro _ | split | dsimp only)

theorem execRollback_keeps (r : Fin 64) (i : Fin 1024) (s : State) : ∃ u, execRollback r i s = .next u ∧ Keeps s u := by
  refine ⟨_, rfl, ?_⟩
  have h := Keeps.refl s
  with_reducible repeat' (first | assumption | apply inDom_keeps | apply State.onReady_keeps | apply rollback_keeps | intro _ | split | dsimp only)

theorem txTimeout_keeps {s0 s : State} (hs : Keeps s0 s) (o : Nat) : Keeps s0 (txTimeout o s) := by
  unfold txTimeout
  with_reducible repeat' first
    | assumption | apply State.raise_keeps | apply State.txRelease_keeps | apply State.record_keeps | intro _ | split | dsimp only

theorem execTxTimeout_keeps (o : Fin 8) (s : State) : ∃ u, execTxTimeout o s = .next u ∧ Keeps s u := by
  refine ⟨_, rfl, ?_⟩
  have h := Keeps.refl s
  with_reducible repeat' (first | assumption | apply inDom_keeps | apply txTimeout_keeps | intro _ | split | dsimp only)

theorem State.setShf_keeps {s0 s : State} (hs : Keeps s0 s) (k : Nat) (v : Nat) : Keeps s0 (State.setShf s k v) := by
  unfold State.setShf
  with_reducible repeat' (first | assumption | apply State.setFld_keeps | intro _ | split | dsimp only)

theorem State.smfUp_keeps {s0 s : State} (hs : Keeps s0 s) (k : Nat) : Keeps s0 (State.smfUp s k) := by
  unfold State.smfUp
  with_reducible repeat' (first | assumption | apply State.setFld_keeps | intro _ | split | dsimp only)

theorem State.noteReply_keeps {s0 s : State} (hs : Keeps s0 s) (k : Nat) (h : ZHead) (v : Nat) : Keeps s0 (State.noteReply s k h v) := by
  unfold State.noteReply
  with_reducible repeat' (first | assumption | apply State.modRng_keeps | apply State.setShf_keeps | intro _ | split | dsimp only)

theorem State.respond_keeps {s0 s : State} (hs : Keeps s0 s) (k : Nat) (b : List Byte) : Keeps s0 (State.respond s k b) := by
  unfold State.respond
  with_reducible repeat' first
    | assumption | apply State.modRng_keeps | apply State.offerP8_keeps | (refine State.offerP8_keeps_eq (by assumption) ?_) | intro _ | split
    | dsimp only

theorem State.acceptance_keeps {s0 s : State} (hs : Keeps s0 s) (k : Nat) (ring : Nat) (st : Nat) (req : Nat) (first : Nat) (n : Nat) : Keeps s0
    (State.acceptance s k ring st req first n) := by
  unfold State.acceptance
  with_reducible repeat' (first | assumption | apply State.smfUp_keeps | apply State.respond_keeps | intro _ | split | dsimp only)

theorem State.refuseReq_keeps {s0 s : State} (hs : Keeps s0 s) (k : Nat) (ring : Nat) (st : Nat) (req : Nat) : Keeps s0 (State.refuseReq s k ring
    st req) := by
  unfold State.refuseReq
  with_reducible repeat' (first | assumption | apply State.drew_keeps | apply State.acceptance_keeps | intro _ | split | dsimp only)

theorem State.postReq_keeps {s0 s : State} (hs : Keeps s0 s) (k : Nat) (ring : Nat) (n : Nat) (req : Nat) (p : List Byte) : Keeps s0 (State.postReq
    s k ring n req p) := by
  unfold State.postReq
  with_reducible repeat' first
    | assumption | apply State.each_keeps | apply State.modRng_keeps | apply State.wr_keeps | apply State.doorbell_keeps | intro _ | split
    | dsimp only

theorem State.reqJudge_keeps {s0 s : State} (hs : Keeps s0 s) (k : Nat) (p : List Byte) : Keeps s0 (State.reqJudge s k p) := by
  unfold State.reqJudge
  with_reducible repeat' first
    | assumption | apply State.acceptance_keeps | apply State.refuseReq_keeps | apply State.postReq_keeps | intro _ | split | dsimp only

theorem State.rdrop_keeps {s0 s : State} (hs : Keeps s0 s) : Keeps s0 (State.rdrop s) := by
  unfold State.rdrop
  with_reducible repeat' (first | assumption | apply State.raise_keeps | intro _ | split | dsimp only)

theorem State.agentFrame_keeps {s0 s : State} (hs : Keeps s0 s) (port : Nat) (b : List Byte) : Keeps s0 (State.agentFrame s port b) := by
  unfold State.agentFrame
  with_reducible repeat' first
    | assumption | apply State.count_keeps | apply State.record_keeps | apply State.noteReply_keeps | apply State.reqJudge_keeps
    | apply State.rdrop_keeps | intro _ | split | dsimp only

theorem remoteRequest_keeps {s0 s : State} (hs : Keeps s0 s) : Keeps s0 (remoteRequest s) := by
  unfold remoteRequest
  with_reducible repeat' (first | assumption | apply State.modZsw_keeps | apply State.agentFrame_keeps | intro _ | split | dsimp only)

theorem execRemoteRequest_keeps (s : State) : ∃ u, execRemoteRequest s = .next u ∧ Keeps s u := by
  refine ⟨_, rfl, ?_⟩
  have h := Keeps.refl s
  with_reducible repeat' (first | assumption | apply inDom_keeps | apply remoteRequest_keeps | intro _ | split | dsimp only)

theorem completionResponse_keeps {s0 s : State} (hs : Keeps s0 s) (k : Nat) : Keeps s0 (completionResponse k s) := by
  unfold completionResponse
  with_reducible repeat' first
    | assumption | apply State.modRng_keeps | apply State.smfUp_keeps | apply State.respond_keeps | intro _ | split | dsimp only

theorem execCompletionResponse_keeps (k : Fin 4) (s : State) : ∃ u, execCompletionResponse k s = .next u ∧ Keeps s u := by
  refine ⟨_, rfl, ?_⟩
  have h := Keeps.refl s
  with_reducible repeat' (first | assumption | apply inDom_keeps | apply completionResponse_keeps | intro _ | split | dsimp only)

theorem State.imNote_keeps {s0 s : State} (hs : Keeps s0 s) (m : IMsg) (h : ZHead) (p : List Byte) : Keeps s0 (State.imNote s m h p) := by
  unfold State.imNote
  with_reducible repeat' (first | assumption | apply State.noteReply_keeps | intro _ | split | dsimp only)

theorem State.imTake_keeps {s0 s : State} (hs : Keeps s0 s) (svc : Option (List Byte)) (types : List Nat) : Keeps s0 (State.imTake s svc types).1
    := by
  unfold State.imTake
  with_reducible repeat' first
    | assumption | apply State.count_keeps | apply State.modImg_keeps | apply State.imNote_keeps | intro _ | split | dsimp only

theorem State.imTake_keeps_eq {s0 s : State} {svc : Option (List Byte)} {types : List Nat} {u : State} {y : Option IMsg} (e : State.imTake s svc
    types = (u, y)) (hs : Keeps s0 s) : Keeps s0 u := by
  have k := State.imTake_keeps hs svc types
  rw [e] at k
  exact k

theorem State.imDrove_keeps {s0 s : State} (hs : Keeps s0 s) (mac : Nat) (p : List Byte) : Keeps s0 (State.imDrove s mac p) := by
  unfold State.imDrove
  with_reducible repeat' first
    | assumption | apply State.offerP8_keeps | (refine State.offerP8_keeps_eq (by assumption) ?_) | intro _ | split | dsimp only

theorem State.imRemote_keeps {s0 s : State} (hs : Keeps s0 s) (k : Nat) (typ : Nat) (sid : Nat) (body : List Byte) : Keeps s0 (State.imRemote s k
    typ sid body) := by
  unfold State.imRemote
  with_reducible repeat' first
    | assumption | apply State.offerP8_keeps | (refine State.offerP8_keeps_eq (by assumption) ?_) | apply State.smfUp_keeps | intro _ | split
    | dsimp only

theorem State.imSay_keeps {s0 s : State} (hs : Keeps s0 s) (src : Nat) (slot : Nat) (mac : Nat) (typ : Nat) (sid : Nat) (body : List Byte) : Keeps
    s0 (State.imSay s src slot mac typ sid body) := by
  unfold State.imSay
  with_reducible repeat' first
    | assumption | apply State.modImg_keeps | apply State.imDrove_keeps | apply State.imRemote_keeps | intro _ | split | dsimp only

theorem State.imAnswer_keeps {s0 s : State} (hs : Keeps s0 s) (m : IMsg) (st : Nat) (next : Nat) : Keeps s0 (State.imAnswer s m st next) := by
  unfold State.imAnswer
  with_reducible repeat' (first | assumption | apply State.imSay_keeps | intro _ | split | dsimp only)

theorem State.imBack_keeps {s0 s : State} (hs : Keeps s0 s) (x : ImgSess) (st : Nat) : Keeps s0 (State.imBack s x st) := by
  unfold State.imBack
  with_reducible repeat' (first | assumption | apply State.imSay_keeps | intro _ | split | dsimp only)

theorem State.imCloseMsg_keeps {s0 s : State} (hs : Keeps s0 s) (x : ImgSess) (st : Nat) : Keeps s0 (State.imCloseMsg s x st) := by
  unfold State.imCloseMsg
  with_reducible repeat' (first | assumption | apply State.imSay_keeps | intro _ | split | dsimp only)

theorem State.imEvt_keeps {s0 s : State} (hs : Keeps s0 s) (i : Nat) : Keeps s0 (State.imEvt s i) := by
  unfold State.imEvt
  with_reducible repeat' (first | assumption | apply State.setBitF_keeps | intro _ | split | dsimp only)

theorem State.setSess_keeps {s0 s : State} (hs : Keeps s0 s) (x : ImgSess) : Keeps s0 (State.setSess s x) := by
  unfold State.setSess
  with_reducible repeat' (first | assumption | apply State.modImg_keeps | intro _ | split | dsimp only)

theorem State.imClose_keeps {s0 s : State} (hs : Keeps s0 s) (st : Nat) : Keeps s0 (State.imClose s st) := by
  unfold State.imClose
  with_reducible repeat' first
    | assumption | apply State.setFld_keeps | apply State.when_keeps | apply State.modImg_keeps | apply State.imgIdle_keeps
    | apply State.modReset_keeps | apply State.record_keeps | apply State.imCloseMsg_keeps | apply State.imEvt_keeps | intro _ | split | dsimp only

theorem State.offerRefuse_keeps {s0 s : State} (hs : Keeps s0 s) (m : IMsg) (st : Nat) : Keeps s0 (State.offerRefuse s m st) := by
  unfold State.offerRefuse
  with_reducible repeat' first
    | assumption | apply State.setFld_keeps | apply State.when_keeps | apply State.record_keeps | apply State.imAnswer_keeps
    | apply State.imEvt_keeps | intro _ | split | dsimp only

theorem State.setDown_keeps {s0 s : State} (hs : Keeps s0 s) (e : Nat) (v : Nat) : Keeps s0 (State.setDown s e v) := by
  unfold State.setDown
  with_reducible repeat' (first | assumption | apply State.setFld_keeps | intro _ | split | dsimp only)

theorem State.downOffer_keeps {s0 s : State} (hs : Keeps s0 s) (x : ImgSess) (e : Nat) : Keeps s0 (State.downOffer s x e) := by
  unfold State.downOffer
  with_reducible repeat' (first | assumption | apply State.modImg_keeps | apply hdr_keeps | apply State.imDrove_keeps | intro _ | split | dsimp only)

theorem State.offerAccept_keeps {s0 s : State} (hs : Keeps s0 s) (m : IMsg) (h : List Word) (pass : Bool) : Keeps s0 (State.offerAccept s m h pass)
    := by
  unfold State.offerAccept
  with_reducible repeat' first
    | assumption | apply State.setReg_keeps | apply State.setFld_keeps | apply State.when_keeps | apply State.each_keeps
    | apply State.eraseCode_keeps | apply hdr_keeps | apply State.imAnswer_keeps | apply State.imEvt_keeps | apply State.setSess_keeps
    | apply State.setDown_keeps | apply State.downOffer_keeps | intro _ | split | dsimp only

theorem State.offerTake_keeps {s0 s : State} (hs : Keeps s0 s) (mv : Nat) (m : IMsg) : Keeps s0 (State.offerTake s mv m) := by
  unfold State.offerTake
  with_reducible repeat' first
    | assumption | apply State.imAnswer_keeps | apply State.offerRefuse_keeps | apply State.offerAccept_keeps | intro _ | split | dsimp only

theorem imgCmd_keeps {s0 s : State} (hs : Keeps s0 s) (f : State → State) (hf : ∀ (a0 : State), Keeps s0 a0 → Keeps s0 (f a0)) : Keeps s0 (imgCmd f
    s) := by
  unfold imgCmd
  with_reducible repeat' (first | assumption | apply State.modImg_keeps | apply inDom_keeps | apply hf | intro _ | split | dsimp only)

theorem imgTake_keeps {s0 s : State} (hs : Keeps s0 s) (svc : Option (List Byte)) (types : List Nat) (f : IMsg → State → State) (hf : ∀ (a0 : IMsg)
    (a1 : State), Keeps s0 a1 → Keeps s0 (f a0 a1)) : Keeps s0 (imgTake svc types f s) := by
  unfold imgTake
  with_reducible repeat' first
    | assumption | apply State.imTake_keeps | (refine State.imTake_keeps_eq (by assumption) ?_) | apply hf | intro _ | split | dsimp only

theorem offer_keeps {s0 s : State} (hs : Keeps s0 s) (svc : Option (List Byte)) (mv : Nat) : Keeps s0 (offer svc mv s) := by
  unfold offer
  with_reducible repeat' (first | assumption | apply State.offerTake_keeps | apply imgTake_keeps | intro _ | split | dsimp only)

theorem State.downFrag_keeps {s0 s : State} (hs : Keeps s0 s) (x : ImgSess) (e : Nat) (ofs : Nat) (d : List Byte) : Keeps s0 (State.downFrag s x e
    ofs d) := by
  unfold State.downFrag
  with_reducible repeat' (first | assumption | apply State.imDrove_keeps | intro _ | split | dsimp only)

theorem State.downBlock_keeps {s0 s : State} (hs : Keeps s0 s) (x : ImgSess) (e : Nat) : Keeps s0 (State.downBlock s x e) := by
  unfold State.downBlock
  with_reducible repeat' (first | assumption | apply State.each_keeps | apply State.downFrag_keeps | intro _ | split | dsimp only)

theorem State.blockJudge_keeps {s0 s : State} (hs : Keeps s0 s) : Keeps s0 (State.blockJudge s) := by
  unfold State.blockJudge
  with_reducible repeat' first
    | assumption | apply State.count_keeps | apply State.each_keeps | apply hdr_keeps | apply State.imBack_keeps | apply State.setSess_keeps
    | apply State.imClose_keeps | apply State.downBlock_keeps | intro _ | split | dsimp only

theorem State.imFinish_keeps {s0 s : State} (hs : Keeps s0 s) : Keeps s0 (State.imFinish s) := by
  unfold State.imFinish
  with_reducible repeat' (first | assumption | apply State.imClose_keeps | intro _ | split | dsimp only)

theorem State.imLast_keeps {s0 s : State} (hs : Keeps s0 s) (x : ImgSess) : Keeps s0 (State.imLast s x) := by
  unfold State.imLast
  with_reducible repeat' first
    | assumption | apply State.setFld_keeps | apply State.setSess_keeps | apply State.imFinish_keeps | intro _ | split | dsimp only

theorem State.imRaise_keeps {s0 s : State} (hs : Keeps s0 s) : Keeps s0 (State.imRaise s) := by
  unfold State.imRaise
  with_reducible repeat' first
    | assumption | apply State.setReg_keeps | apply State.imBack_keeps | apply State.setSess_keeps | apply State.imLast_keeps | intro _ | split
    | dsimp only

theorem State.imAdvance_keeps {s0 s : State} (hs : Keeps s0 s) : Keeps s0 (State.imAdvance s) := by
  unfold State.imAdvance
  with_reducible repeat' first
    | assumption | apply State.each_keeps | apply State.blockJudge_keeps | apply State.imRaise_keeps | intro _ | split | dsimp only

theorem State.blockTake_keeps {s0 s : State} (hs : Keeps s0 s) (m : IMsg) : Keeps s0 (State.blockTake s m) := by
  unfold State.blockTake
  with_reducible repeat' first
    | assumption | apply hdr_keeps | apply State.imBack_keeps | apply State.setSess_keeps | apply State.imAdvance_keeps | intro _ | split
    | dsimp only

theorem block_keeps {s0 s : State} (hs : Keeps s0 s) (svc : Option (List Byte)) : Keeps s0 (block svc s) := by
  unfold block
  with_reducible repeat' (first | assumption | apply imgTake_keeps | apply State.blockTake_keeps | intro _ | split | dsimp only)

theorem State.storeRows_keeps {s0 s : State} (hs : Keeps s0 s) (x : ImgSess) (b : List Byte) : Keeps s0 (State.storeRows s x b) := by
  unfold State.storeRows
  with_reducible repeat' first
    | assumption | apply State.each_keeps | apply State.progRow_keeps | apply State.setSess_keeps | intro _ | split | dsimp only

theorem imageBlockStored_keeps {s0 s : State} (hs : Keeps s0 s) (bad : Bool) : Keeps s0 (imageBlockStored bad s) := by
  unfold imageBlockStored
  with_reducible repeat' first
    | assumption | apply State.imClose_keeps | apply State.imAdvance_keeps | apply State.storeRows_keeps | intro _ | split | dsimp only

theorem bankErased_keeps {s0 s : State} (hs : Keeps s0 s) (bad : Bool) : Keeps s0 (bankErased bad s) := by
  unfold bankErased
  with_reducible repeat' first
    | assumption | apply State.setFld_keeps | apply State.each_keeps | apply State.progRow_keeps | apply hdr_keeps | apply State.setSess_keeps
    | apply State.imClose_keeps | intro _ | split | dsimp only

theorem imageVerifyDone_keeps {s0 s : State} (hs : Keeps s0 s) (bad : Bool) : Keeps s0 (imageVerifyDone bad s) := by
  unfold imageVerifyDone
  with_reducible repeat' first
    | assumption | apply State.setFld_keeps | apply hdr_keeps | apply State.bootProg_keeps | apply State.imEvt_keeps | apply State.setSess_keeps
    | apply State.imClose_keeps | apply State.imFinish_keeps | intro _ | split | dsimp only

theorem State.downDrop_keeps {s0 s : State} (hs : Keeps s0 s) (e : Nat) : Keeps s0 (State.downDrop s e) := by
  unfold State.downDrop
  with_reducible repeat' first
    | assumption | apply State.count_keeps | apply State.imEvt_keeps | apply State.setDown_keeps | apply State.imFinish_keeps
    | apply State.imAdvance_keeps | intro _ | split | dsimp only

theorem State.downAnswer_keeps {s0 s : State} (hs : Keeps s0 s) (m : IMsg) : Keeps s0 (State.downAnswer s m) := by
  unfold State.downAnswer
  with_reducible repeat' first
    | assumption | apply State.setFld_keeps | apply State.setDown_keeps | apply State.downBlock_keeps | apply State.imAdvance_keeps
    | apply State.downDrop_keeps | intro _ | split | dsimp only

theorem State.downBack_keeps {s0 s : State} (hs : Keeps s0 s) (m : IMsg) : Keeps s0 (State.downBack s m) := by
  unfold State.downBack
  with_reducible repeat' first
    | assumption | apply State.setFld_keeps | apply State.downBlock_keeps | apply State.imAdvance_keeps | intro _ | split | dsimp only

theorem downstreamAnswer_keeps {s0 s : State} (hs : Keeps s0 s) : Keeps s0 (downstreamAnswer s) := by
  unfold downstreamAnswer
  with_reducible repeat' (first | assumption | apply imgTake_keeps | apply State.downAnswer_keeps | intro _ | split | dsimp only)

theorem downstreamBack_keeps {s0 s : State} (hs : Keeps s0 s) : Keeps s0 (downstreamBack s) := by
  unfold downstreamBack
  with_reducible repeat' (first | assumption | apply imgTake_keeps | apply State.downBack_keeps | intro _ | split | dsimp only)

theorem downstreamTimeout_keeps {s0 s : State} (hs : Keeps s0 s) (e : Nat) : Keeps s0 (downstreamTimeout e s) := by
  unfold downstreamTimeout
  with_reducible repeat' (first | assumption | apply State.downOffer_keeps | apply State.downDrop_keeps | intro _ | split | dsimp only)

theorem State.closeTake_keeps {s0 s : State} (hs : Keeps s0 s) (m : IMsg) : Keeps s0 (State.closeTake s m) := by
  unfold State.closeTake
  with_reducible repeat' first
    | assumption | apply State.when_keeps | apply State.modImg_keeps | apply State.imgIdle_keeps | apply State.imEvt_keeps
    | apply State.setDown_keeps | apply State.imFinish_keeps | apply State.imAdvance_keeps | apply State.downDrop_keeps | intro _ | split
    | dsimp only

theorem closeReceived_keeps {s0 s : State} (hs : Keeps s0 s) (svc : Option (List Byte)) : Keeps s0 (closeReceived svc s) := by
  unfold closeReceived
  with_reducible repeat' (first | assumption | apply imgTake_keeps | apply State.closeTake_keeps | intro _ | split | dsimp only)

theorem sessionTimedOut_keeps {s0 s : State} (hs : Keeps s0 s) : Keeps s0 (sessionTimedOut s) := by
  unfold sessionTimedOut
  with_reducible repeat' (first | assumption | apply State.imClose_keeps | intro _ | split | dsimp only)

theorem State.imStop_keeps {s0 s : State} (hs : Keeps s0 s) (c : Bool) (st : Nat) : Keeps s0 (State.imStop s c st) := by
  unfold State.imStop
  with_reducible repeat' (first | assumption | apply State.imClose_keeps | intro _ | split | dsimp only)

theorem State.imOwner_keeps {s0 s : State} (hs : Keeps s0 s) : Keeps s0 (State.imOwner s) := by
  unfold State.imOwner
  with_reducible repeat' (first | assumption | apply State.imStop_keeps | intro _ | split | dsimp only)

theorem State.imMoving_keeps {s0 s : State} (hs : Keeps s0 s) : Keeps s0 (State.imMoving s) := by
  unfold State.imMoving
  with_reducible repeat' (first | assumption | apply imgCmd_keeps | apply State.imStop_keeps | intro _ | split | dsimp only)

theorem State.imCancel_keeps {s0 s : State} (hs : Keeps s0 s) : Keeps s0 (State.imCancel s) := by
  unfold State.imCancel
  with_reducible repeat' (first | assumption | apply State.imClose_keeps | intro _ | split | dsimp only)

theorem State.confInact_keeps {s0 s : State} (hs : Keeps s0 s) : Keeps s0 (State.confInact s) := by
  unfold State.confInact
  with_reducible repeat' (first | assumption | apply State.raise_keeps | apply State.bootProg_keeps | intro _ | split | dsimp only)

theorem State.confirmReq_keeps {s0 s : State} (hs : Keeps s0 s) (req : Bool) : Keeps s0 (State.confirmReq s req) := by
  unfold State.confirmReq
  with_reducible repeat' (first | assumption | apply State.setFld_keeps | intro _ | split | dsimp only)

theorem execOffer_keeps (svc : Option (List Byte)) (mv : BitVec 16) (s : State) : ∃ u, execOffer svc mv s = .next u ∧ Keeps s u := by
  refine ⟨_, rfl, ?_⟩
  have h := Keeps.refl s
  with_reducible repeat' (first | assumption | apply imgCmd_keeps | apply offer_keeps | intro _ | split | dsimp only)

theorem execBlock_keeps (svc : Option (List Byte)) (s : State) : ∃ u, execBlock svc s = .next u ∧ Keeps s u := by
  refine ⟨_, rfl, ?_⟩
  have h := Keeps.refl s
  with_reducible repeat' (first | assumption | apply imgCmd_keeps | apply block_keeps | intro _ | split | dsimp only)

theorem execImageCloseReceived_keeps (svc : Option (List Byte)) (s : State) : ∃ u, execImageCloseReceived svc s = .next u ∧ Keeps s u := by
  refine ⟨_, rfl, ?_⟩
  have h := Keeps.refl s
  with_reducible repeat' (first | assumption | apply imgCmd_keeps | apply closeReceived_keeps | intro _ | split | dsimp only)

theorem execDownstreamAnswer_keeps (s : State) : ∃ u, execDownstreamAnswer s = .next u ∧ Keeps s u := by
  refine ⟨_, rfl, ?_⟩
  have h := Keeps.refl s
  with_reducible repeat' (first | assumption | apply imgCmd_keeps | apply downstreamAnswer_keeps | intro _ | split | dsimp only)

theorem execDownstreamBack_keeps (s : State) : ∃ u, execDownstreamBack s = .next u ∧ Keeps s u := by
  refine ⟨_, rfl, ?_⟩
  have h := Keeps.refl s
  with_reducible repeat' (first | assumption | apply imgCmd_keeps | apply downstreamBack_keeps | intro _ | split | dsimp only)

theorem execDownstreamTimeout_keeps (e : Fin 8) (s : State) : ∃ u, execDownstreamTimeout e s = .next u ∧ Keeps s u := by
  refine ⟨_, rfl, ?_⟩
  have h := Keeps.refl s
  with_reducible repeat' (first | assumption | apply imgCmd_keeps | apply downstreamTimeout_keeps | intro _ | split | dsimp only)

theorem execImageSessionTimeout_keeps (s : State) : ∃ u, execImageSessionTimeout s = .next u ∧ Keeps s u := by
  refine ⟨_, rfl, ?_⟩
  have h := Keeps.refl s
  with_reducible repeat' (first | assumption | apply imgCmd_keeps | apply sessionTimedOut_keeps | intro _ | split | dsimp only)

theorem execInactiveBankErased_keeps (bad : Bool) (s : State) : ∃ u, execInactiveBankErased bad s = .next u ∧ Keeps s u := by
  refine ⟨_, rfl, ?_⟩
  have h := Keeps.refl s
  with_reducible repeat' (first | assumption | apply imgCmd_keeps | apply bankErased_keeps | intro _ | split | dsimp only)

theorem execImageBlockStored_keeps (bad : Bool) (s : State) : ∃ u, execImageBlockStored bad s = .next u ∧ Keeps s u := by
  refine ⟨_, rfl, ?_⟩
  have h := Keeps.refl s
  with_reducible repeat' (first | assumption | apply imgCmd_keeps | apply imageBlockStored_keeps | intro _ | split | dsimp only)

theorem execImageVerifyDone_keeps (bad : Bool) (s : State) : ∃ u, execImageVerifyDone bad s = .next u ∧ Keeps s u := by
  refine ⟨_, rfl, ?_⟩
  have h := Keeps.refl s
  with_reducible repeat' (first | assumption | apply imgCmd_keeps | apply imageVerifyDone_keeps | intro _ | split | dsimp only)

theorem execVehicleMoves_keeps (s : State) : ∃ u, execVehicleMoves s = .next u ∧ Keeps s u := by
  refine ⟨_, rfl, ?_⟩
  have h := Keeps.refl s
  with_reducible repeat' (first | assumption | apply imgCmd_keeps | apply State.imStop_keeps | intro _ | split | dsimp only)

theorem execImageLowv_keeps (s : State) : ∃ u, execImageLowv s = .next u ∧ Keeps s u := by
  refine ⟨_, rfl, ?_⟩
  have h := Keeps.refl s
  with_reducible repeat' (first | assumption | apply imgCmd_keeps | apply State.imStop_keeps | intro _ | split | dsimp only)

theorem State.atReg_keeps {s0 s : State} (hs : Keeps s0 s) (c : Nat) (a : Nat) (f : Nat → State) (hf : ∀ (a0 : Nat), Keeps s0 (f a0)) : Keeps s0
    (State.atReg s c a f) := by
  unfold State.atReg
  with_reducible repeat' (first | assumption | apply State.ioFlag_keeps | apply hf | intro _ | split | dsimp only)

theorem State.raiseOn_keeps {s0 s : State} (hs : Keeps s0 s) (b : Bool) (f : FRef) : Keeps s0 (State.raiseOn s b f) := by
  unfold State.raiseOn
  with_reducible repeat' (first | assumption | apply State.raiseIf_keeps | intro _ | split | dsimp only)

theorem State.setShadow_keeps {s0 s : State} (hs : Keeps s0 s) (k : Nat) (v : Nat) : Keeps s0 (State.setShadow s k v) := by
  unfold State.setShadow
  with_reducible repeat' (first | assumption | apply State.modRng_keeps | intro _ | split | dsimp only)

theorem State.unlatch_keeps {s0 s : State} (hs : Keeps s0 s) (k : Nat) : Keeps s0 (State.unlatch s k) := by
  unfold State.unlatch
  with_reducible repeat' (first | assumption | (apply Keeps.lit; assumption) | intro _ | split | dsimp only)

theorem State.applyStore_keeps {s0 s : State} (hs : Keeps s0 s) (k : Nat) (x : StoreW) : Keeps s0 (State.applyStore s k x) := by
  unfold State.applyStore
  with_reducible repeat' first
    | assumption | apply State.setReg_keeps | apply State.raiseIf_keeps | apply State.wr_keeps | apply State.raiseOn_keeps
    | apply State.setShadow_keeps | apply State.unlatch_keeps | intro _ | split | dsimp only

theorem State.coreHold_keeps {s0 s : State} (hs : Keeps s0 s) (n : Nat) (hold : Bool) : Keeps s0 (State.coreHold s n hold) := by
  unfold State.coreHold
  with_reducible repeat' first
    | assumption | apply State.reset_keeps | apply State.setCore_keeps | apply State.coreStart_keeps | apply State.hold_keeps | intro _ | split
    | dsimp only

theorem State.lockstepTest_keeps {s0 s : State} (hs : Keeps s0 s) : Keeps s0 (State.lockstepTest s) := by
  unfold State.lockstepTest
  with_reducible repeat' (first | assumption | apply State.setFld_keeps | apply State.record_keeps | intro _ | split | dsimp only)

theorem State.icuEff_keeps {s0 s : State} (hs : Keeps s0 s) (k : Nat) (old : Nat) (t : Nat) : Keeps s0 (State.icuEff s k old t) := by
  unfold State.icuEff
  with_reducible repeat' first
    | assumption | apply State.setFld_keeps | apply State.when_keeps | apply lbistStart_keeps | apply lbistCancel_keeps | apply State.coreHold_keeps
    | apply State.lockstepTest_keeps | intro _ | split | dsimp only

theorem State.entryEff_keeps {s0 s : State} (hs : Keeps s0 s) (c : CoreId) (t : Nat) : Keeps s0 (State.entryEff s c t) := by
  unfold State.entryEff
  with_reducible repeat' first
    | assumption | apply State.raise_keeps | apply requestMode_keeps | apply requestEntry_keeps | apply forcedEntry_keeps | intro _ | split
    | dsimp only

theorem State.pcrEff_keeps {s0 s : State} (hs : Keeps s0 s) (c : CoreId) (k : Nat) (old : Nat) (t : Nat) (mask : Nat) : Keeps s0 (State.pcrEff s c
    k old t mask) := by
  unfold State.pcrEff
  with_reducible repeat' first
    | assumption | apply State.when_keeps | apply zswOn_keeps | apply padRelease_keeps | apply State.entryEff_keeps | intro _ | split | dsimp only

theorem State.memEff_keeps {s0 s : State} (hs : Keeps s0 s) (k : Nat) (old : Nat) (t : Nat) : Keeps s0 (State.memEff s k old t) := by
  unfold State.memEff
  with_reducible repeat' first
    | assumption | apply State.when_keeps | apply marchStart_keeps | apply State.sweepStart_keeps | apply nvmRead_keeps | apply progrow_keeps
    | apply eraseSect_keeps | apply eraseBank_keeps | apply blankChk_keeps | apply ssWrite_keeps | apply ssLoad_keeps | apply otpProg_keeps | intro _
    | split | dsimp only

theorem State.rngEff_keeps {s0 s : State} (hs : Keeps s0 s) (k : Nat) (old : Nat) : Keeps s0 (State.rngEff s k old) := by
  unfold State.rngEff
  with_reducible repeat' (first | assumption | apply State.ringEnable_keeps | apply State.ringDisable_keeps | intro _ | split | dsimp only)

theorem State.inpEff_keeps {s0 s : State} (hs : Keeps s0 s) (c : CoreId) (k : Nat) (old : Nat) (t : Nat) : Keeps s0 (State.inpEff s c k old t) := by
  unfold State.inpEff
  with_reducible repeat' first
    | assumption | apply State.when_keeps | apply State.limpEngage_keeps | apply State.limpRelease_keeps | intro _ | split | dsimp only

theorem State.netEff_keeps {s0 s : State} (hs : Keeps s0 s) (k : Nat) (old : Nat) (t : Nat) (mask : Nat) : Keeps s0 (State.netEff s k old t mask)
    := by
  unfold State.netEff
  with_reducible repeat' first
    | assumption | apply State.when_keeps | apply State.refreshInh_keeps | apply State.tcvrRequest_keeps | apply State.undeafen_keeps
    | apply State.herdJoin_keeps | apply State.herdWithdraw_keeps | apply State.canRecover_keeps | intro _ | split | dsimp only

theorem State.ethEff_keeps {s0 s : State} (hs : Keeps s0 s) (k : Nat) (t : Nat) : Keeps s0 (State.ethEff s k t) := by
  unfold State.ethEff
  with_reducible repeat' first
    | assumption | apply State.when_keeps | apply State.setTc10_keeps | apply State.tc10Sleep_keeps | apply State.tc10Wake_keeps
    | apply State.zoneTimeSet_keeps | intro _ | split | dsimp only

theorem State.accEff_keeps {s0 s : State} (hs : Keeps s0 s) (k : Nat) (t : Nat) : Keeps s0 (State.accEff s k t) := by
  unfold State.accEff
  with_reducible repeat' first
    | assumption | apply State.when_keeps | apply State.presClose_keeps | apply State.enrolCmd_keeps | apply State.keyCmd_keeps
    | apply State.cryptoCmd_keeps | apply State.imOwner_keeps | intro _ | split | dsimp only

theorem State.fltBlkEff_keeps {s0 s : State} (hs : Keeps s0 s) (b : Nat) (k : Nat) (t : Nat) (mask : Nat) : Keeps s0 (State.fltBlkEff s b k t mask)
    := by
  unfold State.fltBlkEff
  with_reducible repeat' first
    | assumption | apply State.when_keeps | apply State.fltGate_keeps | apply fltAck_keeps | apply logRelease_keeps | apply clrStk_keeps | intro _
    | split | dsimp only

theorem State.brcEff_keeps {s0 s : State} (hs : Keeps s0 s) (k : Nat) (old : Nat) (t : Nat) : Keeps s0 (State.brcEff s k old t) := by
  unfold State.brcEff
  with_reducible repeat' first
    | assumption | apply State.when_keeps | apply State.brYield_keeps | apply State.brHandbackOut_keeps | apply State.brQuietOut_keeps
    | apply State.brWake_keeps | apply State.brMir_keeps | apply State.brEnable_keeps | intro _ | split | dsimp only

theorem State.fltEff_keeps {s0 s : State} (hs : Keeps s0 s) (c : CoreId) (k : Nat) (old : Nat) (t : Nat) (mask : Nat) : Keeps s0 (State.fltEff s c
    k old t mask) := by
  unfold State.fltEff
  with_reducible repeat' first
    | assumption | apply State.when_keeps | apply State.modImg_keeps | apply State.driveFltn_keeps | apply State.unfence_keeps
    | apply Sys2Proof.Machine.unfence_keeps | apply State.sOnly_keeps | apply clr4_keeps | apply softTrace_keeps | apply imgCmd_keeps
    | apply State.imMoving_keeps | apply State.imCancel_keeps | apply State.confInact_keeps | apply State.confirmReq_keeps
    | apply State.fltBlkEff_keeps | apply State.brcEff_keeps | intro _ | split | dsimp only

theorem State.storeEff_keeps {s0 s : State} (hs : Keeps s0 s) (c : CoreId) (k : Nat) (old : Nat) (t : Nat) (mask : Nat) : Keeps s0 (State.storeEff
    s c k old t mask) := by
  unfold State.storeEff
  with_reducible repeat' first
    | assumption | apply State.when_keeps | apply State.macCommand_keeps | apply censusStart_keeps | apply State.seqResume_keeps
    | apply State.icuEff_keeps | apply State.pcrEff_keeps | apply State.memEff_keeps | apply State.rngEff_keeps | apply State.inpEff_keeps
    | apply State.netEff_keeps | apply State.ethEff_keeps | apply State.accEff_keeps | apply State.fltEff_keeps | intro _ | split | dsimp only

theorem State.storeAs_keeps {s0 s : State} (hs : Keeps s0 s) (o : Nat) (c : CoreId) (k : Nat) (v : Nat) (mask : Nat) : Keeps s0 (State.storeAs s o
    c k v mask) := by
  unfold State.storeAs
  with_reducible repeat' first
    | assumption | apply State.raiseOn_keeps | apply State.applyStore_keeps | apply State.storeEff_keeps | intro _ | split | dsimp only

theorem State.storeReg_keeps {s0 s : State} (hs : Keeps s0 s) (c : CoreId) (k : Nat) (v : Nat) (mask : Nat) : Keeps s0 (State.storeReg s c k v
    mask) := by
  unfold State.storeReg
  with_reducible repeat' first
    | assumption | apply State.mdataStore_keeps | apply State.drainAll_keeps | apply ndataPush_keeps | apply State.doorbell_keeps
    | apply State.storeAs_keeps | intro _ | split | dsimp only

theorem State.sIcuStore_keeps {s0 s : State} (hs : Keeps s0 s) (c : Nat) (a : Nat) (v : Nat) (mask : Nat) : Keeps s0 (State.sIcuStore s c a v mask)
    := by
  unfold State.sIcuStore
  with_reducible repeat' first
    | assumption | apply State.raise_keeps | apply State.raiseIf_keeps | apply State.when_keeps | apply State.ioFlag_keeps | intro _ | split
    | dsimp only

theorem State.ioStoreM_keeps {s0 s : State} (hs : Keeps s0 s) (c : CoreId) (a : Nat) (v : Nat) (mask : Nat) : Keeps s0 (State.ioStoreM s c a v
    mask) := by
  unfold State.ioStoreM
  with_reducible repeat' first
    | assumption | apply State.atReg_keeps | apply State.storeReg_keeps | apply State.sIcuStore_keeps | intro _ | split | dsimp only

theorem State.ioStore_keeps {s0 s : State} (hs : Keeps s0 s) (c : CoreId) (a : Nat) (v : Word) : Keeps s0 (State.ioStore s c a v) := by
  unfold State.ioStore
  with_reducible repeat' (first | assumption | apply State.ioStoreM_keeps | intro _ | split | dsimp only)

theorem State.ioField_keeps {s0 s : State} (hs : Keeps s0 s) (c : CoreId) (f : FRef) (v : Nat) : Keeps s0 (State.ioField s c f v) := by
  unfold State.ioField
  with_reducible repeat' (first | assumption | apply State.ioStoreM_keeps | intro _ | split | dsimp only)

theorem State.latch_keeps {s0 s : State} (hs : Keeps s0 s) (k : Nat) : Keeps s0 (State.latch s k) := by
  unfold State.latch
  with_reducible repeat' (first | assumption | (apply Keeps.lit; assumption) | apply State.each_keeps | intro _ | split | dsimp only)

theorem State.readEff_keeps {s0 s : State} (hs : Keeps s0 s) (k : Nat) : Keeps s0 (State.readEff s k) := by
  unfold State.readEff
  with_reducible repeat' first
    | assumption | apply State.setReg_keeps | apply State.when_keeps | apply State.drew_keeps | apply State.modAcc_keeps | apply State.claimed_keeps
    | intro _ | split | dsimp only

theorem State.setRdata_keeps {s0 s : State} (hs : Keeps s0 s) (w : Word) : Keeps s0 (State.setRdata s w) := by
  unfold State.setRdata
  with_reducible repeat' (first | assumption | (apply Keeps.lit; assumption) | intro _ | split | dsimp only)

theorem State.busLoad_keeps {s0 s : State} (hs : Keeps s0 s) (k : Nat) : Keeps s0 (State.busLoad s k) := by
  unfold State.busLoad
  with_reducible repeat' first
    | assumption | apply State.mdataLoad_keeps | apply ndataPop_keeps | apply State.latch_keeps | apply State.readEff_keeps
    | apply State.setRdata_keeps | intro _ | split | dsimp only

theorem State.ioRead_keeps {s0 s : State} (hs : Keeps s0 s) (c : CoreId) (a : Nat) : Keeps s0 (State.ioRead s c a) := by
  unfold State.ioRead
  with_reducible repeat' first
    | assumption | apply State.atReg_keeps | apply State.setRdata_keeps | apply State.busLoad_keeps | intro _ | split | dsimp only

theorem execRegisterWrite_keeps (c : CoreId) (a : BitVec 16) (v : Word) (s : State) : ∃ u, execRegisterWrite c a v s = .next u ∧ Keeps s u := by
  refine ⟨_, rfl, ?_⟩
  have h := Keeps.refl s
  with_reducible repeat' (first | assumption | apply State.ioStore_keeps | intro _ | split | dsimp only)

theorem execRcCounterRead_keeps (c : CoreId) (a : BitVec 16) (s : State) : ∃ u, execRcCounterRead c a s = .next u ∧ Keeps s u := by
  refine ⟨_, rfl, ?_⟩
  have h := Keeps.refl s
  with_reducible repeat' (first | assumption | apply State.ioRead_keeps | intro _ | split | dsimp only)

theorem execSnapshotRead_keeps (c : CoreId) (a : BitVec 16) (s : State) : ∃ u, execSnapshotRead c a s = .next u ∧ Keeps s u := by
  refine ⟨_, rfl, ?_⟩
  have h := Keeps.refl s
  with_reducible repeat' (first | assumption | apply State.ioRead_keeps | intro _ | split | dsimp only)

theorem execRingEnable_keeps (c : CoreId) (r : Fin 64) (s : State) : ∃ u, execRingEnable c r s = .next u ∧ Keeps s u := by
  refine ⟨_, rfl, ?_⟩
  have h := Keeps.refl s
  with_reducible repeat' (first | assumption | apply State.ioField_keeps | intro _ | split | dsimp only)

theorem execRingDisable_keeps (c : CoreId) (r : Fin 64) (s : State) : ∃ u, execRingDisable c r s = .next u ∧ Keeps s u := by
  refine ⟨_, rfl, ?_⟩
  have h := Keeps.refl s
  with_reducible repeat' (first | assumption | apply State.ioField_keeps | intro _ | split | dsimp only)

theorem txWrite_keeps {s0 s : State} (hs : Keeps s0 s) (d : Desc) : Keeps s0 (txWrite d s) := by
  unfold txWrite
  with_reducible repeat' (first | assumption | apply State.finish_keeps | apply State.storeAs_keeps | intro _ | split | dsimp only)

theorem execTxwrite_keeps (r : Fin 64) (i : Fin 1024) (s : State) : ∃ u, execTxwrite r i s = .next u ∧ Keeps s u := by
  refine ⟨_, rfl, ?_⟩
  have h := Keeps.refl s
  with_reducible repeat' (first | assumption | apply State.onReady_keeps | apply txWrite_keeps | intro _ | split | dsimp only)

theorem execLimpHomeForce_keeps (c : CoreId) (s : State) : ∃ u, execLimpHomeForce c s = .next u ∧ Keeps s u := by
  refine ⟨_, rfl, ?_⟩
  have h := Keeps.refl s
  with_reducible repeat' (first | assumption | apply State.ioField_keeps | intro _ | split | dsimp only)

theorem execLimpHomeRelease_keeps (c : CoreId) (s : State) : ∃ u, execLimpHomeRelease c s = .next u ∧ Keeps s u := by
  refine ⟨_, rfl, ?_⟩
  have h := Keeps.refl s
  with_reducible repeat' (first | assumption | apply State.ioField_keeps | intro _ | split | dsimp only)

theorem execBusoffRecovery_keeps (c : CoreId) (n : Fin 6) (s : State) : ∃ u, execBusoffRecovery c n s = .next u ∧ Keeps s u := by
  refine ⟨_, rfl, ?_⟩
  have h := Keeps.refl s
  with_reducible repeat' (first | assumption | apply State.ioField_keeps | intro _ | split | dsimp only)

theorem execTransceiverRequest_keeps (c : CoreId) (n : Fin 10) (v : BitVec 2) (s : State) : ∃ u, execTransceiverRequest c n v s = .next u ∧ Keeps s
    u := by
  refine ⟨_, rfl, ?_⟩
  have h := Keeps.refl s
  with_reducible repeat' (first | assumption | apply State.ioField_keeps | intro _ | split | dsimp only)

theorem execUndeaf_keeps (c : CoreId) (n : Fin 10) (s : State) : ∃ u, execUndeaf c n s = .next u ∧ Keeps s u := by
  refine ⟨_, rfl, ?_⟩
  have h := Keeps.refl s
  with_reducible repeat' (first | assumption | apply State.ioField_keeps | intro _ | split | dsimp only)

theorem execHerdJoin_keeps (c : CoreId) (s : State) : ∃ u, execHerdJoin c s = .next u ∧ Keeps s u := by
  refine ⟨_, rfl, ?_⟩
  have h := Keeps.refl s
  with_reducible repeat' (first | assumption | apply State.ioField_keeps | intro _ | split | dsimp only)

theorem execHerdConsWithdraw_keeps (c : CoreId) (s : State) : ∃ u, execHerdConsWithdraw c s = .next u ∧ Keeps s u := by
  refine ⟨_, rfl, ?_⟩
  have h := Keeps.refl s
  with_reducible repeat' (first | assumption | apply State.ioField_keeps | intro _ | split | dsimp only)

theorem execLookup_keeps (c : CoreId) (s : State) : ∃ u, execLookup c s = .next u ∧ Keeps s u := by
  refine ⟨_, rfl, ?_⟩
  have h := Keeps.refl s
  with_reducible repeat' (first | assumption | apply State.ioField_keeps | intro _ | split | dsimp only)

theorem execInsert_keeps (c : CoreId) (s : State) : ∃ u, execInsert c s = .next u ∧ Keeps s u := by
  refine ⟨_, rfl, ?_⟩
  have h := Keeps.refl s
  with_reducible repeat' (first | assumption | apply State.ioField_keeps | intro _ | split | dsimp only)

theorem execDelete_keeps (c : CoreId) (s : State) : ∃ u, execDelete c s = .next u ∧ Keeps s u := by
  refine ⟨_, rfl, ?_⟩
  have h := Keeps.refl s
  with_reducible repeat' (first | assumption | apply State.ioField_keeps | intro _ | split | dsimp only)

theorem execFlushLearned_keeps (c : CoreId) (s : State) : ∃ u, execFlushLearned c s = .next u ∧ Keeps s u := by
  refine ⟨_, rfl, ?_⟩
  have h := Keeps.refl s
  with_reducible repeat' (first | assumption | apply State.ioField_keeps | intro _ | split | dsimp only)

theorem execFlushLearnedOfPort_keeps (c : CoreId) (s : State) : ∃ u, execFlushLearnedOfPort c s = .next u ∧ Keeps s u := by
  refine ⟨_, rfl, ?_⟩
  have h := Keeps.refl s
  with_reducible repeat' (first | assumption | apply State.ioField_keeps | intro _ | split | dsimp only)

theorem execCensusStart_keeps (c : CoreId) (s : State) : ∃ u, execCensusStart c s = .next u ∧ Keeps s u := by
  refine ⟨_, rfl, ?_⟩
  have h := Keeps.refl s
  with_reducible repeat' (first | assumption | apply State.ioField_keeps | intro _ | split | dsimp only)

theorem execTc10SleepRequest_keeps (c : CoreId) (p : Fin 6) (s : State) : ∃ u, execTc10SleepRequest c p s = .next u ∧ Keeps s u := by
  refine ⟨_, rfl, ?_⟩
  have h := Keeps.refl s
  with_reducible repeat' (first | assumption | apply State.ioField_keeps | intro _ | split | dsimp only)

theorem execTc10Wake_keeps (c : CoreId) (p : Fin 6) (s : State) : ∃ u, execTc10Wake c p s = .next u ∧ Keeps s u := by
  refine ⟨_, rfl, ?_⟩
  have h := Keeps.refl s
  with_reducible repeat' (first | assumption | apply State.ioField_keeps | intro _ | split | dsimp only)

theorem execZoneTimeSet_keeps (c : CoreId) (s : State) : ∃ u, execZoneTimeSet c s = .next u ∧ Keeps s u := by
  refine ⟨_, rfl, ?_⟩
  have h := Keeps.refl s
  with_reducible repeat' (first | assumption | apply State.ioField_keeps | intro _ | split | dsimp only)

theorem State.enrolWrite_keeps {s0 s : State} (hs : Keeps s0 s) (c : CoreId) (cmd : Nat) (slot : Nat) : Keeps s0 (State.enrolWrite s c cmd slot) := by
  unfold State.enrolWrite
  with_reducible repeat' (first | assumption | apply State.ioStoreM_keeps | intro _ | split | dsimp only)

theorem execLearnK_keeps (c : CoreId) (s : State) : ∃ u, execLearnK c s = .next u ∧ Keeps s u := by
  refine ⟨_, rfl, ?_⟩
  have h := Keeps.refl s
  with_reducible repeat' (first | assumption | apply State.enrolWrite_keeps | intro _ | split | dsimp only)

theorem execLearnT_keeps (c : CoreId) (s : State) : ∃ u, execLearnT c s = .next u ∧ Keeps s u := by
  refine ⟨_, rfl, ?_⟩
  have h := Keeps.refl s
  with_reducible repeat' (first | assumption | apply State.enrolWrite_keeps | intro _ | split | dsimp only)

theorem execRevokeK_keeps (c : CoreId) (k : Fin 8) (s : State) : ∃ u, execRevokeK c k s = .next u ∧ Keeps s u := by
  refine ⟨_, rfl, ?_⟩
  have h := Keeps.refl s
  with_reducible repeat' (first | assumption | apply State.enrolWrite_keeps | intro _ | split | dsimp only)

theorem execRevokeT_keeps (c : CoreId) (k : Fin 8) (s : State) : ∃ u, execRevokeT c k s = .next u ∧ Keeps s u := by
  refine ⟨_, rfl, ?_⟩
  have h := Keeps.refl s
  with_reducible repeat' (first | assumption | apply State.enrolWrite_keeps | intro _ | split | dsimp only)

theorem execLearnClose_keeps (c : CoreId) (s : State) : ∃ u, execLearnClose c s = .next u ∧ Keeps s u := by
  refine ⟨_, rfl, ?_⟩
  have h := Keeps.refl s
  with_reducible repeat' (first | assumption | apply State.enrolWrite_keeps | intro _ | split | dsimp only)

theorem execOwnerSet_keeps (c : CoreId) (s : State) : ∃ u, execOwnerSet c s = .next u ∧ Keeps s u := by
  refine ⟨_, rfl, ?_⟩
  have h := Keeps.refl s
  with_reducible repeat' (first | assumption | apply State.enrolWrite_keeps | intro _ | split | dsimp only)

theorem execOwnerClr_keeps (c : CoreId) (s : State) : ∃ u, execOwnerClr c s = .next u ∧ Keeps s u := by
  refine ⟨_, rfl, ?_⟩
  have h := Keeps.refl s
  with_reducible repeat' (first | assumption | apply State.enrolWrite_keeps | intro _ | split | dsimp only)

theorem execNonce_keeps (c : CoreId) (s : State) : ∃ u, execNonce c s = .next u ∧ Keeps s u := by
  refine ⟨_, rfl, ?_⟩
  have h := Keeps.refl s
  with_reducible repeat' (first | assumption | apply State.enrolWrite_keeps | intro _ | split | dsimp only)

theorem execDbgUnlock_keeps (c : CoreId) (s : State) : ∃ u, execDbgUnlock c s = .next u ∧ Keeps s u := by
  refine ⟨_, rfl, ?_⟩
  have h := Keeps.refl s
  with_reducible repeat' (first | assumption | apply State.enrolWrite_keeps | intro _ | split | dsimp only)

theorem execPresenceClose_keeps (c : CoreId) (s : State) : ∃ u, execPresenceClose c s = .next u ∧ Keeps s u := by
  refine ⟨_, rfl, ?_⟩
  have h := Keeps.refl s
  with_reducible repeat' (first | assumption | apply State.ioField_keeps | intro _ | split | dsimp only)

theorem State.keyWrite_keeps {s0 s : State} (hs : Keeps s0 s) (c : CoreId) (cmd : Nat) (e : Nat) : Keeps s0 (State.keyWrite s c cmd e) := by
  unfold State.keyWrite
  with_reducible repeat' (first | assumption | apply State.ioStoreM_keeps | intro _ | split | dsimp only)

theorem execKeyLoad_keeps (c : CoreId) (e : BitVec 4) (s : State) : ∃ u, execKeyLoad c e s = .next u ∧ Keeps s u := by
  refine ⟨_, rfl, ?_⟩
  have h := Keeps.refl s
  with_reducible repeat' (first | assumption | apply State.keyWrite_keeps | intro _ | split | dsimp only)

theorem execRotate_keeps (c : CoreId) (e : BitVec 4) (s : State) : ∃ u, execRotate c e s = .next u ∧ Keeps s u := by
  refine ⟨_, rfl, ?_⟩
  have h := Keeps.refl s
  with_reducible repeat' (first | assumption | apply State.keyWrite_keeps | intro _ | split | dsimp only)

theorem execLoadtr_keeps (c : CoreId) (s : State) : ∃ u, execLoadtr c s = .next u ∧ Keeps s u := by
  refine ⟨_, rfl, ?_⟩
  have h := Keeps.refl s
  with_reducible repeat' (first | assumption | apply State.keyWrite_keeps | intro _ | split | dsimp only)

theorem State.cryptoWrite_keeps {s0 s : State} (hs : Keeps s0 s) (c : CoreId) (op : Nat) (long : Bool) : Keeps s0 (State.cryptoWrite s c op long)
    := by
  unfold State.cryptoWrite
  with_reducible repeat' (first | assumption | apply State.ioStoreM_keeps | intro _ | split | dsimp only)

theorem execAesenc_keeps (c : CoreId) (long : Bool) (s : State) : ∃ u, execAesenc c long s = .next u ∧ Keeps s u := by
  refine ⟨_, rfl, ?_⟩
  have h := Keeps.refl s
  with_reducible repeat' (first | assumption | apply State.cryptoWrite_keeps | intro _ | split | dsimp only)

theorem execAesdec_keeps (c : CoreId) (long : Bool) (s : State) : ∃ u, execAesdec c long s = .next u ∧ Keeps s u := by
  refine ⟨_, rfl, ?_⟩
  have h := Keeps.refl s
  with_reducible repeat' (first | assumption | apply State.cryptoWrite_keeps | intro _ | split | dsimp only)

theorem execCmac_keeps (c : CoreId) (s : State) : ∃ u, execCmac c s = .next u ∧ Keeps s u := by
  refine ⟨_, rfl, ?_⟩
  have h := Keeps.refl s
  with_reducible repeat' (first | assumption | apply State.cryptoWrite_keeps | intro _ | split | dsimp only)

theorem execSha256_keeps (c : CoreId) (s : State) : ∃ u, execSha256 c s = .next u ∧ Keeps s u := by
  refine ⟨_, rfl, ?_⟩
  have h := Keeps.refl s
  with_reducible repeat' (first | assumption | apply State.cryptoWrite_keeps | intro _ | split | dsimp only)

theorem execEcdsaver_keeps (c : CoreId) (s : State) : ∃ u, execEcdsaver c s = .next u ∧ Keeps s u := by
  refine ⟨_, rfl, ?_⟩
  have h := Keeps.refl s
  with_reducible repeat' (first | assumption | apply State.cryptoWrite_keeps | intro _ | split | dsimp only)

theorem execRandom_keeps (c : CoreId) (s : State) : ∃ u, execRandom c s = .next u ∧ Keeps s u := by
  refine ⟨_, rfl, ?_⟩
  have h := Keeps.refl s
  with_reducible repeat' (first | assumption | apply State.cryptoWrite_keeps | intro _ | split | dsimp only)

theorem execLbistStart_keeps (c : CoreId) (t : BitVec 2) (s : State) : ∃ u, execLbistStart c t s = .next u ∧ Keeps s u := by
  refine ⟨_, rfl, ?_⟩
  have h := Keeps.refl s
  with_reducible repeat' (first | assumption | apply State.ioStoreM_keeps | intro _ | split | dsimp only)

theorem execLbistCancel_keeps (c : CoreId) (t : BitVec 2) (s : State) : ∃ u, execLbistCancel c t s = .next u ∧ Keeps s u := by
  refine ⟨_, rfl, ?_⟩
  have h := Keeps.refl s
  with_reducible repeat' (first | assumption | apply State.ioStoreM_keeps | intro _ | split | dsimp only)

theorem execImcmdClose_keeps (c : CoreId) (s : State) : ∃ u, execImcmdClose c s = .next u ∧ Keeps s u := by
  refine ⟨_, rfl, ?_⟩
  have h := Keeps.refl s
  with_reducible repeat' (first | assumption | apply State.ioField_keeps | intro _ | split | dsimp only)

theorem execConfinact_keeps (c : CoreId) (s : State) : ∃ u, execConfinact c s = .next u ∧ Keeps s u := by
  refine ⟨_, rfl, ?_⟩
  have h := Keeps.refl s
  with_reducible repeat' (first | assumption | apply State.ioField_keeps | intro _ | split | dsimp only)

theorem execConfirmRequest_keeps (c : CoreId) (req : Bool) (s : State) : ∃ u, execConfirmRequest c req s = .next u ∧ Keeps s u := by
  refine ⟨_, rfl, ?_⟩
  have h := Keeps.refl s
  with_reducible repeat' (first | assumption | apply State.ioField_keeps | intro _ | split | dsimp only)

theorem execBrcYield_keeps (c : CoreId) (s : State) : ∃ u, execBrcYield c s = .next u ∧ Keeps s u := by
  refine ⟨_, rfl, ?_⟩
  have h := Keeps.refl s
  with_reducible repeat' (first | assumption | apply State.ioField_keeps | intro _ | split | dsimp only)

theorem execBrcHandback_keeps (c : CoreId) (s : State) : ∃ u, execBrcHandback c s = .next u ∧ Keeps s u := by
  refine ⟨_, rfl, ?_⟩
  have h := Keeps.refl s
  with_reducible repeat' (first | assumption | apply State.ioField_keeps | intro _ | split | dsimp only)

theorem execBrcQuiet_keeps (c : CoreId) (s : State) : ∃ u, execBrcQuiet c s = .next u ∧ Keeps s u := by
  refine ⟨_, rfl, ?_⟩
  have h := Keeps.refl s
  with_reducible repeat' (first | assumption | apply State.ioField_keeps | intro _ | split | dsimp only)

theorem execBrcWake_keeps (c : CoreId) (s : State) : ∃ u, execBrcWake c s = .next u ∧ Keeps s u := by
  refine ⟨_, rfl, ?_⟩
  have h := Keeps.refl s
  with_reducible repeat' (first | assumption | apply State.ioField_keeps | intro _ | split | dsimp only)

theorem State.loadOp_keeps {s0 s : State} (hs : Keeps s0 s) (c : CoreId) (n : Nat) (rd : Nat) (a : Core → Word) (pre : Core → Core) : Keeps s0
    (State.loadOp s c n rd a pre) := by
  unfold State.loadOp
  with_reducible repeat' first
    | assumption | apply State.modCore_keeps | apply State.loadNote_keeps | apply State.instr_keeps | intro _ | split | dsimp only

theorem State.storeOp_keeps {s0 s : State} (hs : Keeps s0 s) (c : CoreId) (n : Nat) (rd : Nat) (a : Core → Word) (post : Core → Core) : Keeps s0
    (State.storeOp s c n rd a post) := by
  unfold State.storeOp
  with_reducible repeat' first
    | assumption | apply State.modCore_keeps | apply State.store_keeps | apply State.instr_keeps | intro _ | split | dsimp only

theorem execLd_keeps (c : CoreId) (rd : Fin 32) (rs : Fin 32) (s : State) : ∃ u, execLd c rd rs s = .next u ∧ Keeps s u := by
  refine ⟨_, rfl, ?_⟩
  have h := Keeps.refl s
  with_reducible repeat' (first | assumption | apply State.loadOp_keeps | simp only [id] | intro _ | split | dsimp only)

theorem execLdPostIncrement_keeps (c : CoreId) (rd : Fin 32) (rs : Fin 32) (s : State) : ∃ u, execLdPostIncrement c rd rs s = .next u ∧ Keeps s u
    := by
  refine ⟨_, rfl, ?_⟩
  have h := Keeps.refl s
  with_reducible repeat' (first | assumption | apply State.loadOp_keeps | intro _ | split | dsimp only)

theorem execLdPreDecrement_keeps (c : CoreId) (rd : Fin 32) (rs : Fin 32) (s : State) : ∃ u, execLdPreDecrement c rd rs s = .next u ∧ Keeps s u := by
  refine ⟨_, rfl, ?_⟩
  have h := Keeps.refl s
  with_reducible repeat' (first | assumption | apply State.loadOp_keeps | intro _ | split | dsimp only)

theorem execSt_keeps (c : CoreId) (rd : Fin 32) (rs : Fin 32) (s : State) : ∃ u, execSt c rd rs s = .next u ∧ Keeps s u := by
  refine ⟨_, rfl, ?_⟩
  have h := Keeps.refl s
  with_reducible repeat' (first | assumption | apply State.storeOp_keeps | simp only [id] | intro _ | split | dsimp only)

theorem execStPostIncrement_keeps (c : CoreId) (rd : Fin 32) (rs : Fin 32) (s : State) : ∃ u, execStPostIncrement c rd rs s = .next u ∧ Keeps s u
    := by
  refine ⟨_, rfl, ?_⟩
  have h := Keeps.refl s
  with_reducible repeat' (first | assumption | apply State.storeOp_keeps | intro _ | split | dsimp only)

theorem execStPreDecrement_keeps (c : CoreId) (rd : Fin 32) (rs : Fin 32) (s : State) : ∃ u, execStPreDecrement c rd rs s = .next u ∧ Keeps s u := by
  refine ⟨_, rfl, ?_⟩
  have h := Keeps.refl s
  with_reducible repeat' (first | assumption | apply State.storeOp_keeps | intro _ | split | dsimp only)

theorem execLdl_keeps (c : CoreId) (rd : Fin 32) (rs : Fin 32) (i : Word) (s : State) : ∃ u, execLdl c rd rs i s = .next u ∧ Keeps s u := by
  refine ⟨_, rfl, ?_⟩
  have h := Keeps.refl s
  with_reducible repeat' (first | assumption | apply State.loadOp_keeps | simp only [id] | intro _ | split | dsimp only)

theorem execStl_keeps (c : CoreId) (rd : Fin 32) (rs : Fin 32) (i : Word) (s : State) : ∃ u, execStl c rd rs i s = .next u ∧ Keeps s u := by
  refine ⟨_, rfl, ?_⟩
  have h := Keeps.refl s
  with_reducible repeat' (first | assumption | apply State.storeOp_keeps | simp only [id] | intro _ | split | dsimp only)

theorem execStoreDrain_keeps (c : CoreId) (s : State) : ∃ u, execStoreDrain c s = .next u ∧ Keeps s u := by
  refine ⟨_, rfl, ?_⟩
  have h := Keeps.refl s
  with_reducible repeat' (first | assumption | apply State.drainOne_keeps | intro _ | split | dsimp only)

theorem State.takeRead_keeps {s0 s t : State} (hs : Keeps s0 t) (c rd : Nat) : Keeps s0 (s.takeRead t c rd) := by
  unfold State.takeRead
  with_reducible repeat' (first | assumption | apply State.modCore_keeps | intro _ | split | dsimp only)

theorem State.inAt_keeps {s0 s : State} (hs : Keeps s0 s) (c : CoreId) (n : Nat) (rd : Nat) (p : Nat) : Keeps s0 (State.inAt s c n rd p) := by
  unfold State.inAt
  with_reducible repeat' first
    | assumption | apply State.modCore_keeps | apply State.drainAll_keeps | apply State.ioRead_keeps | apply State.takeRead_keeps | intro _ | split
    | dsimp only

theorem execIoIn_keeps (c : CoreId) (rd : Fin 32) (rs : Fin 32) (i : Word) (s : State) : ∃ u, execIoIn c rd rs i s = .next u ∧ Keeps s u := by
  refine ⟨_, rfl, ?_⟩
  have h := Keeps.refl s
  with_reducible repeat' (first | assumption | apply State.instr_keeps | apply State.inAt_keeps | intro _ | split | dsimp only)

theorem execOut_keeps (c : CoreId) (rd : Fin 32) (rs : Fin 32) (i : Word) (s : State) : ∃ u, execOut c rd rs i s = .next u ∧ Keeps s u := by
  refine ⟨_, rfl, ?_⟩
  have h := Keeps.refl s
  with_reducible repeat' first
    | assumption | apply State.modCore_keeps | apply State.drainAll_keeps | apply State.instr_keeps | apply State.ioStore_keeps | intro _ | split
    | dsimp only

theorem execMfs_keeps (c : CoreId) (r : Fin 32) (sn : Fin 64) (s : State) : ∃ u, execMfs c r sn s = .next u ∧ Keeps s u := by
  refine ⟨_, rfl, ?_⟩
  have h := Keeps.refl s
  with_reducible repeat' first
    | assumption | apply State.modCore_keeps | apply State.instr_keeps | apply State.inAt_keeps | intro _ | split | dsimp only

theorem State.jumpTo_keeps {s0 s : State} (hs : Keeps s0 s) (c : Nat) (t : Nat) : Keeps s0 (State.jumpTo s c t) := by
  unfold State.jumpTo
  with_reducible repeat' (first | assumption | apply State.modCore_keeps | apply State.flow_keeps | intro _ | split | dsimp only)

theorem State.branchOp_keeps {s0 s : State} (hs : Keeps s0 s) (c : CoreId) (n : Nat) (cond : BitVec 4) (h : Bool) (off : Int) : Keeps s0
    (State.branchOp s c n cond h off) := by
  unfold State.branchOp
  with_reducible repeat' first
    | assumption | apply State.modCore_keeps | apply State.instr_keeps | apply State.jumpTo_keeps | intro _ | split | dsimp only

theorem execBCond_keeps (c : CoreId) (cond : BitVec 4) (h : Bool) (off : BitVec 7) (s : State) : ∃ u, execBCond c cond h off s = .next u ∧ Keeps s
    u := by
  refine ⟨_, rfl, ?_⟩
  have h := Keeps.refl s
  with_reducible repeat' (first | assumption | apply State.branchOp_keeps | intro _ | split | dsimp only)

theorem execBlCond_keeps (c : CoreId) (cond : BitVec 4) (h : Bool) (off : Word) (s : State) : ∃ u, execBlCond c cond h off s = .next u ∧ Keeps s u
    := by
  refine ⟨_, rfl, ?_⟩
  have h := Keeps.refl s
  with_reducible repeat' (first | assumption | apply State.branchOp_keeps | intro _ | split | dsimp only)

theorem execJmp_keeps (c : CoreId) (t : BitVec 21) (s : State) : ∃ u, execJmp c t s = .next u ∧ Keeps s u := by
  refine ⟨_, rfl, ?_⟩
  have h := Keeps.refl s
  with_reducible repeat' (first | assumption | apply State.instr_keeps | apply State.jumpTo_keeps | intro _ | split | dsimp only)

theorem execJmpr_keeps (c : CoreId) (rs : Fin 32) (s : State) : ∃ u, execJmpr c rs s = .next u ∧ Keeps s u := by
  refine ⟨_, rfl, ?_⟩
  have h := Keeps.refl s
  with_reducible repeat' (first | assumption | apply State.instr_keeps | apply State.jumpTo_keeps | intro _ | split | dsimp only)

theorem State.goTo_keeps {s0 s : State} (hs : Keeps s0 s) (c : Nat) (t : Nat) : Keeps s0 (State.goTo s c t) := by
  unfold State.goTo
  with_reducible repeat' (first | assumption | apply State.modCore_keeps | apply State.flow_keeps | intro _ | split | dsimp only)

theorem State.callOp_keeps {s0 s : State} (hs : Keeps s0 s) (c : CoreId) (n : Nat) (t : Core → Nat) : Keeps s0 (State.callOp s c n t) := by
  unfold State.callOp
  with_reducible repeat' first
    | assumption | apply State.slideIn_keeps | apply State.instr_keeps | apply State.goTo_keeps | intro _ | split | dsimp only

theorem execCall_keeps (c : CoreId) (t : BitVec 21) (s : State) : ∃ u, execCall c t s = .next u ∧ Keeps s u := by
  refine ⟨_, rfl, ?_⟩
  have h := Keeps.refl s
  with_reducible repeat' (first | assumption | apply State.callOp_keeps | intro _ | split | dsimp only)

theorem execCallr_keeps (c : CoreId) (rs : Fin 32) (s : State) : ∃ u, execCallr c rs s = .next u ∧ Keeps s u := by
  refine ⟨_, rfl, ?_⟩
  have h := Keeps.refl s
  with_reducible repeat' (first | assumption | apply State.callOp_keeps | intro _ | split | dsimp only)

theorem State.returnOp_keeps {s0 s : State} (hs : Keeps s0 s) (c : CoreId) (f : Core → Core → Core) : Keeps s0 (State.returnOp s c f) := by
  unfold State.returnOp
  with_reducible repeat' first
    | assumption | apply State.modCore_keeps | apply State.refill_keeps | apply State.instr_keeps | apply State.goTo_keeps | intro _ | split
    | dsimp only

theorem execRet_keeps (c : CoreId) (s : State) : ∃ u, execRet c s = .next u ∧ Keeps s u := by
  refine ⟨_, rfl, ?_⟩
  have h := Keeps.refl s
  with_reducible repeat' (first | assumption | apply State.returnOp_keeps | intro _ | split | dsimp only)

theorem execReti_keeps (c : CoreId) (s : State) : ∃ u, execReti c s = .next u ∧ Keeps s u := by
  refine ⟨_, rfl, ?_⟩
  have h := Keeps.refl s
  with_reducible repeat' (first | assumption | apply State.returnOp_keeps | intro _ | split | dsimp only)

theorem execRetim_keeps (c : CoreId) (s : State) : ∃ u, execRetim c s = .next u ∧ Keeps s u := by
  refine ⟨_, rfl, ?_⟩
  have h := Keeps.refl s
  with_reducible repeat' first
    | assumption | apply State.each_keeps | apply State.modCore_keeps | apply State.loadNote_keeps | apply State.instr_keeps | apply State.goTo_keeps
    | intro _ | split | dsimp only

theorem execCallm_keeps (c : CoreId) (p : Fin 32) (t : Fin 32) (m : BitVec 16) (s : State) : ∃ u, execCallm c p t m s = .next u ∧ Keeps s u := by
  refine ⟨_, rfl, ?_⟩
  have h := Keeps.refl s
  with_reducible repeat' first
    | assumption | apply State.modCore_keeps | apply State.storeList_keeps | apply State.instr_keeps | apply State.goTo_keeps | intro _ | split
    | dsimp only

theorem execRetm_keeps (c : CoreId) (p : Fin 32) (m : BitVec 16) (s : State) : ∃ u, execRetm c p m s = .next u ∧ Keeps s u := by
  refine ⟨_, rfl, ?_⟩
  have h := Keeps.refl s
  with_reducible repeat' first
    | assumption | apply State.each_keeps | apply State.modCore_keeps | apply State.loadNote_keeps | apply State.instr_keeps | apply State.goTo_keeps
    | intro _ | split | dsimp only

theorem State.loopOp_keeps {s0 s : State} (hs : Keeps s0 s) (c : CoreId) (n : Nat) (e : Nat) (count : Core → Nat) : Keeps s0 (State.loopOp s c n e
    count) := by
  unfold State.loopOp
  with_reducible repeat' first
    | assumption | apply State.count_keeps | apply State.modCore_keeps | apply State.instr_keeps | intro _ | split | dsimp only

theorem execLoop_keeps (c : CoreId) (rc : Fin 32) (e : BitVec 7) (s : State) : ∃ u, execLoop c rc e s = .next u ∧ Keeps s u := by
  refine ⟨_, rfl, ?_⟩
  have h := Keeps.refl s
  with_reducible repeat' (first | assumption | apply State.loopOp_keeps | intro _ | split | dsimp only)

theorem execLoopi_keeps (c : CoreId) (e : BitVec 7) (count : Word) (s : State) : ∃ u, execLoopi c e count s = .next u ∧ Keeps s u := by
  refine ⟨_, rfl, ?_⟩
  have h := Keeps.refl s
  with_reducible repeat' (first | assumption | apply State.count_keeps | apply State.loopOp_keeps | intro _ | split | dsimp only)

theorem execHalt_keeps (c : CoreId) (s : State) : ∃ u, execHalt c s = .next u ∧ Keeps s u := by
  refine ⟨_, rfl, ?_⟩
  have h := Keeps.refl s
  with_reducible repeat' first
    | assumption | apply State.modCore_keeps | apply State.drainAll_keeps | apply State.instr_keeps | intro _ | split | dsimp only

theorem haltResume_keeps {s0 s : State} (hs : Keeps s0 s) (c : Nat) : Keeps s0 (haltResume c s) := by
  unfold haltResume
  with_reducible repeat' (first | assumption | apply State.modCore_keeps | apply State.interrupt_keeps | intro _ | split | dsimp only)

theorem execHaltResume_keeps (c : CoreId) (s : State) : ∃ u, execHaltResume c s = .next u ∧ Keeps s u := by
  refine ⟨_, rfl, ?_⟩
  have h := Keeps.refl s
  with_reducible repeat' (first | assumption | apply haltResume_keeps | intro _ | split | dsimp only)

theorem interruptEntry_keeps {s0 s : State} (hs : Keeps s0 s) (c : Nat) : Keeps s0 (interruptEntry c s) := by
  unfold interruptEntry
  with_reducible repeat' (first | assumption | apply State.interrupt_keeps | intro _ | split | dsimp only)

theorem execInterruptEntry_keeps (c : CoreId) (s : State) : ∃ u, execInterruptEntry c s = .next u ∧ Keeps s u := by
  refine ⟨_, rfl, ?_⟩
  have h := Keeps.refl s
  with_reducible repeat' (first | assumption | apply interruptEntry_keeps | intro _ | split | dsimp only)

theorem State.softTrap_keeps {s0 s : State} (hs : Keeps s0 s) (c : Nat) (vec : Nat) (cause : Nat) : Keeps s0 (State.softTrap s c vec cause) := by
  unfold State.softTrap
  with_reducible repeat' first
    | assumption | apply State.setCore_keeps | apply State.spillEntry_keeps | apply State.trapEntry_keeps | apply State.landed_keeps
    | apply State.instr_keeps | intro _ | split | dsimp only

theorem execSys_keeps (c : CoreId) (rs : Fin 32) (s : State) : ∃ u, execSys c rs s = .next u ∧ Keeps s u := by
  refine ⟨_, rfl, ?_⟩
  have h := Keeps.refl s
  with_reducible repeat' (first | assumption | apply State.softTrap_keeps | intro _ | split | dsimp only)

theorem execBrk_keeps (c : CoreId) (rs : Fin 32) (s : State) : ∃ u, execBrk c rs s = .next u ∧ Keeps s u := by
  refine ⟨_, rfl, ?_⟩
  have h := Keeps.refl s
  with_reducible repeat' (first | assumption | apply State.softTrap_keeps | intro _ | split | dsimp only)

theorem execUndefinedOpcode_keeps (c : CoreId) (w0 : Word) (w1 : Word) (s : State) : ∃ u, execUndefinedOpcode c w0 w1 s = .next u ∧ Keeps s u := by
  refine ⟨_, rfl, ?_⟩
  have h := Keeps.refl s
  with_reducible repeat' (first | assumption | apply State.instr_keeps | simp only [id] | intro _ | split | dsimp only)

theorem execIcuClaimRead_keeps (c : CoreId) (s : State) : ∃ u, execIcuClaimRead c s = .next u ∧ Keeps s u := by
  refine ⟨_, rfl, ?_⟩
  have h := Keeps.refl s
  with_reducible repeat' (first | assumption | apply State.ioRead_keeps | intro _ | split | dsimp only)

theorem execSwiSet_keeps (c : CoreId) (k : BitVec 4) (s : State) : ∃ u, execSwiSet c k s = .next u ∧ Keeps s u := by
  refine ⟨_, rfl, ?_⟩
  have h := Keeps.refl s
  with_reducible repeat' (first | assumption | apply State.ioStoreM_keeps | intro _ | split | dsimp only)

theorem execCoreRelease_keeps (c : CoreId) (a : Fin 2) (s : State) : ∃ u, execCoreRelease c a s = .next u ∧ Keeps s u := by
  refine ⟨_, rfl, ?_⟩
  have h := Keeps.refl s
  with_reducible repeat' (first | assumption | apply State.ioField_keeps | intro _ | split | dsimp only)

theorem execCoreReset_keeps (c : CoreId) (a : Fin 2) (s : State) : ∃ u, execCoreReset c a s = .next u ∧ Keeps s u := by
  refine ⟨_, rfl, ?_⟩
  have h := Keeps.refl s
  with_reducible repeat' (first | assumption | apply State.ioField_keeps | intro _ | split | dsimp only)

theorem execLockstepTest_keeps (c : CoreId) (s : State) : ∃ u, execLockstepTest c s = .next u ∧ Keeps s u := by
  refine ⟨_, rfl, ?_⟩
  have h := Keeps.refl s
  with_reducible repeat' (first | assumption | apply State.ioField_keeps | intro _ | split | dsimp only)

theorem execLockstepMismatch_keeps (s : State) : ∃ u, execLockstepMismatch s = .next u ∧ Keeps s u := by
  refine ⟨_, rfl, ?_⟩
  have h := Keeps.refl s
  with_reducible repeat' (first | assumption | apply inDom_keeps | apply State.record_keeps | intro _ | split | dsimp only)

theorem State.rtcTick_keeps {s0 s : State} (hs : Keeps s0 s) : Keeps s0 (State.rtcTick s) := by
  unfold State.rtcTick
  with_reducible repeat' (first | assumption | apply State.setFld_keeps | intro _ | split | dsimp only)

theorem State.ztTick_keeps {s0 s : State} (hs : Keeps s0 s) : Keeps s0 (State.ztTick s) := by
  unfold State.ztTick
  with_reducible repeat' first
    | assumption | apply State.setFld_keeps | apply State.modZone_keeps | apply State.setZt_keeps | intro _ | split | dsimp only

theorem State.accTick_keeps {s0 s : State} (hs : Keeps s0 s) : Keeps s0 (State.accTick s) := by
  unfold State.accTick
  with_reducible repeat' (first | assumption | apply State.modAcc_keeps | intro _ | split | dsimp only)

theorem State.imgTick_keeps {s0 s : State} (hs : Keeps s0 s) : Keeps s0 (State.imgTick s) := by
  unfold State.imgTick
  with_reducible repeat' (first | assumption | apply State.modImg_keeps | apply State.imMoving_keeps | intro _ | split | dsimp only)

theorem State.txTick_keeps {s0 s : State} (hs : Keeps s0 s) : Keeps s0 (State.txTick s) := by
  unfold State.txTick
  with_reducible repeat' first
    | assumption | apply State.setFld_keeps | apply State.each_keeps | apply State.modRng_keeps | intro _ | split | dsimp only

theorem State.hscTick_keeps {s0 s : State} (hs : Keeps s0 s) : Keeps s0 (State.hscTick s) := by
  unfold State.hscTick
  with_reducible repeat' (first | assumption | apply State.each_keeps | apply State.hscAge_keeps | intro _ | split | dsimp only)

theorem State.bootTick_keeps {s0 s : State} (hs : Keeps s0 s) : Keeps s0 (State.bootTick s) := by
  unfold State.bootTick
  with_reducible repeat' first
    | assumption | apply State.setFld_keeps | apply State.each_keeps | apply State.drew_keeps | intro _ | split | dsimp only

theorem State.luxTick_keeps {s0 s : State} (hs : Keeps s0 s) : Keeps s0 (State.luxTick s) := by
  unfold State.luxTick
  with_reducible repeat' (first | assumption | apply State.each_keeps | apply State.modLx_keeps | intro _ | split | dsimp only)

theorem State.dutyTicks_keeps {s0 s : State} (hs : Keeps s0 s) : Keeps s0 (State.dutyTicks s) := by
  unfold State.dutyTicks
  with_reducible repeat' (first | assumption | apply State.each_keeps | apply State.dutyTick_keeps | intro _ | split | dsimp only)

theorem State.meanTicks_keeps {s0 s : State} (hs : Keeps s0 s) : Keeps s0 (State.meanTicks s) := by
  unfold State.meanTicks
  with_reducible repeat' (first | assumption | apply State.each_keeps | apply State.meanTick_keeps | intro _ | split | dsimp only)

theorem State.tick_keeps {s0 s : State} (hs : Keeps s0 s) : Keeps s0 (State.tick s) := by
  unfold State.tick
  with_reducible repeat' first
    | assumption | apply inDom_keeps | apply State.thmTick_keeps | apply State.ethTime_keeps | apply State.creditIdle_keeps
    | apply State.holdLeft_keeps | apply State.brStates_keeps | apply State.rtcTick_keeps | apply State.ztTick_keeps | apply State.accTick_keeps
    | apply State.imgTick_keeps | apply State.txTick_keeps | apply State.hscTick_keeps | apply State.bootTick_keeps | apply State.luxTick_keeps
    | apply State.dutyTicks_keeps | apply State.meanTicks_keeps | intro _ | split | dsimp only

end Sys2Proof.Machine
end

