-- ==== Sys2Proof/Tests/Slice0.lean ====
section
/-! SUPPORT. Tests: the well-formedness checks each refuse an ill-formed command; steps whose results the manual's tables give; and, for each
statement, states and operands that meet its premises. -/

open Sys2Proof Sys2Proof.Machine

set_option Elab.async false

/-! ### Well-formedness: one ill-formed command for each check -/

namespace Smoke

/-- A Classical CAN frame of 11-bit identifier 5 and two bytes. -/
def classic : BusFrame := { fmt := 0, ident := 5, data := [1, 2] }

theorem test_wf_frame : (Instr.canFrameReceived 0 0 classic).wf = true := by decide
theorem test_ill_length : (Instr.canFrameReceived 0 0 { classic with data := List.replicate 9 0 }).wf = false := by decide
theorem test_ill_length_fd : (Instr.canFrameReceived 0 0 { classic with fmt := 1, data := List.replicate 9 0 }).wf = false := by decide
theorem test_ill_identifier : (Instr.canFrameReceived 0 0 { classic with ident := 0x800 }).wf = false := by decide
theorem test_ill_identifier_lin : (Instr.linFrameReceived 0 0 { classic with fmt := 3, ident := 64 }).wf = false := by decide
theorem test_ill_ide : (Instr.canFrameReceived 0 0 { classic with fmt := 2, b15 := true }).wf = false := by decide
theorem test_ill_rtr : (Instr.canFrameReceived 0 0 { classic with fmt := 1, b14 := true }).wf = false := by decide
theorem test_ill_brs : (Instr.canFrameReceived 0 0 { classic with b13 := true }).wf = false := by decide
theorem test_ill_esi : (Instr.canFrameReceived 0 0 { classic with b12 := true }).wf = false := by decide
theorem test_ill_xl_fields : (Instr.canFrameReceived 0 0 { classic with sdt := 3 }).wf = false := by decide
theorem test_ill_lin_on_can : (Instr.canFrameReceived 0 0 { classic with fmt := 3 }).wf = false := by decide
theorem test_ill_can_on_lin : (Instr.linFrameReceived 0 0 classic).wf = false := by decide
theorem test_ill_wuf : (Instr.canWuf 0 true { classic with fmt := 3 }).wf = false := by decide
theorem test_ill_slow_kind : (Instr.sentFrame 0 0 [] (some ⟨true, 0, 0, 0⟩)).wf = false := by decide
theorem test_ill_slow_short : (Instr.sentFrame 0 0 [] (some ⟨true, 1, 16, 0⟩)).wf = false := by decide
theorem test_ill_slow_12 : (Instr.sentFrame 0 0 [] (some ⟨true, 2, 16, 4096⟩)).wf = false := by decide
theorem test_ill_slow_16 : (Instr.sentFrame 0 0 [] (some ⟨true, 3, 16, 0⟩)).wf = false := by decide
theorem test_ill_estimate : (Instr.pestUpdate [(3, [(5, [2])]), (3, [])]).wf = false := by decide
theorem test_ill_estimate_times : (Instr.pestUpdate [(3, [(160001, [2])])]).wf = false := by decide
theorem test_ill_on_times : (Instr.wireModelUpdate 3 [(100000, [2]), (60001, [3])]).wf = false := by decide
theorem test_wf_on_times : (Instr.wireModelUpdate 3 [(100000, [2]), (60000, [3])]).wf = true := by decide
theorem test_ill_conversions : (Instr.adcResult 3 [1, 2]).wf = false := by decide
theorem test_ill_shift : (Instr.shli .s 1 18).wf = false ∧ (Instr.shri .s 1 18).wf = false ∧ (Instr.sari .s 1 18).wf = false
    ∧ (Instr.rori .s 1 18).wf = false := by decide
theorem test_ill_bit : (Instr.bset .s 1 18).wf = false ∧ (Instr.bclr .s 1 18).wf = false ∧ (Instr.btgl .s 1 18).wf = false
    ∧ (Instr.btst .s 1 18).wf = false := by decide
theorem test_ill_special : (Instr.mfs .s 1 45).wf = false ∧ (Instr.mts .s 45 1).wf = false ∧ (Instr.mts .s 44 1).wf = false := by decide
theorem test_ill_condition : (Instr.bCond .s 15 false 0).wf = false ∧ (Instr.bCond .s 0 true 0).wf = false
    ∧ (Instr.blCond .s 15 false 0).wf = false := by decide
theorem test_ill_mask : (Instr.callm .s 3 1 8).wf = false ∧ (Instr.retm .s 24 256).wf = false := by decide
theorem test_ill_defined : (Instr.undefinedOpcode .s 0 0).wf = false := by decide
theorem test_wf_shift : (Instr.shli .s 1 17).wf = true ∧ (Instr.mts .s 14 1).wf = true ∧ (Instr.bCond .s 14 true 0).wf = true := by decide

end Smoke

/-! ### States -/



/-- The state after reset with fields set. -/
def wst (l : List (FRef × Nat)) : State :=
  l.foldl (fun s e => s.setFld e.1 e.2) { State.reset with pw := { State.reset.pw with fabric := .on, act := .on, zsw := .on, net := .on, coreA := .on } }

/-- An accepted descriptor of ring 9, slot 3. -/
def wdesc (e op tgt : Nat) : Desc :=
  { id := 1, eng := e, ring := 9, slot := 3, owner := 0, phase := .ready, w0 := toWord (op * 64), w1 := toWord (tgt * 256), w2 := 0, w3 := 0, w4 := 0, w5 := 0, w6 := 0 }

/-- A state with other accepted descriptors; one with words of memory set. -/
def Sys2Proof.Machine.State.withD (s : State) (l : List Desc) : State := { s with descs := l }
def Sys2Proof.Machine.State.withMem (s : State) (l : List (Nat × Nat)) : State := l.foldl (fun s e => s.wr e.1 (toWord e.2)) s

/-- A state whose service messages have left. -/
def wImg (s : State) : State := s.modImg (fun i => { i with svcOut := [] })

/-! ### Steps -/

namespace Steps

/-- S runs an application at parcel 100 with some registers set. -/
def run (l : List (Fin 32 × Nat)) : State :=
  ((wst []).modPw (fun p => { p with coreS := .on, coreA := .on, mode := .run, boot := .app })).modCore 2
    (fun x => l.foldl (fun (y : Core) e => y.put e.1 (toWord e.2)) { x with run := .running, pc := 100 })

/-- The next state of a command put at the front of the queue. -/
def after (i : Instr) (s : State) : State :=
  match step (s.setPending [i]) with
  | .next t => t
  | _ => s

/-- A register of S. -/
def reg (s : State) (r : Fin 32) : Nat := ((s.core 2).get r).toNat

/-- R599: ADD of 0o377 777 and 1. -/
theorem test_add_overflow : reg (after (.add .s 1 2) (run [(1, 0o377777), (2, 1)])) 1 = 0o400000 ∧
    ((after (.add .s 1 2) (run [(1, 0o377777), (2, 1)])).core 2).v = true := by decide +kernel
/-- R599: NEGS of 0o400 000. -/
theorem test_negs_saturates : reg (after (.negs .s 1 2) (run [(2, 0o400000)])) 1 = 0o377777 := by decide +kernel
/-- R599: SHL of 1 by 18 sets C and Z. -/
theorem test_shl_out : ((after (.shl .s 1 2) (run [(1, 1), (2, 18)])).core 2).c = true := by decide +kernel
/-- R599: DIVS of -7 by 2, landed. -/
theorem test_divs_lands : ((after (.divisionLanding .s) (after (.divs .s 1 2) (run [(1, 0o777771), (2, 2)]))).core 2).qt = 0o777775 := by decide +kernel
/-- R595: a product lands in PH:PL. -/
theorem test_muls_lands : ((after (.productLanding .s) (after (.muls .s 1 2) (run [(1, 0o400000), (2, 0o400000)]))).core 2).ph = 0o200000 := by decide +kernel
/-- R593: SWB exchanges the bytes and keeps bits 17:16. -/
theorem test_swb : reg (after (.swb .s 1 2) (run [(2, 0o600000 + 0x1234)])) 1 = 0o600000 + 0x3412 := by decide +kernel
/-- R597: a call leaves the address after it in LK of the new window. -/
theorem test_call : ((after (.call .s 0o4000) (run [])).core 2).pc = 0o4000 ∧ ((after (.call .s 0o4000) (run [])).core 2).getLk = 102 := by decide +kernel
/-- R597: the branch offset counts from the branch. -/
theorem test_branch : ((after (.bCond .s 0 false (BitVec.ofInt 7 (-4))) (run [])).core 2).pc = 96 := by decide +kernel
/-- R596: a pre-decrement store writes below the pointer once it drains. -/
theorem test_store_drains : (after (.storeDrain .s) (after (.stPreDecrement .s 1 2) (run [(1, 77), (2, 0o700001)]))).coreWord 2 0o700000 = 77 := by
  decide +kernel
/-- R598: a count of 0 skips the body. -/
theorem test_loop_skips : ((after (.loopi .s 3 0) (run [])).core 2).pc = 106 := by decide +kernel
/-- R602: SYS enters vector 6. -/
theorem test_sys : ((after (.sys .s 3) ((run []).modCore 2 (fun x => { x with vbr := 0o1000 }))).core 2).pc = 0o10000 + 48 := by decide +kernel
/-- R590: a shift by 18 is a reserved field: ILL with cause 2. -/
theorem test_shift_18_traps : ((after (.shli .s 1 18) (run [])).core 2).tca = toWord (2 * 64) := by decide +kernel
/-- R61: a read of a reserved address returns 0 and sets RSVACC. -/
theorem test_reserved : (after (.rcCounterRead .s 0x2FFF) (run [])).on (ICU_FLAG_RSVACC 2) = true := by decide +kernel
/-- R68: RING_ENABLE puts a ring into its running state. -/
theorem test_ring_enable : (after (.ringEnable .s 9) (run [(0, 0)] |>.setFld (RNG_RCFG_OWNER 9) 2 |>.setFld (RNG_RCFG_ENGINE 9) 2)).fld (RNG_RSTAT_STATE 9) = 1 := by decide +kernel
/-- R79: a completed NOP writes w7 and clears OWN. -/
theorem test_nop_completes : let s := (run []).withD [wdesc 8 0 0] |>.withMem [(0o100030, 0o400000)]
    (after (.descriptorNop 9 3) s).rd 0o100030 = 0 ∧ (after (.descriptorNop 9 3) s).descs = [] := by decide +kernel
/-- R478: FACK of a class clears its pending bit. -/
theorem test_fault_ack : (after (.faultAck .s 7 4) ((run []).record 7 3 5)).fld (FLT_FPEND_PEND 7) = 0 := by decide +kernel
/-- With no command waiting, the real-time clock counts. -/
theorem test_idle : (match step (run []) with | .next t => t.fld PCR_RTCS_SUB | _ => 0) = 1 := by decide +kernel

end Steps

/-! ### Premises met -/

namespace Wit.Core
def cs (f : Core → Core) : State := ((wst []).modPw (fun p => {p with coreS := .on, coreA := .on, mode := .run, boot := .app})).modCore 2 (fun x => f {x with run := .running, pc := 100})
def cr (l : List (Fin 32 × Nat)) (x : Core) : Core := l.foldl (fun x e => x.put e.1 (toWord e.2)) x
def x0 : Core := cr [(1, 5), (2, 0o777776), (3, 0o400000)] {}
def r_1 : Res := { val := 0, c := some true, sat := true }
def b_1 : Word := 8
def v_1 : Word := 7
def lx (c : Nat) : Core := ((((x0.setLps 0 90).setLpe 0 100).setLpc 0 c).setTag 0 x0.wd)
def x_1 : Core := { x0 with pc := 100}
def x_2 : Core := {lx 3 with pc := 100}
def x_3 : Core := {lx 1 with pc := 100}
def s1 : State := cs (cr [(1, 5), (2, 0o777776), (3, 0o400000)])
def i7_1 : BitVec 7 := 120
def i_1 : Word := 0o777000
def o_1 : BitVec 7 := 0
def w_1 : Word := 0
def w0_1 : Word := toWord (40*4096)
def m_1 : BitVec 16 := 255
def m_2 : BitVec 16 := 3
def m_3 : BitVec 16 := 0
def l_1 : List Flight := []
def s_1 : State := cs (fun x => {x with mul := [⟨false, 77777⟩, ⟨true, 5⟩]})
def l_2 : List Flight := [⟨true, 5⟩]
def s_2 : State := cs (fun x => {x with ah := 0o777777, mul := [⟨true, 2^53+5⟩, ⟨true, 5⟩]})
def v_2 : Nat := 2^53+5
def f_1 : DivFlight := ⟨0, 0, false, false, 0⟩
def s_3 : State := cs (fun x => {x with div := some ⟨1, 2, true, true, 99⟩})
def f_2 : DivFlight := ⟨1, 2, true, true, 99⟩
def s_4 : State := cs (fun x => {x with ctl := 0o400000, div := some ⟨1, 2, true, true, 99⟩})
def w_2 : Word := 0o777777
def s2 : State := cs (cr [(1, 5), (2, 0o700100), (3, 0o710000)])
def i_2 : Word := 9
def s_5 : State := cs (cr [(2, 0o100000)])
def s_6 : State := cs (cr [(2, 0x1000)])
def irq (f : Core → Core) : State := (cs f).setFld (ICU_RT_RT0 84) 35 |>.setFld (ICU_SWI_PEND 2) 15
def bo : State := (cs (cr [(2, 0o100)])).setBankSt 0 1
def bo2 : State := (cs (cr [(2, 0o100100)])).setBankSt 0 1
def t_1 : Trp := ⟨2,2,0o100⟩
def t_2 : Trp := ⟨2,2,0o100100⟩
def s_7 : State := cs (cr [(2, 0o777777)])
def t_3 : Trp := ⟨2, 1, 0o777777⟩
def t_4 : Trp := ⟨2, 2, 0o777777⟩
def t_5 : Trp := ⟨0, 0, 0⟩
def t_6 : BitVec 21 := 99
def x_4 : Core := lx 3
def s_8 : State := cs (fun x => { x with res := 2, lk := [(0, 400)], isp := 0o100})
def s_9 : State := cs (fun x => { x with res := 2, isp := 0o100000})
def s_10 : State := cs (cr [(16, 0o200), (17, 50)])
def s_11 : State := cs (cr [(16, 0o100200), (1, 50), (17, 9)])
def m_4 : BitVec 16 := 2
def e_1 : BitVec 7 := 5
def s_12 : State := s1.setFld PCR_ENTRY_PHASE 2
def s_13 : State := (irq (fun x => {x with run := .halted, sr := 0}))
def s_14 : State := (irq (fun x => {x with run := .halted, sr := 0o4000}))
def s_15 : State := (irq (fun x => {x with run := .running, sr := 0o4000}))
def t_7 : Trp := ⟨2, 4, 99999⟩
def s_16 : State := cs (fun x => {x with run := .halted})
def i_3 : Word := 5
def k_1 : BitVec 4 := 2
def o_2 : BitVec 7 := 6
def s_17 : State := cs (fun x => {x with buf := [⟨0o100000, 7⟩, ⟨9, 9⟩]})
def l_3 : List BufStore := [⟨9,9⟩]
def s_18 : State := cs (fun x => {x with buf := [⟨0o300005, 7⟩, ⟨9, 9⟩]})


/-- Premises of RegistersAndFlags are met. -/
theorem test_premises_RegisterFile :
    (3 ≠ 4) := by
  decide +kernel

/-- Premises of RegistersAndFlags are met. -/
theorem test_premises_FlagsOfResults :
    (3 < 12 ∨ 3 = 13) ∧ (4 < BitVec.toNat (clz b_1)) ∧ (BitVec.toNat (clz b_1) < 18) := by
  and_intros <;> decide +kernel

/-- Premises of HardwareLoops are met. -/
theorem test_premises_LoopsOpen :
    ((s1.core CoreId.s.num).levels < 4) ∧ (e_1 ≠ 0) ∧ (s1.fetches CoreId.s.num 1 = true) ∧
    ((s1.core CoreId.s.num).nestBad (((s1.core CoreId.s.num).pc + 1 + e_1.toNat) % 2 ^ 21) = false) ∧ (s1.fetches CoreId.s.num 2 = true) ∧
    ((s1.core CoreId.s.num).nestBad (((s1.core CoreId.s.num).pc + 2 + e_1.toNat) % 2 ^ 21) = false) := by
  and_intros <;> decide +kernel

/-- Premises of HardwareLoops are met. -/
theorem test_premises_LoopLevels :
    (((List.range 4).all fun (j : Nat) => !(fun (j : Nat) => x_1.acts j && decide (x_1.lpeOf j = (x_1.pc + 1 - 1) % 2 ^ 21)) j) = true) ∧
    ((fun (j : Nat) => x_2.acts j && decide (x_2.lpeOf j = (x_2.pc + 1 - 1) % 2 ^ 21)) 0 = true) ∧
    (((List.range 4).all fun (j : Nat) => decide (j ≤ 0) || !(fun (j : Nat) => x_2.acts j && decide (x_2.lpeOf j = (x_2.pc + 1 - 1) % 2 ^ 21)) j) = true) ∧
    (1 < x_2.lpcOf 0) ∧ ((fun (j : Nat) => x_3.acts j && decide (x_3.lpeOf j = (x_3.pc + 1 - 1) % 2 ^ 21)) 0 = true) ∧
    (((List.range 4).all fun (j : Nat) => decide (j = 0) || !(fun (j : Nat) => x_3.acts j && decide (x_3.lpeOf j = (x_3.pc + 1 - 1) % 2 ^ 21)) j) = true) ∧
    (x_3.lpcOf 0 = 1) := by
  and_intros <;> decide +kernel

/-- Premises of AluRegisterForms are met. -/
theorem test_premises_AluRegisterForms :
    (s1.fetches CoreId.s.num 1 = true) := by
  decide +kernel

/-- Premises of AluImmediateForms are met. -/
theorem test_premises_AluImmediateForms :
    (s1.fetches CoreId.s.num 1 = true) ∧ (s1.fetches CoreId.s.num 2 = true) := by
  and_intros <;> decide +kernel

/-- Premises of ShiftsAndBits are met. -/
theorem test_premises_ShiftsAndBits :
    (s1.fetches CoreId.s.num 1 = true) ∧ (7 ≤ 17) := by
  and_intros <;> decide +kernel

/-- Premises of ReservedEncodings are met. -/
theorem test_premises_ReservedEncodings :
    (s1.fetches CoreId.s.num 1 = true) ∧ (17 < 20) ∧ (s1.fetches CoreId.s.num 2 = true) ∧ (illCause (BitVec.toNat w0_1) (BitVec.toNat w_1) = some 1) ∧
    (s1.fetches CoreId.s.num (parcels (BitVec.toNat w0_1)) = true) ∧ (sprRo 44 = true) ∧ ((maskRegs m_2).contains 1 = true) ∧ (sprListed 30 = false) := by
  and_intros <;> decide +kernel

/-- Premises of ProductsAndDivisions are met. -/
theorem test_premises_Products :
    (s1.fetches CoreId.s.num 1 = true) ∧ ((s1.core CoreId.s.num).mul.length < 4) ∧ (s1.runs CoreId.s.num = true) ∧ ((s1.core CoreId.s.num).mul = []) ∧
    (s_1.runs CoreId.s.num = true) ∧ ((s_1.core CoreId.s.num).mul = { mac := false, value := 77777 : Flight } :: l_2) ∧ (s_2.runs CoreId.s.num = true) ∧
    ((s_2.core CoreId.s.num).mul = { mac := true, value := v_2 : Flight } :: l_2) := by
  and_intros <;> decide +kernel

/-- Premises of ProductsAndDivisions are met. -/
theorem test_premises_Divisions :
    (s1.fetches CoreId.s.num 1 = true) ∧ ((s1.core CoreId.s.num).div = none) ∧ ((s1.core CoreId.s.num).get 2 ≠ 0) ∧ ((s1.core CoreId.s.num).get 9 = 0) ∧
    (s_3.runs CoreId.s.num = true) ∧ ((s_3.core CoreId.s.num).div = some f_2) ∧ (f_2.dz = false ∨ BitVec.getLsbD (s_3.core CoreId.s.num).ctl 17 = false) ∧
    (s_4.runs CoreId.s.num = true) ∧ ((s_4.core CoreId.s.num).div = some f_2) ∧ (f_2.dz = true) ∧ (BitVec.getLsbD (s_4.core CoreId.s.num).ctl 17 = true) := by
  and_intros <;> decide +kernel

/-- Premises of SpecialRegisters are met. -/
theorem test_premises_SpecialRegisters :
    (s1.fetches CoreId.s.num 1 = true) ∧ (sprListed 3 = true) ∧ (3 ≠ 48) ∧ (sprRo 3 = false) ∧ (3 ≤ 3) ∧ (3 ≤ 14) := by
  and_intros <;> decide +kernel

/-- Premises of LoadsAndStores are met. -/
theorem test_premises_Loads :
    ((fun (n : Nat) (a : Word) => s2.fetches CoreId.s.num n = true ∧ s2.loads CoreId.s.num (BitVec.toNat a) = true) 1 ((s2.core CoreId.s.num).get 2)) ∧
    ((fun (n : Nat) (a : Word) => s2.fetches CoreId.s.num n = true ∧ s2.loads CoreId.s.num (BitVec.toNat a) = true) 1 ((s2.core CoreId.s.num).get 2 - 1)) ∧
    ((fun (n : Nat) (a : Word) => s2.fetches CoreId.s.num n = true ∧ s2.loads CoreId.s.num (BitVec.toNat a) = true) 2 ((s2.core CoreId.s.num).get 2 + i_2)) := by
  and_intros <;> decide +kernel

/-- Premises of LoadsAndStores are met. -/
theorem test_premises_Stores :
    ((fun (n : Nat) (a : Word) => s2.fetches CoreId.s.num n = true ∧ s2.stores CoreId.s.num (BitVec.toNat a) = true ∧ (s2.core CoreId.s.num).buf.length < 8) 1 ((s2.core CoreId.s.num).get 2)) ∧
    ((fun (n : Nat) (a : Word) => s2.fetches CoreId.s.num n = true ∧ s2.stores CoreId.s.num (BitVec.toNat a) = true ∧ (s2.core CoreId.s.num).buf.length < 8) 1 ((s2.core CoreId.s.num).get 2 - 1)) ∧
    ((fun (n : Nat) (a : Word) => s2.fetches CoreId.s.num n = true ∧ s2.stores CoreId.s.num (BitVec.toNat a) = true ∧ (s2.core CoreId.s.num).buf.length < 8) 2 ((s2.core CoreId.s.num).get 2 + i_2)) := by
  and_intros <;> decide +kernel

/-- Premises of LoadsAndStores are met. -/
theorem test_premises_StoreDrain :
    (s_17.runs CoreId.s.num = true) ∧ ((s_17.core CoreId.s.num).buf = { addr := 32768, value := v_1 : BufStore } :: l_3) ∧
    (dataWordKey CoreId.s.num 32768 = some 32768) ∧ (s_17.dataOff CoreId.s.num 32768 = false) ∧ (¬(230912 ≤ 32768 ∧ 32768 < 231424)) ∧ (s_17.eccOf 32768 = 0) := by
  and_intros <;> decide +kernel

/-- Premises of InOutAndAccessTraps are met. -/
theorem test_premises_InOut :
    (s_6.fetches CoreId.s.num 2 = true) ∧ (s_6.accesses CoreId.s.num (BitVec.toNat ((s_6.core CoreId.s.num).get 2 + i_2)) false = true) ∧
    (s_6.accesses CoreId.s.num (BitVec.toNat ((s_6.core CoreId.s.num).get 2 + i_2)) true = true) := by
  and_intros <;> decide +kernel

/-- Premises of InOutAndAccessTraps are met. -/
theorem test_premises_AccessTraps :
    (bo2.fetches CoreId.s.num 1 = true) ∧ (bo2.loadTrap CoreId.s.num (BitVec.toNat ((bo2.core CoreId.s.num).get 2)) = some t_2) ∧ (t_2.vec ≠ 3) ∧
    (bo2.storeTrap CoreId.s.num (BitVec.toNat ((bo2.core CoreId.s.num).get 2)) = some t_2) ∧ (s_7.fetches CoreId.s.num 2 = true) ∧
    (2 ^ 16 ≤ BitVec.toNat ((s_7.core CoreId.s.num).get 2 + w_1)) ∧ (s_7.fetches CoreId.s.num 1 = true) ∧
    (237568 ≤ BitVec.toNat ((s_7.core CoreId.s.num).get 2)) ∧ (s_7.mpuOk CoreId.s.num false (BitVec.toNat ((s_7.core CoreId.s.num).get 2)) true = true) := by
  and_intros <;> decide +kernel

/-- Premises of Jumps are met. -/
theorem test_premises_Jumps :
    (s1.fetches CoreId.s.num 2 = true) ∧ (s1.fetches CoreId.s.num 1 = true) ∧
    (((List.range 4).all fun (i : Nat) => !(fun (j : Nat) => x_4.acts j && decide (95 < x_4.lpsOf j ∨ x_4.lpeOf j < 95)) i) = true) ∧
    ((fun (j : Nat) => x_4.acts j && decide (200 < x_4.lpsOf j ∨ x_4.lpeOf j < 200)) 0 = true) ∧
    (((List.range 0).all fun (i : Nat) => !(fun (j : Nat) => x_4.acts j && decide (200 < x_4.lpsOf j ∨ x_4.lpeOf j < 200)) i) = true) := by
  and_intros <;> decide +kernel

/-- Premises of CallsAndReturns are met. -/
theorem test_premises_Calls :
    ((s1.core CoreId.s.num).res < 14) ∧ (s1.fetches CoreId.s.num 2 = true) ∧ (s1.fetches CoreId.s.num 1 = true) ∧ (77 < 2 ^ 21) := by
  and_intros <;> decide +kernel

/-- Premises of CallsAndReturns are met. -/
theorem test_premises_Returns :
    (s_8.fetches CoreId.s.num 1 = true) ∧ (1 < (s_8.core CoreId.s.num).res) ∧
    (((List.range 3).all fun (i : Nat) => s_8.loads CoreId.s.num ((BitVec.toNat (s_8.core CoreId.s.num).isp + i) % 2 ^ 18)) = true) := by
  and_intros <;> decide +kernel

/-- Premises of CallsAndReturns are met. -/
theorem test_premises_MaskedCallsAndReturns :
    (s_10.fetches CoreId.s.num 2 = true) ∧ ((maskRegs m_2).contains 16 = false) ∧
    (((List.range (2 + (maskRegs m_2).length)).all fun (i : Nat) => s_10.stores CoreId.s.num ((BitVec.toNat ((s_10.core CoreId.s.num).get 16 - BitVec.ofNat 18 (2 + (maskRegs m_2).length)) + i) % 2 ^ 18)) = true) ∧
    (((List.range (2 + (maskRegs m_2).length)).all fun (i : Nat) => s_10.loads CoreId.s.num ((BitVec.toNat ((s_10.core CoreId.s.num).get 16) + i) % 2 ^ 18)) = true) := by
  and_intros <;> decide +kernel

/-- Premises of HaltsAndStops are met. -/
theorem test_premises_Halts :
    (s1.fetches CoreId.s.num 1 = true) ∧ (s1.pendAbove CoreId.s.num (s1.core CoreId.s.num).prio = none) ∧
    (s_12.acked 0 = true ∨ s_12.fld PCR_ENTRY_PHASE = 2) ∧ (s_13.acked 0 = false) ∧ (s_13.fld PCR_ENTRY_PHASE ≠ 2) ∧
    (s_13.pendAbove CoreId.s.num (s_13.core CoreId.s.num).prio = some (3, 252)) ∧ ((s_13.core CoreId.s.num).run = CoreRun.halted) ∧
    (s_13.lives CoreId.s.num = true) ∧ ((s_13.core CoreId.s.num).ie = false) ∧ (s_14.acked 0 = false) ∧ (s_14.fld PCR_ENTRY_PHASE ≠ 2) ∧
    (s_14.pendAbove CoreId.s.num (s_14.core CoreId.s.num).prio = some (3, 252)) ∧ ((s_14.core CoreId.s.num).run = CoreRun.halted) ∧
    (s_14.lives CoreId.s.num = true) ∧ ((s_14.core CoreId.s.num).ie = true) := by
  and_intros <;> decide +kernel

/-- Premises of HaltsAndStops are met. -/
theorem test_premises_StoppedCores :
    (s_16.runs CoreId.s.num = false) := by
  decide +kernel

/-- Premises of EntriesTaken are met. -/
theorem test_premises_InterruptEntry :
    (s_15.pendAbove CoreId.s.num (s_15.core CoreId.s.num).prio = some (3, 252)) ∧ (s_15.runs CoreId.s.num = true) ∧ ((s_15.core CoreId.s.num).ie = true) ∧
    ((s_15.core CoreId.s.num).mul = []) ∧ ((s_15.core CoreId.s.num).div = none) ∧ ((s_15.core CoreId.s.num).res < 14) ∧
    (s_15.bit (ICU_CMSEL_CMSEL CoreId.s.num) 3 = false) := by
  and_intros <;> decide +kernel

/-- Premises of EntriesTaken are met. -/
theorem test_premises_SoftwareTraps :
    (s1.fetches CoreId.s.num 1 = true) ∧ ((s1.core CoreId.s.num).mul = []) ∧ ((s1.core CoreId.s.num).div = none) ∧ ((s1.core CoreId.s.num).res < 14) ∧
    (BitVec.getLsbD (s1.core CoreId.s.num).ctl 16 = false) := by
  and_intros <;> decide +kernel

/-- Premises of TrapEntry are met. -/
theorem test_premises_TrapEntry :
    (t_7.vec < 8) ∧ (t_7.vec ≠ 5) ∧ (t_7.cause < 64) ∧ (t_7.tad < 2 ^ 21) ∧ ((s1.core CoreId.s.num).mul = []) ∧ ((s1.core CoreId.s.num).div = none) ∧
    ((s1.core CoreId.s.num).res < 14) ∧ (BitVec.getLsbD (s1.core CoreId.s.num).ctl 16 = false) ∧ ((s1.core CoreId.s.num).pc < 2 ^ 21) := by
  and_intros <;> decide +kernel

end Wit.Core

namespace Wit.Hsc
def hd (op : Nat) (w2 w3 fl : Nat) : Desc := { wdesc 2 op 5 with w2 := toWord w2, w3 := toWord w3, w0 := toWord (op * 64 + fl) }
def hs (op st w2 w3 fl : Nat) : State := (wst [(HSC_STAT_STATE 5, st)]).withD [hd op w2 w3 fl]
def s_1 : State := hs 1 7 0 0 0
def d_1 : Desc := hd 1 0 0 0
def s_2 : State := hs 1 8 0 0 0
def s_3 : State := hs 1 9 0 0 0
def s_4 : State := hs 1 0 0 0 0
def s_5 : State := hs 1 0 70 0 0
def d_2 : Desc := hd 1 70 0 0
def s_6 : State := hs 1 2 70 3 0
def d_3 : Desc := hd 1 70 3 0
def s_7 : State := (hs 1 2 70 3 0).withMem [(seqKey (5*0o60), 2^17 + 5*0o60+16)]
def s_8 : State := hs 2 2 0 0 0
def d_4 : Desc := hd 2 0 0 0
def s_9 : State := hs 2 7 0 0 0
def s_10 : State := hs 3 2 0 0 2
def d_5 : Desc := hd 3 0 0 2
def s_11 : State := (hs 3 2 0 0 2).withMem [(seqKey (5*0o60+2), 2^17 + 5*0o60+16)]
def s_12 : State := hs 4 2 0 0 0
def d_6 : Desc := hd 4 0 0 0
def s_13 : State := (hs 4 2 0 0 0).setFld (HSC_CFG_OLON 5) 1
def s_14 : State := (hs 1 0 0 0 0).setFld (HSC_CFG_PAR 4) 1
def s_15 : State := (hs 5 2 0 0 0).setFld (THM_TSTAT_TJLAT 5) 1
def d_7 : Desc := hd 5 0 0 0
def s_16 : State := hs 4 3 0 0 0
def s_17 : State := hs 5 3 0 0 0
def s_18 : State := hs 5 7 0 0 0
def he (l : List (FRef × Nat)) (st : Nat) : State := wst ([(HSC_STAT_STATE 5, st)] ++ l)
def hp : Desc := { wdesc 2 1 5 with phase := .prov, w4 := toWord (3 * 512) }
def hg : Desc := { wdesc 2 4 5 with phase := .running }
def s_19 : State := he [(SEQ_OVAL_D 5, 262143)] 2
def i_1 : Word := 0
def d_8 : Desc := { wdesc 15 63 999 with ring := 63, slot := 1023 }
def s_20 : State := he [] 3
def s_21 : State := he [(HSC_STAT_SCNT 5, 1), (HSC_STAT_WARM 5, 1), (HSC_STAT_RCNT 5, 2)] 3
def s_22 : State := he [] 4
def s_23 : State := he [] 6
def s_24 : State := he [(HSC_STAT_UV 5, 1)] 5
def s_25 : State := he [(HSC_STAT_UV 5, 1), (SEQ_OVAL_D 5, 100)] 5
def s_26 : State := (he [(HSC_STAT_UV 5, 1)] 5).modHch 5 (fun c => { c with pend := true })
def s_27 : State := (he [(HSC_STAT_UV 5, 1), (HSC_STAT_RCNT 5, 1)] 5).modHch 5 (fun c => { c with pend := true })
def s_28 : State := (he [] 2).modInp (fun c => { c with dcMap := true })
def s_29 : State := he [(SEQ_OVAL_D 5, 262143)] 3
def s_30 : State := he [(HSC_CFG_OLOFF 5, 1)] 0
def s_31 : State := he [(HSC_CFG_DIAGP 5, 1), (SEQ_OVAL_D 5, 100)] 2
def s_32 : State := (he [] 1).withD [hp]
def s_33 : State := (he [] 0).withD [hg]
def s_34 : State := he [(HSC_STAT_SCNT 5, 0)] 2
def s_35 : State := he [(HSC_CFG_LOAD 5, 0),(HSC_CFG_DIAGP 5, 1)] 3
def s_36 : State := (he [(HSC_CFG_LOAD 5, 0)] 1).withD [hp]


/-- Premises of HighSideDescriptors are met. -/
theorem test_premises_HighSideDescriptors :
    (s_1.domOn Dom.act = true) ∧ (s_1.ready 2 1 9 3 d_1 = true) ∧ (s_1.hscOdd d_1.target = false) ∧ (s_1.hst d_1.target = 7) ∧ (s_2.domOn Dom.act = true) ∧
    (s_2.ready 2 1 9 3 d_1 = true) ∧ (s_2.hscOdd d_1.target = false) ∧ (s_2.hst d_1.target = 8) ∧ (s_3.domOn Dom.act = true) ∧ (s_3.ready 2 1 9 3 d_1 = true) ∧
    (s_3.hscOdd d_1.target = false) ∧ (s_3.hst d_1.target = 9) ∧ (s_4.domOn Dom.act = true) ∧ (s_4.ready 2 1 9 3 d_1 = true) ∧
    (s_4.hscOdd d_1.target = false) ∧ (s_4.hst d_1.target < 7) ∧ (((fun (k : Nat) => s_4.entryScrub d_1.target k) 0).entryValid d_1.target 0 = false) ∧
    (bitsOf (BitVec.toNat d_1.w3) 12 0 = 0) ∧ (d_1.w2 = 0) ∧ (s_5.domOn Dom.act = true) ∧ (s_5.ready 2 1 9 3 d_2 = true) ∧ (s_5.hscOdd d_2.target = false) ∧
    (s_5.hst d_2.target < 7) ∧ (((fun (k : Nat) => s_5.entryScrub d_2.target k) 0).entryValid d_2.target 0 = false) ∧ (bitsOf (BitVec.toNat d_2.w3) 12 0 = 0) ∧
    (d_2.w2 ≠ 0) ∧ (s_6.domOn Dom.act = true) ∧ (s_6.ready 2 1 9 3 d_3 = true) ∧ (s_6.hscOdd d_3.target = false) ∧ (s_6.hst d_3.target < 7) ∧
    (((fun (k : Nat) => s_6.entryScrub d_3.target k) 0).entryValid d_3.target 0 = false) ∧ (bitsOf (BitVec.toNat d_3.w3) 12 0 ≠ 0) ∧ (s_7.domOn Dom.act = true) ∧
    (s_7.ready 2 1 9 3 d_3 = true) ∧ (s_7.hscOdd d_3.target = false) ∧ (s_7.hst d_3.target < 7) ∧
    (((fun (k : Nat) => s_7.entryScrub d_3.target k) 0).entryValid d_3.target 0 = true) ∧ (s_8.domOn Dom.act = true) ∧ (s_8.ready 2 2 9 3 d_4 = true) ∧
    (s_8.hscOdd d_4.target = false) ∧ (s_8.hst d_4.target < 7) ∧ (s_9.domOn Dom.act = true) ∧ (s_9.ready 2 2 9 3 d_4 = true) ∧
    (s_9.hscOdd d_4.target = false) ∧ (s_9.hst d_4.target = 7) ∧ (s_10.domOn Dom.act = true) ∧ (s_10.ready 2 3 9 3 d_5 = true) ∧
    (s_10.hscOdd d_5.target = false) ∧ (s_10.hst d_5.target < 7) ∧
    (((fun (k : Nat) => s_10.entryScrub d_5.target k) (d_5.flags % 8)).entryValid d_5.target (d_5.flags % 8) = false) ∧ (s_11.domOn Dom.act = true) ∧
    (s_11.ready 2 3 9 3 d_5 = true) ∧ (s_11.hscOdd d_5.target = false) ∧ (s_11.hst d_5.target < 7) ∧
    (((fun (k : Nat) => s_11.entryScrub d_5.target k) (d_5.flags % 8)).entryValid d_5.target (d_5.flags % 8) = true) ∧ (s_12.domOn Dom.act = true) ∧
    (s_12.ready 2 4 9 3 d_6 = true) ∧ (s_12.hscOdd d_6.target = false) ∧ (s_12.hst d_6.target ∈ [0, 2, 9]) ∧ (s_12.on (HSC_CFG_OLON d_6.target) = false) ∧
    (s_13.domOn Dom.act = true) ∧ (s_13.ready 2 4 9 3 d_6 = true) ∧ (s_13.hscOdd d_6.target = false) ∧ (s_13.hst d_6.target ∈ [0, 2, 9]) ∧
    (s_13.on (HSC_CFG_OLON d_6.target) = true) ∧ (s_14.domOn Dom.act = true) ∧ (s_14.hscOdd d_1.target = true) ∧ (s_14.ready 2 1 9 3 d_1 = true) ∧
    (s_15.domOn Dom.act = true) ∧ (s_15.ready 2 5 9 3 d_7 = true) ∧ (s_15.hscOdd d_7.target = false) ∧ (bitAt d_7.flags 0 = false) ∧
    (s_15.hst d_7.target < 7) ∧
    ((s_15.setFld (HSC_STAT_SCNT d_7.target) 2).hscLat d_7.target + 4 * b2n ((s_15.setFld (HSC_STAT_SCNT d_7.target) 2).wireTrip d_7.target) ≠ 0) ∧
    (s_16.domOn Dom.act = true) ∧ (s_16.ready 2 4 9 3 d_6 = true) ∧ (s_16.hscOdd d_6.target = false) ∧ (s_16.hst d_6.target ∈ [1, 3, 4, 5, 6, 7]) ∧
    (s_17.domOn Dom.act = true) ∧ (s_17.ready 2 5 9 3 d_7 = true) ∧ (s_17.hscOdd d_7.target = false) ∧ (s_17.hst d_7.target < 7) ∧
    ((s_17.setFld (HSC_STAT_SCNT d_7.target) 2).hscLat d_7.target = 0) ∧ ((s_17.setFld (HSC_STAT_SCNT d_7.target) 2).wireTrip d_7.target = false) ∧
    (s_18.domOn Dom.act = true) ∧ (s_18.ready 2 5 9 3 d_7 = true) ∧ (s_18.hscOdd d_7.target = false) ∧ (s_18.hst d_7.target = 7) ∧
    ((s_18.setFld (HSC_STAT_SCNT d_7.target) 2).hscLat d_7.target = 0) ∧ ((s_18.setFld (HSC_STAT_SCNT d_7.target) 2).wireTrip d_7.target = false) := by
  and_intros <;> decide +kernel

/-- Premises of HighSideEvents are met. -/
theorem test_premises_HighSideEvents :
    (s_19.domOn Dom.act = true) ∧ (s_19.hst (s_19.hscOf 5) = 2) ∧ (s_19.hst (s_19.hscOf 5) ∈ [2, 3]) ∧ (s_19.inp.dcMap = false) ∧
    (s_19.fld (HSC_STAT_SCNT (s_19.hscOf 5)) ≠ 0) ∧
    (((s_19.raise (HSC_STAT_UV 5)).modHch 5 fun (c : HscCh) => { dNext := c.dNext, rampFrom := c.rampFrom, rampTo := c.rampTo, rampN := c.rampN, rampLeft := c.rampLeft, pend := c.pend, shortBudget := c.shortBudget, retryOver := c.retryOver, held := c.held, want := c.want, rUsed := c.rUsed, sUsed := c.sUsed, uvSeen := true, olLow := c.olLow, olHigh := c.olHigh, age := c.age, ageT := c.ageT, offAge := c.offAge, ilsel := c.ilsel, pulse := c.pulse, preheat := c.preheat : HscCh }).hst 5 ∈ [2, 3, 4]) ∧
    ((s_19.setFld (HSC_STAT_UV 5) 0).hst 5 ≠ 5) ∧ (s_19.hst 5 ∈ [2, 3]) ∧ (s_19.hscOdd 5 = false) ∧ (s_19.hscMeasures 5 = true) ∧ (s_19.hst 5 ≠ 3) ∧
    (s_19.on (HSC_CFG_OLON 5) = false) ∧ (s_19.hscDiag 5 = none) ∧ (s_19.on (HSC_CFG_OLOFF 5) = false) ∧ (s_20.domOn Dom.act = true) ∧
    (s_20.hst (s_20.hscOf 5) = 3) ∧
    ((((s_20.count (HSC_CNT_OVLS (s_20.hscOf 5))).hscEvt (s_20.hscOf 5) 6).protEvent (s_20.hscOf 5)).on (HSC_STAT_WARM (s_20.hscOf 5)) = false) ∧
    (s_20.hscOdd 5 = true ∨ s_20.hscMeasures 5 = false) ∧ (s_21.domOn Dom.act = true) ∧ (s_21.hst (s_21.hscOf 5) = 3) ∧
    ((((s_21.count (HSC_CNT_OVLS (s_21.hscOf 5))).hscEvt (s_21.hscOf 5) 6).protEvent (s_21.hscOf 5)).on (HSC_STAT_WARM (s_21.hscOf 5)) = true) ∧
    ((((s_21.count (HSC_CNT_OVLS (s_21.hscOf 5))).hscEvt (s_21.hscOf 5) 6).protEvent (s_21.hscOf 5)).on (HSC_STAT_RCNT (s_21.hscOf 5)) = true) ∧
    (s_22.domOn Dom.act = true) ∧ (s_22.hst (s_22.hscOf 5) = 4) ∧ (s_22.hst 5 ∉ [2, 3]) ∧ (s_23.domOn Dom.act = true) ∧
    (s_23.hst (s_23.hscOf 5) = 6 ∨ s_23.hst (s_23.hscOf 5) = 5 ∧ (s_23.hch (s_23.hscOf 5)).pend = true) ∧
    (((s_23.raise (HSC_STAT_UV 5)).modHch 5 fun (c : HscCh) => { dNext := c.dNext, rampFrom := c.rampFrom, rampTo := c.rampTo, rampN := c.rampN, rampLeft := c.rampLeft, pend := c.pend, shortBudget := c.shortBudget, retryOver := c.retryOver, held := c.held, want := c.want, rUsed := c.rUsed, sUsed := c.sUsed, uvSeen := true, olLow := c.olLow, olHigh := c.olHigh, age := c.age, ageT := c.ageT, offAge := c.offAge, ilsel := c.ilsel, pulse := c.pulse, preheat := c.preheat : HscCh }).hst 5 ∉ [2, 3, 4]) ∧
    (s_24.domOn Dom.act = true) ∧ ((s_24.setFld (HSC_STAT_UV 5) 0).hst 5 = 5) ∧ (((s_24.setFld (HSC_STAT_UV 5) 0).hch 5).pend = false) ∧
    ((s_24.setFld (HSC_STAT_UV 5) 0).stageD 5 = 0) ∧ (s_25.domOn Dom.act = true) ∧ ((s_25.setFld (HSC_STAT_UV 5) 0).hst 5 = 5) ∧
    (((s_25.setFld (HSC_STAT_UV 5) 0).hch 5).pend = false) ∧ ((s_25.setFld (HSC_STAT_UV 5) 0).stageD 5 ≠ 0) ∧ (s_27.domOn Dom.act = true) ∧
    ((s_27.setFld (HSC_STAT_UV 5) 0).hst 5 = 5) ∧ (((s_27.setFld (HSC_STAT_UV 5) 0).hch 5).pend = true) ∧
    (((s_27.setFld (HSC_STAT_UV 5) 0).hch 5).retryOver = false) ∧ ((s_27.setFld (HSC_STAT_UV 5) 0).on (HSC_STAT_RCNT 5) = true) ∧
    ((s_27.setFld (HSC_STAT_UV 5) 0).on (HSC_STAT_SCNT 5) = true) ∧ (s_28.domOn Dom.act = true) ∧ (s_28.inp.dcMap = true) ∧ (s_29.domOn Dom.act = true) ∧
    (s_29.hscOdd 5 = false) ∧ (s_29.hscMeasures 5 = true) ∧ (s_29.hst 5 = 3) ∧ (s_29.on (HSC_CFG_FINE 5) = false) ∧
    (BitVec.toNat i_1 * s_29.hscLsb 5 < s_29.hscLimit 5) ∧ (s_29.on (HSC_CFG_OLON 5) = false) ∧ (s_29.hscDiag 5 = none) ∧
    (((((s_29.setReg (rHSC_IMEAS 5) (BitVec.toNat i_1)).raise (HSC_STAT_IVAL 5)).modHch 5 fun (c : HscCh) => { dNext := c.dNext, rampFrom := c.rampFrom, rampTo := c.rampTo, rampN := c.rampN, rampLeft := c.rampLeft, pend := c.pend, shortBudget := c.shortBudget, retryOver := c.retryOver, held := c.held, want := c.want, rUsed := c.rUsed, sUsed := c.sUsed, uvSeen := c.uvSeen, olLow := c.olLow, olHigh := c.olHigh, offAge := c.offAge, ilsel := c.ilsel, preheat := c.preheat : HscCh }).hscUnlimit 5).on (HSC_CFG_OLON 5) = false) ∧
    (((((s_29.setReg (rHSC_IMEAS 5) (BitVec.toNat i_1)).raise (HSC_STAT_IVAL 5)).modHch 5 fun (c : HscCh) => { dNext := c.dNext, rampFrom := c.rampFrom, rampTo := c.rampTo, rampN := c.rampN, rampLeft := c.rampLeft, pend := c.pend, shortBudget := c.shortBudget, retryOver := c.retryOver, held := c.held, want := c.want, rUsed := c.rUsed, sUsed := c.sUsed, uvSeen := c.uvSeen, olLow := c.olLow, olHigh := c.olHigh, offAge := c.offAge, ilsel := c.ilsel, preheat := c.preheat : HscCh }).hscUnlimit 5).hscDiag 5 = none) ∧
    (s_30.domOn Dom.act = true) ∧ (s_30.hscDiag 5 = none) ∧ (s_30.hscOdd 5 = false) ∧ (s_30.hscOffTimes 5 = true) ∧ (s_30.on (HSC_CFG_OLOFF 5) = true) ∧
    (s_30.fld (HSC_CFG_BRACE 5) ≠ 1) ∧ (s_30.hst 5 = 9 → s_30.mirrorIdle 5 = true) ∧ (s_33.domOn Dom.act = true) ∧ (s_33.hscDiag 5 = some hg) ∧
    (s_33.hst 5 ∉ [2, 3]) ∧ ((s_33.finish hg 24 0).hst 5 ∉ [2, 3]) ∧ (s_34.domOn Dom.act = true) ∧ (s_34.hst (s_34.hscOf 5) ∈ [2, 3]) ∧
    (s_34.inp.dcMap = false) ∧ (s_34.fld (HSC_STAT_SCNT (s_34.hscOf 5)) = 0) ∧ (s_35.domOn Dom.act = true) ∧ (s_35.hst 5 ∈ [2, 3]) ∧
    (s_35.fld (HSC_CFG_LOAD 5) = 0) ∧ (s_35.on (HSC_CFG_DIAGP 5) = true) ∧ (s_35.hscSolid 5 = false) ∧ (s_35.hscOnTicks 5 < s_35.tolMin 5) ∧
    (s_36.domOn Dom.act = true) ∧ (s_36.provDesc 2 5 = some hp) ∧ (s_36.hst 5 = 1) ∧ (s_36.fld (HSC_CFG_LOAD 5) = 0) ∧ (bitsOf (BitVec.toNat hp.w4) 17 9 ≠ 0) := by
  and_intros <;> decide +kernel

end Wit.Hsc

namespace Wit.Seq
def ts (op a v : Nat) (l : List (FRef × Nat)) (t : Thread) : State :=
  (((wst ([(SEQ_OSTAT_STATE 7, 1), (SEQ_OSTAT_PC 7, 7*0o60+20)] ++ l)).withMem [(seqKey (7*0o60+20), op * 8192 + a), (seqKey (7*0o60+21), v)]).setThr 7 t)
def s_1 : State := ts 0 0 0 [] {}
def s_2 : State := ts 1 0 0 [] {}
def s_3 : State := ts 2 0 99 [] {}
def s_4 : State := ts 3 0 0 [] {q0 := 5}
def s_5 : State := ts 3 1 0 [] {q1 := 5}
def s_6 : State := ts 3 2 0 [] {q2 := 5}
def s_7 : State := ts 4 10 999 [] {d := 8}
def s_8 : State := ts 5 10 0 [] {d := 8, dirty := true}
def s_9 : State := ts 6 10 0 [] {d := 8, dirty := true}
def s_10 : State := ts 7 18 0 [] {d := 8, dirty := true}
def s_11 : State := ts 8 5000 0 [] {}
def s_12 : State := ts 9 340 0 [] {c0 := 1}
def s_13 : State := ts 9 340 0 [] {c0 := 2}
def s_14 : State := ts 9 340 0 [] {c0 := 0}
def s_15 : State := ts 10 340 0 [] {c1 := 1}
def s_16 : State := ts 10 340 0 [] {c1 := 2}
def s_17 : State := ts 10 340 0 [] {c1 := 0}
def s_18 : State := ts 11 340 0 [] {}
def s_19 : State := ts 11 3 0 [] {}
def s_20 : State := ts 12 340 0 [] {}
def s_21 : State := ts 13 0 0 [] {ret := some 350}
def s_22 : State := ts 14 0 0 [] {}
def s_23 : State := ts 14 0 0 [] {e := true}
def s_24 : State := ts 14 0 (2*8192) [] {e := true}
def s_25 : State := ts 15 3 0 [] {}
def s_26 : State := ts 16 3 0 [] {}
def s_27 : State := ts 17 0 77 [] {}
def s_28 : State := ts 18 77 0 [] {}
def s_29 : State := ts 18 77 0 [(SEQ_GCFG_PER 0, 640)] {}
def s_30 : State := ts 19 77 0 [] {}
def tt (st : Nat) (l : List (FRef × Nat)) (t : Thread) : State := (wst ([(SEQ_OSTAT_STATE 7, st)] ++ l)).setThr 7 t
def s_31 : State := tt 2 [(SEQ_GCFG_PER 3, 640)] {e := true}
def v_1 : Word := 0
def z_1 : BitVec 64 := 0
def s_32 : State := tt 3 [(SEQ_GCFG_PER 3, 640)] {e := true}
def s_33 : State := tt 4 [(SEQ_GCTL_FROZEN 3, 1)] {ev := true}
def s_34 : State := tt 4 [(SEQ_OVAL_D 5, 1)] {waitN := 3}
def s_35 : State := tt 6 [] {susp := 2}
def s_36 : State := tt 6 [(SEQ_MADR_ADDR, 340)] {susp := 2}
def v_2 : Word := 5
def s_37 : State := tt 0 [(SEQ_MADR_ADDR, 340)] {susp := 2}
def s_38 : State := tt 0 [(SEQ_MADR_ADDR, 0o14000)] {susp := 2}
def s_39 : State := wst []
def z_2 : BitVec 64 := 5000000
def s_40 : State := wst [(SEQ_ZSTAT_HOLD, 1)]
def z_3 : BitVec 64 := 10
def s_41 : State := (wst []).modZone (fun z => {z with inN := 15})
def z_4 : BitVec 64 := -10
def s_42 : State := wst [(SEQ_ZSTAT_HOLD, 0)]
def s_43 : State := tt 6 [(SEQ_MADR_ADDR, 340)] {}
def s_44 : State := wst [(SEQ_MADR_ADDR, 0o14000), (SEQ_LOCK_LIB, 1)]
def z_5 : BitVec 64 := 30
def s_45 : State := (wst [(SEQ_ZSTAT_HOLD, 0)]).withD [{ wdesc 2 1 5 with phase := .timed, w0 := toWord (64 + 2^13) }]


/-- Premises of SequencerInstructions are met. -/
theorem test_premises_SequencerInstructions :
    (s_1.domOn Dom.act = true) ∧ (s_1.seqAt 7 0 0 0 = true) ∧ (s_2.domOn Dom.act = true) ∧ (s_2.seqAt 7 1 0 0 = true) ∧ (s_3.domOn Dom.act = true) ∧
    (s_3.seqAt 7 2 0 99 = true) ∧ (s_4.domOn Dom.act = true) ∧ (s_4.seqAt 7 3 0 0 = true) ∧ (s_5.domOn Dom.act = true) ∧ (s_5.seqAt 7 3 1 0 = true) ∧
    (s_6.domOn Dom.act = true) ∧ (s_6.seqAt 7 3 2 0 = true) ∧ (s_7.domOn Dom.act = true) ∧ (s_7.seqAt 7 4 10 999 = true) ∧ (s_8.domOn Dom.act = true) ∧
    (s_8.seqAt 7 5 10 0 = true) ∧ (s_9.domOn Dom.act = true) ∧ (s_9.seqAt 7 6 10 0 = true) ∧ (s_10.domOn Dom.act = true) ∧ (s_10.seqAt 7 7 18 0 = true) ∧
    (s_11.domOn Dom.act = true) ∧ (s_11.seqAt 7 8 5000 0 = true) ∧ (s_12.domOn Dom.act = true) ∧ (s_12.seqAt 7 9 340 0 = true) ∧ (inSlot 7 340 = true) ∧
    (((fun (op : Nat) => ((fun (op : Nat) => s_12.seqPast 7 op) op).thr 7) 9).c0 = 1) ∧ (s_13.domOn Dom.act = true) ∧ (s_13.seqAt 7 9 340 0 = true) ∧
    (1 < ((fun (op : Nat) => ((fun (op : Nat) => s_13.seqPast 7 op) op).thr 7) 9).c0) ∧
    (((fun (op : Nat) => ((fun (op : Nat) => s_13.seqPast 7 op) op).thr 7) 9).c0 < 4096) ∧ (s_14.domOn Dom.act = true) ∧ (s_14.seqAt 7 9 340 0 = true) ∧
    (((fun (op : Nat) => ((fun (op : Nat) => s_14.seqPast 7 op) op).thr 7) 9).c0 = 0) ∧ (s_15.domOn Dom.act = true) ∧ (s_15.seqAt 7 10 340 0 = true) ∧
    (((fun (op : Nat) => ((fun (op : Nat) => s_15.seqPast 7 op) op).thr 7) 10).c1 = 1) ∧ (s_16.domOn Dom.act = true) ∧ (s_16.seqAt 7 10 340 0 = true) ∧
    (1 < ((fun (op : Nat) => ((fun (op : Nat) => s_16.seqPast 7 op) op).thr 7) 10).c1) ∧
    (((fun (op : Nat) => ((fun (op : Nat) => s_16.seqPast 7 op) op).thr 7) 10).c1 < 4096) ∧ (s_17.domOn Dom.act = true) ∧ (s_17.seqAt 7 10 340 0 = true) ∧
    (((fun (op : Nat) => ((fun (op : Nat) => s_17.seqPast 7 op) op).thr 7) 10).c1 = 0) ∧ (s_18.domOn Dom.act = true) ∧ (s_18.seqAt 7 11 340 0 = true) ∧
    (s_19.domOn Dom.act = true) ∧ (s_19.seqAt 7 11 3 0 = true) ∧ (inSlot 7 3 = false) ∧ (s_20.domOn Dom.act = true) ∧ (s_20.seqAt 7 12 340 0 = true) ∧
    (((fun (op : Nat) => s_20.seqPast 7 op) 12).thr 7 = (fun (op : Nat) => ((fun (op : Nat) => s_20.seqPast 7 op) op).thr 7) 12) ∧
    (((fun (op : Nat) => ((fun (op : Nat) => s_20.seqPast 7 op) op).thr 7) 12).ret = none) ∧ (s_21.domOn Dom.act = true) ∧ (s_21.seqAt 7 13 0 350 = true) ∧
    (((fun (op : Nat) => ((fun (op : Nat) => s_21.seqPast 7 op) op).thr 7) 13).ret = some 350) ∧ (s_22.domOn Dom.act = true) ∧ (s_22.seqAt 7 14 0 0 = true) ∧
    (((fun (op : Nat) => ((fun (op : Nat) => s_22.seqPast 7 op) op).thr 7) 14).e = false) ∧ (s_23.domOn Dom.act = true) ∧ (s_23.seqAt 7 14 0 0 = true) ∧
    (((fun (op : Nat) => ((fun (op : Nat) => s_23.seqPast 7 op) op).thr 7) 14).e = true) ∧
    (((fun (op : Nat) => s_23.seqPast 7 op) 14).eccOf (seqKey (((fun (op : Nat) => s_23.seqPast 7 op) 14).thrPc 7 % 8192)) ≠ 2) ∧ (s_25.domOn Dom.act = true) ∧
    (s_25.seqAt 7 15 3 0 = true) ∧ (s_26.domOn Dom.act = true) ∧ (s_26.seqAt 7 16 3 0 = true) ∧ (s_27.domOn Dom.act = true) ∧ (s_27.seqAt 7 17 0 77 = true) ∧
    (s_28.domOn Dom.act = true) ∧ (s_28.seqAt 7 18 77 0 = true) ∧
    (((fun (op : Nat) => s_28.seqPast 7 op) 18).grpRuns (((fun (op : Nat) => s_28.seqPast 7 op) 18).grp 7) = false) ∧ (s_29.domOn Dom.act = true) ∧
    (s_29.seqAt 7 18 77 0 = true) ∧ (((fun (op : Nat) => s_29.seqPast 7 op) 18).grpRuns (((fun (op : Nat) => s_29.seqPast 7 op) 18).grp 7) = true) ∧
    (s_30.domOn Dom.act = true) ∧ (s_30.thrSt 7 = 1) ∧ (s_30.eccOf (seqKey (s_30.thrPc 7 % 8192)) = 0) ∧
    (18 * 8192 + 8191 < BitVec.toNat (s_30.rd (seqKey (s_30.thrPc 7 % 8192)))) := by
  and_intros <;> decide +kernel

/-- Premises of SequencerTime are met. -/
theorem test_premises_SequencerTime :
    (s_31.domOn Dom.act = true) ∧ (s_31.thrSt 7 = 2) ∧ (s_31.grpRuns 3 = true) ∧ (7 < 64) ∧ (s_31.hscOdd 7 = false) ∧ (s_31.grpRuns (s_31.grp 7) = false) ∧
    (s_31.fld SEQ_MADR_ADDR < 6144) ∧ (s_31.thrStopped (s_31.fld SEQ_MADR_ADDR / 48) = true) ∧ (s_31.domOn Dom.zsw = true) ∧
    ((z_1 - BitVec.ofNat 64 s_31.ztNs).toInt.natAbs ≤ 20) ∧
    ((z_1 - BitVec.ofNat 64 s_31.ztNs).toInt.natAbs ≤ ((((s_31.setReg rSEQ_ZOFS (wrapTo 18 (max (-131072) (min 131071 (z_1 - BitVec.ofNat 64 s_31.ztNs).toInt)))).setFld SEQ_ZSTAT_HOLD 0).setFld SEQ_ZSTAT_AGE 0).modZone fun (z : ZoneT) => { inN := z.inN, outN := z.outN, rate := sextOf 18 (BitVec.toNat s_31.draw), slew := z.slew : ZoneT }).drew.stepThr) ∧
    (((((s_31.setReg rSEQ_ZOFS (wrapTo 18 (max (-131072) (min 131071 (z_1 - BitVec.ofNat 64 s_31.ztNs).toInt)))).setFld SEQ_ZSTAT_HOLD 0).setFld SEQ_ZSTAT_AGE 0).modZone fun (z : ZoneT) => { inN := z.inN, outN := z.outN, rate := sextOf 18 (BitVec.toNat s_31.draw), slew := z.slew : ZoneT }).drew.zone.inN < 15) ∧
    (s_31.on SEQ_ZSTAT_HOLD = true) ∧ (s_32.domOn Dom.act = true) ∧ (s_32.thrSt 7 = 3) ∧ ((s_32.thr 7).waitN = 0) ∧ (s_33.domOn Dom.act = true) ∧
    (s_33.thrSt 7 = 4) ∧ ((s_33.thr 7).ev = true) ∧ (s_33.grpRuns 3 = false) ∧ (s_33.grpFrozen 3 = true) ∧ (s_34.domOn Dom.act = true) ∧ (s_34.thrSt 7 = 4) ∧
    ((s_34.thr 7).ev = false) ∧ ((s_34.thr 7).waitN ≠ 0) ∧ (s_35.domOn Dom.act = true) ∧ (s_35.thrSt 7 = 6) ∧ ((s_35.thr 7).susp = 2) ∧
    (s_36.domOn Dom.act = true) ∧ (84 ≤ 84) ∧ (84 < 100) ∧ (s_36.fld SEQ_MADR_ADDR < 6144) ∧ (s_36.thrStopped (s_36.fld SEQ_MADR_ADDR / 48) = false) ∧
    (s_38.domOn Dom.act = true) ∧ (6144 ≤ s_38.fld SEQ_MADR_ADDR) ∧ (s_38.on SEQ_LOCK_LIB = false) ∧ (s_39.domOn Dom.act = true) ∧
    (s_39.domOn Dom.zsw = true) ∧
    (((((s_39.setReg rSEQ_ZOFS (wrapTo 18 (max (-131072) (min 131071 (z_2 - BitVec.ofNat 64 s_39.ztNs).toInt)))).setFld SEQ_ZSTAT_HOLD 0).setFld SEQ_ZSTAT_AGE 0).modZone fun (z : ZoneT) => { inN := z.inN, outN := z.outN, rate := sextOf 18 (BitVec.toNat s_39.draw), slew := z.slew : ZoneT }).drew.stepThr < (z_2 - BitVec.ofNat 64 s_39.ztNs).toInt.natAbs) ∧
    (s_41.domOn Dom.act = true) ∧ (s_41.domOn Dom.zsw = true) ∧ ((z_3 - BitVec.ofNat 64 s_41.ztNs).toInt.natAbs ≤ 20) ∧
    ((z_3 - BitVec.ofNat 64 s_41.ztNs).toInt.natAbs ≤ ((((s_41.setReg rSEQ_ZOFS (wrapTo 18 (max (-131072) (min 131071 (z_3 - BitVec.ofNat 64 s_41.ztNs).toInt)))).setFld SEQ_ZSTAT_HOLD 0).setFld SEQ_ZSTAT_AGE 0).modZone fun (z : ZoneT) => { inN := z.inN, outN := z.outN, rate := sextOf 18 (BitVec.toNat s_41.draw), slew := z.slew : ZoneT }).drew.stepThr) ∧
    (((((s_41.setReg rSEQ_ZOFS (wrapTo 18 (max (-131072) (min 131071 (z_3 - BitVec.ofNat 64 s_41.ztNs).toInt)))).setFld SEQ_ZSTAT_HOLD 0).setFld SEQ_ZSTAT_AGE 0).modZone fun (z : ZoneT) => { inN := z.inN, outN := z.outN, rate := sextOf 18 (BitVec.toNat s_41.draw), slew := z.slew : ZoneT }).drew.zone.inN = 15) ∧
    (s_42.domOn Dom.act = true) ∧ (s_42.on SEQ_ZSTAT_HOLD = false) ∧
    (((((s_42.setFld SEQ_ZSTAT_HOLD 1).setFld SEQ_ZSTAT_LOCK 0).raise SEQ_FLAG_HOLD).modZone fun (z : ZoneT) => { rate := z.rate, age := z.age : ZoneT }).timedWaits = false) ∧
    (s_39.tgtOf 64 = (3, 0)) ∧ (100 ≤ 101) ∧ (101 < 124) ∧ (s_44.domOn Dom.act = true) ∧ (6144 ≤ s_44.fld SEQ_MADR_ADDR) ∧ (s_44.on SEQ_LOCK_LIB = true) ∧
    (20 < (z_5 - BitVec.ofNat 64 s_39.ztNs).toInt.natAbs) ∧
    ((z_5 - BitVec.ofNat 64 s_39.ztNs).toInt.natAbs ≤ ((((s_39.setReg rSEQ_ZOFS (wrapTo 18 (max (-131072) (min 131071 (z_5 - BitVec.ofNat 64 s_39.ztNs).toInt)))).setFld SEQ_ZSTAT_HOLD 0).setFld SEQ_ZSTAT_AGE 0).modZone fun (z : ZoneT) => { inN := z.inN, outN := z.outN, rate := sextOf 18 (BitVec.toNat s_39.draw), slew := z.slew : ZoneT }).drew.stepThr) ∧
    ((z_5 - BitVec.ofNat 64 s_39.ztNs).toInt.natAbs ≤ 40) ∧ (s_45.domOn Dom.act = true) ∧ (s_45.on SEQ_ZSTAT_HOLD = false) ∧
    (((((s_45.setFld SEQ_ZSTAT_HOLD 1).setFld SEQ_ZSTAT_LOCK 0).raise SEQ_FLAG_HOLD).modZone fun (z : ZoneT) => { rate := z.rate, age := z.age : ZoneT }).timedWaits = true) := by
  and_intros <;> decide +kernel

end Wit.Seq

namespace Wit.Thm
def s_1 : State := wst [(THM_WCFG_WEN 5, 1)]
def t_1 : Word := 12000
def cs_1 : Word := 100
def ons_1 : List (Nat × List Word) := [(16000, [400, 30])]
def l_1 : List (Fin 100 × List (Nat × List Word)) := []
def s_2 : State := wst [(THM_TCFG_DTL 5, 60),(THM_WCFG_WEN 20, 1)]
def t_2 : Word := 1200
def s_3 : State := wst [(THM_TCFG_DTL 5, 60),(THM_WCFG_WEN 20, 0)]
def cs_2 : Word := 1000
def ons_2 : List (Nat × List Word) := [(160000, [200000])]
def s_4 : State := { (wst [(THM_TSTAT_DTLAT 5, 1),(THM_WCFG_WEN 20, 1), (THM_AMB_AMB, 64*200), (THM_CSTAT_FAIL, 1)]) with thm := {epoch := 7, dtRel := [(5, 40)], tjRel := [(5, 150)]}}
def s_5 : State := { (wst [(THM_TSTAT_TJLAT 5, 1), (THM_PLIM_PLIM, 1)]) with thm := {epoch := 7, told := [(rTHM_TCH 3, 1600), (rTHM_TCH 90, 1700)], dtRel := [(5, 40)], tjRel := [(5, 150)]}}
def cs_3 : Word := 0
def ons_3 : List (Nat × List Word) := []
def l_2 : List (Fin 100 × List (Nat × List Word)) := [(3, [(160000, [100000])]), (90, [(5, [5])])]
def s_6 : State := ((wst [(THM_WCFG_WEN 20, 1), (THM_AMB_AMB, 64*200)]).modInp (fun x => { x with dcMap := true }))


/-- Premises of ThermalProtection are met. -/
theorem test_premises_ThermalProtection :
    (s_1.domOn Dom.act = true) ∧ (((s_1.tell (rTHM_CASE (s_1.caseOf 5)) cs_1).tell (rTHM_TCH 5) t_1).dtLat 5 = false) ∧
    (64 * ↑(((s_1.tell (rTHM_CASE (s_1.caseOf 5)) cs_1).tell (rTHM_TCH 5) t_1).fld (THM_TCFG_DTL 5)) < ((s_1.tell (rTHM_CASE (s_1.caseOf 5)) cs_1).tell (rTHM_TCH 5) t_1).dtOf 5) ∧
    (s_1.inp.dcMap = false) ∧ ((s_1.tell (rTHM_TCH 5) t_1).tjLat 5 = false) ∧ (175 * 64 < BitVec.toInt t_1) ∧
    (∀ j < 4, 4 * (0 / 4) + j ≠ 0 → s_1.bit THM_CSTAT_FAIL (4 * (0 / 4) + j) = false) ∧ (140 * 64 < BitVec.toInt t_1) ∧ (160 * 64 < BitVec.toInt t_1) ∧
    (hasWire 5 = true) ∧ (s_1.on (THM_WCFG_WEN 5) = true) ∧ (8 ≤ 5 ∨ 5 % 2 = 0 ∨ s_1.on (HSC_CFG_PAR (5 - 1)) = false) ∧
    ((s_1.setTheta 5 (s_1.wireStep 5 (s_1.meanSq 5 ons_1))).tamb 5 + ↑(s_1.wireStep 5 (s_1.meanSq 5 ons_1)) * 64 / 10 ^ 12 < (s_1.setTheta 5 (s_1.wireStep 5 (s_1.meanSq 5 ons_1))).twMax 5) ∧
    ((s_1.setFld THM_PEST_PEST (satTo 262143 (s_1.fld THM_PBASE_PBASE + ((List.foldl (fun (a : Int) (p : Fin 100 × List (Nat × List Word)) => a + s_1.stageLoss p.1.val (s_1.meanSq p.1.val p.2)) 0 l_1 + Int.ofNat (List.foldl (fun (a n : Nat) => a + s_1.fld (LUX_LVSNK_V n) * s_1.fld (LUX_LIMEAS_I n)) 0 (List.range 24)) * 16000 * 10 ^ 12) / (64 * 10 ^ 21)).toNat))).fld THM_PEST_PEST ≤ (s_1.setFld THM_PEST_PEST (satTo 262143 (s_1.fld THM_PBASE_PBASE + ((List.foldl (fun (a : Int) (p : Fin 100 × List (Nat × List Word)) => a + s_1.stageLoss p.1.val (s_1.meanSq p.1.val p.2)) 0 l_1 + Int.ofNat (List.foldl (fun (a n : Nat) => a + s_1.fld (LUX_LVSNK_V n) * s_1.fld (LUX_LIMEAS_I n)) 0 (List.range 24)) * 16000 * 10 ^ 12) / (64 * 10 ^ 21)).toNat))).fld THM_PLIM_PLIM) ∧
    (s_2.domOn Dom.act = true) ∧
    (((s_2.tell (rTHM_CASE (s_2.caseOf 5)) cs_1).tell (rTHM_TCH 5) t_2).dtOf 5 ≤ 64 * ↑(((s_2.tell (rTHM_CASE (s_2.caseOf 5)) cs_1).tell (rTHM_TCH 5) t_2).fld (THM_TCFG_DTL 5))) ∧
    (s_2.inp.dcMap = false) ∧ (BitVec.toInt t_2 ≤ 175 * 64) ∧ (BitVec.toInt t_2 ≤ 140 * 64) ∧ (BitVec.toInt t_2 ≤ 160 * 64) ∧ (s_3.domOn Dom.act = true) ∧
    (hasWire 20 = true) ∧ (s_3.on (THM_WCFG_WEN 20) = false) ∧ (s_4.domOn Dom.act = true) ∧
    (((s_4.tell (rTHM_CASE (s_4.caseOf 5)) cs_2).tell (rTHM_TCH 5) t_2).dtLat 5 = true) ∧
    (((s_4.tell (rTHM_CASE (s_4.caseOf 5)) cs_2).tell (rTHM_TCH 5) t_2).dtOf 5 ≤ 64 * ↑(nGet ((s_4.tell (rTHM_CASE (s_4.caseOf 5)) cs_2).tell (rTHM_TCH 5) t_2).thm.dtRel 5)) ∧
    (0 < 4) ∧ (4 * (1 / 4) + 0 ≠ 1) ∧ (s_4.bit THM_CSTAT_FAIL (4 * (1 / 4) + 0) = true) ∧ (s_4.on (THM_WCFG_WEN 20) = true) ∧
    (8 ≤ 20 ∨ 20 % 2 = 0 ∨ s_4.on (HSC_CFG_PAR (20 - 1)) = false) ∧
    ((s_4.setTheta 20 (s_4.wireStep 20 (s_4.meanSq 20 ons_2))).twMax 20 ≤ (s_4.setTheta 20 (s_4.wireStep 20 (s_4.meanSq 20 ons_2))).tamb 20 + ↑(s_4.wireStep 20 (s_4.meanSq 20 ons_2)) * 64 / 10 ^ 12) ∧
    ((s_4.setTheta 20 (s_4.wireStep 20 (s_4.meanSq 20 ons_2))).wireTrip 20 = false) ∧ (s_5.domOn Dom.act = true) ∧
    ((s_5.tell (rTHM_TCH 5) t_2).tjLat 5 = true) ∧ (BitVec.toInt t_2 ≤ 64 * ↑(nGet (s_5.tell (rTHM_TCH 5) t_2).thm.tjRel 5)) ∧
    ((s_5.setFld THM_PEST_PEST (satTo 262143 (s_5.fld THM_PBASE_PBASE + ((List.foldl (fun (a : Int) (p : Fin 100 × List (Nat × List Word)) => a + s_5.stageLoss p.1.val (s_5.meanSq p.1.val p.2)) 0 l_2 + Int.ofNat (List.foldl (fun (a n : Nat) => a + s_5.fld (LUX_LVSNK_V n) * s_5.fld (LUX_LIMEAS_I n)) 0 (List.range 24)) * 16000 * 10 ^ 12) / (64 * 10 ^ 21)).toNat))).fld THM_PLIM_PLIM < (s_5.setFld THM_PEST_PEST (satTo 262143 (s_5.fld THM_PBASE_PBASE + ((List.foldl (fun (a : Int) (p : Fin 100 × List (Nat × List Word)) => a + s_5.stageLoss p.1.val (s_5.meanSq p.1.val p.2)) 0 l_2 + Int.ofNat (List.foldl (fun (a n : Nat) => a + s_5.fld (LUX_LVSNK_V n) * s_5.fld (LUX_LIMEAS_I n)) 0 (List.range 24)) * 16000 * 10 ^ 12) / (64 * 10 ^ 21)).toNat))).fld THM_PEST_PEST) ∧
    (s_6.domOn Dom.act = true) ∧ (s_6.inp.dcMap = true) := by
  and_intros <;> decide +kernel

end Wit.Thm

namespace Wit.Mot
def md (op tgt w2 w3 fl : Nat) : Desc := { wdesc 3 op tgt with w2 := toWord w2, w3 := toWord w3, w0 := toWord (op * 64 + fl) }
def ms (op tgt w2 w3 fl : Nat) (l : List (FRef × Nat)) : State := (wst l).withD [md op tgt w2 w3 fl]
def m1 (op st fl : Nat) : State := ms op 3 0 0 fl [(MOT_HSTAT_STATE 3, st)]
def m2 (op st : Nat) : State := ms op 24 0 0 0 [(MOT_GSTAT_STATE 0, st)]
def s_1 : State := m1 1 5 0
def d_1 : Desc := md 1 3 0 0 0
def x_1 : Nat × Nat := (0, 0)
def s_2 : State := m2 2 5
def d_2 : Desc := md 2 24 0 0 0
def s_3 : State := m1 3 5 0
def d_3 : Desc := md 3 3 0 0 0
def s_4 : State := m1 4 5 0
def d_4 : Desc := md 4 3 0 0 0
def s_5 : State := m1 5 5 0
def d_5 : Desc := md 5 3 0 0 0
def s_6 : State := m1 6 5 0
def d_6 : Desc := md 6 3 0 0 0
def s_7 : State := m2 7 5
def d_7 : Desc := md 7 24 0 0 0
def s_8 : State := m1 1 9 0
def s_9 : State := m1 3 9 0
def s_10 : State := m1 6 9 0
def s_11 : State := m2 2 8
def s_12 : State := m1 4 8 0
def s_13 : State := m2 7 8
def s_14 : State := ms 1 3 5 65536 0 [(MOT_HSTAT_STATE 3, 0)]
def d_8 : Desc := md 1 3 5 65536 0
def s_15 : State := ms 1 3 5 65536 0 [(MOT_HSTAT_STATE 3, 7)]
def x_2 : Nat × Nat := (0o22, 0)
def s_16 : State := ms 1 3 0 65536 0 [(MOT_HSTAT_STATE 3, 0)]
def d_9 : Desc := md 1 3 0 65536 0
def s_17 : State := (ms 1 3 5 65536 0 [(MOT_HSTAT_STATE 3, 0)]).withMem [(seqKey (67*0o60), 2^17+0o14000)]
def s_18 : State := ms 2 24 9 7 0 [(MOT_GSTAT_STATE 0, 0)]
def d_10 : Desc := md 2 24 9 7 0
def s_19 : State := ms 2 24 9 7 0 [(MOT_GSTAT_STATE 0, 0), (MOT_GSTAT_POSV 0, 1)]
def s_20 : State := (ms 2 24 9 7 0 [(MOT_GSTAT_STATE 0, 0), (MOT_GSTAT_POSV 0, 1)]).withMem [(seqKey (124*0o60), 2^17+0o14000)]
def s_21 : State := ms 2 24 9 7 0 [(MOT_GSTAT_STATE 0, 0), (MOT_GSTAT_POSV 0, 1), (MOT_POS_POS 0, 7)]
def s_22 : State := ms 2 24 9 7 0 [(MOT_GSTAT_STATE 0, 3), (MOT_GSTAT_POSV 0, 1), (MOT_POS_POS 0, 7)]
def s_23 : State := m1 3 8 0
def s_24 : State := m1 3 3 1
def d_11 : Desc := md 3 3 0 0 1
def s_25 : State := m1 4 3 0
def s_26 : State := (ms 4 3 5 65536 0 [(MOT_HSTAT_STATE 3, 0)]).withMem [(seqKey (67*0o60), 2^17+0o14000)]
def d_12 : Desc := md 4 3 5 65536 0
def s_27 : State := m1 5 0 0
def s_28 : State := m1 5 8 0
def s_29 : State := m1 5 7 0
def s_30 : State := m1 6 8 0
def s_31 : State := ms 6 3 0 0 0 [(MOT_HSTAT_STATE 3, 8), (THM_TSTAT_DTLAT 67, 1)]
def s_32 : State := m1 6 3 0
def s_33 : State := ms 6 3 0 0 0 [(MOT_HSTAT_STATE 3, 7), (THM_TSTAT_DTLAT 67, 1)]
def s_34 : State := ms 7 24 99 0 0 [(MOT_GSTAT_STATE 0, 3)]
def d_13 : Desc := md 7 24 99 0 0
def me (st : Nat) (l : List (FRef × Nat)) (ds : List Desc) (m : MotT) : State := ((wst ([(MOT_HSTAT_STATE 3, st), (MOT_GSTAT_STATE 1, st)] ++ l)).withD ds).setMt 3 m
def mrun (op fl : Nat) : Desc := { md op 3 8 65600 fl with phase := .running }
def s_35 : State := me 0 [] [mrun 5 0] {}
def mean_1 : Word := 0
def d_14 : Desc := mrun 5 0
def s_36 : State := me 9 [] [mrun 5 0] {}
def s_37 : State := me 2 [] [mrun 1 0] {waiting := some (1, 50)}
def d_15 : Desc := { wdesc 15 63 999 with ring := 63, slot := 1023 }
def w_1 : Nat × Nat := (1, 50)
def s_38 : State := me 2 [(MOT_RCFG_RIPEN 1, 1), (MOT_RPER_PER 1, 100)] [] {waiting := some (1, 50)}
def s_39 : State := (me 3 [(MOT_HCFG2_TSTALL 3, 2), (MOT_RCFG_RIPEN 1, 1), (MOT_RPER_PER 1, 100)] [] {waiting := some (1, 50)}).setMt 25 {counting := true}
def s_40 : State := (me 3 [(MOT_HCFG2_TSTALL 3, 2), (MOT_RCFG_RIPEN 1, 1), (MOT_RPER_PER 1, 100), (SEQ_OVAL_D 67, 200000)] [] {waiting := some (1, 50)}).setMt 25 {counting := true}
def s_41 : State := me 3 [] [] {}
def s_42 : State := (me 5 [(MOT_RCFG_TSTALL 1, 3)] [] {}).setMt 25 {reversing := true}
def s_43 : State := me 3 [(MOT_HCFG2_TSTALL 3, 2)] [mrun 1 1] {waiting := some (1, 50)}
def d_16 : Desc := mrun 1 1
def s_44 : State := me 3 [(MOT_HCFG2_TSTALL 3, 2)] [mrun 1 0] {waiting := some (1, 50)}
def d_17 : Desc := mrun 1 0
def s_45 : State := me 6 [(MOT_HCFG2_TSTALL 3, 2)] [mrun 1 1] {waiting := some (1, 50)}
def s_46 : State := me 4 [] [] {waiting := some (1, 50)}
def s_47 : State := me 4 [] [] {}
def s_48 : State := me 5 [] [] {}
def s_49 : State := (me 5 [] [] {}).setMt 25 {reversing := true, revPos := true, revN := 3, revCount := 3}
def s_50 : State := (me 5 [(MOT_RCFG_RIPEN 1, 1)] [] {}).setMt 25 {inserted := 4, counting := true}
def s_51 : State := (me 3 [(MOT_PINCH_PEN 1, 1), (MOT_PZLIM_ZEN 1 0, 1), (MOT_PZLIM_IMAX 1 0, 4), (MOT_GSTAT_DIR 1, 1)] [] {})
def mean_2 : Word := 600
def s_52 : State := me 1 [] [] {}
def s_53 : State := me 1 [(MOT_HSTAT_STATE 6, 1)] [] {}


/-- Premises of MotorDescriptors are met. -/
theorem test_premises_MotorDescriptors :
    (s_1.domOn Dom.act = true) ∧ (s_1.mst d_1.target = 5) ∧ (s_1.ready 3 1 9 3 d_1 = true) ∧ (s_2.domOn Dom.act = true) ∧ (s_2.mst d_2.target = 5) ∧
    (s_2.ready 3 2 9 3 d_2 = true) ∧ (s_3.domOn Dom.act = true) ∧ (s_3.mst d_3.target = 5) ∧ (s_3.ready 3 3 9 3 d_3 = true) ∧ (s_4.domOn Dom.act = true) ∧
    (s_4.mst d_4.target = 5) ∧ (s_4.ready 3 4 9 3 d_4 = true) ∧ (s_5.domOn Dom.act = true) ∧ (s_5.mst d_5.target = 5) ∧ (s_5.ready 3 5 9 3 d_5 = true) ∧
    (s_6.domOn Dom.act = true) ∧ (s_6.mst d_6.target = 5) ∧ (s_6.ready 3 6 9 3 d_6 = true) ∧ (s_7.domOn Dom.act = true) ∧ (s_7.mst d_7.target = 5) ∧
    (s_7.ready 3 7 9 3 d_7 = true) ∧ (s_8.domOn Dom.act = true) ∧ (s_8.mst d_1.target = 9) ∧ (s_8.ready 3 1 9 3 d_1 = true) ∧ (s_9.domOn Dom.act = true) ∧
    (s_9.mst d_3.target = 9) ∧ (s_9.ready 3 3 9 3 d_3 = true) ∧ (s_10.domOn Dom.act = true) ∧ (s_10.mst d_6.target = 9) ∧ (s_10.ready 3 6 9 3 d_6 = true) ∧
    (s_11.domOn Dom.act = true) ∧ (s_11.mst d_2.target = 8) ∧ (s_11.ready 3 2 9 3 d_2 = true) ∧ (s_12.domOn Dom.act = true) ∧ (s_12.mst d_4.target = 8) ∧
    (s_12.ready 3 4 9 3 d_4 = true) ∧ (s_13.domOn Dom.act = true) ∧ (s_13.mst d_7.target = 8) ∧ (s_13.ready 3 7 9 3 d_7 = true) ∧ (s_14.domOn Dom.act = true) ∧
    (s_14.ready 3 1 9 3 d_8 = true) ∧ (s_14.mst d_8.target < 8) ∧ (s_14.mst d_8.target ≠ 5) ∧
    (s_14.motRefuse d_8 (bitsOf (BitVec.toNat d_8.w3) 17 16) = none) ∧
    ((((s_14.motOpenNew d_8.target d_8).modMt d_8.target fun (m : MotT) => { dNext := m.dNext, waiting := m.waiting, past := m.past, deferred := m.deferred, supSeen := m.supSeen, limSeen := m.limSeen, lastDir := m.lastDir, inserted := m.inserted, reversing := m.reversing, revCount := m.revCount, revN := m.revN, revPos := m.revPos, counting := m.counting, high := m.high, exempt := m.exempt, lockDue := m.lockDue, dirP := m.dirP, limP := m.limP, brkP := m.brkP : MotT }).entryScrub (motOut d_8.target) 0).entryValid (motOut d_8.target) 0 = false) ∧
    (d_8.w2 ≠ 0) ∧ (s_15.domOn Dom.act = true) ∧ (s_15.ready 3 1 9 3 d_8 = true) ∧ (s_15.mst d_8.target < 8) ∧ (s_15.mst d_8.target ≠ 5) ∧
    (s_15.motRefuse d_8 (bitsOf (BitVec.toNat d_8.w3) 17 16) = some x_2) ∧ (s_16.domOn Dom.act = true) ∧ (s_16.ready 3 1 9 3 d_9 = true) ∧
    (s_16.mst d_9.target < 8) ∧ (s_16.mst d_9.target ≠ 5) ∧ (s_16.motRefuse d_9 (bitsOf (BitVec.toNat d_9.w3) 17 16) = none) ∧
    ((((s_16.motOpenNew d_9.target d_9).modMt d_9.target fun (m : MotT) => { dNext := m.dNext, waiting := m.waiting, past := m.past, deferred := m.deferred, supSeen := m.supSeen, limSeen := m.limSeen, lastDir := m.lastDir, inserted := m.inserted, reversing := m.reversing, revCount := m.revCount, revN := m.revN, revPos := m.revPos, counting := m.counting, high := m.high, exempt := m.exempt, lockDue := m.lockDue, dirP := m.dirP, limP := m.limP, brkP := m.brkP : MotT }).entryScrub (motOut d_9.target) 0).entryValid (motOut d_9.target) 0 = false) ∧
    (d_9.w2 = 0) ∧
    ((((s_16.motOpenNew d_9.target d_9).modMt d_9.target fun (m : MotT) => { dNext := m.dNext, waiting := m.waiting, past := m.past, deferred := m.deferred, supSeen := m.supSeen, limSeen := m.limSeen, lastDir := m.lastDir, inserted := m.inserted, reversing := m.reversing, revCount := m.revCount, revN := m.revN, revPos := m.revPos, counting := m.counting, high := m.high, exempt := m.exempt, lockDue := m.lockDue, dirP := m.dirP, limP := m.limP, brkP := m.brkP : MotT }).entryScrub (motOut d_9.target) 0).mst d_9.target = 0) ∧
    (s_17.domOn Dom.act = true) ∧ (s_17.ready 3 1 9 3 d_8 = true) ∧ (s_17.mst d_8.target < 8) ∧ (s_17.mst d_8.target ≠ 5) ∧
    (s_17.motRefuse d_8 (bitsOf (BitVec.toNat d_8.w3) 17 16) = none) ∧
    ((((s_17.motOpenNew d_8.target d_8).modMt d_8.target fun (m : MotT) => { dNext := m.dNext, waiting := m.waiting, past := m.past, deferred := m.deferred, supSeen := m.supSeen, limSeen := m.limSeen, lastDir := m.lastDir, inserted := m.inserted, reversing := m.reversing, revCount := m.revCount, revN := m.revN, revPos := m.revPos, counting := m.counting, high := m.high, exempt := m.exempt, lockDue := m.lockDue, dirP := m.dirP, limP := m.limP, brkP := m.brkP : MotT }).entryScrub (motOut d_8.target) 0).entryValid (motOut d_8.target) 0 = true) ∧
    (s_18.domOn Dom.act = true) ∧ (s_18.ready 3 2 9 3 d_10 = true) ∧ (s_18.mst d_10.target < 8) ∧ (s_18.mst d_10.target ≠ 5) ∧
    (s_18.motRefuse d_10 (if posInt (s_18.fld (MOT_POS_POS (d_10.target - 24))) < posInt (BitVec.toNat d_10.w3) then 1 else 2) = none) ∧
    (s_18.on (MOT_GSTAT_POSV (d_10.target - 24)) = false) ∧ (s_19.domOn Dom.act = true) ∧ (s_19.ready 3 2 9 3 d_10 = true) ∧ (s_19.mst d_10.target < 8) ∧
    (s_19.mst d_10.target ≠ 5) ∧
    (s_19.motRefuse d_10 (if posInt (s_19.fld (MOT_POS_POS (d_10.target - 24))) < posInt (BitVec.toNat d_10.w3) then 1 else 2) = none) ∧
    (s_19.on (MOT_GSTAT_POSV (d_10.target - 24)) = true) ∧ (posInt (s_19.fld (MOT_POS_POS (d_10.target - 24))) ≠ posInt (BitVec.toNat d_10.w3)) ∧
    ((((s_19.motOpenNew d_10.target d_10).modMt d_10.target fun (m : MotT) => { dNext := m.dNext, waiting := m.waiting, goTo := some (BitVec.toNat d_10.w3), past := m.past, deferred := m.deferred, supSeen := m.supSeen, limSeen := m.limSeen, lastDir := m.lastDir, inserted := m.inserted, reversing := m.reversing, revCount := m.revCount, revN := m.revN, revPos := m.revPos, counting := m.counting, high := m.high, exempt := m.exempt, lockDue := m.lockDue, dirP := m.dirP, limP := m.limP, brkP := m.brkP : MotT }).entryScrub (motOut d_10.target) 0).entryValid (motOut d_10.target) 0 = false) ∧
    (d_10.w2 ≠ 0) ∧ (s_20.domOn Dom.act = true) ∧ (s_20.ready 3 2 9 3 d_10 = true) ∧ (s_20.mst d_10.target < 8) ∧ (s_20.mst d_10.target ≠ 5) ∧
    (s_20.motRefuse d_10 (if posInt (s_20.fld (MOT_POS_POS (d_10.target - 24))) < posInt (BitVec.toNat d_10.w3) then 1 else 2) = none) ∧
    (s_20.on (MOT_GSTAT_POSV (d_10.target - 24)) = true) ∧ (posInt (s_20.fld (MOT_POS_POS (d_10.target - 24))) ≠ posInt (BitVec.toNat d_10.w3)) ∧
    ((((s_20.motOpenNew d_10.target d_10).modMt d_10.target fun (m : MotT) => { dNext := m.dNext, waiting := m.waiting, goTo := some (BitVec.toNat d_10.w3), past := m.past, deferred := m.deferred, supSeen := m.supSeen, limSeen := m.limSeen, lastDir := m.lastDir, inserted := m.inserted, reversing := m.reversing, revCount := m.revCount, revN := m.revN, revPos := m.revPos, counting := m.counting, high := m.high, exempt := m.exempt, lockDue := m.lockDue, dirP := m.dirP, limP := m.limP, brkP := m.brkP : MotT }).entryScrub (motOut d_10.target) 0).entryValid (motOut d_10.target) 0 = true) ∧
    (s_21.domOn Dom.act = true) ∧ (s_21.ready 3 2 9 3 d_10 = true) ∧ (s_21.mst d_10.target < 8) ∧ (s_21.mst d_10.target ≠ 5) ∧
    (s_21.motRefuse d_10 (if posInt (s_21.fld (MOT_POS_POS (d_10.target - 24))) < posInt (BitVec.toNat d_10.w3) then 1 else 2) = none) ∧
    (s_21.on (MOT_GSTAT_POSV (d_10.target - 24)) = true) ∧ (posInt (s_21.fld (MOT_POS_POS (d_10.target - 24))) = posInt (BitVec.toNat d_10.w3)) ∧
    (s_21.mst d_10.target ≠ 3) ∧ (s_22.domOn Dom.act = true) ∧ (s_22.ready 3 2 9 3 d_10 = true) ∧ (s_22.mst d_10.target < 8) ∧ (s_22.mst d_10.target ≠ 5) ∧
    (s_22.motRefuse d_10 (if posInt (s_22.fld (MOT_POS_POS (d_10.target - 24))) < posInt (BitVec.toNat d_10.w3) then 1 else 2) = none) ∧
    (s_22.on (MOT_GSTAT_POSV (d_10.target - 24)) = true) ∧ (posInt (s_22.fld (MOT_POS_POS (d_10.target - 24))) = posInt (BitVec.toNat d_10.w3)) ∧
    (s_22.mst d_10.target = 3) ∧ (s_23.domOn Dom.act = true) ∧ (s_23.ready 3 3 9 3 d_3 = true) ∧ (s_23.mst d_3.target ∈ [0, 8]) ∧ (s_24.domOn Dom.act = true) ∧
    (s_24.ready 3 3 9 3 d_11 = true) ∧ (s_24.mst d_11.target ∈ [1, 2, 3, 4, 6, 7]) ∧ (s_25.domOn Dom.act = true) ∧ (s_25.ready 3 4 9 3 d_4 = true) ∧
    (s_25.mst d_4.target < 8) ∧ (s_25.mst d_4.target ≠ 5) ∧ (s_25.motRefuse d_4 0 = none) ∧
    ((s_25.entryScrub (motOut d_4.target) (d_4.flags % 8)).entryValid (motOut d_4.target) (d_4.flags % 8) = false) ∧ (s_26.domOn Dom.act = true) ∧
    (s_26.ready 3 4 9 3 d_12 = true) ∧ (s_26.mst d_12.target < 8) ∧ (s_26.mst d_12.target ≠ 5) ∧ (s_26.motRefuse d_12 0 = none) ∧
    ((s_26.entryScrub (motOut d_12.target) (d_12.flags % 8)).entryValid (motOut d_12.target) (d_12.flags % 8) = true) ∧ (s_27.domOn Dom.act = true) ∧
    (s_27.ready 3 5 9 3 d_5 = true) ∧ (s_27.mst d_5.target = 0) ∧ (s_28.domOn Dom.act = true) ∧ (s_28.ready 3 5 9 3 d_5 = true) ∧ (s_28.mst d_5.target = 8) ∧
    (s_29.domOn Dom.act = true) ∧ (s_29.ready 3 5 9 3 d_5 = true) ∧ (s_29.mst d_5.target ∈ [1, 2, 3, 4, 6, 7]) ∧ (s_30.domOn Dom.act = true) ∧
    (s_30.ready 3 6 9 3 d_6 = true) ∧ (s_30.mst d_6.target = 8) ∧ (s_30.motLat d_6.target = 0) ∧ (s_31.domOn Dom.act = true) ∧
    (s_31.ready 3 6 9 3 d_6 = true) ∧ (s_31.mst d_6.target = 8) ∧ (s_31.motLat d_6.target ≠ 0) ∧ (s_32.domOn Dom.act = true) ∧
    (s_32.ready 3 6 9 3 d_6 = true) ∧ (s_32.mst d_6.target ∈ [0, 1, 2, 3, 4, 6, 7]) ∧ (s_32.motLat d_6.target = 0) ∧ (s_33.domOn Dom.act = true) ∧
    (s_33.ready 3 6 9 3 d_6 = true) ∧ (s_33.mst d_6.target ∈ [0, 1, 2, 3, 4, 6, 7]) ∧ (s_33.motLat d_6.target ≠ 0) ∧ (s_34.domOn Dom.act = true) ∧
    (s_34.ready 3 7 9 3 d_13 = true) ∧ (s_34.mst d_13.target ∈ [0, 1, 2, 3, 4, 6, 7]) := by
  and_intros <;> decide +kernel

/-- Premises of MotorEvents are met. -/
theorem test_premises_MotorEvents :
    (s_35.domOn Dom.act = true) ∧ (s_35.motWith 3 5 = some d_14) ∧ (true = true) ∧ (s_35.mst (s_35.motOf 3) ≠ 9) ∧ (s_35.mst (24 + 1) ≠ 9) ∧
    (s_35.motCounts 1 = false) ∧ (decide ((s_35.pinchLimits 1).1 < BitVec.toNat mean_1) = false) ∧
    (decide ((s_35.pinchLimits 1).2 ≠ 0 ∧ 1000000 < 0 * (s_35.pinchLimits 1).2) = false) ∧ (false = false) ∧ (s_36.domOn Dom.act = true) ∧
    (s_36.motWith 3 5 = some d_14) ∧ (s_36.mst (s_36.motOf 3) = 9) ∧ (s_37.domOn Dom.act = true) ∧ (s_37.mst 3 = 2) ∧ (3 < 16) ∧
    ((s_37.mt 3).waiting = some w_1) ∧ (s_37.motWith 3 3 = none) ∧ (((s_37.setFld (MOT_HSTAT_BOOT 3) (b2n true)).mt 3).waiting = some w_1) ∧
    ((s_37.setFld (MOT_HSTAT_BOOT 3) (b2n true)).motWith 3 3 = none) ∧ (((s_37.setFld (MOT_HSTAT_BOOT 3) (b2n true)).motOpen 3).isSome = true) ∧
    (s_38.domOn Dom.act = true) ∧ (s_38.mst 3 = 2) ∧ ((s_38.mt 3).waiting = some w_1) ∧ (s_38.motWith 3 3 = none) ∧
    (((s_38.setFld (MOT_HSTAT_BOOT 3) (b2n false)).mt 3).waiting = some w_1) ∧ ((s_38.setFld (MOT_HSTAT_BOOT 3) (b2n false)).motWith 3 3 = none) ∧
    (s_39.domOn Dom.act = true) ∧ (s_39.mst (s_39.motOf 3) ∈ [3, 5]) ∧ (s_39.motOf 3 < 24) ∧ (s_39.mst (s_39.motOf 3) = 3) ∧
    (s_39.fld (MOT_HCFG2_TSTALL (halfOf (s_39.motOf 3))) ≠ 0) ∧ ((s_39.motEvt (s_39.motOf 3) 5 7).motOpen (s_39.motOf 3) = none) ∧ (s_39.motCounts 1 = true) ∧
    (s_39.fld (MOT_RPER_PER 1) ≤ 2 * 80) ∧
    (((((s_39.count (MOT_RINS_INS 1)).ripplePos 1).modMt (24 + 1) fun (m : MotT) => { dNext := m.dNext, waiting := m.waiting, goTo := m.goTo, past := m.past, deferred := m.deferred, supSeen := m.supSeen, limSeen := m.limSeen, lastDir := m.lastDir, inserted := m.inserted + 1, reversing := m.reversing, revCount := m.revCount, revN := m.revN, revPos := m.revPos, counting := m.counting, high := m.high, exempt := m.exempt, lockDue := m.lockDue, dirP := m.dirP, limP := m.limP, brkP := m.brkP : MotT }).mt (24 + 1)).inserted ≠ 5) ∧
    (s_40.domOn Dom.act = true) ∧ (s_40.mst (s_40.motOf 3) = 3) ∧ (24 ≤ s_40.motOf 3 ∨ 65536 ≤ s_40.stageD (motOut (s_40.motOf 3))) ∧
    (s_40.motCounts 1 = true) ∧ (2 * 8 < s_40.fld (MOT_RPER_PER 1)) ∧ (s_41.domOn Dom.act = true) ∧ (s_41.mst (s_41.motOf 25) ∈ [3, 5]) ∧
    (24 ≤ s_41.motOf 25) ∧ (s_42.domOn Dom.act = true) ∧ (25 = 24 + 1) ∧ (s_42.mst (24 + 1) = 5) ∧ ((s_42.mt (24 + 1)).reversing = true) ∧
    (s_42.fld (MOT_RCFG_TSTALL 1) ≠ 0) ∧ ((s_42.mt (24 + 1)).revPos = false ∨ (s_42.mt (24 + 1)).revN ≤ (s_42.mt (24 + 1)).revCount) ∧
    (s_43.domOn Dom.act = true) ∧ (s_43.mst (s_43.motOf 3) = 3) ∧ (s_43.motOf 3 < 24) ∧ (s_43.fld (MOT_HCFG2_TSTALL (halfOf (s_43.motOf 3))) ≠ 0) ∧
    ((s_43.motEvt (s_43.motOf 3) 5 7).motOpen (s_43.motOf 3) = some d_16) ∧ (d_16.opcode ≠ 4) ∧ (bitAt d_16.flags 0 = true) ∧ (s_43.motOpen 3 = some d_16) ∧
    (d_16.opcode = 1) ∧ (bitsOf (BitVec.toNat d_16.w3) 15 0 ≠ 0) ∧ (s_43.mst 3 = 3) ∧ (s_44.domOn Dom.act = true) ∧ (s_44.mst (s_44.motOf 3) = 3) ∧
    (s_44.motOf 3 < 24) ∧ (s_44.fld (MOT_HCFG2_TSTALL (halfOf (s_44.motOf 3))) ≠ 0) ∧ ((s_44.motEvt (s_44.motOf 3) 5 7).motOpen (s_44.motOf 3) = some d_17) ∧
    (bitAt d_17.flags 0 = false) ∧ (s_45.domOn Dom.act = true) ∧ (s_45.motOpen 3 = some d_16) ∧ (s_45.mst 3 = 6) ∧ (s_46.domOn Dom.act = true) ∧
    (s_46.mst 3 = 4) ∧ ((s_46.mt 3).waiting = some w_1) ∧ (s_47.domOn Dom.act = true) ∧ (s_47.mst 3 = 4) ∧ ((s_47.mt 3).waiting = none) ∧
    (s_48.domOn Dom.act = true) ∧ (s_48.mst (24 + 1) = 5) ∧ ((s_48.mt (24 + 1)).reversing = false) ∧ (s_50.domOn Dom.act = true) ∧ (s_50.motCounts 1 = true) ∧
    (((((s_50.count (MOT_RINS_INS 1)).ripplePos 1).modMt (24 + 1) fun (m : MotT) => { dNext := m.dNext, waiting := m.waiting, goTo := m.goTo, past := m.past, deferred := m.deferred, supSeen := m.supSeen, limSeen := m.limSeen, lastDir := m.lastDir, inserted := m.inserted + 1, reversing := m.reversing, revCount := m.revCount, revN := m.revN, revPos := m.revPos, counting := m.counting, high := m.high, exempt := m.exempt, lockDue := m.lockDue, dirP := m.dirP, limP := m.limP, brkP := m.brkP : MotT }).mt (24 + 1)).inserted = 5) ∧
    (s_51.domOn Dom.act = true) ∧ (s_51.on (MOT_PINCH_PEN 1) = true) ∧ (s_51.mst (24 + 1) = 3) ∧ (s_51.mdir (24 + 1) = s_51.closeDir 1) ∧
    (s_51.zoned 1 = true) ∧
    (decide ((s_51.pinchLimits 1).1 < BitVec.toNat mean_2) = true ∨ decide ((s_51.pinchLimits 1).2 ≠ 0 ∧ 1000000 < 7 * (s_51.pinchLimits 1).2) = true) ∧
    (s_52.domOn Dom.act = true) ∧ (s_52.mst 3 = 1) ∧ (s_52.on (motSup 3) = false) ∧ (s_53.domOn Dom.act = true) ∧ (s_53.mst 19 = 1) ∧
    (s_53.on (motSup 19) = false) ∧ (16 ≤ 19) ∧ (19 < 24) := by
  and_intros <;> decide +kernel

end Wit.Mot

namespace Wit.Vlv
def vd (op tgt w2 w3 fl : Nat) : Desc := { wdesc 4 op tgt with w2 := toWord w2, w3 := toWord w3, w0 := toWord (op * 64 + fl) }
def vs (op tgt w2 w3 fl : Nat) (l : List (FRef × Nat)) : State := (wst l).withD [vd op tgt w2 w3 fl]
def s_1 : State := vs 1 5 40 0 0 [(VLV_VSTAT_STATE 5, 9)]
def d_1 : Desc := vd 1 5 40 0 0
def x_1 : Nat × Nat := (0, 0)
def s_2 : State := vs 1 5 40 0 0 [(VLV_VSTAT_STATE 5, 8)]
def s_3 : State := vs 1 5 40 0 0 [(VLV_BSTAT_STATE 1, 4)]
def x_2 : Nat × Nat := (0o26, 0)
def s_4 : State := vs 1 5 0 0 0 []
def d_2 : Desc := vd 1 5 0 0 0
def s_5 : State := vs 2 5 0 0 0 [(VLV_VSTAT_STATE 5, 9)]
def d_3 : Desc := vd 2 5 0 0 0
def s_6 : State := (vs 4 5 9 0 1 [(VLV_VSTAT_DFULL 5, 1)])
def d_4 : Desc := vd 4 5 9 0 1
def x_3 : Nat × Nat := (0o23, 0)
def s_7 : State := vs 5 5 0 0 0 [(VLV_VSTAT_STATE 5, 7)]
def d_5 : Desc := vd 5 5 0 0 0
def s_8 : State := vs 6 5 0 0 0 [(VLV_VSTAT_STATE 5, 7), (THM_TSTAT_DTLAT 89, 1)]
def d_6 : Desc := vd 6 5 0 0 0
def s_9 : State := vs 6 17 0 0 0 [(VLV_BSTAT_STATE 1, 5)]
def d_7 : Desc := vd 6 17 0 0 0
def s_10 : State := vs 6 17 0 0 0 []
def s_11 : State := (vs 1 5 40 0 0 []).withMem [(seqKey (89*0o60), 2^17+0o14000)]
def s_12 : State := (vs 1 5 40 0 0 [])
def s_13 : State := (vs 1 5 40 0 0 [(VLV_VSTAT_STATE 5, 3)])
def s_14 : State := (vs 1 5 40 0 0 [(VLV_VSTAT_STATE 5, 4)])
def s_15 : State := (vs 2 5 0 0 0 [(VLV_VSTAT_STATE 5, 0)])
def s_16 : State := (vs 2 5 0 0 1 [(VLV_VSTAT_STATE 5, 4)])
def d_8 : Desc := vd 2 5 0 0 1
def s_17 : State := (vs 3 5 9 0 1 [(VLV_VSTAT_STATE 5, 4)])
def d_9 : Desc := vd 3 5 9 0 1
def s_18 : State := (vs 3 5 9 0 1 [(VLV_VSTAT_STATE 5, 3)])
def s_19 : State := (vs 4 5 9 0 1 [(VLV_VSTAT_STATE 5, 3)])
def s_20 : State := (vs 4 5 9 0 1 [(VLV_VSTAT_STATE 5, 3)]).withMem [(seqKey (89*0o60+1), 2^17+0o14000)]
def s_21 : State := (vs 5 5 0 0 0 [])
def s_22 : State := (vs 5 5 0 0 0 [(VLV_BSTAT_STATE 1, 4)])
def s_23 : State := (vs 6 5 0 0 0 [(VLV_VSTAT_STATE 5, 8)])
def s_24 : State := (vs 6 5 0 0 0 [])
def s_25 : State := (vs 6 17 0 0 0 [(VLV_BSTAT_STATE 1, 4)])
def s_26 : State := (vs 6 17 0 0 0 [(VLV_BSTAT_STATE 1, 3), (THM_TSTAT_DTLAT 81, 1)])
def vrun (op fl : Nat) : Desc := { vd op 5 8 600 fl with phase := .running }
def ve (l : List (FRef × Nat)) (ds : List Desc) (m : VlvT) : State := ((wst l).withD ds).setVv 5 m
def s_27 : State := ve [(VLV_BSTAT_STATE 1, 1)] [vrun 5 0] {}
def d_10 : Desc := vrun 5 0
def s_28 : State := ve [(VLV_BSTAT_STATE 1, 1)] [] {}
def d_11 : Desc := { wdesc 15 63 999 with ring := 63, slot := 1023 }
def s_29 : State := (ve [(VLV_VSTAT_STATE 5, 3), (VLV_VTIM_TPKMIN 5, 20), (VLV_BSTAT_STATE 1, 1)] [] {}).setVb 1 {ready := true}
def s_30 : State := (ve [(VLV_VSTAT_STATE 5, 3), (VLV_VTIM_TPKMIN 5, 2), (VLV_VTIM_PKH 5, 0), (VLV_BSTAT_STATE 1, 1)] [] {}).setVb 1 {ready := true}
def s_31 : State := (ve [(VLV_VSTAT_STATE 5, 3), (VLV_VTIM_TPKMIN 5, 2), (VLV_VTIM_PKH 5, 2), (VLV_BSTAT_STATE 1, 1)] [] {}).setVb 1 {ready := true}
def s_32 : State := ve [(VLV_VSTAT_STATE 5, 3), (VLV_BSTAT_STATE 1, 1)] [] {ran := true}
def s_33 : State := ve [(VLV_VSTAT_STATE 5, 3), (VLV_BSTAT_STATE 1, 1)] [] {}
def s_34 : State := ve [(VLV_VSTAT_STATE 5, 5), (VLV_BSTAT_STATE 1, 1)] [] {}
def s_35 : State := ve [(VLV_VSTAT_STATE 5, 4),(VLV_VDUTY_WIN 5, 4), (VLV_VDUTY_MAXF 5, 10), (VLV_BSTAT_STATE 1, 2)] [] {}
def s_36 : State := ve [(VLV_VDUTY_MAXF 5, 64), (VLV_VSTAT_DFULL 5, 1)] [] {}
def s_37 : State := ve [(VLV_VDUTY_MAXF 5, 64), (VLV_VSTAT_STATE 5, 4)] [vrun 1 0] {begun := true}
def d_12 : Desc := vrun 1 0
def s_38 : State := ve [(VLV_VSTAT_STATE 5, 4), (VLV_VCFG_MODE 5, 1)] [vrun 1 0] {ramping := true}
def s_39 : State := ve [(VLV_VSTAT_STATE 5, 4)] [vrun 3 0] {ramping := true}
def d_13 : Desc := vrun 3 0
def s_40 : State := ve [(VLV_VSTAT_STATE 5, 2)] [] {wait := true}
def s_41 : State := ve [(VLV_VSTAT_STATE 5, 2), (VLV_BCFG_BLIM 1, 4)] [] {wait := true, hold := 5}
def s_42 : State := (ve [(VLV_VSTAT_STATE 5, 2), (VLV_BCFG_BLIM 1, 4)] [] {wait := true, hold := 5, peak := true}).setVb 1 {slots := [6]}
def s_43 : State := (ve [(VLV_VSTAT_STATE 5, 2), (VLV_BCFG_BLIM 1, 60)] [] {wait := true, hold := 5, peak := true, must := true}).setVb 1 {slots := [6]}
def s_44 : State := ve [(VLV_VSTAT_STATE 5, 2)] [vrun 1 0] {}
def s_45 : State := ve [(VLV_VSTAT_STATE 5, 6), (VLV_BSTAT_STATE 1, 2)] [] {wait := true}


/-- Premises of ValveDescriptors are met. -/
theorem test_premises_ValveDescriptors :
    (s_1.domOn Dom.act = true) ∧ (d_1.target < 16) ∧ (s_1.ready 4 1 9 3 d_1 = true) ∧ (s_1.vst d_1.target = 9) ∧ (s_2.domOn Dom.act = true) ∧
    (s_2.ready 4 1 9 3 d_1 = true) ∧ (s_2.vst d_1.target = 8) ∧ (s_3.domOn Dom.act = true) ∧ (s_3.ready 4 1 9 3 d_1 = true) ∧ (s_3.vst d_1.target < 8) ∧
    (s_3.vlvBar d_1.target = some x_2) ∧ (s_4.domOn Dom.act = true) ∧ (d_2.target < 16) ∧ (s_4.ready 4 1 9 3 d_2 = true) ∧ (s_4.vst d_2.target < 8) ∧
    (s_4.vlvBar d_2.target = none) ∧ ((s_4.entryScrub (vlvOut d_2.target) 0).entryValid (vlvOut d_2.target) 0 = false) ∧ (d_2.w2 = 0) ∧
    (s_5.domOn Dom.act = true) ∧ (d_3.target < 16) ∧ (s_5.ready 4 2 9 3 d_3 = true) ∧ (s_5.vst d_3.target = 9) ∧ (s_6.domOn Dom.act = true) ∧
    (d_4.target < 16) ∧ (s_6.ready 4 4 9 3 d_4 = true) ∧ (s_6.vst d_4.target < 8) ∧ (s_6.vlvBar d_4.target = some x_3) ∧ (s_7.domOn Dom.act = true) ∧
    (d_5.target < 16) ∧ (s_7.ready 4 5 9 3 d_5 = true) ∧ (s_7.vst d_5.target ∈ [1, 2, 3, 4, 5, 6, 7]) ∧ (s_8.domOn Dom.act = true) ∧ (d_6.target < 16) ∧
    (s_8.ready 4 6 9 3 d_6 = true) ∧ (s_8.vst d_6.target < 9) ∧ (s_8.vlvLat d_6.target ≠ 0) ∧ (s_9.domOn Dom.act = true) ∧ (16 ≤ d_7.target) ∧
    (s_9.ready 4 6 9 3 d_7 = true) ∧ (s_9.bst (d_7.target - 16) = 5) ∧ (s_10.domOn Dom.act = true) ∧ (s_10.ready 4 6 9 3 d_7 = true) ∧
    (s_10.bst (d_7.target - 16) ≠ 5) ∧ (bitAt d_7.flags 0 = false) ∧ (s_10.bst (d_7.target - 16) ≠ 4) ∧
    (s_10.bankLat (d_7.target - 16) + 4 * b2n (s_10.wireTrip (vhOut (d_7.target - 16))) = 0) ∧ (s_11.domOn Dom.act = true) ∧ (s_11.ready 4 1 9 3 d_1 = true) ∧
    (s_11.vst d_1.target < 8) ∧ (s_11.vlvBar d_1.target = none) ∧ ((s_11.entryScrub (vlvOut d_1.target) 0).entryValid (vlvOut d_1.target) 0 = true) ∧
    (s_12.domOn Dom.act = true) ∧ (s_12.ready 4 1 9 3 d_1 = true) ∧ (s_12.vst d_1.target < 8) ∧ (s_12.vlvBar d_1.target = none) ∧
    ((s_12.entryScrub (vlvOut d_1.target) 0).entryValid (vlvOut d_1.target) 0 = false) ∧ (d_1.w2 ≠ 0) ∧ (s_12.vst d_1.target ≠ 3) ∧ (s_12.vst d_1.target ≠ 4) ∧
    (s_13.domOn Dom.act = true) ∧ (s_13.ready 4 1 9 3 d_1 = true) ∧ (s_13.vst d_1.target < 8) ∧ (s_13.vlvBar d_1.target = none) ∧
    ((s_13.entryScrub (vlvOut d_1.target) 0).entryValid (vlvOut d_1.target) 0 = false) ∧ (s_13.vst d_1.target = 3) ∧ (s_14.domOn Dom.act = true) ∧
    (s_14.ready 4 1 9 3 d_1 = true) ∧ (s_14.vst d_1.target < 8) ∧ (s_14.vlvBar d_1.target = none) ∧
    ((s_14.entryScrub (vlvOut d_1.target) 0).entryValid (vlvOut d_1.target) 0 = false) ∧ (s_14.vst d_1.target = 4) ∧ (s_15.domOn Dom.act = true) ∧
    (s_15.ready 4 2 9 3 d_3 = true) ∧ (s_15.vst d_3.target < 9) ∧ (((s_15.vlvSupersede d_3.target).stopThread (vlvOut d_3.target)).vst d_3.target = 0) ∧
    (s_16.domOn Dom.act = true) ∧ (d_8.target < 16) ∧ (s_16.ready 4 2 9 3 d_8 = true) ∧ (s_16.vst d_8.target < 9) ∧
    (((s_16.vlvSupersede d_8.target).stopThread (vlvOut d_8.target)).vst d_8.target ≠ 0) ∧ (s_17.domOn Dom.act = true) ∧ (d_9.target < 16) ∧
    (s_17.ready 4 3 9 3 d_9 = true) ∧ (s_17.vst d_9.target = 4) ∧ (s_17.vlvWith d_9.target 3 = none) ∧ (s_18.domOn Dom.act = true) ∧
    (s_18.ready 4 3 9 3 d_9 = true) ∧ (s_18.vst d_9.target ∈ [0, 1, 2, 3, 5, 6, 7]) ∧ (s_19.domOn Dom.act = true) ∧ (s_19.ready 4 4 9 3 d_4 = true) ∧
    (s_19.vst d_4.target < 8) ∧ (s_19.vlvBar d_4.target = none) ∧
    ((s_19.entryScrub (vlvOut d_4.target) (d_4.flags % 8)).entryValid (vlvOut d_4.target) (d_4.flags % 8) = false) ∧ (s_20.domOn Dom.act = true) ∧
    (s_20.ready 4 4 9 3 d_4 = true) ∧ (s_20.vst d_4.target < 8) ∧ (s_20.vlvBar d_4.target = none) ∧
    ((s_20.entryScrub (vlvOut d_4.target) (d_4.flags % 8)).entryValid (vlvOut d_4.target) (d_4.flags % 8) = true) ∧ (s_21.domOn Dom.act = true) ∧
    (s_21.ready 4 5 9 3 d_5 = true) ∧ (s_21.vst d_5.target = 0) ∧ (s_21.bankBarred (d_5.target / 4) = false) ∧ (s_22.domOn Dom.act = true) ∧
    (s_22.ready 4 5 9 3 d_5 = true) ∧ (s_22.vst d_5.target = 0) ∧ (s_22.bankBarred (d_5.target / 4) = true) ∧ (s_23.domOn Dom.act = true) ∧
    (s_23.ready 4 6 9 3 d_6 = true) ∧ (s_23.vst d_6.target = 8) ∧ (s_23.vlvLat d_6.target = 0) ∧ (s_24.domOn Dom.act = true) ∧
    (s_24.ready 4 6 9 3 d_6 = true) ∧ (s_24.vst d_6.target < 8) ∧ (s_24.vlvLat d_6.target = 0) ∧ (s_25.domOn Dom.act = true) ∧
    (s_25.ready 4 6 9 3 d_7 = true) ∧ (s_25.bst (d_7.target - 16) ≠ 5) ∧ (s_25.bst (d_7.target - 16) = 4) ∧
    (s_25.bankLat (d_7.target - 16) + 4 * b2n (s_25.wireTrip (vhOut (d_7.target - 16))) = 0) ∧ (s_26.domOn Dom.act = true) ∧ (s_26.ready 4 6 9 3 d_7 = true) ∧
    (s_26.bst (d_7.target - 16) ≠ 5) ∧ (s_26.bankLat (d_7.target - 16) + 4 * b2n (s_26.wireTrip (vhOut (d_7.target - 16))) ≠ 0) := by
  and_intros <;> decide +kernel

/-- Premises of ValveEvents are met. -/
theorem test_premises_ValveEvents :
    (s_27.domOn Dom.act = true) ∧ (s_27.vlvWith 5 5 = some d_10) ∧ (true = true) ∧ (s_27.bst 1 = 1) ∧ ((s_27.vb 1).ready = false) ∧
    (s_27.bankQuiet 1 = false) ∧ (s_27.vst 5 ≠ 5) ∧ (s_27.vlvWaits 5 = false) ∧ (s_27.fld (VLV_VDUTY_MAXF 5) = 64) ∧ (s_27.vst 5 ≠ 9) ∧ (s_27.bst 1 ≠ 5) ∧
    (s_27.bst 1 < 4) ∧ (((s_27.raise (VLV_BSTAT_UV 1)).bEvt 1 4).bst 1 ≤ 1) ∧ ((s_27.setFld (VLV_BSTAT_UV 1) 0).bst 1 ≠ 2) ∧ (false = false) ∧
    (s_28.domOn Dom.act = true) ∧ (s_28.bst 1 = 1) ∧ (s_28.bankQuiet 1 = true) ∧ (s_29.domOn Dom.act = true) ∧ (s_29.vst 5 = 3) ∧ ((s_29.vv 5).ran = false) ∧
    ((s_29.vb (5 / 4)).ready = true) ∧ (s_29.fld (VLV_VTIM_TPKMIN 5) ≠ 0) ∧ (((s_29.setFld (VLV_VTPK_TPK 5) (satTo 262143 1000)).vv 5).hot = false) ∧
    (1000 < 100 * s_29.fld (VLV_VTIM_TPKMIN 5)) ∧ (s_30.domOn Dom.act = true) ∧ (s_30.vst 5 = 3) ∧ ((s_30.vv 5).ran = false) ∧
    ((s_30.vb (5 / 4)).ready = true) ∧ (100 * s_30.fld (VLV_VTIM_TPKMIN 5) ≤ 1000) ∧
    (((s_30.setFld (VLV_VTPK_TPK 5) (satTo 262143 1000)).modVv 5 fun (v : VlvT) => { hold := v.hold, wait := v.wait, setiWait := v.setiWait, since := v.since, tdef := v.tdef, must := v.must, peak := v.peak, noLimit := v.noLimit, byThread := v.byThread, late := v.late, ran := true, tpk := satTo 511 (1000 / 100), hot := v.hot, begun := v.begun, past := v.past, setiFrom := v.setiFrom, setiTo := v.setiTo, setiMs := v.setiMs, setiN := v.setiN, setiLate := v.setiLate, ramping := v.ramping, own := v.own, rise := v.rise, threaded := v.threaded, want := v.want, dAmp := v.dAmp, dFreq := v.dFreq, dPh := v.dPh, loop := v.loop, duty := v.duty, dutyT := v.dutyT, clamp := v.clamp, premag := v.premag, ends := v.ends, dNext := v.dNext, damp := v.damp, dfreq := v.dfreq, quench := v.quench : VlvT }).on (VLV_VTIM_PKH 5) = false) ∧
    (s_31.domOn Dom.act = true) ∧ (s_31.vst 5 = 3) ∧ ((s_31.vv 5).ran = false) ∧ ((s_31.vb (5 / 4)).ready = true) ∧
    (100 * s_31.fld (VLV_VTIM_TPKMIN 5) ≤ 1000) ∧
    (((s_31.setFld (VLV_VTPK_TPK 5) (satTo 262143 1000)).modVv 5 fun (v : VlvT) => { hold := v.hold, wait := v.wait, setiWait := v.setiWait, since := v.since, tdef := v.tdef, must := v.must, peak := v.peak, noLimit := v.noLimit, byThread := v.byThread, late := v.late, ran := true, tpk := satTo 511 (1000 / 100), hot := v.hot, begun := v.begun, past := v.past, setiFrom := v.setiFrom, setiTo := v.setiTo, setiMs := v.setiMs, setiN := v.setiN, setiLate := v.setiLate, ramping := v.ramping, own := v.own, rise := v.rise, threaded := v.threaded, want := v.want, dAmp := v.dAmp, dFreq := v.dFreq, dPh := v.dPh, loop := v.loop, duty := v.duty, dutyT := v.dutyT, clamp := v.clamp, premag := v.premag, ends := v.ends, dNext := v.dNext, damp := v.damp, dfreq := v.dfreq, quench := v.quench : VlvT }).on (VLV_VTIM_PKH 5) = true) ∧
    (s_32.domOn Dom.act = true) ∧ (s_32.vst 5 = 3) ∧ ((s_32.vv 5).ran = true) ∧ (s_33.domOn Dom.act = true) ∧ (s_33.vst 5 = 3) ∧ ((s_33.vv 5).ran = false) ∧
    (s_34.domOn Dom.act = true) ∧ (s_34.vst 5 = 5) ∧ (s_35.domOn Dom.act = true) ∧ (s_35.on (VLV_VDUTY_WIN 5) = true) ∧ (s_35.fld (VLV_VDUTY_MAXF 5) ≠ 64) ∧
    (s_35.vst 5 ∈ [1, 3, 4]) ∧ (1 < ((s_35.raise (VLV_BSTAT_UV 1)).bEvt 1 4).bst 1) ∧ ((s_35.setFld (VLV_BSTAT_UV 1) 0).bst 1 = 2) ∧
    (s_36.domOn Dom.act = true) ∧ (s_36.on (VLV_VSTAT_DFULL 5) = true) ∧ (s_37.domOn Dom.act = true) ∧ (s_37.vlvOpen 5 = some d_12) ∧ (d_12.opcode = 1) ∧
    (bitsOf (BitVec.toNat d_12.w3) 15 0 ≠ 0) ∧ ((s_37.vv 5).threaded = false) ∧ ((s_37.vv 5).begun = true) ∧ (s_38.domOn Dom.act = true) ∧ (s_38.vst 5 = 4) ∧
    ((s_38.vv 5).ramping = true) ∧
    (((s_38.modVv 5 fun (v : VlvT) => { hold := v.setiTo, wait := v.wait, setiWait := v.setiWait, since := v.since, tdef := v.tdef, must := v.must, peak := v.peak, noLimit := v.noLimit, byThread := v.byThread, late := v.late, ran := v.ran, tpk := v.tpk, hot := v.hot, begun := v.begun, past := v.past, setiFrom := v.setiFrom, setiTo := v.setiTo, setiMs := v.setiMs, setiN := v.setiN, setiLate := v.setiLate, own := v.own, rise := v.rise, threaded := v.threaded, want := v.want, dAmp := v.dAmp, dFreq := v.dFreq, dPh := v.dPh, loop := v.loop, duty := v.duty, dutyT := v.dutyT, clamp := v.clamp, premag := v.premag, ends := v.ends, dNext := v.dNext, damp := v.damp, dfreq := v.dfreq, quench := v.quench : VlvT }).vlvShow 5 (s_38.vv 5).setiTo).vlvWith 5 3 = none) ∧
    (s_38.on (VLV_VCFG_MODE 5) = true) ∧ (s_39.domOn Dom.act = true) ∧ (s_39.vst 5 = 4) ∧ ((s_39.vv 5).ramping = true) ∧
    (((s_39.modVv 5 fun (v : VlvT) => { hold := v.setiTo, wait := v.wait, setiWait := v.setiWait, since := v.since, tdef := v.tdef, must := v.must, peak := v.peak, noLimit := v.noLimit, byThread := v.byThread, late := v.late, ran := v.ran, tpk := v.tpk, hot := v.hot, begun := v.begun, past := v.past, setiFrom := v.setiFrom, setiTo := v.setiTo, setiMs := v.setiMs, setiN := v.setiN, setiLate := v.setiLate, own := v.own, rise := v.rise, threaded := v.threaded, want := v.want, dAmp := v.dAmp, dFreq := v.dFreq, dPh := v.dPh, loop := v.loop, duty := v.duty, dutyT := v.dutyT, clamp := v.clamp, premag := v.premag, ends := v.ends, dNext := v.dNext, damp := v.damp, dfreq := v.dfreq, quench := v.quench : VlvT }).vlvShow 5 (s_39.vv 5).setiTo).vlvWith 5 3 = some d_13) ∧
    (s_40.domOn Dom.act = true) ∧ (s_40.vlvWaits 5 = true) ∧ ((s_40.vv 5).noLimit = false) ∧ (s_40.vlvFits 5 = true) ∧ (s_42.domOn Dom.act = true) ∧
    (s_42.vlvWaits 5 = true) ∧ ((s_42.vv 5).noLimit = false) ∧ (s_42.vlvFits 5 = false) ∧ ((s_42.vv 5).must = false) ∧ (s_43.domOn Dom.act = true) ∧
    (s_43.vlvWaits 5 = true) ∧ ((s_43.vv 5).noLimit = false) ∧ (s_43.vlvFits 5 = false) ∧ ((s_43.vv 5).must = true) ∧ (s_43.demandWith 5 ≤ s_43.blim (5 / 4)) ∧
    (s_44.domOn Dom.act = true) ∧ (s_44.vlvOpen 5 = some d_12) ∧ ((s_44.vv 5).threaded = false) ∧ ((s_44.vv 5).begun = false) := by
  and_intros <;> decide +kernel

end Wit.Vlv

namespace Wit.Lux
def ld (op tgt w2 w3 fl : Nat) : Desc := { wdesc 5 op tgt with w2 := toWord w2, w3 := toWord w3, w0 := toWord (op * 64 + fl) }
def ls (op tgt w2 w3 fl : Nat) (l : List (FRef × Nat)) : State := (wst l).withD [ld op tgt w2 w3 fl]
def pf : PxFrame := ⟨3, 1, [], some 1, false⟩
def s_1 : State := ls 1 5 4000 0 0 [(LUX_LSTAT_STATE 5, 5)]
def d_1 : Desc := ld 1 5 4000 0 0
def s_2 : State := ls 1 5 4000 0 0 [(LUX_CCFG_EN 1, 1), (LUX_CCFG_SG 1, 5)]
def s_3 : State := ls 1 5 4000 0 0 [(LUX_LSTAT_STATE 5, 4)]
def s_4 : State := (ls 1 5 4000 0 0 []).withMem [(seqKey (105*0o60), 2^17+0o14000)]
def s_5 : State := (ls 1 5 4000 3 0 [])
def d_2 : Desc := ld 1 5 4000 3 0
def s_6 : State := (ls 1 5 4000 0 0 [])
def s_7 : State := (ls 1 5 4000 3 0 [(LUX_LSTAT_STATE 5, 1)])
def s_8 : State := (ls 1 5 4000 0 0 [(LUX_LSTAT_STATE 5, 3)])
def s_9 : State := (ls 2 5 0 0 0 [(LUX_LSTAT_STATE 5, 3)])
def d_3 : Desc := ld 2 5 0 0 0
def s_10 : State := (ls 6 26 3 9 0 [(LUX_CSTAT_STATE 2, 1), (LUX_CTT0_T 3, 77)])
def d_4 : Desc := ld 6 26 3 9 0
def s_11 : State := (ls 2 5 0 0 0 [(LUX_LSTAT_STATE 5, 2)])
def s_12 : State := (ls 3 5 0 0 1 [])
def d_5 : Desc := ld 3 5 0 0 1
def s_13 : State := (ls 3 5 0 0 1 []).withMem [(seqKey (105*0o60+1), 2^17+0o14000)]
def s_14 : State := (ls 4 5 0 0 0 [])
def d_6 : Desc := ld 4 5 0 0 0
def s_15 : State := (ls 4 5 0 0 0 [(LUX_LSTAT_STATE 5, 2)])
def s_16 : State := (ls 4 5 0 0 0 [(LUX_LSTAT_STATE 5, 2), (LUX_LSTAT_OL 5, 1)])
def s_17 : State := (ls 4 5 0 0 0 [(LUX_LSTAT_STATE 5, 2), (LUX_LSTAT_OL 5, 2)])
def s_18 : State := (ls 5 5 0 0 0 [(LUX_LSTAT_STATE 5, 4)])
def d_7 : Desc := ld 5 5 0 0 0
def s_19 : State := (ls 5 5 0 0 0 [(LUX_LSTAT_STATE 5, 3), (THM_TSTAT_DTLAT 105, 1)])
def s_20 : State := (ls 5 5 0 0 0 [])
def s_21 : State := (ls 2 26 0 0 0 [(LUX_CSTAT_STATE 2, 1)])
def d_8 : Desc := ld 2 26 0 0 0
def s_22 : State := (ls 6 26 3 0 0 [(LUX_CSTAT_STATE 2, 1)])
def d_9 : Desc := ld 6 26 3 0 0
def s_23 : State := (ls 6 26 3 0 0 [(LUX_CSTAT_STATE 2, 1)]).modFlt (fun x => { x with fenced := [(9*256+26, true)] })
def s_24 : State := (ls 7 33 3 0 0 []).setPch 1 { comp := [(1, [pf])] }
def d_10 : Desc := ld 7 33 3 0 0
def s_25 : State := (ls 8 33 3 0 0 []).setPch 1 { comp := [(1, [pf])] }
def d_11 : Desc := ld 8 33 3 0 0
def s_26 : State := (ls 9 33 3 0 0 []).setPch 1 { comp := [(1, [pf])] }
def d_12 : Desc := ld 9 33 3 0 0
def s_27 : State := (ls 10 33 3 0 0 []).setPch 1 { comp := [(1, [pf])] }
def d_13 : Desc := ld 10 33 3 0 0
def s_28 : State := (ls 11 33 3 0 0 []).setPch 1 { comp := [(1, [pf])] }
def d_14 : Desc := ld 11 33 3 0 0
def s_29 : State := (ls 7 33 3 0 0 []).modFlt (fun x => { x with fenced := [(9*256+33, true)] })
def le (l : List (FRef × Nat)) (q : PxCh) : State := (wst l).setPch 1 q
def rep (cmd seq addr : Nat) (p : List Nat) : List Byte := pxBytes cmd seq addr (p.map (fun (n : Nat) => (BitVec.ofNat 8 n : Byte)))
def lrd : Desc := { ld 10 33 0o100000 0 0 with phase := .running, w4 := 2 }
def s_30 : State := le [(LUX_LSTAT_STATE 5, 2), (LUX_LCFG_STBEN 5, 1)] {}
def outs_1 : List Bool := []
def p0_1 : BitVec 16 := 0
def d_15 : Desc := { wdesc 15 63 999 with ring := 63, slot := 1023 }
def frame_1 : List Byte := []
def w_1 : Nat × Nat × Nat × List Byte := (0, 0, 0, [])
def s_31 : State := le [(LUX_LCFG_OLEN 5, 0)] {}
def s_32 : State := (le [(LUX_LSTAT_STATE 5, 2), (SEQ_OVAL_D 105, 30000), (LUX_LCFG_OLEN 5, 0), (LUX_LBRT_BRT 5, 4096)] {}).setLx 5 {de := 30000}
def s_33 : State := (le [(LUX_LSTAT_STATE 5, 2), (SEQ_OVAL_D 105, 10000), (LUX_LCFG_OLEN 5, 1), (LUX_LBRT_BRT 5, 4096)] {}).setLx 5 {de := 10000, amp := 300}
def outs_2 : List Bool := [true, false]
def s_34 : State := le [(LUX_CCFG_EN 2, 1), (LUX_CSTAT_STATE 2, 1)] {}
def s_35 : State := ((le [(LUX_CCFG_EN 2, 1), (LUX_CSTAT_STATE 2, 1)] {}).withD [{ ld 6 26 3 0 0 with phase := .running }]).setCl 2 {limit := 3, periods := 3}
def d_16 : Desc := { ld 6 26 3 0 0 with phase := .running }
def s_36 : State := ((le [(LUX_CSTAT_FAILS 2, 2), (LUX_CSTAT_STATE 2, 2)] {}).setCl 2 {reading := true}).modInp (fun x => { x with i2c := [2, 4] })
def s_37 : State := ((le [(LUX_CSTAT_FAILS 2, 2), (LUX_CSTAT_STATE 2, 0)] {}).setCl 2 {reading := true}).modInp (fun x => { x with i2c := [2, 4] })
def p0_2 : BitVec 16 := 0x1234
def p1_1 : BitVec 16 := 0x5678
def p2_1 : BitVec 16 := 0x9abc
def s_38 : State := (le [] {cur := some {pf with cmd := 5}})
def f_1 : PxFrame := {pf with cmd := 5}
def s_39 : State := (le [] {cur := some {pf with cmd := 3}})
def f_2 : PxFrame := {pf with cmd := 3}
def s_40 : State := (le [] {cur := some {pf with cmd := 4}}).withD [{ ld 8 33 0 0 0 with phase := .running }]
def f_3 : PxFrame := {pf with cmd := 4}
def d_17 : Desc := { ld 8 33 0 0 0 with phase := .running }
def s_41 : State := (le [] {cur := some {pf with cmd := 5}, sent := true})
def frame_2 : List Byte := [1, 2]
def frame_3 : List Byte := [0xA5, 2]
def s_42 : State := (le [] {cur := some {pf with cmd := 5}, seq := 4, sent := true}).withD [lrd]
def frame_4 : List Byte := rep 13 4 1 [7, 65, 66]
def w_2 : Nat × Nat × Nat × List Byte := (13, 4, 1, [7, 65, 66])
def s_43 : State := (le [] {cur := some {pf with cmd := 6, own := none, addr := 0}, seq := 4, sent := true})
def f_4 : PxFrame := {pf with cmd := 6, own := none}
def frame_5 : List Byte := rep 14 4 0 [7]
def w_3 : Nat × Nat × Nat × List Byte := (14, 4, 0, [7])
def s_44 : State := (le [] {cur := some {pf with cmd := 6, own := none}, seq := 4, sent := true})
def frame_6 : List Byte := rep 14 4 1 [7]
def w_4 : Nat × Nat × Nat × List Byte := (14, 4, 1, [7])
def s_45 : State := (le [] {cur := some {pf with cmd := 1, own := none}, seq := 4, sent := true}).withD [lrd]
def f_5 : PxFrame := {pf with cmd := 1, own := none}
def frame_7 : List Byte := rep 9 4 1 [20]
def w_5 : Nat × Nat × Nat × List Byte := (9, 4, 1, [20])
def s_46 : State := (le [(LUX_PCFG_NCFG 1, 20)] {cur := some {pf with cmd := 1}, seq := 4, sent := true}).withD [lrd]
def f_6 : PxFrame := {pf with cmd := 1}
def s_47 : State := le [(LUX_PCFG_EN 1, 1), (LUX_PCFG_SCAN 1, 1), (LUX_PSTAT_N 1, 3)] {base := 1}
def s_48 : State := (le [] {}).withD [{ ld 8 33 0 0 0 with phase := .timed }]
def d_18 : Desc := { ld 8 33 0 0 0 with phase := .timed }
def s_49 : State := (le [] {applies := [1]}).withD [{ ld 8 33 0 0 0 with phase := .running }]


/-- Premises of LightingDescriptors are met. -/
theorem test_premises_LightingDescriptors :
    (s_1.domOn Dom.act = true) ∧ (d_1.target < 24) ∧ (s_1.ready 5 1 9 3 d_1 = true) ∧ (s_1.lst d_1.target = 5) ∧ (s_2.domOn Dom.act = true) ∧
    (s_2.ready 5 1 9 3 d_1 = true) ∧ (s_2.lst d_1.target < 5) ∧ ((s_2.loopOf d_1.target).isSome = true) ∧ (s_3.domOn Dom.act = true) ∧
    (s_3.ready 5 1 9 3 d_1 = true) ∧ (s_3.lst d_1.target = 4) ∧ (s_3.loopOf d_1.target = none) ∧ (s_4.domOn Dom.act = true) ∧ (s_4.ready 5 1 9 3 d_1 = true) ∧
    (s_4.lst d_1.target < 4) ∧ (s_4.loopOf d_1.target = none) ∧ ((s_4.entryScrub (luxOut d_1.target) 0).entryValid (luxOut d_1.target) 0 = true) ∧
    (s_5.domOn Dom.act = true) ∧ (d_2.target < 24) ∧ (s_5.ready 5 1 9 3 d_2 = true) ∧ (s_5.lst d_2.target < 4) ∧ (s_5.loopOf d_2.target = none) ∧
    ((s_5.entryScrub (luxOut d_2.target) 0).entryValid (luxOut d_2.target) 0 = false) ∧ (bitsOf (BitVec.toNat d_2.w3) 12 0 ≠ 0) ∧ (d_2.wasTimed = false) ∧
    (s_5.lst d_2.target ≠ 1) ∧ (s_6.domOn Dom.act = true) ∧ (s_6.ready 5 1 9 3 d_1 = true) ∧ (s_6.lst d_1.target < 4) ∧ (s_6.loopOf d_1.target = none) ∧
    ((s_6.entryScrub (luxOut d_1.target) 0).entryValid (luxOut d_1.target) 0 = false) ∧ (bitsOf (BitVec.toNat d_1.w3) 12 0 = 0) ∧
    (((((s_6.entryScrub (luxOut d_1.target) 0).luxOpenNew d_1.target d_1).modLx d_1.target fun (x : LuxT) => { dNext := x.dNext, rampFrom := x.rampFrom, rampTo := x.rampTo, rampN := x.rampN, rampLeft := x.rampLeft, want := true, outRun := x.outRun, inRun := x.inRun, idle := x.idle, diagN := x.diagN, iset := x.iset, derate := x.derate, de := x.de, amp := x.amp, t := x.t, first := x.first : LuxT }).luxApply d_1.target (BitVec.toNat d_1.w2) d_1.wasTimed).lst d_1.target ≠ 3) ∧
    (s_7.domOn Dom.act = true) ∧ (s_7.ready 5 1 9 3 d_2 = true) ∧ (s_7.lst d_2.target < 4) ∧ (s_7.loopOf d_2.target = none) ∧
    ((s_7.entryScrub (luxOut d_2.target) 0).entryValid (luxOut d_2.target) 0 = false) ∧ (s_7.lst d_2.target = 1) ∧ (s_8.domOn Dom.act = true) ∧
    (s_8.ready 5 1 9 3 d_1 = true) ∧ (s_8.lst d_1.target < 4) ∧ (s_8.loopOf d_1.target = none) ∧
    ((s_8.entryScrub (luxOut d_1.target) 0).entryValid (luxOut d_1.target) 0 = false) ∧
    (((((s_8.entryScrub (luxOut d_1.target) 0).luxOpenNew d_1.target d_1).modLx d_1.target fun (x : LuxT) => { dNext := x.dNext, rampFrom := x.rampFrom, rampTo := x.rampTo, rampN := x.rampN, rampLeft := x.rampLeft, want := true, outRun := x.outRun, inRun := x.inRun, idle := x.idle, diagN := x.diagN, iset := x.iset, derate := x.derate, de := x.de, amp := x.amp, t := x.t, first := x.first : LuxT }).luxApply d_1.target (BitVec.toNat d_1.w2) d_1.wasTimed).lst d_1.target = 3) ∧
    (s_9.domOn Dom.act = true) ∧ (d_3.target < 24) ∧ (s_9.ready 5 2 9 3 d_3 = true) ∧ (s_9.lst d_3.target < 5) ∧ (s_9.loopOf d_3.target = none) ∧
    (s_9.lst d_3.target = 3) ∧ (s_10.domOn Dom.act = true) ∧ (24 ≤ d_4.target) ∧ (d_4.target < 32) ∧ (s_10.ready 5 6 9 3 d_4 = true) ∧
    (s_10.isFenced 9 (24 + (d_4.target - 24)) = false) ∧ (s_10.fld (LUX_CTT0_T (bitsOf (BitVec.toNat d_4.w2) 4 0)) ≠ 0) ∧
    (((((s_10.luxSupersede (24 + (d_4.target - 24))).startDesc d_4).setFld (LUX_CSTAT_ENT (d_4.target - 24)) (bitsOf (BitVec.toNat d_4.w2) 4 0)).setFld (LUX_CSTAT_SETL (d_4.target - 24)) 0).cst (d_4.target - 24) ≠ 0) ∧
    (bitsOf (BitVec.toNat d_4.w4) 17 9 = 0) ∧ (s_11.domOn Dom.act = true) ∧ (s_11.ready 5 2 9 3 d_3 = true) ∧ (s_11.lst d_3.target < 5) ∧
    (s_11.loopOf d_3.target = none) ∧ (s_11.lst d_3.target ≠ 3) ∧ (s_12.domOn Dom.act = true) ∧ (d_5.target < 24) ∧ (s_12.ready 5 3 9 3 d_5 = true) ∧
    (s_12.lst d_5.target < 4) ∧ (s_12.loopOf d_5.target = none) ∧
    ((s_12.entryScrub (luxOut d_5.target) (d_5.flags % 8)).entryValid (luxOut d_5.target) (d_5.flags % 8) = false) ∧ (s_13.domOn Dom.act = true) ∧
    (s_13.ready 5 3 9 3 d_5 = true) ∧ (s_13.lst d_5.target < 4) ∧ (s_13.loopOf d_5.target = none) ∧
    ((s_13.entryScrub (luxOut d_5.target) (d_5.flags % 8)).entryValid (luxOut d_5.target) (d_5.flags % 8) = true) ∧ (s_14.domOn Dom.act = true) ∧
    (d_6.target < 24) ∧ (s_14.ready 5 4 9 3 d_6 = true) ∧ (s_14.lst d_6.target ∈ [0, 1, 3, 4]) ∧ (s_15.domOn Dom.act = true) ∧
    (s_15.ready 5 4 9 3 d_6 = true) ∧ (s_15.lst d_6.target = 2) ∧ (s_15.fld (LUX_LSTAT_OL d_6.target) = 0) ∧ (s_16.domOn Dom.act = true) ∧
    (s_16.ready 5 4 9 3 d_6 = true) ∧ (s_16.lst d_6.target = 2) ∧ (s_16.fld (LUX_LSTAT_OL d_6.target) = 1) ∧ (s_17.domOn Dom.act = true) ∧
    (s_17.ready 5 4 9 3 d_6 = true) ∧ (s_17.lst d_6.target = 2) ∧ (s_17.fld (LUX_LSTAT_OL d_6.target) = 2) ∧ (s_18.domOn Dom.act = true) ∧ (d_7.target < 24) ∧
    (s_18.ready 5 5 9 3 d_7 = true) ∧ (s_18.luxLat d_7.target = 0) ∧ (s_18.lst d_7.target = 4) ∧ (s_19.domOn Dom.act = true) ∧
    (s_19.ready 5 5 9 3 d_7 = true) ∧ (s_19.luxLat d_7.target ≠ 0) ∧ (s_19.lst d_7.target < 5) ∧ (s_20.domOn Dom.act = true) ∧
    (s_20.ready 5 5 9 3 d_7 = true) ∧ (s_20.luxLat d_7.target = 0) ∧ (s_20.lst d_7.target < 4) ∧ (s_21.domOn Dom.act = true) ∧ (24 ≤ d_8.target) ∧
    (d_8.target < 32) ∧ (s_21.ready 5 2 9 3 d_8 = true) ∧ (s_21.isFenced 9 (24 + (d_8.target - 24)) = false) ∧ (s_22.domOn Dom.act = true) ∧
    (24 ≤ d_9.target) ∧ (d_9.target < 32) ∧ (s_22.ready 5 6 9 3 d_9 = true) ∧ (s_22.isFenced 9 (24 + (d_9.target - 24)) = false) ∧
    (s_22.fld (LUX_CTT0_T (bitsOf (BitVec.toNat d_9.w2) 4 0)) = 0) ∧ (s_22.fld (LUX_CTT1_T (bitsOf (BitVec.toNat d_9.w2) 4 0)) = 0) ∧
    (s_22.fld (LUX_CTT2_T (bitsOf (BitVec.toNat d_9.w2) 4 0)) = 0) ∧ (s_23.domOn Dom.act = true) ∧ (s_23.ready 5 6 9 3 d_9 = true) ∧
    (s_23.isFenced 9 (24 + (d_9.target - 24)) = true) ∧ (s_24.domOn Dom.act = true) ∧ (32 ≤ d_10.target) ∧
    (s_24.isFenced 9 (32 + (d_10.target - 32)) = false) ∧ (lGet (s_24.pch (d_10.target - 32)).comp d_10.key ≠ []) ∧ (s_24.ready 5 7 9 3 d_10 = true) ∧
    (s_25.domOn Dom.act = true) ∧ (32 ≤ d_11.target) ∧ (s_25.isFenced 9 (32 + (d_11.target - 32)) = false) ∧
    (lGet (s_25.pch (d_11.target - 32)).comp d_11.key ≠ []) ∧ (s_25.ready 5 8 9 3 d_11 = true) ∧ (s_26.domOn Dom.act = true) ∧ (32 ≤ d_12.target) ∧
    (s_26.isFenced 9 (32 + (d_12.target - 32)) = false) ∧ (lGet (s_26.pch (d_12.target - 32)).comp d_12.key ≠ []) ∧ (s_26.ready 5 9 9 3 d_12 = true) ∧
    (s_27.domOn Dom.act = true) ∧ (32 ≤ d_13.target) ∧ (s_27.isFenced 9 (32 + (d_13.target - 32)) = false) ∧
    (lGet (s_27.pch (d_13.target - 32)).comp d_13.key ≠ []) ∧ (s_27.ready 5 10 9 3 d_13 = true) ∧ (s_28.domOn Dom.act = true) ∧ (32 ≤ d_14.target) ∧
    (s_28.isFenced 9 (32 + (d_14.target - 32)) = false) ∧ (lGet (s_28.pch (d_14.target - 32)).comp d_14.key ≠ []) ∧ (s_28.ready 5 11 9 3 d_14 = true) ∧
    (s_29.domOn Dom.act = true) ∧ (s_29.isFenced 9 (32 + (d_10.target - 32)) = true) ∧ (s_29.ready 5 7 9 3 d_10 = true) := by
  and_intros <;> decide +kernel

/-- Premises of LightingEvents are met. -/
theorem test_premises_LightingEvents :
    (s_30.domOn Dom.act = true) ∧ (s_30.lst 5 = 2) ∧ (s_30.on (LUX_LCFG_STBEN 5) = true) ∧ (s_30.inp.i2c.head? ≠ some 2) ∧ ((s_30.pch 1).applies = []) ∧
    (s_31.domOn Dom.act = true) ∧ (s_31.lst 5 ≠ 2) ∧ (s_31.on (LUX_LCFG_OLEN 5) = false) ∧
    (((s_31.setFld (LUX_LSTAT_IVAL 5) 0).setFld (LUX_LIMEAS_I 5) 0).luxWith 5 4 = none) ∧ (s_32.domOn Dom.act = true) ∧ (s_32.lst 5 = 2) ∧
    (s_32.on (LUX_LCFG_OLEN 5) = false) ∧ (20480 ≤ (s_32.lx 5).de) ∧
    (((((s_32.setFld (LUX_LSTAT_IVAL 5) 1).setFld (LUX_LIMEAS_I 5) (satTo 262143 (100000 * (s_32.lx 5).de / 2 ^ 18))).setFld (LUX_LVSNK_V 5) (satTo 262143 7000)).senseEvent (luxOut 5)).on (LUX_LCFG_OLEN 5) = false) ∧
    (((((s_32.setFld (LUX_LSTAT_IVAL 5) 1).setFld (LUX_LIMEAS_I 5) (satTo 262143 (100000 * (s_32.lx 5).de / 2 ^ 18))).setFld (LUX_LVSNK_V 5) (satTo 262143 7000)).senseEvent (luxOut 5)).luxWith 5 4 = none) ∧
    (s_33.domOn Dom.act = true) ∧ (s_33.lst 5 = 2) ∧ (4096 ≤ (s_33.lx 5).de) ∧ ((s_33.lx 5).de < 20480) ∧ (false = false) ∧ (outs_2 ≠ []) ∧
    (s_33.on (LUX_LCFG_OLEN 5) = true) ∧
    ((((((s_33.setFld (LUX_LSTAT_IVAL 5) 0).setFld (LUX_LIMEAS_I 5) (satTo 262143 ((s_33.lx 5).amp * (s_33.lx 5).de / 2 ^ 18))).setFld (LUX_LVSNK_V 5) (satTo 262143 7000)).senseEvent (luxOut 5)).each (List.take 64 outs_2) fun (o : Bool) (s : State) => s.luxOnTime 5 o).luxWith 5 4 = none) ∧
    (s_34.domOn Dom.act = true) ∧ (s_34.on (LUX_CCFG_EN 2) = true) ∧ (s_34.cst 2 ≠ 0) ∧
    (((s_34.modCl 2 fun (x : ClLoop) => have __src := x.move; { t0 := __src.t0, t1 := __src.t1, t2 := __src.t2, f0 := __src.f0, f1 := __src.f1, f2 := __src.f2, e0 := __src.e0, e1 := __src.e1, e2 := __src.e2, rampN := __src.rampN, rampLeft := __src.rampLeft, good := __src.good, periods := x.periods + 1, limit := __src.limit, reading := true : ClLoop }).i2cAsk 2).luxWith (24 + 2) 6 = none) ∧
    (s_35.domOn Dom.act = true) ∧ (s_35.on (LUX_CCFG_EN 2) = true) ∧ (s_35.cst 2 ≠ 0) ∧
    (((s_35.modCl 2 fun (x : ClLoop) => have __src := x.move; { t0 := __src.t0, t1 := __src.t1, t2 := __src.t2, f0 := __src.f0, f1 := __src.f1, f2 := __src.f2, e0 := __src.e0, e1 := __src.e1, e2 := __src.e2, rampN := __src.rampN, rampLeft := __src.rampLeft, good := __src.good, periods := x.periods + 1, limit := __src.limit, reading := true : ClLoop }).i2cAsk 2).luxWith (24 + 2) 6 = some d_16) ∧
    ((((s_35.modCl 2 fun (x : ClLoop) => have __src := x.move; { t0 := __src.t0, t1 := __src.t1, t2 := __src.t2, f0 := __src.f0, f1 := __src.f1, f2 := __src.f2, e0 := __src.e0, e1 := __src.e1, e2 := __src.e2, rampN := __src.rampN, rampLeft := __src.rampLeft, good := __src.good, periods := x.periods + 1, limit := __src.limit, reading := true : ClLoop }).i2cAsk 2).cl 2).limit ≠ 0) ∧
    ((((s_35.modCl 2 fun (x : ClLoop) => have __src := x.move; { t0 := __src.t0, t1 := __src.t1, t2 := __src.t2, f0 := __src.f0, f1 := __src.f1, f2 := __src.f2, e0 := __src.e0, e1 := __src.e1, e2 := __src.e2, rampN := __src.rampN, rampLeft := __src.rampLeft, good := __src.good, periods := x.periods + 1, limit := __src.limit, reading := true : ClLoop }).i2cAsk 2).cl 2).limit < (((s_35.modCl 2 fun (x : ClLoop) => have __src := x.move; { t0 := __src.t0, t1 := __src.t1, t2 := __src.t2, f0 := __src.f0, f1 := __src.f1, f2 := __src.f2, e0 := __src.e0, e1 := __src.e1, e2 := __src.e2, rampN := __src.rampN, rampLeft := __src.rampLeft, good := __src.good, periods := x.periods + 1, limit := __src.limit, reading := true : ClLoop }).i2cAsk 2).cl 2).periods) ∧
    (s_36.domOn Dom.act = true) ∧ (s_36.inp.i2c.head? = some 2) ∧ (1 = 1) ∧ ((s_36.cl 2).reading = true) ∧ (s_36.cst 2 ≠ 1) ∧ (s_37.domOn Dom.act = true) ∧
    (s_37.inp.i2c.head? = some 2) ∧ (0 = 0) ∧ ((s_37.cl 2).reading = true) ∧ (s_37.cst 2 = 0) ∧ (s_38.domOn Dom.act = true) ∧ ((s_38.pch 1).cur = some f_1) ∧
    ((s_38.pch 1).sent = false) ∧ (f_1.replies = true) ∧ (s_39.domOn Dom.act = true) ∧ ((s_39.pch 1).cur = some f_2) ∧ ((s_39.pch 1).sent = false) ∧
    (f_2.replies = false) ∧ (f_2.cmd ≠ 4) ∧ (f_2.last = false) ∧ (s_40.domOn Dom.act = true) ∧ ((s_40.pch 1).cur = some f_3) ∧ ((s_40.pch 1).sent = false) ∧
    (f_3.cmd = 4) ∧ (f_3.own = some d_17.key) ∧ (s_41.domOn Dom.act = true) ∧ ((s_41.pch 1).cur = some f_1) ∧ ((s_41.pch 1).sent = true) ∧ (f_1.cmd ≠ 1) ∧
    (pxParse frame_2 = none) ∧ (frame_2.headD 0 ≠ 165) ∧ (pxParse frame_3 = none) ∧ (frame_3.headD 0 = 165) ∧ (s_42.domOn Dom.act = true) ∧
    ((s_42.pch 1).cur = some f_1) ∧ ((s_42.pch 1).sent = true) ∧ (f_1.cmd = 5) ∧ (f_1.own = some lrd.key) ∧ (pxParse frame_4 = some w_2) ∧ (w_2.1 = 13) ∧
    (w_2.2.1 = (s_42.pch 1).seq) ∧ (w_2.2.2.1 = f_1.addr) ∧ (w_2.2.2.2 ≠ []) ∧ ((s_42.pxDone 1).descKey lrd.key = some lrd) ∧
    ((s_42.pxDone 1).rangeOff (BitVec.toNat lrd.w2) lrd.pxWords = false) ∧ (s_44.domOn Dom.act = true) ∧ ((s_44.pch 1).cur = some f_4) ∧
    ((s_44.pch 1).sent = true) ∧ (f_4.cmd = 6) ∧ (f_4.own = none) ∧ (pxParse frame_6 = some w_4) ∧ (w_4.1 = 14) ∧ (w_4.2.1 = (s_44.pch 1).seq) ∧
    (w_4.2.2.1 = f_4.addr) ∧ (w_4.2.2.2 ≠ []) ∧ (s_45.domOn Dom.act = true) ∧ ((s_45.pch 1).cur = some f_5) ∧ ((s_45.pch 1).sent = true) ∧ (f_5.cmd = 1) ∧
    (pxParse frame_7 = some w_5) ∧ (w_5.1 = 9) ∧ (w_5.2.2.2 ≠ []) ∧ (f_5.own = none) ∧ (s_46.domOn Dom.act = true) ∧ ((s_46.pch 1).cur = some f_6) ∧
    ((s_46.pch 1).sent = true) ∧ (f_6.cmd = 1) ∧ (f_6.own = some lrd.key) ∧
    ((((((s_46.setFld (LUX_PSTAT_N 1) (BitVec.toNat (w_5.2.2.2.getD 0 0))).modPch 1 fun (x : PxCh) => { seq := x.seq, base := 1, queue := x.queue, cur := x.cur, sent := x.sent, retried := x.retried, scan := x.scan, scanning := x.scanning, scanBad := x.scanBad, due := x.due, applies := x.applies, comp := x.comp, again := x.again, line := x.line, released := x.released : PxCh }).setFld (LUX_PSTAT_BRK 1) 0).pEvt 1 4).pxDone 1).descKey lrd.key = some lrd) ∧
    (BitVec.toNat (w_5.2.2.2.getD 0 0) = (((((s_46.setFld (LUX_PSTAT_N 1) (BitVec.toNat (w_5.2.2.2.getD 0 0))).modPch 1 fun (x : PxCh) => { seq := x.seq, base := 1, queue := x.queue, cur := x.cur, sent := x.sent, retried := x.retried, scan := x.scan, scanning := x.scanning, scanBad := x.scanBad, due := x.due, applies := x.applies, comp := x.comp, again := x.again, line := x.line, released := x.released : PxCh }).setFld (LUX_PSTAT_BRK 1) 0).pEvt 1 4).pxDone 1).fld (LUX_PCFG_NCFG 1)) ∧
    (((s_46.pxDone 1).raise LUX_FLAG_PXERR).descKey lrd.key = some lrd) ∧ (s_47.domOn Dom.act = true) ∧ (s_47.on (LUX_PCFG_EN 1) = true) ∧
    (s_47.on (LUX_PCFG_SCAN 1) = true) ∧ ((s_47.pch 1).base ≠ 0) ∧ ((s_47.pch 1).scanning = false) ∧ (s_48.domOn Dom.act = true) ∧
    (s_48.descAt 9 3 DPhase.timed = some d_18) ∧ (d_18.eng = 5) ∧ (32 ≤ d_18.target) ∧ (d_18.opcode ∈ [7, 8]) ∧ (s_48.isFenced 9 d_18.target = false) ∧
    (((s_48.pch (d_18.target - 32)).queue.any fun (f : PxFrame) => decide (f.own = some d_18.key)) = false) ∧ ((s_48.pch (d_18.target - 32)).cur = none) ∧
    (s_49.domOn Dom.act = true) ∧ ((s_49.pch 1).applies = [d_17.key]) ∧
    ((s_49.modPch 1 fun (x : PxCh) => { seq := x.seq, base := x.base, queue := x.queue, cur := x.cur, sent := x.sent, retried := x.retried, scan := x.scan, scanning := x.scanning, scanBad := x.scanBad, due := x.due, comp := x.comp, again := x.again, line := x.line, released := x.released : PxCh }).descKey d_17.key = some d_17) := by
  and_intros <;> decide +kernel

end Wit.Lux

namespace Wit.Net
def nd (op tgt w2 w3 : Nat) : Desc := { wdesc 7 op tgt with w2 := toWord w2, w3 := toWord w3 }
def ns (op tgt w2 w3 : Nat) (l : List (FRef × Nat)) : State := (wst l).withD [nd op tgt w2 w3]
def bf : BusFrame := { fmt := 0, ident := 5, data := [1, 2] }
def ne (l : List (FRef × Nat)) (c : Nat) (x : NetCh) (ds : List Desc) : State := ((wst l).withD ds).setNch c x
def nrun (op tgt : Nat) : Desc := { nd op tgt 0o100000 40 with phase := .running }
def s_1 : State := ns 1 2 0o100000 0 [(NET_CTC_FENCED 2, 1)]
def d_1 : Desc := nd 1 2 0o100000 0
def lec_1 : BitVec 3 := 0
def x_1 : CanTx := { f := bf }
def y_1 : Stored := ⟨0, bf, 0⟩
def z_1 : Nat × Nat := (0, 0)
def l_1 : List CanTx := []
def p_1 : List Stored := []
def b_1 : List Byte := []
def s_2 : State := ns 1 2 0o100000 0 [(NET_CTC_STATE 2, 3)]
def s_3 : State := ns 1 2 0o100000 0 [(NET_CTC_STATE 2, 0)]
def s_4 : State := (ns 1 2 0o100000 0 [(NET_CTC_STATE 2, 0)]).setNch 2 {tx := List.replicate 16 {f := bf}}
def s_5 : State := (ns 1 2 0o100000 0 [(NET_CTC_STATE 2, 0)]).setBankSt 0 1
def z_2 : Nat × Nat := (stBankOffline, 0)
def s_6 : State := ns 2 0 0o100000 40 []
def d_2 : Desc := nd 2 0 0o100000 40
def s_7 : State := (ns 3 9 0o100000 0 [(NET_LSTAT_STATE 1, 0)]).withMem [(0o100000, 0o600001)]
def d_3 : Desc := nd 3 9 0o100000 0
def s_8 : State := ns 4 9 0 0 [(NET_LSTAT_STATE 1, 0)]
def d_4 : Desc := nd 4 9 0 0
def s_9 : State := ns 4 9 0 0 [(NET_LSTAT_STATE 1, 3)]
def s_10 : State := ne [(NET_CCFG_EN 2, 1), (NET_HCFG_MEDIUM, 1), (NET_CTC_STATE 2, 0), (NET_CSTAT_CSTATE 2, 0), (NET_CCFG_RTX 2, 0)] 2 {tx := [{f := bf, own := some 1}]} [nrun 1 2]
def d_5 : Desc := nrun 1 2
def x_2 : CanTx := {f := bf, own := some 1}
def lec_2 : BitVec 3 := 3
def s_11 : State := wst []
def d_6 : Desc := { wdesc 15 63 999 with ring := 63, slot := 1023 }
def s_12 : State := wst [(NET_CCFG_EN 2, 1), (NET_HCFG_MEDIUM, 1), (NET_CTC_STATE 2, 0), (NET_CSTAT_CSTATE 2, 0)]
def s_13 : State := wst [(NET_LCFG_EN 1, 1), (NET_LSTAT_STATE 1, 0), (NET_LCFG_ROLE 1, 0)]
def e_1 : BitVec 3 := 2
def s_14 : State := ne [(NET_LCFG_EN 1, 1), (NET_LSTAT_STATE 1, 0), (NET_LCFG_ROLE 1, 0)] 9 {tx := [{f := bf, own := some 1}]} [nrun 1 9]
def d_7 : Desc := nrun 1 9
def s_15 : State := { ((wst []).withD [{ nd 2 0 0o100000 40 with ring := 42 }]).modNet (fun n => { n with rx := [(2, [⟨1, bf, 8⟩])] }) with flt := {} }
def d_8 : Desc := { nd 2 0 0o100000 40 with ring := 42 }
def y_2 : Stored := ⟨1, bf, 8⟩
def s_16 : State := { ((wst []).withD [{ nd 2 0 0o100000 8 with ring := 42 }]).modNet (fun n => { n with rx := [(2, [⟨1, bf, 8⟩])] }) with flt := {} }
def d_9 : Desc := { nd 2 0 0o100000 8 with ring := 42 }
def s_17 : State := wst [(NET_CSTAT_CSTATE 2, 2), (NET_CCFG_ABOR 2, 1)]
def s_18 : State := ne [] 9 {tx := [{f := bf, own := some 1}]} [nrun 3 9]
def d_10 : Desc := nrun 3 9
def s_19 : State := ne [] 9 {} [nrun 4 9]
def d_11 : Desc := nrun 4 9
def s_20 : State := (wst []).modZsw (fun z => { z with p9in := [[1,2,3]] })
def b_2 : List Byte := [1,2,3]
def s_21 : State := ne [] 3 { guard := some 2 } []
def s_22 : State := let t := wst []; { t with pw := { t.pw with mode := .bedded }, net := { t.net with can0 := true } }
def s_23 : State := let t := wst [(NET_WKSTAT_DEAF 0, 1)]; { t with pw := { t.pw with mode := .bedded }, net := { t.net with can0 := true } }
def s_24 : State := wst [(NET_CTC_WKEN 2, 1), (NET_CTC_STATE 2, 3), (NET_LCFG_WKEN 1, 1), (NET_LSTAT_STATE 1, 3)]
def s_25 : State := wst [(NET_CTC_WKEN 2, 0), (NET_WKSTAT_WOPEN 3, 1), (NET_WKCFG_FWTH 3, 0)]
def s_26 : State := wst [(NET_CTC_WKEN 2, 0), (NET_WKSTAT_WOPEN 3, 1), (NET_WKCFG_FWTH 3, 1)]
def s_27 : State := wst [(NET_CTC_WKEN 2, 1), (NET_CTC_STATE 2, 3), (NET_CTC_SWEN 2, 1), (NET_SWFEC_FEC 2, 31)]
def f_1 : BusFrame := {bf with b15 := true}
def s_28 : State := wst [(NET_CTC_WKEN 2, 1), (NET_CTC_STATE 2, 3), (NET_CTC_SWEN 2, 1), (NET_SWFEC_FEC 2, 3)]
def f_2 : BusFrame := {bf with b15 := false}
def s_29 : State := wst [(NET_WKSTAT_DEAF 3, 1), (NET_WKCFG_DEAFT 3, 1), (PCR_RTCL_SEC, 700)]
def s_30 : State := wst [(NET_WKSTAT_DEAF 3, 1), (NET_WKCFG_DEAFT 3, 0), (PCR_RTCL_SEC, 700)]
def hh (l : List (FRef × Nat)) (h : Herd) : State := { wst ([(NET_HCFG_ID, 2)] ++ l) with herd := h }
def s_31 : State := hh [(NET_HSTAT_STATE, 2)] {inbox := [[0x11, 3, 4, 6, 9, 0, 0, 0]]}
def m_1 : List Byte := [0x11, 3, 4, 6, 9, 0, 0, 0]
def l_2 : List (List Byte) := []
def x_3 : HRing := ⟨false, 0, 0, false⟩
def s_32 : State := hh [(NET_HSTAT_STATE, 3)] {inbox := [[0x11, 3, 4, 7, 9, 0, 0, 0]]}
def m_2 : List Byte := [0x11, 3, 4, 7, 9, 0, 0, 0]
def s_33 : State := hh [(NET_HSTAT_STATE, 3)] {inbox := [[0x11, 3, 4, 6, 9, 0, 0, 0]]}
def s_34 : State := hh [] {edge := some true}
def s_35 : State := hh [] {edge := some false}
def s_36 : State := hh [(NET_HSTAT_STATE, 2)] {edge := some false, held := some ⟨true, 1, 7, false⟩}
def x_4 : HRing := ⟨true, 1, 7, false⟩
def s_37 : State := hh [(NET_HSTAT_STATE, 2)] {inbox := [[0x11, 3, 2, 6, 9, 0, 0, 0]]}
def m_3 : List Byte := [0x11, 3, 2, 6, 9, 0, 0, 0]
def s_38 : State := hh [(NET_HSTAT_STATE, 2)] {inbox := [[0x12, 3, 2, 6, 9, 0, 0, 0]]}
def m_4 : List Byte := [0x12, 3, 2, 6, 9, 0, 0, 0]
def s_39 : State := hh [(NET_HSTAT_STATE, 2)] {inbox := [[0x13, 3, 2, 6, 9, 0, 0, 0]]}
def m_5 : List Byte := [0x13, 3, 2, 6, 9, 0, 0, 0]
def s_40 : State := hh [(NET_HSTAT_STATE, 2)] {inbox := [[0x14, 3, 4, 6, 9, 0, 0, 0]]}
def m_6 : List Byte := [0x14, 3, 4, 6, 9, 0, 0, 0]
def s_41 : State := hh [(NET_HSTAT_STATE, 2)] {inbox := [[0x11, 2, 2, 6, 9, 0, 0, 0]]}
def m_7 : List Byte := [0x11, 2, 2, 6, 9, 0, 0, 0]
def s_42 : State := hh [(NET_HSTAT_STATE, 2), (NET_HMAP0_MAP, 6)] {held := some ⟨true, 1, 7, false⟩}
def s_43 : State := hh [(NET_HSTAT_STATE, 2), (NET_HMAP0_MAP, 12)] {held := some ⟨false, 1, 7, false⟩}
def x_5 : HRing := ⟨false, 1, 7, false⟩
def s_44 : State := hh [(NET_HSTAT_STATE, 2), (NET_HMAP0_MAP, 12)] {held := some ⟨true, 0, 7, false⟩}
def x_6 : HRing := ⟨true, 0, 7, false⟩
def s_45 : State := hh [(NET_HSTAT_STATE, 2), (NET_HMAP0_MAP, 12)] {held := some ⟨true, 1, 7, false⟩}
def s_46 : State := hh [(NET_HSTAT_STATE, 1), (NET_HMAP0_MAP, 6)] {}
def s_47 : State := hh [(NET_HSTAT_STATE, 1), (NET_HMAP0_MAP, 12)] {}
def s_48 : State := hh [(NET_HSTAT_STATE, 3), (NET_HCFG_AUTO, 0)] {}
def s_49 : State := hh [(NET_HSTAT_STATE, 3), (NET_HCFG_AUTO, 1), (NET_HSLP_MASK, 15)] {}


/-- Premises of BusFrames are met. -/
theorem test_premises_BusFrames :
    (s_1.domOn Dom.net = true) ∧ (s_1.waits 7 1 9 3 d_1 = true) ∧ (d_1.target < 12) ∧ (s_1.chFenced d_1.target = true) ∧ (s_1.canLive 0 = false) ∧
    (lGet s_1.net.rx 0 = []) ∧ (s_1.zsw.p9in = []) ∧ (s_2.domOn Dom.net = true) ∧ (s_2.waits 7 1 9 3 d_1 = true) ∧ (s_2.chFenced d_1.target = false) ∧
    (s_2.tcvr d_1.target ≠ 0) ∧ (s_3.domOn Dom.net = true) ∧ (s_3.waits 7 1 9 3 d_1 = true) ∧ (s_3.chFenced d_1.target = false) ∧ (s_3.tcvr d_1.target = 0) ∧
    ((s_3.nch d_1.target).guard = none) ∧ (s_3.txRoom d_1.target = true) ∧ (s_3.txBufJudge d_1 = none) ∧ (s_4.domOn Dom.net = true) ∧
    (s_4.waits 7 1 9 3 d_1 = true) ∧ (s_4.chFenced d_1.target = false) ∧ (s_4.tcvr d_1.target = 0) ∧ ((s_4.nch d_1.target).guard = none) ∧
    (s_4.txRoom d_1.target = false) ∧ (s_5.domOn Dom.net = true) ∧ (s_5.waits 7 1 9 3 d_1 = true) ∧ (s_5.chFenced d_1.target = false) ∧
    (s_5.tcvr d_1.target = 0) ∧ ((s_5.nch d_1.target).guard = none) ∧ (s_5.txRoom d_1.target = true) ∧ (s_5.txBufJudge d_1 = some z_2) ∧
    (s_6.domOn Dom.net = true) ∧ (s_6.waits 7 2 9 3 d_2 = true) ∧ (s_7.domOn Dom.net = true) ∧ (s_7.waits 7 3 9 3 d_3 = true) ∧
    (s_7.chFenced d_3.target = false) ∧ (s_7.tcvr d_3.target = 0) ∧ ((s_7.nch d_3.target).guard = none) ∧ (s_7.txRoom d_3.target = true) ∧
    (s_7.txBufJudge d_3 = none) ∧ (s_8.domOn Dom.net = true) ∧ (s_8.waits 7 4 9 3 d_4 = true) ∧ (s_8.chFenced d_4.target = false) ∧ (s_8.tcvr d_4.target = 0) ∧
    (s_9.domOn Dom.net = true) ∧ (s_9.waits 7 4 9 3 d_4 = true) ∧ (s_9.chFenced d_4.target = false) ∧ (s_9.tcvr d_4.target ≠ 0) ∧ (s_10.domOn Dom.net = true) ∧
    (s_10.canLive 2 = true) ∧ (s_10.tcvr 2 = 0) ∧ (s_10.on (NET_CTC_TXDTO 2) = false) ∧ (s_10.herdSlot 2 = none) ∧ (nextTx (s_10.nch 2).tx = some x_2) ∧
    (lec_1 = 0) ∧ (x_2.own = some d_5.id) ∧
    ((((s_10.modNch 2 fun (y : NetCh) => { tx := y.tx.erase x_2, armed := y.armed, guard := y.guard, wake := y.wake, dom := y.dom, short := y.short, recov := y.recov : NetCh }).canState 2 (s_10.fld (NET_CSTAT_TEC 2) - 1) (s_10.fld (NET_CSTAT_REC 2))).cEvent 2 2).descId d_5.id = some d_5) ∧
    (s_10.fld (NET_CSTAT_REC 2) ≤ 127) ∧ (s_10.on NET_HCFG_MEDIUM = true) ∧ (s_10.chEn 2 = true) ∧ (s_10.fld (NET_CSTAT_CSTATE 2) ≠ 2) ∧ (lec_2 ≠ 0) ∧
    (s_10.fld (NET_CSTAT_TEC 2) + 8 ≤ 255) ∧
    (((s_10.canErr 2 lec_2.toNat).canState 2 (s_10.fld (NET_CSTAT_TEC 2) + 8) (s_10.fld (NET_CSTAT_REC 2))).fld (NET_CCFG_RTX 2) = 0) ∧
    (s_13.domOn Dom.net = true) ∧ (s_13.chEn (8 + 1) = true) ∧ (s_13.tcvr (8 + 1) ≤ 1) ∧ (s_13.on (NET_LCFG_ROLE 1) = false) ∧ ((s_13.nch (8 + 1)).tx = []) ∧
    (e_1 ≠ 0) ∧ (s_14.domOn Dom.net = true) ∧ (s_14.chEn (8 + 1) = true) ∧ (s_14.tcvr (8 + 1) ≤ 1) ∧ (s_14.on (NET_LCFG_ROLE 1) = false) ∧
    ((s_14.nch (8 + 1)).tx = x_2 :: l_1) ∧ ((s_14.nch (8 + 1)).short = false) ∧
    ((s_14.modNch (8 + 1) fun (y : NetCh) => { tx := l_1, armed := y.armed, guard := y.guard, wake := y.wake, dom := y.dom, short := y.short, recov := y.recov : NetCh }).ownDesc x_2 = some d_7) ∧
    (d_7.opcode = 1) ∧ (s_15.domOn Dom.net = true) ∧ (lGet s_15.net.rx 2 = y_2 :: p_1) ∧ (s_15.waitingRx (40 + 2) = some d_8) ∧
    (s_15.rangeOff (BitVec.toNat d_8.w2) (bitsOf (BitVec.toNat d_8.w3) 10 0) = false) ∧ (y_2.f.data.length ≤ (bitsOf (BitVec.toNat d_8.w3) 10 0 - 8) * 2) ∧
    (s_16.domOn Dom.net = true) ∧ (lGet s_16.net.rx 2 = y_2 :: p_1) ∧ (s_16.waitingRx (40 + 2) = some d_9) ∧
    (s_16.rangeOff (BitVec.toNat d_9.w2) (bitsOf (BitVec.toNat d_9.w3) 10 0) = false) ∧ ((bitsOf (BitVec.toNat d_9.w3) 10 0 - 8) * 2 < y_2.f.data.length) ∧
    (s_17.domOn Dom.net = true) ∧ (s_17.fld (NET_CSTAT_CSTATE 2) = 2) ∧ (s_17.on (NET_CCFG_ABOR 2) = true ∨ (s_17.nch 2).recov = true) ∧
    (s_18.domOn Dom.net = true) ∧ ((s_18.nch (8 + 1)).tx = x_2 :: l_1) ∧ (x_2.own = some d_10.id) ∧ (s_18.descId d_10.id = some d_10) ∧ (d_10.opcode = 3) ∧
    (s_19.domOn Dom.net = true) ∧
    (List.find? (fun (d : Desc) => decide (d.eng = 7 ∧ d.opcode = 4 ∧ d.target = 8 + 1 ∧ d.phase = DPhase.running)) s_19.descs = some d_11) ∧
    (s_20.domOn Dom.net = true) ∧ (s_20.zsw.p9in = [b_2]) ∧
    (∀ j < 8, (s_20.modZsw fun (z : Zsw) => { out := z.out, retired := z.retired, badRows := z.badRows, frames := z.frames, nextId := z.nextId, queues := z.queues, sending := z.sending, line := z.line, lineBad := z.lineBad, avg := z.avg, macs := z.macs, lfsr := z.lfsr, holdAt := z.holdAt, fromHold := z.fromHold, binds := z.binds, census := z.census, moveDue := z.moveDue, agentIn := z.agentIn, appFrame := z.appFrame : Zsw }).on (NET_LSCFG_EN j) = false) := by
  and_intros <;> decide +kernel

/-- Premises of BusWakes are met. -/
theorem test_premises_BusWakes :
    (s_21.domOn Dom.net = true) ∧ ((s_21.nch (chOf 3)).guard = some 2) ∧ (3 < 6) ∧ (s_21.pw.mode ≠ PMode.bedded) ∧ (s_21.domSt Dom.net ≠ DomSt.off) ∧
    (s_21.wakeArmed 2 = false) ∧ (s_21.wakeArmed (8 + 1) = false) ∧ (s_21.on (NET_WKSTAT_WOPEN 3) = false) ∧ (s_21.fld (NET_WKCFG_DEAFT 3) = 0) ∧
    ((s_21.nch (chOf 7)).guard = none) ∧ (6 ≤ 7) ∧ (s_22.pw.mode = PMode.bedded) ∧ (s_22.net.can0 = true) ∧ (s_22.on (NET_WKSTAT_DEAF 0) = false) ∧
    (s_23.pw.mode = PMode.bedded) ∧ (s_23.on (NET_WKSTAT_DEAF 0) = true) ∧ (s_24.pw.mode ≠ PMode.bedded) ∧ (s_24.domSt Dom.net ≠ DomSt.off) ∧
    (s_24.wakeArmed 2 = true) ∧ (s_24.on (NET_CTC_SWEN 2) = false) ∧ (s_24.wakeArmed (8 + 1) = true) ∧ (s_25.on (NET_WKSTAT_WOPEN 3) = true) ∧
    (s_25.fld (NET_WKCFG_FWTH 3) = 0 ∨ satTo 15 (s_25.fld (NET_WKSTAT_FWCNT 3) + 1) < s_25.fld (NET_WKCFG_FWTH 3)) ∧ (s_26.on (NET_WKSTAT_WOPEN 3) = true) ∧
    (s_26.fld (NET_WKCFG_FWTH 3) ≠ 0) ∧ (s_26.fld (NET_WKCFG_FWTH 3) ≤ satTo 15 (s_26.fld (NET_WKSTAT_FWCNT 3) + 1)) ∧ (s_27.pw.mode ≠ PMode.bedded) ∧
    (s_27.domSt Dom.net ≠ DomSt.off) ∧ (s_27.wakeArmed 2 = true) ∧ (s_27.on (NET_CTC_SWEN 2) = true) ∧
    ((s_27.setFld (NET_SWFEC_FEC 2) (s_27.fld (NET_SWFEC_FEC 2) - 1)).isWuf 2 f_1 = false) ∧ (31 < satTo 63 (s_27.fld (NET_SWFEC_FEC 2) + 1)) ∧
    (s_28.pw.mode ≠ PMode.bedded) ∧ (s_28.domSt Dom.net ≠ DomSt.off) ∧ (s_28.wakeArmed 2 = true) ∧ (s_28.on (NET_CTC_SWEN 2) = true) ∧
    ((s_28.setFld (NET_SWFEC_FEC 2) (s_28.fld (NET_SWFEC_FEC 2) - 1)).isWuf 2 f_2 = true) ∧ (satTo 63 (s_28.fld (NET_SWFEC_FEC 2) + 1) ≤ 31) ∧
    (s_29.on (NET_WKSTAT_DEAF 3) = true) ∧ (s_29.fld (NET_WKCFG_DEAFT 3) = 1) ∧ (nGet s_29.net.deafAt 3 + 600 ≤ s_29.rtcSec) := by
  and_intros <;> decide +kernel

/-- Premises of HerdRing are met. -/
theorem test_premises_HerdRing :
    (s_31.domOn Dom.net = true) ∧ (s_31.herd.edge ≠ some true) ∧ (s_31.herd.inbox = m_1 :: l_2) ∧ (s_31.hSt = 2) ∧
    ((fun (i : Nat) => BitVec.toNat (m_1.getD i 0)) 1 ≠ s_31.hId) ∧ ((fun (i : Nat) => BitVec.toNat (m_1.getD i 0)) 0 % 16 = 1) ∧
    ((fun (i : Nat) => BitVec.toNat (m_1.getD i 0)) 2 ≠ s_31.hId) ∧ (s_31.hSt ≠ 3) ∧ (s_32.domOn Dom.net = true) ∧ (s_32.herd.inbox = m_2 :: l_2) ∧
    (s_32.hSt = 3) ∧ ((fun (i : Nat) => BitVec.toNat (m_2.getD i 0)) 1 ≠ s_32.hId) ∧ ((fun (i : Nat) => BitVec.toNat (m_2.getD i 0)) 0 % 16 = 1) ∧
    (bitAt ((fun (i : Nat) => BitVec.toNat (m_2.getD i 0)) 3) 0 = true) ∧ (s_32.hSt ≠ 2) ∧ (((s_32.setHSt 4).hEvt 1).on NET_HCFG_AUTO = false) ∧
    (s_33.domOn Dom.net = true) ∧ (s_33.herd.inbox = m_1 :: l_2) ∧ (s_33.hSt = 3) ∧ ((fun (i : Nat) => BitVec.toNat (m_1.getD i 0)) 1 ≠ s_33.hId) ∧
    (bitAt ((fun (i : Nat) => BitVec.toNat (m_1.getD i 0)) 3) 0 = false) ∧ (s_34.domOn Dom.net = true) ∧ (s_34.herd.edge = some true) ∧ (s_34.herd.inbox = []) ∧
    (s_35.domOn Dom.net = true) ∧ (s_35.herd.edge = some false) ∧ (s_35.hSt = 0 ∨ s_35.hSt = 4) ∧ (s_36.domOn Dom.net = true) ∧ (s_36.herd.edge = some false) ∧
    (1 ≤ s_36.hSt ∧ s_36.hSt ≤ 3) ∧ (s_36.hSt = 2) ∧ (s_36.hMap ≠ 2 ^ s_36.hId) ∧ (s_36.herd.held = some x_4) ∧ (s_36.hIsLead = false) ∧
    (s_37.domOn Dom.net = true) ∧ (s_37.herd.inbox = m_3 :: l_2) ∧ (s_37.hSt = 2) ∧ ((fun (i : Nat) => BitVec.toNat (m_3.getD i 0)) 1 ≠ s_37.hId) ∧
    ((fun (i : Nat) => BitVec.toNat (m_3.getD i 0)) 0 % 16 = 1) ∧ ((fun (i : Nat) => BitVec.toNat (m_3.getD i 0)) 2 = s_37.hId) ∧ (s_38.domOn Dom.net = true) ∧
    (s_38.herd.inbox = m_4 :: l_2) ∧ (s_38.hSt = 2) ∧ ((fun (i : Nat) => BitVec.toNat (m_4.getD i 0)) 1 ≠ s_38.hId) ∧
    ((fun (i : Nat) => BitVec.toNat (m_4.getD i 0)) 0 % 16 = 2) ∧ (s_39.domOn Dom.net = true) ∧ (s_39.herd.inbox = m_5 :: l_2) ∧ (s_39.hSt = 2) ∧
    ((fun (i : Nat) => BitVec.toNat (m_5.getD i 0)) 1 ≠ s_39.hId) ∧ ((fun (i : Nat) => BitVec.toNat (m_5.getD i 0)) 0 % 16 = 3) ∧ (s_40.domOn Dom.net = true) ∧
    (s_40.herd.inbox = m_6 :: l_2) ∧ (s_40.hSt = 2) ∧ ((fun (i : Nat) => BitVec.toNat (m_6.getD i 0)) 1 ≠ s_40.hId) ∧
    ((fun (i : Nat) => BitVec.toNat (m_6.getD i 0)) 0 % 16 = 4) ∧ ((fun (i : Nat) => BitVec.toNat (m_6.getD i 0)) 2 ≠ s_40.hId) ∧ (s_41.domOn Dom.net = true) ∧
    (s_41.herd.inbox = m_7 :: l_2) ∧ (1 ≤ s_41.hSt) ∧ ((fun (i : Nat) => BitVec.toNat (m_7.getD i 0)) 1 = s_41.hId) ∧
    ((fun (i : Nat) => BitVec.toNat (m_7.getD i 0)) 0 % 16 = 1) ∧ (s_43.domOn Dom.net = true) ∧ (s_43.hSt = 2) ∧ (s_43.hMap ≠ 2 ^ s_43.hId) ∧
    (s_43.herd.held = some x_5) ∧ (s_43.hIsLead = true) ∧ (x_5.fromLead = false) ∧ (x_5.allc = false) ∧ (s_44.domOn Dom.net = true) ∧ (s_44.hSt = 2) ∧
    (s_44.hMap ≠ 2 ^ s_44.hId) ∧ (s_44.herd.held = some x_6) ∧ (s_44.hIsLead = true) ∧ (x_6.fromLead = false) ∧ (x_6.allc = true) ∧
    (s_44.herd.changed = false) ∧ (x_6.run = 0) ∧ (s_45.domOn Dom.net = true) ∧ (s_45.hSt = 2) ∧ (s_45.hMap ≠ 2 ^ s_45.hId) ∧ (s_45.herd.held = some x_4) ∧
    (s_45.hIsLead = true) ∧ (x_4.fromLead = false) ∧ (x_4.allc = true) ∧ (s_45.herd.changed = false) ∧ (x_4.run = 1) ∧ (s_46.domOn Dom.net = true) ∧
    (s_46.hSt = 1) ∧
    ((((s_46.setHSt 2).setFld NET_HSTAT_RUN 0).modHerd fun (h : Herd) => { held := h.held, last := h.last, edge := h.edge, inbox := h.inbox, out := h.out, sent := h.sent : Herd }).hIsLead = false) ∧
    (s_47.domOn Dom.net = true) ∧ (s_47.hSt = 1) ∧
    ((((s_47.setHSt 2).setFld NET_HSTAT_RUN 0).modHerd fun (h : Herd) => { held := h.held, last := h.last, edge := h.edge, inbox := h.inbox, out := h.out, sent := h.sent : Herd }).hIsLead = true) ∧
    ((((s_47.setHSt 2).setFld NET_HSTAT_RUN 0).modHerd fun (h : Herd) => { held := h.held, last := h.last, edge := h.edge, inbox := h.inbox, out := h.out, sent := h.sent : Herd }).hMap ≠ 2 ^ (((s_47.setHSt 2).setFld NET_HSTAT_RUN 0).modHerd fun (h : Herd) => { held := h.held, last := h.last, edge := h.edge, inbox := h.inbox, out := h.out, sent := h.sent : Herd }).hId) ∧
    (s_49.domOn Dom.net = true) ∧ (s_49.hSt = 3) ∧ (((s_49.setHSt 4).hEvt 1).on NET_HCFG_AUTO = true) := by
  and_intros <;> decide +kernel

end Wit.Net

namespace Wit.Inp
def ie (l : List (FRef × Nat)) (x : Inp) : State := { wst l with inp := x }
def nb (v : Nat) : BitVec 32 := BitVec.ofNat 32 ((12 + v) * 3000)
def okn : List (BitVec 32) := [0, 1, 2, 3, 4, 5, 6, sentCrc false [1,2,3,4,5,6]].map nb
def s_1 : State := ie [(INP_SWCFG_MODE 5, 1), (INP_SWCFG_DEB 5, 3)] {}
def lv_1 : LandVolts := ⟨1000, 12000⟩
def conv_1 : List (BitVec 16) := []
def v_1 : Word := 0
def cal_1 : BitVec 32 := 0
def nibs_1 : List (BitVec 32) := []
def data_1 : BitVec 28 := 0
def l_1 : List Nat := []
def m_1 : SMsg := ⟨0, 0, 0, 0, 0, 0⟩
def w_1 : List SMsg := []
def d_1 : Desc := { wdesc 15 63 999 with ring := 63, slot := 1023 }
def s_2 : State := ie [(INP_SWCFG_MODE 5, 1), (INP_SWCFG_DEB 5, 3)] {deb := [(5, 2)]}
def lv_2 : LandVolts := ⟨9000, 12000⟩
def s_3 : State := ie [(INP_SWCFG_MODE 5, 2), (INP_SWCFG_DEB 5, 3)] {deb := [(5, 2)]}
def s_4 : State := ie [(INP_ANHI_HI 13, 200)] {scan := [(1, [13, 14])]}
def lv_3 : LandVolts := ⟨0, 12000⟩
def conv_2 : List (BitVec 16) := [100, 300]
def l_2 : List Nat := [14]
def s_5 : State := ie [(INP_ANHI_HI 13, 20)] {scan := [(1, [13, 14])]}
def s_6 : State := ie [] {}
def v_2 : Word := 70
def s_7 : State := ie [(INP_SS_STATE 1, 1)] {}
def s_8 : State := ie [(INP_SNCFG_EN 3, 1), (INP_SNCFG_TICK 3, 6), (INP_SNCFG_NIB 3, 6)] {}
def cal_2 : BitVec 32 := 168000
def s_9 : State := ie [(INP_SNCFG_EN 3, 1), (INP_SNCFG_TICK 3, 6), (INP_SNCFG_NIB 3, 6), (INP_SNTO_TOUT 3, 9)] {}
def cal_3 : BitVec 32 := 100000
def s_10 : State := ie [(INP_PSCFG_EN 2, 1), (INP_PSCFG_MODE 2, 1), (INP_PSCFG_DBITS 2, 10)] {slots := [(9, true)]}
def data_2 : BitVec 28 := 1000
def s_11 : State := ie [(INP_BRG_DEST 3, 0)] {made := [⟨3, 0, 1, 0, 7, 0⟩]}
def m_2 : SMsg := ⟨3, 0, 1, 0, 7, 0⟩
def s_12 : State := ie [(INP_BRG_DEST 3, 1)] {made := [⟨3, 0, 1, 0, 7, 0⟩]}
def s_13 : State := (ie [] {}).withD [{ wdesc 7 0o40 0 with ring := 41 }]
def d_2 : Desc := { wdesc 7 0o40 0 with ring := 41 }
def s_14 : State := ie [(INP_FTCFG_MODE 2, 1)] {live := true, trig := [(2, true)]}
def s_15 : State := ie [(INP_FTCFG_MODE 2, 2)] {live := true, trig := [(2, true)]}


/-- Premises of InputsAndFabric are met. -/
theorem test_premises_InputsAndFabric :
    (s_1.domOn Dom.act = true) ∧ (s_1.swMode 5 = 1) ∧
    ((s_1.setFld (INP_SWRAW_RAW 5) (b2n (s_1.swReads 5 (BitVec.toInt lv_1.land) (BitVec.toNat lv_1.kl30)))).sw 5 ≠ s_1.swReads 5 (BitVec.toInt lv_1.land) (BitVec.toNat lv_1.kl30)) ∧
    (nGet (s_1.setFld (INP_SWRAW_RAW 5) (b2n (s_1.swReads 5 (BitVec.toInt lv_1.land) (BitVec.toNat lv_1.kl30)))).inp.deb 5 + 1 < (s_1.setFld (INP_SWRAW_RAW 5) (b2n (s_1.swReads 5 (BitVec.toInt lv_1.land) (BitVec.toNat lv_1.kl30)))).fld (INP_SWCFG_DEB 5)) ∧
    (s_1.bit INP_ADCST_FAIL (8 + 0) = false) ∧ (lGet s_1.inp.scan 0 = []) ∧ (0 < 64 ∨ 100 ≤ 0 ∧ 0 < 124) ∧ (s_1.bit INP_ADCST_FAIL 0 = false) ∧
    (s_1.psLive 0 = false) ∧ (s_1.inp.made = []) ∧ (s_1.inp.live = false) ∧ (s_2.domOn Dom.act = true) ∧ (s_2.swMode 5 = 1) ∧
    ((s_2.setFld (INP_SWRAW_RAW 5) (b2n (s_2.swReads 5 (BitVec.toInt lv_1.land) (BitVec.toNat lv_1.kl30)))).sw 5 ≠ s_2.swReads 5 (BitVec.toInt lv_1.land) (BitVec.toNat lv_1.kl30)) ∧
    ((s_2.setFld (INP_SWRAW_RAW 5) (b2n (s_2.swReads 5 (BitVec.toInt lv_1.land) (BitVec.toNat lv_1.kl30)))).fld (INP_SWCFG_DEB 5) ≤ nGet (s_2.setFld (INP_SWRAW_RAW 5) (b2n (s_2.swReads 5 (BitVec.toInt lv_1.land) (BitVec.toNat lv_1.kl30)))).inp.deb 5 + 1) ∧
    ((s_2.setFld (INP_SWRAW_RAW 5) (b2n (s_2.swReads 5 (BitVec.toInt lv_2.land) (BitVec.toNat lv_2.kl30)))).sw 5 = s_2.swReads 5 (BitVec.toInt lv_2.land) (BitVec.toNat lv_2.kl30)) ∧
    (s_3.domOn Dom.act = true) ∧ (s_3.swMode 5 ≠ 1) ∧ (s_3.pw.mode ≠ PMode.bedded) ∧ (s_3.swMode 5 = 2) ∧
    ((s_3.setFld (INP_SWRAW_RAW 5) (b2n (s_3.swReads 5 (BitVec.toInt lv_2.land) (BitVec.toNat lv_2.kl30)))).sw 5 = s_3.swReads 5 (BitVec.toInt lv_2.land) (BitVec.toNat lv_2.kl30)) ∧
    ((s_3.setFld (INP_SWRAW_RAW 5) (b2n (s_3.swReads 5 (BitVec.toInt lv_1.land) (BitVec.toNat lv_1.kl30)))).sw 5 ≠ s_3.swReads 5 (BitVec.toInt lv_1.land) (BitVec.toNat lv_1.kl30)) ∧
    (s_4.domOn Dom.act = true) ∧ (s_4.bit INP_ADCST_FAIL (8 + 1) = false) ∧ (lGet s_4.inp.scan 1 = 13 :: l_2) ∧ (s_4.winOf 13 (adcSum conv_2) = s_4.anWin 13) ∧
    (s_5.domOn Dom.act = true) ∧ (s_5.bit INP_ADCST_FAIL (8 + 1) = false) ∧ (lGet s_5.inp.scan 1 = 13 :: l_2) ∧ (s_5.winOf 13 (adcSum conv_2) ≠ s_5.anWin 13) ∧
    (s_6.domOn Dom.act = true) ∧ (s_6.bit INP_ADCST_FAIL (65 % 8) = false) ∧ (64 ≤ 65) ∧ (65 < 80) ∧ (s_6.bit INP_ADCST_FAIL (81 % 8) = false) ∧ (80 ≤ 81) ∧
    (81 < 84) ∧ (s_6.bit INP_ADCST_FAIL (85 % 8) = false) ∧ (84 ≤ 85) ∧ (85 < 100) ∧ (s_6.bit INP_ADCST_FAIL (125 % 8) = false) ∧ (124 ≤ 125) ∧
    (s_7.domOn Dom.act = true) ∧ (s_7.fld (INP_SS_STATE 1) = 1) ∧ (s_8.domOn Dom.act = true) ∧ (s_8.on (INP_SNCFG_EN 3) = true) ∧
    (s_8.sentJudge 3 cal_2.toNat (List.map BitVec.toNat okn) = 0) ∧ (s_9.domOn Dom.act = true) ∧ (s_9.on (INP_SNCFG_EN 3) = true) ∧
    (s_9.sentJudge 3 cal_3.toNat (List.map BitVec.toNat okn) ≠ 0) ∧ (s_9.on (INP_SNTO_TOUT 3) = true) ∧ (bGet s_9.inp.timedOut 3 = false) ∧
    (s_10.domOn Dom.act = true) ∧ (s_10.psLive 2 = true) ∧ (s_10.fld (INP_PSCFG_MODE 2) = 1) ∧ (bGet s_10.inp.slots (2 * 4 + 1) = true) ∧
    (s_11.domOn Dom.act = true) ∧ (s_11.inp.made = m_2 :: w_1) ∧
    ((s_11.modInp fun (x : Inp) => { deb := x.deb, seq := x.seq, made := w_1, fifo := x.fifo, lost := x.lost, scan := x.scan, cal := x.cal, timedOut := x.timedOut, slots := x.slots, live := x.live, trig := x.trig, tout := x.tout, i2c := x.i2c, i2cOut := x.i2cOut, mapHold := x.mapHold, dcMap := x.dcMap, means := x.means, dcOff := x.dcOff : Inp }).fld (INP_BRG_DEST m_2.src) = 0) ∧
    (s_12.domOn Dom.act = true) ∧ (s_12.inp.made = m_2 :: w_1) ∧
    ((s_12.modInp fun (x : Inp) => { deb := x.deb, seq := x.seq, made := w_1, fifo := x.fifo, lost := x.lost, scan := x.scan, cal := x.cal, timedOut := x.timedOut, slots := x.slots, live := x.live, trig := x.trig, tout := x.tout, i2c := x.i2c, i2cOut := x.i2cOut, mapHold := x.mapHold, dcMap := x.dcMap, means := x.means, dcOff := x.dcOff : Inp }).fld (INP_BRG_DEST m_2.src) = 1) ∧
    (s_13.domOn Dom.act = true) ∧ (s_13.waits 7 32 41 3 d_2 = true) ∧ (s_14.domOn Dom.act = true) ∧ (s_14.inp.live = true) ∧ (s_14.inp.dcMap = false) ∧
    (s_14.fld (INP_FTCFG_MODE 2) = 1) ∧ (bGet s_14.inp.trig 2 = true) ∧ (s_15.domOn Dom.act = true) ∧ (s_15.inp.live = true) ∧ (s_15.inp.dcMap = false) ∧
    (s_15.fld (INP_FTCFG_MODE 2) = 2) := by
  and_intros <;> decide +kernel

end Wit.Inp

namespace Wit.Mem
def we (l : List (FRef × Nat)) (x : Mem) : State := { wst l with memc := x }
def prs (s : State) : State := { s with acc := { s.acc with pres := some 5 } }
def s_1 : State := { we [] {} with ecc := [(ramBase + 3 * 0o20000 + 77, 1)] }
def a_1 : BitVec 21 := 77
def fails_1 : BitVec 14 := 0
def ofs_1 : BitVec 13 := 0
def v_1 : Word := 0
def l_1 : List Word := []
def o_1 : BitVec 11 := 0
def run_1 : SsRun := ⟨false, 0, 0, 0, 0, 0, 0⟩
def s_2 : State := we [] {}
def s_3 : State := we [(MEM_MSTAT_RESULT, 1)] {marchKeep := true}
def a_2 : BitVec 21 := 0
def s_4 : State := we [(MEM_MSTAT_RESULT, 1)] {marchKeep := false}
def fails_2 : BitVec 14 := 3
def ofs_2 : BitVec 13 := 9
def s_5 : State := (we [] {}).setBankSt 2 1
def s_6 : State := we [(MEM_TCTL_EN, 1)] {nrun := some 2}
def s_7 : State := we [(MEM_TCTL_EN, 0)] {}
def s_8 : State := we [(PCR_KL_KL30LO, 1)] {}
def s_9 : State := we [(MEM_NADRL_ADRL, 9)] {}
def s_10 : State := we [(MEM_NADRL_ADRL, 8)] {nfifo := [1,2,3,4,5,6,7,8]}
def s_11 : State := (we [(MEM_NADRL_ADRL, 8)] {}).withMem [(codeKey (we [] {}).inactive 9, 5)]
def s_12 : State := we [] {nfifo := [5, 6]}
def v_2 : Word := 5
def l_2 : List Word := [6]
def s_13 : State := we [] {ss := some ⟨true, 0o100000, 2, 0, 0, 0, 0⟩}
def run_2 : SsRun := ⟨true, 0o100000, 2, 0, 0, 0, 0⟩
def s_14 : State := we [] {ss := some ⟨false, 0o100000, 2, 1, 0, 0, 7⟩}
def run_3 : SsRun := ⟨false, 0o100000, 2, 1, 0, 0, 7⟩
def s_15 : State := we [(MEM_SSLEN_LEN, 9), (MEM_SSBUF_BUF, 0o100000)] {}
def s_16 : State := (we [(MEM_SSLEN_LEN, 1), (MEM_SSBUF_BUF, 0o100000)] {}).writeRecord 0 1 0 3 [5, 6]
def s_17 : State := (we [(MEM_SSLEN_LEN, 2), (MEM_SSBUF_BUF, 0o100000)] {}).writeRecord 0 1 0 3 [5, 6]
def s_18 : State := prs (we [] {})
def o_2 : BitVec 11 := 0o300
def s_19 : State := prs (we [] {otpW := [(0o500, true)]})
def o_3 : BitVec 11 := 0o500
def s_20 : State := prs (we [(MEM_OTPDATA_DATA, 77)] {})
def s_21 : State := (we [(MEM_TCTL_EN, 1), (MEM_TSTAT_REGION, 129)] {}).setBankSt 1 1
def s_22 : State := prs (we [] {otp := some 0o500})


/-- Premises of MemoryCommands are met. -/
theorem test_premises_MemoryCommands :
    (s_1.eccOf (unitKey 3 a_1.toNat) = 1) ∧ (s_1.domOn Dom.fabric = true) ∧
    (((s_1.setFld MEM_MCTL_BANK 0).setFld MEM_MCTL_PRESERVE (b2n false)).fld MEM_MSTAT_RESULT ≠ 1) ∧
    (((s_1.setFld MEM_MCTL_BANK 0).setFld MEM_MCTL_PRESERVE (b2n false)).bankSt 0 ≠ 1) ∧ (s_1.on MEM_TCTL_EN = true) ∧
    (s_1.sweepSkips (s_1.fld MEM_TCTL_TARGET) (s_1.fld MEM_TSTAT_REGION) = false) ∧ (s_1.memc.nrun = none) ∧ (s_1.lowV = false) ∧
    (∀ e ∈ s_1.mem, e.1 < codeKey s_1.inactive 0 ∨ codeKey s_1.inactive 0 + 2 ^ 20 ≤ e.1) ∧ (s_1.memc.nfifo.length ≤ 7) ∧ (s_1.ssBusy = false) ∧
    (s_1.fld MEM_SSLEN_LEN = 0) ∧ (s_1.ssBank = none) ∧ (s_1.memc.ss = none) ∧ (s_1.acc.pres = none) ∧ (s_1.memc.otp = none) ∧
    (s_2.eccOf (unitKey 3 a_1.toNat) ≠ 1) ∧ (s_3.domOn Dom.fabric = true) ∧
    (((s_3.setFld MEM_MCTL_BANK 2).setFld MEM_MCTL_PRESERVE (b2n true)).fld MEM_MSTAT_RESULT = 1) ∧ (s_3.fld MEM_MSTAT_RESULT = 1) ∧
    (s_3.memc.marchKeep = true) ∧ (fails_1 = 0) ∧ (s_4.domOn Dom.fabric = true) ∧ (s_4.fld MEM_MSTAT_RESULT = 1) ∧ (s_4.memc.marchKeep = false) ∧
    (fails_2 ≠ 0) ∧ (s_5.domOn Dom.fabric = true) ∧ (((s_5.setFld MEM_MCTL_BANK 2).setFld MEM_MCTL_PRESERVE (b2n false)).fld MEM_MSTAT_RESULT ≠ 1) ∧
    (((s_5.setFld MEM_MCTL_BANK 2).setFld MEM_MCTL_PRESERVE (b2n false)).bankSt 2 = 1) ∧ (s_6.domOn Dom.fabric = true) ∧ (s_6.memc.nrun.isSome = true) ∧
    (s_6.memc.nrun = some 2) ∧ (s_7.domOn Dom.fabric = true) ∧ (s_7.on MEM_TCTL_EN = false) ∧ (s_8.domOn Dom.fabric = true) ∧ (s_8.memc.nrun = none) ∧
    (s_8.lowV = true) ∧ (s_9.domOn Dom.fabric = true) ∧ (s_9.memc.nrun = none) ∧ (s_9.lowV = false) ∧ (s_9.nadr % 8 ≠ 0) ∧ (s_10.domOn Dom.fabric = true) ∧
    (s_10.memc.nrun = none) ∧ (s_10.lowV = false) ∧ (s_10.nadr % 8 = 0) ∧ (s_10.rowUsed s_10.inactive s_10.nadr = false) ∧ (s_10.memc.nfifo.length = 8) ∧
    (s_11.domOn Dom.fabric = true) ∧ (s_11.memc.nrun = none) ∧ (s_11.lowV = false) ∧ (s_11.nadr % 8 = 0) ∧ (s_11.rowUsed s_11.inactive s_11.nadr = true) ∧
    (s_12.domOn Dom.fabric = true) ∧ (s_12.memc.nfifo = v_2 :: l_2) ∧ (s_13.domOn Dom.fabric = true) ∧ (s_13.ssBusy = true) ∧ (s_13.memc.ss = some run_2) ∧
    (run_2.load = true) ∧ (s_14.domOn Dom.fabric = true) ∧ (s_14.memc.ss = some run_3) ∧ (run_3.load = false) ∧ (s_15.domOn Dom.fabric = true) ∧
    (s_15.ssBusy = false) ∧ (1 ≤ s_15.fld MEM_SSLEN_LEN) ∧ (s_15.fld MEM_SSLEN_LEN ≤ 65518) ∧
    (inRam (s_15.fld MEM_SSBUF_BUF) (s_15.fld MEM_SSLEN_LEN) = true) ∧ (s_16.domOn Dom.fabric = true) ∧ (s_16.ssBusy = false) ∧ (s_16.ssBank = some 0) ∧
    (s_16.fld MEM_SSLEN_LEN < s_16.dw 0 4) ∧ (s_17.domOn Dom.fabric = true) ∧ (s_17.ssBusy = false) ∧ (s_17.ssBank = some 0) ∧
    (s_17.dw 0 4 ≤ s_17.fld MEM_SSLEN_LEN) ∧ (inRam (s_17.fld MEM_SSBUF_BUF) (s_17.fld MEM_SSLEN_LEN) = true) ∧ (s_18.domOn Dom.fabric = true) ∧
    (s_18.acc.pres.isSome = true) ∧ (s_18.memc.otp = none) ∧ (otpKrafin o_2.toNat = true) ∧ (s_19.domOn Dom.fabric = true) ∧ (s_19.acc.pres.isSome = true) ∧
    (s_19.memc.otp = none) ∧ (277 ≤ o_3.toNat) ∧ (s_19.otpWritten o_3.toNat = true) ∧ (s_20.domOn Dom.fabric = true) ∧ (s_20.acc.pres.isSome = true) ∧
    (s_20.memc.otp = none) ∧ (s_20.otpWritten o_3.toNat = false) ∧ (s_21.domOn Dom.fabric = true) ∧ (s_21.on MEM_TCTL_EN = true) ∧
    (s_21.sweepSkips (s_21.fld MEM_TCTL_TARGET) (s_21.fld MEM_TSTAT_REGION) = true) ∧ (s_22.domOn Dom.fabric = true) ∧ (s_22.memc.otp = some 320) := by
  and_intros <;> decide +kernel

end Wit.Mem

namespace Wit.Zsw
def fr (n : Nat) : List Byte := [1,2,3,4,5,6,10,11,12,13,14,15, 0x81, 0, 0x20, 9, 8, 0] ++ List.replicate n 7
def zq (l : List (FRef × Nat)) : State := wst ([(ZSW_PCFG_EN 6,1),(ZSW_GCTL_EN,1),(ETH_PCFG_EN 6,1)] ++ l)
def pm : State := zq [(ZSW_PSTAT_STATE 6, 1), (ZSW_GCTL_MAXLEN, 1522), (ZSW_PSTAT_STATE 7, 1), (ZSW_VLAN_EN 0, 1), (ZSW_VLAN_VID 0, 9), (ZSW_VMEM_MEM 0, 0o1777)]
def pmt (s : State) : State × ZRes := let t := s.count (ZSW_PRXF_RXF 6); t.admitAll 0 0 [(7, t.queueOf 7 1)]
def bytes_1 : List Byte := [0xff,0xff,0xff,0xff,0xff,0xff] ++ (fr 60).drop 6
def sqi_1 : BitVec 3 := 0
def x_1 : ZSend := ⟨0,0,none,64⟩
def v_1 : BitVec 12 := 0
def m_1 : BitVec 48 := 0
def es_1 : List Nat := [7]
def t_1 : State × ZRes := pmt pm
def s_1 : State := zq [(ZSW_PSTAT_STATE 7, 1), (ETH_PLCA_EN 7,1), (ETH_PSTAT_PLCAA 7, 1)]
def bytes_2 : List Byte := []
def es_2 : List Nat := []
def t_2 : State × ZRes := (State.reset, {})
def s_2 : State := zq [(ZSW_PSTAT_STATE 6, 1)]
def s_3 : State := zq []
def bytes_3 : List Byte := fr 20
def v_2 : BitVec 12 := 5
def m_2 : BitVec 48 := 77
def s_4 : State := zq [(ZSW_PSTAT_STATE 6, 1), (ZSW_GCTL_MAXLEN, 1522), (ZSW_GCTL_AGE, 1)]
def bytes_4 : List Byte := fr 60
def s_5 : State := (zq [(ZSW_PSTAT_STATE 6, 2), (ETH_PSTAT_LINK 6, 1)]).modZsw (fun z => {z with sending := [(6, ⟨0,2,none,84⟩)], frames := [(0, {bytes := fr 60, cells := [0]})], out := [0]})
def x_2 : ZSend := ⟨0,2,none,84⟩
def s_6 : State := zq [(ZSW_PSTAT_STATE 6, 3)]
def s_7 : State := zq [(ZSW_PSTAT_STATE 6, 1), (ZSW_PGCFG_EN 1, 1), (ZSW_PGMEM_MEM 1, 0x6666), (ZSW_PGHOME_HOME 1 0, 128)]
def s_8 : State := (zq [(ZSW_PSTAT_STATE 6, 1), (ZSW_GCTL_AGE, 0)]).modZsw (fun z => {z with queues := [(8, [⟨0, some 19⟩])]})
def zd (op tgt w2 w3 w4 : Nat) : Desc := { wdesc 8 op tgt with w2 := toWord w2, w3 := toWord w3, w4 := toWord w4 , ring := 48}
def zs (d : Desc) (l : List (FRef × Nat)) : State := (zq l).withD [d]
def rxs : State := ((zs (zd 2 0 0o100000 100 0) [])).modZsw (fun z => {z with queues := [(64, [⟨0, none⟩])], frames := [(0, {bytes := fr 60, cells := [0]})], out := [0]})
def rbs : State := ((zs (zd 3 0 0 0 0) [])).modZsw (fun z => {z with queues := [(64, [⟨0, none⟩])], frames := [(0, {bytes := fr 60, cells := [0]})], out := [0]})
def txs (l : List (FRef × Nat)) : State := ((zs (zd 1 0 0o100000 100 0) l)).putBytes 0o100000 ([0x01, 0x80, 0xC2, 0, 0, 0]  ++ List.replicate 6 1)
def txt (s : State) : State × ZRes := s.zIngress 8 (s.bufBytes 0o100000 100) false false none
def frs : State := (zs (zd 4 0 3 0 0) []).modZsw (fun z => {z with binds := [⟨48,3,1,0⟩], frames := [(0, {bytes := fr 60, cells := [0]})], out := [0]})
def s_9 : State := (txs []).wr 0o100001 0o777777
def d_1 : Desc := zd 1 0 0o100000 100 0
def t_3 : State × ZRes := txt ((txs []).wr 0o100001 0o777777)
def b_1 : ZBind := ⟨0,0,0,0⟩
def c_1 : ZCensus := ⟨0,[],0,none⟩
def e_1 : Nat × Nat := (stBadParam, 2)
def s_10 : State := txs []
def t_4 : State × ZRes := txt (txs [])
def e_2 : Nat × Nat := (0, 0)
def s_11 : State := ((txs []).putBytes 0o100000 [9,9,9])
def t_5 : State × ZRes := txt ((txs []).putBytes 0o100000 [9,9,9])
def s_12 : State := zs (zd 2 0 0o100000 100 0) []
def d_2 : Desc := zd 2 0 0o100000 100 0
def t_6 : State × ZRes := ((rxs.hostTake (zd 2 0 0o100000 100 0)).getD rxs, {})
def s_13 : State := zs (zd 3 0 0 0 0) []
def d_3 : Desc := zd 3 0 0 0 0
def t_7 : State × ZRes := ((rbs.hostTake (zd 3 0 0 0 0)).getD rbs, {})
def d_4 : Desc := zd 4 0 3 0 0
def b_2 : ZBind := ⟨48,3,1,0⟩
def s_14 : State := frs.setFld ZSW_HCFG_BTO 5
def s_15 : State := zs (zd 4 0 3 0 0) []
def s_16 : State := zq [(ZSW_AUDCTL_PER, 4)]
def d_5 : Desc := { wdesc 15 63 999 with ring := 63, slot := 1023 }
def s_17 : State := zq [(ZSW_AUDCTL_PER, 0)]
def s_18 : State := (zq []).modZsw (fun z => {z with census := some ⟨8192,[],0,none⟩})
def c_2 : ZCensus := ⟨8192,[],0,none⟩
def s_19 : State := zq [(ETH_PLCA_EN 6, 1), (ETH_PSTAT_PLCAA 6, 1), (ETH_TSTAT_STATE 2, 2)]
def ofs_1 : BitVec 64 := 5000000
def d_6 : BitVec 32 := 0
def s_20 : State := zq [(ETH_TSTAT_STATE 2, 1), (ETH_PSTAT_LINK 2, 1), (ETH_TCFG_ACCEPT 2, 1), (ETH_PCFG_EN 5, 0), (ETH_PLCA_EN 7, 0), (ETH_ASCTL_EN, 0)]
def s_21 : State := zq [(ETH_TSTAT_STATE 2, 1), (ETH_PSTAT_LINK 2, 1), (ETH_TCFG_ACCEPT 2, 0), (ETH_ASCTL_EN, 1), (ETH_ASP_ROLE 2, 2), (ETH_ASSTAT_HOLD, 0), (ETH_ASSTAT_LOCK, 0)]
def s_22 : State := zq [(ETH_TSTAT_STATE 2, 1), (ETH_PSTAT_LINK 2, 1), (ETH_TCFG_FWD 2, 5)]
def ofs_2 : BitVec 64 := 0
def s_23 : State := zq [(ETH_TSTAT_STATE 2, 3), (ETH_TSTAT_WKARM 2, 1), (ETH_TCFG_FWD 2, 5)]
def s_24 : State := zq [(ETH_ASCTL_EN, 1),  (ETH_ASSTAT_HOLD, 0), (ETH_ASSTAT_LOCK, 1)]
def s_25 : State := (zq [(ETH_ASCTL_EN, 1), (ETH_ASP_ROLE 2, 2), (ETH_ASCTL_PDTH, 80)]).modEth (fun e => {e with pdOk := [(2, 2)], pdMiss := [(2,2)]})
def d_7 : BitVec 32 := 40


/-- Premises of SwitchPorts are met. -/
theorem test_premises_SwitchPorts :
    (pm.domOn Dom.zsw = true) ∧ (pm.zPort 6 = 1) ∧ (60 ≤ bytes_1.length) ∧ (bytes_1.length + 4 ≤ (pm.count (ZSW_PRXF_RXF 6)).fld ZSW_GCTL_MAXLEN) ∧
    ((pm.count (ZSW_PRXF_RXF 6)).on (ETH_MCFG_EN (6 * 8 + (pm.zHead 6 bytes_1 none).pri)) = false) ∧
    ((pm.count (ZSW_PRXF_RXF 6)).zDecide 6 bytes_1 (pm.zHead 6 bytes_1 none) = ZDec.ports es_1 none) ∧
    ((pm.count (ZSW_PRXF_RXF 6)).admitAll 0 0 (List.map (fun (e : Nat) => (e, (pm.count (ZSW_PRXF_RXF 6)).queueOf e (pm.zHead 6 bytes_1 none).pri)) es_1) = t_1) ∧
    (t_1.2.admitted ≠ []) ∧ ((bytes_1.length + 255) / 256 ≤ t_1.1.zFreeN) ∧
    (((t_1.1.macLearn 6 (pm.zHead 6 bytes_1 none)).zStore { bytes := bytes_1, port := 6, pri := (pm.zHead 6 bytes_1 none).pri, vid := (pm.zHead 6 bytes_1 none).vid, arrival := (t_1.1.macLearn 6 (pm.zHead 6 bytes_1 none)).eth.mc / 64 : ZFrame } none t_1.2.admitted).bit NET_HUCFG_PMASK 6 = false) ∧
    (smFind pm.zsw.sending 6 = none) ∧ (6 ≠ 8) ∧ (6 = 6 ∨ 6 = 7) ∧ (pm.on (ETH_PLCA_EN 6) = false) ∧ (pm.on (ETH_PSTAT_LINK 6) = false) ∧ (pm.zPort 6 ≠ 2) ∧
    (pm.zPort 6 ≠ 3) ∧ (pm.on ZSW_GCTL_AGE = true) ∧ (s_1.domOn Dom.zsw = true) ∧ (s_1.zPort 6 ≠ 1) ∧ (smFind s_1.zsw.sending 7 = none) ∧ (7 = 6 ∨ 7 = 7) ∧
    (s_1.on (ETH_PLCA_EN 7) = true) ∧ (s_1.on (ETH_PSTAT_PLCAA 7) = true) ∧ (s_1.on (ETH_PCFG_EN 6) = true) ∧ (s_1.on (ETH_PSTAT_FENCED 6) = false) ∧
    (s_1.on (ETH_PSTAT_LINK 6) = false) ∧ (6 ≤ 6) ∧ (s_1.on (ZSW_PCFG_EN 6) = true) ∧ (s_1.zPort 6 = 0) ∧
    (((s_1.setFld (ETH_PSTAT_LINK 6) 1).setBitF (ETH_PEVT_EVT 6) 0 true).on (ZSW_PCFG_EN 6) = true) ∧
    (((s_1.setFld (ETH_PSTAT_LINK 6) 1).setBitF (ETH_PEVT_EVT 6) 0 true).zPort 6 = 0) ∧ (s_2.domOn Dom.zsw = true) ∧ (s_2.zPort 6 = 1) ∧
    (bytes_2.length < 60) ∧ (s_4.domOn Dom.zsw = true) ∧ (s_4.zPort 6 = 1) ∧ (60 ≤ bytes_4.length) ∧
    (bytes_4.length + 4 ≤ (s_4.count (ZSW_PRXF_RXF 6)).fld ZSW_GCTL_MAXLEN) ∧
    ((s_4.count (ZSW_PRXF_RXF 6)).on (ETH_MCFG_EN (6 * 8 + (s_4.zHead 6 bytes_4 none).pri)) = false) ∧ ((s_4.count (ZSW_PRXF_RXF 6)).on ZSW_GCTL_EN = true) ∧
    ((s_4.zHead 6 bytes_4 none).dst / 16 ≠ 103282638848) ∧ ((s_4.count (ZSW_PRXF_RXF 6)).vlanOf (s_4.zHead 6 bytes_4 none).vid = none) ∧
    (s_5.domOn Dom.zsw = true) ∧ (smFind s_5.zsw.sending 6 = some x_2) ∧ (s_5.zPort 6 ≠ 1) ∧ (6 ≠ 6 ∧ 6 ≠ 7 ∨ false = false) ∧
    (s_5.on (ETH_PSTAT_LINK 6) = true) ∧ ((((s_5.setFld (ETH_PSTAT_LINK 6) 0).setBitF (ETH_PEVT_EVT 6) 1 true).count (ETH_PCNT_LOSS 6)).zPort 6 ≠ 1) ∧
    (s_5.zPort 6 = 2) ∧ (s_6.domOn Dom.zsw = true) ∧ (s_6.zPort 6 = 3) ∧ (s_6.zsw.fromHold.contains 6 = false) ∧
    ((((s_6.each (List.range 8) fun (j : Nat) (t : State) => (t.zPurge 6 j).creditEmpty 6 j).countBy (ZSW_PFLUSH_FLUSH 6) (List.foldl (fun (x1 x2 : Nat) => x1 + x2) 0 (List.map (fun (j : Nat) => (s_6.zQueue 6 j).length) (List.range 8)))).modZsw fun (z : Zsw) => { out := z.out, retired := z.retired, badRows := z.badRows, frames := z.frames, nextId := z.nextId, queues := z.queues, sending := z.sending, line := z.line, lineBad := z.lineBad, avg := z.avg, macs := z.macs, lfsr := z.lfsr, holdAt := z.holdAt, fromHold := List.filter (fun (y : Nat) => decide (y ≠ 6)) z.fromHold, binds := z.binds, census := z.census, moveDue := z.moveDue, agentIn := z.agentIn, p9in := z.p9in, appFrame := z.appFrame : Zsw }).on (ETH_PSTAT_LINK 6) = false) ∧
    (s_7.domOn Dom.zsw = true) ∧ (s_7.on (ZSW_PGCFG_EN 1) = true) ∧ (s_7.pgHome 1 3 ≠ s_7.pgCur 1 3) ∧ (s_7.pgCount 1 3 = 0) ∧
    (s_7.bit (ZSW_PGSTAT_DEAD 1) 3 = false) ∧ (s_7.pgPort 1 (s_7.pgHome 1 3) < 10) ∧ (s_7.zPort (s_7.pgPort 1 (s_7.pgHome 1 3)) = 1) ∧
    (s_8.domOn Dom.zsw = true) ∧ (s_8.pgCount 1 3 ≠ 0) ∧ (s_8.on ZSW_GCTL_AGE = false) := by
  and_intros <;> decide +kernel

/-- Premises of SwitchHostPort are met. -/
theorem test_premises_SwitchHostPort :
    (s_9.domOn Dom.zsw = true) ∧ (s_9.waits 8 1 48 3 d_1 = true) ∧ (s_9.hostBufJudge d_1 = some e_1) ∧
    (List.find? (fun (x : ZBind) => decide (x.slot = 0)) s_9.zsw.binds = none) ∧ (s_9.on ZSW_AUDCTL_PER = true) ∧ (s_9.zsw.census = none) ∧
    (s_10.domOn Dom.zsw = true) ∧ (s_10.waits 8 1 48 3 d_1 = true) ∧ (s_10.hostBufJudge d_1 = none) ∧
    (s_10.zIngress 8 (s_10.bufBytes (BitVec.toNat d_1.w2) (BitVec.toNat d_1.w3) ++ List.replicate (60 - (s_10.bufBytes (BitVec.toNat d_1.w2) (BitVec.toNat d_1.w3)).length) Config.padByte) false false (if bitAt (BitVec.toNat d_1.w4) 17 = true then some (BitVec.toNat d_1.w4 % 8) else none) = t_4) ∧
    (t_4.2.why ≠ 6) ∧ (t_4.2.none_ = true ∨ t_4.2.admitted ≠ []) ∧ (s_11.domOn Dom.zsw = true) ∧ (s_11.waits 8 1 48 3 d_1 = true) ∧
    (s_11.hostBufJudge d_1 = none) ∧
    (s_11.zIngress 8 (s_11.bufBytes (BitVec.toNat d_1.w2) (BitVec.toNat d_1.w3) ++ List.replicate (60 - (s_11.bufBytes (BitVec.toNat d_1.w2) (BitVec.toNat d_1.w3)).length) Config.padByte) false false (if bitAt (BitVec.toNat d_1.w4) 17 = true then some (BitVec.toNat d_1.w4 % 8) else none) = t_5) ∧
    (t_5.2.why = 6 ∨ t_5.2.none_ = false ∧ t_5.2.admitted = []) ∧ (s_12.domOn Dom.zsw = true) ∧ (s_12.waits 8 2 48 3 d_2 = true) ∧
    (List.findSome? s_12.hostTake s_12.hostWaiting = none) ∧ (rxs.domOn Dom.zsw = true) ∧ (rxs.waits 8 2 48 3 d_2 = true) ∧
    (List.findSome? rxs.hostTake rxs.hostWaiting = some t_6.1) ∧ (s_13.domOn Dom.zsw = true) ∧ (s_13.waits 8 3 48 3 d_3 = true) ∧
    (List.findSome? s_13.hostTake s_13.hostWaiting = none) ∧ (rbs.domOn Dom.zsw = true) ∧ (rbs.waits 8 3 48 3 d_3 = true) ∧
    (List.findSome? rbs.hostTake rbs.hostWaiting = some t_7.1) ∧ (frs.domOn Dom.zsw = true) ∧ (frs.waits 8 4 48 3 d_4 = true) ∧
    (List.find? (fun (x : ZBind) => decide (x.ring = d_4.ring ∧ x.slot = BitVec.toNat d_4.w2)) frs.zsw.binds = some b_2) ∧ (s_14.domOn Dom.zsw = true) ∧
    (List.find? (fun (x : ZBind) => decide (x.slot = 3)) s_14.zsw.binds = some b_2) ∧ (s_14.on ZSW_HCFG_BTO = true) ∧ (s_15.domOn Dom.zsw = true) ∧
    (s_15.waits 8 4 48 3 d_4 = true) ∧ (List.find? (fun (x : ZBind) => decide (x.ring = d_4.ring ∧ x.slot = BitVec.toNat d_4.w2)) s_15.zsw.binds = none) ∧
    (s_17.domOn Dom.zsw = true) ∧ (s_17.on ZSW_AUDCTL_PER = false) ∧ (s_18.domOn Dom.zsw = true) ∧ (s_18.zsw.census = some c_2) ∧ (c_2.leak = []) ∧
    (c_2.dup = 0) ∧ (c_2.first = none) := by
  and_intros <;> decide +kernel

/-- Premises of EthernetPorts are met. -/
theorem test_premises_EthernetPorts :
    (s_19.domOn Dom.zsw = true) ∧ (s_19.on (ETH_PCFG_EN 6) = true) ∧ (s_19.on (ETH_PSTAT_FENCED 6) = false) ∧ (s_19.on (ETH_PLCA_EN (6 + 0)) = true) ∧
    (s_19.on (ETH_PSTAT_PLCAA (6 + 0)) = true) ∧ (s_19.on (ETH_PCFG_EN (6 + 0)) = true) ∧ (s_19.on (ETH_PSTAT_FENCED (6 + 0)) = false) ∧ (s_19.tc10 2 = 2) ∧
    (s_19.tc10 2 ≠ 3) ∧ (s_19.on ETH_ASCTL_EN = false) ∧ (s_20.domOn Dom.zsw = true) ∧ (s_20.on (ETH_PCFG_EN 5) = false) ∧
    (s_20.on (ETH_PLCA_EN (6 + 1)) = false) ∧ (s_20.tc10 2 ≠ 2) ∧ (s_20.tc10 2 = 1 ∨ s_20.tc10 2 = 2) ∧ (s_20.on (ETH_PSTAT_LINK 2) = true) ∧
    (s_20.on (ETH_TCFG_ACCEPT 2) = true) ∧ (s_20.tc10 2 = 1) ∧ (s_21.domOn Dom.zsw = true) ∧ (s_21.tc10 2 = 1 ∨ s_21.tc10 2 = 2) ∧
    (s_21.on (ETH_PSTAT_LINK 2) = true) ∧ (s_21.on (ETH_TCFG_ACCEPT 2) = false) ∧ (s_21.on ETH_ASCTL_EN = true) ∧ (s_21.on ETH_ASCTL_GM = false) ∧
    (s_21.fld (ETH_ASP_ROLE 2) = 2) ∧ (((s_21.setFld ETH_ASOFS_OFS (satSigned 18 ofs_1.toInt)).setFld ETH_ASSTAT_HOLD 0).ethStepThr < ofs_1.toInt.natAbs) ∧
    (((((((s_21.setFld ETH_ASOFS_OFS (satSigned 18 ofs_1.toInt)).setFld ETH_ASSTAT_HOLD 0).setCounter ((↑((s_21.setFld ETH_ASOFS_OFS (satSigned 18 ofs_1.toInt)).setFld ETH_ASSTAT_HOLD 0).eth.mc - ofs_1.toInt * 64) % ↑(2 ^ 70)).toNat).modEth fun (e : Eth) => { mc := e.mc, rate := e.rate, frac := e.frac, markers := e.markers, credit := e.credit, pdOk := e.pdOk, pdMiss := e.pdMiss, wakes := e.wakes, sync := e.sync : Eth }).countBy ETH_ASSTAT_STEPS 1).raise ETH_FLAG_TSTEP).on ETH_ASSTAT_LOCK = false) ∧
    (s_23.domOn Dom.zsw = true) ∧ (s_23.tc10 2 = 3) ∧ (s_23.on (ETH_TSTAT_WKARM 2) = true) ∧ (s_23.pw.mode ≠ PMode.bedded) ∧ (s_23.tc10 2 ≠ 1) ∧
    (s_23.tc10 2 ≠ 2) ∧ (s_24.domOn Dom.zsw = true) ∧ (s_24.on ETH_ASCTL_EN = true) ∧ (s_24.on ETH_ASCTL_GM = false) ∧ (s_24.on ETH_ASSTAT_HOLD = false) ∧
    (((s_24.setFld ETH_ASSTAT_HOLD 1).raise ETH_FLAG_THOLD).on ETH_ASSTAT_LOCK = true) ∧ (s_25.domOn Dom.zsw = true) ∧ (s_25.on ETH_ASCTL_EN = true) ∧
    (s_25.fld (ETH_ASP_ROLE 2) ≠ 0) ∧ (2 ≤ nGet s_25.eth.pdOk 2) ∧ (d_7.toNat ≤ s_25.fld ETH_ASCTL_PDTH * 10) ∧ (d_7.toNat < 2 ^ 18) ∧
    (2 ≤ nGet s_25.eth.pdMiss 2) := by
  and_intros <;> decide +kernel

end Wit.Zsw

namespace Wit.Rng
def rd_ (e op w2 w3 w4 : Nat) : Desc := { wdesc e op 0 with w2 := toWord w2, w3 := toWord w3, w4 := toWord w4 }
def rs_ (d : List Desc) (l : List (FRef × Nat)) : State := let s := (wst l).withD d; {s with pw := {s.pw with ready := true}}
def rlive : List (FRef × Nat) := [(RNG_RCFG_EN 9, 1), (RNG_RCFG_OWNER 9, 1), (RNG_RCFG_ENGINE 9, 3), (RNG_RCFG_SIZE 9, 3), (RNG_RSTAT_STATE 9, 1), (RNG_RCFG_PRIO 9, 1)]
def tm (d : Desc) : Desc := { d with phase := .timed }
def w1 (point : Nat) (f : List Nat) (sh : Nat) : State := (rs_ [tm (rd_ 1 3 0 0 0)] [(RNG_TXSTAT_OPEN 0, 1), (RNG_TXCLAIM_CLAIM 0, 16)]).modRng (fun x => {x with
  commits := [(0, ⟨1,point,0⟩)], fencedSince := [(0, f)], shadow := if sh = 0 then [] else [(0x4100, toWord sh)]})
def prd : Desc := { wdesc 2 1 5 with phase := .timed, w2 := toWord 0o700000 }
def s_1 : State := ((rs_ [prd, { tm (rd_ 1 3 0 0 0) with id := 2, slot := 2}] [(RNG_TXSTAT_OPEN 0, 1), (RNG_TXCLAIM_CLAIM 0, 16)]).modRng (fun x => {x with
  commits := [(0, ⟨2,0,0⟩)], shadow := [(0x4100 + 16*5, toWord (2 ^ 17 + 2^15))]}))
def v_1 : BitVec 10 := 0
def p_1 : Desc := { wdesc 15 63 999 with ring := 63, slot := 1023 }
def w_1 : CommitWait := ⟨1,0,0⟩
def x_1 : Nat × Nat := (0, 0)
def y_1 : Nat × Nat × Nat := (0, 0, 0)
def s_2 : State := rs_ [rd_ 8 0 0 0 0] []
def d_1 : Desc := rd_ 8 0 0 0 0
def s_3 : State := rs_ [tm (rd_ 8 0 0 0 0)] []
def d_2 : Desc := tm (rd_ 8 0 0 0 0)
def s_4 : State := rs_ [{rd_ 2 2 0 0 0 with phase := .provWait}] []
def d_3 : Desc := {rd_ 2 2 0 0 0 with phase := .provWait}
def s_5 : State := w1 1 [] 0
def d_4 : Desc := tm (rd_ 1 3 0 0 0)
def w_2 : CommitWait := ⟨1,1,0⟩
def s_6 : State := w1 1 [(FUnit.target 2 0).key] 5
def s_7 : State := rs_ [] rlive
def v_2 : BitVec 10 := 3
def v_3 : BitVec 10 := 300
def s_8 : State := rs_ [] (rlive ++ [(RNG_DB_PIDX 9, 2)])
def s_9 : State := (rs_ [] (rlive ++ [(RNG_DB_PIDX 9, 2)])).modFlt (fun f => {f with safe := true})
def s_10 : State := rs_ [rd_ 3 0 0 0 0] []
def d_5 : Desc := rd_ 3 0 0 0 0
def s_11 : State := rs_ [tm (rd_ 3 0 0 0 0)] []
def d_6 : Desc := tm (rd_ 3 0 0 0 0)
def s_12 : State := rs_ [tm (rd_ 3 0 0 0 0), { tm (rd_ 3 0 0 0 0) with id := 2}] []
def s_13 : State := rs_ [tm (rd_ 3 1 0 0 0)] [(SEQ_GCTL_FROZEN 0, 1)]
def d_7 : Desc := tm (rd_ 3 1 0 0 0)
def s_14 : State := rs_ [{(rd_ 3 1 0 0 0) with phase := .prov}] [(SEQ_GCTL_FROZEN 0, 1)]
def d_8 : Desc := {(rd_ 3 1 0 0 0) with phase := .prov}
def s_15 : State := rs_ [rd_ 1 1 0 0 0] []
def d_9 : Desc := (rd_ 1 1 0 0 0)
def x_2 : Nat × Nat := (2, 2)
def x_3 : Nat × Nat := (4, 2)
def x_4 : Nat × Nat := ((rs_ [rd_ 1 1 0 0 0] []).beginBars (rd_ 1 1 0 0 0)).getD (0,0)
def s_16 : State := rs_ [rd_ 1 1 16 100 0] []
def d_10 : Desc := (rd_ 1 1 16 100 0)
def s_17 : State := rs_ [rd_ 1 3 0 0 0] []
def d_11 : Desc := (rd_ 1 3 0 0 0)
def x_5 : Nat × Nat := (0o22, 0)
def s_18 : State := let t := rs_ [rd_ 1 3 0 0 0] [(RNG_TXSTAT_OPEN 0, 1), (RNG_TXCLAIM_CLAIM 0, 2048)]; { t with pw := { t.pw with net := .off } }
def y_2 : Nat × Nat × Nat := (11, stDomainLost, 0)
def s_19 : State := rs_ [rd_ 1 3 0 0 0] [(RNG_TXSTAT_OPEN 0, 1), (RNG_TXCLAIM_CLAIM 0, 16)]
def s_20 : State := (rs_ [tm (rd_ 1 3 0 0 0)] [(RNG_TXSTAT_OPEN 0, 1), (RNG_TXCLAIM_CLAIM 0, 16)]).modRng (fun x => {x with commits := [(0, ⟨1,0,0⟩)]})
def s_21 : State := (rs_ [tm (rd_ 1 3 0 0 0)] [(RNG_TXSTAT_OPEN 0, 1), (RNG_TXCLAIM_CLAIM 0, 16)]).modRng (fun x => {x with commits := [(0, ⟨1,2,3⟩)]})
def w_3 : CommitWait := ⟨1,2,3⟩
def s_22 : State := rs_ [rd_ 1 4 0 0 0] []
def d_12 : Desc := (rd_ 1 4 0 0 0)
def s_23 : State := rs_ [rd_ 1 4 0 0 0] [(RNG_TXSTAT_OPEN 0, 1)]
def s_24 : State := (rs_ [{tm (rd_ 1 3 0 0 0) with id := 2, slot := 2}, rd_ 1 4 0 0 0] [(RNG_TXSTAT_OPEN 0, 1)]).modRng (fun x => {x with commits := [(0, ⟨2,0,0⟩)]})
def p_2 : Desc := {tm (rd_ 1 3 0 0 0) with id := 2, slot := 2}
def w_4 : CommitWait := ⟨2,0,0⟩
def rf (t k n : Nat) (x : Nat) : List Byte := [1,2,3,4,5,6, 10,11,12,13,14,15, 0x88, 0xB5] ++ ([t, k, 56, n, 0, 0, 0, 5, 0, 7].map (fun (n:Nat) => (BitVec.ofNat 8 n : Byte))) ++ List.replicate x 0
def ra (b : List Byte) (l : List (FRef × Nat)) : State := (rs_ [] l).modZsw (fun z => {z with agentIn := [(2, b), (3, b)]})
def raf (frs : Nat) (l : List (FRef × Nat)) : List Byte × State :=
  let s := ra [] ([(RNG_SCTL_EN 1, 1)] ++ l)
  let p := ([0x11, 1, 57, 1, 0, 0, 0, frs, 0, 7].map (fun (n:Nat) => (BitVec.ofNat 8 n : Byte))) ++ List.replicate 24 0
  let b := [1,2,3,4,5,6, 10,11,12,13,14,15, 0x88, 0xB5] ++ p ++ s.slotTag 1 p ++ List.replicate 30 0
  (b, s.modZsw (fun z => {z with agentIn := [(2, b), (3, b)]}))
def rlive2 : List (FRef × Nat) := [(RNG_RCFG_EN 57, 1), (RNG_RCFG_OWNER 57, 5), (RNG_RCFG_ENGINE 57, 3), (RNG_RCFG_SIZE 57, 3), (RNG_RSTAT_STATE 57, 1)]
def s_25 : State := (raf 0 []).2
def b_1 : List Byte := (raf 0 []).1
def l_1 : List (Nat × List Byte) := [(3, (raf 0 []).1)]
def s_26 : State := (raf 9 []).2
def b_2 : List Byte := (raf 9 []).1
def l_2 : List (Nat × List Byte) := [(3, (raf 9 []).1)]
def s_27 : State := (raf 9 rlive2).2
def b_3 : List Byte := (raf 9 rlive2).1
def l_3 : List (Nat × List Byte) := [(3, (raf 9 rlive2).1)]
def s_28 : State := ra (rf 0x12 1 1 32) []
def b_4 : List Byte := rf 0x12 1 1 32
def l_4 : List (Nat × List Byte) := [(3, rf 0x12 1 1 32)]
def s_29 : State := ra (rf 0x11 1 1 32) []
def b_5 : List Byte := rf 0x11 1 1 32
def l_5 : List (Nat × List Byte) := [(3, rf 0x11 1 1 32)]
def s_30 : State := ra (rf 0x11 1 1 32) [(RNG_SCTL_EN 1, 1)]
def s_31 : State := rs_ [] []
def b_6 : List Byte := []
def l_6 : List (Nat × List Byte) := []
def s_32 : State := (rs_ [] []).modRng (fun x => {x with gather := [(2, [⟨56, 0, 7, 1, 0, 0⟩])]})
def s_33 : State := wst [(FLT_FPEND_PEND 4, 3), (FLT_FST_LOGN 4, 2)]
def m_1 : Word := 3
def v_4 : Word := 77
def i_1 : Byte := 5
def f_1 : FUnit := .core 0
def r_1 : Spoor := ⟨0,0,0,0⟩
def l_7 : List Spoor := []
def s_34 : State := let t := wst [(FLT_FPEND_PEND 4, 3), (FLT_FST_LOGN 4, 2)]; { t with pw := { t.pw with act := .off } }
def s_35 : State := (wst []).modFlt (fun x => {x with fenced := [((FUnit.target 2 ((wst []).hscOf 5)).key, true)]})
def m_2 : Word := 0
def f_2 : FUnit := .target 2 ((wst []).hscOf 5)
def s_36 : State := (wst []).modFlt (fun x => {x with unack := [(4*32+1, 1)], last := [(4*32+1, 3)], fenced := [((FUnit.target 2 ((wst []).hscOf 5)).key, true)]})
def s_37 : State := (wst []).modFlt (fun x => {x with fenced := [((FUnit.target 2 ((wst []).hscOf 5)).key, true), (2^16+(FUnit.target 2 ((wst []).hscOf 5)).key, true)]})
def s_38 : State := wst [(FLT_SPCTL_EN, 1)]
def i_2 : Byte := 0
def s_39 : State := wst [(FLT_SPCTL_EN, 0)]
def s_40 : State := (wst [(FLT_SPCTL_EN, 1)]).modFlt (fun f => {f with fifo := [⟨1,2,3,4⟩, ⟨1,2,3,5⟩]})
def r_2 : Spoor := ⟨1,2,3,4⟩
def l_8 : List Spoor := [⟨1,2,3,5⟩]
def s_41 : State := (wst []).modFlt (fun f => {f with shed := [(4, 2), (31, 7)], fifo := [⟨1,2,3,4⟩, ⟨1 * 2 ^ 16,2,3,5⟩]})
def s_42 : State := (wst [(FLT_SPCTL_EN, 1), (FLT_SPCTL_MIR, 1)]).modFlt (fun f => {f with sinceSync := 1024})
def s_43 : State := (wst [(ZSW_PSTAT_STATE 8, 1)]).modFlt (fun f => {f with mirror := [⟨1,2,3,4⟩, ⟨1,2,3,5⟩]})


/-- Premises of RingsAndTransactions are met. -/
theorem test_premises_RingsAndTransactions :
    (s_1.domOn Dom.fabric = true) ∧ (s_1.domOn Dom.act = true) ∧ ((s_1.drainAll CoreId.s.num).domOn Dom.fabric = true) ∧
    (CoreId.s.num ≠ (s_1.drainAll CoreId.s.num).fld (RNG_RCFG_OWNER 9) ∨ (s_1.drainAll CoreId.s.num).on (RNG_RCFG_EN 9) = false ∨ (s_1.drainAll CoreId.s.num).fld (RNG_RSTAT_STATE 9) ≠ 1) ∧
    (v_1.toNat < (s_1.drainAll CoreId.s.num).ringSize 9) ∧ (s_1.descAt 9 3 DPhase.timed = some prd) ∧ (prd.eng ≠ 1) ∧ (s_1.descFrozen prd = false) ∧
    (s_1.sameTick prd = false) ∧
    ((s_1.setDesc { id := prd.id, ring := prd.ring, slot := prd.slot, eng := prd.eng, owner := prd.owner, w0 := prd.w0, w1 := prd.w1, w2 := prd.w2, w3 := prd.w3, w4 := prd.w4, w5 := prd.w5, w6 := prd.w6, phase := DPhase.ready, cond := s_1.condOf prd (false || prd.due), wasTimed := true, due := prd.due, conf := prd.conf, req := prd.req, aux := prd.aux, warm := prd.warm, mute := prd.mute : Desc }).breaksPromise (((s_1.setDesc { id := prd.id, ring := prd.ring, slot := prd.slot, eng := prd.eng, owner := prd.owner, w0 := prd.w0, w1 := prd.w1, w2 := prd.w2, w3 := prd.w3, w4 := prd.w4, w5 := prd.w5, w6 := prd.w6, phase := DPhase.ready, cond := s_1.condOf prd (false || prd.due), wasTimed := true, due := prd.due, conf := prd.conf, req := prd.req, aux := prd.aux, warm := prd.warm, mute := prd.mute : Desc }).confSupersede { id := prd.id, ring := prd.ring, slot := prd.slot, eng := prd.eng, owner := prd.owner, w0 := prd.w0, w1 := prd.w1, w2 := prd.w2, w3 := prd.w3, w4 := prd.w4, w5 := prd.w5, w6 := prd.w6, phase := DPhase.ready, cond := s_1.condOf prd (false || prd.due), wasTimed := true, due := prd.due, conf := prd.conf, req := prd.req, aux := prd.aux, warm := prd.warm, mute := prd.mute : Desc }).actDesc { id := prd.id, ring := prd.ring, slot := prd.slot, eng := prd.eng, owner := prd.owner, w0 := prd.w0, w1 := prd.w1, w2 := prd.w2, w3 := prd.w3, w4 := prd.w4, w5 := prd.w5, w6 := prd.w6, phase := DPhase.ready, cond := s_1.condOf prd (false || prd.due), wasTimed := true, due := prd.due, conf := prd.conf, req := prd.req, aux := prd.aux, warm := prd.warm, mute := prd.mute : Desc } false) = true) ∧
    (s_1.descAt 9 3 DPhase.prov = none) ∧ (0 ≠ 3) ∧ (s_1.on (RNG_TXSTAT_OPEN 0) = true) ∧ (s_1.on (RNG_TXSTAT_WAIT 0) = false) ∧
    (s_2.domOn Dom.fabric = true) ∧ (s_2.domOn Dom.act = true) ∧ (s_2.waits d_1.eng 0 9 3 d_1 = true) ∧ (d_1.eng = 1 ∨ 7 ≤ d_1.eng) ∧
    (smFind s_2.rng.commits 0 = none) ∧ (s_2.on (RNG_TXSTAT_OPEN 0) = false) ∧ (s_3.domOn Dom.fabric = true) ∧ (s_3.domOn Dom.act = true) ∧
    (s_3.descAt 9 3 DPhase.timed = some d_2) ∧ (d_2.eng ≠ 1) ∧ (s_3.descFrozen d_2 = false) ∧ (s_3.sameTick d_2 = false) ∧
    ((s_3.setDesc { id := d_2.id, ring := d_2.ring, slot := d_2.slot, eng := d_2.eng, owner := d_2.owner, w0 := d_2.w0, w1 := d_2.w1, w2 := d_2.w2, w3 := d_2.w3, w4 := d_2.w4, w5 := d_2.w5, w6 := d_2.w6, phase := DPhase.ready, cond := s_3.condOf d_2 (false || d_2.due), wasTimed := true, due := d_2.due, conf := d_2.conf, req := d_2.req, aux := d_2.aux, warm := d_2.warm, mute := d_2.mute : Desc }).breaksPromise (((s_3.setDesc { id := d_2.id, ring := d_2.ring, slot := d_2.slot, eng := d_2.eng, owner := d_2.owner, w0 := d_2.w0, w1 := d_2.w1, w2 := d_2.w2, w3 := d_2.w3, w4 := d_2.w4, w5 := d_2.w5, w6 := d_2.w6, phase := DPhase.ready, cond := s_3.condOf d_2 (false || d_2.due), wasTimed := true, due := d_2.due, conf := d_2.conf, req := d_2.req, aux := d_2.aux, warm := d_2.warm, mute := d_2.mute : Desc }).confSupersede { id := d_2.id, ring := d_2.ring, slot := d_2.slot, eng := d_2.eng, owner := d_2.owner, w0 := d_2.w0, w1 := d_2.w1, w2 := d_2.w2, w3 := d_2.w3, w4 := d_2.w4, w5 := d_2.w5, w6 := d_2.w6, phase := DPhase.ready, cond := s_3.condOf d_2 (false || d_2.due), wasTimed := true, due := d_2.due, conf := d_2.conf, req := d_2.req, aux := d_2.aux, warm := d_2.warm, mute := d_2.mute : Desc }).actDesc { id := d_2.id, ring := d_2.ring, slot := d_2.slot, eng := d_2.eng, owner := d_2.owner, w0 := d_2.w0, w1 := d_2.w1, w2 := d_2.w2, w3 := d_2.w3, w4 := d_2.w4, w5 := d_2.w5, w6 := d_2.w6, phase := DPhase.ready, cond := s_3.condOf d_2 (false || d_2.due), wasTimed := true, due := d_2.due, conf := d_2.conf, req := d_2.req, aux := d_2.aux, warm := d_2.warm, mute := d_2.mute : Desc } false) = false) ∧
    (d_2.opcode = 0) ∧ (7 ≤ d_2.eng) ∧ (d_2.warm = false) ∧ (List.isEmpty s_3.rng.commits = true) ∧ (s_3.fld PCR_ENTRY_PHASE ≠ 1) ∧
    ((s_3.descs.all fun (x : Desc) => !x.conf) = true) ∧ (s_4.domOn Dom.fabric = true) ∧ (s_4.domOn Dom.act = true) ∧ (s_4.descAt 9 3 DPhase.timed = none) ∧
    (s_4.descAt 9 3 DPhase.provWait = some d_3) ∧ (s_4.descFrozen d_3 = false) ∧ (List.isEmpty s_4.rng.commits = true) ∧ (s_4.fld PCR_ENTRY_PHASE ≠ 1) ∧
    (s_5.domOn Dom.fabric = true) ∧ (s_5.domOn Dom.act = true) ∧ (smFind s_5.rng.commits 0 = some w_2) ∧ (s_5.descId w_2.id = some d_4) ∧ (w_2.point = 1) ∧
    (s_5.fencedBlock 0 = none) ∧ (s_6.domOn Dom.fabric = true) ∧ (s_6.domOn Dom.act = true) ∧ (smFind s_6.rng.commits 0 = some w_2) ∧
    (s_6.descId w_2.id = some d_4) ∧ (w_2.point ≠ 2) ∧ (s_6.fencedBlock 0 = some 4) ∧ (s_7.domOn Dom.fabric = true) ∧ (s_7.domOn Dom.act = true) ∧
    ((s_7.drainAll CoreId.a1.num).domOn Dom.fabric = true) ∧ (CoreId.a1.num = (s_7.drainAll CoreId.a1.num).fld (RNG_RCFG_OWNER 9)) ∧
    ((s_7.drainAll CoreId.a1.num).on (RNG_RCFG_EN 9) = true) ∧ ((s_7.drainAll CoreId.a1.num).fld (RNG_RSTAT_STATE 9) = 1) ∧
    (v_2.toNat < (s_7.drainAll CoreId.a1.num).ringSize 9) ∧ (3 ≠ 0) ∧ (s_7.rngHeld = false) ∧ (2 ≤ 3 → 3 ≤ 6 → s_7.pw.ready = true ∧ s_7.heldBy 3 < 64) ∧
    (s_7.nextRing 3 = none) ∧ ((s_7.drainAll CoreId.a1.num).ringSize 9 ≤ v_3.toNat) ∧ (s_8.domOn Dom.fabric = true) ∧ (s_8.domOn Dom.act = true) ∧
    (s_8.rngHeld = false) ∧ (2 ≤ 3 → 3 ≤ 6 → s_8.pw.ready = true ∧ s_8.heldBy 3 < 64) ∧ (s_8.nextRing 3 = some 9) ∧ (s_9.domOn Dom.fabric = true) ∧
    (s_9.domOn Dom.act = true) ∧ (s_9.rngHeld = true) ∧ (s_12.domOn Dom.fabric = true) ∧ (s_12.domOn Dom.act = true) ∧
    (s_12.descAt 9 3 DPhase.timed = some d_6) ∧ (d_6.eng ≠ 1) ∧ (s_12.descFrozen d_6 = false) ∧ (s_12.sameTick d_6 = true) ∧ (s_13.domOn Dom.fabric = true) ∧
    (s_13.domOn Dom.act = true) ∧ (s_13.descAt 9 3 DPhase.timed = some d_7) ∧ (s_13.descFrozen d_7 = true) ∧ (s_14.domOn Dom.fabric = true) ∧
    (s_14.domOn Dom.act = true) ∧ (s_14.descAt 9 3 DPhase.prov = some d_8) ∧ (s_15.domOn Dom.fabric = true) ∧ (s_15.domOn Dom.act = true) ∧
    (s_15.waits 1 1 9 3 d_9 = true) ∧ (s_15.fld PCR_ENTRY_PHASE ≠ 1) ∧ (s_15.beginBars d_9 = some x_4) ∧ (s_16.domOn Dom.fabric = true) ∧
    (s_16.domOn Dom.act = true) ∧ (s_16.waits 1 1 9 3 d_10 = true) ∧ (s_16.fld PCR_ENTRY_PHASE ≠ 1) ∧ (s_16.beginBars d_10 = none) ∧
    (s_17.domOn Dom.fabric = true) ∧ (s_17.domOn Dom.act = true) ∧ (s_17.waits 1 3 9 3 d_11 = true) ∧ (s_17.commitBars d_11 = some x_5) ∧
    (s_18.domOn Dom.fabric = true) ∧ (s_18.domOn Dom.act = true) ∧ (s_18.waits 1 3 9 3 d_11 = true) ∧ (s_18.commitBars d_11 = none) ∧
    (s_18.refuser d_11.owner = some y_2) ∧ (s_19.domOn Dom.fabric = true) ∧ (s_19.domOn Dom.act = true) ∧ (s_19.waits 1 3 9 3 d_11 = true) ∧
    (s_19.commitBars d_11 = none) ∧ (s_19.refuser d_11.owner = none) ∧ (s_20.domOn Dom.fabric = true) ∧ (s_20.domOn Dom.act = true) ∧
    (smFind s_20.rng.commits 0 = some w_1) ∧ (s_20.descId w_1.id = some d_4) ∧ (w_1.point = 0) ∧ (s_20.fencedBlock 0 = none) ∧ (s_21.domOn Dom.fabric = true) ∧
    (s_21.domOn Dom.act = true) ∧ (smFind s_21.rng.commits 0 = some w_3) ∧ (s_21.descId w_3.id = some d_4) ∧ (w_3.point = 2) ∧
    (s_21.grpRuns w_3.group = false) ∧ (s_22.domOn Dom.fabric = true) ∧ (s_22.domOn Dom.act = true) ∧ (s_22.waits 1 4 9 3 d_12 = true) ∧ (d_12.w2 = 0) ∧
    (d_12.w3 = 0) ∧ (d_12.w4 = 0) ∧ (s_22.on (RNG_TXSTAT_OPEN d_12.owner) = false) ∧ (s_23.domOn Dom.fabric = true) ∧ (s_23.domOn Dom.act = true) ∧
    (s_23.waits 1 4 9 3 d_12 = true) ∧ (s_23.on (RNG_TXSTAT_OPEN d_12.owner) = true) ∧ (smFind s_23.rng.commits d_12.owner = none) ∧
    (s_24.domOn Dom.fabric = true) ∧ (s_24.domOn Dom.act = true) ∧ (s_24.waits 1 4 9 3 d_12 = true) ∧ (s_24.on (RNG_TXSTAT_OPEN d_12.owner) = true) ∧
    (smFind s_24.rng.commits d_12.owner = some w_4) ∧ (s_24.descId w_4.id = some p_2) := by
  and_intros <;> decide +kernel

/-- Premises of RemoteRingAgent are met. -/
theorem test_premises_RemoteRingAgent :
    (s_25.domOn Dom.fabric = true) ∧ (s_25.rngHeld = false) ∧ (s_25.zsw.agentIn = (2, b_1) :: l_1) ∧
    (byteField (List.drop (s_25.zHead 2 b_1 none).off b_1) 0 1 = 17) ∧ (byteField (List.drop (s_25.zHead 2 b_1 none).off b_1) 1 1 ≤ 3) ∧
    (1 ≤ byteField (List.drop (s_25.zHead 2 b_1 none).off b_1) 3 1) ∧ (byteField (List.drop (s_25.zHead 2 b_1 none).off b_1) 3 1 ≤ 8) ∧
    (10 + 24 * byteField (List.drop (s_25.zHead 2 b_1 none).off b_1) 3 1 + 8 ≤ (List.drop (s_25.zHead 2 b_1 none).off b_1).length) ∧
    (s_25.on (RNG_SCTL_EN (byteField (List.drop (s_25.zHead 2 b_1 none).off b_1) 1 1)) = true) ∧
    (sliceD (List.drop (s_25.zHead 2 b_1 none).off b_1) (10 + 24 * byteField (List.drop (s_25.zHead 2 b_1 none).off b_1) 3 1) 8 0 = (s_25.modZsw fun (z : Zsw) => { out := z.out, retired := z.retired, badRows := z.badRows, frames := z.frames, nextId := z.nextId, queues := z.queues, sending := z.sending, line := z.line, lineBad := z.lineBad, avg := z.avg, macs := z.macs, lfsr := z.lfsr, holdAt := z.holdAt, fromHold := z.fromHold, binds := z.binds, census := z.census, moveDue := z.moveDue, agentIn := l_1, p9in := z.p9in, appFrame := z.appFrame : Zsw }).slotTag (byteField (List.drop (s_25.zHead 2 b_1 none).off b_1) 1 1) (List.take (10 + 24 * byteField (List.drop (s_25.zHead 2 b_1 none).off b_1) 3 1) (List.drop (s_25.zHead 2 b_1 none).off b_1))) ∧
    (byteField (List.drop (s_25.zHead 2 b_1 none).off b_1) 4 4 ≤ (s_25.modZsw fun (z : Zsw) => { out := z.out, retired := z.retired, badRows := z.badRows, frames := z.frames, nextId := z.nextId, queues := z.queues, sending := z.sending, line := z.line, lineBad := z.lineBad, avg := z.avg, macs := z.macs, lfsr := z.lfsr, holdAt := z.holdAt, fromHold := z.fromHold, binds := z.binds, census := z.census, moveDue := z.moveDue, agentIn := l_1, p9in := z.p9in, appFrame := z.appFrame : Zsw }).shf (byteField (List.drop (s_25.zHead 2 b_1 none).off b_1) 1 1)) ∧
    (lGet s_25.rng.gather 0 = []) ∧ (s_26.domOn Dom.fabric = true) ∧ (s_26.rngHeld = false) ∧ (s_26.zsw.agentIn = (2, b_2) :: l_2) ∧
    (byteField (List.drop (s_26.zHead 2 b_2 none).off b_2) 0 1 = 17) ∧ (byteField (List.drop (s_26.zHead 2 b_2 none).off b_2) 1 1 ≤ 3) ∧
    (1 ≤ byteField (List.drop (s_26.zHead 2 b_2 none).off b_2) 3 1) ∧ (byteField (List.drop (s_26.zHead 2 b_2 none).off b_2) 3 1 ≤ 8) ∧
    (10 + 24 * byteField (List.drop (s_26.zHead 2 b_2 none).off b_2) 3 1 + 8 ≤ (List.drop (s_26.zHead 2 b_2 none).off b_2).length) ∧
    (s_26.on (RNG_SCTL_EN (byteField (List.drop (s_26.zHead 2 b_2 none).off b_2) 1 1)) = true) ∧
    (sliceD (List.drop (s_26.zHead 2 b_2 none).off b_2) (10 + 24 * byteField (List.drop (s_26.zHead 2 b_2 none).off b_2) 3 1) 8 0 = (s_26.modZsw fun (z : Zsw) => { out := z.out, retired := z.retired, badRows := z.badRows, frames := z.frames, nextId := z.nextId, queues := z.queues, sending := z.sending, line := z.line, lineBad := z.lineBad, avg := z.avg, macs := z.macs, lfsr := z.lfsr, holdAt := z.holdAt, fromHold := z.fromHold, binds := z.binds, census := z.census, moveDue := z.moveDue, agentIn := l_2, p9in := z.p9in, appFrame := z.appFrame : Zsw }).slotTag (byteField (List.drop (s_26.zHead 2 b_2 none).off b_2) 1 1) (List.take (10 + 24 * byteField (List.drop (s_26.zHead 2 b_2 none).off b_2) 3 1) (List.drop (s_26.zHead 2 b_2 none).off b_2))) ∧
    ((s_26.modZsw fun (z : Zsw) => { out := z.out, retired := z.retired, badRows := z.badRows, frames := z.frames, nextId := z.nextId, queues := z.queues, sending := z.sending, line := z.line, lineBad := z.lineBad, avg := z.avg, macs := z.macs, lfsr := z.lfsr, holdAt := z.holdAt, fromHold := z.fromHold, binds := z.binds, census := z.census, moveDue := z.moveDue, agentIn := l_2, p9in := z.p9in, appFrame := z.appFrame : Zsw }).shf (byteField (List.drop (s_26.zHead 2 b_2 none).off b_2) 1 1) < byteField (List.drop (s_26.zHead 2 b_2 none).off b_2) 4 4) ∧
    (byteField (List.drop (s_26.zHead 2 b_2 none).off b_2) 2 1 < 56 ∨ 63 < byteField (List.drop (s_26.zHead 2 b_2 none).off b_2) 2 1 ∨ ((s_26.modZsw fun (z : Zsw) => { out := z.out, retired := z.retired, badRows := z.badRows, frames := z.frames, nextId := z.nextId, queues := z.queues, sending := z.sending, line := z.line, lineBad := z.lineBad, avg := z.avg, macs := z.macs, lfsr := z.lfsr, holdAt := z.holdAt, fromHold := z.fromHold, binds := z.binds, census := z.census, moveDue := z.moveDue, agentIn := l_2, p9in := z.p9in, appFrame := z.appFrame : Zsw }).noteReply (byteField (List.drop (s_26.zHead 2 b_2 none).off b_2) 1 1) ((s_26.modZsw fun (z : Zsw) => { out := z.out, retired := z.retired, badRows := z.badRows, frames := z.frames, nextId := z.nextId, queues := z.queues, sending := z.sending, line := z.line, lineBad := z.lineBad, avg := z.avg, macs := z.macs, lfsr := z.lfsr, holdAt := z.holdAt, fromHold := z.fromHold, binds := z.binds, census := z.census, moveDue := z.moveDue, agentIn := l_2, p9in := z.p9in, appFrame := z.appFrame : Zsw }).zHead 2 b_2 none) (byteField (List.drop (s_26.zHead 2 b_2 none).off b_2) 4 4)).fld (RNG_RCFG_OWNER (byteField (List.drop (s_26.zHead 2 b_2 none).off b_2) 2 1)) ≠ 4 + byteField (List.drop (s_26.zHead 2 b_2 none).off b_2) 1 1) ∧
    (s_27.domOn Dom.fabric = true) ∧ (s_27.rngHeld = false) ∧ (s_27.zsw.agentIn = (2, b_3) :: l_3) ∧
    (byteField (List.drop (s_27.zHead 2 b_3 none).off b_3) 0 1 = 17) ∧ (byteField (List.drop (s_27.zHead 2 b_3 none).off b_3) 1 1 ≤ 3) ∧
    (1 ≤ byteField (List.drop (s_27.zHead 2 b_3 none).off b_3) 3 1) ∧ (byteField (List.drop (s_27.zHead 2 b_3 none).off b_3) 3 1 ≤ 8) ∧
    (10 + 24 * byteField (List.drop (s_27.zHead 2 b_3 none).off b_3) 3 1 + 8 ≤ (List.drop (s_27.zHead 2 b_3 none).off b_3).length) ∧
    (s_27.on (RNG_SCTL_EN (byteField (List.drop (s_27.zHead 2 b_3 none).off b_3) 1 1)) = true) ∧
    (sliceD (List.drop (s_27.zHead 2 b_3 none).off b_3) (10 + 24 * byteField (List.drop (s_27.zHead 2 b_3 none).off b_3) 3 1) 8 0 = (s_27.modZsw fun (z : Zsw) => { out := z.out, retired := z.retired, badRows := z.badRows, frames := z.frames, nextId := z.nextId, queues := z.queues, sending := z.sending, line := z.line, lineBad := z.lineBad, avg := z.avg, macs := z.macs, lfsr := z.lfsr, holdAt := z.holdAt, fromHold := z.fromHold, binds := z.binds, census := z.census, moveDue := z.moveDue, agentIn := l_3, p9in := z.p9in, appFrame := z.appFrame : Zsw }).slotTag (byteField (List.drop (s_27.zHead 2 b_3 none).off b_3) 1 1) (List.take (10 + 24 * byteField (List.drop (s_27.zHead 2 b_3 none).off b_3) 3 1) (List.drop (s_27.zHead 2 b_3 none).off b_3))) ∧
    ((s_27.modZsw fun (z : Zsw) => { out := z.out, retired := z.retired, badRows := z.badRows, frames := z.frames, nextId := z.nextId, queues := z.queues, sending := z.sending, line := z.line, lineBad := z.lineBad, avg := z.avg, macs := z.macs, lfsr := z.lfsr, holdAt := z.holdAt, fromHold := z.fromHold, binds := z.binds, census := z.census, moveDue := z.moveDue, agentIn := l_3, p9in := z.p9in, appFrame := z.appFrame : Zsw }).shf (byteField (List.drop (s_27.zHead 2 b_3 none).off b_3) 1 1) < byteField (List.drop (s_27.zHead 2 b_3 none).off b_3) 4 4) ∧
    (56 ≤ byteField (List.drop (s_27.zHead 2 b_3 none).off b_3) 2 1) ∧ (byteField (List.drop (s_27.zHead 2 b_3 none).off b_3) 2 1 ≤ 63) ∧
    (((s_27.modZsw fun (z : Zsw) => { out := z.out, retired := z.retired, badRows := z.badRows, frames := z.frames, nextId := z.nextId, queues := z.queues, sending := z.sending, line := z.line, lineBad := z.lineBad, avg := z.avg, macs := z.macs, lfsr := z.lfsr, holdAt := z.holdAt, fromHold := z.fromHold, binds := z.binds, census := z.census, moveDue := z.moveDue, agentIn := l_3, p9in := z.p9in, appFrame := z.appFrame : Zsw }).noteReply (byteField (List.drop (s_27.zHead 2 b_3 none).off b_3) 1 1) ((s_27.modZsw fun (z : Zsw) => { out := z.out, retired := z.retired, badRows := z.badRows, frames := z.frames, nextId := z.nextId, queues := z.queues, sending := z.sending, line := z.line, lineBad := z.lineBad, avg := z.avg, macs := z.macs, lfsr := z.lfsr, holdAt := z.holdAt, fromHold := z.fromHold, binds := z.binds, census := z.census, moveDue := z.moveDue, agentIn := l_3, p9in := z.p9in, appFrame := z.appFrame : Zsw }).zHead 2 b_3 none) (byteField (List.drop (s_27.zHead 2 b_3 none).off b_3) 4 4)).fld (RNG_RCFG_OWNER (byteField (List.drop (s_27.zHead 2 b_3 none).off b_3) 2 1)) = 4 + byteField (List.drop (s_27.zHead 2 b_3 none).off b_3) 1 1) ∧
    (((s_27.modZsw fun (z : Zsw) => { out := z.out, retired := z.retired, badRows := z.badRows, frames := z.frames, nextId := z.nextId, queues := z.queues, sending := z.sending, line := z.line, lineBad := z.lineBad, avg := z.avg, macs := z.macs, lfsr := z.lfsr, holdAt := z.holdAt, fromHold := z.fromHold, binds := z.binds, census := z.census, moveDue := z.moveDue, agentIn := l_3, p9in := z.p9in, appFrame := z.appFrame : Zsw }).noteReply (byteField (List.drop (s_27.zHead 2 b_3 none).off b_3) 1 1) ((s_27.modZsw fun (z : Zsw) => { out := z.out, retired := z.retired, badRows := z.badRows, frames := z.frames, nextId := z.nextId, queues := z.queues, sending := z.sending, line := z.line, lineBad := z.lineBad, avg := z.avg, macs := z.macs, lfsr := z.lfsr, holdAt := z.holdAt, fromHold := z.fromHold, binds := z.binds, census := z.census, moveDue := z.moveDue, agentIn := l_3, p9in := z.p9in, appFrame := z.appFrame : Zsw }).zHead 2 b_3 none) (byteField (List.drop (s_27.zHead 2 b_3 none).off b_3) 4 4)).on (RNG_RCFG_EN (byteField (List.drop (s_27.zHead 2 b_3 none).off b_3) 2 1)) = true) ∧
    (((s_27.modZsw fun (z : Zsw) => { out := z.out, retired := z.retired, badRows := z.badRows, frames := z.frames, nextId := z.nextId, queues := z.queues, sending := z.sending, line := z.line, lineBad := z.lineBad, avg := z.avg, macs := z.macs, lfsr := z.lfsr, holdAt := z.holdAt, fromHold := z.fromHold, binds := z.binds, census := z.census, moveDue := z.moveDue, agentIn := l_3, p9in := z.p9in, appFrame := z.appFrame : Zsw }).noteReply (byteField (List.drop (s_27.zHead 2 b_3 none).off b_3) 1 1) ((s_27.modZsw fun (z : Zsw) => { out := z.out, retired := z.retired, badRows := z.badRows, frames := z.frames, nextId := z.nextId, queues := z.queues, sending := z.sending, line := z.line, lineBad := z.lineBad, avg := z.avg, macs := z.macs, lfsr := z.lfsr, holdAt := z.holdAt, fromHold := z.fromHold, binds := z.binds, census := z.census, moveDue := z.moveDue, agentIn := l_3, p9in := z.p9in, appFrame := z.appFrame : Zsw }).zHead 2 b_3 none) (byteField (List.drop (s_27.zHead 2 b_3 none).off b_3) 4 4)).fld (RNG_RSTAT_STATE (byteField (List.drop (s_27.zHead 2 b_3 none).off b_3) 2 1)) = 1) ∧
    (((List.range (8 * byteField (List.drop (s_27.zHead 2 b_3 none).off b_3) 3 1)).all fun (j : Nat) => decide (byteField (List.drop (s_27.zHead 2 b_3 none).off b_3) (10 + 3 * j) 1 < 4)) = true) ∧
    (((s_27.modZsw fun (z : Zsw) => { out := z.out, retired := z.retired, badRows := z.badRows, frames := z.frames, nextId := z.nextId, queues := z.queues, sending := z.sending, line := z.line, lineBad := z.lineBad, avg := z.avg, macs := z.macs, lfsr := z.lfsr, holdAt := z.holdAt, fromHold := z.fromHold, binds := z.binds, census := z.census, moveDue := z.moveDue, agentIn := l_3, p9in := z.p9in, appFrame := z.appFrame : Zsw }).noteReply (byteField (List.drop (s_27.zHead 2 b_3 none).off b_3) 1 1) ((s_27.modZsw fun (z : Zsw) => { out := z.out, retired := z.retired, badRows := z.badRows, frames := z.frames, nextId := z.nextId, queues := z.queues, sending := z.sending, line := z.line, lineBad := z.lineBad, avg := z.avg, macs := z.macs, lfsr := z.lfsr, holdAt := z.holdAt, fromHold := z.fromHold, binds := z.binds, census := z.census, moveDue := z.moveDue, agentIn := l_3, p9in := z.p9in, appFrame := z.appFrame : Zsw }).zHead 2 b_3 none) (byteField (List.drop (s_27.zHead 2 b_3 none).off b_3) 4 4)).slotOpen (byteField (List.drop (s_27.zHead 2 b_3 none).off b_3) 1 1) + byteField (List.drop (s_27.zHead 2 b_3 none).off b_3) 3 1 ≤ if ((s_27.modZsw fun (z : Zsw) => { out := z.out, retired := z.retired, badRows := z.badRows, frames := z.frames, nextId := z.nextId, queues := z.queues, sending := z.sending, line := z.line, lineBad := z.lineBad, avg := z.avg, macs := z.macs, lfsr := z.lfsr, holdAt := z.holdAt, fromHold := z.fromHold, binds := z.binds, census := z.census, moveDue := z.moveDue, agentIn := l_3, p9in := z.p9in, appFrame := z.appFrame : Zsw }).noteReply (byteField (List.drop (s_27.zHead 2 b_3 none).off b_3) 1 1) ((s_27.modZsw fun (z : Zsw) => { out := z.out, retired := z.retired, badRows := z.badRows, frames := z.frames, nextId := z.nextId, queues := z.queues, sending := z.sending, line := z.line, lineBad := z.lineBad, avg := z.avg, macs := z.macs, lfsr := z.lfsr, holdAt := z.holdAt, fromHold := z.fromHold, binds := z.binds, census := z.census, moveDue := z.moveDue, agentIn := l_3, p9in := z.p9in, appFrame := z.appFrame : Zsw }).zHead 2 b_3 none) (byteField (List.drop (s_27.zHead 2 b_3 none).off b_3) 4 4)).fld (RNG_SCTL_LIMIT (byteField (List.drop (s_27.zHead 2 b_3 none).off b_3) 1 1)) = 0 then 64 else ((s_27.modZsw fun (z : Zsw) => { out := z.out, retired := z.retired, badRows := z.badRows, frames := z.frames, nextId := z.nextId, queues := z.queues, sending := z.sending, line := z.line, lineBad := z.lineBad, avg := z.avg, macs := z.macs, lfsr := z.lfsr, holdAt := z.holdAt, fromHold := z.fromHold, binds := z.binds, census := z.census, moveDue := z.moveDue, agentIn := l_3, p9in := z.p9in, appFrame := z.appFrame : Zsw }).noteReply (byteField (List.drop (s_27.zHead 2 b_3 none).off b_3) 1 1) ((s_27.modZsw fun (z : Zsw) => { out := z.out, retired := z.retired, badRows := z.badRows, frames := z.frames, nextId := z.nextId, queues := z.queues, sending := z.sending, line := z.line, lineBad := z.lineBad, avg := z.avg, macs := z.macs, lfsr := z.lfsr, holdAt := z.holdAt, fromHold := z.fromHold, binds := z.binds, census := z.census, moveDue := z.moveDue, agentIn := l_3, p9in := z.p9in, appFrame := z.appFrame : Zsw }).zHead 2 b_3 none) (byteField (List.drop (s_27.zHead 2 b_3 none).off b_3) 4 4)).fld (RNG_SCTL_LIMIT (byteField (List.drop (s_27.zHead 2 b_3 none).off b_3) 1 1))) ∧
    ((((s_27.modZsw fun (z : Zsw) => { out := z.out, retired := z.retired, badRows := z.badRows, frames := z.frames, nextId := z.nextId, queues := z.queues, sending := z.sending, line := z.line, lineBad := z.lineBad, avg := z.avg, macs := z.macs, lfsr := z.lfsr, holdAt := z.holdAt, fromHold := z.fromHold, binds := z.binds, census := z.census, moveDue := z.moveDue, agentIn := l_3, p9in := z.p9in, appFrame := z.appFrame : Zsw }).noteReply (byteField (List.drop (s_27.zHead 2 b_3 none).off b_3) 1 1) ((s_27.modZsw fun (z : Zsw) => { out := z.out, retired := z.retired, badRows := z.badRows, frames := z.frames, nextId := z.nextId, queues := z.queues, sending := z.sending, line := z.line, lineBad := z.lineBad, avg := z.avg, macs := z.macs, lfsr := z.lfsr, holdAt := z.holdAt, fromHold := z.fromHold, binds := z.binds, census := z.census, moveDue := z.moveDue, agentIn := l_3, p9in := z.p9in, appFrame := z.appFrame : Zsw }).zHead 2 b_3 none) (byteField (List.drop (s_27.zHead 2 b_3 none).off b_3) 4 4)).reqSlots (byteField (List.drop (s_27.zHead 2 b_3 none).off b_3) 2 1) (byteField (List.drop (s_27.zHead 2 b_3 none).off b_3) 3 1)).all (((s_27.modZsw fun (z : Zsw) => { out := z.out, retired := z.retired, badRows := z.badRows, frames := z.frames, nextId := z.nextId, queues := z.queues, sending := z.sending, line := z.line, lineBad := z.lineBad, avg := z.avg, macs := z.macs, lfsr := z.lfsr, holdAt := z.holdAt, fromHold := z.fromHold, binds := z.binds, census := z.census, moveDue := z.moveDue, agentIn := l_3, p9in := z.p9in, appFrame := z.appFrame : Zsw }).noteReply (byteField (List.drop (s_27.zHead 2 b_3 none).off b_3) 1 1) ((s_27.modZsw fun (z : Zsw) => { out := z.out, retired := z.retired, badRows := z.badRows, frames := z.frames, nextId := z.nextId, queues := z.queues, sending := z.sending, line := z.line, lineBad := z.lineBad, avg := z.avg, macs := z.macs, lfsr := z.lfsr, holdAt := z.holdAt, fromHold := z.fromHold, binds := z.binds, census := z.census, moveDue := z.moveDue, agentIn := l_3, p9in := z.p9in, appFrame := z.appFrame : Zsw }).zHead 2 b_3 none) (byteField (List.drop (s_27.zHead 2 b_3 none).off b_3) 4 4)).slotFree (byteField (List.drop (s_27.zHead 2 b_3 none).off b_3) 2 1)) = true) ∧
    (s_28.domOn Dom.fabric = true) ∧ (s_28.rngHeld = false) ∧ (s_28.zsw.agentIn = (2, b_4) :: l_4) ∧
    (byteField (List.drop (s_28.zHead 2 b_4 none).off b_4) 0 1 ≠ 17 ∨ 3 < byteField (List.drop (s_28.zHead 2 b_4 none).off b_4) 1 1 ∨ byteField (List.drop (s_28.zHead 2 b_4 none).off b_4) 3 1 = 0 ∨ 8 < byteField (List.drop (s_28.zHead 2 b_4 none).off b_4) 3 1 ∨ (List.drop (s_28.zHead 2 b_4 none).off b_4).length < 10 + 24 * byteField (List.drop (s_28.zHead 2 b_4 none).off b_4) 3 1 + 8) ∧
    (s_29.domOn Dom.fabric = true) ∧ (s_29.rngHeld = false) ∧ (s_29.zsw.agentIn = (2, b_5) :: l_5) ∧
    (byteField (List.drop (s_29.zHead 2 b_5 none).off b_5) 0 1 = 17) ∧ (byteField (List.drop (s_29.zHead 2 b_5 none).off b_5) 1 1 ≤ 3) ∧
    (1 ≤ byteField (List.drop (s_29.zHead 2 b_5 none).off b_5) 3 1) ∧ (byteField (List.drop (s_29.zHead 2 b_5 none).off b_5) 3 1 ≤ 8) ∧
    (10 + 24 * byteField (List.drop (s_29.zHead 2 b_5 none).off b_5) 3 1 + 8 ≤ (List.drop (s_29.zHead 2 b_5 none).off b_5).length) ∧
    (s_29.on (RNG_SCTL_EN (byteField (List.drop (s_29.zHead 2 b_5 none).off b_5) 1 1)) = false) ∧ (s_30.domOn Dom.fabric = true) ∧ (s_30.rngHeld = false) ∧
    (s_30.zsw.agentIn = (2, b_5) :: l_5) ∧ (byteField (List.drop (s_30.zHead 2 b_5 none).off b_5) 0 1 = 17) ∧
    (byteField (List.drop (s_30.zHead 2 b_5 none).off b_5) 1 1 ≤ 3) ∧ (1 ≤ byteField (List.drop (s_30.zHead 2 b_5 none).off b_5) 3 1) ∧
    (byteField (List.drop (s_30.zHead 2 b_5 none).off b_5) 3 1 ≤ 8) ∧
    (10 + 24 * byteField (List.drop (s_30.zHead 2 b_5 none).off b_5) 3 1 + 8 ≤ (List.drop (s_30.zHead 2 b_5 none).off b_5).length) ∧
    (s_30.on (RNG_SCTL_EN (byteField (List.drop (s_30.zHead 2 b_5 none).off b_5) 1 1)) = true) ∧
    (sliceD (List.drop (s_30.zHead 2 b_5 none).off b_5) (10 + 24 * byteField (List.drop (s_30.zHead 2 b_5 none).off b_5) 3 1) 8 0 ≠ s_30.slotTag (byteField (List.drop (s_30.zHead 2 b_5 none).off b_5) 1 1) (List.take (10 + 24 * byteField (List.drop (s_30.zHead 2 b_5 none).off b_5) 3 1) (List.drop (s_30.zHead 2 b_5 none).off b_5))) ∧
    (s_31.domOn Dom.fabric = true) ∧ (s_31.rngHeld = false) ∧ (s_31.zsw.agentIn = []) ∧ (s_32.domOn Dom.fabric = true) ∧ (s_32.rngHeld = false) ∧
    (lGet s_32.rng.gather 2 ≠ []) := by
  and_intros <;> decide +kernel

/-- Premises of FaultHandling are met. -/
theorem test_premises_FaultHandling :
    (s_33.domOn Dom.fabric = true) ∧ (s_33.domOn (fltDom 4) = true) ∧ (1 ≤ 8) ∧ (CoreId.a1 ≠ CoreId.s) ∧
    (List.find? s_33.unitFenced (s_33.unitsOf 4 (BitVec.toNat i_1)) = none) ∧ (s_33.domOn (unitDom 4 (BitVec.toNat i_1) none) = true) ∧
    (s_33.on FLT_SPCTL_EN = false) ∧
    (((List.range 16).all fun (k : Nat) => decide (nGet s_33.flt.shed (k * 2) = 0 ∧ nGet s_33.flt.shed (k * 2 + 1) = 0)) = true) ∧ (s_33.flt.mirror = []) ∧
    (8 < 9) ∧ (s_34.domOn Dom.fabric = true) ∧ (s_34.domOn (fltDom 4) = false) ∧
    (s_34.domOn (unitDom 4 (BitVec.toNat i_1) (List.find? s_34.unitFenced (s_34.unitsOf 4 (BitVec.toNat i_1)))) = false) ∧ (s_35.domOn Dom.fabric = true) ∧
    (List.find? s_35.unitFenced (s_35.unitsOf 4 (BitVec.toNat i_1)) = some f_2) ∧ (s_35.domOn (unitDom 4 (BitVec.toNat i_1) (some f_2)) = true) ∧
    (bGet s_35.flt.fenced (2 ^ 16 + f_2.key) = false) ∧ (s_35.unackHigh 4 = false) ∧ (s_36.domOn Dom.fabric = true) ∧
    (List.find? s_36.unitFenced (s_36.unitsOf 4 (BitVec.toNat i_1)) = some f_2) ∧ (s_36.domOn (unitDom 4 (BitVec.toNat i_1) (some f_2)) = true) ∧
    (bGet s_36.flt.fenced (2 ^ 16 + f_2.key) = false) ∧ (s_36.unackHigh 4 = true) ∧ (s_37.domOn Dom.fabric = true) ∧
    (List.find? s_37.unitFenced (s_37.unitsOf 4 (BitVec.toNat i_1)) = some f_2) ∧ (s_37.domOn (unitDom 4 (BitVec.toNat i_1) (some f_2)) = true) ∧
    (bGet s_37.flt.fenced (2 ^ 16 + f_2.key) = true) ∧ (s_38.domOn Dom.fabric = true) ∧ (s_38.on FLT_SPCTL_EN = true) ∧ (s_38.flt.sinceSync < 1024) ∧
    (s_38.spoolMove.flt.fifo = []) ∧ (s_40.domOn Dom.fabric = true) ∧ (s_40.on FLT_SPCTL_EN = true) ∧ (s_40.flt.sinceSync < 1024) ∧
    (s_40.spoolMove.flt.fifo = r_2 :: l_8) ∧ (s_41.domOn Dom.fabric = true) ∧
    (List.filter (fun (k : Nat) => decide (0 < nGet s_41.flt.shed (k * 2) ∨ 0 < nGet s_41.flt.shed (k * 2 + 1))) (List.range 16) ≠ []) ∧
    (s_42.domOn Dom.fabric = true) ∧ (s_42.on FLT_SPCTL_EN = true) ∧ (1024 ≤ s_42.flt.sinceSync) ∧ (s_42.domOn Dom.act = true) ∧
    (s_43.domOn Dom.fabric = true) ∧ (s_43.flt.mirror ≠ []) ∧ ((s_43.offerP8 s_43.mirrorBytes).2 = false) := by
  and_intros <;> decide +kernel

end Wit.Rng

namespace Wit.Acc
def ad (op tgt w2 w3 w4 : Nat) : Desc := { wdesc 6 op tgt with w2 := toWord w2, w3 := toWord w3, w4 := toWord w4 }
def as_ (ds : List Desc) (l : List (FRef × Nat)) (f : Option Nat) (x : LfCh) : State :=
  (((wst l).withD ds).modAcc (fun a => { a with field := f })).modLf 2 (fun _ => x)
def A0 : LfCh := {}
def rdD : Desc := { ad 2 2 5 0 0 with ring := 64, phase := .running }
def s_1 : State := as_ [ad 1 2 0 100 0] [] none A0
def d_1 : Desc := ad 1 2 0 100 0
def id_1 : BitVec 32 := 0
def crc_1 : Byte := 0
def rk_1 : BitVec 64 := 0
def s_2 : State := as_ [ad 1 2 0 100 0] [(ACC_LFCFG_EN 2, 1)] none A0
def s_3 : State := as_ [ad 1 2 0 100 0] [(ACC_LFCFG_EN 2, 1)] (some 1) A0
def s_4 : State := as_ [ad 4 2 0 100 0] [] none A0
def d_2 : Desc := ad 4 2 0 100 0
def s_5 : State := (as_ [ad 4 2 0 100 0] [(ACC_LFCFG_EN 2, 1)] none A0).modAcc (fun a => {a with shadow := some []})
def s_6 : State := (as_ [ad 4 2 0 100 0] [(ACC_LFCFG_EN 2, 1)] (some 1) A0).modAcc (fun a => {a with shadow := some []})
def s_7 : State := as_ [ad 5 2 0 0 0] [] none A0
def d_3 : Desc := ad 5 2 0 0 0
def s_8 : State := as_ [ad 5 2 0 0 0] [(ACC_LFCFG_EN 2, 1)] none A0
def s_9 : State := as_ [ad 5 2 0 0 0] [(ACC_LFCFG_EN 2, 1)] (some 1) A0
def s_10 : State := as_ [ad 2 2 5 0 0] [] (some 2) { step := .session }
def d_4 : Desc := ad 2 2 5 0 0
def s_11 : State := as_ [ad 3 2 5 7 9] [] (some 2) { step := .session }
def d_5 : Desc := ad 3 2 5 7 9
def s_12 : State := as_ [ad 2 2 5 0 0] [] none A0
def s_13 : State := as_ [ad 6 2 0 0 0] [] none {therm := true}
def d_6 : Desc := ad 6 2 0 0 0
def s_14 : State := as_ [ad 6 2 0 0 0] [] none {latched := true}
def s_15 : State := (as_ [ad 6 2 0 0 0] [] none {latched := true}).modFlt (fun x => {x with fenced := [(14*256+2, true), ((FUnit.target 6 2).key, true)]})
def s_16 : State := as_ [ad 7 2 0 0 0] [] (some 2) {step := .session}
def d_7 : Desc := ad 7 2 0 0 0
def s_17 : State := as_ [ad 7 2 0 0 0] [] none {}
def s_18 : State := as_ [] [] (some 2) {step := .wake}
def d_8 : Desc := { wdesc 15 63 999 with ring := 63, slot := 1023 }
def id_2 : BitVec 32 := 77
def ofs_1 : BitVec 32 := 200
def crc_2 : Byte := BitVec.ofNat 8 (keyCrc (numBytes 4 77))
def crc_3 : Byte := BitVec.ofNat 8 (keyCrc (numBytes 4 77)) + 1
def s_19 : State := as_ [] [] (some 2) {step := .challenge}
def crc_4 : Byte := BitVec.ofNat 8 (keyCrc (numBytes 8 0 ++ ((aesEnc (numBytes 16 0) (numBytes 16 0)).take 8)))
def tk_1 : BitVec 64 := BitVec.ofNat 64 (bytesNum ((aesEnc (numBytes 16 0) (numBytes 16 0)).take 8))
def crc_5 : Byte := 9
def s_20 : State := as_ [] [] (some 2) {step := .confirm}
def crc_6 : Byte := BitVec.ofNat 8 (keyCrc [0])
def status_1 : Byte := 1
def s_21 : State := as_ [] [] (some 2) {step := .personalise}
def s_22 : State := as_ [] [] (some 2) {step := .write}
def crc_7 : Byte := BitVec.ofNat 8 (keyCrc [3])
def status_2 : Byte := 3
def s_23 : State := as_ [rdD] [] (some 2) {step := .read, own := some 1}
def crc_8 : Byte := BitVec.ofNat 8 (keyCrc (numBytes 4 0 ++ numBytes 4 (bytesNum (({} : LfCh).mac (numBytes 4 0)))))
def mac_1 : BitVec 32 := BitVec.ofNat 32 (bytesNum (({} : LfCh).mac (numBytes 4 0)))
def s_24 : State := as_ [] [] (some 2) {step := .session}
def s_25 : State := as_ [] [] (some 2) {step := .diag}
def s_26 : State := as_ [] [(ACC_LFCFG_ATUNE 2, 1)] (some 2) {step := .diag}
def s_27 : State := {wst [(ACC_PCFG_SVCEN, 1)] with pw := {(wst []).pw with mode := .run}}
def s_28 : State := {wst [(ACC_PCFG_SVCEN, 1)] with pw := {(wst []).pw with mode := .run}}.modAcc (fun a => {a with pres := some 5})
def s_29 : State := wst [(ACC_PCFG_SVCEN, 0), (ACC_PCFG_BTNEN, 1), (ACC_PCFG_SEALEN, 1), (ACC_PBTN_KL15, 0)]
def s_30 : State := wst [(ACC_PCFG_SVCEN, 0), (ACC_PCFG_BTNEN, 0), (ACC_PCFG_SEALEN, 0)]
def s_31 : State := (wst []).modAcc (fun a => {a with crypto := some 2})
def s_32 : State := (wst []).modAcc (fun a => {a with pres := some 2, shadow := some []})
def s_33 : State := (wst []).modAcc (fun a => {a with kstore := some 2})
def s_34 : State := {wst [] with pw := {(wst []).pw with mode := .rest}}


/-- Premises of KeyFields are met. -/
theorem test_premises_KeyFields :
    (s_1.domOn Dom.act = true) ∧ (s_1.ready 6 1 9 3 d_1 = true) ∧ ((s_1.lfSupersede d_1.target).lfRefuse d_1 = some stDenied) ∧
    ((s_1.lf 2).step ≠ LfStep.wake) ∧ (s_1.acc.field = none) ∧ ((s_1.lf 2).therm = false) ∧ (s_1.isFenced 14 2 = false) ∧ (s_2.domOn Dom.act = true) ∧
    (s_2.ready 6 1 9 3 d_1 = true) ∧ ((s_2.lfSupersede d_1.target).lfRefuse d_1 = none) ∧ ((s_2.lfSupersede d_1.target).acc.field = none) ∧
    (s_3.domOn Dom.act = true) ∧ (s_3.ready 6 1 9 3 d_1 = true) ∧ ((s_3.lfSupersede d_1.target).lfRefuse d_1 = none) ∧
    ((s_3.lfSupersede d_1.target).acc.field ≠ none) ∧ (s_4.domOn Dom.act = true) ∧ (s_4.ready 6 4 9 3 d_2 = true) ∧
    ((s_4.lfSupersede d_2.target).lfRefuse d_2 = some stDenied) ∧ (s_5.domOn Dom.act = true) ∧ (s_5.ready 6 4 9 3 d_2 = true) ∧
    ((s_5.lfSupersede d_2.target).lfRefuse d_2 = none) ∧ ((s_5.lfSupersede d_2.target).acc.field = none) ∧ (s_6.domOn Dom.act = true) ∧
    (s_6.ready 6 4 9 3 d_2 = true) ∧ ((s_6.lfSupersede d_2.target).lfRefuse d_2 = none) ∧ ((s_6.lfSupersede d_2.target).acc.field ≠ none) ∧
    (s_7.domOn Dom.act = true) ∧ (s_7.ready 6 5 9 3 d_3 = true) ∧ ((s_7.lfSupersede d_3.target).lfRefuse d_3 = some stDenied) ∧ (s_8.domOn Dom.act = true) ∧
    (s_8.ready 6 5 9 3 d_3 = true) ∧ ((s_8.lfSupersede d_3.target).lfRefuse d_3 = none) ∧ ((s_8.lfSupersede d_3.target).acc.field = none) ∧
    (s_9.domOn Dom.act = true) ∧ (s_9.ready 6 5 9 3 d_3 = true) ∧ ((s_9.lfSupersede d_3.target).lfRefuse d_3 = none) ∧
    ((s_9.lfSupersede d_3.target).acc.field ≠ none) ∧ (s_10.domOn Dom.act = true) ∧ (s_10.ready 6 2 9 3 d_4 = true) ∧
    (((s_10.lfSupersede d_4.target).lf d_4.target).step = LfStep.session) ∧ ((s_10.lfSupersede d_4.target).acc.field = some d_4.target) ∧
    (s_10.acc.field = some 2) ∧ ((s_10.lf 2).step = LfStep.session) ∧ (s_11.domOn Dom.act = true) ∧ (s_11.ready 6 3 9 3 d_5 = true) ∧
    (((s_11.lfSupersede d_5.target).lf d_5.target).step = LfStep.session) ∧ ((s_11.lfSupersede d_5.target).acc.field = some d_5.target) ∧
    (s_12.domOn Dom.act = true) ∧ (s_12.ready 6 2 9 3 d_4 = true) ∧ ((s_12.lfSupersede d_4.target).acc.field ≠ some d_4.target) ∧ (s_13.domOn Dom.act = true) ∧
    (s_13.ready 6 6 9 3 d_6 = true) ∧ (s_13.isFenced 14 d_6.target = false) ∧ ((s_13.lf d_6.target).therm = true) ∧ ((s_13.lf 2).therm = true) ∧
    (s_14.domOn Dom.act = true) ∧ (s_14.ready 6 6 9 3 d_6 = true) ∧ (s_14.isFenced 14 d_6.target = false) ∧ ((s_14.lf d_6.target).therm = false) ∧
    (s_15.domOn Dom.act = true) ∧ (s_15.ready 6 6 9 3 d_6 = true) ∧ (s_15.isFenced 14 d_6.target = true) ∧ (s_16.domOn Dom.act = true) ∧
    (s_16.ready 6 7 9 3 d_7 = true) ∧ ((s_16.lfSupersede d_7.target).acc.field = some d_7.target) ∧ (s_17.domOn Dom.act = true) ∧
    (s_17.ready 6 7 9 3 d_7 = true) ∧ ((s_17.lfSupersede d_7.target).acc.field ≠ some d_7.target) ∧ (s_18.domOn Dom.act = true) ∧ (s_18.acc.field = some 2) ∧
    ((s_18.lf 2).step = LfStep.wake) ∧ (lfLate ofs_1 = true) ∧ ((s_18.lf 2).preLen = 0) ∧ ((s_18.lf 2).attempts = 0) ∧ (lfLate id_1 = false) ∧
    (topBit id_1.toNat = none) ∧ (BitVec.toNat crc_2 = keyCrc (numBytes 4 id_2.toNat)) ∧ (BitVec.toNat crc_3 ≠ keyCrc (numBytes 4 id_2.toNat)) ∧
    (s_19.domOn Dom.act = true) ∧ (s_19.acc.field = some 2) ∧ ((s_19.lf 2).step = LfStep.challenge) ∧
    (BitVec.toNat crc_4 = keyCrc (numBytes 8 rk_1.toNat ++ numBytes 8 tk_1.toNat)) ∧
    (List.take 8 (aesEnc (numBytes 16 ((s_19.lfAnswer 2 id_1).lf 2).key) (numBytes 8 ((s_19.lfAnswer 2 id_1).lf 2).rb ++ numBytes 8 rk_1.toNat)) = numBytes 8 tk_1.toNat) ∧
    (BitVec.toNat crc_5 ≠ keyCrc (numBytes 8 rk_1.toNat ++ numBytes 8 rk_1.toNat)) ∧ (s_20.domOn Dom.act = true) ∧ (s_20.acc.field = some 2) ∧
    ((s_20.lf 2).step = LfStep.confirm) ∧ (BitVec.toNat crc_6 = keyCrc [BitVec.toNat crc_1]) ∧ (crc_1 = 0) ∧ (status_1 ≠ 0) ∧ (s_21.domOn Dom.act = true) ∧
    (s_21.acc.field = some 2) ∧ ((s_21.lf 2).step = LfStep.personalise) ∧ (s_22.domOn Dom.act = true) ∧ (s_22.acc.field = some 2) ∧
    ((s_22.lf 2).step = LfStep.write) ∧ (BitVec.toNat crc_7 = keyCrc [BitVec.toNat status_2]) ∧ (status_2 = 3) ∧ (s_23.domOn Dom.act = true) ∧
    (s_23.acc.field = some 2) ∧ ((s_23.lf 2).step = LfStep.read) ∧ ((s_23.lfAnswer 2 id_1).lfOwner 2 = some rdD) ∧
    (BitVec.toNat crc_5 ≠ keyCrc (numBytes 4 id_1.toNat ++ numBytes 4 id_1.toNat)) ∧
    (BitVec.toNat crc_8 = keyCrc (numBytes 4 id_1.toNat ++ numBytes 4 mac_1.toNat)) ∧
    (((s_23.lfAnswer 2 id_1).lf 2).mac (numBytes 4 id_1.toNat) = numBytes 4 mac_1.toNat) ∧ (rdD.ring = 64) ∧ (s_25.domOn Dom.act = true) ∧
    (s_25.acc.field = some 2) ∧ ((s_25.lf 2).step = LfStep.diag) ∧ (0 = 0) ∧ (s_25.on (ACC_LFCFG_ATUNE 2) = true) := by
  and_intros <;> decide +kernel

/-- Premises of PresenceAndCrypto are met. -/
theorem test_premises_PresenceAndCrypto :
    (s_27.domOn Dom.fabric = true) ∧ (s_27.pw.mode = PMode.run) ∧ (s_27.svcOk = true) ∧ (s_27.acc.pres = none) ∧ (s_27.pw.svcPor = false) ∧
    (s_27.buttonOk = false) ∧ (s_27.on ACC_PCFG_SEALEN = false) ∧ (s_27.acc.crypto = none) ∧ (s_27.acc.kstore = none) ∧ (s_28.domOn Dom.fabric = true) ∧
    (s_28.pw.mode = PMode.run) ∧ (s_28.svcOk = true) ∧ (s_28.acc.pres = some 5) ∧ (s_28.acc.shadow = none) ∧ (s_29.domOn Dom.fabric = true) ∧
    (s_29.svcOk = false) ∧ (s_29.buttonOk = true) ∧ (s_29.acc.pres = none) ∧ (s_29.on ACC_PCFG_SEALEN = true) ∧ (s_31.domOn Dom.fabric = true) ∧
    (s_31.acc.crypto = some 2) ∧ (s_31.acc.kstore = none) ∧ (s_32.domOn Dom.fabric = true) ∧ (s_32.acc.pres = some 2) ∧ (s_32.acc.shadow.isSome = true) ∧
    (s_33.domOn Dom.fabric = true) ∧ (s_33.acc.crypto = none) ∧ (s_33.acc.kstore = some 2) ∧ (s_34.domOn Dom.fabric = true) ∧ (s_34.pw.mode ≠ PMode.run) := by
  and_intros <;> decide +kernel

end Wit.Acc

namespace Wit.Img
def msg0 (src t : Nat) (body : List Byte) : IMsg := ⟨src, 0, 5, 0, t, body⟩
def is0 : ImgSess := { src := 0, slot := 0, sid := 5, mac := 0, pass := false, bank := 1, hdr := (List.replicate 128 0), n := 9, next := 2, hash := 0, frags := [], fails := 0, cur := none, stored := false, erased := false, rows := 0, tail := [], done := false }
def bN (l : List Nat) : List Byte := l.map (fun (n : Nat) => (BitVec.ofNat 8 n : Byte))
def iEN : State := wst [(FLT_IMCTL_EN, 1)]
def offB (body : List Byte) : List Byte := svcWrap (imPlain 1 5 body)
def hdr1 : List Byte := List.replicate 384 0
def iS (x : ImgSess) : State := iEN.setSess x
def blk (i o : Nat) (d : List Byte) : List Byte := natBe 2 i ++ natBe 2 o ++ natBe 2 d.length ++ d
def dm : State := ((iS {is0 with src := 1, mac := 0x010203040506}).setFld (FLT_IMDRV_DIR 3) 2 |>.setFld (FLT_IMDMAC0_MAC 3) 0x0102 |>.setFld (FLT_IMDMAC1_MAC 3) 0x0304 |>.setFld (FLT_IMDMAC2_MAC 3) 0x0506)
def dfr (t : Nat) (body : List Byte) : List Byte := bN [9,9,9,9,9,9,1,2,3,4,5,6,0x88,0xB7] ++ imPlain t 5 body ++ List.replicate 20 0
def dmI (st : Nat) (t : Nat) (body : List Byte) : State := ((dm.setFld (FLT_IMDST_STATE 3) st).modImg (fun x => {x with inbox := [(2, dfr t body)]}))
def dmT (st : Nat) : State := (dm.setFld (FLT_IMDST_STATE 3) st)
def dmsg (t : Nat) (body : List Byte) : IMsg := ⟨1, 0, 5, 0x010203040506, t, body⟩
def hdrL2 : List Nat := [0o144765, 4096, 0, 0, 0, 0, 0, 1, 0, 128, 0, 0, 0] ++ List.replicate 115 0
def hdrB : List Byte := hdrL2.flatMap (fun n => natBe 3 n)
def pasS : State := ((((wst [(FLT_IMCTL_EN, 1), (FLT_IMDRV_DIR 3, 2)]).modAcc (fun a => {a with pres := some 5}))))
def shaE : List Nat := sha256 []
def hdrS : List Word := List.replicate 16 0 ++ (List.range 16).map (fun i => toWord (shaE.getD (2*i) 0 * 256 + shaE.getD (2*i+1) 0)) ++ List.replicate 96 0
def bs_1 : List Byte := [1,2]
def mv_1 : BitVec 16 := 0
def m_1 : IMsg := msg0 0 1 []
def y_1 : ImgSess × Nat := (is0, 0)
def b_1 : List Byte := []
def t_1 : State := State.reset
def s_1 : State := wst []
def bs_2 : List Byte := offB hdr1
def m_2 : IMsg := msg0 0 1 hdr1
def s_2 : State := iS is0
def bs_3 : List Byte := svcWrap (imPlain 3 5 (blk 1 0 [7]))
def m_3 : IMsg := msg0 0 3 (blk 1 0 [7])
def bs_4 : List Byte := svcWrap (imPlain 3 5 (blk 3 1024 [7]))
def m_4 : IMsg := msg0 0 3 (blk 3 1024 [7])
def s_3 : State := iS {is0 with hdr := List.replicate 128 0o777777}
def x_1 : ImgSess := {is0 with hdr := List.replicate 128 0o777777}
def bs_5 : List Byte := svcWrap (imPlain 5 5 (bN [0x0E, 0, 0, 0]))
def m_5 : IMsg := msg0 0 5 (bN [0x0E, 0,0,0])
def s_4 : State := dmI 1 2 (bN [1,0,0,0])
def m_6 : IMsg := dmsg 2 (bN [1,0,0,0])
def y_2 : ImgSess × Nat := ({is0 with src := 1, mac := 0x010203040506}, 3)
def t_2 : State := dmT 1
def s_5 : State := dmI 1 2 (bN [0,0,0,0])
def m_7 : IMsg := dmsg 2 (bN [0,0,0,0])
def s_6 : State := dmI 2 4 (bN [0,7,0,0])
def m_8 : IMsg := dmsg 4 (bN [0,7,0,0])
def t_3 : State := dmT 2
def s_7 : State := dmI 1 4 (bN [0,7,0,0])
def x_2 : ImgSess := ({is0 with src := 1, mac := 0x010203040506})
def s_8 : State := (dmT 2).setSess ({is0 with src := 1, mac := 0x010203040506, cur := some [7]})
def x_3 : ImgSess := ({is0 with src := 1, mac := 0x010203040506, cur := some [7]})
def b_2 : List Byte := [7]
def s_9 : State := iS {is0 with cur := some [7], erased := true}
def x_4 : ImgSess := {is0 with cur := some [7], erased := true}
def s_10 : State := (iS {is0 with cur := none, erased := true}).setFld FLT_IMSTAT_STATE 3
def x_5 : ImgSess := {is0 with cur := none, erased := true}
def s_11 : State := (iS is0).setFld FLT_IMCTL_VMODE 0
def s_12 : State := ((iS is0).setFld FLT_IMCTL_VMODE 2).modImg (fun i => {i with spdAge := 0})
def bs_6 : List Byte := offB hdrB
def m_9 : IMsg := msg0 0 1 hdrB
def s_13 : State := (iS {is0 with hdr := hdrS}).setFld FLT_IMSTAT_STATE 3
def x_6 : ImgSess := {is0 with hdr := hdrS}
def bs0 (v : Nat) : State := wst [(BRC_STAT_STATE, v)]
def s_14 : State := bs0 0
def b_3 : List Byte := bN [1,2,3]
def pid_1 : BitVec 48 := 0
def s_15 : State := bs0 3
def s_16 : State := bs0 2
def b_4 : List Byte := bN [2,2,3]
def b_5 : List Byte := bN [3,2,3]
def b_6 : List Byte := bN [4,2,3]
def b_7 : List Byte := bN [5,2,3]
def b_8 : List Byte := bN [6,2,3]
def s_17 : State := bs0 1
def s_18 : State := (bs0 1).modBrc (fun x => {x with waits := true})
def bt (b : BootSt) : State := (wst []).modPw (fun p => {p with boot := b, coreS := .on, coreA := .on})
def s_19 : State := bt .app
def s_20 : State := bt .rom
def s_21 : State := (bt .rom).wr (otpKey 0o420) 1
def s_22 : State := (((bt .rom).setFld ACC_PCFG_SVCEN 1).wr (otpKey 0o420) 1).modPw (fun p => {p with svcPor := true})
def s_23 : State := ((bt .app).setFld (lbF 1) 1).modCore 1 (fun x => {x with run := .fenced})
def s_24 : State := bt (.chosen 1 false false 0x12)
def s_25 : State := (State.withMem ((bt .app).modImg (fun x => {x with mig := some 2})) ((List.range 128).map (fun i => (codeKey 0 i, 0))))
def s_26 : State := ((bt .app).setFld (lbF 1) 1).modCore 1 (fun x => {x with run := .halted})
def s_27 : State := ((bt .app).setFld (lbF 1) 2).modCore 1 (fun x => {x with run := .halted})


/-- Premises of ImageSessions are met. -/
theorem test_premises_ImageSessions :
    (iEN.domOn Dom.fabric = true) ∧ (svcPayload bs_1 = none) ∧ ((wImg iEN).img.inbox = []) ∧ ((wImg iEN).img.sess = none) ∧ (s_1.domOn Dom.fabric = true) ∧
    ((fun (svc : Option (List Byte)) (l : List Nat) (t : State) => (wImg s_1).imTake svc l = (t, some m_2)) (some bs_2) [1] (wImg s_1)) ∧
    ((wImg s_1).imOpen true = false) ∧
    ((fun (svc : Option (List Byte)) (l : List Nat) (t : State) => (wImg iEN).imTake svc l = (t, some m_2)) (some bs_2) [1] (wImg iEN)) ∧
    ((wImg iEN).imOpen true = true) ∧ (m_2.src = 0) ∧ ((wImg iEN).acc.pres = none) ∧ (s_2.domOn Dom.fabric = true) ∧
    ((fun (svc : Option (List Byte)) (l : List Nat) (t : State) => (wImg s_2).imTake svc l = (t, some m_2)) (some bs_2) [1] (wImg s_2)) ∧
    ((wImg s_2).imOpen true = true) ∧ ((wImg s_2).img.sess = some is0) ∧ (is0.holds m_2 = true) ∧ (is0.next < is0.n) ∧ (is0.cur = none) ∧ (is0.pass = false) ∧
    (is0.erased = false) ∧ ((wImg s_2).vehMoves = true) ∧
    ((fun (svc : Option (List Byte)) (l : List Nat) (t : State) => (wImg s_2).imTake svc l = (t, some m_3)) (some bs_3) [3] (wImg s_2)) ∧
    (is0.holds m_3 = true) ∧ (byteField m_3.body 0 2 < is0.next) ∧ (s_3.domOn Dom.fabric = true) ∧
    ((fun (svc : Option (List Byte)) (l : List Nat) (t : State) => (wImg s_3).imTake svc l = (t, some m_4)) (some bs_4) [3] (wImg s_3)) ∧
    ((wImg s_3).img.sess = some x_1) ∧ (x_1.holds m_4 = true) ∧ (x_1.next ≤ byteField m_4.body 0 2) ∧ (byteField m_4.body 0 2 < x_1.next + 4) ∧
    (byteField m_4.body 0 2 < x_1.n) ∧ (fragOk (hdrL x_1.hdr) (byteField m_4.body 0 2) (byteField m_4.body 2 2) (List.drop 6 m_4.body) = true) ∧
    (x_1.cur = none) ∧ ((fun (svc : Option (List Byte)) (l : List Nat) (t : State) => (wImg s_2).imTake svc l = (t, some m_5)) (some bs_5) [5] (wImg s_2)) ∧
    ((wImg s_2).downOf m_5 = none) ∧ (is0.holds m_5 = true) ∧ (byteField m_5.body 0 1 = 14) ∧ (s_4.domOn Dom.fabric = true) ∧
    ((fun (svc : Option (List Byte)) (l : List Nat) (t : State) => (wImg s_4).imTake svc l = (t, some m_6)) none [2] t_2) ∧ (t_2.downOf m_6 = some y_2) ∧
    (byteField m_6.body 0 1 ≠ 0) ∧ (s_5.domOn Dom.fabric = true) ∧
    ((fun (svc : Option (List Byte)) (l : List Nat) (t : State) => (wImg s_5).imTake svc l = (t, some m_7)) none [2] t_2) ∧ (t_2.downOf m_7 = some y_2) ∧
    (byteField m_7.body 0 1 = 0) ∧ (s_6.domOn Dom.fabric = true) ∧
    ((fun (svc : Option (List Byte)) (l : List Nat) (t : State) => (wImg s_6).imTake svc l = (t, some m_8)) none [4] t_3) ∧ (t_3.downOf m_8 = some y_2) ∧
    (t_3.fld (FLT_IMDST_STATE y_2.2) = 2) ∧ (byteField m_8.body 2 1 = 0) ∧ (s_7.domOn Dom.fabric = true) ∧ ((wImg s_7).img.sess = some x_2) ∧
    ((wImg s_7).fld (FLT_IMDST_STATE 3) = 1) ∧ ((smGet (fun _ => { : ImgDown }) (wImg s_7).img.downs 3).offers < 3) ∧ (s_8.domOn Dom.fabric = true) ∧
    ((wImg s_8).img.sess = some x_3) ∧ ((wImg s_8).fld (FLT_IMDST_STATE 3) = 2) ∧ (x_3.cur = some b_2) ∧ (s_9.domOn Dom.fabric = true) ∧
    ((wImg s_9).img.sess = some x_4) ∧ (x_4.cur = some b_2) ∧ (x_4.pass = false) ∧ (x_4.stored = false) ∧ (x_4.erased = true) ∧
    (s_10.domOn Dom.fabric = true) ∧ ((wImg s_10).img.sess = some x_5) ∧ ((wImg s_10).fld FLT_IMSTAT_STATE = 3) ∧ (s_12.domOn Dom.fabric = true) ∧
    ((wImg s_12).img.sess = some is0) ∧ ((wImg s_12).vehMoves = false) ∧ (pasS.domOn Dom.fabric = true) ∧
    ((fun (svc : Option (List Byte)) (l : List Nat) (t : State) => (wImg pasS).imTake svc l = (t, some m_9)) (some bs_6) [1] (wImg pasS)) ∧
    ((wImg pasS).imOpen true = true) ∧ ((wImg pasS).img.sess = none) ∧ ((wImg pasS).acc.pres ≠ none) ∧
    (((wImg pasS).offerJudge (offerHdr m_9) mv_1.toNat).1 = 0) ∧ (s_13.domOn Dom.fabric = true) ∧ ((wImg s_13).img.sess = some x_6) ∧
    ((wImg s_13).fld FLT_IMSTAT_STATE = 3) ∧ ((wImg s_13).bodyHash x_6.bank (hdrL x_6.hdr) = hdrBytes x_6.hdr 16 16) := by
  set_option maxRecDepth 100000 in and_intros <;> decide +kernel

/-- Premises of BraceLink are met. -/
theorem test_premises_BraceLink :
    (s_14.domOn Dom.fabric = true) ∧ (s_14.brSt = 0) ∧ (s_14.brSt = 0 ∨ s_14.brSt = 4) ∧ (s_14.brSt ≠ 1) ∧ (s_14.brSt ≠ 3) ∧ (s_14.brc.waits = false) ∧
    (s_15.domOn Dom.fabric = true) ∧ (s_15.brSt ≠ 0) ∧ (byteField b_3 0 1 = 1) ∧ (s_15.brSt = 3) ∧
    ((((((s_15.setFld BRC_STAT_STATE 1).count BRC_CNT_MISS).brEvt 2).record 15 8 0).modBrc fun (x : Brc) => { seq := x.seq, erole := x.erole, waits := x.waits, resumed := x.resumed, passed := x.passed, told := x.told, line := x.line : Brc }).brFollower = false) ∧
    (s_16.domOn Dom.fabric = true) ∧ (s_16.brSt = 2) ∧ (byteField b_4 0 1 = 2) ∧ (s_16.brSt ≠ 0) ∧ (byteField b_5 0 1 = 3) ∧
    ((s_15.setFld BRC_STAT_RXSEQ (byteField b_6 1 1)).brSt = 3) ∧ (byteField b_6 0 1 = 4) ∧ (byteField b_7 0 1 = 5) ∧ (byteField b_8 0 1 = 6) ∧
    (s_17.domOn Dom.fabric = true) ∧ (s_17.brSt = 1) ∧ (s_18.domOn Dom.fabric = true) ∧ (s_18.brc.waits = true) ∧ (s_18.fswOpen = true) := by
  and_intros <;> decide +kernel

/-- Premises of StartUp are met. -/
theorem test_premises_StartUp :
    (s_19.domOn Dom.coreS = true) ∧ (s_19.domOn Dom.coreA = true) ∧ (s_19.domOn Dom.fabric = true) ∧ (s_19.domOn Dom.act = true) ∧
    (s_19.pw.boot ≠ BootSt.rom) ∧ (s_19.pw.boot = BootSt.app) ∧ (s_19.img.mig = none) ∧ (s_19.lbSt 1 ≠ 1) ∧ (s_19.lbSt 1 ≠ 2) ∧ (s_20.domOn Dom.coreS = true) ∧
    (s_20.domOn Dom.coreA = true) ∧ (s_20.domOn Dom.fabric = true) ∧ (s_20.domOn Dom.act = true) ∧ (s_20.pw.boot = BootSt.rom) ∧
    (bitAt (s_20.bootLbist.otp 272) 0 = false) ∧ (s_21.domOn Dom.coreS = true) ∧ (s_21.domOn Dom.coreA = true) ∧ (s_21.domOn Dom.fabric = true) ∧
    (s_21.domOn Dom.act = true) ∧ (s_21.pw.boot = BootSt.rom) ∧ (bitAt (s_21.bootLbist.otp 272) 0 = true) ∧ (s_21.bootLbist.pw.svcPor = false) ∧
    (s_22.domOn Dom.coreS = true) ∧ (s_22.domOn Dom.coreA = true) ∧ (s_22.domOn Dom.fabric = true) ∧ (s_22.domOn Dom.act = true) ∧
    (s_22.pw.boot = BootSt.rom) ∧ (bitAt (s_22.bootLbist.otp 272) 0 = true) ∧ (s_22.bootLbist.pw.svcPor = true) ∧ (s_22.bootLbist.on ACC_PCFG_SVCEN = true) ∧
    (s_22.bootLbist.otpLock 1 = false) ∧ (s_23.domOn Dom.coreS = true) ∧ (s_23.domOn Dom.coreA = true) ∧ (s_23.domOn Dom.fabric = true) ∧
    (s_23.domOn Dom.act = true) ∧ (s_23.lbSt 1 = 1) ∧ ((s_23.core 1).run = CoreRun.fenced) ∧ (s_24.domOn Dom.coreS = true) ∧ (s_24.domOn Dom.coreA = true) ∧
    (s_24.domOn Dom.fabric = true) ∧ (s_24.domOn Dom.act = true) ∧ (s_24.pw.boot = BootSt.chosen 1 false false 18) ∧ (s_24.lbSt 0 ≠ 2) ∧ (s_24.lbSt 1 ≠ 2) ∧
    (bitsOf 18 7 4 ≠ 9) ∧ (bitsOf 18 3 0 ≠ 9) ∧ (s_25.domOn Dom.coreS = true) ∧ (s_25.domOn Dom.coreA = true) ∧ (s_25.domOn Dom.fabric = true) ∧
    (s_25.domOn Dom.act = true) ∧ (s_25.img.mig = some 2) ∧ ((s_25.migRecord (s_25.bankHdr s_25.activeBank) 2).2 = 0) ∧ (s_26.domOn Dom.coreS = true) ∧
    (s_26.domOn Dom.coreA = true) ∧ (s_26.domOn Dom.fabric = true) ∧ (s_26.domOn Dom.act = true) ∧ (s_26.lbSt 1 = 1) ∧ ((s_26.core 1).run = CoreRun.halted) ∧
    ((s_26.core 1).buf = []) ∧ (s_27.domOn Dom.coreS = true) ∧ (s_27.domOn Dom.coreA = true) ∧ (s_27.domOn Dom.fabric = true) ∧ (s_27.domOn Dom.act = true) ∧
    (s_27.lbSt 1 = 2) := by
  and_intros <;> decide +kernel

end Wit.Img

namespace Wit.Pcr
def wk0 : Wake := ⟨3,0,false,0,0,none⟩
def ps (m : PMode) (l : List (FRef × Nat)) : State := (wst l).modPw (fun p => {p with mode := m})
def pe (m : PMode) (e : Option PMode) (l : List (FRef × Nat)) : State := (wst l).modPw (fun p => {p with mode := m, entry := e})
def s_1 : State := ps .browse []
def h_1 : HeldC := {eng := 3, ring := 9, slot := 0, st := 0, detail := 0, irq := true}
def code_1 : BitVec 6 := 0
def detail_1 : Byte := 0
def s_2 : State := ps .run []
def s_3 : State := ps .run [(PCR_ENTRY_PHASE, 3)]
def s_4 : State := pe .run (some .rest) [(PCR_ENTRY_PHASE, 1), (RNG_TXSTAT_OPEN 0, 1)]
def s_5 : State := pe .run (some .rest) [(PCR_ENTRY_PHASE, 1)]
def s_6 : State := (pe .run (some .rest) [(PCR_ENTRY_PHASE, 1), (MEM_MSTAT_RESULT, 1)]).modPw (fun p => {p with delays := 4, acks := 65535 - 4})
def s_7 : State := (pe .run (some .rest) [(PCR_ENTRY_PHASE, 1), (MEM_MSTAT_RESULT, 1)]).modPw (fun p => {p with acks := 65535})
def s_8 : State := (pe .run (some .bedded) [(PCR_ENTRY_PHASE, 1), (MEM_MSTAT_RESULT, 1)]).modPw (fun p => {p with acks := 65535})
def s_9 : State := pe .run (some .rest) [(PCR_ENTRY_PHASE, 2)]
def s_10 : State := pe .run (some .bedded) [(PCR_ENTRY_PHASE, 2)]
def s_11 : State := (ps .rest []).modPw (fun p => {p with wake := some wk0})
def s_12 : State := (ps .bedded []).modPw (fun p => {p with wake := some wk0})
def code_2 : BitVec 6 := 0o15
def s_13 : State := (ps .bedded []).modPw (fun p => {p with wake := some wk0, brown := true})
def s_14 : State := (ps .bedded []).modPw (fun p => {p with brown := true})
def s_15 : State := (pe .run (some .bedded) [(PCR_ENTRY_PHASE, 2)]).modPw (fun p => {p with brown := true})
def s_16 : State := (ps .bedded []).modPw (fun p => {p with wake := none})
def code_3 : BitVec 6 := 0o77
def s_17 : State := (ps .rest [(PCR_RWAKE_GRP, 4)]).modPw (fun p => {p with held := [{eng := 3, ring := 9, slot := 0, st := 0, detail := 0, irq := true}]})
def s_18 : State := pe .run (some .bedded) [(PCR_ENTRY_PHASE, 1)]
def s_19 : State := ps .run [(PCR_CLK_P0SRC, 0), (PCR_CLK_XTALOK, 1), (PCR_CLK_LOCK, 15), (PCR_KL_KL30LO, 0), (PCR_KL_KL15, 0), (PCR_RTCS_SUB, 7)]
def s_20 : State := ps .run [(PCR_CLK_P0SRC, 1), (PCR_CLK_XTALOK, 0), (PCR_CLK_LOCK, 9), (PCR_KL_KL30LO, 0), (PCR_KL_KL15, 1), (PCR_RTCS_SUB, 0)]
def s_21 : State := (ps .run [(FLT_GCTL_L4RST, 1)]).modFlt (fun f => {f with safe := true})
def s_22 : State := (ps .run [(PCR_CLK_XTALOK, 0), (PCR_DOMCTL_ZSWON, 0)]).modPw (fun p => {p with net := .off, zsw := .off, act := .off})
def s_23 : State := (ps .run [(PCR_CLK_XTALOK, 1), (PCR_DOMCTL_ZSWON, 0)]).modPw (fun p => {p with net := .ret, zsw := .off})
def s_24 : State := (ps .bedded [])


/-- Premises of PowerModes are met. -/
theorem test_premises_PowerModes :
    (s_1.domOn Dom.fabric = true) ∧ (s_1.phase = 0) ∧ (s_1.pw.mode = PMode.browse) ∧ (s_1.phase ≠ 1) ∧ (s_1.phase ≠ 2) ∧ (s_1.wakeTarget = none) ∧
    (s_1.pw.held = []) ∧ (s_1.pw.mode ≠ PMode.rest) ∧ (s_2.domOn Dom.fabric = true) ∧ (s_2.phase = 0) ∧ (s_2.pw.mode = PMode.run) ∧ (s_2.phase < 2) ∧
    (s_3.domOn Dom.fabric = true) ∧ (s_3.phase ≠ 0) ∧ (CoreId.a0 ≠ CoreId.s) ∧ (s_4.phase = 1) ∧ (bitAt s_4.pw.acks 3 = false) ∧
    (s_4.agentAnswer 3 (decide (s_4.pw.entry = some PMode.bedded)) = Answer.refuse 1) ∧ (s_4.wakeTarget = some false) ∧
    (s_4.wakeOk false code_1.toNat (BitVec.toNat detail_1) = false) ∧ (s_5.phase = 1) ∧ (bitAt s_5.pw.acks 1 = false) ∧
    (s_5.agentAnswer 1 (decide (s_5.pw.entry = some PMode.bedded)) = Answer.ack) ∧ (s_6.phase = 1) ∧ (bitAt s_6.pw.acks 2 = false) ∧
    (s_6.agentAnswer 2 (decide (s_6.pw.entry = some PMode.bedded)) = Answer.delay) ∧ (bitAt s_6.pw.delays 2 = true) ∧ (s_7.phase = 1) ∧ (s_7.pw.acks = 65535) ∧
    (s_7.pw.entry = some PMode.rest) ∧ (s_8.phase = 1) ∧ (s_8.pw.acks = 65535) ∧ (s_8.pw.entry = some PMode.bedded) ∧ (s_9.phase = 2) ∧
    (s_9.pw.entry = some PMode.rest) ∧ (s_10.phase = 2) ∧ (s_10.pw.entry = some PMode.bedded) ∧ (s_11.pw.mode = PMode.rest) ∧ (s_11.pw.wake = some wk0) ∧
    (s_12.pw.mode = PMode.bedded) ∧ (s_12.pw.wake = some wk0) ∧ (s_13.wakeTarget = some true) ∧
    (s_13.wakeOk true code_2.toNat (BitVec.toNat detail_1) = true) ∧ (s_13.pw.wake = some wk0) ∧ (s_13.pw.entry = none) ∧ (s_13.wakeOk true 13 0 = true) ∧
    (s_15.wakeTarget = some true) ∧ (s_15.wakeOk true code_2.toNat (BitVec.toNat detail_1) = true) ∧ (s_15.pw.wake = none) ∧ (s_15.pw.entry ≠ none) ∧
    (s_17.pw.mode = PMode.rest) ∧ (List.find? (fun (x : HeldC) => x.irq && s_17.bit PCR_RWAKE_GRP (x.ring / 4)) s_17.pw.held = some h_1) := by
  and_intros <;> decide +kernel

/-- Premises of ClocksAndSupplies are met. -/
theorem test_premises_ClocksAndSupplies :
    (s_10.flt.safe = false) ∧ (s_10.domOn Dom.fabric = true) ∧ (s_10.on PCR_CLK_P0SRC = true) ∧ (s_10.on PCR_CLK_XTALOK = false) ∧
    (s_10.domOn Dom.act = true) ∧ (s_10.pw.mode ≠ PMode.bedded) ∧ (s_10.bit PCR_CLK_LOCK (1 + 0) = false) ∧ (s_10.pw.net ≠ DomSt.ret) ∧
    (((s_10.setFld PCR_DOMCTL_ZSWON 1).modPw fun (q : Pw) => { mode := q.mode, coreA := q.coreA, coreS := q.coreS, fabric := q.fabric, zsw := q.zsw, net := q.net, act := q.act, back := q.back, entry := q.entry, forced := q.forced, brown := q.brown, acks := q.acks, delays := q.delays, wake := q.wake, zswAsked := decide (q.zsw = DomSt.off) && !s_10.on PCR_CLK_XTALOK, held := q.held, ready := q.ready, boot := q.boot, verified := q.verified, badSpill := q.badSpill, svcPor := q.svcPor : Pw }).on PCR_CLK_XTALOK = false) ∧
    (((s_10.setFld PCR_DOMCTL_ZSWON 0).modPw fun (q : Pw) => { mode := q.mode, coreA := q.coreA, coreS := q.coreS, fabric := q.fabric, zsw := q.zsw, net := q.net, act := q.act, back := q.back, entry := q.entry, forced := q.forced, brown := q.brown, acks := q.acks, delays := q.delays, wake := q.wake, held := q.held, ready := q.ready, boot := q.boot, verified := q.verified, badSpill := q.badSpill, svcPor := q.svcPor : Pw }).domOn Dom.zsw = true) ∧
    (s_10.phase = 2) ∧ (s_10.pw.entry = some PMode.bedded) ∧ (s_10.on PCR_KL_KL30LO = false) ∧ (s_10.on PCR_KL_KL15 = false) ∧
    (s_10.rtcSec = s_10.fld PCR_ALMH_ALM * 65536 + s_10.fld PCR_ALML_ALM) ∧ (s_10.fld PCR_RTCS_SUB = 0) ∧ (s_10.pw.mode = PMode.run) ∧ (0 ≠ 1) ∧
    (s_18.pw.mode ≠ PMode.bedded) ∧ (s_18.phase = 1) ∧ (s_19.domOn Dom.fabric = true) ∧ (s_19.on PCR_CLK_P0SRC = false) ∧ (s_19.on PCR_CLK_XTALOK = true) ∧
    (s_19.pw.mode ≠ PMode.bedded) ∧ (s_19.domOn Dom.act = true) ∧ (s_19.bit PCR_CLK_LOCK (1 + 1) = true) ∧ (s_19.phase = 0) ∧ (s_19.fld PCR_RTCS_SUB ≠ 0) ∧
    (s_20.on PCR_KL_KL15 = true) ∧ (s_21.flt.safe = true) ∧ (s_21.on FLT_GCTL_L4RST = true) ∧ (s_22.domOn Dom.fabric = true) ∧
    (s_22.on PCR_CLK_XTALOK = false) ∧ (s_22.on PCR_DOMCTL_ZSWON = false) ∧ (s_22.pw.net = DomSt.off) ∧
    ((((((s_22.setFld PCR_CLK_XTALOK 1).setFld PCR_CLK_P0SRC 0).setFld PCR_CLK_LOCK 15).raise PCR_FLAG_XTALR).pcrEvt 5).pw.net = DomSt.off) ∧
    ((((((s_22.setFld PCR_CLK_XTALOK 1).setFld PCR_CLK_P0SRC 0).setFld PCR_CLK_LOCK 15).raise PCR_FLAG_XTALR).pcrEvt 5).on PCR_DOMCTL_ZSWON = false) ∧
    (((s_22.setFld PCR_DOMCTL_ZSWON 0).modPw fun (q : Pw) => { mode := q.mode, coreA := q.coreA, coreS := q.coreS, fabric := q.fabric, zsw := q.zsw, net := q.net, act := q.act, back := q.back, entry := q.entry, forced := q.forced, brown := q.brown, acks := q.acks, delays := q.delays, wake := q.wake, held := q.held, ready := q.ready, boot := q.boot, verified := q.verified, badSpill := q.badSpill, svcPor := q.svcPor : Pw }).domOn Dom.zsw = false) ∧
    (s_22.domOn Dom.act = false) ∧ (s_23.pw.mode = PMode.run ∨ s_23.pw.mode = PMode.browse) ∧ (s_23.pw.net = DomSt.ret) ∧ (s_23.domOn Dom.fabric = true) ∧
    (((s_23.setFld PCR_DOMCTL_ZSWON 1).modPw fun (q : Pw) => { mode := q.mode, coreA := q.coreA, coreS := q.coreS, fabric := q.fabric, zsw := q.zsw, net := q.net, act := q.act, back := q.back, entry := q.entry, forced := q.forced, brown := q.brown, acks := q.acks, delays := q.delays, wake := q.wake, zswAsked := decide (q.zsw = DomSt.off) && !s_23.on PCR_CLK_XTALOK, held := q.held, ready := q.ready, boot := q.boot, verified := q.verified, badSpill := q.badSpill, svcPor := q.svcPor : Pw }).pw.zsw = DomSt.off) ∧
    (((s_23.setFld PCR_DOMCTL_ZSWON 1).modPw fun (q : Pw) => { mode := q.mode, coreA := q.coreA, coreS := q.coreS, fabric := q.fabric, zsw := q.zsw, net := q.net, act := q.act, back := q.back, entry := q.entry, forced := q.forced, brown := q.brown, acks := q.acks, delays := q.delays, wake := q.wake, zswAsked := decide (q.zsw = DomSt.off) && !s_23.on PCR_CLK_XTALOK, held := q.held, ready := q.ready, boot := q.boot, verified := q.verified, badSpill := q.badSpill, svcPor := q.svcPor : Pw }).on PCR_CLK_XTALOK = true) ∧
    (s_24.pw.mode = PMode.bedded) := by
  and_intros <;> decide +kernel

end Wit.Pcr

namespace Wit.Regs
def rw_ (l : List (FRef × Nat)) : State := (wst l).modPw (fun p => {p with coreS := .on, coreA := .on, mode := .run})
def td (w2 w3 w4 : Nat) : Desc := { wdesc 1 2 0 with w2 := toWord w2, w3 := toWord w3, w4 := toWord w4 }
def rall : State := rw_ [(RNG_RCFG_EN 9, 1), (NET_HCTL_CONS, 1), (ETH_TSTAT_STATE 2, 3), (ETH_ASCTL_GM, 1), (INP_LHCMD_FORCE, 0), (ZSW_MVID_VID, 5), (ZSW_MADR2_ADDR, 77), (ICU_ACTL_HOLD 1, 1)]
def rowH : RegRow := ⟨0x7105, 16, 16, 1, 1, .act, .dom, [Field.plain 8 0 0]⟩
def s_1 : State := rw_ []
def a_1 : BitVec 16 := BitVec.ofNat 16 (rMOT_HIEN 3)
def v_1 : Word := 77
def k_1 : Nat := rMOT_HIEN 3
def d_1 : Desc := { wdesc 15 63 999 with ring := 63, slot := 1023 }
def s_2 : State := rw_ [(RNG_ADROP_FMT, 7)]
def a_2 : BitVec 16 := BitVec.ofNat 16 rRNG_ADROP
def v_2 : Word := 0
def a_3 : BitVec 16 := 0xC009
def a_4 : BitVec 16 := 0x400
def v_3 : Word := 0o777777
def s_3 : State := (rw_ [(RNG_TXSTAT_OPEN 0, 1), (RNG_TXCLAIM_CLAIM 0, 16)]).withD [td (0x4100) 9 0o777777]
def a_5 : BitVec 16 := 0
def v_4 : Word := 9
def d_2 : Desc := td (0x4100) 9 0o777777
def a_6 : BitVec 16 := 0x1FFF
def v_5 : Word := 7
def s_4 : State := (rw_ []).modPw (fun p => {p with act := .off})
def a_7 : BitVec 16 := 0x7100
def s_5 : State := rw_ [(MOT_HEVT_EVT 3, 511), (RNG_ADROP_FMT, 7)]
def s_6 : State := (rw_ []).withD [td 0o777777 0 0]
def d_3 : Desc := td 0o777777 0 0
def s_7 : State := (rw_ []).withD [td 3 0 0]
def d_4 : Desc := td 3 0 0
def s_8 : State := (rw_ [(RNG_TXSTAT_OPEN 0, 1)]).withD [td 3 0 0]
def s_9 : State := (rw_ [(RNG_TXSTAT_OPEN 0, 1), (RNG_TXCLAIM_CLAIM 0, 2048)]).withD [td (rNET_HGRPL) 9 0o777777]
def d_5 : Desc := td (rNET_HGRPL) 9 0o777777
def v_6 : BitVec 2 := 1
def x_1 : BitVec 4 := 5
def e_1 : ZMac := ⟨5, 77, false, false, 3⟩
def s_10 : State := (rw_ [(FLT_IMCONF_REQ, 1), (ETH_TSTAT_STATE 2, 1), (ETH_PSTAT_LINK 2, 1), (ZSW_MVID_VID, 5), (ZSW_MADR2_ADDR, 77), (ICU_ACTL_HOLD 1, 0)]).modZsw (fun z => {z with macs := [⟨5, 77, false, false, 3⟩]}) |>.setCore 1 {run := .running}
def s_11 : State := (rw_ [(FLT_IMCONF_REQ, 0), (ETH_TSTAT_STATE 2, 2), (NET_CTC_FENCED 3, 1)])
def x_2 : BitVec 4 := 0
def s_12 : State := let t := (rw_ []).modAcc (fun a => {a with pres := some 5}); t.bootProg t.inactive 0
def v_7 : BitVec 2 := 0
def e_2 : BitVec 4 := 9
def s_13 : State := (rw_ []).modAcc (fun a => {a with pres := some 5, auth := 7})
def s_14 : State := (rw_ []).modAcc (fun a => {a with kstore := some 5, crypto := some 7})


/-- Premises of RegisterAccess are met. -/
theorem test_premises_RegisterAccess :
    (RegFile.wf s_1.io = true) ∧ (s_1.fld PCR_ENTRY_PHASE ≠ 1) ∧ (busReg CoreId.a0.num a_1.toNat = some k_1 ∧ s_1.domOn (keyDom k_1) = true) ∧
    (sIcuOnly CoreId.a0.num a_1.toNat = false) ∧ (k_1 / 4096 = 4 ∨ k_1 / 4096 = 5 ∨ k_1 / 4096 = 7 ∨ k_1 / 4096 = 8 ∨ k_1 / 4096 = 9) ∧
    (rowOf k_1 = some rowH) ∧
    ((rowH.fields.all fun (f : Machine.Field) => decide (f.acc = Acc.rw) && !f.tx && !s_1.refusedField CoreId.a0.num k_1 f && !badField k_1 f (bitsOf (BitVec.toNat v_1) f.hi f.lo)) = true) ∧
    (s_1.comboMask k_1 (BitVec.toNat (s_1.shadowOf k_1)) = 0) ∧ (k_1 ≠ rSEQ_MDATA) ∧ (k_1 ≠ rMEM_NDATA) ∧ (k_1 % 65536 ≠ 4) ∧ (k_1 / 4096 ≠ 14) ∧
    (snapOf k_1 = []) ∧ (freeBits k_1 = []) ∧ (s_1.domOn Dom.act = true) ∧ ((fun (r : Nat) => smFind s_1.snap r = none) (rMOT_HSTAT 0)) ∧
    ((fun (r : Nat) => smFind s_1.snap r = none) (rMOT_HEVT 0)) ∧ ((fun (r : Nat) => smFind s_1.snap r = none) (rMOT_HIEN 0)) ∧ (s_1.domOn Dom.fabric = true) ∧
    (smFind s_1.snap rRNG_ADROP = none) ∧ (s_1.domOn Dom.zsw = true) ∧ (smFind s_1.snap 49161 = none) ∧
    (busReg CoreId.a0.num a_3.toNat = some 49161 ∧ s_1.domOn (keyDom 49161) = true) ∧ (49161 ≠ rSEQ_MDATA) ∧ (49161 ≠ rMEM_NDATA) ∧ (49161 % 65536 ≠ 4) ∧
    (49161 / 4096 ≠ 14) ∧ (snapOf 49161 ≠ []) ∧ (freeBits 49161 = []) ∧ (CoreId.a0.num ≠ 2) ∧ (sIcuOnly CoreId.a0.num a_4.toNat = true) ∧ (a_4.toNat < 3584) ∧
    (s_1.badStore (196608 + a_4.toNat) (BitVec.toNat v_3) (2 ^ 18 - 1) = true) ∧ (RegFile.wf s_3.io = true) ∧ (s_3.fld PCR_ENTRY_PHASE ≠ 1) ∧
    (s_3.waits 1 2 9 3 d_2 = true) ∧ (4096 ≤ BitVec.toNat d_2.w2) ∧ (BitVec.toNat d_2.w2 < 2 ^ 16) ∧ (s_3.on (RNG_TXSTAT_OPEN d_2.owner) = true) ∧
    (s_3.claimant (BitVec.toNat d_2.w2 / 4096) = some d_2.owner) ∧
    ((BitVec.toNat d_2.w4).land (txMask (BitVec.toNat d_2.w2) fun (x : Machine.Field) => true) ≠ 0) ∧ (busReg CoreId.a0.num a_6.toNat = none) ∧
    (sIcuOnly CoreId.a0.num a_6.toNat = false) ∧ (RegFile.wf s_4.io = true) ∧ (s_4.fld PCR_ENTRY_PHASE ≠ 1) ∧ (busReg CoreId.a0.num a_7.toNat = some 28928) ∧
    (s_4.domOn (keyDom 28928) = false) ∧ (sIcuOnly CoreId.a0.num a_7.toNat = false) ∧
    (s_1.badStore (196608 + a_4.toNat) (BitVec.toNat v_5) (2 ^ 18 - 1) = false) ∧ (RegFile.wf s_6.io = true) ∧ (s_6.fld PCR_ENTRY_PHASE ≠ 1) ∧
    (s_6.waits 1 2 9 3 d_3 = true) ∧ (2 ^ 16 ≤ BitVec.toNat d_3.w2) ∧ (RegFile.wf s_7.io = true) ∧ (s_7.fld PCR_ENTRY_PHASE ≠ 1) ∧
    (s_7.waits 1 2 9 3 d_4 = true) ∧ (BitVec.toNat d_4.w2 < 2 ^ 16) ∧ (s_7.on (RNG_TXSTAT_OPEN d_4.owner) = false) ∧ (RegFile.wf s_8.io = true) ∧
    (s_8.fld PCR_ENTRY_PHASE ≠ 1) ∧ (s_8.waits 1 2 9 3 d_4 = true) ∧ (s_8.on (RNG_TXSTAT_OPEN d_4.owner) = true) ∧
    (s_8.claimant (BitVec.toNat d_4.w2 / 4096) ≠ some d_4.owner) ∧ (RegFile.wf s_9.io = true) ∧ (s_9.fld PCR_ENTRY_PHASE ≠ 1) ∧
    (s_9.waits 1 2 9 3 d_5 = true) ∧ (BitVec.toNat d_5.w2 = rNET_HGRPL) ∧ (s_9.on (RNG_TXSTAT_OPEN d_5.owner) = true) ∧ (s_9.claimant 11 = some d_5.owner) ∧
    (d_5.w4 = 262143) ∧ (d_5.w3 = v_4) ∧ (smFind s_9.snap rNET_HGRPL = none) := by
  and_intros <;> decide +kernel

/-- Premises of RegisterCommands are met. -/
theorem test_premises_RegisterCommands :
    (RegFile.wf rall.io = true) ∧ (rall.domOn Dom.fabric = true) ∧ (rall.domOn Dom.act = true) ∧ (rall.domOn Dom.net = true) ∧ (rall.domOn Dom.zsw = true) ∧
    (rall.domOn Dom.coreS = true) ∧ (rall.domOn Dom.coreA = true) ∧ (rall.domOn Dom.fawn = true) ∧ (rall.fld PCR_ENTRY_PHASE ≠ 1) ∧
    (List.isEmpty rall.rng.commits = true) ∧ (rall.snap = []) ∧ (rall.on (RNG_RCFG_EN 9) = true) ∧ (rall.on INP_LHCMD_FORCE = false) ∧
    (rall.chFenced 3 = false) ∧ (v_6.toNat ≠ rall.fld (NET_CTC_REQ 3)) ∧ (rall.chFenced (8 + 2) = false) ∧ (v_6.toNat ≠ 2) ∧
    (v_6.toNat ≠ rall.fld (NET_LCFG_REQ 2)) ∧ (rall.on NET_HCTL_CONS = true) ∧ (rall.macOf rall.mVid rall.mAddr = none) ∧
    (rall.macFull rall.mVid rall.mAddr = false) ∧ (rall.zsw.census = none) ∧ (rall.tc10 2 ≠ 1) ∧ (rall.tc10 2 = 3) ∧ (rall.on ETH_ASCTL_GM = true) ∧
    (rall.acc.pres = none) ∧ (rall.on FLT_IMCONF_REQ = false) ∧ (CoreId.a1 ≠ CoreId.s) ∧ (rall.on (ICU_ACTL_HOLD 1) = true) ∧
    ((rall.core 1).run = CoreRun.reset) ∧ (smFind rall.snap (65536 * (CoreId.a1.num + 1) + 4) = none) ∧ (RegFile.wf s_10.io = true) ∧
    (s_10.domOn Dom.fabric = true) ∧ (s_10.domOn Dom.act = true) ∧ (s_10.domOn Dom.net = true) ∧ (s_10.domOn Dom.zsw = true) ∧ (s_10.domOn Dom.coreS = true) ∧
    (s_10.domOn Dom.coreA = true) ∧ (s_10.domOn Dom.fawn = true) ∧ (s_10.fld PCR_ENTRY_PHASE ≠ 1) ∧ (List.isEmpty s_10.rng.commits = true) ∧ (s_10.snap = []) ∧
    (s_10.on (RNG_RCFG_EN 9) = false) ∧ (s_10.macOf s_10.mVid s_10.mAddr = some e_1) ∧ (s_10.tc10 2 = 1) ∧ (s_10.on (ETH_PSTAT_LINK 2) = true) ∧
    (s_10.on ETH_ASCTL_GM = false) ∧ (s_10.on (ICU_ACTL_HOLD 1) = false) ∧ ((s_10.core 1).run = CoreRun.running) ∧ (RegFile.wf s_11.io = true) ∧
    (s_11.domOn Dom.fabric = true) ∧ (s_11.domOn Dom.act = true) ∧ (s_11.domOn Dom.net = true) ∧ (s_11.domOn Dom.zsw = true) ∧ (s_11.domOn Dom.coreS = true) ∧
    (s_11.domOn Dom.coreA = true) ∧ (s_11.domOn Dom.fawn = true) ∧ (s_11.fld PCR_ENTRY_PHASE ≠ 1) ∧ (List.isEmpty s_11.rng.commits = true) ∧ (s_11.snap = []) ∧
    (s_11.chFenced 3 = true) ∧ (v_6.toNat ≠ s_11.fld (NET_CTC_REQ 3)) ∧ (s_11.tc10 2 = 2) ∧ (RegFile.wf s_12.io = true) ∧ (s_12.domOn Dom.fabric = true) ∧
    (s_12.domOn Dom.act = true) ∧ (s_12.domOn Dom.net = true) ∧ (s_12.domOn Dom.zsw = true) ∧ (s_12.domOn Dom.coreS = true) ∧ (s_12.domOn Dom.coreA = true) ∧
    (s_12.domOn Dom.fawn = true) ∧ (s_12.fld PCR_ENTRY_PHASE ≠ 1) ∧ (List.isEmpty s_12.rng.commits = true) ∧ (s_12.snap = []) ∧ (s_12.acc.pres ≠ none) ∧
    (s_12.img.sess = none) ∧
    ((s_12.modImg fun (y : Img) => { sess := y.sess, downs := y.downs, inbox := y.inbox, mig := y.mig, sig := y.sig, sigAge := y.sigAge, spdAge := y.spdAge : Img }).bankState (s_12.modImg fun (y : Img) => { sess := y.sess, downs := y.downs, inbox := y.inbox, mig := y.mig, sig := y.sig, sigAge := y.sigAge, spdAge := y.spdAge : Img }).inactive = 1) := by
  and_intros <;> decide +kernel

/-- Premises of KeyCommands are met. -/
theorem test_premises_KeyCommands :
    (RegFile.wf s_1.io = true) ∧ (s_1.domOn Dom.fabric = true) ∧ (s_1.fld PCR_ENTRY_PHASE ≠ 1) ∧ (s_1.snap = []) ∧ (s_1.acc.pres = none) ∧
    (s_1.acc.kstore = none) ∧ (8 ≤ e_2.toNat) ∧ (e_2.toNat ≤ 13) ∧ (s_1.acc.crypto = none) ∧ (RegFile.wf s_13.io = true) ∧ (s_13.domOn Dom.fabric = true) ∧
    (s_13.fld PCR_ENTRY_PHASE ≠ 1) ∧ (s_13.snap = []) ∧ (s_13.acc.pres ≠ none) ∧ (RegFile.wf s_14.io = true) ∧ (s_14.domOn Dom.fabric = true) ∧
    (s_14.fld PCR_ENTRY_PHASE ≠ 1) ∧ (s_14.snap = []) ∧ (s_14.acc.kstore ≠ none) ∧ (s_14.acc.crypto ≠ none) := by
  and_intros <;> decide +kernel

end Wit.Regs

namespace Wit.Gen
def cs (f : Core → Core) : State := ((wst []).modPw (fun p => {p with coreS := .on, coreA := .on, mode := .run, boot := .app})).modCore 2 (fun x => f {x with run := .running, pc := 100})
def cr (l : List (Fin 32 × Nat)) (x : Core) : Core := l.foldl (fun x e => x.put e.1 (toWord e.2)) x
def s_1 : State := { State.reset with pending := [.por, .por]}
def c_1 : Instr := .por
def l_1 : List Instr := [.por]
def s_2 : State := State.reset
def l_2 : List Instr := []
def s_3 : State := (wst []).setFld (RNG_RCFG_IRQEN 9) 1
def d_1 : Desc := {wdesc 2 0 3 with w0 := toWord (2^16)}
def x_1 : Desc := {wdesc 2 0 3 with id := 4}
def s_4 : State := ((wst []).setFld (RNG_RCFG_OWNER 9) 5).withD [wdesc 2 0 3, {wdesc 2 0 3 with id := 4}]
def s_5 : State := wst [(FLT_SPCTL_EN, 1)]
def s_6 : State := wst [(FLT_FST_LOGN 7, 8), (FLT_SPCTL_EN, 1)]
def s_7 : State := wst [(FLT_FESC_ESCEN 7, 2^18-1)]
def s_8 : State := (wst [(FLT_FESC_ESCEN 0, 2^18-1)]).modFlt (fun x => {x with unack := [(1,2)]})
def s_9 : State := (wst [(FLT_FESC_ESCEN 0, 2^18-1)])
def s_10 : State := (wst [(FLT_FESC_ESCEN 0, 0)])
def s1 : State := cs (cr [(1, 5), (2, 0o777776), (3, 0o400000)])
def k_1 : BitVec 4 := 2
def o_1 : BitVec 7 := 100
def w_1 : Word := 0o777000
def k_2 : BitVec 4 := 1
def k_3 : BitVec 4 := 15
def ee (a b : Nat) : State := cs (cr [(1, a), (2, b)])
def s_11 : State := ee 0 0o400000
def f_1 : DivFlight := ⟨0, 0, false, false, 0⟩
def l_3 : List Flight := []
def a_1 : Word := 0
def s_12 : State := ee 0 0
def s_13 : State := ee 0o377777 1
def s_14 : State := ee 0o400000 1
def s_15 : State := ee 0 1
def s_16 : State := ee 1 18
def s_17 : State := ee 1 (32+19)
def s_18 : State := ee 0 20
def s_19 : State := ee 0o400000 18
def s_20 : State := ee 0o400000 22
def s_21 : State := ee 0o377777 22
def s_22 : State := ee 0o377777 64
def s_23 : State := ee 0o400000 0o400000
def s_24 : State := cs (fun x => {x with mul := [⟨false, 2^35+5⟩, ⟨true, 5⟩]})
def l_4 : List Flight := [⟨true, 5⟩]
def p_1 : Nat := 2^35+5
def s_25 : State := cs (fun x => {x with ah := 0o777777, mul := [⟨true, 2^53+5⟩, ⟨true, 5⟩]})
def p_2 : Nat := 2^53+5
def s_26 : State := ee 0o777771 2
def s_27 : State := ee 0o400000 0o777777
def s_28 : State := ee 0o400000 0
def s_29 : State := cs (fun x => {x with div := some ⟨1, 2, true, true, 99⟩})
def f_2 : DivFlight := ⟨1, 2, true, true, 99⟩
def s_30 : State := cs (fun x => {x with ctl := 0o400000, div := some ⟨1, 2, true, true, 99⟩})
def a_2 : Word := 0o777771
def b_1 : Word := 2
def s_31 : State := cs (cr [(2, 0x2FF0)])
def a_3 : BitVec 16 := 0x2FFF
def v_1 : Word := 9
def i_1 : Word := 15
def s_32 : State := (cs (cr [(2, 0x2FF0)])).setFld (ICU_FLAG_RSVACC 2) 1


/-- Premises of StepRunsTheFront are met. -/
theorem test_premises_StepRunsTheFront :
    (s_1.pending = c_1 :: l_1) ∧ (s_2.pending = []) := by
  and_intros <;> decide +kernel

/-- Premises of ResetState are met. -/
theorem test_premises_ResetState :
    (5 < 2 ^ 23) ∧ (5 < 64) := by
  and_intros <;> decide +kernel

/-- Premises of Completions are met. -/
theorem test_premises_Completions :
    (d_1.mute = false) ∧ (s_3.domOn Dom.fabric = true) ∧ (s_3.addrOff (s_3.slotAddr d_1.ring d_1.slot) = false) ∧ (5 ≠ s_3.slotAddr d_1.ring d_1.slot) ∧
    (5 ≠ s_3.slotAddr d_1.ring d_1.slot + 7) ∧ (s_3.eccOf (s_3.slotAddr d_1.ring d_1.slot) ≠ 1) ∧ (d_1.ring < 64) ∧ (BitVec.getLsbD d_1.w0 16 = true) ∧
    (s_3.on (RNG_RCFG_IRQEN d_1.ring) = true) := by
  and_intros <;> decide +kernel

/-- Premises of FaultRecords are met. -/
theorem test_premises_FaultRecords :
    (s_5.effLevel 7 (3 + 1) ≤ 1) ∧ (s_5.fld (FLT_FST_LOGN 7) < 8) ∧ (s_6.effLevel 7 (3 + 1) ≤ 1) ∧ (8 ≤ s_6.fld (FLT_FST_LOGN 7)) := by
  and_intros <;> decide +kernel

/-- Premises of EffectiveLevels are met. -/
theorem test_premises_EffectiveLevels :
    (s_7.bit (FLT_FESC_ESCEN 7) 3 = true) ∧ (7 ≠ 15) ∧ (classLevel 7 (3 + 1) ≤ 1) ∧ (s_8.bit (FLT_FESC_ESCEN 0) 0 = true) ∧ (0 ≠ 15) ∧
    (2 ≤ classLevel 0 (0 + 1)) ∧ (0 < s_8.unackOf 0 (0 + 1)) ∧ (s_9.bit (FLT_FESC_ESCEN 0) 0 = true) ∧ (s_9.unackOf 0 (0 + 1) = 0) ∧
    (s_10.bit (FLT_FESC_ESCEN 0) 0 = false) := by
  and_intros <;> decide +kernel

/-- Premises of Conditions are met. -/
theorem test_premises_Conditions :
    (k_1.toNat < 15) ∧ (k_1.toNat = 0 → true = false) ∧ (s1.fetches CoreId.s.num 1 = true) ∧ (s1.fetches CoreId.s.num 2 = true) ∧ (k_3.toNat = 15) := by
  and_intros <;> decide +kernel

/-- Premises of EdgeResults are met. -/
theorem test_premises_EdgeResults :
    (s_11.fetches CoreId.s.num 1 = true) ∧ ((s_11.core CoreId.s.num).get 2 = 131072) ∧ (BitVec.toNat ((s_11.core CoreId.s.num).get 2) % 32 = 0) ∧
    (s_12.fetches CoreId.s.num 1 = true) ∧ ((s_12.core CoreId.s.num).get 2 = 0) ∧ ((s_12.core CoreId.s.num).div = none) ∧
    (BitVec.msb ((s_12.core CoreId.s.num).get 1) = false) ∧ (s_13.fetches CoreId.s.num 1 = true) ∧ ((s_13.core CoreId.s.num).get 1 = 131071) ∧
    ((s_13.core CoreId.s.num).get 2 = 1) ∧ (s_14.fetches CoreId.s.num 1 = true) ∧ ((s_14.core CoreId.s.num).get 1 = 131072) ∧
    ((s_14.core CoreId.s.num).get 2 = 1) ∧ (s_15.fetches CoreId.s.num 1 = true) ∧ ((s_15.core CoreId.s.num).get 1 = 0) ∧ ((s_15.core CoreId.s.num).get 2 = 1) ∧
    (s_16.fetches CoreId.s.num 1 = true) ∧ ((s_16.core CoreId.s.num).get 1 = 1) ∧ (BitVec.toNat ((s_16.core CoreId.s.num).get 2) % 32 = 18) ∧
    (s_17.fetches CoreId.s.num 1 = true) ∧ ((s_17.core CoreId.s.num).get 1 = 1) ∧ (19 ≤ BitVec.toNat ((s_17.core CoreId.s.num).get 2) % 32) ∧
    (s_18.fetches CoreId.s.num 1 = true) ∧ ((s_18.core CoreId.s.num).get 1 = 0) ∧ (18 ≤ BitVec.toNat ((s_18.core CoreId.s.num).get 2) % 32) ∧
    (BitVec.toNat ((s_18.core CoreId.s.num).get 2) % 32 = 20) ∧ (s_19.fetches CoreId.s.num 1 = true) ∧ ((s_19.core CoreId.s.num).get 1 = 131072) ∧
    (BitVec.toNat ((s_19.core CoreId.s.num).get 2) % 32 = 18) ∧ (18 ≤ BitVec.toNat ((s_19.core CoreId.s.num).get 2) % 32) ∧
    (s_21.fetches CoreId.s.num 1 = true) ∧ ((s_21.core CoreId.s.num).get 1 = 131071) ∧ (18 ≤ BitVec.toNat ((s_21.core CoreId.s.num).get 2) % 32) ∧
    (s_23.fetches CoreId.s.num 1 = true) ∧ ((s_23.core CoreId.s.num).get 1 = 131072) ∧ ((s_23.core CoreId.s.num).get 2 = 131072) ∧
    ((s_23.core CoreId.s.num).mul.length < 4) ∧ (s_24.fetches CoreId.s.num 1 = true) ∧
    ((s_24.core CoreId.s.num).mul = { mac := false, value := p_1 : Flight } :: l_4) ∧ (p_1 < 2 ^ 36) ∧ (s_25.fetches CoreId.s.num 1 = true) ∧
    ((s_25.core CoreId.s.num).mul = { mac := true, value := p_2 : Flight } :: l_4) ∧ (s_26.fetches CoreId.s.num 1 = true) ∧
    ((s_26.core CoreId.s.num).div = none) ∧ ((s_26.core CoreId.s.num).get 1 = 262137) ∧ ((s_26.core CoreId.s.num).get 2 = 2) ∧
    (s_27.fetches CoreId.s.num 1 = true) ∧ ((s_27.core CoreId.s.num).div = none) ∧ ((s_27.core CoreId.s.num).get 1 = 131072) ∧
    ((s_27.core CoreId.s.num).get 2 = 262143) ∧ (s_28.fetches CoreId.s.num 1 = true) ∧ ((s_28.core CoreId.s.num).div = none) ∧
    ((s_28.core CoreId.s.num).get 2 = 0) ∧ (BitVec.msb ((s_28.core CoreId.s.num).get 1) = true) ∧ (s_29.fetches CoreId.s.num 1 = true) ∧
    ((s_29.core CoreId.s.num).div = some f_2) ∧ (f_2.dz = false ∨ BitVec.getLsbD (s_29.core CoreId.s.num).ctl 17 = false) ∧
    (s_30.fetches CoreId.s.num 1 = true) ∧ ((s_30.core CoreId.s.num).div = some f_2) ∧ (f_2.dz = true) ∧
    (BitVec.getLsbD (s_30.core CoreId.s.num).ctl 17 = true) ∧ (s1.fetches CoreId.s.num 1 = true) ∧ (b_1 ≠ 0) := by
  and_intros <;> decide +kernel

/-- Premises of ReservedAddresses are met. -/
theorem test_premises_ReservedAddresses :
    (busReg CoreId.s.num a_3.toNat = none) ∧ (sIcuOnly CoreId.s.num a_3.toNat = false) ∧ (s_31.fetches CoreId.s.num 2 = true) ∧
    (BitVec.toNat ((s_31.core CoreId.s.num).get 2 + i_1) = a_3.toNat) ∧ (s_31.accesses CoreId.s.num a_3.toNat true = true) ∧
    (s_31.accesses CoreId.s.num a_3.toNat false = true) ∧ (4 ≠ rICU_RSVA CoreId.s.num) ∧ (4 ≠ (ICU_FLAG_RSVACC CoreId.s.num).addr) := by
  and_intros <;> decide +kernel

end Wit.Gen
end

section
/-! PROOFS. The statements on the block as a whole: what every step keeps (R8, R26 to R40), the state after reset (R8, R39, R498, R587),
and the accesses of registers (R9, R18, R61, R91). -/

namespace Sys2Proof.Machine

/-! ### Every step keeps the canonical forms -/

/-- Arm by arm as `exec` dispatches. -/
theorem exec_keeps (i : Instr) (s : State) : ∃ u, exec i s = .next u ∧ Keeps s u :=
  match i with
  | .registerWrite c a v => execRegisterWrite_keeps c a v s
  | .rcCounterRead c a => execRcCounterRead_keeps c a s
  | .snapshotRead c a => execSnapshotRead_keeps c a s
  | .por => execPor_keeps s
  | .rstnReset => execRstnReset_keeps s
  | .moduleSoftwareReset => execModuleSoftwareReset_keeps s
  | .fabricLive => execFabricLive_keeps s
  | .actuationReady => execActuationReady_keeps s
  | .bootRom => execBootRom_keeps s
  | .handover => execHandover_keeps s
  | .migrationDone => execMigrationDone_keeps s
  | .pll0Lost => execPll0Lost_keeps s
  | .crystalLoss => execCrystalLoss_keeps s
  | .pll0ToCrystal => execPll0ToCrystal_keeps s
  | .actoscLost => execActoscLost_keeps s
  | .actDriftCheck off => execActDriftCheck_keeps off s
  | .railFault rail => execRailFault_keeps rail s
  | .l4Reset => execL4Reset_keeps s
  | .eccWriteback unit a => execEccWriteback_keeps unit a s
  | .marchStart c bank preserve => execMarchStart_keeps c bank preserve s
  | .marchDone fails ofs chk => execMarchDone_keeps fails ofs chk s
  | .tsweepRegion fail => execTsweepRegion_keeps fail s
  | .permitExpiry => execPermitExpiry_keeps s
  | .nvmReadRow c => execNvmReadRow_keeps c s
  | .progrow c => execProgrow_keeps c s
  | .erasesect c => execErasesect_keeps c s
  | .erasebank c => execErasebank_keeps c s
  | .blankchk c => execBlankchk_keeps c s
  | .nvmCommandDone bad => execNvmCommandDone_keeps bad s
  | .ndataPush c v => execNdataPush_keeps c v s
  | .ndataPop c => execNdataPop_keeps c s
  | .ssWrite c => execSsWrite_keeps c s
  | .ssLoad c => execSsLoad_keeps c s
  | .ssCommandDone bad => execSsCommandDone_keeps bad s
  | .otpProg c o => execOtpProg_keeps c o s
  | .otpDone bad => execOtpDone_keeps bad s
  | .ringEnable c r => execRingEnable_keeps c r s
  | .ringDisable c r => execRingDisable_keeps c r s
  | .doorbell c r v => execDoorbell_keeps c r v s
  | .descriptorFetch e => execDescriptorFetch_keeps e s
  | .descriptorNop r slot => execDescriptorNop_keeps r slot s
  | .begin r slot => execBegin_keeps r slot s
  | .txwrite r slot => execTxwrite_keeps r slot s
  | .commit r slot => execCommit_keeps r slot s
  | .commitPoint o late => execCommitPoint_keeps o late s
  | .rollback r slot => execRollback_keeps r slot s
  | .txTimeout o => execTxTimeout_keeps o s
  | .remoteRequest => execRemoteRequest_keeps s
  | .completionResponse k => execCompletionResponse_keeps k s
  | .frameBoundary g => execFrameBoundary_keeps g s
  | .threadWaitEnd n => execThreadWaitEnd_keeps n s
  | .seqEnd n => execSeqEnd_keeps n s
  | .seqHold n => execSeqHold_keeps n s
  | .seqSetd n => execSeqSetd_keeps n s
  | .seqSetdq n => execSeqSetdq_keeps n s
  | .seqRamp n => execSeqRamp_keeps n s
  | .seqWaitf n => execSeqWaitf_keeps n s
  | .seqWaitt n => execSeqWaitt_keeps n s
  | .seqWaite n => execSeqWaite_keeps n s
  | .seqSetc n => execSeqSetc_keeps n s
  | .seqDjnz0 n => execSeqDjnz0_keeps n s
  | .seqDjnz1 n => execSeqDjnz1_keeps n s
  | .seqJmp n => execSeqJmp_keeps n s
  | .seqCall n => execSeqCall_keeps n s
  | .seqRet n => execSeqRet_keeps n s
  | .seqSke n => execSeqSke_keeps n s
  | .seqSetp n => execSeqSetp_keeps n s
  | .seqStatus n => execSeqStatus_keeps n s
  | .seqSett n => execSeqSett_keeps n s
  | .seqPhase n => execSeqPhase_keeps n s
  | .seqUndefined n => execSeqUndefined_keeps n s
  | .seqResume c g => execSeqResume_keeps c g s
  | .seqMdataWrite c v => execSeqMdataWrite_keeps c v s
  | .seqMdataRead c => execSeqMdataRead_keeps c s
  | .ztSample t => execZtSample_keeps t s
  | .ztHoldover => execZtHoldover_keeps s
  | .deadline r slot late held => execDeadline_keeps r slot late held s
  | .tprovExpiry r slot => execTprovExpiry_keeps r slot s
  | .provleak r slot => execProvleak_keeps r slot s
  | .hscSet r slot held => execHscSet_keeps r slot held s
  | .hscOff r slot => execHscOff_keeps r slot s
  | .hscRun r slot => execHscRun_keeps r slot s
  | .hscDiag r slot => execHscDiag_keeps r slot s
  | .hscClear r slot => execHscClear_keeps r slot s
  | .hsLimitReached n => execHsLimitReached_keeps n s
  | .hsShortEvent n => execHsShortEvent_keeps n s
  | .hsOverloadEvent n => execHsOverloadEvent_keeps n s
  | .hsRestart n held => execHsRestart_keeps n held s
  | .hsUndervoltage n => execHsUndervoltage_keeps n s
  | .hsUvRelease n held => execHsUvRelease_keeps n held s
  | .warmUpEnd n => execWarmUpEnd_keeps n s
  | .scntRestore n => execScntRestore_keeps n s
  | .validMeasurement n imm => execValidMeasurement_keeps n imm s
  | .offStateCheck n high still => execOffStateCheck_keeps n high still s
  | .hsOlUnknown n => execHsOlUnknown_keeps n s
  | .diagnosticPulse n => execDiagnosticPulse_keeps n s
  | .preheatPulse n => execPreheatPulse_keeps n s
  | .dtLatch o t cs => execDtLatch_keeps o t cs s
  | .dtRelease o t cs held => execDtRelease_keeps o t cs held s
  | .tjLatch o t => execTjLatch_keeps o t s
  | .tjRelease o t held => execTjRelease_keeps o t held s
  | .wireModelUpdate o ons => execWireModelUpdate_keeps o ons s
  | .channelSensorFail o => execChannelSensorFail_keeps o s
  | .caseReferenceFail k => execCaseReferenceFail_keeps k s
  | .diehot d t => execDiehot_keeps d t s
  | .dieover d t => execDieover_keeps d t s
  | .pestUpdate sides => execPestUpdate_keeps sides s
  | .motDrive r slot => execMotDrive_keeps r slot s
  | .motGoto r slot => execMotGoto_keeps r slot s
  | .motStop r slot => execMotStop_keeps r slot s
  | .motRun r slot => execMotRun_keeps r slot s
  | .motDiag r slot => execMotDiag_keeps r slot s
  | .motDiagDone t top bottom apart => execMotDiagDone_keeps t top bottom apart s
  | .motClear r slot => execMotClear_keeps r slot s
  | .setpos r slot => execSetpos_keeps r slot s
  | .prechEnd t boot => execPrechEnd_keeps t boot s
  | .motCurrentLimit t => execMotCurrentLimit_keeps t s
  | .motShort t side => execMotShort_keeps t side s
  | .motOverload t => execMotOverload_keeps t s
  | .motStall t => execMotStall_keeps t s
  | .motOpen t => execMotOpen_keeps t s
  | .gateFault g => execGateFault_keeps g s
  | .chargePumpLow v => execChargePumpLow_keeps v s
  | .chargePumpRelease v => execChargePumpRelease_keeps v s
  | .driveDurationEnd t => execDriveDurationEnd_keeps t s
  | .brakeEnd t => execBrakeEnd_keeps t s
  | .motSupplyEnter t past => execMotSupplyEnter_keeps t past s
  | .motSupplyRelease t => execMotSupplyRelease_keeps t s
  | .rippleCandidate g dt => execRippleCandidate_keeps g dt s
  | .rippleInsert g => execRippleInsert_keeps g s
  | .pinchViolation g v dt => execPinchViolation_keeps g v dt s
  | .pinchReverseStart g => execPinchReverseStart_keeps g s
  | .reversalEnd g => execReversalEnd_keeps g s
  | .plockEnd g => execPlockEnd_keeps g s
  | .bootstrapHoldPulse t => execBootstrapHoldPulse_keeps t s
  | .vlvEnergise r slot => execVlvEnergise_keeps r slot s
  | .vlvRelease r slot => execVlvRelease_keeps r slot s
  | .seti r slot => execSeti_keeps r slot s
  | .vlvRun r slot => execVlvRun_keeps r slot s
  | .vlvDiag r slot => execVlvDiag_keeps r slot s
  | .vlvDiagDone n low cur => execVlvDiagDone_keeps n low cur s
  | .vlvClear r slot => execVlvClear_keeps r slot s
  | .bankNodeReady m => execBankNodeReady_keeps m s
  | .vhOpenDelayEnd m => execVhOpenDelayEnd_keeps m s
  | .ipkReached n us => execIpkReached_keeps n us s
  | .peakHoldEnd n => execPeakHoldEnd_keeps n s
  | .tpkmaxExpiry n low weak => execTpkmaxExpiry_keeps n low weak s
  | .decayEnd n => execDecayEnd_keeps n s
  | .peakSlotFree n => execPeakSlotFree_keeps n s
  | .waitDeadline n => execWaitDeadline_keeps n s
  | .dutyLimit n => execDutyLimit_keeps n s
  | .dfullClear n => execDfullClear_keeps n s
  | .valveDurationEnd n => execValveDurationEnd_keeps n s
  | .setiRampEnd n => execSetiRampEnd_keeps n s
  | .valveOpen n => execValveOpen_keeps n s
  | .vlShort n => execVlShort_keeps n s
  | .vhShort m => execVhShort_keeps m s
  | .bankOverload m => execBankOverload_keeps m s
  | .bankUvoff m => execBankUvoff_keeps m s
  | .bankUvRelease m => execBankUvRelease_keeps m s
  | .luxSet r slot => execLuxSet_keeps r slot s
  | .luxOff r slot => execLuxOff_keeps r slot s
  | .luxRun r slot => execLuxRun_keeps r slot s
  | .luxDiag r slot => execLuxDiag_keeps r slot s
  | .luxClear r slot => execLuxClear_keeps r slot s
  | .colour r slot => execColour_keeps r slot s
  | .pxwrite r slot => execPxwrite_keeps r slot s
  | .pxlatch r slot => execPxlatch_keeps r slot s
  | .pxenum r slot => execPxenum_keeps r slot s
  | .pxread r slot => execPxread_keeps r slot s
  | .pxreg r slot => execPxreg_keeps r slot s
  | .sinkShortToBattery n => execSinkShortToBattery_keeps n s
  | .deratingUpdate => execDeratingUpdate_keeps s
  | .loopPeriod k => execLoopPeriod_keeps k s
  | .colourSensorReadDone k why p0 p1 p2 => execColourSensorReadDone_keeps k why p0 p1 p2 s
  | .chainFrameSent c => execChainFrameSent_keeps c s
  | .chainReply c frame => execChainReply_keeps c frame s
  | .chainReplyTimeout c => execChainReplyTimeout_keeps c s
  | .enumEnd c frame => execEnumEnd_keeps c frame s
  | .statusScan c => execStatusScan_keeps c s
  | .timedLatchStart r slot => execTimedLatchStart_keeps r slot s
  | .switchPoll n v => execSwitchPoll_keeps n v s
  | .staticFilterEnd n v => execStaticFilterEnd_keeps n v s
  | .adcScan a => execAdcScan_keeps a s
  | .adcResult a conv => execAdcResult_keeps a conv s
  | .senseConversion o v => execSenseConversion_keeps o v s
  | .senseAdcCalibration a ok => execSenseAdcCalibration_keeps a ok s
  | .ssOvercurrent k => execSsOvercurrent_keeps k s
  | .ssDriven k => execSsDriven_keeps k s
  | .sentFrame k cal nibs slow => execSentFrame_keeps k cal nibs slow s
  | .sentTimeout k => execSentTimeout_keeps k s
  | .psi5Sync k => execPsi5Sync_keeps k s
  | .psi5Frame k j coding check data => execPsi5Frame_keeps k j coding check data s
  | .psi5SlotClose k j => execPsi5SlotClose_keeps k j s
  | .psi5BusLimit k => execPsi5BusLimit_keeps k s
  | .sensorMessage => execSensorMessage_keeps s
  | .sensrx r slot => execSensrx_keeps r slot s
  | .fabricStep => execFabricStep_keeps s
  | .fabricTimer t => execFabricTimer_keeps t s
  | .limpHomeEngage => execLimpHomeEngage_keeps s
  | .limpHomeForce c => execLimpHomeForce_keeps c s
  | .limpHomeRelease c => execLimpHomeRelease_keeps c s
  | .busTx r slot => execBusTx_keeps r slot s
  | .rxbuf r slot => execRxbuf_keeps r slot s
  | .hdr r slot => execHdr_keeps r slot s
  | .linwake r slot => execLinwake_keeps r slot s
  | .canFrameSent c lec => execCanFrameSent_keeps c lec s
  | .canFrameReceived c lec f => execCanFrameReceived_keeps c lec f s
  | .linFrameReceived k e f => execLinFrameReceived_keeps k e f s
  | .storedFrameDeliver r => execStoredFrameDeliver_keeps r s
  | .canBusOff c => execCanBusOff_keeps c s
  | .busoffRecovery c n => execBusoffRecovery_keeps c n s
  | .transceiverRequest c n v => execTransceiverRequest_keeps c n v s
  | .guardedEntryDone w => execGuardedEntryDone_keeps w s
  | .canWup c => execCanWup_keeps c s
  | .canWuf c ok f => execCanWuf_keeps c ok f s
  | .linBusWake k => execLinBusWake_keeps k s
  | .validationWindowEnd w => execValidationWindowEnd_keeps w s
  | .deafEnd w => execDeafEnd_keeps w s
  | .undeaf c n => execUndeaf_keeps c n s
  | .canTxdTimeout c => execCanTxdTimeout_keeps c s
  | .canBusDominant c => execCanBusDominant_keeps c s
  | .linBusShort k => execLinBusShort_keeps k s
  | .talkerPackTimeout t => execTalkerPackTimeout_keeps t s
  | .listenerFrame => execListenerFrame_keeps s
  | .herdEnable => execHerdEnable_keeps s
  | .herdDisable => execHerdDisable_keeps s
  | .herdJoin c => execHerdJoin_keeps c s
  | .herdConsWithdraw c => execHerdConsWithdraw_keeps c s
  | .herdRingReceived => execHerdRingReceived_keeps s
  | .herdPrepReceived => execHerdPrepReceived_keeps s
  | .herdAliveReceived => execHerdAliveReceived_keeps s
  | .herdLeaveReceived => execHerdLeaveReceived_keeps s
  | .herdForward => execHerdForward_keeps s
  | .herdSettleEnd => execHerdSettleEnd_keeps s
  | .herdRingLost => execHerdRingLost_keeps s
  | .herdPrepEnd => execHerdPrepEnd_keeps s
  | .zswFrameReceived p b bad stomped => execZswFrameReceived_keeps p b bad stomped s
  | .zswEgressSend p => execZswEgressSend_keeps p s
  | .portLinkUp p sqi => execPortLinkUp_keeps p sqi s
  | .portLinkLost p => execPortLinkLost_keeps p s
  | .portHoldEnd p => execPortHoldEnd_keeps p s
  | .flushDone p => execFlushDone_keeps p s
  | .bucketReturn g b => execBucketReturn_keeps g b s
  | .macAgeing v m => execMacAgeing_keeps v m s
  | .lookup c => execLookup_keeps c s
  | .insert c => execInsert_keeps c s
  | .delete c => execDelete_keeps c s
  | .flushLearned c => execFlushLearned_keeps c s
  | .flushLearnedOfPort c => execFlushLearnedOfPort_keeps c s
  | .txframe r slot => execTxframe_keeps r slot s
  | .rxcopy r slot => execRxcopy_keeps r slot s
  | .rxbind r slot => execRxbind_keeps r slot s
  | .rxfree r slot => execRxfree_keeps r slot s
  | .bindingExpiry imm => execBindingExpiry_keeps imm s
  | .censusStart c => execCensusStart_keeps c s
  | .censusTimer => execCensusTimer_keeps s
  | .censusDone => execCensusDone_keeps s
  | .phyFault p => execPhyFault_keeps p s
  | .plcaBeaconLoss p => execPlcaBeaconLoss_keeps p s
  | .plcaBeacon p => execPlcaBeacon_keeps p s
  | .tc10SleepRequest c p => execTc10SleepRequest_keeps c p s
  | .lpsAckReceived p => execLpsAckReceived_keeps p s
  | .sleepHandshakeTimeout p => execSleepHandshakeTimeout_keeps p s
  | .remoteSleepRequest p => execRemoteSleepRequest_keeps p s
  | .tc10Wup p => execTc10Wup_keeps p s
  | .tc10Wake c p => execTc10Wake_keeps c p s
  | .tc10Wur p => execTc10Wur_keeps p s
  | .syncFollowUp p ofs => execSyncFollowUp_keeps p ofs s
  | .gptpHoldover => execGptpHoldover_keeps s
  | .peerDelayExchange p answered d => execPeerDelayExchange_keeps p answered d s
  | .zoneTimeSet c => execZoneTimeSet_keeps c s
  | .search r slot => execSearch_keeps r slot s
  | .readpg r slot => execReadpg_keeps r slot s
  | .writepg r slot => execWritepg_keeps r slot s
  | .learn r slot => execLearn_keeps r slot s
  | .lfDiag r slot => execLfDiag_keeps r slot s
  | .lfClear r slot => execLfClear_keeps r slot s
  | .lfEnd r slot => execLfEnd_keeps r slot s
  | .idrep c id viol crc ofs => execIdrep_keeps c id viol crc ofs s
  | .authrep c rk tk crc ofs => execAuthrep_keeps c rk tk crc ofs s
  | .keyAck c status crc ofs => execKeyAck_keeps c status crc ofs s
  | .keyData c data mac crc ofs => execKeyData_keeps c data mac crc ofs s
  | .keyNoAnswer c => execKeyNoAnswer_keeps c s
  | .sessionHoldEnd c => execSessionHoldEnd_keeps c s
  | .sessionTimeout c => execSessionTimeout_keeps c s
  | .lfAntennaShort c => execLfAntennaShort_keeps c s
  | .lfAntennaOpen c => execLfAntennaOpen_keeps c s
  | .lfDriverHot c => execLfDriverHot_keeps c s
  | .learnK c => execLearnK_keeps c s
  | .learnT c => execLearnT_keeps c s
  | .revokeK c k => execRevokeK_keeps c k s
  | .revokeT c k => execRevokeT_keeps c k s
  | .learnClose c => execLearnClose_keeps c s
  | .learnSessionEnd => execLearnSessionEnd_keeps s
  | .ownerSet c => execOwnerSet_keeps c s
  | .ownerClr c => execOwnerClr_keeps c s
  | .nonce c => execNonce_keeps c s
  | .dbgUnlock c => execDbgUnlock_keeps c s
  | .svcnAtPowerUp => execSvcnAtPowerUp_keeps s
  | .svcnHeld => execSvcnHeld_keeps s
  | .buttonPattern => execButtonPattern_keeps s
  | .sealLoopBreak => execSealLoopBreak_keeps s
  | .presenceExpiry => execPresenceExpiry_keeps s
  | .presenceClose c => execPresenceClose_keeps c s
  | .keyLoad c e => execKeyLoad_keeps c e s
  | .rotate c e => execRotate_keeps c e s
  | .loadtr c => execLoadtr_keeps c s
  | .aesenc c long => execAesenc_keeps c long s
  | .aesdec c long => execAesdec_keeps c long s
  | .cmac c => execCmac_keeps c s
  | .sha256 c => execSha256_keeps c s
  | .ecdsaver c => execEcdsaver_keeps c s
  | .random c => execRandom_keeps c s
  | .cryptoDone => execCryptoDone_keeps s
  | .trngHealthFail => execTrngHealthFail_keeps s
  | .requestRun c => execRequestRun_keeps c s
  | .requestBrowse c => execRequestBrowse_keeps c s
  | .entryReq c bedded => execEntryReq_keeps c bedded s
  | .forcedEntry c bedded => execForcedEntry_keeps c bedded s
  | .agentAnswer b => execAgentAnswer_keeps b s
  | .delayBoundExpiry b => execDelayBoundExpiry_keeps b s
  | .entryCommit => execEntryCommit_keeps s
  | .commitComplete => execCommitComplete_keeps s
  | .wakeLatch code detail => execWakeLatch_keeps code detail s
  | .restExit => execRestExit_keeps s
  | .beddedExit => execBeddedExit_keeps s
  | .netRetentionExit => execNetRetentionExit_keeps s
  | .zswOn c on => execZswOn_keeps c on s
  | .restCompletionWake => execRestCompletionWake_keeps s
  | .hostFrameWake => execHostFrameWake_keeps s
  | .brownOut => execBrownOut_keeps s
  | .kl30Restore => execKl30Restore_keeps s
  | .kl30Low low => execKl30Low_keeps low s
  | .kl15Change on => execKl15Change_keeps on s
  | .rtcAlarm => execRtcAlarm_keeps s
  | .padRelease c rel => execPadRelease_keeps c rel s
  | .faultAck c b m => execFaultAck_keeps c b m s
  | .logRelease c b n => execLogRelease_keeps c b n s
  | .clrstk c b => execClrstk_keeps c b s
  | .unfence c b imm => execUnfence_keeps c b imm s
  | .clr4 c => execClr4_keeps c s
  | .fltnMinEnd => execFltnMinEnd_keeps s
  | .spoorRecordSend => execSpoorRecordSend_keeps s
  | .spoorSummary => execSpoorSummary_keeps s
  | .mirrorFrameSend => execMirrorFrameSend_keeps s
  | .softTrace c v => execSoftTrace_keeps c v s
  | .lbistStart c t => execLbistStart_keeps c t s
  | .lbistCancel c t => execLbistCancel_keeps c t s
  | .lbistRun c => execLbistRun_keeps c s
  | .lbistDone c fail => execLbistDone_keeps c fail s
  | .offer svc mv => execOffer_keeps svc mv s
  | .block svc => execBlock_keeps svc s
  | .imageCloseReceived svc => execImageCloseReceived_keeps svc s
  | .downstreamAnswer => execDownstreamAnswer_keeps s
  | .downstreamBack => execDownstreamBack_keeps s
  | .downstreamTimeout e => execDownstreamTimeout_keeps e s
  | .imageSessionTimeout => execImageSessionTimeout_keeps s
  | .inactiveBankErased bad => execInactiveBankErased_keeps bad s
  | .imageVerifyDone bad => execImageVerifyDone_keeps bad s
  | .vehicleMoves => execVehicleMoves_keeps s
  | .imageLowv => execImageLowv_keeps s
  | .imcmdClose c => execImcmdClose_keeps c s
  | .confinact c => execConfinact_keeps c s
  | .confirmRequest c req => execConfirmRequest_keeps c req s
  | .braceHeartSend => execBraceHeartSend_keeps s
  | .heart b crc code pid => execHeart_keeps b crc code pid s
  | .braceStateFrame b crc code => execBraceStateFrame_keeps b crc code s
  | .table b crc code par => execTable_keeps b crc code par s
  | .yield b crc code => execYield_keeps b crc code s
  | .handback b crc code => execHandback_keeps b crc code s
  | .quiet b crc code => execQuiet_keeps b crc code s
  | .braceCommaAlign => execBraceCommaAlign_keeps s
  | .braceMiss => execBraceMiss_keeps s
  | .braceFswOpen => execBraceFswOpen_keeps s
  | .brcYield c => execBrcYield_keeps c s
  | .brcHandback c => execBrcHandback_keeps c s
  | .brcQuiet c => execBrcQuiet_keeps c s
  | .brcWake c => execBrcWake_keeps c s
  | .nop c => execNop_keeps c s
  | .add c rd rs => execAdd_keeps c rd rs s
  | .adc c rd rs => execAdc_keeps c rd rs s
  | .sub c rd rs => execSub_keeps c rd rs s
  | .sbc c rd rs => execSbc_keeps c rd rs s
  | .and c rd rs => execAnd_keeps c rd rs s
  | .or c rd rs => execOr_keeps c rd rs s
  | .xor c rd rs => execXor_keeps c rd rs s
  | .andn c rd rs => execAndn_keeps c rd rs s
  | .mov c rd rs => execMov_keeps c rd rs s
  | .neg c rd rs => execNeg_keeps c rd rs s
  | .negs c rd rs => execNegs_keeps c rd rs s
  | .not c rd rs => execNot_keeps c rd rs s
  | .cmp c rd rs => execCmp_keeps c rd rs s
  | .tst c rd rs => execTst_keeps c rd rs s
  | .adds c rd rs => execAdds_keeps c rd rs s
  | .subs c rd rs => execSubs_keeps c rd rs s
  | .shl c rd rs => execShl_keeps c rd rs s
  | .shr c rd rs => execShr_keeps c rd rs s
  | .sar c rd rs => execSar_keeps c rd rs s
  | .ror c rd rs => execRor_keeps c rd rs s
  | .shli c rd n => execShli_keeps c rd n s
  | .shri c rd n => execShri_keeps c rd n s
  | .sari c rd n => execSari_keeps c rd n s
  | .rori c rd n => execRori_keeps c rd n s
  | .muls c rd rs => execMuls_keeps c rd rs s
  | .mulu c rd rs => execMulu_keeps c rd rs s
  | .macs c rd rs => execMacs_keeps c rd rs s
  | .macu c rd rs => execMacu_keeps c rd rs s
  | .productLanding c => execProductLanding_keeps c s
  | .divs c rd rs => execDivs_keeps c rd rs s
  | .divu c rd rs => execDivu_keeps c rd rs s
  | .divisionLanding c => execDivisionLanding_keeps c s
  | .mfs c r sn => execMfs_keeps c r sn s
  | .mts c sn r => execMts_keeps c sn r s
  | .sxb c rd rs => execSxb_keeps c rd rs s
  | .zxb c rd rs => execZxb_keeps c rd rs s
  | .swb c rd rs => execSwb_keeps c rd rs s
  | .clz c rd rs => execClz_keeps c rd rs s
  | .addi c rd imm => execAddi_keeps c rd imm s
  | .movi c rd imm => execMovi_keeps c rd imm s
  | .cmpi c rd imm => execCmpi_keeps c rd imm s
  | .bset c rd n => execBset_keeps c rd n s
  | .bclr c rd n => execBclr_keeps c rd n s
  | .btgl c rd n => execBtgl_keeps c rd n s
  | .btst c rd n => execBtst_keeps c rd n s
  | .movl c rd imm => execMovl_keeps c rd imm s
  | .addl c rd rs imm => execAddl_keeps c rd rs imm s
  | .andl c rd rs imm => execAndl_keeps c rd rs imm s
  | .orl c rd rs imm => execOrl_keeps c rd rs imm s
  | .xorl c rd rs imm => execXorl_keeps c rd rs imm s
  | .subl c rd rs imm => execSubl_keeps c rd rs imm s
  | .cmpl c rs imm => execCmpl_keeps c rs imm s
  | .tstl c rs imm => execTstl_keeps c rs imm s
  | .ld c rd rs => execLd_keeps c rd rs s
  | .ldPostIncrement c rd rs => execLdPostIncrement_keeps c rd rs s
  | .ldPreDecrement c rd rs => execLdPreDecrement_keeps c rd rs s
  | .st c rd rs => execSt_keeps c rd rs s
  | .stPostIncrement c rd rs => execStPostIncrement_keeps c rd rs s
  | .stPreDecrement c rd rs => execStPreDecrement_keeps c rd rs s
  | .storeDrain c => execStoreDrain_keeps c s
  | .ldl c rd rs imm => execLdl_keeps c rd rs imm s
  | .stl c rd rs imm => execStl_keeps c rd rs imm s
  | .lea c rd rs imm => execLea_keeps c rd rs imm s
  | .ioIn c rd rs imm => execIoIn_keeps c rd rs imm s
  | .out c rd rs imm => execOut_keeps c rd rs imm s
  | .bCond c cond h off => execBCond_keeps c cond h off s
  | .blCond c cond h off => execBlCond_keeps c cond h off s
  | .jmp c t => execJmp_keeps c t s
  | .call c t => execCall_keeps c t s
  | .jmpr c rs => execJmpr_keeps c rs s
  | .callr c rs => execCallr_keeps c rs s
  | .ret c => execRet_keeps c s
  | .reti c => execReti_keeps c s
  | .retim c => execRetim_keeps c s
  | .halt c => execHalt_keeps c s
  | .haltResume c => execHaltResume_keeps c s
  | .sys c rs => execSys_keeps c rs s
  | .brk c rs => execBrk_keeps c rs s
  | .callm c p t m => execCallm_keeps c p t m s
  | .retm c p m => execRetm_keeps c p m s
  | .loop c rc e => execLoop_keeps c rc e s
  | .loopi c e count => execLoopi_keeps c e count s
  | .undefinedOpcode c w0 w1 => execUndefinedOpcode_keeps c w0 w1 s
  | .interruptEntry c => execInterruptEntry_keeps c s
  | .icuClaimRead c => execIcuClaimRead_keeps c s
  | .swiSet c k => execSwiSet_keeps c k s
  | .coreRelease c a => execCoreRelease_keeps c a s
  | .coreReset c a => execCoreReset_keeps c a s
  | .lockstepTest c => execLockstepTest_keeps c s
  | .lockstepMismatch => execLockstepMismatch_keeps s
  | .pwmPeriodStart o => execPwmPeriodStart_keeps o s
  | .dimmingPeriodEnd n amp v outs weak => execDimmingPeriodEnd_keeps n amp v outs weak s
  | .gateDriverHot g => execGateDriverHot_keeps g s
  | .gateDriverCool g => execGateDriverCool_keeps g s
  | .lfDriverCool c => execLfDriverCool_keeps c s
  | .busOffRecoveryEnd c => execBusOffRecoveryEnd_keeps c s
  | .linResponseTimeout k => execLinResponseTimeout_keeps k s
  | .linwakeDone k => execLinwakeDone_keeps k s
  | .lfDiagDone c code ant => execLfDiagDone_keeps c code ant s
  | .dominantTimeoutEnd w => execDominantTimeoutEnd_keeps w s
  | .pllLossOfLock p => execPllLossOfLock_keeps p s
  | .enumEndWaitExpiry c => execEnumEndWaitExpiry_keeps c s
  | .chainApplyInstant c => execChainApplyInstant_keeps c s
  | .imageBlockStored bad => execImageBlockStored_keeps bad s

theorem State.Inv.of_keeps {s t : State} (h : s.Inv) (k : Keeps s t) : t.Inv :=
  have ⟨hio, hmem⟩ := h
  have ⟨kio, kmem, _⟩ := k
  ⟨kio hio, kmem hmem⟩

theorem State.inv_setPending {s : State} (h : s.Inv) (l : List Instr) : (s.setPending l).Inv := h

theorem exec_inv {i : Instr} {s t : State} (h : s.Inv) (ht : exec i s = .next t) : t.Inv := by
  obtain ⟨u, hu, hk⟩ := exec_keeps i s
  cases hu.symm.trans ht
  exact h.of_keeps hk

/-- Settles O5: on an empty queue one period of the clock passes, else the front command runs on the state with the queue's rest; both
are compositions of operations of which each keeps the canonical forms. -/
theorem invariantKept : Obligations.InvariantKept := by
  unfold Obligations.InvariantKept
  intro s t h hs
  unfold step at hs
  split at hs
  · cases hs
    exact h.of_keeps (State.tick_keeps (Keeps.refl s))
  · exact exec_inv (State.inv_setPending h _) hs

/-! ### The state after reset -/

theorem memDefault_of_lt {k : Nat} (h : k < 2 ^ 23) : memDefault k = 0 := by
  unfold memDefault
  rw [if_neg (by omega), if_neg (by omega)]

@[simp] theorem State.reg_reset (k : Nat) : State.reset.reg k = (regReset k).toNat := rfl

/-- The reset values of RNG_RBASE and RNG_RCFG (R100): a ring starts disabled at the first word of system RAM. -/
theorem regReset_ring : ∀ r < 64, regReset (rRNG_RBASE r) = 0o100000#18 ∧ regReset (rRNG_RCFG r) = 0 := by decide +kernel

theorem State.slotAddr_reset {r : Nat} (h : r < 64) : State.reset.slotAddr r 0 = 0o100000 := by
  simp [State.slotAddr, (regReset_ring r h).1]

theorem State.ring_disabled_reset {r : Nat} (h : r < 64) : State.reset.on (RNG_RCFG_EN r) = false := by
  simp [State.on, State.fld, RNG_RCFG_EN, (regReset_ring r h).2, bitsOf]

/-- Settles O3: nothing is listed in the storage of the reset state, so every register and word reads its default. -/
theorem resetState : Obligations.ResetState := by
  unfold Obligations.ResetState
  intro k
  refine ⟨State.reg_reset k, rfl, ?memory, rfl, rfl, rfl, rfl, rfl, rfl, rfl, rfl, ?rings⟩
  case memory => exact memDefault_of_lt
  case rings => exact fun h => ⟨State.slotAddr_reset h, State.ring_disabled_reset h⟩

/-- Settles O4: the empty storage is canonical. -/
theorem invariantAtReset : Obligations.InvariantAtReset := by
  unfold Obligations.InvariantAtReset State.Inv RegFile.wf Memory.wf
  exact ⟨smWf_nil _, smWf_nil _⟩

/-! ### Accesses of registers -/

/-- The reset state but for bit 17 of MOT_HIEN of half-bridge 0, which lies in no field of the register (R214): the register file is
in canonical form all the same. -/
def strayBit : State := { State.reset with io := [(rMOT_HIEN 0, 0o400000)] }

/-- A store writes fields, so a bit outside every field stays as it was. -/
theorem registerWrite_strayBit :
    ∃ t, exec (.registerWrite .s (BitVec.ofNat 16 (rMOT_HIEN 0)) 0) strayBit = .next t ∧ t.reg (rMOT_HIEN 0) = 0o400000 :=
  ⟨_, rfl, by decide +kernel⟩

/-- A descriptor of no meaning, for statements whose clause does not speak of one. -/
def blankDesc : Desc :=
  { ring := 0, slot := 0, eng := 0, owner := 0, w0 := 0, w1 := 0, w2 := 0, w3 := 0, w4 := 0, w5 := 0, w6 := 0, phase := .ready }

/-- Refutes O56: its clause on MOT_HIEN says that a store of `v` leaves the word `v % 512`. The canonical form of the register file does
not bound a register by its fields, and from `strayBit` a store of 0 leaves bit 17 set. -/
theorem not_registerAccess : ¬ Obligations.RegisterAccess := by
  unfold Obligations.RegisterAccess
  intro h
  obtain ⟨-, -, -, -, -, -, -, -, -, hien, -⟩ :=
    h strayBit .s 0 0 0 0 0 0 blankDesc ⟨0, 1, 1, 1, 1, .fabric, .mod, []⟩ (by decide +kernel) (by decide +kernel)
  obtain ⟨t, ht, hbit⟩ := registerWrite_strayBit
  have hclear := hien rfl rfl
  cases ht.symm.trans hclear
  simp at hbit

end Sys2Proof.Machine
end

section
/-! PROOFS. The statements on address spaces and memories: accesses at reserved addresses (R61), loads, stores and the store buffer's
drain (R35, R579, R596), and the commands of the memories (R38, R41 to R59). -/

namespace Sys2Proof.Machine

/-! ### Flags -/

theorem State.on_raise_self (s : State) {f : FRef} (h : f.Good) : (s.raise f).on f = true := by
  have hw : 1 < 2 ^ (f.hi + 1 - f.lo) := Nat.one_lt_two_pow (by have := h.1; omega)
  simp [State.on, State.raise, State.fld_setFld_self s f 1 h, Nat.mod_eq_of_lt hw]

theorem State.on_raise_of_apart (s : State) {f g : FRef} (h : f.Good) (ha : g.Apart f) : (s.raise f).on g = s.on g := by
  simp [State.on, State.raise, State.fld_setFld_of_apart s f g 1 h ha]

theorem State.on_setReg_of_ne (s : State) {k : Nat} {f : FRef} (v : Nat) (h : f.addr ≠ k) : (s.setReg k v).on f = s.on f := by
  simp [State.on, State.fld_setReg_of_ne s k v f h]

/-! ### Accesses that no register answers (R61) -/

/-- RSVACC set, and ICU_RSVA with the address unless RSVACC was set: what such an access leaves in the core's ICU. -/
def State.noteReserved (s : State) (n a : Nat) : State :=
  (if s.on (ICU_FLAG_RSVACC n) then s else s.setReg (rICU_RSVA n) a).raise (ICU_FLAG_RSVACC n)

theorem State.ioFlag_reserved (s : State) (n a : Nat) : s.ioFlag n true a = (s.noteReserved n a).record 0 5 n := by
  cases h : s.on (ICU_FLAG_RSVACC n) <;> simp [State.ioFlag, State.noteReserved, State.when, h]

theorem State.ioStore_of_reserved (s : State) {c : CoreId} {a : Nat} (v : Word) (hk : busReg c.num a = none)
    (hs : sIcuOnly c.num a = false) : s.ioStore c a v = (s.noteReserved c.num a).record 0 5 c.num := by
  simp [State.ioStore, State.ioStoreM, hs, State.atReg, hk, State.ioFlag_reserved]

theorem State.ioRead_of_reserved (s : State) {c : CoreId} {a : Nat} (hk : busReg c.num a = none) :
    s.ioRead c a = (({ s with rdata := 0 } : State).noteReserved c.num a).record 0 5 c.num := by
  simp [State.ioRead, State.atReg, hk, State.ioFlag_reserved, State.setRdata]

theorem ICU_FLAG_RSVACC_good (n : Nat) : (ICU_FLAG_RSVACC n).Good := ⟨le_rfl, by simp [ICU_FLAG_RSVACC]⟩

theorem ICU_FLAG_RSVACC_addr_ne (n : Nat) : (ICU_FLAG_RSVACC n).addr ≠ rICU_RSVA n := by
  simp [ICU_FLAG_RSVACC, rICU_FLAG, rICU_RSVA]

theorem State.on_RSVACC_noteReserved (s : State) (n a : Nat) : (s.noteReserved n a).on (ICU_FLAG_RSVACC n) = true :=
  State.on_raise_self _ (ICU_FLAG_RSVACC_good n)

theorem State.on_DOMOFF_noteReserved (s : State) (n a : Nat) :
    (s.noteReserved n a).on (ICU_FLAG_DOMOFF n) = s.on (ICU_FLAG_DOMOFF n) := by
  have ha : (ICU_FLAG_DOMOFF n).Apart (ICU_FLAG_RSVACC n) := .inr (.inr (by simp [ICU_FLAG_DOMOFF, ICU_FLAG_RSVACC]))
  have hr : (ICU_FLAG_DOMOFF n).addr ≠ rICU_RSVA n := ICU_FLAG_RSVACC_addr_ne n
  rw [State.noteReserved, State.on_raise_of_apart _ (ICU_FLAG_RSVACC_good n) ha]
  split
  · rfl
  · exact State.on_setReg_of_ne s a hr

theorem State.reg_RSVA_noteReserved (s : State) (n : Nat) {a : Nat} (ha : a < 2 ^ 18) :
    (s.noteReserved n a).reg (rICU_RSVA n) = if s.on (ICU_FLAG_RSVACC n) then s.reg (rICU_RSVA n) else a := by
  rw [State.noteReserved, State.raise, State.reg_setFld_of_ne _ _ _ _ (ICU_FLAG_RSVACC_addr_ne n).symm]
  split
  · rfl
  · rw [State.reg_setReg_self, Nat.mod_eq_of_lt ha]

theorem State.reg_noteReserved_of_ne (s : State) (n a : Nat) {k : Nat} (hr : k ≠ rICU_RSVA n)
    (hf : k ≠ (ICU_FLAG_RSVACC n).addr) : (s.noteReserved n a).reg k = s.reg k := by
  rw [State.noteReserved, State.raise, State.reg_setFld_of_ne _ _ _ _ hf]
  split
  · rfl
  · exact State.reg_setReg_of_ne s a hr

theorem State.cores_noteReserved (s : State) (n a : Nat) : (s.noteReserved n a).cores = s.cores := by
  rw [State.noteReserved, State.raise, State.setFld, State.cores_setReg]
  split
  · rfl
  · exact State.cores_setReg s _ a

theorem State.mem_noteReserved (s : State) (n a : Nat) : (s.noteReserved n a).mem = s.mem := by
  rw [State.noteReserved, State.raise, State.setFld, State.mem_setReg]
  split
  · rfl
  · exact State.mem_setReg s _ a

/-- OUT at an address that it may access drains the store buffer, completes, and then makes the access (R580). -/
theorem execOut_of_accesses {s : State} {c : CoreId} {rd rs : Fin 32} {i : Word} {a : Nat} (hf : s.fetches c.num 2 = true)
    (ha : ((s.core c.num).get rs + i).toNat = a) (hp : s.accesses c.num a true = true) :
    execOut c rd rs i s =
      .next (((s.drainAll c.num).modCore c.num (fun x => x.next 2)).ioStore c a ((s.core c.num).get rd)) := by
  subst ha
  unfold execOut
  dsimp only
  rw [State.instr_of_fetches hf]
  simpa [State.accesses] using hp

/-- IN at an address that it may access: the register takes what the access returned (R580). -/
theorem execIoIn_of_accesses {s : State} {c : CoreId} {rd rs : Fin 32} {i : Word} {a : Nat} (hf : s.fetches c.num 2 = true)
    (ha : ((s.core c.num).get rs + i).toNat = a) (hp : s.accesses c.num a false = true) :
    execIoIn c rd rs i s = .next (s.inAt c 2 rd a) := by
  subst ha
  unfold execIoIn
  dsimp only
  rw [State.instr_of_fetches hf]
  simpa [State.accesses] using hp

/-- Settles O11: with no register at the address, every access is the note of its ICU and the fault record. -/
theorem reservedAddresses : Obligations.ReservedAddresses := by
  unfold Obligations.ReservedAddresses
  intro s c a v rd rs i k hk hs
  refine ⟨?write, ?rcRead, ?snapRead, ?out, ?ioIn, ?flag, ?address, ?domoff, ?cores, ?mem, ?others⟩
  case write => exact congrArg Host.Outcome.next (s.ioStore_of_reserved v hk hs)
  case rcRead => exact congrArg Host.Outcome.next (s.ioRead_of_reserved hk)
  case snapRead => exact congrArg Host.Outcome.next (s.ioRead_of_reserved hk)
  case out =>
    intro hf ha hp
    exact (execOut_of_accesses hf ha hp).trans (congrArg Host.Outcome.next (State.ioStore_of_reserved _ _ hk hs))
  case ioIn =>
    intro hf ha hp
    refine (execIoIn_of_accesses hf ha hp).trans (congrArg Host.Outcome.next ?_)
    rw [State.inAt, State.ioRead_of_reserved _ hk]
    rfl
  case flag => exact s.on_RSVACC_noteReserved c.num a.toNat
  case address => exact s.reg_RSVA_noteReserved c.num (a.isLt.trans (by decide))
  case domoff => exact s.on_DOMOFF_noteReserved c.num a.toNat
  case cores => exact s.cores_noteReserved c.num a.toNat
  case mem => exact s.mem_noteReserved c.num a.toNat
  case others => exact s.reg_noteReserved_of_ne c.num a.toNat

/-! ### The store buffer's drain (R35, R579) -/

theorem State.lives_of_runs {s : State} {c : Nat} (h : s.runs c = true) : s.lives c = true := by
  simp only [State.runs, State.coreDown, Bool.not_or, Bool.and_eq_true, Bool.not_eq_true', decide_eq_false_iff_not, not_not,
    Bool.not_not] at h
  obtain ⟨hrun, hdom⟩ := h
  simp [State.lives, hrun, hdom]

theorem State.eccNote_of_good {s : State} {k : Nat} (h : s.eccOf k = 0) : s.eccNote k = s := by
  simp [State.eccNote, h]

theorem aliasOp_of_not_alias {a : Nat} (h : isAlias a = false) (old v : Word) : aliasOp a old v = v := by
  have hr : ¬ (0o300000 ≤ a ∧ a < 0o700000) := by simpa only [isAlias, decide_eq_false_iff_not] using h
  unfold aliasOp
  rw [if_neg (by omega), if_neg (by omega)]

/-- A buffered store reaches a word without error, on line and outside the save area, by its operation on the old value (R35). -/
theorem State.storeTo_of_word {s : State} {c k : Nat} {b : BufStore} (hk : dataWordKey c b.addr = some k)
    (hoff : s.dataOff c b.addr = false) (hsave : ¬ (0o703000 ≤ b.addr ∧ b.addr < 0o704000)) (he : s.eccOf k = 0) :
    s.storeTo c b = s.wr k (aliasOp b.addr (s.rd k) b.value) := by
  unfold State.storeTo
  rw [hk]
  dsimp only
  rw [hoff, if_neg Bool.false_ne_true, if_neg hsave]
  cases hal : isAlias b.addr with
  | true => rw [if_pos rfl, if_neg (by omega), State.eccNote_of_good he]
  | false => rw [if_neg Bool.false_ne_true, aliasOp_of_not_alias hal]

theorem State.drainOne_of_cons {s : State} {c : Nat} {b : BufStore} {l : List BufStore} (h : (s.core c).buf = b :: l) :
    s.drainOne c = (s.setCore c { s.core c with buf := l }).storeTo c b := by
  unfold State.drainOne
  rw [h]
  rfl

/-- Settles O20: no load or store that answers meets a trap, and the drain is the one operation of R35 on the buffered word. -/
theorem loadsAndStores : Obligations.LoadsAndStores := by
  unfold Obligations.LoadsAndStores
  refine ⟨?loads, ?stores, ?drain⟩
  case loads =>
    intro s c rd rs i
    refine ⟨?_, ?_, ?_, ?_⟩ <;>
      exact fun ⟨hf, hl⟩ => congrArg Host.Outcome.next (State.loadOp_of_loads _ _ _ hf hl)
  case stores =>
    intro s c rd rs i
    refine ⟨?_, ?_, ?_, ?_⟩ <;>
      exact fun ⟨hf, hst, hb⟩ => congrArg Host.Outcome.next (State.storeOp_of_stores _ _ _ hf hst hb)
  case drain =>
    intro s c a v l k hrun hbuf hk hoff hsave he
    have hdrain : execStoreDrain c s = .next (s.drainOne c.num) := congrArg Host.Outcome.next (if_pos (State.lives_of_runs hrun))
    have hstore : s.drainOne c.num = (s.setCore c.num { s.core c.num with buf := l }).wr k (aliasOp a (s.rd k) v) :=
      (State.drainOne_of_cons hbuf).trans (State.storeTo_of_word hk hoff hsave he)
    exact hdrain.trans (congrArg Host.Outcome.next hstore)

/-! ### Commands of the memories: what a running FABRIC carries out -/

/-- A command of FABRIC, while it runs, is what its chapter says. -/
theorem exec_of_fabric {i : Instr} {f : State → State} {s t : State} (h : s.domOn .fabric = true)
    (hi : exec i s = .next (inDom .fabric f s)) (hf : f s = t) : exec i s = .next t :=
  hi.trans (congrArg Host.Outcome.next ((inDom_of_on h f).trans hf))

/-! ### The march and sweep engines (R41 to R48) -/

/-- MEM_MCTL after a start was asked for. -/
def State.marchAsked (s : State) (bank : Nat) (keep : Bool) : State :=
  (s.setFld MEM_MCTL_BANK bank).setFld MEM_MCTL_PRESERVE (b2n keep)

theorem marchStart_of_running {s : State} {bank : Nat} {keep : Bool} (h : (s.marchAsked bank keep).fld MEM_MSTAT_RESULT = 1) :
    marchStart bank keep s = s.marchAsked bank keep := if_pos h

theorem marchStart_of_not_parked {s : State} {bank : Nat} {keep : Bool} (h : (s.marchAsked bank keep).fld MEM_MSTAT_RESULT ≠ 1)
    (hb : (s.marchAsked bank keep).bankSt bank ≠ 1) :
    marchStart bank keep s = (s.marchAsked bank keep).setFld MEM_MSTAT_RESULT 4 := (if_neg h).trans (if_pos hb)

theorem marchStart_of_parked {s : State} {bank : Nat} {keep : Bool} (h : (s.marchAsked bank keep).fld MEM_MSTAT_RESULT ≠ 1)
    (hb : (s.marchAsked bank keep).bankSt bank = 1) :
    marchStart bank keep s =
      ((((s.marchAsked bank keep).setFld MEM_MSTAT_RESULT 1).setFld MEM_MSTAT_BANK bank).setFld MEM_MSTAT_FAILCNT 0).modMem
        (fun m => { m with marchKeep := keep }) := (if_neg h).trans (if_neg (not_not_intro hb))

theorem marchDone_of_pass {s : State} (hr : s.fld MEM_MSTAT_RESULT = 1) (hk : s.memc.marchKeep = true) (ofs : Nat) (chk : Bool) :
    marchDone 0 ofs chk s = ((s.raise MEM_FLAG_MDONE).setFld MEM_MSTAT_FAILCNT 0).setFld MEM_MSTAT_RESULT 2 := by
  simp [marchDone, hr, hk, State.when, satTo]

theorem marchDone_of_fail {s : State} {fails : Nat} (hr : s.fld MEM_MSTAT_RESULT = 1) (hk : s.memc.marchKeep = false)
    (hf : fails ≠ 0) (ofs : Nat) (chk : Bool) :
    marchDone fails ofs chk s =
      (((((s.clearBank (s.fld MEM_MSTAT_BANK)).raise MEM_FLAG_MDONE).setFld MEM_MSTAT_FAILCNT (satTo 0o7777 fails)).setFld
        MEM_MSTAT_RESULT 3).setReg rMEM_MFAIL (b2n chk * 2 ^ 17 + ofs)).record 2 3 (s.fld MEM_MSTAT_BANK) := by
  simp [marchDone, hr, hk, hf, State.when]

theorem sweepRegion_of_disabled {s : State} (h : s.on MEM_TCTL_EN = false) (fail : Bool) : sweepRegion fail s = s := by
  simp [sweepRegion, h]

theorem sweepRegion_of_skipped {s : State} (h : s.on MEM_TCTL_EN = true)
    (hs : s.sweepSkips (s.fld MEM_TCTL_TARGET) (s.fld MEM_TSTAT_REGION) = true) (fail : Bool) :
    sweepRegion fail s =
      s.setFld MEM_TSTAT_REGION (s.sweepFrom (s.fld MEM_TCTL_TARGET) (s.fld MEM_TSTAT_REGION + 1)) := by
  simp [sweepRegion, h, hs]

theorem sweepRegion_of_pass {s : State} (h : s.on MEM_TCTL_EN = true)
    (hs : s.sweepSkips (s.fld MEM_TCTL_TARGET) (s.fld MEM_TSTAT_REGION) = false) :
    sweepRegion false s =
      (s.setFld MEM_TSTAT_REGION (s.sweepFrom (s.fld MEM_TCTL_TARGET) (s.fld MEM_TSTAT_REGION + 1))).modMem
        (fun m => { m with swept := m.swept + b2n (decide (s.fld MEM_TCTL_TARGET = 0)) }) := by
  simp [sweepRegion, h, hs, State.when_false]

/-! ### The code NVM (R49, R50) -/

theorem State.nvmCommand_of_busy {s : State} (h : s.memc.nrun.isSome = true) (writes : Bool) (f : State → State) :
    s.nvmCommand writes f = s.setFld MEM_NSTAT_RESULT 4 := if_pos h

/-- A programming or erasing command at a low supply. -/
theorem State.nvmCommand_of_lowV {s : State} (h : s.memc.nrun = none) (hl : s.lowV = true) (f : State → State) :
    s.nvmCommand true f = s.nvmEnd 3 := by
  simp [State.nvmCommand, h, hl]

/-- A command that only reads does not ask for the supply. -/
theorem State.nvmCommand_read_of_idle {s : State} (h : s.memc.nrun = none) (f : State → State) : s.nvmCommand false f = f s := by
  simp [State.nvmCommand, h]

theorem State.nvmCommand_of_idle {s : State} (h : s.memc.nrun = none) (hl : s.lowV = false) (writes : Bool) (f : State → State) :
    s.nvmCommand writes f = f s := by
  simp [State.nvmCommand, h, hl]

theorem progrow_of_unaligned {s : State} (h : s.memc.nrun = none) (hl : s.lowV = false) (ha : s.nadr % 8 ≠ 0) :
    progrow s = s.raise MEM_FLAG_ENCREF :=
  (State.nvmCommand_of_idle h hl true _).trans (if_pos ha)

theorem progrow_of_used {s : State} (h : s.memc.nrun = none) (hl : s.lowV = false) (ha : s.nadr % 8 = 0)
    (hu : s.rowUsed s.inactive s.nadr = true) : progrow s = s.nvmEnd 1 :=
  (State.nvmCommand_of_idle h hl true _).trans ((if_neg (not_not_intro ha)).trans (if_pos hu))

/-- A whole row pushed: no parcel of it is a free value. -/
theorem progrow_of_row {s : State} (h : s.memc.nrun = none) (hl : s.lowV = false) (ha : s.nadr % 8 = 0)
    (hu : s.rowUsed s.inactive s.nadr = false) (hn : s.memc.nfifo.length = 8) :
    progrow s = (((s.progRow s.inactive s.nadr s.memc.nfifo).drewN 0).modMem (fun m => { m with
      nfifo := [], nrow := some (codeKey s.inactive (s.nadr / 8 * 8)) })).nvmRun 0 := by
  rw [progrow, State.nvmCommand_of_idle h hl]
  simp [ha, hu, hn]

/-- BLANKCHK of a bank none of whose parcels is listed. -/
theorem blankChk_of_blank {s : State} (h : s.memc.nrun = none)
    (hb : ∀ e ∈ s.mem, e.1 < codeKey s.inactive 0 ∨ codeKey s.inactive 0 + 2 ^ 20 ≤ e.1) : blankChk s = s.nvmRun 0 := by
  have hnone : s.mem.any (fun e => decide (codeKey s.inactive 0 ≤ e.1 ∧ e.1 < codeKey s.inactive 0 + 2 ^ 20)) = false := by
    rw [List.any_eq_false]
    intro e he
    have := hb e he
    simp only [decide_eq_true_eq]
    omega
  exact (State.nvmCommand_read_of_idle h _).trans (congrArg (fun b => s.nvmRun (b2n b)) hnone)

theorem nvmDone_of_verified {s : State} {r : Nat} (h : s.memc.nrun = some r) :
    nvmDone false s = ((s.setFld MEM_NSTAT_BUSY 0).modMem (fun m => { m with nrun := none, nrow := none })).nvmEnd r := by
  simp [nvmDone, h]

theorem nvmDone_of_idle {s : State} (h : s.memc.nrun = none) (bad : Bool) : nvmDone bad s = s := by
  simp [nvmDone, h]

/-- While the row has room, a push appends its parcel. -/
theorem ndataPush_of_room {s : State} (h : s.memc.nfifo.length ≤ 7) (v : Word) :
    ndataPush v s = s.modMem (fun m => { m with nfifo := m.nfifo ++ [v] }) := by
  have h0 : s.memc.nfifo.length - 7 = 0 := by omega
  simp [ndataPush, State.modMem, h0]

/-- A push onto a whole row pushes its oldest parcel out. -/
theorem ndataPush_of_full {s : State} (h : s.memc.nfifo.length = 8) (v : Word) :
    ndataPush v s = s.modMem (fun m => { m with nfifo := m.nfifo.tail ++ [v] }) := by
  have hne : s.memc.nfifo ≠ [] := by
    intro he
    simp [he] at h
  simp [ndataPush, State.modMem, h, List.tail_append_of_ne_nil hne]

theorem ndataPop_of_cons {s : State} {w : Word} {l : List Word} (h : s.memc.nfifo = w :: l) :
    ndataPop s = { s with rdata := w, memc := { s.memc with nfifo := l } } := by
  unfold ndataPop
  rw [h]
  rfl

/-! ### The settings store (R51 to R57) -/

theorem ssWrite_of_busy {s : State} (h : s.ssBusy = true) : ssWrite s = s.ssEnd 1 := if_pos h

theorem ssLoad_of_busy {s : State} (h : s.ssBusy = true) : ssLoad s = s.ssEnd 1 := if_pos h

theorem ssWrite_of_empty {s : State} (h : s.ssBusy = false) (hn : s.fld MEM_SSLEN_LEN = 0) : ssWrite s = s.ssEnd 3 := by
  simp [ssWrite, h, hn]

/-- The run that a WRITE starts, with the registers as they stand. -/
def State.writeRun (s : State) : SsRun :=
  ⟨false, s.fld MEM_SSBUF_BUF, s.fld MEM_SSLEN_LEN, s.fld MEM_SSCTL_SCHEMA, s.fld MEM_SSGRP_GRP, s.ssTarget.1, s.ssTarget.2⟩

/-- The run that a LOAD of the record in bank `b` starts. -/
def State.loadRun (s : State) (b : Nat) : SsRun := ⟨true, s.fld MEM_SSBUF_BUF, s.dw b 4, 0, 0, b, 0⟩

theorem ssWrite_of_accepted {s : State} (h : s.ssBusy = false) (h1 : 1 ≤ s.fld MEM_SSLEN_LEN) (h2 : s.fld MEM_SSLEN_LEN ≤ 65518)
    (hr : inRam (s.fld MEM_SSBUF_BUF) (s.fld MEM_SSLEN_LEN) = true) :
    ssWrite s = ((s.eraseData s.ssTarget.1).setFld MEM_SSSTAT_BUSY 1).modMem (fun m => { m with ss := some s.writeRun }) := by
  have hok : ¬ (s.fld MEM_SSLEN_LEN = 0 ∨ 65518 < s.fld MEM_SSLEN_LEN ∨
      (!inRam (s.fld MEM_SSBUF_BUF) (s.fld MEM_SSLEN_LEN)) = true) := by
    rw [hr]
    simp only [Bool.not_true, Bool.false_eq_true, or_false]
    omega
  unfold ssWrite
  dsimp only
  rw [h, if_neg Bool.false_ne_true, if_neg hok]
  rfl

theorem ssLoad_of_no_record {s : State} (h : s.ssBusy = false) (hb : s.ssBank = none) : ssLoad s = s.ssEnd 2 := by
  simp [ssLoad, h, hb]

theorem ssLoad_of_short {s : State} {b : Nat} (h : s.ssBusy = false) (hb : s.ssBank = some b)
    (hn : s.fld MEM_SSLEN_LEN < s.dw b 4) : ssLoad s = s.ssEnd 3 := by
  simp [ssLoad, h, hb, hn]

theorem ssLoad_of_accepted {s : State} {b : Nat} (h : s.ssBusy = false) (hb : s.ssBank = some b)
    (hn : s.dw b 4 ≤ s.fld MEM_SSLEN_LEN) (hr : inRam (s.fld MEM_SSBUF_BUF) (s.fld MEM_SSLEN_LEN) = true) :
    ssLoad s = (s.setFld MEM_SSSTAT_BUSY 1).modMem (fun m => { m with ss := some (s.loadRun b) }) := by
  simp [ssLoad, h, hb, hr, Nat.not_lt.mpr hn, State.loadRun]

theorem ssDone_of_load {s : State} {r : SsRun} (h : s.memc.ss = some r) (hl : r.load = true) (bad : Bool) :
    ssDone bad s = ((s.setFld MEM_SSSTAT_BUSY 0).modMem (fun m => { m with ss := none })).ssLoadEnd r := by
  simp [ssDone, h, hl]

theorem ssDone_of_write {s : State} {r : SsRun} (h : s.memc.ss = some r) (hl : r.load = false) (bad : Bool) :
    ssDone bad s = ((s.setFld MEM_SSSTAT_BUSY 0).modMem (fun m => { m with ss := none })).ssWriteEnd r bad := by
  simp [ssDone, h, hl]

theorem ssDone_of_idle {s : State} (h : s.memc.ss = none) (bad : Bool) : ssDone bad s = s := by
  simp [ssDone, h]

/-! ### OTP (R58, R59) -/

/-- A programming command that ends at once, with a result. -/
def State.otpEnd (s : State) (r : Nat) : State := (s.setFld MEM_OTPSTAT_RESULT r).raise MEM_FLAG_OTPDONE

/-- From 0o425 on no word is Krafin's or locked. -/
theorem otp_unlocked_of_le {s : State} {o : Nat} (ho : 0o425 ≤ o) :
    ¬ (otpKrafin o = true ∨ (0o400 ≤ o ∧ o < 0o420 ∧ s.otp 0o420 % 2 = 1)) := by
  simp only [otpKrafin, decide_eq_true_eq]
  omega

theorem otpProg_of_no_presence {s : State} (h : s.acc.pres = none) (o : Nat) : otpProg o s = s.raise MEM_FLAG_WRREF := by
  simp [otpProg, h]

theorem otpProg_of_krafin {s : State} {o : Nat} (h : s.acc.pres.isSome = true) (hi : s.memc.otp = none) (ho : otpKrafin o = true) :
    otpProg o s = s.otpEnd 2 := by
  simp [otpProg, Option.isNone_eq_false_iff.mpr h, hi, ho, State.otpEnd]

theorem otpProg_of_written {s : State} {o : Nat} (h : s.acc.pres.isSome = true) (hi : s.memc.otp = none) (ho : 0o425 ≤ o)
    (hw : s.otpWritten o = true) : otpProg o s = s.otpEnd 1 := by
  simp only [otpProg, Option.isNone_eq_false_iff.mpr h, hi, if_neg (otp_unlocked_of_le (s := s) ho), hw]
  rfl

theorem otpProg_of_blank {s : State} {o : Nat} (h : s.acc.pres.isSome = true) (hi : s.memc.otp = none) (ho : 0o425 ≤ o)
    (hw : s.otpWritten o = false) :
    otpProg o s = ((s.wr (otpKey o) (toWord (s.fld MEM_OTPDATA_DATA))).setFld MEM_OTPSTAT_BUSY 1).modMem
      (fun m => { m with otp := some o, otpW := bPut m.otpW o true }) := by
  simp only [otpProg, Option.isNone_eq_false_iff.mpr h, hi, if_neg (otp_unlocked_of_le (s := s) ho), hw]
  rfl

theorem otpDone_of_verified {s : State} {o : Nat} (h : s.memc.otp = some o) :
    otpDone false s = ((s.setFld MEM_OTPSTAT_BUSY 0).modMem (fun m => { m with otp := none })).otpEnd 0 := by
  simp [otpDone, h, State.when, State.otpEnd]

theorem otpDone_of_idle {s : State} (h : s.memc.otp = none) (bad : Bool) : otpDone bad s = s := by
  simp [otpDone, h]

/-! ### The statement on the memories' commands -/

/-- Settles O42: each command by its equation for the case, FABRIC running. -/
theorem memoryCommands : Obligations.MemoryCommands := by
  unfold Obligations.MemoryCommands
  intro s unit a c bank keep fail fails ofs v l res o x run row wrun lrun ends
  refine ⟨?corrected, ?notCorrectable, rfl, fun hf => ⟨?marchStart, ?marchPass, ?marchFail, ?sweepSkip, ?sweepPass, ?sweepOff, ?nvmBusy,
    ?nvmLowV, ?nvmIdle, ?nvmVerified, ?nvmNone, ?pushRoom, ?pushFull, ?pop, ?ssBusy, ?ssIdle, ?ssEnds, ?ssNone, ?otpRefused,
    ?otpStart, ?otpVerified, ?otpNone⟩⟩
  case corrected => exact fun h => congrArg Host.Outcome.next (if_pos h)
  case notCorrectable => exact fun h => congrArg Host.Outcome.next (if_neg h)
  case marchStart =>
    exact ⟨fun h => exec_of_fabric hf rfl (marchStart_of_running h),
      fun h hb => exec_of_fabric hf rfl (marchStart_of_not_parked h hb),
      fun h hb => exec_of_fabric hf rfl (marchStart_of_parked h hb)⟩
  case marchPass =>
    rintro hr hk rfl
    exact exec_of_fabric hf rfl (marchDone_of_pass hr hk ofs.toNat keep)
  case marchFail =>
    intro hr hk hn
    have hn' : fails.toNat ≠ 0 := fun h0 => hn (BitVec.eq_of_toNat_eq h0)
    exact exec_of_fabric hf rfl (marchDone_of_fail hr hk hn' ofs.toNat keep)
  case sweepSkip => exact fun he hs => exec_of_fabric hf rfl (sweepRegion_of_skipped he hs fail)
  case sweepPass => exact fun he hs => exec_of_fabric hf rfl (sweepRegion_of_pass he hs)
  case sweepOff => exact fun he => exec_of_fabric hf rfl (sweepRegion_of_disabled he fail)
  case nvmBusy =>
    intro h
    refine ⟨?_, ?_, ?_, ?_, ?_⟩ <;> exact exec_of_fabric hf rfl (State.nvmCommand_of_busy h _ _)
  case nvmLowV =>
    intro h hl
    refine ⟨?_, ?_, ?_⟩ <;> exact exec_of_fabric hf rfl (State.nvmCommand_of_lowV h hl _)
  case nvmIdle =>
    intro h
    refine ⟨exec_of_fabric hf rfl (State.nvmCommand_read_of_idle h _), fun hl => ⟨?unaligned, ?used, ?row, ?sector, ?bank⟩, ?blank⟩
    case unaligned => exact fun ha => exec_of_fabric hf rfl (progrow_of_unaligned h hl ha)
    case used => exact fun ha hu => exec_of_fabric hf rfl (progrow_of_used h hl ha hu)
    case row => exact fun ha hu hn => exec_of_fabric hf rfl (progrow_of_row h hl ha hu hn)
    case sector => exact exec_of_fabric hf rfl (State.nvmCommand_of_idle h hl true _)
    case bank => exact exec_of_fabric hf rfl (State.nvmCommand_of_idle h hl true _)
    case blank => exact fun hb => exec_of_fabric hf rfl (blankChk_of_blank h hb)
  case nvmVerified => exact fun h => exec_of_fabric hf rfl (nvmDone_of_verified h)
  case nvmNone => exact fun h => exec_of_fabric hf rfl (nvmDone_of_idle h fail)
  case pushRoom => exact fun h => exec_of_fabric hf rfl (ndataPush_of_room h v)
  case pushFull => exact fun h => exec_of_fabric hf rfl (ndataPush_of_full h v)
  case pop => exact fun h => exec_of_fabric hf rfl (ndataPop_of_cons h)
  case ssBusy => exact fun h => ⟨exec_of_fabric hf rfl (ssWrite_of_busy h), exec_of_fabric hf rfl (ssLoad_of_busy h)⟩
  case ssIdle =>
    intro h
    refine ⟨?empty, ?write, ?noRecord, ?short, ?load⟩
    case empty => exact fun hn => exec_of_fabric hf rfl (ssWrite_of_empty h hn)
    case write => exact fun h1 h2 hr => exec_of_fabric hf rfl (ssWrite_of_accepted h h1 h2 hr)
    case noRecord => exact fun hb => exec_of_fabric hf rfl (ssLoad_of_no_record h hb)
    case short => exact fun hb hn => exec_of_fabric hf rfl (ssLoad_of_short h hb hn)
    case load => exact fun hb hn hr => exec_of_fabric hf rfl (ssLoad_of_accepted h hb hn hr)
  case ssEnds =>
    exact fun h => ⟨fun hl => exec_of_fabric hf rfl (ssDone_of_load h hl fail),
      fun hl => exec_of_fabric hf rfl (ssDone_of_write h hl fail)⟩
  case ssNone => exact fun h => exec_of_fabric hf rfl (ssDone_of_idle h fail)
  case otpRefused => exact fun h => exec_of_fabric hf rfl (otpProg_of_no_presence h o.toNat)
  case otpStart =>
    exact fun h hi => ⟨fun ho => exec_of_fabric hf rfl (otpProg_of_krafin h hi ho),
      fun ho hw => exec_of_fabric hf rfl (otpProg_of_written h hi ho hw),
      fun ho hw => exec_of_fabric hf rfl (otpProg_of_blank h hi ho hw)⟩
  case otpVerified => exact fun h => exec_of_fabric hf rfl (otpDone_of_verified h)
  case otpNone => exact fun h => exec_of_fabric hf rfl (otpDone_of_idle h fail)

end Sys2Proof.Machine
end

section
/-! PROOFS. The statement on doorbells, the fetch of descriptors, deadlines, provisionals and transactions (R65 to R91, R117 to R123). -/

namespace Sys2Proof.Machine

/-! ### Commands of ACT -/

/-- A command of ACT, while it runs, is what its chapter says. -/
theorem exec_of_act {i : Instr} {f : State → State} {s t : State} (h : s.domOn .act = true)
    (hi : exec i s = .next (inDom .act f s)) (hf : f s = t) : exec i s = .next t :=
  hi.trans (congrArg Host.Outcome.next ((inDom_of_on h f).trans hf))

/-! ### Doorbells (R69, R76, R77) -/

theorem addrDom_doorbell : ∀ r : Fin 64, addrDom (rRNG_DB r) = .fabric := by decide +kernel

/-- A doorbell follows the core's earlier stores, and reaches the ring while FABRIC runs. -/
theorem exec_doorbell {s : State} {c : CoreId} {r : Fin 64} {v : BitVec 10} (h : (s.drainAll c.num).domOn .fabric = true) :
    exec (.doorbell c r v) s = .next ((s.drainAll c.num).doorbell c.num r v.toNat) := by
  have hg : (s.drainAll c.num).domOn (addrDom (rRNG_DB r)) = true := by rw [addrDom_doorbell, h]
  exact congrArg Host.Outcome.next (if_pos hg)

/-- A core that may ring the doorbell of a ring: its owner, while the ring is enabled and runs (R69). -/
def State.rings (s : State) (o r : Nat) : Prop :=
  o = s.fld (RNG_RCFG_OWNER r) ∧ s.on (RNG_RCFG_EN r) = true ∧ s.fld (RNG_RSTAT_STATE r) = 1

theorem State.doorbell_of_owner {s : State} {o r v : Nat} (h : s.rings o r) (hv : v < s.ringSize r) :
    s.doorbell o r v = ((s.setFld (RNG_DB_PIDX r) v).setFld (RNG_RSTAT_STALL r) 0).traceC 3 8 r v s.faultTime.1 := by
  obtain ⟨ho, he, hs⟩ := h
  simp [State.doorbell, ← ho, he, hs, Nat.not_le.mpr hv]

theorem State.doorbell_of_ignored {s : State} {o r v : Nat}
    (h : o ≠ s.fld (RNG_RCFG_OWNER r) ∨ s.on (RNG_RCFG_EN r) = false ∨ s.fld (RNG_RSTAT_STATE r) ≠ 1) (hv : v < s.ringSize r) :
    s.doorbell o r v = s.raise RNG_FLAG_DBREF := by
  have hi : (decide (o ≠ s.fld (RNG_RCFG_OWNER r)) || !s.on (RNG_RCFG_EN r) || decide (s.fld (RNG_RSTAT_STATE r) ≠ 1)) = true := by
    simpa [or_assoc] using h
  simp only [State.doorbell, hi, decide_eq_false (Nat.not_le.mpr hv)]
  rfl

theorem State.doorbell_of_reserved {s : State} {o r v : Nat} (h : s.rings o r) (hv : s.ringSize r ≤ v) :
    s.doorbell o r v = s.raise RNG_FLAG_ENCREF := by
  obtain ⟨ho, he, hs⟩ := h
  simp [State.doorbell, ← ho, he, hs, hv, State.raiseIf]

/-! ### The fetch (R70 to R74) -/

theorem descriptorFetch_of_held {s : State} (h : s.rngHeld = true) (e : Nat) : descriptorFetch e s = s := by
  simp [descriptorFetch, h]

/-- An engine that may take a descriptor serves its next ring; an actuator's engine needs ACT ready and room. -/
theorem descriptorFetch_of_room {s : State} {e : Nat} (h : s.rngHeld = false) (ha : s.domOn .act = true)
    (hr : 2 ≤ e → e ≤ 6 → s.pw.ready = true ∧ s.heldBy e < 64) :
    descriptorFetch e s = (s.nextRing e).elim s (s.fetch e) := by
  have hn : (decide (2 ≤ e ∧ e ≤ 6) && (!s.pw.ready || !s.domOn .act || decide (64 ≤ s.heldBy e))) = false := by
    by_cases he : 2 ≤ e ∧ e ≤ 6
    · obtain ⟨hy, hl⟩ := hr he.1 he.2
      simp [hy, ha, hl]
    · simp [he]
  simp only [descriptorFetch, h, hn]
  cases s.nextRing e <;> rfl

/-! ### Descriptors that wait: NOP, deadlines, provisionals (R113, R117, R119, R120) -/

theorem State.descAt_of_waits {s : State} {e op r i : Nat} {d : Desc} (h : s.waits e op r i d = true) :
    s.descAt r i .ready = some d ∧ d.eng = e ∧ d.opcode = op := by
  simp only [State.waits, Bool.and_eq_true, decide_eq_true_eq] at h
  exact h.1

theorem exec_descriptorNop {s : State} {r : Fin 64} {i : Fin 1024} {d : Desc} (h : s.waits d.eng 0 r i d = true) :
    exec (.descriptorNop r i) s = .next (s.actDesc d false) := by
  obtain ⟨hd, -, ho⟩ := State.descAt_of_waits h
  have hx : execDescriptorNop r i s = .next (s.actDesc d false) := by
    simp only [execDescriptorNop, hd, ho, if_true]
    exact congrArg Host.Outcome.next (State.onReady_of_waits h _)
  exact hx

/-- A NOP of an engine that drives nothing is DONE at its apply time. -/
theorem State.actDesc_nop {s : State} {d : Desc} (ho : d.opcode = 0) (he : d.eng < 2 ∨ 6 ≤ d.eng) (held : Bool) :
    s.actDesc d held = s.finishDone d 0 := if_pos ⟨ho, he⟩

/-- Where no agent has given an answer, no action breaks one. -/
theorem State.breaksPromise_of_no_answer {s : State} (hc : s.rng.commits.isEmpty = true) (hp : s.fld PCR_ENTRY_PHASE ≠ 1) (t : State) :
    s.breaksPromise t = false := by
  simp [State.breaksPromise, State.acked, hp, List.isEmpty_iff.mp hc]

theorem State.breaksAck_of_no_entry {s : State} (hp : s.fld PCR_ENTRY_PHASE ≠ 1) (t : State) : s.breaksAck t = false := by
  simp [State.breaksAck, hp]

/-- Where no confirmation waits, none is superseded. -/
theorem State.confSupersede_of_no_conf {s : State} (h : s.descs.all (fun x => !x.conf) = true) (d : Desc) : s.confSupersede d = s := by
  have hn : ∀ p : Desc → Bool, s.descs.filter (fun x => x.conf && p x) = [] := by
    intro p
    rw [List.filter_eq_nil_iff]
    intro x hx
    have := List.all_eq_true.mp h x hx
    simp_all
  rw [State.confSupersede, State.finishAll, hn]
  rfl

theorem State.unwarm_of_cold {s : State} {d : Desc} (h : d.warm = false) (undo : State → State) : s.unwarm d undo = s := by
  simp [State.unwarm, h]

/-- A descriptor as it falls due: ready, with the conditions of R117. -/
def State.fallDue (s : State) (d : Desc) (late : Bool) : Desc :=
  { d with phase := .ready, wasTimed := true, cond := s.condOf d (late || d.due) }

@[simp] theorem State.opcode_fallDue (s : State) (d : Desc) (late : Bool) : (s.fallDue d late).opcode = d.opcode := rfl
@[simp] theorem State.eng_fallDue (s : State) (d : Desc) (late : Bool) : (s.fallDue d late).eng = d.eng := rfl
@[simp] theorem State.warm_fallDue (s : State) (d : Desc) (late : Bool) : (s.fallDue d late).warm = d.warm := rfl
@[simp] theorem State.conf_fallDue (s : State) (d : Desc) (late : Bool) : (s.fallDue d late).conf = d.conf := rfl

/-- The state in which a descriptor that fell due has acted. -/
def State.actDue (s : State) (d : Desc) (late held : Bool) : State :=
  ((s.setDesc (s.fallDue d late)).confSupersede (s.fallDue d late)).actDesc (s.fallDue d late) held

theorem deadline_of_frozen {s : State} {r i : Nat} {d : Desc} (hd : s.descAt r i .timed = some d) (hf : s.descFrozen d = true)
    (late held : Bool) : deadline r i late held s = s := by
  simp [deadline, hd, hf]

theorem deadline_of_sameTick {s : State} {r i : Nat} {d : Desc} (hd : s.descAt r i .timed = some d) (he : d.eng ≠ 1)
    (hf : s.descFrozen d = false) (ht : s.sameTick d = true) (late held : Bool) :
    deadline r i late held s = (s.provUndo d).finish d stSuperseded 0 := by
  simp [deadline, hd, he, hf, ht]

theorem deadline_of_due {s : State} {r i : Nat} {d : Desc} (hd : s.descAt r i .timed = some d) (he : d.eng ≠ 1)
    (hf : s.descFrozen d = false) (ht : s.sameTick d = false) (late held : Bool) :
    deadline r i late held s =
      if (s.setDesc (s.fallDue d late)).breaksPromise (s.actDue d late held) then
        (s.setDesc (s.fallDue d late)).withdraw (s.fallDue d late) stDenied
      else (s.actDue d late held).unwarm (s.fallDue d late) (fun t => t.provUndo (s.fallDue d late)) := by
  simp only [deadline, hd, he, hf, ht]
  rfl

/-- A TIMED NOP that nothing holds back is DONE at its deadline. -/
theorem deadline_of_nop {s : State} {r i : Nat} {d : Desc} (hd : s.descAt r i .timed = some d) (he : 7 ≤ d.eng)
    (hf : s.descFrozen d = false) (ht : s.sameTick d = false) (ho : d.opcode = 0) (hw : d.warm = false)
    (hc : s.rng.commits.isEmpty = true) (hp : s.fld PCR_ENTRY_PHASE ≠ 1) (hx : s.descs.all (fun x => !x.conf) = true)
    (late held : Bool) :
    deadline r i late held s = (s.setDesc (s.fallDue d late)).finishDone (s.fallDue d late) 0 := by
  have hdm : d ∈ s.descs := List.mem_of_find?_eq_some hd
  have hy : (s.setDesc (s.fallDue d late)).descs.all (fun x => !x.conf) = true := by
    rw [List.all_eq_true] at hx ⊢
    intro x hm
    obtain ⟨y, hy, rfl⟩ := List.mem_map.mp hm
    split
    · rw [State.conf_fallDue, hx d hdm]
    · exact hx y hy
  have ha : s.actDue d late held = (s.setDesc (s.fallDue d late)).finishDone (s.fallDue d late) 0 := by
    rw [State.actDue, State.confSupersede_of_no_conf hy, State.actDesc_nop (by simpa using ho) (by rw [State.eng_fallDue]; omega)]
  have hb : (s.setDesc (s.fallDue d late)).breaksPromise (s.actDue d late held) = false :=
    State.breaksPromise_of_no_answer (by simpa [State.setDesc] using hc) (by simpa [State.setDesc] using hp) _
  rw [deadline_of_due hd (by omega) hf ht, hb, if_neg Bool.false_ne_true, State.unwarm_of_cold (by simpa using hw), ha]

/-- The preparation of a TIMED provisional starts at its deadline. -/
theorem deadline_of_provisional {s : State} {r i : Nat} {d : Desc} (hn : s.descAt r i .timed = none)
    (hd : s.descAt r i .provWait = some d) (hf : s.descFrozen d = false) (hc : s.rng.commits.isEmpty = true)
    (hp : s.fld PCR_ENTRY_PHASE ≠ 1) (late held : Bool) :
    deadline r i late held s = s.provStart { d with wasTimed := true, cond := s.condOf d (late || d.due) } := by
  simp [deadline, hn, hd, hf, State.breaksPromise_of_no_answer hc hp]

/-! ### Transactions (R82 to R91) -/

theorem begin_of_barred {s : State} {d : Desc} {x : Nat × Nat} (h : s.beginBars d = some x) : begin_ d s = s.finish d x.1 x.2 := by
  simp [begin_, h]

/-- A BEGIN that nothing bars opens its owner's transaction. -/
theorem begin_of_open {s : State} {d : Desc} (h : s.beginBars d = none) :
    begin_ d s = ((((((s.setFld (RNG_TXSTAT_OPEN d.owner) 1).setFld (RNG_TXSTAT_WAIT d.owner) 0).setFld (RNG_TXCLAIM_CLAIM d.owner)
      d.w2.toNat).setFld (RNG_TXLEFT_LEFT d.owner) d.w3.toNat).modRng (fun z =>
      { z with left := nPut z.left d.owner ((d.w3.toNat * 32768 + 999) / 1000) })).when (bitAt d.w2.toNat 6) State.shadowOcfg).finish
      d stDone 0 := by
  simp only [begin_, h]

/-- While no entry is negotiated, BEGIN answers as its own rules say. -/
theorem exec_begin {s t : State} {r : Fin 64} {i : Fin 1024} {d : Desc} (hf : s.domOn .fabric = true) (h : s.waits 1 1 r i d = true)
    (hp : s.fld PCR_ENTRY_PHASE ≠ 1) (ht : begin_ d s = t) : exec (.begin r i) s = .next t := by
  refine exec_of_fabric hf rfl ((State.onReady_of_waits h _).trans ?_)
  simp [State.breaksAck_of_no_entry hp, ht]

theorem exec_commit {s t : State} {r : Fin 64} {i : Fin 1024} {d : Desc} (hf : s.domOn .fabric = true) (h : s.waits 1 3 r i d = true)
    (ht : commit d s = t) : exec (.commit r i) s = .next t :=
  exec_of_fabric hf rfl ((State.onReady_of_waits h _).trans ht)

theorem commit_of_barred {s : State} {d : Desc} {x : Nat × Nat} (h : s.commitBars d = some x) : commit d s = s.finish d x.1 x.2 := by
  simp [commit, h]

/-- A COMMIT that an agent refuses rolls its transaction back. -/
theorem commit_of_refused {s : State} {d : Desc} {y : Nat × Nat × Nat} (h : s.commitBars d = none) (hr : s.refuser d.owner = some y) :
    commit d s = (s.txRelease d.owner 4).finish d y.2.1 (y.1 * 256 + y.2.2) := by
  simp [commit, h, hr]

/-- A COMMIT for which every agent is ready waits for its point. -/
theorem commit_of_ready {s : State} {d : Desc} (h : s.commitBars d = none) (hr : s.refuser d.owner = none) :
    commit d s = ((s.setFld (RNG_TXSTAT_WAIT d.owner) 1).setDesc { d with phase := .timed }).modRng (fun z => { z with
      commits := smInsert z.commits d.owner ⟨d.id, d.w2.toNat % 4, bitsOf d.w2.toNat 7 4⟩,
      fencedSince := smErase z.fencedSince d.owner }) := by
  simp only [commit, h, hr]

section CommitPoint

variable {s : State} {o : Nat} {w : CommitWait} {d : Desc}

theorem commitPoint_of_none (h : smFind s.rng.commits o = none) (late : Bool) : commitPoint o late s = s := by
  simp [commitPoint, h]

/-- The group of a COMMIT at a frame boundary has stopped. -/
theorem commitPoint_of_stopped_group (hw : smFind s.rng.commits o = some w) (hd : s.descId w.id = some d) (hp : w.point = 2)
    (hg : s.grpRuns w.group = false) (late : Bool) : commitPoint o late s = (s.txRelease o 4).finish d 0o24 w.group := by
  simp [commitPoint, hw, hd, hp, hg]

/-- A unit that the commit would change has been fenced since the agents answered. -/
theorem commitPoint_of_fenced {q : Nat} (hw : smFind s.rng.commits o = some w) (hd : s.descId w.id = some d) (hp : w.point ≠ 2)
    (hq : s.fencedBlock o = some q) (late : Bool) : commitPoint o late s = (s.txRelease o 4).finish d stFenced (q * 256) := by
  simp [commitPoint, hw, hd, hp, hq]

/-- The commit, at its time: the shadows take effect and every claimed block follows. -/
theorem commitPoint_of_unfenced (hw : smFind s.rng.commits o = some w) (hd : s.descId w.id = some d) (hp : w.point ≠ 2)
    (hq : s.fencedBlock o = none) (late : Bool) :
    commitPoint o late s = (((s.applyShadow o).committed s o none).txRelease o 1).finish d stDone
      (if w.point = 1 then s.condOf d (late || d.due) * 512 else 0) := by
  simp [commitPoint, hw, hd, hp, hq]

end CommitPoint

section Rollback

variable {s : State} {d : Desc}

theorem exec_rollback {t : State} {r : Fin 64} {i : Fin 1024} (hf : s.domOn .fabric = true) (h : s.waits 1 4 r i d = true)
    (ht : rollback d s = t) : exec (.rollback r i) s = .next t :=
  exec_of_fabric hf rfl ((State.onReady_of_waits h _).trans ht)

theorem rollback_of_closed (h2 : d.w2 = 0) (h3 : d.w3 = 0) (h4 : d.w4 = 0) (ho : s.on (RNG_TXSTAT_OPEN d.owner) = false) :
    rollback d s = s.finish d 0o22 0 := by
  simp [rollback, h2, h3, h4, ho]

theorem rollback_of_open (h2 : d.w2 = 0) (h3 : d.w3 = 0) (h4 : d.w4 = 0) (ho : s.on (RNG_TXSTAT_OPEN d.owner) = true)
    (hn : smFind s.rng.commits d.owner = none) : rollback d s = (s.txRelease d.owner 2).finish d stDone 0 := by
  simp [rollback, h2, h3, h4, ho, hn]

/-- A ROLLBACK ends the COMMIT that waits. -/
theorem rollback_of_waiting {w : CommitWait} {p : Desc} (h2 : d.w2 = 0) (h3 : d.w3 = 0) (h4 : d.w4 = 0)
    (ho : s.on (RNG_TXSTAT_OPEN d.owner) = true) (hw : smFind s.rng.commits d.owner = some w) (hp : s.descId w.id = some p) :
    rollback d s = ((s.finish p stAborted 0).txRelease d.owner 2).finish d stDone 0 := by
  simp [rollback, h2, h3, h4, ho, hw, hp]

end Rollback

theorem txTimeout_of_open {s : State} {o : Nat} (ho : s.on (RNG_TXSTAT_OPEN o) = true) (hw : s.on (RNG_TXSTAT_WAIT o) = false) :
    txTimeout o s = ((s.txRelease o 3).raise RNG_FLAG_TXEXP).record 3 2 o := by
  simp [txTimeout, ho, hw]

theorem txTimeout_of_closed {s : State} {o : Nat} (ho : s.on (RNG_TXSTAT_OPEN o) = false) : txTimeout o s = s := by
  simp [txTimeout, ho]

/-! ### The statement on rings and transactions -/

/-- Settles O46: each command by its equation for the case, the domains running. -/
theorem ringsAndTransactions : Obligations.RingsAndTransactions := by
  unfold Obligations.RingsAndTransactions
  intro s core r i v e o d p q late held w x y hf ha
  refine ⟨?doorbell, ?doorbellIgnored, ?doorbellReserved, ?fetch, ?fetchHeld, ?nop, ?deadline, ?provisional, ?sameTick, ?frozen,
    ?provisionalEnds, ?provisionalNone, ?begin, ?commit, ?now, ?stopped, ?zoneTime, ?fenced, ?noCommit, ?rollback, ?timeout, ?closed⟩
  case doorbell =>
    exact fun hu ho he hs hv => (exec_doorbell hu).trans (congrArg Host.Outcome.next (State.doorbell_of_owner ⟨ho, he, hs⟩ hv))
  case doorbellIgnored =>
    exact fun hu hi hv => (exec_doorbell hu).trans (congrArg Host.Outcome.next (State.doorbell_of_ignored hi hv))
  case doorbellReserved =>
    exact fun hu ho he hs hv => (exec_doorbell hu).trans (congrArg Host.Outcome.next (State.doorbell_of_reserved ⟨ho, he, hs⟩ hv))
  case fetch =>
    intro he hh hr
    have hx := descriptorFetch_of_room hh ha hr
    exact ⟨fun hq => exec_of_fabric hf rfl ((if_neg he).trans (by rw [hx, hq, Option.elim])),
      fun hq => exec_of_fabric hf rfl ((if_neg he).trans (by rw [hx, hq, Option.elim]))⟩
  case fetchHeld => exact fun hh => exec_of_fabric hf rfl (by simp [descriptorFetch_of_held hh])
  case nop =>
    intro h he
    obtain ⟨-, -, ho⟩ := State.descAt_of_waits h
    exact (exec_descriptorNop h).trans (congrArg Host.Outcome.next (State.actDesc_nop ho (by omega) false))
  case deadline =>
    intro z u t hd he hz ht
    have hx := deadline_of_due hd he hz ht late held
    exact ⟨fun hb => congrArg Host.Outcome.next (hx.trans (if_neg (Bool.eq_false_iff.mp hb))),
      fun hb => congrArg Host.Outcome.next (hx.trans (if_pos hb)),
      fun ho h7 hw hc hp hn => congrArg Host.Outcome.next (deadline_of_nop hd h7 hz ht ho hw hc hp hn late held)⟩
  case provisional =>
    exact fun hn hd hz hc hp => congrArg Host.Outcome.next (deadline_of_provisional hn hd hz hc hp late held)
  case sameTick => exact fun hd he hz ht => congrArg Host.Outcome.next (deadline_of_sameTick hd he hz ht late held)
  case frozen => exact fun hd hz => congrArg Host.Outcome.next (deadline_of_frozen hd hz late held)
  case provisionalEnds => exact fun hd => ⟨exec_of_act ha rfl (by simp only [hd]), exec_of_act ha rfl (by simp only [hd])⟩
  case provisionalNone => exact fun hd => ⟨exec_of_act ha rfl (by simp only [hd]), exec_of_act ha rfl (by simp only [hd])⟩
  case begin =>
    exact fun h => ⟨fun hp hb => exec_begin hf h hp (begin_of_barred hb), fun hp hb => exec_begin hf h hp (begin_of_open hb)⟩
  case commit =>
    exact fun h => ⟨fun hb => exec_commit hf h (commit_of_barred hb), fun hb hr => exec_commit hf h (commit_of_refused hb hr),
      fun hb hr => exec_commit hf h (commit_of_ready hb hr)⟩
  case now =>
    exact fun hw hd hp hq => exec_of_fabric hf rfl ((commitPoint_of_unfenced hw hd (by omega) hq late).trans (by simp [hp]))
  case stopped => exact fun hw hd hp hg => exec_of_fabric hf rfl (commitPoint_of_stopped_group hw hd hp hg late)
  case zoneTime =>
    exact fun hw hd hp hq => exec_of_fabric hf rfl ((commitPoint_of_unfenced hw hd (by omega) hq late).trans (by simp [hp]))
  case fenced => exact fun hw hd hp hq => exec_of_fabric hf rfl (commitPoint_of_fenced hw hd hp hq late)
  case noCommit => exact fun h => exec_of_fabric hf rfl (commitPoint_of_none h late)
  case rollback =>
    exact fun h h2 h3 h4 => ⟨fun ho => exec_rollback hf h (rollback_of_closed h2 h3 h4 ho),
      fun ho hn => exec_rollback hf h (rollback_of_open h2 h3 h4 ho hn),
      fun ho hw hp => exec_rollback hf h (rollback_of_waiting h2 h3 h4 ho hw hp)⟩
  case timeout => exact fun h3 ho hw => exec_of_fabric hf rfl ((if_neg h3).trans (txTimeout_of_open ho hw))
  case closed => exact fun ho => exec_of_fabric hf rfl (by simp [txTimeout_of_closed ho])

end Sys2Proof.Machine
end

section
/-! PROOFS. The statement on the remote ring agent (R93 to R99). -/

namespace Sys2Proof.Machine

/-! ### The judgement of a frame (R94, R95) -/

/-- What the agent reads of a frame: the bytes after its EtherType. -/
def State.agentBytes (s : State) (port : Nat) (b : List Byte) : List Byte := b.drop (s.zHead port b none).off

/-- The bytes of a request that its tag covers. -/
def reqLen (p : List Byte) : Nat := 10 + 24 * byteField p 3 1

/-- A request of the form of R93: type, slot, number of descriptors and length. -/
structure ReqForm (p : List Byte) : Prop where
  type_eq : byteField p 0 1 = 0x11
  slot_le : byteField p 1 1 ≤ 3
  count_pos : 1 ≤ byteField p 3 1
  count_le : byteField p 3 1 ≤ 8
  length_ge : reqLen p + 8 ≤ p.length

theorem ReqForm.not_malformed {p : List Byte} (h : ReqForm p) :
    ¬ (byteField p 0 1 ≠ 0x11 ∨ 3 < byteField p 1 1 ∨ byteField p 3 1 = 0 ∨ 8 < byteField p 3 1 ∨ p.length < reqLen p + 8) := by
  obtain ⟨ht, hs, h1, h8, hl⟩ := h
  omega

section AgentFrame

variable {s : State} {port : Nat} {b p : List Byte}

theorem State.agentFrame_of_malformed (hp : s.agentBytes port b = p)
    (h : byteField p 0 1 ≠ 0x11 ∨ 3 < byteField p 1 1 ∨ byteField p 3 1 = 0 ∨ 8 < byteField p 3 1 ∨ p.length < reqLen p + 8) :
    s.agentFrame port b = ((s.count RNG_ADROP_FMT).raise RNG_FLAG_RDROP).record 3 3 0 := by
  subst hp
  exact if_pos h

theorem State.agentFrame_of_no_slot (hp : s.agentBytes port b = p) (hf : ReqForm p) (he : s.on (RNG_SCTL_EN (byteField p 1 1)) = false) :
    s.agentFrame port b = (s.count RNG_ADROP_NOSLOT).raise RNG_FLAG_RDROP := by
  subst hp
  exact (if_neg hf.not_malformed).trans (if_pos (congrArg not he))

theorem State.agentFrame_of_bad_tag (hp : s.agentBytes port b = p) (hf : ReqForm p) (he : s.on (RNG_SCTL_EN (byteField p 1 1)) = true)
    (ht : sliceD p (reqLen p) 8 0 ≠ s.slotTag (byteField p 1 1) (p.take (reqLen p))) :
    s.agentFrame port b = ((s.count (RNG_SDROP_AUTH (byteField p 1 1))).raise RNG_FLAG_RDROP).record 3 4 (byteField p 1 1) := by
  subst hp
  exact (if_neg hf.not_malformed).trans ((if_neg (Bool.eq_false_iff.mp (congrArg not he))).trans (if_pos ht))

/-- A frame whose tag is right is judged by its freshness, and then by checks 5 to 9. -/
theorem State.agentFrame_of_tag (hp : s.agentBytes port b = p) (hf : ReqForm p) (he : s.on (RNG_SCTL_EN (byteField p 1 1)) = true)
    (ht : sliceD p (reqLen p) 8 0 = s.slotTag (byteField p 1 1) (p.take (reqLen p))) :
    s.agentFrame port b =
      if byteField p 4 4 ≤ s.shf (byteField p 1 1) then
        ((s.count (RNG_SDROP_FRESH (byteField p 1 1))).raise RNG_FLAG_RDROP).record 3 5 (byteField p 1 1)
      else (s.noteReply (byteField p 1 1) (s.zHead port b none) (byteField p 4 4)).reqJudge (byteField p 1 1) p := by
  subst hp
  exact (if_neg hf.not_malformed).trans ((if_neg (Bool.eq_false_iff.mp (congrArg not he))).trans (if_neg (not_not_intro ht)))

end AgentFrame

theorem remoteRequest_of_empty {s : State} (h : s.zsw.agentIn = []) : remoteRequest s = s := by
  simp [remoteRequest, h]

/-- The agent takes the oldest frame that waits. -/
theorem remoteRequest_of_cons {s : State} {port : Nat} {b : List Byte} {l : List (Nat × List Byte)}
    (h : s.zsw.agentIn = (port, b) :: l) (hh : s.rngHeld = false) :
    remoteRequest s = (s.modZsw (fun z => { z with agentIn := l })).agentFrame port b := by
  simp [remoteRequest, h, hh]

theorem State.agentBytes_modZsw (s : State) (f : Zsw → Zsw) (port : Nat) (b : List Byte) :
    (s.modZsw f).agentBytes port b = s.agentBytes port b := rfl

/-! ### The judgement of a request (R95, R96, R99) -/

theorem State.reqJudge_of_not_owner {s : State} {k : Nat} {p : List Byte}
    (h : byteField p 2 1 < 56 ∨ 63 < byteField p 2 1 ∨ s.fld (RNG_RCFG_OWNER (byteField p 2 1)) ≠ 4 + k) :
    s.reqJudge k p = s.refuseReq k (byteField p 2 1) 1 (byteField p 8 2) := if_pos h

/-- A request to a running ring of the slot, with encodings of words, within the slot's limit and into free ring slots, is posted. -/
theorem State.reqJudge_of_room {s : State} {k : Nat} {p : List Byte} (h56 : 56 ≤ byteField p 2 1) (h63 : byteField p 2 1 ≤ 63)
    (ho : s.fld (RNG_RCFG_OWNER (byteField p 2 1)) = 4 + k) (he : s.on (RNG_RCFG_EN (byteField p 2 1)) = true)
    (hs : s.fld (RNG_RSTAT_STATE (byteField p 2 1)) = 1)
    (hw : (List.range (8 * byteField p 3 1)).all (fun j => decide (byteField p (10 + 3 * j) 1 < 4)) = true)
    (hl : s.slotOpen k + byteField p 3 1 ≤ (if s.fld (RNG_SCTL_LIMIT k) = 0 then 64 else s.fld (RNG_SCTL_LIMIT k)))
    (hr : (s.reqSlots (byteField p 2 1) (byteField p 3 1)).all (s.slotFree (byteField p 2 1)) = true) :
    s.reqJudge k p = (s.postReq k (byteField p 2 1) (byteField p 3 1) (byteField p 8 2) p).acceptance k (byteField p 2 1) 0
      (byteField p 8 2) (s.fld (RNG_DB_PIDX (byteField p 2 1))) (byteField p 3 1) := by
  have h1 : ¬ (byteField p 2 1 < 56 ∨ 63 < byteField p 2 1 ∨ s.fld (RNG_RCFG_OWNER (byteField p 2 1)) ≠ 4 + k) := by omega
  have h2 : ¬ ((!s.on (RNG_RCFG_EN (byteField p 2 1))) = true ∨ s.fld (RNG_RSTAT_STATE (byteField p 2 1)) ≠ 1) := by simp [he, hs]
  have h3 : ¬ (List.range (8 * byteField p 3 1)).any (fun j => decide (4 ≤ byteField p (10 + 3 * j) 1)) = true := by
    simpa using hw
  have h5 : ¬ (s.reqSlots (byteField p 2 1) (byteField p 3 1)).any (fun i => !s.slotFree (byteField p 2 1) i) = true := by
    simpa using hr
  unfold State.reqJudge
  dsimp only
  rw [if_neg h1, if_neg h2, if_neg h3, if_neg (Nat.not_lt.mpr hl), if_neg h5]

/-! ### Completion responses (R97) -/

theorem completionResponse_of_empty {s : State} {k : Nat} (h : lGet s.rng.gather k = []) : completionResponse k s = s := by
  simp [completionResponse, h]

/-- The oldest completions of a slot leave, at most 8 of them. -/
theorem completionResponse_of_gathered {s : State} {k : Nat} (h : lGet s.rng.gather k ≠ []) :
    completionResponse k s =
      let g := lGet s.rng.gather k
      let t := (s.modRng (fun x => { x with gather := lPut x.gather k (g.drop 8) })).smfUp k
      t.respond k (natBe 1 0x13 ++ natBe 1 k ++ natBe 1 (g.take 8).length ++ natBe 1 0 ++ natBe 4 (t.smf k)
        ++ (g.take 8).flatMap Gathered.bytes) := by
  have hn : ¬ ((lGet s.rng.gather k).take 8).isEmpty = true := by
    rw [List.isEmpty_iff, List.take_eq_nil_iff]
    exact fun hx => hx.elim (by decide) h
  exact if_neg hn

/-! ### The statement on the remote ring agent -/

/-- Settles O47: the agent's checks in their order, each by its equation. -/
theorem remoteRingAgent : Obligations.RemoteRingAgent := by
  unfold Obligations.RemoteRingAgent
  intro s port b l k hf hh h p n m len u
  have takes (hq : s.zsw.agentIn = (port, b) :: l) {t : State} (ht : u.agentFrame port b = t) : exec .remoteRequest s = .next t :=
    exec_of_fabric hf rfl ((remoteRequest_of_cons hq hh).trans ht)
  have hp : u.agentBytes port b = p := s.agentBytes_modZsw _ port b
  refine ⟨?malformed, ?noSlot, ?badTag, ?tag, ?empty, ?noCompletion, ?completion⟩
  case malformed => exact fun hq hm => takes hq (State.agentFrame_of_malformed hp hm)
  case noSlot => exact fun hq h0 h1 h2 h3 h4 he => takes hq (State.agentFrame_of_no_slot hp ⟨h0, h1, h2, h3, h4⟩ he)
  case badTag => exact fun hq h0 h1 h2 h3 h4 he ht => takes hq (State.agentFrame_of_bad_tag hp ⟨h0, h1, h2, h3, h4⟩ he ht)
  case tag =>
    intro f hq h0 h1 h2 h3 h4 he ht
    have hx := State.agentFrame_of_tag hp ⟨h0, h1, h2, h3, h4⟩ (s := u) he ht
    refine ⟨fun hs => takes hq (hx.trans (if_pos hs)), ?_⟩
    intro w ring req hs
    have hj := hx.trans (if_neg (Nat.not_le.mpr hs))
    exact ⟨fun ho => takes hq (hj.trans (State.reqJudge_of_not_owner ho)),
      fun h56 h63 ho hen hst hw hl hr => takes hq (hj.trans (State.reqJudge_of_room h56 h63 ho hen hst hw hl hr))⟩
  case empty => exact fun hq => exec_of_fabric hf rfl (remoteRequest_of_empty hq)
  case noCompletion => exact fun hg => exec_of_fabric hf rfl (completionResponse_of_empty hg)
  case completion => exact fun hg => exec_of_fabric hf rfl (completionResponse_of_gathered hg)

end Sys2Proof.Machine
end

section
/-! PROOFS. The statement on completions (R78 to R81). -/

namespace Sys2Proof.Machine

/-! ### What fault records and ring stops leave alone -/

/-- The memories, their check bits and the cores: what a fault record that resets nothing leaves alone. -/
def State.stored (s : State) : SMap Word × SMap Nat × SMap Core := (s.mem, s.ecc, s.cores)

theorem State.stored_eq_iff {s t : State} : t.stored = s.stored ↔ t.mem = s.mem ∧ t.ecc = s.ecc ∧ t.cores = s.cores := by
  simp [State.stored]

section Stored

variable (s : State)

@[simp] theorem State.stored_setReg (k v : Nat) : (s.setReg k v).stored = s.stored :=
  State.stored_eq_iff.mpr ⟨s.mem_setReg k v, s.ecc_setReg k v, s.cores_setReg k v⟩

@[simp] theorem State.stored_modFlt (f : Flt → Flt) : (s.modFlt f).stored = s.stored :=
  State.stored_eq_iff.mpr ⟨s.mem_modFlt f, s.ecc_modFlt f, s.cores_modFlt f⟩

@[simp] theorem State.stored_modRng (f : Rng → Rng) : (s.modRng f).stored = s.stored :=
  State.stored_eq_iff.mpr ⟨s.mem_modRng f, s.ecc_modRng f, s.cores_modRng f⟩

@[simp] theorem State.stored_modPw (f : Pw → Pw) : (s.modPw f).stored = s.stored :=
  State.stored_eq_iff.mpr ⟨s.mem_modPw f, s.ecc_modPw f, s.cores_modPw f⟩

@[simp] theorem State.stored_setDescs (l : List Desc) : (s.setDescs l).stored = s.stored :=
  State.stored_eq_iff.mpr ⟨s.mem_setDescs l, s.ecc_setDescs l, s.cores_setDescs l⟩

@[simp] theorem State.stored_setFld (f : FRef) (v : Nat) : (s.setFld f v).stored = s.stored := s.stored_setReg _ _
@[simp] theorem State.stored_raise (f : FRef) : (s.raise f).stored = s.stored := s.stored_setFld f 1
@[simp] theorem State.stored_count (f : FRef) : (s.count f).stored = s.stored := s.stored_setFld f _
@[simp] theorem State.stored_setBitF (f : FRef) (i : Nat) (b : Bool) : (s.setBitF f i b).stored = s.stored := s.stored_setFld f _

@[simp] theorem State.stored_when (c : Bool) (g : State → State) : (s.when c g).stored = if c then (g s).stored else s.stored :=
  apply_ite State.stored (c = true) (g s) s

theorem State.stored_each {α : Type} {g : α → State → State} (h : ∀ x t, (g x t).stored = t.stored) (l : List α) :
    (s.each l g).stored = s.stored := by
  induction l generalizing s with
  | nil => rfl
  | cons x l ih => exact (ih (g x s)).trans (h x s)

@[simp] theorem State.stored_traceA (b typ code w1 t : Nat) : (s.traceA b typ code w1 t).stored = s.stored := by
  unfold State.traceA
  split <;> simp

@[simp] theorem State.stored_shedOne (b : Nat) (classC : Bool) : (s.shedOne b classC).stored = s.stored := by
  simp [State.shedOne]

@[simp] theorem State.stored_traceB (b typ code w1 t : Nat) : (s.traceB b typ code w1 t).stored = s.stored := by
  unfold State.traceB State.fifoPut
  split
  · split <;> simp
  · rfl

@[simp] theorem State.stored_latchWake (code d : Nat) : (s.latchWake code d).stored = s.stored := by
  unfold State.latchWake
  split
  · rfl
  · split <;> simp

@[simp] theorem State.stored_refreshFlt (b : Nat) : (s.refreshFlt b).stored = s.stored := by
  unfold State.refreshFlt State.driveFltn
  dsimp only
  split <;> simp

@[simp] theorem State.stored_firstFault (r : FRec) : (s.firstFault r).stored = s.stored := by
  unfold State.firstFault
  split <;> simp

@[simp] theorem State.stored_logEntry (r : FRec) : (s.logEntry r).stored = s.stored := by
  unfold State.logEntry
  dsimp only
  split <;> simp

@[simp] theorem State.stored_escalate (r : FRec) : (s.escalate r).stored = s.stored := by
  simp [State.escalate]

@[simp] theorem State.stored_logCore (r : FRec) : (s.logCore r).stored = s.stored := by
  simp [State.logCore]

@[simp] theorem State.stored_logRecord (b k inst : Nat) (fnc : Bool) : (s.logRecord b k inst fnc).stored = s.stored := by
  simp [State.logRecord, State.logRecAt]

@[simp] theorem State.stored_txRelease (o last : Nat) : (s.txRelease o last).stored = s.stored := by
  simp [State.txRelease]

@[simp] theorem State.stored_setProvp (e t : Nat) (b : Bool) : (s.setProvp e t b).stored = s.stored := by
  unfold State.setProvp
  split <;> simp

@[simp] theorem State.stored_leave (d : Desc) : (s.leave d).stored = s.stored := by
  unfold State.leave
  dsimp only
  split <;> split <;> simp

@[simp] theorem State.stored_ringStop (r : Nat) : (s.ringStop r).stored = s.stored := by
  unfold State.ringStop
  split
  · rfl
  · simp [State.stored_each, State.ringIrq]

@[simp] theorem State.stored_memFence (k : Nat) : (s.memFence k).stored = s.stored := by
  unfold State.memFence
  split
  · simp [State.stored_each, State.setBankSt]
  · rfl

@[simp] theorem State.stored_eccSingle (k : Nat) : (s.eccSingle k).stored = s.stored := by
  simp [State.eccSingle, State.eccRecord, State.markFenced, State.fenceNote]

@[simp] theorem State.stored_dropDesc (d : Desc) : (s.dropDesc d).stored = s.stored := by
  simp [State.dropDesc]

@[simp] theorem State.stored_gatherDone (c : HeldC) (w1 w7 : Word) : (s.gatherDone c w1 w7).stored = s.stored := by
  unfold State.gatherDone
  split <;> simp

end Stored

/-! ### Words of memory -/

theorem State.rd_of_stored {s t : State} (h : t.stored = s.stored) (k : Nat) : t.rd k = s.rd k := by
  rw [State.rd, (State.stored_eq_iff.mp h).1, State.rd]

theorem State.eccOf_of_stored {s t : State} (h : t.stored = s.stored) (k : Nat) : t.eccOf k = s.eccOf k := by
  rw [State.eccOf, (State.stored_eq_iff.mp h).2.1, State.eccOf]

theorem State.stored_wr_congr {s t : State} (h : t.stored = s.stored) (k : Nat) (v : Word) : (t.wr k v).stored = (s.wr k v).stored := by
  obtain ⟨hm, he, hc⟩ := State.stored_eq_iff.mp h
  simp only [State.stored, State.wr, hm, he, hc]

section Words

variable (s : State)

@[simp] theorem State.rd_wr_self (k : Nat) (v : Word) : (s.wr k v).rd k = v := smGet_smPut_self _ _ _ _

theorem State.rd_wr_of_ne {j k : Nat} (v : Word) (h : j ≠ k) : (s.wr k v).rd j = s.rd j := smGet_smPut_of_ne _ _ _ h

@[simp] theorem State.eccOf_wr_self (k : Nat) (v : Word) : (s.wr k v).eccOf k = 0 :=
  smGet_smPut_self (fun _ => 0) s.ecc k 0

theorem State.eccOf_wr_of_ne {j k : Nat} (v : Word) (h : j ≠ k) : (s.wr k v).eccOf j = s.eccOf j :=
  smGet_smPut_of_ne (fun _ => 0) s.ecc 0 h

@[simp] theorem State.descs_wr (k : Nat) (v : Word) : (s.wr k v).descs = s.descs := rfl

end Words

/-- The bit-clear of OWN, as a mask. -/
theorem toWord_putBits_17 (w : Word) : toWord (putBits w.toNat 17 17 0) = w &&& 0o377777 := by
  have hw : w.toNat < 262144 := w.isLt
  have hp : putBits w.toNat 17 17 0 = w.toNat % 2 ^ 17 := by
    change w.toNat % 131072 + 0 * 131072 + w.toNat / 262144 * 262144 = w.toNat % 131072
    omega
  apply BitVec.eq_of_toNat_eq
  rw [hp, toNat_toWord, Nat.mod_eq_of_lt (lt_trans (Nat.mod_lt _ (by decide)) (by decide)), BitVec.toNat_and]
  exact (Nat.and_two_pow_sub_one_eq_mod w.toNat 17).symm

/-! ### Bits of fields -/

theorem bitAt_eq_testBit (w i : Nat) : bitAt w i = w.testBit i := Nat.testBit_eq_decide_div_mod_eq.symm

theorem bitAt_setBit_self (w i : Nat) : bitAt (setBit w i) i = true := by
  unfold setBit bitAt
  split
  case isTrue h => exact decide_eq_true h
  case isFalse h =>
    rw [Nat.add_div_right _ (Nat.two_pow_pos i), decide_eq_true_eq]
    omega

/-- A bit of a field reads as set once it has been set. -/
theorem State.bit_setBitF_self (s : State) {f : FRef} {i : Nat} (h : f.Good) (hi : i < f.hi + 1 - f.lo) :
    (s.setBitF f i true).bit f i = true := by
  have hv : (s.setBitF f i true).fld f = setBit (s.fld f) i % 2 ^ (f.hi + 1 - f.lo) := s.fld_setFld_self f _ h
  have hb := bitAt_setBit_self (s.fld f) i
  rw [bitAt_eq_testBit] at hb
  rw [State.bit, hv, bitAt_eq_testBit, Nat.testBit_mod_two_pow, hb, decide_eq_true hi]
  rfl

/-! ### The parts of a completion -/

/-- A register that is not of a sequencer output keeps its value when a descriptor leaves. -/
theorem State.reg_dropDesc_of_ne (s : State) (d : Desc) {k : Nat} (h : ∀ n, k ≠ rSEQ_OSTAT n) : (s.dropDesc d).reg k = s.reg k := by
  unfold State.dropDesc State.when
  split
  · unfold State.setProvp
    split
    case h_1 n _ => rw [State.reg_setFld_of_ne _ _ _ _ (h n), State.reg_setDescs]
    case h_2 => rw [State.reg_setDescs]
  · exact s.reg_setDescs _ k

theorem State.descs_dropDesc (s : State) (d : Desc) : (s.dropDesc d).descs = s.descs.filter (fun x => decide (x.id ≠ d.id)) := by
  unfold State.dropDesc State.when
  split
  · unfold State.setProvp
    split <;> rfl
  · rfl

/-- Of the registers, a record of class B changes those of the trace port's FIFO alone. -/
theorem State.reg_traceB_of_ne (s : State) (b typ code w1 t : Nat) {k : Nat} (hf : k ≠ rFLT_SPSTAT) (hs : k ≠ rFLT_SPSHD)
    (hg : k ≠ rFLT_GFLAG) : (s.traceB b typ code w1 t).reg k = s.reg k := by
  unfold State.traceB State.fifoPut State.shedOne
  split
  · split
    · rw [State.reg_setFld_of_ne _ _ _ _ hf, State.reg_modFlt]
    · rw [State.raise, State.reg_setFld_of_ne _ _ _ _ hg, State.count, State.countBy, State.reg_setFld_of_ne _ _ _ _ hs,
        State.reg_modFlt]
  · rfl

@[simp] theorem State.descs_traceB (s : State) (b typ code w1 t : Nat) : (s.traceB b typ code w1 t).descs = s.descs := by
  unfold State.traceB State.fifoPut State.shedOne
  split
  · split
    · rw [State.setFld, State.descs_setReg, State.descs_modFlt]
    · rw [State.raise, State.setFld, State.descs_setReg, State.count, State.countBy, State.setFld, State.descs_setReg, State.descs_modFlt]
  · rfl

@[simp] theorem State.reg_gatherDone (s : State) (c : HeldC) (w1 w7 : Word) (k : Nat) : (s.gatherDone c w1 w7).reg k = s.reg k := by
  unfold State.gatherDone
  split <;> rfl

@[simp] theorem State.descs_gatherDone (s : State) (c : HeldC) (w1 w7 : Word) : (s.gatherDone c w1 w7).descs = s.descs := by
  unfold State.gatherDone
  split <;> rfl

/-- The two words that a completion writes. -/
theorem State.stored_writeW7 (s : State) (a st detail : Nat) :
    (s.writeW7 a st detail).stored
      = ((s.wr (a + 7) (w7Of st detail)).wr a (if s.eccOf a = 2 then 0 else s.rd a &&& 0o377777)).stored := by
  rw [State.writeW7, toWord_putBits_17]
  exact State.stored_wr_congr (by simp) _ _

/-- With no correction to record, the writes leave the accepted descriptors. -/
theorem State.descs_writeW7 {s : State} {a : Nat} (h : s.eccOf a ≠ 1) (st detail : Nat) : (s.writeW7 a st detail).descs = s.descs := by
  rw [State.writeW7, decide_eq_false h, State.when_false, State.descs_wr, State.descs_wr]

section WriteDone

variable {s : State} {c : HeldC}

/-- A completion whose slot is on line: the words, the interrupt, the trace record and the gathered completion. -/
theorem State.writeDone_of_online (h : s.addrOff (s.slotAddr c.ring c.slot) = false) :
    s.writeDone c = ((((s.writeW7 (s.slotAddr c.ring c.slot) c.st c.detail).when (c.irq && s.on (RNG_RCFG_IRQEN c.ring))
      (fun s => s.ringIrq c.ring)).when (decide (c.st ≠ 0)) (fun s => s.traceB (engBlock c.eng) 4 c.ring (c.st * 2 ^ 12 + c.slot)
      s.faultTime.1)).gatherDone c (s.rd (s.slotAddr c.ring c.slot + 1)) (w7Of c.st c.detail)) :=
  if_neg (Bool.eq_false_iff.mp h)

theorem State.stored_writeDone (h : s.addrOff (s.slotAddr c.ring c.slot) = false) :
    (s.writeDone c).stored = (s.writeW7 (s.slotAddr c.ring c.slot) c.st c.detail).stored := by
  simp [State.writeDone_of_online h, State.ringIrq]

theorem State.descs_writeDone (h : s.addrOff (s.slotAddr c.ring c.slot) = false) :
    (s.writeDone c).descs = (s.writeW7 (s.slotAddr c.ring c.slot) c.st c.detail).descs := by
  rw [State.writeDone_of_online h, State.descs_gatherDone]
  unfold State.when State.ringIrq State.setBitF State.setFld
  split <;> split <;> simp

/-- A completion with IRQ on a ring with IRQEN sets the ring's pending bit. -/
theorem State.pending_writeDone (h : s.addrOff (s.slotAddr c.ring c.slot) = false) (hr : c.ring < 64) (hi : c.irq = true)
    (he : s.on (RNG_RCFG_IRQEN c.ring) = true) :
    (s.writeDone c).bit (RNG_IRQPEND_PEND (c.ring / 16)) (c.ring % 16) = true := by
  have hgood : (RNG_IRQPEND_PEND (c.ring / 16)).Good := ⟨Nat.zero_le 15, by simp [RNG_IRQPEND_PEND]⟩
  have hset := State.bit_setBitF_self (s.writeW7 (s.slotAddr c.ring c.slot) c.st c.detail) hgood (Nat.mod_lt c.ring (by decide : 16 > 0))
  have hreg : (s.writeDone c).reg (rRNG_IRQPEND (c.ring / 16))
      = ((s.writeW7 (s.slotAddr c.ring c.slot) c.st c.detail).ringIrq c.ring).reg (rRNG_IRQPEND (c.ring / 16)) := by
    have ha : rRNG_IRQPEND (c.ring / 16) < 0x3405 := by simp only [rRNG_IRQPEND]; omega
    rw [State.writeDone_of_online h, State.reg_gatherDone, hi, he, Bool.and_self, State.when_true, State.when]
    split
    · exact State.reg_traceB_of_ne _ _ _ _ _ _ (by simp only [rFLT_SPSTAT]; omega) (by simp only [rFLT_SPSHD]; omega)
        (by simp only [rFLT_GFLAG]; omega)
    · rfl
  exact (congrArg (fun v => bitAt (bitsOf v 15 0) (c.ring % 16)) hreg).trans hset

end WriteDone

section Finish

variable {s : State} {d : Desc}

/-- What is held of a completion until it is written. -/
def Desc.completion (d : Desc) (st detail : Nat) : HeldC := ⟨d.eng, d.ring, d.slot, st, detail, bitAt d.w0.toNat 16, d.owner, d.req⟩

/-- While FABRIC runs, an open descriptor's completion is written at once. -/
theorem State.finish_of_open (hm : d.mute = false) (hf : s.domOn .fabric = true) (st detail : Nat) :
    s.finish d st detail = (s.dropDesc d).writeDone (d.completion st detail) := by
  simp [State.finish, hm, hf, Desc.completion]

theorem State.slotAddr_dropDesc (s : State) (d : Desc) (r i : Nat) : (s.dropDesc d).slotAddr r i = s.slotAddr r i := by
  rw [State.slotAddr, s.reg_dropDesc_of_ne d (by simp only [rRNG_RBASE, rSEQ_OSTAT]; omega), State.slotAddr]

theorem State.addrOff_dropDesc (s : State) (d : Desc) (a : Nat) : (s.dropDesc d).addrOff a = s.addrOff a := by
  have hb : (s.dropDesc d).bankSt (bankOf a) = s.bankSt (bankOf a) := by
    rw [State.bankSt, s.reg_dropDesc_of_ne d (by simp only [rMEM_BANKSTAT, rSEQ_OSTAT]; omega), State.bankSt]
  rw [State.addrOff, State.bankOff, hb, State.addrOff, State.bankOff]

theorem State.irqen_dropDesc (s : State) (d : Desc) {r : Nat} (h : r < 64) :
    (s.dropDesc d).on (RNG_RCFG_IRQEN r) = s.on (RNG_RCFG_IRQEN r) := by
  rw [State.on, State.fld, s.reg_dropDesc_of_ne d (by simp only [RNG_RCFG_IRQEN, rRNG_RCFG, rSEQ_OSTAT]; omega), State.on, State.fld]

theorem State.online_dropDesc (ha : s.addrOff (s.slotAddr d.ring d.slot) = false) :
    (s.dropDesc d).addrOff ((s.dropDesc d).slotAddr d.ring d.slot) = false := by
  rw [State.addrOff_dropDesc, State.slotAddr_dropDesc, ha]

/-- The memories after a completion: w7 written, and w0 without OWN. -/
theorem State.stored_finish (hm : d.mute = false) (hf : s.domOn .fabric = true) (ha : s.addrOff (s.slotAddr d.ring d.slot) = false)
    (st detail : Nat) :
    (s.finish d st detail).stored = ((s.wr (s.slotAddr d.ring d.slot + 7) (w7Of st detail)).wr (s.slotAddr d.ring d.slot)
      (if s.eccOf (s.slotAddr d.ring d.slot) = 2 then 0 else s.rd (s.slotAddr d.ring d.slot) &&& 0o377777)).stored := by
  have hon := State.online_dropDesc ha
  have hs := s.stored_dropDesc d
  rw [State.finish_of_open hm hf, State.stored_writeDone (c := d.completion st detail) hon, State.stored_writeW7,
    State.slotAddr_dropDesc, State.eccOf_of_stored hs, State.rd_of_stored hs]
  exact State.stored_wr_congr (State.stored_wr_congr hs _ _) _ _

end Finish

/-! ### The statement on completions -/

/-- Settles O6: the words by `stored_finish`; the descriptors and the pending bit through the parts of a completion. -/
theorem completions : Obligations.Completions := by
  unfold Obligations.Completions
  intro s d st detail k x a t hm hf ha
  have hon := State.online_dropDesc ha
  have ht : t = (s.dropDesc d).writeDone (d.completion st detail) := State.finish_of_open hm hf st detail
  have hst := State.stored_finish hm hf ha st detail
  have hrd := State.rd_of_stored hst
  have hecc := State.eccOf_of_stored hst
  have h7 : a + 7 ≠ a := by omega
  refine ⟨?w7, ?w0, ?good0, ?good7, ?others, ?descs, ?irq, ?cores⟩
  case w7 => rw [hrd, State.rd_wr_of_ne _ _ h7, State.rd_wr_self]; rfl
  case w0 => rw [hrd, State.rd_wr_self]
  case good0 => rw [hecc, State.eccOf_wr_self]
  case good7 => rw [hecc, State.eccOf_wr_of_ne _ _ h7, State.eccOf_wr_self]
  case others =>
    intro h0 h7
    rw [hrd, hecc, State.rd_wr_of_ne _ _ h0, State.rd_wr_of_ne _ _ h7, State.eccOf_wr_of_ne _ _ h0, State.eccOf_wr_of_ne _ _ h7]
    exact ⟨rfl, rfl⟩
  case descs =>
    intro he
    have he' : (s.dropDesc d).eccOf ((s.dropDesc d).slotAddr d.ring d.slot) ≠ 1 := by
      rw [State.slotAddr_dropDesc, State.eccOf_of_stored (s.stored_dropDesc d)]
      exact he
    rw [ht, (State.descs_writeDone (c := d.completion st detail) hon).trans (State.descs_writeW7 he' st detail), State.descs_dropDesc,
      List.mem_filter, decide_eq_true_eq]
  case irq =>
    intro hr hw hi
    rw [ht]
    exact State.pending_writeDone (c := d.completion st detail) hon hr (by rw [Desc.completion, bitAt_eq_testBit]; exact hw)
      (by rw [← hi]; exact s.irqen_dropDesc d hr)
  case cores => exact (State.stored_eq_iff.mp hst).2.2

end Sys2Proof.Machine
end

section
/-! PROOFS. The statement on the instructions of waveform programs (R110, R111, R635). -/

namespace Sys2Proof.Machine

/-! ### Instructions of a thread (R110, R111) -/

/-- An instruction's command, ACT running and the thread at that instruction: its effect on the state past the instruction. -/
theorem exec_of_seqAt {i : Instr} {n op a v : Nat} {is : Nat → Bool} {f : Nat → Nat → State → State} {s t : State}
    (ha : s.domOn .act = true) (hi : exec i s = .next (inDom .act (fun s => s.seqInstr n is f) s)) (h : s.seqAt n op a v = true)
    (hop : is op = true) (hf : f a (if twoWords op then v else 0) (s.seqPast n op) = t) : exec i s = .next t :=
  exec_of_act ha hi ((State.seqInstr_of_seqAt h is hop f).trans hf)

theorem State.lt_of_seqAt {s : State} {n op a v : Nat} (h : s.seqAt n op a v = true) : a < 8192 := by
  simp only [State.seqAt, Bool.and_eq_true, decide_eq_true_eq] at h
  obtain ⟨⟨⟨⟨-, -, -, -, hlt⟩, -⟩, -⟩, -⟩ := h
  exact hlt

/-- SETC: operand A of 13 bits selects the counter by its top bit. -/
theorem setCounter_of_lt {a : Nat} (h : a < 8192) (t : Thread) :
    (if a / 4096 = 1 then { t with c1 := a % 4096 } else { t with c0 := a % 4096 })
      = if a < 4096 then { t with c0 := a } else { t with c1 := a - 4096 } := by
  by_cases hl : a < 4096
  · have hd : a / 4096 ≠ 1 := by omega
    rw [if_neg hd, if_pos hl, Nat.mod_eq_of_lt hl]
  · have hd : a / 4096 = 1 := by omega
    have hm : a % 4096 = a - 4096 := by omega
    rw [if_pos hd, if_neg hl, hm]

theorem State.seqJump_of_inSlot {n a : Nat} (h : inSlot n a = true) (s : State) : s.seqJump n a = s.setThrPc n a := if_pos h

theorem State.seqJump_of_outside {n a : Nat} (h : inSlot n a = false) (s : State) : s.seqJump n a = s.progFault n 5 :=
  if_neg (Bool.eq_false_iff.mp h)

/-- DJNZ on either counter, of value `c`: `put` writes the counter back, and the thread jumps unless it has reached 0. -/
def djnz (n a c : Nat) (put : Nat → State) : State :=
  if (c + 4095) % 4096 = 0 then put ((c + 4095) % 4096) else (put ((c + 4095) % 4096)).seqJump n a

theorem exec_seqDjnz0 {s : State} {n : Fin 128} {a v : Nat} (ha : s.domOn .act = true) (h : s.seqAt n 9 a v = true) :
    exec (.seqDjnz0 n) s
      = .next (djnz n a ((s.seqPast n 9).thr n).c0 (fun c => (s.seqPast n 9).setThr n { (s.seqPast n 9).thr n with c0 := c })) :=
  exec_of_seqAt ha rfl h rfl rfl

theorem exec_seqDjnz1 {s : State} {n : Fin 128} {a v : Nat} (ha : s.domOn .act = true) (h : s.seqAt n 10 a v = true) :
    exec (.seqDjnz1 n) s
      = .next (djnz n a ((s.seqPast n 10).thr n).c1 (fun c => (s.seqPast n 10).setThr n { (s.seqPast n 10).thr n with c1 := c })) :=
  exec_of_seqAt ha rfl h rfl rfl

theorem djnz_of_one {n a c : Nat} (h : c = 1) (put : Nat → State) : djnz n a c put = put 0 := by
  subst h
  exact if_pos rfl

theorem djnz_of_jump {n a c : Nat} (hs : inSlot n a = true) (h : (c + 4095) % 4096 ≠ 0) (put : Nat → State) :
    djnz n a c put = (put ((c + 4095) % 4096)).setThrPc n a :=
  (if_neg h).trans (State.seqJump_of_inSlot hs _)

theorem djnz_of_more {n a c : Nat} (hs : inSlot n a = true) (h1 : 1 < c) (hc : c < 4096) (put : Nat → State) :
    djnz n a c put = (put (c - 1)).setThrPc n a := by
  have hm : (c + 4095) % 4096 = c - 1 := by omega
  rw [djnz_of_jump hs (by omega), hm]

theorem djnz_of_zero {n a c : Nat} (hs : inSlot n a = true) (h : c = 0) (put : Nat → State) :
    djnz n a c put = (put 4095).setThrPc n a := by
  subst h
  exact djnz_of_jump hs (by decide) put

/-- A DJNZ command: its counter ends at 0 without a jump, counts down with one, or wraps from 0 with one. -/
theorem exec_djnz {i : Instr} {s : State} {n a c : Nat} {put : Nat → State} (hx : exec i s = .next (djnz n a c put))
    (hs : inSlot n a = true) :
    (c = 1 → exec i s = .next (put 0)) ∧ (1 < c → c < 4096 → exec i s = .next ((put (c - 1)).setThrPc n a))
      ∧ (c = 0 → exec i s = .next ((put 4095).setThrPc n a)) := by
  rw [hx]
  exact ⟨fun h1 => congrArg Host.Outcome.next (djnz_of_one h1 put),
    fun h1 hc => congrArg Host.Outcome.next (djnz_of_more hs h1 hc put),
    fun h0 => congrArg Host.Outcome.next (djnz_of_zero hs h0 put)⟩

/-- A word without an uncorrectable error is fetched as it stands (R635). -/
theorem State.seqFetch_of_readable {s : State} {a : Nat} (h : s.eccOf (seqKey (a % 8192)) ≠ 2) :
    s.seqFetch a = some (s.rd (seqKey (a % 8192))).toNat := if_neg h

/-! ### The statement on the instructions -/

/-- Settles O29: each instruction by what its command does with the state past it. -/
theorem sequencerInstructions : Obligations.SequencerInstructions := by
  unfold Obligations.SequencerInstructions
  intro s n a v ha u t sets
  refine ⟨?seqEnd, ?hold, ?setd, ?setdq0, ?setdq1, ?setdq2, ?ramp, ?waitf, ?waitt, ?waite, ?setc, ?djnz0, ?djnz1, ?jmp, ?call, ?ret, ?ske,
    ?setp, ?status, ?sett, ?phase, ?undef⟩
  case seqEnd | hold | setd | setdq0 | setdq1 | setdq2 | ramp | waitf | waitt | waite | setp | status | sett =>
    exact fun h => exec_of_seqAt ha rfl h rfl rfl
  case setc =>
    exact fun h => exec_of_seqAt ha rfl h rfl (congrArg ((u 8).setThr n) (setCounter_of_lt (State.lt_of_seqAt h) (t 8)))
  case djnz0 => exact fun h hs => exec_djnz (exec_seqDjnz0 ha h) hs
  case djnz1 => exact fun h hs => exec_djnz (exec_seqDjnz1 ha h) hs
  case jmp =>
    exact fun h => ⟨fun hs => exec_of_seqAt ha rfl h rfl (State.seqJump_of_inSlot hs _),
      fun hs => exec_of_seqAt ha rfl h rfl (State.seqJump_of_outside hs _)⟩
  case call =>
    intro h hs _ hr
    refine exec_of_seqAt ha rfl h rfl ?_
    have hn : ((u 12).thr n).ret.isSome = false := by rw [hr, Option.isSome_none]
    exact (if_neg (Bool.eq_false_iff.mp hn)).trans (if_pos hs)
  case ret =>
    intro h hr
    have hv : ((s.seqPast n 13).thr n).ret = some v := hr
    exact exec_of_seqAt ha rfl h rfl (by rw [hv]; rfl)
  case ske =>
    refine fun h => ⟨fun he => exec_of_seqAt ha rfl h rfl (if_neg (Bool.eq_false_iff.mp he)), ?_⟩
    intro he p w hq
    refine exec_of_seqAt ha rfl h rfl ((if_pos he).trans ?_)
    rw [State.seqFetch_of_readable hq]
  case phase =>
    exact fun h => ⟨fun hr => exec_of_seqAt ha rfl h rfl (if_pos hr),
      fun hr => exec_of_seqAt ha rfl h rfl (if_neg (Bool.eq_false_iff.mp hr))⟩
  case undef =>
    intro hr he hw
    have hq : s.eccOf (seqKey (s.thrPc n % 8192)) ≠ 2 := by omega
    have hop : 18 < (s.rd (seqKey (s.thrPc n % 8192))).toNat / 8192 := by omega
    refine exec_of_act ha rfl ((if_neg (not_not_intro hr)).trans ?_)
    rw [State.seqFetch_of_readable hq]
    exact if_pos hop

end Sys2Proof.Machine
end

section
/-! PROOFS. The statement on waits and frames (R104, R105, R110), PWM periods (R106), the resume of a group (R113), the sequencer memory
(R109, R635) and ACT's zone time (R114). -/

namespace Sys2Proof.Machine

/-! ### Waits (R110, R111, R113) -/

section WaitEnd
variable {s : State} {n : Fin 128} (ha : s.domOn .act = true)
include ha

theorem exec_threadWaitEnd_of_time (h : s.thrSt n = 2) : exec (.threadWaitEnd n) s = .next (s.seqRun n none) :=
  exec_of_act ha rfl (by rw [h]; rfl)

/-- A frame wait ends when its boundaries have passed. -/
theorem exec_threadWaitEnd_of_frames (h : s.thrSt n = 3) (hw : (s.thr n).waitN = 0) :
    exec (.threadWaitEnd n) s = .next (s.seqRun n none) :=
  exec_of_act ha rfl (by rw [h]; exact if_pos hw)

theorem exec_threadWaitEnd_of_event (h : s.thrSt n = 4) (he : (s.thr n).ev = true) :
    exec (.threadWaitEnd n) s = .next (s.seqRun n (some true)) :=
  exec_of_act ha rfl (by rw [h]; exact if_pos he)

/-- An event wait with a timeout ends by it where the event has not come. -/
theorem exec_threadWaitEnd_of_timeout (h : s.thrSt n = 4) (he : (s.thr n).ev = false) (hw : (s.thr n).waitN ≠ 0) :
    exec (.threadWaitEnd n) s = .next (s.seqRun n (some false)) :=
  exec_of_act ha rfl (by rw [h]; exact (if_neg (Bool.eq_false_iff.mp he)).trans (if_pos hw))

/-- A time wait that ends in a frozen group is kept for the resume. -/
theorem exec_threadWaitEnd_of_suspended (h : s.thrSt n = 6) (hs : (s.thr n).susp = 2) :
    exec (.threadWaitEnd n) s = .next (s.setThr n { s.thr n with due := true }) :=
  exec_of_act ha rfl (by rw [h]; exact if_pos (Or.inl hs))

end WaitEnd

/-! ### Frames and PWM periods (R104 to R107) -/

section Frames
variable {s : State} (ha : s.domOn .act = true)
include ha

theorem exec_frameBoundary_of_running {g : Fin 16} (h : s.grpRuns g = true) :
    exec (.frameBoundary g) s = .next (let u := s.setFld (SEQ_GSTAT_FCNT g) (s.fld (SEQ_GSTAT_FCNT g) + 1)
      u.each (u.grpOuts g) (fun m u => u.frameOut g m)) :=
  exec_of_act ha rfl (if_neg (by simp [h]))

theorem exec_frameBoundary_of_stopped {g : Fin 16} (h : s.grpRuns g = false) : exec (.frameBoundary g) s = .next s :=
  exec_of_act ha rfl (if_pos (by simp [h]))

end Frames

theorem State.hscOf_of_not_odd {s : State} {n : Nat} (h : s.hscOdd n = false) : s.hscOf n = n := by
  simpa [State.hscOdd] using h

theorem State.tgtOf_of_channel {s : State} {n : Nat} (h : n < 64) : s.tgtOf n = (2, s.hscOf n) := if_pos h

theorem State.tgtOf_of_valve (s : State) {n : Nat} (hlo : 84 ≤ n) (hhi : n < 100) : s.tgtOf n = (4, n - 84) := by
  simp only [State.tgtOf]
  rw [if_neg (by omega), if_neg (by omega), if_neg (by omega), if_pos hhi]

theorem State.tgtOf_of_sink (s : State) {n : Nat} (hlo : 100 ≤ n) (hhi : n < 124) : s.tgtOf n = (5, n - 100) := by
  simp only [State.tgtOf]
  rw [if_neg (by omega), if_neg (by omega), if_neg (by omega), if_neg (by omega), if_pos hhi]

section Periods
variable {s : State} {n : Fin 128} (ha : s.domOn .act = true)
include ha

/-- A channel of its own, in no running group, starts a free-running period (R106). -/
theorem exec_pwmPeriodStart_of_channel (hn : n.val < 64) (ho : s.hscOdd n = false) (hg : s.grpRuns (s.grp n) = false) :
    exec (.pwmPeriodStart n) s = .next (s.hscPeriod n) :=
  exec_of_act ha rfl (by
    rw [State.tgtOf_of_channel hn, State.hscOf_of_not_odd ho]
    exact if_neg (by simp [hg, ho]))

theorem exec_pwmPeriodStart_of_motor {q : Nat} (h : s.tgtOf n = (3, q)) :
    exec (.pwmPeriodStart n) s = .next ((s.motPeriod q).when (s.meanByCarrier n) (fun u => u.meanEnd n)) :=
  exec_of_act ha rfl (by rw [h]; rfl)

theorem exec_pwmPeriodStart_of_valve (hlo : 84 ≤ n.val) (hhi : n.val < 100) :
    exec (.pwmPeriodStart n) s = .next (s.vlvPeriod (n.val - 84)) :=
  exec_of_act ha rfl (by
    have ht : n.val - 84 < 16 := by omega
    rw [s.tgtOf_of_valve hlo hhi]
    exact if_pos ht)

theorem exec_pwmPeriodStart_of_sink (hlo : 100 ≤ n.val) (hhi : n.val < 124) : exec (.pwmPeriodStart n) s = .next s :=
  exec_of_act ha rfl (by rw [s.tgtOf_of_sink hlo hhi]; rfl)

end Periods

/-! ### The sequencer's registers: the resume and the memory window (R109, R113, R635) -/

theorem addrDom_seqGctl : ∀ g : Fin 16, addrDom (rSEQ_GCTL g) = .act := by decide +kernel

theorem addrDom_seqMdata : addrDom rSEQ_MDATA = .act := by decide +kernel

theorem State.ioGate_of_on {s : State} {a : Nat} (h : s.domOn (addrDom a) = true) (c : CoreId) (f : State → State) :
    s.ioGate c a f = f s := if_pos h

theorem exec_seqResume {s : State} (ha : s.domOn .act = true) (c : CoreId) (g : Fin 16) :
    exec (.seqResume c g) s = .next (s.seqResume g) :=
  congrArg Host.Outcome.next (State.ioGate_of_on ((addrDom_seqGctl g).symm ▸ ha) c _)

theorem exec_seqMdataWrite {s : State} (ha : s.domOn .act = true) (c : CoreId) (v : Word) :
    exec (.seqMdataWrite c v) s = .next (s.mdataStore v) :=
  congrArg Host.Outcome.next (State.ioGate_of_on (addrDom_seqMdata.symm ▸ ha) c _)

theorem exec_seqMdataRead {s : State} (ha : s.domOn .act = true) (c : CoreId) :
    exec (.seqMdataRead c) s = .next s.mdataLoad :=
  congrArg Host.Outcome.next (State.ioGate_of_on (addrDom_seqMdata.symm ▸ ha) c _)

/-- A store to a slot is taken while its thread is stopped; one to the library, while that is not locked. -/
theorem State.mdataStore_of_slot {s : State} (h : s.fld SEQ_MADR_ADDR < 0o14000) (v : Word) :
    s.mdataStore v = (if s.thrStopped (s.fld SEQ_MADR_ADDR / 0o60) then s.wr (seqKey (s.fld SEQ_MADR_ADDR)) v
      else s.raise SEQ_FLAG_MBUSY).madrUp := congrArg State.madrUp (if_pos h)

theorem State.mdataStore_of_library {s : State} (h : 0o14000 ≤ s.fld SEQ_MADR_ADDR) (v : Word) :
    s.mdataStore v = (if s.on SEQ_LOCK_LIB then
        s.raiseIf (decide (s.rd (seqKey (s.fld SEQ_MADR_ADDR)) ≠ v)) SEQ_FLAG_WRREF
      else s.wr (seqKey (s.fld SEQ_MADR_ADDR)) v).madrUp := congrArg State.madrUp (if_neg (Nat.not_lt.mpr h))

/-! ### Zone time (R114, R115) -/

/-- The difference of two times of 64 bits, read with its sign. -/
theorem sextOf_sub_eq_toInt (z : BitVec 64) {k : Nat} (hk : k < 2 ^ 64) :
    sextOf 64 ((z.toNat + 2 ^ 64 - k) % 2 ^ 64) = (z - BitVec.ofNat 64 k).toInt := by
  have hs : (z - BitVec.ofNat 64 k).toNat = (z.toNat + 2 ^ 64 - k) % 2 ^ 64 := by
    rw [BitVec.toNat_sub, BitVec.toNat_ofNat, Nat.mod_eq_of_lt hk]
    congr 1
    omega
  rw [sextOf, BitVec.toInt_eq_toNat_cond, hs, Nat.mod_mod]
  split <;> split <;> omega

theorem State.ztNs_lt (s : State) : s.ztNs < 2 ^ 64 := Nat.mod_lt _ (by decide)

/-- The registers and the rate after a sample that shows an offset. -/
def State.ztSampled (s : State) (off : Int) : State :=
  (((s.setReg rSEQ_ZOFS (wrapTo 18 (max (-131072) (min 131071 off)))).setFld SEQ_ZSTAT_HOLD 0).setFld SEQ_ZSTAT_AGE 0).modZone
    (fun z => { z with age := 0, rate := sextOf 18 s.draw.toNat }) |>.drew

/-- A step of zone time to `z`, before its record; it judges no descriptor yet. -/
def State.ztStepped (u : State) (z : Nat) : State :=
  ((((u.setZt (z * 64 + u.zt % 64)).raise SEQ_FLAG_STEP).count SEQ_ZSTAT_STEPCNT).setFld SEQ_ZSTAT_LOCK 0).modZone
    (fun z => { z with inN := 0, outN := 0, slew := 0 })

/-- The waiting descriptors judged again against the state's zone time, and the record of the step. -/
def State.ztRejudged (u : State) : State := (u.setDescs (u.descs.map u.stepDesc)).record 6 4 0

theorem State.passed_congr {s t : State} (h : s.zt = t.zt) (d : Desc) : s.passed d = t.passed d := by
  have hz : s.ztDl = t.ztDl := by simp only [State.ztDl, State.ztNs, h]
  rw [State.passed, hz, State.passed]

theorem State.stepDesc_congr {s t : State} (h : s.zt = t.zt) : s.stepDesc = t.stepDesc := by
  funext d
  simp only [State.stepDesc, State.passed_congr h]

theorem State.zt_setFld (s : State) (f : FRef) (v : Nat) : (s.setFld f v).zt = s.zt := s.zt_setReg _ _

theorem State.descs_setFld (s : State) (f : FRef) (v : Nat) : (s.setFld f v).descs = s.descs := s.descs_setReg _ _

theorem State.zt_ztStepped (u : State) (z : Nat) : (u.ztStepped z).zt = (u.setZt (z * 64 + u.zt % 64)).zt := by
  rw [State.ztStepped, State.zt_modZone, State.zt_setFld, State.count, State.countBy, State.zt_setFld, State.raise, State.zt_setFld]

theorem State.descs_ztStepped (u : State) (z : Nat) : (u.ztStepped z).descs = u.descs := by
  rw [State.ztStepped, State.descs_modZone, State.descs_setFld, State.count, State.countBy, State.descs_setFld, State.raise,
    State.descs_setFld, State.descs_setZt]

theorem State.ztRejudged_ztStepped (u : State) (z : Nat) : (u.ztStepped z).ztRejudged
    = ((u.ztStepped z).setDescs (u.descs.map (u.setZt (z * 64 + u.zt % 64)).stepDesc)).record 6 4 0 := by
  rw [State.ztRejudged, State.stepDesc_congr (u.zt_ztStepped z), u.descs_ztStepped z]

/-- A sample within the step threshold: the counts of samples inside and outside the lock's bounds, the slew, and LOCK. -/
def State.ztTrack (u : State) (i o : Nat) (off : Int) : State :=
  (u.modZone (fun z => { z with inN := i, outN := o, slew := off })).when (decide (i = 16)) (fun s => s.setFld SEQ_ZSTAT_LOCK 1)
    |>.when (decide (o = 4)) (fun s => s.setFld SEQ_ZSTAT_LOCK 0)

theorem exec_ztSample {s : State} (ha : s.domOn .act = true) (hz : s.domOn .zsw = true) (z : BitVec 64) {off : Int}
    (ho : (z - BitVec.ofNat 64 s.ztNs).toInt = off) :
    exec (.ztSample z) s = .next (if (s.ztSampled off).stepThr < off.natAbs then ((s.ztSampled off).ztStepped z.toNat).ztRejudged
      else (s.ztSampled off).ztTrack (if off.natAbs ≤ 20 then satTo 16 ((s.ztSampled off).zone.inN + 1) else 0)
        (if 40 < off.natAbs then satTo 4 ((s.ztSampled off).zone.outN + 1) else 0) off) := by
  subst ho
  refine exec_of_act ha rfl ?_
  rw [if_neg (by simp [hz]), sextOf_sub_eq_toInt z s.ztNs_lt]
  rfl

theorem exec_ztSample_of_step {s : State} (ha : s.domOn .act = true) (hz : s.domOn .zsw = true) {z : BitVec 64} {off : Int}
    (ho : (z - BitVec.ofNat 64 s.ztNs).toInt = off) (h : (s.ztSampled off).stepThr < off.natAbs) :
    exec (.ztSample z) s = .next (((s.ztSampled off).ztStepped z.toNat).ztRejudged) := by
  rw [exec_ztSample ha hz z ho, if_pos h]

/-- A sample within 40 ns and the step threshold ends no lock. -/
theorem exec_ztSample_of_near {s : State} (ha : s.domOn .act = true) (hz : s.domOn .zsw = true) {z : BitVec 64} {off : Int}
    (ho : (z - BitVec.ofNat 64 s.ztNs).toInt = off) (h : off.natAbs ≤ (s.ztSampled off).stepThr) (hn : off.natAbs ≤ 40) :
    exec (.ztSample z) s
      = .next ((s.ztSampled off).ztTrack (if off.natAbs ≤ 20 then satTo 16 ((s.ztSampled off).zone.inN + 1) else 0) 0 off) := by
  rw [exec_ztSample ha hz z ho, if_neg (Nat.not_lt.mpr h), if_neg (Nat.not_lt.mpr hn)]

/-- A sample within 20 ns and the step threshold counts towards the lock. -/
theorem exec_ztSample_of_close {s : State} (ha : s.domOn .act = true) (hz : s.domOn .zsw = true) {z : BitVec 64} {off : Int}
    (ho : (z - BitVec.ofNat 64 s.ztNs).toInt = off) (h : off.natAbs ≤ (s.ztSampled off).stepThr) (hn : off.natAbs ≤ 20) :
    exec (.ztSample z) s = .next ((s.ztSampled off).ztTrack (satTo 16 ((s.ztSampled off).zone.inN + 1)) 0 off) := by
  rw [exec_ztSample_of_near ha hz ho h (by omega), if_pos hn]

theorem State.ztTrack_of_short {i : Nat} (h : i ≠ 16) (u : State) (off : Int) :
    u.ztTrack i 0 off = u.modZone (fun z => { z with inN := i, outN := 0, slew := off }) := by
  simp [State.ztTrack, State.when, h]

theorem State.ztTrack_of_locked (u : State) (off : Int) :
    u.ztTrack 16 0 off = (u.modZone (fun z => { z with inN := 16, outN := 0, slew := off })).setFld SEQ_ZSTAT_LOCK 1 := by
  simp [State.ztTrack, State.when]

/-- Holdover begins: no lock, and nothing counted towards one. -/
def State.ztHeld (s : State) : State :=
  (((s.setFld SEQ_ZSTAT_HOLD 1).setFld SEQ_ZSTAT_LOCK 0).raise SEQ_FLAG_HOLD).modZone (fun z => { z with inN := 0, outN := 0, slew := 0 })

theorem State.timedWaits_ztHeld (s : State) : s.ztHeld.timedWaits = s.timedWaits := by
  rw [State.timedWaits, State.ztHeld, State.descs_modZone, State.raise, State.descs_setFld, State.descs_setFld, State.descs_setFld,
    State.timedWaits]

theorem exec_ztHoldover {s : State} (ha : s.domOn .act = true) (h : s.on SEQ_ZSTAT_HOLD = false) :
    exec .ztHoldover s = .next (s.ztHeld.when s.ztHeld.timedWaits (fun s => s.record 6 5 0)) := by
  rw [s.timedWaits_ztHeld]
  exact exec_of_act ha rfl (if_neg (Bool.eq_false_iff.mp h))

theorem exec_ztHoldover_of_held {s : State} (ha : s.domOn .act = true) (h : s.on SEQ_ZSTAT_HOLD = true) :
    exec .ztHoldover s = .next s := exec_of_act ha rfl (if_pos h)

/-! ### The statement on waits, frames, the memory and zone time -/

/-- Settles O30: each command by its equation for the case, ACT running. -/
theorem sequencerTime : Obligations.SequencerTime := by
  unfold Obligations.SequencerTime
  intro s n g c v z q ha t ends
  refine ⟨?time, ?frames, ?event, ?timeout, ?suspended, ?boundary, ?noBoundary, ?channel, ?motor, ?sink, ?valve, ?resume, ?slotStopped,
    ?slotBusy, ?library, ?libraryLocked, ?read, ?sample, ?holdover, ?held⟩
  case time => exact exec_threadWaitEnd_of_time ha
  case frames => exact exec_threadWaitEnd_of_frames ha
  case event => exact exec_threadWaitEnd_of_event ha
  case timeout => exact exec_threadWaitEnd_of_timeout ha
  case suspended => exact exec_threadWaitEnd_of_suspended ha
  case boundary => exact exec_frameBoundary_of_running ha
  case noBoundary => exact exec_frameBoundary_of_stopped ha
  case channel => exact exec_pwmPeriodStart_of_channel ha
  case motor => exact exec_pwmPeriodStart_of_motor ha
  case sink => exact exec_pwmPeriodStart_of_sink ha
  case valve => exact exec_pwmPeriodStart_of_valve ha
  case resume => exact fun _ => exec_seqResume ha c g
  case slotStopped =>
    exact fun hs ht => by rw [exec_seqMdataWrite ha, State.mdataStore_of_slot hs, if_pos ht]
  case slotBusy =>
    exact fun hs ht => by rw [exec_seqMdataWrite ha, State.mdataStore_of_slot hs, if_neg (Bool.eq_false_iff.mp ht)]
  case library =>
    exact fun hl hk => by rw [exec_seqMdataWrite ha, State.mdataStore_of_library hl, if_neg (Bool.eq_false_iff.mp hk)]
  case libraryLocked =>
    exact fun hl hk => by rw [exec_seqMdataWrite ha, State.mdataStore_of_library hl, if_pos hk]
  case read => exact exec_seqMdataRead ha c
  case sample =>
    intro hz off u
    refine ⟨?steps, ?between, ?counted, ?locks⟩
    case steps =>
      exact fun h => (exec_ztSample_of_step ha hz rfl h).trans (congrArg Host.Outcome.next (u.ztRejudged_ztStepped z.toNat))
    case between =>
      intro h20 hs h40
      have hx := exec_ztSample_of_near ha hz rfl hs h40
      rw [if_neg (Nat.not_le.mpr h20)] at hx
      exact hx.trans (congrArg Host.Outcome.next (State.ztTrack_of_short (by decide) u off))
    case counted =>
      intro h20 hs hi
      have hx := exec_ztSample_of_close ha hz rfl hs h20
      have hc : satTo 16 (u.zone.inN + 1) = u.zone.inN + 1 := if_pos (by omega)
      exact hx.trans (congrArg Host.Outcome.next ((congrArg (u.ztTrack · 0 off) hc).trans (State.ztTrack_of_short (by omega) u off)))
    case locks =>
      intro h20 hs hi
      have hx := exec_ztSample_of_close ha hz rfl hs h20
      have hc : satTo 16 (u.zone.inN + 1) = 16 := by rw [hi]; rfl
      exact hx.trans (congrArg Host.Outcome.next ((congrArg (u.ztTrack · 0 off) hc).trans (u.ztTrack_of_locked off)))
  case holdover =>
    intro h u
    have hx := exec_ztHoldover ha h
    exact ⟨fun ht => hx.trans (congrArg Host.Outcome.next (if_neg (Bool.eq_false_iff.mp ht))),
      fun ht => hx.trans (congrArg Host.Outcome.next (if_pos ht))⟩
  case held => exact exec_ztHoldover_of_held ha

end Sys2Proof.Machine
end

section
/-! PROOFS. The statements on high-side channels: their descriptors (R148, R151 to R155) and their events (R134 to R149). -/

namespace Sys2Proof.Machine

/-! ### The action of a descriptor (R72, R148, R151 to R154) -/

theorem State.opcode_of_ready {s : State} {e op r i : Nat} {d : Desc} (h : s.ready e op r i d = true) : d.opcode = op := by
  simp only [State.ready, State.waits, Bool.and_eq_true, decide_eq_true_eq] at h
  obtain ⟨⟨⟨⟨⟨⟨-, -, ho⟩, -⟩, -⟩, -⟩, -⟩, -⟩ := h
  exact ho

/-- A high-side command whose descriptor waits, ACT running and no ready answer kept: the descriptor acts. -/
theorem exec_of_hscReady {c : Instr} {op r i : Nat} {held : Bool} {d : Desc} {s t : State} (ha : s.domOn .act = true)
    (hc : exec c s = .next (inDom .act (fun s => s.actReady 2 op r i (fun d s => s.hscUndo d.target) (fun d s => s.hscAct d held)) s))
    (h : s.ready 2 op r i d = true) (ht : s.hscAct d held = t) : exec c s = .next t :=
  exec_of_act ha hc ((State.actReady_of_ready h _ _).trans ht)

/-- A channel's state below LATCHED is none of those that bar an action. -/
theorem unbarred_of_lt {v : Nat} (h : v < 7) : v ≠ 7 ∧ v ≠ 8 ∧ v ≠ 9 := by omega

section Action
variable {s : State} {d : Desc}

theorem State.hscAct_of_odd (h : s.hscOdd d.target = true) (held : Bool) : s.hscAct d held = s.finish d stBadTarget 0 := if_pos h

theorem State.hscAct_of_fenced (he : s.hscOdd d.target = false) (h : s.hst d.target = 8) (held : Bool) :
    s.hscAct d held = s.finish d stFenced 0 :=
  (if_neg (Bool.eq_false_iff.mp he)).trans (if_pos h)

/-- A follower's channel in MIRROR refuses all but DIAG. -/
theorem State.hscAct_of_mirror (he : s.hscOdd d.target = false) (h : s.hst d.target = 9) (ho : d.opcode ≠ 4) (held : Bool) :
    s.hscAct d held = s.finish d stDenied 1 := by
  have h8 : s.hst d.target ≠ 8 := by omega
  exact (if_neg (Bool.eq_false_iff.mp he)).trans ((if_neg h8).trans (if_pos ⟨h, ho⟩))

variable (he : s.hscOdd d.target = false)
include he

theorem State.hscAct_of_set_latched (ho : d.opcode = 1) (h : s.hst d.target = 7) (held : Bool) :
    s.hscAct d held = (s.entryScrub d.target 0).finish d 0o24 0 := by
  simp [State.hscAct, he, h, ho]

/-- A SET that no state of the channel bars starts the program of entry 0 where there is one, or has the built-in action. -/
theorem State.hscAct_of_set (ho : d.opcode = 1) (h : s.hst d.target < 7) (held : Bool) :
    s.hscAct d held
      = if (s.entryScrub d.target 0).entryValid d.target 0 = true then
          ((s.entryScrub d.target 0).hscOpenNew d.target d).launch d.target 0 d.w2.toNat d.w3.toNat d.w4.toNat
        else (s.entryScrub d.target 0).hscSet d.target d held := by
  simp [State.hscAct, he, ho, unbarred_of_lt h]

theorem State.hscAct_of_off (ho : d.opcode = 2) (h : s.hst d.target < 7) (held : Bool) :
    s.hscAct d held = (((s.hscSupersede d.target).stopThread d.target).hscApply d.target 0 held).finishDone d 0 := by
  simp [State.hscAct, he, ho, unbarred_of_lt h]

theorem State.hscAct_of_off_latched (ho : d.opcode = 2) (h : s.hst d.target = 7) (held : Bool) :
    s.hscAct d held = ((s.hscSupersede d.target).stopThread d.target).finishDone d 0 := by
  simp [State.hscAct, he, h, ho]

theorem State.hscAct_of_run (ho : d.opcode = 3) (h : s.hst d.target < 7) (held : Bool) :
    s.hscAct d held
      = if (s.entryScrub d.target (d.flags % 8)).entryValid d.target (d.flags % 8) = true then
          ((s.entryScrub d.target (d.flags % 8)).hscOpenNew d.target d).launch d.target (d.flags % 8) d.w2.toNat d.w3.toNat d.w4.toNat
        else (s.entryScrub d.target (d.flags % 8)).finish d 0o31 0 := by
  cases hv : (s.entryScrub d.target (d.flags % 8)).entryValid d.target (d.flags % 8) <;>
    simp [State.hscAct, he, ho, hv, unbarred_of_lt h]

theorem State.hscAct_of_diag (ho : d.opcode = 4) (h8 : s.hst d.target ≠ 8) (held : Bool) :
    s.hscAct d held
      = if s.hst d.target = 0 ∨ s.hst d.target = 2 ∨ s.hst d.target = 9 then
          (s.startDesc d).when (!s.on (HSC_CFG_OLON d.target)) (fun s => s.modHch d.target (fun c => { c with olLow := 0, olHigh := 0 }))
        else s.finish d stBadTarget 1 := by
  simp [State.hscAct, he, ho, h8]

/-- A CLEAR without FLAGS bit 0 outside LATCHED restores the short budget, and reports the latches that remain. -/
theorem State.hscAct_of_clear (ho : d.opcode = 5) (h : s.hst d.target < 7) (hf : bitAt d.flags 0 = false) (held : Bool) {u : State}
    (hu : s.setFld (HSC_STAT_SCNT d.target) 2 = u) :
    s.hscAct d held
      = if u.hscLat d.target + 4 * b2n (u.wireTrip d.target) ≠ 0 then u.finish d 0o32 (u.hscLat d.target + 4 * b2n (u.wireTrip d.target))
        else u.finishDone d 0 := by
  subst hu
  simp [State.hscAct, State.when, he, ho, hf, unbarred_of_lt h]

theorem State.hscAct_of_clear_latched (ho : d.opcode = 5) (h : s.hst d.target = 7) (hf : bitAt d.flags 0 = false) (held : Bool) {u : State}
    (hu : s.setFld (HSC_STAT_SCNT d.target) 2 = u) (hl : u.hscLat d.target = 0) (hw : u.wireTrip d.target = false) :
    s.hscAct d held = ((u.setFld (HSC_STAT_LCAUSE d.target) 0).hscToOff d.target).finishDone d 0 := by
  subst hu
  simp [State.hscAct, State.when, he, ho, hf, h, hl, hw, b2n]

end Action

/-! ### The built-in action of SET (R151) -/

section BuiltIn
variable {d : Desc} (s : State) (n : Nat) (held : Bool)

theorem State.hscSet_of_zero (hr : bitsOf d.w3.toNat 12 0 = 0) (hv : d.w2 = 0) :
    s.hscSet n d held = ((((s.hscOpenNew n d).stopThread n).hscApply n 0 held).hscFinish n stDone 0) :=
  (if_neg (not_not_intro hr)).trans (if_pos (by rw [hv]; rfl))

theorem State.hscSet_of_value (hr : bitsOf d.w3.toNat 12 0 = 0) (hv : d.w2 ≠ 0) :
    s.hscSet n d held = (((s.hscOpenNew n d).stopThread n).modHch n (fun c => { c with want := true })).hscApply n d.w2.toNat held :=
  (if_neg (not_not_intro hr)).trans (if_neg (fun h => hv (BitVec.eq_of_toNat_eq h)))

theorem State.hscSet_of_ramp (hr : bitsOf d.w3.toNat 12 0 ≠ 0) {u : State} (hu : (s.hscOpenNew n d).stopThread n = u) :
    s.hscSet n d held = u.modHch n (fun c => { c with
      rampFrom := u.oval n, rampTo := d.w2.toNat, rampN := bitsOf d.w3.toNat 12 0, rampLeft := bitsOf d.w3.toNat 12 0,
      want := decide (d.w2 ≠ 0) }) := by
  have hw : decide (d.w2.toNat ≠ 0) = decide (d.w2 ≠ 0) :=
    decide_eq_decide.mpr (not_congr ⟨fun h => BitVec.eq_of_toNat_eq h, fun h => by rw [h]; rfl⟩)
  subst hu
  rw [← hw]
  exact if_pos hr

end BuiltIn

/-! ### The statement on descriptors -/

/-- Settles O27: each command acts by the equation of its opcode for the channel's state. -/
theorem highSideDescriptors : Obligations.HighSideDescriptors := by
  unfold Obligations.HighSideDescriptors
  intro s r i held d ha n e opened
  refine ⟨?odd, ?set, ?off, ?run, ?diag, ?clear⟩
  case odd => exact fun hodd hr => exec_of_hscReady ha rfl hr (State.hscAct_of_odd hodd held)
  case set =>
    intro hr he
    have ho := State.opcode_of_ready hr
    have hne : d.opcode ≠ 4 := by omega
    have acts {t : State} : s.hscAct d held = t → exec (.hscSet r i held) s = .next t := exec_of_hscReady ha rfl hr
    refine ⟨?latched, ?fenced, ?mirror, ?program, ?step, ?ramp⟩
    case latched => exact fun h => acts (State.hscAct_of_set_latched he ho h held)
    case fenced => exact fun h => acts (State.hscAct_of_fenced he h held)
    case mirror => exact fun h => acts (State.hscAct_of_mirror he h hne held)
    case program => exact fun h hv => acts ((State.hscAct_of_set he ho h held).trans (if_pos hv))
    case step =>
      intro h hv hn
      have built := (State.hscAct_of_set he ho h held).trans (if_neg (Bool.eq_false_iff.mp hv))
      exact ⟨fun hz => acts (built.trans ((e 0).hscSet_of_zero n held hn hz)),
        fun hz => acts (built.trans ((e 0).hscSet_of_value n held hn hz))⟩
    case ramp =>
      intro h hv hn u
      have built := (State.hscAct_of_set he ho h held).trans (if_neg (Bool.eq_false_iff.mp hv))
      exact acts (built.trans ((e 0).hscSet_of_ramp n held hn rfl))
  case off =>
    intro hr he
    have ho := State.opcode_of_ready hr
    exact ⟨fun h => exec_of_hscReady ha rfl hr (State.hscAct_of_off he ho h false),
      fun h => exec_of_hscReady ha rfl hr (State.hscAct_of_off_latched he ho h false)⟩
  case run =>
    intro hr he h k
    have act := State.hscAct_of_run he (State.opcode_of_ready hr) h false
    exact ⟨fun hv => exec_of_hscReady ha rfl hr (act.trans (if_pos hv)),
      fun hv => exec_of_hscReady ha rfl hr (act.trans (if_neg (Bool.eq_false_iff.mp hv)))⟩
  case diag =>
    intro hr he
    have act (h8 : s.hst n ≠ 8) := State.hscAct_of_diag he (State.opcode_of_ready hr) h8 false
    refine ⟨fun h => ?starts, fun h => ?barred⟩
    case starts =>
      have hs : s.hst n = 0 ∨ s.hst n = 2 ∨ s.hst n = 9 := by simpa using h
      have h8 : s.hst n ≠ 8 := by omega
      have started := (act h8).trans (if_pos hs)
      exact ⟨fun hon => exec_of_hscReady ha rfl hr (started.trans (by rw [hon]; rfl)),
        fun hon => exec_of_hscReady ha rfl hr (started.trans (by rw [hon]; rfl))⟩
    case barred =>
      simp only [List.mem_cons, List.not_mem_nil, or_false] at h
      have h8 : s.hst n ≠ 8 := by omega
      have hs : ¬ (s.hst n = 0 ∨ s.hst n = 2 ∨ s.hst n = 9) := by omega
      exact exec_of_hscReady ha rfl hr ((act h8).trans (if_neg hs))
  case clear =>
    intro hr he hf u
    have ho := State.opcode_of_ready hr
    refine ⟨fun h hl hw => ?done, fun h hn => ?remains, fun h hl hw => ?released⟩
    case done =>
      refine exec_of_hscReady ha rfl hr ((State.hscAct_of_clear he ho h hf false rfl).trans (if_neg ?_))
      rw [not_not, hl, hw]
      rfl
    case remains => exact exec_of_hscReady ha rfl hr ((State.hscAct_of_clear he ho h hf false rfl).trans (if_pos hn))
    case released => exact exec_of_hscReady ha rfl hr (State.hscAct_of_clear_latched he ho h hf false rfl hl hw)

end Sys2Proof.Machine
end

section
/-! PROOFS. The statement on the events of high-side channels (R134 to R149, R153). -/

namespace Sys2Proof.Machine

/-! ### What the operations on a channel leave (R139, R147, R148) -/

theorem State.hscOf_lt (s : State) {n : Nat} (h : n < 64) : s.hscOf n < 64 := by
  unfold State.hscOf
  split <;> omega

/-- A change of a channel's state writes its status, the latch summary and the trace port alone. -/
theorem State.reg_setHst_of_ne (s : State) (n w : Nat) {k : Nat} (hk : k < rFLT_GFLAG) (hs : k ≠ rHSC_STAT n)
    (hl : k ≠ rHSC_LSUM (n / 16)) : (s.setHst n w).reg k = s.reg k := by
  unfold State.setHst
  extract_lets v
  split
  · rfl
  · have hk' : k < 0xF700 := hk
    rw [State.reg_traceB_of_ne _ _ _ _ _ _ (by simp only [rFLT_SPSTAT]; omega) (by simp only [rFLT_SPSHD]; omega) hk.ne,
      State.setBitF, State.reg_setFld_of_ne _ _ _ _ hl, State.reg_setFld_of_ne _ _ _ _ hs]

theorem State.reg_hscConsume_of_ne (s : State) (n : Nat) {k : Nat} (hs : k ≠ rHSC_STAT n) : (s.hscConsume n).reg k = s.reg k := by
  unfold State.hscConsume
  split <;> rw [State.modHch, State.reg_setHch, State.reg_setFld_of_ne _ _ _ _ hs]

/-- A restart takes up the ILSEL that the committed registers hold: what it does before leaves them. -/
theorem State.hscRestart_eq (s : State) {n : Nat} (hn : n < 64) (held : Bool) {u : State} (hu : ((s.hscConsume n).setHst n 2).hscEvt n 1 = u) :
    s.hscRestart n held
      = (u.modHch n (fun c => { c with pend := false, retryOver := false, held := held, ilsel := u.fld (HSC_PROT_ILSEL n) })).hscTryDone n := by
  have hs : rHSC_PROT n ≠ rHSC_STAT n := by simp only [rHSC_PROT, rHSC_STAT]; omega
  have he : rHSC_PROT n ≠ rHSC_EVT n := by simp only [rHSC_PROT, rHSC_EVT]; omega
  have hl : rHSC_PROT n ≠ rHSC_LSUM (n / 16) := by simp only [rHSC_PROT, rHSC_LSUM]; omega
  have hk : rHSC_PROT n < rFLT_GFLAG := by simp only [rHSC_PROT, rFLT_GFLAG]; omega
  have hr : u.reg (rHSC_PROT n) = s.reg (rHSC_PROT n) := by
    rw [← hu, State.hscEvt, State.reg_setReg_of_ne _ _ he, State.reg_setHst_of_ne _ _ _ hk hs hl, State.reg_hscConsume_of_ne _ _ hs]
  have hf : u.fld (HSC_PROT_ILSEL n) = s.fld (HSC_PROT_ILSEL n) := congrArg (bitsOf · 1 0) hr
  rw [hf, ← hu]
  rfl

/-! ### Protection events (R136 to R141) -/

section Protection
variable {s : State} {n : Nat}

/-- A short event in ON or LIMIT with no short budget latches the channel. -/
theorem State.hscShort_of_spent (h : s.hst n = 2 ∨ s.hst n = 3) (hc : s.fld (HSC_STAT_SCNT n) = 0) :
    s.hscShort n
      = (((((s.count (HSC_CNT_SHORTS n)).hscEvt n 7).protEvent n).hscLatch n 1 0o20).record 4 1 n).record 4 3 n :=
  (if_pos h).trans (if_pos hc)

/-- A short event in ON or LIMIT with a short budget left: RETRY, a restart pending. -/
theorem State.hscShort_of_budget (h : s.hst n = 2 ∨ s.hst n = 3) (hc : s.fld (HSC_STAT_SCNT n) ≠ 0) :
    s.hscShort n
      = (((((s.count (HSC_CNT_SHORTS n)).hscEvt n 7).protEvent n).setHst n 4).modHch n (fun c =>
          { c with pend := true, shortBudget := true, retryOver := false })).record 4 1 n :=
  (if_pos h).trans (if_neg hc)

variable {u : State} (hu : ((s.count (HSC_CNT_OVLS n)).hscEvt n 6).protEvent n = u)
include hu

/-- An overload event in the warm-up window with inrush budget left: RETRY, a restart pending. -/
theorem State.hscOverload_of_inrush (h : s.hst n = 3) (hw : u.on (HSC_STAT_WARM n) = true) (hr : u.on (HSC_STAT_RCNT n) = true) :
    s.hscOverload n
      = ((u.setHst n 4).modHch n (fun c => { c with pend := true, shortBudget := false, retryOver := false })).record 4 2 n := by
  subst hu
  exact (if_pos h).trans (if_pos (by rw [hw, hr]; rfl))

/-- An overload event past the warm-up window latches the channel. -/
theorem State.hscOverload_of_cold (h : s.hst n = 3) (hw : u.on (HSC_STAT_WARM n) = false) :
    s.hscOverload n = ((u.hscLatch n 2 0o21).record 4 2 n).record 4 3 n := by
  subst hu
  exact (if_pos h).trans (if_neg (by rw [hw]; exact Bool.false_ne_true))

end Protection

/-- A pending restart with budget left, before its tRETRY is over, waits in RETRY. -/
theorem State.hscResume_of_waiting {s : State} {n : Nat} (ht : (s.hch n).retryOver = false) (hr : s.on (HSC_STAT_RCNT n) = true)
    (hs : s.on (HSC_STAT_SCNT n) = true) (held : Bool) : s.hscResume n held = s.setHst n 4 := by
  simp [State.hscResume, ht, hr, hs]

/-! ### Measurements (R133, R134, R142) -/

/-- A valid measurement taken: HSC_IMEAS, its VALID and its age. -/
def State.hscMeasured (s : State) (n i : Nat) : State :=
  ((s.setReg (rHSC_IMEAS n) i).raise (HSC_STAT_IVAL n)).modHch n (fun c => { c with age := 0, ageT := 0, pulse := false })

theorem State.hst_hscMeasured (s : State) (n i : Nat) : (s.hscMeasured n i).hst n = s.hst n := by
  have hgood : (HSC_STAT_IVAL n).Good := ⟨le_rfl, by simp [HSC_STAT_IVAL]⟩
  have hapart : (HSC_STAT_STATE n).Apart (HSC_STAT_IVAL n) := .inr (.inr (by simp [HSC_STAT_IVAL, HSC_STAT_STATE]))
  have hreg : (HSC_STAT_STATE n).addr ≠ rHSC_IMEAS n := by simp only [HSC_STAT_STATE, rHSC_STAT, rHSC_IMEAS]; omega
  rw [State.hst, State.hscMeasured, State.modHch, State.fld_setHch, State.raise, State.fld_setFld_of_apart _ _ _ _ hgood hapart,
    State.fld_setReg_of_ne _ _ _ _ hreg, State.hst]

theorem State.on_OLON_hscMeasured (s : State) (n i : Nat) : (s.hscMeasured n i).on (HSC_CFG_OLON n) = s.on (HSC_CFG_OLON n) := by
  have hs : rHSC_CFG n ≠ rHSC_STAT n := by simp only [rHSC_CFG, rHSC_STAT]; omega
  have hi : rHSC_CFG n ≠ rHSC_IMEAS n := by simp only [rHSC_CFG, rHSC_IMEAS]; omega
  have hr : (s.hscMeasured n i).reg (rHSC_CFG n) = s.reg (rHSC_CFG n) := (State.reg_setReg_of_ne _ _ hs).trans (State.reg_setReg_of_ne _ _ hi)
  exact congrArg (fun v => decide (bitsOf v 11 11 ≠ 0)) hr

theorem State.hscDiag_hscMeasured (s : State) (n i : Nat) : (s.hscMeasured n i).hscDiag n = s.hscDiag n := rfl

theorem State.hscMeasure_of_idle {s : State} {n : Nat} (h : s.hscOdd n = true ∨ s.hscMeasures n = false) (i : Nat) : s.hscMeasure n i = s :=
  if_pos (by simpa using h)

section Measure
variable {s : State} {n : Nat} (ho : s.hscOdd n = false) (hm : s.hscMeasures n = true)
include ho hm

/-- A measurement outside LIMIT, with no open-load detection to serve. -/
theorem State.hscMeasure_of_unlimited (h : s.hst n ≠ 3) (hl : s.on (HSC_CFG_OLON n) = false) (hd : s.hscDiag n = none) (i : Nat) :
    s.hscMeasure n i = (s.hscMeasured n i).senseEvent n := by
  have hst : (s.hscMeasured n i).hst n ≠ 3 := by rwa [s.hst_hscMeasured]
  have hol : (s.hscMeasured n i).on (HSC_CFG_OLON n) = false := by rwa [s.on_OLON_hscMeasured]
  have hdg : (s.hscMeasured n i).hscDiag n = none := hd
  unfold State.hscMeasured at hst hol hdg ⊢
  simp [State.hscMeasure, ho, hm, h, State.when_false, hst, hol, hdg]

/-- A measurement in LIMIT below the active limit ends it, with no open-load detection to serve. -/
theorem State.hscMeasure_of_below (h : s.hst n = 3) (hf : s.on (HSC_CFG_FINE n) = false) {i : Nat} (hi : i * s.hscLsb n < s.hscLimit n)
    (hl : ((s.hscMeasured n i).hscUnlimit n).on (HSC_CFG_OLON n) = false) (hd : ((s.hscMeasured n i).hscUnlimit n).hscDiag n = none) :
    s.hscMeasure n i = ((s.hscMeasured n i).hscUnlimit n).senseEvent n := by
  have hst : (s.hscMeasured n i).hst n = 3 := by rwa [s.hst_hscMeasured]
  unfold State.hscMeasured at hst hl hd ⊢
  simp [State.hscMeasure, ho, hm, hf, hi, State.when_false, State.when_true, hst, hl, hd]

end Measure

/-! ### Open load (R142 to R144, R153) -/

/-- A result that no DIAG waits for, of a detection that runs for itself. -/
theorem State.hscResult_of_no_diag {s : State} {n : Nat} (h : s.hscDiag n = none) (v : Nat) (onState : Bool) :
    s.hscResult n v true onState = s.setOl n v := by
  simp [State.hscResult, State.hscTakes, h, State.when]

theorem State.hscOffCheck_of_enabled {s : State} {n : Nat} (hd : s.hscDiag n = none) (ho : s.hscOdd n = false)
    (ht : s.hscOffTimes n = true) (he : s.on (HSC_CFG_OLOFF n) = true) (hb : s.fld (HSC_CFG_BRACE n) ≠ 1)
    (hm : s.hst n = 9 → s.mirrorIdle n = true) (high still : Bool) :
    s.hscOffCheck n high still
      = (s.modHch n (fun c => { c with offAge := 0 })).setOl n (if high then (if still then 4 else 3) else 1) := by
  have hd' : (s.modHch n (fun c => { c with offAge := 0 })).hscDiag n = none := hd
  have hi : (decide (s.hst n = 9) && !s.mirrorIdle n) = false := by
    by_cases h9 : s.hst n = 9
    · simp [hm h9]
    · simp [h9]
  rw [← State.hscResult_of_no_diag hd' _ false]
  cases high <;> simp [State.hscOffCheck, ho, ht, he, hb, hi, State.when_true]

/-! ### The statement on events -/

/-- Settles O28: each event by the equation of its case for the channel's state, ACT running. -/
theorem highSideEvents : Obligations.HighSideEvents := by
  unfold Obligations.HighSideEvents
  intro s n held high still i d ha m
  have hm : m < 64 := s.hscOf_lt n.isLt
  have pair {v a b : Nat} (h : v ∈ [a, b]) : v = a ∨ v = b := by simpa using h
  refine ⟨?limit, ?shortMap, ?short, ?overload, ?restart, ?retryOver, ?undervoltage, ?uvRelease, ?warmUp, ?scntRestore, ?scntKept,
    ?measured, ?measuredBelow, ?unmeasured, ?offState, ?unknown, ?unknownDiag, ?diagnosticPulse, ?preheatPulse⟩
  case limit => exact fun h => exec_of_act ha rfl (if_pos h)
  case shortMap => exact fun h => congrArg Host.Outcome.next (if_pos h)
  case short =>
    intro h hd u
    have act : exec (.hsShortEvent n) s = .next (inDom .act (fun s => s.hscShort (s.hscOf n)) s) :=
      congrArg Host.Outcome.next (if_neg (Bool.eq_false_iff.mp hd))
    exact ⟨fun hc => exec_of_act ha act (State.hscShort_of_spent (pair h) hc),
      fun hc => exec_of_act ha act (State.hscShort_of_budget (pair h) hc)⟩
  case overload =>
    exact fun h => ⟨fun hw hr => exec_of_act ha rfl (State.hscOverload_of_inrush rfl h hw hr),
      fun hw => exec_of_act ha rfl (State.hscOverload_of_cold rfl h hw)⟩
  case restart => exact fun h => exec_of_act ha rfl ((if_pos h).trans (s.hscRestart_eq hm held rfl))
  case retryOver =>
    intro h
    have h4 : s.hst m ≠ 4 := by omega
    exact exec_of_act ha rfl ((if_neg h4).trans (if_pos h))
  case undervoltage =>
    intro u
    have on : u.hst n ∈ [2, 3, 4] ↔ 2 ≤ u.hst n ∧ u.hst n ≤ 4 := by
      simp only [List.mem_cons, List.not_mem_nil, or_false]
      omega
    exact ⟨fun h => exec_of_act ha rfl (if_pos (on.mp h)), fun h => exec_of_act ha rfl (if_neg (mt on.mpr h))⟩
  case uvRelease =>
    intro u
    refine ⟨fun h => exec_of_act ha rfl (if_neg h), fun h hp ht hr hs => ?waits, fun h hp hd => ?off, fun h hp hd => ?on⟩
    case waits => exact exec_of_act ha rfl ((if_pos h).trans ((if_pos hp).trans (State.hscResume_of_waiting ht hr hs held)))
    case off => exact exec_of_act ha rfl ((if_pos h).trans ((if_neg (Bool.eq_false_iff.mp hp)).trans (if_pos hd)))
    case on => exact exec_of_act ha rfl ((if_pos h).trans ((if_neg (Bool.eq_false_iff.mp hp)).trans (if_neg hd)))
  case warmUp => exact exec_of_act ha rfl rfl
  case scntRestore => exact fun h => exec_of_act ha rfl (if_pos (pair h))
  case scntKept => exact fun h => exec_of_act ha rfl (if_neg (by simpa using h))
  case measured => exact fun ho hv h hl hd => exec_of_act ha rfl (State.hscMeasure_of_unlimited ho hv h hl hd i.toNat)
  case measuredBelow => exact fun ho hv h hf hi _ _ hl hd => exec_of_act ha rfl (State.hscMeasure_of_below ho hv h hf hi hl hd)
  case unmeasured => exact fun h => exec_of_act ha rfl (State.hscMeasure_of_idle h i.toNat)
  case offState =>
    exact fun hd ho ht he hb hi => exec_of_act ha rfl (State.hscOffCheck_of_enabled hd ho ht he hb hi high still)
  case unknown =>
    exact fun h hd hon hoff => exec_of_act ha rfl (by rw [hd]; exact if_pos ⟨pair h, by rw [hon]; rfl, by rw [hoff]; rfl⟩)
  case unknownDiag =>
    exact fun hd _ h => exec_of_act ha rfl (by rw [hd]; exact if_neg (fun hs => h (by simpa using hs.1)))
  case diagnosticPulse => exact fun h hl hp hs ht => exec_of_act ha rfl (if_pos ⟨hl, hp, pair h, by rw [hs]; rfl, ht⟩)
  case preheatPulse => exact fun hd h hl hp => exec_of_act ha rfl (by rw [hd]; exact if_pos ⟨h, hl, hp⟩)

end Sys2Proof.Machine
end

section
/-! PROOFS. The statement on temperature latches, sensors, wire models and the dissipation estimate (R163 to R179). -/

namespace Sys2Proof.Machine

/-- A temperature word read with its sign. -/
theorem sextOf_toNat_eq_toInt (t : Word) : sextOf 18 t.toNat = t.toInt := by
  have ht : t.toNat < 2 ^ 18 := t.isLt
  rw [sextOf, BitVec.toInt_eq_toNat_cond, Nat.mod_eq_of_lt ht]
  split <;> split <;> omega

/-! ### Latches (R165, R166) -/

section Latches
variable {s u : State} {o : Fin 124} {t cs : Word} (ha : s.domOn .act = true)
include ha

section Difference
variable (hu : (s.tell (rTHM_CASE (s.caseOf o)) cs).tell (rTHM_TCH o) t = u)
include hu

theorem exec_dtLatch_of_above (hl : u.dtLat o = false) (h : 64 * (u.fld (THM_TCFG_DTL o) : Int) < u.dtOf o) :
    exec (.dtLatch o t cs) s = .next (((((u.raise (THM_TSTAT_DTLAT o)).raise (THM_EVT_DT o)).modThm (fun y =>
      { y with dtRel := nPut y.dtRel o (u.dtRelNow o) })).thermSet o).record 5 1 o) := by
  subst hu
  exact exec_of_act ha rfl ((if_neg (Bool.eq_false_iff.mp hl)).trans (if_pos h))

/-- A difference within the limit sets no latch, and leaves one that is set. -/
theorem exec_dtLatch_of_le (h : u.dtOf o ≤ 64 * (u.fld (THM_TCFG_DTL o) : Int)) : exec (.dtLatch o t cs) s = .next u := by
  subst hu
  exact exec_of_act ha rfl (ite_eq_left_iff.mpr (fun _ => if_neg (not_lt_of_ge h)))

theorem exec_dtRelease_of_le (hl : u.dtLat o = true) (h : u.dtOf o ≤ 64 * (nGet u.thm.dtRel o : Int)) (held : Bool) :
    exec (.dtRelease o t cs held) s = .next ((((u.setFld (THM_TSTAT_DTLAT o) 0).raise (THM_EVT_REL o)).modThm (fun y =>
      { y with dtRel := nPut y.dtRel o 0 })).thermRelease o held) := by
  subst hu
  exact exec_of_act ha rfl (if_pos (by rw [hl, decide_eq_true h]; rfl))

theorem exec_dtRelease_of_clear (hl : u.dtLat o = false) (held : Bool) : exec (.dtRelease o t cs held) s = .next u := by
  subst hu
  exact exec_of_act ha rfl (if_neg (by rw [hl]; exact Bool.false_ne_true))

end Difference

/-- While ACTOSC runs, the latch and the limit judge a junction report. -/
theorem exec_tjLatch_of_unmapped (hm : s.inp.dcMap = false) (hu : s.tell (rTHM_TCH o) t = u) :
    exec (.tjLatch o t) s = .next (if u.tjLat o then u else if 175 * 64 < t.toInt then
      ((((u.raise (THM_TSTAT_TJLAT o)).raise (THM_EVT_TJ o)).modThm (fun y =>
        { y with tjRel := nPut y.tjRel o u.tjRelNow })).thermSet o).record 5 2 o else u) := by
  subst hu
  rw [← sextOf_toNat_eq_toInt]
  exact exec_of_act ha (congrArg Host.Outcome.next (if_neg (Bool.eq_false_iff.mp hm))) rfl

theorem exec_tjRelease_of_le (hu : s.tell (rTHM_TCH o) t = u) (hl : u.tjLat o = true)
    (h : t.toInt ≤ 64 * (nGet u.thm.tjRel o : Int)) (held : Bool) :
    exec (.tjRelease o t held) s = .next ((((u.setFld (THM_TSTAT_TJLAT o) 0).raise (THM_EVT_REL o)).modThm (fun y =>
      { y with tjRel := nPut y.tjRel o 0 })).thermRelease o held) := by
  subst hu
  rw [← sextOf_toNat_eq_toInt] at h
  exact exec_of_act ha rfl (if_pos (by rw [hl, decide_eq_true h]; rfl))

end Latches

/-- While ACTOSC is lost, the stage turns its output off above the junction limit (R314), whether or not ACT runs. -/
theorem exec_tjLatch_of_mapped {s : State} {o : Fin 124} {t : Word} (hm : s.inp.dcMap = true) (h : 175 * 64 < t.toInt) :
    exec (.tjLatch o t) s = .next (s.dcTrip o) := by
  rw [← sextOf_toNat_eq_toInt] at h
  exact congrArg Host.Outcome.next ((if_pos hm).trans (if_pos h))

/-! ### Sensors (R163, R164) -/

/-- Another case reference of the die of reference `k` has failed. -/
def State.siblingRefFailed (s : State) (k : Nat) : Bool :=
  (List.range 4).any (fun j => decide (4 * (k / 4) + j ≠ k) && s.bit THM_CSTAT_FAIL (4 * (k / 4) + j))

theorem State.siblingRefFailed_iff (s : State) (k : Nat) :
    s.siblingRefFailed k = true ↔ ∃ j < 4, 4 * (k / 4) + j ≠ k ∧ s.bit THM_CSTAT_FAIL (4 * (k / 4) + j) = true := by
  simp only [State.siblingRefFailed, List.any_eq_true, List.mem_range, Bool.and_eq_true, decide_eq_true_eq]

section Sensors
variable {s : State} (ha : s.domOn .act = true)
include ha

theorem exec_caseReferenceFail (k : Fin 12) :
    exec (.caseReferenceFail k) s
      = .next (((s.setBitF THM_CSTAT_FAIL k true).raise THM_FLAG_CASEF).recordAt 5 5 k (if s.siblingRefFailed k then 2 else 1)) :=
  exec_of_act ha rfl rfl

theorem exec_diehot (d : Fin 2) (t : Word) :
    exec (.diehot d t) s = .next (if 140 * 64 < t.toInt then ((s.tell (dieReg d) t).raise THM_FLAG_DIEHOT).record 5 6 d
      else s.tell (dieReg d) t) := by
  rw [← sextOf_toNat_eq_toInt]
  exact exec_of_act ha rfl rfl

theorem exec_dieover (d : Fin 2) (t : Word) :
    exec (.dieover d t) s = .next (if 160 * 64 < t.toInt then (s.tell (dieReg d) t).record 5 7 d else s.tell (dieReg d) t) := by
  rw [← sextOf_toNat_eq_toInt]
  exact exec_of_act ha rfl rfl

end Sensors

/-! ### Wire models (R170 to R174) -/

section Wire
variable {s : State} {o : Fin 84} (ha : s.domOn .act = true) (hw : hasWire o = true) (ons : List (Nat × List Word))
include ha hw

/-- A disabled model keeps no rise, the second channel of a pair's like any other. -/
theorem exec_wireModelUpdate_of_disabled (he : s.on (THM_WCFG_WEN o) = false) :
    exec (.wireModelUpdate o ons) s = .next (s.setTheta o 0) :=
  exec_of_act ha rfl ((if_neg (by simp [hw])).trans (ite_eq_left_iff.mpr (fun _ => if_pos (by simp [he]))))

/-- An enabled model, of no second channel of a pair, steps its rise and trips at TWMAX. -/
theorem exec_wireModelUpdate_of_enabled (he : s.on (THM_WCFG_WEN o) = true)
    (hp : 8 ≤ o.val ∨ o.val % 2 = 0 ∨ s.on (HSC_CFG_PAR (o.val - 1)) = false) {th : Nat} {u : State}
    (hth : s.wireStep o (s.meanSq o ons) = th) (hu : s.setTheta o th = u) :
    exec (.wireModelUpdate o ons) s
      = .next (if u.twMax o ≤ u.tamb o + (th : Int) * 64 / 10 ^ 12 ∧ !u.wireTrip o then u.wireTripped o else u) := by
  subst hth hu
  have single : ¬ (o.val < 8 ∧ o.val % 2 = 1 ∧ s.on (HSC_CFG_PAR (o.val - 1)) = true) := by
    rintro ⟨hlt, hodd, hpar⟩
    rcases hp with h | h | h
    · omega
    · omega
    · exact Bool.false_ne_true (h.symm.trans hpar)
  exact exec_of_act ha rfl ((if_neg (by simp [hw])).trans ((if_neg single).trans (if_neg (by simp [he]))))

end Wire

/-! ### The statement on thermal and wire protection -/

/-- Settles O31: each command by its equation for what it reports, against the latch and the limit that judge it. -/
theorem thermalProtection : Obligations.ThermalProtection := by
  unfold Obligations.ThermalProtection
  intro s o w x k dd t cs held ons l ha seen read
  refine ⟨?dtSet, ?dtWithin, ?dtReleased, ?dtClear, ?tjMapped, ?tjSet, ?tjWithin, ?tjReleased, ?channelSensor, ?firstReference,
    ?secondReference, ?dies, ?wireOn, ?wireOff, ?dissipation⟩
  case dtSet => exact exec_dtLatch_of_above ha rfl
  case dtWithin => exact exec_dtLatch_of_le ha rfl
  case dtReleased => exact fun hl h => exec_dtRelease_of_le ha rfl hl h held
  case dtClear => exact fun hl => exec_dtRelease_of_clear ha rfl hl held
  case tjMapped => exact exec_tjLatch_of_mapped
  case tjSet =>
    intro hm hl h
    rw [exec_tjLatch_of_unmapped ha hm rfl, if_neg (Bool.eq_false_iff.mp hl), if_pos h]
  case tjWithin =>
    intro hm h
    rw [exec_tjLatch_of_unmapped ha hm rfl, if_neg (not_lt_of_ge h), ite_self]
  case tjReleased => exact fun hl h => exec_tjRelease_of_le ha rfl hl h held
  case channelSensor => exact exec_of_act ha rfl rfl
  case firstReference =>
    intro h
    have alone : ¬ s.siblingRefFailed k = true := by
      rw [State.siblingRefFailed_iff]
      rintro ⟨j, hj, hne, hf⟩
      exact Bool.false_ne_true ((h j hj hne).symm.trans hf)
    rw [exec_caseReferenceFail ha, if_neg alone]
  case secondReference =>
    intro j hj hne hf
    rw [exec_caseReferenceFail ha, if_pos ((s.siblingRefFailed_iff k).mpr ⟨j, hj, hne, hf⟩)]
  case dies =>
    intro u
    rw [exec_diehot ha, exec_dieover ha]
    exact ⟨fun h => by rw [if_pos h], fun h => by rw [if_neg (not_lt_of_ge h)],
      fun h => by rw [if_pos h], fun h => by rw [if_neg (not_lt_of_ge h)]⟩
  case wireOn =>
    intro hw he hp th u
    rw [exec_wireModelUpdate_of_enabled ha hw ons he hp rfl rfl]
    exact ⟨fun h => by rw [if_neg (fun hc => not_lt_of_ge hc.1 h)], fun h ht => by rw [if_pos ⟨h, by rw [ht]; rfl⟩]⟩
  case wireOff => exact fun hw he => exec_wireModelUpdate_of_disabled ha hw ons he
  case dissipation =>
    intro led st mw u
    have raises : exec (.pestUpdate l) s = .next (u.raiseIf (decide (u.fld THM_PLIM_PLIM < u.fld THM_PEST_PEST)) THM_FLAG_PBUD) :=
      exec_of_act ha rfl rfl
    rw [raises]
    exact ⟨fun h => by rw [decide_eq_false (not_lt_of_ge h)]; rfl, fun h => by rw [decide_eq_true h]; rfl⟩

end Sys2Proof.Machine
end

section
/-! PROOFS. The statement on the descriptors of half-bridges and gate drivers (R196, R201, R202, R206 to R212). -/

namespace Sys2Proof.Machine

/-! ### The action of a descriptor -/

/-- A motor command whose descriptor waits, ACT running and no ready answer kept: the descriptor acts. -/
theorem exec_of_motReady {c : Instr} {op r i : Nat} {d : Desc} {s t : State} (ha : s.domOn .act = true)
    (hc : exec c s = .next (inDom .act (fun s => s.actReady 3 op r i (fun d s => s.motUndo d.target) (fun d s => s.motAct d)) s))
    (h : s.ready 3 op r i d = true) (ht : s.motAct d = t) : exec c s = .next t :=
  exec_of_act ha hc ((State.actReady_of_ready h _ _).trans ht)

/-- The states of a target that bar no descriptor: those below LATCHED but PINCH. -/
def MotFree (v : Nat) : Prop := v < 8 ∧ v ≠ 5

theorem motFree_iff_mem {v : Nat} : MotFree v ↔ v ∈ [0, 1, 2, 3, 4, 6, 7] := by
  simp only [MotFree, List.mem_cons, List.not_mem_nil, or_false]
  omega

theorem motFree_of_mem {v : Nat} (h : v ∈ [1, 2, 3, 4, 6, 7]) : MotFree v ∧ v ≠ 0 := by
  simp only [MotFree, List.mem_cons, List.not_mem_nil, or_false] at h ⊢
  omega

theorem MotFree.not_barred {v : Nat} (h : MotFree v) : v ≠ 5 ∧ v ≠ 8 ∧ v ≠ 9 := by
  unfold MotFree at h
  omega

section Barred
variable {s : State} {d : Desc}

/-- A descriptor waits while its target reverses from a pinch (R202). -/
theorem State.motAct_of_pinch (h : s.mst d.target = 5) : s.motAct d = s := if_pos h

theorem State.motAct_of_fenced (h : s.mst d.target = 9) : s.motAct d = s.finish d stFenced 0 :=
  (if_neg (by omega)).trans (if_pos h)

/-- A latched target refuses all but STOP and CLEAR (R206). -/
theorem State.motAct_of_latched (h : s.mst d.target = 8) (hs : d.opcode ≠ 3) (hc : d.opcode ≠ 6) : s.motAct d = s.finish d 0o30 0 :=
  (if_neg (by omega)).trans ((if_neg (by omega)).trans (if_pos ⟨h, hs, hc⟩))

end Barred

section Action
variable {s : State} {d : Desc} (h : MotFree (s.mst d.target))
include h

section Drive
variable (ho : d.opcode = 1)
include ho

theorem State.motAct_of_drive_refused {x : Nat × Nat} (hr : s.motRefuse d (bitsOf d.w3.toNat 17 16) = some x) :
    s.motAct d = s.finish d x.1 x.2 := by
  simp [State.motAct, ho, h.not_barred, hr]

theorem State.motAct_of_drive (hr : s.motRefuse d (bitsOf d.w3.toNat 17 16) = none) :
    s.motAct d = s.motDrive d (bitsOf d.w3.toNat 17 16) none := by
  simp [State.motAct, ho, h.not_barred, hr]

end Drive

section Goto
variable {p q : Int} {dir : Nat} (ho : d.opcode = 2) (hp : posInt (s.fld (MOT_POS_POS (d.target - 24))) = p)
  (hq : posInt d.w3.toNat = q) (hd : (if p < q then 1 else 2) = dir) (hr : s.motRefuse d dir = none)
include ho hp hq hd hr

/-- A GOTO needs a known position (R208). -/
theorem State.motAct_of_goto_lost (hv : s.on (MOT_GSTAT_POSV (d.target - 24)) = false) : s.motAct d = s.finish d 0o27 0 := by
  simp [State.motAct, ho, h.not_barred, hp, hq, hd, hr, hv]

/-- A GOTO to the present position is done at once, and brakes a target in DRIVE. -/
theorem State.motAct_of_goto_here (hv : s.on (MOT_GSTAT_POSV (d.target - 24)) = true) (he : p = q) :
    s.motAct d
      = (((((s.motSupersede d.target).finishDone d 0).stopThread (motOut d.target)).modMt d.target
          (fun m => { m with waiting := none, goTo := none })).when (decide (s.mst d.target = 3)) (fun s => s.motBrake d.target)).motUndo
          d.target := by
  simp [State.motAct, ho, h.not_barred, hp, hq, hd, hr, hv, if_pos he]

theorem State.motAct_of_goto (hv : s.on (MOT_GSTAT_POSV (d.target - 24)) = true) (hne : p ≠ q) :
    s.motAct d = s.motDrive d dir (some d.w3.toNat) := by
  simp [State.motAct, ho, h.not_barred, hp, hq, hd, hr, hv, hne]

end Goto

theorem State.motAct_of_run (ho : d.opcode = 4) (hr : s.motRefuse d 0 = none) {e : State}
    (he : s.entryScrub (motOut d.target) (d.flags % 8) = e) :
    s.motAct d
      = if e.entryValid (motOut d.target) (d.flags % 8) = true then
          (e.motOpenNew d.target d).launch (motOut d.target) (d.flags % 8) d.w2.toNat d.w3.toNat d.w4.toNat
        else e.finish d 0o31 0 := by
  subst he
  cases hv : (s.entryScrub (motOut d.target) (d.flags % 8)).entryValid (motOut d.target) (d.flags % 8) <;>
    simp [State.motAct, ho, h.not_barred, hr, hv]

theorem State.motAct_of_diag (ho : d.opcode = 5) :
    s.motAct d = if s.mst d.target ≠ 0 then s.finish d stBadTarget 1 else s.startDesc d := by
  simp [State.motAct, ho, h.not_barred]

theorem State.motAct_of_clear (ho : d.opcode = 6) :
    s.motAct d = if s.motLat d.target ≠ 0 then s.finish d 0o32 (s.motLat d.target) else s.finishDone d 0 := by
  simp [State.motAct, ho, h.not_barred, State.when_false]

theorem State.motAct_of_setpos (ho : d.opcode = 7) :
    s.motAct d
      = (((((s.setFld (MOT_POS_POS (d.target - 24)) d.w2.toNat).raise (MOT_GSTAT_POSV (d.target - 24))).showZone (d.target - 24)).modMt
          d.target (fun m => { m with inserted := 0 })).motReached d.target).finishDone d 0 := by
  simp [State.motAct, ho, h.not_barred]

end Action

section Stop
variable {s u : State} {d : Desc} (ho : d.opcode = 3)
  (hu : ((s.motFinish d.target stSuperseded 0).provEnd 3 d.target stSuperseded 0 (some SEQ_PCNT1_PSUP)).stopThread (motOut d.target) = u)
include ho hu

/-- A STOP of a target that rests, in IDLE or LATCHED, is done at once (R208). -/
theorem State.motAct_of_stop_resting (h : s.mst d.target = 8 ∨ s.mst d.target = 0) : s.motAct d = u.finishDone d 0 := by
  subst hu
  have h5 : s.mst d.target ≠ 5 := by omega
  have h9 : s.mst d.target ≠ 9 := by omega
  simp [State.motAct, ho, h5, h9, h]

theorem State.motAct_of_stop (h : MotFree (s.mst d.target)) (hm : s.mst d.target ≠ 0) :
    s.motAct d = ((u.startDesc d).modMt d.target (fun m => { m with waiting := none })).motStop d.target (bitAt d.flags 0) := by
  subst hu
  simp [State.motAct, ho, h.not_barred, hm]

end Stop

/-- A CLEAR of a latched target clears the cause, and leaves LATCHED unless a thermal latch holds. -/
theorem State.motAct_of_clear_latched {s : State} {d : Desc} (ho : d.opcode = 6) (h : s.mst d.target = 8) :
    s.motAct d
      = if s.motLat d.target ≠ 0 then (s.setFld (motCause d.target) 0).finish d 0o32 (s.motLat d.target)
        else ((s.setFld (motCause d.target) 0).motIdle d.target).finishDone d 0 := by
  simp [State.motAct, ho, h, State.when_true]

/-! ### The drive of a DRIVE or GOTO (R208) -/

section Drive
variable {s e : State} {d : Desc} {goTo : Option Nat}
  (he : ((s.motOpenNew d.target d).modMt d.target (fun m => { m with goTo := goTo })).entryScrub (motOut d.target) 0 = e)
include he

theorem State.motDrive_of_program (hv : e.entryValid (motOut d.target) 0 = true) (dir : Nat) :
    s.motDrive d dir goTo
      = (e.modMt d.target (fun m => { m with dirP := dir })).launch (motOut d.target) 0 d.w2.toNat d.w3.toNat d.w4.toNat := by
  subst he
  exact if_pos hv

variable (hv : e.entryValid (motOut d.target) 0 = false)
include hv

theorem State.motDrive_of_value (h0 : d.w2 ≠ 0) (dir : Nat) :
    s.motDrive d dir goTo = (e.motStart d.target dir d.w2.toNat).modMt d.target (fun m => { m with goTo := goTo }) := by
  subst he
  exact (if_neg (Bool.eq_false_iff.mp hv)).trans (if_neg (fun h => h0 h.1))

/-- A drive of nothing on an idle target is done at once. -/
theorem State.motDrive_of_zero (h0 : d.w2 = 0) (hi : e.mst d.target = 0) (dir : Nat) :
    s.motDrive d dir goTo = e.motDone d.target false := by
  subst he
  exact (if_neg (Bool.eq_false_iff.mp hv)).trans (if_pos ⟨h0, hi⟩)

end Drive

/-! ### The statement on descriptors -/

/-- Settles O32: each command acts by the equation of its opcode for the target's state. -/
theorem motorDescriptors : Obligations.MotorDescriptors := by
  unfold Obligations.MotorDescriptors
  intro s r i d x ha t dir p q dirTo calm opened going
  refine ⟨?pinch, ?fenced, ?latched, ?drive, ?goto, ?stop, ?run, ?diag, ?clear, ?setpos⟩
  case pinch =>
    intro h
    have waits := State.motAct_of_pinch h
    exact ⟨fun hr => exec_of_motReady ha rfl hr waits, fun hr => exec_of_motReady ha rfl hr waits,
      fun hr => exec_of_motReady ha rfl hr waits, fun hr => exec_of_motReady ha rfl hr waits,
      fun hr => exec_of_motReady ha rfl hr waits, fun hr => exec_of_motReady ha rfl hr waits,
      fun hr => exec_of_motReady ha rfl hr waits⟩
  case fenced =>
    intro h
    have refused := State.motAct_of_fenced h
    exact ⟨fun hr => exec_of_motReady ha rfl hr refused, fun hr => exec_of_motReady ha rfl hr refused,
      fun hr => exec_of_motReady ha rfl hr refused⟩
  case latched =>
    intro h
    have refused {op : Nat} (hr : s.ready 3 op r i d = true) (hop : op ≠ 3 ∧ op ≠ 6) : s.motAct d = s.finish d 0o30 0 := by
      obtain rfl := State.opcode_of_ready hr
      exact State.motAct_of_latched h hop.1 hop.2
    exact ⟨fun hr => exec_of_motReady ha rfl hr (refused hr (by decide)), fun hr => exec_of_motReady ha rfl hr (refused hr (by decide)),
      fun hr => exec_of_motReady ha rfl hr (refused hr (by decide))⟩
  case drive =>
    intro hr h8 h5 e
    have ho := State.opcode_of_ready hr
    have acts {u : State} : s.motAct d = u → exec (.motDrive r i) s = .next u := exec_of_motReady ha rfl hr
    have drives (hn : s.motRefuse d dir = none) := State.motAct_of_drive ⟨h8, h5⟩ ho hn
    exact ⟨fun hx => acts (State.motAct_of_drive_refused ⟨h8, h5⟩ ho hx),
      fun hn hv => acts ((drives hn).trans (State.motDrive_of_program rfl hv dir)),
      fun hn hv h0 => acts ((drives hn).trans (State.motDrive_of_value rfl hv h0 dir)),
      fun hn hv h0 hi => acts ((drives hn).trans (State.motDrive_of_zero rfl hv h0 hi dir))⟩
  case goto =>
    intro hr h8 h5 hn e
    have ho := State.opcode_of_ready hr
    have acts {u : State} : s.motAct d = u → exec (.motGoto r i) s = .next u := exec_of_motReady ha rfl hr
    refine ⟨fun hv => acts (State.motAct_of_goto_lost ⟨h8, h5⟩ ho rfl rfl rfl hn hv), ?here, fun hv hne => ?away⟩
    case here =>
      intro hv he u
      have done := State.motAct_of_goto_here ⟨h8, h5⟩ ho rfl rfl rfl hn hv he
      exact ⟨fun h3 => acts (done.trans (by rw [decide_eq_true h3]; rfl)),
        fun h3 => acts (done.trans (by rw [decide_eq_false h3]; rfl))⟩
    case away =>
      have drives := State.motAct_of_goto ⟨h8, h5⟩ ho rfl rfl rfl hn hv hne
      exact ⟨fun hp => acts (drives.trans (State.motDrive_of_program rfl hp dirTo)),
        fun hp h0 => acts (drives.trans (State.motDrive_of_value rfl hp h0 dirTo))⟩
  case stop =>
    intro hr
    have ho := State.opcode_of_ready hr
    refine ⟨fun h => exec_of_motReady ha rfl hr (State.motAct_of_stop_resting ho rfl ?resting), fun h => ?moving⟩
    case resting => simpa [or_comm] using h
    case moving =>
      obtain ⟨hf, h0⟩ := motFree_of_mem h
      exact exec_of_motReady ha rfl hr (State.motAct_of_stop ho rfl hf h0)
  case run =>
    intro hr h8 h5 hn e
    have runs := State.motAct_of_run ⟨h8, h5⟩ (State.opcode_of_ready hr) hn rfl
    exact ⟨fun hv => exec_of_motReady ha rfl hr (runs.trans (if_pos hv)),
      fun hv => exec_of_motReady ha rfl hr (runs.trans (if_neg (Bool.eq_false_iff.mp hv)))⟩
  case diag =>
    intro hr
    have ho := State.opcode_of_ready hr
    refine ⟨fun h => ?idle, fun h => ?latched, fun h => ?busy⟩
    case idle =>
      have hf : MotFree (s.mst t) := by rw [h]; exact ⟨by decide, by decide⟩
      exact exec_of_motReady ha rfl hr ((State.motAct_of_diag hf ho).trans (if_neg (not_not_intro h)))
    case latched => exact exec_of_motReady ha rfl hr (State.motAct_of_latched h (by omega) (by omega))
    case busy =>
      obtain ⟨hf, h0⟩ := motFree_of_mem h
      exact exec_of_motReady ha rfl hr ((State.motAct_of_diag hf ho).trans (if_pos h0))
  case clear =>
    intro hr
    have ho := State.opcode_of_ready hr
    have latched (h : s.mst t = 8) := State.motAct_of_clear_latched ho h
    have free (h : s.mst t ∈ [0, 1, 2, 3, 4, 6, 7]) := State.motAct_of_clear (motFree_iff_mem.mpr h) ho
    exact ⟨fun h hl => exec_of_motReady ha rfl hr ((latched h).trans (if_neg (not_not_intro hl))),
      fun h hl => exec_of_motReady ha rfl hr ((latched h).trans (if_pos hl)),
      fun h hl => exec_of_motReady ha rfl hr ((free h).trans (if_neg (not_not_intro hl))),
      fun h hl => exec_of_motReady ha rfl hr ((free h).trans (if_pos hl))⟩
  case setpos =>
    exact fun hr h => exec_of_motReady ha rfl hr (State.motAct_of_setpos (motFree_iff_mem.mpr h) (State.opcode_of_ready hr))

end Sys2Proof.Machine
end

section
/-! PROOFS. The statement on the events of half-bridges and gate drivers (R190 to R206). -/

namespace Sys2Proof.Machine

/-! ### Targets (R184, R185, R204) -/

theorem isGd_of_le {t : Nat} (h : 24 ≤ t) : isGd t = true := decide_eq_true h

theorem isGd_of_lt {t : Nat} (h : t < 24) : isGd t = false := decide_eq_false (Nat.not_le.mpr h)

theorem halfOf_of_lt {t : Nat} (h : t < 16) : halfOf t = t := if_pos h

/-- No pair stands for a pair or for a gate driver. -/
theorem State.motOf_of_le (s : State) {t : Nat} (h : 16 ≤ t) : s.motOf t = t := if_neg (Nat.not_lt.mpr h)

/-! ### Diagnosis and the charge of the high sides (R190, R203, R209) -/

/-- The result of a DIAG, by the first row of R209 that applies: a short to battery, a short to ground, open, or present. -/
def motDiagCode (top bottom apart : Bool) : Nat := if top then 3 else if bottom then 2 else if apart then 1 else 0

section Charge
variable {s : State} {t : Fin 28} (ha : s.domOn .act = true)
include ha

theorem exec_motDiagDone_of_open {d : Desc} (h : s.motWith t 5 = some d) (top bottom apart : Bool) :
    exec (.motDiagDone t top bottom apart) s
      = .next ((s.setFld (motDiagF t) (motDiagCode top bottom apart)).finishDone d (motDiagCode top bottom apart)) :=
  exec_of_act ha rfl (by rw [h]; rfl)

section Precharge
variable {u : State} (h : s.mst t = 2) (ht : t.val < 16)
include h ht

/-- A charged high side lets the drive that waits begin. -/
theorem exec_prechEnd_of_charged {w : Nat × Nat} (hu : s.setFld (MOT_HSTAT_BOOT t) (b2n true) = u) (hw : (u.mt t).waiting = some w)
    (hs : u.motWith t 3 = none) (ho : (u.motOpen t).isSome = true) : exec (.prechEnd t true) s = .next (u.motGo t w.1 w.2) := by
  subst hu
  have half : ¬ 16 ≤ t.val := by omega
  refine exec_of_act ha rfl ?_
  simp [h, half, halfOf_of_lt ht, hs, hw, ho]

theorem exec_prechEnd_of_uncharged (hu : s.setFld (MOT_HSTAT_BOOT t) (b2n false) = u) :
    exec (.prechEnd t false) s = .next (((((u.motFinish t 0o33 0).motIdle t).raise MOT_FLAG_BOOTF).motEvt t 1 1).record 7 8 t) := by
  subst hu
  have half : ¬ 16 ≤ t.val := by omega
  refine exec_of_act ha rfl ?_
  simp [h, half, halfOf_of_lt ht]

end Precharge

/-- A pulse charges the bootstrap of a half-bridge in PREP, and both of a pair's. -/
theorem exec_bootstrapHoldPulse_of_prepared (h : s.mst t = 1) (hs : s.on (motSup t) = false) (ht : t.val < 24) :
    exec (.bootstrapHoldPulse ⟨t, false⟩) s
      = .next ((s.raise (MOT_HSTAT_BOOT (halfOf t))).when (decide (16 ≤ t.val)) (fun s => s.raise (MOT_HSTAT_BOOT (halfOf t + 1)))) :=
  exec_of_act ha rfl (if_pos ⟨h, by rw [isGd_of_lt ht]; rfl, by rw [hs]; rfl, rfl⟩)

theorem exec_bootstrapHoldPulse_of_cut : exec (.bootstrapHoldPulse ⟨t, true⟩) s = .next s :=
  exec_of_act ha rfl (if_neg (by simp))

end Charge

/-! ### Current limit, short, overload, open load and stall (R191, R195) -/

section Limits
variable {s : State} {t : Fin 28} {m : Nat} (ha : s.domOn .act = true) (hm : s.motOf t = m)
include ha hm

theorem exec_motCurrentLimit_of_driving (h : s.mst m = 3 ∨ s.mst m = 5) :
    exec (.motCurrentLimit t) s
      = .next ((((s.motEvt m 0 0).modMt m (fun y => { y with limSeen := true })).protEvent (motOut m)).when (!isGd m)
          (fun s => s.seqEvent (motOut m) 3)) := by
  subst hm
  exact exec_of_act ha rfl (if_pos h)

theorem exec_motShort (side : Fin 4) :
    exec (.motShort t side) s = .next (if s.mst m = 9 then s else ((s.motEvt m 7 9).motLatch m 1 0o20 side).record 7 1 m) := by
  subst hm
  exact exec_of_act ha rfl rfl

theorem exec_motOverload_of_driving (h : s.mst m = 3) (hl : m < 24) :
    exec (.motOverload t) s = .next ((((s.motEvt m 6 0).motFinish m 0o21 0).motBrake m).record 7 3 m) := by
  subst hm
  exact exec_of_act ha rfl (if_pos ⟨h, by rw [isGd_of_lt hl]; rfl⟩)

theorem exec_motOpen_of_driving (h : s.mst m = 3) (hd : 24 ≤ m ∨ 0o200000 ≤ s.stageD (motOut m)) :
    exec (.motOpen t) s = .next ((((s.motEvt m 4 6).motFinish m 0o24 0).motIdle m).record 7 5 m) := by
  subst hm
  exact exec_of_act ha rfl (if_pos ⟨h, hd.imp_left isGd_of_le⟩)

section Stall
variable {d : Desc} (h : s.mst m = 3) (hl : m < 24) (ht : s.fld (MOT_HCFG2_TSTALL (halfOf m)) ≠ 0)
include h hl ht

theorem exec_motStall_of_no_drive (ho : (s.motEvt m 5 7).motOpen m = none) :
    exec (.motStall t) s = .next (((s.motEvt m 5 7).motBrake m).record 7 4 m) := by
  subst hm
  exact exec_of_act ha rfl (by simp [isGd_of_lt hl, h, ht, ho])

/-- A drive that ends at a stall by its FLAGS bit 0 is done; any other fails (R208, R212). -/
theorem exec_motStall_of_drive (ho : (s.motEvt m 5 7).motOpen m = some d) :
    exec (.motStall t) s
      = .next (if d.opcode ≠ 4 ∧ bitAt d.flags 0 = true then ((s.motEvt m 5 7).motDone m true).motBrake m
          else (((s.motEvt m 5 7).motFinish m 0o23 0).motBrake m).record 7 4 m) := by
  subst hm
  exact exec_of_act ha rfl (by simp [isGd_of_lt hl, h, ht, ho])

end Stall

/-- A stall ends a reversal that drives (R201, R202). -/
theorem exec_motStall_of_reversing {g : Fin 4} (hg : m = 24 + g.val) (h : s.mst m = 5) (hr : (s.mt m).reversing = true)
    (ht : s.fld (MOT_RCFG_TSTALL g) ≠ 0) : exec (.motStall t) s = .next (s.motRevEnd g) := by
  subst hg
  have hd : isGd (24 + g.val) = true := isGd_of_le (by omega)
  exact exec_of_act ha rfl (by simp [hm, hd, h, hr, ht])

end Limits

/-! ### Ends of a drive (R196, R205, R208) -/

section Ends
variable {s : State} {t : Fin 28} (ha : s.domOn .act = true)
include ha

section Duration
variable {d : Desc} (ho : s.motOpen t = some d) (hc : d.opcode = 1) (hn : bitsOf d.w3.toNat 15 0 ≠ 0)
include ho hc hn

theorem exec_driveDurationEnd_of_driving (h : s.mst t = 3) :
    exec (.driveDurationEnd t) s = .next ((s.motDone t false).motBrake t) :=
  exec_of_act ha rfl (by rw [ho]; exact (if_pos ⟨hc, hn⟩).trans (if_pos h))

/-- A duration runs on in SUPPLY, and the drive does not resume once it is over. -/
theorem exec_driveDurationEnd_of_suspended (h : s.mst t = 6) :
    exec (.driveDurationEnd t) s = .next ((s.motDone t false).modMt t (fun m => { m with past := true })) :=
  exec_of_act ha rfl (by rw [ho]; exact (if_pos ⟨hc, hn⟩).trans ((if_neg (by omega)).trans (if_pos h)))

end Duration

section Brake
variable (h : s.mst t = 4)
include h

theorem exec_brakeEnd_of_waiting {w : Nat × Nat} (hw : (s.mt t).waiting = some w) :
    exec (.brakeEnd t) s = .next (s.motGo t w.1 w.2) :=
  exec_of_act ha rfl ((if_pos h).trans (by rw [hw]))

theorem exec_brakeEnd_of_no_waiting (hw : (s.mt t).waiting = none) : exec (.brakeEnd t) s = .next (s.motIdle t) :=
  exec_of_act ha rfl ((if_pos h).trans (by rw [hw]))

end Brake

end Ends

/-! ### Ripples, pinches and reversals (R197 to R202) -/

theorem State.motRevEnd_of_pinch {s : State} {g : Nat} (h : s.mst (24 + g) = 5) :
    s.motRevEnd g
      = (((s.motEvt (24 + g) 2 2).raise (MOT_GSTAT_PLK g)).motBrake (24 + g)).modMt (24 + g) (fun m => { m with reversing := false }) :=
  if_pos h

theorem State.motPinch_of_closing {s : State} {g : Nat} (he : s.on (MOT_PINCH_PEN g) = true) (h : s.mst (24 + g) = 3)
    (hd : s.mdir (24 + g) = s.closeDir g) (hz : s.zoned g = true) (cur rip : Bool) :
    s.motPinch g cur rip
      = ((((((s.motFinish (24 + g) 0o25 ((s.zoneAt g).getD 0 + b2n cur * 8 + b2n rip * 16 +
          b2n (!s.on (MOT_GSTAT_POSV g)) * 32)).setMst (24 + g) 5).setMdir (24 + g) 3).setOval (motOut (24 + g)) 0).motEvt (24 + g) 3 3).modMt
          (24 + g) (fun m => { m with
            reversing := false, revCount := 0, revN := s.fld (MOT_PINCH_REVR g), revPos := s.on (MOT_GSTAT_POSV g), goTo := none,
            dNext := none, waiting := none })).record 7 6 (24 + g) :=
  if_pos (by rw [he, hz, decide_eq_true ⟨h, hd⟩]; rfl)

section Ripple
variable {s : State} {g : Fin 4} (ha : s.domOn .act = true)
include ha

theorem exec_pinchReverseStart_of_pinch (h : s.mst (24 + g.val) = 5) (hr : (s.mt (24 + g.val)).reversing = false) {o : Nat}
    (ho : 3 - s.closeDir g = o) :
    exec (.pinchReverseStart g) s
      = .next (((s.setMdir (24 + g.val) o).setOval (motOut (24 + g.val)) 0o777777).modMt (24 + g.val)
          (fun m => { m with reversing := true, lastDir := o, revCount := 0, counting := s.on (MOT_RCFG_RIPEN g) })) := by
  subst ho
  exact exec_of_act ha rfl (if_pos ⟨h, by rw [hr]; rfl⟩)

theorem exec_reversalEnd_of_over (hr : (s.mt (24 + g.val)).reversing = true)
    (hn : (s.mt (24 + g.val)).revPos = false ∨ (s.mt (24 + g.val)).revN ≤ (s.mt (24 + g.val)).revCount) :
    exec (.reversalEnd g) s = .next (s.motRevEnd g) :=
  exec_of_act ha rfl (if_pos (by simpa [hr] using hn))

theorem exec_pinchViolation {mean : Word} {dt : Nat} {cur rip : Bool} (hc : decide ((s.pinchLimits g).1 < mean.toNat) = cur)
    (hr : decide ((s.pinchLimits g).2 ≠ 0 ∧ 1000000 < dt * (s.pinchLimits g).2) = rip) :
    exec (.pinchViolation g mean dt) s = .next (if cur || rip then s.motPinch g cur rip else s) := by
  subst hc hr
  exact exec_of_act ha rfl rfl

section Uncounted
variable (h : s.motCounts g = false)
include h

theorem exec_rippleCandidate_of_uncounted (dt : Nat) : exec (.rippleCandidate g dt) s = .next s :=
  exec_of_act ha rfl (if_pos (by rw [h]; rfl))

theorem exec_rippleInsert_of_uncounted : exec (.rippleInsert g) s = .next s :=
  exec_of_act ha rfl (if_pos (by rw [h]; rfl))

end Uncounted

section Counted
variable (h : s.motCounts g = true)
include h

/-- A candidate within half the last period is a double, and is not counted. -/
theorem exec_rippleCandidate_of_double {dt : Nat} (hp : 2 * dt < s.fld (MOT_RPER_PER g)) :
    exec (.rippleCandidate g dt) s = .next (s.count (MOT_RINS_DBL g)) :=
  exec_of_act ha rfl ((if_neg (by rw [h]; decide)).trans (if_pos hp))

theorem exec_rippleCandidate_of_ripple {dt : Nat} (hp : s.fld (MOT_RPER_PER g) ≤ 2 * dt) :
    exec (.rippleCandidate g dt) s
      = .next (((((s.setFld (MOT_RPER_PER g) (satTo 0o777777 dt)).ripplePos g).modMt (24 + g.val) (fun m =>
          { m with inserted := 0, revCount := if m.reversing then m.revCount + 1 else m.revCount })).seqEvent (motOut (24 + g.val))
          3).motReached (24 + g.val)) :=
  exec_of_act ha rfl ((if_neg (by rw [h]; decide)).trans (if_neg (Nat.not_lt.mpr hp)))

/-- The fifth insertion in a row makes the position invalid. -/
theorem exec_rippleInsert_of_counted {u : State}
    (hu : ((s.count (MOT_RINS_INS g)).ripplePos g).modMt (24 + g.val) (fun m => { m with inserted := m.inserted + 1 }) = u) :
    exec (.rippleInsert g) s
      = .next ((if (u.mt (24 + g.val)).inserted = 5 then
          ((((u.setFld (MOT_GSTAT_POSV g) 0).motEvt (24 + g.val) 1 1).showZone g).modMt (24 + g.val)
            (fun m => { m with revPos := false })).record 7 9 (24 + g.val)
        else u).motReached (24 + g.val)) := by
  subst hu
  exact exec_of_act ha rfl (if_neg (by rw [h]; decide))

end Counted

end Ripple

/-! ### The statement on events -/

/-- Settles O33: each event by the equation of its case for the target's state, ACT running. -/
theorem motorEvents : Obligations.MotorEvents := by
  unfold Obligations.MotorEvents
  intro s t side g v mean dt a b e d w ha m k evt
  refine ⟨?diagDone, ?precharge, ?currentLimit, ?short, ?shortFenced, ?overload, ?stall, ?stallReversing, ?openLoad, ?gateFault, ?pumpLow,
    ?pumpRelease, ?duration, ?brakeToDrive, ?brakeToIdle, ?supplyEnter, ?supplyRelease, ?reverseStart, ?reversalEnd, ?double, ?ripple,
    ?uncounted, ?inserted, ?pinch, ?plockEnd, ?holdPulse, ?holdPulseCut, ?hot, ?cool⟩
  case diagDone =>
    intro h
    have done := exec_motDiagDone_of_open ha h
    exact ⟨fun hc => by rw [done, hc]; rfl, fun hc hb => by rw [done, hc, hb]; rfl, fun hc hb he => by rw [done, hc, hb, he]; rfl,
      fun hc hb he => by rw [done, hc, hb, he]; rfl⟩
  case precharge =>
    intro h ht _ _ u hw hs
    refine ⟨fun hc ho => ?charged, fun hc => ?uncharged⟩
    case charged =>
      subst hc
      exact exec_prechEnd_of_charged ha h ht rfl hw hs ho
    case uncharged =>
      subst hc
      exact exec_prechEnd_of_uncharged ha h ht rfl
  case currentLimit =>
    intro h u
    have limits := exec_motCurrentLimit_of_driving ha rfl (by simpa using h)
    exact ⟨fun hl => by rw [limits, isGd_of_lt hl]; rfl, fun hl => by rw [limits, isGd_of_le hl]; rfl⟩
  case short => exact fun h => by rw [exec_motShort ha rfl, if_neg h]
  case shortFenced => exact fun h => by rw [exec_motShort ha rfl, if_pos h]
  case overload => exact exec_motOverload_of_driving ha rfl
  case stall =>
    intro h hl ht
    have drive (ho : evt.motOpen m = some d) := exec_motStall_of_drive ha rfl h hl ht ho
    exact ⟨exec_motStall_of_no_drive ha rfl h hl ht, fun ho hc hf => by rw [drive ho, if_pos ⟨hc, hf⟩],
      fun ho hf => by rw [drive ho, if_neg (fun hs => Bool.eq_false_iff.mp hf hs.2)]⟩
  case stallReversing =>
    exact fun ht h hr hs => exec_motStall_of_reversing ha ((s.motOf_of_le (by omega)).trans ht) rfl h hr hs
  case openLoad => exact exec_motOpen_of_driving ha rfl
  case gateFault => exact fun h => exec_of_act ha rfl (if_neg h)
  case pumpLow => exact exec_of_act ha rfl rfl
  case pumpRelease => exact exec_of_act ha rfl rfl
  case duration =>
    exact fun ho hc hn => ⟨exec_driveDurationEnd_of_driving ha ho hc hn, exec_driveDurationEnd_of_suspended ha ho hc hn⟩
  case brakeToDrive => exact fun h hw => exec_brakeEnd_of_waiting ha h hw
  case brakeToIdle => exact exec_brakeEnd_of_no_waiting ha
  case supplyEnter => exact exec_of_act ha rfl rfl
  case supplyRelease => exact exec_of_act ha rfl rfl
  case reverseStart =>
    intro h hr o
    exact exec_pinchReverseStart_of_pinch ha h hr rfl
  case reversalEnd =>
    exact fun hr hn h => by rw [exec_reversalEnd_of_over ha hr hn, State.motRevEnd_of_pinch h]
  case double => exact fun h hp => exec_rippleCandidate_of_double ha h hp
  case ripple => exact fun h hp => exec_rippleCandidate_of_ripple ha h hp
  case uncounted => exact fun h => ⟨exec_rippleCandidate_of_uncounted ha h dt, exec_rippleInsert_of_uncounted ha h⟩
  case inserted =>
    intro h u
    have inserts := exec_rippleInsert_of_counted ha h (u := u) rfl
    exact ⟨fun hn => by rw [inserts, if_neg hn], fun h5 => by rw [inserts, if_pos h5]⟩
  case pinch =>
    intro l cur rip
    have judged : exec (.pinchViolation g mean dt) s = .next (if cur || rip then s.motPinch g cur rip else s) :=
      exec_pinchViolation ha rfl rfl
    refine ⟨fun he h hd hz hv => ?violated, fun hc hr => ?within⟩
    case violated =>
      have bad : (cur || rip) = true := (Bool.or_eq_true cur rip).mpr hv
      rw [judged, if_pos bad, State.motPinch_of_closing he h hd hz]
    case within =>
      have good : ¬ (cur || rip) = true := by rw [hc, hr]; decide
      rw [judged, if_neg good]
  case plockEnd => exact exec_of_act ha rfl rfl
  case holdPulse =>
    intro h hs hb
    subst hb
    have pulse (ht : t.val < 24) := exec_bootstrapHoldPulse_of_prepared ha h hs ht
    refine ⟨fun ht => ?single, fun hp ht => ?pair⟩
    case single => rw [pulse (by omega), decide_eq_false (by omega), State.when_false, halfOf_of_lt ht]
    case pair => rw [pulse ht, decide_eq_true hp, State.when_true]
  case holdPulseCut =>
    intro hb
    subst hb
    exact exec_bootstrapHoldPulse_of_cut ha
  case hot => exact exec_of_act ha rfl rfl
  case cool => exact exec_of_act ha rfl rfl

end Sys2Proof.Machine
end

section
/-! PROOFS. The statement on the descriptors of valves and banks (R224, R226, R237 to R242). -/

namespace Sys2Proof.Machine

/-! ### The action of a descriptor (R72, R237) -/

/-- A valve command whose descriptor waits, ACT running and no ready answer kept: the descriptor acts. -/
theorem exec_of_vlvReady {c : Instr} {op r i : Nat} {d : Desc} {s t : State} (ha : s.domOn .act = true)
    (hc : exec c s = .next (inDom .act (fun s => s.actReady 4 op r i (fun d s => s.vlvUndo d.target) (fun d s => s.vlvAction d)) s))
    (h : s.ready 4 op r i d = true) (ht : s.vlvAction d = t) : exec c s = .next t :=
  exec_of_act ha hc ((State.actReady_of_ready h _ _).trans ht)

theorem State.vlvAction_of_valve (s : State) {d : Desc} (h : d.target < 16) : s.vlvAction d = s.vlvAct d.target d := if_pos h

theorem State.vlvAction_of_bank (s : State) {d : Desc} (h : 16 ≤ d.target) : s.vlvAction d = s.bankAct (d.target - 16) d :=
  if_neg (Nat.not_lt.mpr h)

section Action
variable {s : State} {n : Nat} {d : Desc}

theorem State.vlvAct_of_fenced (h : s.vst n = 9) : s.vlvAct n d = s.finish d stFenced 0 := if_pos h

/-- A latched valve refuses all but RELEASE and CLEAR. -/
theorem State.vlvAct_of_latched (h : s.vst n = 8) (hr : d.opcode ≠ 2) (hc : d.opcode ≠ 6) : s.vlvAct n d = s.finish d 0o27 0 :=
  (if_neg (by omega)).trans (if_pos ⟨h, hr, hc⟩)

/-- A valve below LATCHED is in none of the states that bar every descriptor. -/
theorem vst_unbarred {v : Nat} (h : v < 8) : v ≠ 8 ∧ v ≠ 9 := by omega

section Energise
variable (ho : d.opcode = 1) (h : s.vst n < 8)
include ho h

theorem State.vlvAct_of_energise_barred {x : Nat × Nat} (hb : s.vlvBar n = some x) : s.vlvAct n d = s.finish d x.1 x.2 := by
  simp [State.vlvAct, ho, vst_unbarred h, hb]

variable {e : State} (hb : s.vlvBar n = none) (he : s.entryScrub (vlvOut n) 0 = e)
include hb he

/-- With a valid entry 0 an ENERGISE starts its program. -/
theorem State.vlvAct_of_energise_program (hv : e.entryValid (vlvOut n) 0 = true) : s.vlvAct n d = e.vlvLaunch n 0 d := by
  subst he
  simp [State.vlvAct, ho, vst_unbarred h, hb, hv]

variable (hv : e.entryValid (vlvOut n) 0 = false)
include hv

/-- An ENERGISE with setpoint 0 is a RELEASE. -/
theorem State.vlvAct_of_energise_zero (h0 : d.w2 = 0) : s.vlvAct n d = e.vlvRelease n d (e.quenchOf n) := by
  subst he
  simp [State.vlvAct, ho, vst_unbarred h, hb, hv, h0]

variable (h0 : d.w2 ≠ 0#18)
include h0

/-- What an ENERGISE with a setpoint asks of a valve that is not in PEAK or HOLD (R224, R229). -/
theorem State.vlvAct_of_energise (h3 : s.vst n ≠ 3) (h4 : s.vst n ≠ 4) :
    s.vlvAct n d
      = ((e.vlvOpenNew n d).modVv n (fun v => { v with
          hold := d.w2.toNat, since := e.ztNs, tdef := bitsOf d.w4.toNat 17 9, must := bitAt d.flags 0,
          peak := !e.on (VLV_VCFG_MODE n) && !bitAt d.flags 1 })).vlvRequest n := by
  subst he
  simp [State.vlvAct, ho, vst_unbarred h, hb, hv, h0, h3, h4]

omit h in
/-- In PEAK the new setpoint is that of the HOLD to come. -/
theorem State.vlvAct_of_energise_peak (h3 : s.vst n = 3) :
    s.vlvAct n d = (e.vlvOpenNew n d).modVv n (fun v => { v with hold := d.w2.toNat, begun := true }) := by
  subst he
  simp [State.vlvAct, ho, hb, hv, h0, h3]

omit h in
/-- In HOLD the new setpoint is asked for as a SETI asks for one (R228). -/
theorem State.vlvAct_of_energise_hold (h4 : s.vst n = 4) :
    s.vlvAct n d
      = ((e.vlvOpenNew n d).modVv n (fun v => { v with
          setiWait := true, own := true, setiTo := d.w2.toNat, setiMs := 0, since := e.ztNs, tdef := bitsOf d.w4.toNat 17 9,
          must := bitAt d.flags 0, peak := !e.on (VLV_VCFG_MODE n) && !bitAt d.flags 1 })).vlvRequest n := by
  subst he
  simp [State.vlvAct, ho, hb, hv, h0, h4]

end Energise

theorem State.vlvAct_of_release (ho : d.opcode = 2) (h9 : s.vst n ≠ 9) :
    s.vlvAct n d = s.vlvRelease n d (bitAt d.flags 0 || s.quenchOf n) := by
  simp [State.vlvAct, ho, h9]

section Seti
variable (ho : d.opcode = 3)
include ho

/-- A SETI is for a valve in HOLD (R224). -/
theorem State.vlvAct_of_seti_unheld (h : s.vst n < 8) (h4 : s.vst n ≠ 4) : s.vlvAct n d = s.finish d stBadTarget 1 := by
  simp [State.vlvAct, ho, vst_unbarred h, h4]

theorem State.vlvAct_of_seti (h4 : s.vst n = 4) (hw : s.vlvWith n 3 = none) :
    s.vlvAct n d
      = ((s.startDesc d).modVv n (fun v => { v with
          setiWait := true, own := false, ramping := false, setiTo := d.w2.toNat, setiMs := bitsOf d.w3.toNat 11 0, since := s.ztNs,
          tdef := bitsOf d.w4.toNat 17 9, must := bitAt d.flags 0 })).vlvRequest n := by
  simp [State.vlvAct, ho, h4, hw]

end Seti

section Run
variable (ho : d.opcode = 4) (h : s.vst n < 8)
include ho h

theorem State.vlvAct_of_run_barred {x : Nat × Nat} (hb : s.vlvBar n = some x) : s.vlvAct n d = s.finish d x.1 x.2 := by
  simp [State.vlvAct, ho, vst_unbarred h, hb]

theorem State.vlvAct_of_run (hb : s.vlvBar n = none) {e : State} (he : s.entryScrub (vlvOut n) (d.flags % 8) = e) :
    s.vlvAct n d = if e.entryValid (vlvOut n) (d.flags % 8) = true then e.vlvLaunch n (d.flags % 8) d else e.finish d 0o30 0 := by
  subst he
  cases hv : (s.entryScrub (vlvOut n) (d.flags % 8)).entryValid (vlvOut n) (d.flags % 8) <;>
    simp [State.vlvAct, ho, vst_unbarred h, hb, hv]

end Run

/-- A DIAG is for a valve in OFF whose bank may close (R239). -/
theorem State.vlvAct_of_diag (ho : d.opcode = 5) (h : s.vst n < 8) :
    s.vlvAct n d
      = if s.vst n ≠ 0 ∨ s.bankBarred (n / 4) = true then s.finish d stBadTarget 1 else (s.startDesc d).bankClose (n / 4) := by
  simp [State.vlvAct, ho, vst_unbarred h]

section Clear
variable (ho : d.opcode = 6) (h9 : s.vst n ≠ 9)
include ho h9

/-- A CLEAR reports the thermal latches that remain (R240). -/
theorem State.vlvAct_of_clear_latched (hl : s.vlvLat n ≠ 0) : s.vlvAct n d = s.finish d 0o31 (s.vlvLat n) := by
  simp [State.vlvAct, ho, h9, hl]

theorem State.vlvAct_of_clear (hl : s.vlvLat n = 0) :
    s.vlvAct n d = (s.when (decide (s.vst n = 8)) (fun s => (s.setFld (VLV_VSTAT_LCAUSE n) 0).vlvToOff n)).finishDone d 0 := by
  simp [State.vlvAct, ho, h9, hl]

end Clear

end Action

/-! ### RELEASE (R225, R238) -/

section Release
variable {s u : State} {n : Nat} {d : Desc} (hu : (s.vlvSupersede n).stopThread (vlvOut n) = u)
include hu

theorem State.vlvRelease_of_off (h : u.vst n = 0) (clamp : Bool) : s.vlvRelease n d clamp = u.finishDone d 0 := by
  subst hu
  exact if_pos h

theorem State.vlvRelease_of_on (h : u.vst n ≠ 0) (clamp : Bool) :
    s.vlvRelease n d clamp
      = ((u.startDesc d).modVv n (fun v => { v with
          ends := decide (d.opcode ≠ 2), late := none, tpk := 0, threaded := false })).vlvDecay n clamp := by
  subst hu
  exact if_neg h

end Release

/-! ### CLEAR of a bank (R240) -/

section Bank
variable {s : State} {m : Nat} {d : Desc}

theorem State.bankAct_of_fenced (h : s.bst m = 5) : s.bankAct m d = s.finish d stFenced 0 := if_pos h

/-- What a CLEAR of a bank leaves: its thermal latches, and 4 for a wire trip. -/
theorem State.bankAct_of_clear (ho : d.opcode = 6) (h : s.bst m ≠ 5) (hf : bitAt d.flags 0 = false) :
    s.bankAct m d
      = if s.bankLat m + 4 * b2n (s.wireTrip (vhOut m)) ≠ 0 then s.finish d 0o31 (s.bankLat m + 4 * b2n (s.wireTrip (vhOut m)))
        else (s.when (decide (s.bst m = 4)) (fun s => s.bankToIdle m)).finishDone d 0 := by
  simp [State.bankAct, ho, h, hf, State.when_false]

end Bank

/-! ### The statement on descriptors -/

/-- Settles O34: each command acts by the equation of its opcode for the state of the valve or bank. -/
theorem valveDescriptors : Obligations.ValveDescriptors := by
  unfold Obligations.ValveDescriptors
  intro s r i d x ha n m k e ek opened request
  refine ⟨?energise, ?release, ?seti, ?run, ?diag, ?clear, ?bankClear⟩
  case energise =>
    intro hn hr
    have ho := State.opcode_of_ready hr
    have acts {t : State} (ht : s.vlvAct n d = t) : exec (.vlvEnergise r i) s = .next t :=
      exec_of_vlvReady ha rfl hr ((s.vlvAction_of_valve hn).trans ht)
    refine ⟨?fenced, ?latched, ?barred, fun h hb => ⟨?program, ?zero, ?fresh, ?peak, ?hold⟩⟩
    case fenced => exact fun h => acts (State.vlvAct_of_fenced h)
    case latched => exact fun h => acts (State.vlvAct_of_latched h (by omega) (by omega))
    case barred => exact fun h hb => acts (State.vlvAct_of_energise_barred ho h hb)
    case program => exact fun hv => acts (State.vlvAct_of_energise_program ho h hb rfl hv)
    case zero => exact fun hv h0 => acts (State.vlvAct_of_energise_zero ho h hb rfl hv h0)
    case fresh => exact fun hv h0 h3 h4 => acts (State.vlvAct_of_energise ho h hb rfl hv h0 h3 h4)
    case peak => exact fun hv h0 h3 => acts (State.vlvAct_of_energise_peak ho hb rfl hv h0 h3)
    case hold => exact fun hv h0 h4 => acts (State.vlvAct_of_energise_hold ho hb rfl hv h0 h4)
  case release =>
    intro hn hr
    have ho := State.opcode_of_ready hr
    have acts {t : State} (ht : s.vlvAct n d = t) : exec (.vlvRelease r i) s = .next t :=
      exec_of_vlvReady ha rfl hr ((s.vlvAction_of_valve hn).trans ht)
    refine ⟨fun h => acts (State.vlvAct_of_fenced h), fun h => ?unfenced⟩
    case unfenced =>
      intro calm
      have releases := State.vlvAct_of_release ho (Nat.ne_of_lt h)
      refine ⟨fun h0 => acts (releases.trans (State.vlvRelease_of_off rfl h0 _)), fun h0 => acts (releases.trans ?_)⟩
      rw [State.vlvRelease_of_on rfl h0, ho]
      rfl
  case seti =>
    intro hn hr
    have ho := State.opcode_of_ready hr
    have acts {t : State} (ht : s.vlvAct n d = t) : exec (.seti r i) s = .next t :=
      exec_of_vlvReady ha rfl hr ((s.vlvAction_of_valve hn).trans ht)
    refine ⟨fun h => ?unheld, fun h hw => acts (State.vlvAct_of_seti ho h hw)⟩
    simp only [List.mem_cons, List.not_mem_nil, or_false] at h
    exact acts (State.vlvAct_of_seti_unheld ho (by omega) (by omega))
  case run =>
    intro hn hr h
    have ho := State.opcode_of_ready hr
    have acts {t : State} (ht : s.vlvAct n d = t) : exec (.vlvRun r i) s = .next t :=
      exec_of_vlvReady ha rfl hr ((s.vlvAction_of_valve hn).trans ht)
    refine ⟨fun hb => acts (State.vlvAct_of_run_barred ho h hb), fun hb => ?allowed⟩
    case allowed =>
      have runs := State.vlvAct_of_run ho h hb rfl
      exact ⟨fun hv => acts (runs.trans (if_pos hv)), fun hv => acts (runs.trans (if_neg (Bool.eq_false_iff.mp hv)))⟩
  case diag =>
    intro hn hr
    have ho := State.opcode_of_ready hr
    have acts (h : s.vst n < 8) := exec_of_vlvReady ha (c := .vlvDiag r i) rfl hr
      ((s.vlvAction_of_valve hn).trans (State.vlvAct_of_diag ho h))
    refine ⟨fun h hb => ?off, fun h hb => ?barred, fun h => ?busy⟩
    case off => rw [acts (by omega), if_neg (not_or.mpr ⟨not_not_intro h, Bool.eq_false_iff.mp hb⟩)]
    case barred => rw [acts (by omega), if_pos (.inr hb)]
    case busy =>
      simp only [List.mem_cons, List.not_mem_nil, or_false] at h
      have h0 : s.vst n ≠ 0 := by omega
      rw [acts (by omega), if_pos (.inl h0)]
  case clear =>
    intro hn hr
    have ho := State.opcode_of_ready hr
    have acts {t : State} (ht : s.vlvAct n d = t) : exec (.vlvClear r i) s = .next t :=
      exec_of_vlvReady ha rfl hr ((s.vlvAction_of_valve hn).trans ht)
    refine ⟨fun h hl => ?latched, fun h hl => ?done, fun h hl => acts (State.vlvAct_of_clear_latched ho (by omega) hl)⟩
    case latched => rw [acts (State.vlvAct_of_clear ho (by omega) hl), decide_eq_true h, State.when_true]
    case done => rw [acts (State.vlvAct_of_clear ho (by omega) hl), decide_eq_false (Nat.ne_of_lt h), State.when_false]
  case bankClear =>
    intro hn hr
    have ho := State.opcode_of_ready hr
    have acts {t : State} (ht : s.bankAct m d = t) : exec (.vlvClear r i) s = .next t :=
      exec_of_vlvReady ha rfl hr ((s.vlvAction_of_bank hn).trans ht)
    refine ⟨fun h => acts (State.bankAct_of_fenced h), fun h hf => ?unfenced⟩
    case unfenced =>
      intro rest
      have clears := acts (State.bankAct_of_clear ho h hf)
      refine ⟨fun h4 h0 => ?latched, fun h4 h0 => ?done, fun h0 => ?remains⟩
      case latched => rw [clears, if_neg (not_not_intro h0), decide_eq_true h4, State.when_true]
      case done => rw [clears, if_neg (not_not_intro h0), decide_eq_false h4, State.when_false]
      case remains => rw [clears, if_pos h0]

end Sys2Proof.Machine
end

section
/-! PROOFS. The statement on the events of valves and banks (R220 to R233, R239). -/

namespace Sys2Proof.Machine

/-! ### The end of a duration (R225, R238) -/

/-- The end of a begun ENERGISE's duration: the valve decays by the QUENCH in force before the completion is written. -/
theorem exec_valveDurationEnd_of_begun {s : State} {n : Fin 16} {d : Desc} (ha : s.domOn .act = true) (ho : s.vlvOpen n = some d)
    (hc : d.opcode = 1) (hn : bitsOf d.w3.toNat 15 0 ≠ 0) (ht : (s.vv n).threaded = false) (hb : (s.vv n).begun = true) :
    exec (.valveDurationEnd n) s
      = .next (((s.vlvDone n).vlvDecay n (s.quenchOf n)).modVv n (fun v => { v with past := true })) := by
  refine exec_of_act ha rfl ?_
  simp [ho, hc, hn, ht, hb]

/-! ### A descriptor of a ring that the module does not have -/

/-- The ring number whose IRQPEND bit has the place of VLV_VCFG.QUENCH of valve 0. -/
def strayRing : Nat := 16 * (rVLV_VCFG 0 - rRNG_IRQPEND 0) + 15

/-- A running ENERGISE of valve 0 with a duration of 1 ms and an interrupt, of that ring. -/
def strayEnergise : Desc :=
  { ring := strayRing, slot := 0, eng := 4, owner := 0, w0 := 0o200100, w1 := 0, w2 := 40, w3 := 1, w4 := 0, w5 := 0, w6 := 0,
    phase := .running }

/-- The reset state with valve 0 in HOLD for that ENERGISE, and the ring's IRQEN set. -/
def strayHold : State :=
  { (State.reset.setFld (VLV_VSTAT_STATE 0) 4).setFld (RNG_RCFG_IRQEN strayRing) 1 with
    vlv := [(0, { begun := true })], descs := [strayEnergise] }

/-- The completion's interrupt sets QUENCH. -/
theorem quenchOf_vlvDone_strayHold : strayHold.quenchOf 0 = false ∧ (strayHold.vlvDone 0).quenchOf 0 = true := by decide +kernel

theorem clamp_vlvDecay_strayHold (clamp : Bool) : (((strayHold.vlvDone 0).vlvDecay 0 clamp).vv 0).clamp = clamp := by
  cases clamp <;> decide +kernel

theorem State.clamp_modVv_past (s : State) (n : Nat) : ((s.modVv n (fun v => { v with past := true })).vv n).clamp = (s.vv n).clamp := by
  simp [State.vv, State.modVv, State.setVv]

/-- Refutes O35: its clause on the end of a duration reads QUENCH after the completion, and the model before it. Nothing in the statement
bounds the ring of an accepted descriptor by 64, and the completion of `strayEnergise` sets the IRQPEND bit that lies in VLV_VCFG: in
`strayHold` the valve decays without the clamp, where the clause says with it. -/
theorem not_valveEvents : ¬ Obligations.ValveEvents := by
  unfold Obligations.ValveEvents
  intro h
  have ha : strayHold.domOn .act = true := by decide +kernel
  have ho : strayHold.vlvOpen 0 = some strayEnergise := by decide +kernel
  have hb : (strayHold.vv 0).begun = true := by decide +kernel
  obtain ⟨-, -, -, -, -, -, -, -, -, -, -, -, -, -, -, duration, -⟩ := h strayHold 0 0 false false 0 strayEnergise ha
  have said := (duration ho (by decide) (by decide) (by decide +kernel)).1 hb
  have done := exec_valveDurationEnd_of_begun (n := 0) ha ho (by decide) (by decide) (by decide +kernel) hb
  have same := congrArg (fun t => (t.vv 0).clamp) (Host.Outcome.next.inj (done.symm.trans said))
  obtain ⟨before, after⟩ := quenchOf_vlvDone_strayHold
  simp [State.clamp_modVv_past, clamp_vlvDecay_strayHold, before, after] at same

end Sys2Proof.Machine
end

section
/-! PROOFS. The statement on the descriptors of sinks, colour loops and pixel chains (R257 to R259, R262, R273, R276, R277). -/

namespace Sys2Proof.Machine

/-! ### The action of a descriptor (R72, R277) -/

/-- A lighting command whose descriptor waits, ACT running and no ready answer kept: the descriptor acts. -/
theorem exec_of_luxReady {c : Instr} {op r i : Nat} {d : Desc} {s t : State} (ha : s.domOn .act = true)
    (hc : exec c s = .next (inDom .act (fun s => s.actReady 5 op r i (fun d s => s.luxUndo d) (fun d s => s.luxAct d)) s))
    (h : s.ready 5 op r i d = true) (ht : s.luxAct d = t) : exec c s = .next t :=
  exec_of_act ha hc ((State.actReady_of_ready h _ _).trans ht)

theorem State.luxAct_of_sink (s : State) {d : Desc} (h : d.target < 24) : s.luxAct d = s.sinkAct d.target d := if_pos h

theorem State.luxAct_of_loop (s : State) {d : Desc} (h : 24 ≤ d.target) (h' : d.target < 32) :
    s.luxAct d = s.loopAct (d.target - 24) d :=
  (if_neg (Nat.not_lt.mpr h)).trans (if_pos h')

theorem State.luxAct_of_chain (s : State) {d : Desc} (h : 32 ≤ d.target) : s.luxAct d = s.pxAct (d.target - 32) d :=
  (if_neg (by omega)).trans (if_neg (Nat.not_lt.mpr h))

/-! ### Sinks (R258, R259, R277) -/

section Sink
variable {s : State} {n : Nat} {d : Desc}

/-- A sink below LATCHED is in none of the states that bar a descriptor. -/
theorem sink_unbarred {v : Nat} (h : v < 4) : v ≠ 4 ∧ v ≠ 5 := by omega

theorem State.sinkAct_of_fenced (h : s.lst n = 5) : s.sinkAct n d = s.finish d stFenced 0 := if_pos h

/-- A sink of an enabled loop refuses what would drive it (R259). -/
theorem State.sinkAct_of_loop_owned (h : s.lst n ≠ 5) (hl : (s.loopOf n).isSome = true) (ho : 1 ≤ d.opcode ∧ d.opcode ≤ 3) :
    s.sinkAct n d = s.finish d 0o27 0 := by
  simp [State.sinkAct, h, hl, ho]

section Driven
variable (hl : s.loopOf n = none)
include hl

section Set
variable {e : State} (ho : d.opcode = 1) (he : s.entryScrub (luxOut n) 0 = e)
include ho he

theorem State.sinkAct_of_set_latched (h : s.lst n = 4) : s.sinkAct n d = e.finish d 0o23 0 := by
  subst he
  simp [State.sinkAct, hl, ho, h]

variable (h : s.lst n < 4)
include h

/-- With a valid entry 0 a SET starts its program. -/
theorem State.sinkAct_of_set_program (hv : e.entryValid (luxOut n) 0 = true) : s.sinkAct n d = e.luxLaunch n 0 d := by
  subst he
  simp [State.sinkAct, hl, ho, hv, sink_unbarred h]

variable (hv : e.entryValid (luxOut n) 0 = false) {u : State} (hu : e.luxOpenNew n d = u)
include hv hu

/-- A SET with a ramp keeps its plan, and turns a prepared sink on at once. -/
theorem State.sinkAct_of_set_ramp (hr : bitsOf d.w3.toNat 12 0 ≠ 0) (hw : d.wasTimed = false) {w : State}
    (hw' : u.modLx n (fun x => { x with
      rampFrom := u.oval (luxOut n), rampTo := d.w2.toNat, rampN := bitsOf d.w3.toNat 12 0, rampLeft := bitsOf d.w3.toNat 12 0,
      want := true }) = w) :
    s.sinkAct n d = w.when (decide (s.lst n = 1)) (fun w => w.setLst n (if w.luxLat n = 0 then 2 else 3)) := by
  subst he hu hw'
  simp [State.sinkAct, hl, ho, hv, hr, hw, State.when, sink_unbarred h]

/-- A SET without a ramp applies its D; a sink that a thermal latch holds off ends it THERMAL (R277). -/
theorem State.sinkAct_of_set_value (hr : bitsOf d.w3.toNat 12 0 = 0) {v : State}
    (hv' : (u.modLx n (fun x => { x with want := true })).luxApply n d.w2.toNat d.wasTimed = v) :
    s.sinkAct n d
      = if v.lst n = 3 then (v.modLx n (fun x => { x with want := false })).luxCut n 0o22 (v.luxLat n) else v.luxTryDone n := by
  subst he hu hv'
  simp [State.sinkAct, hl, ho, hv, hr, sink_unbarred h]

end Set

theorem State.sinkAct_of_off (ho : d.opcode = 2) (h : s.lst n ≠ 5) :
    s.sinkAct n d
      = (((((s.luxSupersede n).stopThread (luxOut n)).modLx n (fun x => { x with rampLeft := 0, want := false })).luxApply n 0 true).when
          (decide (s.lst n = 3)) (fun s => s.setLst n 0)).finishDone d 0 := by
  simp [State.sinkAct, hl, ho, h]

theorem State.sinkAct_of_run (ho : d.opcode = 3) (h : s.lst n < 4) {e : State} (he : s.entryScrub (luxOut n) (d.flags % 8) = e) :
    s.sinkAct n d
      = if e.entryValid (luxOut n) (d.flags % 8) = true then e.luxLaunch n (d.flags % 8) d else e.finish d 0o25 0 := by
  subst he
  cases hv : (s.entryScrub (luxOut n) (d.flags % 8)).entryValid (luxOut n) (d.flags % 8) <;>
    simp [State.sinkAct, hl, ho, hv, sink_unbarred h]

end Driven

section Diag
variable (ho : d.opcode = 4)
include ho

/-- A DIAG is for a sink in ON (R277). -/
theorem State.sinkAct_of_diag_unlit (h5 : s.lst n ≠ 5) (h : s.lst n ≠ 2) : s.sinkAct n d = s.finish d stBadTarget 1 := by
  simp [State.sinkAct, ho, h5, h]

variable (h : s.lst n = 2)
include h

theorem State.sinkAct_of_diag_connected (hl : s.fld (LUX_LSTAT_OL n) = 1) : s.sinkAct n d = s.finishDone d 1 := by
  simp [State.sinkAct, ho, h, hl]

theorem State.sinkAct_of_diag_open (hl : s.fld (LUX_LSTAT_OL n) = 2) : s.sinkAct n d = s.finish d 0o20 0 := by
  simp [State.sinkAct, ho, h, hl]

/-- Without a judgement so far a DIAG waits for one. -/
theorem State.sinkAct_of_diag_unknown (hl : s.fld (LUX_LSTAT_OL n) = 0) :
    s.sinkAct n d = (s.startDesc d).modLx n (fun x => { x with diagN := 0 }) := by
  simp [State.sinkAct, ho, h, hl]

end Diag

section Clear
variable (ho : d.opcode = 5) (h : s.lst n ≠ 5)
include ho h

/-- A CLEAR reports the thermal latches that remain. -/
theorem State.sinkAct_of_clear_latched (hl : s.luxLat n ≠ 0) : s.sinkAct n d = s.finish d 0o26 (s.luxLat n) := by
  simp [State.sinkAct, ho, h, hl]

theorem State.sinkAct_of_clear (hl : s.luxLat n = 0) :
    s.sinkAct n d
      = (s.when (decide (s.lst n = 4)) (fun s => (s.setFld (LUX_LSTAT_LCAUSE n) 0).luxDown n 0)).finishDone d 0 := by
  simp [State.sinkAct, ho, h, hl]

end Clear

end Sink

/-! ### Colour loops (R262) -/

section Loop
variable {s : State} {k : Nat} {d : Desc}

theorem State.loopAct_of_fenced (h : s.isFenced 9 (24 + k) = true) : s.loopAct k d = s.finish d stFenced 0 := if_pos h

variable (h : s.isFenced 9 (24 + k) = false)
include h

theorem State.loopAct_of_off (ho : d.opcode = 2) : s.loopAct k d = ((s.luxSupersede (24 + k)).loopOff k).finishDone d 0 := by
  simp [State.loopAct, h, ho]

theorem State.loopAct_of_colour (ho : d.opcode = 6) : s.loopAct k d = s.colour k d := by
  simp [State.loopAct, h, ho]

end Loop

section Colour
variable {s u : State} {k t : Nat} {d : Desc} (ht : bitsOf d.w2.toNat 4 0 = t)
  (hu : (((s.luxSupersede (24 + k)).startDesc d).setFld (LUX_CSTAT_ENT k) t).setFld (LUX_CSTAT_SETL k) 0 = u)
include ht hu

/-- The entry with no light turns the loop off. -/
theorem State.colour_of_dark (h0 : s.fld (LUX_CTT0_T t) = 0) (h1 : s.fld (LUX_CTT1_T t) = 0) (h2 : s.fld (LUX_CTT2_T t) = 0) :
    s.colour k d = (u.loopOff k).finishDone d 0 := by
  subst ht hu
  exact if_pos ⟨h0, h1, h2⟩

/-- A COLOUR without a limit on a loop that is not off moves its targets and is done at once. -/
theorem State.colour_of_on (h0 : s.fld (LUX_CTT0_T t) ≠ 0) (hc : u.cst k ≠ 0) (hl : bitsOf d.w4.toNat 17 9 = 0) {m : Nat}
    (hm : bitsOf d.w3.toNat 12 0 = m) :
    s.colour k d
      = (u.modCl k (fun x => { x with
          f0 := x.t0, f1 := x.t1, f2 := x.t2, e0 := s.fld (LUX_CTT0_T t), e1 := s.fld (LUX_CTT1_T t), e2 := s.fld (LUX_CTT2_T t),
          rampN := m, rampLeft := m, good := 0, periods := 0, limit := 0, t0 := if m = 0 then s.fld (LUX_CTT0_T t) else x.t0,
          t1 := if m = 0 then s.fld (LUX_CTT1_T t) else x.t1, t2 := if m = 0 then s.fld (LUX_CTT2_T t) else x.t2 })).finishDone d 0 := by
  subst ht hu hm
  simp [State.colour, h0, hc, hl]

end Colour

/-! ### Pixel chains (R273) -/

section Chain
variable {s : State} {c : Nat} {d : Desc}

theorem State.pxAct_of_fenced (h : s.isFenced 9 (32 + c) = true) : s.pxAct c d = (s.pxDrop c d.key).finish d stFenced 0 := if_pos h

/-- The frames of a descriptor queue, and the chain chooses its next frame. -/
theorem State.pxAct_of_frames (h : s.isFenced 9 (32 + c) = false) (ho : 7 ≤ d.opcode) (hf : lGet (s.pch c).comp d.key ≠ []) :
    s.pxAct c d
      = (((s.provEnd 5 (32 + c) stSuperseded 0 (some SEQ_PCNT1_PSUP)).startDesc d).modPch c (fun x =>
          { x with comp := smErase x.comp d.key, queue := x.queue ++ lGet (s.pch c).comp d.key })).pxNext c := by
  simp [State.pxAct, h, Nat.not_lt.mpr ho, hf]

end Chain

/-! ### The statement on descriptors -/

/-- Settles O36: each command acts by the equation of its opcode for the state of the sink, loop or chain. -/
theorem lightingDescriptors : Obligations.LightingDescriptors := by
  unfold Obligations.LightingDescriptors
  intro s r i d ha n k c j e ej opened t aimed queued
  refine ⟨?set, ?off, ?run, ?diag, ?clear, ?loopOff, ?loopFenced, ?colour, ?frames, ?chainFenced⟩
  case set =>
    intro hn hr
    have ho := State.opcode_of_ready hr
    have acts {t : State} (ht : s.sinkAct n d = t) : exec (.luxSet r i) s = .next t :=
      exec_of_luxReady ha rfl hr ((s.luxAct_of_sink hn).trans ht)
    refine ⟨?fenced, ?owned, ?latched, ?program, ?ramp, ?value⟩
    case fenced => exact fun h => acts (State.sinkAct_of_fenced h)
    case owned => exact fun h hl => acts (State.sinkAct_of_loop_owned h.ne hl (by omega))
    case latched => exact fun h hl => acts (State.sinkAct_of_set_latched hl ho rfl h)
    case program => exact fun h hl hv => acts (State.sinkAct_of_set_program hl ho rfl h hv)
    case ramp =>
      intro h hl hv hm hw u
      have ramps := acts (State.sinkAct_of_set_ramp hl ho rfl h hv rfl hm hw rfl)
      exact ⟨fun h1 => by rw [ramps, decide_eq_false h1, State.when_false], fun h1 => by rw [ramps, decide_eq_true h1, State.when_true]⟩
    case value =>
      intro v h hl hv hm
      have applies := acts (State.sinkAct_of_set_value hl ho rfl h hv rfl hm rfl)
      exact ⟨fun h3 => applies.trans (congrArg _ (if_neg h3)), fun h3 => applies.trans (congrArg _ (if_pos h3))⟩
  case off =>
    intro hn hr h hl u
    have turns := exec_of_luxReady ha (c := .luxOff r i) rfl hr
      ((s.luxAct_of_sink hn).trans (State.sinkAct_of_off hl (State.opcode_of_ready hr) h.ne))
    exact ⟨fun h3 => by rw [turns, decide_eq_false h3, State.when_false], fun h3 => by rw [turns, decide_eq_true h3, State.when_true]⟩
  case run =>
    intro hn hr h hl
    have runs := (s.luxAct_of_sink hn).trans (State.sinkAct_of_run hl (State.opcode_of_ready hr) h rfl)
    exact ⟨fun hv => exec_of_luxReady ha rfl hr (runs.trans (if_pos hv)),
      fun hv => exec_of_luxReady ha rfl hr (runs.trans (if_neg (Bool.eq_false_iff.mp hv)))⟩
  case diag =>
    intro hn hr
    have ho := State.opcode_of_ready hr
    have acts {t : State} (ht : s.sinkAct n d = t) : exec (.luxDiag r i) s = .next t :=
      exec_of_luxReady ha rfl hr ((s.luxAct_of_sink hn).trans ht)
    refine ⟨fun h => ?unlit, fun h hl => acts (State.sinkAct_of_diag_connected ho h hl),
      fun h hl => acts (State.sinkAct_of_diag_open ho h hl), fun h hl => acts (State.sinkAct_of_diag_unknown ho h hl)⟩
    simp only [List.mem_cons, List.not_mem_nil, or_false] at h
    exact acts (State.sinkAct_of_diag_unlit ho (by omega) (by omega))
  case clear =>
    intro hn hr
    have ho := State.opcode_of_ready hr
    have acts {t : State} (ht : s.sinkAct n d = t) : exec (.luxClear r i) s = .next t :=
      exec_of_luxReady ha rfl hr ((s.luxAct_of_sink hn).trans ht)
    refine ⟨fun hl h => acts (State.sinkAct_of_clear_latched ho h.ne hl), fun hl h => ?latched, fun hl h => ?done⟩
    case latched => rw [acts (State.sinkAct_of_clear ho (by omega) hl), decide_eq_true h, State.when_true]
    case done => rw [acts (State.sinkAct_of_clear ho (by omega) hl), decide_eq_false h.ne, State.when_false]
  case loopOff =>
    exact fun hn hn' hr hf => exec_of_luxReady ha rfl hr
      ((s.luxAct_of_loop hn hn').trans (State.loopAct_of_off hf (State.opcode_of_ready hr)))
  case loopFenced => exact fun hn hn' hr hf => exec_of_luxReady ha rfl hr ((s.luxAct_of_loop hn hn').trans (State.loopAct_of_fenced hf))
  case colour =>
    intro hn hn' hr hf
    have acts {t : State} (ht : s.colour k d = t) : exec (.colour r i) s = .next t :=
      exec_of_luxReady ha rfl hr
        ((s.luxAct_of_loop hn hn').trans ((State.loopAct_of_colour hf (State.opcode_of_ready hr)).trans ht))
    exact ⟨fun h0 h1 h2 => acts (State.colour_of_dark rfl rfl h0 h1 h2), fun h0 hc hl => acts (State.colour_of_on rfl rfl h0 hc hl rfl)⟩
  case frames =>
    intro hn hf hq
    have queues {op : Nat} (hr : s.ready 5 op r i d = true) (hop : 7 ≤ op) : s.luxAct d = queued.pxNext c := by
      obtain rfl := State.opcode_of_ready hr
      exact (s.luxAct_of_chain hn).trans (State.pxAct_of_frames hf hop hq)
    exact ⟨fun hr => exec_of_luxReady ha rfl hr (queues hr (by decide)), fun hr => exec_of_luxReady ha rfl hr (queues hr (by decide)),
      fun hr => exec_of_luxReady ha rfl hr (queues hr (by decide)), fun hr => exec_of_luxReady ha rfl hr (queues hr (by decide)),
      fun hr => exec_of_luxReady ha rfl hr (queues hr (by decide))⟩
  case chainFenced => exact fun hn hf hr => exec_of_luxReady ha rfl hr ((s.luxAct_of_chain hn).trans (State.pxAct_of_fenced hf))

end Sys2Proof.Machine
end

section
/-! PROOFS. The statement on the events of sinks, colour loops and pixel chains (R250 to R274). -/

namespace Sys2Proof.Machine

/-! ### A judged dimming period with an open DIAG (R253, R277) -/

/-- A period whose on-times `outs` are judged but not sampled. A DIAG that is open before it is counted one period more after them, also
where they complete it. -/
theorem exec_dimmingPeriodEnd_of_diag {s u z : State} {n : Fin 24} {v : Nat} {outs : List Bool} (amp : Nat) (ha : s.domOn .act = true)
    (h : s.lst n = 2) (hj : 4096 ≤ (s.lx n).de) (hs : (s.lx n).de < 20480) (hne : outs ≠ []) (hol : s.on (LUX_LCFG_OLEN n) = true)
    (hu : (((s.setFld (LUX_LSTAT_IVAL n) 0).setFld (LUX_LIMEAS_I n) (satTo 0o777777 ((s.lx n).amp * (s.lx n).de / 2 ^ 18))).setFld
      (LUX_LVSNK_V n) (satTo 0o777777 v)).senseEvent (luxOut n) = u)
    (hz : u.each (outs.take 64) (fun o s => s.luxOnTime n o) = z) (hd : (s.luxWith n 4).isSome = true) (hk : (z.lx n).diagN < 63) :
    exec (.dimmingPeriodEnd n amp v outs false) s
      = .next ((z.modLx n (fun x => { x with diagN := (z.lx n).diagN + 1 })).luxStart n true) := by
  have hsampled : ¬ 20480 ≤ (s.lx n).de := Nat.not_le.mpr hs
  have hwaits : ¬ 63 ≤ (z.lx n).diagN := Nat.not_le.mpr hk
  refine exec_of_act ha rfl ?_
  simp [State.when, b2n, h, hj, hsampled, hne, hol, hd, hu, hz, hwaits, -Nat.reducePow]

/-- A running DIAG of sink 0. -/
def openDiag : Desc :=
  { ring := 0, slot := 0, eng := 5, owner := 0, w0 := 0o400, w1 := 0, w2 := 0, w3 := 0, w4 := 0, w5 := 0, w6 := 0, phase := .running }

/-- The reset state with sink 0 in ON and that DIAG open, at an effective duty whose on-times are judged but not sampled; the last 63 of
them were out. -/
def litDiag : State :=
  { (State.reset.setFld (LUX_LSTAT_STATE 0) 2).setFld (LUX_LCFG_OLEN 0) 1 with
    lux := [(0, { de := 10000, outRun := 63 })], descs := [openDiag] }

/-- `litDiag` after one more on-time out: open load, for which the DIAG completes. -/
def litDiagOpen : State :=
  ((((litDiag.setFld (LUX_LSTAT_IVAL 0) 0).setFld (LUX_LIMEAS_I 0)
    (satTo 0o777777 ((litDiag.lx 0).amp * (litDiag.lx 0).de / 2 ^ 18))).setFld (LUX_LVSNK_V 0) (satTo 0o777777 0)).senseEvent
    (luxOut 0)).each ([true].take 64) (fun o s => s.luxOnTime 0 o)

theorem luxWith_litDiagOpen : litDiagOpen.luxWith 0 4 = none := by decide +kernel

theorem diagN_litDiagOpen : (litDiagOpen.lx 0).diagN = 0 := by decide +kernel

theorem diagN_luxStart_litDiagOpen : ((litDiagOpen.luxStart 0 true).lx 0).diagN = 0 := by decide +kernel

theorem diagN_luxStart_litDiagOpen_counted :
    (((litDiagOpen.modLx 0 (fun x => { x with diagN := 1 })).luxStart 0 true).lx 0).diagN = 1 := by decide +kernel

/-- Refutes O37: its clause on a judged period takes the next dimming period from what the on-times leave, with no DIAG open then. The
model asks for the DIAG before the on-times: in `litDiag` the on-time completes the DIAG, and the model still counts a period for it. -/
theorem not_lightingEvents : ¬ Obligations.LightingEvents := by
  unfold Obligations.LightingEvents
  intro h
  have ha : litDiag.domOn .act = true := by decide +kernel
  have hlit : litDiag.lst 0 = 2 := by decide +kernel
  have hj : 4096 ≤ (litDiag.lx 0).de := by decide +kernel
  have hs : (litDiag.lx 0).de < 20480 := by decide +kernel
  have hol : litDiag.on (LUX_LCFG_OLEN 0) = true := by decide +kernel
  have hd : (litDiag.luxWith 0 4).isSome = true := by decide +kernel
  have hk : (litDiagOpen.lx 0).diagN < 63 := by rw [diagN_litDiagOpen]; decide
  obtain ⟨-, -, -, -, -, judged, -⟩ :=
    h litDiag 0 0 0 0 0 0 0 [true] false 0 0 0 0 { cmd := 0, addr := 0, payload := [] } openDiag [] (0, 0, 0, []) ha
  have said : exec (.dimmingPeriodEnd 0 0 0 [true] false) litDiag = .next (litDiagOpen.luxStart 0 true) :=
    judged hlit hj hs rfl (List.cons_ne_nil _ _) hol luxWith_litDiagOpen
  have done := exec_dimmingPeriodEnd_of_diag (n := 0) (z := litDiagOpen) 0 ha hlit hj hs (List.cons_ne_nil _ _) hol rfl rfl hd hk
  rw [Fin.val_zero, diagN_litDiagOpen] at done
  have same := congrArg (fun t => (t.lx 0).diagN) (Host.Outcome.next.inj (done.symm.trans said))
  simp [diagN_luxStart_litDiagOpen, diagN_luxStart_litDiagOpen_counted] at same

end Sys2Proof.Machine
end

section
/-! PROOFS. The statement on switches, converters, sensors, cells, timers and the limp-home map (R284 to R312). -/

namespace Sys2Proof.Machine

/-! ### Switches (R284 to R288) -/

section Switches
variable {s raw : State} {n kl30 : Nat} {land : Int} {closed : Bool}

theorem switchPoll_of_unpolled (h : s.swMode n ≠ 1) : switchPoll n land kl30 s = s := if_pos h

variable (hc : s.swReads n land kl30 = closed) (hr : s.setFld (INP_SWRAW_RAW n) (b2n closed) = raw)
include hc hr

/-- A sample that agrees with the debounced state restarts the count. -/
theorem switchPoll_of_same (h : s.swMode n = 1) (hs : raw.sw n = closed) :
    switchPoll n land kl30 s = raw.modInp (fun x => { x with deb := nPut x.deb n 0 }) := by
  subst hc hr
  exact (if_neg (not_not_intro h)).trans (if_pos hs.symm)

/-- A sample that differs is counted, and the DEB-th in a row changes the debounced state. -/
theorem switchPoll_of_differs (h : s.swMode n = 1) (hs : raw.sw n ≠ closed) :
    switchPoll n land kl30 s
      = if raw.fld (INP_SWCFG_DEB n) ≤ nGet raw.inp.deb n + 1 then raw.swChange n closed
        else raw.modInp (fun x => { x with deb := nPut x.deb n (nGet raw.inp.deb n + 1) }) := by
  subst hc hr
  exact (if_neg (not_not_intro h)).trans (if_neg hs.symm)

theorem staticFilterEnd_of_static (h : s.swMode n = 2) :
    staticFilterEnd n land kl30 s = if closed = raw.sw n then raw else raw.swChange n closed := by
  subst hc hr
  exact if_neg (not_not_intro h)

end Switches

/-- Outside BEDDED a static input's filter is judged by ACT. -/
theorem exec_staticFilterEnd_of_awake {s t : State} {n : Fin 48} {lv : LandVolts} (ha : s.domOn .act = true) (hb : s.pw.mode ≠ .bedded)
    (ht : staticFilterEnd n lv.land.toInt lv.kl30.toNat s = t) : exec (.staticFilterEnd n lv) s = .next t :=
  exec_of_act ha (congrArg Host.Outcome.next (if_neg hb)) ht

/-! ### General converters (R289 to R291, R297) -/

section Converters
variable {s : State} {a : Nat}

/-- A scan that still has inputs to convert is not begun again. -/
theorem adcScan_of_scanning {h : Nat} {l : List Nat} (hl : lGet s.inp.scan a = h :: l) : adcScan a s = s :=
  if_pos (by rw [hl]; exact Bool.or_true _)

variable (hf : s.bit INP_ADCST_FAIL (8 + a) = false)
include hf

theorem adcScan_of_idle (hl : lGet s.inp.scan a = []) :
    adcScan a s = s.modInp (fun x => { x with scan := lPut x.scan a (s.scanList a) }) :=
  if_neg (by rw [hf, hl]; exact Bool.false_ne_true)

theorem adcResult_of_idle (hl : lGet s.inp.scan a = []) (conv : List (BitVec 16)) : adcResult a conv s = s := by
  simp [adcResult, hf, hl]

/-- A result reaches its input's readout and its window state, whose change is an event. -/
theorem adcResult_of_scanning {h v w : Nat} {l : List Nat} (hl : lGet s.inp.scan a = h :: l) {conv : List (BitVec 16)}
    (hv : adcSum conv = v) (hw : s.winOf h v = w) :
    adcResult a conv s
      = ((((s.modInp (fun x => { x with scan := lPut x.scan a l })).setFld (INP_ANR_R h) v).setFld (INP_ANST_VALID h) 1).setFld
          (INP_ANST_WIN h) w).when (decide (w ≠ s.anWin h)) (fun s => s.winChange h w) := by
  simp only [adcResult, hf, hl, hv, hw, Bool.false_eq_true, if_false]

end Converters

/-! ### Sense converters (R293, R295, R297) -/

theorem senseConversion_of_unsensed {s : State} {o : Nat} (h : o < 64 ∨ (100 ≤ o ∧ o < 124)) (v : Word) : senseConversion o v s = s :=
  if_pos (.inr h)

theorem adcCalibration_of_ok (s : State) (b : Nat) : adcCalibration b true s = s := rfl

theorem adcCalibration_of_failed {s : State} {b : Nat} (hf : s.bit INP_ADCST_FAIL b = false) :
    adcCalibration b false s = (s.adcFail b).record 10 1 b :=
  if_neg (by rw [hf]; exact Bool.false_ne_true)

section Sense
variable {s : State} {o : Nat} (hf : s.bit INP_ADCST_FAIL (o % 8) = false)
include hf

/-- The conversion of a sensed output by its kind: a half-bridge or a valve, a bank, a gate driver. -/
theorem senseConversion_of_sensed (h : 64 ≤ o ∧ o < 100 ∨ 124 ≤ o) (v : Word) :
    senseConversion o v s
      = if 80 ≤ o ∧ o < 84 then (s.setFld (VLV_BIMEAS_I (o - 80)) v.toNat).senseEvent o
        else if o < 100 then
          s.modMean o (fun m => { m with sum := m.sum + (if o < 80 then sextOf 18 v.toNat else (v.toNat : Int)), n := m.n + 1 })
        else
          ((s.setFld (MOT_GIMEAS_V (o - 124)) (wrapTo 18
            (max (-(s.shuntMax (o - 124))) (min (s.shuntMax (o - 124)) (sextOf 18 v.toNat))))).senseEvent o).motShunt (o - 124) := by
  have sensed : ¬ (s.bit INP_ADCST_FAIL (o % 8) = true ∨ o < 64 ∨ (100 ≤ o ∧ o < 124)) := by
    rw [hf, or_iff_right Bool.false_ne_true]
    omega
  exact if_neg sensed

theorem senseConversion_of_half_bridge (h : 64 ≤ o) (h' : o < 80) (v : Word) :
    senseConversion o v s = s.modMean o (fun m => { m with sum := m.sum + sextOf 18 v.toNat, n := m.n + 1 }) := by
  have nobank : ¬ (80 ≤ o ∧ o < 84) := by omega
  have valves : o < 100 := by omega
  rw [senseConversion_of_sensed hf (by omega), if_neg nobank, if_pos valves, if_pos h']

theorem senseConversion_of_bank (h : 80 ≤ o) (h' : o < 84) (v : Word) :
    senseConversion o v s = (s.setFld (VLV_BIMEAS_I (o - 80)) v.toNat).senseEvent o := by
  rw [senseConversion_of_sensed hf (by omega), if_pos ⟨h, h'⟩]

theorem senseConversion_of_valve (h : 84 ≤ o) (h' : o < 100) (v : Word) :
    senseConversion o v s = s.modMean o (fun m => { m with sum := m.sum + (v.toNat : Int), n := m.n + 1 }) := by
  have nobank : ¬ (80 ≤ o ∧ o < 84) := by omega
  have nobridge : ¬ o < 80 := by omega
  rw [senseConversion_of_sensed hf (by omega), if_neg nobank, if_pos h', if_neg nobridge]

theorem senseConversion_of_gate_driver (h : 124 ≤ o) (v : Word) :
    senseConversion o v s
      = ((s.setFld (MOT_GIMEAS_V (o - 124)) (wrapTo 18
          (max (-(s.shuntMax (o - 124))) (min (s.shuntMax (o - 124)) (sextOf 18 v.toNat))))).senseEvent o).motShunt (o - 124) := by
  have nobank : ¬ (80 ≤ o ∧ o < 84) := by omega
  have novalve : ¬ o < 100 := by omega
  rw [senseConversion_of_sensed hf (by omega), if_neg nobank, if_neg novalve]

end Sense

/-! ### SENT (R298, R299) -/

section Sent
variable {s u : State} {k cal : Nat} {nibs : List Nat} (he : s.on (INP_SNCFG_EN k) = true)
include he

/-- An enabled receiver looks at its frames. -/
theorem sent_not_off : ¬ (!s.on (INP_SNCFG_EN k)) = true := by rw [he]; exact Bool.false_ne_true

section Frame
variable (hu : s.modInp (fun x => { x with cal := nPut x.cal k cal }) = u)
include hu

theorem sentFrame_of_bad (hj : s.sentJudge k cal nibs ≠ 0) (slow : Option SlowMsg) :
    sentFrame k cal nibs slow s = u.sentErr k (s.sentJudge k cal nibs) true := by
  subst hu
  exact (if_neg (sent_not_off he)).trans (if_pos hj)

/-- A good frame that completes no slow-channel message: its data nibbles, the first the most significant. -/
theorem sentFrame_of_good (hj : s.sentJudge k cal nibs = 0) {e : Nat}
    (hd : (sliceD (nibs.map (fun t => nibTicks cal t - 12)) 1 (u.fld (INP_SNCFG_NIB k)) 0).foldl (fun a v => a * 16 + v) 0 = e) :
    sentFrame k cal nibs none s
      = ((((u.setFld (INP_SNSTAT_VALID k) 1).setFld (INP_SNLASTH_DH k) (e / 2 ^ 18)).setFld (INP_SNLASTL_DL k) (e % 2 ^ 18)).modInp
          (fun x => { x with timedOut := bPut x.timedOut k false })).mkMsg k 0 0 e := by
  subst hu hd
  exact (if_neg (sent_not_off he)).trans (if_neg (not_not_intro hj))

end Frame

theorem sentTimeout_of_running (ht : s.on (INP_SNTO_TOUT k) = true) (hn : bGet s.inp.timedOut k = false) :
    sentTimeout k s
      = ((s.setFld (INP_SNSTAT_VALID k) 0).modInp (fun x => { x with timedOut := bPut x.timedOut k true })).sentErr k 6 false :=
  if_neg (by rw [he, ht, hn]; exact Bool.false_ne_true)

end Sent

/-! ### PSI5 (R300, R301) -/

section Psi5
variable {s : State} {k j : Nat}

theorem psi5BusLimit_of_dead (h : s.psLive k = false) : psi5BusLimit k s = s := if_neg (Bool.eq_false_iff.mp h)

variable (hp : s.psLive k = true)
include hp

theorem psi5BusLimit_of_live : psi5BusLimit k s = (s.psOff k).record 10 4 k := if_pos hp

theorem psi5SlotClose_of_open (hs : bGet s.inp.slots (k * 4 + j) = true) :
    psi5SlotClose k j s = ((s.psSlot k j false).setFld (INP_PSSTAT_VALID k) 0).psErr k j 6 :=
  if_pos (by rw [hp, hs]; rfl)

variable (hm : s.fld (INP_PSCFG_MODE k) = 1)
include hm

theorem psi5Sync_of_synchronous :
    psi5Sync k s = s.each (List.range (s.fld (INP_PSCFG_SLOTS k) + 1)) (fun j u => u.psSlot k j true) :=
  if_pos ⟨hp, hm⟩

section Frame
variable {u : State} (hs : bGet s.inp.slots (k * 4 + j) = true) (hu : s.psSlot k j false = u)
include hs hu

/-- A frame in an open slot closes it; one of a right coding and a right check delivers its data. -/
theorem psi5Frame_of_good {data e : Nat} (hd : data % 2 ^ u.fld (INP_PSCFG_DBITS k) = e) :
    psi5Frame k j true true data s
      = (((u.setFld (INP_PSSTAT_VALID k) 1).setFld (INP_PSLASTH_DH k) (e / 2 ^ 18)).setFld (INP_PSLASTL_DL k) (e % 2 ^ 18)).mkMsg
          (16 + 4 * k + j) 4 0 e := by
  subst hu hd
  exact if_neg (by simp [hp, hm, hs])

theorem psi5Frame_of_bad_coding (check : Bool) (data : Nat) : psi5Frame k j false check data s = u.psErr k j 3 := by
  simp [psi5Frame, hp, hm, hs, hu]

theorem psi5Frame_of_bad_check (data : Nat) : psi5Frame k j true false data s = u.psErr k j 4 := by
  simp [psi5Frame, hp, hm, hs, hu]

end Frame

end Psi5

/-! ### Sensor messages (R303 to R306) -/

section Messages
variable {s : State}

theorem sensorMessage_of_none (h : s.inp.made = []) : sensorMessage s = s := by
  simp only [sensorMessage, h]

section Made
variable {u : State} {m : SMsg} {w : List SMsg} (h : s.inp.made = m :: w) (hu : s.modInp (fun x => { x with made := w }) = u)
include h hu

/-- A source with DEST 0 has its messages dropped. -/
theorem sensorMessage_of_dropped (hd : u.fld (INP_BRG_DEST m.src) = 0) : sensorMessage s = u := by
  subst hu
  simp only [sensorMessage, h, hd]
  rfl

/-- A source with DEST 1 has its messages put into its ring's FIFO, which serves a waiting SENSRX. -/
theorem sensorMessage_of_ring (hd : u.fld (INP_BRG_DEST m.src) = 1) :
    sensorMessage s = (u.toFifo (u.fld (INP_BRG_RING m.src)) m).sensServe (u.fld (INP_BRG_RING m.src)) := by
  subst hu
  simp only [sensorMessage, h, hd]
  rfl

end Made

theorem exec_sensrx {r : Fin 64} {i : Fin 1024} {d : Desc} (ha : s.domOn .act = true) (h : s.waits 7 0o40 r i d = true) :
    exec (.sensrx r i) s = .next (s.sensServe (d.ring - 40)) :=
  exec_of_act ha rfl (State.onReady_of_waits h sensRx)

end Messages

/-! ### The glue fabric (R307 to R312) -/

section Fabric
variable {s : State}

section Dead
variable (hl : s.inp.live = false)
include hl

/-- A fabric that is not live neither steps nor counts. -/
theorem fabric_barred_of_dead : (!s.inp.live || s.inp.dcMap) = true := by rw [hl]; rfl

theorem fabricStep_of_dead : fabricStep s = s := if_pos (fabric_barred_of_dead hl)

theorem fabricTimer_of_dead (t : Nat) : fabricTimer t s = s := if_pos (fabric_barred_of_dead hl)

/-- Going live loads the fabric; registered cells hold INIT. -/
theorem fabricLive_of_dead :
    fabricLive s = (s.storeScan.modInp (fun x => { x with live := true })).each (List.range 32) (fun c u =>
      if u.fld (INP_FCMODE_MODE c) = 1 then u.setCell c (u.on (INP_FCMODE_INIT c)) else u) :=
  if_neg (Bool.eq_false_iff.mp hl)

end Dead

section Live
variable (hl : s.inp.live = true)
include hl

theorem fabricLive_of_live : fabricLive s = s := if_pos hl

variable (hm : s.inp.dcMap = false)
include hm

theorem fabric_not_barred : ¬ (!s.inp.live || s.inp.dcMap) = true := by rw [hl, hm]; exact Bool.false_ne_true

/-- A step: the cells in order, then the timers' triggers, then the outputs of the map. -/
theorem fabricStep_of_live {u : State} (hu : (s.cellsFrom [] (List.range 32)).each (List.range 4) (fun t u => u.timerStep t) = u) :
    fabricStep s = u.follow u.mapped (fun n u => u.record 4 3 n) := by
  subst hu
  exact if_neg (fabric_not_barred hl hm)

/-- A periodic timer whose trigger holds toggles its output. -/
theorem fabricTimer_of_periodic {t : Nat} (hp : s.fld (INP_FTCFG_MODE t) = 1) (ht : bGet s.inp.trig t = true) :
    fabricTimer t s = s.modInp (fun x => { x with tout := bPut x.tout t (!bGet x.tout t) }) := by
  refine (if_neg (fabric_not_barred hl hm)).trans ?_
  simp only [hp, ht, if_true]

theorem fabricTimer_of_one_shot {t : Nat} (ho : s.fld (INP_FTCFG_MODE t) = 2) :
    fabricTimer t s = s.modInp (fun x => { x with tout := bPut x.tout t false }) := by
  refine (if_neg (fabric_not_barred hl hm)).trans ?_
  simp only [ho]

end Live
end Fabric

/-! ### The statement on inputs and the fabric -/

/-- Settles O41: each command, ACT running, by the equation of its event for the state of its input, converter, receiver or fabric. -/
theorem inputsAndFabric : Obligations.InputsAndFabric := by
  unfold Obligations.InputsAndFabric
  intro s n closed lv conv a v o b x k j cal nibs data h l m w r i d ha read raw ts src
  refine ⟨?pollSame, ?pollDiffers, ?pollOff, ?filterChange, ?filterSame, ?scanIdle, ?scanning, ?sense, ?unsensed, ?calFails, ?calOk,
    ?supply, ?sentGood, ?sentBad, ?sentLost, ?psSync, ?psFrame, ?psLimit, ?psDead, ?routed, ?unrouted, ?sensrx, ?live, ?dead, ?relive,
    ?limpHome⟩
  case pollSame => exact fun hm hs => exec_of_act ha rfl (switchPoll_of_same rfl rfl hm hs)
  case pollDiffers =>
    intro hm hs
    have counts := exec_of_act (i := .switchPoll n lv) ha rfl (switchPoll_of_differs rfl rfl hm hs)
    exact ⟨fun h => counts.trans (by rw [if_neg (Nat.not_le.mpr h)]), fun h => counts.trans (by rw [if_pos h])⟩
  case pollOff => exact fun hm => exec_of_act ha rfl (switchPoll_of_unpolled hm)
  case filterChange =>
    exact fun hb hm hs => exec_staticFilterEnd_of_awake ha hb ((staticFilterEnd_of_static rfl rfl hm).trans (if_neg hs.symm))
  case filterSame =>
    exact fun hb hm hs => exec_staticFilterEnd_of_awake ha hb ((staticFilterEnd_of_static rfl rfl hm).trans (if_pos hs.symm))
  case scanIdle =>
    exact fun hf hl => ⟨exec_of_act ha rfl (adcScan_of_idle hf hl), exec_of_act ha rfl (adcResult_of_idle hf hl conv)⟩
  case scanning =>
    intro hf hl u
    have result := adcResult_of_scanning hf hl (conv := conv) rfl rfl
    refine ⟨exec_of_act ha rfl (adcScan_of_scanning hl), fun hw => exec_of_act ha rfl (result.trans ?_),
      fun hw => exec_of_act ha rfl (result.trans ?_)⟩
    · rw [decide_eq_false (not_not_intro hw), State.when_false]
    · rw [decide_eq_true hw, State.when_true]
  case sense =>
    exact fun hf => ⟨fun h h' => exec_of_act ha rfl (senseConversion_of_half_bridge hf h h' v),
      fun h h' => exec_of_act ha rfl (senseConversion_of_bank hf h h' v),
      fun h h' => exec_of_act ha rfl (senseConversion_of_valve hf h h' v),
      fun h => exec_of_act ha rfl (senseConversion_of_gate_driver hf h v)⟩
  case unsensed => exact fun h => exec_of_act ha rfl (senseConversion_of_unsensed h v)
  case calFails => exact fun hf => exec_of_act ha rfl (adcCalibration_of_failed hf)
  case calOk => exact exec_of_act ha rfl (adcCalibration_of_ok s b)
  case supply => exact fun h => ⟨exec_of_act ha rfl (if_pos h), exec_of_act ha rfl (if_pos h)⟩
  case sentGood =>
    intro he hj u e
    exact exec_of_act ha rfl (sentFrame_of_good he rfl hj (by rw [List.map_map]; rfl))
  case sentBad => exact fun he hj => exec_of_act ha rfl (sentFrame_of_bad he rfl hj none)
  case sentLost => exact fun he ht hn => exec_of_act ha rfl (sentTimeout_of_running he ht hn)
  case psSync => exact fun hp hm => exec_of_act ha rfl (psi5Sync_of_synchronous hp hm)
  case psFrame =>
    intro hp hm hs u e
    exact ⟨exec_of_act ha rfl (psi5Frame_of_good hp hm hs rfl rfl), exec_of_act ha rfl (psi5Frame_of_bad_coding hp hm hs rfl closed _),
      exec_of_act ha rfl (psi5Frame_of_bad_check hp hm hs rfl _), exec_of_act ha rfl (psi5SlotClose_of_open hp hs)⟩
  case psLimit => exact fun hp => exec_of_act ha rfl (psi5BusLimit_of_live hp)
  case psDead => exact fun hp => exec_of_act ha rfl (psi5BusLimit_of_dead hp)
  case routed =>
    exact fun hw => ⟨fun hd => exec_of_act ha rfl (sensorMessage_of_dropped hw rfl hd),
      fun hd => exec_of_act ha rfl (sensorMessage_of_ring hw rfl hd)⟩
  case unrouted => exact fun hw => exec_of_act ha rfl (sensorMessage_of_none hw)
  case sensrx => exact exec_sensrx ha
  case live =>
    exact fun hl hm => ⟨exec_of_act ha rfl (fabricStep_of_live hl hm rfl),
      fun hp ht => exec_of_act ha rfl (fabricTimer_of_periodic hl hm hp ht),
      fun ho => exec_of_act ha rfl (fabricTimer_of_one_shot hl hm ho)⟩
  case dead =>
    exact fun hl => ⟨exec_of_act ha rfl (fabricStep_of_dead hl), exec_of_act ha rfl (fabricTimer_of_dead hl k),
      exec_of_act ha rfl (fabricLive_of_dead hl)⟩
  case relive => exact fun hl => exec_of_act ha rfl (fabricLive_of_live hl)
  case limpHome => exact exec_of_act ha rfl rfl

end Sys2Proof.Machine
end

section
/-! PROOFS. The statement on bus frames: descriptors of channels, frames of CAN and LIN, stored frames, streams (R320 to R335). -/

namespace Sys2Proof.Machine

/-! ### Commands of NET -/

/-- A command of NET, while it runs, is what its chapter says. -/
theorem exec_of_net {i : Instr} {f : State → State} {s t : State} (h : s.domOn .net = true)
    (hi : exec i s = .next (inDom .net f s)) (hf : f s = t) : exec i s = .next t :=
  hi.trans (congrArg Host.Outcome.next ((inDom_of_on h f).trans hf))

/-- A bus frame command whose descriptor waits, NET running: the descriptor acts. -/
theorem exec_of_netWaits {c : Instr} {op r i : Nat} {d : Desc} {f : Desc → State → State} {s t : State} (hn : s.domOn .net = true)
    (hc : exec c s = .next (inDom .net (fun s => s.onReady 7 op r i f) s)) (h : s.waits 7 op r i d = true) (ht : f d s = t) :
    exec c s = .next t :=
  exec_of_net hn hc ((State.onReady_of_waits h f).trans ht)

/-! ### Descriptors (R334, R335) -/

section Descriptor
variable {s : State} {d : Desc}

theorem busTx_of_channel (h : d.target < 12) : busTx d s = s.netLoad d := if_pos h

theorem State.netLoad_of_fenced (h : s.chFenced d.target = true) : s.netLoad d = s.finish d stFenced 0 := if_pos h

section Unfenced
variable (h : s.chFenced d.target = false)
include h

theorem State.netLoad_of_not_normal (ht : s.tcvr d.target ≠ 0) : s.netLoad d = s.finish d 0o22 0 :=
  (if_neg (Bool.eq_false_iff.mp h)).trans (if_pos (.inl ht))

theorem linWake_of_not_normal (ht : s.tcvr d.target ≠ 0) : linWake d s = s.finish d 0o22 0 :=
  (if_neg (Bool.eq_false_iff.mp h)).trans (if_pos ht)

theorem linWake_of_normal (ht : s.tcvr d.target = 0) : linWake d s = s.startDesc d :=
  (if_neg (Bool.eq_false_iff.mp h)).trans (if_neg (not_not_intro ht))

variable (ht : s.tcvr d.target = 0) (hg : (s.nch d.target).guard = none)
include ht hg

/-- A channel in NORMAL whose 16 buffers are loaded leaves the descriptor waiting (R333). -/
theorem State.netLoad_of_full (hr : s.txRoom d.target = false) : s.netLoad d = s := by
  simp [State.netLoad, h, ht, hg, hr]

variable (hr : s.txRoom d.target = true)
include hr

/-- The buffer is judged again when its frame is loaded (R44). -/
theorem State.netLoad_of_refused {z : Nat × Nat} (hj : s.txBufJudge d = some z) : s.netLoad d = s.finish d z.1 z.2 := by
  simp [State.netLoad, h, ht, hg, hr, hj]

theorem State.netLoad_of_accepted (hj : s.txBufJudge d = none) :
    s.netLoad d = (s.startDesc d).txLoad d.target { f := s.bufFrame d.w2.toNat, own := some d.id } := by
  simp [State.netLoad, h, ht, hg, hr, hj]

end Unfenced

end Descriptor

theorem linWakeDone_of_running {s : State} {k : Nat} {d : Desc}
    (h : s.descs.find? (fun d => decide (d.eng = 7 ∧ d.opcode = 4 ∧ d.target = 8 + k ∧ d.phase = .running)) = some d) :
    linWakeDone k s = s.finishDone d 0 := by
  simp only [linWakeDone, h]

/-! ### Stored frames (R331, R332) -/

section Stored
variable {s : State} {g : Nat}

theorem State.deliver_of_empty (h : lGet s.net.rx g = []) : s.deliver g = s := by
  simp only [State.deliver, h]

section Waiting
variable {y : Stored} {p : List Stored} {d : Desc} {cap : Nat} (h : lGet s.net.rx g = y :: p) (hw : s.waitingRx (40 + g) = some d)
  (hc : bitsOf d.w3.toNat 10 0 = cap) (ho : s.rangeOff d.w2.toNat cap = false) {u : State}
  (hu : s.modNet (fun q => { q with rx := lPut q.rx g p }) = u)
include h hw hc ho hu

/-- A frame whose data fits the buffer: the RXBUF is done with its length. -/
theorem State.deliver_of_fits (hn : y.f.data.length ≤ (cap - 8) * 2) :
    s.deliver g = (u.putFrame d.w2.toNat y.ch y.f y.t y.f.data.length).finishDone d y.f.data.length := by
  subst hc hu
  simp only [State.deliver, h, hw, ho, Bool.false_eq_true, if_false, if_pos hn, Nat.min_def]

/-- A longer frame is cut to what the buffer takes, and the RXBUF ends TRUNC with its whole length. -/
theorem State.deliver_of_longer (hn : (cap - 8) * 2 < y.f.data.length) :
    s.deliver g = (u.putFrame d.w2.toNat y.ch y.f y.t ((cap - 8) * 2)).finish d 0o23 y.f.data.length := by
  subst hc hu
  simp only [State.deliver, h, hw, ho, Bool.false_eq_true, if_false, if_neg (Nat.not_le.mpr hn), Nat.min_def]

end Waiting

end Stored

/-! ### CAN (R320, R333, R335) -/

section CanSent
variable {s : State} {c : Nat} {x : CanTx} (hl : s.canLive c = true) (ht : s.tcvr c = 0) (hx : s.on (NET_CTC_TXDTO c) = false)
  (hh : s.herdSlot c = none) (hn : nextTx (s.nch c).tx = some x)
include hl ht hx hh hn

/-- The frame that goes next has been sent: it leaves its buffer, and its TX is done with its retransmissions. -/
theorem canSent_of_sent {u : State} {n : Nat} {d : Desc}
    (hu : ((s.modNch c (fun y => { y with tx := y.tx.erase x })).canState c (s.fld (NET_CSTAT_TEC c) - 1)
      (s.fld (NET_CSTAT_REC c))).cEvent c 2 = u)
    (ho : x.own = some n) (hd : u.descId n = some d) : canSent c 0 s = u.finishDone d (satTo 511 x.retx) := by
  subst hu
  simp [canSent, hl, ht, hx, hh, hn, ho, hd]

/-- A failed frame stays loaded without a limit of retransmissions, one more of them counted. -/
theorem canSent_of_failed {u : State} {lec : Nat} (he : lec ≠ 0) (hb : s.fld (NET_CSTAT_TEC c) + 8 ≤ 255)
    (hu : (s.canErr c lec).canState c (s.fld (NET_CSTAT_TEC c) + 8) (s.fld (NET_CSTAT_REC c)) = u)
    (hr : u.fld (NET_CCFG_RTX c) = 0) :
    canSent c lec s
      = u.modNch c (fun y => { y with tx := y.tx.map (fun z => if z = x then { z with retx := satTo 511 (z.retx + 1) } else z) }) := by
  subst hu
  simp [canSent, hl, ht, hx, hh, hn, he, Nat.not_lt.mpr hb, hr]

end CanSent

section CanReceived
variable {s : State} {c : Nat} {f : BusFrame}

theorem canReceived_of_dead (h : s.canLive c = false) (lec : Nat) : canReceived c lec f s = s := by
  simp [canReceived, h]

variable (h : s.canLive c = true)
include h

theorem canReceived_of_error {lec : Nat} (he : lec ≠ 0) :
    canReceived c lec f s = (s.canErr c lec).canState c (s.fld (NET_CSTAT_TEC c)) (s.fld (NET_CSTAT_REC c) + 1) := by
  simp [canReceived, h, he]

/-- With the herd on its own ring a frame is for the wakes, the image agent and the filters. -/
theorem canReceived_of_frame (hr : s.fld (NET_CSTAT_REC c) ≤ 127) (hm : s.on NET_HCFG_MEDIUM = true) :
    canReceived c 0 f s
      = (((((s.canState c (s.fld (NET_CSTAT_TEC c)) (s.fld (NET_CSTAT_REC c) - 1)).cEvent c 1).validFrame c).imgSee c f).filtered c f) := by
  simp [canReceived, h, hm, State.recDown, Nat.not_lt.mpr hr, State.when_false]

end CanReceived

theorem canBusOff_of_on {s : State} {c : Nat} (he : s.chEn c = true) (h : s.fld (NET_CSTAT_CSTATE c) ≠ 2) :
    canBusOff c s
      = (((((((s.setFld (NET_CSTAT_CSTATE c) 2).setFld (NET_CSTAT_TEC c) 255).modNch c (fun y => { y with recov := false })).count
          (NET_CERR_BOFFS c)).cEvent c 9).raise NET_FLAG_BOFF).dropTx c 0o21).record 11 1 c := by
  simp only [canBusOff, h, he, Bool.not_true, Bool.false_eq_true, or_self, if_false]

theorem busOffRecoveryEnd_of_recovering {s : State} {c : Nat} (h : s.fld (NET_CSTAT_CSTATE c) = 2)
    (hr : s.on (NET_CCFG_ABOR c) = true ∨ (s.nch c).recov = true) :
    busOffRecoveryEnd c s = (s.modNch c (fun y => { y with recov := false })).canState c 0 0 :=
  if_pos (by simp [h, hr])

/-! ### LIN (R335, R337) -/

section LinReceived
variable {s : State} {k q : Nat} {f : BusFrame} (hq : 8 + k = q) (he : s.chEn q = true) (ht : s.tcvr q ≤ 1)
  (hr : s.on (NET_LCFG_ROLE k) = false)
include hq he ht hr

section Unasked
variable (hx : (s.nch q).tx = [])
include hx

theorem linReceived_of_frame : linReceived k 0 f s = ((s.lEvent k 0).validFrame q).filtered q f := by
  subst hq
  simp [linReceived, he, ht, hr, hx]

theorem linReceived_of_error {e : Nat} (h : e ≠ 0) : linReceived k e f s = s.linErr k e := by
  subst hq
  simp [linReceived, he, ht, hr, hx, h]

end Unasked

section Transmitted
variable {x : CanTx} {l : List CanTx} (hx : (s.nch q).tx = x :: l) (hs : (s.nch q).short = false) {u : State}
  (hu : s.modNch q (fun y => { y with tx := l }) = u) {d : Desc} (hd : u.ownDesc x = some d)
include hx hs hu hd

theorem linReceived_of_sent (ho : d.opcode = 1) : linReceived k 0 f s = (u.lEvent k 1).finishDone d 0 := by
  subst hq hu
  simp [linReceived, he, ht, hr, hx, hs, hd, ho]

theorem linReceived_of_failed {e : Nat} (h : e ≠ 0) : linReceived k e f s = (u.linErr k e).finish d 0o25 e := by
  subst hq hu
  simp [linReceived, he, ht, hr, hx, hs, hd, h]

end Transmitted

end LinReceived

/-- No response follows a header: its HDR ends, and the frame is no longer loaded. -/
theorem linTimeout_of_header {s : State} {k : Nat} {x : CanTx} {l : List CanTx} {n : Nat} {d : Desc} (hx : (s.nch (8 + k)).tx = x :: l)
    (hn : x.own = some n) (hd : s.descId n = some d) (ho : d.opcode = 3) :
    linTimeout k s = ((s.modNch (8 + k) (fun y => { y with tx := l })).lEvent k 2).finish d 0o24 0 := by
  have hown : s.ownDesc x = some d := by rw [State.ownDesc, hn]; exact hd
  simp only [linTimeout, hx, hown, ho, if_true]

/-! ### Listener streams (R340) -/

theorem listenerFrame_of_empty {s : State} (h : s.zsw.p9in = []) : listenerFrame s = s := by
  simp only [listenerFrame, h]

/-- A frame goes unheard while every listener is disabled. -/
theorem listenerFrame_of_unheard {s : State} {b : List Byte} {l : List (List Byte)} (h : s.zsw.p9in = b :: l) {u : State}
    (hu : s.modZsw (fun z => { z with p9in := l }) = u) (hd : ∀ j < 8, u.on (NET_LSCFG_EN j) = false) : listenerFrame s = u := by
  have none_listens (p : Nat → Bool) : (List.range 8).find? (fun j => u.on (NET_LSCFG_EN j) && p j) = none :=
    List.find?_eq_none.mpr fun j hj => by simp [hd j (List.mem_range.mp hj)]
  subst hu
  simp only [listenerFrame, h, none_listens]

/-! ### The statement on bus frames -/

/-- Settles O38: each command by the equation of its case, NET running. -/
theorem busFrames : Obligations.BusFrames := by
  unfold Obligations.BusFrames
  intro s r i d c k g lec e f x y z l p b hn t q tec rxc
  have code {n : BitVec 3} (h : n ≠ 0) : n.toNat ≠ 0 := fun h0 => h (BitVec.eq_of_toNat_eq h0)
  refine ⟨?tx, ?rxbuf, ?hdr, ?linwake, ?canSent, ?canFailed, ?canDead, ?canError, ?canFrame, ?linFrame, ?linSent, ?stored, ?unstored,
    ?busOff, ?recovered, ?linTimeout, ?linwakeDone, ?talker, ?listenerIdle, ?listener⟩
  case tx =>
    intro hw hc
    have loads {u : State} (h : s.netLoad d = u) : exec (.busTx r i) s = .next u :=
      exec_of_netWaits hn rfl hw ((busTx_of_channel hc).trans h)
    exact ⟨fun hf => loads (State.netLoad_of_fenced hf), fun hf ht => loads (State.netLoad_of_not_normal hf ht),
      fun hf ht hg hr => ⟨fun hj => loads (State.netLoad_of_accepted hf ht hg hr hj),
        fun hj => loads (State.netLoad_of_refused hf ht hg hr hj)⟩,
      fun hf ht hg hr => loads (State.netLoad_of_full hf ht hg hr)⟩
  case rxbuf => exact fun hw => exec_of_netWaits hn rfl hw rfl
  case hdr => exact fun hw hf ht hg hr hj => exec_of_netWaits hn rfl hw (State.netLoad_of_accepted hf ht hg hr hj)
  case linwake =>
    exact fun hw hf => ⟨fun ht => exec_of_netWaits hn rfl hw (linWake_of_normal hf ht),
      fun ht => exec_of_netWaits hn rfl hw (linWake_of_not_normal hf ht)⟩
  case canSent =>
    rintro hl ht hx hh hnext u rfl ho hd
    exact exec_of_net hn rfl (canSent_of_sent hl ht hx hh hnext rfl ho hd)
  case canFailed =>
    intro hl ht hx hh hnext hlec hb u hr
    exact exec_of_net hn rfl (canSent_of_failed hl ht hx hh hnext (code hlec) hb rfl hr)
  case canDead => exact fun hl => exec_of_net hn rfl (canReceived_of_dead hl lec.toNat)
  case canError => exact fun hl hlec => exec_of_net hn rfl (canReceived_of_error hl (code hlec))
  case canFrame =>
    rintro hl rfl hr hm
    exact exec_of_net hn rfl (canReceived_of_frame hl hr hm)
  case linFrame =>
    intro hc ht hr hx
    refine ⟨?_, fun h => exec_of_net hn rfl (linReceived_of_error rfl hc ht hr hx (code h))⟩
    rintro rfl
    exact exec_of_net hn rfl (linReceived_of_frame rfl hc ht hr hx)
  case linSent =>
    intro hc ht hr hx hs u hd ho
    refine ⟨?_, fun h => exec_of_net hn rfl (linReceived_of_failed rfl hc ht hr hx hs rfl hd (code h))⟩
    rintro rfl
    exact exec_of_net hn rfl (linReceived_of_sent rfl hc ht hr hx hs rfl hd ho)
  case stored =>
    intro hx hw ho u n room
    exact ⟨fun h => exec_of_net hn rfl (State.deliver_of_fits hx hw rfl ho rfl h),
      fun h => exec_of_net hn rfl (State.deliver_of_longer hx hw rfl ho rfl h)⟩
  case unstored => exact fun h => exec_of_net hn rfl (State.deliver_of_empty h)
  case busOff => exact fun hc h => exec_of_net hn rfl (canBusOff_of_on hc h)
  case recovered => exact fun h hr => exec_of_net hn rfl (busOffRecoveryEnd_of_recovering h hr)
  case linTimeout => exact fun hx ho hd h3 => exec_of_net hn rfl (linTimeout_of_header hx ho hd h3)
  case linwakeDone => exact fun h => exec_of_net hn rfl (linWakeDone_of_running h)
  case talker => exact exec_of_net hn rfl rfl
  case listenerIdle => exact fun h => exec_of_net hn rfl (listenerFrame_of_empty h)
  case listener =>
    intro h u hd
    exact exec_of_net hn rfl (listenerFrame_of_unheard h rfl hd)

end Sys2Proof.Machine
end

section
/-! PROOFS. The statement on transceivers, wakes, their validation and deafening, and a bus held dominant (R323 to R329). -/

namespace Sys2Proof.Machine

/-! ### Transceivers and dominant buses (R324, R343) -/

section Transceiver
variable {s : State} {c : Nat}

theorem guardDone_of_waiting {v : Nat} (h : (s.nch c).guard = some v) :
    guardDone c s = (s.modNch c (fun x => { x with guard := none })).setTcvr c v := by
  simp only [guardDone, h]

theorem guardDone_of_unguarded (h : (s.nch c).guard = none) : guardDone c s = s := by
  simp only [guardDone, h]

/-- A CAN channel's end of a held level also ends its TXD timeout. -/
theorem dominantEnd_of_can (h : c < 6) :
    dominantEnd c s = (s.modNch c (fun x => { x with dom := false, short := false })).setFld (NET_CTC_TXDTO c) 0 := by
  rw [dominantEnd, decide_eq_true h, State.when_true]

theorem dominantEnd_of_lin (h : 6 ≤ c) : dominantEnd c s = s.modNch c (fun x => { x with dom := false, short := false }) := by
  rw [dominantEnd, decide_eq_false (Nat.not_lt.mpr h), State.when_false]

end Transceiver

theorem chOf_of_can {w : Nat} (h : w < 6) : chOf w = w := if_pos h

theorem chOf_of_lin {w : Nat} (h : 6 ≤ w) : chOf w = w + 2 := if_neg (Nat.not_lt.mpr h)

/-! ### Wakes in BEDDED (R326, R453) -/

section Bedded
variable {s : State} (h : s.pw.mode = .bedded)
include h

theorem canWup_of_nano (hc : s.net.can0 = true) (hd : s.on (NET_WKSTAT_DEAF 0) = false) :
    canWup 0 s = (s.countedWake 0).latchWake 0o03 0 := by
  simp [canWup, h, hc, hd]

theorem canWup_of_nano_deaf (hd : s.on (NET_WKSTAT_DEAF 0) = true) (c : Nat) : canWup c s = s := by
  simp [canWup, h, hd]

theorem canWuf_of_bedded (c : Nat) (ok : Bool) (f : BusFrame) : canWuf c ok f s = s := if_pos (.inl h)

theorem linBusWake_of_bedded (k : Nat) : linBusWake k s = s := if_pos (.inl h)

end Bedded

/-! ### Wakes outside BEDDED (R326) -/

/-- The registers of selective wake lie below the count of frame errors, whose write leaves them. -/
theorem State.fld_setFld_FEC (s : State) (c v : Nat) (g : FRef) {k : Nat} (hg : g.addr = k + 0x10 * c) (hk : k < 0xB209) :
    (s.setFld (NET_SWFEC_FEC c) v).fld g = s.fld g :=
  s.fld_setReg_of_ne _ _ g (hg.trans_lt (Nat.add_lt_add_right hk _)).ne

/-- The count of frame errors is no part of what makes a wake-up frame. -/
theorem State.isWuf_setFld_FEC (s : State) (c v : Nat) (f : BusFrame) : (s.setFld (NET_SWFEC_FEC c) v).isWuf c f = s.isWuf c f := by
  have same := s.fld_setFld_FEC c v
  unfold State.isWuf State.swMask State.on
  rw [same (NET_SWCFG_IDE c) rfl (by decide), same (NET_SWCFG_DLCEN c) rfl (by decide), same (NET_SWCFG_DLC c) rfl (by decide),
    same (NET_SWIDH_IDH c) rfl (by decide), same (NET_SWIDL_IDL c) rfl (by decide), same (NET_SWMH_MH c) rfl (by decide),
    same (NET_SWML_ML c) rfl (by decide), same (NET_SWD0_DM c) rfl (by decide), same (NET_SWD1_DM c) rfl (by decide),
    same (NET_SWD2_DM c) rfl (by decide), same (NET_SWD3_DM c) rfl (by decide)]

section Awake
variable {s : State} (hm : s.pw.mode ≠ .bedded) (hn : s.domSt .net ≠ .off)
include hm hn

theorem canWup_of_unarmed {c : Nat} (h : s.wakeArmed c = false) : canWup c s = s := by
  simp [canWup, hm, hn, h]

theorem linBusWake_of_armed {k : Nat} (h : s.wakeArmed (8 + k) = true) : linBusWake k s = s.chWake (8 + k) :=
  (if_neg (not_or.mpr ⟨hm, hn⟩)).trans (if_pos h)

theorem linBusWake_of_unarmed {k : Nat} (h : s.wakeArmed (8 + k) = false) : linBusWake k s = s :=
  (if_neg (not_or.mpr ⟨hm, hn⟩)).trans (if_neg (Bool.eq_false_iff.mp h))

section Armed
variable {c : Nat} (h : s.wakeArmed c = true)
include h

theorem canWup_of_armed (hs : s.on (NET_CTC_SWEN c) = false) : canWup c s = s.chWake c := by
  simp [canWup, hm, hn, h, hs]

variable (hs : s.on (NET_CTC_SWEN c) = true)
include hs

/-- With selective wake a frame without error lowers the error count, and wakes where it is a wake-up frame. -/
theorem canWuf_of_frame {f : BusFrame} {u : State} (hu : s.setFld (NET_SWFEC_FEC c) (s.fld (NET_SWFEC_FEC c) - 1) = u) :
    canWuf c true f s = u.when (u.isWuf c f) (fun s => s.chWake c) := by
  subst hu
  simp [canWuf, hm, hn, h, hs, State.isWuf_setFld_FEC]

/-- A frame with an error raises the count, which wakes above 31. -/
theorem canWuf_of_error {n : Nat} (hc : satTo 63 (s.fld (NET_SWFEC_FEC c) + 1) = n) (f : BusFrame) :
    canWuf c false f s = (s.setFld (NET_SWFEC_FEC c) n).when (decide (31 < n)) (fun s => s.chWake c) := by
  subst hc
  simp [canWuf, hm, hn, h, hs]

end Armed

end Awake

/-! ### Validation windows and deafening (R328, R329) -/

theorem State.rtcSec_setFld_DEAF (s : State) (w v : Nat) : (s.setFld (NET_WKSTAT_DEAF w) v).rtcSec = s.rtcSec := by
  have high : PCR_RTCH_SEC.addr ≠ rNET_WKSTAT w := by simp only [PCR_RTCH_SEC, rPCR_RTCH, rNET_WKSTAT]; omega
  have low : PCR_RTCL_SEC.addr ≠ rNET_WKSTAT w := by simp only [PCR_RTCL_SEC, rPCR_RTCL, rNET_WKSTAT]; omega
  exact congrArg₂ (fun h l => h * 65536 + l) (s.fld_setReg_of_ne _ _ _ high) (s.fld_setReg_of_ne _ _ _ low)

section Window
variable {s : State} {w : Nat}

theorem windowEnd_of_closed (h : s.on (NET_WKSTAT_WOPEN w) = false) : windowEnd w s = s := if_neg (Bool.eq_false_iff.mp h)

variable (h : s.on (NET_WKSTAT_WOPEN w) = true) {n : Nat} (hn : satTo 15 (s.fld (NET_WKSTAT_FWCNT w) + 1) = n) {u : State}
  (hu : ((s.setFld (NET_WKSTAT_WOPEN w) 0).setFld (NET_WKSTAT_FWCNT w) n).count (NET_WKSTAT_TOTAL w) = u)
include h hn hu

/-- Below the threshold, or without one, a false wake is only counted. -/
theorem windowEnd_of_false_wake (ht : s.fld (NET_WKCFG_FWTH w) = 0 ∨ n < s.fld (NET_WKCFG_FWTH w)) : windowEnd w s = u := by
  subst hn hu
  refine (if_pos h).trans ?_
  rw [State.falseWake, decide_eq_false (by omega), State.when_false]

/-- The false wake that reaches the threshold deafens its source from this second on. -/
theorem windowEnd_of_deafening (ht : s.fld (NET_WKCFG_FWTH w) ≠ 0) (hf : s.fld (NET_WKCFG_FWTH w) ≤ n) {v : State}
    (hv : u.setFld (NET_WKSTAT_DEAF w) 1 = v) :
    windowEnd w s = ((v.modNet (fun x => { x with deafAt := nPut x.deafAt w v.rtcSec })).raise NET_FLAG_DEAF).record 11 7 w := by
  subst hn hu hv
  refine (if_pos h).trans ?_
  rw [State.falseWake, decide_eq_true ⟨ht, hf⟩, State.when_true, State.rtcSec_setFld_DEAF]

end Window

section Deaf
variable {s : State} {w : Nat}

theorem deafEnd_of_endless (h : s.fld (NET_WKCFG_DEAFT w) = 0) : deafEnd w s = s := by
  simp [deafEnd, h, deafTime]

/-- A deafened source hears again when the RTC has counted its time. -/
theorem deafEnd_of_counted (h : s.on (NET_WKSTAT_DEAF w) = true) {t : Nat} (hd : deafTime (s.fld (NET_WKCFG_DEAFT w)) = t) (h0 : t ≠ 0)
    (ht : nGet s.net.deafAt w + t ≤ s.rtcSec) :
    deafEnd w s = (s.setFld (NET_WKSTAT_DEAF w) 0).setFld (NET_WKSTAT_FWCNT w) 0 := by
  subst hd
  exact (if_pos ⟨h0, ht⟩).trans (if_pos h)

end Deaf

/-! ### The statement on wakes -/

/-- Settles O39: each event by the equation of its case for the channel, the wake source and the power state. -/
theorem busWakes : Obligations.BusWakes := by
  unfold Obligations.BusWakes
  intro s c k w v f q
  refine ⟨?running, ?bedded, ?awake, ?windowEnd, ?windowClosed, ?deafEnd, ?deafEndless⟩
  case running =>
    intro hn
    exact ⟨fun h => exec_of_net hn rfl (guardDone_of_waiting h), fun h => exec_of_net hn rfl (guardDone_of_unguarded h),
      exec_of_net hn rfl rfl, exec_of_net hn rfl rfl, exec_of_net hn rfl rfl,
      fun h => exec_of_net hn rfl (dominantEnd_of_can (by rwa [chOf_of_can h])),
      fun h => exec_of_net hn rfl (dominantEnd_of_lin (by rw [chOf_of_lin h]; omega))⟩
  case bedded =>
    exact fun h => ⟨fun hc hd => congrArg Host.Outcome.next (canWup_of_nano h hc hd),
      fun hd => congrArg Host.Outcome.next (canWup_of_nano_deaf h hd c),
      congrArg Host.Outcome.next (canWuf_of_bedded h c true f), congrArg Host.Outcome.next (linBusWake_of_bedded h k)⟩
  case awake =>
    intro hm hn
    refine ⟨fun h hs => congrArg Host.Outcome.next (canWup_of_armed hm hn h hs),
      fun h => congrArg Host.Outcome.next (canWup_of_unarmed hm hn h), ?selective,
      fun h => congrArg Host.Outcome.next (linBusWake_of_armed hm hn h),
      fun h => congrArg Host.Outcome.next (linBusWake_of_unarmed hm hn h)⟩
    case selective =>
      intro h hs u n
      have frame : exec (.canWuf c true f) s = .next (u.when (u.isWuf c f) (fun s => s.chWake c)) :=
        congrArg Host.Outcome.next (canWuf_of_frame hm hn h hs rfl)
      have error : exec (.canWuf c false f) s = .next ((s.setFld (NET_SWFEC_FEC c) n).when (decide (31 < n)) (fun s => s.chWake c)) :=
        congrArg Host.Outcome.next (canWuf_of_error hm hn h hs rfl f)
      exact ⟨fun hf => by rw [frame, hf, State.when_true], fun hf => by rw [frame, hf, State.when_false],
        fun he => by rw [error, decide_eq_false (Nat.not_lt.mpr he), State.when_false],
        fun he => by rw [error, decide_eq_true he, State.when_true]⟩
  case windowEnd =>
    intro h n u
    exact ⟨fun ht => congrArg Host.Outcome.next (windowEnd_of_false_wake h rfl rfl ht),
      fun ht hf => congrArg Host.Outcome.next (windowEnd_of_deafening h rfl rfl ht hf rfl)⟩
  case windowClosed => exact fun h => congrArg Host.Outcome.next (windowEnd_of_closed h)
  case deafEnd =>
    exact fun h hd ht => congrArg Host.Outcome.next (deafEnd_of_counted h (congrArg deafTime hd) (by decide) ht)
  case deafEndless => exact fun h => congrArg Host.Outcome.next (deafEnd_of_endless h)

end Sys2Proof.Machine
end
section
/-! PROOFS. The statement on the herd ring: its states and its messages (R346 to R358). -/

namespace Sys2Proof.Machine

/-! ### Messages heard (R349, R358) -/

section Heard
variable {s : State} {typ : Nat} {f : Nat → Nat → Bool → HRing → State → State}

theorem State.hTake_of_empty (h : s.herd.inbox = []) : s.hTake typ f = s := by
  simp only [State.hTake, h]

theorem herdPrep_of_empty (h : s.herd.inbox = []) : herdPrep s = s := by
  rw [herdPrep, State.hTake_of_empty h]

variable {m : List Byte} {l : List (List Byte)} (hi : s.herd.inbox = m :: l) (ht : (m.getD 0 0).toNat % 16 = typ)
  {u : State} (hu : s.modHerd (fun h => { h with inbox := l }) = u)
include hi ht hu

/-- A message with this node's own ID as source: a duplicate ID turns the herd off. -/
theorem State.hTake_of_duplicate (hs : 1 ≤ s.hSt) (hb : (m.getD 1 0).toNat = s.hId) :
    s.hTake typ f = (((u.setHSt 0).hEvt 5).modHerd (fun h => { h with held := none, inbox := [] })).record 11 10 0 := by
  subst hu
  have awake : (s.modHerd (fun h => { h with inbox := l })).hSt ≠ 0 := Nat.one_le_iff_ne_zero.mp hs
  have own : (m.getD 1 0).toNat = (s.modHerd (fun h => { h with inbox := l })).hId := hb
  simp only [State.hTake, hi]
  rw [if_neg (not_not_intro ht), if_neg awake, if_pos own]

/-- In RING and in PREP a message of another node is for its type's rule. -/
theorem State.hTake_of_member (hs : s.hSt = 2 ∨ s.hSt = 3) (hb : (m.getD 1 0).toNat ≠ s.hId) :
    s.hTake typ f = f (m.getD 1 0).toNat (m.getD 2 0).toNat (bitAt (m.getD 3 0).toNat 0)
      ⟨bitAt (m.getD 3 0).toNat 1, (m.getD 3 0).toNat / 4 % 4, (m.getD 4 0).toNat, false⟩ u := by
  subst hu
  have state : (s.modHerd (fun h => { h with inbox := l })).hSt = s.hSt := rfl
  have other : (m.getD 1 0).toNat ≠ (s.modHerd (fun h => { h with inbox := l })).hId := hb
  simp only [State.hTake, hi]
  rw [if_neg (not_not_intro ht), if_neg (by omega), if_neg other, if_neg (by omega : _ ≠ 4), if_neg (by omega)]

end Heard

/-! ### What the writes of the round and of the map leave -/

section Frames
variable (s : State) {f : FRef} (v : Nat)

theorem State.hSt_setFld (h : f.addr ≠ rNET_HSTAT) : (s.setFld f v).hSt = s.hSt := s.fld_setReg_of_ne _ _ _ h.symm

theorem State.hId_setFld (h : f.addr ≠ rNET_HCFG) : (s.setFld f v).hId = s.hId := s.fld_setReg_of_ne _ _ _ h.symm

theorem State.hCons_setFld (h : f.addr ≠ rNET_HCTL) : (s.setFld f v).hCons = s.hCons :=
  congrArg (fun n : Nat => decide (n ≠ 0)) (s.fld_setReg_of_ne _ _ NET_HCTL_CONS h.symm)

end Frames

theorem State.hId_setHMap (s : State) (m : Nat) : (s.setHMap m).hId = s.hId := by
  have fields (u : State) {f : FRef} (v : Nat) (h : f.addr ≠ rNET_HCFG) : (u.setFld f v).hId = u.hId := u.hId_setFld v h
  have changed (u : State) (c : Bool) :
      (u.when c (fun s => (s.hEvt 4).modHerd (fun h => { h with changed := true }))).hId = u.hId := by
    cases c
    · rfl
    · exact fields u _ (by decide)
  unfold State.setHMap
  rw [changed, fields _ _ (by decide), fields _ _ (by decide), fields _ _ (by decide), fields _ _ (by decide), fields _ _ (by decide)]

/-! ### Messages by their types (R351 to R355) -/

section Message
variable {s : State} {m : List Byte} {l : List (List Byte)} (hi : s.herd.inbox = m :: l) (hb : (m.getD 1 0).toNat ≠ s.hId)
  {u : State} (hu : s.modHerd (fun h => { h with inbox := l }) = u)
include hi hb hu

section Ring
variable (ht : (m.getD 0 0).toNat % 16 = 1) {v : State} (hv : u.setFld NET_HRND_ROUND (m.getD 4 0).toNat = v)
include ht hv

/-- A RING for this node is held until it is forwarded. -/
theorem herdRing_of_own (hs : s.hSt = 2) (hd : (m.getD 2 0).toNat = s.hId) {x : HRing}
    (hx : ⟨bitAt (m.getD 3 0).toNat 1, (m.getD 3 0).toNat / 4 % 4, (m.getD 4 0).toNat, false⟩ = x) :
    herdRing s = (v.setFld NET_HSTAT_RUN ((m.getD 3 0).toNat / 4 % 4)).modHerd (fun h => { h with held := some x, last := x }) := by
  have state : v.hSt = 2 := by rw [← hv, u.hSt_setFld _ (by decide), ← hu]; exact hs
  have own : (m.getD 2 0).toNat = v.hId := by rw [← hv, u.hId_setFld _ (by decide), ← hu]; exact hd
  rw [herdRing, State.hTake_of_member hi ht hu (.inl hs) hb]
  simp only [hv, hx, state, if_pos own]

theorem herdRing_of_other (hs : s.hSt = 2) (hd : (m.getD 2 0).toNat ≠ s.hId) : herdRing s = v := by
  have state : v.hSt = 2 := by rw [← hv, u.hSt_setFld _ (by decide), ← hu]; exact hs
  have own : (m.getD 2 0).toNat ≠ v.hId := by rw [← hv, u.hId_setFld _ (by decide), ← hu]; exact hd
  rw [herdRing, State.hTake_of_member hi ht hu (.inl hs) hb]
  simp only [hv, state, if_neg own]

/-- In PREP a RING without consent cancels. -/
theorem herdRing_of_prep (hs : s.hSt = 3) : herdRing s = if bitAt (m.getD 3 0).toNat 0 = true then v else v.hCancel 2 := by
  have state : v.hSt = 3 := by rw [← hv, u.hSt_setFld _ (by decide), ← hu]; exact hs
  rw [herdRing, State.hTake_of_member hi ht hu (.inr hs) hb]
  simp only [hv, state]

end Ring

variable (hs : s.hSt = 2)
include hs

theorem herdPrep_of_ring (ht : (m.getD 0 0).toNat % 16 = 2) : herdPrep s = u.hPrep := by
  have state : u.hSt = 2 := by rw [← hu]; exact hs
  rw [herdPrep, State.hTake_of_member hi ht hu (.inl hs) hb]
  simp [hs, state]

theorem herdAlive_of_ring (ht : (m.getD 0 0).toNat % 16 = 3) :
    herdAlive s = u.hAlive.setHMap (setBit u.hAlive.hMap (m.getD 1 0).toNat) := by
  have state : u.hSt = 2 := by rw [← hu]; exact hs
  rw [herdAlive, State.hTake_of_member hi ht hu (.inl hs) hb]
  simp only [state]

/-- A LEAVE for another successor takes its source off the map. -/
theorem herdLeave_of_other (ht : (m.getD 0 0).toNat % 16 = 4) (hd : (m.getD 2 0).toNat ≠ s.hId) :
    herdLeave s = u.setHMap (clrBit u.hMap (m.getD 1 0).toNat) := by
  have own : (m.getD 2 0).toNat ≠ (u.setHMap (clrBit u.hMap (m.getD 1 0).toNat)).hId := by
    rw [State.hId_setHMap, ← hu]; exact hd
  rw [herdLeave, State.hTake_of_member hi ht hu (.inl hs) hb]
  exact if_neg fun h => own h.2

end Message

/-! ### Enabling and disabling (R350, R354) -/

theorem herdEnable_of_edge {s : State} (h : s.herd.edge = some true) :
    herdEnable s = (s.modHerd (fun h => { h with edge := none })).hAlive := if_pos h

theorem herdEnable_of_no_edge {s : State} (h : s.herd.edge ≠ some true) : herdEnable s = s := if_neg h

section Disable
variable {s : State} (h : s.herd.edge = some false) {u : State}
  (hu : s.modHerd (fun h => { h with edge := none, held := none, inbox := [] }) = u)
include h hu

theorem herdDisable_of_silent (hs : s.hSt = 0 ∨ s.hSt = 4) : herdDisable s = u.setHSt 0 := by
  have quiet : decide (1 ≤ s.hSt ∧ s.hSt ≤ 3) = false := decide_eq_false (by omega)
  rw [herdDisable, if_pos h, hu]
  exact congrArg (State.setHSt · 0) (by rw [quiet, State.when_false])

/-- A node that takes part says that it leaves, with what the RING it holds or last held said. -/
theorem herdDisable_of_member (hs : 1 ≤ s.hSt ∧ s.hSt ≤ 3) {r : HRing} (hr : s.herd.held.getD s.herd.last = r) :
    herdDisable s = (u.hSend (hMsg 4 u.hId (hSuccOf u.hMap u.hId) u.hCons r.allc r.run r.round)).setHSt 0 := by
  rw [herdDisable, if_pos h, hu, hr]
  exact congrArg (State.setHSt · 0) (by rw [decide_eq_true hs, State.when_true])

end Disable

/-! ### Forwarding (R351, R352) -/

theorem herdForward_of_not_ring {s : State} (h : s.hSt ≠ 2) : herdForward s = s := if_pos h

/-- The lead closes the herd with the round, the ID and the consent it has. -/
theorem State.hClose_eq {s u : State} {n : Nat} (hn : (s.fld NET_HRND_ROUND + 1) % 256 = n)
    (hu : (s.setFld NET_HRND_ROUND n).setFld NET_HSTAT_RUN 2 = u) :
    s.hClose = (u.hSend (hMsg 2 u.hId 0 u.hCons u.hCons 2 n)).hPrep := by
  have own : u.hId = s.hId := by rw [← hu, State.hId_setFld _ _ (by decide), State.hId_setFld _ _ (by decide)]
  have cons : u.hCons = s.hCons := by rw [← hu, State.hCons_setFld _ _ (by decide), State.hCons_setFld _ _ (by decide)]
  rw [own, cons, ← hu, ← hn]
  rfl

section Forward
variable {s : State} (hs : s.hSt = 2) (hm : s.hMap ≠ 2 ^ s.hId) {x : HRing} (hx : s.herd.held = some x)
include hs hm hx

theorem herdForward_of_member (hl : s.hIsLead = false) {u : State} (hu : s.modHerd (fun h => { h with held := none }) = u) :
    herdForward s = u.hSend (hMsg 1 u.hId (hSuccOf u.hMap u.hId) u.hCons (x.allc && u.hCons) x.run x.round) := by
  subst hu
  simp only [herdForward, hs, ne_eq, not_true_eq_false, if_false, hm, hx, decide_false, hl, Bool.false_eq_true]
  rfl

/-- The lead's next round: its RUN rises while all consent and the map stays. -/
theorem herdForward_of_lead (hl : s.hIsLead = true) (hf : x.fromLead = false) {n : Nat}
    (hn : (if x.allc && !s.herd.changed then Nat.min 2 (x.run + 1) else 0) = n) :
    herdForward s = if n = 2 then s.hClose else s.hStart n := by
  subst hn
  simp only [herdForward, hs, ne_eq, not_true_eq_false, if_false, hm, hx, decide_false, hl, hf, Bool.false_eq_true, if_true]

end Forward

/-! ### The ends of the herd's times (R350, R353, R356) -/

theorem herdRingLost_of_not_ring {s : State} (h : s.hSt ≠ 2) : herdRingLost s = s := if_pos h

theorem herdRingLost_of_ring {s : State} (h : s.hSt = 2) :
    herdRingLost s = (((s.count NET_HCNT_LOSTS).hEvt 3).record 11 9 0).hAlive := if_neg (not_not_intro h)

section Settle
variable {s : State} (h : s.hSt = 1) {u : State}
  (hu : ((s.setHSt 2).setFld NET_HSTAT_RUN 0).modHerd (fun h => { h with changed := false }) = u)
include h hu

theorem herdSettleEnd_of_member (hl : u.hIsLead = false) : herdSettleEnd s = u := by
  rw [herdSettleEnd, if_neg (not_not_intro h), hu]
  exact if_neg fun hc => Bool.eq_false_iff.mp hl hc.1

theorem herdSettleEnd_of_lead (hl : u.hIsLead = true) (hm : u.hMap ≠ 2 ^ u.hId) : herdSettleEnd s = u.hStart 0 := by
  rw [herdSettleEnd, if_neg (not_not_intro h), hu]
  exact if_pos ⟨hl, hm⟩

end Settle

theorem herdPrepEnd_of_not_prep {s : State} (h : s.hSt ≠ 3) : herdPrepEnd s = s := if_pos h

section PrepEnd
variable {s : State} (h : s.hSt = 3) {u : State} (hu : (s.setHSt 4).hEvt 1 = u)
include h hu

theorem herdPrepEnd_of_manual (ha : u.on NET_HCFG_AUTO = false) : herdPrepEnd s = u := by
  rw [herdPrepEnd, if_neg (not_not_intro h), hu]
  exact if_neg (Bool.eq_false_iff.mp ha)

/-- With AUTO the channels of HSLP go to their sleep states. -/
theorem herdPrepEnd_of_auto (ha : u.on NET_HCFG_AUTO = true) :
    herdPrepEnd s = u.each (netChans.filter (fun c => u.bit NET_HSLP_MASK (srcOf c) && !u.chFenced c)) (fun c u =>
      (u.setChReq c (if u.on NET_HSLP_STBY && decide (c < 6) then 2 else 3)).tcvrRequest c) := by
  rw [herdPrepEnd, if_neg (not_not_intro h), hu]
  exact if_pos ha

end PrepEnd

end Sys2Proof.Machine

/-! ### The statement on the herd ring -/

namespace Sys2Proof

open Machine

/-- Settles O40: each event by the equation of its case for the herd's state, NET running. -/
theorem herdRing : Obligations.HerdRing := by
  unfold Obligations.HerdRing
  intro s m l x hn b taken ring next
  refine ⟨?enable, ?enabled, ?disable, ?ringMessages, ?prepMessages, ?duplicate, ?unheard, ?forward, ?notRing, ?lost, ?settled, ?slept,
    ?notPrep⟩
  case enable => exact fun h => exec_of_net hn rfl (herdEnable_of_edge h)
  case enabled => exact fun h => exec_of_net hn rfl (herdEnable_of_no_edge h)
  case disable =>
    exact fun h => ⟨fun hs => exec_of_net hn rfl (herdDisable_of_silent h rfl hs),
      fun hs => exec_of_net hn rfl (herdDisable_of_member h rfl hs rfl)⟩
  case ringMessages =>
    exact fun hi hs hb => ⟨fun ht hd => exec_of_net hn rfl (herdRing_of_own hi hb rfl ht rfl hs hd rfl),
      fun ht hd => exec_of_net hn rfl (herdRing_of_other hi hb rfl ht rfl hs hd),
      fun ht => exec_of_net hn rfl (herdPrep_of_ring hi hb rfl hs ht),
      fun ht => exec_of_net hn rfl (herdAlive_of_ring hi hb rfl hs ht),
      fun ht hd => exec_of_net hn rfl (herdLeave_of_other hi hb rfl hs ht hd)⟩
  case prepMessages =>
    intro hi hs hb ht u
    have heard := herdRing_of_prep hi hb rfl ht rfl hs
    exact ⟨fun hc => exec_of_net hn rfl (heard.trans (if_pos hc)),
      fun hc => exec_of_net hn rfl (heard.trans (if_neg (Bool.eq_false_iff.mp hc)))⟩
  case duplicate => exact fun hi hs hb ht => exec_of_net hn rfl (State.hTake_of_duplicate hi ht rfl hs hb)
  case unheard =>
    exact fun h => ⟨exec_of_net hn rfl (State.hTake_of_empty h), exec_of_net hn rfl (herdPrep_of_empty h),
      exec_of_net hn rfl (State.hTake_of_empty h), exec_of_net hn rfl (State.hTake_of_empty h)⟩
  case forward =>
    intro hs hm hx
    have leads (hl : s.hIsLead = true) (hf : x.fromLead = false) := herdForward_of_lead hs hm hx hl hf rfl
    refine ⟨fun hl => exec_of_net hn rfl (herdForward_of_member hs hm hx hl rfl), fun hl hf ha => exec_of_net hn rfl ?_,
      fun hl hf ha hc hr => exec_of_net hn rfl ?_, fun hl hf ha hc hr => exec_of_net hn rfl ?_⟩
    · rw [leads hl hf, ha]; rfl
    · rw [leads hl hf, ha, hc, hr]; rfl
    · rw [leads hl hf, ha, hc, hr]
      exact State.hClose_eq rfl rfl
  case notRing =>
    exact fun h => ⟨exec_of_net hn rfl (herdForward_of_not_ring h), exec_of_net hn rfl (herdRingLost_of_not_ring h)⟩
  case lost => exact fun h => exec_of_net hn rfl (herdRingLost_of_ring h)
  case settled =>
    exact fun h => ⟨fun hl => exec_of_net hn rfl (herdSettleEnd_of_member h rfl hl),
      fun hl hm => exec_of_net hn rfl (herdSettleEnd_of_lead h rfl hl hm)⟩
  case slept =>
    exact fun h => ⟨fun ha => exec_of_net hn rfl (herdPrepEnd_of_manual h rfl ha),
      fun ha => exec_of_net hn rfl (herdPrepEnd_of_auto h rfl ha)⟩
  case notPrep => exact fun h => exec_of_net hn rfl (herdPrepEnd_of_not_prep h)

end Sys2Proof
end
section
/-! PROOFS. The statement on frames in and out of the zone switch, its link states, path groups and ageing (R366 to R380). -/

namespace Sys2Proof.Machine

/-! ### Commands of ZSW -/

/-- A command of ZSW, while it runs, is what its chapter says. -/
theorem exec_of_zsw {i : Instr} {f : State → State} {s t : State} (h : s.domOn .zsw = true)
    (hi : exec i s = .next (inDom .zsw f s)) (hf : f s = t) : exec i s = .next t :=
  hi.trans (congrArg Host.Outcome.next ((inDom_of_on h f).trans hf))

/-! ### Registers that the switch's operations leave -/

theorem State.reg_each {α : Type} {g : α → State → State} {k : Nat} (h : ∀ x t, (g x t).reg k = t.reg k) (s : State) (l : List α) :
    (s.each l g).reg k = s.reg k := by
  induction l generalizing s with
  | nil => rfl
  | cons x l ih => exact (ih (g x s)).trans (h x s)

theorem State.reg_when {g : State → State} {k : Nat} (h : ∀ t, (g t).reg k = t.reg k) (s : State) (c : Bool) :
    (s.when c g).reg k = s.reg k := by
  cases c
  · rfl
  · exact h s

theorem State.reg_count_of_ne (s : State) {f : FRef} {k : Nat} (h : k ≠ f.addr) : (s.count f).reg k = s.reg k := s.reg_setReg_of_ne _ h

theorem State.fld_congr {s t : State} {f : FRef} (h : t.reg f.addr = s.reg f.addr) : t.fld f = s.fld f :=
  congrArg (bitsOf · f.hi f.lo) h

theorem State.reg_zCounts (s : State) (p q : Nat) {k : Nat} (hk : k ≠ rZSW_FREE) (hq : k ≠ rZSW_QENT) (hs : ∀ n, k ≠ rZSW_QSTAT n) :
    (s.zCounts p q).reg k = s.reg k := by
  unfold State.zCounts
  rw [State.reg_setFld_of_ne _ _ _ _ (hs _), State.reg_setFld_of_ne _ _ _ _ hq, State.reg_setFld_of_ne _ _ _ _ hk]

theorem State.reg_zRelease (s : State) (i : Nat) {k : Nat} (hk : k ≠ rZSW_FREE) : (s.zRelease i).reg k = s.reg k := by
  unfold State.zRelease
  split
  · rfl
  · exact State.reg_setFld_of_ne _ _ _ _ hk

theorem State.reg_zStore (s : State) (f : ZFrame) (b : Option Nat) (l : List (Nat × Nat)) {k : Nat} (hk : k ≠ rZSW_FREE)
    (hq : k ≠ rZSW_QENT) (hs : ∀ n, k ≠ rZSW_QSTAT n) : (s.zStore f b l).reg k = s.reg k := by
  dsimp only [State.zStore]
  exact (State.reg_each (fun e t => (State.reg_zCounts _ _ _ hk hq hs).trans (State.reg_modZsw t _ k)) _ _).trans (State.reg_modZsw s _ k)

theorem State.reg_setCredit (s : State) (n : Nat) (v : Int) {k : Nat} (hk : ∀ n, k ≠ rETH_QCRD n) :
    (s.setCredit n v).reg k = s.reg k := State.reg_setFld_of_ne _ _ _ _ (hk n)

theorem State.reg_creditEmpty (s : State) (p q : Nat) {k : Nat} (hk : ∀ n, k ≠ rETH_QCRD n) : (s.creditEmpty p q).reg k = s.reg k := by
  unfold State.creditEmpty
  dsimp only
  split
  · exact State.reg_setCredit _ _ _ hk
  · rfl

theorem State.reg_creditSent (s : State) (p q n : Nat) {k : Nat} (hk : ∀ n, k ≠ rETH_QCRD n) :
    (s.creditSent p q n).reg k = s.reg k := by
  unfold State.creditSent
  rw [State.reg_creditEmpty _ _ _ hk]
  refine State.reg_each (fun j t => ?_) _ _
  dsimp only
  split
  · rfl
  · split
    · exact State.reg_setCredit _ _ _ hk
    · split
      · rfl
      · exact State.reg_setCredit _ _ _ hk

/-! ### Ingress (R366 to R368) -/

theorem State.mark_of_unmarked {s : State} {p : Nat} {h : ZHead} (hm : s.on (ETH_MCFG_EN (p * 8 + h.pri)) = false) (n : Nat) :
    s.mark p h n = (s, 0) := by
  simp [State.mark, hm]

/-- A frame of an unknown VLAN is discarded at step 3 of the decision. -/
theorem State.zDecide_of_no_vlan {s : State} {h : ZHead} (he : s.on ZSW_GCTL_EN = true) (hd : h.dst / 16 ≠ 0x0180C200000)
    (hv : s.vlanOf h.vid = none) (p : Nat) (b : List Byte) : s.zDecide p b h = .vlan := by
  simp only [State.zDecide, he, hd, hv, Bool.not_true, Bool.false_eq_true, if_false]

section Ingress
variable {s : State} {p : Nat} {b : List Byte} {ovr : Option Nat} {u : State} (hu : s.count (ZSW_PRXF_RXF p) = u)
include hu

theorem State.zIngress_of_runt (h : b.length < 60) (bad : Bool) :
    s.zIngress p b bad false ovr = (u.count (ZSW_PRXD_BAD p), {}) := by
  subst hu
  unfold State.zIngress
  extract_lets hh n long short need u
  have runt : short = true := decide_eq_true (by omega)
  rw [if_pos runt, State.when_false]

theorem State.fld_MAXLEN_count : u.fld ZSW_GCTL_MAXLEN = s.fld ZSW_GCTL_MAXLEN := by
  subst hu
  exact State.fld_congr (s.reg_count_of_ne (by simp only [ZSW_GCTL_MAXLEN, rZSW_GCTL, ZSW_PRXF_RXF, rZSW_PRXF]; omega))

section Judged
variable {h : ZHead} (hh : s.zHead p b ovr = h) (h60 : 60 ≤ b.length) (hmax : b.length + 4 ≤ u.fld ZSW_GCTL_MAXLEN)
  (hm : u.on (ETH_MCFG_EN (p * 8 + h.pri)) = false)
include hh h60 hmax hm

/-- A good unmarked frame of an unknown VLAN is learned from, and counted as discarded. -/
theorem State.zIngress_of_vlan (hd : u.zDecide p b h = .vlan) :
    s.zIngress p b false false ovr = ((u.macLearn p h).count (ZSW_PRXD_VLAN p), { none_ := false, why := 6 }) := by
  unfold State.zIngress
  rw [hu, hh]
  extract_lets h' n long short need v
  have fits : long = false := decide_eq_false (by rw [← State.fld_MAXLEN_count hu]; omega)
  have whole : short = false := decide_eq_false (by omega)
  have green : v.mark p h' n = (u, 0) := State.mark_of_unmarked hm n
  simp only [fits, whole, green, h', Bool.false_eq_true, if_false, hd, OfNat.zero_ne_ofNat, false_and, State.admitAll, List.isEmpty_nil, Bool.not_true,
    Bool.and_false, Bool.or_self]

/-- A good unmarked frame that a queue admits is learned from and stored; outside PMASK it is no application frame. -/
theorem State.zIngress_of_ports {es : List Nat} {bk : Option Nat} (hd : u.zDecide p b h = .ports es bk) {t : State × ZRes}
    (ht : u.admitAll 0 0 (es.map (fun e => (e, u.queueOf e h.pri))) = t) (ha : t.2.admitted ≠ [])
    (hf : (b.length + 255) / 256 ≤ t.1.zFreeN) {l : State} (hl : t.1.macLearn p h = l)
    (hp : l.bit NET_HUCFG_PMASK p = false) :
    s.zIngress p b false false ovr
      = (l.zStore { bytes := b, port := p, colour := 0, pri := h.pri, vid := h.vid, arrival := l.eth.mc / 64 } bk t.2.admitted, t.2) := by
  have queued : t.2.admitted.isEmpty = false := by simpa using ha
  unfold State.zIngress
  rw [hu, hh]
  extract_lets h' n long short need v
  have fits : long = false := decide_eq_false (by rw [← State.fld_MAXLEN_count hu]; omega)
  have whole : short = false := decide_eq_false (by omega)
  have green : v.mark p h' n = (u, 0) := State.mark_of_unmarked hm n
  have room : decide (t.1.zFreeN < need) = false := decide_eq_false (Nat.not_lt.mpr hf)
  simp only [fits, whole, green, h', Bool.false_eq_true, if_false, hd, OfNat.zero_ne_ofNat, false_and, ht, room, queued, Bool.false_and, Bool.or_self, hl, hp,
    Bool.and_false, State.when_false]

end Judged

end Ingress

theorem frameReceived_of_not_up {s : State} {p : Nat} (h : s.zPort p ≠ 1) (b : List Byte) (bad stomped : Bool) :
    frameReceived p b bad stomped s = s := if_pos h

theorem frameReceived_of_up {s : State} {p : Nat} (h : s.zPort p = 1) {b : List Byte} {bad stomped : Bool} {t : State × ZRes}
    (ht : s.zIngress p b bad stomped none = t) : frameReceived p b bad stomped s = t.1.hCheck.hostServe 64 := by
  subst ht
  exact if_neg (not_not_intro h)

/-- The port mask of the herd's application frames is no register of the stored frames. -/
theorem State.bit_PMASK_zStore (s : State) (f : ZFrame) (b : Option Nat) (l : List (Nat × Nat)) (p : Nat) :
    (s.zStore f b l).bit NET_HUCFG_PMASK p = s.bit NET_HUCFG_PMASK p := by
  have same : (s.zStore f b l).fld NET_HUCFG_PMASK = s.fld NET_HUCFG_PMASK :=
    State.fld_congr (s.reg_zStore f b l (by decide) (by decide) (fun n => by
      simp only [NET_HUCFG_PMASK, rNET_HUCFG, rZSW_QSTAT]; omega))
  exact congrArg (bitAt · p) same

/-! ### Egress (R369, R397) -/

section Egress
variable {s : State} {p : Nat}

theorem State.sendEnd_of_idle (h : smFind s.zsw.sending p = none) : s.sendEnd p = s := by
  simp only [State.sendEnd, h]

theorem State.sendEnd_of_sending {x : ZSend} (h : smFind s.zsw.sending p = some x) :
    s.sendEnd p = (((s.modZsw (fun z => { z with sending := smErase z.sending p })).zRelease x.frame).count
      (ZSW_PTXF_TXF p)).creditSent p x.queue x.wire := by
  simp only [State.sendEnd, h]

/-- The end of a frame leaves the port's link state. -/
theorem State.zPort_sendEnd (s : State) (p q : Nat) : (s.sendEnd p).zPort q = s.zPort q := by
  refine State.fld_congr ?_
  unfold State.sendEnd
  split
  · rw [State.reg_creditSent _ _ _ _ (fun n => by simp only [ZSW_PSTAT_STATE, rZSW_PSTAT, rETH_QCRD]; omega),
      State.reg_count_of_ne _ (by simp only [ZSW_PSTAT_STATE, rZSW_PSTAT, ZSW_PTXF_TXF, rZSW_PTXF]; omega),
      State.reg_zRelease _ _ (by simp only [ZSW_PSTAT_STATE, rZSW_PSTAT, rZSW_FREE]; omega), State.reg_modZsw]
  · rfl

theorem egressSend_of_clear (hp : s.zPort p = 1) (h8 : p ≠ 8) : egressSend p false s = (s.sendEnd p).sendFrom p 8 :=
  if_pos ⟨(s.zPort_sendEnd p p).trans hp, h8⟩

/-- A collision starts nothing; it counts while PLCA is active. -/
theorem egressSend_of_collision (h : p = 6 ∨ p = 7) {u : State} (hu : s.sendEnd p = u) {c : Bool}
    (hc : (u.on (ETH_PLCA_EN p) && u.on (ETH_PSTAT_PLCAA p)) = c) :
    egressSend p true s = u.when c (fun s => s.count (ETH_PLCNT_COLL p)) := by
  subst hu hc
  exact if_pos (by simp [h])

/-- A port that is not UP starts no further frame. -/
theorem egressSend_of_not_up (hp : s.zPort p ≠ 1) {coll : Bool} (h : p ≠ 6 ∧ p ≠ 7 ∨ coll = false) :
    egressSend p coll s = s.sendEnd p := by
  have clear : (coll && decide (p = 6 ∨ p = 7)) = false := by
    rcases h with ⟨h6, h7⟩ | rfl
    · simp [h6, h7]
    · rfl
  have down : (s.sendEnd p).zPort p ≠ 1 := by rwa [State.zPort_sendEnd]
  simp only [egressSend, clear, Bool.false_eq_true, if_false, down, false_and]

end Egress

/-! ### Links (R378, R379, R395) -/

section Link
variable {s : State} {p : Nat}

theorem portLinkUp_of_link (h : s.on (ETH_PSTAT_LINK p) = true) (sqi : Nat) : portLinkUp p sqi s = s := if_pos (by simp [h])

/-- The link of a port of its own PHY comes up. -/
theorem portLinkUp_of_down (hc : s.on (ETH_PCFG_EN p) = true) (hf : s.on (ETH_PSTAT_FENCED p) = false)
    (hl : s.on (ETH_PSTAT_LINK p) = false) (hp : 6 ≤ p) {u : State}
    (hu : (s.setFld (ETH_PSTAT_LINK p) 1).setBitF (ETH_PEVT_EVT p) 0 true = u) (sqi : Nat) : portLinkUp p sqi s = u.zLinkUp p := by
  subst hu
  simp only [portLinkUp, hc, hf, hl, Nat.not_lt.mpr hp, decide_false, Bool.not_true, Bool.false_and, Bool.or_self, Bool.false_eq_true,
    if_false, State.when_false]

theorem State.zLinkUp_of_down (he : s.on (ZSW_PCFG_EN p) = true) (h : s.zPort p = 0) :
    s.zLinkUp p = ((s.setFld (ZSW_PSTAT_STATE p) 1).zEvt p 3).pgRevive p := by
  simp only [State.zLinkUp, he, h, Bool.not_true, Bool.false_eq_true, if_false]

theorem portLinkLost_of_no_link (h : s.on (ETH_PSTAT_LINK p) = false) : portLinkLost p s = s := if_pos (by simp [h])

theorem State.zLinkLost_of_not_up (h : s.zPort p ≠ 1) : s.zLinkLost p = s := if_pos h

/-- A link that the switch core does not use is lost. -/
theorem portLinkLost_of_unused (hl : s.on (ETH_PSTAT_LINK p) = true) (hp : 6 ≤ p) {u : State}
    (hu : ((s.setFld (ETH_PSTAT_LINK p) 0).setBitF (ETH_PEVT_EVT p) 1 true).count (ETH_PCNT_LOSS p) = u) (h : u.zPort p ≠ 1) :
    portLinkLost p s = u.record 13 1 p := by
  rw [portLinkLost, State.linkDown, if_neg (by simp [hl]), decide_eq_false (Nat.not_lt.mpr hp), State.when_false, State.when_true,
    State.when_true, hu, State.zLinkLost_of_not_up h]

theorem portHoldEnd_of_hold (h : s.zPort p = 2) :
    portHoldEnd p s = ((s.zToFlush p).setFld (ZSW_PSTAT_LEFT p) 0).modZsw (fun z => { z with fromHold := insAsc z.fromHold p }) :=
  if_pos h

theorem portHoldEnd_of_not_hold (h : s.zPort p ≠ 2) : portHoldEnd p s = s := if_neg h

theorem flushDone_of_not_flush (h : s.zPort p ≠ 3) : flushDone p s = s := if_pos h

/-- A port flushed without a hold and without a link goes down; its learned entries go, and its buckets move. -/
theorem flushDone_of_no_link (h : s.zPort p = 3) (hh : s.zsw.fromHold.contains p = false) {n : Nat}
    (hn : ((List.range 8).map (fun q => (s.zQueue p q).length)).foldl (· + ·) 0 = n) {u : State}
    (hu : ((s.each (List.range 8) (fun q s => (s.zPurge p q).creditEmpty p q)).countBy (ZSW_PFLUSH_FLUSH p) n).modZsw (fun z =>
      { z with fromHold := z.fromHold.filter (fun x => decide (x ≠ p)) }) = u) (hl : u.on (ETH_PSTAT_LINK p) = false) :
    flushDone p s = (((u.setFld (ZSW_PSTAT_STATE p) 0).zEvt p 2).macFlushPort p).pgFail p := by
  rw [flushDone, if_neg (not_not_intro h)]
  simp only [hn, hh, hu, hl, Bool.false_and, Bool.false_eq_true, if_false, State.when_false]

end Link

/-! ### Path groups and ageing (R370, R373) -/

section Bucket
variable {s : State} {g b : Nat}

theorem bucketReturn_of_home (he : s.on (ZSW_PGCFG_EN g) = true) (hh : s.pgHome g b ≠ s.pgCur g b) (hc : s.pgCount g b = 0)
    (hd : s.bit (ZSW_PGSTAT_DEAD g) b = false) (hp : s.pgPort g (s.pgHome g b) < 10) (hu : s.zPort (s.pgPort g (s.pgHome g b)) = 1) :
    bucketReturn g b s = s.pgMove g b (s.pgHome g b) :=
  if_pos (by simp [he, hh, hc, hd, hp, hu])

theorem bucketReturn_of_queued (h : s.pgCount g b ≠ 0) : bucketReturn g b s = s := if_neg (by simp [h])

end Bucket

theorem macAgeing_of_on {s : State} (h : s.on ZSW_GCTL_AGE = true) (v m : Nat) :
    macAgeing v m s = s.setMacs (s.zsw.macs.filter (fun e => e.static || !decide (e.vid = v ∧ e.mac = m))) := if_pos h

theorem macAgeing_of_off {s : State} (h : s.on ZSW_GCTL_AGE = false) (v m : Nat) : macAgeing v m s = s :=
  if_neg (Bool.eq_false_iff.mp h)

/-! ### The statement on the switch's ports -/

/-- Settles O43: each event by the equation of its case for the port's state, ZSW running. -/
theorem switchPorts : Obligations.SwitchPorts := by
  unfold Obligations.SwitchPorts
  intro s p q g k bytes bad stomped coll sqi x v m es bk t hz taken
  have port (n : Fin 10) {j : Fin 10} (h : n ≠ j) : (n : Nat) ≠ j := fun e => h (Fin.ext e)
  have multidrop {n : Fin 10} (h : n = 6 ∨ n = 7) : (n : Nat) = 6 ∨ (n : Nat) = 7 := h.imp (congrArg Fin.val) (congrArg Fin.val)
  refine ⟨?portDown, ?runt, ?noVlan, ?stored, ?clear, ?collision, ?silent, ?ended, ?linkUp, ?linked, ?unlinked, ?linkLost, ?holdEnd, ?noHold,
    ?noFlush, ?flushed, ?home, ?queued, ?aged, ?ageless⟩
  case portDown => exact fun h => exec_of_zsw hz rfl (frameReceived_of_not_up h bytes bad stomped)
  case runt =>
    intro h hb
    have heard := frameReceived_of_up h (State.zIngress_of_runt rfl hb bad)
    exact exec_of_zsw hz rfl heard
  case noVlan =>
    intro h hp h60 hmax hm he hd hv
    have heard := frameReceived_of_up hp (State.zIngress_of_vlan rfl rfl h60 hmax hm (State.zDecide_of_no_vlan he hd hv p bytes))
    exact exec_of_zsw hz rfl heard
  case stored =>
    intro h hp h60 hmax hm hd ht ha hf l u hb
    have heard := frameReceived_of_up hp
      (State.zIngress_of_ports rfl rfl h60 hmax hm hd ht ha hf rfl ((State.bit_PMASK_zStore _ _ _ _ _).symm.trans hb))
    exact exec_of_zsw hz rfl heard
  case clear =>
    intro hs hp h8
    exact exec_of_zsw hz rfl ((egressSend_of_clear hp (port q h8)).trans (by rw [State.sendEnd_of_idle hs]))
  case collision =>
    intro hs hq he ha
    exact exec_of_zsw hz rfl (egressSend_of_collision (multidrop hq) (State.sendEnd_of_idle hs) (c := true) (by rw [he, ha]; rfl))
  case silent =>
    intro hs hq he
    exact exec_of_zsw hz rfl (egressSend_of_collision (multidrop hq) (State.sendEnd_of_idle hs) (c := false) (by rw [he]; rfl))
  case ended =>
    intro hs hp hc
    exact exec_of_zsw hz rfl ((egressSend_of_not_up hp (hc.imp_left fun h => ⟨port q h.1, port q h.2⟩)).trans
      (State.sendEnd_of_sending hs))
  case linkUp =>
    intro hc hf hl hp he hd u heu hdu
    exact exec_of_zsw hz rfl ((portLinkUp_of_down hc hf hl hp rfl sqi.toNat).trans (State.zLinkUp_of_down heu hdu))
  case linked => exact fun h => exec_of_zsw hz rfl (portLinkUp_of_link h sqi.toNat)
  case unlinked => exact fun h => exec_of_zsw hz rfl (portLinkLost_of_no_link h)
  case linkLost => exact fun hl hp hu => exec_of_zsw hz rfl (portLinkLost_of_unused hl hp rfl hu)
  case holdEnd => exact fun h => exec_of_zsw hz rfl (portHoldEnd_of_hold h)
  case noHold => exact fun h => exec_of_zsw hz rfl (portHoldEnd_of_not_hold h)
  case noFlush => exact fun h => exec_of_zsw hz rfl (flushDone_of_not_flush h)
  case flushed => exact fun h hh hl => exec_of_zsw hz rfl (flushDone_of_no_link h hh rfl rfl hl)
  case home => exact fun he hh hc hd hp hu => exec_of_zsw hz rfl (bucketReturn_of_home he hh hc hd hp hu)
  case queued => exact fun h => exec_of_zsw hz rfl (bucketReturn_of_queued h)
  case aged => exact fun h => exec_of_zsw hz rfl (macAgeing_of_on h v.toNat m.toNat)
  case ageless => exact fun h => exec_of_zsw hz rfl (macAgeing_of_off h v.toNat m.toNat)

end Sys2Proof.Machine
end
section
/-! PROOFS. The statement on the host port, its window bindings and the buffer auditor (R381 to R388). -/

namespace Sys2Proof.Machine

/-- A host port command whose descriptor waits, ZSW running: the descriptor acts. -/
theorem exec_of_zswWaits {c : Instr} {op r i : Nat} {d : Desc} {f : Desc → State → State} {s t : State} (hz : s.domOn .zsw = true)
    (hc : exec c s = .next (inDom .zsw (fun s => s.onReady 8 op r i f) s)) (h : s.waits 8 op r i d = true) (ht : f d s = t) :
    exec c s = .next t :=
  exec_of_zsw hz hc ((State.onReady_of_waits h f).trans ht)

/-! ### Transmission (R383, R385) -/

section TxFrame
variable {s : State} {d : Desc}

/-- The buffer is judged again when the frame is sent (R44). -/
theorem txFrame_of_refused {e : Nat × Nat} (h : s.hostBufJudge d = some e) : txFrame d s = s.finish d e.1 e.2 := by
  simp only [txFrame, h]

variable (h : s.hostBufJudge d = none) {b : List Byte} (hb : s.bufBytes d.w2.toNat d.w3.toNat = b) {t : State × ZRes}
  (ht : s.zIngress 8 (b ++ List.replicate (60 - b.length) Config.padByte) false false
    (if bitAt d.w4.toNat 17 then some (d.w4.toNat % 8) else none) = t)
include h hb ht

/-- A frame that enters the switch is done with the number of queues that admitted it. -/
theorem txFrame_of_admitted (hw : t.2.why ≠ 6) (ha : t.2.none_ = true ∨ t.2.admitted ≠ []) :
    txFrame d s = t.1.finishDone d t.2.admitted.length := by
  have enters : ¬ (t.2.why = 6 ∨ (!t.2.none_) = true ∧ t.2.admitted.isEmpty = true) := by
    rcases ha with hn | ha
    · simp [hw, hn]
    · simp [hw, ha]
  simp only [txFrame, h, hb, ht]
  exact if_neg enters

/-- A frame that no queue admits ends with the code of its first refusal. -/
theorem txFrame_of_discarded (hw : t.2.why = 6 ∨ (t.2.none_ = false ∧ t.2.admitted = [])) :
    txFrame d s = t.1.finish d 0o20 t.2.why := by
  have refused : t.2.why = 6 ∨ (!t.2.none_) = true ∧ t.2.admitted.isEmpty = true :=
    hw.imp_right fun ⟨hn, ha⟩ => ⟨by rw [hn]; rfl, by rw [ha]; rfl⟩
  simp only [txFrame, h, hb, ht]
  exact if_pos refused

end TxFrame

/-! ### Reception and its bindings (R381, R384) -/

theorem State.hostServe_of_idle {s : State} (h : s.hostWaiting.findSome? s.hostTake = none) (n : Nat) : s.hostServe (n + 1) = s := by
  simp only [State.hostServe, h]

theorem State.hostServe_of_taken {s t : State} (h : s.hostWaiting.findSome? s.hostTake = some t) (n : Nat) :
    s.hostServe (n + 1) = t.hostServe n := by
  simp only [State.hostServe, h]

theorem rxFree_of_bound {s : State} {d : Desc} {b : ZBind}
    (h : s.zsw.binds.find? (fun x => decide (x.ring = d.ring ∧ x.slot = d.w2.toNat)) = some b) :
    rxFree d s = ((s.unbind b).finishDone d 0).hostServe 64 := by
  simp only [rxFree, h]

theorem rxFree_of_unbound {s : State} {d : Desc}
    (h : s.zsw.binds.find? (fun x => decide (x.ring = d.ring ∧ x.slot = d.w2.toNat)) = none) : rxFree d s = s.finish d 0o22 0 := by
  simp only [rxFree, h]

theorem bindingExpiry_of_bound {s : State} {i : Nat} {b : ZBind} (h : s.zsw.binds.find? (fun x => decide (x.slot = i)) = some b)
    (ho : s.on ZSW_HCFG_BTO = true) :
    bindingExpiry i s = (((s.unbind b).raise ZSW_FLAG_BINDTO).record 12 7 i).hostServe 64 := by
  simp only [bindingExpiry, h, ho, if_true]

theorem bindingExpiry_of_unbound {s : State} {i : Nat} (h : s.zsw.binds.find? (fun x => decide (x.slot = i)) = none) :
    bindingExpiry i s = s := by
  simp only [bindingExpiry, h]

/-! ### The auditor (R386, R387) -/

theorem censusTimer_of_idle {s : State} (hp : s.on ZSW_AUDCTL_PER = true) (h : s.zsw.census = none) :
    censusTimer s = (s.modZsw (fun z => { z with census := some (s.takeCensus none) })).setFld ZSW_AUDRES_RESULT 1 := by
  simp [censusTimer, hp, censusStart, h]

theorem censusTimer_of_off {s : State} (h : s.on ZSW_AUDCTL_PER = false) : censusTimer s = s := if_neg (Bool.eq_false_iff.mp h)

theorem censusDone_of_none {s : State} (h : s.zsw.census = none) : censusDone s = s := by
  simp only [censusDone, h]

/-- A first census that finds every cell once passes, and frees none. -/
theorem censusDone_of_clean {s : State} {c : ZCensus} (h : s.zsw.census = some c) (hl : c.leak = []) (hd : c.dup = 0)
    (hf : c.first = none) :
    censusDone s = ((((((s.modZsw (fun z => { z with census := none, out := z.out.filter (fun _ => true) })).setFld ZSW_FREE_FREE
      (s.zFreeN + 0)).setFld ZSW_AUDRES_RESULT 2).setFld ZSW_AUDRES_FOUND c.found).setFld ZSW_AUDLEAK_LEAK 0).setFld ZSW_AUDLEAK_DUP 0).raise
      ZSW_FLAG_AUDDONE := by
  simp only [censusDone, h, hl, hd, hf, List.length_nil, ne_eq, not_true_eq_false, or_self, decide_false, Bool.false_and,
    State.when_false, State.raiseIf, Bool.false_eq_true, if_false, List.contains_nil, Bool.not_false]
  rfl

/-! ### The statement on the host port -/

/-- Settles O44: each descriptor and each event by the equation of its case, ZSW running. -/
theorem switchHostPort : Obligations.SwitchHostPort := by
  unfold Obligations.SwitchHostPort
  intro s r i d t b w c e hz sent pad
  refine ⟨?sent, ?refused, ?copyIdle, ?copied, ?bindIdle, ?bound, ?freed, ?unbound, ?expired, ?unexpired, ?timer, ?noTimer, ?clean, ?noCensus⟩
  case sent =>
    intro h hj ht
    refine ⟨fun hw ha => ?_, fun hw => ?_⟩
    · exact exec_of_zswWaits hz rfl h (congrArg (State.hostServe · 64) (txFrame_of_admitted hj rfl ht hw ha))
    · exact exec_of_zswWaits hz rfl h (congrArg (State.hostServe · 64) (txFrame_of_discarded hj rfl ht hw))
  case refused => exact fun h hj => exec_of_zswWaits hz rfl h (congrArg (State.hostServe · 64) (txFrame_of_refused hj))
  case copyIdle => exact fun h hn => exec_of_zswWaits hz rfl h (State.hostServe_of_idle hn 63)
  case copied => exact fun h ht => exec_of_zswWaits hz rfl h (State.hostServe_of_taken ht 63)
  case bindIdle => exact fun h hn => exec_of_zswWaits hz rfl h (State.hostServe_of_idle hn 63)
  case bound => exact fun h ht => exec_of_zswWaits hz rfl h (State.hostServe_of_taken ht 63)
  case freed => exact fun h hb => exec_of_zswWaits hz rfl h (rxFree_of_bound hb)
  case unbound => exact fun h hb => exec_of_zswWaits hz rfl h (rxFree_of_unbound hb)
  case expired => exact fun hb ho => exec_of_zsw hz rfl (bindingExpiry_of_bound hb ho)
  case unexpired => exact fun hb => exec_of_zsw hz rfl (bindingExpiry_of_unbound hb)
  case timer => exact fun hp h => exec_of_zsw hz rfl (censusTimer_of_idle hp h)
  case noTimer => exact fun h => exec_of_zsw hz rfl (censusTimer_of_off h)
  case clean => exact fun h hl hd hf => exec_of_zsw hz rfl (censusDone_of_clean h hl hd hf)
  case noCensus => exact fun h => exec_of_zsw hz rfl (censusDone_of_none h)

end Sys2Proof.Machine
end
section
/-! PROOFS. The statement on PHY faults, PLCA, TC10 and the zone time that follows its master (R396 to R409). -/

namespace Sys2Proof.Machine

/-! ### PHYs and PLCA (R396, R397) -/

section Phy
variable {s : State} {p : Nat}

theorem phyFault_of_on (h : s.on (ETH_PCFG_EN p) = true) (hf : s.on (ETH_PSTAT_FENCED p) = false) :
    phyFault p s = ((s.raise ETH_FLAG_PHYF).pEvent p 7).record 13 2 p := if_neg (by simp [h, hf])

theorem phyFault_of_off (h : s.on (ETH_PCFG_EN p) = false) : phyFault p s = s := if_pos (by simp [h])

theorem beaconLoss_of_active (h : s.on (ETH_PLCA_EN p) = true) (ha : s.on (ETH_PSTAT_PLCAA p) = true) :
    beaconLoss p s = ((s.setFld (ETH_PSTAT_PLCAA p) 0).count (ETH_PLCNT_BCNL p)).record 13 5 p := if_pos (by simp [h, ha])

theorem beacon_of_on (h : s.on (ETH_PLCA_EN p) = true) (hp : s.on (ETH_PCFG_EN p) = true) (hf : s.on (ETH_PSTAT_FENCED p) = false) :
    beacon p s = s.setFld (ETH_PSTAT_PLCAA p) 1 := if_pos (by simp [h, hp, hf])

theorem beacon_of_no_plca (h : s.on (ETH_PLCA_EN p) = false) : beacon p s = s := if_neg (by simp [h])

theorem beaconLoss_of_no_plca (h : s.on (ETH_PLCA_EN p) = false) : beaconLoss p s = s := if_neg (by simp [h])

end Phy

/-! ### TC10 (R398 to R400) -/

section Tc10
variable {s : State} {p : Nat}

theorem lpsAck_of_asked (h : s.tc10 p = 2) : lpsAck p s = ((s.setTc10 p 3).linkDown p false).pEvent p 2 := if_pos h

theorem lpsAck_of_not_asked (h : s.tc10 p ≠ 2) : lpsAck p s = s := if_neg h

theorem sleepTimeout_of_asked (h : s.tc10 p = 2) : sleepTimeout p s = (s.setTc10 p 1).pEvent p 5 := if_pos h

theorem sleepTimeout_of_not_asked (h : s.tc10 p ≠ 2) : sleepTimeout p s = s := if_neg h

section RemoteSleep
variable (h : s.tc10 p = 1 ∨ s.tc10 p = 2) (hl : s.on (ETH_PSTAT_LINK p) = true)
include h hl

theorem remoteSleep_of_accepting (ha : s.on (ETH_TCFG_ACCEPT p) = true) :
    remoteSleep p s = (((s.pEvent p 4).setTc10 p 3).linkDown p false).pEvent p 2 :=
  (if_pos ⟨h, hl⟩).trans (if_pos ha)

theorem remoteSleep_of_refusing (ha : s.on (ETH_TCFG_ACCEPT p) = false) : remoteSleep p s = s.pEvent p 4 :=
  (if_pos ⟨h, hl⟩).trans (if_neg (Bool.eq_false_iff.mp ha))

end RemoteSleep

theorem remoteSleep_of_asleep (h1 : s.tc10 p ≠ 1) (h2 : s.tc10 p ≠ 2) : remoteSleep p s = s := if_neg fun h => not_or.mpr ⟨h1, h2⟩ h.1

/-- What sets a wake's event and counts it leaves the mask of the ports that wake with it. -/
theorem State.wakeEvent_eq {u : State} (hu : ((s.pEvent p 3).raise ETH_FLAG_WAKE).count (ETH_PCNT_WAKES p) = u) :
    s.wakeEvent p = u.each (onesBelow 6 (u.fld (ETH_TCFG_FWD p))) (fun q u => u.tc10SendWup q) := by
  have mask : u.fld (ETH_TCFG_FWD p) = s.fld (ETH_TCFG_FWD p) := by
    subst hu
    refine State.fld_congr ?_
    rw [State.reg_count_of_ne, State.raise, State.reg_setFld_of_ne, State.pEvent, State.setBitF, State.reg_setFld_of_ne] <;>
      simp only [ETH_TCFG_FWD, rETH_TCFG, ETH_PEVT_EVT, rETH_PEVT, ETH_FLAG_WAKE, rETH_FLAG, ETH_PCNT_WAKES, rETH_PCNT] <;> omega
  rw [mask, ← hu]
  rfl

theorem tc10Wup_of_armed (h : s.tc10 p = 3) (ha : s.on (ETH_TSTAT_WKARM p) = true) (hm : s.pw.mode ≠ .bedded)
    (hz : s.domOn .zsw = true) : tc10Wup p s = ((s.setTc10 p 4).wakeEvent p).latchWake 0o05 p :=
  (if_pos ⟨h, ha, hm⟩).trans (congrArg (State.latchWake · 0o05 p) (if_pos hz))

theorem tc10Wup_of_awake (h : s.tc10 p ≠ 3) : tc10Wup p s = s := if_neg fun hc => h hc.1

theorem tc10Wur_of_active (h : s.tc10 p = 1) (hl : s.on (ETH_PSTAT_LINK p) = true) : tc10Wur p s = s.wakeEvent p := if_pos ⟨h, hl⟩

theorem tc10Wur_of_asked (h : s.tc10 p = 2) : tc10Wur p s = (s.setTc10 p 1).pEvent p 6 :=
  (if_neg fun hc => by rw [h] at hc; exact absurd hc.1 (by decide)).trans (if_pos h)

theorem tc10Wur_of_asleep (h1 : s.tc10 p ≠ 1) (h2 : s.tc10 p ≠ 2) : tc10Wur p s = s := (if_neg fun h => h1 h.1).trans (if_neg h2)

end Tc10

/-! ### Zone time (R405 to R409) -/

section ZoneTime
variable {s : State} {p : Nat}

theorem State.unlock_of_locked (h : s.on ETH_ASSTAT_LOCK = true) : s.unlock = (s.setFld ETH_ASSTAT_LOCK 0).raise ETH_FLAG_LOCKL :=
  if_pos h

theorem State.unlock_of_unlocked (h : s.on ETH_ASSTAT_LOCK = false) : s.unlock = s := if_neg (Bool.eq_false_iff.mp h)

section Off
variable (h : s.on ETH_ASCTL_EN = false)
include h

theorem syncFollowUp_of_off (ofs : Int) : syncFollowUp p ofs s = s := if_pos (by simp [h])

theorem gptpHoldover_of_off : gptpHoldover s = s := if_pos (by simp [h])

theorem peerDelay_of_off (ans : Bool) (d : Nat) : peerDelay p ans d s = s := if_pos (by simp [h])

end Off

section On
variable (he : s.on ETH_ASCTL_EN = true)
include he

/-- An offset beyond the threshold steps the counter; a pair also lets the master ports send their own. -/
theorem syncFollowUp_of_step (hg : s.on ETH_ASCTL_GM = false) (hr : s.fld (ETH_ASP_ROLE p) = 2) (hl : s.on (ETH_PSTAT_LINK p) = true)
    {ofs : Int} {u : State} (hu : (s.setFld ETH_ASOFS_OFS (satSigned 18 ofs)).setFld ETH_ASSTAT_HOLD 0 = u)
    (ht : u.ethStepThr < ofs.natAbs) {w : State}
    (hw : (((u.setCounter (((u.eth.mc : Int) - ofs * 64) % ((2 ^ 70 : Nat) : Int)).toNat).modEth (fun e =>
      { e with inN := 0, outN := 0, slew := 0, slewLeft := 0 })).countBy ETH_ASSTAT_STEPS 1).raise ETH_FLAG_TSTEP = w)
    (hk : w.on ETH_ASSTAT_LOCK = false) {v : State} (hv : w.record 13 4 p = v) :
    syncFollowUp p ofs s = v.modEth (fun e => { e with
      sync := (List.range 6).filter (fun q => decide (v.fld (ETH_ASP_ROLE q) = 1) && v.on (ETH_ASP_ASCAP q)) }) := by
  have follows : (!s.on ETH_ASCTL_EN || s.on ETH_ASCTL_GM || decide (s.fld (ETH_ASP_ROLE p) ≠ 2) || !s.on (ETH_PSTAT_LINK p)) = false := by
    simp [he, hg, hr, hl]
  rw [syncFollowUp, follows]
  simp only [Bool.false_eq_true, if_false, hu, if_pos ht, hw, State.unlock_of_unlocked hk, hv]

theorem gptpHoldover_of_locked (hg : s.on ETH_ASCTL_GM = false) (hh : s.on ETH_ASSTAT_HOLD = false) {u : State}
    (hu : (s.setFld ETH_ASSTAT_HOLD 1).raise ETH_FLAG_THOLD = u) (hk : u.on ETH_ASSTAT_LOCK = true) :
    gptpHoldover s = (((u.setFld ETH_ASSTAT_LOCK 0).raise ETH_FLAG_LOCKL).modEth (fun e =>
      { e with slew := 0, slewLeft := 0, inN := 0, outN := 0 })).record 13 3 0 := by
  have follows : (!s.on ETH_ASCTL_EN || s.on ETH_ASCTL_GM || s.on ETH_ASSTAT_HOLD) = false := by simp [he, hg, hh]
  rw [gptpHoldover, follows, if_neg Bool.false_ne_true, hu, State.unlock_of_locked hk]

variable (hr : s.fld (ETH_ASP_ROLE p) ≠ 0)
include hr

/-- The third good answer in a row makes the port capable. -/
theorem peerDelay_of_third_answer (hn : 2 ≤ nGet s.eth.pdOk p) {d : Nat} (hd : d ≤ s.fld ETH_ASCTL_PDTH * 10) (hm : d < 2 ^ 18) :
    peerDelay p true d s = ((s.setFld (ETH_ASPD_PD p) d).modEth (fun e =>
      { e with pdOk := nPut e.pdOk p 3, pdMiss := nPut e.pdMiss p 0 })).setFld (ETH_ASP_ASCAP p) 1 := by
  have third : satTo 3 (nGet s.eth.pdOk p + 1) = 3 := by unfold satTo; split <;> omega
  have shown : satTo (2 ^ 18 - 1) d = d := if_pos (by omega)
  simp only [peerDelay, he, hr, hd, third, shown, Bool.not_true, decide_false, Bool.or_self, Bool.false_eq_true, if_false, if_true,
    decide_true, State.when_true]

/-- The third miss in a row makes the port incapable. -/
theorem peerDelay_of_third_miss (hn : 2 ≤ nGet s.eth.pdMiss p) (d : Nat) :
    peerDelay p false d s = ((s.count (ETH_ASCNT_PDMISS p)).modEth (fun e =>
      { e with pdOk := nPut e.pdOk p 0, pdMiss := nPut e.pdMiss p 3 })).setFld (ETH_ASP_ASCAP p) 0 := by
  have third : satTo 3 (nGet s.eth.pdMiss p + 1) = 3 := by unfold satTo; split <;> omega
  simp only [peerDelay, he, hr, third, Bool.not_true, decide_false, Bool.or_self, Bool.false_eq_true, if_false, decide_true,
    State.when_true]

end On

end ZoneTime

/-! ### The statement on Ethernet ports -/

/-- Settles O45: each event by the equation of its case for the port's state, ZSW running. -/
theorem ethernetPorts : Obligations.EthernetPorts := by
  unfold Obligations.EthernetPorts
  intro s p b n ofs ans d hz
  refine ⟨?fault, ?noPhy, ?beaconLost, ?beacon, ?noPlca, ?asked, ?notAsked, ?accepted, ?heard, ?wup, ?wur, ?asleep, ?noWup, ?timeless,
    ?step, ?holdover, ?answered, ?missed⟩
  case fault => exact fun h hf => exec_of_zsw hz rfl (phyFault_of_on h hf)
  case noPhy => exact fun h => exec_of_zsw hz rfl (phyFault_of_off h)
  case beaconLost => exact fun h ha => exec_of_zsw hz rfl (beaconLoss_of_active h ha)
  case beacon => exact fun h hp hf => exec_of_zsw hz rfl (beacon_of_on h hp hf)
  case noPlca => exact fun h => ⟨exec_of_zsw hz rfl (beacon_of_no_plca h), exec_of_zsw hz rfl (beaconLoss_of_no_plca h)⟩
  case asked =>
    exact fun h => ⟨exec_of_zsw hz rfl (lpsAck_of_asked h), exec_of_zsw hz rfl (sleepTimeout_of_asked h),
      exec_of_zsw hz rfl (tc10Wur_of_asked h)⟩
  case notAsked => exact fun h => ⟨exec_of_zsw hz rfl (lpsAck_of_not_asked h), exec_of_zsw hz rfl (sleepTimeout_of_not_asked h)⟩
  case accepted => exact fun h hl ha => exec_of_zsw hz rfl (remoteSleep_of_accepting h hl ha)
  case heard => exact fun h hl ha => exec_of_zsw hz rfl (remoteSleep_of_refusing h hl ha)
  case wup =>
    intro h ha hm u
    exact congrArg Host.Outcome.next ((tc10Wup_of_armed h ha hm hz).trans (congrArg (State.latchWake · 0o05 n) (State.wakeEvent_eq rfl)))
  case wur => exact fun h hl => exec_of_zsw hz rfl ((tc10Wur_of_active h hl).trans (State.wakeEvent_eq rfl))
  case asleep => exact fun h1 h2 => ⟨exec_of_zsw hz rfl (tc10Wur_of_asleep h1 h2), exec_of_zsw hz rfl (remoteSleep_of_asleep h1 h2)⟩
  case noWup => exact fun h => congrArg Host.Outcome.next (tc10Wup_of_awake h)
  case timeless =>
    exact fun h => ⟨exec_of_zsw hz rfl (syncFollowUp_of_off h _), exec_of_zsw hz rfl (gptpHoldover_of_off h),
      exec_of_zsw hz rfl (peerDelay_of_off h _ _)⟩
  case step => exact fun he hg hr hl ht hk => exec_of_zsw hz rfl (syncFollowUp_of_step he hg hr hl rfl ht rfl hk rfl)
  case holdover => exact fun he hg hh hk => exec_of_zsw hz rfl (gptpHoldover_of_locked he hg hh rfl hk)
  case answered => exact fun he hr hn hd hm => exec_of_zsw hz rfl (peerDelay_of_third_answer he hr hn hd hm)
  case missed => exact fun he hr hn => exec_of_zsw hz rfl (peerDelay_of_third_miss he hr hn d.toNat)

end Sys2Proof.Machine
end
section
/-! PROOFS. What the accounts of faults and the completions of descriptors leave of the access block, the image agent and the brace
link (R78 to R81, R471 to R482). -/

namespace Sys2Proof.Machine

/-- The agents that keep their state apart from registers, memories and descriptors. -/
def State.agents (s : State) : Immo × Img × Brc := (s.acc, s.img, s.brc)

theorem State.agents_eq_iff {s t : State} : t.agents = s.agents ↔ t.acc = s.acc ∧ t.img = s.img ∧ t.brc = s.brc := by
  simp [State.agents]

section Agents
variable (s : State)

@[simp] theorem State.agents_setReg (k v : Nat) : (s.setReg k v).agents = s.agents := State.agents_eq_iff.mpr ⟨rfl, rfl, rfl⟩
@[simp] theorem State.agents_wr (k : Nat) (v : Word) : (s.wr k v).agents = s.agents := State.agents_eq_iff.mpr ⟨rfl, rfl, rfl⟩
@[simp] theorem State.agents_modFlt (f : Flt → Flt) : (s.modFlt f).agents = s.agents := State.agents_eq_iff.mpr ⟨rfl, rfl, rfl⟩
@[simp] theorem State.agents_modRng (f : Rng → Rng) : (s.modRng f).agents = s.agents := State.agents_eq_iff.mpr ⟨rfl, rfl, rfl⟩
@[simp] theorem State.agents_modPw (f : Pw → Pw) : (s.modPw f).agents = s.agents := State.agents_eq_iff.mpr ⟨rfl, rfl, rfl⟩
@[simp] theorem State.agents_setDescs (l : List Desc) : (s.setDescs l).agents = s.agents := State.agents_eq_iff.mpr ⟨rfl, rfl, rfl⟩

@[simp] theorem State.agents_setFld (f : FRef) (v : Nat) : (s.setFld f v).agents = s.agents := s.agents_setReg _ _
@[simp] theorem State.agents_raise (f : FRef) : (s.raise f).agents = s.agents := s.agents_setFld f 1
@[simp] theorem State.agents_count (f : FRef) : (s.count f).agents = s.agents := s.agents_setFld f _
@[simp] theorem State.agents_setBitF (f : FRef) (i : Nat) (b : Bool) : (s.setBitF f i b).agents = s.agents := s.agents_setFld f _

@[simp] theorem State.agents_when (c : Bool) (g : State → State) : (s.when c g).agents = if c then (g s).agents else s.agents :=
  apply_ite State.agents (c = true) (g s) s

theorem State.agents_each {α : Type} {g : α → State → State} (h : ∀ x t, (g x t).agents = t.agents) (l : List α) :
    (s.each l g).agents = s.agents := by
  induction l generalizing s with
  | nil => rfl
  | cons x l ih => exact (ih (g x s)).trans (h x s)

@[simp] theorem State.agents_traceA (b typ code w1 t : Nat) : (s.traceA b typ code w1 t).agents = s.agents := by
  unfold State.traceA
  split <;> simp

@[simp] theorem State.agents_traceB (b typ code w1 t : Nat) : (s.traceB b typ code w1 t).agents = s.agents := by
  unfold State.traceB State.fifoPut State.shedOne
  split
  · split <;> simp
  · rfl

@[simp] theorem State.agents_latchWake (code d : Nat) : (s.latchWake code d).agents = s.agents := by
  unfold State.latchWake
  split
  · rfl
  · split <;> simp

@[simp] theorem State.agents_refreshFlt (b : Nat) : (s.refreshFlt b).agents = s.agents := by
  unfold State.refreshFlt State.driveFltn
  dsimp only
  split <;> simp

@[simp] theorem State.agents_firstFault (r : FRec) : (s.firstFault r).agents = s.agents := by
  unfold State.firstFault
  split <;> simp

@[simp] theorem State.agents_logEntry (r : FRec) : (s.logEntry r).agents = s.agents := by
  unfold State.logEntry
  dsimp only
  split <;> simp

@[simp] theorem State.agents_logCore (r : FRec) : (s.logCore r).agents = s.agents := by
  simp [State.logCore, State.escalate]

@[simp] theorem State.agents_logRecord (b k inst : Nat) (fnc : Bool) : (s.logRecord b k inst fnc).agents = s.agents := by
  simp [State.logRecord, State.logRecAt]

@[simp] theorem State.agents_setProvp (e t : Nat) (b : Bool) : (s.setProvp e t b).agents = s.agents := by
  unfold State.setProvp
  split <;> simp

@[simp] theorem State.agents_txRelease (o last : Nat) : (s.txRelease o last).agents = s.agents := by
  simp [State.txRelease]

@[simp] theorem State.agents_leave (d : Desc) : (s.leave d).agents = s.agents := by
  unfold State.leave
  dsimp only
  split <;> split <;> simp

@[simp] theorem State.agents_ringStop (r : Nat) : (s.ringStop r).agents = s.agents := by
  unfold State.ringStop
  split
  · rfl
  · simp [State.agents_each, State.ringIrq]

@[simp] theorem State.agents_memFence (k : Nat) : (s.memFence k).agents = s.agents := by
  unfold State.memFence
  split
  · simp [State.agents_each, State.setBankSt]
  · rfl

@[simp] theorem State.agents_eccSingle (k : Nat) : (s.eccSingle k).agents = s.agents := by
  simp [State.eccSingle, State.eccRecord, State.markFenced, State.fenceNote]

@[simp] theorem State.agents_dropDesc (d : Desc) : (s.dropDesc d).agents = s.agents := by
  simp [State.dropDesc]

@[simp] theorem State.agents_gatherDone (c : HeldC) (w1 w7 : Word) : (s.gatherDone c w1 w7).agents = s.agents := by
  unfold State.gatherDone
  split <;> simp

@[simp] theorem State.agents_writeDone (c : HeldC) : (s.writeDone c).agents = s.agents := by
  unfold State.writeDone
  dsimp only
  split <;> simp [State.ringIrq, State.writeW7]

@[simp] theorem State.agents_finish (d : Desc) (st detail : Nat) : (s.finish d st detail).agents = s.agents := by
  unfold State.finish
  dsimp only
  split
  · simp
  · split <;> simp

@[simp] theorem State.agents_provEnd (e t st detail : Nat) (cnt : Option FRef) : (s.provEnd e t st detail cnt).agents = s.agents := by
  unfold State.provEnd
  split
  · dsimp only
    split <;> simp
  · rfl

/-- The end of a provisional is no matter of the access block. -/
theorem State.acc_provEnd (e t st detail : Nat) (cnt : Option FRef) : (s.provEnd e t st detail cnt).acc = s.acc :=
  (State.agents_eq_iff.mp (s.agents_provEnd e t st detail cnt)).1

end Agents

end Sys2Proof.Machine
end
section
/-! PROOFS. The statement on the LF descriptors and the frames of a key (R415 to R438). -/

namespace Sys2Proof.Machine

/-! ### Commands of the LF engine (R437, R485) -/

/-- An LF command, ACT running: the change with its STATE records. -/
theorem exec_of_lf {i : Instr} {f : State → State} {s t : State} (h : s.domOn .act = true)
    (hi : exec i s = .next (inDom .act (lfShown f) s)) (hf : f s = t) : exec i s = .next (t.lfTrace s) :=
  exec_of_act h hi (congrArg (State.lfTrace · s) hf)

/-- A state shows no change against itself. -/
theorem State.lfTrace_self (s : State) : s.lfTrace s = s := s.each_id _ _ fun _ _ => if_pos rfl

theorem exec_of_lf_idle {i : Instr} {f : State → State} {s : State} (h : s.domOn .act = true)
    (hi : exec i s = .next (inDom .act (lfShown f) s)) (hf : f s = s) : exec i s = .next s :=
  (exec_of_lf h hi hf).trans (congrArg Host.Outcome.next s.lfTrace_self)

/-- An LF command whose descriptor waits, ACT running and no ready answer kept: the descriptor acts. -/
theorem exec_of_lfReady {c : Instr} {op r i : Nat} {d : Desc} {f : Desc → State → State} {s t : State} (ha : s.domOn .act = true)
    (hc : exec c s = .next (inDom .act (lfShown (fun s => s.actReady 6 op r i (fun _ s => s) f)) s))
    (h : s.ready 6 op r i d = true) (ht : f d s = t) : exec c s = .next (t.lfTrace s) :=
  exec_of_lf ha hc ((State.actReady_of_ready h _ _).trans ht)

/-! ### Descriptors (R416, R438) -/

section Descriptor
variable {s : State} {d : Desc} {n : Nat} (hn : d.target = n) {u : State} (hu : s.lfSupersede n = u)
include hn hu

section Field
variable (hc : s.confSupersede d = s)
include hc

theorem lfField_of_refused {st : Nat} (h : u.lfRefuse d = some st) : lfField d s = u.finish d st 0 := by
  simp only [lfField, hc, hn, hu, State.lfStart, h]

variable (h : u.lfRefuse d = none)
include h

theorem lfField_of_free (hf : u.acc.field = none) : lfField d s = u.lfCarrier d := by
  simp only [lfField, hc, hn, hu, State.lfStart, h, hf, Option.isSome_none, Bool.false_eq_true, if_false]

theorem lfField_of_taken (hf : u.acc.field ≠ none) : lfField d s = u.setDesc { d with aux := 1 } := by
  simp only [lfField, hc, hn, hu, State.lfStart, h, Option.isSome_iff_ne_none.mpr hf, if_true]

end Field

section Session
variable (hs : (u.lf n).step = .session) (hf : u.acc.field = some n)
include hs hf

theorem lfAccess_of_read (ho : d.opcode = 2) :
    lfAccess d s = ((u.startDesc d).lfSendMac n [0x56, d.w2.toNat]).modLf n (fun x => { x with step := .read, own := some d.id }) := by
  simp only [lfAccess, hn, hu, hs, hf, ho, ne_eq, not_true_eq_false, or_self, if_false, if_true]

theorem lfAccess_of_write (ho : d.opcode = 3) :
    lfAccess d s = ((u.startDesc d).lfSendMac n ([0x57, d.w2.toNat] ++ (numBytes 2 d.w3.toNat ++ numBytes 2 d.w4.toNat))).modLf n
      (fun x => { x with step := .write, own := some d.id }) := by
  simp only [lfAccess, hn, hu, hs, hf, ho, ne_eq, not_true_eq_false, or_self, if_false, Nat.reduceEqDiff]

end Session

theorem lfAccess_of_no_field (hf : u.acc.field ≠ some n) : lfAccess d s = u.finish d 0o24 0 := by
  simp only [lfAccess, hn, hu]
  exact if_pos (.inr hf)

/-- The end of a provisional leaves the field as it was. -/
theorem lfEndCmd_eq : lfEndCmd d s = (u.when (decide (u.acc.field = some n)) (fun s => s.lfSleep n stAborted 0)).finishDone d 0 := by
  have acc : u.acc = s.acc := by
    rw [← hu]
    exact s.acc_provEnd 6 n stSuperseded 0 (some SEQ_PCNT1_PSUP)
  rw [acc, ← hu, ← hn]
  rfl

theorem lfEndCmd_of_field (hf : u.acc.field = some n) : lfEndCmd d s = (u.lfSleep n stAborted 0).finishDone d 0 := by
  rw [lfEndCmd_eq hn hu, decide_eq_true hf, State.when_true]

theorem lfEndCmd_of_no_field (hf : u.acc.field ≠ some n) : lfEndCmd d s = u.finishDone d 0 := by
  rw [lfEndCmd_eq hn hu, decide_eq_false hf, State.when_false]

end Descriptor

section Clear
variable {s : State} {d : Desc}

theorem lfClear_of_fenced (h : s.isFenced 14 d.target = true) : lfClear d s = s.finish d stFenced 0 := if_pos h

variable (h : s.isFenced 14 d.target = false)
include h

theorem lfClear_of_hot (ht : (s.lf d.target).therm = true) : lfClear d s = s.finish d 0o35 0 :=
  (if_neg (Bool.eq_false_iff.mp h)).trans (if_pos ht)

theorem lfClear_of_cool (ht : (s.lf d.target).therm = false) :
    lfClear d s = (s.modLf d.target (fun x => { x with latched := false })).finishDone d 0 :=
  (if_neg (Bool.eq_false_iff.mp h)).trans (if_neg (Bool.eq_false_iff.mp ht))

end Clear

/-! ### Frames of a key (R421 to R424) -/

section Frames
variable {s : State} {c : Nat} {ofs : BitVec 32}

theorem idrep_of_other_step (h : (s.lf c).step ≠ .wake) (id viol crc : Nat) : idrep c id viol crc ofs s = s := if_pos (.inl h)

theorem keyNoAnswer_of_other_step (h : (s.lf c).step ≠ .wake) : keyNoAnswer c s = s := if_pos (.inr (.inl h))

theorem sessionHoldEnd_of_challenge (h : (s.lf c).step = .challenge) : sessionHoldEnd c s = s := if_neg (by simp [LfCh.inSession, h])

theorem sessionTimeout_of_session (h : (s.lf c).step = .session) : sessionTimeout c s = s := if_neg (by simp [h])

variable (hf : s.acc.field = some c)
include hf

/-- No key answers the first WAKE. -/
theorem keyNoAnswer_of_first (h : (s.lf c).step = .wake) (hp : (s.lf c).preLen = 0) (ha : (s.lf c).attempts = 0) :
    keyNoAnswer c s = s.lfSleep c 0o20 0 := by
  simp [keyNoAnswer, hf, h, hp, ha]

theorem sessionHoldEnd_of_session (h : (s.lf c).step = .session) : sessionHoldEnd c s = s.lfSleep c 0o24 0 :=
  if_pos (by simp [hf, LfCh.inSession, h])

theorem sessionTimeout_of_challenge (h : (s.lf c).step = .challenge) : sessionTimeout c s = s.lfSleep c 0o23 0 :=
  if_pos (by simp [hf, h])

theorem lfShort_of_field :
    lfShort c s = (((s.lfEnd c 0o27 0).modLf c (fun y => { y with latched := true })).lfEvt c 7).record 14 1 c :=
  if_neg (not_not_intro hf)

theorem lfAntennaOpen_of_field : lfAntennaOpen c s = ((s.lfEnd c 0o26 0).lfEvt c 6).record 14 2 c := if_neg (not_not_intro hf)

/-- A tuned antenna takes the code found. -/
theorem lfDiagDone_of_tuned (h : (s.lf c).step = .diag) (ha : s.on (ACC_LFCFG_ATUNE c) = true) {code : Nat} (hc : code < 32) :
    lfDiagDone c code 0 s = (s.setFld (ACC_LFSTAT_TUNED c) code).lfEnd c stDone code := by
  have fits : code % 32 = code := Nat.mod_eq_of_lt hc
  simp only [lfDiagDone, hf, h, ha, fits, ne_eq, not_true_eq_false, or_self, if_false, if_true, zero_ne_one, OfNat.zero_ne_ofNat]

variable {t : State} (ht : s.lfAnswer c ofs = t)
include ht

section Wake
variable (h : (s.lf c).step = .wake)
include h

/-- A timing failure is no answer. -/
theorem idrep_of_late (hl : lfLate ofs = true) (id viol crc : Nat) : idrep c id viol crc ofs s = t := by
  simp [idrep, hf, h, hl, ht]

variable (hl : lfLate ofs = false) {viol : Nat} (hv : topBit viol = none) {id crc : Nat}
include hl hv

theorem idrep_of_winner (hc : crc = keyCrc (numBytes 4 id)) : idrep c id viol crc ofs s = t.lfWinner c id := by
  simp [idrep, hf, h, hl, ht, hv, hc]

/-- An ID with a bad CRC is a failed attempt. -/
theorem idrep_of_bad_crc (hc : crc ≠ keyCrc (numBytes 4 id)) :
    idrep c id viol crc ofs s = (t.modLf c (fun x => { x with id := id, heard := true })).lfRetry c := by
  simp [idrep, hf, h, hl, ht, hv, hc]

end Wake

section Challenge
variable (h : (s.lf c).step = .challenge) {rk tk crc : Nat}
include h

/-- An answer that knows the key is confirmed with the other half of the block. -/
theorem authrep_of_good (hl : lfLate ofs = false) (hc : crc = keyCrc (numBytes 8 rk ++ numBytes 8 tk))
    (hk : (aesEnc (numBytes 16 (t.lf c).key) (numBytes 8 (t.lf c).rb ++ numBytes 8 rk)).take 8 = numBytes 8 tk) :
    authrep c rk tk crc ofs s = (t.modLf c (fun x => { x with step := .confirm, rk := rk })).lfSend c
      (0x55 :: (aesEnc (numBytes 16 (t.lf c).key) (numBytes 8 rk ++ numBytes 8 (t.lf c).rb)).drop 8) := by
  simp only [authrep, hf, h, hl, ht, hc, hk, ne_eq, not_true_eq_false, or_self, if_false, decide_true, Bool.and_self, Bool.not_true,
    Bool.or_self, Bool.false_eq_true]

theorem authrep_of_bad_crc (hc : crc ≠ keyCrc (numBytes 8 rk ++ numBytes 8 tk)) : authrep c rk tk crc ofs s = t.lfRetry c := by
  simp only [authrep, hf, h, ht, hc, ne_eq, not_true_eq_false, or_self, if_false, decide_false, Bool.false_and, Bool.not_false,
    Bool.or_true, if_true]

end Challenge

section Ack
variable {status crc : Nat}

theorem keyAck_of_refused (h : (s.lf c).step = .confirm) (hs : status ≠ 0) : keyAck c status crc ofs s = t.lfRetry c := by
  simp [keyAck, hf, h, ht, hs]

variable (hl : lfLate ofs = false) (hc : crc = keyCrc [status])
include hl hc

theorem keyAck_of_confirmed (h : (s.lf c).step = .confirm) (hs : status = 0) : keyAck c status crc ofs s = t.authAck c := by
  simp [keyAck, hf, h, ht, hl, hc, hs]

theorem keyAck_of_personalised (h : (s.lf c).step = .personalise) (hs : status = 0) : keyAck c status crc ofs s = t.learnAck c := by
  simp [keyAck, hf, h, ht, hl, hc, hs]

variable (h : (s.lf c).step = .write)
include h

theorem keyAck_of_written (hs : status = 0) :
    keyAck c status crc ofs s = (t.lfFinish c stDone 0).modLf c (fun x => { x with step := .session, own := none }) := by
  simp [keyAck, hf, h, ht, hl, hc, hs]

theorem keyAck_of_protected (hs : status = 3) :
    keyAck c status crc ofs s = (t.lfFinish c 0o25 0).modLf c (fun x => { x with step := .session, own := none }) := by
  simp [keyAck, hf, h, ht, hl, hc, hs]

end Ack

section Data
variable (h : (s.lf c).step = .read) {d : Desc} (hd : t.lfOwner c = some d) {data mac crc : Nat}
include h hd

theorem keyData_of_bad_crc (hc : crc ≠ keyCrc (numBytes 4 data ++ numBytes 4 mac)) : keyData c data mac crc ofs s = t.lfSleep c 0o22 0 := by
  simp [keyData, hf, h, ht, hd, hc]

/-- A good page for a descriptor without a slot is done, and the session's counter rises. -/
theorem keyData_of_good (hl : lfLate ofs = false) (hc : crc = keyCrc (numBytes 4 data ++ numBytes 4 mac))
    (hm : (t.lf c).mac (numBytes 4 data) = numBytes 4 mac) (hr : d.ring = 64) :
    keyData c data mac crc ofs s = (t.lfFinish c stDone 0).modLf c (fun x =>
      { x with step := .session, own := none, ctr := (x.ctr + 1) % 65536 }) := by
  simp [keyData, hf, h, ht, hd, hl, hc, hm, hr, State.when_false]

end Data

end Frames

/-! ### Drivers and antennas (R417) -/

section Driver
variable {s : State} {c : Nat}

section NoField
variable (h : s.acc.field = none)
include h

theorem lfShort_of_no_field : lfShort c s = s := if_pos (by simp [h])

theorem lfAntennaOpen_of_no_field : lfAntennaOpen c s = s := if_pos (by simp [h])

theorem lfDiagDone_of_no_field (code ant : Nat) : lfDiagDone c code ant s = s := if_pos (.inl (by simp [h]))

/-- A hot driver without a field ends none. -/
theorem lfHot_of_no_field (ht : (s.lf c).therm = false) (hf : s.isFenced 14 c = false) :
    lfHot c s = (((s.modLf c (fun x => { x with therm := true })).raise ACC_FLAG_LFHOT).lfEvt c 5).record 14 3 c := by
  simp only [lfHot, ht, hf, Bool.or_self, Bool.false_eq_true, if_false, h, reduceCtorEq, decide_false, State.when_false]

end NoField

theorem lfHot_of_hot (h : (s.lf c).therm = true) : lfHot c s = s := if_pos (by simp [h])

end Driver

/-! ### The statement on keys -/

/-- Settles O49: each descriptor and each frame by the equation of its case, ACT running. -/
theorem keyFields : Obligations.KeyFields := by
  unfold Obligations.KeyFields
  intro s r i d c id viol crc status rk tk data mac ofs code ant st ha n u x sh here
  have zero {b : Byte} (h : b = 0) : b.toNat = 0 := congrArg BitVec.toNat h
  refine ⟨?field, ?read, ?write, ?noField, ?clear, ?fenced, ?ended, ?done, ?late, ?winner, ?badId, ?unwoken, ?auth, ?badAuth, ?confirmed,
    ?unconfirmed, ?personalised, ?written, ?guarded, ?badData, ?data, ?noAnswer, ?session, ?challenge, ?antenna, ?quiet, ?hot, ?hotter,
    ?cool, ?tuned⟩
  case field =>
    have unconfirmed {op : Nat} (h : s.ready 6 op r i d = true) : s.confSupersede d = s := by
      simp only [State.ready, Bool.and_eq_true] at h
      exact State.confSupersede_of_no_conf h.2 d
    have start {e : Instr} {op : Nat} (he : exec e s = .next (inDom .act (lfShown (fun s => s.actReady 6 op r i (fun _ s => s) lfField)) s))
        (h : s.ready 6 op r i d = true) :
        (u.lfRefuse d = some st → exec e s = .next (sh <| u.finish d st 0))
        ∧ (u.lfRefuse d = none → u.acc.field = none → exec e s = .next (sh <| u.lfCarrier d))
        ∧ (u.lfRefuse d = none → u.acc.field ≠ none → exec e s = .next (sh <| u.setDesc { d with aux := 1 })) :=
      ⟨fun hr => exec_of_lfReady ha he h (lfField_of_refused rfl rfl (unconfirmed h) hr),
        fun hr hf => exec_of_lfReady ha he h (lfField_of_free rfl rfl (unconfirmed h) hr hf),
        fun hr hf => exec_of_lfReady ha he h (lfField_of_taken rfl rfl (unconfirmed h) hr hf)⟩
    exact ⟨start rfl, start rfl, start rfl⟩
  case read => exact fun h hs hf => exec_of_lfReady ha rfl h (lfAccess_of_read rfl rfl hs hf (State.opcode_of_ready h))
  case write => exact fun h hs hf => exec_of_lfReady ha rfl h (lfAccess_of_write rfl rfl hs hf (State.opcode_of_ready h))
  case noField => exact fun h hf => exec_of_lfReady ha rfl h (lfAccess_of_no_field rfl rfl hf)
  case clear =>
    exact fun h hf => ⟨fun ht => exec_of_lfReady ha rfl h (lfClear_of_hot hf ht), fun ht => exec_of_lfReady ha rfl h (lfClear_of_cool hf ht)⟩
  case fenced => exact fun h hf => exec_of_lfReady ha rfl h (lfClear_of_fenced hf)
  case ended => exact fun h hf => exec_of_lfReady ha rfl h (lfEndCmd_of_field rfl rfl hf)
  case done => exact fun h hf => exec_of_lfReady ha rfl h (lfEndCmd_of_no_field rfl rfl hf)
  case late => exact fun hf h hl => exec_of_lf ha rfl (idrep_of_late hf rfl h hl _ _ _)
  case winner => exact fun hf h hl hv hc => exec_of_lf ha rfl (idrep_of_winner hf rfl h hl hv hc)
  case badId => exact fun hf h hl hv hc => exec_of_lf ha rfl (idrep_of_bad_crc hf rfl h hl hv hc)
  case unwoken =>
    exact fun h => ⟨exec_of_lf_idle ha rfl (idrep_of_other_step h _ _ _), exec_of_lf_idle ha rfl (keyNoAnswer_of_other_step h)⟩
  case auth => exact fun hf h hl hc hk => exec_of_lf ha rfl (authrep_of_good hf rfl h hl hc hk)
  case badAuth => exact fun hf h hc => exec_of_lf ha rfl (authrep_of_bad_crc hf rfl h hc)
  case confirmed => exact fun hf h hl hc hs => exec_of_lf ha rfl (keyAck_of_confirmed hf rfl hl hc h (zero hs))
  case unconfirmed =>
    exact fun hf h hs => exec_of_lf ha rfl (keyAck_of_refused hf rfl h fun h0 => hs (BitVec.eq_of_toNat_eq h0))
  case personalised => exact fun hf h hl hc hs => exec_of_lf ha rfl (keyAck_of_personalised hf rfl hl hc h (zero hs))
  case written => exact fun hf h hl hc hs => exec_of_lf ha rfl (keyAck_of_written hf rfl hl hc h (zero hs))
  case guarded => exact fun hf h hl hc hs => exec_of_lf ha rfl (keyAck_of_protected hf rfl hl hc h (congrArg BitVec.toNat hs))
  case badData => exact fun hf h hd hc => exec_of_lf ha rfl (keyData_of_bad_crc hf rfl h hd hc)
  case data => exact fun hf h hd hl hc hm hr => exec_of_lf ha rfl (keyData_of_good hf rfl h hd hl hc hm hr)
  case noAnswer => exact fun hf h hp hn => exec_of_lf ha rfl (keyNoAnswer_of_first hf h hp hn)
  case session =>
    exact fun hf h => ⟨exec_of_lf ha rfl (sessionHoldEnd_of_session hf h), exec_of_lf_idle ha rfl (sessionTimeout_of_session h)⟩
  case challenge =>
    exact fun hf h => ⟨exec_of_lf ha rfl (sessionTimeout_of_challenge hf h), exec_of_lf_idle ha rfl (sessionHoldEnd_of_challenge h)⟩
  case antenna => exact fun hf => ⟨exec_of_lf ha rfl (lfShort_of_field hf), exec_of_lf ha rfl (lfAntennaOpen_of_field hf)⟩
  case quiet =>
    exact fun h => ⟨exec_of_lf_idle ha rfl (lfShort_of_no_field h), exec_of_lf_idle ha rfl (lfAntennaOpen_of_no_field h),
      exec_of_lf_idle ha rfl (lfDiagDone_of_no_field h _ _)⟩
  case hot => exact fun ht hf h => exec_of_lf ha rfl (lfHot_of_no_field h ht hf)
  case hotter => exact fun h => exec_of_lf_idle ha rfl (lfHot_of_hot h)
  case cool => exact exec_of_lf ha rfl rfl
  case tuned =>
    intro hf h hz hv
    exact exec_of_lf ha rfl ((congrArg (fun a => lfDiagDone c code a s) hz).trans (lfDiagDone_of_tuned hf h hv code.isLt))

end Sys2Proof.Machine
end
section
/-! PROOFS. The statement on the learn session, presence, the crypto engines and the TRNG (R428 to R436). -/

namespace Sys2Proof.Machine

/-! ### Presence (R431, R432) -/

section Proof
variable {s : State}

/-- The first proof opens the window, ends any key authority and is counted. -/
theorem State.presProof_of_closed (h : s.acc.pres = none) (src : Nat) :
    s.presProof src = ((s.modAcc (fun a => { a with pres := some (60 * 32768), auth := 0, evPres := true })).count ACC_PLOG_PROOFS).setFld
      ACC_PRES_SRC src := by
  simp only [State.presProof, h, Option.isSome_none, Bool.false_eq_true, if_false]

/-- A further proof restarts the 60 s. -/
theorem State.presProof_of_open {k : Nat} (h : s.acc.pres = some k) (src : Nat) :
    s.presProof src = (s.modAcc (fun a => { a with pres := some (60 * 32768) })).setFld ACC_PRES_SRC src := by
  simp only [State.presProof, h, Option.isSome_some, if_true]

theorem State.presClose_of_closed (h : s.acc.pres = none) : s.presClose = s := by
  simp only [State.presClose, h, Option.isSome_none, Bool.false_eq_true, if_false]

section Open
variable {k : Nat} (h : s.acc.pres = some k)
include h

theorem State.presClose_of_no_session (hs : s.acc.shadow = none) :
    s.presClose = ((s.modAcc (fun a => { a with pres := none, auth := 0, evPres := true })).setFld FLT_IMCTL_DNGR 0).setFld
      FLT_IMCTL_LVOVR 0 := by
  simp only [State.presClose, h, hs, Option.isSome_some, Option.isSome_none, if_true, State.when_false]

/-- A learn session ends with the window. -/
theorem State.presClose_of_session (hs : s.acc.shadow.isSome = true) :
    s.presClose = ((s.modAcc (fun a => { a with pres := none, auth := 0, evPres := true, shadow := none, learnLeft := 0 })).setFld
      FLT_IMCTL_DNGR 0).setFld FLT_IMCTL_LVOVR 0 := by
  simp only [State.presClose, h, hs, Option.isSome_some, if_true, State.when_true]
  rfl

end Open

end Proof

/-! ### Crypto engines (R434, R436) -/

section Crypto
variable {s : State} {k : Nat}

theorem cryptoDone_of_crypto (h : s.acc.crypto = some k) (hk : s.acc.kstore = none) :
    cryptoDone s = ((s.setFld ACC_CSTAT_BUSY 0).setFld ACC_CSTAT_RESULT k).modAcc (fun a => { a with crypto := none, evCrypto := true }) := by
  have acc : ((s.setFld ACC_CSTAT_BUSY 0).setFld ACC_CSTAT_RESULT k).acc = s.acc := ((s.setFld _ _).acc_setReg _ _).trans (s.acc_setReg _ _)
  unfold cryptoDone
  simp only [h]
  rw [State.acc_modAcc, acc, hk]

theorem cryptoDone_of_kstore (h : s.acc.crypto = none) (hk : s.acc.kstore = some k) :
    cryptoDone s = ((s.setFld ACC_KSTAT_BUSY 0).setFld ACC_KSTAT_RESULT k).modAcc (fun a => { a with kstore := none, evEnrol := true }) := by
  simp only [cryptoDone, h, hk]

theorem cryptoDone_of_idle (h : s.acc.crypto = none) (hk : s.acc.kstore = none) : cryptoDone s = s := by
  simp only [cryptoDone, h, hk]

end Crypto

/-! ### The statement on presence -/

/-- Settles O50: each event by the equation of its case, FABRIC running. -/
theorem presenceAndCrypto : Obligations.PresenceAndCrypto := by
  unfold Obligations.PresenceAndCrypto
  intro s k hf opens again
  refine ⟨exec_of_fabric hf rfl rfl, ?svcnOpens, ?svcnAgain, ?svcnLocked, ?powerUp, ?button, ?noButton, ?loop, ?noLoop, ?expired, ?unopened,
    ?crypto, ?kstore, ?idle, ?sessionExpired, ?svcnAsleep, exec_of_fabric hf rfl rfl⟩
  case svcnOpens => exact fun hm hs hp => exec_of_fabric hf rfl ((if_pos ⟨hm, hs⟩).trans (State.presProof_of_closed hp 0))
  case svcnAgain => exact fun hm hs hp => exec_of_fabric hf rfl ((if_pos ⟨hm, hs⟩).trans (State.presProof_of_open hp 0))
  case svcnLocked =>
    exact fun hs => ⟨exec_of_fabric hf rfl (if_neg (by simp [hs])), exec_of_fabric hf rfl (if_pos (by simp [hs]))⟩
  case powerUp => exact fun hp hs => exec_of_fabric hf rfl (if_neg (by simp [hp, hs]))
  case button => exact fun hb hp => exec_of_fabric hf rfl ((if_pos hb).trans (State.presProof_of_closed hp 1))
  case noButton => exact fun hb => exec_of_fabric hf rfl (if_neg (Bool.eq_false_iff.mp hb))
  case loop => exact fun hb hp => exec_of_fabric hf rfl ((if_pos hb).trans (State.presProof_of_closed hp 2))
  case noLoop => exact fun hb => exec_of_fabric hf rfl (if_neg (Bool.eq_false_iff.mp hb))
  case expired => exact fun hp hs => exec_of_fabric hf rfl (State.presClose_of_no_session hp hs)
  case unopened => exact fun hp => exec_of_fabric hf rfl (State.presClose_of_closed hp)
  case crypto => exact fun hc hk => exec_of_fabric hf rfl (cryptoDone_of_crypto hc hk)
  case kstore => exact fun hc hk => exec_of_fabric hf rfl (cryptoDone_of_kstore hc hk)
  case idle => exact fun hc hk => exec_of_fabric hf rfl (cryptoDone_of_idle hc hk)
  case sessionExpired => exact fun hp hs => exec_of_fabric hf rfl (State.presClose_of_session hp hs)
  case svcnAsleep => exact fun hm => exec_of_fabric hf rfl (if_neg fun h => hm h.1)

end Sys2Proof.Machine
end

section
/-! PROOFS. The statement on power modes: requests of modes, the negotiation of an entry, its commit, the exits and the wakes that
latch (R446 to R458). -/

namespace Sys2Proof.Machine

/-! ### Requests of modes and entries (R446 to R450) -/

theorem requestMode_of_other {m : PMode} {s : State} (h : s.phase = 0) (hm : s.pw.mode ≠ m)
    (ha : s.pw.mode = .run ∨ s.pw.mode = .browse) : requestMode m s = s.modPw (fun p => { p with mode := m }) :=
  if_pos ⟨h, hm, ha⟩

theorem requestMode_of_same {m : PMode} {s : State} (h : s.pw.mode = m) : requestMode m s = s.raise PCR_FLAG_ENCREF :=
  if_neg fun hc => hc.2.1 h

theorem requestMode_of_entry {s : State} (m : PMode) (h : s.phase ≠ 0) : requestMode m s = s.raise PCR_FLAG_ENCREF :=
  if_neg fun hc => h hc.1

theorem requestEntry_of_other_core {c : CoreId} (bedded : Bool) (s : State) (h : c ≠ .s) :
    requestEntry c bedded s = s.raise PCR_FLAG_WRREF := if_pos h

theorem requestEntry_of_entry (bedded : Bool) {s : State} (h : s.phase ≠ 0) :
    requestEntry .s bedded s = s.raise PCR_FLAG_ENCREF := (if_neg (by decide)).trans (if_pos (.inl h))

theorem requestEntry_of_run (bedded : Bool) {s : State} (h : s.phase = 0) (hm : s.pw.mode = .run) :
    requestEntry .s bedded s = (((s.setFld PCR_ENTRY_PHASE 1).setReg rPCR_ENTRYST 0).tracePower 1 0 0).modPw (fun p => { p with
      entry := some (if bedded then .bedded else .rest), back := p.mode, forced := false, wake := none, acks := 0, delays := 0 }) :=
  (if_neg (by decide)).trans (if_neg (by simp [h, hm]))

theorem forcedEntry_of_other_core {c : CoreId} (bedded : Bool) (s : State) (h : c ≠ .s) :
    forcedEntry c bedded s = s.raise PCR_FLAG_WRREF := if_pos h

theorem forcedEntry_of_run (bedded : Bool) {s : State} (h : s.phase < 2) (hm : s.pw.mode = .run) :
    forcedEntry .s bedded s = (s.setReg rPCR_ENTRYST 0).forceEntry bedded 1 :=
  (if_neg (by decide)).trans (if_neg (by simp [hm, h]))

/-! ### The negotiation (R448 to R451) -/

theorem agentAnswer_of_open {s : State} {b : Nat} {a : Answer} (h : s.phase = 1) (hb : bitAt s.pw.acks b = false)
    (ha : s.agentAnswer b (decide (s.pw.entry = some .bedded)) = a) : agentAnswer b s = s.takeAnswer b a :=
  (if_neg (by simp [h, hb])).trans (congrArg (s.takeAnswer b) ha)

theorem agentAnswer_of_other_phase {s : State} (b : Nat) (h : s.phase ≠ 1) : agentAnswer b s = s := if_pos (.inl h)

theorem delayExpiry_of_delay {s : State} {b : Nat} (h : s.phase = 1) (hb : bitAt s.pw.delays b = true)
    (ha : s.agentAnswer b (decide (s.pw.entry = some .bedded)) = .delay) : delayExpiry b s = s.refused b (s.boundCause b) := by
  rw [delayExpiry, if_pos ⟨h, hb⟩, ha]

theorem delayExpiry_of_other_phase {s : State} (b : Nat) (h : s.phase ≠ 1) : delayExpiry b s = s := if_neg fun hc => h hc.1

theorem exec_entryCommit_of_acks {s : State} {bedded : Bool} (h : s.phase = 1) (ha : s.pw.acks = 65535)
    (hm : decide (s.pw.entry = some .bedded) = bedded) : exec .entryCommit s = .next (s.commitStart bedded) :=
  congrArg Host.Outcome.next ((if_pos ⟨h, ha⟩).trans (congrArg s.commitStart hm))

theorem exec_entryCommit_of_other_phase {s : State} (h : s.phase ≠ 1) : exec .entryCommit s = .next s :=
  congrArg Host.Outcome.next (if_neg fun hc => h hc.1)

theorem exec_commitComplete_of_commit {s : State} (h : s.phase = 2) :
    exec .commitComplete s = .next (if s.pw.entry = some .bedded then s.beddedReached else s.restReached) :=
  congrArg Host.Outcome.next (if_pos h)

theorem exec_commitComplete_of_rest {s : State} (h : s.phase = 2) (hm : s.pw.entry = some .rest) :
    exec .commitComplete s = .next s.restReached := by
  rw [exec_commitComplete_of_commit h, hm, if_neg (by decide)]

theorem exec_commitComplete_of_bedded {s : State} (h : s.phase = 2) (hm : s.pw.entry = some .bedded) :
    exec .commitComplete s = .next s.beddedReached := by
  rw [exec_commitComplete_of_commit h, if_pos hm]

theorem exec_commitComplete_of_other_phase {s : State} (h : s.phase ≠ 2) : exec .commitComplete s = .next s :=
  congrArg Host.Outcome.next (if_neg h)

/-! ### Exits (R455 to R458) -/

theorem execRestExit_of_rest {s : State} {w : Wake} (h : s.pw.mode = .rest) (hw : s.pw.wake = some w) :
    execRestExit s = .next (s.restExit w) := by
  simp only [execRestExit, h, hw]

theorem execRestExit_of_not_rest {s : State} (h : s.pw.mode ≠ .rest) : execRestExit s = .next s := by
  simp only [execRestExit]
  split
  · exact absurd ‹_› h
  · rfl

theorem execBeddedExit_of_bedded {s : State} {w : Wake} (h : s.pw.mode = .bedded) (hw : s.pw.wake = some w) :
    execBeddedExit s = .next (s.beddedExit w) := by
  simp only [execBeddedExit, h, hw]

theorem execBeddedExit_of_not_bedded {s : State} (h : s.pw.mode ≠ .bedded) : execBeddedExit s = .next s := by
  simp only [execBeddedExit]
  split
  · exact absurd ‹_› h
  · rfl

/-! ### Wakes that latch (R453, R454, R456) -/

/-- The wake of a source that latches now. -/
def State.wakeNow (s : State) (code d : Nat) : Wake :=
  ⟨code, d, s.pw.entry.isSome, s.rtcSec, s.fld PCR_RTCS_SUB, if s.domOn .act then some s.ztNs else none⟩

theorem State.latchWake_of_no_target {s : State} (code d : Nat) (h : s.wakeTarget = none) : s.latchWake code d = s := by
  rw [State.latchWake, h]

theorem State.latchWake_of_unarmed {s : State} {bedded : Bool} {code d : Nat} (h : s.wakeTarget = some bedded)
    (hk : s.wakeOk bedded code d = false) : s.latchWake code d = s := by
  rw [State.latchWake, h]
  dsimp only
  rw [hk]
  rfl

theorem State.latchWake_of_armed {s : State} {bedded : Bool} {code d : Nat} (h : s.wakeTarget = some bedded)
    (hk : s.wakeOk bedded code d = true) : s.latchWake code d =
      ((s.setBitF PCR_WSRC_SRC (code - 1) true).modPw (fun p =>
        { p with wake := some ((p.wake.getD (s.wakeNow code d)).kept (s.wakeNow code d)) })).when s.pw.entry.isNone
          (fun s => s.setFld PCR_ENTRY_PHASE 3) := by
  rw [State.latchWake, h]
  dsimp only
  rw [hk]
  rfl

theorem State.pw_setBitF (s : State) (f : FRef) (k : Nat) (v : Bool) : (s.setBitF f k v).pw = s.pw := State.pw_setReg s _ _

section Armed
variable {s : State} {bedded : Bool} {code d : Nat} (h : s.wakeTarget = some bedded) (hk : s.wakeOk bedded code d = true)
include h hk

/-- Outside an entry a wake that latches starts the exit; of two the ledger keeps the one of R454. -/
theorem State.latchWake_of_second {w : Wake} (hw : s.pw.wake = some w) (he : s.pw.entry = none) : s.latchWake code d =
    ((s.setBitF PCR_WSRC_SRC (code - 1) true).modPw (fun p => { p with wake := some (w.kept (s.wakeNow code d)) })).setFld
      PCR_ENTRY_PHASE 3 := by
  rw [State.latchWake_of_armed h hk, he]
  refine congrArg (State.setFld · PCR_ENTRY_PHASE 3) ?_
  rw [State.modPw, State.modPw, State.pw_setBitF, hw]
  rfl

/-- During an entry the exit follows the entry. -/
theorem State.latchWake_of_entry (hw : s.pw.wake = none) (he : s.pw.entry ≠ none) : s.latchWake code d =
    (s.setBitF PCR_WSRC_SRC (code - 1) true).modPw (fun p =>
      { p with wake := some ((s.wakeNow code d).kept (s.wakeNow code d)) }) := by
  rw [State.latchWake_of_armed h hk, Option.isNone_eq_false_iff.mpr (Option.isSome_iff_ne_none.mpr he), State.when_false]
  rw [State.modPw, State.modPw, State.pw_setBitF, hw]
  rfl

end Armed

theorem restCompletion_of_found {s : State} {h : HeldC} (hm : s.pw.mode = .rest)
    (hf : s.pw.held.find? (fun x => x.irq && s.bit PCR_RWAKE_GRP (x.ring / 4)) = some h) :
    restCompletion s = s.latchWake 0o12 (h.ring / 4) := by
  rw [restCompletion, hf]
  exact if_pos hm

theorem restCompletion_of_none_held {s : State} (h : s.pw.held = []) : restCompletion s = s := by
  simp [restCompletion, h]

/-! ### The statement on power modes -/

/-- Settles O54: each command by the equation of its case. -/
theorem powerModes : Obligations.PowerModes := by
  unfold Obligations.PowerModes
  intro s c bedded b k w h code detail
  have next {f t : State} (e : f = t) : (.next f : Out State) = .next t := congrArg _ e
  refine ⟨?browsing, ?running, ?entering, ?otherCore, ?entry, ?forced, ?answers, ?noEntry, ?expiry, ?rest, ?bedded,
    ?restCommit, ?beddedCommit, ?noCommit, ?restExit, ?beddedExit, ?noTarget, ?latched, ?unarmed, ?restored, ?completion,
    ?noneHeld, ?hostFrame, ?awake⟩
  case browsing =>
    exact fun hf h0 hm => ⟨exec_of_fabric hf rfl (requestMode_of_other h0 (by simp [hm]) (.inr hm)), exec_of_fabric hf rfl (requestMode_of_same hm)⟩
  case running =>
    exact fun hf h0 hm => ⟨exec_of_fabric hf rfl (requestMode_of_other h0 (by simp [hm]) (.inl hm)), exec_of_fabric hf rfl (requestMode_of_same hm)⟩
  case entering =>
    exact fun hf h0 => ⟨exec_of_fabric hf rfl (requestMode_of_entry _ h0), exec_of_fabric hf rfl (requestMode_of_entry _ h0),
      exec_of_fabric hf rfl (requestEntry_of_entry bedded h0)⟩
  case otherCore =>
    exact fun hf hc => ⟨exec_of_fabric hf rfl (requestEntry_of_other_core bedded s hc),
      exec_of_fabric hf rfl (forcedEntry_of_other_core bedded s hc)⟩
  case entry => exact fun hf h0 hm => exec_of_fabric hf rfl (requestEntry_of_run bedded h0 hm)
  case forced => exact fun hf h2 hm => exec_of_fabric hf rfl (forcedEntry_of_run bedded h2 hm)
  case answers =>
    exact fun h1 hb => ⟨fun ha => next (agentAnswer_of_open h1 hb ha), fun ha => next (agentAnswer_of_open h1 hb ha),
      fun ha => next (agentAnswer_of_open h1 hb ha)⟩
  case noEntry =>
    exact fun h1 => ⟨next (agentAnswer_of_other_phase b h1), next (delayExpiry_of_other_phase b h1), exec_entryCommit_of_other_phase h1⟩
  case expiry => exact fun h1 hb ha => next (delayExpiry_of_delay h1 hb ha)
  case rest => exact fun h1 ha hm => exec_entryCommit_of_acks h1 ha (decide_eq_false (by simp [hm]))
  case bedded => exact fun h1 ha hm => exec_entryCommit_of_acks h1 ha (decide_eq_true hm)
  case restCommit => exact fun h2 hm => exec_commitComplete_of_rest h2 hm
  case beddedCommit => exact fun h2 hm => exec_commitComplete_of_bedded h2 hm
  case noCommit => exact fun h2 => exec_commitComplete_of_other_phase h2
  case restExit => exact fun hm hw => ⟨execRestExit_of_rest hm hw, execBeddedExit_of_not_bedded (by simp [hm])⟩
  case beddedExit => exact fun hm hw => ⟨execBeddedExit_of_bedded hm hw, execRestExit_of_not_rest (by simp [hm])⟩
  case noTarget => exact fun ht => ⟨next (State.latchWake_of_no_target _ _ ht), next (State.latchWake_of_no_target _ _ ht)⟩
  case latched =>
    exact fun ht hk => ⟨fun hw he => next (State.latchWake_of_second ht hk hw he), fun hw he => next (State.latchWake_of_entry ht hk hw he)⟩
  case unarmed => exact fun ht hk => next (State.latchWake_of_unarmed ht hk)
  case restored => exact fun _ _ => rfl
  case completion => exact fun hm hf => next (restCompletion_of_found hm hf)
  case noneHeld => exact fun hn => next (restCompletion_of_none_held hn)
  case hostFrame => exact fun hm => next (if_pos hm)
  case awake => exact fun hm => next (if_neg hm)

end Sys2Proof.Machine
end

section
/-! PROOFS. The statement on resets, clocks, rails, KL30, KL15, the RTC alarm, brown-out, pads and the switch domain (R464 to R469,
R494). -/

namespace Sys2Proof.Machine

/-! ### Clocks and the switch domain (R455, R466) -/

theorem crystalLoss_of_stable {s : State} (h : s.on PCR_CLK_XTALOK = true) (hm : s.pw.mode ≠ .bedded) : crystalLoss s =
    ((s.setFld PCR_CLK_XTALOK 0).setFld PCR_CLK_LOCK (s.fld PCR_CLK_LOCK % 2 + s.fld PCR_CLK_LOCK / 8 * 8)).pll0ToRc.holdNetZsw :=
  if_pos ⟨h, hm⟩

theorem crystalLoss_of_lost {s : State} (h : s.on PCR_CLK_XTALOK = false) : crystalLoss s = s :=
  if_neg fun hc => Bool.eq_false_iff.mp h hc.1

/-- The crystal is stable: what comes before NET and ZSW are released. -/
def State.crystalBack (s : State) : State :=
  ((((s.setFld PCR_CLK_XTALOK 1).setFld PCR_CLK_P0SRC 0).setFld PCR_CLK_LOCK 15).raise PCR_FLAG_XTALR).pcrEvt 5

/-- With ZSW not switched on, only NET is released. -/
theorem State.toCrystal_of_zswOff {s : State} (hz : s.on PCR_DOMCTL_ZSWON = false) {t : State} (ht : s.crystalBack = t)
    (hn : t.pw.net = .off) : s.toCrystal = t.modPw (fun q => { q with net := .on }) := by
  subst ht
  unfold State.toCrystal
  rw [hz]
  exact congrArg (fun p => ({ s.crystalBack with pw := { s.crystalBack.pw with net := p } } : State)) (if_pos hn)

theorem State.netAgain_of_ret {s : State} (h : s.pw.net = .ret) :
    s.netAgain = (s.modPw (fun q => { q with net := .on })).sensServeAll := if_pos h

theorem State.netAgain_of_not_ret {s : State} (h : s.pw.net ≠ .ret) : s.netAgain = s := if_neg h

/-- PCR_DOMCTL.ZSWON written: a switch-on that finds no crystal waits for it. -/
def State.zswonWritten (s : State) (on : Bool) : State :=
  (s.setFld PCR_DOMCTL_ZSWON (b2n on)).modPw (fun q => { q with zswAsked := on && decide (q.zsw = .off) && !s.on PCR_CLK_XTALOK })

theorem zswOn_of_crystal {s t : State} (ht : s.zswonWritten true = t) (hz : t.pw.zsw = .off) (hx : t.on PCR_CLK_XTALOK = true) :
    zswOn true s = t.zswUp.pcrEvt 6 := by
  subst ht
  exact congrArg (fun b => (s.zswonWritten true).when b (fun s => s.zswUp.pcrEvt 6))
    (Bool.and_eq_true_iff.mpr ⟨decide_eq_true hz, hx⟩ : _ = true)

theorem zswOn_of_no_crystal {s t : State} (ht : s.zswonWritten true = t) (hx : t.on PCR_CLK_XTALOK = false) : zswOn true s = t := by
  subst ht
  exact congrArg (fun b => (s.zswonWritten true).when b (fun s => s.zswUp.pcrEvt 6)) (Bool.and_eq_false_iff.mpr (.inr hx) : _ = false)

theorem zswOff_of_down {s t : State} (ht : s.zswonWritten false = t) (h : t.domOn .zsw = false) : zswOn false s = t := by
  subst ht
  exact if_neg (Bool.eq_false_iff.mp h)

theorem zswOff_of_up {s t : State} (ht : s.zswonWritten false = t) (h : t.domOn .zsw = true) : zswOn false s =
    (((t.loseEngines (fun e => decide (e = 8))).domRegs .zsw true).hideZsw).modPw (fun q => { q with zsw := .off }) := by
  subst ht
  exact if_pos h

/-! ### Supplies (R464, R465, R469) -/

section BrownOut
variable {s : State}

/-- A brown-out noted. -/
def State.browned (s : State) : State := s.modPw (fun q => { q with brown := true })

theorem brownOut_of_bedded (h : s.pw.mode = .bedded ∨ s.phase = 2 ∧ s.pw.entry = some .bedded) : brownOut s = s.browned := if_pos h

theorem brownOut_of_negotiation (h : s.pw.mode ≠ .bedded) (hp : s.phase = 1) :
    brownOut s = ((s.browned.record 1 3 0).setFld PCR_ENTRYST_RESULT 3).forceEntry true 0 := by
  have hb : decide (s.phase = 1 ∨ s.phase = 2) = true := decide_eq_true (.inl hp)
  rw [brownOut, if_neg (by simp [h, hp]), hb]
  rfl

theorem brownOut_of_idle (h : s.pw.mode ≠ .bedded) (hp : s.phase = 0) :
    brownOut s = (s.browned.record 1 3 0).forceEntry true 0 := by
  have hb : decide (s.phase = 1 ∨ s.phase = 2) = false := decide_eq_false (by simp [hp])
  rw [brownOut, if_neg (by simp [h, hp]), hb]
  rfl

end BrownOut

theorem kl30Low_of_fall {s : State} (h : s.on PCR_KL_KL30LO = false) :
    kl30Low true s = ((s.setFld PCR_KL_KL30LO 1).raise PCR_FLAG_KL30LO).pcrEvt 3 :=
  if_pos (by simp [h])

theorem kl30Low_of_rise (s : State) : kl30Low false s = s.setFld PCR_KL_KL30LO 0 := rfl

theorem kl15Change_of_same {s : State} {on : Bool} (h : s.on PCR_KL_KL15 = on) : kl15Change on s = s := if_pos h

theorem kl15Change_of_on {s : State} (h : s.on PCR_KL_KL15 = false) :
    kl15Change true s = (((s.setFld PCR_KL_KL15 1).pcrEvt 2).latchWake 0o07 0) := if_neg (by simp [h])

theorem kl15Change_of_off {s : State} (h : s.on PCR_KL_KL15 = true) :
    kl15Change false s = (((s.setFld PCR_KL_KL15 0).pcrEvt 2).latchWake 0o10 0) := if_neg (by simp [h])

theorem rtcAlarm_of_run {s : State} (h : s.rtcSec = s.fld PCR_ALMH_ALM * 65536 + s.fld PCR_ALML_ALM) (hs : s.fld PCR_RTCS_SUB = 0)
    (hm : s.pw.mode = .run) : rtcAlarm s = (s.pcrEvt 7).latchWake 0o11 0 := by
  rw [rtcAlarm, if_pos ⟨h, hs⟩, if_pos (.inl hm)]

theorem rtcAlarm_of_fraction {s : State} (h : s.fld PCR_RTCS_SUB ≠ 0) : rtcAlarm s = s := if_neg fun hc => h hc.2

/-! ### Pads (R459) -/

theorem filter_getLsbD_two_pow : ∀ g : Fin 5, (List.range 5).filter (fun i => (BitVec.ofNat 5 (2 ^ g.val)).getLsbD i) = [g.val] := by
  decide

/-- A release of one group is that group's release, where its domain runs. -/
theorem padRelease_of_group (g : Fin 5) (s : State) : padRelease (BitVec.ofNat 5 (2 ^ g.val)) s =
    if s.domOn (if g.val = 1 then .act else .fabric) then s.setBitF PCR_PAD_LAT g false else s.raise PCR_FLAG_WRREF := by
  rw [padRelease, filter_getLsbD_two_pow]
  rfl

theorem padRelease_of_fabric {g : Fin 5} {s : State} (h : s.domOn .fabric = true) (hg : g.val ≠ 1) :
    padRelease (BitVec.ofNat 5 (2 ^ g.val)) s = s.setBitF PCR_PAD_LAT g false := by
  rw [padRelease_of_group, if_neg hg, if_pos h]

theorem padRelease_of_act_off {s : State} (h : s.domOn .act = false) : padRelease 2#5 s = s.raise PCR_FLAG_WRREF := by
  refine (padRelease_of_group 1 s).trans (if_neg ?_)
  simpa using h

/-! ### The statement on clocks and supplies -/

/-- Settles O55: each event by the equation of its case. -/
theorem clocksAndSupplies : Obligations.ClocksAndSupplies := by
  unfold Obligations.ClocksAndSupplies
  intro s c on rail p g
  have next {f t : State} (e : f = t) : (.next f : Out State) = .next t := congrArg _ e
  refine ⟨rfl, rfl, rfl, ?l4, ?notSafe, ?pllLost, ?pllLostAgain, ?crystal, ?noCrystal, ?crystalBack, ?crystalHere, ?actosc, ?drift,
    ?rail, ?railBedded, ?lock, ?noLock, ?netBack, ?netOn, ?zswOn, ?zswOff, ?brown, ?kl30, next (kl30Low_of_rise s),
    ?kl15Same, ?kl15On, ?kl15Off, ?alarm, ?fraction, ?pad, ?padAct⟩
  case l4 => exact fun hs hr => next (if_pos ⟨hs, hr⟩)
  case notSafe => exact fun hs => next (if_neg fun hc => Bool.eq_false_iff.mp hs hc.1)
  case pllLost => exact fun hf hp => exec_of_fabric hf rfl (if_neg (Bool.eq_false_iff.mp hp))
  case pllLostAgain => exact fun hf hp => exec_of_fabric hf rfl (if_pos hp)
  case crystal => exact fun hx hm => next (crystalLoss_of_stable hx hm)
  case noCrystal => exact fun hx => next (crystalLoss_of_lost hx)
  case crystalBack =>
    exact fun hf hx hz _ hn _ => exec_of_fabric hf rfl ((if_neg (by simp [hx])).trans (State.toCrystal_of_zswOff hz rfl hn))
  case crystalHere => exact fun hf hx hp => exec_of_fabric hf rfl (if_pos (by simp [hx, hp]))
  case actosc => exact fun ha => next (inDom_of_on ha _)
  case drift =>
    exact fun ha hx => ⟨next ((inDom_of_on ha _).trans (if_pos (by simp [hx]))), next ((inDom_of_on ha _).trans (if_neg (by simp)))⟩
  case rail => exact fun hm => next (if_neg hm)
  case railBedded => exact fun hm => next (if_pos hm)
  case lock => exact fun hl => next (if_pos hl)
  case noLock => exact fun hl => next (if_neg (Bool.eq_false_iff.mp hl))
  case netBack => exact fun hm hn => next ((if_pos hm).trans (State.netAgain_of_ret hn))
  case netOn => exact fun hn => next ((congrArg (ite _ · s) (State.netAgain_of_not_ret hn)).trans (ite_self s))
  case zswOn => exact fun hf => ⟨fun hz hx => exec_of_fabric hf rfl (zswOn_of_crystal rfl hz hx), fun hx => exec_of_fabric hf rfl (zswOn_of_no_crystal rfl hx)⟩
  case zswOff => exact fun hf => ⟨fun h => exec_of_fabric hf rfl (zswOff_of_down rfl h), fun h => exec_of_fabric hf rfl (zswOff_of_up rfl h)⟩
  case brown =>
    exact ⟨fun hm => next (brownOut_of_bedded (.inl hm)), fun hp he => next (brownOut_of_bedded (.inr ⟨hp, he⟩)),
      fun hm hp => next (brownOut_of_negotiation hm hp), fun hm hp => next (brownOut_of_idle hm hp)⟩
  case kl30 => exact fun h => next (kl30Low_of_fall h)
  case kl15Same => exact fun h => next (kl15Change_of_same h)
  case kl15On => exact fun h => next (kl15Change_of_on h)
  case kl15Off => exact fun h => next (kl15Change_of_off h)
  case alarm => exact fun h hs hm => next (rtcAlarm_of_run h hs hm)
  case fraction => exact fun h => next (rtcAlarm_of_fraction h)
  case pad => exact fun hf hg => exec_of_fabric hf rfl (padRelease_of_fabric hf hg)
  case padAct => exact fun hf ha => exec_of_fabric hf rfl (padRelease_of_act_off ha)

end Sys2Proof.Machine
end

section
/-! PROOFS. The statements on fault records: the effective level of a record (R478), and what a record of effective level L0 or L1
sets and leaves alone (R474 to R480). -/

namespace Sys2Proof.Machine

/-! ### Effective levels (R478) -/

theorem State.effLevelAt_of_off {s : State} {b k : Nat} (t : Nat) (h : s.bit (FLT_FESC_ESCEN b) (k - 1) = false) :
    s.effLevelAt b k t = t := if_pos (.inr (by simp [h]))

section Escalating
variable {s : State} {b k t : Nat} (hb : b ≠ 15) (h : s.bit (FLT_FESC_ESCEN b) (k - 1) = true)
include hb h

theorem State.effLevelAt_of_low (ht : t ≤ 1) : s.effLevelAt b k t = Nat.min 2 (t + s.unackOf b k) :=
  (if_neg (by simp [hb, h])).trans (if_pos ht)

theorem State.effLevelAt_of_first (ht : 2 ≤ t) (hn : s.unackOf b k = 0) : s.effLevelAt b k t = t :=
  (if_neg (by simp [hb, h])).trans ((if_neg (by omega)).trans (if_pos hn))

theorem State.effLevelAt_of_repeat (ht : 2 ≤ t) (hn : 0 < s.unackOf b k) : s.effLevelAt b k t = Nat.min 4 (t + 1) :=
  (if_neg (by simp [hb, h])).trans ((if_neg (by omega)).trans (if_neg (by omega)))

end Escalating

/-- Settles O8: each clause is a case of the escalation. -/
theorem effectiveLevels : Obligations.EffectiveLevels := by
  unfold Obligations.EffectiveLevels
  intro s b k
  exact ⟨fun h => State.effLevelAt_of_off _ h, fun h hb ht => State.effLevelAt_of_low hb h ht,
    fun h hb ht hn => State.effLevelAt_of_first hb h ht hn, fun h hb ht hn => State.effLevelAt_of_repeat hb h ht hn⟩

/-! ### What a record marks: descriptors, fences and the counts of the classes -/

/-- The accepted descriptors, the fences, the unacknowledged counts and the last levels. -/
def State.marks (s : State) : List Desc × SMap Bool × SMap Nat × SMap Nat := (s.descs, s.flt.fenced, s.flt.unack, s.flt.last)

theorem State.marks_eq_iff {s t : State} : t.marks = s.marks ↔
    t.descs = s.descs ∧ t.flt.fenced = s.flt.fenced ∧ t.flt.unack = s.flt.unack ∧ t.flt.last = s.flt.last := by
  simp [State.marks]

section Marks
variable (s : State)

@[simp] theorem State.marks_setReg (k v : Nat) : (s.setReg k v).marks = s.marks := State.marks_eq_iff.mpr ⟨rfl, rfl, rfl, rfl⟩
@[simp] theorem State.marks_modPw (f : Pw → Pw) : (s.modPw f).marks = s.marks := State.marks_eq_iff.mpr ⟨rfl, rfl, rfl, rfl⟩
@[simp] theorem State.marks_setFld (f : FRef) (v : Nat) : (s.setFld f v).marks = s.marks := s.marks_setReg _ _
@[simp] theorem State.marks_count (f : FRef) : (s.count f).marks = s.marks := s.marks_setFld f _
@[simp] theorem State.marks_setBitF (f : FRef) (i : Nat) (b : Bool) : (s.setBitF f i b).marks = s.marks := s.marks_setFld f _

@[simp] theorem State.marks_when (c : Bool) (g : State → State) : (s.when c g).marks = if c then (g s).marks else s.marks :=
  apply_ite State.marks (c = true) (g s) s

@[simp] theorem State.marks_traceA (b typ code w1 t : Nat) : (s.traceA b typ code w1 t).marks = s.marks := by
  unfold State.traceA
  split <;> rfl

@[simp] theorem State.marks_latchWake (code d : Nat) : (s.latchWake code d).marks = s.marks := by
  unfold State.latchWake
  split
  · rfl
  · split <;> simp

@[simp] theorem State.marks_refreshFlt (b : Nat) : (s.refreshFlt b).marks = s.marks := by
  unfold State.refreshFlt State.driveFltn
  dsimp only
  split <;> simp

@[simp] theorem State.marks_firstFault (r : FRec) : (s.firstFault r).marks = s.marks := by
  unfold State.firstFault
  split <;> simp

@[simp] theorem State.marks_logEntry (r : FRec) : (s.logEntry r).marks = s.marks := by
  unfold State.logEntry
  dsimp only
  split <;> simp

/-- A record raises the count of its class and keeps its level. -/
theorem State.marks_logCore (r : FRec) : (s.logCore r).marks = (s.descs, s.flt.fenced,
    nPut s.flt.unack (r.b * 32 + r.k) (nGet s.flt.unack (r.b * 32 + r.k) + 1), nPut s.flt.last (r.b * 32 + r.k) r.lv) := by
  have he : (s.escalate r).marks = (s.descs, s.flt.fenced,
      nPut s.flt.unack (r.b * 32 + r.k) (nGet s.flt.unack (r.b * 32 + r.k) + 1), nPut s.flt.last (r.b * 32 + r.k) r.lv) := by
    unfold State.escalate
    cases r.esc <;> rfl
  simp [State.logCore, he]

end Marks

/-! ### The registers of a record -/

theorem FLT_FST_good (b : Nat) : (FLT_FST_ANY b).Good ∧ (FLT_FST_LEVEL b).Good ∧ (FLT_FST_FENCED b).Good := by
  simp [FRef.Good, FLT_FST_ANY, FLT_FST_LEVEL, FLT_FST_FENCED]

theorem LOGN_apart (b : Nat) : (FLT_FST_LOGN b).Apart (FLT_FST_ANY b) ∧ (FLT_FST_LOGN b).Apart (FLT_FST_LEVEL b)
    ∧ (FLT_FST_LOGN b).Apart (FLT_FST_FENCED b) := by
  simp [FRef.Apart, FLT_FST_LOGN, FLT_FST_ANY, FLT_FST_LEVEL, FLT_FST_FENCED]

theorem FLT_records_good (b : Nat) : (FLT_FST_LOGN b).Good ∧ (FLT_FPEND_PEND b).Good ∧ (FLT_FSTKY_STICKY b).Good
    ∧ (FLT_FOVF_OVF b).Good ∧ (FLT_FOVF_ESCN b).Good := by
  simp [FRef.Good, FLT_FST_LOGN, FLT_FPEND_PEND, FLT_FSTKY_STICKY, FLT_FOVF_OVF, FLT_FOVF_ESCN]

theorem OVF_apart_ESCN (b c : Nat) : (FLT_FOVF_OVF b).Apart (FLT_FOVF_ESCN c) := by
  simp [FRef.Apart, FLT_FOVF_OVF, FLT_FOVF_ESCN]

section Places
variable (s : State)

theorem State.reg_escalate_of_ne (r : FRec) {k : Nat} (h : k ≠ rFLT_FOVF r.b) : (s.escalate r).reg k = s.reg k := by
  unfold State.escalate
  cases r.esc
  · rfl
  · exact s.reg_setFld_of_ne _ _ _ h

/-- The escalation counts beside OVF. -/
theorem State.fld_OVF_escalate (r : FRec) (b : Nat) : (s.escalate r).fld (FLT_FOVF_OVF b) = s.fld (FLT_FOVF_OVF b) := by
  unfold State.escalate
  cases r.esc
  · rfl
  · exact s.fld_setFld_of_apart _ _ _ (FLT_records_good r.b).2.2.2.2 (OVF_apart_ESCN b r.b)

/-- The first-fault table lies above 0xF300. -/
theorem State.reg_firstFault_of_lt (r : FRec) {k : Nat} (h : k < 0xF300) : (s.firstFault r).reg k = s.reg k := by
  unfold State.firstFault
  split
  · rfl
  · rw [State.reg_setReg_of_ne _ _ (by unfold rFLT_FFC; omega), State.reg_setReg_of_ne _ _ (by unfold rFLT_FFB; omega),
      State.reg_setReg_of_ne _ _ (by unfold rFLT_FFA; omega)]

@[simp] theorem State.reg_traceA (b typ code w1 t k : Nat) : (s.traceA b typ code w1 t).reg k = s.reg k := by
  unfold State.traceA
  split <;> rfl

theorem State.reg_driveFltn_of_ne {k : Nat} (h : k ≠ rFLT_FLTN) : s.driveFltn.reg k = s.reg k := by
  unfold State.driveFltn
  split
  · rfl
  · exact s.reg_setFld_of_ne _ _ _ h

theorem State.reg_setBitF_of_ne (f : FRef) (i : Nat) (v : Bool) {k : Nat} (h : k ≠ f.addr) : (s.setBitF f i v).reg k = s.reg k :=
  s.reg_setFld_of_ne f k _ h

/-- A block's summary lies in its FST and in FLT's summaries at the end of the map. -/
theorem State.reg_refreshFlt_of_lt (b : Nat) {k : Nat} (h : k < 0xF700) (hb : k ≠ rFLT_FST b) : (s.refreshFlt b).reg k = s.reg k := by
  have hn : k ≠ rFLT_FLTN ∧ k ≠ rFLT_SUM ∧ k ≠ rFLT_SUM2 := by unfold rFLT_FLTN rFLT_SUM rFLT_SUM2; omega
  obtain ⟨hf, h1, h2⟩ := hn
  unfold State.refreshFlt
  extract_lets
  exact (State.reg_driveFltn_of_ne _ hf).trans <| (State.reg_setBitF_of_ne _ _ _ _ h2).trans <|
    (State.reg_setBitF_of_ne _ _ _ _ h1).trans <| (State.reg_setFld_of_ne _ _ _ _ hb).trans <|
    (State.reg_setFld_of_ne _ _ _ _ hb).trans (State.reg_setFld_of_ne _ _ _ _ hb)

theorem State.fld_of_reg {s t : State} (f : FRef) (h : t.reg f.addr = s.reg f.addr) : t.fld f = s.fld f :=
  congrArg (bitsOf · f.hi f.lo) h

/-- LOGN lies beside the summary of its block. -/
theorem State.fld_LOGN_refreshFlt {b : Nat} (hb : b ≤ 15) : (s.refreshFlt b).fld (FLT_FST_LOGN b) = s.fld (FLT_FST_LOGN b) := by
  have hn : rFLT_FST b ≠ rFLT_FLTN ∧ rFLT_FST b ≠ rFLT_SUM ∧ rFLT_FST b ≠ rFLT_SUM2 := by
    unfold rFLT_FST rFLT_FLTN rFLT_SUM rFLT_SUM2; omega
  obtain ⟨hf, h1, h2⟩ := hn
  obtain ⟨gAny, gLevel, gFenced⟩ := FLT_FST_good b
  obtain ⟨aAny, aLevel, aFenced⟩ := LOGN_apart b
  unfold State.refreshFlt
  extract_lets
  exact (State.fld_of_reg (FLT_FST_LOGN b) (State.reg_driveFltn_of_ne _ hf)).trans <|
    (State.fld_of_reg (FLT_FST_LOGN b) (State.reg_setBitF_of_ne _ FLT_SUM2_BLK _ _ h2)).trans <|
    (State.fld_of_reg (FLT_FST_LOGN b) (State.reg_setBitF_of_ne _ FLT_SUM_BLK _ _ h1)).trans <|
    (State.fld_setFld_of_apart _ _ _ _ gFenced aFenced).trans <| (State.fld_setFld_of_apart _ _ _ _ gLevel aLevel).trans
    (State.fld_setFld_of_apart _ _ _ _ gAny aAny)

theorem State.reg_latchWake_of_gt (code d : Nat) {k : Nat} (h : 0xF000 ≤ k) : (s.latchWake code d).reg k = s.reg k := by
  have hn : k ≠ rPCR_ENTRY ∧ k ≠ rPCR_WSRC := by unfold rPCR_ENTRY rPCR_WSRC; omega
  obtain ⟨he, hw⟩ := hn
  unfold State.latchWake
  split
  · rfl
  · dsimp only
    split
    · rfl
    · cases s.pw.entry.isNone
      · rw [State.when_false, State.reg_modPw, State.reg_setBitF_of_ne _ _ _ _ hw]
      · rw [State.when_true, State.reg_setFld_of_ne _ _ _ _ he, State.reg_modPw, State.reg_setBitF_of_ne _ _ _ _ hw]

end Places

/-! ### A record's log entry (R479) -/

section Entry
variable {s : State} {r : FRec}

/-- What a record does before its log entry: the counts, the first fault, the pending and sticky bits. -/
def State.noted (s : State) (r : FRec) : State :=
  (((s.escalate r).firstFault r).setBitF (FLT_FPEND_PEND r.b) (r.k - 1) true).setBitF (FLT_FSTKY_STICKY r.b) (r.k - 1) true

/-- What a record does after its log entry. -/
def State.shown (s : State) (r : FRec) : State :=
  ((s.traceA r.b 1 r.k (r.lv * 2 ^ 15 + b2n r.esc * 2 ^ 14 + b2n r.fnc * 2 ^ 13 + r.inst * 2 ^ 5) r.t).when (decide (2 ≤ r.lv))
    (fun s => s.setFld FLT_FLTN_MIN 1)).refreshFlt r.b

theorem State.logCore_eq (s : State) (r : FRec) : s.logCore r = ((s.noted r).logEntry r).shown r := rfl

theorem State.reg_noted_of_ne {k : Nat} (h : k < 0xF300) (hp : k ≠ rFLT_FPEND r.b) (hs : k ≠ rFLT_FSTKY r.b) (ho : k ≠ rFLT_FOVF r.b) :
    (s.noted r).reg k = s.reg k := by
  rw [State.noted, State.setBitF, State.reg_setFld_of_ne _ _ _ _ hs, State.setBitF, State.reg_setFld_of_ne _ _ _ _ hp,
    State.reg_firstFault_of_lt _ _ h, State.reg_escalate_of_ne _ _ ho]

theorem State.reg_shown_of_ne {k : Nat} (h : k < 0xF700) (hb : k ≠ rFLT_FST r.b) : (s.shown r).reg k = s.reg k := by
  have hm : ∀ t : State, (t.when (decide (2 ≤ r.lv)) (fun s => s.setFld FLT_FLTN_MIN 1)).reg k = t.reg k := by
    intro t
    cases decide (2 ≤ r.lv)
    · rfl
    · exact t.reg_setFld_of_ne _ _ _ (by unfold FLT_FLTN_MIN rFLT_FLTN; dsimp only; omega)
  rw [State.shown, State.reg_refreshFlt_of_lt _ _ h hb, hm, State.reg_traceA]

theorem State.fld_LOGN_shown (hb : r.b ≤ 15) : (s.shown r).fld (FLT_FST_LOGN r.b) = s.fld (FLT_FST_LOGN r.b) := by
  have hm : ∀ t : State, (t.when (decide (2 ≤ r.lv)) (fun s => s.setFld FLT_FLTN_MIN 1)).reg (rFLT_FST r.b) = t.reg (rFLT_FST r.b) := by
    intro t
    cases decide (2 ≤ r.lv)
    · rfl
    · exact t.reg_setFld_of_ne _ _ _ (by unfold FLT_FLTN_MIN rFLT_FLTN rFLT_FST; dsimp only; omega)
  rw [State.shown, State.fld_LOGN_refreshFlt _ hb]
  exact congrArg (bitsOf · 12 9) ((hm _).trans (State.reg_traceA _ _ _ _ _ _ _))

/-- With room, the log takes the record as its youngest entry. -/
theorem State.logEntry_of_room (h : s.fld (FLT_FST_LOGN r.b) < 8) :
    (s.logEntry r).fld (FLT_FST_LOGN r.b) = s.fld (FLT_FST_LOGN r.b) + 1
    ∧ (∀ k, k < 0xF100 → k ≠ rFLT_FST r.b → (s.logEntry r).reg k = s.reg k)
    ∧ (s.logEntry r).reg (rFLT_LOGA r.b (s.fld (FLT_FST_LOGN r.b)))
        = (r.k * 2 ^ 12 + r.lv * 2 ^ 9 + b2n r.esc * 2 ^ 8 + r.inst) % 2 ^ 18 := by
  unfold State.logEntry
  generalize s.fld (FLT_FST_LOGN r.b) = n at h ⊢
  dsimp only
  rw [if_pos h]
  refine ⟨?count, fun k hk hb => ?others, ?word⟩
  case count =>
    rw [State.fld_setFld_self _ _ _ (FLT_records_good r.b).1]
    exact Nat.mod_eq_of_lt (by unfold FLT_FST_LOGN; dsimp only; omega)
  case others =>
    rw [State.reg_setFld_of_ne _ _ _ _ hb, State.reg_setReg_of_ne _ _ (by unfold rFLT_LOGD; omega),
      State.reg_setReg_of_ne _ _ (by unfold rFLT_LOGC; omega), State.reg_setReg_of_ne _ _ (by unfold rFLT_LOGB; omega),
      State.reg_setReg_of_ne _ _ (by unfold rFLT_LOGA; omega)]
  case word =>
    rw [State.reg_setFld_of_ne _ _ _ _ (by unfold FLT_FST_LOGN rFLT_LOGA rFLT_FST; dsimp only; omega), State.reg_setReg_of_ne _ _ (by unfold rFLT_LOGA rFLT_LOGD; omega),
      State.reg_setReg_of_ne _ _ (by unfold rFLT_LOGA rFLT_LOGC; omega), State.reg_setReg_of_ne _ _ (by unfold rFLT_LOGA rFLT_LOGB; omega),
      State.reg_setReg_self]

/-- A full log counts the record in OVF. -/
theorem State.logEntry_of_full (h : 8 ≤ s.fld (FLT_FST_LOGN r.b)) : s.logEntry r = s.count (FLT_FOVF_OVF r.b) :=
  if_neg (Nat.not_lt.mpr h)

theorem State.reg_logEntry_of_ne {k : Nat} (hk : k < 0xF100) (hb : k ≠ rFLT_FST r.b) (ho : k ≠ rFLT_FOVF r.b) :
    (s.logEntry r).reg k = s.reg k := by
  by_cases h : s.fld (FLT_FST_LOGN r.b) < 8
  · exact (State.logEntry_of_room h).2.1 k hk hb
  · rw [State.logEntry_of_full (Nat.not_lt.mp h)]
    exact s.reg_setFld_of_ne _ _ _ ho

/-! ### A record as the log and the bits show it -/

theorem State.fld_LOGN_noted (hb : r.b ≤ 15) : (s.noted r).fld (FLT_FST_LOGN r.b) = s.fld (FLT_FST_LOGN r.b) :=
  State.fld_of_reg _ (State.reg_noted_of_ne (show rFLT_FST r.b < _ by unfold rFLT_FST; omega)
    (show rFLT_FST r.b ≠ _ by unfold rFLT_FST rFLT_FPEND; omega) (show rFLT_FST r.b ≠ _ by unfold rFLT_FST rFLT_FSTKY; omega)
    (show rFLT_FST r.b ≠ _ by unfold rFLT_FST rFLT_FOVF; omega))

theorem State.fld_OVF_noted (hb : r.b ≤ 15) : (s.noted r).fld (FLT_FOVF_OVF r.b) = s.fld (FLT_FOVF_OVF r.b) := by
  have hp : rFLT_FOVF r.b ≠ rFLT_FPEND r.b := by unfold rFLT_FOVF rFLT_FPEND; omega
  have hs : rFLT_FOVF r.b ≠ rFLT_FSTKY r.b := by unfold rFLT_FOVF rFLT_FSTKY; omega
  have hf : rFLT_FOVF r.b < 0xF300 := by unfold rFLT_FOVF; omega
  exact (State.fld_of_reg (FLT_FOVF_OVF r.b) ((State.reg_setBitF_of_ne _ (FLT_FSTKY_STICKY r.b) _ _ hs).trans
    ((State.reg_setBitF_of_ne _ (FLT_FPEND_PEND r.b) _ _ hp).trans (State.reg_firstFault_of_lt _ _ hf)))).trans (s.fld_OVF_escalate r r.b)

/-- The pending and the sticky bit of its class. -/
theorem State.bits_logCore (hb : r.b ≤ 15) (hk : r.k - 1 < 18) : (s.logCore r).bit (FLT_FPEND_PEND r.b) (r.k - 1) = true
    ∧ (s.logCore r).bit (FLT_FSTKY_STICKY r.b) (r.k - 1) = true := by
  obtain ⟨-, gPend, gSticky, -, -⟩ := FLT_records_good r.b
  have hn : rFLT_FPEND r.b ≠ rFLT_FSTKY r.b := by unfold rFLT_FPEND rFLT_FSTKY; omega
  have after : ∀ k, k < 0xF100 → k ≠ rFLT_FST r.b → k ≠ rFLT_FOVF r.b → (s.logCore r).reg k = (s.noted r).reg k := fun k h1 h2 h3 =>
    (State.reg_shown_of_ne (by omega) h2).trans (State.reg_logEntry_of_ne h1 h2 h3)
  constructor
  · refine (congrArg (bitAt · (r.k - 1)) (State.fld_of_reg (FLT_FPEND_PEND r.b) ?_)).trans (((s.escalate r).firstFault r).bit_setBitF_self gPend hk)
    exact (after _ (by unfold FLT_FPEND_PEND rFLT_FPEND; dsimp only; omega) (by unfold FLT_FPEND_PEND rFLT_FPEND rFLT_FST; dsimp only; omega)
      (by unfold FLT_FPEND_PEND rFLT_FPEND rFLT_FOVF; dsimp only; omega)).trans (State.reg_setBitF_of_ne _ _ _ _ hn)
  · refine (congrArg (bitAt · (r.k - 1)) (State.fld_of_reg (FLT_FSTKY_STICKY r.b) ?_)).trans
      ((((s.escalate r).firstFault r).setBitF (FLT_FPEND_PEND r.b) (r.k - 1) true).bit_setBitF_self gSticky hk)
    exact after _ (by unfold FLT_FSTKY_STICKY rFLT_FSTKY; dsimp only; omega) (by unfold FLT_FSTKY_STICKY rFLT_FSTKY rFLT_FST; dsimp only; omega)
      (by unfold FLT_FSTKY_STICKY rFLT_FSTKY rFLT_FOVF; dsimp only; omega)

/-- A record that finds room is the log's youngest entry, and OVF stays. -/
theorem State.logCore_of_room (hb : r.b ≤ 15) (h : s.fld (FLT_FST_LOGN r.b) < 8) :
    (s.logCore r).fld (FLT_FST_LOGN r.b) = s.fld (FLT_FST_LOGN r.b) + 1
    ∧ (s.logCore r).fld (FLT_FOVF_OVF r.b) = s.fld (FLT_FOVF_OVF r.b)
    ∧ (s.logCore r).reg (rFLT_LOGA r.b (s.fld (FLT_FST_LOGN r.b)))
        = (r.k * 2 ^ 12 + r.lv * 2 ^ 9 + b2n r.esc * 2 ^ 8 + r.inst) % 2 ^ 18 := by
  have hn := State.fld_LOGN_noted (s := s) hb
  obtain ⟨hcount, hothers, hword⟩ := State.logEntry_of_room (s := s.noted r) (hn ▸ h)
  rw [hn] at hcount hword
  have hov : rFLT_FOVF r.b ≠ rFLT_FST r.b := by unfold rFLT_FOVF rFLT_FST; omega
  refine ⟨(State.fld_LOGN_shown hb).trans hcount, ?ovf, ?word⟩
  case ovf =>
    refine (State.fld_of_reg (FLT_FOVF_OVF r.b) ?_).trans (State.fld_OVF_noted hb)
    exact (State.reg_shown_of_ne (show rFLT_FOVF r.b < _ by unfold rFLT_FOVF; omega) hov).trans
      (hothers _ (show rFLT_FOVF r.b < _ by unfold rFLT_FOVF; omega) hov)
  case word =>
    exact (State.reg_shown_of_ne (by unfold rFLT_LOGA; omega) (by unfold rFLT_LOGA rFLT_FST; omega)).trans hword

/-- A record that finds the log full raises OVF, which saturates, and LOGN stays. -/
theorem State.logCore_of_full (hb : r.b ≤ 15) (h : 8 ≤ s.fld (FLT_FST_LOGN r.b)) :
    (s.logCore r).fld (FLT_FST_LOGN r.b) = s.fld (FLT_FST_LOGN r.b)
    ∧ (s.logCore r).fld (FLT_FOVF_OVF r.b) = Nat.min 511 (s.fld (FLT_FOVF_OVF r.b) + 1) := by
  have hn := State.fld_LOGN_noted (s := s) hb
  have hov : rFLT_FOVF r.b ≠ rFLT_FST r.b := by unfold rFLT_FOVF rFLT_FST; omega
  rw [State.logCore_eq, State.logEntry_of_full (hn ▸ h)]
  refine ⟨?logn, ?ovf⟩
  case logn =>
    exact (State.fld_LOGN_shown hb).trans ((State.fld_of_reg (FLT_FST_LOGN r.b) (State.reg_setFld_of_ne _ (FLT_FOVF_OVF r.b) _ _ hov.symm)).trans hn)
  case ovf =>
    refine (State.fld_of_reg (FLT_FOVF_OVF r.b) (State.reg_shown_of_ne (show rFLT_FOVF r.b < _ by unfold rFLT_FOVF; omega) hov)).trans ?_
    rw [State.count, State.countBy, State.fld_setFld_self _ _ _ (FLT_records_good r.b).2.2.2.1, State.fld_OVF_noted hb,
      show satTo (FLT_FOVF_OVF r.b).max (s.fld (FLT_FOVF_OVF r.b) + 1) = Nat.min 511 (s.fld (FLT_FOVF_OVF r.b) + 1) from Nat.min_comm _ 511]
    exact Nat.mod_eq_of_lt (Nat.lt_of_le_of_lt (Nat.min_le_left 511 _) (by decide : (511 : Nat) < 512))

/-- A record changes no register below those of its block. -/
theorem State.reg_logCore_of_lt (hb : r.b ≤ 15) {k : Nat} (h : k < rFLT_FST r.b) : (s.logCore r).reg k = s.reg k := by
  unfold rFLT_FST at h
  exact (State.reg_shown_of_ne (by omega) (by unfold rFLT_FST; omega)).trans
    ((State.reg_logEntry_of_ne (by omega) (by unfold rFLT_FST; omega) (by unfold rFLT_FOVF; omega)).trans
      (State.reg_noted_of_ne (by omega) (by unfold rFLT_FPEND; omega) (by unfold rFLT_FSTKY; omega) (by unfold rFLT_FOVF; omega)))

end Entry

/-! ### A record of a block, with the record of a full log (R492) -/

section Record
variable {s : State} {b k i t : Nat} {fnc : Bool}

/-- The registers of the other blocks lie below those of FLT's own, which a full log records in. -/
theorem State.reg_logRecAt_of_block {j : Nat} (h : 0xF000 ≤ j) (hj : j < rFLT_FST 15) :
    (s.logRecAt b k i t fnc).reg j = (s.logCore (s.mkRecAt b k i t fnc)).reg j := by
  have hw : ∀ (c : Bool) (u : State), (u.when c (fun s => s.latchWake 0o13 b)).reg j = u.reg j := by
    intro c u
    cases c
    · rfl
    · exact u.reg_latchWake_of_gt _ _ h
  unfold State.logRecAt
  extract_lets full wakes
  rw [hw]
  cases full
  · rw [State.when_false]
  · rw [State.when_true, State.reg_logCore_of_lt le_rfl hj]

/-- With room in the log, nothing else is recorded. -/
theorem State.reg_logRecAt_of_room (hn : s.fld (FLT_FST_LOGN b) < 8) {j : Nat} (h : 0xF000 ≤ j) :
    (s.logRecAt b k i t fnc).reg j = (s.logCore (s.mkRecAt b k i t fnc)).reg j := by
  have hc : (decide (8 ≤ s.fld (FLT_FST_LOGN b)) && !(decide (b = 15 ∧ k = 1))) = false := by
    rw [decide_eq_false (Nat.not_le.mpr hn), Bool.false_and]
  unfold State.logRecAt
  extract_lets full wakes
  rw [show full = false from hc, State.when_false]
  cases wakes
  · rfl
  · exact State.reg_latchWake_of_gt _ _ _ h

/-- The count and the level of the record's class, the fences and the descriptors. -/
theorem State.marks_logRecAt (hb : b ≤ 14) (hk : k ≤ 18) : (s.logRecAt b k i t fnc).descs = s.descs
    ∧ (s.logRecAt b k i t fnc).flt.fenced = s.flt.fenced ∧ (s.logRecAt b k i t fnc).unackOf b k = s.unackOf b k + 1
    ∧ (s.logRecAt b k i t fnc).lastLvl b k = s.recLevelAt b k i t := by
  have hw : ∀ (c : Bool) (u : State), (u.when c (fun s => s.latchWake 0o13 b)).marks = u.marks := by
    intro c u
    cases c
    · rfl
    · exact u.marks_latchWake _ _
  have h1 := s.marks_logCore (s.mkRecAt b k i t fnc)
  unfold State.logRecAt
  extract_lets full wakes
  generalize s.logCore (s.mkRecAt b k i t fnc) = v at h1 ⊢
  have h2 : ∀ c : Bool, ∀ u, v.when c (fun s => s.logCore (s.mkRecAt 15 1 b 0 false)) = u →
      u.descs = s.descs ∧ u.flt.fenced = s.flt.fenced ∧ u.unackOf b k = s.unackOf b k + 1 ∧ u.lastLvl b k = s.recLevelAt b k i t := by
    simp only [State.marks, Prod.mk.injEq] at h1
    obtain ⟨hd, hf, hu, hl⟩ := h1
    have hself : v.unackOf b k = s.unackOf b k + 1 ∧ v.lastLvl b k = s.recLevelAt b k i t := by
      rw [State.unackOf, State.lastLvl, hu, hl]
      exact ⟨smGet_smPut_self _ _ _ _, smGet_smPut_self _ _ _ _⟩
    intro c u hu
    cases c with
    | false =>
      rw [State.when_false] at hu
      exact hu ▸ ⟨hd, hf, hself.1, hself.2⟩
    | true =>
      rw [State.when_true] at hu
      have h3 := v.marks_logCore (v.mkRecAt 15 1 b 0 false)
      rw [hu] at h3
      simp only [State.marks, Prod.mk.injEq] at h3
      obtain ⟨hd', hf', hu', hl'⟩ := h3
      have hne : b * 32 + k ≠ 15 * 32 + 1 := by omega
      refine ⟨hd'.trans hd, hf'.trans hf, ?_, ?_⟩
      · exact (congrArg (nGet · (b * 32 + k)) hu').trans ((smGet_smPut_of_ne _ _ _ hne).trans hself.1)
      · exact (congrArg (nGet · (b * 32 + k)) hl').trans ((smGet_smPut_of_ne _ _ _ hne).trans hself.2)
  have h3 := h2 full _ rfl
  generalize v.when full (fun s => s.logCore (s.mkRecAt 15 1 b 0 false)) = u at h3 ⊢
  obtain ⟨hd2, hf2, hu2, hl2⟩ := h3
  obtain ⟨hd, hf, hu, hl⟩ := State.marks_eq_iff.mp (hw wakes u)
  exact ⟨hd.trans hd2, hf.trans hf2, (congrArg (nGet · (b * 32 + k)) hu).trans hu2, (congrArg (nGet · (b * 32 + k)) hl).trans hl2⟩

end Record

/-! ### The statement on fault records -/

theorem State.recLevelAt_of_low {s : State} {b k t : Nat} (i : Nat) (h : s.effLevelAt b k t ≤ 1) :
    s.recLevelAt b k i t = s.effLevelAt b k t := if_neg (by omega)

/-- A record of effective level L0 or L1 is logged, fences nothing and resets nothing (R475). -/
theorem State.record_of_low {s : State} {b k : Nat} (i : Nat) (h : s.effLevel b k ≤ 1) : s.record b k i = s.logRecord b k i false := by
  have hl : s.recLevelAt b k i (classLevel b k) ≤ 1 := (State.recLevelAt_of_low i h).trans_le h
  unfold State.record State.recordAt
  extract_lets lv u fnc t
  have hu : u = none := if_neg (by omega)
  have hf : fnc = false := by simp only [fnc, hu]
  rw [State.levelAct, if_pos (show lv ≤ 2 by omega)]
  simp only [t, hu, hf, State.logRecord]

/-- Settles O7: the record is the log's entry of its block; the record of a full log lies in block 15, and the wake of an ACT block in PCR. -/
theorem faultRecords : Obligations.FaultRecords := by
  unfold Obligations.FaultRecords
  intro s b k i t n hl
  have hb : b.val ≤ 14 := Nat.le_of_lt_succ b.isLt
  have ht : t = s.logRecord b (k + 1) i false := State.record_of_low i hl
  have hstored : t.stored = s.stored := by rw [ht]; exact s.stored_logRecord _ _ _ _
  obtain ⟨hmem, hecc, hcores⟩ := State.stored_eq_iff.mp hstored
  clear_value t
  subst ht
  have hlv := State.recLevelAt_of_low i hl
  obtain ⟨hdescs, hfenced, hunack, hlast⟩ :=
    State.marks_logRecAt (s := s) (i := i) (t := classLevel b (k + 1)) (fnc := false) hb (show k.val + 1 ≤ 18 from k.isLt)
  have hr (j : Nat) (h : 0xF000 ≤ j ∧ j < rFLT_FST 15) :=
    State.reg_logRecAt_of_block (s := s) (b := b) (k := k + 1) (i := i) (t := classLevel b (k + 1)) (fnc := false) h.1 h.2
  have hfst := hr (rFLT_FST b) (by unfold rFLT_FST; omega)
  have hfovf := hr (rFLT_FOVF b) (by unfold rFLT_FOVF rFLT_FST; omega)
  refine ⟨?bits, hunack, hlast.trans hlv, ?room, ?full, hmem, hecc, hdescs, hcores, hfenced⟩
  case bits =>
    obtain ⟨hp, hs⟩ := State.bits_logCore (s := s) (r := s.mkRecAt b (k + 1) i (classLevel b (k + 1)) false)
      (hb.trans (by decide)) k.isLt
    have hpend := hr (rFLT_FPEND b) (by unfold rFLT_FPEND rFLT_FST; omega)
    have hsticky := hr (rFLT_FSTKY b) (by unfold rFLT_FSTKY rFLT_FST; omega)
    exact ⟨(congrArg (bitAt · k) (State.fld_of_reg (FLT_FPEND_PEND b) hpend)).trans hp,
      (congrArg (bitAt · k) (State.fld_of_reg (FLT_FSTKY_STICKY b) hsticky)).trans hs⟩
  case room =>
    intro hn
    obtain ⟨hcount, hovf, hword⟩ :=
      State.logCore_of_room (r := s.mkRecAt b (k + 1) i (classLevel b (k + 1)) false) (hb.trans (by decide)) hn
    refine ⟨(State.fld_of_reg (FLT_FST_LOGN b) hfst).trans hcount, (State.fld_of_reg (FLT_FOVF_OVF b) hfovf).trans hovf, ?_⟩
    refine (State.reg_logRecAt_of_room hn (by unfold rFLT_LOGA; omega)).trans (hword.trans ?_)
    have hesc : b2n (decide (classLevel b (k + 1) < s.effLevel b (k + 1)))
        = if classLevel b (k + 1) < s.effLevel b (k + 1) then 1 else 0 := by
      by_cases h : classLevel b (k + 1) < s.effLevel b (k + 1) <;> simp [h, b2n]
    have hk := k.isLt
    simp only [State.mkRecAt, hlv]
    rw [show s.effLevelAt b (k + 1) (classLevel b (k + 1)) = s.effLevel b (k + 1) from rfl, hesc]
    split <;> omega
  case full =>
    intro hn
    obtain ⟨hcount, hovf⟩ :=
      State.logCore_of_full (r := s.mkRecAt b (k + 1) i (classLevel b (k + 1)) false) (hb.trans (by decide)) hn
    exact ⟨(State.fld_of_reg (FLT_FST_LOGN b) hfst).trans hcount, (State.fld_of_reg (FLT_FOVF_OVF b) hfovf).trans hovf⟩

end Sys2Proof.Machine
end

section
/-! PROOFS. The statement on fault handling: acknowledgement, the log's release, UNFENCE, CLR4, FLTn and the trace port (R478 to
R489). -/

namespace Sys2Proof.Machine

/-! ### The domains of FLT's registers -/

theorem addrDom_flt : (∀ b : Fin 16, addrDom (rFLT_FACK b) = .fabric) ∧ (∀ b : Fin 16, addrDom (rFLT_FREL b) = .fabric)
    ∧ addrDom rFLT_UFCMD = .fabric ∧ addrDom rFLT_FLTN = .fawn := by decide +kernel

theorem addrDom_softTrace : addrDom 0xF713 = .fabric := by decide +kernel

/-- FAWN always runs. -/
theorem State.domOn_fawn (s : State) : s.domOn .fawn = true := rfl

/-- A command at a register whose domain runs. -/
theorem exec_of_gate {i : Instr} {c : CoreId} {a : Nat} {d : Dom} {f : State → State} {s t : State} (hi : exec i s = .next (s.ioGate c a f))
    (ha : addrDom a = d) (h : s.domOn d = true) (hf : f s = t) : exec i s = .next t :=
  hi.trans (congrArg Host.Outcome.next ((State.ioGate_of_on (ha.symm ▸ h) c f).trans hf))

theorem State.fltGate_of_on {s : State} {b : Nat} (h : s.domOn (fltDom b) = true) (f : State → State) : s.fltGate b f = f s := if_pos h

theorem State.fltGate_of_off {s : State} {b : Nat} (h : s.domOn (fltDom b) = false) (f : State → State) :
    s.fltGate b f = s.raise FLT_GFLAG_OFFW := if_neg (Bool.eq_false_iff.mp h)

theorem State.sOnly_of_other {c : CoreId} (h : c ≠ .s) (s : State) (f : State → State) : s.sOnly c f = s.raise FLT_GFLAG_WRREF := if_neg h

theorem State.sOnly_of_s (s : State) (f : State → State) : s.sOnly .s f = f s := if_pos rfl

theorem clr4_eq (s : State) : clr4 s = (s.setFld FLT_FLTN_L4S 0).driveFltn := rfl

theorem exec_fltnMinEnd (s : State) : exec .fltnMinEnd s = .next ((s.setFld FLT_FLTN_MIN 0).driveFltn) := rfl

/-! ### Acknowledgement and release (R478 to R480) -/

/-- The classes of a mask acknowledged: every pending bit of the mask falls. -/
theorem fltAck_eq (b m : Nat) (s : State) : fltAck b m s =
    ((s.modFlt (fun x => { x with unack := smKeep (fun k => !(decide (k / 32 = b) && decide (1 ≤ k % 32) && bitAt m (k % 32 - 1))) x.unack })).setFld
      (FLT_FPEND_PEND b) (s.fld (FLT_FPEND_PEND b) - Nat.land (s.fld (FLT_FPEND_PEND b)) m)).refreshFlt b := by
  have hw : bitsOf (s.fld (FLT_FPEND_PEND b)) 17 0 = s.fld (FLT_FPEND_PEND b) :=
    (congrArg (· % 2 ^ 18) (Nat.div_one _)).trans (Nat.mod_eq_of_lt (s.fld_lt (FLT_FPEND_PEND b)))
  unfold fltAck
  rw [hw]

theorem logRelease_of_count {n : Nat} (b : Nat) (s : State) (h : n ≤ 8) {c k : Nat} (hc : s.fld (FLT_FST_LOGN b) = c)
    (hk : (if n ≤ c then n else c) = k) : logRelease b n s =
      ((s.each (List.range (c - k)) (fun j t => t.logMove b j (j + k))).each (List.range k)
        (fun j t => t.logWipe b (c - k + j))).setFld (FLT_FST_LOGN b) (c - k) := by
  subst hc hk
  exact if_neg (by omega)

theorem logRelease_of_reserved {n : Nat} (b : Nat) (s : State) (h : 8 < n) : logRelease b n s = s.raise FLT_GFLAG_ENCREF := if_pos h

/-! ### UNFENCE (R481, R482) -/

theorem unfence_of_off {s : State} {b i : Nat} (h : s.domOn (unitDom b i ((s.unitsOf b i).find? s.unitFenced)) = false) :
    unfence b i s = s.setFld FLT_UFSTAT_RESULT 1 := by
  simp only [unfence, h, Bool.not_false, if_true]

theorem unfence_of_none {s : State} {b i : Nat} (hu : (s.unitsOf b i).find? s.unitFenced = none)
    (h : s.domOn (unitDom b i none) = true) : unfence b i s = s.setFld FLT_UFSTAT_RESULT 2 := by
  simp only [unfence, hu, h, Bool.not_true, Bool.false_eq_true, if_false]

section UnfenceUnit
variable {s : State} {b i : Nat} {f : FUnit} (hu : (s.unitsOf b i).find? s.unitFenced = some f)
  (h : s.domOn (unitDom b i (some f)) = true)
include hu h

theorem unfence_of_unit : unfence b i s =
    if bGet s.flt.fenced (2 ^ 16 + f.key) then s.setFld FLT_UFSTAT_RESULT 3
    else if s.unackHigh b then s.setFld FLT_UFSTAT_RESULT 4 else (s.unfence b i f).setFld FLT_UFSTAT_RESULT 0 := by
  simp only [unfence, hu, h, Bool.not_true, Bool.false_eq_true, if_false]

theorem unfence_of_lasting (hl : bGet s.flt.fenced (2 ^ 16 + f.key) = true) : unfence b i s = s.setFld FLT_UFSTAT_RESULT 3 :=
  (unfence_of_unit hu h).trans (if_pos hl)

theorem unfence_of_unacknowledged (hl : bGet s.flt.fenced (2 ^ 16 + f.key) = false) (ha : s.unackHigh b = true) :
    unfence b i s = s.setFld FLT_UFSTAT_RESULT 4 :=
  (unfence_of_unit hu h).trans ((if_neg (Bool.eq_false_iff.mp hl)).trans (if_pos ha))

theorem unfence_of_released (hl : bGet s.flt.fenced (2 ^ 16 + f.key) = false) (ha : s.unackHigh b = false) :
    unfence b i s = (s.unfence b i f).setFld FLT_UFSTAT_RESULT 0 :=
  (unfence_of_unit hu h).trans ((if_neg (Bool.eq_false_iff.mp hl)).trans (if_neg (Bool.eq_false_iff.mp ha)))

end UnfenceUnit

/-! ### The trace port (R484 to R489) -/

/-- The move from a spool to the FIFO counts nothing as sent. -/
theorem State.sinceSync_spoolMove (s : State) : s.spoolMove.flt.sinceSync = s.flt.sinceSync := by
  unfold State.spoolMove
  split <;> rfl

theorem spoorSend_of_disabled {s : State} (h : s.on FLT_SPCTL_EN = false) : spoorSend s = s := if_pos (by simp [h])

section Send
variable {s : State} (h : s.on FLT_SPCTL_EN = true)
include h

/-- After 1024 records the port sends SYNC. -/
theorem spoorSend_of_sync (hn : 1024 ≤ s.flt.sinceSync) (ha : s.domOn .act = true) :
    spoorSend s = (s.modFlt (fun x => { x with sent := s.syncRec.line, sinceSync := 0 })).mirrorAdd s.syncRec :=
  (if_neg (by simp [h])).trans ((if_pos hn).trans (by rw [ha]; rfl))

variable (hn : s.flt.sinceSync < 1024)
include hn

theorem spoorSend_of_idle {t : State} (ht : s.spoolMove = t) (hq : t.flt.fifo = []) :
    spoorSend s = t.modFlt (fun x => { x with sent := idleRec.line, sinceSync := s.flt.sinceSync + 1 }) := by
  have hc := s.sinceSync_spoolMove
  unfold spoorSend
  rw [if_neg (by simp [h]), if_neg (Nat.not_le.mpr hn)]
  dsimp only
  rw [ht] at hc ⊢
  rw [hq, hc]
  rfl

theorem spoorSend_of_record {t : State} {r : Spoor} {l : List Spoor} (ht : s.spoolMove = t) (hq : t.flt.fifo = r :: l) :
    spoorSend s = (((t.modFlt (fun x => { x with fifo := l })).setFld FLT_SPSTAT_FILL l.length).modFlt (fun x =>
      { x with sent := r.line, sinceSync := s.flt.sinceSync + 1 })).mirrorAdd r := by
  have hc := s.sinceSync_spoolMove
  unfold spoorSend
  rw [if_neg (by simp [h]), if_neg (Nat.not_le.mpr hn)]
  dsimp only
  rw [ht] at hc ⊢
  rw [hq, hc]
  rfl

end Send

/-- The blocks that shed records since the last summary. -/
def State.shedBlocks (s : State) : List Nat :=
  (List.range 16).filter (fun k => decide (0 < nGet s.flt.shed (k * 2) ∨ 0 < nGet s.flt.shed (k * 2 + 1)))

theorem spoorSummary_of_none {s : State} (h : s.shedBlocks = []) : spoorSummary s = s := if_pos (List.isEmpty_iff.mpr h)

theorem State.shedBlocks_eq_nil {s : State}
    (h : (List.range 16).all (fun k => decide (nGet s.flt.shed (k * 2) = 0 ∧ nGet s.flt.shed (k * 2 + 1) = 0)) = true) :
    s.shedBlocks = [] := by
  refine List.filter_eq_nil_iff.mpr fun k hk => ?_
  have h0 := of_decide_eq_true (List.all_eq_true.mp h k hk)
  simp only [decide_eq_true_eq]
  omega

theorem State.mirrorSend_of_none {s : State} (h : s.flt.mirror = []) : s.mirrorSend = s := if_pos (List.isEmpty_iff.mpr h)

theorem State.mirrorSend_of_taken {s : State} (h : s.flt.mirror ≠ []) (ht : (s.offerP8 s.mirrorBytes).2 = false) :
    s.mirrorSend = (s.offerP8 s.mirrorBytes).1.modFlt (fun x => { x with mirror := [], mirSeq := (x.mirSeq + 1) % 65536 }) := by
  unfold State.mirrorSend
  rw [if_neg fun he => h (List.isEmpty_iff.mp he)]
  generalize s.offerP8 s.mirrorBytes = x at ht ⊢
  exact if_neg (Bool.eq_false_iff.mp ht)

/-- A SOFT record is one of class C (R485). -/
theorem softTrace_eq (c : CoreId) (v : Word) (s : State) : softTrace c v s = s.traceC 0 10 c.num v.toNat s.faultTime.1 := rfl

theorem exec_softTrace {s : State} (hf : s.domOn .fabric = true) (c : CoreId) (v : Word) :
    exec (.softTrace c v) s = .next (s.traceC 0 10 c.num v.toNat s.faultTime.1) :=
  exec_of_gate (f := softTrace c v) rfl addrDom_softTrace hf (softTrace_eq c v s)

/-! ### The statement on fault handling -/

/-- Settles O48: each command at its register's domain, each event while FABRIC runs, by the equation of its case. -/
theorem faultHandling : Obligations.FaultHandling := by
  unfold Obligations.FaultHandling
  intro s core b m v n i f r l hf
  obtain ⟨hack, hrel, hunfence, hfltn⟩ := addrDom_flt
  have ack {t : State} := exec_of_gate (i := .faultAck core b m) (s := s) (t := t) rfl (hack b) hf
  have release {t : State} := exec_of_gate (i := .logRelease core b n) (s := s) (t := t) rfl (hrel b) hf
  have clear {t : State} := exec_of_gate (i := .clrstk core b) (s := s) (t := t) rfl (hrel b) hf
  have free {c : CoreId} {t : State} := exec_of_gate (i := .unfence c b i) (s := s) (t := t) rfl hunfence hf
  have clr {c : CoreId} {t : State} := exec_of_gate (i := .clr4 c) (s := s) (t := t) rfl hfltn s.domOn_fawn
  refine ⟨?acked, ?asleep, ?released, ?reserved, ?cleared, ?otherCore, ?unitOff, ?noUnit, ?unit, ?released4, ?minEnd, ?disabled, ?idle, ?record,
    ?unshed, ?summary, ?sync, ?noMirror, ?mirror, ?soft⟩
  case acked => exact fun hd => ack ((State.fltGate_of_on hd _).trans (fltAck_eq b m.toNat s))
  case asleep =>
    exact fun hd => ⟨ack (State.fltGate_of_off hd _), release (State.fltGate_of_off hd _), clear (State.fltGate_of_off hd _)⟩
  case released => exact fun hd hn => release ((State.fltGate_of_on hd _).trans (logRelease_of_count b s hn rfl rfl))
  case reserved => exact fun hd hn => release ((State.fltGate_of_on hd _).trans (logRelease_of_reserved b s hn))
  case cleared => exact fun hd => clear (State.fltGate_of_on hd _)
  case otherCore => exact fun hc => ⟨free (State.sOnly_of_other hc s _), clr (State.sOnly_of_other hc s _)⟩
  case unitOff => exact fun hd => free (unfence_of_off hd)
  case noUnit => exact fun hu hd => free (unfence_of_none hu hd)
  case unit =>
    exact fun hu hd => ⟨fun hl => free (unfence_of_lasting hu hd hl), fun hl ha => free (unfence_of_unacknowledged hu hd hl ha),
      fun hl ha => free (unfence_of_released hu hd hl ha)⟩
  case released4 => exact clr ((State.sOnly_of_s s _).trans (clr4_eq s))
  case minEnd => exact exec_fltnMinEnd s
  case disabled => exact fun he => exec_of_fabric hf rfl (spoorSend_of_disabled he)
  case idle => exact fun he hn hq => exec_of_fabric hf rfl (spoorSend_of_idle he hn rfl hq)
  case record => exact fun he hn hq => exec_of_fabric hf rfl (spoorSend_of_record he hn rfl hq)
  case unshed => exact fun hs => exec_of_fabric hf rfl (spoorSummary_of_none (State.shedBlocks_eq_nil hs))
  case summary => exact fun hs => exec_of_fabric hf rfl (if_neg fun he => hs (List.isEmpty_iff.mp he))
  case sync => exact fun he hn ha => exec_of_fabric hf rfl (spoorSend_of_sync he hn ha)
  case noMirror => exact fun hm => exec_of_fabric hf rfl (State.mirrorSend_of_none hm)
  case soft => exact exec_softTrace hf core v
  case mirror => exact fun hm ht => exec_of_fabric hf rfl (State.mirrorSend_of_taken hm ht)

end Sys2Proof.Machine
end

section
/-! PROOFS. The statement on start-up: the boot ROM, the handover, LBIST and the settings migration (R497 to R511, R532). -/

namespace Sys2Proof.Machine

/-! ### The boot ROM (R498 to R504) -/

theorem bootRom_of_left {s : State} (h : s.pw.boot ≠ .rom) : bootRom s = s := if_pos h

section BootRom
variable {s l : State} (h : s.pw.boot = .rom) (hl : s.bootLbist = l)
include h hl

theorem bootRom_eq : bootRom s =
    if !bitAt (l.otp 0o420) 0 then l.enterLoader 4 0
    else if l.pw.svcPor && l.on ACC_PCFG_SVCEN && !l.otpLock 1 then l.enterLoader 6 0 else l.bootSearch := by
  subst hl
  exact if_neg (not_not.mpr h)

theorem bootRom_of_unprovisioned (hp : bitAt (l.otp 0o420) 0 = false) : bootRom s = l.enterLoader 4 0 :=
  (bootRom_eq h hl).trans (if_pos (by rw [hp]; rfl))

theorem bootRom_of_service (hp : bitAt (l.otp 0o420) 0 = true) (hs : l.pw.svcPor = true) (he : l.on ACC_PCFG_SVCEN = true)
    (hk : l.otpLock 1 = false) : bootRom s = l.enterLoader 6 0 :=
  (bootRom_eq h hl).trans ((if_neg (by simp [hp])).trans (if_pos (by simp [hs, he, hk])))

theorem bootRom_of_search (hp : bitAt (l.otp 0o420) 0 = true) (hs : l.pw.svcPor = false) : bootRom s = l.bootSearch :=
  (bootRom_eq h hl).trans ((if_neg (by simp [hp])).trans (if_neg (by simp [hs])))

end BootRom

theorem State.enterLoader_eq (s : State) (res chk : Nat) :
    s.enterLoader res chk = (s.modPw (fun p => { p with boot := .loader res })).bootReport res chk none s.lbRan := rfl

/-! ### The handover and the migration (R505, R532) -/

theorem handover_of_app {s : State} (h : s.pw.boot = .app) : handover s = s := by
  simp only [handover, h]

/-- The boot record of a chosen bank, its bank active and S left with the boot ROM's registers. -/
def State.handedOver (s : State) (bank : Nat) (fast other : Bool) (chk : Nat) : State :=
  ((((((s.setFld MEM_TCTL_EN 0).bootReport (if other then 2 else if fast then 1 else 0) chk (some bank) s.lbRan).setFld
    MEM_NSTAT_ACTIVE bank).modPw (fun p => { p with boot := .app })).modMem (fun m => { m with handed := true })).bootLeft)

theorem filter_rejected_eq_nil {chk : Nat} (ha : bitsOf chk 7 4 ≠ 9) (hb : bitsOf chk 3 0 ≠ 9) :
    [0, 1].filter (fun k => decide (bitsOf chk (7 - 4 * k) (4 - 4 * k) = 9)) = [] := by
  simp [ha, hb]

/-- With no bank rejected for its attempts, S starts at the entry point and the agent decides on the migration. -/
theorem handover_of_chosen {s : State} {bank : Nat} {fast other : Bool} {chk : Nat} (h : s.pw.boot = .chosen bank fast other chk)
    (h0 : s.lbSt 0 ≠ 2) (h1 : s.lbSt 1 ≠ 2) (ha : bitsOf chk 7 4 ≠ 9) (hb : bitsOf chk 3 0 ≠ 9) {t : State}
    (ht : s.handedOver bank fast other chk = t) :
    handover s = (t.modCore 2 (fun x => { x with run := .running, pc := hdrEntry (s.bankHdr bank) })).migrate := by
  subst ht
  unfold handover
  rw [h]
  dsimp only
  rw [if_neg (by simp [h0, h1]), filter_rejected_eq_nil ha hb]
  rfl

theorem migrationDone_of_none {s : State} (h : s.img.mig = none) : migrationDone s = s := by
  simp only [migrationDone, h]

/-- A new record without a group reset. -/
theorem migrationDone_of_plain {s : State} {act : Nat} (hm : s.img.mig = some act) {h : List Word} {p : List Word × Nat}
    {t : Nat × Nat} (hh : s.bankHdr s.activeBank = h) (hp : s.migRecord h act = p) (ht : s.ssTarget = t) (h0 : p.2 = 0) :
    migrationDone s = (((((s.writeRecord t.1 (hdrSchema h) p.2 t.2 p.1).ssShow.modImg (fun x => { x with mig := none })).setFld
      FLT_IMSTAT_STATE 0).setFld FLT_IMMIG_RESULT act).setFld FLT_IMMGRP_GRP p.2).setBitF FLT_IMEVT_EVT 5 true := by
  subst hh ht
  unfold migrationDone
  rw [hm]
  dsimp only
  rw [hp, h0, show decide ((0 : Nat) ≠ 0) = false from rfl, State.when_false]

/-! ### LBIST (R508 to R510) -/

section Lbist
variable {s : State} {c : Nat}

theorem State.lbRun_eq (s : State) (c : Nat) : s.lbRun c = (s.setFld (lbF c) 2).setCore c { run := .lbist } := rfl

theorem lbistRun_of_halted (h : s.lbSt c = 1) (hr : (s.core c).run = .halted) (hb : (s.core c).buf = []) : lbistRun c s = s.lbRun c :=
  if_pos ⟨h, .inl ⟨hr, hb⟩⟩

theorem lbistRun_of_fenced (h : s.lbSt c = 1) (hr : (s.core c).run = .fenced) : lbistRun c s = s.lbRun c := if_pos ⟨h, .inr hr⟩

theorem lbistRun_of_unasked (h : s.lbSt c ≠ 1) : lbistRun c s = s := if_neg fun hc => h hc.1

theorem lbistDone_of_fail (h : s.lbSt c = 2) :
    lbistDone c true s = ((s.setFld (lbF c) 4).setCore c { run := .reset }).record 0 2 c := (if_neg (not_not.mpr h)).trans (if_pos rfl)

theorem lbistDone_of_pass (h : s.lbSt c = 2) : lbistDone c false s =
    (((s.setFld (lbF c) 3).coreRelease c).modFlt (fun x => { x with fenced := smErase x.fenced c })).refreshFlt 0 :=
  (if_neg (not_not.mpr h)).trans (if_neg Bool.false_ne_true)

theorem lbistDone_of_idle (fail : Bool) (h : s.lbSt c ≠ 2) : lbistDone c fail s = s := if_pos h

end Lbist

/-! ### The statement on start-up -/

/-- A command of a domain that runs. -/
theorem exec_of_dom {i : Instr} {d : Dom} {f : State → State} {s t : State} (h : s.domOn d = true)
    (hi : exec i s = .next (inDom d f s)) (hf : f s = t) : exec i s = .next t :=
  hi.trans (congrArg Host.Outcome.next ((inDom_of_on h f).trans hf))

theorem exec_actuationReady {s : State} (h : s.domOn .act = true) :
    exec .actuationReady s = .next (s.modPw (fun p => { p with ready := true })) := exec_of_dom h rfl rfl

/-- Settles O53: each event by the equation of its case, its domain running. -/
theorem startUp : Obligations.StartUp := by
  unfold Obligations.StartUp
  intro s c fail bank fast other chk act hS hA hf ha l
  refine ⟨?left, ?unprovisioned, ?search, ?service, ?app, ?chosen, ?noMigration, ?migrated, exec_actuationReady ha, ?halted, ?fenced,
    ?unasked, ?failed, ?passed, ?idle⟩
  case left => exact fun h => exec_of_dom hS rfl (bootRom_of_left h)
  case unprovisioned => exact fun h hp => exec_of_dom hS rfl ((bootRom_of_unprovisioned h rfl hp).trans (State.enterLoader_eq l 4 0))
  case search => exact fun h hp hs => exec_of_dom hS rfl (bootRom_of_search h rfl hp hs)
  case service =>
    exact fun h hp hs he hk => exec_of_dom hS rfl ((bootRom_of_service h rfl hp hs he hk).trans (State.enterLoader_eq l 6 0))
  case app => exact fun h => exec_of_dom hS rfl (handover_of_app h)
  case chosen => exact fun h h0 h1 hc hd => exec_of_dom hS rfl (handover_of_chosen h h0 h1 hc hd rfl)
  case noMigration => exact fun h => exec_of_dom hf rfl (migrationDone_of_none h)
  case migrated => exact fun hm h0 => exec_of_dom hf rfl (migrationDone_of_plain hm rfl rfl rfl h0)
  case halted => exact fun h hr hb => exec_of_dom hA rfl ((lbistRun_of_halted h hr hb).trans (State.lbRun_eq s c))
  case fenced => exact fun h hr => exec_of_dom hA rfl ((lbistRun_of_fenced h hr).trans (State.lbRun_eq s c))
  case unasked => exact fun h => exec_of_dom hA rfl (lbistRun_of_unasked h)
  case failed => exact fun h => exec_of_dom hA rfl (lbistDone_of_fail h)
  case passed => exact fun h => exec_of_dom hA rfl (lbistDone_of_pass h)
  case idle => exact fun h => exec_of_dom hA rfl (lbistDone_of_idle fail h)

end Sys2Proof.Machine
end

section
/-! PROOFS. The statement on the image agent's messages and its one session (R516 to R530). -/

namespace Sys2Proof.Machine

/-! ### Commands of the agent -/

/-- The service port as a command of the agent finds it: what the last one sent is gone. -/
def State.portCleared (s : State) : State := s.modImg (fun i => { i with svcOut := [] })

/-- A command of the agent, while FABRIC runs. -/
theorem exec_of_image {i : Instr} {f : State → State} {s u t : State} (h : s.domOn .fabric = true) (hi : exec i s = .next (imgCmd f s))
    (hu : s.portCleared = u) (hf : f u = t) : exec i s = .next t := by
  subst hu
  exact hi.trans (congrArg Host.Outcome.next ((inDom_of_on h _).trans hf))

/-! ### Messages taken (R516 to R519) -/

theorem State.imTake_of_bad {s : State} {b : List Byte} (types : List Nat) (h : svcPayload b = none) : s.imTake (some b) types = (s, none) := by
  simp only [State.imTake, h]

theorem State.imTake_of_empty {s : State} (types : List Nat) (h : s.img.inbox = []) : s.imTake none types = (s, none) := by
  simp only [State.imTake, h]

theorem imgTake_of_none {svc : Option (List Byte)} {types : List Nat} {s t : State} (h : s.imTake svc types = (t, none))
    (f : IMsg → State → State) : imgTake svc types f s = t := by
  simp only [imgTake, h]

theorem imgTake_of_message {svc : Option (List Byte)} {types : List Nat} {s t : State} {m : IMsg}
    (h : s.imTake svc types = (t, some m)) (f : IMsg → State → State) : imgTake svc types f s = f m t := by
  simp only [imgTake, h]

/-! ### Offers (R520) -/

section Offer
variable {s : State} {m : IMsg} {mv : Nat}

theorem offer_of_closed {svc : Option (List Byte)} (ht : s.imTake svc [1] = (s, some m)) (h : s.imOpen svc.isSome = false) :
    offer svc mv s = s := (imgTake_of_message ht _).trans (if_neg (Bool.eq_false_iff.mp h))

theorem offer_of_open {svc : Option (List Byte)} (ht : s.imTake svc [1] = (s, some m)) (h : s.imOpen svc.isSome = true) :
    offer svc mv s = s.offerTake mv m := (imgTake_of_message ht _).trans (if_pos h)

theorem State.offerTake_of_holder {x : ImgSess} (h : s.img.sess = some x) (hh : x.holds m = true) :
    s.offerTake mv m = s.imAnswer m 0 x.next := by
  simp only [State.offerTake, h, Option.filter_some, hh, if_true]

theorem State.offerTake_of_no_session (h : s.img.sess = none) : s.offerTake mv m =
    if m.src = 0 ∧ s.acc.pres.isNone then s.offerRefuse m 5
    else if (s.offerJudge (offerHdr m) mv).1 ≠ 0 then s.offerRefuse m (s.offerJudge (offerHdr m) mv).1
    else s.offerAccept m (offerHdr m) (s.offerJudge (offerHdr m) mv).2 := by
  simp only [State.offerTake, h, Option.filter_none, Option.isSome_none, Bool.false_eq_true, if_false]

theorem State.offerTake_of_absent (h : s.img.sess = none) (hs : m.src = 0) (hp : s.acc.pres = none) :
    s.offerTake mv m = s.offerRefuse m 5 :=
  (State.offerTake_of_no_session h).trans (if_pos ⟨hs, Option.isNone_iff_eq_none.mpr hp⟩)

theorem State.offerTake_of_passed (h : s.img.sess = none) (hp : s.acc.pres ≠ none) (hj : (s.offerJudge (offerHdr m) mv).1 = 0) :
    s.offerTake mv m = s.offerAccept m (offerHdr m) (s.offerJudge (offerHdr m) mv).2 :=
  (State.offerTake_of_no_session h).trans ((if_neg fun hc => hp (Option.isNone_iff_eq_none.mp hc.2)).trans (if_neg (not_not.mpr hj)))

/-- A refusal without a class of its own. -/
theorem State.offerRefuse_five (s : State) (m : IMsg) : s.offerRefuse m 5 = ((s.imAnswer m 5 0).setFld FLT_IMSTAT_LAST 5).imEvt 2 := by
  rw [State.offerRefuse, show decide ((5 : Nat) = 6 ∨ (5 : Nat) = 7) = false from rfl, State.when_false]

end Offer

/-! ### Blocks (R515, R522) -/

section Block
variable {s : State} {m : IMsg} {x : ImgSess} (h : s.img.sess = some x) (hh : x.holds m = true)
include h hh

theorem State.blockTake_of_past (hi : byteField m.body 0 2 < x.next) : s.blockTake m = s.imBack x 0 := by
  simp only [State.blockTake, h, hh, hi, Bool.not_true, Bool.false_eq_true, if_false, if_true]

/-- A fragment of one of the four next blocks joins those that have arrived. -/
theorem State.blockTake_of_fragment {i ofs : Nat} {d : List Byte} (hi : byteField m.body 0 2 = i) (ho : byteField m.body 2 2 = ofs)
    (hd : m.body.drop 6 = d) (h1 : x.next ≤ i) (h2 : i < x.next + 4) (h3 : i < x.n) (h4 : fragOk (hdrL x.hdr) i ofs d = true)
    (h5 : x.cur = none) : s.blockTake m = (s.setSess { x with
      frags := lPut x.frags i ((lGet x.frags i).filter (fun f => decide (f.1 ≠ ofs)) ++ [(ofs, d)]) }).imAdvance := by
  subst hi ho hd
  unfold State.blockTake
  rw [h]
  dsimp only
  rw [if_neg (by simp [hh]), if_neg (Nat.not_lt.mpr h1), if_neg (by simp [h2, h3, h4]), if_neg (by simp [h5])]

end Block

/-! ### CLOSE, ANSWER and BACK (R521, R526, R527) -/

section Down
variable {s : State} {m : IMsg} {y : ImgSess × Nat}

theorem State.closeTake_of_done {x : ImgSess} (hd : s.downOf m = none) (h : s.img.sess = some x) (hh : x.holds m = true)
    (hs : byteField m.body 0 1 = 0x0E) : s.closeTake m = s.imgIdle := by
  simp only [State.closeTake, hd, h, hh, hs, if_true]
  rfl

variable (hd : s.downOf m = some y)
include hd

theorem State.downAnswer_of_refusal (hs : byteField m.body 0 1 ≠ 0) : s.downAnswer m = s.downDrop y.2 := by
  simp only [State.downAnswer, hd]
  exact if_pos hs

theorem State.downAnswer_of_accepted (hs : byteField m.body 0 1 = 0) : s.downAnswer m =
    (((s.setDown y.2 2).setFld (FLT_IMDST_NEXT y.2) (byteField m.body 1 2)).downBlock y.1 y.2).imAdvance := by
  simp only [State.downAnswer, hd]
  exact if_neg (not_not.mpr hs)

theorem State.downBack_of_stored (h2 : s.fld (FLT_IMDST_STATE y.2) = 2) (hs : byteField m.body 2 1 = 0) :
    s.downBack m = (s.setFld (FLT_IMDST_NEXT y.2) (byteField m.body 0 2)).imAdvance := by
  simp only [State.downBack, hd]
  exact (if_neg (not_not.mpr h2)).trans (if_neg (not_not.mpr hs))

end Down

/-! ### Events of a session (R522 to R528) -/

section Session
variable {s : State} {x : ImgSess} (h : s.img.sess = some x)
include h

theorem downstreamTimeout_of_offer {e : Nat} (hs : s.fld (FLT_IMDST_STATE e) = 1)
    (ho : (smGet (fun _ => {}) s.img.downs e).offers < 3) : downstreamTimeout e s = s.downOffer x e := by
  simp only [downstreamTimeout, h]
  exact if_pos ⟨hs, ho⟩

theorem downstreamTimeout_of_silent {e : Nat} {b : List Byte} (hs : s.fld (FLT_IMDST_STATE e) = 2) (hc : x.cur = some b) :
    downstreamTimeout e s = s.downDrop e := by
  simp only [downstreamTimeout, h]
  exact (if_neg fun h1 => absurd (h1.1.symm.trans hs) (by decide)).trans (if_pos (.inr ⟨hs, by rw [hc]; rfl⟩))

theorem sessionTimedOut_of_waiting (hn : x.next < x.n) (hc : x.cur = none) : sessionTimedOut s = s.imClose 0x0D := by
  simp only [sessionTimedOut, h]
  exact if_pos ⟨hn, hc⟩

theorem bankErased_of_open (bad : Bool) (hp : x.pass = false) (he : x.erased = false) : bankErased bad s =
    if bad then s.imClose 0x0C
    else ((s.each (List.range 16) (fun k t => t.progRow x.bank (8 * k) ((x.hdr.drop (8 * k)).take 8))).setSess
      { x with erased := true }).setFld FLT_IMSTAT_STATE 2 := by
  simp only [bankErased, h, hp, he, Bool.or_false, Bool.false_eq_true, if_false]

theorem imageBlockStored_of_waiting (bad : Bool) {b : List Byte} (hc : x.cur = some b) (hp : x.pass = false) (hs : x.stored = false)
    (he : x.erased = true) : imageBlockStored bad s = if bad then s.imClose 0x0C else (s.storeRows x b).imAdvance := by
  simp only [imageBlockStored, h, hc, hp, hs, he, Bool.or_false, Bool.not_true, Bool.false_eq_true, if_false]

theorem imageVerifyDone_of_bad (hs : s.fld FLT_IMSTAT_STATE = 3) : imageVerifyDone true s = s.imClose 0x0C := by
  simp only [imageVerifyDone, h, hs, ne_eq, not_true_eq_false, if_false, Bool.true_or, if_true]

theorem imageVerifyDone_of_match (hs : s.fld FLT_IMSTAT_STATE = 3)
    (hb : s.bodyHash x.bank (hdrL x.hdr) = hdrBytes x.hdr 16 16) : imageVerifyDone false s =
      ((((s.bootProg x.bank 0).setSess { x with done := true }).imEvt 4).setFld FLT_IMSTAT_STATE 4).imFinish := by
  simp only [imageVerifyDone, h, hs, hb, ne_eq, not_true_eq_false, decide_false, Bool.or_false, Bool.false_eq_true, if_false]

theorem State.imStop_of_installation (c : Bool) (st : Nat) (hp : x.pass = false) : s.imStop c st = if c then s.imClose st else s := by
  simp only [State.imStop, h, hp, Bool.not_false, Bool.and_true]

end Session

section NoSession
variable {s : State} (h : s.img.sess = none)
include h

theorem State.imStop_of_no_session (c : Bool) (st : Nat) : s.imStop c st = s := by simp only [State.imStop, h]
theorem sessionTimedOut_of_no_session : sessionTimedOut s = s := by simp only [sessionTimedOut, h]
theorem imageVerifyDone_of_no_session (bad : Bool) : imageVerifyDone bad s = s := by simp only [imageVerifyDone, h]
theorem downstreamTimeout_of_no_session (e : Nat) : downstreamTimeout e s = s := by simp only [downstreamTimeout, h]

end NoSession

/-! ### The statement on image sessions -/

/-- Settles O51: each message and each event by the equation of its case. -/
theorem imageSessions : Obligations.ImageSessions := by
  unfold Obligations.ImageSessions
  intro s bs mv m x y b e bad t hf u took
  have cmd {i : Instr} {f : State → State} {v : State} (hi : exec i s = .next (imgCmd f s)) (h : f u = v) : exec i s = .next v :=
    exec_of_image hf hi rfl h
  clear_value u
  refine ⟨?badCrc, ?closed, ?absent, ?accepted, ?again, ?past, ?fragment, ?done, ?refused, ?answered, ?back, ?empty, ?offered, ?silent,
    ?timeout, ?erased, ?stored, ?verifyBad, ?verified, ?stopped, ?noSession⟩
  case badCrc =>
    exact fun h => ⟨cmd rfl (imgTake_of_none (State.imTake_of_bad _ h) _), cmd rfl (imgTake_of_none (State.imTake_of_bad _ h) _),
      cmd rfl (imgTake_of_none (State.imTake_of_bad _ h) _)⟩
  case closed => exact fun ht ho => cmd rfl (offer_of_closed ht ho)
  case absent =>
    exact fun ht ho h hs hp => cmd rfl ((offer_of_open ht ho).trans ((State.offerTake_of_absent h hs hp).trans (u.offerRefuse_five m)))
  case accepted => exact fun ht ho h hp hj => cmd rfl ((offer_of_open ht ho).trans (State.offerTake_of_passed h hp hj))
  case again => exact fun ht ho h hh => cmd rfl ((offer_of_open ht ho).trans (State.offerTake_of_holder h hh))
  case past => exact fun ht h hh hi => cmd rfl ((imgTake_of_message ht _).trans (State.blockTake_of_past h hh hi))
  case fragment =>
    exact fun ht h hh h1 h2 h3 h4 h5 =>
      cmd rfl ((imgTake_of_message ht _).trans (State.blockTake_of_fragment h hh rfl rfl rfl h1 h2 h3 h4 h5))
  case done => exact fun ht hd h hh hs => cmd rfl ((imgTake_of_message ht _).trans (State.closeTake_of_done hd h hh hs))
  case refused => exact fun ht hd hs => cmd rfl ((imgTake_of_message ht _).trans (State.downAnswer_of_refusal hd hs))
  case answered => exact fun ht hd hs => cmd rfl ((imgTake_of_message ht _).trans (State.downAnswer_of_accepted hd hs))
  case back => exact fun ht hd h2 hs => cmd rfl ((imgTake_of_message ht _).trans (State.downBack_of_stored hd h2 hs))
  case empty =>
    exact fun h => ⟨cmd rfl (imgTake_of_none (State.imTake_of_empty _ h) _), cmd rfl (imgTake_of_none (State.imTake_of_empty _ h) _)⟩
  case offered => exact fun h hs ho => cmd rfl (downstreamTimeout_of_offer h hs ho)
  case silent => exact fun h hs hc => cmd rfl (downstreamTimeout_of_silent h hs hc)
  case timeout => exact fun h hn hc => cmd rfl (sessionTimedOut_of_waiting h hn hc)
  case erased =>
    exact fun h hp he => ⟨cmd rfl ((bankErased_of_open h true hp he).trans (if_pos rfl)),
      cmd rfl ((bankErased_of_open h false hp he).trans (if_neg Bool.false_ne_true))⟩
  case stored =>
    exact fun h hc hp hs he => ⟨cmd rfl ((imageBlockStored_of_waiting h true hc hp hs he).trans (if_pos rfl)),
      cmd rfl ((imageBlockStored_of_waiting h false hc hp hs he).trans (if_neg Bool.false_ne_true))⟩
  case verifyBad => exact fun h hs => cmd rfl (imageVerifyDone_of_bad h hs)
  case verified => exact fun h hs hb => cmd rfl (imageVerifyDone_of_match h hs hb)
  case stopped =>
    exact fun h hp => ⟨cmd rfl ((State.imStop_of_installation h true 3 hp).trans (if_pos rfl)),
      fun hv => cmd rfl ((State.imStop_of_installation h _ 2 hp).trans (if_pos hv)),
      fun hv => cmd rfl ((State.imStop_of_installation h _ 2 hp).trans (if_neg (Bool.eq_false_iff.mp hv)))⟩
  case noSession =>
    exact fun h => ⟨cmd rfl (State.imStop_of_no_session h true 3), cmd rfl (sessionTimedOut_of_no_session h),
      cmd rfl (imageVerifyDone_of_no_session h bad), cmd rfl (downstreamTimeout_of_no_session h e)⟩

end Sys2Proof.Machine
end

section
/-! PROOFS. The statement on the brace link: its frames and events (R538 to R549). -/

namespace Sys2Proof.Machine

/-! ### The CRC of a frame (R539) -/

theorem crc16Byte_lt {c : Nat} (h : c < 2 ^ 16) (b : Byte) : crc16Byte c b < 2 ^ 16 := by
  have hstep (l : List Nat) : ∀ {x : Nat}, x < 2 ^ 16 → l.foldl (fun x i =>
      let top := bitAt x 15 != bitAt b.toNat (7 - i)
      let y := x * 2 % 65536
      if top then (BitVec.ofNat 16 y ^^^ 0x1021#16).toNat else y) x < 2 ^ 16 := by
    induction l with
    | nil => exact id
    | cons i l ih =>
      intro x _
      refine ih ?_
      dsimp only
      split
      · exact BitVec.isLt _
      · exact Nat.mod_lt _ (by decide)
  exact hstep _ h

theorem crc16_lt (b : List Byte) : crc16 b < 2 ^ 16 := by
  have hfold (l : List Byte) : ∀ {c : Nat}, c < 2 ^ 16 → l.foldl crc16Byte c < 2 ^ 16 := by
    induction l with
    | nil => exact id
    | cons x l ih => exact fun h => ih (crc16Byte_lt h x)
  exact hfold b (by decide)

theorem toNat_crc16 (b : List Byte) : (BitVec.ofNat 16 (crc16 b)).toNat = crc16 b := (BitVec.toNat_ofNat _ _).trans (Nat.mod_eq_of_lt (crc16_lt b))

/-! ### Frames taken (R539) -/

section Take
variable {s : State} {f : BrFrame} {typ : Nat} (g : List Byte → State → State)

theorem State.brTake_of_off (h : s.brSt = 0) : s.brTake f typ g = s := if_pos h

theorem State.brTake_of_bad_code (h : s.brSt ≠ 0) (hc : f.code = false) : s.brTake f typ g = (s.count BRC_CNT_CRC).record 15 12 0 :=
  (if_neg h).trans (if_pos (by rw [hc]; rfl))

theorem State.brTake_of_good {u t : State} (h : s.brSt ≠ 0) (hc : f.code = true) (hcrc : f.crc = crc16 f.b)
    (ht : byteField f.b 0 1 = typ) (hu : s.setFld BRC_STAT_RXSEQ (byteField f.b 1 1) = u) (hg : g (f.b.drop 2) u = t) :
    s.brTake f typ g = t := by
  subst hu
  exact (if_neg h).trans ((if_neg (by simp [hc, hcrc])).trans ((if_neg (not_not.mpr ht)).trans hg))

end Take

theorem State.brYieldIn_of_up {s : State} (h : s.brSt = 3) : s.brYieldIn = (s.brEvt 0).brWhole := if_pos (.inl h)

/-! ### Frames sent and events (R540 to R545) -/

theorem brHeartSend_of_silent {s : State} (h : s.brSt = 0 ∨ s.brSt = 4) : brHeartSend s = s := if_pos h

theorem brHeartSend_of_up {s : State} (h : s.brSt = 3) : brHeartSend s =
    (s.brSend [(1, s.heartBytes)]).modBrc (fun x => { x with resumed := 0, tableOut := x.tableOut }) := by
  unfold brHeartSend
  rw [if_neg (by omega), if_neg (by omega), show decide (s.brSt = 2) = false by simp [h]]
  simp only [Bool.or_false]

theorem brHeartSend_of_sync {s : State} (h : s.brSt = 2) : brHeartSend s =
    (s.brSend [(1, s.heartBytes), (3, s.tableBytes)]).modBrc (fun x => { x with resumed := 0, tableOut := true }) := by
  unfold brHeartSend
  rw [if_neg (by omega), if_pos h, show decide (s.brSt = 2) = true by simp [h]]
  simp only [Bool.or_true]

theorem State.brSync_zero (s : State) : s.brSync 0 = (s.setFld BRC_STAT_STATE 2).modBrc (fun x =>
    { x with hearts := 0, tableIn := false, tableOut := false, asked := false }) := rfl

/-- The link in DOWN, with nothing exchanged. -/
def State.brDown (s : State) : State :=
  ((((s.setFld BRC_STAT_STATE 1).count BRC_CNT_MISS).brEvt 2).record 15 8 0).modBrc (fun x =>
    { x with hearts := 0, tableIn := false, tableOut := false, asked := false })

/-- The leader takes nothing over. -/
theorem State.brLoss_of_leader {s t : State} (ht : s.brDown = t) (h : t.brFollower = false) : s.brLoss = t := by
  have hl : s.brLoss = if !t.brFollower then t
      else if t.fld BRC_CFG_TKSRC = 0 ∨ t.fswOpen then t.brWhole else t.modBrc (fun b => { b with waits := true }) := by
    rw [← ht]
    rfl
  rw [hl, h]
  rfl

/-! ### The statement on the brace link -/

/-- Settles O52: each frame and event by the equation of its case. -/
theorem braceLink : Obligations.BraceLink := by
  unfold Obligations.BraceLink
  intro s b pid par code hf crc p u
  have cmd {i : Instr} {f : State → State} {t : State} (hi : exec i s = .next (inDom .fabric f s)) (h : f s = t) : exec i s = .next t :=
    exec_of_fabric hf hi h
  refine ⟨?off, ?bad, ?heart, ?state, ?table, ?yield, ?handback, ?quiet, ?silent, ?sendUp, ?sendSync, ?align, ?aligned, ?unmissed, ?missed,
    ?opened, ?unopened⟩
  case off =>
    exact fun h => ⟨cmd rfl (State.brTake_of_off _ h), cmd rfl (State.brTake_of_off _ h), cmd rfl (State.brTake_of_off _ h),
      cmd rfl (State.brTake_of_off _ h), cmd rfl (State.brTake_of_off _ h), cmd rfl (State.brTake_of_off _ h)⟩
  case bad =>
    exact fun h => ⟨cmd rfl (State.brTake_of_bad_code _ h rfl), cmd rfl (State.brTake_of_bad_code _ h rfl),
      cmd rfl (State.brTake_of_bad_code _ h rfl), cmd rfl (State.brTake_of_bad_code _ h rfl), cmd rfl (State.brTake_of_bad_code _ h rfl),
      cmd rfl (State.brTake_of_bad_code _ h rfl)⟩
  case heart => exact fun h ht => cmd rfl (State.brTake_of_good _ h rfl (toNat_crc16 b) ht rfl rfl)
  case state => exact fun h ht => cmd rfl (State.brTake_of_good _ h rfl (toNat_crc16 b) ht rfl rfl)
  case table => exact fun h ht => cmd rfl (State.brTake_of_good _ h rfl (toNat_crc16 b) ht rfl rfl)
  case yield => exact fun h hu ht => cmd rfl (State.brTake_of_good _ h rfl (toNat_crc16 b) ht rfl (State.brYieldIn_of_up hu))
  case handback => exact fun h ht => cmd rfl (State.brTake_of_good _ h rfl (toNat_crc16 b) ht rfl rfl)
  case quiet => exact fun h ht => cmd rfl (State.brTake_of_good _ h rfl (toNat_crc16 b) ht rfl rfl)
  case silent => exact fun h => cmd rfl (brHeartSend_of_silent h)
  case sendUp => exact fun h => cmd rfl (brHeartSend_of_up h)
  case sendSync => exact fun h => cmd rfl (brHeartSend_of_sync h)
  case align => exact fun h => cmd rfl ((if_pos h).trans s.brSync_zero)
  case aligned => exact fun h => cmd rfl (if_neg h)
  case unmissed => exact fun h => cmd rfl (if_neg h)
  case missed => exact fun h hd => cmd rfl ((if_pos h).trans (State.brLoss_of_leader rfl hd))
  case opened => exact fun hw ho => cmd rfl (if_pos (by rw [hw, ho]; rfl))
  case unopened => exact fun hw => cmd rfl (if_neg (by simp [hw]))

end Sys2Proof.Machine
end

section
/-! PROOFS. The statement on a core's registers and flags (R555, R591, R593). -/

namespace Sys2Proof.Machine

/-! ### Bits of the status register -/

theorem bitAt_eq_bitsOf (w i : Nat) : bitAt w i = decide (bitsOf w i i = 1) := by
  simp [bitAt, bitsOf]

theorem bitAt_putBits_of_apart {w hi lo v i : Nat} (hl : lo ≤ hi) (h : i < lo ∨ hi < i) : bitAt (putBits w hi lo v) i = bitAt w i := by
  rw [bitAt_eq_bitsOf, bitAt_eq_bitsOf]
  rcases h with h | h
  · rw [bitsOf_putBits_below _ _ _ _ _ _ h hl]
  · rw [bitsOf_putBits_above _ _ _ _ _ _ h hl]

theorem bitAt_putBits_self (w i : Nat) (b : Bool) : bitAt (putBits w i i (b2n b)) i = b := by
  rw [bitAt_eq_bitsOf, bitsOf_putBits_self _ _ _ _ le_rfl]
  cases b <;> simp [b2n]

theorem getLsbD_eq_bitAt (w : Word) (i : Nat) : w.getLsbD i = bitAt w.toNat i := (bitAt_eq_testBit w.toNat i).symm

section Status
variable (x : Core)

theorem Core.toNat_sr_setSr {hi lo : Nat} (v : Nat) (hl : lo ≤ hi) (hh : hi < 18) :
    (x.setSr hi lo v).sr.toNat = putBits x.sr.toNat hi lo v :=
  (toNat_toWord _).trans (Nat.mod_eq_of_lt (putBits_lt _ _ _ _ x.sr.isLt hl hh))

theorem Core.getLsbD_setSr_of_apart {hi lo i : Nat} (v : Nat) (hl : lo ≤ hi) (hh : hi < 18) (h : i < lo ∨ hi < i) :
    (x.setSr hi lo v).sr.getLsbD i = x.sr.getLsbD i := by
  rw [getLsbD_eq_bitAt, x.toNat_sr_setSr v hl hh, bitAt_putBits_of_apart hl h, getLsbD_eq_bitAt]

/-- A status bit written. -/
theorem Core.getLsbD_setSr_bit {j : Nat} (b : Bool) (hj : j < 18) (i : Nat) :
    (x.setSr j j (b2n b)).sr.getLsbD i = if i = j then b else x.sr.getLsbD i := by
  split
  · next h => rw [h, getLsbD_eq_bitAt, x.toNat_sr_setSr _ le_rfl hj, bitAt_putBits_self]
  · next h => exact x.getLsbD_setSr_of_apart _ le_rfl hj (by omega)

theorem Core.n_eq : x.n = x.sr.getLsbD 17 := (getLsbD_eq_bitAt _ _).symm
theorem Core.z_eq : x.z = x.sr.getLsbD 16 := (getLsbD_eq_bitAt _ _).symm
theorem Core.c_eq : x.c = x.sr.getLsbD 15 := (getLsbD_eq_bitAt _ _).symm
theorem Core.v_eq : x.v = x.sr.getLsbD 14 := (getLsbD_eq_bitAt _ _).symm
theorem Core.ie_eq : x.ie = x.sr.getLsbD 11 := (getLsbD_eq_bitAt _ _).symm

/-! ### The flags of a result (R591) -/

/-- Every bit of SR after a result. -/
theorem Core.getLsbD_flags (r : Res) (i : Nat) : (x.flags r).sr.getLsbD i =
    if i = 17 then r.val.msb else if i = 16 then decide (r.val = 0) else if i = 15 then r.c.getD x.c
    else if i = 14 then r.v.getD x.v else if i = 12 then r.sat || x.sr.getLsbD 12 else x.sr.getLsbD i := by
  have bit := fun (y : Core) {j : Nat} (b : Bool) (hj : j < 18) => y.getLsbD_setSr_bit b hj
  have sat := fun (y : Core) => y.getLsbD_setSr_bit true (show 12 < 18 by decide)
  simp only [b2n, if_true] at sat
  rw [x.c_eq, x.v_eq]
  unfold Core.flags
  obtain ⟨val, c, v, s⟩ := r
  cases c <;> cases v <;> cases s <;>
    simp only [bit, sat, Nat.reduceLT, if_true, Bool.false_eq_true, if_false, Option.getD, Bool.true_or, Bool.false_or] <;> grind

/-- A core but for its SR. -/
def Core.besideSr (x : Core) : Core := { x with sr := 0 }

theorem Core.besideSr_setSr (hi lo v : Nat) : (x.setSr hi lo v).besideSr = x.besideSr := (rfl)

theorem Core.besideSr_flags (r : Res) : (x.flags r).besideSr = x.besideSr := by
  unfold Core.flags
  obtain ⟨val, c, v, s⟩ := r
  cases c <;> cases v <;> cases s <;> simp only [Core.besideSr_setSr, if_true, Bool.false_eq_true, if_false]

theorem Core.eq_of_besideSr {y : Core} (h : y.besideSr = x.besideSr) : y = { x with sr := y.sr } :=
  congrArg (fun z : Core => { z with sr := y.sr }) h

/-- A result changes SR alone. -/
theorem Core.flags_eq (r : Res) : x.flags r = { x with sr := (x.flags r).sr } := x.eq_of_besideSr (x.besideSr_flags r)

end Status

/-! ### Leading zeros (R593) -/

/-- The first place of a list of bits where one is set, or its length. -/
theorem getD_find?_range_spec (p : Nat → Bool) (n : Nat) : let k := ((List.range n).find? p).getD n
    k ≤ n ∧ (∀ j < k, p j = false) ∧ (k < n → p k = true) := by
  cases h : (List.range n).find? p with
  | none =>
    simp only [List.find?_eq_none, List.mem_range, Bool.not_eq_true] at h
    exact ⟨le_rfl, h, fun hn => absurd hn (lt_irrefl n)⟩
  | some k =>
    obtain ⟨hk, hn, hlt⟩ := List.find?_range_eq_some.mp h
    exact ⟨Nat.le_of_lt (List.mem_range.mp hn), fun j hj => by simpa using hlt j hj, fun _ => hk⟩

theorem toNat_clz (b : Word) : (clz b).toNat = ((List.range 18).find? (fun i => b.getLsbD (17 - i))).getD 18 := by
  obtain ⟨hle, -, -⟩ := getD_find?_range_spec (fun i => b.getLsbD (17 - i)) 18
  exact (toNat_toWord _).trans (Nat.mod_eq_of_lt (by omega))

/-- Settles O12: the register file's laws, the bits of a result's flags, and the first set bit from the top. -/
theorem registersAndFlags : Obligations.RegistersAndFlags := by
  unfold Obligations.RegistersAndFlags
  refine ⟨?registers, ?flags⟩
  case registers => exact fun x i j v => ⟨x.get_put_self i v, fun h => x.get_put_of_ne v j.isLt i.isLt fun e => h (Fin.ext e.symm), rfl⟩
  case flags =>
    intro x r b i j y k
    obtain ⟨hle, hbelow, hat⟩ := getD_find?_range_spec (fun i => b.getLsbD (17 - i)) 18
    rw [← toNat_clz b] at hle hbelow hat
    refine ⟨⟨?n, ?z, ?c, ?v⟩, fun hi => ?others, x.getLsbD_flags r 12, ?rest, hle, fun hj => hbelow j hj, hat⟩
    case n => exact (Core.n_eq y).trans (x.getLsbD_flags r 17)
    case z => exact (Core.z_eq y).trans (x.getLsbD_flags r 16)
    case c => exact (Core.c_eq y).trans (x.getLsbD_flags r 15)
    case v => exact (Core.v_eq y).trans (x.getLsbD_flags r 14)
    case others =>
      rw [show y.sr.getLsbD i = _ from x.getLsbD_flags r i, if_neg (by omega), if_neg (by omega), if_neg (by omega), if_neg (by omega),
        if_neg (by omega)]
    case rest => rw [show y = _ from x.flags_eq r]

end Sys2Proof.Machine
end

section
/-! PROOFS. The statements on hardware loops (R568, R569, R598) and on jumps, which end levels (R570, R592, R597). -/

namespace Sys2Proof.Machine

/-! ### Loop levels -/

section Levels
variable (x : Core)

theorem Core.lpcOf_setLpc_self (k : Nat) {v : Nat} (h : v < 2 ^ 18) : (x.setLpc k v).lpcOf k = v := by
  simp only [Core.lpcOf, Core.setLpc, smGet_smPut_self, toNat_toWord]
  exact Nat.mod_eq_of_lt h

theorem Core.lpcOf_setLpc_of_ne {j k : Nat} (v : Nat) (h : j ≠ k) : (x.setLpc k v).lpcOf j = x.lpcOf j := by
  simp only [Core.lpcOf, Core.setLpc, smGet_smPut_of_ne _ _ _ h]

/-- Another level acts as before. -/
theorem Core.acts_setLpc_of_ne {j k : Nat} (v : Nat) (h : j ≠ k) : (x.setLpc k v).acts j = x.acts j := by
  simp only [Core.acts, Core.active, x.lpcOf_setLpc_of_ne v h]
  rfl

/-- A level that acts at a parcel. -/
def Core.endsAt (p k : Nat) : Bool := x.acts k && decide (x.lpeOf k = p)

theorem Core.endsAt_iff (p k : Nat) : x.endsAt p k = true ↔ x.acts k = true ∧ x.lpeOf k = p := by
  simp [Core.endsAt]

theorem Core.endsAt_setLpc_of_ne {j k : Nat} (p v : Nat) (h : j ≠ k) : (x.setLpc k v).endsAt p j = x.endsAt p j := by
  simp only [Core.endsAt, x.acts_setLpc_of_ne v h]
  rfl

/-- Levels that do not act are passed over. -/
theorem Core.loopAt_append (p d : Nat) {l : List Nat} (h : ∀ k ∈ l, x.endsAt p k = false) (m : List Nat) :
    x.loopAt p d (l ++ m) = x.loopAt p d m := by
  induction l with
  | nil => rfl
  | cons k l ih =>
    have hk : ¬ (x.acts k = true ∧ x.lpeOf k = p) := fun hc => Bool.eq_false_iff.mp (h k List.mem_cons_self) ((x.endsAt_iff p k).mpr hc)
    rw [List.cons_append, Core.loopAt, if_neg hk, ih fun j hj => h j (List.mem_cons_of_mem _ hj)]

theorem Core.loopAt_of_idle (p d : Nat) {l : List Nat} (h : ∀ k ∈ l, x.endsAt p k = false) : x.loopAt p d l = (x, d) := by
  rw [← l.append_nil, x.loopAt_append p d h, Core.loopAt]

variable {p d k : Nat} (hk : x.endsAt p k = true) {l : List Nat} (hl : ∀ j ∈ l, x.endsAt p j = false) (m : List Nat)
include hk hl

/-- The innermost level that acts goes back to its start while iterations remain. -/
theorem Core.loopAt_of_more (h : 1 < x.lpcOf k) : x.loopAt p d (l ++ k :: m) = (x.setLpc k (x.lpcOf k - 1), x.lpsOf k) := by
  rw [x.loopAt_append p d hl, Core.loopAt, if_pos ((x.endsAt_iff p k).mp hk), if_pos h]

/-- A level at its last iteration ends; with no other level, the next parcel follows. -/
theorem Core.loopAt_of_last (h : x.lpcOf k = 1) (hkm : k ∉ m) (hm : ∀ j ∈ m, x.endsAt p j = false) :
    x.loopAt p d (l ++ k :: m) = (x.setLpc k 0, d) := by
  rw [x.loopAt_append p d hl, Core.loopAt, if_pos ((x.endsAt_iff p k).mp hk), if_neg (by omega)]
  refine Core.loopAt_of_idle _ p d fun j hj => ?_
  rw [x.endsAt_setLpc_of_ne p 0 (ne_of_mem_of_not_mem hj hkm)]
  exact hm j hj

end Levels

theorem Core.next_of_after (x : Core) {n d : Nat} {y : Core} (h : x.after n = (y, d)) : x.next n = { y with pc := d } := by
  rw [Core.next, h]

/-- The levels above one, and those below it, in the order in which they act. -/
theorem levels_split (k : Fin 4) : [3, 2, 1, 0] = (((List.range 4).filter (fun j => decide (k.val < j))).reverse)
    ++ k.val :: ((List.range k.val).reverse) := by
  revert k
  decide

/-! ### LOOP and LOOPI (R568, R598) -/

/-- The level that a LOOP opens, or the body skipped for a count of 0. -/
def Core.opened (x : Core) (n last v : Nat) : Core :=
  if v = 0 then { x with pc := (last + 1) % 2 ^ 21 }
  else { (((x.setLps x.levels (x.pc + n)).setLpe x.levels last).setLpc x.levels v).setTag x.levels x.wd with pc := (x.pc + n) % 2 ^ 21 }

theorem State.loopOp_of_level {s : State} {c : CoreId} {n e : Nat} (count : Core → Nat) {x : Core} (hx : s.core c.num = x)
    (hf : s.fetches c.num n = true) (hl : x.levels < 4) (he : e ≠ 0) (hb : x.nestBad ((x.pc + n + e) % 2 ^ 21) = false) :
    s.loopOp c n e count = s.setCore c.num (x.opened n ((x.pc + n + e) % 2 ^ 21) (count x)) := by
  subst hx
  unfold State.loopOp
  extract_lets x last
  rw [State.instr_of_fetches hf]
  · rfl
  · simp only [List.cons_append, List.nil_append, List.mem_cons, List.not_mem_nil, or_false]
    rintro t (rfl | rfl | rfl)
    · exact if_neg (by simpa using hl)
    · exact if_neg (by simpa using he)
    · exact if_neg (Bool.eq_false_iff.mp hb)

/-- A word is 0 where its number is. -/
theorem Core.opened_of_word (x : Core) (n last : Nat) (v : Word) : x.opened n last v.toNat =
    if v = 0 then { x with pc := (last + 1) % 2 ^ 21 }
    else { (((x.setLps x.levels (x.pc + n)).setLpe x.levels last).setLpc x.levels v.toNat).setTag x.levels x.wd with
      pc := (x.pc + n) % 2 ^ 21 } := by
  have hv : v.toNat = 0 ↔ v = 0 := ⟨fun h => BitVec.eq_of_toNat_eq h, fun h => by rw [h]; rfl⟩
  simp only [Core.opened, hv]

/-- Settles O13: LOOP opens the next level; the levels act from the innermost outward. -/
theorem hardwareLoops : Obligations.HardwareLoops := by
  unfold Obligations.HardwareLoops
  refine ⟨?opens, ?acts⟩
  case opens =>
    intro s c rc e count x opens hl he
    have he' : e.toNat ≠ 0 := fun h => he (BitVec.eq_of_toNat_eq h)
    have out (n : Nat) (v : Word) : (.next (s.setCore c.num (x.opened n ((x.pc + n + e.toNat) % 2 ^ 21) v.toNat)) : Out State) = opens n v := by
      rw [Core.opened_of_word]
      exact apply_ite (fun y => (.next (s.setCore c.num y) : Out State)) _ _ _
    exact ⟨fun hf hb => (congrArg Host.Outcome.next (State.loopOp_of_level _ rfl hf hl he' hb)).trans (out 1 (x.get rc)),
      fun hf hb => (congrArg Host.Outcome.next (State.loopOp_of_level _ rfl hf hl he' hb)).trans (out 2 count)⟩
  case acts =>
    intro x n k last ends
    have off {q : Nat → Bool} (h : (List.range 4).all (fun j => q j || !ends j) = true) {j : Nat} (hj : j < 4) (hq : q j = false) :
        x.endsAt last j = false := by
      have hj' := List.all_eq_true.mp h j (List.mem_range.mpr hj)
      rw [hq, Bool.false_or, Bool.not_eq_true'] at hj'
      exact hj'
    refine ⟨fun h => ?none, fun hk h hm => ?more, fun hk h hm => ?final⟩
    case none =>
      have hidle : ∀ j ∈ [3, 2, 1, 0], x.endsAt last j = false := fun j hj =>
        off (q := fun _ => false) h (by simp only [List.mem_cons, List.not_mem_nil, or_false] at hj; omega) rfl
      exact x.next_of_after (x.loopAt_of_idle last _ hidle)
    case more =>
      refine x.next_of_after ?_
      rw [Core.after, levels_split k]
      refine x.loopAt_of_more hk (fun j hj => ?_) _ hm
      simp only [List.mem_reverse, List.mem_filter, List.mem_range, decide_eq_true_eq] at hj
      exact off h hj.1 (decide_eq_false (by omega))
    case final =>
      refine x.next_of_after ?_
      rw [Core.after, levels_split k]
      refine x.loopAt_of_last hk (fun j hj => ?_) _ hm (by simp) fun j hj => ?_
      · simp only [List.mem_reverse, List.mem_filter, List.mem_range, decide_eq_true_eq] at hj
        exact off h hj.1 (decide_eq_false (by omega))
      · simp only [List.mem_reverse, List.mem_range] at hj
        exact off h (by omega) (decide_eq_false (by omega))

end Sys2Proof.Machine
end

section
/-! PROOFS. The statements on jumps, which end loop levels (R570, R597), and on the branch conditions (R592). -/

namespace Sys2Proof.Machine

/-! ### Levels that end -/

section Ends
variable (x : Core)

/-- Some levels ended: each of them counts 0, and the others count on. -/
theorem Core.lpcOf_endIf (q : Nat → Bool) (j : Nat) (l : List Nat) :
    (l.foldl (fun y j => if q j then y.setLpc j 0 else y) x).lpcOf j = if j ∈ l ∧ q j then 0 else x.lpcOf j := by
  induction l generalizing x with
  | nil => simp
  | cons k l ih =>
    rw [List.foldl_cons, ih]
    by_cases hj : j = k
    · subst hj
      cases hq : q j <;> simp [x.lpcOf_setLpc_self j (v := 0) (by decide)]
    · have hk : (if q k then x.setLpc k 0 else x).lpcOf j = x.lpcOf j := by
        split
        · exact x.lpcOf_setLpc_of_ne 0 hj
        · rfl
      simp [hk, hj]

/-- A core but for its loop counts. -/
def Core.besideLpc (x : Core) : Core := { x with lpc := [] }

theorem Core.besideLpc_setLpc (k v : Nat) : (x.setLpc k v).besideLpc = x.besideLpc := (rfl)

theorem Core.eq_of_besideLpc {y : Core} (h : y.besideLpc = x.besideLpc) : y = { x with lpc := y.lpc } :=
  congrArg (fun z : Core => { z with lpc := y.lpc }) h

theorem Core.besideLpc_endIf (q : Nat → Bool) (l : List Nat) :
    (l.foldl (fun y j => if q j then y.setLpc j 0 else y) x).besideLpc = x.besideLpc := by
  induction l generalizing x with
  | nil => rfl
  | cons k l ih =>
    rw [List.foldl_cons, ih]
    split
    · exact x.besideLpc_setLpc k 0
    · rfl

theorem Core.endFrom_eq (k : Nat) :
    x.endFrom k = (List.range 4).foldl (fun y j => if decide (k ≤ j) then y.setLpc j 0 else y) x := by
  simp only [Core.endFrom, decide_eq_true_eq]

theorem Core.lpcOf_endFrom (k : Nat) {j : Nat} (hj : j < 4) : (x.endFrom k).lpcOf j = if k ≤ j then 0 else x.lpcOf j := by
  rw [x.endFrom_eq, x.lpcOf_endIf (fun j => decide (k ≤ j))]
  simp [hj]

theorem Core.endFrom_eq_lpc (k : Nat) : x.endFrom k = { x with lpc := (x.endFrom k).lpc } :=
  x.eq_of_besideLpc ((congrArg Core.besideLpc (x.endFrom_eq k)).trans (x.besideLpc_endIf (fun j => decide (k ≤ j)) _))

/-- A branch to a parcel leaves a level. -/
def Core.leaves (t k : Nat) : Bool := x.acts k && decide (t < x.lpsOf k ∨ x.lpeOf k < t)

theorem Core.leaves_eq (t k : Nat) : x.leaves t k = (x.acts k && !decide (x.lpsOf k ≤ t ∧ t ≤ x.lpeOf k)) := by
  rw [Core.leaves, ← decide_not]
  exact congrArg (x.acts k && ·) (decide_eq_decide.mpr (by omega))

theorem Core.leaveLoops_eq (t : Nat) : x.leaveLoops t = ((List.range 4).find? (x.leaves t)).elim x x.endFrom := by
  rw [show x.leaves t = _ from funext (x.leaves_eq t)]
  unfold Core.leaveLoops
  cases (List.range 4).find? _ <;> rfl

theorem Core.jump_of_inside {t : Nat} (h : (List.range 4).all (fun i => !x.leaves t i) = true) : x.jump t = { x with pc := t % 2 ^ 21 } := by
  have hn : (List.range 4).find? (x.leaves t) = none :=
    List.find?_eq_none.mpr fun i hi => by simpa using List.all_eq_true.mp h i hi
  rw [Core.jump, x.leaveLoops_eq, hn]
  rfl

theorem Core.jump_of_leaving {t k : Nat} (hk : k < 4) (h : x.leaves t k = true) (hl : (List.range k).all (fun i => !x.leaves t i) = true) :
    x.jump t = { x.endFrom k with pc := t % 2 ^ 21 } := by
  have hn : (List.range 4).find? (x.leaves t) = some k :=
    List.find?_range_eq_some.mpr ⟨h, List.mem_range.mpr hk, fun i hi => List.all_eq_true.mp hl i (List.mem_range.mpr hi)⟩
  rw [Core.jump, x.leaveLoops_eq, hn]
  rfl

end Ends

/-! ### Jumps and branches of a core -/

theorem State.jumpTo_eq {s u : State} {c : Nat} {y : Core} (hy : s.core c = y) (hu : s.flow c y.pc = u) (t : Nat) :
    s.jumpTo c t = u.setCore c ((u.core c).jump t) := by
  subst hy hu
  rfl

/-- Settles O22: the jump of a core, and the levels that it leaves. -/
theorem jumps : Obligations.Jumps := by
  unfold Obligations.Jumps
  intro s c t rs x k j p y u goes leaves
  refine ⟨fun hf => ?jmp, fun hf => ?jmpr, fun h => x.jump_of_inside h, fun hk hl => ?leaving⟩
  case jmp =>
    exact congrArg Host.Outcome.next ((State.instr_of_fetches hf _ _ _ (by simp)).trans (State.jumpTo_eq rfl rfl _))
  case jmpr =>
    exact congrArg Host.Outcome.next ((State.instr_of_fetches hf _ _ _ (by simp)).trans (State.jumpTo_eq rfl rfl _))
  case leaving =>
    have hr := congrArg Core.r (x.endFrom_eq_lpc k)
    have hsr := congrArg Core.sr (x.endFrom_eq_lpc k)
    rw [x.jump_of_leaving k.isLt hk hl]
    exact ⟨x.lpcOf_endFrom k j.isLt, rfl, hr, hsr⟩

/-! ### Branches (R592) -/

theorem wrapTo_eq (n : Nat) (i : Int) : wrapTo n i = (i % 2 ^ n).toNat := by simp [wrapTo]

/-- The conditions of the table, in order. -/
def Core.conditions (x : Core) : List Bool :=
  [true, x.z, !x.z, x.c, !x.c, x.n, !x.n, x.v, !x.v, !x.c && !x.z, x.c || x.z, x.n == x.v, x.n != x.v, !x.z && (x.n == x.v),
    x.z || (x.n != x.v)]

theorem Core.holds_eq (x : Core) {k : Nat} (hk : k < 15) : x.holds k = x.conditions.getD k false := by
  interval_cases k <;> rfl

section Branch
variable {s : State} {c : CoreId} {n : Nat} {k : BitVec 4} {h : Bool} (hf : s.fetches c.num n = true)
include hf

theorem State.branchOp_of_condition (off : Int) (hk : k.toNat < 15) (hh : k.toNat = 0 → h = false) {x : Core} (hx : s.core c.num = x)
    {u : State} (hu : s.flow c.num x.pc = u) : s.branchOp c n k h off =
      if x.conditions.getD k.toNat false then u.setCore c.num ((u.core c.num).jump ((x.pc + off) % 2 ^ 21).toNat)
      else s.setCore c.num (x.next n) := by
  subst hx
  have hb : ∀ t ∈ [s.ill c.num 2 (decide (k.toNat = 15) || (decide (k.toNat = 0) && h))] ++ [], t = none := by
    have hr : (decide (k.toNat = 15) || (decide (k.toNat = 0) && h)) = false := by
      rw [decide_eq_false (by omega), Bool.false_or, Bool.and_eq_false_iff]
      exact (Nat.eq_zero_or_pos k.toNat).elim (fun h0 => .inr (hh h0)) fun h0 => .inl (decide_eq_false (by omega))
    simp [State.ill, hr]
  rw [State.branchOp, State.instr_of_fetches hf _ _ _ hb, ← (s.core c.num).holds_eq hk, ← wrapTo_eq, ← State.jumpTo_eq rfl hu]
  rfl

theorem State.branchOp_of_reserved (off : Int) (hk : (decide (k.toNat = 15) || (decide (k.toNat = 0) && h)) = true) :
    s.branchOp c n k h off = s.trap c.num ⟨0, 2, (s.core c.num).pc⟩ :=
  State.instr_of_trap hf _ _ _ _ (by simp only [State.ill, hk]; rfl) (show (0 : Nat) ≠ 3 by decide)

end Branch

/-- Settles O9: a branch asks for the condition of its place in the table; 15 is the reserved encoding. -/
theorem conditions : Obligations.Conditions := by
  unfold Obligations.Conditions
  intro s c k h o w x taken u goes stays
  have out (n p : Nat) : (.next (if taken then u.setCore c.num ((u.core c.num).jump p) else s.setCore c.num (x.next n)) : Out State)
      = if taken then goes p else stays n := apply_ite Host.Outcome.next _ _ _
  refine ⟨?short, ?long, ?shortReserved, ?longReserved⟩
  case short =>
    exact fun hk hh hf => (congrArg Host.Outcome.next (State.branchOp_of_condition hf o.toInt hk hh rfl rfl)).trans (out 1 _)
  case long =>
    exact fun hk hh hf => (congrArg Host.Outcome.next (State.branchOp_of_condition hf w.toInt hk hh rfl rfl)).trans (out 2 _)
  case shortReserved => exact fun hk hf => congrArg Host.Outcome.next (State.branchOp_of_reserved hf _ (by simp [hk]))
  case longReserved => exact fun hk hf => congrArg Host.Outcome.next (State.branchOp_of_reserved hf _ (by simp [hk]))

end Sys2Proof.Machine
end

section
/-! PROOFS. The statements on the arithmetic, logic, move, shift and bit instructions (R591, R593, R594). -/

namespace Sys2Proof.Machine

/-! ### Sums, differences and saturation (R591) -/

/-- A value beyond the signed words. -/
def outside (z : Int) : Bool := decide (z < -131072 ∨ 131071 < z)

/-- The signed word nearest to a value. -/
def saturated (z : Int) : Word := if 131071 < z then 0o377777 else if z < -131072 then 0o400000 else BitVec.ofInt 18 z

theorem toInt_ofInt_eq (z : Int) : (BitVec.ofInt 18 z).toInt = z.bmod 262144 := BitVec.toInt_ofInt _

theorem decide_ne_toInt_ofInt (z : Int) : decide (z ≠ (BitVec.ofInt 18 z).toInt) = outside z := by
  rw [toInt_ofInt_eq, outside, decide_eq_decide, Int.bmod_def]
  split <;> omega

theorem sum_eq_ofInt (a b : Word) (k : Nat) : a + b + toWord k = BitVec.ofInt 18 (a.toInt + b.toInt + k) := by
  rw [BitVec.ofInt_add, BitVec.ofInt_add, BitVec.ofInt_toInt, BitVec.ofInt_toInt, BitVec.ofInt_natCast]
  rfl

theorem ofInt_sub (y z : Int) : BitVec.ofInt 18 (y - z) = BitVec.ofInt 18 y - BitVec.ofInt 18 z := by
  rw [sub_eq_add_neg, BitVec.ofInt_add, BitVec.ofInt_neg, ← sub_eq_add_neg]

theorem difference_eq_ofInt (a b : Word) (k : Nat) : a - b - toWord k = BitVec.ofInt 18 (a.toInt - b.toInt - k) := by
  rw [ofInt_sub, ofInt_sub, BitVec.ofInt_toInt, BitVec.ofInt_toInt, BitVec.ofInt_natCast]
  rfl

theorem addRes_eq (a b : Word) (k : Nat) : addRes a b k =
    { val := a + b + toWord k, c := some (decide (2 ^ 18 ≤ a.toNat + b.toNat + k)), v := some (outside (a.toInt + b.toInt + k)) } := by
  unfold addRes
  dsimp only
  rw [← decide_ne_toInt_ofInt, ← sum_eq_ofInt]

theorem subRes_eq (a b : Word) (k : Nat) : subRes a b k =
    { val := a - b - toWord k, c := some (decide (a.toNat < b.toNat + k)), v := some (outside (a.toInt - b.toInt - k)) } := by
  unfold subRes
  dsimp only
  rw [← decide_ne_toInt_ofInt, ← difference_eq_ofInt]

theorem addRes_zero (a b : Word) : addRes a b 0 =
    { val := a + b, c := some (decide (2 ^ 18 ≤ a.toNat + b.toNat)), v := some (outside (a.toInt + b.toInt)) } := by
  rw [addRes_eq, show toWord 0 = 0 from rfl, add_zero, Nat.add_zero, Nat.cast_zero, add_zero]

theorem subRes_zero (a b : Word) : subRes a b 0 =
    { val := a - b, c := some (decide (a.toNat < b.toNat)), v := some (outside (a.toInt - b.toInt)) } := by
  rw [subRes_eq, show toWord 0 = 0 from rfl, sub_zero, Nat.add_zero, Nat.cast_zero, sub_zero]

/-- A sum or difference of two words that leaves the signed words saturates toward its sign. -/
theorem satRes_eq {z : Int} (c : Option Bool) (hlo : -262144 ≤ z) (hhi : z < 262144) :
    satRes { val := BitVec.ofInt 18 z, c := c, v := some (outside z) } =
      { val := saturated z, c := c, v := some false, sat := outside z } := by
  have hm : (BitVec.ofInt 18 z).msb = decide (z.bmod 262144 < 0) := by rw [BitVec.msb_eq_toInt, toInt_ofInt_eq]
  rw [Int.bmod_def] at hm
  unfold satRes saturated
  rcases lt_or_ge 131071 z with h1 | h1
  · have ho : outside z = true := decide_eq_true (.inr h1)
    have hs : (BitVec.ofInt 18 z).msb = true := by
      rw [hm]
      exact decide_eq_true (by split <;> omega)
    simp only [ho, hs, if_true, if_pos h1]
  · rcases lt_or_ge z (-131072) with h2 | h2
    · have ho : outside z = true := decide_eq_true (.inl h2)
      have hs : (BitVec.ofInt 18 z).msb = false := by
        rw [hm]
        exact decide_eq_false (by split <;> omega)
      simp only [ho, hs, if_true, if_neg (Int.not_lt.mpr h1), if_pos h2, Bool.false_eq_true, if_false]
    · have ho : outside z = false := decide_eq_false (by omega)
      simp only [ho, Option.some.injEq, Bool.false_eq_true, if_false, if_neg (Int.not_lt.mpr h1), if_neg (Int.not_lt.mpr h2)]

theorem toInt_mem (a : Word) : -131072 ≤ a.toInt ∧ a.toInt ≤ 131071 := by
  have h1 := a.le_two_mul_toInt
  have h2 := a.two_mul_toInt_lt
  norm_num at h1 h2
  omega

theorem satRes_addRes (a b : Word) : satRes (addRes a b 0) =
    { val := saturated (a.toInt + b.toInt), c := some (decide (2 ^ 18 ≤ a.toNat + b.toNat)), v := some false,
      sat := outside (a.toInt + b.toInt) } := by
  have ha := toInt_mem a
  have hb := toInt_mem b
  rw [addRes_zero, show a + b = BitVec.ofInt 18 (a.toInt + b.toInt) by rw [BitVec.ofInt_add, BitVec.ofInt_toInt, BitVec.ofInt_toInt]]
  exact satRes_eq _ (by omega) (by omega)

theorem satRes_subRes (a b : Word) : satRes (subRes a b 0) =
    { val := saturated (a.toInt - b.toInt), c := some (decide (a.toNat < b.toNat)), v := some false,
      sat := outside (a.toInt - b.toInt) } := by
  have ha := toInt_mem a
  have hb := toInt_mem b
  rw [subRes_zero, show a - b = BitVec.ofInt 18 (a.toInt - b.toInt) by rw [ofInt_sub, BitVec.ofInt_toInt, BitVec.ofInt_toInt]]
  exact satRes_eq _ (by omega) (by omega)

/-! ### Negation -/

theorem toNat_zero_lt_iff (b : Word) : (0 : Word).toNat < b.toNat ↔ b ≠ 0 := by
  rw [show (0 : Word).toNat = 0 from rfl, Nat.pos_iff_ne_zero]
  exact not_congr ⟨fun h => BitVec.eq_of_toNat_eq h, fun h => by rw [h]; rfl⟩

/-- Only the most negative word has no negation. -/
theorem outside_neg (b : Word) : outside ((0 : Word).toInt - b.toInt) = decide (b = 0o400000) := by
  have hb := toInt_mem b
  have hmin : b.toInt = -131072 ↔ b = 0o400000 := ⟨fun h => BitVec.eq_of_toInt_eq (h.trans rfl), fun h => by rw [h]; rfl⟩
  rw [outside, decide_eq_decide, ← hmin, show (0 : Word).toInt = 0 from rfl]
  omega

theorem subRes_neg (b : Word) : subRes 0 b 0 = { val := -b, c := some (decide (b ≠ 0)), v := some (decide (b = 0o400000)) } := by
  rw [subRes_zero, outside_neg, zero_sub, decide_eq_decide.mpr (toNat_zero_lt_iff b)]

theorem satRes_neg (b : Word) : satRes (subRes 0 b 0) =
    { val := saturated (-b.toInt), c := some (decide (b ≠ 0)), v := some false, sat := decide (b = 0o400000) } := by
  rw [satRes_subRes, outside_neg, decide_eq_decide.mpr (toNat_zero_lt_iff b), show (0 : Word).toInt = 0 from rfl, zero_sub]

/-! ### Bytes of a word -/

theorem zxb_eq (b : Word) : zxb b = BitVec.ofNat 18 (b.toNat % 256) := by
  refine BitVec.eq_of_toNat_eq ?_
  rw [zxb, BitVec.toNat_and, BitVec.toNat_ofNat]
  exact (Nat.and_two_pow_sub_one_eq_mod b.toNat 8).trans (Nat.mod_eq_of_lt (by omega)).symm

theorem swb_eq (b : Word) : swb b = b.extractLsb' 16 2 ++ b.extractLsb' 0 8 ++ b.extractLsb' 8 8 := by
  have hb := b.isLt
  refine BitVec.eq_of_toNat_eq ?_
  rw [BitVec.toNat_append, ← Nat.shiftLeft_add_eq_or_of_lt (BitVec.isLt _), BitVec.toNat_append,
    ← Nat.shiftLeft_add_eq_or_of_lt (BitVec.isLt _)]
  simp only [swb, toNat_toWord, BitVec.extractLsb'_toNat, Nat.shiftLeft_eq, Nat.shiftRight_eq_div_pow, Nat.reducePow, Nat.div_one]
  omega

theorem ofNat_toNat_word (w : Word) : BitVec.ofNat 18 w.toNat = w := by simp

/-! ### Instructions that change only their core -/

section Shapes
variable {s : State} {c : CoreId} {n : Nat} {x : Core} (hf : s.fetches c.num n = true) (hx : s.core c.num = x)
include hf hx

/-- An instruction that changes only its core, by what it makes of the core. -/
theorem exec_coreOp {i : Instr} {f : Core → Core} {y : Core} (hi : exec i s = .next (s.coreOp c n [] f)) (hy : f x = y) :
    exec i s = .next (s.setCore c.num (y.next n)) := by
  subst hx hy
  exact hi.trans (congrArg Host.Outcome.next (State.coreOp_of_fetches hf [] (by simp) f))

theorem exec_aluOp {i : Instr} {rd : Nat} {f : Core → Res} {r : Res} (hi : exec i s = .next (s.aluOp c n rd f)) (hr : f x = r) :
    exec i s = .next (s.setCore c.num ((x.result rd r).next n)) := exec_coreOp hf hx hi (congrArg (x.result rd) hr)

theorem exec_flagOp {i : Instr} {f : Core → Res} {r : Res} (hi : exec i s = .next (s.flagOp c n f)) (hr : f x = r) :
    exec i s = .next (s.setCore c.num ((x.flags r).next n)) := exec_coreOp hf hx hi (congrArg x.flags hr)

theorem exec_movOp {i : Instr} {rd : Nat} {f : Core → Word} {v : Word} (hi : exec i s = .next (s.movOp c n rd f)) (hv : f x = v) :
    exec i s = .next (s.setCore c.num ((x.put rd v).next n)) := exec_coreOp hf hx hi (congrArg (x.put rd) hv)

end Shapes

/-- Settles O14: each form is a result of its operands. -/
theorem aluRegisterForms : Obligations.AluRegisterForms := by
  unfold Obligations.AluRegisterForms
  intro s c rd rs hf x a b k done seen out sat
  have alu {i : Instr} {f : Core → Res} {r : Res} (hi : exec i s = .next (s.aluOp c 1 rd f)) (hr : f x = r) : exec i s = done r :=
    exec_aluOp hf rfl hi hr
  have flag {i : Instr} {f : Core → Res} {r : Res} (hi : exec i s = .next (s.flagOp c 1 f)) (hr : f x = r) : exec i s = seen r :=
    exec_flagOp hf rfl hi hr
  exact ⟨alu rfl (addRes_zero a b), alu rfl (addRes_eq a b k), alu rfl (subRes_zero a b), alu rfl (subRes_eq a b k), alu rfl rfl,
    alu rfl rfl, alu rfl rfl, alu rfl rfl, exec_movOp hf rfl rfl rfl, alu rfl (subRes_neg b), alu rfl (satRes_neg b), alu rfl rfl,
    flag rfl (subRes_zero a b), flag rfl rfl, alu rfl (satRes_addRes a b), alu rfl (satRes_subRes a b),
    alu rfl rfl, alu rfl (congrArg plainRes (zxb_eq b)), alu rfl (congrArg plainRes (swb_eq b)),
    alu rfl (congrArg plainRes (ofNat_toNat_word (clz b)).symm)⟩

/-- Settles O15: as the register forms, with the immediate in place of a register. -/
theorem aluImmediateForms : Obligations.AluImmediateForms := by
  unfold Obligations.AluImmediateForms
  intro s c rd rs i7 i x a b e done seen out
  refine ⟨fun hf => ?short, fun hf => ?long⟩
  case short =>
    exact ⟨exec_coreOp hf rfl rfl rfl, exec_aluOp hf rfl rfl (addRes_zero a e), exec_movOp hf rfl rfl rfl,
      exec_flagOp hf rfl rfl (subRes_zero a e)⟩
  case long =>
    exact ⟨exec_movOp hf rfl rfl rfl, exec_aluOp hf rfl rfl (addRes_zero b i), exec_aluOp hf rfl rfl rfl, exec_aluOp hf rfl rfl rfl,
      exec_aluOp hf rfl rfl rfl, exec_aluOp hf rfl rfl (subRes_zero b i), exec_flagOp hf rfl rfl (subRes_zero b i),
      exec_flagOp hf rfl rfl rfl, exec_movOp hf rfl rfl rfl⟩

/-! ### Shifts and bits (R594) -/

theorem shl_eq (a : Word) (n : Nat) : a <<< n = BitVec.ofNat 18 (a.toNat * 2 ^ n) := by
  refine BitVec.eq_of_toNat_eq ?_
  rw [BitVec.toNat_shiftLeft, BitVec.toNat_ofNat, Nat.shiftLeft_eq]

theorem shr_eq (a : Word) (n : Nat) : a >>> n = BitVec.ofNat 18 (a.toNat / 2 ^ n) := by
  refine BitVec.eq_of_toNat_eq ?_
  rw [BitVec.toNat_ushiftRight, BitVec.toNat_ofNat, Nat.shiftRight_eq_div_pow,
    Nat.mod_eq_of_lt ((Nat.div_le_self _ _).trans_lt a.isLt)]

theorem sar_eq (a : Word) (n : Nat) : a.sshiftRight n = BitVec.ofInt 18 (a.toInt / 2 ^ n) := by
  rw [BitVec.sshiftRight, Int.shiftRight_eq_div_pow, Nat.cast_pow, Nat.cast_ofNat]

/-- A bit leaves a word on the left where the word reaches that far. -/
theorem shl_overflows_iff (a n : Nat) : (a / 2 ^ (18 - n) ≠ 0 ∧ n ≠ 0) ↔ (0 < n ∧ 2 ^ 18 ≤ a * 2 ^ Nat.min n 18) := by
  have he : 2 ^ 18 = 2 ^ (18 - n) * 2 ^ Nat.min n 18 := by
    rw [← pow_add]
    exact congrArg (2 ^ ·) (show 18 = 18 - n + min n 18 by omega)
  rw [he, Nat.mul_le_mul_right_iff (Nat.two_pow_pos _), ← Nat.one_le_div_iff (Nat.two_pow_pos _)]
  exact and_comm.trans (and_congr Nat.pos_iff_ne_zero.symm Nat.one_le_iff_ne_zero.symm)

/-- The bit that a shift loses last, where it loses one. -/
def lostBit (a : Word) (m k : Nat) : Option Bool := if m = 0 then none else some (decide (m ≤ 18) && a.getLsbD k)

theorem shlRes_eq (a : Word) (n : Nat) : shlRes a n =
    { val := BitVec.ofNat 18 (a.toNat * 2 ^ n), c := lostBit a n (18 - n),
      v := some (decide (0 < n ∧ 2 ^ 18 ≤ a.toNat * 2 ^ Nat.min n 18)) } := by
  rw [shlRes, shl_eq, decide_eq_decide.mpr (shl_overflows_iff a.toNat n)]
  rfl

theorem shrRes_eq (a : Word) (n : Nat) :
    shrRes a n = { val := BitVec.ofNat 18 (a.toNat / 2 ^ n), c := lostBit a n (n - 1), v := some false } := by
  rw [shrRes, shr_eq]
  rfl

theorem sarRes_eq (a : Word) (n : Nat) : sarRes a n =
    { val := BitVec.ofInt 18 (a.toInt / 2 ^ n),
      c := if n = 0 then none else some (if n ≤ 18 then a.getLsbD (n - 1) else a.msb), v := some false } := by
  rw [sarRes, sar_eq]

section Numbered
variable {s : State} {c : CoreId} {x : Core} (hf : s.fetches c.num 1 = true) (hx : s.core c.num = x) {n : Nat} (hn : n ≤ 17)
include hf hx hn

theorem exec_numbered {i : Instr} {f : Core → Core} {y : Core} (hi : exec i s = .next (s.coreOp c 1 (s.nBad c n) f)) (hy : f x = y) :
    exec i s = .next (s.setCore c.num (y.next 1)) := by
  subst hx hy
  have hb : ∀ t ∈ s.nBad c n, t = none := by
    have hd : decide (17 < n) = false := decide_eq_false (by omega)
    simp [State.nBad, State.ill, hd]
  exact hi.trans (congrArg Host.Outcome.next (State.coreOp_of_fetches hf _ hb f))

theorem exec_shiftOp {i : Instr} {rd : Nat} {f : Word → Nat → Res} {r : Res} (hi : exec i s = .next (s.shiftOp c rd n f))
    (hr : f (x.get rd) n = r) : exec i s = .next (s.setCore c.num ((x.result rd r).next 1)) :=
  exec_numbered hf hx hn hi (congrArg (x.result rd) hr)

theorem exec_bitOp {i : Instr} {rd : Nat} {f : Word → Word → Word} {v : Word} (hi : exec i s = .next (s.bitOp c rd n f))
    (hv : f (x.get rd) (toWord (2 ^ n)) = v) : exec i s =
      .next (s.setCore c.num (((x.setSr 16 16 (if (x.get rd).getLsbD n then 0 else 1)).put rd v).next 1)) := by
  have hz : b2n (!(x.get rd).getLsbD n) = if (x.get rd).getLsbD n then 0 else 1 := by cases (x.get rd).getLsbD n <;> rfl
  exact exec_numbered hf hx hn hi (by rw [hz, hv])

end Numbered

/-- Settles O16: the shifts' results, and the bit that Z shows. -/
theorem shiftsAndBits : Obligations.ShiftsAndBits := by
  unfold Obligations.ShiftsAndBits
  intro s c rd rs n hf x a done lost shl shr sar ror m
  refine ⟨exec_aluOp hf rfl rfl (shlRes_eq a m), exec_aluOp hf rfl rfl (shrRes_eq a m), exec_aluOp hf rfl rfl (sarRes_eq a m),
    exec_aluOp hf rfl rfl rfl, fun hn => ?shifts, fun hn => ?bits⟩
  case shifts =>
    exact ⟨exec_shiftOp hf rfl hn rfl (shlRes_eq a n), exec_shiftOp hf rfl hn rfl (shrRes_eq a n), exec_shiftOp hf rfl hn rfl (sarRes_eq a n),
      exec_shiftOp hf rfl hn rfl rfl⟩
  case bits =>
    exact ⟨exec_bitOp hf rfl hn rfl rfl, exec_bitOp hf rfl hn rfl rfl, exec_bitOp hf rfl hn rfl rfl, exec_bitOp hf rfl hn rfl rfl⟩

end Sys2Proof.Machine
end

section
/-! PROOFS. The statements on a step and the queue, and on the encodings that no instruction has (R589, R590, R602). -/

namespace Sys2Proof.Machine

/-! ### The queue -/

theorem step_of_pending {s : State} {c : Instr} {l : List Instr} (h : s.pending = c :: l) : step s = exec c (s.setPending l) := by
  rw [step, h]

theorem step_of_idle {s : State} (h : s.pending = []) : step s = .next s.tick := by rw [step, h]

/-- Settles O1: the two cases of the queue. -/
theorem stepRunsTheFront : Obligations.StepRunsTheFront := by
  unfold Obligations.StepRunsTheFront
  exact fun s c l => ⟨step_of_pending, step_of_idle⟩

/-- Settles O2: what every command keeps holds the queue. -/
theorem commandsAnswer : Obligations.CommandsAnswer := by
  unfold Obligations.CommandsAnswer
  intro c s
  obtain ⟨t, ht, -, -, hq⟩ := exec_keeps c s
  exact ⟨t, ht, hq⟩

/-! ### Reserved encodings -/

section Reserved
variable {s : State} {c : CoreId} {n : Nat} (hf : s.fetches c.num n = true)
include hf

/-- An instruction with a reserved field, its first trap, takes the ILL trap. -/
theorem State.instr_of_ill {k : Nat} {b : Bool} (hb : b = true) (bad late : List (Option Trp)) (act : State → State) :
    s.instr c.num n (s.ill c.num k b :: bad) late act = s.trap c.num ⟨0, k, (s.core c.num).pc⟩ :=
  State.instr_of_trap hf _ _ _ _ (by rw [hb]; rfl) (show (0 : Nat) ≠ 3 by decide)

theorem exec_of_ill {i : Instr} {k : Nat} {b : Bool} {bad late : List (Option Trp)} {act : State → State}
    (hi : exec i s = .next (s.instr c.num n (s.ill c.num k b :: bad) late act)) (hb : b = true) :
    exec i s = .next (s.trap c.num ⟨0, k, (s.core c.num).pc⟩) := hi.trans (congrArg Host.Outcome.next (State.instr_of_ill hf hb _ _ _))

/-- A number N above 17 is a reserved field. -/
theorem exec_of_nBad {i : Instr} {k : Nat} {f : Core → Core} (hi : exec i s = .next (s.coreOp c n (s.nBad c k) f)) (hk : 17 < k) :
    exec i s = .next (s.trap c.num ⟨0, 2, (s.core c.num).pc⟩) := exec_of_ill hf hi (decide_eq_true hk)

end Reserved

theorem execUndefinedOpcode_of_cause {w0 w1 : Word} {k : Nat} (h : illCause w0.toNat w1.toNat = some k) (c : CoreId) (s : State) :
    execUndefinedOpcode c w0 w1 s = .next (s.instr c.num (parcels w0.toNat) [s.ill c.num k true] [] id) := by
  rw [execUndefinedOpcode, h]

/-- Settles O17: each reserved field is the first trap of its instruction. -/
theorem reservedEncodings : Obligations.ReservedEncodings := by
  unfold Obligations.ReservedEncodings
  intro s c rd n p t sn h o w w0 w1 m q ill
  refine ⟨fun hf => ⟨fun hn => ?amount, ?condition, ?hint, fun hs => ?special, fun hr => ?readOnly⟩,
    fun hf => ⟨?longCondition, fun hm => ?mask⟩, fun hq hf => ?undefined⟩
  case amount =>
    exact ⟨exec_of_nBad hf rfl hn, exec_of_nBad hf rfl hn, exec_of_nBad hf rfl hn, exec_of_nBad hf rfl hn, exec_of_nBad hf rfl hn,
      exec_of_nBad hf rfl hn, exec_of_nBad hf rfl hn, exec_of_nBad hf rfl hn⟩
  case condition => exact exec_of_ill hf rfl rfl
  case hint => exact exec_of_ill hf rfl rfl
  case special =>
    have hs' : (!sprListed sn) = true := by rw [hs]; rfl
    exact ⟨exec_of_ill hf rfl hs', exec_of_ill hf rfl (by rw [hs', Bool.true_or])⟩
  case readOnly => exact exec_of_ill hf rfl (by rw [hr, Bool.or_true])
  case longCondition => exact exec_of_ill hf rfl rfl
  case mask => exact ⟨exec_of_ill hf rfl hm, exec_of_ill hf rfl hm⟩
  case undefined => exact exec_of_ill hf (execUndefinedOpcode_of_cause hq c s) rfl

end Sys2Proof.Machine
end

section
/-! PROOFS. The statement on products and divisions, issued and landing (R565, R566, R595, R599, R601). -/

namespace Sys2Proof.Machine

/-! ### Products -/

/-- A product put in flight. -/
def Core.withMul (x : Core) (mac : Bool) (v : Nat) : Core := { x with mul := x.mul ++ [⟨mac, v⟩] }

theorem Core.issueMul_of_room {x : Core} (h : x.mul.length < 4) (mac : Bool) (v : Nat) : x.issueMul ⟨mac, v⟩ = x.withMul mac v := by
  rw [Core.issueMul, if_neg (by omega)]
  rfl

theorem wrapTo_mulSigned (n : Nat) (a b : Word) : wrapTo n (mulSigned a b) = ((a.toInt * b.toInt) % 2 ^ n).toNat := wrapTo_eq _ _

/-- An unsigned product has 36 bits. -/
theorem wrapTo_mulUnsigned {n : Nat} (hn : 36 ≤ n) (a b : Word) : wrapTo n (mulUnsigned a b) = a.toNat * b.toNat := by
  have hp : a.toNat * b.toNat < 2 ^ n := calc
    a.toNat * b.toNat < 2 ^ 18 * 2 ^ 18 := Nat.mul_lt_mul'' a.isLt b.isLt
    _ ≤ 2 ^ n := (pow_add 2 18 18).symm.trans_le (Nat.pow_le_pow_right (by decide) hn)
  have hi : mulUnsigned a b = ((a.toNat * b.toNat : Nat) : Int) := (Nat.cast_mul _ _).symm
  rw [wrapTo_eq, hi, show (2 : Int) ^ n = ((2 ^ n : Nat) : Int) from (Nat.cast_pow 2 n).symm, ← Int.natCast_mod, Int.toNat_natCast,
    Nat.mod_eq_of_lt hp]

theorem exec_mulOp {s : State} {c : CoreId} {x : Core} (hf : s.fetches c.num 1 = true) (hx : s.core c.num = x) (hm : x.mul.length < 4)
    {i : Instr} {rd rs : Nat} {mac : Bool} {p : Word → Word → Int} {v : Nat} (hi : exec i s = .next (s.mulOp c rd rs mac p))
    (hv : wrapTo (if mac then 54 else 36) (p (x.get rd) (x.get rs)) = v) :
    exec i s = .next (s.setCore c.num ((x.withMul mac v).next 1)) := by
  subst hv
  exact exec_coreOp hf hx hi (Core.issueMul_of_room hm _ _)

theorem Core.landMul_of_product {x : Core} {v : Nat} {l : List Flight} (h : x.mul = ⟨false, v⟩ :: l) :
    x.landMul = { x with mul := l, ph := toWord (v / 2 ^ 18), pl := toWord v } := by
  rw [Core.landMul, h]
  rfl

theorem Core.landMul_of_mac {x : Core} {v w : Nat} {l : List Flight} (h : x.mul = ⟨true, v⟩ :: l)
    (hw : ((x.ah.toNat * 2 ^ 36 + x.am.toNat * 2 ^ 18 + x.al.toNat) + v) % 2 ^ 54 = w) :
    x.landMul = { x with mul := l, ah := toWord (w / 2 ^ 36), am := toWord (w / 2 ^ 18), al := toWord w } := by
  subst hw
  rw [Core.landMul, h]
  rfl

theorem Core.landMul_of_none {x : Core} (h : x.mul = []) : x.landMul = x := by rw [Core.landMul, h]

theorem exec_productLanding {s : State} {c : CoreId} {x y : Core} (hr : s.runs c.num = true) (hx : s.core c.num = x) (hy : x.landMul = y) :
    exec (.productLanding c) s = .next (s.setCore c.num y) := by
  subst hx hy
  exact congrArg Host.Outcome.next (if_pos (State.lives_of_runs hr))

/-! ### Divisions -/

theorem divSigned_zero (a : Word) : divSigned a 0 = (if a.msb then 0o400000 else 0o377777, a, false, true) := if_pos rfl

theorem divSigned_of_ne {a b : Word} (h : b ≠ 0) : divSigned a b =
    (BitVec.ofInt 18 (a.toInt.tdiv b.toInt), BitVec.ofInt 18 (a.toInt.tmod b.toInt), decide (a = 0o400000 ∧ b = 0o777777), false) := by
  rw [divSigned, if_neg h, Int.tmod_def, Int.mul_comm]

theorem divUnsigned_zero (a : Word) : divUnsigned a 0 = (0o777777, a, false, true) := if_pos rfl

theorem divUnsigned_of_ne {a b : Word} (h : b ≠ 0) :
    divUnsigned a b = (BitVec.ofNat 18 (a.toNat / b.toNat), BitVec.ofNat 18 (a.toNat % b.toNat), false, false) := if_neg h

theorem Core.landDiv_of_none {x : Core} (h : x.div = none) : x.landDiv = x := by rw [Core.landDiv, h]

theorem Core.landDiv_of_some {x : Core} {f : DivFlight} (h : x.div = some f) : x.landDiv =
    if f.dz then (if f.v then ({ x with div := none, qt := f.q, rm := f.r } : Core).setSr 14 14 1
        else { x with div := none, qt := f.q, rm := f.r }).setSr 13 13 1
      else if f.v then ({ x with div := none, qt := f.q, rm := f.r } : Core).setSr 14 14 1
        else { x with div := none, qt := f.q, rm := f.r } := by
  rw [Core.landDiv, h]

theorem Core.dzPending_of_none {x : Core} (h : x.div = none) : x.dzPending = none := by rw [Core.dzPending, h]; rfl

/-- A division by zero traps at its landing where CTL.DZE is 1. -/
theorem Core.dzPending_of_some {x : Core} {f : DivFlight} (h : x.div = some f) :
    x.dzPending = if f.dz && x.ctl.getLsbD 17 then some f.pc else none := by
  rw [Core.dzPending, h, getLsbD_eq_bitAt]
  rfl

/-- A division put in flight. -/
def Core.withDiv (x : Core) (q r : Word) (v z : Bool) : Core := { x with div := some ⟨q, r, v, z, x.pc⟩ }

theorem exec_divOp {s : State} {c : CoreId} {x : Core} (hf : s.fetches c.num 1 = true) (hx : s.core c.num = x) (hd : x.div = none)
    {i : Instr} {rd rs : Nat} {f : Word → Word → Word × Word × Bool × Bool} {q r : Word} {v z : Bool}
    (hi : exec i s = .next (s.divOp c rd rs f)) (hq : f (x.get rd) (x.get rs) = (q, r, v, z)) :
    exec i s = .next (s.setCore c.num ((x.withDiv q r v z).next 1)) := by
  subst hx
  refine hi.trans (congrArg Host.Outcome.next ?_)
  rw [State.divOp, State.instr_of_fetches hf _ _ _ (by simp), Core.dzPending_of_none hd, if_neg (by simp), State.modCore_eq,
    Core.landDiv_of_none hd]
  dsimp only
  rw [hq]
  rfl

section Landing
variable {s : State} {c : CoreId} {x : Core} (hr : s.runs c.num = true) (hx : s.core c.num = x)
include hr hx

theorem exec_divisionLanding_of_quiet (hq : x.dzPending = none) {y : Core} (hy : x.landDiv = y) :
    exec (.divisionLanding c) s = .next (s.setCore c.num y) := by
  subst hx hy
  refine congrArg Host.Outcome.next ((if_pos (State.lives_of_runs hr)).trans ?_)
  rw [State.landDivision, hq]
  rfl

theorem exec_divisionLanding_of_trap {p : Nat} (hp : x.dzPending = some p) :
    exec (.divisionLanding c) s = .next ((s.setCore c.num x.landAll).trapEntry c.num ⟨4, 1, p⟩ x.pc x.pc) := by
  subst hx
  refine congrArg Host.Outcome.next ((if_pos (State.lives_of_runs hr)).trans ?_)
  rw [State.landDivision, hp, State.landed, hp]
  rfl

end Landing

theorem Core.dzPending_of_quiet {x : Core} {f : DivFlight} (h : x.div = some f) (hq : f.dz = false ∨ x.ctl.getLsbD 17 = false) :
    x.dzPending = none := by
  rw [Core.dzPending_of_some h]
  refine if_neg (Bool.eq_false_iff.mp ?_)
  rcases hq with hq | hq
  · rw [hq, Bool.false_and]
  · rw [hq, Bool.and_false]

theorem Core.dzPending_of_trap {x : Core} {f : DivFlight} (h : x.div = some f) (hz : f.dz = true) (he : x.ctl.getLsbD 17 = true) :
    x.dzPending = some f.pc := by
  rw [Core.dzPending_of_some h, hz, he]
  rfl

/-- Settles O18: a product or a division is put in flight with its value; the oldest lands. -/
theorem productsAndDivisions : Obligations.ProductsAndDivisions := by
  unfold Obligations.ProductsAndDivisions
  refine ⟨?products, ?divisions⟩
  case products =>
    intro s c rd rs v l x a b put sum
    refine ⟨fun hf hm => ?issue, fun hr h => ?product, fun hr h => ?mac, fun hr h => exec_productLanding hr rfl (Core.landMul_of_none h)⟩
    case issue =>
      exact ⟨exec_mulOp hf rfl hm rfl (wrapTo_mulSigned 36 a b), exec_mulOp hf rfl hm rfl (wrapTo_mulUnsigned (by decide) a b),
        exec_mulOp hf rfl hm rfl (wrapTo_mulSigned 54 a b), exec_mulOp hf rfl hm rfl (wrapTo_mulUnsigned (by decide) a b)⟩
    case product => exact exec_productLanding hr rfl (Core.landMul_of_product h)
    case mac => exact exec_productLanding hr rfl (Core.landMul_of_mac h rfl)
  case divisions =>
    intro s c rd rs f x a b put
    refine ⟨fun hf hd => ⟨fun hb => ?byZero, fun hb => ?byOther⟩, ?landing⟩
    case byZero =>
      have hs : divSigned a b = _ := (congrArg (divSigned a) hb).trans (divSigned_zero a)
      have hu : divUnsigned a b = _ := (congrArg (divUnsigned a) hb).trans (divUnsigned_zero a)
      exact ⟨exec_divOp hf rfl hd rfl hs, exec_divOp hf rfl hd rfl hu⟩
    case byOther => exact ⟨exec_divOp hf rfl hd rfl (divSigned_of_ne hb), exec_divOp hf rfl hd rfl (divUnsigned_of_ne hb)⟩
    case landing =>
      exact ⟨fun hr h hq => exec_divisionLanding_of_quiet hr rfl (Core.dzPending_of_quiet h hq) (Core.landDiv_of_some h),
        fun hr h hz he => exec_divisionLanding_of_trap hr rfl (Core.dzPending_of_trap h hz he)⟩

end Sys2Proof.Machine
end

section
/-! PROOFS. The statement on the instructions' results and flags at their edges (R599). -/

namespace Sys2Proof.Machine

/-! ### A result as its register and flags show it -/

/-- A flag that an instruction does not compute stays: that is the flag written as it was. -/
theorem Core.flags_filled (x : Core) (r : Res) :
    x.flags { r with c := some (r.c.getD x.c), v := some (r.v.getD x.v) } = x.flags r := by
  rw [x.flags_eq, x.flags_eq r]
  refine congrArg (fun w : Word => ({ x with sr := w } : Core)) (BitVec.eq_of_getLsbD_eq fun i _ => ?_)
  rw [x.getLsbD_flags, x.getLsbD_flags]
  rfl

theorem Core.result_filled (x : Core) (rd : Nat) (r : Res) :
    x.result rd { r with c := some (r.c.getD x.c), v := some (r.v.getD x.v) } = x.result rd r :=
  congrArg (fun y : Core => y.put rd r.val) (x.flags_filled r)

section Result
variable (x : Core) (rd : Nat) (r : Res)

theorem Core.n_result : (x.result rd r).n = r.val.msb := (Core.n_eq _).trans (x.getLsbD_flags r 17)
theorem Core.z_result : (x.result rd r).z = decide (r.val = 0) := (Core.z_eq _).trans (x.getLsbD_flags r 16)
theorem Core.c_result : (x.result rd r).c = r.c.getD x.c := (Core.c_eq _).trans (x.getLsbD_flags r 15)
theorem Core.v_result : (x.result rd r).v = r.v.getD x.v := (Core.v_eq _).trans (x.getLsbD_flags r 14)
theorem Core.sat_result : (x.result rd r).sr.getLsbD 12 = (r.sat || x.sr.getLsbD 12) := x.getLsbD_flags r 12
theorem Core.get_result : (x.result rd r).get rd = r.val := Core.get_put_self _ rd r.val

end Result

/-- An instruction gives a result with the flags N, Z, C, V and a saturation. -/
def gives (s : State) (c : CoreId) (rd : Nat) (i : Instr) (v : Word) (n z cf vf sat : Bool) : Prop :=
  let x := s.core c.num
  let y := x.result rd { val := v, c := some cf, v := some vf, sat := sat }
  exec i s = .next (s.setCore c.num (y.next 1)) ∧ y.get rd = v ∧ y.n = n ∧ y.z = z ∧ y.c = cf ∧ y.v = vf
    ∧ y.sr.getLsbD 12 = (sat || x.sr.getLsbD 12)

section Gives
variable {s : State} {c : CoreId} {x : Core} (hf : s.fetches c.num 1 = true) (hx : s.core c.num = x)
include hf hx

/-- What an instruction gives is what its operation computes: N and Z from the value, and the flags that it does not compute as they were. -/
theorem gives_of_aluOp {i : Instr} {rd : Nat} {f : Core → Res} {v : Word} {oc ov : Option Bool} {n z cf vf sat : Bool}
    (hi : exec i s = .next (s.aluOp c 1 rd f)) (hr : f x = { val := v, c := oc, v := ov, sat := sat }) (hn : v.msb = n)
    (hz : decide (v = 0) = z) (hc : oc.getD x.c = cf) (hv : ov.getD x.v = vf) : gives s c rd i v n z cf vf sat := by
  subst hx hn hz hc hv
  refine ⟨?_, Core.get_result _ _ _, Core.n_result _ _ _, Core.z_result _ _ _, Core.c_result _ _ _, Core.v_result _ _ _,
    Core.sat_result _ _ _⟩
  exact (exec_aluOp hf rfl hi hr).trans
    (congrArg (fun y : Core => Host.Outcome.next (s.setCore c.num (y.next 1))) (Core.result_filled _ rd _).symm)

/-- The same for a result that computes C and V. -/
theorem gives_of_res {i : Instr} {rd : Nat} {f : Core → Res} {v : Word} {n z cf vf sat : Bool}
    (hi : exec i s = .next (s.aluOp c 1 rd f)) (hr : f x = { val := v, c := some cf, v := some vf, sat := sat })
    (hnz : v.msb = n ∧ decide (v = 0) = z) : gives s c rd i v n z cf vf sat :=
  gives_of_aluOp hf hx hi hr hnz.1 hnz.2 rfl rfl

end Gives

/-! ### Shifts by their edge amounts (R594, R599) -/

theorem shlRes_one_of_ge {m : Nat} (hm : m < 32) (h : 19 ≤ m) : shlRes 1 m = { val := 0, c := some false, v := some true } := by
  revert m
  decide

theorem shlRes_zero_of_ge {m : Nat} (hm : m < 32) (h : 18 ≤ m) : shlRes 0 m = { val := 0, c := some false, v := some false } := by
  revert m
  decide

theorem sarRes_min_of_ge {m : Nat} (hm : m < 32) (h : 18 ≤ m) :
    sarRes 0o400000 m = { val := 0o777777, c := some true, v := some false } := by
  revert m
  decide

theorem sarRes_max_of_ge {m : Nat} (hm : m < 32) (h : 18 ≤ m) : sarRes 0o377777 m = { val := 0, c := some false, v := some false } := by
  revert m
  decide

theorem shlRes_by_zero (a : Word) : shlRes a 0 = { val := a, c := none, v := some false } := by simp [shlRes]

theorem shrRes_by_zero (a : Word) : shrRes a 0 = { val := a, c := none, v := some false } := by simp [shrRes]

theorem sarRes_by_zero (a : Word) : sarRes a 0 = { val := a, c := none, v := some false } := by simp [sarRes]

theorem rorRes_by_zero (a : Word) : rorRes a 0 = { val := a } := by
  rw [rorRes]
  exact congrArg plainRes (BitVec.eq_of_toNat_eq (by simp [BitVec.toNat_rotateRight, Nat.shiftLeft_eq]))

/-- A rotation keeps a word from being 0. -/
theorem rotateRight_two_eq_zero_iff (a : Word) : a.rotateRight 2 = 0 ↔ a = 0 := by
  rw [← BitVec.toNat_inj, ← BitVec.toNat_inj, BitVec.toNat_rotateRight]
  simp only [Nat.reduceMod, Nat.reduceSub, BitVec.ofNat_eq_ofNat, BitVec.toNat_ofNat, Nat.zero_mod, Nat.or_eq_zero_iff,
    Nat.shiftRight_eq_div_pow, Nat.shiftLeft_eq]
  omega

/-! ### Products and quotients (R595, R599) -/

/-- A product that has landed stands in PH and PL. -/
theorem Core.pair_landMul {x : Core} {v : Nat} {l : List Flight} (h : x.mul = ⟨false, v⟩ :: l) (hv : v < 2 ^ 36) :
    x.landMul.ph.toNat * 2 ^ 18 + x.landMul.pl.toNat = v := by
  rw [Core.landMul_of_product h]
  simp only [toNat_toWord]
  omega

/-- A value of 54 bits in three words. -/
theorem words_of_triple {w : Nat} (h : w < 2 ^ 54) :
    (toWord (w / 2 ^ 36)).toNat * 2 ^ 36 + (toWord (w / 2 ^ 18)).toNat * 2 ^ 18 + (toWord w).toNat = w := by
  simp only [toNat_toWord]
  omega

/-- A sum that has landed stands in AH, AM and AL. -/
theorem Core.triple_landMul {x : Core} {v w : Nat} {l : List Flight} (h : x.mul = ⟨true, v⟩ :: l)
    (hw : (x.ah.toNat * 2 ^ 36 + x.am.toNat * 2 ^ 18 + x.al.toNat + v) % 2 ^ 54 = w) :
    x.landMul.ah.toNat * 2 ^ 36 + x.landMul.am.toNat * 2 ^ 18 + x.landMul.al.toNat = w := by
  have hlt : w < 2 ^ 54 := hw.symm.trans_lt (Nat.mod_lt _ (by decide))
  rw [Core.landMul_of_mac h hw]
  exact words_of_triple hlt

theorem Core.sr_landMul (x : Core) : x.landMul.sr = x.sr := by
  cases h : x.mul with
  | nil => rw [Core.landMul_of_none h]
  | cons f l =>
    obtain ⟨mac, v⟩ := f
    cases mac with
    | false => rw [Core.landMul_of_product h]
    | true => rw [Core.landMul_of_mac h rfl]

/-- A landing sets QT and RM, and V and DZ where the division does. -/
theorem Core.reads_landDiv {x : Core} {f : DivFlight} (h : x.div = some f) :
    x.landDiv.qt = f.q ∧ x.landDiv.rm = f.r ∧ x.landDiv.sr.getLsbD 14 = (f.v || x.sr.getLsbD 14)
    ∧ x.landDiv.sr.getLsbD 13 = (f.dz || x.sr.getLsbD 13) := by
  have set14 := fun (y : Core) => y.getLsbD_setSr_bit true (show 14 < 18 by decide)
  have set13 := fun (y : Core) => y.getLsbD_setSr_bit true (show 13 < 18 by decide)
  simp only [b2n, if_true] at set14 set13
  rw [Core.landDiv_of_some h]
  obtain ⟨q, r, v, z, p⟩ := f
  cases v <;> cases z <;> refine ⟨rfl, rfl, ?_, ?_⟩ <;>
    simp only [if_true, Bool.false_eq_true, if_false, set14, set13, Bool.true_or, Bool.false_or, Nat.reduceEqDiff]

theorem remainder_eq_srem {a b : Word} (h : b ≠ 0) : (divSigned a b).2.1 = a.srem b := by
  rw [divSigned_of_ne h, ← BitVec.toInt_srem, BitVec.ofInt_toInt]

/-- A remainder that is not 0 has the dividend's sign, and it is smaller than the divisor. -/
theorem remainder_spec {a b r : Word} (h : b ≠ 0) (hr : (divSigned a b).2.1 = r) :
    (r = 0 ∨ r.msb = a.msb) ∧ r.toInt.natAbs < b.toInt.natAbs := by
  subst hr
  rw [remainder_eq_srem h, BitVec.msb_srem, BitVec.toInt_srem, Int.natAbs_tmod]
  refine ⟨(eq_or_ne (a.srem b) 0).imp id fun hs => ?_, Nat.mod_lt _ (Int.natAbs_pos.mpr ?_)⟩
  · rw [decide_eq_true hs, Bool.and_true]
  · exact fun hb => h (BitVec.eq_of_toInt_eq hb)

/-- Settles O10: the operations at their edge operands, and the landings. -/
theorem edgeResults : Obligations.EdgeResults := by
  unfold Obligations.EdgeResults
  intro s c rd rs f l p a b hf x d o m gives' mul div
  have hm : m < 32 := Nat.mod_lt _ (by decide)
  have hr : s.runs c.num = true := State.runs_of_fetches hf
  refine ⟨fun ho => ?neg, fun ho => ?negs, fun ho => ?negZero, fun hd ho => ?add, fun hd ho => ?adds, fun hd ho => ?subs, fun hd ho => ?sub,
    fun hd h => ?shl18, fun hd h => ?shl19, fun hd h => ?shlZero, fun hd h => ?shr18, fun hd h => ?sarMin, fun hd h => ?sarMax,
    fun h => ?ror20, fun h => ?byZero, fun hd ho hl => ?muls, fun h hp => ?product, fun h => ?sum, fun hn => ?quotients,
    fun h hq => ?landing, fun h hz he => ?trap, fun ho => ?clz, fun hb => remainder_spec hb rfl⟩
  case neg => exact gives_of_res hf rfl rfl (show subRes 0 o 0 = _ by rw [ho]; decide) (by decide)
  case negs => exact gives_of_res hf rfl rfl (show satRes (subRes 0 o 0) = _ by rw [ho]; decide) (by decide)
  case negZero =>
    exact ⟨gives_of_res hf rfl rfl (show subRes 0 o 0 = _ by rw [ho]; decide) (by decide),
      gives_of_res hf rfl rfl (show satRes (subRes 0 o 0) = _ by rw [ho]; decide) (by decide)⟩
  case add => exact gives_of_res hf rfl rfl (show addRes d o 0 = _ by rw [hd, ho]; decide) (by decide)
  case adds => exact gives_of_res hf rfl rfl (show satRes (addRes d o 0) = _ by rw [hd, ho]; decide) (by decide)
  case subs => exact gives_of_res hf rfl rfl (show satRes (subRes d o 0) = _ by rw [hd, ho]; decide) (by decide)
  case sub => exact gives_of_res hf rfl rfl (show subRes d o 0 = _ by rw [hd, ho]; decide) (by decide)
  case shl18 => exact gives_of_res hf rfl rfl (show shlRes d m = _ by rw [hd, h]; decide) (by decide)
  case shl19 => exact gives_of_res hf rfl rfl (show shlRes d m = _ by rw [hd, shlRes_one_of_ge hm h]) (by decide)
  case shlZero => exact gives_of_res hf rfl rfl (show shlRes d m = _ by rw [hd, shlRes_zero_of_ge hm h]) (by decide)
  case shr18 => exact gives_of_res hf rfl rfl (show shrRes d m = _ by rw [hd, h]; decide) (by decide)
  case sarMin => exact gives_of_res hf rfl rfl (show sarRes d m = _ by rw [hd, sarRes_min_of_ge hm h]) (by decide)
  case sarMax => exact gives_of_res hf rfl rfl (show sarRes d m = _ by rw [hd, sarRes_max_of_ge hm h]) (by decide)
  case ror20 =>
    exact gives_of_aluOp hf rfl rfl (show rorRes d m = { val := d.rotateRight 2 } by rw [h, rorRes]) rfl
      (decide_eq_decide.mpr (rotateRight_two_eq_zero_iff d)) rfl rfl
  case byZero =>
    exact ⟨gives_of_aluOp hf rfl rfl (show shlRes d m = _ by rw [h, shlRes_by_zero]) rfl rfl rfl rfl,
      gives_of_aluOp hf rfl rfl (show shrRes d m = _ by rw [h, shrRes_by_zero]) rfl rfl rfl rfl,
      gives_of_aluOp hf rfl rfl (show sarRes d m = _ by rw [h, sarRes_by_zero]) rfl rfl rfl rfl,
      gives_of_aluOp hf rfl rfl (show rorRes d m = _ by rw [h, rorRes_by_zero]) rfl rfl rfl rfl⟩
  case muls => exact exec_mulOp hf rfl hl rfl (show wrapTo 36 (mulSigned d o) = _ by rw [hd, ho]; decide)
  case product => exact ⟨Core.pair_landMul h hp, x.sr_landMul, exec_productLanding hr rfl rfl⟩
  case sum => exact ⟨Core.triple_landMul h rfl, x.sr_landMul, exec_productLanding hr rfl rfl⟩
  case quotients =>
    refine ⟨fun hd ho => ?rounded, fun hd ho => ?most, fun ho => ?unsigned, fun ho hs => ?positive, fun ho hs => ?negative⟩
    case rounded => exact exec_divOp hf rfl hn rfl (show divSigned d o = _ by rw [hd, ho]; decide)
    case most => exact exec_divOp hf rfl hn rfl (show divSigned d o = _ by rw [hd, ho]; decide)
    case unsigned => exact exec_divOp hf rfl hn rfl (show divUnsigned d o = _ by rw [ho, divUnsigned_zero])
    case positive => exact exec_divOp hf rfl hn rfl (show divSigned d o = _ by rw [ho, divSigned_zero, hs]; rfl)
    case negative => exact exec_divOp hf rfl hn rfl (show divSigned d o = _ by rw [ho, divSigned_zero, hs]; rfl)
  case landing => exact ⟨exec_divisionLanding_of_quiet hr rfl (Core.dzPending_of_quiet h hq) rfl, Core.reads_landDiv h⟩
  case trap => exact exec_divisionLanding_of_trap hr rfl (Core.dzPending_of_trap h hz he)
  case clz =>
    exact ⟨exec_aluOp hf rfl rfl (show plainRes (clz o) = { val := 18 } by rw [ho]; decide), Core.z_result _ _ _, Core.n_result _ _ _⟩

end Sys2Proof.Machine
end

section
/-! PROOFS. The statements on special registers (R563, R575), and on I/O accesses and refused accesses (R580, R596, R604). -/

namespace Sys2Proof.Machine

/-! ### MFS and MTS -/

section Special
variable {s : State} {c : CoreId} (hf : s.fetches c.num 1 = true) {sn : Fin 64} (hl : sprListed sn = true)
include hf hl

theorem execMfs_of_listed (r : Fin 32) : execMfs c r sn s = .next
    (if sn.val = 48 then s.inAt c 1 r 4 else s.modCore c.num (fun x => (x.put r (x.special c.num sn)).next 1)) :=
  congrArg Host.Outcome.next (State.instr_of_fetches hf _ _ _ (by simp [State.ill, hl]))

theorem execMts_of_writable (hw : sprRo sn = false) (r : Fin 32) :
    execMts c sn r s = .next (s.modCore c.num (fun x => (x.next 1).setSpecial sn (x.get r))) :=
  congrArg Host.Outcome.next (State.instr_of_fetches hf _ _ _ (by simp [State.ill, hl, hw]))

end Special

/-- The registers of a whole word take every word. -/
theorem Core.special_setSpecial_self (x : Core) (w : Word) (k : Nat) {n : Nat} (hlo : 3 ≤ n) (hhi : n ≤ 14) :
    (x.setSpecial n w).special k n = w := by
  interval_cases n <;> rfl

/-- Settles O19: MFS and MTS of a listed register, and the words that a register takes. -/
theorem specialRegisters : Obligations.SpecialRegisters := by
  unfold Obligations.SpecialRegisters
  intro s c r sn w k hf x u
  refine ⟨fun hl hn => ?mfs, ?claim, fun hl hw => ?mts, x.special_setSpecial_self w k, ⟨?sr, ?ctl, ?lst⟩, ?id⟩
  case mfs => exact (execMfs_of_listed hf hl r).trans (congrArg Host.Outcome.next (if_neg hn))
  case claim => exact (execMfs_of_listed hf (sn := 48) rfl r).trans (congrArg Host.Outcome.next (if_pos rfl))
  case mts => exact execMts_of_writable hf hl hw r
  case sr => rfl
  case ctl => rfl
  case lst => rfl
  case id => rfl

/-! ### Refused accesses -/

section Refused
variable {s : State} {c : CoreId} {n : Nat} (hf : s.fetches c.num n = true)
include hf

/-- An instruction whose access is refused takes its trap. -/
theorem State.instr_of_refused {o : Option Trp} {t : Trp} (ho : o = some t) (hv : t.vec ≠ 3) (act : State → State) :
    s.instr c.num n [] [o] act = s.trap c.num t := by
  subst ho
  exact State.instr_of_trap hf _ _ _ t rfl hv

theorem exec_loadOp_of_refused {i : Instr} {rd : Nat} {a : Core → Word} {pre : Core → Core} {t : Trp}
    (hi : exec i s = .next (s.loadOp c n rd a pre)) (ht : s.loadTrap c.num (a (s.core c.num)).toNat = some t) (hv : t.vec ≠ 3) :
    exec i s = .next (s.trap c.num t) := by
  rw [hi, State.loadOp]
  exact congrArg Host.Outcome.next (State.instr_of_refused hf ht hv _)

theorem exec_storeOp_of_refused {i : Instr} {rd : Nat} {a : Core → Word} {post : Core → Core} {t : Trp}
    (hi : exec i s = .next (s.storeOp c n rd a post)) (ht : s.storeTrap c.num (a (s.core c.num)).toNat = some t) (hv : t.vec ≠ 3) :
    exec i s = .next (s.trap c.num t) := by
  rw [hi, State.storeOp]
  exact congrArg Host.Outcome.next (State.instr_of_refused hf ht hv _)

end Refused

/-- Beyond the 2^16 addresses of the I/O space (R604). -/
theorem State.ioTrap_of_beyond (s : State) (c : Nat) {p : Nat} (h : 2 ^ 16 ≤ p) (store : Bool) : s.ioTrap c p store = some ⟨2, 4, p⟩ :=
  if_pos h

/-- A permitted store to an address that only reads (R604). -/
theorem State.storeTrap_of_readOnly {s : State} {c a : Nat} (hm : s.mpuOk c false a true = true) (h : 0o720000 ≤ a) :
    s.storeTrap c a = some ⟨2, 1, a⟩ := by
  rw [State.storeTrap, hm, if_neg (by decide), if_pos h]

/-- Settles O21: the access of IN and OUT, and the trap of a refused access. -/
theorem inOutAndAccessTraps : Obligations.InOutAndAccessTraps := by
  unfold Obligations.InOutAndAccessTraps
  refine ⟨?accesses, ?traps⟩
  case accesses =>
    intro s c rd rs i hf x p u
    exact ⟨fun hp => execIoIn_of_accesses hf rfl hp, fun hp => execOut_of_accesses hf rfl hp⟩
  case traps =>
    intro s c rd rs i t b
    refine ⟨fun hf ht hv => ?load, fun hf ht hv => ?store, fun hf hp => ?io, fun hf ha hm => ?readOnly⟩
    case load => exact ⟨exec_loadOp_of_refused hf rfl ht hv, exec_loadOp_of_refused hf rfl ht hv⟩
    case store => exact ⟨exec_storeOp_of_refused hf rfl ht hv, exec_storeOp_of_refused hf rfl ht hv⟩
    case io =>
      have hv : (2 : Nat) ≠ 3 := by decide
      exact ⟨congrArg Host.Outcome.next (State.instr_of_refused hf (s.ioTrap_of_beyond c.num hp false) hv _),
        congrArg Host.Outcome.next (State.instr_of_refused hf (s.ioTrap_of_beyond c.num hp true) hv _)⟩
    case readOnly => exact exec_storeOp_of_refused hf rfl (State.storeTrap_of_readOnly hm ha) (show (2 : Nat) ≠ 3 by decide)

end Sys2Proof.Machine
end

section
/-! PROOFS. The statements on entries and traps of a core (R573, R576, R577, R602, R603). -/

namespace Sys2Proof.Machine

/-! ### What a trace record leaves alone -/

theorem State.cores_fifoPut (s : State) (b lim : Nat) (r : Spoor) : (s.fifoPut b lim r).cores = s.cores := by
  unfold State.fifoPut State.shedOne
  split
  · rw [State.setFld, State.cores_setReg, State.cores_modFlt]
  · rw [State.raise, State.setFld, State.cores_setReg, State.count, State.countBy, State.setFld, State.cores_setReg, State.cores_modFlt]

theorem State.core_flow (s : State) (c p d : Nat) : (s.flow c p).core d = s.core d := by
  refine congrArg (fun m => smGet (fun _ => ({} : Core)) m d) ?_
  unfold State.flow State.traceC
  split
  · exact State.cores_fifoPut _ _ _ _
  · rfl

/-! ### Fields of SR after a write -/

section Fields
variable (x : Core) {hi lo v h l : Nat} (hl : lo ≤ hi) (hh : hi < 18)
include hl hh

theorem Core.srBits_setSr_self : (x.setSr hi lo v).srBits hi lo = v % 2 ^ (hi + 1 - lo) := by
  rw [Core.srBits, x.toNat_sr_setSr v hl hh, bitsOf_putBits_self _ _ _ _ hl]

theorem Core.srBits_setSr_of_apart (ha : h < lo ∨ hi < l) : (x.setSr hi lo v).srBits h l = x.srBits h l := by
  rw [Core.srBits, x.toNat_sr_setSr v hl hh]
  rcases ha with ha | ha
  · exact bitsOf_putBits_below _ _ _ _ _ _ ha hl
  · exact bitsOf_putBits_above _ _ _ _ _ _ ha hl

end Fields

theorem Core.wd_wdUp (x : Core) : x.wdUp.wd = (x.wd + 1) % 16 :=
  (x.srBits_setSr_self (by decide) (by decide)).trans (Nat.mod_mod _ _)

theorem Core.prio_wdUp (x : Core) : x.wdUp.prio = x.prio := x.srBits_setSr_of_apart (by decide) (by decide) (by decide)

/-! ### Slides (R556) -/

section Slide
variable (x : Core) (ret : Nat)

theorem Core.getLk_slide {ret : Nat} (h : ret < 2 ^ 21) : (x.slide ret).getLk = ret :=
  (smGet_smPut_self (fun _ => 0) x.lk ((x.win + 1) % 14) _).trans (Nat.mod_eq_of_lt h)

theorem Core.wd_slide : (x.slide ret).wd = (x.wd + 1) % 16 := Core.wd_wdUp _

theorem Core.prio_slide : (x.slide ret).prio = x.prio := Core.prio_wdUp _

theorem Core.res_slide : (x.slide ret).res = x.res + 1 := (rfl)
theorem Core.win_slide : (x.slide ret).win = (x.win + 1) % 14 := (rfl)
theorem Core.r_slide : (x.slide ret).r = x.r := (rfl)

end Slide

theorem Core.getSlot_putSlot (x : Core) (v : Word) : (x.putSlot v).getSlot = v := smGet_smPut_self _ _ _ _

/-! ### Entries with a slide (R573, R576) -/

theorem Core.landAll_of_idle {x : Core} (hm : x.mul = []) (hd : x.div = none) : x.landAll = x := by
  rw [Core.landAll, hm, List.foldl_nil, Core.landDiv_of_none hd]

/-- With nothing in flight an entry goes on from the core as it is. -/
theorem State.landed_of_idle {s : State} {c : Nat} {x : Core} (hx : s.core c = x) (hm : x.mul = []) (hd : x.div = none)
    (f : State → State) : s.landed c f = f (s.setCore c x) := by
  subst hx
  rw [State.landed, Core.dzPending_of_none hd, State.modCore_eq, Core.landAll_of_idle hm hd]

section Room
variable {s : State} {c : Nat} {x : Core} (hx : s.core c = x) (hres : x.res < 14)
include hx hres

theorem State.callTrap_of_room : s.callTrap c = none := by
  subst hx
  exact if_neg (by omega)

theorem State.slideIn_of_room (ret : Nat) : s.slideIn c ret = s.setCore c (x.slide ret) := by
  subst hx
  rw [State.slideIn, if_neg (by omega)]
  rfl

theorem State.enterSlide_of_room (ret : Nat) : s.enterSlide c ret = s.setCore c ((x.slide ret).putSlot x.sr) := by
  rw [State.enterSlide, State.slideIn_of_room hx hres, State.modCore_eq, State.core_setCore_self, State.setCore_setCore, hx]

end Room

/-- A core that slides into a trap: TCA and TAD tell it, LK takes the return address, the saved-status slot SR, and IE is 0. -/
def Core.trapped (x : Core) (t : Trp) (ret : Nat) : Core :=
  ((({ x with tca := toWord (t.vec * 4096 + t.cause * 64 + t.tad / 2 ^ 18), tad := toWord t.tad } : Core).slide ret).putSlot x.sr).setSr
    11 11 0

theorem State.trapEntry_of_room {s : State} {c : Nat} {x : Core} (hx : s.core c = x) (hres : x.res < 14) {t : Trp} (hv : t.vec ≠ 5)
    (hc : x.ctl.getLsbD 16 = false) (ret again : Nat) :
    s.trapEntry c t ret again = (s.setCore c (x.trapped t ret)).vector c t.vec := by
  have hcond : ¬ (t.vec = 5 ∨ bitAt (s.core c).ctl.toNat 16 = true) := by
    rw [hx, ← getLsbD_eq_bitAt, hc]
    exact fun h => h.elim hv (by decide)
  have htca : (s.setTca c t).core c = { x with tca := toWord (t.vec * 4096 + t.cause * 64 + t.tad / 2 ^ 18), tad := toWord t.tad } := by
    rw [State.setTca, State.modCore_eq, State.core_setCore_self, hx]
  rw [State.trapEntry, if_neg hcond, State.callTrap_of_room hx hres, if_neg (by decide), State.enterSlide_of_room htca hres,
    State.setTca, State.modCore_eq, State.setCore_setCore, State.trapVector, State.modCore_eq, State.core_setCore_self,
    State.setCore_setCore]
  rfl

/-! ### Interrupts (R573) -/

theorem State.interrupt_of_room {s : State} {c : Nat} {x : Core} (hx : s.core c = x) (hm : x.mul = []) (hd : x.div = none)
    (hres : x.res < 14) {p : Nat} (hsel : s.bit (ICU_CMSEL_CMSEL c) p = false) :
    s.interrupt c p = (s.setCore c (((x.slide x.pc).putSlot x.sr).setSr 10 7 p)).vector c (16 + p) := by
  have hx' : (s.setCore c x).core c = x := State.core_setCore_self s c x
  have hsel' : (s.setCore c x).bit (ICU_CMSEL_CMSEL c) p = false := hsel
  rw [State.interrupt, State.landed_of_idle hx hm hd]
  dsimp only
  rw [hsel', if_neg (by decide), State.callTrap_of_room hx' hres, if_neg (by decide), State.enterSlide_of_room hx' hres, hx',
    State.setCore_setCore, State.modCore_eq, State.core_setCore_self, State.setCore_setCore]

theorem interruptEntry_of_enabled {s : State} {c p k : Nat} (hp : s.pendAbove c (s.core c).prio = some (p, k)) (hr : s.runs c = true)
    (hi : (s.core c).ie = true) : interruptEntry c s = s.interrupt c p := by
  rw [interruptEntry, hp]
  dsimp only
  rw [hr, hi, if_pos (by decide)]

/-! ### SYS and BRK (R603) -/

theorem Core.besideLpc_loopAt (x : Core) (p d : Nat) (l : List Nat) : (x.loopAt p d l).1.besideLpc = x.besideLpc := by
  induction l generalizing x with
  | nil => rfl
  | cons k l ih =>
    rw [Core.loopAt]
    split
    · split
      · exact x.besideLpc_setLpc k _
      · exact (ih _).trans (x.besideLpc_setLpc k 0)
    · exact ih x

/-- The loop levels that act change their counts alone. -/
theorem Core.after_eq (x : Core) (n : Nat) : (x.after n).1 = { x with lpc := (x.after n).1.lpc } :=
  x.eq_of_besideLpc (x.besideLpc_loopAt _ _ _)

theorem State.softTrap_of_room {s : State} {c : Nat} {x y : Core} {ret : Nat} (hf : s.fetches c 1 = true) (hx : s.core c = x)
    (hm : x.mul = []) (hd : x.div = none) (hres : x.res < 14) (hc : x.ctl.getLsbD 16 = false) (hy : x.after 1 = (y, ret)) {v : Nat}
    (hv : v ≠ 5) (cause : Nat) :
    s.softTrap c v cause = (s.setCore c (((({ y with
      tca := toWord (v * 4096 + cause * 64 + x.pc / 2 ^ 18), tad := toWord x.pc } : Core).slide ret).putSlot x.sr).setSr 11 11 0)).vector c v
    := by
  have hx' : (s.setCore c x).core c = x := State.core_setCore_self s c x
  have hy' : y = { x with lpc := y.lpc } := by simpa only [hy] using x.after_eq 1
  have hysr : y.sr = x.sr := (congrArg (fun z : Core => z.sr) hy').trans rfl
  have hyres : y.res < 14 := (congrArg Core.res hy').trans_lt hres
  have hyctl : y.ctl.getLsbD 16 = false := (congrArg (fun z : Core => z.ctl.getLsbD 16) hy').trans hc
  rw [State.softTrap, State.instr_of_fetches hf _ _ _ (by simp), State.landed_of_idle hx hm hd]
  dsimp only
  rw [State.callTrap_of_room hx' hres, Option.isSome_none, Bool.and_false, if_neg (by decide), hx', hy, State.setCore_setCore,
    State.trapEntry_of_room (State.core_setCore_self s c y) hyres hv hyctl, State.setCore_setCore,
    Core.trapped, hysr]

/-- Settles O25: the slides of an interrupt, and of SYS and BRK. -/
theorem entriesTaken : Obligations.EntriesTaken := by
  unfold Obligations.EntriesTaken
  refine ⟨?interrupt, ?soft⟩
  case interrupt =>
    intro s c p k hp hr hi hm hd hres hsel x
    exact congrArg Host.Outcome.next ((interruptEntry_of_enabled hp hr hi).trans (State.interrupt_of_room rfl hm hd hres hsel))
  case soft =>
    intro s c rs hf hm hd hres hc x enter
    have out {v : Nat} (hv : v ≠ 5) : (.next (s.softTrap c.num v rs) : Out State) = enter v :=
      congrArg Host.Outcome.next (State.softTrap_of_room hf rfl hm hd hres hc Prod.mk.eta.symm hv rs)
    exact ⟨out (by decide), out (by decide)⟩

/-! ### Traps (R576, R577) -/

theorem State.trap_of_room {s : State} {c : Nat} {x : Core} (hx : s.core c = x) (hm : x.mul = []) (hd : x.div = none)
    (hres : x.res < 14) (hc : x.ctl.getLsbD 16 = false) {t : Trp} (hv : t.vec ≠ 5) :
    s.trap c t = (s.setCore c (x.trapped t x.pc)).vector c t.vec := by
  have hx' : (s.setCore c x).core c = x := State.core_setCore_self s c x
  rw [State.trap, State.landed_of_idle hx hm hd, State.trapEntry_of_room hx' hres hv hc, hx', State.setCore_setCore]

/-- A core at a vector. -/
def Core.atVector (x : Core) (v : Nat) : Core := { x with pc := (x.vbr.toNat * 8 + 8 * v) % 2 ^ 21, run := .running }

theorem State.core_vector {s : State} {c : Nat} {x : Core} (hx : s.core c = x) (v : Nat) : (s.vector c v).core c = x.atVector v := by
  rw [State.vector, State.modCore_eq, State.core_setCore_self, State.core_flow, hx]
  rfl

section Trapped
variable (x : Core) (t : Trp) (ret : Nat)

theorem Core.toNat_tca_trapped (hv : t.vec < 8) (hc : t.cause < 64) (ha : t.tad < 2 ^ 21) :
    (x.trapped t ret).tca.toNat = t.vec * 4096 + t.cause * 64 + t.tad / 2 ^ 18 :=
  (toNat_toWord _).trans (Nat.mod_eq_of_lt (by omega))

theorem Core.toNat_tad_trapped : (x.trapped t ret).tad.toNat = t.tad % 2 ^ 18 := toNat_toWord _

theorem Core.getLk_trapped {ret : Nat} (h : ret < 2 ^ 21) : (x.trapped t ret).getLk = ret := Core.getLk_slide _ h

theorem Core.getSlot_trapped : (x.trapped t ret).getSlot = x.sr := Core.getSlot_putSlot _ _

theorem Core.ie_trapped : (x.trapped t ret).ie = false :=
  (Core.ie_eq _).trans (Core.getLsbD_setSr_bit _ false (by decide) 11)

theorem Core.wd_trapped : (x.trapped t ret).wd = (x.wd + 1) % 16 :=
  (Core.srBits_setSr_of_apart _ (by decide) (by decide) (by decide)).trans (Core.wd_slide _ _)

theorem Core.prio_trapped : (x.trapped t ret).prio = x.prio :=
  (Core.srBits_setSr_of_apart _ (by decide) (by decide) (by decide)).trans (Core.prio_slide _ _)

theorem Core.res_trapped : (x.trapped t ret).res = x.res + 1 := (rfl)
theorem Core.win_trapped : (x.trapped t ret).win = (x.win + 1) % 14 := (rfl)

end Trapped

/-- Settles O26: the fields of the core that slides into the trap. -/
theorem trapEntry : Obligations.TrapEntry := by
  unfold Obligations.TrapEntry
  intro s c t hv hne hcause htad hm hd hres hc hpc x y
  have hy : y = (x.trapped t x.pc).atVector t.vec :=
    (congrArg (fun u : State => u.core c.num) (State.trap_of_room rfl hm hd hres hc hne)).trans
      (State.core_vector (State.core_setCore_self s c.num _) t.vec)
  rw [hy]
  exact ⟨rfl, x.toNat_tca_trapped t x.pc hv hcause htad, x.toNat_tad_trapped t x.pc, x.getLk_trapped t hpc, x.getSlot_trapped t x.pc,
    x.ie_trapped t x.pc, x.wd_trapped t x.pc, x.res_trapped t x.pc, x.win_trapped t x.pc, rfl, x.prio_trapped t x.pc⟩

end Sys2Proof.Machine
end

section
/-! PROOFS. The statement on halts, and on cores that do not run (R571, R583). -/

namespace Sys2Proof.Machine

/-! ### The end of a halt -/

theorem haltResume_of_agreed {s : State} (h : s.acked 0 = true ∨ s.fld PCR_ENTRY_PHASE = 2) (c : Nat) : haltResume c s = s := if_pos h

section Resume
variable {s : State} {c : Nat} (ha : s.acked 0 = false) (hp : s.fld PCR_ENTRY_PHASE ≠ 2)
include ha hp

theorem haltResume_of_free : haltResume c s = match s.pendAbove c (s.core c).prio with
    | some (p, _) =>
      if (s.core c).run ≠ .halted ∨ !s.lives c then s
      else if (s.core c).ie then s.interrupt c p else s.modCore c (fun x => { x with run := .running })
    | none => s := by
  have hfree : ¬ (s.acked 0 = true ∨ s.fld PCR_ENTRY_PHASE = 2) := by simp [ha, hp]
  exact (if_neg hfree).trans rfl

/-- An interrupt above the priority of a halted core ends the halt. -/
theorem haltResume_of_pending {p k : Nat} (hpend : s.pendAbove c (s.core c).prio = some (p, k)) (hrun : (s.core c).run = .halted)
    (hl : s.lives c = true) : haltResume c s =
      if (s.core c).ie then s.interrupt c p else s.modCore c (fun x => { x with run := .running }) := by
  rw [haltResume_of_free ha hp, hpend]
  exact if_neg (by simp [hrun, hl])

end Resume

/-- Without an interrupt above its priority a core stays as it is. -/
theorem haltResume_of_quiet {s : State} {c : Nat} (h : s.pendAbove c (s.core c).prio = none) : haltResume c s = s := by
  rw [haltResume, h]
  exact ite_self s

/-! ### Cores that do not run -/

section Stopped
variable {s : State} {c : CoreId} (hr : s.runs c.num = false) {n : Nat}
include hr

theorem State.coreOp_of_not_runs (bad : List (Option Trp)) (f : Core → Core) : s.coreOp c n bad f = s := by
  rw [State.coreOp, State.instr_of_not_runs hr]

theorem State.loopOp_of_not_runs (e : Nat) (count : Core → Nat) : s.loopOp c n e count = s := by
  rw [State.loopOp, State.instr_of_not_runs hr]

theorem State.loadOp_of_not_runs (rd : Nat) (a : Core → Word) (pre : Core → Core) : s.loadOp c n rd a pre = s := by
  rw [State.loadOp, State.instr_of_not_runs hr]

theorem State.storeOp_of_not_runs (rd : Nat) (a : Core → Word) (post : Core → Core) : s.storeOp c n rd a post = s := by
  rw [State.storeOp, State.instr_of_not_runs hr]

/-- An instruction of a core that does not run does nothing. -/
theorem next_instr_of_not_runs (bad late : List (Option Trp)) (act : State → State) :
    (.next (s.instr c.num n bad late act) : Out State) = .next s := congrArg Host.Outcome.next (State.instr_of_not_runs hr _ _ _)

theorem execRetim_of_not_runs : execRetim c s = .next s := next_instr_of_not_runs hr _ _ _
theorem execCallm_of_not_runs (p t : Fin 32) (m : BitVec 16) : execCallm c p t m s = .next s := next_instr_of_not_runs hr _ _ _
theorem execRetm_of_not_runs (p : Fin 32) (m : BitVec 16) : execRetm c p m s = .next s := next_instr_of_not_runs hr _ _ _
theorem execIoIn_of_not_runs (rd rs : Fin 32) (i : Word) : execIoIn c rd rs i s = .next s := next_instr_of_not_runs hr _ _ _
theorem execOut_of_not_runs (rd rs : Fin 32) (i : Word) : execOut c rd rs i s = .next s := next_instr_of_not_runs hr _ _ _

end Stopped

/-- Settles O24: what ends a halt, and the instructions of a core that does not run. -/
theorem haltsAndStops : Obligations.HaltsAndStops := by
  unfold Obligations.HaltsAndStops
  refine ⟨?halts, ?stopped⟩
  case halts =>
    intro s c p k x
    refine ⟨fun hf => ?halt, fun ha hp hpend hrun hl hi => ?entered, fun ha hp hpend hrun hl hi => ?resumed, fun h => ?agreed,
      fun h => ?quiet⟩
    case halt => exact congrArg Host.Outcome.next (State.instr_of_fetches hf [] [] _ (by simp))
    case entered =>
      exact congrArg Host.Outcome.next ((haltResume_of_pending ha hp hpend hrun hl).trans (if_pos hi))
    case resumed =>
      exact congrArg Host.Outcome.next ((haltResume_of_pending ha hp hpend hrun hl).trans (if_neg (Bool.eq_false_iff.mp hi)))
    case agreed => exact congrArg Host.Outcome.next (haltResume_of_agreed h c.num)
    case quiet => exact congrArg Host.Outcome.next (haltResume_of_quiet h)
  case stopped =>
    intro s c rd rs i k o hr
    have stop (n : Nat) (bad late : List (Option Trp)) (act : State → State) : (.next (s.instr c.num n bad late act) : Out State) = .next s :=
      next_instr_of_not_runs hr bad late act
    have op (n : Nat) (bad : List (Option Trp)) (f : Core → Core) : (.next (s.coreOp c n bad f) : Out State) = .next s :=
      congrArg Host.Outcome.next (State.coreOp_of_not_runs hr bad f)
    exact ⟨op _ _ _, op _ _ _, op _ _ _, op _ _ _, stop _ _ _ _, stop _ _ _ _,
      congrArg Host.Outcome.next (State.loadOp_of_not_runs hr _ _ _), congrArg Host.Outcome.next (State.storeOp_of_not_runs hr _ _ _),
      execIoIn_of_not_runs hr rd rs i, execOut_of_not_runs hr rd rs i, stop _ _ _ _, stop _ _ _ _, stop _ _ _ _, stop _ _ _ _,
      execRetim_of_not_runs hr, execCallm_of_not_runs hr rd rs 0, execRetm_of_not_runs hr rd 0,
      congrArg Host.Outcome.next (State.loopOp_of_not_runs hr _ _), stop _ _ _ _, stop _ _ _ _, stop _ _ _ _⟩

end Sys2Proof.Machine
end

section
/-! PROOFS. The statement on calls and returns (R556, R561, R574, R597). -/

namespace Sys2Proof.Machine

/-! ### A core's next parcel set -/

theorem State.goTo_eq {s : State} {c p : Nat} (hp : (s.core c).pc = p) (t : Nat) :
    s.goTo c t = (s.flow c p).modCore c (fun y => { y with pc := t % 2 ^ 21 }) := by
  subst hp
  rfl

theorem State.modCore_modCore (s : State) (c : Nat) (f g : Core → Core) : (s.modCore c f).modCore c g = s.modCore c (fun y => g (f y)) := by
  rw [State.modCore_eq, State.modCore_eq, State.core_setCore_self, State.setCore_setCore]
  rfl

/-! ### Calls -/

theorem Core.pc_slide (x : Core) (ret : Nat) : (x.slide ret).pc = x.pc := (rfl)

theorem State.callOp_of_room {s : State} {c : CoreId} {n : Nat} {x : Core} (hf : s.fetches c.num n = true) (hx : s.core c.num = x)
    (hres : x.res < 14) (t : Core → Nat) :
    s.callOp c n t = ((s.setCore c.num (x.slide ((x.pc + n) % 2 ^ 21))).flow c.num x.pc).modCore c.num
      (fun y => { y with pc := t x % 2 ^ 21 }) := by
  have hpc : ((s.setCore c.num (x.slide ((x.pc + n) % 2 ^ 21))).core c.num).pc = x.pc :=
    (congrArg Core.pc (State.core_setCore_self s c.num _)).trans (x.pc_slide _)
  rw [State.callOp, State.instr_of_fetches hf _ _ _ (by simp [State.callTrap_of_room hx hres])]
  dsimp only
  rw [hx, State.slideIn_of_room hx hres, State.goTo_eq hpc]

/-! ### Loop levels of the routine that returns -/

section EndTagged
variable (x : Core)

theorem Core.endTagged_eq : x.endTagged = { x with lpc := x.endTagged.lpc } := by
  have hq : x.endTagged = (List.range 4).foldl (fun y j => if decide (x.tag j = x.wd) then y.setLpc j 0 else y) x := by
    simp only [Core.endTagged, decide_eq_true_eq]
  exact x.eq_of_besideLpc ((congrArg Core.besideLpc hq).trans (x.besideLpc_endIf (fun j => decide (x.tag j = x.wd)) _))

theorem Core.pc_endTagged : x.endTagged.pc = x.pc := (congrArg (fun y : Core => y.pc) x.endTagged_eq).trans rfl
theorem Core.isp_endTagged : x.endTagged.isp = x.isp := (congrArg (fun y : Core => y.isp) x.endTagged_eq).trans rfl
theorem Core.get_endTagged (i : Nat) : x.endTagged.get i = x.get i := (congrArg (fun y : Core => y.get i) x.endTagged_eq).trans rfl

end EndTagged

/-! ### Returns from a window -/

theorem State.returnOp_of_resident {s : State} {c : CoreId} {x : Core} (hf : s.fetches c.num 1 = true) (hx : s.core c.num = x)
    (hres : 1 < x.res) (f : Core → Core → Core) :
    s.returnOp c f = ((s.setCore c.num x.endTagged).flow c.num x.pc).modCore c.num
      (fun y => f x ({ y with pc := x.getLk % 2 ^ 21 } : Core).unslide) := by
  have hpc : ((s.setCore c.num x.endTagged).core c.num).pc = x.pc :=
    (congrArg Core.pc (State.core_setCore_self s c.num _)).trans x.pc_endTagged
  have ht : s.retTrap c.num = none := by
    subst hx
    exact if_neg (by omega)
  rw [State.returnOp, State.instr_of_fetches hf _ _ _ (by simp [ht])]
  dsimp only
  rw [hx, if_neg (by omega), State.modCore_eq s c.num Core.endTagged, hx, State.goTo_eq hpc, State.modCore_modCore]

/-! ### Several accesses of one instruction -/

theorem filterMap_eq_nil {α : Type} {f : Nat → Option α} {n : Nat} (h : ∀ i < n, f i = none) : (List.range n).filterMap f = [] :=
  List.filterMap_eq_nil_iff.mpr fun i hi => h i (List.mem_range.mp hi)

section Accesses
variable {s : State} {c a n : Nat}

theorem State.storesTrap_of_stores (h : (List.range n).all (fun i => s.stores c ((a + i) % 2 ^ 18)) = true) : s.storesTrap c a n = none := by
  rw [State.storesTrap, filterMap_eq_nil fun i hi => Option.isNone_iff_eq_none.mp (List.all_eq_true.mp h i (List.mem_range.mpr hi))]
  rfl

theorem State.loads_iff {p : Nat} : s.loads c p = true ↔ s.loadTrap c p = none ∧ s.coreEcc c p = 0 := by
  simp [State.loads]

theorem State.loadNote_of_loads {p : Nat} (h : s.loads c p = true) : s.loadNote c p = s := by
  obtain ⟨-, he⟩ := State.loads_iff.mp h
  unfold State.loadNote
  split
  · rfl
  · rw [he, if_neg (by decide), if_neg (by decide)]

variable (h : (List.range n).all (fun i => s.loads c ((a + i) % 2 ^ 18)) = true)
include h

theorem State.loadsTrap_of_loads : s.loadsTrap c a n = none := by
  rw [State.loadsTrap, filterMap_eq_nil fun i hi => (State.loads_iff.mp (List.all_eq_true.mp h i (List.mem_range.mpr hi))).1]
  rfl

theorem State.each_loadNote_of_loads : s.each (List.range n) (fun i s => s.loadNote c ((a + i) % 2 ^ 18)) = s :=
  State.each_id s _ _ fun i hi => State.loadNote_of_loads (List.all_eq_true.mp h i hi)

end Accesses

/-! ### RETIM -/

theorem execRetim_of_loads {s : State} {c : CoreId} {x : Core} (hf : s.fetches c.num 1 = true) (hx : s.core c.num = x)
    (hl : (List.range 3).all (fun i => s.loads c.num ((x.isp.toNat + i) % 2 ^ 18)) = true) {w : Nat → Word}
    (hw : (fun i => s.coreWord c.num ((x.isp.toNat + i) % 2 ^ 18)) = w) :
    execRetim c s = .next (((s.setCore c.num { x.endTagged with sr := w 2 &&& 0o777770, isp := x.isp + 3 }).flow c.num x.pc).modCore c.num
      (fun y => { y with pc := ((w 0).toNat % 8 * 2 ^ 18 + (w 1).toNat) % 2 ^ 21 })) := by
  subst hx hw
  have hpc : ((s.setCore c.num { (s.core c.num).endTagged with
      sr := s.coreWord c.num (((s.core c.num).isp.toNat + 2) % 2 ^ 18) &&& 0o777770,
      isp := (s.core c.num).isp + 3 }).core c.num).pc = (s.core c.num).pc :=
    (congrArg Core.pc (State.core_setCore_self s c.num _)).trans (Core.pc_endTagged _)
  unfold execRetim
  dsimp only
  rw [State.instr_of_fetches hf _ _ _ (by simp [State.loadsTrap_of_loads hl]), State.each_loadNote_of_loads hl, State.modCore_eq,
    Core.isp_endTagged, State.goTo_eq hpc]

/-! ### CALLM and RETM (R561) -/

theorem mem_maskRegs_lt {m : BitVec 16} {i : Nat} (h : i ∈ maskRegs m) : i < 32 := by
  simp only [maskRegs, onesBelow, List.mem_append, List.mem_map, List.mem_filter, List.mem_range] at h
  omega

/-- Registers loaded leave the others. -/
theorem Core.get_loaded (x : Core) (l : List Nat) (v : Nat → Word) {p : Nat} (hp : p < 32) (hl : ∀ i ∈ l, i < 32) (hn : p ∉ l) (r : List Nat)
    (hr : ∀ i ∈ r, i < l.length) : (r.foldl (fun (z : Core) i => z.put (l.getD i 0) (v i)) x).get p = x.get p := by
  induction r generalizing x with
  | nil => rfl
  | cons i r ih =>
    have hi : l.getD i 0 ∈ l := by
      rw [List.getD_eq_getElem _ _ (hr i List.mem_cons_self)]
      exact List.getElem_mem _
    rw [List.foldl_cons, ih _ fun j hj => hr j (List.mem_cons_of_mem _ hj)]
    exact x.get_put_of_ne _ hp (hl _ hi) (ne_of_mem_of_not_mem hi hn).symm

section Masked
variable {s : State} {c : CoreId} {p : Fin 32} {m : BitVec 16} (hf : s.fetches c.num 2 = true)
  (hm : (maskRegs m).contains p.val = false)
include hf hm

theorem execCallm_of_stores (t : Fin 32) {x : Core} (hx : s.core c.num = x) {n ret : Nat} (hn : 2 + (maskRegs m).length = n)
    (hret : (x.pc + 2) % 2 ^ 21 = ret) {q : Word} (hq : x.get p - BitVec.ofNat 18 n = q)
    (hs : (List.range n).all (fun i => s.stores c.num ((q.toNat + i) % 2 ^ 18)) = true) :
    execCallm c p t m s = .next (((s.storeList c.num q.toNat
      ([toWord (ret / 2 ^ 18), toWord ret] ++ (maskRegs m).map x.get)).modCore c.num (fun y => (y.put p q).wdUp)).goTo c.num
        ((x.get t).toNat * 8)) := by
  subst hx hn hret hq
  exact congrArg Host.Outcome.next (State.instr_of_fetches hf _ _ _ (by rw [hm, toWord, State.storesTrap_of_stores hs]; simp [State.ill]))

theorem execRetm_of_loads {x : Core} (hx : s.core c.num = x) {n : Nat} (hn : 2 + (maskRegs m).length = n) {w : Nat → Word}
    (hl : (List.range n).all (fun i => s.loads c.num (((x.get p).toNat + i) % 2 ^ 18)) = true)
    (hw : (fun i => s.coreWord c.num (((x.get p).toNat + i) % 2 ^ 18)) = w) {y : Core}
    (hy : (List.range (maskRegs m).length).foldl (fun (z : Core) i => z.put ((maskRegs m).getD i 0) (w (2 + i))) x.endTagged = y) :
    execRetm c p m s = .next ((s.setCore c.num ((y.put p (x.get p + BitVec.ofNat 18 n)).wdDown)).goTo c.num
      ((w 0).toNat % 8 * 2 ^ 18 + (w 1).toNat)) := by
  have hp : y.get p = x.get p := by
    rw [← hy, Core.get_loaded _ _ (fun i => w (2 + i)) p.isLt (fun i => mem_maskRegs_lt) (by simpa using hm) _
      (fun i hi => List.mem_range.mp hi)]
    exact x.get_endTagged p
  subst hx hn hw
  unfold execRetm
  dsimp only
  rw [State.instr_of_fetches hf _ _ _ (by rw [hm, State.loadsTrap_of_loads hl]; simp [State.ill]), State.each_loadNote_of_loads hl,
    State.modCore_eq, hy, hp]
  rfl

end Masked

/-- Settles O23: calls slide, returns go to LK, and the masked forms move their registers. -/
theorem callsAndReturns : Obligations.CallsAndReturns := by
  unfold Obligations.CallsAndReturns
  refine ⟨?calls, ?returns, ?masked⟩
  case calls =>
    intro s c t rs ret hres x goes
    exact ⟨fun hf => congrArg Host.Outcome.next (State.callOp_of_room hf rfl hres _),
      fun hf => congrArg Host.Outcome.next (State.callOp_of_room hf rfl hres _),
      fun hret => ⟨x.getLk_slide hret, x.res_slide ret, x.win_slide ret, x.wd_slide ret, x.r_slide ret⟩⟩
  case returns =>
    intro s c hf x u w
    exact ⟨fun hres => congrArg Host.Outcome.next (State.returnOp_of_resident hf rfl hres _),
      fun hres => congrArg Host.Outcome.next (State.returnOp_of_resident hf rfl hres _), fun hl => execRetim_of_loads hf rfl hl rfl⟩
  case masked =>
    intro s c p t m hf hm x l n ret q
    exact ⟨fun hs => execCallm_of_stores hf hm t rfl rfl rfl rfl hs, fun hl => execRetm_of_loads hf hm rfl rfl hl rfl rfl⟩

end Sys2Proof.Machine
end

section
/-! PROOFS. Stores of one field of a register (R9 to R11, R18): what is shared by the commands that are such stores. -/

namespace Sys2Proof.Machine

/-! ### A write of the value that a key has -/

section Rising
variable {α : Type} {m : SMap α} {k : Nat}

theorem mem_of_smFind {v : α} (h : smFind m k = some v) : (k, v) ∈ m := by
  induction m with
  | nil => exact absurd h (by simp [smFind])
  | cons e t ih =>
    obtain ⟨a, w⟩ := e
    by_cases ha : a = k
    · have hw : w = v := by simpa [smFind, ha] using h
      rw [ha, hw]
      exact List.mem_cons_self
    · exact List.mem_cons_of_mem _ (ih (by simpa [smFind, ha] using h))

theorem smFind_of_above (h : ∀ e ∈ m, k < e.1) : smFind m k = none := by
  cases hf : smFind m k with
  | none => rfl
  | some v => exact absurd (h _ (mem_of_smFind hf)) (lt_irrefl k)

theorem smInsert_of_above (h : ∀ e ∈ m, k < e.1) (v : α) : smInsert m k v = (k, v) :: m := by
  cases m with
  | nil => rfl
  | cons e t => exact if_pos (h e List.mem_cons_self)

theorem smInsert_smErase_self (h : SMap.Rising m) {v : α} (hv : smFind m k = some v) : smInsert (smErase m k) k v = m := by
  induction m with
  | nil => exact absurd hv (by simp [smFind])
  | cons e t ih =>
    obtain ⟨a, w⟩ := e
    obtain ⟨h1, h2⟩ := List.pairwise_cons.mp h
    by_cases ha : a = k
    · subst ha
      have hw : w = v := by simpa [smFind] using hv
      rw [smErase, if_pos rfl, smErase_of_none t a (smFind_of_above h1), hw]
      exact smInsert_of_above h1 v
    · have hf : smFind t k = some v := by simpa [smFind, ha] using hv
      have hlt : a < k := h1 (k, v) (mem_of_smFind hf)
      rw [smErase, if_neg ha, smInsert, if_neg (by omega), ih h2 hf]

/-- A canonical storage is left as it is by a write of what the key reads as. -/
theorem smPut_smGet_self [DecidableEq α] {d : Nat → α} (h : smWf d m = true) (k : Nat) : smPut d m k (smGet d m k) = m := by
  obtain ⟨hr, hd⟩ := (smWf_iff d m).mp h
  unfold smPut smGet
  cases hf : smFind m k with
  | none => exact (if_pos rfl).trans (smErase_of_none m k hf)
  | some v => exact (if_neg (hd _ (mem_of_smFind hf))).trans (smInsert_smErase_self hr hf)

end Rising

/-! ### Fields of a word -/

/-- A word is its own bits put back. -/
theorem putBits_bitsOf {hi lo : Nat} (h : lo ≤ hi) (w : Nat) : putBits w hi lo (bitsOf w hi lo) = w := by
  have e : 2 ^ (hi + 1) = 2 ^ lo * 2 ^ (hi + 1 - lo) := by
    rw [← pow_add]
    congr 1
    omega
  have h1 := Nat.mod_add_div w (2 ^ lo)
  have h2 := Nat.mod_add_div (w / 2 ^ lo) (2 ^ (hi + 1 - lo))
  rw [Nat.div_div_eq_div_mul, ← e] at h2
  calc putBits w hi lo (bitsOf w hi lo)
      = w % 2 ^ lo + 2 ^ lo * (w / 2 ^ lo % 2 ^ (hi + 1 - lo) + 2 ^ (hi + 1 - lo) * (w / 2 ^ (hi + 1))) := by
        rw [putBits, bitsOf, Nat.mod_mod, Nat.mul_add, ← Nat.mul_assoc, ← e, ← Nat.add_assoc]
        ring
    _ = w := by rw [h2, h1]

theorem putBits_eq_add (w hi lo v : Nat) : putBits w hi lo v = putBits w hi lo 0 + v % 2 ^ (hi + 1 - lo) * 2 ^ lo := by
  simp only [putBits, Nat.zero_mod, Nat.zero_mul, Nat.add_zero]
  ring

theorem land_maskOf (w hi lo : Nat) : Nat.land w (maskOf hi lo) = bitsOf w hi lo * 2 ^ lo := by
  refine Nat.eq_of_testBit_eq fun i => ?_
  rw [show Nat.land w (maskOf hi lo) = w &&& maskOf hi lo from rfl, maskOf, bitsOf, ← Nat.shiftLeft_eq, ← Nat.shiftLeft_eq,
    ← Nat.shiftRight_eq_div_pow]
  simp only [Nat.testBit_and, Nat.testBit_shiftLeft, Nat.testBit_mod_two_pow, Nat.testBit_two_pow_sub_one, Nat.testBit_shiftRight]
  by_cases h : lo ≤ i
  · rw [Nat.add_sub_cancel' h]
    simp [h, Bool.and_comm]
  · simp [h]

theorem dropBits_maskOf {hi lo : Nat} (h : lo ≤ hi) (w : Nat) : dropBits w (maskOf hi lo) = putBits w hi lo 0 := by
  have h1 := putBits_eq_add w hi lo (bitsOf w hi lo)
  rw [putBits_bitsOf h, Nat.mod_eq_of_lt (bitsOf_lt w hi lo)] at h1
  rw [dropBits, land_maskOf]
  omega

theorem bitsOf_lor (x y hi lo : Nat) : bitsOf (Nat.lor x y) hi lo = bitsOf x hi lo ||| bitsOf y hi lo := by
  rw [bitsOf, bitsOf, bitsOf, ← Nat.or_mod_two_pow, ← Nat.shiftRight_eq_div_pow, ← Nat.shiftRight_eq_div_pow, ← Nat.shiftRight_eq_div_pow,
    ← Nat.shiftRight_or_distrib]
  rfl

/-- A field's value at its place. -/
theorem bitsOf_mul_two_pow {hi lo n : Nat} (h : n < 2 ^ (hi + 1 - lo)) : bitsOf (n * 2 ^ lo) hi lo = n := by
  rw [bitsOf, Nat.mul_div_cancel _ (Nat.two_pow_pos lo), Nat.mod_eq_of_lt h]

/-- The value that a store of one field gives it. -/
theorem maskedField_of_field {f : Field} (h : f.lo ≤ f.hi) {n : Nat} (hn : n < 2 ^ (f.hi + 1 - f.lo)) (w : Nat) :
    maskedField w (n * 2 ^ f.lo) (maskOf f.hi f.lo) f = n := by
  rw [maskedField, bitsOf_lor, dropBits_maskOf h, bitsOf_putBits_self _ _ _ _ h, land_maskOf, bitsOf_mul_two_pow hn, bitsOf_mul_two_pow hn,
    Nat.zero_mod, Nat.zero_or]

/-! ### A state in which a store is judged by its register alone -/

/-- The register file is canonical, no entry is negotiated, no COMMIT waits, and no register is latched. -/
structure State.Calm (s : State) : Prop where
  wf : RegFile.wf s.io = true
  phase : s.fld PCR_ENTRY_PHASE ≠ 1
  commits : s.rng.commits.isEmpty = true
  snap : s.snap = []

theorem State.setShadow_shadowOf (s : State) (k : Nat) : s.setShadow k (s.shadowOf k).toNat = s := if_pos rfl

theorem State.unlatch_of_empty {s : State} (h : s.snap = []) (k : Nat) : s.unlatch k = s := by
  unfold State.unlatch
  rw [h]
  exact congrArg (fun m => { s with snap := m }) h.symm

theorem State.raiseOn_false (s : State) (f : FRef) : s.raiseOn false f = s := by
  rw [State.raiseOn, Bool.false_and, State.raiseIf, if_neg Bool.false_ne_true]

theorem State.raiseIf_false (s : State) (f : FRef) : s.raiseIf false f = s := by rw [State.raiseIf, if_neg Bool.false_ne_true]

section Calm
variable {s : State} (hs : s.Calm)
include hs

theorem State.Calm.setReg_reg (k : Nat) : s.setReg k (s.reg k) = s := by
  have hio : smPut regReset s.io k (toWord (s.reg k)) = s.io := by
    rw [State.reg, toWord_toNat]
    exact smPut_smGet_self hs.wf k
  rw [State.setReg, hio]

theorem State.Calm.setFld_fld {F : FRef} (h : F.lo ≤ F.hi) {v : Nat} (hv : s.fld F = v) : s.setFld F v = s := by
  rw [State.setFld, ← hv, State.fld, putBits_bitsOf h]
  exact hs.setReg_reg _

theorem State.Calm.netKept (k hi v : Nat) : s.netKept k hi v = false := by
  rw [State.netKept, List.isEmpty_iff.mp hs.commits]
  rfl

theorem State.Calm.breaksAck (t : State) : s.breaksAck t = false := by
  unfold State.breaksAck
  simp [hs.phase]

/-- A judged store that keeps the shadow and sets no flag writes the register. -/
theorem State.Calm.applyStore_live (k w t : Nat) :
    s.applyStore k { live := w, shadow := (s.shadowOf k).toNat, take := t } = s.setReg k w := by
  unfold State.applyStore
  dsimp only
  rw [State.setShadow_shadowOf, State.unlatch_of_empty (s := s.setReg k w) hs.snap k, State.raiseOn_false, State.raiseOn_false,
    State.raiseIf_false]

/-- A refused store sets WRREF. -/
theorem State.Calm.applyStore_refused (k : Nat) :
    s.applyStore k { live := s.reg k, shadow := (s.shadowOf k).toNat, wr := true } = s.raiseOn true (wrrefOf k) := by
  unfold State.applyStore
  dsimp only
  rw [State.setShadow_shadowOf, hs.setReg_reg, State.unlatch_of_empty hs.snap k, State.raiseOn_false, State.raiseIf_false]

end Calm

/-! ### The fields that a store judges -/

/-- A field that a mask reaches. -/
def touches (mask : Nat) (f : Field) : Bool := decide (Nat.land mask (maskOf f.hi f.lo) ≠ 0)

/-- The fields of a register that a mask does not reach stay. -/
theorem foldl_storeField (s : State) (c k : Nat) (mine : Bool) (v mask : Nat) (l : List Field) (x : StoreW) :
    l.foldl (s.storeField c k mine v mask) x = (l.filter (touches mask)).foldl (s.storeField c k mine v mask) x := by
  induction l generalizing x with
  | nil => rfl
  | cons f l ih =>
    rw [List.foldl_cons, ih]
    by_cases h : Nat.land mask (maskOf f.hi f.lo) = 0
    · have ht : touches mask f = false := decide_eq_false (not_not_intro h)
      rw [List.filter_cons_of_neg (Bool.eq_false_iff.mp ht), State.storeField, if_pos h]
    · have ht : touches mask f = true := decide_eq_true h
      rw [List.filter_cons_of_pos ht, List.foldl_cons]

/-- The registers without a reserved combination of fields (R11), among them those of the commands. -/
def comboFree (k : Nat) : Bool :=
  decide (k / 4096 ≠ 4 ∧ k / 4096 ≠ 6 ∧ (k / 4096 = 10 → k < 0xA100)
    ∧ (k / 4096 = 11 → k % 16 = 5 ∨ (0xB160 ≤ k ∧ k ≠ 0xBC00 ∧ k ≠ 0xBC06 ∧ k ≠ 0xBC08)))

theorem State.comboMask_of_free {k : Nat} (h : comboFree k = true) (s : State) (w : Nat) : s.comboMask k w = 0 := by
  obtain ⟨h4, h6, h10, h11⟩ := of_decide_eq_true h
  unfold State.comboMask
  dsimp only
  split
  · next hk => exact absurd hk h4
  · next hk => exact absurd hk h6
  · next hk =>
    have := h10 hk
    rw [if_neg (by omega), if_neg (by omega), if_neg (by omega), if_neg (by omega)]
  · next hk =>
    rcases h11 hk with h5 | ⟨hlo, h0, h6, h8⟩
    · split
      · simp only [h5]
      · split
        · omega
        · omega
        · omega
        · rfl
    · rw [if_neg (by omega)]
      split
      · contradiction
      · contradiction
      · contradiction
      · rfl
  · rfl

/-- The fields of a register that a mask reaches; none where no register is. -/
def reached (k mask : Nat) : List Field := ((rowOf k).map fun r => r.fields.filter (touches mask)).getD []

theorem State.judgeStore_eq {k : Nat} (hc : comboFree k = true) (s : State) (c v mask : Nat) :
    s.judgeStore c k v mask = (reached k mask).foldl (s.storeField c k (decide (s.claimant (k / 4096) = some c)) v mask)
      { live := s.reg k, shadow := (s.shadowOf k).toNat } := by
  unfold State.judgeStore reached
  cases hr : rowOf k with
  | none => rfl
  | some r =>
    dsimp only
    rw [foldl_storeField, State.storeCombo, if_pos (State.comboMask_of_free hc s _)]
    rfl

theorem State.Calm.storeAs_eq {s : State} (hs : s.Calm) (o : Nat) (c : CoreId) (k v mask : Nat) {x : StoreW}
    (hx : s.judgeStore o k v mask = x) : s.storeAs o c k v mask = (s.applyStore k x).storeEff c k (s.reg k) x.take mask := by
  subst hx
  unfold State.storeAs
  dsimp only
  rw [hs.breaksAck, if_neg Bool.false_ne_true]

/-- A masked store to an address of a register of a running domain; the ports of the ring engine, SEQ_MDATA and MEM_NDATA apart. -/
theorem State.ioStoreM_eq {s : State} {c : CoreId} {a k : Nat} (hbus : busReg c.num a = some k) (hicu : sIcuOnly c.num a = false)
    (hport : ¬ (0x3000 ≤ k ∧ k < 0x3400 ∧ k % 16 = 2) ∧ k ≠ rSEQ_MDATA ∧ k ≠ rMEM_NDATA) (hd : s.domOn (keyDom k) = true) (v mask : Nat) :
    s.ioStoreM c a v mask = s.storeAs c.num c k v mask := by
  obtain ⟨hdb, hmd, hnd⟩ := hport
  unfold State.ioStoreM State.atReg State.storeReg
  rw [hicu, if_neg Bool.false_ne_true, hbus]
  dsimp only
  rw [if_pos hd, if_neg hdb, if_neg hmd, if_neg hnd]

/-! ### A store of one field -/

/-- A field as its register and the bus of a core know it: `f` is the one field of the register that a store of the field reaches. -/
def fieldAt (c : Nat) (F : FRef) (f : Field) : Bool :=
  decide (busReg c (keyAddr F.addr) = some F.addr) && !sIcuOnly c (keyAddr F.addr) && comboFree F.addr
    && decide (¬ (0x3000 ≤ F.addr ∧ F.addr < 0x3400 ∧ F.addr % 16 = 2) ∧ F.addr ≠ rSEQ_MDATA ∧ F.addr ≠ rMEM_NDATA)
    && decide (reached F.addr (maskOf F.hi F.lo) = [f] ∧ f.hi = F.hi ∧ f.lo = F.lo ∧ F.lo ≤ F.hi) && !f.tx

section OneField
variable {s : State} (hs : s.Calm) {c : CoreId} {F : FRef} {f : Field} (hF : fieldAt c.num F f = true)
include hF

theorem fieldAt_spec : busReg c.num (keyAddr F.addr) = some F.addr ∧ sIcuOnly c.num (keyAddr F.addr) = false ∧ comboFree F.addr = true
    ∧ (¬ (0x3000 ≤ F.addr ∧ F.addr < 0x3400 ∧ F.addr % 16 = 2) ∧ F.addr ≠ rSEQ_MDATA ∧ F.addr ≠ rMEM_NDATA)
    ∧ (reached F.addr (maskOf F.hi F.lo) = [f] ∧ f.hi = F.hi ∧ f.lo = F.lo ∧ F.lo ≤ F.hi) ∧ f.tx = false := by
  simpa only [fieldAt, Bool.and_eq_true, decide_eq_true_eq, Bool.not_eq_true', and_assoc] using hF

/-- A store of a field in a running domain reaches its register. -/
theorem State.ioField_eq (hd : s.domOn (keyDom F.addr) = true) (v : Nat) :
    s.ioField c F v = s.storeAs c.num c F.addr (v * 2 ^ F.lo) (maskOf F.hi F.lo) := by
  obtain ⟨hbus, hicu, -, hport, -, -⟩ := fieldAt_spec hF
  exact State.ioStoreM_eq hbus hicu hport hd _ _

theorem State.judgeStore_field (s : State) (v : Nat) : s.judgeStore c.num F.addr (v * 2 ^ F.lo) (maskOf F.hi F.lo) =
    s.storeField c.num F.addr (decide (s.claimant (F.addr / 4096) = some c.num)) (v * 2 ^ F.lo) (maskOf F.hi F.lo)
      { live := s.reg F.addr, shadow := (s.shadowOf F.addr).toNat } f := by
  obtain ⟨-, -, hcombo, -, ⟨hreach, -⟩, -⟩ := fieldAt_spec hF
  rw [State.judgeStore_eq hcombo, hreach]
  rfl

/-- The field's mask reaches it. -/
theorem land_mask_ne_zero : Nat.land (maskOf F.hi F.lo) (maskOf f.hi f.lo) ≠ 0 := by
  obtain ⟨-, -, -, -, ⟨hreach, -⟩, -⟩ := fieldAt_spec hF
  have hmem : f ∈ reached F.addr (maskOf F.hi F.lo) := by
    rw [hreach]
    exact List.mem_singleton_self f
  unfold reached at hmem
  cases hr : rowOf F.addr with
  | none => simp [hr] at hmem
  | some r =>
    rw [hr] at hmem
    exact of_decide_eq_true (List.mem_filter.mp hmem).2

theorem land_mask_self : Nat.land (maskOf F.hi F.lo) (maskOf f.hi f.lo) = maskOf F.hi F.lo := by
  obtain ⟨-, -, -, -, ⟨-, hhi, hlo, -⟩, -⟩ := fieldAt_spec hF
  rw [hhi, hlo]
  exact Nat.and_self _

section Judged
variable {v : Nat} (hv : v < 2 ^ (F.hi + 1 - F.lo))
include hv

/-- The value that a command's store offers. -/
theorem bitsOf_offered : bitsOf (Nat.land (v * 2 ^ F.lo) (Nat.land (maskOf F.hi F.lo) (maskOf f.hi f.lo))) f.hi f.lo = v := by
  rw [land_mask_self hF, land_maskOf, bitsOf_mul_two_pow hv]
  obtain ⟨-, -, -, -, ⟨-, hhi, hlo, -⟩, -⟩ := fieldAt_spec hF
  rw [hhi, hlo, bitsOf_mul_two_pow hv]

theorem State.storeField_command (ha : f.acc = .wo) (s : State) (mine : Bool) (x : StoreW) :
    s.storeField c.num F.addr mine (v * 2 ^ F.lo) (maskOf F.hi F.lo) x f = s.commandField c.num F.addr v x f := by
  unfold State.storeField
  dsimp only
  rw [if_neg (land_mask_ne_zero hF), ha, bitsOf_offered hF hv]

/-- A value's store: the field takes it unless it is refused, held or reserved. -/
theorem State.storeField_value (ha : f.acc = .rw) (s : State) (mine : Bool) (x : StoreW) :
    s.storeField c.num F.addr mine (v * 2 ^ F.lo) (maskOf F.hi F.lo) x f =
      if s.refusedField c.num F.addr f || s.netKept F.addr f.hi v then
        { x with wr := x.wr || decide (v ≠ bitsOf x.live F.hi F.lo), enc := x.enc || badField F.addr f v }
      else if s.heldField F.addr f v then
        { x with cfg := x.cfg || decide (v ≠ bitsOf x.live F.hi F.lo), enc := x.enc || badField F.addr f v }
      else if badField F.addr f v then { x with enc := true }
      else { x with live := putBits x.live F.hi F.lo v } := by
  obtain ⟨-, -, -, -, ⟨-, hhi, hlo, hle⟩, htx⟩ := fieldAt_spec hF
  have hm (w : Nat) : maskedField w (v * 2 ^ F.lo) (maskOf F.hi F.lo) f = v := by
    rw [← hhi, ← hlo] at hv hle ⊢
    exact maskedField_of_field hle hv w
  unfold State.storeField
  dsimp only
  rw [if_neg (land_mask_ne_zero hF), ha]
  dsimp only
  unfold State.writeField
  dsimp only
  rw [hm, htx, Bool.false_and, if_neg Bool.false_ne_true, hhi, hlo]
  rfl

end Judged

end OneField

/-! ### What a store of one field makes of a calm state -/

/-- A field that no state refuses to a core, by its register (R9, R47, R325, R519, R541, R546), nor holds (R68, R96). -/
def everWritable (c k : Nat) (f : Field) : Bool :=
  !f.lk && !f.pr && decide (¬ (k = rMEM_TCTL ∧ f.hi = 17) ∧ ¬ (0xB100 ≤ k ∧ k < 0xB160 ∧ k % 16 = 5 ∧ f.hi = 17)
    ∧ ¬ (0xB800 ≤ k ∧ k < 0xB840 ∧ k % 16 = 0 ∧ f.hi = 7) ∧ ¬ (0xD100 ≤ k ∧ k < 0xD180 ∧ k % 16 = 0)
    ∧ ¬ (0xF810 ≤ k ∧ k < 0xF910 ∧ k % 16 = 0) ∧ ¬ (0xFC40 ≤ k ∧ k < 0xFCC0) ∧ ¬ (k = rBRC_CMD ∧ c ≠ 2))

theorem State.refusedField_of_writable {c k : Nat} {f : Field} (h : everWritable c k f = true) (s : State) :
    s.refusedField c k f = false := by
  simp only [everWritable, Bool.and_eq_true, Bool.not_eq_true', decide_eq_true_eq] at h
  obtain ⟨⟨hlk, hpr⟩, h1, h2, h3, h4, h5, h6, h7⟩ := h
  unfold State.refusedField
  rw [hlk, hpr, decide_eq_false h1, decide_eq_false h2, decide_eq_false h3, decide_eq_false h4, decide_eq_false h5, decide_eq_false h6,
    decide_eq_false h7]
  rfl

/-- A field that the ring engine never holds (R68, R96). -/
def neverHeld (k : Nat) (f : Field) : Bool :=
  decide ((0x3000 ≤ k ∧ k < 0x3400 → k % 16 = 1 ∧ 14 < f.hi) ∧ ¬ (0x3600 ≤ k ∧ k < 0x3640))

theorem State.heldField_of_never {k : Nat} {f : Field} (h : neverHeld k f = true) (s : State) (v : Nat) : s.heldField k f v = false := by
  obtain ⟨hring, hslot⟩ := of_decide_eq_true h
  unfold State.heldField
  split
  · next hk =>
    obtain ⟨h1, h14⟩ := hring hk
    rw [decide_eq_false (by omega), Bool.and_false]
  · rfl

/-- A value that a core may offer to a field of a running domain: no reserved encoding, never held. -/
def offeredAt (c : Nat) (F : FRef) (f : Field) (v : Nat) (d : Dom) : Bool :=
  fieldAt c F f && decide (badField F.addr f v = false ∧ v < 2 ^ (F.hi + 1 - F.lo) ∧ keyDom F.addr = d) && neverHeld F.addr f

theorem offeredAt_spec {c : Nat} {F : FRef} {f : Field} {v : Nat} {d : Dom} (h : offeredAt c F f v d = true) :
    fieldAt c F f = true ∧ (badField F.addr f v = false ∧ v < 2 ^ (F.hi + 1 - F.lo) ∧ keyDom F.addr = d) ∧ neverHeld F.addr f = true := by
  simpa only [offeredAt, Bool.and_eq_true, decide_eq_true_eq, and_assoc] using h

section Stored
variable {s : State} (hs : s.Calm) {c : CoreId} {F : FRef} {f : Field} {v : Nat} {d : Dom} (h : offeredAt c.num F f v d = true)
  (hd : s.domOn d = true)
include hs h hd

/-- A command that its register takes. -/
theorem State.Calm.ioField_command (ha : f.acc = .wo) (hr : s.refusedField c.num F.addr f = false) :
    s.ioField c F v = s.storeEff c F.addr (s.reg F.addr) (v * 2 ^ F.lo) (maskOf F.hi F.lo) := by
  obtain ⟨hF, ⟨hb, hv, rfl⟩, -⟩ := offeredAt_spec h
  obtain ⟨-, -, -, -, ⟨-, hhi, hlo, -⟩, -⟩ := fieldAt_spec hF
  have hx := (State.judgeStore_field hF s v).trans (State.storeField_command hF hv ha s _ _)
  unfold State.commandField at hx
  rw [hr, hs.netKept, hb, Bool.false_or, if_neg Bool.false_ne_true, if_neg Bool.false_ne_true, hhi, hlo, putBits_eq_add,
    Nat.mod_eq_of_lt hv] at hx
  rw [State.ioField_eq hF hd, hs.storeAs_eq _ _ _ _ _ hx, hs.applyStore_live, hs.setReg_reg]
  simp only [putBits, Nat.zero_mod, Nat.zero_div, Nat.zero_mul, Nat.zero_add, Nat.add_zero]

/-- A command that its register refuses sets WRREF. -/
theorem State.Calm.ioField_command_refused (ha : f.acc = .wo) (hr : s.refusedField c.num F.addr f = true) (hne : v ≠ 0) :
    s.ioField c F v = (s.raiseOn true (wrrefOf F.addr)).storeEff c F.addr (s.reg F.addr) 0 (maskOf F.hi F.lo) := by
  obtain ⟨hF, ⟨hb, hv, rfl⟩, -⟩ := offeredAt_spec h
  have hx := (State.judgeStore_field hF s v).trans (State.storeField_command hF hv ha s _ _)
  unfold State.commandField at hx
  rw [hr, hb, Bool.true_or, if_pos rfl, decide_eq_true hne] at hx
  rw [State.ioField_eq hF hd, hs.storeAs_eq _ _ _ _ _ hx]
  exact congrArg (fun t : State => t.storeEff c F.addr (s.reg F.addr) 0 (maskOf F.hi F.lo)) (hs.applyStore_refused F.addr)

/-- A value that its register takes. -/
theorem State.Calm.ioField_value (ha : f.acc = .rw) (hr : s.refusedField c.num F.addr f = false) :
    s.ioField c F v = (s.setFld F v).storeEff c F.addr (s.reg F.addr) 0 (maskOf F.hi F.lo) := by
  obtain ⟨hF, ⟨hb, hv, rfl⟩, hh⟩ := offeredAt_spec h
  have hx := (State.judgeStore_field hF s v).trans (State.storeField_value hF hv ha s _ _)
  rw [hr, hs.netKept, hb, Bool.false_or, if_neg Bool.false_ne_true, State.heldField_of_never hh, if_neg Bool.false_ne_true,
    if_neg Bool.false_ne_true] at hx
  rw [State.ioField_eq hF hd, hs.storeAs_eq _ _ _ _ _ hx, hs.applyStore_live]
  rfl

/-- A value that its register refuses sets WRREF. -/
theorem State.Calm.ioField_value_refused (ha : f.acc = .rw) (hr : s.refusedField c.num F.addr f = true) (hne : v ≠ s.fld F) :
    s.ioField c F v = (s.raiseOn true (wrrefOf F.addr)).storeEff c F.addr (s.reg F.addr) 0 (maskOf F.hi F.lo) := by
  obtain ⟨hF, ⟨hb, hv, rfl⟩, -⟩ := offeredAt_spec h
  have hx := (State.judgeStore_field hF s v).trans (State.storeField_value hF hv ha s _ _)
  have hd' : decide (v ≠ bitsOf (s.reg F.addr) F.hi F.lo) = true := decide_eq_true hne
  dsimp only at hx
  rw [hr, hb, Bool.true_or, if_pos rfl, hd'] at hx
  rw [State.ioField_eq hF hd, hs.storeAs_eq _ _ _ _ _ hx]
  exact congrArg (fun t : State => t.storeEff c F.addr (s.reg F.addr) 0 (maskOf F.hi F.lo)) (hs.applyStore_refused F.addr)

end Stored

/-- A value that every state with its domain running takes. -/
def takenAt (c : Nat) (F : FRef) (f : Field) (v : Nat) (d : Dom) : Bool := offeredAt c F f v d && everWritable c F.addr f

section Taken
variable {s : State} (hs : s.Calm) {c : CoreId} {F : FRef} {f : Field} {v : Nat} {d : Dom} (hd : s.domOn d = true)
include hs hd

/-- A command given. -/
theorem State.Calm.ioField_command_taken (h : takenAt c.num F f v d = true) (ha : f.acc = .wo) :
    s.ioField c F v = s.storeEff c F.addr (s.reg F.addr) (v * 2 ^ F.lo) (maskOf F.hi F.lo) := by
  obtain ⟨ho, hw⟩ := Bool.and_eq_true_iff.mp h
  exact hs.ioField_command ho hd ha (State.refusedField_of_writable hw s)

/-- A command of one bit given. -/
theorem State.Calm.ioField_bit_taken (h : takenAt c.num F f 1 d = true) (ha : f.acc = .wo) :
    s.ioField c F 1 = s.storeEff c F.addr (s.reg F.addr) (2 ^ F.lo) (maskOf F.hi F.lo) := by
  rw [hs.ioField_command_taken hd h ha, Nat.one_mul]

/-- A field written. -/
theorem State.Calm.ioField_value_taken (h : takenAt c.num F f v d = true) (ha : f.acc = .rw) :
    s.ioField c F v = (s.setFld F v).storeEff c F.addr (s.reg F.addr) 0 (maskOf F.hi F.lo) := by
  obtain ⟨ho, hw⟩ := Bool.and_eq_true_iff.mp h
  exact hs.ioField_value ho hd ha (State.refusedField_of_writable hw s)

end Taken

end Sys2Proof.Machine
end

section
/-! PROOFS. What a store of a command's register gives (R68, R80, R312, R320 to R329, R350 to R355, R370, R386, R399 to R408, R509, R521,
R529, R530, R546 to R549, R582 to R587): an equation per register. -/

namespace Sys2Proof.Machine

/-! ### Bits of a store -/

theorem bitAt_two_pow_self (i : Nat) : bitAt (2 ^ i) i = true := by
  rw [bitAt, Nat.div_self (Nat.two_pow_pos i)]
  rfl

theorem bitAt_zero (i : Nat) : bitAt 0 i = false := by
  rw [bitAt, Nat.zero_div]
  rfl

/-- A one-bit field is the bit of its register. -/
theorem State.bitAt_reg (s : State) {F : FRef} (h : F.hi = F.lo) : bitAt (s.reg F.addr) F.lo = s.on F := by
  have hlt := bitsOf_lt (s.reg F.addr) F.lo F.lo
  rw [Nat.add_sub_cancel_left, pow_one] at hlt
  rw [bitAt_eq_bitsOf, State.on, State.fld, h, decide_eq_decide]
  omega

/-! ### The block of a register -/

section Blocks
variable (s : State) (c : CoreId) (k old t mask : Nat)

theorem State.storeEff_icu (h : k % 65536 < 4096) : s.storeEff c k old t mask = s.icuEff k old t := if_pos h

theorem State.storeEff_rng (h : k / 4096 = 3) : s.storeEff c k old t mask = s.rngEff k old := by
  rw [State.storeEff, if_neg (by omega), h]
  rfl

theorem State.storeEff_inp (h : k / 4096 = 10) : s.storeEff c k old t mask = s.inpEff c k old t := by
  rw [State.storeEff, if_neg (by omega), h]
  rfl

theorem State.storeEff_net (h : k / 4096 = 11) : s.storeEff c k old t mask = s.netEff k old t mask := by
  rw [State.storeEff, if_neg (by omega), h]
  rfl

theorem State.storeEff_zsw (h : k / 4096 = 12) : s.storeEff c k old t mask =
    (s.when (decide (k = rZSW_AUDCTL) && bitAt t 17) censusStart).when (decide (k = rZSW_MCMD)) (fun s => s.macCommand (bitsOf t 17 15)) := by
  rw [State.storeEff, if_neg (by omega), h]
  rfl

theorem State.storeEff_eth (h : k / 4096 = 13) : s.storeEff c k old t mask = s.ethEff k t := by
  rw [State.storeEff, if_neg (by omega), h]
  rfl

theorem State.storeEff_flt (h : k / 4096 = 15) : s.storeEff c k old t mask = s.fltEff c k old t mask := by
  rw [State.storeEff, if_neg (by omega), h]
  rfl

end Blocks

/-! ### The effect of each register -/

section Registers
variable (s t : State) (c : CoreId) (old take mask : Nat)

/-- RNG_RCFG: EN changed. -/
theorem State.storeEff_RCFG (r : Fin 64) : t.storeEff c (rRNG_RCFG r) (s.reg (rRNG_RCFG r)) take mask =
    if t.on (RNG_RCFG_EN r) && !s.on (RNG_RCFG_EN r) then t.ringEnable r
    else if !t.on (RNG_RCFG_EN r) && s.on (RNG_RCFG_EN r) then t.ringDisable r else t := by
  have hk : rRNG_RCFG r = 0x3001 + 0x10 * r := rfl
  have hn : (rRNG_RCFG r - 0x3000) / 16 = r := by omega
  rw [State.storeEff_rng _ _ _ _ _ _ (by omega), State.rngEff, if_pos (by omega), hn, ← t.bitAt_reg (F := RNG_RCFG_EN r) rfl,
    ← s.bitAt_reg (F := RNG_RCFG_EN r) rfl]
  rfl

/-- INP_LHCMD: FORCE raised, and REL. -/
theorem State.storeEff_LHCMD : t.storeEff c rINP_LHCMD (s.reg rINP_LHCMD) take mask =
    (t.when (t.on INP_LHCMD_FORCE && !s.on INP_LHCMD_FORCE) (fun s => s.limpEngage s.limpCauses)).when (bitAt take 0)
      (fun s => s.limpRelease c.num) := by
  rw [State.storeEff_inp _ _ _ _ _ _ (by decide), State.inpEff, if_pos rfl, ← t.bitAt_reg (F := INP_LHCMD_FORCE) rfl,
    ← s.bitAt_reg (F := INP_LHCMD_FORCE) rfl]
  rfl

/-- NET_CTC: REQ changed, and RECOV. -/
theorem State.storeEff_CTC (n : Fin 6) : t.storeEff c (rNET_CTC n) (s.reg (rNET_CTC n)) take mask =
    (t.when (decide (t.fld (NET_CTC_REQ n) ≠ s.fld (NET_CTC_REQ n))) (fun s => s.tcvrRequest n)).when (bitAt take 7)
      (fun s => s.canRecover n) := by
  have hk : rNET_CTC n = 0xB105 + 0x10 * n := rfl
  have hn : (rNET_CTC n - 0xB100) / 16 = n := by omega
  rw [State.storeEff_net _ _ _ _ _ _ (by omega), State.netEff, if_pos (by omega), hn]
  rfl

/-- NET_LCFG: REQ changed. -/
theorem State.storeEff_LCFG (l : Fin 4) : t.storeEff c (rNET_LCFG l) (s.reg (rNET_LCFG l)) take mask =
    t.when (decide (t.fld (NET_LCFG_REQ l) ≠ s.fld (NET_LCFG_REQ l))) (fun s => s.tcvrRequest (8 + l)) := by
  have hk : rNET_LCFG l = 0xB800 + 0x10 * l := rfl
  have hn : (rNET_LCFG l - 0xB800) / 16 = l := by omega
  rw [State.storeEff_net _ _ _ _ _ _ (by omega), State.netEff, if_neg (by omega), if_pos (by omega), hn]
  rfl

/-- NET_WKSTAT: UNDEAF. -/
theorem State.storeEff_WKSTAT (w : Fin 10) : t.storeEff c (rNET_WKSTAT w) old take mask =
    t.when (bitAt take 16) (fun s => s.undeafen w) := by
  have hk : rNET_WKSTAT w = 0xBB01 + 0x10 * w := rfl
  have hn : (rNET_WKSTAT w - 0xBB00) / 16 = w := by omega
  rw [State.storeEff_net _ _ _ _ _ _ (by omega), State.netEff, if_neg (by omega), if_neg (by omega), if_pos (by omega), hn]

/-- NET_HCTL: JOIN, and CONS written 0. -/
theorem State.storeEff_HCTL : t.storeEff c rNET_HCTL old take mask =
    (t.when (bitAt take 16) State.herdJoin).when (bitAt mask 17 && !t.on NET_HCTL_CONS) State.herdWithdraw := by
  rw [State.storeEff_net _ _ _ _ _ _ (by decide), State.netEff, if_neg (by decide), if_neg (by decide), if_neg (by decide),
    if_neg (by decide), if_pos rfl, ← t.bitAt_reg (F := NET_HCTL_CONS) rfl]
  rfl

/-- ZSW_MCMD: CMD. -/
theorem State.storeEff_MCMD : t.storeEff c rZSW_MCMD old take mask = t.macCommand (bitsOf take 17 15) := by
  rw [State.storeEff_zsw _ _ _ _ _ _ (by decide), decide_eq_false (by decide), Bool.false_and, State.when_false, decide_eq_true rfl,
    State.when_true]

/-- ZSW_AUDCTL: START. -/
theorem State.storeEff_AUDCTL : t.storeEff c rZSW_AUDCTL old take mask = t.when (bitAt take 17) censusStart := by
  rw [State.storeEff_zsw _ _ _ _ _ _ (by decide), decide_eq_true rfl, Bool.true_and, decide_eq_false (by decide), State.when_false]

/-- ETH_TCTL: SLEEP and WAKE. -/
theorem State.storeEff_TCTL (p : Fin 6) : t.storeEff c (rETH_TCTL p) old take mask =
    (t.when (bitAt take 17) (fun s => s.tc10Sleep p)).when (bitAt take 16) (fun s => s.tc10Wake p) := by
  have hk : rETH_TCTL p = 0xD103 + 0x10 * p := rfl
  have hn : (rETH_TCTL p - 0xD100) / 16 = p := by omega
  rw [State.storeEff_eth _ _ _ _ _ _ (by omega), State.ethEff, if_neg (by omega), if_pos (by omega), hn]

/-- ETH_ASCTL: SET. -/
theorem State.storeEff_ASCTL : t.storeEff c rETH_ASCTL old take mask = t.when (bitAt take 13) State.zoneTimeSet := by
  rw [State.storeEff_eth _ _ _ _ _ _ (by decide), State.ethEff, if_neg (by decide), if_neg (by decide), decide_eq_true rfl, Bool.true_and]

/-- FLT_IMCMD: CLOSE and CONFINACT. -/
theorem State.storeEff_IMCMD : t.storeEff c rFLT_IMCMD old take mask =
    (t.when (bitAt take 17) (imgCmd State.imCancel)).when (bitAt take 16) (imgCmd State.confInact) := by
  rw [State.storeEff_flt _ _ _ _ _ _ (by decide)]
  unfold State.fltEff
  rw [if_neg (by decide), if_neg (by decide)]
  rfl

/-- FLT_IMCONF: REQ changed. -/
theorem State.storeEff_IMCONF : t.storeEff c rFLT_IMCONF (s.reg rFLT_IMCONF) take mask =
    if t.on FLT_IMCONF_REQ = s.on FLT_IMCONF_REQ then t else t.confirmReq (t.on FLT_IMCONF_REQ) := by
  rw [State.storeEff_flt _ _ _ _ _ _ (by decide)]
  unfold State.fltEff
  rw [if_neg (by decide), if_neg (by decide), ← t.bitAt_reg (F := FLT_IMCONF_REQ) rfl, ← s.bitAt_reg (F := FLT_IMCONF_REQ) rfl]
  rfl

/-- BRC_CMD: YIELD, HANDBACK, QUIET and WAKE. -/
theorem State.storeEff_BRC_CMD : t.storeEff c rBRC_CMD old take mask =
    (((t.when (bitAt take 17) (fun s => s.brYield 3)).when (bitAt take 16) State.brHandbackOut).when (bitAt take 15) State.brQuietOut).when
      (bitAt take 14) State.brWake := by
  rw [State.storeEff_flt _ _ _ _ _ _ (by decide)]
  unfold State.fltEff
  rw [if_neg (by decide), if_pos (by decide)]
  rfl

/-- ICU_SWI: SET. -/
theorem State.storeEff_SWI : t.storeEff c (rICU_SWI 2) old take mask =
    t.setFld (ICU_SWI_PEND 2) (Nat.lor (t.fld (ICU_SWI_PEND 2)) (bitsOf take 7 4)) := State.storeEff_icu _ _ _ _ _ _ (by decide)

/-- ICU_ACTL: HOLD changed. -/
theorem State.storeEff_ACTL (a : Fin 2) : t.storeEff c (rICU_ACTL a) (s.reg (rICU_ACTL a)) take mask =
    if t.on (ICU_ACTL_HOLD a) = s.on (ICU_ACTL_HOLD a) then t else t.coreHold a (t.on (ICU_ACTL_HOLD a)) := by
  rw [State.storeEff_icu _ _ _ _ _ _ (by revert a; decide), ← t.bitAt_reg (F := ICU_ACTL_HOLD a) rfl,
    ← s.bitAt_reg (F := ICU_ACTL_HOLD a) rfl]
  fin_cases a <;> rfl

/-- ICU_LSCTL: TEST. -/
theorem State.storeEff_LSCTL : t.storeEff c rICU_LSCTL old take mask = t.when (bitAt take 17) State.lockstepTest :=
  State.storeEff_icu _ _ _ _ _ _ (by decide)

/-- ICU_LBCTL: START and CANCEL. -/
theorem State.storeEff_LBCTL : t.storeEff c rICU_LBCTL old take mask =
    (t.when (bitAt take 17) (lbistStart (t.fld ICU_LBCTL_TGT))).when (bitAt take 16) (lbistCancel (t.fld ICU_LBCTL_TGT)) :=
  State.storeEff_icu _ _ _ _ _ _ (by decide)

end Registers

end Sys2Proof.Machine
end

section
/-! PROOFS. The statement on the commands that are stores of one field of a register. -/

namespace Sys2Proof.Machine

/-! ### One-bit fields -/

theorem State.fld_eq_b2n_on (s : State) {F : FRef} (h : F.hi = F.lo) : s.fld F = b2n (s.on F) := by
  have hlt : s.fld F < 2 := by
    have hb := bitsOf_lt (s.reg F.addr) F.lo F.lo
    rwa [Nat.add_sub_cancel_left, pow_one, show bitsOf (s.reg F.addr) F.lo F.lo = s.fld F by rw [State.fld, h]] at hb
  rw [State.on, b2n]
  split
  · next hn => have := of_decide_eq_true hn; omega
  · next hn => simpa using hn

theorem State.on_setFld_self (s : State) {F : FRef} (hF : F.Good) (h : F.hi = F.lo) (b : Bool) : (s.setFld F (b2n b)).on F = b := by
  rw [State.on, s.fld_setFld_self F _ hF, h, Nat.add_sub_cancel_left, pow_one]
  cases b <;> rfl

theorem State.Calm.setFld_on {s : State} (hs : s.Calm) {F : FRef} (h : F.hi = F.lo) {b : Bool} (hb : s.on F = b) :
    s.setFld F (b2n b) = s :=
  hs.setFld_fld (le_of_eq h.symm) (by rw [s.fld_eq_b2n_on h, hb])

theorem State.raiseOn_true {s : State} {f : FRef} (h : s.domOn (keyDom f.addr) = true) : s.raiseOn true f = s.raise f := by
  rw [State.raiseOn, h]
  rfl

/-! ### The command fields, in the register map -/

/-- The request of a LIN transceiver. -/
def linReq : Field := ⟨7, 6, .rw, false, false, false, 3, [(0, 1), (3, 3)]⟩

/-- The command of the MAC table. -/
def macCmd : Field := ⟨17, 15, .wo, false, false, false, 0, [(0, 5)]⟩

/-- CONFINACT, which a presence window admits. -/
def confinactField : Field := ⟨16, 16, .wo, false, false, true, 0, []⟩

/-- The four pairing commands, by their bits. -/
def brcCommand (i : Fin 4) : FRef := ⟨rBRC_CMD, 14 + i, 14 + i⟩

/-- The fields that the commands of a core store: where they stand, and that they take what is stored. -/
structure CommandFields (c : CoreId) : Prop where
  enable (r : Fin 64) (b : Bool) : takenAt c.num (RNG_RCFG_EN r) (Field.plain 17 17 0) (b2n b) .fabric = true
  force : takenAt c.num INP_LHCMD_FORCE (Field.plain 1 1 0) 1 .act = true
  release : takenAt c.num INP_LHCMD_REL (Field.wof 0 0 0) 1 .act = true
  recover (n : Fin 6) : takenAt c.num (NET_CTC_RECOV n) (Field.wof 7 7 0) 1 .net = true
  canRequest (n : Fin 6) (v : BitVec 2) : offeredAt c.num (NET_CTC_REQ n) (Field.plain 17 16 2) v.toNat .net = true
  linRequest (l : Fin 4) (v : BitVec 2) : v.toNat ≠ 2 → offeredAt c.num (NET_LCFG_REQ l) linReq v.toNat .net = true
  undeaf (w : Fin 10) : takenAt c.num (NET_WKSTAT_UNDEAF w) (Field.wof 16 16 0) 1 .fawn = true
  join : takenAt c.num NET_HCTL_JOIN (Field.wof 16 16 0) 1 .net = true
  consent : takenAt c.num NET_HCTL_CONS (Field.plain 17 17 0) 0 .net = true
  mac (v : Fin 6) : takenAt c.num ZSW_MCMD_CMD macCmd v .zsw = true
  census : takenAt c.num ZSW_AUDCTL_START (Field.wof 17 17 0) 1 .zsw = true
  sleep (p : Fin 6) : takenAt c.num (ETH_TCTL_SLEEP p) (Field.wof 17 17 0) 1 .fawn = true
  wake (p : Fin 6) : takenAt c.num (ETH_TCTL_WAKE p) (Field.wof 16 16 0) 1 .fawn = true
  setTime : takenAt c.num ETH_ASCTL_SET (Field.wof 13 13 0) 1 .zsw = true
  close : takenAt c.num FLT_IMCMD_CLOSE (Field.wof 17 17 0) 1 .fabric = true
  confinact : offeredAt c.num FLT_IMCMD_CONFINACT confinactField 1 .fabric = true
  confirm (b : Bool) : takenAt c.num FLT_IMCONF_REQ (Field.plain 17 17 0) (b2n b) .fawn = true
  brace (i : Fin 4) : offeredAt c.num (brcCommand i) (Field.wof (14 + i) (14 + i) 0) 1 .fabric = true
  software (x : BitVec 4) : takenAt c.num (ICU_SWI_SET 2) (Field.wof 7 4 0) x.toNat .coreS = true

theorem commandFields (c : CoreId) : CommandFields c where
  enable := by cases c <;> decide +kernel
  force := by cases c <;> decide +kernel
  release := by cases c <;> decide +kernel
  recover := by cases c <;> decide +kernel
  canRequest := by cases c <;> decide +kernel
  linRequest := by cases c <;> decide +kernel
  undeaf := by cases c <;> decide +kernel
  join := by cases c <;> decide +kernel
  consent := by cases c <;> decide +kernel
  mac := by cases c <;> decide +kernel
  census := by cases c <;> decide +kernel
  sleep := by cases c <;> decide +kernel
  wake := by cases c <;> decide +kernel
  setTime := by cases c <;> decide +kernel
  close := by cases c <;> decide +kernel
  confinact := by cases c <;> decide +kernel
  confirm := by cases c <;> decide +kernel
  brace := by cases c <;> decide +kernel
  software := by cases c <;> decide +kernel

/-- The fields of CORE-S's own registers: HOLD of A0 and A1, and the lockstep test. -/
theorem safetyFields : (∀ (a : Fin 2) (b : Bool), takenAt 2 (ICU_ACTL_HOLD a) (Field.plain 17 17 1) (b2n b) .fawn = true)
    ∧ takenAt 2 ICU_LSCTL_TEST (Field.wof 17 17 0) 1 .coreS = true := by decide +kernel

/-- The domains of the two WRREF flags that a refused command raises. -/
theorem keyDom_wrref : keyDom FLT_GFLAG_WRREF.addr = .fabric ∧ keyDom NET_FLAG_WRREF.addr = .net := by decide +kernel

/-! ### Commands of one bit -/

section Bits
variable {s : State} (hs : s.Calm) (c : CoreId)
include hs

theorem State.Calm.limpRelease_eq (hd : s.domOn .act = true) : s.ioField c INP_LHCMD_REL 1 = s.limpRelease c.num := by
  refine ((hs.ioField_bit_taken hd ((commandFields c).release) rfl).trans (s.storeEff_LHCMD s c _ _)).trans ?_
  rw [Bool.and_not_self, State.when_false, show bitAt (2 ^ INP_LHCMD_REL.lo) 0 = true from bitAt_two_pow_self 0, State.when_true]

theorem State.Calm.canRecover_eq (hd : s.domOn .net = true) (n : Fin 6) : s.ioField c (NET_CTC_RECOV n) 1 = s.canRecover n := by
  refine ((hs.ioField_bit_taken hd ((commandFields c).recover n) rfl).trans (s.storeEff_CTC s c _ _ n)).trans ?_
  rw [decide_eq_false (not_not_intro rfl), State.when_false,
    show bitAt (2 ^ (NET_CTC_RECOV n).lo) 7 = true from bitAt_two_pow_self 7, State.when_true]

theorem State.Calm.undeafen_eq (hd : s.domOn .fawn = true) (w : Fin 10) : s.ioField c (NET_WKSTAT_UNDEAF w) 1 = s.undeafen w := by
  refine ((hs.ioField_bit_taken hd ((commandFields c).undeaf w) rfl).trans (s.storeEff_WKSTAT c _ _ _ w)).trans ?_
  rw [show bitAt (2 ^ (NET_WKSTAT_UNDEAF w).lo) 16 = true from bitAt_two_pow_self 16, State.when_true]

theorem State.Calm.herdJoin_eq (hd : s.domOn .net = true) : s.ioField c NET_HCTL_JOIN 1 = s.herdJoin := by
  refine ((hs.ioField_bit_taken hd ((commandFields c).join) rfl).trans (s.storeEff_HCTL c _ _ _)).trans ?_
  rw [show bitAt (2 ^ NET_HCTL_JOIN.lo) 16 = true from bitAt_two_pow_self 16, State.when_true,
    show bitAt (maskOf NET_HCTL_JOIN.hi NET_HCTL_JOIN.lo) 17 = false from rfl, Bool.false_and, State.when_false]

theorem State.Calm.censusStart_eq (hd : s.domOn .zsw = true) : s.ioField c ZSW_AUDCTL_START 1 = censusStart s := by
  refine ((hs.ioField_bit_taken hd ((commandFields c).census) rfl).trans (s.storeEff_AUDCTL c _ _ _)).trans ?_
  rw [show bitAt (2 ^ ZSW_AUDCTL_START.lo) 17 = true from bitAt_two_pow_self 17, State.when_true]

theorem State.Calm.tc10Sleep_eq (hd : s.domOn .fawn = true) (p : Fin 6) : s.ioField c (ETH_TCTL_SLEEP p) 1 = s.tc10Sleep p := by
  refine ((hs.ioField_bit_taken hd ((commandFields c).sleep p) rfl).trans (s.storeEff_TCTL c _ _ _ p)).trans ?_
  rw [show bitAt (2 ^ (ETH_TCTL_SLEEP p).lo) 17 = true from bitAt_two_pow_self 17,
    show bitAt (2 ^ (ETH_TCTL_SLEEP p).lo) 16 = false from (by decide : bitAt (2 ^ 17) 16 = false), State.when_true, State.when_false]

theorem State.Calm.tc10Wake_eq (hd : s.domOn .fawn = true) (p : Fin 6) : s.ioField c (ETH_TCTL_WAKE p) 1 = s.tc10Wake p := by
  refine ((hs.ioField_bit_taken hd ((commandFields c).wake p) rfl).trans (s.storeEff_TCTL c _ _ _ p)).trans ?_
  rw [show bitAt (2 ^ (ETH_TCTL_WAKE p).lo) 16 = true from bitAt_two_pow_self 16,
    show bitAt (2 ^ (ETH_TCTL_WAKE p).lo) 17 = false from (by decide : bitAt (2 ^ 16) 17 = false), State.when_true, State.when_false]

theorem State.Calm.zoneTimeSet_eq (hd : s.domOn .zsw = true) : s.ioField c ETH_ASCTL_SET 1 = s.zoneTimeSet := by
  refine ((hs.ioField_bit_taken hd ((commandFields c).setTime) rfl).trans (s.storeEff_ASCTL c _ _ _)).trans ?_
  rw [show bitAt (2 ^ ETH_ASCTL_SET.lo) 13 = true from bitAt_two_pow_self 13, State.when_true]

theorem State.Calm.imClose_eq (hd : s.domOn .fabric = true) : s.ioField c FLT_IMCMD_CLOSE 1 = imgCmd State.imCancel s := by
  refine ((hs.ioField_bit_taken hd ((commandFields c).close) rfl).trans (s.storeEff_IMCMD c _ _ _)).trans ?_
  rw [show bitAt (2 ^ FLT_IMCMD_CLOSE.lo) 17 = true from bitAt_two_pow_self 17,
    show bitAt (2 ^ FLT_IMCMD_CLOSE.lo) 16 = false from rfl, State.when_true, State.when_false]

theorem State.Calm.lockstepTest_eq (hd : s.domOn .coreS = true) : s.ioField .s ICU_LSCTL_TEST 1 = s.lockstepTest := by
  refine ((hs.ioField_bit_taken (c := .s) hd safetyFields.2 rfl).trans (s.storeEff_LSCTL .s _ _ _)).trans ?_
  rw [show bitAt (2 ^ ICU_LSCTL_TEST.lo) 17 = true from bitAt_two_pow_self 17, State.when_true]

end Bits

/-! ### Values -/

section Values
variable {s : State} (hs : s.Calm) (c : CoreId)
include hs

/-- EN written: a change of it enables or disables the ring. -/
theorem State.Calm.ioField_EN (hd : s.domOn .fabric = true) (r : Fin 64) (b : Bool) : s.ioField c (RNG_RCFG_EN r) (b2n b) =
    if b && !s.on (RNG_RCFG_EN r) then (s.setFld (RNG_RCFG_EN r) (b2n b)).ringEnable r
    else if !b && s.on (RNG_RCFG_EN r) then (s.setFld (RNG_RCFG_EN r) (b2n b)).ringDisable r else s.setFld (RNG_RCFG_EN r) (b2n b) := by
  refine ((hs.ioField_value_taken hd ((commandFields c).enable r b) rfl).trans (s.storeEff_RCFG _ c _ _ r)).trans ?_
  rw [State.on_setFld_self s ⟨le_rfl, show (17 : Nat) < 18 by decide⟩ rfl]

/-- FORCE written 1. -/
theorem State.Calm.ioField_FORCE (hd : s.domOn .act = true) (hf : s.on INP_LHCMD_FORCE = false) {u : State}
    (hu : s.setFld INP_LHCMD_FORCE 1 = u) : s.ioField c INP_LHCMD_FORCE 1 = u.limpEngage u.limpCauses := by
  subst hu
  refine ((hs.ioField_value_taken hd ((commandFields c).force) rfl).trans (s.storeEff_LHCMD _ c _ _)).trans ?_
  rw [show (s.setFld INP_LHCMD_FORCE 1).on INP_LHCMD_FORCE = true from State.on_setFld_self s ⟨le_rfl, by decide⟩ rfl true, hf,
    bitAt_zero, Bool.not_false, Bool.and_self, State.when_true, State.when_false]

/-- CONS written 0. -/
theorem State.Calm.ioField_CONS (hd : s.domOn .net = true) : s.ioField c NET_HCTL_CONS 0 = (s.setFld NET_HCTL_CONS 0).herdWithdraw := by
  refine ((hs.ioField_value_taken hd ((commandFields c).consent) rfl).trans (State.storeEff_HCTL _ c _ _ _)).trans ?_
  rw [show (s.setFld NET_HCTL_CONS 0).on NET_HCTL_CONS = false from State.on_setFld_self s ⟨le_rfl, by decide⟩ rfl false,
    show bitAt (maskOf NET_HCTL_CONS.hi NET_HCTL_CONS.lo) 17 = true from rfl, bitAt_zero, Bool.not_false, Bool.and_self, State.when_true,
    State.when_false]

/-- A command of the MAC table. -/
theorem State.Calm.ioField_CMD (hd : s.domOn .zsw = true) (v : Fin 6) : s.ioField c ZSW_MCMD_CMD v = s.macCommand v := by
  refine ((hs.ioField_command_taken hd ((commandFields c).mac v) rfl).trans (s.storeEff_MCMD c _ _ _)).trans (congrArg s.macCommand ?_)
  exact bitsOf_mul_two_pow (v.isLt.trans (by decide))

/-- REQ of the confirmation written. -/
theorem State.Calm.ioField_CONF_REQ (hd : s.domOn .fawn = true) (b : Bool) : s.ioField c FLT_IMCONF_REQ (b2n b) =
    if b = s.on FLT_IMCONF_REQ then s.setFld FLT_IMCONF_REQ (b2n b) else (s.setFld FLT_IMCONF_REQ (b2n b)).confirmReq b := by
  refine ((hs.ioField_value_taken hd ((commandFields c).confirm b) rfl).trans (s.storeEff_IMCONF _ c _ _)).trans ?_
  rw [State.on_setFld_self s ⟨le_rfl, by decide⟩ rfl]

/-- A software source raised. -/
theorem State.Calm.ioField_SWI (hd : s.domOn .coreS = true) (x : BitVec 4) : s.ioField c (ICU_SWI_SET 2) x.toNat =
    s.setFld (ICU_SWI_PEND 2) (Nat.lor (s.fld (ICU_SWI_PEND 2)) x.toNat) := by
  refine ((hs.ioField_command_taken hd ((commandFields c).software x) rfl).trans (s.storeEff_SWI c _ _ _)).trans ?_
  rw [show bitsOf (x.toNat * 2 ^ (ICU_SWI_SET 2).lo) 7 4 = x.toNat from bitsOf_mul_two_pow x.isLt]

/-- HOLD of A0 or A1 written by S. -/
theorem State.Calm.ioField_HOLD (hd : s.domOn .fawn = true) (a : Fin 2) (b : Bool) : s.ioField .s (ICU_ACTL_HOLD a) (b2n b) =
    if b = s.on (ICU_ACTL_HOLD a) then s.setFld (ICU_ACTL_HOLD a) (b2n b) else (s.setFld (ICU_ACTL_HOLD a) (b2n b)).coreHold a b := by
  refine ((hs.ioField_value_taken (c := .s) hd (safetyFields.1 a b) rfl).trans (s.storeEff_ACTL _ .s _ _ a)).trans ?_
  rw [State.on_setFld_self s ⟨le_rfl, show (17 : Nat) < 18 by decide⟩ rfl]

end Values

/-! ### Fields that a state may refuse -/

/-- The request of a CAN transceiver is refused while it is fenced (R325). -/
theorem State.refusedField_of_can {k : Nat} {f : Field} (hk : 0xB100 ≤ k ∧ k < 0xB160 ∧ k % 16 = 5 ∧ f.hi = 17) (hlk : f.lk = false)
    (hpr : f.pr = false) (s : State) (c : Nat) : s.refusedField c k f = s.chFenced ((k - 0xB100) / 16) := by
  obtain ⟨hlo, hhi, -, -⟩ := id hk
  have h1 : ¬ (k = rMEM_TCTL ∧ f.hi = 17) := by simp only [rMEM_TCTL]; omega
  have h2 : ¬ (0xB800 ≤ k ∧ k < 0xB840 ∧ k % 16 = 0 ∧ f.hi = 7) := by omega
  have h3 : ¬ (0xD100 ≤ k ∧ k < 0xD180 ∧ k % 16 = 0) := by omega
  have h4 : ¬ (0xF810 ≤ k ∧ k < 0xF910 ∧ k % 16 = 0) := by omega
  have h5 : ¬ (0xFC40 ≤ k ∧ k < 0xFCC0) := by omega
  have h6 : ¬ (k = rBRC_CMD ∧ c ≠ 2) := by simp only [rBRC_CMD]; omega
  unfold State.refusedField
  rw [hlk, hpr, decide_eq_false h1, decide_eq_true hk, decide_eq_false h2, decide_eq_false h3, decide_eq_false h4, decide_eq_false h5,
    decide_eq_false h6]
  simp only [Bool.false_and, Bool.false_or, Bool.or_false, Bool.true_and]

/-- The request of a LIN transceiver is refused while it is fenced (R325). -/
theorem State.refusedField_of_lin {k : Nat} {f : Field} (hk : 0xB800 ≤ k ∧ k < 0xB840 ∧ k % 16 = 0 ∧ f.hi = 7) (hlk : f.lk = false)
    (hpr : f.pr = false) (s : State) (c : Nat) : s.refusedField c k f = s.chFenced (8 + (k - 0xB800) / 16) := by
  obtain ⟨hlo, hhi, -, -⟩ := id hk
  have h1 : ¬ (k = rMEM_TCTL ∧ f.hi = 17) := by simp only [rMEM_TCTL]; omega
  have h2 : ¬ (0xB100 ≤ k ∧ k < 0xB160 ∧ k % 16 = 5 ∧ f.hi = 17) := by omega
  have h3 : ¬ (0xD100 ≤ k ∧ k < 0xD180 ∧ k % 16 = 0) := by omega
  have h4 : ¬ (0xF810 ≤ k ∧ k < 0xF910 ∧ k % 16 = 0) := by omega
  have h5 : ¬ (0xFC40 ≤ k ∧ k < 0xFCC0) := by omega
  have h6 : ¬ (k = rBRC_CMD ∧ c ≠ 2) := by simp only [rBRC_CMD]; omega
  unfold State.refusedField
  rw [hlk, hpr, decide_eq_false h1, decide_eq_false h2, decide_eq_true hk, decide_eq_false h3, decide_eq_false h4, decide_eq_false h5,
    decide_eq_false h6]
  simp only [Bool.false_and, Bool.false_or, Bool.or_false, Bool.true_and]

theorem State.refusedField_CTC_REQ (s : State) (c : Nat) (n : Fin 6) :
    s.refusedField c (NET_CTC_REQ n).addr (Field.plain 17 16 2) = s.chFenced n := by
  have hk : (NET_CTC_REQ n).addr = 0xB105 + 0x10 * n := rfl
  have hn : ((NET_CTC_REQ n).addr - 0xB100) / 16 = n := by omega
  rw [State.refusedField_of_can ⟨by omega, by omega, by omega, rfl⟩ rfl rfl, hn]

theorem State.refusedField_LCFG_REQ (s : State) (c : Nat) (l : Fin 4) : s.refusedField c (NET_LCFG_REQ l).addr linReq = s.chFenced (8 + l) := by
  have hk : (NET_LCFG_REQ l).addr = 0xB800 + 0x10 * l := rfl
  have hn : ((NET_LCFG_REQ l).addr - 0xB800) / 16 = l := by omega
  rw [State.refusedField_of_lin ⟨by omega, by omega, by omega, rfl⟩ rfl rfl, hn]

theorem State.refusedField_CONFINACT (s : State) (c : Nat) :
    s.refusedField c FLT_IMCMD_CONFINACT.addr confinactField = s.acc.pres.isNone := by
  unfold State.refusedField
  simp [confinactField, FLT_IMCMD_CONFINACT, rFLT_IMCMD, rMEM_TCTL, rBRC_CMD]

/-- A pairing command is refused to the other cores (R546). -/
theorem State.refusedField_of_brc {k : Nat} {f : Field} (hk : k = rBRC_CMD) (hlk : f.lk = false) (hpr : f.pr = false) (s : State) (c : Nat) :
    s.refusedField c k f = decide (c ≠ 2) := by
  have hk' : k = 0xF802 := hk
  have h1 : ¬ (k = rMEM_TCTL ∧ f.hi = 17) := by simp only [rMEM_TCTL]; omega
  have h2 : ¬ (0xB100 ≤ k ∧ k < 0xB160 ∧ k % 16 = 5 ∧ f.hi = 17) := by omega
  have h3 : ¬ (0xB800 ≤ k ∧ k < 0xB840 ∧ k % 16 = 0 ∧ f.hi = 7) := by omega
  have h4 : ¬ (0xD100 ≤ k ∧ k < 0xD180 ∧ k % 16 = 0) := by omega
  have h5 : ¬ (0xF810 ≤ k ∧ k < 0xF910 ∧ k % 16 = 0) := by omega
  have h6 : ¬ (0xFC40 ≤ k ∧ k < 0xFCC0) := by omega
  have h7 : decide (k = rBRC_CMD ∧ c ≠ 2) = decide (c ≠ 2) := decide_eq_decide.mpr (and_iff_right hk)
  unfold State.refusedField
  rw [hlk, hpr, decide_eq_false h1, decide_eq_false h2, decide_eq_false h3, decide_eq_false h4, decide_eq_false h5, decide_eq_false h6, h7]
  simp only [Bool.false_and, Bool.false_or]

theorem State.refusedField_brcCommand (s : State) (c : Nat) (i : Fin 4) :
    s.refusedField c (brcCommand i).addr (Field.wof (14 + i) (14 + i) 0) = decide (c ≠ 2) := State.refusedField_of_brc rfl rfl rfl s c

theorem State.raiseOn_FLT_WRREF {s : State} (hd : s.domOn .fabric = true) : s.raiseOn true FLT_GFLAG_WRREF = s.raise FLT_GFLAG_WRREF :=
  State.raiseOn_true ((congrArg s.domOn keyDom_wrref.1).trans hd)

section Refusals
variable {s : State} (hs : s.Calm) (c : CoreId)
include hs

theorem State.Calm.ioField_CTC_REQ (hd : s.domOn .net = true) (n : Fin 6) (v : BitVec 2) (hf : s.chFenced n = false)
    (hv : v.toNat ≠ s.fld (NET_CTC_REQ n)) :
    s.ioField c (NET_CTC_REQ n) v.toNat = (s.setFld (NET_CTC_REQ n) v.toNat).tcvrRequest n := by
  have hfld : (s.setFld (NET_CTC_REQ n) v.toNat).fld (NET_CTC_REQ n) = v.toNat :=
    (s.fld_setFld_self _ _ ⟨show 16 ≤ 17 by decide, show 17 < 18 by decide⟩).trans (Nat.mod_eq_of_lt v.isLt)
  refine ((hs.ioField_value ((commandFields c).canRequest n v) hd rfl ((s.refusedField_CTC_REQ c.num n).trans hf)).trans
    (s.storeEff_CTC _ c _ _ n)).trans ?_
  rw [hfld, decide_eq_true hv, bitAt_zero, State.when_true, State.when_false]

theorem State.Calm.ioField_LCFG_REQ (hd : s.domOn .net = true) (l : Fin 4) (v : BitVec 2) (hf : s.chFenced (8 + l) = false)
    (h2 : v.toNat ≠ 2) (hv : v.toNat ≠ s.fld (NET_LCFG_REQ l)) :
    s.ioField c (NET_LCFG_REQ l) v.toNat = (s.setFld (NET_LCFG_REQ l) v.toNat).tcvrRequest (8 + l) := by
  have hfld : (s.setFld (NET_LCFG_REQ l) v.toNat).fld (NET_LCFG_REQ l) = v.toNat :=
    (s.fld_setFld_self _ _ ⟨show 6 ≤ 7 by decide, show 7 < 18 by decide⟩).trans (Nat.mod_eq_of_lt v.isLt)
  refine ((hs.ioField_value ((commandFields c).linRequest l v h2) hd rfl ((s.refusedField_LCFG_REQ c.num l).trans hf)).trans
    (s.storeEff_LCFG _ c _ _ l)).trans ?_
  rw [hfld, decide_eq_true hv, State.when_true]

/-- The request of a fenced transceiver (R325). -/
theorem State.Calm.ioField_CTC_REQ_fenced (hd : s.domOn .net = true) (n : Fin 6) (v : BitVec 2) (hf : s.chFenced n = true)
    (hv : v.toNat ≠ s.fld (NET_CTC_REQ n)) : s.ioField c (NET_CTC_REQ n) v.toNat = s.raise NET_FLAG_WRREF := by
  have hflag : wrrefOf (NET_CTC_REQ n).addr = NET_FLAG_WRREF := by
    clear hf hv
    revert n
    decide
  have hraise : s.raiseOn true (wrrefOf (NET_CTC_REQ n).addr) = s.raise NET_FLAG_WRREF := by
    rw [hflag]
    exact State.raiseOn_true ((congrArg s.domOn keyDom_wrref.2).trans hd)
  have hfld : (s.raise NET_FLAG_WRREF).fld (NET_CTC_REQ n) = s.fld (NET_CTC_REQ n) := by
    refine State.fld_setReg_of_ne _ _ _ _ ?_
    rw [show (NET_CTC_REQ n).addr = 0xB105 + 0x10 * n from rfl, show NET_FLAG_WRREF.addr = 0xB000 from rfl]
    omega
  rw [hs.ioField_value_refused ((commandFields c).canRequest n v) hd rfl ((s.refusedField_CTC_REQ c.num n).trans hf) hv, hraise]
  refine (s.storeEff_CTC _ c _ _ n).trans ?_
  rw [hfld, decide_eq_false (not_not_intro rfl), bitAt_zero, State.when_false, State.when_false]

/-- CONFINACT outside a presence window (R530). -/
theorem State.Calm.ioField_CONFINACT_refused (hd : s.domOn .fabric = true) (hp : s.acc.pres = none) :
    s.ioField c FLT_IMCMD_CONFINACT 1 = s.raise FLT_GFLAG_WRREF := by
  have hr : s.refusedField c.num FLT_IMCMD_CONFINACT.addr confinactField = true := by rw [s.refusedField_CONFINACT, hp]; rfl
  rw [hs.ioField_command_refused ((commandFields c).confinact) hd rfl hr one_ne_zero, show wrrefOf FLT_IMCMD_CONFINACT.addr = FLT_GFLAG_WRREF from rfl,
    State.raiseOn_FLT_WRREF hd]
  refine (State.storeEff_IMCMD _ c _ _ _).trans ?_
  rw [bitAt_zero, bitAt_zero, State.when_false, State.when_false]

theorem State.Calm.ioField_CONFINACT (hd : s.domOn .fabric = true) (hp : s.acc.pres ≠ none) :
    s.ioField c FLT_IMCMD_CONFINACT 1 = imgCmd State.confInact s := by
  have hr : s.refusedField c.num FLT_IMCMD_CONFINACT.addr confinactField = false := by
    rw [s.refusedField_CONFINACT]
    exact Option.isNone_eq_false_iff.mpr (Option.isSome_iff_ne_none.mpr hp)
  refine ((hs.ioField_command ((commandFields c).confinact) hd rfl hr).trans (State.storeEff_IMCMD _ c _ _ _)).trans ?_
  rw [show bitAt (1 * 2 ^ FLT_IMCMD_CONFINACT.lo) 17 = false from rfl, show bitAt (1 * 2 ^ FLT_IMCMD_CONFINACT.lo) 16 = true from rfl,
    State.when_false, State.when_true]

/-- A pairing command by another core (R546). -/
theorem State.Calm.ioField_brc_refused (hd : s.domOn .fabric = true) (hc : c ≠ .s) (i : Fin 4) :
    s.ioField c (brcCommand i) 1 = s.raise FLT_GFLAG_WRREF := by
  have hr : s.refusedField c.num (brcCommand i).addr (Field.wof (14 + i) (14 + i) 0) = true := by
    rw [s.refusedField_brcCommand]
    revert hc
    cases c <;> decide
  rw [hs.ioField_command_refused ((commandFields c).brace i) hd rfl hr one_ne_zero,
    show wrrefOf (brcCommand i).addr = FLT_GFLAG_WRREF from rfl, State.raiseOn_FLT_WRREF hd]
  refine (State.storeEff_BRC_CMD _ c _ _ _).trans ?_
  rw [bitAt_zero, bitAt_zero, bitAt_zero, bitAt_zero, State.when_false, State.when_false, State.when_false, State.when_false]

/-- A pairing command by S. -/
theorem State.Calm.ioField_brc (hd : s.domOn .fabric = true) (i : Fin 4) : s.ioField .s (brcCommand i) 1 =
    (((s.when (decide (i = 3)) (fun s => s.brYield 3)).when (decide (i = 2)) State.brHandbackOut).when (decide (i = 1))
      State.brQuietOut).when (decide (i = 0)) State.brWake := by
  have hbit : bitAt (1 * 2 ^ (brcCommand i).lo) 17 = decide (i = 3) ∧ bitAt (1 * 2 ^ (brcCommand i).lo) 16 = decide (i = 2)
      ∧ bitAt (1 * 2 ^ (brcCommand i).lo) 15 = decide (i = 1) ∧ bitAt (1 * 2 ^ (brcCommand i).lo) 14 = decide (i = 0) := by
    revert i
    decide
  obtain ⟨h17, h16, h15, h14⟩ := hbit
  refine ((hs.ioField_command (c := .s) ((commandFields .s).brace i) hd rfl (s.refusedField_brcCommand 2 i)).trans
    (State.storeEff_BRC_CMD _ .s _ _ _)).trans ?_
  rw [h17, h16, h15, h14]

end Refusals

/-! ### LBIST (R509) -/

/-- A store of the whole register gives each field its bits. -/
theorem maskedField_of_whole {w v : Nat} (hw : w < 2 ^ 18) (hv : v < 2 ^ 18) (f : Field) :
    maskedField w v (2 ^ 18 - 1) f = bitsOf v f.hi f.lo := by
  have hwhole (x : Nat) (hx : x < 2 ^ 18) : Nat.land x (2 ^ 18 - 1) = x := (Nat.and_two_pow_sub_one_eq_mod x 18).trans (Nat.mod_eq_of_lt hx)
  rw [maskedField, dropBits, hwhole w hw, hwhole v hv, Nat.sub_self]
  exact congrArg (fun x => bitsOf x f.hi f.lo) (Nat.zero_or v)

section Whole
variable {s : State} (hs : s.Calm) {c k v : Nat} {f : Field} (hm : Nat.land (2 ^ 18 - 1) (maskOf f.hi f.lo) = maskOf f.hi f.lo)
  (hne : maskOf f.hi f.lo ≠ 0) (hw : everWritable c k f = true) (hb : badField k f (bitsOf v f.hi f.lo) = false) (mine : Bool) (x : StoreW)
include hs hm hne hw hb

theorem State.Calm.storeField_command_whole (ha : f.acc = .wo) :
    s.storeField c k mine v (2 ^ 18 - 1) x f = { x with take := putBits x.take f.hi f.lo (bitsOf v f.hi f.lo) } := by
  unfold State.storeField State.commandField
  dsimp only
  rw [hm, if_neg hne, ha]
  dsimp only
  rw [land_maskOf, bitsOf_mul_two_pow (bitsOf_lt v f.hi f.lo), State.refusedField_of_writable hw, hs.netKept, hb, Bool.false_or,
    if_neg Bool.false_ne_true, if_neg Bool.false_ne_true]

theorem State.Calm.storeField_value_whole (ha : f.acc = .rw) (htx : f.tx = false) (hh : neverHeld k f = true) (hv : v < 2 ^ 18)
    (hx : x.live < 2 ^ 18) :
    s.storeField c k mine v (2 ^ 18 - 1) x f = { x with live := putBits x.live f.hi f.lo (bitsOf v f.hi f.lo) } := by
  unfold State.storeField State.writeField
  dsimp only
  rw [hm, if_neg hne, ha]
  dsimp only
  rw [htx, Bool.false_and, Bool.false_and, if_neg Bool.false_ne_true, if_neg Bool.false_ne_true, maskedField_of_whole hx hv,
    State.refusedField_of_writable hw, hs.netKept, hb, State.heldField_of_never hh, Bool.false_or, if_neg Bool.false_ne_true,
    if_neg Bool.false_ne_true, if_neg Bool.false_ne_true, if_neg Bool.false_ne_true]

end Whole

/-- ICU_LBCTL in the register map: its address for S, its domain, and its fields. -/
theorem lbctl_spec : busReg CoreId.s.num 0xF00 = some rICU_LBCTL ∧ keyDom rICU_LBCTL = .coreS
    ∧ reached rICU_LBCTL (2 ^ 18 - 1) = [Field.wof 17 17 0, Field.wof 16 16 0, Field.plain 15 14 0] := by decide +kernel

/-- A store of ICU_LBCTL: START, CANCEL and TGT. -/
theorem State.Calm.judgeStore_LBCTL {s : State} (hs : s.Calm) {v : Nat} (hv : v < 2 ^ 18) {take : Nat}
    (ht : putBits (putBits 0 17 17 (bitsOf v 17 17)) 16 16 (bitsOf v 16 16) = take) :
    s.judgeStore 2 rICU_LBCTL v (2 ^ 18 - 1) =
      { live := putBits (s.reg rICU_LBCTL) 15 14 (bitsOf v 15 14), shadow := (s.shadowOf rICU_LBCTL).toNat, take := take } := by
  subst ht
  obtain ⟨-, -, hreached⟩ := lbctl_spec
  rw [State.judgeStore_eq (by decide), hreached, List.foldl_cons, List.foldl_cons, List.foldl_cons, List.foldl_nil,
    hs.storeField_command_whole (f := Field.wof 17 17 0) (by decide) (by decide) (by decide) rfl _ _ rfl,
    hs.storeField_command_whole (f := Field.wof 16 16 0) (by decide) (by decide) (by decide) rfl _ _ rfl,
    hs.storeField_value_whole (f := Field.plain 15 14 0) (by decide) (by decide) (by decide) rfl _ _ rfl rfl (by decide) hv (s.reg_lt _)]
  rfl

/-- A store of ICU_LBCTL by S, with the value that it gives TGT. -/
theorem State.Calm.ioStoreM_LBCTL {s : State} (hs : s.Calm) (hd : s.domOn .coreS = true) {v : Nat} (hv : v < 2 ^ 18) {g : Nat}
    (hg : bitsOf v 15 14 = g) {take : Nat} (ht : putBits (putBits 0 17 17 (bitsOf v 17 17)) 16 16 (bitsOf v 16 16) = take) :
    s.ioStoreM .s 0xF00 v (2 ^ 18 - 1) =
      ((s.setFld ICU_LBCTL_TGT g).when (bitAt take 17) (lbistStart g)).when (bitAt take 16) (lbistCancel g) := by
  have hfld : (s.setFld ICU_LBCTL_TGT g).fld ICU_LBCTL_TGT = g := by
    rw [s.fld_setFld_self _ _ ⟨by decide, by decide⟩, ← hg]
    exact Nat.mod_eq_of_lt (bitsOf_lt v 15 14)
  obtain ⟨hbus, hkey, -⟩ := lbctl_spec
  have hdom : s.domOn (keyDom rICU_LBCTL) = true := (congrArg s.domOn hkey).trans hd
  rw [State.ioStoreM_eq hbus (by decide) (by decide) hdom,
    hs.storeAs_eq CoreId.s.num .s _ _ _ (hs.judgeStore_LBCTL hv ht), hs.applyStore_live, hg]
  refine (State.storeEff_LBCTL (s.setFld ICU_LBCTL_TGT g) .s _ _ _).trans ?_
  rw [hfld]

theorem State.Calm.lbistStart_eq {s : State} (hs : s.Calm) (hd : s.domOn .coreS = true) (t : Fin 2) :
    exec (.lbistStart .s (BitVec.ofNat 2 t)) s = .next (lbistStart t (s.setFld ICU_LBCTL_TGT t)) := by
  have hv : 2 ^ 17 + (BitVec.ofNat 2 t).toNat * 2 ^ 14 < 2 ^ 18 ∧ bitsOf (2 ^ 17 + (BitVec.ofNat 2 t).toNat * 2 ^ 14) 15 14 = t
      ∧ putBits (putBits 0 17 17 (bitsOf (2 ^ 17 + (BitVec.ofNat 2 t).toNat * 2 ^ 14) 17 17)) 16 16
        (bitsOf (2 ^ 17 + (BitVec.ofNat 2 t).toNat * 2 ^ 14) 16 16) = 2 ^ 17 := by
    revert t
    decide
  obtain ⟨hlt, hg, ht⟩ := hv
  refine congrArg Host.Outcome.next ((hs.ioStoreM_LBCTL hd hlt hg ht).trans ?_)
  rw [bitAt_two_pow_self, show bitAt (2 ^ 17) 16 = false by decide, State.when_true, State.when_false]

theorem State.Calm.lbistCancel_eq {s : State} (hs : s.Calm) (hd : s.domOn .coreS = true) (t : Fin 2) :
    exec (.lbistCancel .s (BitVec.ofNat 2 t)) s = .next (lbistCancel t (s.setFld ICU_LBCTL_TGT t)) := by
  have hv : 2 ^ 16 + (BitVec.ofNat 2 t).toNat * 2 ^ 14 < 2 ^ 18 ∧ bitsOf (2 ^ 16 + (BitVec.ofNat 2 t).toNat * 2 ^ 14) 15 14 = t
      ∧ putBits (putBits 0 17 17 (bitsOf (2 ^ 16 + (BitVec.ofNat 2 t).toNat * 2 ^ 14) 17 17)) 16 16
        (bitsOf (2 ^ 16 + (BitVec.ofNat 2 t).toNat * 2 ^ 14) 16 16) = 2 ^ 16 := by
    revert t
    decide
  obtain ⟨hlt, hg, ht⟩ := hv
  refine congrArg Host.Outcome.next ((hs.ioStoreM_LBCTL hd hlt hg ht).trans ?_)
  rw [bitAt_two_pow_self, show bitAt (2 ^ 16) 17 = false by decide, State.when_true, State.when_false]

/-! ### The control of A0 and A1 (R587) -/

theorem State.core_setFld (s : State) (F : FRef) (v n : Nat) : (s.setFld F v).core n = s.core n := (rfl)
theorem State.domOn_setFld (s : State) (F : FRef) (v : Nat) (d : Dom) : (s.setFld F v).domOn d = s.domOn d := (rfl)

section Hold
variable {s : State} {n : Nat} (hd : s.domOn .coreA = true)
include hd

theorem State.coreHold_of_release (h : (s.core n).run = .reset) : s.coreHold n false = s.coreStart n := by
  rw [State.coreHold, hd, if_neg (by decide), if_neg (by decide), if_pos h]

theorem State.coreHold_of_running (h : (s.core n).run = .running) : s.coreHold n true = s.setCore n { run := .reset } := by
  rw [State.coreHold, hd, if_neg (by decide), if_pos rfl, if_pos (.inl h)]

end Hold

/-! ### What pends does not turn on the word that the last load returned -/

section Rdata
variable (s : State) (w : Word)

theorem State.blkIrq_setRdata (b : Nat) : (s.setRdata w).blkIrq b = s.blkIrq b := (rfl)
theorem State.irqSys_setRdata (n : Nat) : (s.setRdata w).irqSys n = s.irqSys n := (rfl)
theorem State.irqThm_setRdata (k : Nat) : (s.setRdata w).irqThm k = s.irqThm k := (rfl)
theorem State.irqSeq_setRdata (k : Nat) : (s.setRdata w).irqSeq k = s.irqSeq k := (rfl)
theorem State.irqMot_setRdata (k : Nat) : (s.setRdata w).irqMot k = s.irqMot k := (rfl)
theorem State.irqVlv_setRdata (k : Nat) : (s.setRdata w).irqVlv k = s.irqVlv k := (rfl)
theorem State.irqLux_setRdata (k : Nat) : (s.setRdata w).irqLux k = s.irqLux k := (rfl)
theorem State.irqInp_setRdata (k : Nat) : (s.setRdata w).irqInp k = s.irqInp k := (rfl)
theorem State.irqNet_setRdata (k : Nat) : (s.setRdata w).irqNet k = s.irqNet k := (rfl)
theorem State.irqZsw_setRdata (k : Nat) : (s.setRdata w).irqZsw k = s.irqZsw k := (rfl)
theorem State.irqEth_setRdata (k : Nat) : (s.setRdata w).irqEth k = s.irqEth k := (rfl)
theorem State.irqTop_setRdata (n : Nat) : (s.setRdata w).irqTop n = s.irqTop n := (rfl)
theorem State.both_setRdata (e i m : Nat) : (s.setRdata w).both e i m = s.both e i m := (rfl)
theorem State.hscOdd_setRdata (o : Nat) : (s.setRdata w).hscOdd o = s.hscOdd o := (rfl)
theorem State.irqIn_setRdata (d : Dom) (b : Bool) : (s.setRdata w).irqIn d b = s.irqIn d b := (rfl)
theorem State.bit_setRdata (f : FRef) (n : Nat) : (s.setRdata w).bit f n = s.bit f n := (rfl)
theorem State.on_setRdata (f : FRef) : (s.setRdata w).on f = s.on f := (rfl)
theorem State.route_setRdata (n : Nat) : (s.setRdata w).route n = s.route n := (rfl)
theorem State.core_setRdata (c : Nat) : (s.setRdata w).core c = s.core c := (rfl)

theorem State.irq_setRdata (n : Nat) : (s.setRdata w).irq n = s.irq n := by
  simp only [State.irq, State.irqSys_setRdata, State.irqThm_setRdata, State.irqSeq_setRdata, State.irqMot_setRdata, State.irqVlv_setRdata,
    State.irqLux_setRdata, State.irqInp_setRdata, State.irqNet_setRdata, State.irqZsw_setRdata, State.irqEth_setRdata,
    State.irqTop_setRdata, State.blkIrq_setRdata, State.both_setRdata, State.hscOdd_setRdata, State.irqIn_setRdata, State.bit_setRdata,
    State.on_setRdata, State.fld_setRdata]
  rfl

theorem State.pendAt_setRdata (c p : Nat) : (s.setRdata w).pendAt c p = s.pendAt c p := by
  simp only [State.pendAt, State.route_setRdata, State.irq_setRdata]

end Rdata

/-! ### ICU_CLAIM (R575) -/

/-- The key of the claim register of a core. -/
def claimKey (c : CoreId) : Nat := 0x10000 * (c.num + 1) + 4

theorem claimKey_spec (c : CoreId) : busReg c.num 4 = some (claimKey c) ∧ (claimKey c ≠ rSEQ_MDATA ∧ claimKey c ≠ rMEM_NDATA)
    ∧ snapOf (claimKey c) = [] ∧ rcBits (claimKey c) = 0 ∧ freeBits (claimKey c) = []
    ∧ keyDom (claimKey c) = (if c = .s then .coreS else .coreA) := by
  cases c <;> decide +kernel

theorem State.claimed_setRdata (s : State) (c : Nat) (u w : Word) : ((s.setRdata u).claimed c).setRdata w = (s.claimed c).setRdata w := by
  unfold State.claimed
  rw [State.pendAt_setRdata, State.core_setRdata]
  cases s.pendAt c (s.core c).prio with
  | none => rfl
  | some n =>
    dsimp only
    split
    · rfl
    · rfl

theorem State.icuView_claim (s : State) (n : Nat) : s.icuView n 4 = [(17, 0, s.claimWord n)] := by
  rw [State.icuView, if_neg (by decide), if_pos rfl]

theorem State.computed_claim (s : State) (c : CoreId) : s.computed (claimKey c) = [(17, 0, s.claimWord c.num)] := by
  have ha : keyAddr (claimKey c) = 4 := Nat.mul_add_mod ..
  have hn : claimKey c / 65536 - 1 = c.num := by
    rw [claimKey]
    omega
  unfold State.computed
  rw [ha, hn]
  exact s.icuView_claim c.num

theorem State.view_claim (s : State) (c : CoreId) : s.view (claimKey c) =
    putBits (dropBits (s.reg (claimKey c)) (woBits (claimKey c))) 17 0 (s.claimWord c.num) := by
  obtain ⟨-, -, -, -, hfree, -⟩ := claimKey_spec c
  unfold State.view
  rw [hfree, s.computed_claim]
  rw [List.foldl_nil, List.foldl_cons, List.foldl_nil]

theorem State.view_claim_setRdata (s : State) (w : Word) (c : CoreId) : (s.setRdata w).view (claimKey c) = s.view (claimKey c) := by
  rw [State.view_claim, State.view_claim, State.claimWord, State.claimWord, State.pendAt_setRdata, State.core_setRdata]
  rfl

theorem State.Calm.readEff_claim {s : State} (hs : s.Calm) (c : CoreId) : s.readEff (claimKey c) = s.claimed c.num := by
  obtain ⟨-, -, -, hrc, hfree, -⟩ := claimKey_spec c
  have hdrop : dropBits (s.reg (claimKey c)) 0 = s.reg (claimKey c) := congrArg (s.reg (claimKey c) - ·) (Nat.and_zero _)
  have hk : claimKey c = 0x10000 * (c.num + 1) + 4 := rfl
  have h4 : claimKey c % 65536 = 4 := by omega
  have hn : claimKey c / 65536 - 1 = c.num := by omega
  have hlo : 0x10000 ≤ claimKey c := by omega
  unfold State.readEff
  rw [hrc, hdrop, hs.setReg_reg, decide_eq_true h4, State.when_true, decide_eq_false (by omega), State.when_false,
    decide_eq_false (by omega), State.when_false, decide_eq_false (by omega), State.when_false, hfree, decide_eq_false (not_not_intro rfl),
    State.when_false, hn]

theorem State.Calm.icuClaimRead_eq {s : State} (hs : s.Calm) (hd : s.domOn .coreS = true) (ha : s.domOn .coreA = true) (c : CoreId)
    (hsnap : smFind s.snap (claimKey c) = none) : exec (.icuClaimRead c) s =
      .next (((s.setRdata 0).claimed c.num).setRdata (toWord ((s.setRdata 0).view (claimKey c)))) := by
  obtain ⟨hbus, ⟨hmd, hnd⟩, hsn, -, -, hdom⟩ := claimKey_spec c
  have hon : (s.setRdata 0).domOn (keyDom (claimKey c)) = true := by
    rw [hdom]
    split
    · exact hd
    · exact ha
  have hlatch : s.latch (claimKey c) = s := by
    rw [State.latch, hsn]
    rfl
  have hval : s.readVal (claimKey c) = (s.setRdata 0).view (claimKey c) := by
    rw [State.readVal, hsnap, State.view_claim_setRdata]
  refine congrArg Host.Outcome.next ?_
  unfold State.ioRead State.atReg
  rw [hbus]
  dsimp only
  rw [if_pos hon, State.busLoad, if_neg hmd, if_neg hnd, hlatch, hs.readEff_claim, hval, State.claimed_setRdata]

/-! ### What the stores change, case by case -/

section Cases
variable {s : State} (hs : s.Calm) (c : CoreId)
include hs

section Ring
variable (hd : s.domOn .fabric = true) (r : Fin 64)
include hd

theorem State.Calm.ringEnable_of_off (h : s.on (RNG_RCFG_EN r) = false) :
    s.ioField c (RNG_RCFG_EN r) 1 = (s.setFld (RNG_RCFG_EN r) 1).ringEnable r := by
  refine (hs.ioField_EN c hd r true).trans ?_
  rw [h, if_pos (show (true && !false) = true from rfl), b2n, if_pos rfl]

theorem State.Calm.ringEnable_of_on (h : s.on (RNG_RCFG_EN r) = true) : s.ioField c (RNG_RCFG_EN r) 1 = s := by
  refine (hs.ioField_EN c hd r true).trans ?_
  rw [h, if_neg (show ¬ (true && !true) = true by decide), if_neg (show ¬ (!true && true) = true by decide), hs.setFld_on rfl h]

theorem State.Calm.ringDisable_of_on (h : s.on (RNG_RCFG_EN r) = true) :
    s.ioField c (RNG_RCFG_EN r) 0 = (s.setFld (RNG_RCFG_EN r) 0).ringDisable r := by
  refine (hs.ioField_EN c hd r false).trans ?_
  rw [h, if_neg (show ¬ (false && !true) = true by decide), if_pos (show (!false && true) = true from rfl), b2n, if_neg (by decide)]

theorem State.Calm.ringDisable_of_off (h : s.on (RNG_RCFG_EN r) = false) : s.ioField c (RNG_RCFG_EN r) 0 = s := by
  refine (hs.ioField_EN c hd r false).trans ?_
  rw [h, if_neg (show ¬ (false && !false) = true by decide), if_neg (show ¬ (!false && false) = true by decide), hs.setFld_on rfl h]

end Ring

section MacTable
variable (hd : s.domOn .zsw = true)
include hd

theorem State.Calm.lookup_eq : s.ioField c ZSW_MCMD_CMD 1 = macLookup s := hs.ioField_CMD c hd 1
theorem State.Calm.insert_eq : s.ioField c ZSW_MCMD_CMD 2 = macInsert s := hs.ioField_CMD c hd 2
theorem State.Calm.delete_eq : s.ioField c ZSW_MCMD_CMD 3 = macDelete s := hs.ioField_CMD c hd 3
theorem State.Calm.flushLearned_eq : s.ioField c ZSW_MCMD_CMD 4 = macFlushAll s := hs.ioField_CMD c hd 4
theorem State.Calm.flushLearnedOfPort_eq : s.ioField c ZSW_MCMD_CMD 5 = macFlushOne s := hs.ioField_CMD c hd 5

end MacTable

theorem State.Calm.confirm_same (hd : s.domOn .fawn = true) {b : Bool} (h : s.on FLT_IMCONF_REQ = b) :
    s.ioField c FLT_IMCONF_REQ (b2n b) = s := by
  rw [hs.ioField_CONF_REQ c hd, if_pos h.symm, hs.setFld_on rfl h]

theorem State.Calm.confirm_raised (hd : s.domOn .fawn = true) (h : s.on FLT_IMCONF_REQ = false) :
    s.ioField c FLT_IMCONF_REQ 1 = (s.setFld FLT_IMCONF_REQ 1).confirmReq true := by
  refine (hs.ioField_CONF_REQ c hd true).trans ?_
  rw [h, if_neg (by decide), b2n, if_pos rfl]

section HoldStores
variable (hd : s.domOn .fawn = true) (ha : s.domOn .coreA = true) (a : Fin 2)
include hd ha

theorem State.Calm.coreRelease_eq (h : s.on (ICU_ACTL_HOLD a) = true) (hr : (s.core a).run = .reset) :
    s.ioField .s (ICU_ACTL_HOLD a) 0 = (s.setFld (ICU_ACTL_HOLD a) 0).coreStart a := by
  refine (hs.ioField_HOLD hd a false).trans ?_
  rw [h, if_neg (by decide), b2n, if_neg (by decide), State.coreHold_of_release]
  · exact (s.domOn_setFld _ _ _).trans ha
  · rw [State.core_setFld, hr]

theorem State.Calm.coreReset_eq (h : s.on (ICU_ACTL_HOLD a) = false) (hr : (s.core a).run = .running) :
    s.ioField .s (ICU_ACTL_HOLD a) 1 = (s.setFld (ICU_ACTL_HOLD a) 1).setCore a { run := .reset } := by
  refine (hs.ioField_HOLD hd a true).trans ?_
  rw [h, if_neg (by decide), b2n, if_pos rfl, State.coreHold_of_running]
  · exact (s.domOn_setFld _ _ _).trans ha
  · rw [State.core_setFld, hr]

end HoldStores

section Brace
variable (hd : s.domOn .fabric = true)
include hd

theorem State.Calm.brcYield_eq : s.ioField .s (brcCommand 3) 1 = s.brYield 3 := by
  rw [hs.ioField_brc hd, decide_eq_true rfl, decide_eq_false (by decide), decide_eq_false (by decide), decide_eq_false (by decide),
    State.when_true, State.when_false, State.when_false, State.when_false]

theorem State.Calm.brcHandback_eq : s.ioField .s (brcCommand 2) 1 = s.brHandbackOut := by
  rw [hs.ioField_brc hd, decide_eq_false (show ¬ (2 : Fin 4) = 3 by decide), decide_eq_true (show (2 : Fin 4) = 2 from rfl),
    decide_eq_false (by decide), decide_eq_false (by decide), State.when_false, State.when_true, State.when_false, State.when_false]

theorem State.Calm.brcQuiet_eq : s.ioField .s (brcCommand 1) 1 = s.brQuietOut := by
  rw [hs.ioField_brc hd, decide_eq_false (show ¬ (1 : Fin 4) = 3 by decide), decide_eq_false (show ¬ (1 : Fin 4) = 2 by decide),
    decide_eq_true (show (1 : Fin 4) = 1 from rfl), decide_eq_false (by decide), State.when_false, State.when_false, State.when_true,
    State.when_false]

theorem State.Calm.brcWake_eq : s.ioField .s (brcCommand 0) 1 = s.brWake := by
  rw [hs.ioField_brc hd, decide_eq_false (show ¬ (0 : Fin 4) = 3 by decide), decide_eq_false (show ¬ (0 : Fin 4) = 2 by decide),
    decide_eq_false (show ¬ (0 : Fin 4) = 1 by decide), decide_eq_true rfl, State.when_false, State.when_false, State.when_false,
    State.when_true]

end Brace

end Cases

/-! ### The functions that the stores call, case by case -/

theorem macLookup_found {s : State} {e : ZMac} (h : s.macOf s.mVid s.mAddr = some e) : macLookup s =
    (((s.setFld ZSW_MRES_STATIC (b2n e.static)).setFld ZSW_MRES_PG (b2n e.pg)).setFld ZSW_MRES_MASK e.mask).setFld ZSW_MSTAT_RESULT 0 := by
  rw [macLookup, h]
  rfl

theorem macInsert_found {s : State} {e : ZMac} (h : s.macOf s.mVid s.mAddr = some e) : macInsert s =
    (s.setMacs (s.zsw.macs.map (fun y => if y = e then s.mEntry else y))).setFld ZSW_MSTAT_RESULT 0 := by
  rw [macInsert, h]
  rfl

theorem macDelete_found {s : State} {e : ZMac} (h : s.macOf s.mVid s.mAddr = some e) :
    macDelete s = (s.setMacs (s.zsw.macs.erase e)).setFld ZSW_MSTAT_RESULT 0 := by
  rw [macDelete, h]
  rfl

section Missing
variable {s : State} (h : s.macOf s.mVid s.mAddr = none)
include h

theorem macLookup_missing : macLookup s = s.setFld ZSW_MSTAT_RESULT 1 := by
  rw [macLookup, h]
  rfl

theorem macDelete_missing : macDelete s = s.setFld ZSW_MSTAT_RESULT 1 := by
  rw [macDelete, h]
  rfl

theorem macInsert_missing (hf : s.macFull s.mVid s.mAddr = false) :
    macInsert s = (s.setMacs (s.zsw.macs ++ [s.mEntry])).setFld ZSW_MSTAT_RESULT 0 := by
  rw [macInsert, h, hf]
  rfl

end Missing

theorem censusStart_of_none {s : State} (h : s.zsw.census = none) :
    censusStart s = (s.modZsw (fun z => { z with census := some (s.takeCensus none) })).setFld ZSW_AUDRES_RESULT 1 := by
  rw [censusStart, if_neg (by rw [h]; decide)]

theorem State.tc10Sleep_of_linked {s : State} {p : Nat} (h : s.tc10 p = 1) (hl : s.on (ETH_PSTAT_LINK p) = true) :
    s.tc10Sleep p = s.setTc10 p 2 := by
  rw [State.tc10Sleep, if_neg (not_not_intro h), if_pos hl]

theorem State.tc10Wake_of_sleep {s : State} {p : Nat} (h : s.tc10 p = 3) : s.tc10Wake p = s.setTc10 p 4 := by
  rw [State.tc10Wake, if_neg (by rw [h]; decide), State.tc10SendWup, if_pos h]

theorem State.confInact_of_installed {s : State} (hp : s.acc.pres ≠ none) (hi : s.img.sess = none) (hb : s.bankState s.inactive = 1) :
    s.confInact = s.bootProg s.inactive 1 := by
  rw [State.confInact, if_pos ⟨Option.isSome_iff_ne_none.mpr hp, hi, hb⟩]

/-- Settles O57: each command is the store of its one field, which a calm state takes; the field's effect is the command's. -/
theorem registerCommands : Obligations.RegisterCommands := by
  unfold Obligations.RegisterCommands
  intro s c r n w l v p x a t e req hwf hfab hact hnet hzsw hcs hca hfawn hph hcom hsnap
  have hs : s.Calm := ⟨hwf, hph, hcom, hsnap⟩
  have next {u v : State} (h : u = v) : Host.Outcome.next u = (.next v : Out State) := congrArg _ h
  refine ⟨?ringOff, ?ringOn, ?force, ?release, ?recover, ?can, ?lin, ?fenced, ?undeaf, ?join, ?cons, ?found, ?missing, ?flush, ?flushPort,
    ?census, ?awake, ?sleep, ?wake, ?abort, ?notMaster, ?master, ?close, ?noPresence, ?presence, ?confirmed, ?confirm, ?notS, ?yield,
    ?handback, ?quiet, ?braceWake, ?lbist, ?lbistCancel, ?swi, ?coreRelease, ?coreReset, ?test, ?mismatch, ?claim⟩
  case ringOff => exact fun h => ⟨next (hs.ringEnable_of_off c hfab r h), next (hs.ringDisable_of_off c hfab r h)⟩
  case ringOn => exact fun h => ⟨next (hs.ringDisable_of_on c hfab r h), next (hs.ringEnable_of_on c hfab r h)⟩
  case force => exact fun h => next (hs.ioField_FORCE c hact h rfl)
  case release => exact next (hs.limpRelease_eq c hact)
  case recover => exact next (hs.canRecover_eq c hnet n)
  case can =>
    intro hf hv
    refine next (Eq.trans ?_ (hs.ioField_CTC_REQ c hnet n v hf hv))
    rw [if_pos (show (n.castLE (by decide) : Fin 10).val < 6 from n.isLt)]
    rfl
  case lin =>
    intro hf h2 hv
    refine next (Eq.trans ?_ (hs.ioField_LCFG_REQ c hnet l v hf h2 hv))
    rw [if_neg (show ¬ (l.natAdd 6 : Fin 10).val < 6 from Nat.not_lt.mpr (Nat.le_add_right 6 l)),
      show (l.natAdd 6 : Fin 10).val - 6 = l.val from Nat.add_sub_cancel_left ..]
  case fenced =>
    intro hf hv
    refine next (Eq.trans ?_ (hs.ioField_CTC_REQ_fenced c hnet n v hf hv))
    rw [if_pos (show (n.castLE (by decide) : Fin 10).val < 6 from n.isLt)]
    rfl
  case undeaf => exact next (hs.undeafen_eq c hfawn w)
  case join => exact next (hs.herdJoin_eq c hnet)
  case cons => exact fun _ => next (hs.ioField_CONS c hnet)
  case found =>
    exact fun h => ⟨next ((hs.lookup_eq c hzsw).trans (macLookup_found h)), next ((hs.insert_eq c hzsw).trans (macInsert_found h)),
      next ((hs.delete_eq c hzsw).trans (macDelete_found h))⟩
  case missing =>
    exact fun h => ⟨next ((hs.lookup_eq c hzsw).trans (macLookup_missing h)), next ((hs.delete_eq c hzsw).trans (macDelete_missing h)),
      fun hf => next ((hs.insert_eq c hzsw).trans (macInsert_missing h hf))⟩
  case flush => exact next (hs.flushLearned_eq c hzsw)
  case flushPort => exact next (hs.flushLearnedOfPort_eq c hzsw)
  case census => exact fun h => next ((hs.censusStart_eq c hzsw).trans (censusStart_of_none h))
  case awake => exact fun h => next ((hs.tc10Sleep_eq c hfawn p).trans (if_pos h))
  case sleep => exact fun h hl => next ((hs.tc10Sleep_eq c hfawn p).trans (State.tc10Sleep_of_linked h hl))
  case wake => exact fun h => next ((hs.tc10Wake_eq c hfawn p).trans (State.tc10Wake_of_sleep h))
  case abort => exact fun h => next ((hs.tc10Wake_eq c hfawn p).trans (if_pos h))
  case notMaster => exact fun h => next ((hs.zoneTimeSet_eq c hzsw).trans (if_neg (Bool.eq_false_iff.mp h)))
  case master => exact fun h => next ((hs.zoneTimeSet_eq c hzsw).trans (if_pos h))
  case close => exact next ((hs.imClose_eq c hfab).trans (inDom_of_on hfab _))
  case noPresence => exact fun h => next (hs.ioField_CONFINACT_refused c hfab h)
  case presence =>
    exact fun hp hi hb => next (((hs.ioField_CONFINACT c hfab hp).trans (inDom_of_on hfab _)).trans (State.confInact_of_installed hp hi hb))
  case confirmed => exact fun h => next (hs.confirm_same c hfawn h)
  case confirm => exact fun h => next (hs.confirm_raised c hfawn h)
  case notS =>
    exact fun h => ⟨next (hs.ioField_brc_refused c hfab h 3), next (hs.ioField_brc_refused c hfab h 2),
      next (hs.ioField_brc_refused c hfab h 1), next (hs.ioField_brc_refused c hfab h 0)⟩
  case yield => exact next (hs.brcYield_eq hfab)
  case handback => exact next (hs.brcHandback_eq hfab)
  case quiet => exact next (hs.brcQuiet_eq hfab)
  case braceWake => exact next (hs.brcWake_eq hfab)
  case lbist => exact hs.lbistStart_eq hcs t
  case lbistCancel => exact hs.lbistCancel_eq hcs t
  case swi => exact next (hs.ioField_SWI c hcs x)
  case coreRelease => exact fun h hr => next (hs.coreRelease_eq hfawn hca a h hr)
  case coreReset => exact fun h hr => next (hs.coreReset_eq hfawn hca a h hr)
  case test => exact next (hs.lockstepTest_eq hcs)
  case mismatch => exact next (inDom_of_on hcs _)
  case claim => exact fun h => hs.icuClaimRead_eq hcs hca c h

end Sys2Proof.Machine
end
